-- ==== Sys2Proof/Word.lean ====
section
/-!
DEFINITION. The word types of the device and their plainest arithmetic. Registers are 32-bit words, little-endian,
bit 0 least significant (R3); octets are bytes; tide time is a 64-bit word (R81).
-/

namespace Sys2Proof

/-- A 32-bit register or memory word. -/
abbrev Word := BitVec 32

/-- One octet. -/
abbrev Byte := BitVec 8

/-- A 64-bit tide time or counter. -/
abbrev Word64 := BitVec 64

end Sys2Proof
end

