-- ==== Sys2Proof/Syntax.lean ====
section
/-!
DEFINITION. The commands of the block: one constructor for each row of the table of operations and events
(spec/opcode_table.json), with the operands the row's step has: who accesses what, which index it concerns, what the
air, the ring, the host or the physical world delivered at that moment. In the table's order, but for thirty commands
without operands that stand last: compiled code keeps data only under a constructor whose number is below 245.
-/

namespace Sys2Proof

/-- A bus master (Table ARCH-4): the cores, the host port and the debug port. -/
inductive Master where
  | cpu0
  | cpu1
  | host
  | debug
  deriving DecidableEq, Repr

/-- The width of a bus access (R3). -/
inductive AccessSize where
  | byte
  | half
  | word
  deriving DecidableEq, Repr

/-- The two caches of a core (R466). -/
inductive CacheSide where
  | instr
  | data
  deriving DecidableEq, Repr

/-- A core's read that missed in a cache and fills a line of it; `parity`: the lookup found a parity error (R472 to R474). -/
structure CacheUse where
  side : CacheSide
  parity : Bool
  deriving DecidableEq, Repr

/-- A number of a lane: 0 is LANE A, 1 is LANE B. -/
abbrev Lane := Fin 2

/-- One recorded step of a Channel Sounding procedure (R371 to R373): step mode, channel, paths and status, RSSI, the
FOFS or ToA - ToD value, and the 24 or 26 bits of each tone of a mode-2 step. -/
structure CsRecord where
  mode : Nat
  chan : Nat
  pathStatus : Nat
  rssi : Nat
  value : Nat
  tones : List Nat
  deriving DecidableEq, Repr


/-- An edge that a core's own instruction delivers: its event-signal instruction, its entry to wait-for-interrupt. -/
inductive CoreEvent where
  | sev (x : Fin 2)
  | wait (x : Fin 2)
  deriving DecidableEq, Repr

/-- What requests a rake pass (R486): a register write, the task, the end of a period. -/
inductive RakeCause where
  | write
  | task
  | period
  deriving DecidableEq, Repr

/-- A wake source (Table PWR-5): a core interrupt, TK_PMU_WAKEn, a pad, WAKE_DEEPALM, a tamper response. -/
inductive WakeSource where
  | irq
  | task (n : Fin 4)
  | pad (p : Fin 64)
  | alarm
  | tamper
  deriving DecidableEq, Repr


/-- A command: one indivisible step of the device. -/
inductive Instr where
  /-- REGISTER_WRITE (R5). A bus write to a register that has no row of its own takes effect according to its access class. -/
  | registerWrite (master : Master) (addr : Word) (size : AccessSize) (value : Word)
  /-- RC_REGISTER_READ (R5). A read of an RC register returns its value and then clears it, with a same-cycle increment leaving 1. -/
  | rcRegisterRead (master : Master) (addr : Word) (size : AccessSize) (fill : Option CacheUse)
  /-- CLKCFG_WRITE (R17). A write to SYSCFG_CLKCFG sets the dividers and PLLEN, is ignored whole if the bus clock would exceed 64 MHz, and switches back to RC64 when PLLEN is cleared. -/
  | clkcfgWrite (value : Word)
  /-- PLL_LOCK (R629). The PLL locks after PLLEN = 1, the CPU island switches to 128 MHz at a cycle boundary and PLLLOCK becomes 1. -/
  | pllLock
  /-- BACKGROUND_STEP_RESTART (R26). A yielded background step restarts from its beginning once the resource is free again. -/
  | backgroundStepRestart (activity : Fin 8)
  /-- BOOT_SEQUENCE (R562). After a system or full reset the boot ROM recovers flash, reads the information area, evaluates failed starts, checks a slot and its saltern image, and branches to firmware or enters dry-pan mode. -/
  | bootSequence (ticks : Word)
  /-- SALTCMT_COMMIT (R69). Writing SYSCFG_SALTCMT with key 0x5A17 in BLANK or PROVISION commits the directly written cells as they stand. -/
  | saltcmtCommit
  /-- PATCH_START (R71). Writing PATCHCTL.START runs the patch loader over the patch image with the patch checks, or sets RESULT 0x0835 if busy or pending. -/
  | patchStart (mode : Fin 4)
  /-- PATCH_LOAD_DONE (R73). The patch loader ends, writing shadow cells that become active at once with MODE 0 or set PENDING with MODE 1, and fires EV_SYSCFG_PATCHDONE. -/
  | patchLoadDone
  /-- PATCH_DISCARD (R76). Writing MODE = 2 while a patch is pending discards the shadow cells and sets RESULT 0x0835. -/
  | patchDiscard
  /-- PATCH_COMMIT_TASK (R74). A firing of TK_SYSCFG_COMMIT activates the pending shadow cells in one cycle, or refuses the whole commit with 0x0831 if a lane retired meanwhile. -/
  | patchCommitTask
  /-- CFGCHK_PASS_START (R78). Every PERIOD ms while the AON island runs at 32 MHz a full check pass over the configuration cell groups begins. -/
  | cfgchkPassStart
  /-- CFGCHK_GROUP_STEP (R78). The check engine recomputes one 32-word group and, on a mismatch, starts a reload of the whole record. -/
  | cfgchkGroupStep (taken : Bool) (recomputed : BitVec 16)
  /-- CONFIG_RELOAD_DONE (R78). A reloaded record is verified and committed as by MODE 0, and the mismatch counters, CFGLAST and EV_SYSCFG_CFGFIX are updated. -/
  | configReloadDone
  /-- TIDE_NOWLO_READ (R85). Reading TIDE_NOWLO latches the matching upper word into TIDE_NOWHI. -/
  | tideNowloRead
  /-- TIDE_CAPTURE (R86). A firing of TK_TIDE_CAPk stores TIDE_NOW at the next AON cycle into TIDE_CAPLO[k] and TIDE_CAPHI[k]. -/
  | tideCapture (k : Fin 4)
  /-- LFINC_MEASURE (R88). After 1024 LF cycles at 32 MHz the tide clock measures the LF crystal against TIDE_NOW and updates TIDE_LFINC. -/
  | lfincMeasure (ticks1024 : Nat)
  /-- D1_POWER_UP (R90). At D1 power-up tide time is restored from a valid D0 snapshot or set to zero, and TIDE, gates, calibration store, buckets and lifetime counters are rebuilt. -/
  | d1PowerUp
  /-- SRCSEL_WRITE (R628). A write that changes TIDE_CFG.SRCSEL sets stratum, parent and holdover at the next AON cycle and restarts the HOLDMAX count. -/
  | srcselWrite (value : Word)
  /-- TIDE_ADJ_WRITE (R84). A write to TIDE_ADJ while root or unsynchronised steps TIDE_NOW whole at an AON cycle and increments STEPEPOCH. -/
  | tideAdjWrite (delta : Word)
  /-- SLEW_END (R103). A slew ends after 2^SLEWK ticks and its slew term returns to zero. -/
  | slewEnd
  /-- PARENT_LOSS_TIMEOUT (R100). Without a parent frame for PLOSS seconds the parent is lost, PVALID is cleared and HOLDOVER is set. -/
  | parentLossTimeout
  /-- HOLDMAX_EXPIRY (R100). After HOLDMAX seconds without an applied source frame, STRATUM becomes 15, LOST is set and EV_TIDE_LOST fires. -/
  | holdmaxExpiry
  /-- RX_WINDOW_CLOSE (R112). A receive window closes without a sync reference point from the expected partner, and MISSES increments. -/
  | rxWindowClose (act : Nat)
  /-- GATE_FIRE (R113). An enabled gate reaches T, fires its sluice, and is cleared or advanced by PER. -/
  | gateFire (gate : Fin 32)
  /-- GATE_REGISTER_WRITE (R119). A write to a gate register takes effect at one AON edge, is ignored for T and PER while EN = 1, and arms, disarms or releases the gate. -/
  | gateRegisterWrite (gate : Fin 32) (reg : Fin 4) (value : Word)
  /-- GATE_WAKE_REQUEST (R116). At T minus TIDE_WAKELEAD a WAKE gate asks the PMU to start the HF crystal. -/
  | gateWakeRequest (gate : Fin 32)
  /-- XTAL_FAIL_DETECT (R121). The monitor detects a failed HF crystal, switches the islands to RC64, ends lane activities and starts the RC64 procedure. -/
  | xtalFailDetect
  /-- RC64_MEASURE (R205). A 1024-LF-cycle RC64 measurement ends and sets TRIM or loads the residual into TIDE_RATE, RF_REFCORR and RESID. -/
  | rc64Measure (counts : BitVec 32) (resid : BitVec 8)
  /-- DISCIPLINE_TIMEOUT (R124). Without a discipline measurement for PLOSS seconds RESID rises to at least 20 ppm and CLKSRC may return to 0b00. -/
  | disciplineTimeout
  /-- XTAL_RETURN (R125). Writing RETURN while XTALOK = 1 switches the islands back to the crystal at the next tick without a step. -/
  | xtalReturn (difference : Int)
  /-- SLUICE_INPUT_EDGE (R132). An input edge reaches a sluice and starts a firing, joins one in flight, or sets or merges the pending state. -/
  | sluiceInputEdge (core : Option CoreEvent)
  /-- FIRING_BOUNDARY (R129). A firing reaches the consumer boundaries 24 ns after its edge, sets its flag, is taken by the ring port and starts the bound tasks. -/
  | firingBoundary (sluice : Fin 256)
  /-- FIRING_END (R132). The last acknowledgement arrives, the firing ends and a pending sluice fires once more. -/
  | firingEnd (sluice : Fin 256)
  /-- FABRIC_FIRE_WRITE (R138). A write to FABRIC_FIRE fires each selected sluice with SWFIRE = 1, and otherwise sets SWREJ or QFIRE. -/
  | fabricFireWrite (m : Fin 8) (value : Word)
  /-- FABRIC_QUAR_RELEASE (R143). Writing 1 to a FABRIC_QUAR bit releases that sluice and clears its governor history. -/
  | fabricQuarRelease (m : Fin 8) (value : Word)
  /-- FABRIC_RELEASEALL (R143). A firing of TK_FABRIC_RELEASEALL releases every quarantined sluice. -/
  | fabricReleaseall
  /-- PORTMAP_WRITE (R148). A write to RF_PORTMAP is checked and switches ports at once or waits with PENDING while affected chains are in RX or TX. -/
  | portmapWrite (value : Word)
  /-- PORTMAP_SWITCH (R149). A waiting port change switches all its ports together once no affected chain is in RX or TX. -/
  | portmapSwitch
  /-- PORT_SETTLED (R149). A port switch settles after 1 µs and the affected lane may enter RX or TX. -/
  | portSettled (lane : Lane)
  /-- LANE_OWNER_WRITE (R152). A write that changes LANE_CTL.OWNER takes effect only in SLEEP or STANDBY, and otherwise sets CMDREJ. -/
  | laneOwnerWrite (lane : Lane) (software : Bool)
  /-- LANE_SLEEP (R152). The stepwise SLEEP command moves the lane towards SLEEP, or is rejected while OWNER = 0. -/
  | laneSleep (lane : Lane) (byTask : Bool)
  /-- LANE_STANDBY (R153). The stepwise STANDBY command moves the lane to STANDBY. -/
  | laneStandby (lane : Lane) (byTask : Bool)
  /-- LANE_SYNTH (R153). The stepwise SYNTH command locks the synthesiser from stored calibration or, with CALMODE = 1, with a full VCO calibration. -/
  | laneSynth (lane : Lane) (byTask : Bool) (calmode : Bool)
  /-- LANE_RX (R155). The stepwise RX command brings the receiver up under the clamps, LBT and reference rules. -/
  | laneRx (lane : Lane) (byTask : Bool)
  /-- LANE_TX (R155). The stepwise TX command starts a transmission as soon as its transition ends, subject to every clamp and refusal. -/
  | laneTx (lane : Lane) (byTask : Bool) (mode : Fin 5)
  /-- LANE_ABORT (R152). The stepwise ABORT command returns the lane to STANDBY, or is rejected while OWNER = 0. -/
  | laneAbort (lane : Lane) (byTask : Bool)
  /-- LANE_TRANSITION_DONE (R153). A stepwise transition completes after its time and fires its event. -/
  | laneTransitionDone (lane : Lane) (supply : BitVec 16) (calResult : Word) (calFault : Bool)
  /-- SYNTH_LOCK_TIMEOUT (R154). Without lock within 100 µs the lane returns to STANDBY with 0x0102 and LOCKFAIL. -/
  | synthLockTimeout (lane : Lane)
  /-- STEPWISE_DWELL_EXPIRY (R171). A stepwise TX that reaches DWELL is ramped down and ended with 0x0303. -/
  | stepwiseDwellExpiry (lane : Lane)
  /-- STEPWISE_DUTY_EXHAUST (R349). A stepwise TX whose duty credit reaches 0 is ramped down and ended with 0x0301. -/
  | stepwiseDutyExhaust (lane : Lane)
  /-- PA_FAULT (R166). PA current or temperature passes its limit, the PA ramps down and the activity ends with 0x0103. -/
  | paFault (lane : Lane)
  /-- LBT_LISTEN_END (R172). The LBT listen period ends and the rounded mean power refuses the launch with 0x0304 or lets it proceed. -/
  | lbtListenEnd (lane : Lane) (mean : Int)
  /-- SWTIGHT_WRITE (R169). A write to RF_SWTIGHT or RF_SWTIGHT2 changes only fields that tighten, and otherwise sets TIGHTREJ. -/
  | swtightWrite (k : Fin 8) (second : Bool) (value : Word)
  /-- RF_PAIR_WRITE (R177). A write to RF_PAIR requests or ends diversity pairing and selects the transmit lane. -/
  | rfPairWrite (value : Word)
  /-- HEALTH_PERIOD (R179). A HEALTHPER period begins, abandoning an unfinished test and starting a new health test. -/
  | healthPeriod (lane : Lane)
  /-- LANE_HEALTHREQ (R179). A write of HEALTHREQ or a firing of TK_LANEx_HEALTH starts a health test. -/
  | laneHealthreq (lane : Lane) (byTask : Bool)
  /-- HEALTH_STEP_DONE (R180). A health test step completes, and the test repeats, passes or fails. -/
  | healthStepDone (lane : Lane) (pass : Bool)
  /-- LANE_RETIRE (R182). A write of LANE_CTL.RETIRE retires the lane unless the other lane is already retired. -/
  | laneRetire (lane : Lane)
  /-- LANE_TAKEOVER (R183). Within 1 ms of retirement the surviving lane adds its TAKEOVER roles and the link controller reassigns work to it. -/
  | laneTakeover (lane : Lane)
  /-- LANE_RESTORE (R185). A write of LANE_CTL.RESTORE after a passed test requests the return of roles, or sets CMDREJ. -/
  | laneRestore (lane : Lane)
  /-- LANE_ROLES_RETURN (R185). The roles return to both lanes when neither has an activity in progress, or at 1 ms, and EV_LANEx_RESTORED fires. -/
  | laneRolesReturn (lane : Lane)
  /-- LANE_TEMP_SAMPLE (R194). Every 10 ms the lane samples its temperature and evaluates staleness for all calibration entries. -/
  | laneTempSample (lane : Lane) (temp : BitVec 8) (parityBad : BitVec 17) (upset : BitVec 17)
  /-- CALREQ_WRITE (R193). A write to LANE_CALREQ marks the selected entries stale and releases held entries. -/
  | calreqWrite (lane : Lane) (value : Word)
  /-- LANE_CAL_TASK (R193). A firing of TK_LANEx_CAL marks all 17 entries stale. -/
  | laneCalTask (lane : Lane)
  /-- CAL_STEP_START (R196). The calibration engine starts a step on an idle lane for the next stale entry, resuming or restarting a yielded calibration. -/
  | calStepStart (lane : Lane)
  /-- CAL_STEP_DONE (R198). A calibration step of at most 2 µs completes, and the last step writes or fails the entry. -/
  | calStepDone (lane : Lane) (result : Word) (fault : Bool)
  /-- CAL_RETRY_TIMER (R202). One second after a failure the engine may retry the entry. -/
  | calRetryTimer (lane : Lane) (entry : Fin 17)
  /-- XTRIM_WRITE (R203). A write to RF_XTRIM on the crystal takes effect at the next tick with a compensating TIDE_RATE change, or is refused. -/
  | xtrimWrite (value : Word)
  /-- RC64_TRACK (R204). Every PERIOD seconds the tracker measures RC64 against the crystal and moves TRIM by one code if needed. -/
  | rc64Track (ppm : Int)
  /-- SLOTINV_WRITE (R241). A write to MODEM_SLOTINV invalidates the selected receive slots at once. -/
  | slotinvWrite (value : Word)
  /-- PANCFG_WRITE (R251). A pan configuration write is checked and enables or refuses the pan, ending a frame in progress with 0x0156. -/
  | pancfgWrite (byLink : Bool) (pan : Fin 16) (value : Word)
  /-- PANSTOP (R255). A firing of TK_MODEM_PANSTOPn ends the pan's frame with 0x0156 and stops the pan. -/
  | panstop (pan : Fin 16)
  /-- WBSNAP (R283). A firing of TK_MODEM_WBSNAP latches both lanes' wideband power into MODEM_WBRSSI. -/
  | wbsnap (powerA : BitVec 8) (powerB : BitVec 8)
  /-- AGC_BLOCK (R257). After each 16-sample block the lane updates its gain code or applies an overload step while frozen. -/
  | agcBlock (lane : Lane) (power : Int) (clips : Nat)
  /-- PAN_DETECT (R260). A pan's metric meets DETTHR for 8 samples, the pan detects a frame, freezes gain and opens a sync window. -/
  | panDetect (pan : Fin 16) (power : Int)
  /-- PAN_SYNC (R262). An LTS peak confirms the detection, giving the sync reference point, timestamp and RSSI. -/
  | panSync (pan : Fin 16) (ago : BitVec 16) (rssi : BitVec 8) (rssi2 : BitVec 8) (leSnr : BitVec 8) (lts : Fin 64)
      (cfo : Int) (aa : BitVec 32)
  /-- SYNC_WINDOW_CLOSE (R262). The sync window closes without a confirming peak, the detection counts as false and the pan resumes. -/
  | syncWindowClose (pan : Fin 16) (heldAlive : Bool)
  /-- HUNTER_DETECT (R263). The hunter reports a new detection, which replaces, captures, is held or counts as hidden. -/
  | hunterDetect (pan : Fin 16) (power : Int)
  /-- HEADER_DECISION (R265). The pan decodes the header and either continues, or ends the frame for a failed CRC or an invalid header or slot. -/
  | headerDecision (pan : Fin 16) (header : BitVec 48) (sts2Inverted : Bool) (snr : BitVec 8) (heldAlive : Bool)
  /-- RX_FRAME_END (R280). A frame ends, its status record completes and enters the status queue or PANLAST, and EV_MODEM_RXEND fires. -/
  | rxFrameEnd (pan : Fin 16) (fofs : BitVec 32) (corrbits : BitVec 16) (powers : List (Nat × Nat)) (octets : List Byte)
  /-- AFC_APPLY (R271). A new AFC value reaches the synthesiser when no pan is inside a frame and the lane is not transmitting. -/
  | afcApply (lane : Lane)
  /-- PANLAST_READ (R282). A read of MODEM_PANLAST word 0 latches words 1 to 7 of the same record. -/
  | panlastRead (pan : Fin 16)
  /-- ACCEPT_FRAME (R298). The link controller takes a queued OML record through format, address, key, MIC, window, tide and replay checks and delivers, forwards, acknowledges or drops it. -/
  | acceptFrame (boundary : Nat) (keyCheckFails : Bool) (supply : Nat)
  /-- IMMEDIATE_ACK_LAUNCH (R299). The ack leaves at the 16 µs turn-round with its ASTAT, FCECHO and profile, or the preset is abandoned. -/
  | immediateAckLaunch (lane : Lane) (supply : Nat)
  /-- ACK_RECEIVED (R308). A received ack is checked against the sent frame and completes it, applying any profile and propagation update. -/
  | ackReceived
  /-- ACK_WINDOW_CLOSE (R332). An ack window closes without an accepted ack, scheduling a retransmission or ending the frame with 0x0230. -/
  | ackWindowClose (act : Nat)
  /-- RETRY_TIMER (R332). RETRYGAP after the ack window a frame is retransmitted as a new launch with its FCNT. -/
  | retryTimer (act : Nat) (boundary : Nat) (keyCheckFails : Bool)
  /-- NETKEY_WRITE (R311). A write to LINK_NETKEY that changes HANDLE clears TXVALID and EXH and invalidates cache entries of that KID. -/
  | netkeyWrite (k : Fin 16) (value : Word)
  /-- NETCTR_WRITE (R297). A write to LINK_NETCTR sets the next counter and TXVALID. -/
  | netctrWrite (k : Fin 16) (value : Word)
  /-- CTX_OPEN (R317). The OPEN operation checks partition, key range and partner and opens the context with no history. -/
  | ctxOpen (ctx : Fin 512)
  /-- CTX_CLOSE (R317). The CLOSE operation ends the link and refuses or ends activities naming the context. -/
  | ctxClose (ctx : Fin 512)
  /-- CTX_REKEY (R317). The REKEY operation writes KEYH and resets the transmit counter and replay state. -/
  | ctxRekey (ctx : Fin 512)
  /-- CTX_SETPWR (R317). The SETPWR operation writes PWR and invalidates the table on a lower value. -/
  | ctxSetpwr (ctx : Fin 512)
  /-- CTX_SETMAP (R342). The SETMAP operation stages a channel map for the instant, or is refused with 0x0242. -/
  | ctxSetmap (ctx : Fin 512)
  /-- CTX_CONNECT (R339). The CONNECT operation sets CONN with the next event at CEANCHOR. -/
  | ctxConnect (ctx : Fin 512)
  /-- CTX_DISCONNECT (R341). The DISCONNECT operation ends the connected link with 0x0222. -/
  | ctxDisconnect (ctx : Fin 512)
  /-- CTX_MEMORY_WRITE (R318). A shared-port write to an open context's protected offsets is ignored and sets CTXWR. -/
  | ctxMemoryWrite (ctx : Fin 512) (offset : Fin 128) (size : AccessSize) (value : Word)
  /-- TL_ARM (R322). OP = ARM or a firing of TK_LINK_ARMn arms a timeline entry, or refuses it with 0x0211. -/
  | tlArm (entry : Fin 64) (byTask : Bool)
  /-- TL_CANCEL (R322). OP = CANCEL cancels an entry, ending a running reception with 0x0222. -/
  | tlCancel (entry : Fin 64)
  /-- TL_PRESENT (R323). At TLAUNCH minus LEAD and L the link controller presents an activity to a lane after role, conflict, sub-band, dwell, duty and key checks. -/
  | tlPresent (entry : Fin 64) (boundary : Nat) (keyCheckFails : Bool)
  /-- ACTIVITY_LAUNCH (R321). An activity launches at its tide time, debiting duty, taking FCNT and clamping power. -/
  | activityLaunch (act : Nat) (supply : Nat) (csSteps : List CsRecord) (csCut : Bool)
  /-- ACTIVITY_END (R324). An activity ends, its entry is cleared or advanced, RESULT is written and EV_LINK_TLDONE fires. -/
  | activityEnd (act : Nat) (delivered : BitVec 8)
  /-- RXQ_POP (R334). A write to LINK_RXQPOP releases the oldest receive queue entry and its cells. -/
  | rxqPop (value : Word)
  /-- DACK_TIMEOUT (R337). DACKTO after its first bit a deferred-ack entry is sent as a block-ack. -/
  | dackTimeout (k : Fin 16) (boundary : Nat) (keyCheckFails : Bool)
  /-- SUPERVISION_TIMEOUT (R341). TIDE_NOW passes SUPDL and the connection ends with 0x0240. -/
  | supervisionTimeout (ctx : Fin 512)
  /-- FORWARD_LAUNCH (R345). A forwarded frame launches 48 µs or 240 µs after the received frame or its ack. -/
  | forwardLaunch (q : Fin 8) (boundary : Nat) (supply : Nat) (keyCheckFails : Bool)
  /-- TRACESTOP (R353). A firing of TK_LINK_TRACESTOP clears trace EN after the entry in progress. -/
  | tracestop
  /-- CONNECT_REQ_RECEIVED (R362). A connection request to the advertiser opens the CONNCTX context and arms CONNTL, or is ignored. -/
  | connectReqReceived (supply : Nat)
  /-- LE_PUSH (R366). A write to LINK_LEPUSH queues a transmit descriptor to a class 2 context, or is refused. -/
  | lePush (value : Word)
  /-- LE_STAGE_CONN_UPDATE (R367). LESTAGE OP 1 stages a connection update for the instant, or refuses it with 0x0242. -/
  | leStageConnUpdate (ctx : Fin 512)
  /-- LE_STAGE_CHMAP (R367). LESTAGE OP 2 stages a channel map for the instant. -/
  | leStageChmap (ctx : Fin 512)
  /-- LE_STAGE_PHY (R367). LESTAGE OP 3 stages a PHY update for the instant. -/
  | leStagePhy (ctx : Fin 512)
  /-- RING_LOCK (R382). A device locks within 16 characters when a valid signal returns on TIDE_IN. -/
  | ringLock
  /-- RING_LOS (R382). After 64 characters without valid input LOS is set, 0x0901 recorded and EV_RING_LOS fires. -/
  | ringLos
  /-- RING_CYCLE_START (R384). The master starts a 20 µs cycle with its TIME message at T_c. -/
  | ringCycleStart
  /-- RING_TIME_MSG (R388). A received TIME message is forwarded with HOPS and ACC updated and applied to rate, stratum and phase. -/
  | ringTimeMsg (octets : List Byte) (ts : BitVec 64)
  /-- RING_EVENT_MSG (R394). A member fills its EVENT slot with collected ring sluices, and the master ORs valid slots into EVSUM. -/
  | ringEventMsg (slot : Fin 8) (octets : List Byte)
  /-- RING_SLUICE_FIRE (R396). At T_(c+1) plus 192 ticks a receiving member fires the local sluice mapped to each EVSUM bit. -/
  | ringSluiceFire
  /-- RING_DATA_MSG (R400). A received DATA message is relayed or stored in a receive mailbox, or dropped as full or invalid. -/
  | ringDataMsg (octets : List Byte)
  /-- RING_MBSEND (R399). A write to RING_MBSEND marks a transmit slot pending for its destination. -/
  | ringMbsend (value : Word)
  /-- RING_DATA_WINDOW (R398). In an owned DATA window the device sends its lowest pending slot, clears PEND and fires EV_RING_MBTX. -/
  | ringDataWindow
  /-- SURVEY_START (R391). The master starts a survey on SURVEY write, TK_RING_SURVEY, start or a change of HOPS or loop delay. -/
  | surveyStart (byTask : Bool)
  /-- SURVEY_STEP (R392). One segment's probe echo is measured and SEGDLY set, and the last step completes or fails the survey. -/
  | surveyStep (seg : Fin 8) (echo : BitVec 32)
  /-- SURVEY_PROBE_TIMEOUT (R393). A probe that does not return within 4 µs fails the survey with 0x0906. -/
  | surveyProbeTimeout
  /-- SURVEY_RETRY (R393). GAPPER ms after a failed survey the master repeats it. -/
  | surveyRetry
  /-- RING_JOIN (R402). A seeking node opens its bypass in a join gap and becomes a member. -/
  | ringJoin
  /-- RING_MASTER_LISTEN_END (R403). After 8 cycles a master opens its bypass and starts cycles, or records 0x0905 if another master was heard. -/
  | ringMasterListenEnd
  /-- RING_BROKEN_TIMEOUT (R405). No TIME message returns for 8 cycles, the master records 0x0902, sets BROKEN and clears SURVEYED. -/
  | ringBrokenTimeout
  /-- RING_LEAVE (R378). A firing of TK_RING_LEAVE closes the bypass until EN is written again. -/
  | ringLeave
  /-- LINK_CIPHER_REQUEST (R410). The link controller requests one AES-128 block, which starts at the next core boundary. -/
  | linkCipherRequest
  /-- AES_BLOCK_END (R408). A core ends its block and is granted to the oldest waiting request by class, or to a self-test step. -/
  | aesBlockEnd (core : Fin 4) (pass : Bool) (keyCheckFails : Bool)
  /-- CIPHER_QTAIL_WRITE (R420). A write to CIPHER_QTAIL makes descriptors pending under the writer's block identifier. -/
  | cipherQtailWrite (q : Fin 2) (master : Master) (value : Word) (keyCheckFails : Bool)
  /-- CIPHER_FLUSH (R421). Writing FLUSHq ends the job at its next block boundary and marks pending descriptors 0x0405. -/
  | cipherFlush (q : Fin 2)
  /-- KEYCLR_WRITE (R415). A write to CIPHER_KEYCLR zeroes the selected key register sets. -/
  | keyclrWrite (value : Word)
  /-- CIPHER_SELFTEST_START (R422). Every PERIOD ms, at TK_CIPHER_SELFTEST or after D11 power-up, each core in service begins its self-test. -/
  | cipherSelftestStart (byTask : Bool)
  /-- CIPHER_RESTORE (R425). Writing a RESTORE bit tests a retired core and returns it to service if it passes. -/
  | cipherRestore (cores : BitVec 4)
  /-- PKE_CLAIM_WRITE (R426). A write to PKE_CLAIM claims PKE for the writer or releases it, clearing operand RAM. -/
  | pkeClaimWrite (master : Master) (claim : Bool)
  /-- PKE_KEYGEN (R428). OP 1 draws an ephemeral key and computes its public point. -/
  | pkeKeygen (master : Master) (cmd : Word) (keyCheckFails : Bool)
  /-- PKE_ECDH (R429). OP 2 validates the peer point and computes the shared X coordinate, or imports it into the key store. -/
  | pkeEcdh (master : Master) (cmd : Word) (keyCheckFails : Bool)
  /-- PKE_SIGN (R428). OP 3 signs digest E with a per-signature k from the DRBG. -/
  | pkeSign (master : Master) (cmd : Word) (keyCheckFails : Bool)
  /-- PKE_VERIFY (R428). OP 4 verifies an ECDSA signature. -/
  | pkeVerify (master : Master) (cmd : Word) (keyCheckFails : Bool)
  /-- PKE_VALIDATE (R428). OP 5 checks that a point lies on P-256. -/
  | pkeValidate (master : Master) (cmd : Word) (keyCheckFails : Bool)
  /-- PKE_OP_DONE (R428). A PKE operation ends after its fixed time, writes its outputs and code and fires EV_PKE_DONE. -/
  | pkeOpDone
  /-- SHA_INIT (R430). Writing PKE_SHACTL.INIT starts a SHA-256 digest. -/
  | shaInit (master : Master)
  /-- SHA_DATA (R430). A write to PKE_SHADATA adds four octets to the digest. -/
  | shaData (master : Master) (value : Word)
  /-- SHA_FINAL (R430). Writing FINAL pads the message and starts the last blocks. -/
  | shaFinal (master : Master) (valid : Fin 4)
  /-- SHA_DONE (R430). The digest appears in PKE_DIGEST and EV_PKE_SHADONE fires. -/
  | shaDone
  /-- TRNG_DATA_READ (R433). A read of TRNG_DATA pops the oldest FIFO word, or returns zero and sets UNDERRUN. -/
  | trngDataRead
  /-- TRNG_HEALTH_FAIL (R434). A failed health test stops the source, uninstantiates the DRBG and fires EV_TRNG_FAIL. -/
  | trngHealthFail (adaptive : Bool)
  /-- TRNG_RESTART (R434). A write of TRNG_CTL.RESTART starts a new entropy start-up. -/
  | trngRestart
  /-- TRNG_READY (R432). The start-up ends, READY is set, EV_TRNG_READY fires and waiting consumers resume. -/
  | trngReady
  /-- DRBG_RESEED (R432). The DRBG reseeds after RESEED generate requests or at TK_TRNG_RESEED. -/
  | drbgReseed (byTask : Bool)
  /-- KEY_ADMIT (R442). The key store admits or refuses a handle request against state, masters, operations, type, time and uses. -/
  | keyAdmit (slot : Fin 256) (masters : BitVec 5) (op : Fin 8) (types : BitVec 8) (block : BitVec 5) (checkFails : Bool)
  /-- KEY_DERIVE (R446). The DERIVE command creates a slot by KDF from its parent. -/
  | keyDerive (master : Master) (slot : Fin 256) (checkFails : Bool)
  /-- KEY_IMPORT (R447). The IMPORT command unwraps a CCM blob from job RAM into a new slot. -/
  | keyImport (master : Master) (slot : Fin 256) (arg : BitVec 16) (checkFails : Bool)
  /-- KEY_INVALIDATE (R451). The INVALIDATE command marks a slot DEAD and ends when the sweep ends. -/
  | keyInvalidate (master : Master) (slot : Fin 256)
  /-- KEY_RESTRICT (R449). The RESTRICT command narrows a valid slot's attributes, or refuses any loosening. -/
  | keyRestrict (master : Master) (slot : Fin 256)
  /-- KEY_ROOTGEN (R450). The ROOTGEN command fills the root from the DRBG, writes BBRAM and reloads slot 0. -/
  | keyRootgen (master : Master)
  /-- KEY_CMD_DONE (R630). A key store command ends, its slot takes effect, RESULT is written and EV_KEYSTORE_DONE fires. -/
  | keyCmdDone
  /-- KEY_SWEEP_STEP (R453). The sweep visits one slot, zeroing and freeing it if it or an ancestor is DEAD. -/
  | keySweepStep
  /-- KEY_REFRESH_PASS (R456). Every MASKPER ms or at TK_KEYSTORE_REFRESH a refresh pass draws a new mask. -/
  | keyRefreshPass (byTask : Bool)
  /-- KEY_REFRESH_STEP (R456). One slot is unmasked, checked and remasked, and the last step fires EV_KEYSTORE_MASKPASS. -/
  | keyRefreshStep (taken : Bool) (checkFails : Bool) (rootLost : Bool)
  /-- TAMPER_DETECT (R458). A tamper source detects and logs, and with erase response zeroes root, key RAM and key sets and sets LOCKED. -/
  | tamperDetect (source : Fin 8) (lfCount : Word)
  /-- TAMPER_LATCH_CLEAR (R459). Writing 1 to every set LATCH bit while no source is active clears LOCKED. -/
  | tamperLatchClear (value : Word) (active : BitVec 8)
  /-- TAMPLOCK_WRITE (R460). Writing BKP_TAMPLOCK.LOCK makes BKP_TAMPCFG read-only until D0 loses supply. -/
  | tamplockWrite (value : Word)
  /-- LC_REQUEST (R461). A write to KEYSTORE_LCREQ requests a life-cycle transition, refused with 0x0510 if not permitted. -/
  | lcRequest (master : Master) (value : Word)
  /-- LC_TRANSITION_DONE (R462). The new state is written after the sweep, LC updates and EV_KEYSTORE_LCDONE fires. -/
  | lcTransitionDone
  /-- GL_REQUEST (R464). A write to KEYSTORE_GLREQ changes the guard level, with GL1 to GL0 setting the marker and zeroing keys. -/
  | glRequest (master : Master) (value : Word)
  /-- GL0_ERASE_DONE (R464). The parallel erase of both banks ends, GL0 is written, the marker cleared and a full reset raised. -/
  | gl0EraseDone
  /-- CPU1_START (R467). Writing CPU1RUN = 1 starts CPU1 at SYSCFG_CPU1BOOT. -/
  | cpu1Start (value : Word)
  /-- SRAM_READ (R476). A read of an SRAM word returns zero if invalid, or checks ECC and the valid-bit vote. -/
  | sramRead (master : Master) (addr : Word) (size : AccessSize) (vote : Bool) (ecc : Fin 3) (fill : Option CacheUse) (line : Option (Fin 8))
  /-- SRAM_WRITE (R483). A write to SRAM goes to the word or into the merge buffer. -/
  | sramWrite (master : Master) (addr : Word) (size : AccessSize) (value : Word) (vote : Bool) (ecc : Fin 3)
  /-- ECC_WRITEBACK (R480). A pending corrected word is written back in the next idle cycle of the group port. -/
  | eccWriteback (group : Fin 3)
  /-- MERGE_DRAIN (R483). A merge entry drains as a whole word or by read-modify-write. -/
  | mergeDrain (group : Fin 3) (entry : Fin 4) (vote : Bool) (ecc : Fin 3)
  /-- SRAM_CLEAR (R479). Writing MEMCTL_GRPCTL.CLEAR starts clearing the group's valid bits. -/
  | sramClear (group : Fin 3)
  /-- SRAM_CLEAR_DONE (R479). A group finishes clearing its valid bits after 512 bus cycles. -/
  | sramClearDone (group : Fin 3)
  /-- RAKE_REQUEST (R486). A RAKE write, TK_MEMCTL_RAKEg or the RAKEPER timer requests a pass on a group. -/
  | rakeRequest (group : Fin 3) (cause : RakeCause)
  /-- RAKE_STEP (R487). The rake engine checks one word and corrects or records it, and the last word completes the pass. -/
  | rakeStep (taken : Bool) (vote : Bool) (ecc : Fin 3)
  /-- RAKE_STOP (R489). Writing STOP abandons the pass with 0x0B03. -/
  | rakeStop (group : Fin 3)
  /-- SEM_WRITE (R490). A write to MEMCTL_SEM takes the semaphore if free or releases it by its owner. -/
  | semWrite (n : Fin 32) (master : Master) (take : Bool)
  /-- FLASH_READ (R495). A flash read returns a BCH-corrected unit, suspending an erase or taking a bus error where needed. -/
  | flashRead (master : Master) (addr : Word) (size : AccessSize) (errors : Fin 4) (minrunOver : Bool) (fill : Option CacheUse) (other : Fin 4)
  /-- FLASH_PROGRAM_UNIT (R499). Writing PDATA word 3 starts a 16-octet program unit or refuses it. -/
  | flashProgramUnit (bank : Fin 2) (value : Word)
  /-- FLASH_UNIT_DONE (R500). A program unit ends after verify with its code and EV_FLASHC_DONEx. -/
  | flashUnitDone (bank : Fin 2) (dirty : Bool) (verifyBad : Bool)
  /-- FLASH_ERASE (R503). The ERASE command checks refusals, counts the erase and writes the START journal entry. -/
  | flashErase (bank : Fin 2) (value : Word)
  /-- FLASH_ERASE_PULSE_END (R503). An erase pulse ends with a verify and either starts another pulse or writes END. -/
  | flashErasePulseEnd (bank : Fin 2) (verified : Bool)
  /-- FLASH_SUSPEND (R507). The SUSPEND command or TK_FLASHC_SUSPENDx suspends the running erase. -/
  | flashSuspend (bank : Fin 2) (byTask : Bool)
  /-- FLASH_RESUME (R509). The RESUME command or TK_FLASHC_RESUMEx resumes a suspended erase. -/
  | flashResume (bank : Fin 2) (byTask : Bool)
  /-- FLASH_AUTO_RESUME (R509). An automatically suspended erase resumes after 2 µs without reads. -/
  | flashAutoResume (bank : Fin 2)
  /-- FLASH_DISCARD (R517). The DISCARD command discards unstarted PDATA words. -/
  | flashDiscard (bank : Fin 2)
  /-- WEAR_HEADER_WRITE (R511). The bookkeeping engine programs a block header with its erase count. -/
  | wearHeaderWrite (bank : Fin 2) (taken : Bool)
  /-- PMU_STATE_REQUEST (R533). A write to PMU_REQ requests a power state, refused with 0x0712 without the key. -/
  | pmuStateRequest (value : Word)
  /-- PMU_ENTRY_START (R534). Entry begins when cores wait or TK_PMU_ENTER fires, polling refusers and sequencing isolation and snapshot. -/
  | pmuEntryStart (byTask : Bool) (irq : Bool) (debugPower : Bool) (periphBusy : Bool)
  /-- WAKE_EVENT (R538). An enabled wake source aborts an entry, is lost in the isolation window, or starts a wake sequence. -/
  | wakeEvent (source : WakeSource) (moment : Fin 3)
  /-- DOMCTL_WRITE (R526). A write to PMU_DOMCTL sets domain modes in RUN, DOZE and NAP. -/
  | domctlWrite (value : Word)
  /-- SUPPLY_DIP_END (R544). A dip ends, its minimum and duration are recorded, EV_PMU_SUPOK fires and held flash work starts. -/
  | supplyDipEnd (minimum : BitVec 9) (duration : BitVec 16)
  /-- VBAT_SWITCH (R546). D0 switches between VDDIN and VBAT and the switch is counted. -/
  | vbatSwitch (toVbat : Bool)
  /-- POWER_ON (R550). VDDIN rising with D1 unpowered powers up D1 and then applies a full reset. -/
  | powerOn
  /-- RSTREQ_SYSTEM (R550). SYSCFG_RSTREQ with SCOPE 2 requests a system reset, with CLRFS noted. -/
  | rstreqSystem (clrfs : Bool)
  /-- RSTREQ_FULL (R550). SYSCFG_RSTREQ with SCOPE 3 requests a full reset, with CLRFS noted. -/
  | rstreqFull (clrfs : Bool)
  /-- SYSTEM_RESET (R549). A system reset takes effect once holds end, resetting D2 to D12 and starting the boot ROM. -/
  | systemReset (testen : Bool)
  /-- FULL_RESET (R549). A full reset takes effect as a system reset and also clears the commit. -/
  | fullReset (testen : Bool)
  /-- DRYPAN_BEACON (R566). Every BINT seconds in dry-pan mode LANE A sends a recovery beacon and listens for 20 ms. -/
  | drypanBeacon (lbtClear : Bool) (supply : Nat)
  /-- RECOVERY_COMMAND (R567). A recovery command frame is verified and appends CLEAR and POINTER units and resets, or is rejected. -/
  | recoveryCommand (payload : List Byte)
  /-- CWDT_KICK (R568). A write of the key to SYSCFG_CWDTKICK restarts the core watchdog count. -/
  | cwdtKick (value : Word)
  /-- LWDT_KICK (R569). A write of the key to LWDT_KICK restarts the long watchdog count. -/
  | lwdtKick (value : Word)
  /-- GPIO_EDGE (R574). A selected edge held for 2 bus cycles fires EV_GPIO_EDGEp. -/
  | gpioEdge (pad : Fin 64) (high : Bool)
  /-- GPIO_SET (R575). TK_GPIO_SETp drives the pad's output high. -/
  | gpioSet (pad : Fin 64)
  /-- GPIO_CLR (R575). TK_GPIO_CLRp drives the pad's output low and wins conflicts. -/
  | gpioClr (pad : Fin 64)
  /-- GPIO_TGL (R575). TK_GPIO_TGLp toggles the pad's output. -/
  | gpioTgl (pad : Fin 64)
  /-- UART_TX_PUSH (R577). A write to UART_TXD pushes a character into the transmit FIFO. -/
  | uartTxPush (n : Fin 3) (sent : Fin 17) (value : Word)
  /-- UART_RX_CHAR (R577). A received character enters the receive FIFO or sets an error flag. -/
  | uartRxChar (n : Fin 3) (ch : Byte) (parityBad : Bool) (frameBad : Bool)
  /-- UART_RX_POP (R577). A read of UART_RXD pops the receive FIFO. -/
  | uartRxPop (n : Fin 3)
  /-- UART_RX_TIMEOUT (R577). Four character times without a received character set the timeout flag. -/
  | uartRxTimeout (n : Fin 3)
  /-- SPIM_START (R577). TK_SPIMn_START starts an SPI transfer of LEN octets. -/
  | spimStart (n : Fin 2)
  /-- SPIM_DONE (R577). An SPI transfer ends and fires EV_SPIMn_DONE. -/
  | spimDone (n : Fin 2) (miso : List Byte)
  /-- I2C_START (R577). TK_I2Cn_START starts an I2C transfer. -/
  | i2cStart (n : Fin 2)
  /-- I2C_DONE (R577). An I2C transfer ends with DONE or NACK. -/
  | i2cDone (n : Fin 2) (nack : Bool) (sent : Fin 17) (data : List Byte)
  /-- TMR_START (R578). TK_TMRn_START zeroes and runs the timer. -/
  | tmrStart (n : Fin 4)
  /-- TMR_STOP (R578). TK_TMRn_STOP stops the timer. -/
  | tmrStop (n : Fin 4) (count : Word)
  /-- TMR_CAPTURE (R578). TK_TMRn_CAP copies the count to TMR_CAPT and fires EV_TMRn_CAP. -/
  | tmrCapture (n : Fin 4) (count : Word)
  /-- TMR_COMPARE (R578). The count equals CMP, EV_TMRn_CMP fires and a one-shot timer stops. -/
  | tmrCompare (n : Fin 4)
  /-- TMR_OVERFLOW (R578). The count wraps at 2^32 and fires EV_TMRn_OVF. -/
  | tmrOverflow (n : Fin 4)
  /-- ADC_CONVERSION_DONE (R579). A 1 µs conversion ends, pushes its result or sets OVF, and the last fires EV_ADC_DONE. -/
  | adcConversionDone (result : BitVec 12)
  /-- CAN_TXREQ (R591). A CAN_TXREQ write or TK_CAN_TXREQ requests transmission of buffers. -/
  | canTxreq (byTask : Bool) (value : Word)
  /-- CAN_TXABORT (R591). A CAN_TXABORT write withdraws a request not yet in arbitration. -/
  | canTxabort (value : Word) (arbitrating : Option (Fin 32))
  /-- CAN_TX_DONE (R591). A sent frame is acknowledged, TXDONE is set and EV_CAN_TX fires. -/
  | canTxDone (buf : Fin 32) (stamp : Word) (tec : BitVec 8)
  /-- CAN_FRAME_RX (R591). A received frame is stored in a matching free buffer with its stamp, or dropped. -/
  | canFrameRx (word0 : Word) (dlc : Fin 16) (brs : Bool) (esi : Bool) (data : List Byte) (stamp : Word) (rec : BitVec 8)
  /-- CAN_PROTOCOL_ERROR (R592). A protocol error fires EV_CAN_ERR and records its type. -/
  | canProtocolError (type : Fin 7) (tec : BitVec 8) (rec : BitVec 8)
  /-- HOST_TRANSACTION (R583). A host-port SPI transaction from CSN low to high reads or writes words under identifier 0x0E. -/
  | hostTransaction (mosi : List Byte) (arrived : Nat)
  /-- HOST_MBSET (R588). A write to HOSTP_MBSET signals a host-bound or device-bound mailbox slot. -/
  | hostMbset (master : Master) (value : Word)
  /-- HARVEST_DUE (R596). Every PERIOD minutes or on a LIFE_CTL.HARVEST write a harvest becomes pending. -/
  | harvestDue (requested : Bool)
  /-- HARVEST_UNIT_DONE (R597). One program unit of the lifetime record completes, or fails and abandons the record. -/
  | harvestUnitDone (taken : Bool) (dirty : Bool) (verifyBad : Bool)
  /-- LIFE_TEMP_SAMPLE (R594). Every 64 s the D1 temperature sensor is sampled into its bin and extremes. -/
  | lifeTempSample (temp : BitVec 8)
  /-- LIFE_VAL_READ (R594). A read of LIFE_VAL[12] or [14] latches the upper word. -/
  | lifeValRead (frames : Lane)
  /-- UART_TXDONE (R577). A UART finishes shifting out its transmit data and fires EV_UARTn_TXDONE. -/
  | uartTxdone (n : Fin 3)
  /-- XTALOK (R125). Once the HF crystal has run within 100 ppm of the disciplined reference for 100 ms, TIDE_CLKCTL.XTALOK becomes 1. -/
  | xtalok (within : Bool)
  /-- BROWN_OUT (R545). VDDIN below 1.70 V causes a brown-out reset that powers down all but D0. -/
  | brownOut (vbat : Bool)
  /-- LOCKSTEP_MISMATCH (R470). Differing lockstep outputs hold the transfer and cause a warm restart with 0x0B10. -/
  | lockstepMismatch
  /-- WARM_RESTART (R471). A warm restart resets both cores, invalidates caches, drains merge buffers, releases semaphores and enters the warm path. -/
  | warmRestart
  /-- EWFIFO_READ (R498). A read of FLASHC_EWFIFO returns and removes the oldest entry. -/
  | ewfifoRead
  /-- ERASECNT_LOAD (R512). Erase counts are loaded from the header units after D7 power-up or reset. -/
  | erasecntLoad
  /-- PMU_ENTRY_DONE (R535). Retention and switches are set, oscillators stop and the device rests in the new state. -/
  | pmuEntryDone
  /-- WAKE_READY_STEP (R539). A ready signal of the wake sequence arrives and the next step begins, LOGICRDY releasing the cores. -/
  | wakeReadyStep
  /-- WAKE_READY_TIMEOUT (R541). A missing ready signal repeats the wake once, then raises a system reset. -/
  | wakeReadyTimeout
  /-- XTAL_READY (R539). The HF crystal runs, the islands switch to it and EV_PMU_XTALRDY fires. -/
  | xtalReady
  /-- XTAL_START_TIMEOUT (R540). Without a running crystal 2 ms after REGRDY the crystal-failure sequence applies. -/
  | xtalStartTimeout
  /-- EXCURSION_START (R530). Ahead of due link work the PMU leaves SLEEP for a link excursion. -/
  | excursionStart
  /-- EXCURSION_END (R531). With no due work for RESLEEP ms the excursion ends and SLEEP is re-entered. -/
  | excursionEnd
  /-- SUPPLY_DIP_START (R542). VDDIN below the warning level for 1 µs starts a dip that holds off flash and transmissions. -/
  | supplyDipStart
  /-- RESETN_PIN (R550). RESETn held low for 1 µs requests a system reset. -/
  | resetnPin
  /-- DEBUG_RESET_REQUEST (R550). A debug port reset request asks for a system reset. -/
  | debugResetRequest
  /-- RSTREQ_WARM (R550). SYSCFG_RSTREQ with SCOPE 1 requests a warm restart. -/
  | rstreqWarm
  /-- BOOTOK_CONFIRM (R560). Writing SYSCFG_BOOTOK with key 0x600D appends a GOOD unit once per start. -/
  | bootokConfirm
  /-- CWDT_EXPIRY (R568). The core watchdog reaches TIMEOUT and requests a warm restart. -/
  | cwdtExpiry
  /-- LWDT_EXPIRY (R569). The long watchdog reaches TIMEOUT and requests a system reset. -/
  | lwdtExpiry
  /-- ADC_START (R579). TK_ADC_START begins converting the selected channels. -/
  | adcStart
  /-- ADC_STOP (R579). TK_ADC_STOP ends the running sequence. -/
  | adcStop
  /-- ADC_RESULT_READ (R579). A read of ADC_RESULT pops the result FIFO. -/
  | adcResultRead
  /-- CAN_BUS_OFF (R592). TEC passes 255, the controller stops, sets INIT and fires EV_CAN_BUSOFF. -/
  | canBusOff
  /-- CAN_BUSOFF_RECOVERY (R592). With ABOM after 128 occurrences of 11 recessive bits the controller clears INIT. -/
  | canBusoffRecovery
  /-- HOSTP_IRQ_TASK (R590). TK_HOSTP_IRQ sets IRQSTAT.SW. -/
  | hostpIrqTask
  /-- HARVEST_START (R597). When bank B is free a harvest latches the counters into a record, erasing block 515 first if full. -/
  | harvestStart
  /-- LIFE_SECOND_TICK (R594). Each second of the LF clock advances POWERED and AWAKE. -/
  | lifeSecondTick
  /-- LIFE_LOAD_END (R599). Lifetime restore from snapshot or the newest record ends and deferred events are counted. -/
  | lifeLoadEnd
  /-- LF_CLOCK_LOSS (R91). A loss of the 32 kHz clock invalidates the D0 snapshot. -/
  | lfClockLoss
  deriving DecidableEq, Repr

end Sys2Proof
end

