-- ==== Sys2Proof/Decode.lean ====
section
/-!
DEFINITION. The words of the commands. No row of the table of operations and events (spec/opcode_table.json) gives bits:
the commands are accesses to registers, messages and physical events, and none is spelled by a word. So every word spells
no command.
-/

namespace Sys2Proof

/-- The command that a word of nbits bits spells by the table's bits: none, since the table gives no row any bits. -/
def decodeTableWord (_nbits _w : Nat) : Option Instr := none

end Sys2Proof
end

