-- ==== Sys2Proof/Config.lean ====
section
/-!
DEFINITION. What one part fixes or the spec leaves open. The constants without a body are free values: nothing in
Lean can say what they are, so a statement holds whatever they are (notes/assumptions/2.md). They are applied to the
free counter of State, or to the operands the open value depends on.
-/

namespace Sys2Proof.Config

/-- A fresh free value, by the number it is drawn under. -/
opaque freeValue : Nat → Nat

/-- The 16-bit check values of the groups of 32 cell words that hold a record's cells, by the record's type and its cell
words (R67): how cells stand in groups, and the check itself, are the device's own. -/
opaque groupChecks : Nat → List (BitVec 32) → List (BitVec 16)

/-- The design-nominal result of calibration entry n (R191), of which the spec gives the KVCO of 512 alone. -/
opaque nominalTrim : Nat → BitVec 32

/-- The fixed level in 1/100 dBm to which a pan's digital gain scales its channel (R258). -/
opaque digitalLevel : Int

/-- The octet of the boot ROM at an offset: the ROM's contents are the device's own. -/
opaque romByte : Nat → Byte

end Sys2Proof.Config
end

