-- ==== Sys2Proof/Machine/Crypto.lean ====
section
/-!
DEFINITION. The standard algorithms the spec names, written out: CRC-32 (R40), SHA-256 and ECDSA / ECDH on P-256
(R41, R426 to R430), AES with 128- and 256-bit keys, CTR, CCM and CMAC (R407, R414, R448). They are functions of
octet lists; numbers of the curve are natural numbers.
-/

namespace Sys2Proof.Machine

/-- The big-endian number of an octet list. -/
def natOfBE (l : List Byte) : Nat := l.foldl (fun a b => a * 256 + b.toNat) 0

/-- The little-endian number of an octet list. -/
def natOfLE : List Byte → Nat
  | [] => 0
  | b :: t => b.toNat + 256 * natOfLE t

/-- n octets of x, least significant first. -/
def bytesLE : Nat → Nat → List Byte
  | 0, _ => []
  | n + 1, x => BitVec.ofNat 8 x :: bytesLE n (x / 256)

/-- n octets of x, most significant first. -/
def bytesBE (n x : Nat) : List Byte := (bytesLE n x).reverse

/-- Cut a list into pieces of n. -/
def chunksAux {α : Type} (n : Nat) : Nat → List α → List (List α)
  | 0, _ => []
  | _ + 1, [] => []
  | fuel + 1, l => l.take n :: chunksAux n fuel (l.drop n)

def chunks {α : Type} (n : Nat) (l : List α) : List (List α) := chunksAux n (l.length + 1) l

/-! ### CRC-32 of IEEE 802.3, reflected (R40) -/

def crc32Bit (c : BitVec 32) : BitVec 32 :=
  if c.getLsbD 0 then (c >>> 1) ^^^ 0xEDB88320#32 else c >>> 1

def crc32Byte (c : BitVec 32) (b : Byte) : BitVec 32 :=
  (List.range 8).foldl (fun c _ => crc32Bit c) (c ^^^ b.setWidth 32)

def crc32 (l : List Byte) : BitVec 32 := l.foldl crc32Byte 0xFFFFFFFF#32 ^^^ 0xFFFFFFFF#32

/-! ### SHA-256 -/

/-- The round constants. -/
def sha256K : List (BitVec 32) :=
  [0x428A2F98, 0x71374491, 0xB5C0FBCF, 0xE9B5DBA5, 0x3956C25B, 0x59F111F1,
   0x923F82A4, 0xAB1C5ED5, 0xD807AA98, 0x12835B01, 0x243185BE, 0x550C7DC3,
   0x72BE5D74, 0x80DEB1FE, 0x9BDC06A7, 0xC19BF174, 0xE49B69C1, 0xEFBE4786,
   0x0FC19DC6, 0x240CA1CC, 0x2DE92C6F, 0x4A7484AA, 0x5CB0A9DC, 0x76F988DA,
   0x983E5152, 0xA831C66D, 0xB00327C8, 0xBF597FC7, 0xC6E00BF3, 0xD5A79147,
   0x06CA6351, 0x14292967, 0x27B70A85, 0x2E1B2138, 0x4D2C6DFC, 0x53380D13,
   0x650A7354, 0x766A0ABB, 0x81C2C92E, 0x92722C85, 0xA2BFE8A1, 0xA81A664B,
   0xC24B8B70, 0xC76C51A3, 0xD192E819, 0xD6990624, 0xF40E3585, 0x106AA070,
   0x19A4C116, 0x1E376C08, 0x2748774C, 0x34B0BCB5, 0x391C0CB3, 0x4ED8AA4A,
   0x5B9CCA4F, 0x682E6FF3, 0x748F82EE, 0x78A5636F, 0x84C87814, 0x8CC70208,
   0x90BEFFFA, 0xA4506CEB, 0xBEF9A3F7, 0xC67178F2]

/-- The initial hash value. -/
def sha256Init : List (BitVec 32) :=
  [0x6A09E667, 0xBB67AE85, 0x3C6EF372, 0xA54FF53A,
   0x510E527F, 0x9B05688C, 0x1F83D9AB, 0x5BE0CD19]

def shaRotr (x : BitVec 32) (n : Nat) : BitVec 32 := x.rotateRight n

/-- One more schedule word in front of the reversed schedule. -/
def sha256Extend (w : List (BitVec 32)) : List (BitVec 32) :=
  let g := fun i => w.getD i 0
  let s0 := shaRotr (g 14) 7 ^^^ shaRotr (g 14) 18 ^^^ (g 14 >>> 3)
  let s1 := shaRotr (g 1) 17 ^^^ shaRotr (g 1) 19 ^^^ (g 1 >>> 10)
  (g 15 + s0 + g 6 + s1) :: w

def sha256Schedule (block : List Byte) : List (BitVec 32) :=
  let w := (chunks 4 block).map (fun b => BitVec.ofNat 32 (natOfBE b))
  ((List.range 48).foldl (fun w _ => sha256Extend w) w.reverse).reverse

structure Sha256Vars where
  a : BitVec 32
  b : BitVec 32
  c : BitVec 32
  d : BitVec 32
  e : BitVec 32
  f : BitVec 32
  g : BitVec 32
  h : BitVec 32
  deriving DecidableEq, Repr

def sha256Round (v : Sha256Vars) (kw : BitVec 32 × BitVec 32) : Sha256Vars :=
  let s1 := shaRotr v.e 6 ^^^ shaRotr v.e 11 ^^^ shaRotr v.e 25
  let ch := (v.e &&& v.f) ^^^ (~~~ v.e &&& v.g)
  let t1 := v.h + s1 + ch + kw.1 + kw.2
  let s0 := shaRotr v.a 2 ^^^ shaRotr v.a 13 ^^^ shaRotr v.a 22
  let maj := (v.a &&& v.b) ^^^ (v.a &&& v.c) ^^^ (v.b &&& v.c)
  ⟨t1 + (s0 + maj), v.a, v.b, v.c, v.d + t1, v.e, v.f, v.g⟩

/-- The hash value after one 64-octet block. -/
def sha256Block (h : List (BitVec 32)) (block : List Byte) : List (BitVec 32) :=
  let g := fun i => h.getD i 0
  let v := (sha256K.zip (sha256Schedule block)).foldl sha256Round ⟨g 0, g 1, g 2, g 3, g 4, g 5, g 6, g 7⟩
  [g 0 + v.a, g 1 + v.b, g 2 + v.c, g 3 + v.d, g 4 + v.e, g 5 + v.f, g 6 + v.g, g 7 + v.h]

def sha256Pad (len : Nat) : List Byte :=
  0x80#8 :: (List.replicate ((119 - len % 64) % 64) 0#8 ++ bytesBE 8 (8 * len))

def sha256Words (m : List Byte) : List (BitVec 32) :=
  (chunks 64 (m ++ sha256Pad m.length)).foldl sha256Block sha256Init

/-- SHA-256 of an octet list. -/
def sha256 (m : List Byte) : List Byte := (sha256Words m).flatMap (fun w => bytesBE 4 w.toNat)

/-! ### P-256 -/

def p256P : Nat := 0xFFFFFFFF00000001000000000000000000000000FFFFFFFFFFFFFFFFFFFFFFFF
def p256N : Nat := 0xFFFFFFFF00000000FFFFFFFFFFFFFFFFBCE6FAADA7179E84F3B9CAC2FC632551
def p256B : Nat := 0x5AC635D8AA3A93E7B3EBBD55769886BC651D06B0CC53B0F63BCE3C3E27D2604B
def p256Gx : Nat := 0x6B17D1F2E12C4247F8BCE6E563A440F277037D812DEB33A0F4A13945D898C296
def p256Gy : Nat := 0x4FE342E2FE1A7F9B8EE7EB4A7C0F9E162BCE33576B315ECECBB6406837BF51F5

/-- b ^ e modulo m, over the low n bits of e. -/
def powMod (m : Nat) : Nat → Nat → Nat → Nat
  | 0, _, _ => 1 % m
  | n + 1, b, e =>
    let r := powMod m n (b * b % m) (e / 2)
    if e % 2 = 1 then r * b % m else r

/-- The inverse of a modulo a prime m below 2^256. -/
def invMod (m a : Nat) : Nat := powMod m 256 (a % m) (m - 2)

/-- A point of the curve; none is the point at infinity. -/
abbrev EcPoint := Option (Nat × Nat)

def ecAdd (p q : EcPoint) : EcPoint :=
  match p, q with
  | none, _ => q
  | _, none => p
  | some (x1, y1), some (x2, y2) =>
    let m := p256P
    if x1 = x2 ∧ (y1 + y2) % m = 0 then none
    else
      let l := if x1 = x2 ∧ y1 = y2 then (3 * x1 * x1 + (m - 3)) * invMod m (2 * y1) % m
               else (y2 + m - y1) * invMod m (x2 + m - x1) % m
      let x3 := (l * l + 2 * m - x1 - x2) % m
      some (x3, (l * (x1 + m - x3) + (m - y1)) % m)

/-- k times p, over the low n bits of k. -/
def ecMulAux : Nat → Nat → EcPoint → EcPoint
  | 0, _, _ => none
  | n + 1, k, p =>
    let r := ecMulAux n (k / 2) (ecAdd p p)
    if k % 2 = 1 then ecAdd r p else r

def ecMul (k : Nat) (p : EcPoint) : EcPoint := ecMulAux 256 k p

def ecG : EcPoint := some (p256Gx, p256Gy)

/-- Is (x, y) a point of the curve with both coordinates in range? -/
def ecOnCurve (x y : Nat) : Bool :=
  x < p256P && y < p256P && (y * y % p256P == (x * x * x + (p256P - 3) * x + p256B) % p256P)

/-- ECDSA verification of the digest z under the public key (x, y). -/
def ecdsaVerify (x y z r s : Nat) : Bool :=
  if 1 ≤ r ∧ r < p256N ∧ 1 ≤ s ∧ s < p256N ∧ ecOnCurve x y then
    let w := invMod p256N s
    match ecAdd (ecMul (z * w % p256N) ecG) (ecMul (r * w % p256N) (some (x, y))) with
    | none => false
    | some (vx, _) => vx % p256N == r
  else false

/-- ECDSA signature of the digest z with private key d and nonce k; none where the standard draws a new nonce. -/
def ecdsaSign (d z k : Nat) : Option (Nat × Nat) :=
  match ecMul k ecG with
  | none => none
  | some (x, _) =>
    let r := x % p256N
    let s := invMod p256N k * (z + r * d) % p256N
    if r = 0 ∨ s = 0 then none else some (r, s)

/-! ### AES -/

def aesSbox0 : List Byte :=
  [0x63, 0x7C, 0x77, 0x7B, 0xF2, 0x6B, 0x6F, 0xC5, 0x30, 0x01, 0x67, 0x2B, 0xFE, 0xD7, 0xAB, 0x76,
   0xCA, 0x82, 0xC9, 0x7D, 0xFA, 0x59, 0x47, 0xF0, 0xAD, 0xD4, 0xA2, 0xAF, 0x9C, 0xA4, 0x72, 0xC0,
   0xB7, 0xFD, 0x93, 0x26, 0x36, 0x3F, 0xF7, 0xCC, 0x34, 0xA5, 0xE5, 0xF1, 0x71, 0xD8, 0x31, 0x15,
   0x04, 0xC7, 0x23, 0xC3, 0x18, 0x96, 0x05, 0x9A, 0x07, 0x12, 0x80, 0xE2, 0xEB, 0x27, 0xB2, 0x75]

def aesSbox1 : List Byte :=
  [0x09, 0x83, 0x2C, 0x1A, 0x1B, 0x6E, 0x5A, 0xA0, 0x52, 0x3B, 0xD6, 0xB3, 0x29, 0xE3, 0x2F, 0x84,
   0x53, 0xD1, 0x00, 0xED, 0x20, 0xFC, 0xB1, 0x5B, 0x6A, 0xCB, 0xBE, 0x39, 0x4A, 0x4C, 0x58, 0xCF,
   0xD0, 0xEF, 0xAA, 0xFB, 0x43, 0x4D, 0x33, 0x85, 0x45, 0xF9, 0x02, 0x7F, 0x50, 0x3C, 0x9F, 0xA8,
   0x51, 0xA3, 0x40, 0x8F, 0x92, 0x9D, 0x38, 0xF5, 0xBC, 0xB6, 0xDA, 0x21, 0x10, 0xFF, 0xF3, 0xD2]

def aesSbox2 : List Byte :=
  [0xCD, 0x0C, 0x13, 0xEC, 0x5F, 0x97, 0x44, 0x17, 0xC4, 0xA7, 0x7E, 0x3D, 0x64, 0x5D, 0x19, 0x73,
   0x60, 0x81, 0x4F, 0xDC, 0x22, 0x2A, 0x90, 0x88, 0x46, 0xEE, 0xB8, 0x14, 0xDE, 0x5E, 0x0B, 0xDB,
   0xE0, 0x32, 0x3A, 0x0A, 0x49, 0x06, 0x24, 0x5C, 0xC2, 0xD3, 0xAC, 0x62, 0x91, 0x95, 0xE4, 0x79,
   0xE7, 0xC8, 0x37, 0x6D, 0x8D, 0xD5, 0x4E, 0xA9, 0x6C, 0x56, 0xF4, 0xEA, 0x65, 0x7A, 0xAE, 0x08]

def aesSbox3 : List Byte :=
  [0xBA, 0x78, 0x25, 0x2E, 0x1C, 0xA6, 0xB4, 0xC6, 0xE8, 0xDD, 0x74, 0x1F, 0x4B, 0xBD, 0x8B, 0x8A,
   0x70, 0x3E, 0xB5, 0x66, 0x48, 0x03, 0xF6, 0x0E, 0x61, 0x35, 0x57, 0xB9, 0x86, 0xC1, 0x1D, 0x9E,
   0xE1, 0xF8, 0x98, 0x11, 0x69, 0xD9, 0x8E, 0x94, 0x9B, 0x1E, 0x87, 0xE9, 0xCE, 0x55, 0x28, 0xDF,
   0x8C, 0xA1, 0x89, 0x0D, 0xBF, 0xE6, 0x42, 0x68, 0x41, 0x99, 0x2D, 0x0F, 0xB0, 0x54, 0xBB, 0x16]

/-- The AES substitution table. -/
def aesSbox : List Byte := aesSbox0 ++ aesSbox1 ++ aesSbox2 ++ aesSbox3

def aesSub (b : Byte) : Byte := aesSbox.getD b.toNat 0

def xtime (b : Byte) : Byte := if b.getLsbD 7 then (b <<< 1) ^^^ 0x1B#8 else b <<< 1

def xorBytes (a b : List Byte) : List Byte := List.zipWith (· ^^^ ·) a b

/-- One more word in front of the reversed key schedule; nk is the key length in words, i the word's number. -/
def aesNextWord (nk i : Nat) (rcon : Byte) (w : List (List Byte)) : List (List Byte) :=
  let prev := w.getD 0 []
  let t :=
    if i % nk = 0 then xorBytes ((prev.drop 1 ++ prev.take 1).map aesSub) [rcon, 0, 0, 0]
    else if nk > 6 ∧ i % nk = 4 then prev.map aesSub
    else prev
  xorBytes (w.getD (nk - 1) []) t :: w

/-- The expanded key: 4 * (rounds + 1) words. -/
def aesExpandAux (nk : Nat) : Nat → Nat → Byte → List (List Byte) → List (List Byte)
  | 0, _, _, w => w.reverse
  | n + 1, i, rcon, w =>
    aesExpandAux nk n (i + 1) (if i % nk = 0 then xtime rcon else rcon) (aesNextWord nk i rcon w)

def aesRoundKeys (key : List Byte) : List (List Byte) :=
  let nk := key.length / 4
  let words := aesExpandAux nk (4 * (nk + 7) - nk) nk 1 ((chunks 4 key).reverse)
  (chunks 4 words).map (fun l => l.flatten)

/-- ShiftRows over the column-major state. -/
def aesShiftRows (s : List Byte) : List Byte :=
  (List.range 16).map (fun i => s.getD ((i + 4 * (i % 4)) % 16) 0)

def aesMixColumn (c : List Byte) : List Byte :=
  let g := fun i => c.getD (i % 4) 0
  (List.range 4).map (fun i => xtime (g i) ^^^ (xtime (g (i + 1)) ^^^ g (i + 1)) ^^^ g (i + 2) ^^^ g (i + 3))

def aesMixColumns (s : List Byte) : List Byte := (chunks 4 s).flatMap aesMixColumn

def aesRounds : List (List Byte) → List Byte → List Byte
  | [], s => s
  | [k], s => xorBytes (aesShiftRows (s.map aesSub)) k
  | k :: ks, s => aesRounds ks (xorBytes (aesMixColumns (aesShiftRows (s.map aesSub))) k)

/-- AES encryption of one 16-octet block under a 16- or 32-octet key. -/
def aesEncrypt (key block : List Byte) : List Byte :=
  match aesRoundKeys key with
  | [] => block
  | k0 :: ks => aesRounds ks (xorBytes block k0)

def padTo (n : Nat) (l : List Byte) : List Byte := l ++ List.replicate ((n - l.length % n) % n) 0#8

/-- CBC-MAC state after the blocks of a message whose length is a multiple of 16. -/
def cbcMac (key : List Byte) (x : List Byte) (m : List Byte) : List Byte :=
  (chunks 16 m).foldl (fun x b => aesEncrypt key (xorBytes x b)) x

/-- Key stream of n blocks, from the counter block made by ctr i. -/
def ctrXor (key : List Byte) (ctr : Nat → List Byte) (m : List Byte) : List Byte :=
  (((chunks 16 m).zipIdx).map (fun p => List.zipWith (· ^^^ ·) p.1 (aesEncrypt key (ctr p.2)))).flatten

/-- Left shift by one bit of a 16-octet block, with the CMAC reduction. -/
def cmacDouble (l : List Byte) : List Byte :=
  let v := natOfBE l
  let d := v * 2 % 2 ^ 128
  bytesBE 16 (if v / 2 ^ 127 = 1 then d ^^^ 0x87 else d)

/-- AES-CMAC. -/
def aesCmac (key m : List Byte) : List Byte :=
  let k1 := cmacDouble (aesEncrypt key (List.replicate 16 0#8))
  let k2 := cmacDouble k1
  let nfull := if m.length = 0 then 0 else (m.length - 1) / 16
  let head := m.take (16 * nfull)
  let last := m.drop (16 * nfull)
  let lastB := if last.length = 16 then xorBytes last k1
               else xorBytes (padTo 16 (last ++ [0x80#8])) k2
  cbcMac key (List.replicate 16 0#8) (head ++ lastB)

/-- The MIC of CCM before encryption and the whole CCM: nonce of 13 octets (length field of 2), MIC of micLen octets. -/
def ccmMic (key nonce aad m : List Byte) (micLen : Nat) : List Byte :=
  let flags := (if aad.length > 0 then 64 else 0) + 8 * ((micLen - 2) / 2) + 1
  let b0 := BitVec.ofNat 8 flags :: (nonce ++ bytesBE 2 m.length)
  let a := if aad.length > 0 then padTo 16 (bytesBE 2 aad.length ++ aad) else []
  (cbcMac key (List.replicate 16 0#8) (b0 ++ a ++ padTo 16 m)).take micLen

def ccmCtr (nonce : List Byte) (i : Nat) : List Byte := 1#8 :: (nonce ++ bytesBE 2 i)

/-- CCM encryption: the ciphertext and the encrypted MIC. -/
def ccmEncrypt (key nonce aad m : List Byte) (micLen : Nat) : List Byte × List Byte :=
  (ctrXor key (fun i => ccmCtr nonce (i + 1)) m,
   List.zipWith (· ^^^ ·) (ccmMic key nonce aad m micLen) (aesEncrypt key (ccmCtr nonce 0)))

/-- CCM decryption: the plaintext and whether the MIC verifies. -/
def ccmDecrypt (key nonce aad c mic : List Byte) : List Byte × Bool :=
  let m := ctrXor key (fun i => ccmCtr nonce (i + 1)) c
  (m, List.zipWith (· ^^^ ·) (ccmMic key nonce aad m mic.length) (aesEncrypt key (ccmCtr nonce 0)) == mic)

end Sys2Proof.Machine
end

