-- ==== Sys2Proof/Machine/Events.lean ====
section
/-!
DEFINITION. The producer and task indices of the event fabric (R128, Table FAB-1): a block's range start plus the
local number its chapter lists, under the spec's names; which indices are issued; and which producers each task input
can cause (the static-loop columns).
-/

namespace Sys2Proof.Machine

namespace EV

/-! Lanes: Table LANE-10, and Table CAL "Events and tasks"; lane B stands 0x18 above lane A. -/
def LANE_STANDBY (l : Nat) : Nat := 0x18 * l + 0
def LANE_LOCK (l : Nat) : Nat := 0x18 * l + 1
def LANE_RXON (l : Nat) : Nat := 0x18 * l + 2
def LANE_TXSTART (l : Nat) : Nat := 0x18 * l + 3
def LANE_TXEND (l : Nat) : Nat := 0x18 * l + 4
def LANE_RXOFF (l : Nat) : Nat := 0x18 * l + 5
def LANE_LBTBUSY (l : Nat) : Nat := 0x18 * l + 6
def LANE_LBTCLEAR (l : Nat) : Nat := 0x18 * l + 7
def LANE_LATE (l : Nat) : Nat := 0x18 * l + 8
def LANE_CALABORT (l : Nat) : Nat := 0x18 * l + 9
def LANE_LOCKFAIL (l : Nat) : Nat := 0x18 * l + 10
def LANE_PAFAULT (l : Nat) : Nat := 0x18 * l + 11
def LANE_PWRCLAMP (l : Nat) : Nat := 0x18 * l + 12
def LANE_DWELL (l : Nat) : Nat := 0x18 * l + 13
def LANE_HEALTHPASS (l : Nat) : Nat := 0x18 * l + 14
def LANE_HEALTHFAIL (l : Nat) : Nat := 0x18 * l + 15
def LANE_RETIRED (l : Nat) : Nat := 0x18 * l + 16
def LANE_TAKEOVER (l : Nat) : Nat := 0x18 * l + 17
def LANE_RESTORED (l : Nat) : Nat := 0x18 * l + 18
def LANE_CMDREJ (l : Nat) : Nat := 0x18 * l + 19
def LANE_CALDONE (l : Nat) : Nat := 0x18 * l + 20
def LANE_CALFAIL (l : Nat) : Nat := 0x18 * l + 21

/-! MODEM: Table RXC-8 (range from 0x0030). -/
def MODEM_DETECT : Nat := 0x30
def MODEM_SYNC : Nat := 0x31
def MODEM_HDROK : Nat := 0x32
def MODEM_HDRFAIL : Nat := 0x33
def MODEM_RXEND : Nat := 0x34
def MODEM_CAPTURE : Nat := 0x35
def MODEM_FALSEDET : Nat := 0x36
def MODEM_OVERLOAD : Nat := 0x37
def MODEM_QFULL : Nat := 0x38
def MODEM_CFGREJ : Nat := 0x39
def MODEM_SYNCn (n : Nat) : Nat := 0x30 + 16 + n
def MODEM_ENDn (n : Nat) : Nat := 0x30 + 32 + n

/-! LINK: the OML chapter's table and Table SCHED-9 (range from 0x0078). -/
def LINK_RXDONE : Nat := 0x78
def LINK_RXREFUSE : Nat := 0x79
def LINK_DUP : Nat := 0x7A
def LINK_CTRWARN : Nat := 0x7B
def LINK_CTREXH : Nat := 0x7C
def LINK_PROFILE : Nat := 0x7D
def LINK_TLLAUNCH : Nat := 0x80
def LINK_TLDONE : Nat := 0x81
def LINK_REFUSE : Nat := 0x82
def LINK_NOACK : Nat := 0x83
def LINK_BLOCKACK : Nat := 0x84
def LINK_FWD : Nat := 0x85
def LINK_FWDFAIL : Nat := 0x86
def LINK_SUPTO : Nat := 0x87
def LINK_DUTYREF : Nat := 0x88
def LINK_RXQFULL : Nat := 0x89

/-! CIPHER, PKE, TRNG (range from 0x00D8). -/
def CIPHER_Q0DONE : Nat := 0xD8
def CIPHER_Q1DONE : Nat := 0xD9
def CIPHER_JOBERR : Nat := 0xDA
def CIPHER_RETIRED : Nat := 0xDB
def PKE_DONE : Nat := 0xDC
def PKE_SHADONE : Nat := 0xDD
def TRNG_READY : Nat := 0xDE
def TRNG_FAIL : Nat := 0xDF

/-! KEYSTORE (range from 0x00EC). -/
def KEYSTORE_DONE : Nat := 0xEC
def KEYSTORE_REFUSE : Nat := 0xED
def KEYSTORE_USEOUT : Nat := 0xEE
def KEYSTORE_INTEG : Nat := 0xEF
def KEYSTORE_TAMPER : Nat := 0xF0
def KEYSTORE_LCDONE : Nat := 0xF1
def KEYSTORE_MASKPASS : Nat := 0xF2

/-! FLASHC (range from 0x00F6). -/
def FLASHC_DONE (b : Nat) : Nat := 0xF6 + b
def FLASHC_ERR : Nat := 0xF8
def FLASHC_UE : Nat := 0xF9
def FLASHC_EW : Nat := 0xFA
def FLASHC_SUSPERR : Nat := 0xFB
def FLASHC_WEAR : Nat := 0xFC

/-! MEMCTL (range from 0x0102) and the cores. -/
def MEMCTL_CE : Nat := 0x102
def MEMCTL_UE : Nat := 0x103
def MEMCTL_RAKEDONE (g : Nat) : Nat := 0x104 + g
def CPU_SEV (x : Nat) : Nat := 0x11E + 4 * x
def CPU_START (x : Nat) : Nat := 0x11F + 4 * x
def CPU_WAIT (x : Nat) : Nat := 0x120 + 4 * x

/-! RING (range from 0x010C). -/
def RING_TIME : Nat := 0x10C
def RING_JOIN : Nat := 0x10D
def RING_LEAVE : Nat := 0x10E
def RING_SURVEYED : Nat := 0x10F
def RING_LOS : Nat := 0x110
def RING_MBRX : Nat := 0x111
def RING_MBTX : Nat := 0x112
def RING_FAULT : Nat := 0x113

/-! FABRIC, SYSCFG, TIDE: Table FAB-2; PMU (range from 0x012A). -/
def FABRIC_QUAR : Nat := 0x118
def FABRIC_DROP : Nat := 0x119
def SYSCFG_PATCHDONE : Nat := 0x128
def SYSCFG_CFGFIX : Nat := 0x129
def PMU_WAKE : Nat := 0x12A
def PMU_REFUSED : Nat := 0x12B
def PMU_ABORTED : Nat := 0x12C
def PMU_SUPWARN : Nat := 0x12D
def PMU_SUPOK : Nat := 0x12E
def PMU_XTALRDY : Nat := 0x12F
def PMU_EXCIN : Nat := 0x130
def PMU_EXCOUT : Nat := 0x131
def TIDE_SYNC : Nat := 0x13A
def TIDE_LOST : Nat := 0x13B
def TIDE_STEP : Nat := 0x13C
def TIDE_PARENT : Nat := 0x13D
def TIDE_XTALFAIL : Nat := 0x13E
def TIDE_DISC : Nat := 0x13F

/-! Peripherals and host port: Table PER-5. -/
def GPIO_EDGE (p : Nat) : Nat := 0x146 + p
def TMR_CMP (n : Nat) : Nat := 0x186 + 3 * n
def TMR_OVF (n : Nat) : Nat := 0x187 + 3 * n
def TMR_CAP (n : Nat) : Nat := 0x188 + 3 * n
def ADC_DONE : Nat := 0x192
def ADC_LIMIT : Nat := 0x193
def ADC_FULL : Nat := 0x194
def UART_RXRDY (n : Nat) : Nat := 0x195 + 3 * n
def UART_TXDONE (n : Nat) : Nat := 0x196 + 3 * n
def UART_ERR (n : Nat) : Nat := 0x197 + 3 * n
def SPIM_DONE (n : Nat) : Nat := 0x19E + n
def I2C_DONE (n : Nat) : Nat := 0x1A0 + 2 * n
def I2C_NACK (n : Nat) : Nat := 0x1A1 + 2 * n
def CAN_RX : Nat := 0x1A4
def CAN_TX : Nat := 0x1A5
def CAN_ERR : Nat := 0x1A6
def CAN_BUSOFF : Nat := 0x1A7
def HOSTP_MBOX : Nat := 0x1A8
def HOSTP_DOORBELL : Nat := 0x1A9
def HOSTP_CSFALL : Nat := 0x1AA
def HOSTP_ERR : Nat := 0x1AB

end EV

namespace TK

def LANE (l k : Nat) : Nat := 0x10 * l + k
def MODEM_PANSTOP (p : Nat) : Nat := 0x20 + p
def MODEM_WBSNAP : Nat := 0x30
def LINK_ARM (n : Nat) : Nat := 0x38 + n
def LINK_TRACESTOP : Nat := 0x58
def CIPHER_SELFTEST : Nat := 0x68
def TRNG_RESEED : Nat := 0x69
def KEYSTORE_REFRESH : Nat := 0x74
def FLASHC_SUSPEND (b : Nat) : Nat := 0x78 + b
def FLASHC_RESUME (b : Nat) : Nat := 0x7A + b
def MEMCTL_RAKE (g : Nat) : Nat := 0x7E + g
def RING_SURVEY : Nat := 0x84
def RING_LEAVE : Nat := 0x85
def FABRIC_RELEASEALL : Nat := 0x8A
def CPU_IRQ (x k : Nat) : Nat := 0x8C + 4 * x + k
def SYSCFG_COMMIT : Nat := 0x96
def PMU_WAKE (n : Nat) : Nat := 0x97 + n
def PMU_ENTER : Nat := 0x9B
def TIDE_CAP (k : Nat) : Nat := 0x9F + k
def GPIO_SET (p : Nat) : Nat := 0xA3 + 3 * p
def GPIO_CLR (p : Nat) : Nat := 0xA4 + 3 * p
def GPIO_TGL (p : Nat) : Nat := 0xA5 + 3 * p
def TMR_START (n : Nat) : Nat := 0x163 + 3 * n
def TMR_STOP (n : Nat) : Nat := 0x164 + 3 * n
def TMR_CAP (n : Nat) : Nat := 0x165 + 3 * n
def ADC_START : Nat := 0x16F
def ADC_STOP : Nat := 0x170
def SPIM_START (n : Nat) : Nat := 0x171 + n
def I2C_START (n : Nat) : Nat := 0x173 + n
def CAN_TXREQ : Nat := 0x175
def HOSTP_IRQ : Nat := 0x176

end TK

/-- Is p an issued producer index (R128, Table FAB-1 and the chapters' lists)? -/
def producerIssued (p : Nat) : Bool :=
  (p < 0x30 && p % 0x18 < 22) || (0x30 ≤ p && p ≤ 0x39) || (0x40 ≤ p && p < 0x60)
  || (0x78 ≤ p && p ≤ 0x7D) || (0x80 ≤ p && p ≤ 0x89) || (0xD8 ≤ p && p ≤ 0xDF) || (0xEC ≤ p && p ≤ 0xF2) || (0xF6 ≤ p && p ≤ 0xFC)
  || (0x102 ≤ p && p ≤ 0x106) || (0x10C ≤ p && p ≤ 0x113) || (0x118 ≤ p && p ≤ 0x119)
  || (0x11E ≤ p && p ≤ 0x120) || (0x122 ≤ p && p ≤ 0x124) || (0x128 ≤ p && p ≤ 0x131)
  || (0x13A ≤ p && p ≤ 0x13F) || (0x146 ≤ p && p ≤ 0x1AB)

/-- Is i an issued task index? -/
def taskIssued (i : Nat) : Bool :=
  (i < 0x20 && i % 0x10 < 8) || (0x20 ≤ i && i ≤ 0x30) || (0x38 ≤ i && i ≤ 0x58) || (0x68 ≤ i && i ≤ 0x69)
  || i == 0x74 || (0x78 ≤ i && i ≤ 0x7B) || (0x7E ≤ i && i ≤ 0x80) || (0x84 ≤ i && i ≤ 0x85) || i == 0x8A
  || (0x8C ≤ i && i ≤ 0x93) || (0x96 ≤ i && i ≤ 0x9B) || (0x9F ≤ i && i ≤ 0xA2) || (0xA3 ≤ i && i ≤ 0x176)

/-- The producers that task input i can cause (the "Can cause" columns of the chapters' task tables). -/
def taskCauses (i : Nat) : List Nat :=
  if i < 0x20 then
    let l := i / 0x10
    match i % 0x10 with
    | 0 => [EV.LANE_CMDREJ l]
    | 1 => [EV.LANE_STANDBY l, EV.LANE_CMDREJ l]
    | 2 => [EV.LANE_LOCK l, EV.LANE_LOCKFAIL l, EV.LANE_CALABORT l, EV.LANE_CMDREJ l]
    | 3 => [EV.LANE_LOCK l, EV.LANE_RXON l, EV.LANE_RXOFF l, EV.LANE_CALABORT l, EV.LANE_CMDREJ l]
    | 4 => [EV.LANE_LOCK l, EV.LANE_TXSTART l, EV.LANE_TXEND l, EV.LANE_LBTBUSY l, EV.LANE_LBTCLEAR l,
            EV.LANE_PWRCLAMP l, EV.LANE_DWELL l, EV.LANE_PAFAULT l, EV.LANE_CALABORT l, EV.LANE_CMDREJ l]
    | 5 => [EV.LANE_TXEND l, EV.LANE_RXOFF l, EV.LANE_STANDBY l]
    | 6 => [EV.LANE_HEALTHPASS l, EV.LANE_HEALTHFAIL l, EV.LANE_RETIRED l]
    | 7 => [EV.LANE_CALDONE l, EV.LANE_CALFAIL l, EV.LANE_CALABORT l]
    | _ => []
  else if i < 0x30 then [EV.MODEM_ENDn (i - 0x20), EV.MODEM_RXEND]
  else if i < 0x38 then []
  else if i < 0x58 then [EV.LINK_TLLAUNCH, EV.LINK_TLDONE, EV.LINK_REFUSE, EV.LINK_NOACK, EV.LINK_DUTYREF]
  else if i = TK.CIPHER_SELFTEST then [EV.CIPHER_RETIRED]
  else if i = TK.TRNG_RESEED then [EV.TRNG_FAIL, EV.TRNG_READY]
  else if i = TK.KEYSTORE_REFRESH then [EV.KEYSTORE_MASKPASS, EV.KEYSTORE_INTEG]
  else if i = TK.FLASHC_SUSPEND 0 ∨ i = TK.FLASHC_SUSPEND 1 then [EV.FLASHC_DONE (i - 0x78)]
  else if i = TK.FLASHC_RESUME 0 ∨ i = TK.FLASHC_RESUME 1 then
    [EV.FLASHC_DONE (i - 0x7A), EV.FLASHC_ERR, EV.FLASHC_WEAR]
  else if 0x7E ≤ i ∧ i ≤ 0x80 then [EV.MEMCTL_RAKEDONE (i - 0x7E), EV.MEMCTL_CE]
  else if i = TK.RING_SURVEY then [EV.RING_SURVEYED, EV.RING_FAULT]
  else if i = TK.RING_LEAVE then [EV.RING_LEAVE]
  else if 0x97 ≤ i ∧ i ≤ 0x9A then [EV.PMU_WAKE, EV.PMU_ABORTED]
  else if i = TK.PMU_ENTER then [EV.PMU_REFUSED, EV.PMU_ABORTED, EV.PMU_EXCIN]
  else if 0xA3 ≤ i ∧ i < 0x163 then [EV.GPIO_EDGE ((i - 0xA3) / 3)]
  else if 0x163 ≤ i ∧ i < 0x16F then
    let n := (i - 0x163) / 3
    match (i - 0x163) % 3 with
    | 0 => [EV.TMR_CMP n, EV.TMR_OVF n]
    | 2 => [EV.TMR_CAP n]
    | _ => []
  else if i = TK.ADC_START then [EV.ADC_DONE, EV.ADC_LIMIT, EV.ADC_FULL]
  else if i = TK.ADC_STOP then [EV.ADC_DONE]
  else if i = TK.SPIM_START 0 ∨ i = TK.SPIM_START 1 then [EV.SPIM_DONE (i - 0x171)]
  else if i = TK.I2C_START 0 ∨ i = TK.I2C_START 1 then
    [EV.I2C_DONE (i - 0x173), EV.I2C_NACK (i - 0x173)]
  else if i = TK.CAN_TXREQ then [EV.CAN_TX, EV.CAN_ERR, EV.CAN_BUSOFF]
  else []

end Sys2Proof.Machine
end

