-- ==== Sys2Proof/Machine/RegMap.lean ====
section
/-!
DEFINITION. The register map: the bus address of every register the spec lists, every named field of it, and one
row per register with its reset value and its access class by bit (Table SCOPE-2). The names are the spec's own:
`Reg.LANE_CTL l` is the address of LANE_CTL of lane l, `Fld.LANE_CTL_OWNER l` its field OWNER. The rows follow the
heading lines and field tables of the chapters (offsets, reset values, access classes), with the block bases of
Table ARCH-1 and Table PER-1.
-/

namespace Sys2Proof.Machine

/-- A field of a register: its bus address, its lowest bit and its width. -/
structure Field where
  addr : Nat
  lo : Nat
  width : Nat
  deriving DecidableEq, Repr

/-- One row of the register table: where it stands, its index dimensions (count, stride; widest stride first), its
reset value, and the bits of each access class (R5). A bit of no class is read-only. -/
structure RegRow where
  base : Nat
  dims : List (Nat × Nat)
  reset : Nat
  rw : Nat := 0
  wo : Nat := 0
  w1c : Nat := 0
  w1s : Nat := 0
  rc : Nat := 0
  rwl : Nat := 0
  deriving DecidableEq, Repr

namespace Reg

def SYSCFG_ID : Nat := 0x40000000
def SYSCFG_CLKCFG : Nat := 0x40000010
def SYSCFG_FOSTAT : Nat := 0x40000020
def SYSCFG_BGYIELD (n : Nat) : Nat := 0x40000040 + 0x4 * n
def SYSCFG_SALTSTAT : Nat := 0x40000100
def SYSCFG_SALTVER : Nat := 0x40000104
def SYSCFG_SALTCRC : Nat := 0x40000108
def SYSCFG_SALTCMT : Nat := 0x4000010C
def SYSCFG_PATCHADDR : Nat := 0x40000110
def SYSCFG_PATCHCTL : Nat := 0x40000114
def SYSCFG_PATCHSTAT : Nat := 0x40000118
def SYSCFG_CFGCHK : Nat := 0x40000120
def SYSCFG_CFGERR : Nat := 0x40000124
def SYSCFG_CFGLAST : Nat := 0x40000128
def TIDE_NOWLO : Nat := 0x50001000
def TIDE_NOWHI : Nat := 0x50001004
def TIDE_RATE : Nat := 0x50001008
def TIDE_CFG : Nat := 0x5000100C
def TIDE_LOOP : Nat := 0x50001010
def TIDE_GUARD : Nat := 0x50001014
def TIDE_STAT : Nat := 0x50001018
def TIDE_FLAGS : Nat := 0x5000101C
def TIDE_CNT : Nat := 0x50001020
def TIDE_LASTOFS : Nat := 0x50001024
def TIDE_ADJ : Nat := 0x50001028
def TIDE_LFINC : Nat := 0x5000102C
def TIDE_WAKELEAD : Nat := 0x50001030
def TIDE_CLKCTL : Nat := 0x50001034
def TIDE_PATHDLY (n : Nat) : Nat := 0x50001040 + 0x4 * n
def TIDE_CAPLO (k : Nat) : Nat := 0x50001060 + 0x8 * k
def TIDE_CAPHI (k : Nat) : Nat := 0x50001064 + 0x8 * k
def TIDE_GATELATE : Nat := 0x50001080
def TIDE_GATESKIP : Nat := 0x50001084
def TIDE_GATE_TLO (n : Nat) : Nat := 0x50001100 + 0x10 * n
def TIDE_GATE_THI (n : Nat) : Nat := 0x50001104 + 0x10 * n
def TIDE_GATE_PER (n : Nat) : Nat := 0x50001108 + 0x10 * n
def TIDE_GATE_CTL (n : Nat) : Nat := 0x5000110C + 0x10 * n
def FABRIC_STAT : Nat := 0x40010000
def FABRIC_ERR : Nat := 0x40010004
def FABRIC_GOVCNT : Nat := 0x40010008
def FABRIC_LASTTK : Nat := 0x4001000C
def FABRIC_FIRE (m : Nat) : Nat := 0x40010100 + 0x4 * m
def FABRIC_FLAG (m : Nat) : Nat := 0x40010120 + 0x4 * m
def FABRIC_IEN (m : Nat) : Nat := 0x40010140 + 0x4 * m
def FABRIC_QUAR (m : Nat) : Nat := 0x40010160 + 0x4 * m
def FABRIC_BUSY (m : Nat) : Nat := 0x40010180 + 0x4 * m
def FABRIC_TK_OVR (m : Nat) : Nat := 0x40010200 + 0x4 * m
def FABRIC_TK_OFF (m : Nat) : Nat := 0x40010240 + 0x4 * m
def FABRIC_TK_COINC (m : Nat) : Nat := 0x40010400 + 0x4 * m
def FABRIC_SLCNT (n : Nat) : Nat := 0x40010800 + 0x4 * n
def FABRIC_SLCFG (n : Nat) : Nat := 0x40011000 + 0x4 * n
def FABRIC_SLPROD (n : Nat) (p : Nat) : Nat := 0x40012000 + 0x10 * n + 0x4 * p
def FABRIC_TKBIND (i : Nat) : Nat := 0x40014000 + 0x4 * i
def LANE_CTL (l : Nat) : Nat := 0x40020000 + 0x4000 * l
def LANE_STAT (l : Nat) : Nat := 0x40020004 + 0x4000 * l
def LANE_CMD (l : Nat) : Nat := 0x40020008 + 0x4000 * l
def LANE_FREQ (l : Nat) : Nat := 0x4002000C + 0x4000 * l
def LANE_AFC (l : Nat) : Nat := 0x40020010 + 0x4000 * l
def LANE_PWR (l : Nat) : Nat := 0x40020014 + 0x4000 * l
def LANE_PWRSTAT (l : Nat) : Nat := 0x40020018 + 0x4000 * l
def LANE_FLAGS (l : Nat) : Nat := 0x4002001C + 0x4000 * l
def LANE_CNT (l : Nat) : Nat := 0x40020020 + 0x4000 * l
def LANE_HSTAT (l : Nat) : Nat := 0x40020024 + 0x4000 * l
def LANE_HCNT (l : Nat) : Nat := 0x40020028 + 0x4000 * l
def LANE_LASTCODE (l : Nat) : Nat := 0x4002002C + 0x4000 * l
def RF_PORTMAP : Nat := 0x40028000
def RF_PAIR : Nat := 0x40028004
def RF_FLAGS : Nat := 0x40028008
def RF_LIMSTAT : Nat := 0x4002800C
def RF_LIMVER : Nat := 0x40028010
def RF_SBFREQ (k : Nat) : Nat := 0x40028100 + 0x10 * k
def RF_SBPWR (k : Nat) : Nat := 0x40028104 + 0x10 * k
def RF_SBDUTY (k : Nat) : Nat := 0x40028108 + 0x10 * k
def RF_SBDWELL (k : Nat) : Nat := 0x4002810C + 0x10 * k
def RF_SWTIGHT (k : Nat) : Nat := 0x40028200 + 0x8 * k
def RF_SWTIGHT2 (k : Nat) : Nat := 0x40028204 + 0x8 * k
def LANE_CALCFG (l : Nat) : Nat := 0x40020040 + 0x4000 * l
def LANE_CALREQ (l : Nat) : Nat := 0x40020044 + 0x4000 * l
def LANE_CALSTAT (l : Nat) : Nat := 0x40020048 + 0x4000 * l
def LANE_CALSTALE (l : Nat) : Nat := 0x4002004C + 0x4000 * l
def LANE_CALFAILED (l : Nat) : Nat := 0x40020050 + 0x4000 * l
def LANE_CALCNT (l : Nat) : Nat := 0x40020054 + 0x4000 * l
def LANE_CALTEMP (l : Nat) : Nat := 0x40020058 + 0x4000 * l
def LANE_CALRES (l : Nat) (n : Nat) : Nat := 0x40020080 + 0x4000 * l + 0x10 * n
def LANE_CALMETA (l : Nat) (n : Nat) : Nat := 0x40020084 + 0x4000 * l + 0x10 * n
def LANE_CALSTAMP (l : Nat) (n : Nat) : Nat := 0x40020088 + 0x4000 * l + 0x10 * n
def RF_XTRIM : Nat := 0x40028300
def RF_XPULL : Nat := 0x40028304
def RF_RC64TRIM : Nat := 0x40028308
def RF_RC64CFG : Nat := 0x4002830C
def RF_REFCORR : Nat := 0x40028310
def RF_CALSTAT : Nat := 0x40028314
def MODEM_PHYCFG : Nat := 0x40030000
def MODEM_LOADCFG : Nat := 0x40030004
def MODEM_SLOTSTAT : Nat := 0x40030008
def MODEM_SLOTINV : Nat := 0x4003000C
def MODEM_PHYCNT : Nat := 0x40030010
def MODEM_RXSLOT (j : Nat) : Nat := 0x40030040 + 0x4 * j
def MODEM_RXSLOTUSE (j : Nat) : Nat := 0x40030080 + 0x4 * j
def MODEM_RXTAB (j : Nat) (w : Nat) : Nat := 0x40030100 + 0x10 * j + 0x4 * w
def MODEM_RXPROF (j : Nat) (w : Nat) : Nat := 0x40030200 + 0x20 * j + 0x4 * w
def MODEM_RXCFG : Nat := 0x40030400
def MODEM_AGCCFG : Nat := 0x40030404
def MODEM_LANEGAIN (l : Nat) : Nat := 0x40030408 + 0x4 * l
def MODEM_AFCFRAC (l : Nat) : Nat := 0x40030410 + 0x4 * l
def MODEM_PANCFG (p : Nat) : Nat := 0x40030440 + 0x4 * p
def MODEM_PANAA (p : Nat) : Nat := 0x40030480 + 0x4 * p
def MODEM_PANCRC (p : Nat) : Nat := 0x400304C0 + 0x4 * p
def MODEM_PANSTAT (p : Nat) : Nat := 0x40030500 + 0x4 * p
def MODEM_RXCNT (l : Nat) (w : Nat) : Nat := 0x40030540 + 0x10 * l + 0x4 * w
def MODEM_RXFLAGS : Nat := 0x40030560
def MODEM_WBRSSI : Nat := 0x40030564
def MODEM_PANLAST (p : Nat) (w : Nat) : Nat := 0x40030600 + 0x20 * p + 0x4 * w
def LINK_ADDR : Nat := 0x40040800
def LINK_EUILO : Nat := 0x40040804
def LINK_EUIHI : Nat := 0x40040808
def LINK_ACCCFG : Nat := 0x4004080C
def LINK_FBCFG : Nat := 0x40040810
def LINK_NETKEY (k : Nat) : Nat := 0x40040840 + 0x4 * k
def LINK_NETCTR (k : Nat) : Nat := 0x40040880 + 0x4 * k
def LINK_RPEVICTLO : Nat := 0x400408C0
def LINK_RPEVICTHI : Nat := 0x400408C4
def LINK_RPSTAT : Nat := 0x400408C8
def LINK_ACCCNT (w : Nat) : Nat := 0x400408D0 + 0x4 * w
def LINK_ACCLAST : Nat := 0x400408E0
def LINK_CTRFLAGS : Nat := 0x400408E4
def LINK_CTRLAST : Nat := 0x400408E8
def LINK_SCHCFG : Nat := 0x40040000
def LINK_SCHSTAT : Nat := 0x40040004
def LINK_SCHFLAGS : Nat := 0x40040008
def LINK_TLCMD : Nat := 0x4004000C
def LINK_TLARMED (m : Nat) : Nat := 0x40040010 + 0x4 * m
def LINK_LASTRES : Nat := 0x40040018
def LINK_SCHCNT (w : Nat) : Nat := 0x40040020 + 0x4 * w
def LINK_CTXCMD : Nat := 0x40040040
def LINK_CTXARG : Nat := 0x40040044
def LINK_CTXMAPLO : Nat := 0x40040048
def LINK_CTXMAPHI : Nat := 0x4004004C
def LINK_CTXSTAT : Nat := 0x40040050
def LINK_ACKCFG : Nat := 0x40040060
def LINK_FWDCFG : Nat := 0x40040064
def LINK_FWDCNT : Nat := 0x40040068
def LINK_RXQ : Nat := 0x40040070
def LINK_RXQPOP : Nat := 0x40040074
def LINK_POOLCFG : Nat := 0x40040078
def LINK_TRACECFG : Nat := 0x40040080
def LINK_TRACEPTR : Nat := 0x40040084
def LINK_DUTYCREDLO (k : Nat) : Nat := 0x40040100 + 0x8 * k
def LINK_DUTYCREDHI (k : Nat) : Nat := 0x40040104 + 0x8 * k
def LINK_DUTYREF (k : Nat) : Nat := 0x40040140 + 0x4 * k
def LINK_TL_TIME (n : Nat) : Nat := 0x40040400 + 0x4 * n
def LINK_LECFG : Nat := 0x40040A00
def LINK_LEADDRLO : Nat := 0x40040A04
def LINK_LERANDLO : Nat := 0x40040A0C
def LINK_LEADDRHI : Nat := 0x40040A08
def LINK_LERANDHI : Nat := 0x40040A10
def LINK_LEPEERLO : Nat := 0x40040A14
def LINK_LEPEERHI : Nat := 0x40040A18
def LINK_LEPUSH : Nat := 0x40040A1C
def LINK_LESTAGE : Nat := 0x40040A20
def LINK_LEINST : Nat := 0x40040A24
def LINK_LESTGA : Nat := 0x40040A28
def LINK_LESTGB : Nat := 0x40040A2C
def LINK_LESTGC : Nat := 0x40040A30
def LINK_LESTAT : Nat := 0x40040A34
def LINK_LECNT (w : Nat) : Nat := 0x40040A40 + 0x4 * w
def LINK_CSIV (w : Nat) : Nat := 0x40040A50 + 0x4 * w
def LINK_CSCHMAP (w : Nat) : Nat := 0x40040A60 + 0x4 * w
def LINK_CSPATHDLY (a : Nat) : Nat := 0x40040A70 + 0x4 * a
def RING_CTL : Nat := 0x40090000
def RING_STAT : Nat := 0x40090004
def RING_FLAGS : Nat := 0x40090008
def RING_CNT (w : Nat) : Nat := 0x4009000C + 0x4 * w
def RING_TIMING : Nat := 0x40090014
def RING_LOOP : Nat := 0x40090018
def RING_TSLO : Nat := 0x4009001C
def RING_TSHI : Nat := 0x40090020
def RING_THETA : Nat := 0x40090024
def RING_PATHDLY : Nat := 0x40090028
def RING_LASTCODE : Nat := 0x4009002C
def RING_MBDIR : Nat := 0x40090040
def RING_MBFULL : Nat := 0x40090044
def RING_MBSEND : Nat := 0x40090048
def RING_MBPEND : Nat := 0x4009004C
def RINGBYP_STAT : Nat := 0x50005000
def RINGBYP_CNT : Nat := 0x50005004
def CIPHER_CTL : Nat := 0x40050000
def CIPHER_STAT : Nat := 0x40050004
def CIPHER_FLAGS : Nat := 0x40050008
def CIPHER_STCFG : Nat := 0x4005000C
def CIPHER_LASTCODE : Nat := 0x40050010
def CIPHER_CNT (w : Nat) : Nat := 0x40050020 + 0x4 * w
def CIPHER_QCFG (q : Nat) : Nat := 0x40050040 + 0x10 * q
def CIPHER_QHEAD (q : Nat) : Nat := 0x40050044 + 0x10 * q
def CIPHER_QTAIL (q : Nat) : Nat := 0x40050048 + 0x10 * q
def CIPHER_QSTAT (q : Nat) : Nat := 0x4005004C + 0x10 * q
def CIPHER_KEY (s : Nat) (w : Nat) : Nat := 0x40050100 + 0x20 * s + 0x4 * w
def CIPHER_KEYCLR : Nat := 0x40050200
def PKE_CLAIM : Nat := 0x40058000
def PKE_CMD : Nat := 0x40058004
def PKE_STAT : Nat := 0x40058008
def PKE_SHACTL : Nat := 0x4005800C
def PKE_SHADATA : Nat := 0x40058010
def PKE_DIGEST (i : Nat) : Nat := 0x40058020 + 0x4 * i
def TRNG_CTL : Nat := 0x4005C000
def TRNG_STAT : Nat := 0x4005C004
def TRNG_DATA : Nat := 0x4005C008
def TRNG_FLAGS : Nat := 0x4005C00C
def TRNG_CNT : Nat := 0x4005C010
def KEYSTORE_CFG : Nat := 0x40060000
def KEYSTORE_STAT : Nat := 0x40060004
def KEYSTORE_FLAGS : Nat := 0x40060008
def KEYSTORE_CMD : Nat := 0x4006000C
def KEYSTORE_RESULT : Nat := 0x40060010
def KEYSTORE_CTXLEN : Nat := 0x40060014
def KEYSTORE_LAST : Nat := 0x40060018
def KEYSTORE_CNT (w : Nat) : Nat := 0x40060020 + 0x4 * w
def KEYSTORE_NEWATTR (w : Nat) : Nat := 0x40060040 + 0x4 * w
def KEYSTORE_CTXDATA (w : Nat) : Nat := 0x40060080 + 0x4 * w
def KEYSTORE_LCREQ : Nat := 0x400600C0
def KEYSTORE_GLREQ : Nat := 0x400600C4
def KEYSTORE_VALID (m : Nat) : Nat := 0x40060100 + 0x4 * m
def KEYSTORE_SLOTATTR (n : Nat) (w : Nat) : Nat := 0x40062000 + 0x20 * n + 0x4 * w
def BKP_TAMPCFG : Nat := 0x50006000
def BKP_TAMPLOCK : Nat := 0x50006004
def BKP_TAMPSTAT : Nat := 0x50006008
def BKP_TAMPTIME : Nat := 0x5000600C
def BKP_TAMPCNT : Nat := 0x50006010
def SYSCFG_CPUCTL : Nat := 0x40000030
def SYSCFG_CPUSTAT : Nat := 0x40000034
def SYSCFG_CPU1BOOT : Nat := 0x40000038
def MEMCTL_GRPCTL (g : Nat) : Nat := 0x40080000 + 0x4 * g
def MEMCTL_GRPSTAT (g : Nat) : Nat := 0x40080010 + 0x4 * g
def MEMCTL_ECCFLAGS : Nat := 0x40080020
def MEMCTL_ECCCNT : Nat := 0x40080024
def MEMCTL_CEADDR : Nat := 0x40080028
def MEMCTL_UEADDR : Nat := 0x4008002C
def MEMCTL_UEINFO : Nat := 0x40080030
def MEMCTL_RAKESUM (g : Nat) (w : Nat) : Nat := 0x40080040 + 0x10 * g + 0x4 * w
def MEMCTL_SEM (n : Nat) : Nat := 0x40080100 + 0x4 * n
def FLASHC_CFG : Nat := 0x40070000
def FLASHC_CMD (b : Nat) : Nat := 0x40070010 + 0x4 * b
def FLASHC_ADDR (b : Nat) : Nat := 0x40070018 + 0x4 * b
def FLASHC_PDATA (b : Nat) (w : Nat) : Nat := 0x40070020 + 0x10 * b + 0x4 * w
def FLASHC_STAT (b : Nat) : Nat := 0x40070040 + 0x4 * b
def FLASHC_FLAGS : Nat := 0x40070048
def FLASHC_RDSTAT (b : Nat) : Nat := 0x40070050 + 0x4 * b
def FLASHC_ERRCNT : Nat := 0x40070058
def FLASHC_ERRADDR : Nat := 0x4007005C
def FLASHC_EWTHR : Nat := 0x40070060
def FLASHC_EWFIFO : Nat := 0x40070064
def FLASHC_EWSTAT : Nat := 0x40070068
def FLASHC_SUSPERR : Nat := 0x4007006C
def FLASHC_WPROT (b : Nat) : Nat := 0x40070070 + 0x4 * b
def FLASHC_WEARTHR : Nat := 0x40070078
def FLASHC_JSTAT (b : Nat) : Nat := 0x40070080 + 0x4 * b
def FLASHC_ERASECNT (n : Nat) : Nat := 0x40071000 + 0x4 * n
def PMU_REQ : Nat := 0x50000000
def PMU_STAT : Nat := 0x50000004
def PMU_DOMCTL : Nat := 0x50000008
def PMU_DOMSTAT : Nat := 0x5000000C
def PMU_RETCFG : Nat := 0x50000010
def PMU_CFG : Nat := 0x50000014
def PMU_RESUME : Nat := 0x50000018
def PMU_REFCNT : Nat := 0x50000020
def PMU_LASTREF : Nat := 0x50000024
def PMU_LASTABT : Nat := 0x50000028
def PMU_CNT : Nat := 0x5000002C
def WAKE_EN : Nat := 0x50002000
def WAKE_PINPEND (m : Nat) : Nat := 0x50002004 + 0x4 * m
def WAKE_CAUSE : Nat := 0x5000200C
def WAKE_DEEPALM : Nat := 0x50002010
def SUPMON_CFG : Nat := 0x50002020
def SUPMON_STAT : Nat := 0x50002024
def SUPMON_DIPCNT : Nat := 0x50002028
def SUPMON_DIPLAST : Nat := 0x5000202C
def SUPMON_FLAGS : Nat := 0x50002030
def SYSCFG_BOOTREP (n : Nat) : Nat := 0x400001C0 + 0x4 * n
def SYSCFG_RSTREQ : Nat := 0x40000180
def SYSCFG_RSTCAUSE : Nat := 0x40000184
def SYSCFG_BOOTOK : Nat := 0x40000188
def SYSCFG_CWDTCFG : Nat := 0x40000190
def SYSCFG_CWDTKICK : Nat := 0x40000194
def LWDT_CFG : Nat := 0x50003000
def LWDT_KICK : Nat := 0x50003004
def LWDT_STAT : Nat := 0x50003008
def HOSTP_CFG : Nat := 0x400F0000
def HOSTP_IRQEN : Nat := 0x400F0004
def HOSTP_IRQSTAT : Nat := 0x400F0008
def HOSTP_FLAGS : Nat := 0x400F000C
def HOSTP_LASTERR : Nat := 0x400F0010
def HOSTP_CNT : Nat := 0x400F0014
def HOSTP_MBDIR : Nat := 0x400F0018
def HOSTP_MBSET : Nat := 0x400F001C
def HOSTP_MBTOHOST : Nat := 0x400F0020
def HOSTP_MBTODEV : Nat := 0x400F0024
def LIFE_CFG : Nat := 0x50004000
def LIFE_CTL : Nat := 0x50004004
def LIFE_STAT : Nat := 0x50004008
def LIFE_SEQ : Nat := 0x5000400C
def LIFE_CNT : Nat := 0x50004010
def LIFE_VAL (w : Nat) : Nat := 0x50004100 + 0x4 * w
def GPIO_OUT (m : Nat) : Nat := 0x400A0000 + 0x4 * m
def GPIO_OUTSET (m : Nat) : Nat := 0x400A0008 + 0x4 * m
def GPIO_OUTCLR (m : Nat) : Nat := 0x400A0010 + 0x4 * m
def GPIO_DIR (m : Nat) : Nat := 0x400A0018 + 0x4 * m
def GPIO_IN (m : Nat) : Nat := 0x400A0020 + 0x4 * m
def GPIO_EDGE (p : Nat) : Nat := 0x400A0100 + 0x4 * p
def GPIO_PADCFG (p : Nat) : Nat := 0x400A0200 + 0x4 * p
def UART_CFG (n : Nat) : Nat := 0x400B0000 + 0x1000 * n
def UART_TXD (n : Nat) : Nat := 0x400B0004 + 0x1000 * n
def UART_RXD (n : Nat) : Nat := 0x400B0008 + 0x1000 * n
def UART_STAT (n : Nat) : Nat := 0x400B000C + 0x1000 * n
def UART_FLAGS (n : Nat) : Nat := 0x400B0010 + 0x1000 * n
def SPIM_CFG (n : Nat) : Nat := 0x400C0000 + 0x1000 * n
def SPIM_LEN (n : Nat) : Nat := 0x400C0004 + 0x1000 * n
def SPIM_DATA (n : Nat) : Nat := 0x400C0008 + 0x1000 * n
def I2C_CFG (n : Nat) : Nat := 0x400C2000 + 0x1000 * n
def I2C_LEN (n : Nat) : Nat := 0x400C2004 + 0x1000 * n
def I2C_DATA (n : Nat) : Nat := 0x400C2008 + 0x1000 * n
def SPIM_STAT (n : Nat) : Nat := 0x400C000C + 0x1000 * n
def I2C_STAT (n : Nat) : Nat := 0x400C200C + 0x1000 * n
def TMR_CFG (n : Nat) : Nat := 0x400E0000 + 0x1000 * n
def TMR_CMP (n : Nat) : Nat := 0x400E0004 + 0x1000 * n
def TMR_COUNT (n : Nat) : Nat := 0x400E0008 + 0x1000 * n
def TMR_CAPT (n : Nat) : Nat := 0x400E000C + 0x1000 * n
def ADC_CFG : Nat := 0x400E8000
def ADC_RESULT : Nat := 0x400E8004
def ADC_LIMIT : Nat := 0x400E8008
def ADC_FLAGS : Nat := 0x400E800C
def CAN_CTL : Nat := 0x400D0000
def CAN_NBT : Nat := 0x400D0004
def CAN_DBT : Nat := 0x400D0008
def CAN_TDC : Nat := 0x400D000C
def CAN_STAT : Nat := 0x400D0010
def CAN_FLAGS : Nat := 0x400D0014
def CAN_TXREQ : Nat := 0x400D0018
def CAN_TXABORT : Nat := 0x400D001C
def CAN_TXDONE : Nat := 0x400D0020
def CAN_RXFULL : Nat := 0x400D0024
def CAN_BUFDIR : Nat := 0x400D0028
def CAN_TRIGMASK : Nat := 0x400D002C
def CAN_ERRCNT : Nat := 0x400D0030
def CAN_BUFCTL (b : Nat) : Nat := 0x400D0100 + 0x4 * b
def CAN_FILT (b : Nat) : Nat := 0x400D0200 + 0x8 * b
def CAN_MASK (b : Nat) : Nat := 0x400D0204 + 0x8 * b

end Reg

namespace Fld

def SYSCFG_ID_PARTNO : Field := ⟨Reg.SYSCFG_ID, 16, 16⟩
def SYSCFG_ID_FAMILY : Field := ⟨Reg.SYSCFG_ID, 12, 4⟩
def SYSCFG_ID_MAJOR : Field := ⟨Reg.SYSCFG_ID, 8, 4⟩
def SYSCFG_ID_MINOR : Field := ⟨Reg.SYSCFG_ID, 4, 4⟩
def SYSCFG_ID_GRADE : Field := ⟨Reg.SYSCFG_ID, 0, 4⟩
def SYSCFG_CLKCFG_CLKSRC : Field := ⟨Reg.SYSCFG_CLKCFG, 6, 2⟩
def SYSCFG_CLKCFG_PLLLOCK : Field := ⟨Reg.SYSCFG_CLKCFG, 4, 1⟩
def SYSCFG_CLKCFG_CPUDIV : Field := ⟨Reg.SYSCFG_CLKCFG, 2, 2⟩
def SYSCFG_CLKCFG_BUSDIV : Field := ⟨Reg.SYSCFG_CLKCFG, 1, 1⟩
def SYSCFG_CLKCFG_PLLEN : Field := ⟨Reg.SYSCFG_CLKCFG, 0, 1⟩
def SYSCFG_FOSTAT_WARMRST : Field := ⟨Reg.SYSCFG_FOSTAT, 8, 8⟩
def SYSCFG_FOSTAT_LOCKSTEP : Field := ⟨Reg.SYSCFG_FOSTAT, 7, 1⟩
def SYSCFG_FOSTAT_XTALFAIL : Field := ⟨Reg.SYSCFG_FOSTAT, 6, 1⟩
def SYSCFG_FOSTAT_CIPHRET : Field := ⟨Reg.SYSCFG_FOSTAT, 2, 4⟩
def SYSCFG_FOSTAT_LANEBRET : Field := ⟨Reg.SYSCFG_FOSTAT, 1, 1⟩
def SYSCFG_FOSTAT_LANEARET : Field := ⟨Reg.SYSCFG_FOSTAT, 0, 1⟩
def SYSCFG_BGYIELD_YIELDS (n : Nat) : Field := ⟨(Reg.SYSCFG_BGYIELD n), 0, 16⟩
def SYSCFG_SALTSTAT_LASTCODE : Field := ⟨Reg.SYSCFG_SALTSTAT, 16, 16⟩
def SYSCFG_SALTSTAT_PATCHES : Field := ⟨Reg.SYSCFG_SALTSTAT, 8, 8⟩
def SYSCFG_SALTSTAT_UNSIGNED : Field := ⟨Reg.SYSCFG_SALTSTAT, 3, 1⟩
def SYSCFG_SALTSTAT_SOURCE : Field := ⟨Reg.SYSCFG_SALTSTAT, 1, 2⟩
def SYSCFG_SALTSTAT_COMMITTED : Field := ⟨Reg.SYSCFG_SALTSTAT, 0, 1⟩
def SYSCFG_SALTVER_VERSION : Field := ⟨Reg.SYSCFG_SALTVER, 0, 32⟩
def SYSCFG_SALTCRC_CRC : Field := ⟨Reg.SYSCFG_SALTCRC, 0, 32⟩
def SYSCFG_SALTCMT_KEY : Field := ⟨Reg.SYSCFG_SALTCMT, 16, 16⟩
def SYSCFG_SALTCMT_COMMIT : Field := ⟨Reg.SYSCFG_SALTCMT, 0, 1⟩
def SYSCFG_PATCHADDR_ADDR : Field := ⟨Reg.SYSCFG_PATCHADDR, 2, 30⟩
def SYSCFG_PATCHCTL_MODE : Field := ⟨Reg.SYSCFG_PATCHCTL, 1, 2⟩
def SYSCFG_PATCHCTL_START : Field := ⟨Reg.SYSCFG_PATCHCTL, 0, 1⟩
def SYSCFG_PATCHSTAT_RESULT : Field := ⟨Reg.SYSCFG_PATCHSTAT, 16, 16⟩
def SYSCFG_PATCHSTAT_PENDING : Field := ⟨Reg.SYSCFG_PATCHSTAT, 1, 1⟩
def SYSCFG_PATCHSTAT_BUSY : Field := ⟨Reg.SYSCFG_PATCHSTAT, 0, 1⟩
def SYSCFG_CFGCHK_GROUPS : Field := ⟨Reg.SYSCFG_CFGCHK, 16, 12⟩
def SYSCFG_CFGCHK_PERIOD : Field := ⟨Reg.SYSCFG_CFGCHK, 0, 8⟩
def SYSCFG_CFGERR_RELOADS : Field := ⟨Reg.SYSCFG_CFGERR, 16, 16⟩
def SYSCFG_CFGERR_MISMATCHES : Field := ⟨Reg.SYSCFG_CFGERR, 0, 16⟩
def SYSCFG_CFGLAST_GROUP : Field := ⟨Reg.SYSCFG_CFGLAST, 8, 12⟩
def SYSCFG_CFGLAST_TYPE : Field := ⟨Reg.SYSCFG_CFGLAST, 0, 8⟩
def TIDE_NOWLO_NOW : Field := ⟨Reg.TIDE_NOWLO, 0, 32⟩
def TIDE_NOWHI_NOW : Field := ⟨Reg.TIDE_NOWHI, 0, 32⟩
def TIDE_RATE_RATE : Field := ⟨Reg.TIDE_RATE, 0, 24⟩
def TIDE_CFG_HOLDMAX : Field := ⟨Reg.TIDE_CFG, 16, 12⟩
def TIDE_CFG_STEPTHR : Field := ⟨Reg.TIDE_CFG, 8, 8⟩
def TIDE_CFG_SRCSEL : Field := ⟨Reg.TIDE_CFG, 0, 2⟩
def TIDE_LOOP_SNRMIN : Field := ⟨Reg.TIDE_LOOP, 28, 4⟩
def TIDE_LOOP_CANDN : Field := ⟨Reg.TIDE_LOOP, 24, 4⟩
def TIDE_LOOP_PLOSS : Field := ⟨Reg.TIDE_LOOP, 16, 8⟩
def TIDE_LOOP_SLEWK : Field := ⟨Reg.TIDE_LOOP, 8, 5⟩
def TIDE_LOOP_DRIFTK : Field := ⟨Reg.TIDE_LOOP, 4, 4⟩
def TIDE_LOOP_RATEK : Field := ⟨Reg.TIDE_LOOP, 0, 4⟩
def TIDE_GUARD_UNCFLOOR : Field := ⟨Reg.TIDE_GUARD, 24, 8⟩
def TIDE_GUARD_MAXPPM : Field := ⟨Reg.TIDE_GUARD, 16, 5⟩
def TIDE_GUARD_MISSTHR : Field := ⟨Reg.TIDE_GUARD, 12, 4⟩
def TIDE_GUARD_GUARDMIN : Field := ⟨Reg.TIDE_GUARD, 0, 12⟩
def TIDE_STAT_CLKSRC : Field := ⟨Reg.TIDE_STAT, 26, 2⟩
def TIDE_STAT_STEPEPOCH : Field := ⟨Reg.TIDE_STAT, 18, 8⟩
def TIDE_STAT_PVALID : Field := ⟨Reg.TIDE_STAT, 17, 1⟩
def TIDE_STAT_PARENT : Field := ⟨Reg.TIDE_STAT, 8, 9⟩
def TIDE_STAT_LFMODE : Field := ⟨Reg.TIDE_STAT, 7, 1⟩
def TIDE_STAT_SLEWING : Field := ⟨Reg.TIDE_STAT, 6, 1⟩
def TIDE_STAT_HOLDOVER : Field := ⟨Reg.TIDE_STAT, 5, 1⟩
def TIDE_STAT_SYNCED : Field := ⟨Reg.TIDE_STAT, 4, 1⟩
def TIDE_STAT_STRATUM : Field := ⟨Reg.TIDE_STAT, 0, 4⟩
def TIDE_FLAGS_COLD : Field := ⟨Reg.TIDE_FLAGS, 7, 1⟩
def TIDE_FLAGS_RESTORED : Field := ⟨Reg.TIDE_FLAGS, 6, 1⟩
def TIDE_FLAGS_DISC : Field := ⟨Reg.TIDE_FLAGS, 5, 1⟩
def TIDE_FLAGS_XTALFAIL : Field := ⟨Reg.TIDE_FLAGS, 4, 1⟩
def TIDE_FLAGS_PARENTCHG : Field := ⟨Reg.TIDE_FLAGS, 3, 1⟩
def TIDE_FLAGS_SYNC : Field := ⟨Reg.TIDE_FLAGS, 2, 1⟩
def TIDE_FLAGS_LOST : Field := ⟨Reg.TIDE_FLAGS, 1, 1⟩
def TIDE_FLAGS_STEP : Field := ⟨Reg.TIDE_FLAGS, 0, 1⟩
def TIDE_CNT_LOSTS : Field := ⟨Reg.TIDE_CNT, 16, 8⟩
def TIDE_CNT_PCHANGES : Field := ⟨Reg.TIDE_CNT, 8, 8⟩
def TIDE_CNT_STEPS : Field := ⟨Reg.TIDE_CNT, 0, 8⟩
def TIDE_LASTOFS_THETA : Field := ⟨Reg.TIDE_LASTOFS, 0, 32⟩
def TIDE_ADJ_DELTA : Field := ⟨Reg.TIDE_ADJ, 0, 32⟩
def TIDE_LFINC_INC : Field := ⟨Reg.TIDE_LFINC, 0, 32⟩
def TIDE_WAKELEAD_LEAD : Field := ⟨Reg.TIDE_WAKELEAD, 0, 20⟩
def TIDE_CLKCTL_DISCTHR : Field := ⟨Reg.TIDE_CLKCTL, 16, 8⟩
def TIDE_CLKCTL_RESID : Field := ⟨Reg.TIDE_CLKCTL, 8, 8⟩
def TIDE_CLKCTL_XTALOK : Field := ⟨Reg.TIDE_CLKCTL, 1, 1⟩
def TIDE_CLKCTL_RETURN : Field := ⟨Reg.TIDE_CLKCTL, 0, 1⟩
def TIDE_PATHDLY_DLY (n : Nat) : Field := ⟨(Reg.TIDE_PATHDLY n), 0, 16⟩
def TIDE_CAPLO_CAP (k : Nat) : Field := ⟨(Reg.TIDE_CAPLO k), 0, 32⟩
def TIDE_CAPHI_CAP (k : Nat) : Field := ⟨(Reg.TIDE_CAPHI k), 0, 32⟩
def TIDE_GATELATE_LATE : Field := ⟨Reg.TIDE_GATELATE, 0, 32⟩
def TIDE_GATESKIP_LASTGATE : Field := ⟨Reg.TIDE_GATESKIP, 16, 5⟩
def TIDE_GATESKIP_SKIPS : Field := ⟨Reg.TIDE_GATESKIP, 0, 16⟩
def TIDE_GATE_TLO_T (n : Nat) : Field := ⟨(Reg.TIDE_GATE_TLO n), 0, 32⟩
def TIDE_GATE_THI_T (n : Nat) : Field := ⟨(Reg.TIDE_GATE_THI n), 0, 32⟩
def TIDE_GATE_PER_PER (n : Nat) : Field := ⟨(Reg.TIDE_GATE_PER n), 0, 32⟩
def TIDE_GATE_CTL_SLUICE (n : Nat) : Field := ⟨(Reg.TIDE_GATE_CTL n), 8, 8⟩
def TIDE_GATE_CTL_ARMSYNC (n : Nat) : Field := ⟨(Reg.TIDE_GATE_CTL n), 3, 1⟩
def TIDE_GATE_CTL_STEPPOL (n : Nat) : Field := ⟨(Reg.TIDE_GATE_CTL n), 2, 1⟩
def TIDE_GATE_CTL_WAKE (n : Nat) : Field := ⟨(Reg.TIDE_GATE_CTL n), 1, 1⟩
def TIDE_GATE_CTL_EN (n : Nat) : Field := ⟨(Reg.TIDE_GATE_CTL n), 0, 1⟩
def FABRIC_STAT_QUARN : Field := ⟨Reg.FABRIC_STAT, 16, 9⟩
def FABRIC_STAT_BUSYN : Field := ⟨Reg.FABRIC_STAT, 0, 9⟩
def FABRIC_ERR_QFIRE : Field := ⟨Reg.FABRIC_ERR, 1, 1⟩
def FABRIC_ERR_SWREJ : Field := ⟨Reg.FABRIC_ERR, 0, 1⟩
def FABRIC_GOVCNT_LASTSL : Field := ⟨Reg.FABRIC_GOVCNT, 16, 8⟩
def FABRIC_GOVCNT_TRIPS : Field := ⟨Reg.FABRIC_GOVCNT, 0, 16⟩
def FABRIC_LASTTK_CAUSE : Field := ⟨Reg.FABRIC_LASTTK, 16, 1⟩
def FABRIC_LASTTK_TASK : Field := ⟨Reg.FABRIC_LASTTK, 0, 9⟩
def FABRIC_FIRE_FIRE (m : Nat) : Field := ⟨(Reg.FABRIC_FIRE m), 0, 32⟩
def FABRIC_FLAG_FLAG (m : Nat) : Field := ⟨(Reg.FABRIC_FLAG m), 0, 32⟩
def FABRIC_IEN_IEN (m : Nat) : Field := ⟨(Reg.FABRIC_IEN m), 0, 32⟩
def FABRIC_QUAR_QUAR (m : Nat) : Field := ⟨(Reg.FABRIC_QUAR m), 0, 32⟩
def FABRIC_BUSY_BUSY (m : Nat) : Field := ⟨(Reg.FABRIC_BUSY m), 0, 32⟩
def FABRIC_TK_OVR_OVR (m : Nat) : Field := ⟨(Reg.FABRIC_TK_OVR m), 0, 32⟩
def FABRIC_TK_OFF_OFF (m : Nat) : Field := ⟨(Reg.FABRIC_TK_OFF m), 0, 32⟩
def FABRIC_TK_COINC_C3 (m : Nat) : Field := ⟨(Reg.FABRIC_TK_COINC m), 24, 8⟩
def FABRIC_TK_COINC_C2 (m : Nat) : Field := ⟨(Reg.FABRIC_TK_COINC m), 16, 8⟩
def FABRIC_TK_COINC_C1 (m : Nat) : Field := ⟨(Reg.FABRIC_TK_COINC m), 8, 8⟩
def FABRIC_TK_COINC_C0 (m : Nat) : Field := ⟨(Reg.FABRIC_TK_COINC m), 0, 8⟩
def FABRIC_SLCNT_QDROP (n : Nat) : Field := ⟨(Reg.FABRIC_SLCNT n), 24, 8⟩
def FABRIC_SLCNT_MERGED (n : Nat) : Field := ⟨(Reg.FABRIC_SLCNT n), 16, 8⟩
def FABRIC_SLCNT_JOINED (n : Nat) : Field := ⟨(Reg.FABRIC_SLCNT n), 8, 8⟩
def FABRIC_SLCNT_FIRES (n : Nat) : Field := ⟨(Reg.FABRIC_SLCNT n), 0, 8⟩
def FABRIC_SLCFG_GOVRATE (n : Nat) : Field := ⟨(Reg.FABRIC_SLCFG n), 8, 8⟩
def FABRIC_SLCFG_LOOP (n : Nat) : Field := ⟨(Reg.FABRIC_SLCFG n), 4, 1⟩
def FABRIC_SLCFG_IRQ (n : Nat) : Field := ⟨(Reg.FABRIC_SLCFG n), 2, 2⟩
def FABRIC_SLCFG_WATCH (n : Nat) : Field := ⟨(Reg.FABRIC_SLCFG n), 1, 1⟩
def FABRIC_SLCFG_SWFIRE (n : Nat) : Field := ⟨(Reg.FABRIC_SLCFG n), 0, 1⟩
def FABRIC_SLPROD_PRODB (n : Nat) (p : Nat) : Field := ⟨(Reg.FABRIC_SLPROD n p), 16, 16⟩
def FABRIC_SLPROD_PRODA (n : Nat) (p : Nat) : Field := ⟨(Reg.FABRIC_SLPROD n p), 0, 16⟩
def FABRIC_TKBIND_EN (i : Nat) : Field := ⟨(Reg.FABRIC_TKBIND i), 8, 1⟩
def FABRIC_TKBIND_SLUICE (i : Nat) : Field := ⟨(Reg.FABRIC_TKBIND i), 0, 8⟩
def LANE_CTL_RESTORE (l : Nat) : Field := ⟨(Reg.LANE_CTL l), 10, 1⟩
def LANE_CTL_RETIRE (l : Nat) : Field := ⟨(Reg.LANE_CTL l), 9, 1⟩
def LANE_CTL_HEALTHREQ (l : Nat) : Field := ⟨(Reg.LANE_CTL l), 8, 1⟩
def LANE_CTL_OWNER (l : Nat) : Field := ⟨(Reg.LANE_CTL l), 0, 1⟩
def LANE_STAT_ROLES (l : Nat) : Field := ⟨(Reg.LANE_STAT l), 16, 8⟩
def LANE_STAT_RETIRED (l : Nat) : Field := ⟨(Reg.LANE_STAT l), 7, 1⟩
def LANE_STAT_PAIRED (l : Nat) : Field := ⟨(Reg.LANE_STAT l), 6, 1⟩
def LANE_STAT_LOCK (l : Nat) : Field := ⟨(Reg.LANE_STAT l), 5, 1⟩
def LANE_STAT_BAND (l : Nat) : Field := ⟨(Reg.LANE_STAT l), 4, 1⟩
def LANE_STAT_STATE (l : Nat) : Field := ⟨(Reg.LANE_STAT l), 0, 3⟩
def LANE_CMD_CALMODE (l : Nat) : Field := ⟨(Reg.LANE_CMD l), 4, 1⟩
def LANE_CMD_CMD (l : Nat) : Field := ⟨(Reg.LANE_CMD l), 0, 3⟩
def LANE_FREQ_FREQ (l : Nat) : Field := ⟨(Reg.LANE_FREQ l), 0, 27⟩
def LANE_AFC_CORR (l : Nat) : Field := ⟨(Reg.LANE_AFC l), 0, 16⟩
def LANE_PWR_LEVEL (l : Nat) : Field := ⟨(Reg.LANE_PWR l), 0, 8⟩
def LANE_PWRSTAT_HEADROOM (l : Nat) : Field := ⟨(Reg.LANE_PWRSTAT l), 17, 1⟩
def LANE_PWRSTAT_LIMIT (l : Nat) : Field := ⟨(Reg.LANE_PWRSTAT l), 16, 1⟩
def LANE_PWRSTAT_DELIVERED (l : Nat) : Field := ⟨(Reg.LANE_PWRSTAT l), 8, 8⟩
def LANE_PWRSTAT_TARGET (l : Nat) : Field := ⟨(Reg.LANE_PWRSTAT l), 0, 8⟩
def LANE_FLAGS_CMDREJ (l : Nat) : Field := ⟨(Reg.LANE_FLAGS l), 8, 1⟩
def LANE_FLAGS_HEALTHFAIL (l : Nat) : Field := ⟨(Reg.LANE_FLAGS l), 7, 1⟩
def LANE_FLAGS_CALABORT (l : Nat) : Field := ⟨(Reg.LANE_FLAGS l), 6, 1⟩
def LANE_FLAGS_LATE (l : Nat) : Field := ⟨(Reg.LANE_FLAGS l), 5, 1⟩
def LANE_FLAGS_LBTBUSY (l : Nat) : Field := ⟨(Reg.LANE_FLAGS l), 4, 1⟩
def LANE_FLAGS_DWELL (l : Nat) : Field := ⟨(Reg.LANE_FLAGS l), 3, 1⟩
def LANE_FLAGS_PWRCLAMP (l : Nat) : Field := ⟨(Reg.LANE_FLAGS l), 2, 1⟩
def LANE_FLAGS_PAFAULT (l : Nat) : Field := ⟨(Reg.LANE_FLAGS l), 1, 1⟩
def LANE_FLAGS_LOCKFAIL (l : Nat) : Field := ⟨(Reg.LANE_FLAGS l), 0, 1⟩
def LANE_CNT_LBTBUSY (l : Nat) : Field := ⟨(Reg.LANE_CNT l), 24, 8⟩
def LANE_CNT_LATE (l : Nat) : Field := ⟨(Reg.LANE_CNT l), 16, 8⟩
def LANE_CNT_CALABORT (l : Nat) : Field := ⟨(Reg.LANE_CNT l), 0, 16⟩
def LANE_HSTAT_RUNNING (l : Nat) : Field := ⟨(Reg.LANE_HSTAT l), 4, 1⟩
def LANE_HSTAT_LASTSTEP (l : Nat) : Field := ⟨(Reg.LANE_HSTAT l), 0, 4⟩
def LANE_HCNT_RUNS (l : Nat) : Field := ⟨(Reg.LANE_HCNT l), 16, 16⟩
def LANE_HCNT_INCOMPLETE (l : Nat) : Field := ⟨(Reg.LANE_HCNT l), 8, 8⟩
def LANE_HCNT_FAILS (l : Nat) : Field := ⟨(Reg.LANE_HCNT l), 0, 8⟩
def LANE_LASTCODE_CODE (l : Nat) : Field := ⟨(Reg.LANE_LASTCODE l), 0, 16⟩
def RF_PORTMAP_PENDING : Field := ⟨Reg.RF_PORTMAP, 31, 1⟩
def RF_PORTMAP_BL : Field := ⟨Reg.RF_PORTMAP, 6, 2⟩
def RF_PORTMAP_AL : Field := ⟨Reg.RF_PORTMAP, 4, 2⟩
def RF_PORTMAP_BH : Field := ⟨Reg.RF_PORTMAP, 2, 2⟩
def RF_PORTMAP_AH : Field := ⟨Reg.RF_PORTMAP, 0, 2⟩
def RF_PAIR_TXLANE : Field := ⟨Reg.RF_PAIR, 1, 2⟩
def RF_PAIR_EN : Field := ⟨Reg.RF_PAIR, 0, 1⟩
def RF_FLAGS_TIGHTREJ : Field := ⟨Reg.RF_FLAGS, 1, 1⟩
def RF_FLAGS_PORTERR : Field := ⟨Reg.RF_FLAGS, 0, 1⟩
def RF_LIMSTAT_SBCOUNT : Field := ⟨Reg.RF_LIMSTAT, 1, 4⟩
def RF_LIMSTAT_VALID : Field := ⟨Reg.RF_LIMSTAT, 0, 1⟩
def RF_LIMVER_RFVER : Field := ⟨Reg.RF_LIMVER, 0, 32⟩
def RF_SBFREQ_FHI (k : Nat) : Field := ⟨(Reg.RF_SBFREQ k), 16, 16⟩
def RF_SBFREQ_FLO (k : Nat) : Field := ⟨(Reg.RF_SBFREQ k), 0, 16⟩
def RF_SBPWR_LBTTIME (k : Nat) : Field := ⟨(Reg.RF_SBPWR k), 16, 8⟩
def RF_SBPWR_LBTTHR (k : Nat) : Field := ⟨(Reg.RF_SBPWR k), 8, 8⟩
def RF_SBPWR_PMAX (k : Nat) : Field := ⟨(Reg.RF_SBPWR k), 0, 8⟩
def RF_SBDUTY_DUTY (k : Nat) : Field := ⟨(Reg.RF_SBDUTY k), 0, 20⟩
def RF_SBDWELL_DWELL (k : Nat) : Field := ⟨(Reg.RF_SBDWELL k), 0, 16⟩
def RF_SWTIGHT_LBTTIME (k : Nat) : Field := ⟨(Reg.RF_SWTIGHT k), 16, 8⟩
def RF_SWTIGHT_LBTTHR (k : Nat) : Field := ⟨(Reg.RF_SWTIGHT k), 8, 8⟩
def RF_SWTIGHT_PMAX (k : Nat) : Field := ⟨(Reg.RF_SWTIGHT k), 0, 8⟩
def RF_SWTIGHT2_DWELL (k : Nat) : Field := ⟨(Reg.RF_SWTIGHT2 k), 16, 16⟩
def RF_SWTIGHT2_DUTY (k : Nat) : Field := ⟨(Reg.RF_SWTIGHT2 k), 0, 16⟩
def LANE_CALCFG_MAXAGE (l : Nat) : Field := ⟨(Reg.LANE_CALCFG l), 16, 8⟩
def LANE_CALCFG_TEMPTHR (l : Nat) : Field := ⟨(Reg.LANE_CALCFG l), 8, 8⟩
def LANE_CALCFG_BGEN (l : Nat) : Field := ⟨(Reg.LANE_CALCFG l), 0, 1⟩
def LANE_CALREQ_REQ (l : Nat) : Field := ⟨(Reg.LANE_CALREQ l), 0, 17⟩
def LANE_CALSTAT_BUSY (l : Nat) : Field := ⟨(Reg.LANE_CALSTAT l), 15, 1⟩
def LANE_CALSTAT_ENTRY (l : Nat) : Field := ⟨(Reg.LANE_CALSTAT l), 8, 5⟩
def LANE_CALSTAT_STEP (l : Nat) : Field := ⟨(Reg.LANE_CALSTAT l), 0, 5⟩
def LANE_CALSTALE_STALE (l : Nat) : Field := ⟨(Reg.LANE_CALSTALE l), 0, 17⟩
def LANE_CALFAILED_FAILED (l : Nat) : Field := ⟨(Reg.LANE_CALFAILED l), 0, 17⟩
def LANE_CALCNT_DONE (l : Nat) : Field := ⟨(Reg.LANE_CALCNT l), 16, 16⟩
def LANE_CALCNT_RESTARTS (l : Nat) : Field := ⟨(Reg.LANE_CALCNT l), 8, 8⟩
def LANE_CALCNT_FAILS (l : Nat) : Field := ⟨(Reg.LANE_CALCNT l), 0, 8⟩
def LANE_CALTEMP_TEMP (l : Nat) : Field := ⟨(Reg.LANE_CALTEMP l), 0, 8⟩
def LANE_CALRES_RES (l : Nat) (n : Nat) : Field := ⟨(Reg.LANE_CALRES l n), 0, 32⟩
def LANE_CALMETA_TEMP (l : Nat) (n : Nat) : Field := ⟨(Reg.LANE_CALMETA l n), 16, 8⟩
def LANE_CALMETA_FAILCNT (l : Nat) (n : Nat) : Field := ⟨(Reg.LANE_CALMETA l n), 4, 2⟩
def LANE_CALMETA_FAILED (l : Nat) (n : Nat) : Field := ⟨(Reg.LANE_CALMETA l n), 3, 1⟩
def LANE_CALMETA_STALE (l : Nat) (n : Nat) : Field := ⟨(Reg.LANE_CALMETA l n), 2, 1⟩
def LANE_CALMETA_ORIGIN (l : Nat) (n : Nat) : Field := ⟨(Reg.LANE_CALMETA l n), 1, 1⟩
def LANE_CALMETA_VALID (l : Nat) (n : Nat) : Field := ⟨(Reg.LANE_CALMETA l n), 0, 1⟩
def LANE_CALSTAMP_STAMP (l : Nat) (n : Nat) : Field := ⟨(Reg.LANE_CALSTAMP l n), 0, 32⟩
def RF_XTRIM_TRIM : Field := ⟨Reg.RF_XTRIM, 0, 8⟩
def RF_XPULL_PULL : Field := ⟨Reg.RF_XPULL, 0, 16⟩
def RF_RC64TRIM_VALID : Field := ⟨Reg.RF_RC64TRIM, 31, 1⟩
def RF_RC64TRIM_TEMP : Field := ⟨Reg.RF_RC64TRIM, 16, 8⟩
def RF_RC64TRIM_TRIM : Field := ⟨Reg.RF_RC64TRIM, 0, 10⟩
def RF_RC64CFG_PERIOD : Field := ⟨Reg.RF_RC64CFG, 0, 8⟩
def RF_REFCORR_CORR : Field := ⟨Reg.RF_REFCORR, 0, 24⟩
def RF_CALSTAT_XTRIMREJ : Field := ⟨Reg.RF_CALSTAT, 1, 1⟩
def RF_CALSTAT_FTVALID : Field := ⟨Reg.RF_CALSTAT, 0, 1⟩
def MODEM_PHYCFG_SYNCSEQ : Field := ⟨Reg.MODEM_PHYCFG, 0, 6⟩
def MODEM_LOADCFG_SLOTIDLE : Field := ⟨Reg.MODEM_LOADCFG, 16, 12⟩
def MODEM_LOADCFG_LOADFALL : Field := ⟨Reg.MODEM_LOADCFG, 12, 4⟩
def MODEM_LOADCFG_PROFMIN : Field := ⟨Reg.MODEM_LOADCFG, 8, 4⟩
def MODEM_LOADCFG_MARGIN : Field := ⟨Reg.MODEM_LOADCFG, 0, 4⟩
def MODEM_SLOTSTAT_VALID : Field := ⟨Reg.MODEM_SLOTSTAT, 1, 15⟩
def MODEM_SLOTINV_INV : Field := ⟨Reg.MODEM_SLOTINV, 1, 15⟩
def MODEM_PHYCNT_LOADMISS : Field := ⟨Reg.MODEM_PHYCNT, 16, 16⟩
def MODEM_PHYCNT_HDRINV : Field := ⟨Reg.MODEM_PHYCNT, 0, 16⟩
def MODEM_RXSLOT_MARGIN (j : Nat) : Field := ⟨(Reg.MODEM_RXSLOT j), 12, 4⟩
def MODEM_RXSLOT_VALID (j : Nat) : Field := ⟨(Reg.MODEM_RXSLOT j), 11, 1⟩
def MODEM_RXSLOT_MODE (j : Nat) : Field := ⟨(Reg.MODEM_RXSLOT j), 10, 1⟩
def MODEM_RXSLOT_RATE (j : Nat) : Field := ⟨(Reg.MODEM_RXSLOT j), 8, 2⟩
def MODEM_RXSLOT_NCBPS (j : Nat) : Field := ⟨(Reg.MODEM_RXSLOT j), 0, 8⟩
def MODEM_RXSLOTUSE_STAMP (j : Nat) : Field := ⟨(Reg.MODEM_RXSLOTUSE j), 0, 32⟩
def MODEM_RXTAB_CODES (j : Nat) (w : Nat) : Field := ⟨(Reg.MODEM_RXTAB j w), 0, 32⟩
def MODEM_RXPROF_M (j : Nat) (w : Nat) : Field := ⟨(Reg.MODEM_RXPROF j w), 0, 32⟩
def MODEM_RXCFG_AFCK : Field := ⟨Reg.MODEM_RXCFG, 24, 4⟩
def MODEM_RXCFG_SYNCTHR : Field := ⟨Reg.MODEM_RXCFG, 20, 4⟩
def MODEM_RXCFG_DETTHR : Field := ⟨Reg.MODEM_RXCFG, 16, 4⟩
def MODEM_RXCFG_CAPTHR : Field := ⟨Reg.MODEM_RXCFG, 8, 4⟩
def MODEM_RXCFG_CAPEN : Field := ⟨Reg.MODEM_RXCFG, 0, 1⟩
def MODEM_AGCCFG_OVLCLIP : Field := ⟨Reg.MODEM_AGCCFG, 12, 4⟩
def MODEM_AGCCFG_TARGET : Field := ⟨Reg.MODEM_AGCCFG, 0, 8⟩
def MODEM_LANEGAIN_HBLAST (l : Nat) : Field := ⟨(Reg.MODEM_LANEGAIN l), 16, 5⟩
def MODEM_LANEGAIN_LBLAST (l : Nat) : Field := ⟨(Reg.MODEM_LANEGAIN l), 8, 5⟩
def MODEM_LANEGAIN_FROZEN (l : Nat) : Field := ⟨(Reg.MODEM_LANEGAIN l), 7, 1⟩
def MODEM_LANEGAIN_GAIN (l : Nat) : Field := ⟨(Reg.MODEM_LANEGAIN l), 0, 5⟩
def MODEM_AFCFRAC_FRAC (l : Nat) : Field := ⟨(Reg.MODEM_AFCFRAC l), 0, 24⟩
def MODEM_PANCFG_CHAN (p : Nat) : Field := ⟨(Reg.MODEM_PANCFG p), 16, 8⟩
def MODEM_PANCFG_MODE (p : Nat) : Field := ⟨(Reg.MODEM_PANCFG p), 10, 3⟩
def MODEM_PANCFG_AATOL (p : Nat) : Field := ⟨(Reg.MODEM_PANCFG p), 8, 2⟩
def MODEM_PANCFG_EN (p : Nat) : Field := ⟨(Reg.MODEM_PANCFG p), 0, 1⟩
def MODEM_PANAA_AA (p : Nat) : Field := ⟨(Reg.MODEM_PANAA p), 0, 32⟩
def MODEM_PANCRC_CRCINIT (p : Nat) : Field := ⟨(Reg.MODEM_PANCRC p), 0, 24⟩
def MODEM_PANSTAT_LASTCODE (p : Nat) : Field := ⟨(Reg.MODEM_PANSTAT p), 16, 16⟩
def MODEM_PANSTAT_STATE (p : Nat) : Field := ⟨(Reg.MODEM_PANSTAT p), 0, 3⟩
def MODEM_RXCNT_DETECTS (l : Nat) : Field := ⟨Reg.MODEM_RXCNT l 0, 16, 16⟩
def MODEM_RXCNT_FALSEDET (l : Nat) : Field := ⟨Reg.MODEM_RXCNT l 0, 0, 16⟩
def MODEM_RXCNT_REDETECT (l : Nat) : Field := ⟨Reg.MODEM_RXCNT l 1, 16, 16⟩
def MODEM_RXCNT_HDRFAIL (l : Nat) : Field := ⟨Reg.MODEM_RXCNT l 1, 0, 16⟩
def MODEM_RXCNT_CAPTURES (l : Nat) : Field := ⟨Reg.MODEM_RXCNT l 2, 16, 16⟩
def MODEM_RXCNT_HIDDEN (l : Nat) : Field := ⟨Reg.MODEM_RXCNT l 2, 0, 16⟩
def MODEM_RXCNT_OVERLOAD (l : Nat) : Field := ⟨Reg.MODEM_RXCNT l 3, 24, 8⟩
def MODEM_RXCNT_QFULL (l : Nat) : Field := ⟨Reg.MODEM_RXCNT l 3, 16, 8⟩
def MODEM_RXCNT_CUT (l : Nat) : Field := ⟨Reg.MODEM_RXCNT l 3, 0, 16⟩
def MODEM_RXFLAGS_CFGREJ : Field := ⟨Reg.MODEM_RXFLAGS, 4, 1⟩
def MODEM_RXFLAGS_QFULLB : Field := ⟨Reg.MODEM_RXFLAGS, 3, 1⟩
def MODEM_RXFLAGS_QFULLA : Field := ⟨Reg.MODEM_RXFLAGS, 2, 1⟩
def MODEM_RXFLAGS_OVLB : Field := ⟨Reg.MODEM_RXFLAGS, 1, 1⟩
def MODEM_RXFLAGS_OVLA : Field := ⟨Reg.MODEM_RXFLAGS, 0, 1⟩
def MODEM_WBRSSI_LANEB : Field := ⟨Reg.MODEM_WBRSSI, 8, 8⟩
def MODEM_WBRSSI_LANEA : Field := ⟨Reg.MODEM_WBRSSI, 0, 8⟩
def MODEM_PANLAST_REC (p : Nat) (w : Nat) : Field := ⟨(Reg.MODEM_PANLAST p w), 0, 32⟩
def LINK_ADDR_NETID : Field := ⟨Reg.LINK_ADDR, 16, 16⟩
def LINK_ADDR_SHORT : Field := ⟨Reg.LINK_ADDR, 0, 16⟩
def LINK_EUILO_EUI : Field := ⟨Reg.LINK_EUILO, 0, 32⟩
def LINK_EUIHI_EUI : Field := ⟨Reg.LINK_EUIHI, 0, 32⟩
def LINK_ACCCFG_MINMIC : Field := ⟨Reg.LINK_ACCCFG, 20, 2⟩
def LINK_ACCCFG_OVERHEAR : Field := ⟨Reg.LINK_ACCCFG, 18, 1⟩
def LINK_ACCCFG_UNSYNCOK : Field := ⟨Reg.LINK_ACCCFG, 17, 1⟩
def LINK_ACCCFG_OPEN : Field := ⟨Reg.LINK_ACCCFG, 16, 1⟩
def LINK_ACCCFG_WINDOW : Field := ⟨Reg.LINK_ACCCFG, 0, 16⟩
def LINK_FBCFG_FBAGE : Field := ⟨Reg.LINK_FBCFG, 0, 8⟩
def LINK_NETKEY_TXVALID (k : Nat) : Field := ⟨(Reg.LINK_NETKEY k), 15, 1⟩
def LINK_NETKEY_EXH (k : Nat) : Field := ⟨(Reg.LINK_NETKEY k), 14, 1⟩
def LINK_NETKEY_MICSZ (k : Nat) : Field := ⟨(Reg.LINK_NETKEY k), 10, 2⟩
def LINK_NETKEY_EN (k : Nat) : Field := ⟨(Reg.LINK_NETKEY k), 8, 1⟩
def LINK_NETKEY_HANDLE (k : Nat) : Field := ⟨(Reg.LINK_NETKEY k), 0, 8⟩
def LINK_NETCTR_NEXT (k : Nat) : Field := ⟨(Reg.LINK_NETCTR k), 0, 32⟩
def LINK_RPEVICTLO_T : Field := ⟨Reg.LINK_RPEVICTLO, 0, 32⟩
def LINK_RPEVICTHI_T : Field := ⟨Reg.LINK_RPEVICTHI, 0, 32⟩
def LINK_RPSTAT_USED : Field := ⟨Reg.LINK_RPSTAT, 0, 11⟩
def LINK_ACCCNT_ACCEPT : Field := ⟨Reg.LINK_ACCCNT 0, 16, 16⟩
def LINK_ACCCNT_DUP : Field := ⟨Reg.LINK_ACCCNT 0, 0, 16⟩
def LINK_ACCCNT_MICFAIL : Field := ⟨Reg.LINK_ACCCNT 1, 16, 16⟩
def LINK_ACCCNT_OLD : Field := ⟨Reg.LINK_ACCCNT 1, 0, 16⟩
def LINK_ACCCNT_WINDOW : Field := ⟨Reg.LINK_ACCCNT 2, 16, 16⟩
def LINK_ACCCNT_NOKEY : Field := ⟨Reg.LINK_ACCCNT 2, 0, 16⟩
def LINK_ACCCNT_EVICTS : Field := ⟨Reg.LINK_ACCCNT 3, 16, 16⟩
def LINK_ACCCNT_FORMAT : Field := ⟨Reg.LINK_ACCCNT 3, 8, 8⟩
def LINK_ACCCNT_UNSYNC : Field := ⟨Reg.LINK_ACCCNT 3, 0, 8⟩
def LINK_ACCLAST_SRC : Field := ⟨Reg.LINK_ACCLAST, 16, 16⟩
def LINK_ACCLAST_CODE : Field := ⟨Reg.LINK_ACCLAST, 0, 16⟩
def LINK_CTRFLAGS_CTXEXH : Field := ⟨Reg.LINK_CTRFLAGS, 17, 1⟩
def LINK_CTRFLAGS_CTXWARN : Field := ⟨Reg.LINK_CTRFLAGS, 16, 1⟩
def LINK_CTRFLAGS_NETWARN : Field := ⟨Reg.LINK_CTRFLAGS, 1, 15⟩
def LINK_CTRLAST_CTX : Field := ⟨Reg.LINK_CTRLAST, 0, 9⟩
def LINK_SCHCFG_EN : Field := ⟨Reg.LINK_SCHCFG, 31, 1⟩
def LINK_SCHCFG_MAXLATE : Field := ⟨Reg.LINK_SCHCFG, 16, 8⟩
def LINK_SCHCFG_LEAD : Field := ⟨Reg.LINK_SCHCFG, 0, 12⟩
def LINK_SCHSTAT_CELLS : Field := ⟨Reg.LINK_SCHSTAT, 24, 7⟩
def LINK_SCHSTAT_RXQ : Field := ⟨Reg.LINK_SCHSTAT, 16, 6⟩
def LINK_SCHSTAT_ARMED : Field := ⟨Reg.LINK_SCHSTAT, 0, 7⟩
def LINK_SCHFLAGS_CONFLICT : Field := ⟨Reg.LINK_SCHFLAGS, 7, 1⟩
def LINK_SCHFLAGS_DUTYREF : Field := ⟨Reg.LINK_SCHFLAGS, 6, 1⟩
def LINK_SCHFLAGS_SUPTO : Field := ⟨Reg.LINK_SCHFLAGS, 5, 1⟩
def LINK_SCHFLAGS_FWDFULL : Field := ⟨Reg.LINK_SCHFLAGS, 4, 1⟩
def LINK_SCHFLAGS_DACKOVF : Field := ⟨Reg.LINK_SCHFLAGS, 3, 1⟩
def LINK_SCHFLAGS_RXQFULL : Field := ⟨Reg.LINK_SCHFLAGS, 2, 1⟩
def LINK_SCHFLAGS_CTXWR : Field := ⟨Reg.LINK_SCHFLAGS, 1, 1⟩
def LINK_SCHFLAGS_TLWR : Field := ⟨Reg.LINK_SCHFLAGS, 0, 1⟩
def LINK_TLCMD_OP : Field := ⟨Reg.LINK_TLCMD, 8, 2⟩
def LINK_TLCMD_INDEX : Field := ⟨Reg.LINK_TLCMD, 0, 6⟩
def LINK_TLARMED_VALID (m : Nat) : Field := ⟨(Reg.LINK_TLARMED m), 0, 32⟩
def LINK_LASTRES_LATE : Field := ⟨Reg.LINK_LASTRES, 24, 1⟩
def LINK_LASTRES_INDEX : Field := ⟨Reg.LINK_LASTRES, 16, 7⟩
def LINK_LASTRES_CODE : Field := ⟨Reg.LINK_LASTRES, 0, 16⟩
def LINK_SCHCNT_LAUNCH : Field := ⟨Reg.LINK_SCHCNT 0, 16, 16⟩
def LINK_SCHCNT_LATE : Field := ⟨Reg.LINK_SCHCNT 0, 0, 16⟩
def LINK_SCHCNT_REFUSE : Field := ⟨Reg.LINK_SCHCNT 1, 16, 16⟩
def LINK_SCHCNT_PREEMPT : Field := ⟨Reg.LINK_SCHCNT 1, 0, 16⟩
def LINK_SCHCNT_NOACK : Field := ⟨Reg.LINK_SCHCNT 2, 16, 16⟩
def LINK_SCHCNT_RETRY : Field := ⟨Reg.LINK_SCHCNT 2, 0, 16⟩
def LINK_SCHCNT_DACK : Field := ⟨Reg.LINK_SCHCNT 3, 16, 16⟩
def LINK_SCHCNT_BLOCKACK : Field := ⟨Reg.LINK_SCHCNT 3, 8, 8⟩
def LINK_SCHCNT_DACKDROP : Field := ⟨Reg.LINK_SCHCNT 3, 0, 8⟩
def LINK_CTXCMD_OP : Field := ⟨Reg.LINK_CTXCMD, 12, 3⟩
def LINK_CTXCMD_INDEX : Field := ⟨Reg.LINK_CTXCMD, 0, 9⟩
def LINK_CTXARG_ARG : Field := ⟨Reg.LINK_CTXARG, 0, 32⟩
def LINK_CTXMAPLO_MAP : Field := ⟨Reg.LINK_CTXMAPLO, 0, 32⟩
def LINK_CTXMAPHI_MAP : Field := ⟨Reg.LINK_CTXMAPHI, 0, 32⟩
def LINK_CTXSTAT_BUSY : Field := ⟨Reg.LINK_CTXSTAT, 31, 1⟩
def LINK_CTXSTAT_RESULT : Field := ⟨Reg.LINK_CTXSTAT, 0, 16⟩
def LINK_ACKCFG_PWR : Field := ⟨Reg.LINK_ACKCFG, 16, 8⟩
def LINK_ACKCFG_BATMPL : Field := ⟨Reg.LINK_ACKCFG, 8, 5⟩
def LINK_ACKCFG_DACKTO : Field := ⟨Reg.LINK_ACKCFG, 0, 8⟩
def LINK_FWDCFG_TMPL : Field := ⟨Reg.LINK_FWDCFG, 8, 5⟩
def LINK_FWDCFG_UNROUTE : Field := ⟨Reg.LINK_FWDCFG, 1, 1⟩
def LINK_FWDCFG_EN : Field := ⟨Reg.LINK_FWDCFG, 0, 1⟩
def LINK_FWDCNT_FWD : Field := ⟨Reg.LINK_FWDCNT, 16, 16⟩
def LINK_FWDCNT_FAIL : Field := ⟨Reg.LINK_FWDCNT, 8, 8⟩
def LINK_FWDCNT_INQ : Field := ⟨Reg.LINK_FWDCNT, 0, 4⟩
def LINK_RXQ_COUNT : Field := ⟨Reg.LINK_RXQ, 8, 6⟩
def LINK_RXQ_HEAD : Field := ⟨Reg.LINK_RXQ, 0, 5⟩
def LINK_RXQPOP_POP : Field := ⟨Reg.LINK_RXQPOP, 0, 1⟩
def LINK_POOLCFG_RXCELLS : Field := ⟨Reg.LINK_POOLCFG, 0, 7⟩
def LINK_TRACECFG_EN : Field := ⟨Reg.LINK_TRACECFG, 31, 1⟩
def LINK_TRACECFG_MASK : Field := ⟨Reg.LINK_TRACECFG, 0, 9⟩
def LINK_TRACEPTR_WRAPS : Field := ⟨Reg.LINK_TRACEPTR, 8, 16⟩
def LINK_TRACEPTR_NEXT : Field := ⟨Reg.LINK_TRACEPTR, 0, 7⟩
def LINK_DUTYCREDLO_CRED (k : Nat) : Field := ⟨(Reg.LINK_DUTYCREDLO k), 0, 32⟩
def LINK_DUTYCREDHI_CRED (k : Nat) : Field := ⟨(Reg.LINK_DUTYCREDHI k), 0, 32⟩
def LINK_DUTYREF_REFUSED (k : Nat) : Field := ⟨(Reg.LINK_DUTYREF k), 0, 16⟩
def LINK_TL_TIME_T (n : Nat) : Field := ⟨(Reg.LINK_TL_TIME n), 0, 32⟩
def LINK_LECFG_SCA : Field := ⟨Reg.LINK_LECFG, 0, 3⟩
def LINK_LEADDRLO_ADDR : Field := ⟨Reg.LINK_LEADDRLO, 0, 32⟩
def LINK_LERANDLO_ADDR : Field := ⟨Reg.LINK_LERANDLO, 0, 32⟩
def LINK_LEADDRHI_ADDR : Field := ⟨Reg.LINK_LEADDRHI, 0, 16⟩
def LINK_LERANDHI_ADDR : Field := ⟨Reg.LINK_LERANDHI, 0, 16⟩
def LINK_LEPEERLO_ADDR : Field := ⟨Reg.LINK_LEPEERLO, 0, 32⟩
def LINK_LEPEERHI_RANDOM : Field := ⟨Reg.LINK_LEPEERHI, 16, 1⟩
def LINK_LEPEERHI_ADDR : Field := ⟨Reg.LINK_LEPEERHI, 0, 16⟩
def LINK_LEPUSH_DESC : Field := ⟨Reg.LINK_LEPUSH, 16, 6⟩
def LINK_LEPUSH_CTX : Field := ⟨Reg.LINK_LEPUSH, 0, 9⟩
def LINK_LESTAGE_OP : Field := ⟨Reg.LINK_LESTAGE, 12, 2⟩
def LINK_LESTAGE_INDEX : Field := ⟨Reg.LINK_LESTAGE, 0, 9⟩
def LINK_LEINST_INSTANT : Field := ⟨Reg.LINK_LEINST, 0, 16⟩
def LINK_LESTGA_LATENCY : Field := ⟨Reg.LINK_LESTGA, 16, 9⟩
def LINK_LESTGA_INTERVAL : Field := ⟨Reg.LINK_LESTGA, 0, 12⟩
def LINK_LESTGB_WINSIZE : Field := ⟨Reg.LINK_LESTGB, 16, 8⟩
def LINK_LESTGB_SUPTO : Field := ⟨Reg.LINK_LESTGB, 0, 16⟩
def LINK_LESTGC_RXPHY : Field := ⟨Reg.LINK_LESTGC, 18, 2⟩
def LINK_LESTGC_TXPHY : Field := ⟨Reg.LINK_LESTGC, 16, 2⟩
def LINK_LESTGC_WINOFS : Field := ⟨Reg.LINK_LESTGC, 0, 16⟩
def LINK_LESTAT_BUSY : Field := ⟨Reg.LINK_LESTAT, 31, 1⟩
def LINK_LESTAT_CONNS : Field := ⟨Reg.LINK_LESTAT, 24, 5⟩
def LINK_LESTAT_RESULT : Field := ⟨Reg.LINK_LESTAT, 0, 16⟩
def LINK_LECNT_CRCERR : Field := ⟨Reg.LINK_LECNT 0, 16, 16⟩
def LINK_LECNT_ANCHMISS : Field := ⟨Reg.LINK_LECNT 0, 0, 16⟩
def LINK_LECNT_CHSELREJ : Field := ⟨Reg.LINK_LECNT 1, 24, 8⟩
def LINK_LECNT_AUXMISS : Field := ⟨Reg.LINK_LECNT 1, 16, 8⟩
def LINK_LECNT_LENREJ : Field := ⟨Reg.LINK_LECNT 1, 8, 8⟩
def LINK_LECNT_ADVEVT : Field := ⟨Reg.LINK_LECNT 2, 16, 16⟩
def LINK_LECNT_SCANRPT : Field := ⟨Reg.LINK_LECNT 2, 0, 16⟩
def LINK_CSIV_IV (w : Nat) : Field := ⟨(Reg.LINK_CSIV w), 0, 32⟩
def LINK_CSCHMAP_MAP (w : Nat) : Field := ⟨(Reg.LINK_CSCHMAP w), 0, 32⟩
def LINK_CSPATHDLY_DLY (a : Nat) : Field := ⟨(Reg.LINK_CSPATHDLY a), 0, 16⟩
def RING_CTL_APPLY : Field := ⟨Reg.RING_CTL, 16, 4⟩
def RING_CTL_GAPPER : Field := ⟨Reg.RING_CTL, 8, 8⟩
def RING_CTL_SURVEY : Field := ⟨Reg.RING_CTL, 1, 1⟩
def RING_CTL_EN : Field := ⟨Reg.RING_CTL, 0, 1⟩
def RING_STAT_MEMBERS : Field := ⟨Reg.RING_STAT, 8, 4⟩
def RING_STAT_POSITION : Field := ⟨Reg.RING_STAT, 4, 3⟩
def RING_STAT_SURVEYED : Field := ⟨Reg.RING_STAT, 3, 1⟩
def RING_STAT_STATE : Field := ⟨Reg.RING_STAT, 0, 3⟩
def RING_FLAGS_SURVFAIL : Field := ⟨Reg.RING_FLAGS, 5, 1⟩
def RING_FLAGS_DUALMASTER : Field := ⟨Reg.RING_FLAGS, 4, 1⟩
def RING_FLAGS_POSERR : Field := ⟨Reg.RING_FLAGS, 3, 1⟩
def RING_FLAGS_BROKEN : Field := ⟨Reg.RING_FLAGS, 2, 1⟩
def RING_FLAGS_CRCERR : Field := ⟨Reg.RING_FLAGS, 1, 1⟩
def RING_FLAGS_LOS : Field := ⟨Reg.RING_FLAGS, 0, 1⟩
def RING_CNT_CRCERR : Field := ⟨Reg.RING_CNT 0, 16, 16⟩
def RING_CNT_LOS : Field := ⟨Reg.RING_CNT 0, 8, 8⟩
def RING_CNT_SURVEYS : Field := ⟨Reg.RING_CNT 0, 0, 8⟩
def RING_CNT_EVSENT : Field := ⟨Reg.RING_CNT 1, 16, 16⟩
def RING_CNT_MERGED : Field := ⟨Reg.RING_CNT 1, 8, 8⟩
def RING_CNT_MBOVF : Field := ⟨Reg.RING_CNT 1, 0, 8⟩
def RING_TIMING_SEGDLY : Field := ⟨Reg.RING_TIMING, 16, 16⟩
def RING_TIMING_ACC : Field := ⟨Reg.RING_TIMING, 0, 16⟩
def RING_LOOP_HOPS : Field := ⟨Reg.RING_LOOP, 16, 4⟩
def RING_LOOP_DELAY : Field := ⟨Reg.RING_LOOP, 0, 16⟩
def RING_TSLO_TS : Field := ⟨Reg.RING_TSLO, 0, 32⟩
def RING_TSHI_TS : Field := ⟨Reg.RING_TSHI, 0, 32⟩
def RING_THETA_THETA : Field := ⟨Reg.RING_THETA, 0, 32⟩
def RING_PATHDLY_TXDLY : Field := ⟨Reg.RING_PATHDLY, 16, 16⟩
def RING_PATHDLY_RXDLY : Field := ⟨Reg.RING_PATHDLY, 0, 16⟩
def RING_LASTCODE_CODE : Field := ⟨Reg.RING_LASTCODE, 0, 16⟩
def RING_MBDIR_TX : Field := ⟨Reg.RING_MBDIR, 0, 16⟩
def RING_MBFULL_FULL : Field := ⟨Reg.RING_MBFULL, 0, 16⟩
def RING_MBSEND_DST : Field := ⟨Reg.RING_MBSEND, 4, 4⟩
def RING_MBSEND_INDEX : Field := ⟨Reg.RING_MBSEND, 0, 4⟩
def RING_MBPEND_PEND : Field := ⟨Reg.RING_MBPEND, 0, 16⟩
def RINGBYP_STAT_CAUSE : Field := ⟨Reg.RINGBYP_STAT, 1, 3⟩
def RINGBYP_STAT_CLOSED : Field := ⟨Reg.RINGBYP_STAT, 0, 1⟩
def RINGBYP_CNT_CLOSES : Field := ⟨Reg.RINGBYP_CNT, 8, 8⟩
def RINGBYP_CNT_OPENS : Field := ⟨Reg.RINGBYP_CNT, 0, 8⟩
def CIPHER_CTL_RESTORE : Field := ⟨Reg.CIPHER_CTL, 8, 4⟩
def CIPHER_CTL_FLUSH1 : Field := ⟨Reg.CIPHER_CTL, 3, 1⟩
def CIPHER_CTL_FLUSH0 : Field := ⟨Reg.CIPHER_CTL, 2, 1⟩
def CIPHER_CTL_Q1EN : Field := ⟨Reg.CIPHER_CTL, 1, 1⟩
def CIPHER_CTL_Q0EN : Field := ⟨Reg.CIPHER_CTL, 0, 1⟩
def CIPHER_STAT_INSERVICE : Field := ⟨Reg.CIPHER_STAT, 12, 3⟩
def CIPHER_STAT_SHORT : Field := ⟨Reg.CIPHER_STAT, 8, 2⟩
def CIPHER_STAT_BUSY : Field := ⟨Reg.CIPHER_STAT, 4, 4⟩
def CIPHER_STAT_RETIRED : Field := ⟨Reg.CIPHER_STAT, 0, 4⟩
def CIPHER_FLAGS_LASTFAIL : Field := ⟨Reg.CIPHER_FLAGS, 3, 1⟩
def CIPHER_FLAGS_STFAIL : Field := ⟨Reg.CIPHER_FLAGS, 2, 1⟩
def CIPHER_FLAGS_JOBERR1 : Field := ⟨Reg.CIPHER_FLAGS, 1, 1⟩
def CIPHER_FLAGS_JOBERR0 : Field := ⟨Reg.CIPHER_FLAGS, 0, 1⟩
def CIPHER_STCFG_PERIOD : Field := ⟨Reg.CIPHER_STCFG, 0, 16⟩
def CIPHER_LASTCODE_CODE : Field := ⟨Reg.CIPHER_LASTCODE, 0, 16⟩
def CIPHER_CNT_PREEMPT : Field := ⟨Reg.CIPHER_CNT 0, 16, 16⟩
def CIPHER_CNT_LINKWAIT : Field := ⟨Reg.CIPHER_CNT 0, 0, 16⟩
def CIPHER_CNT_STRUNS : Field := ⟨Reg.CIPHER_CNT 1, 16, 16⟩
def CIPHER_CNT_STFAILS : Field := ⟨Reg.CIPHER_CNT 1, 8, 8⟩
def CIPHER_CNT_RETIRES : Field := ⟨Reg.CIPHER_CNT 1, 0, 8⟩
def CIPHER_QCFG_SIZE (q : Nat) : Field := ⟨(Reg.CIPHER_QCFG q), 16, 8⟩
def CIPHER_QCFG_BASE (q : Nat) : Field := ⟨(Reg.CIPHER_QCFG q), 5, 9⟩
def CIPHER_QHEAD_HEAD (q : Nat) : Field := ⟨(Reg.CIPHER_QHEAD q), 0, 8⟩
def CIPHER_QTAIL_TAIL (q : Nat) : Field := ⟨(Reg.CIPHER_QTAIL q), 0, 8⟩
def CIPHER_QSTAT_LASTCODE (q : Nat) : Field := ⟨(Reg.CIPHER_QSTAT q), 16, 16⟩
def CIPHER_QSTAT_SUBMIT (q : Nat) : Field := ⟨(Reg.CIPHER_QSTAT q), 8, 5⟩
def CIPHER_QSTAT_ACTIVE (q : Nat) : Field := ⟨(Reg.CIPHER_QSTAT q), 0, 1⟩
def CIPHER_KEY_KEY (s : Nat) (w : Nat) : Field := ⟨(Reg.CIPHER_KEY s w), 0, 32⟩
def CIPHER_KEYCLR_CLR : Field := ⟨Reg.CIPHER_KEYCLR, 0, 8⟩
def PKE_CLAIM_OWNER : Field := ⟨Reg.PKE_CLAIM, 8, 5⟩
def PKE_CLAIM_LOADER : Field := ⟨Reg.PKE_CLAIM, 1, 1⟩
def PKE_CLAIM_CLAIM : Field := ⟨Reg.PKE_CLAIM, 0, 1⟩
def PKE_CMD_DSTH : Field := ⟨Reg.PKE_CMD, 24, 8⟩
def PKE_CMD_TOKEY : Field := ⟨Reg.PKE_CMD, 17, 1⟩
def PKE_CMD_HANDLE : Field := ⟨Reg.PKE_CMD, 8, 8⟩
def PKE_CMD_KEYSRC : Field := ⟨Reg.PKE_CMD, 4, 2⟩
def PKE_CMD_OP : Field := ⟨Reg.PKE_CMD, 0, 3⟩
def PKE_STAT_CODE : Field := ⟨Reg.PKE_STAT, 16, 16⟩
def PKE_STAT_EPHVALID : Field := ⟨Reg.PKE_STAT, 1, 1⟩
def PKE_STAT_BUSY : Field := ⟨Reg.PKE_STAT, 0, 1⟩
def PKE_SHACTL_VALID : Field := ⟨Reg.PKE_SHACTL, 4, 2⟩
def PKE_SHACTL_FINAL : Field := ⟨Reg.PKE_SHACTL, 1, 1⟩
def PKE_SHACTL_INIT : Field := ⟨Reg.PKE_SHACTL, 0, 1⟩
def PKE_SHADATA_DATA : Field := ⟨Reg.PKE_SHADATA, 0, 32⟩
def PKE_DIGEST_H (i : Nat) : Field := ⟨(Reg.PKE_DIGEST i), 0, 32⟩
def TRNG_CTL_RESEED : Field := ⟨Reg.TRNG_CTL, 16, 16⟩
def TRNG_CTL_RESTART : Field := ⟨Reg.TRNG_CTL, 1, 1⟩
def TRNG_CTL_EN : Field := ⟨Reg.TRNG_CTL, 0, 1⟩
def TRNG_STAT_CODE : Field := ⟨Reg.TRNG_STAT, 16, 16⟩
def TRNG_STAT_FAILED : Field := ⟨Reg.TRNG_STAT, 9, 1⟩
def TRNG_STAT_READY : Field := ⟨Reg.TRNG_STAT, 8, 1⟩
def TRNG_STAT_AVAIL : Field := ⟨Reg.TRNG_STAT, 0, 5⟩
def TRNG_DATA_DATA : Field := ⟨Reg.TRNG_DATA, 0, 32⟩
def TRNG_FLAGS_APTFAIL : Field := ⟨Reg.TRNG_FLAGS, 2, 1⟩
def TRNG_FLAGS_RCTFAIL : Field := ⟨Reg.TRNG_FLAGS, 1, 1⟩
def TRNG_FLAGS_UNDERRUN : Field := ⟨Reg.TRNG_FLAGS, 0, 1⟩
def TRNG_CNT_RESEEDS : Field := ⟨Reg.TRNG_CNT, 16, 16⟩
def TRNG_CNT_FAILS : Field := ⟨Reg.TRNG_CNT, 8, 8⟩
def TRNG_CNT_UNDERRUNS : Field := ⟨Reg.TRNG_CNT, 0, 8⟩
def KEYSTORE_CFG_TIMESYNC : Field := ⟨Reg.KEYSTORE_CFG, 16, 1⟩
def KEYSTORE_CFG_MASKPER : Field := ⟨Reg.KEYSTORE_CFG, 0, 16⟩
def KEYSTORE_STAT_FREE : Field := ⟨Reg.KEYSTORE_STAT, 24, 8⟩
def KEYSTORE_STAT_LC : Field := ⟨Reg.KEYSTORE_STAT, 16, 3⟩
def KEYSTORE_STAT_GL : Field := ⟨Reg.KEYSTORE_STAT, 8, 2⟩
def KEYSTORE_STAT_LCBUSY : Field := ⟨Reg.KEYSTORE_STAT, 3, 1⟩
def KEYSTORE_STAT_LOCKED : Field := ⟨Reg.KEYSTORE_STAT, 2, 1⟩
def KEYSTORE_STAT_ROOTOK : Field := ⟨Reg.KEYSTORE_STAT, 1, 1⟩
def KEYSTORE_FLAGS_INTEG : Field := ⟨Reg.KEYSTORE_FLAGS, 3, 1⟩
def KEYSTORE_FLAGS_CMDREJ : Field := ⟨Reg.KEYSTORE_FLAGS, 2, 1⟩
def KEYSTORE_FLAGS_REFUSE : Field := ⟨Reg.KEYSTORE_FLAGS, 1, 1⟩
def KEYSTORE_FLAGS_TAMPER : Field := ⟨Reg.KEYSTORE_FLAGS, 0, 1⟩
def KEYSTORE_CMD_ARG : Field := ⟨Reg.KEYSTORE_CMD, 16, 16⟩
def KEYSTORE_CMD_SLOT : Field := ⟨Reg.KEYSTORE_CMD, 8, 8⟩
def KEYSTORE_CMD_OP : Field := ⟨Reg.KEYSTORE_CMD, 0, 4⟩
def KEYSTORE_RESULT_BUSY : Field := ⟨Reg.KEYSTORE_RESULT, 31, 1⟩
def KEYSTORE_RESULT_CODE : Field := ⟨Reg.KEYSTORE_RESULT, 0, 16⟩
def KEYSTORE_CTXLEN_LEN : Field := ⟨Reg.KEYSTORE_CTXLEN, 0, 7⟩
def KEYSTORE_LAST_SLOT : Field := ⟨Reg.KEYSTORE_LAST, 24, 8⟩
def KEYSTORE_LAST_MASTER : Field := ⟨Reg.KEYSTORE_LAST, 16, 5⟩
def KEYSTORE_LAST_CODE : Field := ⟨Reg.KEYSTORE_LAST, 0, 16⟩
def KEYSTORE_CNT_ADMITS : Field := ⟨Reg.KEYSTORE_CNT 0, 16, 16⟩
def KEYSTORE_CNT_REFUSALS : Field := ⟨Reg.KEYSTORE_CNT 0, 0, 16⟩
def KEYSTORE_CNT_PASSES : Field := ⟨Reg.KEYSTORE_CNT 1, 16, 16⟩
def KEYSTORE_CNT_INTEGFAIL : Field := ⟨Reg.KEYSTORE_CNT 1, 8, 8⟩
def KEYSTORE_CNT_USEOUT : Field := ⟨Reg.KEYSTORE_CNT 1, 0, 8⟩
def KEYSTORE_NEWATTR_ATTR (w : Nat) : Field := ⟨(Reg.KEYSTORE_NEWATTR w), 0, 32⟩
def KEYSTORE_CTXDATA_DATA (w : Nat) : Field := ⟨(Reg.KEYSTORE_CTXDATA w), 0, 32⟩
def KEYSTORE_LCREQ_KEY : Field := ⟨Reg.KEYSTORE_LCREQ, 16, 16⟩
def KEYSTORE_LCREQ_TO : Field := ⟨Reg.KEYSTORE_LCREQ, 0, 3⟩
def KEYSTORE_GLREQ_KEY : Field := ⟨Reg.KEYSTORE_GLREQ, 16, 16⟩
def KEYSTORE_GLREQ_TO : Field := ⟨Reg.KEYSTORE_GLREQ, 0, 2⟩
def KEYSTORE_VALID_VALID (m : Nat) : Field := ⟨(Reg.KEYSTORE_VALID m), 0, 32⟩
def KEYSTORE_SLOTATTR_ATTR (n : Nat) (w : Nat) : Field := ⟨(Reg.KEYSTORE_SLOTATTR n w), 0, 32⟩
def BKP_TAMPCFG_FILT : Field := ⟨Reg.BKP_TAMPCFG, 20, 2⟩
def BKP_TAMPCFG_POL : Field := ⟨Reg.BKP_TAMPCFG, 16, 4⟩
def BKP_TAMPCFG_RESP : Field := ⟨Reg.BKP_TAMPCFG, 0, 16⟩
def BKP_TAMPLOCK_LOCK : Field := ⟨Reg.BKP_TAMPLOCK, 0, 1⟩
def BKP_TAMPSTAT_ACTIVE : Field := ⟨Reg.BKP_TAMPSTAT, 8, 8⟩
def BKP_TAMPSTAT_LATCH : Field := ⟨Reg.BKP_TAMPSTAT, 0, 8⟩
def BKP_TAMPTIME_LFCNT : Field := ⟨Reg.BKP_TAMPTIME, 0, 32⟩
def BKP_TAMPCNT_EVENTS : Field := ⟨Reg.BKP_TAMPCNT, 0, 8⟩
def SYSCFG_CPUCTL_LSREQ : Field := ⟨Reg.SYSCFG_CPUCTL, 8, 1⟩
def SYSCFG_CPUCTL_CPU1RUN : Field := ⟨Reg.SYSCFG_CPUCTL, 0, 1⟩
def SYSCFG_CPUSTAT_LSMIS : Field := ⟨Reg.SYSCFG_CPUSTAT, 16, 8⟩
def SYSCFG_CPUSTAT_CPU1RUNNING : Field := ⟨Reg.SYSCFG_CPUSTAT, 1, 1⟩
def SYSCFG_CPU1BOOT_ADDR : Field := ⟨Reg.SYSCFG_CPU1BOOT, 2, 30⟩
def MEMCTL_GRPCTL_STOP (g : Nat) : Field := ⟨(Reg.MEMCTL_GRPCTL g), 18, 1⟩
def MEMCTL_GRPCTL_CLEAR (g : Nat) : Field := ⟨(Reg.MEMCTL_GRPCTL g), 17, 1⟩
def MEMCTL_GRPCTL_RAKE (g : Nat) : Field := ⟨(Reg.MEMCTL_GRPCTL g), 16, 1⟩
def MEMCTL_GRPCTL_RAKEPER (g : Nat) : Field := ⟨(Reg.MEMCTL_GRPCTL g), 0, 16⟩
def MEMCTL_GRPSTAT_MBUF (g : Nat) : Field := ⟨(Reg.MEMCTL_GRPSTAT g), 4, 3⟩
def MEMCTL_GRPSTAT_CLEARING (g : Nat) : Field := ⟨(Reg.MEMCTL_GRPSTAT g), 3, 1⟩
def MEMCTL_GRPSTAT_RAKEWAIT (g : Nat) : Field := ⟨(Reg.MEMCTL_GRPSTAT g), 2, 1⟩
def MEMCTL_GRPSTAT_RAKING (g : Nat) : Field := ⟨(Reg.MEMCTL_GRPSTAT g), 1, 1⟩
def MEMCTL_GRPSTAT_ON (g : Nat) : Field := ⟨(Reg.MEMCTL_GRPSTAT g), 0, 1⟩
def MEMCTL_ECCFLAGS_VOTE : Field := ⟨Reg.MEMCTL_ECCFLAGS, 5, 1⟩
def MEMCTL_ECCFLAGS_CACHEPAR : Field := ⟨Reg.MEMCTL_ECCFLAGS, 4, 1⟩
def MEMCTL_ECCFLAGS_RAKEUE : Field := ⟨Reg.MEMCTL_ECCFLAGS, 3, 1⟩
def MEMCTL_ECCFLAGS_MERGEUE : Field := ⟨Reg.MEMCTL_ECCFLAGS, 2, 1⟩
def MEMCTL_ECCFLAGS_UE : Field := ⟨Reg.MEMCTL_ECCFLAGS, 1, 1⟩
def MEMCTL_ECCFLAGS_CE : Field := ⟨Reg.MEMCTL_ECCFLAGS, 0, 1⟩
def MEMCTL_ECCCNT_CE : Field := ⟨Reg.MEMCTL_ECCCNT, 16, 16⟩
def MEMCTL_ECCCNT_UE : Field := ⟨Reg.MEMCTL_ECCCNT, 8, 8⟩
def MEMCTL_ECCCNT_CACHEPAR : Field := ⟨Reg.MEMCTL_ECCCNT, 0, 8⟩
def MEMCTL_CEADDR_ADDR : Field := ⟨Reg.MEMCTL_CEADDR, 0, 32⟩
def MEMCTL_UEADDR_ADDR : Field := ⟨Reg.MEMCTL_UEADDR, 0, 32⟩
def MEMCTL_UEINFO_CODE : Field := ⟨Reg.MEMCTL_UEINFO, 16, 16⟩
def MEMCTL_UEINFO_MASTER : Field := ⟨Reg.MEMCTL_UEINFO, 8, 5⟩
def MEMCTL_UEINFO_KIND : Field := ⟨Reg.MEMCTL_UEINFO, 4, 2⟩
def MEMCTL_UEINFO_GROUP : Field := ⟨Reg.MEMCTL_UEINFO, 0, 2⟩
def MEMCTL_RAKESUM_STATE (g : Nat) : Field := ⟨Reg.MEMCTL_RAKESUM g 0, 30, 2⟩
def MEMCTL_RAKESUM_SCANNED (g : Nat) : Field := ⟨Reg.MEMCTL_RAKESUM g 0, 0, 18⟩
def MEMCTL_RAKESUM_UNCORR (g : Nat) : Field := ⟨Reg.MEMCTL_RAKESUM g 1, 16, 16⟩
def MEMCTL_RAKESUM_CORR (g : Nat) : Field := ⟨Reg.MEMCTL_RAKESUM g 1, 0, 16⟩
def MEMCTL_RAKESUM_FIRSTUE (g : Nat) : Field := ⟨Reg.MEMCTL_RAKESUM g 2, 0, 32⟩
def MEMCTL_RAKESUM_LASTUE (g : Nat) : Field := ⟨Reg.MEMCTL_RAKESUM g 3, 0, 32⟩
def MEMCTL_SEM_OWNER (n : Nat) : Field := ⟨(Reg.MEMCTL_SEM n), 8, 5⟩
def MEMCTL_SEM_TAKE (n : Nat) : Field := ⟨(Reg.MEMCTL_SEM n), 0, 1⟩
def FLASHC_CFG_MINRUN : Field := ⟨Reg.FLASHC_CFG, 8, 8⟩
def FLASHC_CFG_AUTOSUSP : Field := ⟨Reg.FLASHC_CFG, 4, 1⟩
def FLASHC_CFG_WAIT : Field := ⟨Reg.FLASHC_CFG, 0, 2⟩
def FLASHC_CMD_KEY (b : Nat) : Field := ⟨(Reg.FLASHC_CMD b), 24, 8⟩
def FLASHC_CMD_BLOCK (b : Nat) : Field := ⟨(Reg.FLASHC_CMD b), 10, 10⟩
def FLASHC_CMD_OP (b : Nat) : Field := ⟨(Reg.FLASHC_CMD b), 0, 4⟩
def FLASHC_ADDR_UNIT (b : Nat) : Field := ⟨(Reg.FLASHC_ADDR b), 4, 28⟩
def FLASHC_PDATA_DATA (b : Nat) (w : Nat) : Field := ⟨(Reg.FLASHC_PDATA b w), 0, 32⟩
def FLASHC_STAT_LASTCODE (b : Nat) : Field := ⟨(Reg.FLASHC_STAT b), 16, 16⟩
def FLASHC_STAT_PULSES (b : Nat) : Field := ⟨(Reg.FLASHC_STAT b), 9, 7⟩
def FLASHC_STAT_HELD (b : Nat) : Field := ⟨(Reg.FLASHC_STAT b), 8, 1⟩
def FLASHC_STAT_QUEUE (b : Nat) : Field := ⟨(Reg.FLASHC_STAT b), 6, 2⟩
def FLASHC_STAT_STATE (b : Nat) : Field := ⟨(Reg.FLASHC_STAT b), 0, 3⟩
def FLASHC_FLAGS_WEAR : Field := ⟨Reg.FLASHC_FLAGS, 4, 1⟩
def FLASHC_FLAGS_SUSPERR : Field := ⟨Reg.FLASHC_FLAGS, 3, 1⟩
def FLASHC_FLAGS_EW : Field := ⟨Reg.FLASHC_FLAGS, 2, 1⟩
def FLASHC_FLAGS_UE : Field := ⟨Reg.FLASHC_FLAGS, 1, 1⟩
def FLASHC_FLAGS_CMDERR : Field := ⟨Reg.FLASHC_FLAGS, 0, 1⟩
def FLASHC_RDSTAT_UNIT (b : Nat) : Field := ⟨(Reg.FLASHC_RDSTAT b), 4, 28⟩
def FLASHC_RDSTAT_COUNT (b : Nat) : Field := ⟨(Reg.FLASHC_RDSTAT b), 0, 2⟩
def FLASHC_ERRCNT_CE : Field := ⟨Reg.FLASHC_ERRCNT, 16, 16⟩
def FLASHC_ERRCNT_UE : Field := ⟨Reg.FLASHC_ERRCNT, 8, 8⟩
def FLASHC_ERRCNT_SUSPERR : Field := ⟨Reg.FLASHC_ERRCNT, 0, 8⟩
def FLASHC_ERRADDR_ADDR : Field := ⟨Reg.FLASHC_ERRADDR, 0, 32⟩
def FLASHC_EWTHR_THR : Field := ⟨Reg.FLASHC_EWTHR, 0, 2⟩
def FLASHC_EWFIFO_UNIT : Field := ⟨Reg.FLASHC_EWFIFO, 4, 28⟩
def FLASHC_EWFIFO_COUNT : Field := ⟨Reg.FLASHC_EWFIFO, 2, 2⟩
def FLASHC_EWFIFO_VALID : Field := ⟨Reg.FLASHC_EWFIFO, 0, 1⟩
def FLASHC_EWSTAT_OVF : Field := ⟨Reg.FLASHC_EWSTAT, 8, 1⟩
def FLASHC_EWSTAT_FILL : Field := ⟨Reg.FLASHC_EWSTAT, 0, 4⟩
def FLASHC_SUSPERR_ADDR : Field := ⟨Reg.FLASHC_SUSPERR, 0, 32⟩
def FLASHC_WPROT_WP (b : Nat) : Field := ⟨(Reg.FLASHC_WPROT b), 0, 32⟩
def FLASHC_WEARTHR_THR : Field := ⟨Reg.FLASHC_WEARTHR, 0, 24⟩
def FLASHC_JSTAT_SEQ (b : Nat) : Field := ⟨(Reg.FLASHC_JSTAT b), 16, 16⟩
def FLASHC_JSTAT_ACTIVE (b : Nat) : Field := ⟨(Reg.FLASHC_JSTAT b), 8, 1⟩
def FLASHC_JSTAT_USED (b : Nat) : Field := ⟨(Reg.FLASHC_JSTAT b), 0, 8⟩
def FLASHC_ERASECNT_VALID (n : Nat) : Field := ⟨(Reg.FLASHC_ERASECNT n), 31, 1⟩
def FLASHC_ERASECNT_COUNT (n : Nat) : Field := ⟨(Reg.FLASHC_ERASECNT n), 0, 24⟩
def PMU_REQ_KEY : Field := ⟨Reg.PMU_REQ, 16, 16⟩
def PMU_REQ_STATE : Field := ⟨Reg.PMU_REQ, 0, 3⟩
def PMU_STAT_XTALRDY : Field := ⟨Reg.PMU_STAT, 18, 1⟩
def PMU_STAT_EXC : Field := ⟨Reg.PMU_STAT, 17, 1⟩
def PMU_STAT_ENTERING : Field := ⟨Reg.PMU_STAT, 16, 1⟩
def PMU_STAT_LAST : Field := ⟨Reg.PMU_STAT, 8, 3⟩
def PMU_DOMCTL_D10 : Field := ⟨Reg.PMU_DOMCTL, 12, 2⟩
def PMU_DOMCTL_D9 : Field := ⟨Reg.PMU_DOMCTL, 10, 2⟩
def PMU_DOMCTL_D8 : Field := ⟨Reg.PMU_DOMCTL, 8, 2⟩
def PMU_DOMCTL_D7 : Field := ⟨Reg.PMU_DOMCTL, 6, 2⟩
def PMU_DOMCTL_D6 : Field := ⟨Reg.PMU_DOMCTL, 4, 2⟩
def PMU_DOMCTL_D5 : Field := ⟨Reg.PMU_DOMCTL, 2, 2⟩
def PMU_DOMCTL_D4 : Field := ⟨Reg.PMU_DOMCTL, 0, 2⟩
def PMU_DOMSTAT_RET : Field := ⟨Reg.PMU_DOMSTAT, 16, 13⟩
def PMU_DOMSTAT_ON : Field := ⟨Reg.PMU_DOMSTAT, 0, 13⟩
def PMU_RETCFG_NAPFLASH : Field := ⟨Reg.PMU_RETCFG, 8, 1⟩
def PMU_RETCFG_SRAMRET : Field := ⟨Reg.PMU_RETCFG, 4, 3⟩
def PMU_RETCFG_LINKRET : Field := ⟨Reg.PMU_RETCFG, 0, 1⟩
def PMU_CFG_RESLEEP : Field := ⟨Reg.PMU_CFG, 8, 8⟩
def PMU_CFG_EXCEN : Field := ⟨Reg.PMU_CFG, 0, 1⟩
def PMU_RESUME_ADDR : Field := ⟨Reg.PMU_RESUME, 2, 30⟩
def PMU_REFCNT_ABORTS : Field := ⟨Reg.PMU_REFCNT, 16, 16⟩
def PMU_REFCNT_REFUSALS : Field := ⟨Reg.PMU_REFCNT, 0, 16⟩
def PMU_LASTREF_CODE : Field := ⟨Reg.PMU_LASTREF, 16, 16⟩
def PMU_LASTREF_ID : Field := ⟨Reg.PMU_LASTREF, 8, 5⟩
def PMU_LASTREF_STATE : Field := ⟨Reg.PMU_LASTREF, 0, 3⟩
def PMU_LASTABT_SOURCE : Field := ⟨Reg.PMU_LASTABT, 8, 8⟩
def PMU_LASTABT_STATE : Field := ⟨Reg.PMU_LASTABT, 0, 3⟩
def PMU_CNT_EXCURSIONS : Field := ⟨Reg.PMU_CNT, 16, 16⟩
def PMU_CNT_LOSTWIN : Field := ⟨Reg.PMU_CNT, 8, 8⟩
def PMU_CNT_TIMEOUTS : Field := ⟨Reg.PMU_CNT, 0, 8⟩
def WAKE_EN_OFFPIN0 : Field := ⟨Reg.WAKE_EN, 9, 1⟩
def WAKE_EN_TAMPWAKE : Field := ⟨Reg.WAKE_EN, 8, 1⟩
def WAKE_EN_TKWAKE : Field := ⟨Reg.WAKE_EN, 4, 4⟩
def WAKE_EN_IRQ : Field := ⟨Reg.WAKE_EN, 0, 1⟩
def WAKE_PINPEND_PEND (m : Nat) : Field := ⟨(Reg.WAKE_PINPEND m), 0, 32⟩
def WAKE_CAUSE_STATE : Field := ⟨Reg.WAKE_CAUSE, 8, 3⟩
def WAKE_CAUSE_SOURCE : Field := ⟨Reg.WAKE_CAUSE, 0, 8⟩
def WAKE_DEEPALM_LF : Field := ⟨Reg.WAKE_DEEPALM, 0, 32⟩
def SUPMON_CFG_WARN : Field := ⟨Reg.SUPMON_CFG, 0, 6⟩
def SUPMON_STAT_VBATSRC : Field := ⟨Reg.SUPMON_STAT, 1, 1⟩
def SUPMON_STAT_DIP : Field := ⟨Reg.SUPMON_STAT, 0, 1⟩
def SUPMON_DIPCNT_VBATSW : Field := ⟨Reg.SUPMON_DIPCNT, 24, 8⟩
def SUPMON_DIPCNT_DIPS : Field := ⟨Reg.SUPMON_DIPCNT, 0, 16⟩
def SUPMON_DIPLAST_DURATION : Field := ⟨Reg.SUPMON_DIPLAST, 16, 16⟩
def SUPMON_DIPLAST_MIN : Field := ⟨Reg.SUPMON_DIPLAST, 0, 9⟩
def SUPMON_FLAGS_BOR : Field := ⟨Reg.SUPMON_FLAGS, 2, 1⟩
def SUPMON_FLAGS_VBATSW : Field := ⟨Reg.SUPMON_FLAGS, 1, 1⟩
def SUPMON_FLAGS_DIP : Field := ⟨Reg.SUPMON_FLAGS, 0, 1⟩
def SYSCFG_BOOTREP_ID : Field := ⟨Reg.SYSCFG_BOOTREP 0, 0, 32⟩
def SYSCFG_BOOTREP_RESULT : Field := ⟨Reg.SYSCFG_BOOTREP 1, 16, 16⟩
def SYSCFG_BOOTREP_LIMIT : Field := ⟨Reg.SYSCFG_BOOTREP 1, 13, 3⟩
def SYSCFG_BOOTREP_FSCNT : Field := ⟨Reg.SYSCFG_BOOTREP 1, 10, 3⟩
def SYSCFG_BOOTREP_DRYPAN : Field := ⟨Reg.SYSCFG_BOOTREP 1, 9, 1⟩
def SYSCFG_BOOTREP_UNSIGNED : Field := ⟨Reg.SYSCFG_BOOTREP 1, 8, 1⟩
def SYSCFG_BOOTREP_SLOT : Field := ⟨Reg.SYSCFG_BOOTREP 1, 0, 1⟩
def SYSCFG_BOOTREP_CAUSE : Field := ⟨Reg.SYSCFG_BOOTREP 2, 0, 32⟩
def SYSCFG_BOOTREP_VERSION : Field := ⟨Reg.SYSCFG_BOOTREP 3, 0, 32⟩
def SYSCFG_BOOTREP_BOOTTIME : Field := ⟨Reg.SYSCFG_BOOTREP 12, 0, 32⟩
def SYSCFG_RSTREQ_KEY : Field := ⟨Reg.SYSCFG_RSTREQ, 16, 16⟩
def SYSCFG_RSTREQ_CLRFS : Field := ⟨Reg.SYSCFG_RSTREQ, 8, 1⟩
def SYSCFG_RSTREQ_SCOPE : Field := ⟨Reg.SYSCFG_RSTREQ, 0, 2⟩
def SYSCFG_RSTCAUSE_WARM : Field := ⟨Reg.SYSCFG_RSTCAUSE, 16, 3⟩
def SYSCFG_RSTCAUSE_CAUSE : Field := ⟨Reg.SYSCFG_RSTCAUSE, 0, 14⟩
def SYSCFG_BOOTOK_KEY : Field := ⟨Reg.SYSCFG_BOOTOK, 16, 16⟩
def SYSCFG_BOOTOK_OK : Field := ⟨Reg.SYSCFG_BOOTOK, 0, 1⟩
def SYSCFG_CWDTCFG_PAUSEDBG : Field := ⟨Reg.SYSCFG_CWDTCFG, 17, 1⟩
def SYSCFG_CWDTCFG_EN : Field := ⟨Reg.SYSCFG_CWDTCFG, 16, 1⟩
def SYSCFG_CWDTCFG_TIMEOUT : Field := ⟨Reg.SYSCFG_CWDTCFG, 0, 16⟩
def SYSCFG_CWDTKICK_KEY : Field := ⟨Reg.SYSCFG_CWDTKICK, 0, 16⟩
def LWDT_CFG_LOCK : Field := ⟨Reg.LWDT_CFG, 18, 1⟩
def LWDT_CFG_SLEEPRUN : Field := ⟨Reg.LWDT_CFG, 17, 1⟩
def LWDT_CFG_EN : Field := ⟨Reg.LWDT_CFG, 16, 1⟩
def LWDT_CFG_TIMEOUT : Field := ⟨Reg.LWDT_CFG, 0, 16⟩
def LWDT_KICK_KEY : Field := ⟨Reg.LWDT_KICK, 0, 16⟩
def LWDT_STAT_EXPIRIES : Field := ⟨Reg.LWDT_STAT, 16, 8⟩
def LWDT_STAT_REMAIN : Field := ⟨Reg.LWDT_STAT, 0, 16⟩
def HOSTP_CFG_RXTOMB : Field := ⟨Reg.HOSTP_CFG, 1, 1⟩
def HOSTP_CFG_EN : Field := ⟨Reg.HOSTP_CFG, 0, 1⟩
def HOSTP_IRQEN_EN : Field := ⟨Reg.HOSTP_IRQEN, 0, 4⟩
def HOSTP_IRQSTAT_ERR : Field := ⟨Reg.HOSTP_IRQSTAT, 3, 1⟩
def HOSTP_IRQSTAT_SW : Field := ⟨Reg.HOSTP_IRQSTAT, 2, 1⟩
def HOSTP_IRQSTAT_RXQ : Field := ⟨Reg.HOSTP_IRQSTAT, 1, 1⟩
def HOSTP_IRQSTAT_MBOX : Field := ⟨Reg.HOSTP_IRQSTAT, 0, 1⟩
def HOSTP_FLAGS_CMD : Field := ⟨Reg.HOSTP_FLAGS, 5, 1⟩
def HOSTP_FLAGS_ABORT : Field := ⟨Reg.HOSTP_FLAGS, 4, 1⟩
def HOSTP_FLAGS_UNDER : Field := ⟨Reg.HOSTP_FLAGS, 3, 1⟩
def HOSTP_FLAGS_BUSERR : Field := ⟨Reg.HOSTP_FLAGS, 2, 1⟩
def HOSTP_FLAGS_ALIGN : Field := ⟨Reg.HOSTP_FLAGS, 1, 1⟩
def HOSTP_FLAGS_REGION : Field := ⟨Reg.HOSTP_FLAGS, 0, 1⟩
def HOSTP_LASTERR_ADDR : Field := ⟨Reg.HOSTP_LASTERR, 0, 32⟩
def HOSTP_CNT_TRANS : Field := ⟨Reg.HOSTP_CNT, 16, 16⟩
def HOSTP_CNT_ERRS : Field := ⟨Reg.HOSTP_CNT, 8, 8⟩
def HOSTP_CNT_UNDERS : Field := ⟨Reg.HOSTP_CNT, 0, 8⟩
def HOSTP_MBDIR_TOHOST : Field := ⟨Reg.HOSTP_MBDIR, 0, 16⟩
def HOSTP_MBSET_TODEV : Field := ⟨Reg.HOSTP_MBSET, 16, 16⟩
def HOSTP_MBSET_TOHOST : Field := ⟨Reg.HOSTP_MBSET, 0, 16⟩
def HOSTP_MBTOHOST_FULL : Field := ⟨Reg.HOSTP_MBTOHOST, 0, 16⟩
def HOSTP_MBTODEV_FULL : Field := ⟨Reg.HOSTP_MBTODEV, 0, 16⟩
def LIFE_CFG_EN : Field := ⟨Reg.LIFE_CFG, 16, 1⟩
def LIFE_CFG_PERIOD : Field := ⟨Reg.LIFE_CFG, 0, 11⟩
def LIFE_CTL_HARVEST : Field := ⟨Reg.LIFE_CTL, 0, 1⟩
def LIFE_STAT_LASTRES : Field := ⟨Reg.LIFE_STAT, 16, 16⟩
def LIFE_STAT_SLOT : Field := ⟨Reg.LIFE_STAT, 8, 6⟩
def LIFE_STAT_SOURCE : Field := ⟨Reg.LIFE_STAT, 4, 2⟩
def LIFE_STAT_LOADING : Field := ⟨Reg.LIFE_STAT, 2, 1⟩
def LIFE_STAT_BUSY : Field := ⟨Reg.LIFE_STAT, 1, 1⟩
def LIFE_STAT_PEND : Field := ⟨Reg.LIFE_STAT, 0, 1⟩
def LIFE_SEQ_SEQ : Field := ⟨Reg.LIFE_SEQ, 0, 32⟩
def LIFE_CNT_HARVESTS : Field := ⟨Reg.LIFE_CNT, 16, 16⟩
def LIFE_CNT_FAILS : Field := ⟨Reg.LIFE_CNT, 8, 8⟩
def LIFE_CNT_WRAPS : Field := ⟨Reg.LIFE_CNT, 0, 8⟩
def LIFE_VAL_VAL (w : Nat) : Field := ⟨(Reg.LIFE_VAL w), 0, 32⟩
def GPIO_OUT_PADS (m : Nat) : Field := ⟨(Reg.GPIO_OUT m), 0, 32⟩
def GPIO_OUTSET_PADS (m : Nat) : Field := ⟨(Reg.GPIO_OUTSET m), 0, 32⟩
def GPIO_OUTCLR_PADS (m : Nat) : Field := ⟨(Reg.GPIO_OUTCLR m), 0, 32⟩
def GPIO_DIR_PADS (m : Nat) : Field := ⟨(Reg.GPIO_DIR m), 0, 32⟩
def GPIO_IN_PADS (m : Nat) : Field := ⟨(Reg.GPIO_IN m), 0, 32⟩
def GPIO_EDGE_EDGE (p : Nat) : Field := ⟨(Reg.GPIO_EDGE p), 0, 2⟩
def GPIO_PADCFG_WAKE (p : Nat) : Field := ⟨(Reg.GPIO_PADCFG p), 20, 1⟩
def GPIO_PADCFG_DRIVE (p : Nat) : Field := ⟨(Reg.GPIO_PADCFG p), 18, 2⟩
def GPIO_PADCFG_PULL (p : Nat) : Field := ⟨(Reg.GPIO_PADCFG p), 16, 2⟩
def GPIO_PADCFG_FUNC (p : Nat) : Field := ⟨(Reg.GPIO_PADCFG p), 0, 8⟩
def UART_CFG_DIV (n : Nat) : Field := ⟨(Reg.UART_CFG n), 12, 20⟩
def UART_CFG_DATA7 (n : Nat) : Field := ⟨(Reg.UART_CFG n), 6, 1⟩
def UART_CFG_STOP2 (n : Nat) : Field := ⟨(Reg.UART_CFG n), 5, 1⟩
def UART_CFG_PARITY (n : Nat) : Field := ⟨(Reg.UART_CFG n), 3, 2⟩
def UART_CFG_FLOW (n : Nat) : Field := ⟨(Reg.UART_CFG n), 2, 1⟩
def UART_CFG_EN (n : Nat) : Field := ⟨(Reg.UART_CFG n), 0, 1⟩
def UART_TXD_CH (n : Nat) : Field := ⟨(Reg.UART_TXD n), 0, 8⟩
def UART_RXD_CH (n : Nat) : Field := ⟨(Reg.UART_RXD n), 0, 8⟩
def UART_STAT_TXFILL (n : Nat) : Field := ⟨(Reg.UART_STAT n), 8, 5⟩
def UART_STAT_RXFILL (n : Nat) : Field := ⟨(Reg.UART_STAT n), 0, 5⟩
def UART_FLAGS_TIMEOUT (n : Nat) : Field := ⟨(Reg.UART_FLAGS n), 3, 1⟩
def UART_FLAGS_PARITY (n : Nat) : Field := ⟨(Reg.UART_FLAGS n), 2, 1⟩
def UART_FLAGS_FRAME (n : Nat) : Field := ⟨(Reg.UART_FLAGS n), 1, 1⟩
def UART_FLAGS_OVR (n : Nat) : Field := ⟨(Reg.UART_FLAGS n), 0, 1⟩
def SPIM_CFG_DIV (n : Nat) : Field := ⟨(Reg.SPIM_CFG n), 8, 3⟩
def SPIM_CFG_LSBFIRST (n : Nat) : Field := ⟨(Reg.SPIM_CFG n), 3, 1⟩
def SPIM_CFG_MODE (n : Nat) : Field := ⟨(Reg.SPIM_CFG n), 1, 2⟩
def SPIM_CFG_EN (n : Nat) : Field := ⟨(Reg.SPIM_CFG n), 0, 1⟩
def SPIM_LEN_LEN (n : Nat) : Field := ⟨(Reg.SPIM_LEN n), 0, 6⟩
def SPIM_DATA_DATA (n : Nat) : Field := ⟨(Reg.SPIM_DATA n), 0, 8⟩
def I2C_CFG_ADDR (n : Nat) : Field := ⟨(Reg.I2C_CFG n), 16, 7⟩
def I2C_CFG_SPEED (n : Nat) : Field := ⟨(Reg.I2C_CFG n), 8, 2⟩
def I2C_CFG_READ (n : Nat) : Field := ⟨(Reg.I2C_CFG n), 1, 1⟩
def I2C_CFG_EN (n : Nat) : Field := ⟨(Reg.I2C_CFG n), 0, 1⟩
def I2C_LEN_LEN (n : Nat) : Field := ⟨(Reg.I2C_LEN n), 0, 5⟩
def I2C_DATA_DATA (n : Nat) : Field := ⟨(Reg.I2C_DATA n), 0, 8⟩
def SPIM_STAT_BUSY (n : Nat) : Field := ⟨(Reg.SPIM_STAT n), 0, 1⟩
def I2C_STAT_NACK (n : Nat) : Field := ⟨(Reg.I2C_STAT n), 1, 1⟩
def I2C_STAT_BUSY (n : Nat) : Field := ⟨(Reg.I2C_STAT n), 0, 1⟩
def TMR_CFG_LFCLK (n : Nat) : Field := ⟨(Reg.TMR_CFG n), 8, 1⟩
def TMR_CFG_PRE (n : Nat) : Field := ⟨(Reg.TMR_CFG n), 4, 4⟩
def TMR_CFG_ONESHOT (n : Nat) : Field := ⟨(Reg.TMR_CFG n), 1, 1⟩
def TMR_CFG_OUTEN (n : Nat) : Field := ⟨(Reg.TMR_CFG n), 0, 1⟩
def TMR_CMP_VAL (n : Nat) : Field := ⟨(Reg.TMR_CMP n), 0, 32⟩
def TMR_COUNT_VAL (n : Nat) : Field := ⟨(Reg.TMR_COUNT n), 0, 32⟩
def TMR_CAPT_VAL (n : Nat) : Field := ⟨(Reg.TMR_CAPT n), 0, 32⟩
def ADC_CFG_CHANS : Field := ⟨Reg.ADC_CFG, 16, 11⟩
def ADC_CFG_EN : Field := ⟨Reg.ADC_CFG, 0, 1⟩
def ADC_RESULT_VALID : Field := ⟨Reg.ADC_RESULT, 31, 1⟩
def ADC_RESULT_CHAN : Field := ⟨Reg.ADC_RESULT, 16, 4⟩
def ADC_RESULT_RESULT : Field := ⟨Reg.ADC_RESULT, 0, 12⟩
def ADC_LIMIT_HIGH : Field := ⟨Reg.ADC_LIMIT, 16, 12⟩
def ADC_LIMIT_LOW : Field := ⟨Reg.ADC_LIMIT, 0, 12⟩
def ADC_FLAGS_OVF : Field := ⟨Reg.ADC_FLAGS, 0, 1⟩
def CAN_CTL_ABOM : Field := ⟨Reg.CAN_CTL, 9, 1⟩
def CAN_CTL_INIT : Field := ⟨Reg.CAN_CTL, 8, 1⟩
def CAN_CTL_TDCEN : Field := ⟨Reg.CAN_CTL, 5, 1⟩
def CAN_CTL_LISTEN : Field := ⟨Reg.CAN_CTL, 4, 1⟩
def CAN_CTL_LOOPBACK : Field := ⟨Reg.CAN_CTL, 3, 1⟩
def CAN_CTL_BRSEN : Field := ⟨Reg.CAN_CTL, 2, 1⟩
def CAN_CTL_FDEN : Field := ⟨Reg.CAN_CTL, 1, 1⟩
def CAN_CTL_EN : Field := ⟨Reg.CAN_CTL, 0, 1⟩
def CAN_NBT_SJW : Field := ⟨Reg.CAN_NBT, 25, 7⟩
def CAN_NBT_TSEG2 : Field := ⟨Reg.CAN_NBT, 18, 7⟩
def CAN_NBT_TSEG1 : Field := ⟨Reg.CAN_NBT, 10, 8⟩
def CAN_NBT_BRP : Field := ⟨Reg.CAN_NBT, 0, 10⟩
def CAN_DBT_SJW : Field := ⟨Reg.CAN_DBT, 14, 4⟩
def CAN_DBT_TSEG2 : Field := ⟨Reg.CAN_DBT, 10, 4⟩
def CAN_DBT_TSEG1 : Field := ⟨Reg.CAN_DBT, 5, 5⟩
def CAN_DBT_BRP : Field := ⟨Reg.CAN_DBT, 0, 5⟩
def CAN_TDC_TDCV : Field := ⟨Reg.CAN_TDC, 16, 7⟩
def CAN_TDC_TDCF : Field := ⟨Reg.CAN_TDC, 8, 7⟩
def CAN_TDC_TDCO : Field := ⟨Reg.CAN_TDC, 0, 7⟩
def CAN_STAT_LASTERR : Field := ⟨Reg.CAN_STAT, 24, 8⟩
def CAN_STAT_REC : Field := ⟨Reg.CAN_STAT, 16, 8⟩
def CAN_STAT_TEC : Field := ⟨Reg.CAN_STAT, 8, 8⟩
def CAN_STAT_RXBUSY : Field := ⟨Reg.CAN_STAT, 3, 1⟩
def CAN_STAT_TXBUSY : Field := ⟨Reg.CAN_STAT, 2, 1⟩
def CAN_STAT_STATE : Field := ⟨Reg.CAN_STAT, 0, 2⟩
def CAN_FLAGS_PROTERR : Field := ⟨Reg.CAN_FLAGS, 5, 1⟩
def CAN_FLAGS_TXABORT : Field := ⟨Reg.CAN_FLAGS, 4, 1⟩
def CAN_FLAGS_RXOVR : Field := ⟨Reg.CAN_FLAGS, 3, 1⟩
def CAN_FLAGS_WARN : Field := ⟨Reg.CAN_FLAGS, 2, 1⟩
def CAN_FLAGS_PASSIVE : Field := ⟨Reg.CAN_FLAGS, 1, 1⟩
def CAN_FLAGS_BUSOFF : Field := ⟨Reg.CAN_FLAGS, 0, 1⟩
def CAN_TXREQ_BUF : Field := ⟨Reg.CAN_TXREQ, 0, 32⟩
def CAN_TXABORT_BUF : Field := ⟨Reg.CAN_TXABORT, 0, 32⟩
def CAN_TXDONE_BUF : Field := ⟨Reg.CAN_TXDONE, 0, 32⟩
def CAN_RXFULL_BUF : Field := ⟨Reg.CAN_RXFULL, 0, 32⟩
def CAN_BUFDIR_BUF : Field := ⟨Reg.CAN_BUFDIR, 0, 32⟩
def CAN_TRIGMASK_BUF : Field := ⟨Reg.CAN_TRIGMASK, 0, 32⟩
def CAN_ERRCNT_RXOVRS : Field := ⟨Reg.CAN_ERRCNT, 24, 8⟩
def CAN_ERRCNT_BUSOFFS : Field := ⟨Reg.CAN_ERRCNT, 16, 8⟩
def CAN_ERRCNT_PROTERRS : Field := ⟨Reg.CAN_ERRCNT, 0, 16⟩
def CAN_BUFCTL_ESI (b : Nat) : Field := ⟨(Reg.CAN_BUFCTL b), 5, 1⟩
def CAN_BUFCTL_BRS (b : Nat) : Field := ⟨(Reg.CAN_BUFCTL b), 4, 1⟩
def CAN_BUFCTL_DLC (b : Nat) : Field := ⟨(Reg.CAN_BUFCTL b), 0, 4⟩
def CAN_FILT_EN (b : Nat) : Field := ⟨(Reg.CAN_FILT b), 30, 1⟩
def CAN_FILT_IDE (b : Nat) : Field := ⟨(Reg.CAN_FILT b), 29, 1⟩
def CAN_FILT_ID (b : Nat) : Field := ⟨(Reg.CAN_FILT b), 0, 29⟩
def CAN_MASK_MASK (b : Nat) : Field := ⟨(Reg.CAN_MASK b), 0, 29⟩

end Fld

/-- The registers of SYSCFG. -/
def rowsSYSCFG : List RegRow := [
  { base := 0x40000000, dims := [], reset := 0x92561110 },
  { base := 0x40000010, dims := [], reset := 0x00000000, rw := 0x0000000F },
  { base := 0x40000020, dims := [], reset := 0x00000000 },
  { base := 0x40000030, dims := [], reset := 0x00000000, rw := 0x00000101 },
  { base := 0x40000034, dims := [], reset := 0x00000000 },
  { base := 0x40000038, dims := [], reset := 0x00000000, rw := 0xFFFFFFFC },
  { base := 0x40000040, dims := [(8, 0x4)], reset := 0x00000000, rc := 0x0000FFFF },
  { base := 0x40000100, dims := [], reset := 0x00000000 },
  { base := 0x40000104, dims := [], reset := 0x00000000 },
  { base := 0x40000108, dims := [], reset := 0x00000000 },
  { base := 0x4000010C, dims := [], reset := 0x00000000, wo := 0xFFFF0001 },
  { base := 0x40000110, dims := [], reset := 0x00000000, rw := 0xFFFFFFFC },
  { base := 0x40000114, dims := [], reset := 0x00000000, rw := 0x00000006, w1s := 0x00000001 },
  { base := 0x40000118, dims := [], reset := 0x00000000 },
  { base := 0x40000120, dims := [], reset := 0x00000001, rw := 0x000000FF },
  { base := 0x40000124, dims := [], reset := 0x00000000, rc := 0xFFFFFFFF },
  { base := 0x40000128, dims := [], reset := 0x00000000 },
  { base := 0x40000180, dims := [], reset := 0x00000000, wo := 0xFFFF0103 },
  { base := 0x40000184, dims := [], reset := 0x00000000 },
  { base := 0x40000188, dims := [], reset := 0x00000000, wo := 0xFFFF0000 },
  { base := 0x40000190, dims := [], reset := 0x000203E8, rw := 0x0002FFFF, w1s := 0x00010000 },
  { base := 0x40000194, dims := [], reset := 0x00000000, wo := 0x0000FFFF },
  { base := 0x400001C0, dims := [(16, 0x4)], reset := 0x00000000 }
]

/-- The registers of FABRIC. -/
def rowsFABRIC : List RegRow := [
  { base := 0x40010000, dims := [], reset := 0x00000000 },
  { base := 0x40010004, dims := [], reset := 0x00000000, w1c := 0x00000003 },
  { base := 0x40010008, dims := [], reset := 0x00000000, rc := 0x00FFFFFF },
  { base := 0x4001000C, dims := [], reset := 0x00000000 },
  { base := 0x40010100, dims := [(8, 0x4)], reset := 0x00000000, wo := 0xFFFFFFFF },
  { base := 0x40010120, dims := [(8, 0x4)], reset := 0x00000000, w1c := 0xFFFFFFFF },
  { base := 0x40010140, dims := [(8, 0x4)], reset := 0xFFFFFFFF, rw := 0xFFFFFFFF },
  { base := 0x40010160, dims := [(8, 0x4)], reset := 0x00000000, w1c := 0xFFFFFFFF },
  { base := 0x40010180, dims := [(8, 0x4)], reset := 0x00000000 },
  { base := 0x40010200, dims := [(15, 0x4)], reset := 0x00000000, w1c := 0xFFFFFFFF },
  { base := 0x40010240, dims := [(15, 0x4)], reset := 0x00000000, w1c := 0xFFFFFFFF },
  { base := 0x40010400, dims := [(120, 0x4)], reset := 0x00000000, rc := 0xFFFFFFFF },
  { base := 0x40010800, dims := [(256, 0x4)], reset := 0x00000000, rc := 0xFFFFFFFF },
  { base := 0x40011000, dims := [(256, 0x4)], reset := 0x00000800, rwl := 0x0000FF1F },
  { base := 0x40012000, dims := [(256, 0x10), (4, 0x4)], reset := 0xFFFFFFFF, rwl := 0xFFFFFFFF },
  { base := 0x40014000, dims := [(480, 0x4)], reset := 0x00000000, rwl := 0x000001FF }
]

/-- The registers of LANE. -/
def rowsLANE : List RegRow := [
  { base := 0x40020000, dims := [(2, 0x4000)], reset := 0x00000000, rw := 0x00000001, w1s := 0x00000700 },
  { base := 0x40020004, dims := [(2, 0x4000)], reset := 0x00000000 },
  { base := 0x40020008, dims := [(2, 0x4000)], reset := 0x00000000, wo := 0x00000017 },
  { base := 0x4002000C, dims := [(2, 0x4000)], reset := 0x04B10000, rw := 0x07FFFFFF },
  { base := 0x40020010, dims := [(2, 0x4000)], reset := 0x00000000 },
  { base := 0x40020014, dims := [(2, 0x4000)], reset := 0x00000000, rw := 0x000000FF },
  { base := 0x40020018, dims := [(2, 0x4000)], reset := 0x00000000 },
  { base := 0x4002001C, dims := [(2, 0x4000)], reset := 0x00000000, w1c := 0x000001FF },
  { base := 0x40020020, dims := [(2, 0x4000)], reset := 0x00000000, rc := 0xFFFFFFFF },
  { base := 0x40020024, dims := [(2, 0x4000)], reset := 0x00000000 },
  { base := 0x40020028, dims := [(2, 0x4000)], reset := 0x00000000, rc := 0xFFFFFFFF },
  { base := 0x4002002C, dims := [(2, 0x4000)], reset := 0x00000000 },
  { base := 0x40020040, dims := [(2, 0x4000)], reset := 0x003C0801, rw := 0x00FFFF01 },
  { base := 0x40020044, dims := [(2, 0x4000)], reset := 0x00000000, wo := 0x0001FFFF },
  { base := 0x40020048, dims := [(2, 0x4000)], reset := 0x00000000 },
  { base := 0x4002004C, dims := [(2, 0x4000)], reset := 0x0001FFFF },
  { base := 0x40020050, dims := [(2, 0x4000)], reset := 0x00000000 },
  { base := 0x40020054, dims := [(2, 0x4000)], reset := 0x00000000, rc := 0xFFFFFFFF },
  { base := 0x40020058, dims := [(2, 0x4000)], reset := 0x00000000 },
  { base := 0x40020080, dims := [(2, 0x4000), (17, 0x10)], reset := 0x00000000 },
  { base := 0x40020084, dims := [(2, 0x4000), (17, 0x10)], reset := 0x00190005 },
  { base := 0x40020088, dims := [(2, 0x4000), (17, 0x10)], reset := 0x00000000 }
]

/-- The registers of RF. -/
def rowsRF : List RegRow := [
  { base := 0x40028000, dims := [], reset := 0x00000044, rw := 0x000000FF },
  { base := 0x40028004, dims := [], reset := 0x00000000, rw := 0x00000007 },
  { base := 0x40028008, dims := [], reset := 0x00000000, w1c := 0x00000003 },
  { base := 0x4002800C, dims := [], reset := 0x00000000 },
  { base := 0x40028010, dims := [], reset := 0x00000000 },
  { base := 0x40028100, dims := [(8, 0x10)], reset := 0x00000000 },
  { base := 0x40028104, dims := [(8, 0x10)], reset := 0x00000000 },
  { base := 0x40028108, dims := [(8, 0x10)], reset := 0x00000000 },
  { base := 0x4002810C, dims := [(8, 0x10)], reset := 0x00000000 },
  { base := 0x40028200, dims := [(8, 0x8)], reset := 0x00FF7F7F, rw := 0x00FFFFFF },
  { base := 0x40028204, dims := [(8, 0x8)], reset := 0xFFFFFFFF, rw := 0xFFFFFFFF },
  { base := 0x40028300, dims := [], reset := 0x00000000, rw := 0x000000FF },
  { base := 0x40028304, dims := [], reset := 0x00000000 },
  { base := 0x40028308, dims := [], reset := 0x00190000 },
  { base := 0x4002830C, dims := [], reset := 0x00000001, rw := 0x000000FF },
  { base := 0x40028310, dims := [], reset := 0x00000000 },
  { base := 0x40028314, dims := [], reset := 0x00000000, w1c := 0x00000002 }
]

/-- The registers of MODEM. -/
def rowsMODEM : List RegRow := [
  { base := 0x40030000, dims := [], reset := 0x00000000, rw := 0x0000003F },
  { base := 0x40030004, dims := [], reset := 0x02582802, rw := 0x0FFFFF0F },
  { base := 0x40030008, dims := [], reset := 0x00000000 },
  { base := 0x4003000C, dims := [], reset := 0x00000000, wo := 0x0000FFFE },
  { base := 0x40030010, dims := [], reset := 0x00000000, rc := 0xFFFFFFFF },
  { base := 0x40030044, dims := [(15, 0x4)], reset := 0x00000000 },
  { base := 0x40030084, dims := [(15, 0x4)], reset := 0x00000000 },
  { base := 0x40030110, dims := [(15, 0x10), (3, 0x4)], reset := 0x00000000 },
  { base := 0x40030220, dims := [(15, 0x20), (6, 0x4)], reset := 0x00000000 },
  { base := 0x40030400, dims := [], reset := 0x02A80601, rw := 0x0FFF0F01 },
  { base := 0x40030404, dims := [], reset := 0x000040EE, rw := 0x0000F0FF },
  { base := 0x40030408, dims := [(2, 0x4)], reset := 0x00101010 },
  { base := 0x40030410, dims := [(2, 0x4)], reset := 0x00000000 },
  { base := 0x40030440, dims := [(16, 0x4)], reset := 0x00000000, rw := 0x00FF1F01 },
  { base := 0x40030480, dims := [(16, 0x4)], reset := 0x00000000, rw := 0xFFFFFFFF },
  { base := 0x400304C0, dims := [(16, 0x4)], reset := 0x00000000, rw := 0x00FFFFFF },
  { base := 0x40030500, dims := [(16, 0x4)], reset := 0x00000000 },
  { base := 0x40030540, dims := [(2, 0x10), (4, 0x4)], reset := 0x00000000, rc := 0xFFFFFFFF },
  { base := 0x40030560, dims := [], reset := 0x00000000, w1c := 0x0000001F },
  { base := 0x40030564, dims := [], reset := 0x00008080 },
  { base := 0x40030600, dims := [(16, 0x20), (8, 0x4)], reset := 0x00000000 }
]

/-- The registers of LINK. -/
def rowsLINK : List RegRow := [
  { base := 0x40040000, dims := [], reset := 0x80200800, rw := 0x80FF0FFF },
  { base := 0x40040004, dims := [], reset := 0x30000000 },
  { base := 0x40040008, dims := [], reset := 0x00000000, w1c := 0x000000FF },
  { base := 0x4004000C, dims := [], reset := 0x00000000, wo := 0x0000033F },
  { base := 0x40040010, dims := [(2, 0x4)], reset := 0x00000000 },
  { base := 0x40040018, dims := [], reset := 0x007F0000 },
  { base := 0x40040020, dims := [(4, 0x4)], reset := 0x00000000, rc := 0xFFFFFFFF },
  { base := 0x40040040, dims := [], reset := 0x00000000, wo := 0x000071FF },
  { base := 0x40040044, dims := [], reset := 0x00000000, rw := 0xFFFFFFFF },
  { base := 0x40040048, dims := [], reset := 0x00000000, rw := 0xFFFFFFFF },
  { base := 0x4004004C, dims := [], reset := 0x00000000, rw := 0xFFFFFFFF },
  { base := 0x40040050, dims := [], reset := 0x00000000 },
  { base := 0x40040060, dims := [], reset := 0x00000014, rw := 0x00FF1FFF },
  { base := 0x40040064, dims := [], reset := 0x00000000, rw := 0x00001F03 },
  { base := 0x40040068, dims := [], reset := 0x00000000, rc := 0xFFFFFF00 },
  { base := 0x40040070, dims := [], reset := 0x00000000 },
  { base := 0x40040074, dims := [], reset := 0x00000000, wo := 0x00000001 },
  { base := 0x40040078, dims := [], reset := 0x00000030, rw := 0x0000007F },
  { base := 0x40040080, dims := [], reset := 0x800001FF, rw := 0x800001FF },
  { base := 0x40040084, dims := [], reset := 0x00000000 },
  { base := 0x40040100, dims := [(8, 0x8)], reset := 0x00000000 },
  { base := 0x40040104, dims := [(8, 0x8)], reset := 0x00000000 },
  { base := 0x40040140, dims := [(8, 0x4)], reset := 0x00000000, rc := 0x0000FFFF },
  { base := 0x40040400, dims := [(64, 0x4)], reset := 0x00000000 },
  { base := 0x40040800, dims := [], reset := 0x0000FFFE, rw := 0xFFFFFFFF },
  { base := 0x40040804, dims := [], reset := 0x00000000 },
  { base := 0x40040808, dims := [], reset := 0x00000000 },
  { base := 0x4004080C, dims := [], reset := 0x001407D0, rw := 0x0037FFFF },
  { base := 0x40040810, dims := [], reset := 0x0000003C, rw := 0x000000FF },
  { base := 0x40040844, dims := [(15, 0x4)], reset := 0x00000800, rw := 0x00000DFF },
  { base := 0x40040884, dims := [(15, 0x4)], reset := 0x00000000, rw := 0xFFFFFFFF },
  { base := 0x400408C0, dims := [], reset := 0x00000000 },
  { base := 0x400408C4, dims := [], reset := 0x00000000 },
  { base := 0x400408C8, dims := [], reset := 0x00000000 },
  { base := 0x400408D0, dims := [(4, 0x4)], reset := 0x00000000, rc := 0xFFFFFFFF },
  { base := 0x400408E0, dims := [], reset := 0x00000000 },
  { base := 0x400408E4, dims := [], reset := 0x00000000, w1c := 0x0003FFFE },
  { base := 0x400408E8, dims := [], reset := 0x00000000 },
  { base := 0x40040A00, dims := [], reset := 0x00000005, rw := 0x00000007 },
  { base := 0x40040A04, dims := [], reset := 0x00000000, rw := 0xFFFFFFFF },
  { base := 0x40040A08, dims := [], reset := 0x00000000, rw := 0x0000FFFF },
  { base := 0x40040A0C, dims := [], reset := 0x00000000, rw := 0xFFFFFFFF },
  { base := 0x40040A10, dims := [], reset := 0x00000000, rw := 0x0000FFFF },
  { base := 0x40040A14, dims := [], reset := 0x00000000, rw := 0xFFFFFFFF },
  { base := 0x40040A18, dims := [], reset := 0x00000000, rw := 0x0001FFFF },
  { base := 0x40040A1C, dims := [], reset := 0x00000000, wo := 0x003F01FF },
  { base := 0x40040A20, dims := [], reset := 0x00000000, wo := 0x000031FF },
  { base := 0x40040A24, dims := [], reset := 0x00000000, rw := 0x0000FFFF },
  { base := 0x40040A28, dims := [], reset := 0x00000000, rw := 0x01FF0FFF },
  { base := 0x40040A2C, dims := [], reset := 0x00000000, rw := 0x00FFFFFF },
  { base := 0x40040A30, dims := [], reset := 0x00000000, rw := 0x000FFFFF },
  { base := 0x40040A34, dims := [], reset := 0x00000000 },
  { base := 0x40040A40, dims := [(3, 0x4)], reset := 0x00000000, rc := 0xFFFFFFFF },
  { base := 0x40040A50, dims := [(4, 0x4)], reset := 0x00000000, wo := 0xFFFFFFFF },
  { base := 0x40040A60, dims := [(3, 0x4)], reset := 0x00000000, rw := 0xFFFFFFFF },
  { base := 0x40040A70, dims := [(4, 0x4)], reset := 0x00000000, rw := 0x0000FFFF }
]

/-- The registers of CIPHER. -/
def rowsCIPHER : List RegRow := [
  { base := 0x40050000, dims := [], reset := 0x00000003, rw := 0x00000003, w1s := 0x00000F0C },
  { base := 0x40050004, dims := [], reset := 0x00004000 },
  { base := 0x40050008, dims := [], reset := 0x00000000, w1c := 0x0000000F },
  { base := 0x4005000C, dims := [], reset := 0x000003E8, rw := 0x0000FFFF },
  { base := 0x40050010, dims := [], reset := 0x00000000 },
  { base := 0x40050020, dims := [(2, 0x4)], reset := 0x00000000, rc := 0xFFFFFFFF },
  { base := 0x40050040, dims := [(2, 0x10)], reset := 0x00000000, rw := 0x00FF3FE0 },
  { base := 0x40050044, dims := [(2, 0x10)], reset := 0x00000000 },
  { base := 0x40050048, dims := [(2, 0x10)], reset := 0x00000000, rw := 0x000000FF },
  { base := 0x4005004C, dims := [(2, 0x10)], reset := 0x00000000 },
  { base := 0x40050100, dims := [(8, 0x20), (8, 0x4)], reset := 0x00000000, wo := 0xFFFFFFFF },
  { base := 0x40050200, dims := [], reset := 0x00000000, wo := 0x000000FF }
]

/-- The registers of PKE. -/
def rowsPKE : List RegRow := [
  { base := 0x40058000, dims := [], reset := 0x00000000, rw := 0x00000001 },
  { base := 0x40058004, dims := [], reset := 0x00000000, wo := 0xFF02FF37 },
  { base := 0x40058008, dims := [], reset := 0x00000000 },
  { base := 0x4005800C, dims := [], reset := 0x00000000, wo := 0x00000033 },
  { base := 0x40058010, dims := [], reset := 0x00000000, wo := 0xFFFFFFFF },
  { base := 0x40058020, dims := [(8, 0x4)], reset := 0x00000000 }
]

/-- The registers of TRNG. -/
def rowsTRNG : List RegRow := [
  { base := 0x4005C000, dims := [], reset := 0x10000001, rw := 0xFFFF0001, w1s := 0x00000002 },
  { base := 0x4005C004, dims := [], reset := 0x00000000 },
  { base := 0x4005C008, dims := [], reset := 0x00000000 },
  { base := 0x4005C00C, dims := [], reset := 0x00000000, w1c := 0x00000007 },
  { base := 0x4005C010, dims := [], reset := 0x00000000, rc := 0xFFFFFFFF }
]

/-- The registers of KEYSTORE. -/
def rowsKEYSTORE : List RegRow := [
  { base := 0x40060000, dims := [], reset := 0x00010064, rw := 0x0001FFFF },
  { base := 0x40060004, dims := [], reset := 0xFF000000 },
  { base := 0x40060008, dims := [], reset := 0x00000000, w1c := 0x0000000F },
  { base := 0x4006000C, dims := [], reset := 0x00000000, wo := 0xFFFFFF0F },
  { base := 0x40060010, dims := [], reset := 0x00000000 },
  { base := 0x40060014, dims := [], reset := 0x00000000, rw := 0x0000007F },
  { base := 0x40060018, dims := [], reset := 0x00000000 },
  { base := 0x40060020, dims := [(2, 0x4)], reset := 0x00000000, rc := 0xFFFFFFFF },
  { base := 0x40060040, dims := [(7, 0x4)], reset := 0x00000000, rw := 0xFFFFFFFF },
  { base := 0x40060080, dims := [(16, 0x4)], reset := 0x00000000, wo := 0xFFFFFFFF },
  { base := 0x400600C0, dims := [], reset := 0x00000000, wo := 0xFFFF0007 },
  { base := 0x400600C4, dims := [], reset := 0x00000000, wo := 0xFFFF0003 },
  { base := 0x40060100, dims := [(8, 0x4)], reset := 0x00000000 },
  { base := 0x40062000, dims := [(256, 0x20), (8, 0x4)], reset := 0x00000000 }
]

/-- The registers of FLASHC. -/
def rowsFLASHC : List RegRow := [
  { base := 0x40070000, dims := [], reset := 0x00007D13, rw := 0x0000FF13 },
  { base := 0x40070010, dims := [(2, 0x4)], reset := 0x00000000, wo := 0xFF0FFC0F },
  { base := 0x40070018, dims := [(2, 0x4)], reset := 0x00000000, rw := 0xFFFFFFF0 },
  { base := 0x40070020, dims := [(2, 0x10), (4, 0x4)], reset := 0x00000000, wo := 0xFFFFFFFF },
  { base := 0x40070040, dims := [(2, 0x4)], reset := 0x00000000 },
  { base := 0x40070048, dims := [], reset := 0x00000000, w1c := 0x0000001F },
  { base := 0x40070050, dims := [(2, 0x4)], reset := 0x00000000 },
  { base := 0x40070058, dims := [], reset := 0x00000000, rc := 0xFFFFFFFF },
  { base := 0x4007005C, dims := [], reset := 0x00000000 },
  { base := 0x40070060, dims := [], reset := 0x00000002, rw := 0x00000003 },
  { base := 0x40070064, dims := [], reset := 0x00000000 },
  { base := 0x40070068, dims := [], reset := 0x00000000, w1c := 0x00000100 },
  { base := 0x4007006C, dims := [], reset := 0x00000000 },
  { base := 0x40070070, dims := [(2, 0x4)], reset := 0x00000000, w1s := 0xFFFFFFFF },
  { base := 0x40070078, dims := [], reset := 0x000186A0, rw := 0x00FFFFFF },
  { base := 0x40070080, dims := [(2, 0x4)], reset := 0x00000000 },
  { base := 0x40071000, dims := [(516, 0x4)], reset := 0x00000000 }
]

/-- The registers of MEMCTL. -/
def rowsMEMCTL : List RegRow := [
  { base := 0x40080000, dims := [(3, 0x4)], reset := 0x00000000, rw := 0x0000FFFF, w1s := 0x00070000 },
  { base := 0x40080010, dims := [(3, 0x4)], reset := 0x00000000 },
  { base := 0x40080020, dims := [], reset := 0x00000000, w1c := 0x0000003F },
  { base := 0x40080024, dims := [], reset := 0x00000000, rc := 0xFFFFFFFF },
  { base := 0x40080028, dims := [], reset := 0x00000000 },
  { base := 0x4008002C, dims := [], reset := 0x00000000 },
  { base := 0x40080030, dims := [], reset := 0x00000000 },
  { base := 0x40080040, dims := [(3, 0x10), (4, 0x4)], reset := 0x00000000 },
  { base := 0x40080100, dims := [(32, 0x4)], reset := 0x00000000, rw := 0x00000001 }
]

/-- The registers of RING. -/
def rowsRING : List RegRow := [
  { base := 0x40090000, dims := [], reset := 0x00080A01, rw := 0x000FFF01, w1s := 0x00000002 },
  { base := 0x40090004, dims := [], reset := 0x00000000 },
  { base := 0x40090008, dims := [], reset := 0x00000000, w1c := 0x0000003F },
  { base := 0x4009000C, dims := [(2, 0x4)], reset := 0x00000000, rc := 0xFFFFFFFF },
  { base := 0x40090014, dims := [], reset := 0x00000000 },
  { base := 0x40090018, dims := [], reset := 0x00000000 },
  { base := 0x4009001C, dims := [], reset := 0x00000000 },
  { base := 0x40090020, dims := [], reset := 0x00000000 },
  { base := 0x40090024, dims := [], reset := 0x00000000 },
  { base := 0x40090028, dims := [], reset := 0x00000000, rw := 0xFFFFFFFF },
  { base := 0x4009002C, dims := [], reset := 0x00000000 },
  { base := 0x40090040, dims := [], reset := 0x00000000, rw := 0x0000FFFF },
  { base := 0x40090044, dims := [], reset := 0x00000000, w1c := 0x0000FFFF },
  { base := 0x40090048, dims := [], reset := 0x00000000, wo := 0x000000FF },
  { base := 0x4009004C, dims := [], reset := 0x00000000 }
]

/-- The registers of GPIO. -/
def rowsGPIO : List RegRow := [
  { base := 0x400A0000, dims := [(2, 0x4)], reset := 0x00000000, rw := 0xFFFFFFFF },
  { base := 0x400A0008, dims := [(2, 0x4)], reset := 0x00000000, wo := 0xFFFFFFFF },
  { base := 0x400A0010, dims := [(2, 0x4)], reset := 0x00000000, wo := 0xFFFFFFFF },
  { base := 0x400A0018, dims := [(2, 0x4)], reset := 0x00000000, rw := 0xFFFFFFFF },
  { base := 0x400A0020, dims := [(2, 0x4)], reset := 0x00000000 },
  { base := 0x400A0100, dims := [(64, 0x4)], reset := 0x00000000, rw := 0x00000003 },
  { base := 0x400A0200, dims := [(64, 0x4)], reset := 0x00000000, rwl := 0x001F00FF }
]

/-- The registers of UART. -/
def rowsUART : List RegRow := [
  { base := 0x400B0000, dims := [(3, 0x1000)], reset := 0x022B9000, rw := 0xFFFFF07D },
  { base := 0x400B0004, dims := [(3, 0x1000)], reset := 0x00000000, wo := 0x000000FF },
  { base := 0x400B0008, dims := [(3, 0x1000)], reset := 0x00000000 },
  { base := 0x400B000C, dims := [(3, 0x1000)], reset := 0x00000000 },
  { base := 0x400B0010, dims := [(3, 0x1000)], reset := 0x00000000, w1c := 0x0000000F }
]

/-- The registers of SPIM. -/
def rowsSPIM : List RegRow := [
  { base := 0x400C0000, dims := [(2, 0x1000)], reset := 0x00000000, rw := 0x0000070F },
  { base := 0x400C0004, dims := [(2, 0x1000)], reset := 0x00000000, rw := 0x0000003F },
  { base := 0x400C0008, dims := [(2, 0x1000)], reset := 0x00000000, rw := 0x000000FF },
  { base := 0x400C000C, dims := [(2, 0x1000)], reset := 0x00000000 }
]

/-- The registers of I2C. -/
def rowsI2C : List RegRow := [
  { base := 0x400C2000, dims := [(2, 0x1000)], reset := 0x00000000, rw := 0x007F0303 },
  { base := 0x400C2004, dims := [(2, 0x1000)], reset := 0x00000000, rw := 0x0000001F },
  { base := 0x400C2008, dims := [(2, 0x1000)], reset := 0x00000000, rw := 0x000000FF },
  { base := 0x400C200C, dims := [(2, 0x1000)], reset := 0x00000000 }
]

/-- The registers of CAN. -/
def rowsCAN : List RegRow := [
  { base := 0x400D0000, dims := [], reset := 0x00000100, rw := 0x0000033F },
  { base := 0x400D0004, dims := [], reset := 0x3E7D7800, rw := 0xFFFFFFFF },
  { base := 0x400D0008, dims := [], reset := 0x0001DEC0, rw := 0x0003FFFF },
  { base := 0x400D000C, dims := [], reset := 0x00000000, rw := 0x00007F7F },
  { base := 0x400D0010, dims := [], reset := 0x00000003 },
  { base := 0x400D0014, dims := [], reset := 0x00000000, w1c := 0x0000003F },
  { base := 0x400D0018, dims := [], reset := 0x00000000, w1s := 0xFFFFFFFF },
  { base := 0x400D001C, dims := [], reset := 0x00000000, w1s := 0xFFFFFFFF },
  { base := 0x400D0020, dims := [], reset := 0x00000000, w1c := 0xFFFFFFFF },
  { base := 0x400D0024, dims := [], reset := 0x00000000, w1c := 0xFFFFFFFF },
  { base := 0x400D0028, dims := [], reset := 0x00000000, rw := 0xFFFFFFFF },
  { base := 0x400D002C, dims := [], reset := 0x00000000, rw := 0xFFFFFFFF },
  { base := 0x400D0030, dims := [], reset := 0x00000000, rc := 0xFFFFFFFF },
  { base := 0x400D0100, dims := [(32, 0x4)], reset := 0x00000000, rw := 0x0000001F },
  { base := 0x400D0200, dims := [(32, 0x8)], reset := 0x00000000, rw := 0x7FFFFFFF },
  { base := 0x400D0204, dims := [(32, 0x8)], reset := 0x00000000, rw := 0x1FFFFFFF }
]

/-- The registers of TMR. -/
def rowsTMR : List RegRow := [
  { base := 0x400E0000, dims := [(4, 0x1000)], reset := 0x00000000, rw := 0x000001F3 },
  { base := 0x400E0004, dims := [(4, 0x1000)], reset := 0x00000000, rw := 0xFFFFFFFF },
  { base := 0x400E0008, dims := [(4, 0x1000)], reset := 0x00000000 },
  { base := 0x400E000C, dims := [(4, 0x1000)], reset := 0x00000000 }
]

/-- The registers of ADC. -/
def rowsADC : List RegRow := [
  { base := 0x400E8000, dims := [], reset := 0x00000000, rw := 0x07FF0001 },
  { base := 0x400E8004, dims := [], reset := 0x00000000 },
  { base := 0x400E8008, dims := [], reset := 0x0FFF0000, rw := 0x0FFF0FFF },
  { base := 0x400E800C, dims := [], reset := 0x00000000, w1c := 0x00000001 }
]

/-- The registers of HOSTP. -/
def rowsHOSTP : List RegRow := [
  { base := 0x400F0000, dims := [], reset := 0x00000001, rw := 0x00000003 },
  { base := 0x400F0004, dims := [], reset := 0x0000000F, rw := 0x0000000F },
  { base := 0x400F0008, dims := [], reset := 0x00000000, w1c := 0x00000006 },
  { base := 0x400F000C, dims := [], reset := 0x00000000, w1c := 0x0000003F },
  { base := 0x400F0010, dims := [], reset := 0x00000000 },
  { base := 0x400F0014, dims := [], reset := 0x00000000, rc := 0xFFFFFFFF },
  { base := 0x400F0018, dims := [], reset := 0x00000000, rw := 0x0000FFFF },
  { base := 0x400F001C, dims := [], reset := 0x00000000, wo := 0xFFFFFFFF },
  { base := 0x400F0020, dims := [], reset := 0x00000000, w1c := 0x0000FFFF },
  { base := 0x400F0024, dims := [], reset := 0x00000000, w1c := 0x0000FFFF }
]

/-- The registers of PMU. -/
def rowsPMU : List RegRow := [
  { base := 0x50000000, dims := [], reset := 0x00000000, rw := 0x00000007, wo := 0xFFFF0000 },
  { base := 0x50000004, dims := [], reset := 0x00000000 },
  { base := 0x50000008, dims := [], reset := 0x00003F00, rw := 0x00003FFF },
  { base := 0x5000000C, dims := [], reset := 0x000018F7 },
  { base := 0x50000010, dims := [], reset := 0x00000071, rw := 0x00000171 },
  { base := 0x50000014, dims := [], reset := 0x00000201, rw := 0x0000FF01 },
  { base := 0x50000018, dims := [], reset := 0x00000000, rw := 0xFFFFFFFC },
  { base := 0x50000020, dims := [], reset := 0x00000000, rc := 0xFFFFFFFF },
  { base := 0x50000024, dims := [], reset := 0x00000000 },
  { base := 0x50000028, dims := [], reset := 0x00000000 },
  { base := 0x5000002C, dims := [], reset := 0x00000000, rc := 0xFFFFFFFF }
]

/-- The registers of TIDE. -/
def rowsTIDE : List RegRow := [
  { base := 0x50001000, dims := [], reset := 0x00000000 },
  { base := 0x50001004, dims := [], reset := 0x00000000 },
  { base := 0x50001008, dims := [], reset := 0x00000000, rw := 0x00FFFFFF },
  { base := 0x5000100C, dims := [], reset := 0x02582000, rw := 0x0FFFFF03 },
  { base := 0x50001010, dims := [], reset := 0x531E1423, rw := 0xFFFF1FFF },
  { base := 0x50001014, dims := [], reset := 0x021E2040, rw := 0xFF1FFFFF },
  { base := 0x50001018, dims := [], reset := 0x0000000F },
  { base := 0x5000101C, dims := [], reset := 0x00000000, w1c := 0x000000FF },
  { base := 0x50001020, dims := [], reset := 0x00000000, rc := 0x00FFFFFF },
  { base := 0x50001024, dims := [], reset := 0x00000000 },
  { base := 0x50001028, dims := [], reset := 0x00000000, wo := 0xFFFFFFFF },
  { base := 0x5000102C, dims := [], reset := 0x03D09000 },
  { base := 0x50001030, dims := [], reset := 0x00002000, rw := 0x000FFFFF },
  { base := 0x50001034, dims := [], reset := 0x0008FF00, rw := 0x00FF0000, w1s := 0x00000001 },
  { base := 0x50001040, dims := [(8, 0x4)], reset := 0x00000000, rw := 0x0000FFFF },
  { base := 0x50001060, dims := [(4, 0x8)], reset := 0x00000000 },
  { base := 0x50001064, dims := [(4, 0x8)], reset := 0x00000000 },
  { base := 0x50001080, dims := [], reset := 0x00000000, w1c := 0xFFFFFFFF },
  { base := 0x50001084, dims := [], reset := 0x00000000, rc := 0x001FFFFF },
  { base := 0x50001100, dims := [(32, 0x10)], reset := 0x00000000, rw := 0xFFFFFFFF },
  { base := 0x50001104, dims := [(32, 0x10)], reset := 0x00000000, rw := 0xFFFFFFFF },
  { base := 0x50001108, dims := [(32, 0x10)], reset := 0x00000000, rw := 0xFFFFFFFF },
  { base := 0x5000110C, dims := [(32, 0x10)], reset := 0x00000000, rw := 0x0000FF0F }
]

/-- The registers of WAKE. -/
def rowsWAKE : List RegRow := [
  { base := 0x50002000, dims := [], reset := 0x000000F1, rw := 0x000003F1 },
  { base := 0x50002004, dims := [(2, 0x4)], reset := 0x00000000, w1c := 0xFFFFFFFF },
  { base := 0x5000200C, dims := [], reset := 0x00000000 },
  { base := 0x50002010, dims := [], reset := 0x00000000, rw := 0xFFFFFFFF },
  { base := 0x50002020, dims := [], reset := 0x00000002, rw := 0x0000003F },
  { base := 0x50002024, dims := [], reset := 0x00000000 },
  { base := 0x50002028, dims := [], reset := 0x00000000, rc := 0xFF00FFFF },
  { base := 0x5000202C, dims := [], reset := 0x00000000 },
  { base := 0x50002030, dims := [], reset := 0x00000000, w1c := 0x00000007 }
]

/-- The registers of LWDT. -/
def rowsLWDT : List RegRow := [
  { base := 0x50003000, dims := [], reset := 0x00000040, rw := 0x0002FFFF, w1s := 0x00050000 },
  { base := 0x50003004, dims := [], reset := 0x00000000, wo := 0x0000FFFF },
  { base := 0x50003008, dims := [], reset := 0x00000000 }
]

/-- The registers of LIFE. -/
def rowsLIFE : List RegRow := [
  { base := 0x50004000, dims := [], reset := 0x0001003C, rw := 0x000107FF },
  { base := 0x50004004, dims := [], reset := 0x00000000, w1s := 0x00000001 },
  { base := 0x50004008, dims := [], reset := 0x00000004 },
  { base := 0x5000400C, dims := [], reset := 0x00000000 },
  { base := 0x50004010, dims := [], reset := 0x00000000, rc := 0xFFFFFFFF },
  { base := 0x50004110, dims := [(27, 0x4)], reset := 0x00000000 }
]

/-- The registers of RINGBYP. -/
def rowsRINGBYP : List RegRow := [
  { base := 0x50005000, dims := [], reset := 0x00000003 },
  { base := 0x50005004, dims := [], reset := 0x00000000, rc := 0x0000FFFF }
]

/-- The registers of BKP. -/
def rowsBKP : List RegRow := [
  { base := 0x50006000, dims := [], reset := 0x00000000, rw := 0x003FFFFF },
  { base := 0x50006004, dims := [], reset := 0x00000000, w1s := 0x00000001 },
  { base := 0x50006008, dims := [], reset := 0x00000000, w1c := 0x000000FF },
  { base := 0x5000600C, dims := [], reset := 0x00000000 },
  { base := 0x50006010, dims := [], reset := 0x00000000, rc := 0x000000FF }
]

/-- The register rows of the window that holds address a (Table ARCH-3, Table PER-1). -/
def rowsAt (a : Nat) : List RegRow :=
  if a < 0x40000000 then []
  else if a < 0x40010000 then rowsSYSCFG
  else if a < 0x40020000 then rowsFABRIC
  else if a < 0x40028000 then rowsLANE
  else if a < 0x40030000 then rowsRF
  else if a < 0x40040000 then rowsMODEM
  else if a < 0x40050000 then rowsLINK
  else if a < 0x40058000 then rowsCIPHER
  else if a < 0x4005C000 then rowsPKE
  else if a < 0x40060000 then rowsTRNG
  else if a < 0x40070000 then rowsKEYSTORE
  else if a < 0x40080000 then rowsFLASHC
  else if a < 0x40090000 then rowsMEMCTL
  else if a < 0x400A0000 then rowsRING
  else if a < 0x400B0000 then rowsGPIO
  else if a < 0x400C0000 then rowsUART
  else if a < 0x400C2000 then rowsSPIM
  else if a < 0x400D0000 then rowsI2C
  else if a < 0x400E0000 then rowsCAN
  else if a < 0x400E8000 then rowsTMR
  else if a < 0x400F0000 then rowsADC
  else if a < 0x40100000 then rowsHOSTP
  else if a < 0x50000000 then []
  else if a < 0x50001000 then rowsPMU
  else if a < 0x50002000 then rowsTIDE
  else if a < 0x50003000 then rowsWAKE
  else if a < 0x50004000 then rowsLWDT
  else if a < 0x50005000 then rowsLIFE
  else if a < 0x50006000 then rowsRINGBYP
  else if a < 0x50007000 then rowsBKP
  else []

/-- Does distance d from a row's base fall on one of its registers? -/
def offsetIn : List (Nat × Nat) → Nat → Bool
  | [], d => d == 0
  | (count, stride) :: ds, d => d / stride < count && offsetIn ds (d % stride)

/-- The row of the register at address a, if a register stands there. -/
def rowOf (a : Nat) : Option RegRow :=
  (rowsAt a).find? (fun r => r.base ≤ a && offsetIn r.dims (a - r.base))

/-- The reset value of the register at a; 0 where no register stands (R4). Where the spec gives no number (factory
trim, fused, restored) the row holds 0, DESIGN CHOICE (notes/assumptions/4.md). -/
def resetValue (a : Nat) : BitVec 32 :=
  match rowOf a with
  | some r => BitVec.ofNat 32 r.reset
  | none => 0

end Sys2Proof.Machine
end

