-- ==== Sys2Proof/Machine/Sparse.lean ====
section
/-!
DEFINITION. Tables by key, as plain data: a list of (key, entry) pairs with rising keys, in which no entry equals
what an unlisted key holds. The register file, the memory, the configuration cells, the key slots and the like are
such lists. `dflt` is always the function that says what an unlisted key holds.
-/

namespace Sys2Proof.Machine

/-- The entry listed for key k, or what an unlisted key holds. -/
def sparseGet {α : Type} (dflt : Nat → α) : List (Nat × α) → Nat → α
  | [], k => dflt k
  | (k', v) :: t, k => if k' = k then v else sparseGet dflt t k

/-- Put (k, v) at its place, replacing an entry for k that stands there. -/
def sparseInsert {α : Type} (k : Nat) (v : α) : List (Nat × α) → List (Nat × α)
  | [] => [(k, v)]
  | (k', v') :: t =>
    if k < k' then (k, v) :: (k', v') :: t
    else if k' = k then (k, v) :: t
    else (k', v') :: sparseInsert k v t

/-- Take every entry for k out. -/
def sparseErase {α : Type} (k : Nat) : List (Nat × α) → List (Nat × α)
  | [] => []
  | (k', v') :: t => if k' = k then sparseErase k t else (k', v') :: sparseErase k t

/-- Write v at key k; the entry is dropped where v is what an unlisted key holds. -/
def sparseSet {α : Type} [DecidableEq α] (dflt : Nat → α) (k : Nat) (v : α) (m : List (Nat × α)) : List (Nat × α) :=
  if v = dflt k then sparseErase k m else sparseInsert k v m

/-- Keep the entries whose key satisfies p. -/
def sparseFilter {α : Type} (p : Nat → Bool) (m : List (Nat × α)) : List (Nat × α) :=
  m.filter (fun e => p e.1)

/-- The canonical form: keys strictly rising, no entry equal to what an unlisted key holds. -/
def sparseWf {α : Type} [DecidableEq α] (dflt : Nat → α) : List (Nat × α) → Bool
  | [] => true
  | (k, v) :: t => v != dflt k && t.all (fun e => k < e.1) && sparseWf dflt t

end Sys2Proof.Machine
end

