-- ==== Sys2Proof/Machine/State.lean ====
section
/-!
DEFINITION. The state of the device: plain data. The registers stand in one register file keyed by bus address (a
register that is not listed holds its reset value); memory is a list of octets by bus address; what the chapters give
the device beside its registers stands in one structure per block; the commands that wait stand in `pending`.
-/

namespace Sys2Proof.Machine

/-- Why the machine stops. The block's own faults are recorded in its registers and never stop it, so no command
raises this; the constructor stands for the kind only. Safe: nothing is claimed of a stopped machine. -/
inductive Fault where
  /-- No command raises it (bus errors are answers the device goes on from, R14). Safe. -/
  | none
  deriving DecidableEq, Repr

/-- Why a command is turned away. -/
inductive Refusal where
  /-- Raised by an arm of exec that has no meaning yet. Safe: nothing is claimed of the command. -/
  | notModelled (mnemonic : String)
  deriving DecidableEq, Repr

/-- The last answer of the bus to a master (R3, R14, R15). -/
inductive BusAnswer where
  | none
  | data (w : Word)
  | done
  | error
  /-- The access waits for its target (R479, R507, R512). -/
  | waits
  deriving DecidableEq, Repr

/-- An edge on its way to the event fabric: from a producer (R127), or straight into one sluice from a gate, a
software firing or the ring (R131). -/
inductive Edge where
  | producer (p : Nat)
  | direct (sluice : Nat)
  deriving DecidableEq, Repr

/-- One committed record of the configuration cells (R67): its type, the cell contents (empty for the three types whose
cells are the RWL registers), the address of the image or patch that supplied it (R78; none for cells committed under
R69), its stored CRC-32 and the stored 16-bit check value of each group of 32 of its cell words. -/
structure CfgRecord where
  type : Nat
  body : List Byte
  source : Option Nat
  crc : Word
  checks : List (BitVec 16) := []
  deriving DecidableEq, Repr

/-- The saltern loader's state beyond its registers. -/
structure Salt where
  /-- The committed records, by rising type. -/
  records : List CfgRecord := []
  /-- Checked records that wait for TK_SYSCFG_COMMIT (R73). -/
  shadow : List CfgRecord := []
  /-- The running patch load: image address, MODE at START (R70). -/
  load : Option (Nat × Nat) := none
  /-- A write of START waits for a reload to end (R80). -/
  startWaits : Bool := false
  /-- The next group of the check pass in progress (R78). -/
  passGroup : Option Nat := none
  /-- The record type being reloaded with the mismatched group, and those found while a patch was loading or pending, or
  while a reload was in progress (R80). -/
  reloading : Option (Nat × Nat) := none
  reloadLater : List (Nat × Nat) := []
  deriving DecidableEq, Repr

/-- The snapshot of tide time kept in D0 (R90), with D0's count of LF cycles at which it was taken. -/
structure Snapshot where
  valid : Bool := false
  now : Nat := 0
  rate : BitVec 24 := 0
  lfinc : BitVec 32 := 0
  lfCount : Nat := 0
  deriving DecidableEq, Repr

/-- The tide clock beyond its registers (R82 to R125). -/
structure Tide where
  /-- The accumulator, in units of 2^-32 tick; TIDE_NOW is its integer part (R82). -/
  acc : Nat := 0
  /-- The same count without steps: what duty credit, supervision and elapsed periods run on (R29). -/
  elapsed : Nat := 0
  /-- The slew term per AON cycle in units of 2^-32 tick, and the cycles left of it (R103). -/
  slew : Int := 0
  slewLeft : Nat := 0
  /-- The parent's last header stratum (R100). -/
  parentStratum : Nat := 15
  /-- The lower-stratum candidate that is being tracked: its context, its stratum and its hearings (R100). -/
  cand : Option (Nat × Nat × Nat) := none
  /-- Gates that fire at the next AON cycle because a step crossed their T (R117). -/
  gateStepped : BitVec 32 := 0
  /-- Gates whose next firing is marked late (R115). -/
  gateLateNext : BitVec 32 := 0
  /-- Parent frames and ticks of ring TIME messages applied since the crystal failed (R121). -/
  discFrames : Nat := 0
  discRing : Nat := 0
  /-- An LF measurement has been made since the crystal failed (R123). -/
  discLf : Bool := false
  /-- The crystal failed and RESID has not yet come down to 8 (R176). -/
  awaitResid : Bool := false
  /-- The crystal has failed and the device has not returned to it (R176). -/
  xtalFailed : Bool := false
  /-- The LF crystal counts: no LF_CLOCK_LOSS yet (R91, R206). -/
  lfPresent : Bool := true
  deriving DecidableEq, Repr

/-- The phase of a sluice (R132). -/
inductive SluicePhase where
  | idle
  | flight
  | refractory
  deriving DecidableEq, Repr

/-- One sluice: the phase of its firing, the task inputs that firing goes to (R75), the pending state (R134) and the
governor's stamps, newest first (R141). -/
structure Sluice where
  phase : SluicePhase := .idle
  consumers : List Nat := []
  pending : Bool := false
  hist : List Nat := []
  deriving DecidableEq, Repr

/-- The state a stepwise command takes its lane to (R152, R153). -/
inductive StepGoal where
  | sleep
  | standby
  | synth
  | rx
  | tx
  deriving DecidableEq, Repr

/-- A lane beyond its registers. -/
structure LaneState where
  /-- The target of the stepwise transition in progress. -/
  goal : Option StepGoal := none
  /-- Modulation of the stepwise TX asked for or in progress, numbered as in Table RXC-5. -/
  goalMode : Nat := 0
  /-- The lock in progress runs a full VCO calibration (CALMODE = 1, R200). -/
  fullCal : Bool := false
  /-- LANE_FREQ at the present lock. -/
  lockedFreq : Nat := 0
  /-- Elapsed tick at which the relock of native work ends (R158). -/
  lockTo : Nat := 0
  /-- A port switch settles, until which elapsed tick (R149), and a stepwise entry to RX or TX waits for it. -/
  settling : Bool := false
  settleTo : Nat := 0
  waitPort : Bool := false
  /-- The stepwise TX waits for its LBT listen period (R172); the period ended clear. -/
  lbtWait : Bool := false
  lbtClear : Bool := false
  /-- Sub-band of the stepwise TX in progress (R349). -/
  txSub : Option Nat := none
  /-- Elapsed tick at which the transmission, and at which the stay in RX, began. -/
  txFrom : Nat := 0
  /-- Elapsed tick at which the last transmission ended (R175). -/
  txTo : Option Nat := none
  /-- Elapsed tick up to which the stepwise TX has been debited (R349). -/
  txPaid : Nat := 0
  rxFrom : Nat := 0
  /-- State before the calibration or health test that holds the lane. -/
  idleState : Nat := 1
  /-- Next step of the health test in progress; it is the repeat (R180). -/
  hStep : Nat := 0
  hAgain : Bool := false
  /-- PA faults in this health period (R166). -/
  paFaults : Nat := 0
  /-- This lane is to take over the other lane's roles (Table LANE-8). -/
  takeover : Bool := false
  /-- A RESTORE waits for the roles to return (R185). -/
  restoring : Bool := false
  /-- The yielded calibration: elapsed tick of its abort and lane temperature at its start (R199). -/
  calYield : Bool := false
  calAbortAt : Nat := 0
  calTemp : Int := 0
  /-- Steps of the relock that precede the entry's own steps (R198). -/
  calRelock : Nat := 0
  /-- First of the entry's own steps to run after them. -/
  calFrom : Nat := 1
  /-- FREQ at the centre of the native receive span (R328). -/
  rxFreq : Nat := 0
  /-- The preset of a possible ack: elapsed tick at which the lane leaves RX (R299), and for which frame. -/
  ackPreset : Option Nat := none
  /-- Entries that wait for the retry time, and temperatures of the third failed attempt (R202). -/
  calRetry : List Nat := []
  calHeld : List (Nat × Int) := []
  /-- Entries with a word whose parity bit no longer holds (R192). -/
  calBad : List Nat := []
  /-- The results that the lane has applied, by entry (R195). -/
  calUsed : List (Nat × Word) := []
  deriving DecidableEq, Repr

/-- One duty bucket: its credit in 10^-6 tick, below 0 where launches that were presented together overdraw it (R348), and the
elapsed tick up to which accrual is counted (R347). -/
structure Bucket where
  credit : Int := 0
  since : Nat := 0
  deriving DecidableEq, Repr

/-- RF common beyond its registers. -/
structure Rf where
  /-- The 16-octet sub-band entries of the RF limits record found valid at the last system or full reset (R167). -/
  bands : List (List Byte) := []
  /-- The eight duty buckets (R347 to R350). -/
  buckets : List Bucket := [{}, {}, {}, {}, {}, {}, {}, {}]
  /-- The image of RF_PORTMAP that waits under R149. -/
  portWait : Option Nat := none
  /-- The half-steps of RC64 coarse trim are done: measurements made by the running RC64 procedure (R205). -/
  rcMeasures : Nat := 0
  /-- The RC64 procedure runs (R205), and it failed (R206). -/
  rcRunning : Bool := false
  deriving DecidableEq, Repr

/-- The value X_k of one sub-carrier of a symbol, exactly: (i + j q) times the square root of num / den (R214, R215, R231). -/
structure Cell where
  i : Int := 0
  q : Int := 0
  num : Nat := 1
  den : Nat := 1
  deriving DecidableEq, Repr

/-- A pan beyond its registers: what it holds of its present detection or frame (R260 to R275). MODEM_PANSTAT.STATE says
how far the frame has come. -/
structure Pan where
  /-- An LE mode has been written since reset (AATOL's first value). -/
  leSeen : Bool := false
  /-- TK_MODEM_PANSTOP has stopped the pan until its next configuration write (R255). -/
  stopped : Bool := false
  /-- In-channel power at detection, then the frame's RSSI, in 1/100 dBm (R266). -/
  power : Int := 0
  gain : Nat := 0
  /-- Its digital gain in 1/100 dB, frozen at its detection (R258, R259). -/
  dgain : Int := 0
  /-- SYNCSEQ at its detection (R218). -/
  seq : Nat := 0
  capt : Bool := false
  hidden : Bool := false
  gainstep : Bool := false
  paired : Bool := false
  hdr : Nat := 0
  hdrOk : Bool := false
  rssi : Int := 0
  rssi2 : Int := -128
  snr : Int := 0
  /-- Timestamp of the sync reference point in 1/64 tick (R272). -/
  ts : Nat := 0
  /-- The table the frame is demodulated with, as it stood at the header decision (R239, R241). -/
  table : List Nat := List.replicate 48 1
  /-- LE Coded: the mode that the coding indicator gave (R277). -/
  coding : Option Nat := none
  /-- Frequency offset in Hz of the hypothesis the LTS correlator kept (R261). -/
  cfo : Int := 0
  /-- Power of a hunter detection that is held, and SYNCSEQ at it (R264, R218). -/
  held : Option (Int × Nat) := none
  /-- Tide time and stratum at the header decision, at which the frame's key is fetched (R295). -/
  fetch : Nat × Nat := (0, 15)
  deriving DecidableEq, Repr

/-- A receive status record on its way to the link controller (R279), with what R233 and the PSDU carry beside its
eight words. -/
structure RxRecord where
  lane : Nat
  pan : Nat
  mode : Nat
  chan : Nat
  words : List Word
  hdr : Nat
  ts : Nat
  rssi : Int
  snr : Int
  fofs : Int
  nsym : Nat
  margins : List Nat
  airtime : Nat
  psdu : List Byte
  /-- Elapsed tick of the frame's end. -/
  endAt : Nat
  /-- The lane has begun the PA preset of its possible ack (R299). -/
  preset : Bool
  /-- Its turn-round cannot be made: its ack is deferred (R336). -/
  deferred : Bool
  /-- Tide time and stratum at its header decision (R295). -/
  fetch : Nat × Nat := (0, 15)
  deriving DecidableEq, Repr

/-- The gain loop of one lane beyond MODEM_LANEGAIN: blocks since the last change of G and since the last overload
step (R256, R259). -/
structure Agc where
  stable : Nat := 0
  sinceOvl : Nat := 16
  deriving DecidableEq, Repr

/-- The modem beyond its registers. -/
structure Modem where
  pans : List (Nat × Pan) := []
  /-- The two lanes' status queues in one list, in order of frame end; at most 16 records of a lane (R281). -/
  queue : List RxRecord := []
  agc : List Agc := [{}, {}]
  deriving DecidableEq, Repr

/-- What an activity is: the kinds of an activity template (Table SCHED-3), and the controller's own work. -/
inductive ActKind where
  | tx
  | rxCtx
  | listen
  | beacon
  | conn
  | leAdv
  | leConn
  | leScan
  | cs
  | forward
  | blockAck
  | ack
  deriving DecidableEq, Repr

/-- How far an activity has come: it lost a conflict and waits (R330); its lane has it (R323); it has launched; it
awaits its ack; it waits for its retransmission (R332). -/
inductive ActPhase where
  | deferred
  | presented
  | running
  | ackWait
  | retryWait
  deriving DecidableEq, Repr

/-- An OML frame on its way out. -/
structure TxFrame where
  /-- Transmit descriptor; 0x3F none. -/
  desc : Nat := 0x3F
  type : Nat := 0
  dst : Nat := 0xFFFF
  kid : Nat := 0
  /-- Key slot handle, where the frame is protected. -/
  key : Nat := 0
  /-- The open context of DST (R316); 512 none. -/
  pctx : Nat := 512
  micsz : Nat := 0
  /-- FCNT, once taken (R332). -/
  fcnt : Option Nat := none
  ackreq : Bool := false
  fbreq : Bool := false
  /-- Type fields that do not depend on the launch (block-acks), mesh header, elements; empty where absent. -/
  fields : List Byte := []
  mesh : List Byte := []
  dack : List Byte := []
  prof : List Byte := []
  payload : List Byte := []
  /-- Loading with its table, and SYNCSEQ, latched at presentation (R243, R218). -/
  loadidx : Nat := 0
  rate : Nat := 0
  rep : Nat := 0
  table : List Nat := List.replicate 48 1
  seq : Nat := 0
  level : Int := 0
  len : Nat := 0
  airtime : Nat := 0
  retries : Nat := 0
  gap : Nat := 0
  tries : Nat := 0
  /-- Full tide time at the sync reference point of the last launch, and header bits as sent. -/
  t64 : Nat := 0
  hdr : Nat := 0
  deriving DecidableEq, Repr

/-- An activity that the link controller holds: timeline entry n under id n; forwarded frame q under 64 + q; the
immediate ack of lane l under 128 + l; a block-ack under the lowest free number from 136. -/
structure Activity where
  id : Nat
  kind : ActKind
  /-- Modulation as in Table RXC-5, channel, lane. -/
  mode : Nat
  chan : Nat
  lane : Nat
  prio : Nat := 0
  latepol : Bool := false
  /-- LATE status; late under R160 or R161. -/
  late : Bool := false
  laneLate : Bool := false
  /-- Context; 512 none. -/
  ctx : Nat := 512
  tlaunch : Nat := 0
  launch : Nat := 0
  phase : ActPhase := .presented
  /-- Sub-band of its transmissions; its listen period has ended clear (R172). -/
  sub : Option Nat := none
  lbtDone : Bool := false
  frame : Option TxFrame := none
  pans : List Nat := []
  /-- Span of its use of the lane, in tide ticks (R329). -/
  useFrom : Nat := 0
  useTo : Nat := 0
  /-- A packet or frame of the partner has come in this event. -/
  heard : Bool := false
  /-- LE: consecutive CRC failures, MD of the last PDUs, channels visited. -/
  crcFails : Nat := 0
  /-- The run was cancelled while it transmits (R322). -/
  cancelled : Bool := false
  /-- It is transmitting; its run was past its launch time (R325). -/
  sending : Bool := false
  past : Bool := false
  /-- A scan waits for an auxiliary packet (R361). -/
  aux : Bool := false
  /-- Its listen period has begun (R173); LE channels whose listen period ended clear, and those found busy (R172). -/
  listening : Bool := false
  clear : List Nat := []
  busy : List Nat := []
  /-- The code it ends with once its last sample has left the port, where that is settled at its launch. -/
  result : Option Nat := none
  /-- The template it was presented with, or runs under (R75). -/
  tmpl : List Byte := []
  /-- FREQ of the span centre chosen for its reception, and the pans it wants (R328). -/
  centre : Nat := 0
  npans : Nat := 0
  deriving DecidableEq, Repr

/-- The answer to a frame that an immediate ack acknowledges (R291, R335). -/
structure AckPlan where
  lane : Nat
  mode : Nat
  chan : Nat
  rep : Nat
  sec : Bool
  micsz : Nat
  key : Nat
  kid : Nat
  src : Nat
  fcnt : Nat
  t40 : Nat
  astat : Nat
  profile : List Byte
  ctx : Nat
  /-- Tide time and elapsed tick of the acknowledged frame's end. -/
  endAt : Nat
  deriving DecidableEq, Repr

/-- A deferred-ack entry (R337): source context (512 none), SRC, key, base counter, 32-bit map, elapsed tick of its
first bit, and the activity of its block-ack once that is presented. -/
structure DackEntry where
  ctx : Nat
  src : Nat
  kid : Nat
  base : Nat
  map : Nat
  first : Nat
  act : Option Nat := none
  deriving DecidableEq, Repr

/-- Receive cells held by a payload: first cell and number of cells (R314). -/
structure CellRun where
  first : Nat
  count : Nat
  deriving DecidableEq, Repr

/-- A frame in the forwarding queue (R344, R345). -/
structure FwdFrame where
  /-- Place in the queue, 0 to 7. -/
  q : Nat
  run : CellRun
  /-- Status record words, context, SRC, KID and mesh header of the received frame. -/
  words : List Word
  rxctx : Nat
  /-- TYPE and type fields of the frame. -/
  type : Nat
  fields : List Byte
  src : Nat
  kid : Nat
  odst : Nat
  osrc : Nat
  hop : Nat
  payload : List Byte
  rxLane : Nat
  mode : Nat
  /-- Next-hop context, template and short address (R343). -/
  ctx : Nat
  tmpl : Nat
  nextHop : Nat
  deriving DecidableEq, Repr

/-- The profile of the latest measured frame of a source (R309): the counter of that frame (0xFFFFFFFF unprotected),
the 28 octets, due as an element, and the elapsed tick at which a profile last went to that partner. -/
structure ProfEntry where
  src : Nat
  pfc : Nat
  bytes : List Byte
  due : Bool
  sentAt : Option Nat
  deriving DecidableEq, Repr

/-- The last thing a lane's port emitted: header (native), octets, tide time of its sync reference point, mode, channel,
target level of a symbol with all sub-carriers active. -/
structure AirTx where
  hdr : Nat
  octets : List Byte
  t64 : Nat
  mode : Nat
  chan : Nat
  level : Int
  /-- The carrier in units of 2^-32 FREQ step (R102, R151). -/
  carrier : Int := 0
  /-- Launch time, and tide time at which the DAC starts, in 1/16 tick (R95, R356). -/
  start : Int := 0
  dac : Int := 0
  /-- Native: the cells of each symbol, k = -26 to +26 (R211, R214). -/
  symbols : List (List Cell) := []
  /-- LE: the air octets from the access address on: the address, then PDU and CRC-24 as whitened. -/
  raw : List Byte := []
  deriving DecidableEq, Repr

/-- A staged change of a connection (R342, R367): the event counter at which it takes effect; 1 connection update,
2 channel map, 3 PHY, 4 the first transmit window, 0 the map of a native connected link. -/
structure Staged where
  ctx : Nat
  op : Nat
  instant : Nat
  /-- Map; or INTERVAL, LATENCY, SUPTO, WINOFS, WINSIZE; or TXPHY, RXPHY. -/
  vals : List Nat
  deriving DecidableEq, Repr

/-- LE work of a context beyond its fields: queued descriptors, the PDU sent and not yet acknowledged (descriptor, 0x3F
for an empty one), events since CONN began, whether a packet has come since, MD of the partner's last packet, events
skipped under latency (R366). -/
structure LeLink where
  ctx : Nat
  queue : List Nat := []
  sent : Option Nat := none
  events : Nat := 0
  established : Bool := false
  md : Bool := false
  skipped : Nat := 0
  lastSn : Option Nat := none
  deriving DecidableEq, Repr

/-- The link controller beyond its registers and LINK RAM. -/
structure Link where
  acts : List Activity := []
  ackPlans : List AckPlan := []
  dacks : List DackEntry := []
  profs : List ProfEntry := []
  /-- Payload cells of the receive queue's entries, oldest first, and the cell after the newest payload. -/
  rxRuns : List CellRun := []
  cellNext : Nat := 0
  /-- RXCELLS in force (R314). -/
  rxCells : Nat := 48
  fwds : List FwdFrame := []
  air : List (Option AirTx) := [none, none]
  staged : List Staged := []
  le : List LeLink := []
  /-- Contexts whose transmit counter is exhausted (R310). -/
  ctxExh : List Nat := []
  /-- The lane whose port gave the higher RSSI on the last frame of a source, while paired (R177). -/
  pairBest : List (Nat × Nat) := []
  /-- Next primary channel of the scan of timeline entry n (R361), by n. -/
  scanNext : List (Nat × Nat) := []
  deriving DecidableEq, Repr

/-- The ring port beyond its registers. -/
structure Ring where
  /-- Ring sluices collected for the next EVENT slot (R394). -/
  evCollected : Nat := 0
  /-- TK_RING_LEAVE has closed the bypass until EN is written 1 (R378). -/
  left : Bool := false
  /-- TIDE_IN carries a valid signal (R382). -/
  locked : Bool := false
  /-- Consecutive TIME messages that passed their CRC, up to 2, and GAP and HOPS of the last one (R402). -/
  seen : Nat := 0
  gapSeen : Bool := false
  hopsSeen : Nat := 0
  /-- Another master was heard (R403). -/
  heard : Bool := false
  /-- The cycle of the last TIME message sent or received. -/
  cycle : Nat := 0
  /-- Fine timestamp of the last K28.0 at TIDE_IN. -/
  ts : Nat := 0
  /-- The last applied TIME message: theta, T, HOPS, SURVEYED (R388). -/
  prev : Option (Int × Nat × Nat × Bool) := none
  /-- EVSUM to act on, and the tide time at which it does (R396). -/
  evFire : Option (Nat × Nat) := none
  /-- Position error in force (R405). -/
  posBad : Bool := false
  /-- Destinations of the pending transmit slots, by slot. -/
  dst : List (Nat × Nat) := []
  /-- Master: masks collected for the next EVSUM (R395); messages to relay; the next segment of the survey in progress;
  SURVEYED as TIME carries it; a survey waits for the first returning TIME message; HOPS at the last survey; a failed
  survey waits for its repetition; the ring is broken; elapsed tick of the last gap. -/
  evAcc : Nat := 0
  relay : List (List Byte) := []
  survey : Option Nat := none
  timeSurveyed : Bool := false
  surveyWanted : Bool := false
  surveyHops : Nat := 0x10
  surveyRetry : Bool := false
  broken : Bool := false
  lastGap : Nat := 0
  /-- The last TIME, EVENT and DATA messages that left TIDE_OUT, as the octets after their control characters. -/
  txTime : List Byte := []
  txEvent : List Byte := []
  txData : List Byte := []
  deriving DecidableEq, Repr

/-- The entropy source and the DRBG (R431 to R434): its output FIFO, generate requests since the last reseed, and a
start-up in progress. -/
structure Trng where
  fifo : List Word := []
  generates : Nat := 0
  starting : Bool := true
  deriving DecidableEq, Repr

/-- A queue job between INIT and FINAL (R417, R419): what its INIT descriptor fixed, and the message octets taken so far. -/
structure QueueJob where
  mode : Nat
  decrypt : Bool
  keylen : Nat
  key : List Byte
  tagLen : Nat
  iv : List Byte
  aad : List Byte
  msgLen : Nat
  done : List Byte
  submit : Nat
  deriving DecidableEq, Repr

/-- One descriptor queue: its job, the AES blocks of the present descriptor not yet started and in flight, a flush in
progress, and the submitters of the pending descriptors by index (R420). -/
structure CipherQueue where
  job : Option QueueJob := none
  active : Bool := false
  todo : Nat := 0
  flight : Nat := 0
  flushing : Bool := false
  subs : List (Nat × Nat) := []
  deriving DecidableEq, Repr

/-- What a core runs. -/
inductive CoreWork where
  | link
  | key
  | queue (q : Nat)
  | test
  deriving DecidableEq, Repr

/-- The cipher engine beyond its registers. -/
structure Cipher where
  queues : List CipherQueue := [{}, {}]
  /-- Work of the four cores; none idle. -/
  cores : List (Option CoreWork) := [none, none, none, none]
  /-- Waiting LINK requests by the elapsed tick of their arrival, oldest first; waiting KEY-class blocks. -/
  link : List Nat := []
  keyWait : Nat := 0
  /-- Self-tests in progress: core, next step, it is the repeat (R423). -/
  tests : List (Nat × Nat × Bool) := []
  /-- Cores that have run no self-test since D11 powered up (R422). -/
  untested : List Nat := [0, 1, 2, 3]
  deriving DecidableEq, Repr

/-- A PKE operation in progress and what its end does: code, operand RAM writes, the ephemeral key it leaves (outer none:
as it was), an import into the key store. -/
structure PkeOp where
  code : Nat
  writes : List (Nat × List Byte) := []
  eph : Option (Option Nat) := none
  imp : Option (Nat × List Word × List Byte) := none
  deriving DecidableEq, Repr

/-- The public-key engine beyond its registers: the operation in progress, the ephemeral key, the digest in progress (its
message so far), the length valid octets of the finished message, and the digest that waits for its end. -/
structure Pke where
  op : Option PkeOp := none
  eph : Option Nat := none
  sha : Option (List Byte) := none
  digest : Option (List Byte) := none
  deriving DecidableEq, Repr

/-- A key store command that runs (R444, R630): what its end does. -/
inductive KeyEnd where
  /-- A new slot with its attribute words and its material becomes VALID (DERIVE, IMPORT). -/
  | make (slot : Nat) (attr : List Word) (material : List Byte)
  /-- A slot takes narrowed attributes (RESTRICT). -/
  | narrow (slot : Nat) (attr : List Word)
  /-- The root is written (ROOTGEN). -/
  | root (material : List Byte)
  /-- Nothing changes at the end. -/
  | nothing
  deriving DecidableEq, Repr

/-- The key store beyond its registers. The attributes of slot n stand in KEYSTORE_SLOTATTR[n]. -/
structure KeyStore where
  /-- Key material of the slots that hold any, unmasked (R438). -/
  material : List (Nat × List Byte) := []
  /-- The running command and the code it will end with. -/
  cmd : Option (KeyEnd × Nat) := none
  /-- The running command is INVALIDATE or another whose end waits for the sweep (R453). -/
  cmdWaits : Bool := false
  /-- The running sweep: the slot it visits next and the slots still to visit since the latest marking (R453). -/
  sweep : Option (Nat × Nat) := none
  /-- VALID slots with a DEAD ancestor that the sweep has still to reach (R453). -/
  orphans : List Nat := []
  /-- Units programmed in the life-cycle row and in the guard-level row (R553). -/
  lcUnits : Nat := 0
  glUnits : Nat := 0
  /-- The life-cycle state a transition in progress goes to (R462). -/
  lcTo : Option Nat := none
  /-- The change from GL1 to GL0 is in progress (R464). -/
  glErase : Bool := false
  /-- The refresh pass in progress: the slot of its next step (R456). -/
  pass : Option Nat := none
  /-- A refresh pass waits for the DRBG (R456). -/
  passWaits : Bool := false
  /-- The mask in force and the mask the pass in progress puts on, as draws of the DRBG (R455). -/
  mask : BitVec 256 := 0
  nextMask : BitVec 256 := 0
  /-- The draw that fixed the permutation of slots over rows (R455). -/
  permutation : Nat := 0
  deriving DecidableEq, Repr

/-- The backup domain D0 beyond its registers: the root in BBRAM, zeroed or absent where the list is empty (R436); the LF
cycles that its backup counter has counted while D1 was off (Table TIDE-1). -/
structure Backup where
  root : List Byte := []
  lfCount : Nat := 0
  deriving DecidableEq, Repr

/-- An entry of a merge buffer (R483): word address, byte mask, the four octets, block identifier of the last writer. -/
structure MergeEntry where
  word : Nat
  mask : Nat
  octets : List Byte
  block : Nat
  deriving DecidableEq, Repr

/-- One SRAM group: its merge entries, oldest first, and its pending write-back (R480). -/
structure SramGroup where
  merge : List MergeEntry := []
  writeback : Option Nat := none
  deriving DecidableEq, Repr

/-- SRAM beyond the octets: valid bits by word address (R477), words whose stored code is in error (1 correctable, 2
uncorrectable; R480, R482), the groups, and the group of the running rake pass (R486). -/
structure Sram where
  valid : List (Nat × Bool) := []
  faults : List (Nat × Nat) := []
  groups : List SramGroup := [{}, {}, {}]
  rake : Option Nat := none
  deriving DecidableEq, Repr

/-- One line of a cache: its first address and its 32 octets (R473). -/
structure CacheLine where
  base : Nat
  octets : List Byte
  deriving DecidableEq, Repr

/-- The lines that a core's two caches hold (R466, R472). -/
structure CoreCache where
  instr : List CacheLine := []
  data : List CacheLine := []
  deriving DecidableEq, Repr

/-- The two cores, as far as the device sees them: held in reset, the address at which each last started, waiting for an
interrupt, pending fabric interrupt lines, and their caches. -/
structure Cores where
  held : List Bool := [false, true]
  start : List Nat := [0x01000000, 0]
  waiting : List Bool := [false, false]
  irq : List Nat := [0, 0]
  caches : List CoreCache := [{}, {}]
  deriving DecidableEq, Repr

/-- How a suspended erase was suspended (R507, R509). -/
inductive Suspension where
  | auto
  | command
  deriving DecidableEq, Repr

/-- A block erase (R503): its block, its pulses so far, how it is suspended, a resume that waits for a unit to end, and
whether the harvest asked for it (R598). -/
structure EraseOp where
  block : Nat
  pulses : Nat := 0
  susp : Option Suspension := none
  resume : Bool := false
  harvest : Bool := false
  resumed : Bool := false
  deriving DecidableEq, Repr

/-- One flash bank beyond its registers: PDATA words written without word 3, the unit that programs and the next one
(address, octets), an accepted ERASE that has not started, the erase, header writes queued (block, count), the units in
its read buffer. -/
structure FlashBank where
  partialData : Bool := false
  unit : Option (Nat × List Byte) := none
  next : Option (Nat × List Byte) := none
  eraseWaits : Option Nat := none
  erase : Option EraseOp := none
  headers : List (Nat × Nat) := []
  buffer : List Nat := []
  deriving DecidableEq, Repr

/-- Flash beyond its registers and octets: the banks, the units that read as uncorrectable (R497), the blocks whose erase
did not finish, the early-warning FIFO (R498). The hidden journal blocks and header units stand in memory above the bus
addresses. -/
structure Flash where
  banks : List FlashBank := [{}, {}]
  bad : List Nat := []
  torn : List Nat := []
  warn : List (Nat × Nat) := []
  deriving DecidableEq, Repr

/-- The power state the device rests in (Table PWR-2). -/
inductive PowerState where
  | run
  | doze
  | nap
  | sleep
  | deep
  | off
  deriving DecidableEq, Repr

/-- A wake sequence (R539): the state left, the step whose ready signal is awaited (0 regulator, 1 oscillator, 2 memory, 3
logic), the source code of the wake, and that it is the repeat after a timeout (R541). -/
structure WakeSeq where
  from_ : PowerState
  step : Nat := 0
  source : Nat
  again : Bool := false
  deriving DecidableEq, Repr

/-- The PMU beyond its registers: the power state; the state an entry sequence goes to; a wake that waits for the entry to
complete (R537); the wake sequence in progress; the crystal has been started and does not run yet. -/
structure Power where
  state : PowerState := .run
  entering : Option PowerState := none
  wakeAfter : Option Nat := none
  wake : Option WakeSeq := none
  xtalStarting : Bool := false
  deriving DecidableEq, Repr

/-- What D0 keeps over DEEP and OFF beside the tide snapshot: the duty credits (R350) and the lifetime counters (R593). -/
structure Kept where
  credits : List Int := []
  life : List Word := []
  deriving DecidableEq, Repr

/-- How far the device is after a reset: held in reset, in the boot ROM, in firmware, in dry-pan mode. -/
inductive BootPhase where
  | held
  | rom
  | firmware
  | dryPan
  deriving DecidableEq, Repr

/-- Reset and start-up beyond the registers. -/
structure Boot where
  phase : BootPhase := .rom
  /-- Reset requests that are pending together (R551): the broadest scope (0 none, 1 warm, 2 system, 3 full) and the
  RSTCAUSE bits of their sources. -/
  scope : Nat := 0
  causes : Nat := 0
  /-- Code of the last WAKETO cause (0x0730 to 0x0733). -/
  wakeCode : Nat := 0
  /-- CLRFS was written with the reset request (R561). -/
  clrfs : Bool := false
  /-- Slot, VERSION and ENTRY of the firmware started, and FSCNT and LIMIT as used at this start. -/
  slot : Nat := 0
  version : Nat := 0
  entry : Nat := 0
  fscnt : Nat := 0
  limit : Nat := 3
  /-- The GOOD unit of R560 waits for the supply monitor (R518). -/
  goodWaits : Bool := false
  /-- Elapsed tick at which the core watchdog's count was last restarted (R568). -/
  cwdtFrom : Nat := 0
  /-- Ticks that the core watchdog counted before `cwdtFrom`: it pauses in NAP, SLEEP and DEEP (R568). -/
  cwdtRan : Nat := 0
  /-- The elements of the last recovery beacon: its T40, and the octets it was sent as (R566, R567). -/
  beaconT40 : Option Nat := none
  beacon : List Byte := []
  deriving DecidableEq, Repr

/-- The peripherals beyond their registers. -/
structure Periph where
  /-- A conversion sequence of the ADC runs; its channels still to convert; its result FIFO (channel, result). -/
  adcRunning : Bool := false
  adcTodo : List Nat := []
  adcFifo : List (Nat × Nat) := []
  /-- Characters in transmission and in the receive FIFO, by UART. -/
  uartTx : List (List Byte) := [[], [], []]
  uartRx : List (List Byte) := [[], [], []]
  /-- Transmit and receive FIFOs, and the octets last sent on the bus, by SPIM and by I2C. -/
  spiTx : List (List Byte) := [[], []]
  spiRx : List (List Byte) := [[], []]
  spiOut : List (List Byte) := [[], []]
  i2cTx : List (List Byte) := [[], []]
  i2cRx : List (List Byte) := [[], []]
  i2cOut : List (List Byte) := [[], []]
  /-- The timers that run. -/
  tmrRunning : List Bool := [false, false, false, false]
  /-- CAN buffers requested while others were: they may have come too late for the arbitration in progress (R591). -/
  canNew : Word := 0
  /-- The octets that HOSTP_MISO carried in the last host transaction. -/
  miso : List Byte := []
  deriving DecidableEq, Repr

/-- An event of the lifetime counters: n more in a field of word w, a code with its block identifier, a value that
lowers a field, or a temperature sample. -/
inductive LifeEvent where
  | count (w lo width n : Nat)
  | count64 (w n : Nat)
  | code (c blk : Nat)
  | low (w lo width v : Nat)
  | temp (t : Int)
  deriving DecidableEq, Repr

/-- The lifetime block beyond its registers. -/
structure Life where
  /-- Events that wait for loading to end (R599). -/
  held : List LifeEvent := []
  /-- Air time below one unit of 2^20 ticks: TX by 2 * lane + band, then RX by lane. -/
  airRest : List Nat := [0, 0, 0, 0, 0, 0]
  /-- The pending harvest was requested by a write (R596). -/
  requested : Bool := false
  /-- The record being written, its slot, and its units already programmed (R597). -/
  record : List Byte := []
  slot : Nat := 0
  units : Nat := 0
  /-- Words 4 to 30 as a valid D0 snapshot holds them, from D1 power-up until loading ends (R599). -/
  restore : Option (List Word) := none
  deriving DecidableEq, Repr

/-- The whole state of the device. -/
@[ext]
structure State where
  /-- The register file: the registers whose value differs from their reset value. -/
  regs : List (Nat × Word) := []
  /-- Flash, information area, SRAM, LINK RAM, job RAM and CAN buffer RAM, by octet. -/
  mem : List Host.Cell := []
  /-- Producer edges and direct sluice edges that the fabric has not taken yet, oldest first. -/
  edges : List Edge := []
  /-- Task inputs started by the fabric whose step has not come yet, oldest first. -/
  tasks : List Nat := []
  /-- The last answer of the bus. -/
  bus : BusAnswer := .none
  /-- Register words latched by a read of their partner (R282, R304, R347, R594), by address. -/
  latch : List (Nat × Word) := []
  /-- Draws of free values so far: the model's own field (notes/assumptions/2.md). -/
  freeCounter : Nat := 0
  tide : Tide := {}
  snapshot : Snapshot := {}
  salt : Salt := {}
  /-- The sluices that are not idle with an empty history. -/
  sluices : List (Nat × Sluice) := []
  /-- Background activities (Table ARCH-5) with a yielded step that waits to restart (R26). -/
  yielded : List Nat := []
  rf : Rf := {}
  lanes : List LaneState := [{}, {}]
  modem : Modem := {}
  link : Link := {}
  ring : Ring := {}
  sram : Sram := {}
  cores : Cores := {}
  flash : Flash := {}
  power : Power := {}
  kept : Kept := {}
  boot : Boot := {}
  per : Periph := {}
  life : Life := {}
  keys : KeyStore := {}
  cipher : Cipher := {}
  pke : Pke := {}
  trng : Trng := {}
  backup : Backup := {}
  /-- Commands that wait, first in first out. -/
  pending : List Instr := []
  deriving DecidableEq, Repr

/-- The registers that a power-on reset leaves at another value than their reset value: FLASHC loads its erase counts in
both banks (R512), the three SRAM groups clear their valid bits (R479), slot 0 has its fixed attributes but no root (R437),
tide time starts cold (R90), RSTCAUSE names the power-on (R551). -/
def State.resetRegisters : List (Nat × Word) :=
  [(0x40000184, 1), (0x40062000, 0x2000), (0x40062004, 0x101006), (0x40062008, 0xFFFF), (0x40062014, 0xFFFFFFFF),
   (0x40062018, 0xFFFFFFFF), (0x40070040, 5), (0x40070044, 5), (0x40080010, 8), (0x40080014, 8), (0x40080018, 8), (0x5000101C, 0x80)]

/-- The device right after power-on reset (full scope), before the boot ROM's first step: every register that is not
listed at its reset value, memory with nothing listed, no command waiting; the start edge of CPU0 is on its way to the
fabric (R127), the reset waits to be counted until the lifetime words are loaded (R599), a mask of the key store waits for
the DRBG (R455), the crystal has been started (R539). Registers the spec gives no reset value: notes/assumptions/4.md. -/
def State.reset : State :=
  { regs := State.resetRegisters, edges := [.producer 0x11F], life := { held := [.count 16 16 16 1] },
    keys := { passWaits := true }, power := { xtalStarting := true } }

end Sys2Proof.Machine
end

