-- ==== Sys2Proof/Machine/Ops.lean ====
section
/-!
DEFINITION. The named operations over registers and memory: every meaning reads and writes them through these.
A register's value is its entry in the register file, or its reset value where none is listed.
-/

namespace Sys2Proof.Machine

/-! ### Registers -/

/-- The stored value of the register at address a. -/
def State.rd (s : State) (a : Nat) : Word := sparseGet resetValue s.regs a

/-- Store a register value. -/
def State.wr (a : Nat) (v : Word) (s : State) : State := { s with regs := sparseSet resetValue a v s.regs }

/-- The value of a field of a register. -/
def State.get (s : State) (f : Field) : Nat := (s.rd f.addr).toNat / 2 ^ f.lo % 2 ^ f.width

/-- The register value r with field f replaced by v (modulo the field's width). -/
def fieldPut (f : Field) (v r : Nat) : Nat :=
  r / 2 ^ (f.lo + f.width) * 2 ^ (f.lo + f.width) + v % 2 ^ f.width * 2 ^ f.lo + r % 2 ^ f.lo

/-- Store a field of a register; the register's other bits stay. -/
def State.put (f : Field) (v : Nat) (s : State) : State :=
  s.wr f.addr (BitVec.ofNat 32 (fieldPut f v (s.rd f.addr).toNat))

/-- Is a field non-zero? -/
def State.has (s : State) (f : Field) : Bool := s.get f != 0

/-- Bit k of a register. -/
def State.bit (s : State) (a k : Nat) : Bool := (s.rd a).toNat / 2 ^ k % 2 == 1

/-- Set or clear bit k of a register. -/
def State.putBit (a k : Nat) (b : Bool) (s : State) : State := s.put ⟨a, k, 1⟩ (if b then 1 else 0)

/-- Put every register whose address satisfies p back to its reset value. -/
def State.resetRegs (p : Nat → Bool) (s : State) : State := { s with regs := sparseFilter (fun a => !p a) s.regs }

/-- Latch a word for the next read of the register at a. -/
def State.setLatch (a : Nat) (v : Word) (s : State) : State := { s with latch := sparseSet (fun _ => 0) a v s.latch }

/-- The latched word of the register at a. -/
def State.latched (s : State) (a : Nat) : Word := sparseGet (fun _ => 0) s.latch a

/-! ### Memory (Table ARCH-3): octets by bus address -/

/-- What an octet reads as that nothing has written: flash, the information area and the hidden units are erased (R499),
SRAM is invalid and reads 0 (R478); the LINK RAM, job RAM and CAN buffer RAM start at 0, DESIGN CHOICE
(notes/assumptions/5.md). -/
def memDefault (a : Nat) : Byte :=
  if a < 0x00400000 then 0xFF#8
  else if 0x0FF00000 ≤ a ∧ a < 0x0FF08000 then 0xFF#8
  else if 0x100000000 ≤ a then 0xFF#8
  else 0#8

def State.byte (s : State) (a : Nat) : Byte := sparseGet memDefault s.mem a

def State.setByte (a : Nat) (v : Byte) (s : State) : State := { s with mem := sparseSet memDefault a v s.mem }

/-- The n octets from address a on. -/
def State.bytes (s : State) (a : Nat) : Nat → List Byte
  | 0 => []
  | n + 1 => s.byte a :: s.bytes (a + 1) n

/-- Write octets from address a on. -/
def State.setBytes (a : Nat) : List Byte → State → State
  | [], s => s
  | b :: t, s => State.setBytes (a + 1) t (s.setByte a b)

/-- The little-endian number in the n octets from a on. -/
def State.num (s : State) (a n : Nat) : Nat := natOfLE (s.bytes a n)

/-- Write x as n octets, little-endian, from a on. -/
def State.setNum (a n x : Nat) (s : State) : State := s.setBytes a (bytesLE n x)

def State.word (s : State) (a : Nat) : Word := BitVec.ofNat 32 (s.num a 4)

def State.setWord (a : Nat) (v : Word) (s : State) : State := s.setNum a 4 v.toNat

/-- The n bits from bit lo on, of the record at a. -/
def State.bitsAt (s : State) (a lo n : Nat) : Nat := s.num (a + lo / 8) ((lo % 8 + n + 7) / 8) / 2 ^ (lo % 8) % 2 ^ n

/-- Replace the n bits from bit lo on, of the record at a. -/
def State.setBitsAt (a lo n v : Nat) (s : State) : State :=
  let len := (lo % 8 + n + 7) / 8
  let b := a + lo / 8
  s.setNum b len (fieldPut ⟨b, lo % 8, n⟩ v (s.num b len))

/-- Erase the octets of a block or journal block. -/
def wipe (lo len : Nat) (s : State) : State := { s with mem := sparseFilter (fun a => a < lo || lo + len ≤ a) s.mem }

/-! ### Events, tasks, free values -/

/-- A producer delivers one edge (R127). -/
def State.fire (p : Nat) (s : State) : State := { s with edges := s.edges ++ [.producer p] }

/-- An edge straight into one sluice (R131). -/
def State.fireSluice (n : Nat) (s : State) : State := { s with edges := s.edges ++ [.direct n] }

/-- Take the first started task i off the list of tasks that have started and not yet been acted on. -/
def State.takeTask (i : Nat) (s : State) : State := { s with tasks := s.tasks.erase i }

/-- The next free value. -/
def State.freeNat (s : State) : Nat := Config.freeValue s.freeCounter

/-- Move on to a new free value. -/
def State.freeNext (s : State) : State := { s with freeCounter := s.freeCounter + 1 }

/-! ### Power domains -/

/-- Would Dk be On by itself: its own switch, or, in RUN and DOZE, AUTO mode with work of the link controller on it (R525)? -/
def State.domSelf (s : State) (k : Nat) : Bool :=
  s.get Fld.PMU_DOMSTAT_ON / 2 ^ k % 2 == 1
  || (8 ≤ k && k ≤ 10 && (s.power.state == .run || s.power.state == .doze)
      && s.get ⟨Reg.PMU_DOMCTL, 2 * k - 8, 2⟩ == 3 && s.link.acts.any (fun a => k == 8 || a.lane + 9 == k))

/-- Dk and the domains that one committed DOMAIN_GROUP entry switches with it (R50, R525). -/
def State.domMates (s : State) (k : Nat) : List Nat :=
  match s.salt.records.find? (fun r => r.type == 4) with
  | some r =>
    match (chunks 4 r.body).find? (fun e => natOfLE e / 2 ^ (16 + k) % 2 == 1) with
    | some e => (List.range 13).filter (fun j => natOfLE e / 2 ^ (16 + j) % 2 == 1)
    | none => [k]
  | none => [k]

/-- Is power domain Dk On (PMU_DOMSTAT.ON)? -/
def State.domOn (s : State) (k : Nat) : Bool := (s.domMates k).any s.domSelf

/-- Is Dk in retention (PMU_DOMSTAT.RET)? -/
def State.domRet (s : State) (k : Nat) : Bool :=
  !s.domOn k && (s.domMates k).any (fun j => s.get Fld.PMU_DOMSTAT_RET / 2 ^ j % 2 == 1)

/-- Does Dk keep its contents: On, or in retention (R522)? -/
def State.domKept (s : State) (k : Nat) : Bool := s.domOn k || s.domRet k

end Sys2Proof.Machine
end

