-- ==== Sys2Proof/Machine/Operands.lean ====
section
/-!
DEFINITION. The operand forms the commands share: signed fields, saturating and rounding arithmetic, bit lists.
-/

namespace Sys2Proof.Machine

/-- The signed reading of a w-bit number. -/
def toS (w v : Nat) : Int := if 2 ^ (w - 1) ≤ v % 2 ^ w then (v % 2 ^ w : Int) - 2 ^ w else (v % 2 ^ w : Int)

/-- The w-bit two's complement of an integer. -/
def ofS (w : Nat) (i : Int) : Nat := (i % (2 ^ w : Int)).toNat

/-- An integer limited to what w signed bits hold. -/
def satS (w : Nat) (i : Int) : Int := max (-(2 ^ (w - 1) : Int)) (min i (2 ^ (w - 1) - 1))

/-- An integer limited to what w unsigned bits hold. -/
def satU (w : Nat) (i : Int) : Nat := (max 0 (min i (2 ^ w - 1))).toNat

/-- The nearest integer to a / b, halves upwards. -/
def roundDiv (a : Int) (b : Nat) : Int := (2 * a + b) / (2 * b)

/-- The numbers of the set bits of x below n, lowest first. -/
def bitsOf (n x : Nat) : List Nat := (List.range n).filter (fun k => x / 2 ^ k % 2 == 1)

/-- The number of set bits of x below n. -/
def popCount (n x : Nat) : Nat := (bitsOf n x).length

def testBit' (x k : Nat) : Bool := x / 2 ^ k % 2 == 1

def setBitN (x k : Nat) : Nat := if x / 2 ^ k % 2 = 1 then x else x + 2 ^ k

def clearBitN (x k : Nat) : Nat := if x / 2 ^ k % 2 = 1 then x - 2 ^ k else x

/-- A signed field of a register. -/
def State.getS (s : State) (f : Field) : Int := toS f.width (s.get f)

/-- Store a signed field of a register. -/
def State.putS (f : Field) (v : Int) (s : State) : State := s.put f (ofS f.width v)

/-- The number of octets of an access. -/
def sizeOctets (z : AccessSize) : Nat := match z with | .byte => 1 | .half => 2 | .word => 4

/-- The entry at place n of a list, or d. -/
def nth {α : Type} (d : α) (l : List α) (n : Nat) : α := l.getD n d

/-- The list with place n replaced. -/
def setNth {α : Type} (l : List α) (n : Nat) (v : α) : List α := l.set n v

end Sys2Proof.Machine
end

