-- ==== Sys2Proof/Machine/Flags.lean ====
section
/-!
DEFINITION. Flags and counters: setting a flag, counting in a saturating or wrapping counter (R8), setting one bit of
a per-index flag register.
-/

namespace Sys2Proof.Machine

/-- Set a flag. -/
def State.flag (f : Field) (s : State) : State := s.put f 1

/-- Clear a flag. -/
def State.unflag (f : Field) (s : State) : State := s.put f 0

/-- Add n to a saturating counter (R8). -/
def State.count (f : Field) (n : Nat) (s : State) : State := s.put f (min (s.get f + n) (2 ^ f.width - 1))

/-- Count one in a saturating counter (R8). -/
def State.inc (f : Field) (s : State) : State := s.count f 1

/-- Count one in a wrapping counter (R8). -/
def State.incWrap (f : Field) (s : State) : State := s.put f (s.get f + 1)

/-- Run f on the state if the condition holds. -/
def State.onlyIf (c : Bool) (f : State → State) (s : State) : State := if c then f s else s

/-- Fold a state change over a list. -/
def State.forEach {α : Type} (l : List α) (f : α → State → State) (s : State) : State :=
  l.foldl (fun s x => f x s) s

end Sys2Proof.Machine
end

