-- ==== Sys2Proof/Machine/Arch.lean ====
section
/-!
DEFINITION. Architecture: the CPU and bus clock (R17, R629), the source of the MODEM/LINK island and its mirrors
(R35), background work that yields (R23 to R26).
-/

namespace Sys2Proof.Machine

/-- The outcome type of every meaning. -/
abbrev Out := Host.Outcome State Fault Refusal

/-- Does a master issue bus requests? In lockstep CPU1 issues none, and the pair is one master, CPU0 (R22). -/
def State.issues (s : State) (m : Master) : Bool := !(m == .cpu1 && s.has Fld.SYSCFG_FOSTAT_LOCKSTEP)

/-- CLKSRC of the MODEM/LINK island, as the PMU holds it. -/
def State.clkSrc (s : State) : Nat := s.get Fld.TIDE_STAT_CLKSRC

/-- Set CLKSRC, with its mirrors in SYSCFG_CLKCFG and SYSCFG_FOSTAT.XTALFAIL (R35). -/
def State.setClkSrc (v : Nat) (s : State) : State :=
  ((s.put Fld.TIDE_STAT_CLKSRC v).put Fld.SYSCFG_CLKCFG_CLKSRC v).put Fld.SYSCFG_FOSTAT_XTALFAIL
    (if v = 2 then 1 else 0)

/-- The bus clock in MHz that a value of SYSCFG_CLKCFG would set, with the source the value selects (R17). -/
def busMHz (pllen busdiv cpudiv : Nat) : Nat :=
  (if pllen = 1 then 128 else 64) / 2 ^ cpudiv / (if busdiv = 1 then 2 else 1)

/-- CLKCFG_WRITE (R17, R629). -/
def execClkcfgWrite (value : Word) (s : State) : Out :=
  let v := value.toNat
  let pllen := v % 2
  let busdiv := v / 2 % 2
  let cpudiv := v / 4 % 4
  if 64 < busMHz pllen busdiv cpudiv then .next s
  else
    let s := ((s.put Fld.SYSCFG_CLKCFG_PLLEN pllen).put Fld.SYSCFG_CLKCFG_BUSDIV busdiv).put
      Fld.SYSCFG_CLKCFG_CPUDIV cpudiv
    .next (if pllen = 0 then s.unflag Fld.SYSCFG_CLKCFG_PLLLOCK else s)

/-- PLL_LOCK (R629): the PLL locks while PLLEN = 1. -/
def execPllLock (s : State) : Out :=
  .next (if s.has Fld.SYSCFG_CLKCFG_PLLEN then s.flag Fld.SYSCFG_CLKCFG_PLLLOCK else s)

/-- A step of background activity n yields to foreground work (R23, R26): it is counted and waits to restart. -/
def yieldBackground (n : Nat) (s : State) : State :=
  let s := s.inc (Fld.SYSCFG_BGYIELD_YIELDS n)
  if s.yielded.contains n then s else { s with yielded := s.yielded ++ [n] }

/-- A step of background activity n runs: nothing of it waits to restart (R26). -/
def stepResumed (n : Nat) (s : State) : State := { s with yielded := s.yielded.filter (fun k => k != n) }

end Sys2Proof.Machine
end

