-- ==== Sys2Proof/Machine/Tide.lean ====
section
/-!
DEFINITION. Tide time: the tide clock, steps and slews (R82 to R93), stratum and source selection (R97 to R101, R628),
the gates (R113 to R120).
-/

namespace Sys2Proof.Machine

/-- TIDE_NOW in ticks: the integer part of the accumulator (R82). -/
def State.now (s : State) : Nat := s.tide.acc / 2 ^ 32

/-- Ticks that have passed, steps left out (R29). -/
def State.elapsed (s : State) : Nat := s.tide.elapsed / 2 ^ 32

/-- TIDE_RATE as a signed number of 2^-32 (R83). -/
def State.rate (s : State) : Int := s.getS Fld.TIDE_RATE_RATE

def State.stratum (s : State) : Nat := s.get Fld.TIDE_STAT_STRATUM

/-- Does the AON island run at 32.768 kHz (R87)? -/
def State.lfMode (s : State) : Bool := s.has Fld.TIDE_STAT_LFMODE

/-- What one AON cycle adds to the accumulator, in 2^-32 tick (R82, Table TIDE-1). -/
def tideIncrement (s : State) : Nat :=
  if s.lfMode then s.get Fld.TIDE_LFINC_INC * 2 ^ 16
  else ((2 ^ 32 : Int) + s.rate + (if s.tide.slewLeft = 0 then 0 else s.tide.slew)).toNat

/-- One cycle of the AON clock (R82, R87). In LF mode the slew adds nothing, and its length runs down by one a cycle: the
manual is silent on a slew there, DESIGN CHOICE (notes/assumptions/51.md). -/
def tideTick (s : State) : State :=
  let i := tideIncrement s
  { s with tide := { s.tide with acc := s.tide.acc + i, elapsed := s.tide.elapsed + i, slewLeft := s.tide.slewLeft - 1 } }

/-- One LF cycle of D0's backup counter while D1 is off (Table TIDE-1). -/
def backupTick (s : State) : State :=
  if s.tide.lfPresent then { s with backup := { s.backup with lfCount := s.backup.lfCount + 1 } } else s

/-! ### Gates -/

/-- T of gate n: THI:TLO (R113). -/
def State.gateT (s : State) (n : Nat) : Nat :=
  s.get (Fld.TIDE_GATE_THI_T n) * 2 ^ 32 + s.get (Fld.TIDE_GATE_TLO_T n)

def State.setGateT (n t : Nat) (s : State) : State :=
  (s.put (Fld.TIDE_GATE_TLO_T n) t).put (Fld.TIDE_GATE_THI_T n) (t / 2 ^ 32)

/-- A gate with ARMSYNC and EN holds while the stratum is 15 (R120). -/
def State.gateHeld (s : State) (n : Nat) : Bool :=
  s.has (Fld.TIDE_GATE_CTL_EN n) && s.has (Fld.TIDE_GATE_CTL_ARMSYNC n) && s.stratum == 15

def State.gateStepped (s : State) (n : Nat) : Bool := s.tide.gateStepped.getLsbD n

def State.gateLateNext (s : State) (n : Nat) : Bool := s.tide.gateLateNext.getLsbD n

/-- The 32-bit word with bit n set to b. -/
def wordSetBit (w : BitVec 32) (n : Nat) (b : Bool) : BitVec 32 :=
  if b then w ||| (1#32 <<< n) else w &&& ~~~(1#32 <<< n)

def State.setGateStepped (n : Nat) (b : Bool) (s : State) : State :=
  { s with tide := { s.tide with gateStepped := wordSetBit s.tide.gateStepped n b } }

def State.setGateLateNext (n : Nat) (b : Bool) (s : State) : State :=
  { s with tide := { s.tide with gateLateNext := wordSetBit s.tide.gateLateNext n b } }

/-- Give a gate its time from an offset and release it (R120). -/
def gateArmOffset (n : Nat) (s : State) : State :=
  (s.setGateT n (s.now + s.get (Fld.TIDE_GATE_TLO_T n))).unflag (Fld.TIDE_GATE_CTL_ARMSYNC n)

/-- At EV_TIDE_SYNC every held gate gets T := TIDE_NOW + TLO (R120). -/
def gatesRelease (s : State) : State :=
  s.forEach (List.range 32) (fun n s =>
    if s.has (Fld.TIDE_GATE_CTL_EN n) && s.has (Fld.TIDE_GATE_CTL_ARMSYNC n) then gateArmOffset n s else s)

/-- A forward step has carried TIDE_NOW from old to new past T of gate n (R117). -/
def gateCross (old new n : Nat) (s : State) : State :=
  let t := s.gateT n
  if s.has (Fld.TIDE_GATE_CTL_EN n) && !s.gateHeld n && decide (old < t) && decide (t ≤ new) then
    let per := s.get (Fld.TIDE_GATE_PER_PER n)
    let later := if per = 0 then 0 else (new - t) / per
    let s := if per = 0 then s else s.setGateT n (t + (later + 1) * per)
    let skips := fun k s => if k = 0 then s else
      (State.count Fld.TIDE_GATESKIP_SKIPS k s).put Fld.TIDE_GATESKIP_LASTGATE n
    if s.has (Fld.TIDE_GATE_CTL_STEPPOL n) then
      let s := skips (later + 1) s
      if per = 0 then s.unflag (Fld.TIDE_GATE_CTL_EN n) else s
    else
      (skips later s).setGateStepped n true |>.setGateLateNext n (decide (t < new))
  else s

/-- The gate fires (R113 to R115): its sluice gets one edge, a one-shot gate is disarmed, a periodic one advances. -/
def gateFire (n : Nat) (s : State) : State :=
  let t := s.gateT n
  let late := s.gateLateNext n || (!s.gateStepped n && decide (t + 1 < s.now))
  let per := s.get (Fld.TIDE_GATE_PER_PER n)
  let s := s.fireSluice (s.get (Fld.TIDE_GATE_CTL_SLUICE n))
  let s := if late then s.putBit Reg.TIDE_GATELATE n true else s
  let s := if per = 0 then s.unflag (Fld.TIDE_GATE_CTL_EN n)
           else if s.gateStepped n then s else s.setGateT n (t + per)
  (s.setGateStepped n false).setGateLateNext n false

/-- GATE_FIRE (R113): a gate that is enabled, not held and due fires; one that is not due does nothing. -/
def execGateFire (gate : Fin 32) (s : State) : Out :=
  let n := gate.val
  if s.has (Fld.TIDE_GATE_CTL_EN n) && !s.gateHeld n && (s.gateStepped n || decide (s.gateT n ≤ s.now)) then
    .next (gateFire n s)
  else .next s

/-- What a write of v to TIDE_GATE_CTL[n] does (R119, R120, R115). -/
def gateCtlWrite (n v : Nat) (s : State) : State :=
  let wasEn := s.has (Fld.TIDE_GATE_CTL_EN n)
  let wasHeld := s.gateHeld n
  let s := (((((s.put (Fld.TIDE_GATE_CTL_SLUICE n) (v / 256)).put (Fld.TIDE_GATE_CTL_ARMSYNC n) (v / 8)).put
    (Fld.TIDE_GATE_CTL_STEPPOL n) (v / 4)).put (Fld.TIDE_GATE_CTL_WAKE n) (v / 2)).put (Fld.TIDE_GATE_CTL_EN n) v)
  let sync := s.has (Fld.TIDE_GATE_CTL_ARMSYNC n)
  let markLate := fun s : State => s.setGateLateNext n (decide (s.gateT n ≤ s.now))
  if v % 2 = 0 then (s.setGateStepped n false).setGateLateNext n false
  else if !wasEn then
    if sync then (if s.stratum < 15 then gateArmOffset n s else s) else markLate s
  else if wasHeld && !sync then markLate s
  else s

/-- GATE_REGISTER_WRITE (R119): register 0 is TLO, 1 THI, 2 PER, 3 CTL of the gate. -/
def execGateRegisterWrite (gate : Fin 32) (reg : Fin 4) (value : Word) (s : State) : Out :=
  let n := gate.val
  let v := value.toNat
  let en := s.has (Fld.TIDE_GATE_CTL_EN n)
  match reg with
  | 0 => .next (if en then s else s.put (Fld.TIDE_GATE_TLO_T n) v)
  | 1 => .next (if en then s else s.put (Fld.TIDE_GATE_THI_T n) v)
  | 2 => .next (if en then s else s.put (Fld.TIDE_GATE_PER_PER n) v)
  | 3 => .next (gateCtlWrite n v s)

/-! ### Steps, slews, stratum -/

/-- A step of TIDE_NOW by delta whole ticks (R84): flag, count, epoch, event; a forward step crosses gates (R117). A backward
step larger than TIDE_NOW leaves 0: DESIGN CHOICE (notes/assumptions/51.md). -/
def tideStep (delta : Int) (s : State) : State :=
  let old := s.now
  let s := { s with tide := { s.tide with acc := ((s.tide.acc : Int) + delta * 2 ^ 32).toNat } }
  let s := (((s.flag Fld.TIDE_FLAGS_STEP).inc Fld.TIDE_CNT_STEPS).incWrap Fld.TIDE_STAT_STEPEPOCH).fire EV.TIDE_STEP
  let new := s.now
  if old < new then s.forEach (List.range 32) (fun n s => gateCross old new n s) else s

/-- Begin a slew that takes the phase error theta (1/64 tick) away over 2^SLEWK ticks (R103). -/
def slewStart (theta : Int) (s : State) : State :=
  let k := s.get Fld.TIDE_LOOP_SLEWK
  let s := { s with tide := { s.tide with slew := -theta * 2 ^ (26 - k), slewLeft := 2 ^ k } }
  s.flag Fld.TIDE_STAT_SLEWING

def slewCancel (s : State) : State :=
  let s := { s with tide := { s.tide with slew := 0, slewLeft := 0 } }
  s.unflag Fld.TIDE_STAT_SLEWING

/-- SLEW_END (R103). -/
def execSlewEnd (s : State) : Out := .next (slewCancel s)

/-- Set the stratum; when it leaves 15, SYNC is set, EV_TIDE_SYNC fires and held gates are armed (R101, R120). -/
def setStratum (v : Nat) (s : State) : State :=
  let was := s.stratum
  let s := (s.put Fld.TIDE_STAT_STRATUM v).put Fld.TIDE_STAT_SYNCED (if v < 15 then 1 else 0)
  if was = 15 ∧ v < 15 then
    gatesRelease ((s.flag Fld.TIDE_FLAGS_SYNC).fire EV.TIDE_SYNC)
  else s

/-- STRATUM becomes 15 by HOLDMAX (R100 rule 5). -/
def stratumLost (s : State) : State :=
  ((setStratum 15 s).flag Fld.TIDE_FLAGS_LOST).inc Fld.TIDE_CNT_LOSTS |>.fire EV.TIDE_LOST

/-- The parent is lost (R100 rule 4). -/
def parentLose (s : State) : State :=
  (s.unflag Fld.TIDE_STAT_PVALID).flag Fld.TIDE_STAT_HOLDOVER

/-- PARENT_LOSS_TIMEOUT (R100 rule 4). -/
def execParentLossTimeout (s : State) : Out :=
  .next (if s.get Fld.TIDE_CFG_SRCSEL = 0 ∧ s.has Fld.TIDE_STAT_PVALID then parentLose s else s)

/-- HOLDMAX_EXPIRY (R100 rule 5, R389, R628): while SRCSEL = 2 the time does not count. -/
def execHoldmaxExpiry (s : State) : Out :=
  if s.get Fld.TIDE_CFG_SRCSEL = 2 ∨ s.stratum = 15 then .next s
  else .next (stratumLost (if s.has Fld.TIDE_STAT_PVALID then parentLose s else s))

/-- What a change of SRCSEL from old to new does (R628). -/
def srcselChange (old new : Nat) (s : State) : State :=
  let s := { s with tide := { s.tide with cand := none } }
  if new = 2 then
    setStratum 0 ((s.unflag Fld.TIDE_STAT_PVALID).unflag Fld.TIDE_STAT_HOLDOVER)
  else if old = 2 ∧ (new = 0 ∨ new = 3) then (s.unflag Fld.TIDE_STAT_PVALID).flag Fld.TIDE_STAT_HOLDOVER
  else if new = 3 then
    let s := s.unflag Fld.TIDE_STAT_PVALID
    if s.stratum = 15 then s else s.flag Fld.TIDE_STAT_HOLDOVER
  else s.unflag Fld.TIDE_STAT_PVALID

/-- The discipline of RC64 by its source has come far enough: CLKSRC becomes 0b10 (R121, R123). -/
def disciplineCheck (s : State) : State :=
  let enough := 4 ≤ s.tide.discFrames ∨ 320000 ≤ s.tide.discRing ∨ (s.get Fld.TIDE_CFG_SRCSEL = 2 ∧ s.tide.discLf)
  if s.clkSrc = 0 ∧ s.tide.xtalFailed ∧ s.get Fld.TIDE_CLKCTL_RESID ≤ s.get Fld.TIDE_CLKCTL_DISCTHR ∧ enough then
    ((s.setClkSrc 2).flag Fld.TIDE_FLAGS_DISC).fire EV.TIDE_DISC
  else s

/-! ### Reading and measuring -/

/-- TIDE_NOWLO_READ (R85): the answer is the lower word, and the upper word is latched. -/
def execTideNowloRead (s : State) : Out :=
  let n := s.now
  let s := (s.put Fld.TIDE_NOWLO_NOW n).put Fld.TIDE_NOWHI_NOW (n / 2 ^ 32)
  .next { s with bus := .data (BitVec.ofNat 32 n) }

/-- TIDE_CAPTURE (R86). -/
def execTideCapture (k : Fin 4) (s : State) : Out :=
  let s := s.takeTask (TK.TIDE_CAP k.val)
  .next ((s.put (Fld.TIDE_CAPLO_CAP k.val) s.now).put (Fld.TIDE_CAPHI_CAP k.val) (s.now / 2 ^ 32))

/-- LFINC_MEASURE (R88): ticks that TIDE_NOW advanced in 1024 LF cycles; only while the AON island runs at 32 MHz. -/
def execLfincMeasure (ticks1024 : Nat) (s : State) : Out :=
  .next (if s.lfMode then s else s.put Fld.TIDE_LFINC_INC (ticks1024 * 64))

end Sys2Proof.Machine
end

