-- ==== Sys2Proof/Machine/Cells.lean ====
section
/-!
DEFINITION. Reading the committed configuration: records by type (Table SALT-3) and the fields of their entries.
-/

namespace Sys2Proof.Machine

/-- Entry sizes of the record types (Table SALT-3); 0 for an unknown type. -/
def recEntrySize : Nat → Nat
  | 0x01 => 20 | 0x02 => 4 | 0x03 => 4 | 0x04 => 4 | 0x05 => 8 | 0x06 => 32
  | 0x07 => 8 | 0x08 => 8 | 0x09 => 12 | 0x0A => 24 | 0x0B => 8 | _ => 0

/-- Is a configuration committed (SYSCFG_SALTSTAT.COMMITTED)? -/
def State.committed (s : State) : Bool := s.has Fld.SYSCFG_SALTSTAT_COMMITTED

/-- Is an image committed (R69, Table KEY-5)? The commit that software makes of its own cells has SOURCE 0. -/
def State.imageCommitted (s : State) : Bool := s.committed && s.get Fld.SYSCFG_SALTSTAT_SOURCE != 0

/-- The committed record of a type. -/
def State.record (s : State) (type : Nat) : Option CfgRecord := s.salt.records.find? (fun r => r.type == type)

/-- The body octets of the committed record of a type; none where it is missing (R45). -/
def State.cells (s : State) (type : Nat) : List Byte :=
  match s.record type with
  | some r => r.body
  | none => []

/-- The entries of a record body. -/
def bodyEntries (type : Nat) (body : List Byte) : List (List Byte) := chunks (recEntrySize type) body

/-- The entries of the committed record of a type. -/
def State.entries (s : State) (type : Nat) : List (List Byte) := bodyEntries type (s.cells type)

/-- Octet i of an entry, as a number. -/
def eb (e : List Byte) (i : Nat) : Nat := (e.getD i 0).toNat

/-- The 16-bit number at octet i of an entry. -/
def eh (e : List Byte) (i : Nat) : Nat := eb e i + 256 * eb e (i + 1)

/-- The 32-bit number at octet i of an entry. -/
def ew (e : List Byte) (i : Nat) : Nat := eh e i + 65536 * eh e (i + 2)

/-! ### RING_CFG (R58) -/

def State.ringCfg (s : State) : List Byte := s.cells 0x0A

/-- The ring role: 0 disabled (also without a record, R45), 1 node, 2 master. -/
def State.ringRole (s : State) : Nat := eb s.ringCfg 0

/-- The local sluice mapped to ring sluice k, where one is. -/
def State.ringMap (s : State) (k : Nat) : Option Nat :=
  if s.ringCfg.length = 24 ∧ eb s.ringCfg (4 + k) ≠ 0xFF then some (eb s.ringCfg (4 + k)) else none

/-- Does this device send ring sluice k? -/
def State.ringSend (s : State) (k : Nat) : Bool := eh s.ringCfg 20 / 2 ^ k % 2 == 1

/-! ### LANE_ROLE (R51) -/

def State.laneRoleEntry (s : State) (l : Nat) : List Byte :=
  match (s.entries 0x05).find? (fun e => eb e 0 == l) with
  | some e => e
  | none => []

def State.laneRoles (s : State) (l : Nat) : Nat := eh (s.laneRoleEntry l) 2 % 256
def State.laneTakeoverRoles (s : State) (l : Nat) : Nat := eh (s.laneRoleEntry l) 4 % 256
def State.laneHealthPer (s : State) (l : Nat) : Nat := eb (s.laneRoleEntry l) 6

end Sys2Proof.Machine
end

