-- ==== Sys2Proof/Machine/LifeOps.lean ====
section
/-!
DEFINITION. Counting in the lifetime counters (R594, R595): a counter field of LIFE_VAL counts at once, or, while the
block is loading, once loading ends (R599).
-/

namespace Sys2Proof.Machine

/-- Apply one lifetime event to the live counters. -/
def lifeApply (e : LifeEvent) (s : State) : State :=
  match e with
  | .count w lo width n => s.count ⟨Reg.LIFE_VAL w, lo, width⟩ n
  | .count64 w n =>
    let v := min (s.get ⟨Reg.LIFE_VAL (w + 1), 0, 32⟩ * 2 ^ 32 + s.get ⟨Reg.LIFE_VAL w, 0, 32⟩ + n) (2 ^ 64 - 1)
    (s.put ⟨Reg.LIFE_VAL w, 0, 32⟩ v).put ⟨Reg.LIFE_VAL (w + 1), 0, 32⟩ (v / 2 ^ 32)
  | .code c blk => (s.put ⟨Reg.LIFE_VAL 22, 0, 16⟩ c).put ⟨Reg.LIFE_VAL 22, 16, 5⟩ blk
  | .low w lo width v =>
    let f : Field := ⟨Reg.LIFE_VAL w, lo, width⟩
    if v < s.get f then s.put f v else s
  | .temp t =>
    let lo : Field := ⟨Reg.LIFE_VAL 19, 16, 8⟩
    let hi : Field := ⟨Reg.LIFE_VAL 19, 24, 8⟩
    let bin := ([-20, 0, 25, 50, 70, 85, 105].filter (fun edge => decide ((edge : Int) ≤ t))).length
    let s := s.count ⟨Reg.LIFE_VAL (23 + bin), 0, 32⟩ 64
    let s := if t < s.getS lo then s.putS lo t else s
    if s.getS hi < t then s.putS hi t else s

/-- A lifetime event (R595, R599). -/
def lifeEvent (e : LifeEvent) (s : State) : State :=
  if s.has Fld.LIFE_STAT_LOADING then { s with life := { s.life with held := s.life.held ++ [e] } }
  else lifeApply e s

/-- Count n in a field of lifetime word w. -/
def lifeCount (w lo width n : Nat) (s : State) : State := lifeEvent (.count w lo width n) s

/-- Record a code and its block identifier for the lifetime records (R595). -/
def lifeCode (c blk : Nat) (s : State) : State := lifeEvent (.code c blk) s

/-- Count n in the 64-bit counter in words w and w + 1 (R594), saturating. -/
def lifeCount64 (w n : Nat) (s : State) : State := lifeEvent (.count64 w n) s

/-- Air time of a transmission (slot 2 * lane + band) or a reception (slot 4 + lane), in ticks: the counters hold whole
units of 2^20 ticks, the rest is kept (Table LIFE-1). -/
def lifeAir (slot ticks : Nat) (s : State) : State :=
  let t := nth 0 s.life.airRest slot + ticks
  let s := { s with life := { s.life with airRest := setNth s.life.airRest slot (t % 2 ^ 20) } }
  if t / 2 ^ 20 = 0 then s else lifeCount (6 + slot) 0 32 (t / 2 ^ 20) s

end Sys2Proof.Machine
end

