-- ==== Sys2Proof/Machine/Keys.lean ====
section
/-!
DEFINITION. Key slots: attributes (Table KEY-1), admission (R442), invalidation and the sweep's bookkeeping (R452,
R453), integrity failures (R454), loading of slot 0 (R437).
-/

namespace Sys2Proof.Machine

/-! ### Attribute fields of slot n (Table KEY-1) -/

def keyParent (n : Nat) : Field := ⟨Reg.KEYSTORE_SLOTATTR n 0, 0, 8⟩
def keyDepth (n : Nat) : Field := ⟨Reg.KEYSTORE_SLOTATTR n 0, 8, 3⟩
def keyType (n : Nat) : Field := ⟨Reg.KEYSTORE_SLOTATTR n 0, 12, 3⟩
def keyLabel (n : Nat) : Field := ⟨Reg.KEYSTORE_SLOTATTR n 0, 16, 16⟩
def keyMasters (n : Nat) : Field := ⟨Reg.KEYSTORE_SLOTATTR n 1, 0, 4⟩
def keyOps (n : Nat) : Field := ⟨Reg.KEYSTORE_SLOTATTR n 1, 8, 8⟩
def keyLcmask (n : Nat) : Field := ⟨Reg.KEYSTORE_SLOTATTR n 1, 16, 5⟩
def keyExprst (n : Nat) : Field := ⟨Reg.KEYSTORE_SLOTATTR n 1, 24, 1⟩
def keyState (n : Nat) : Field := ⟨Reg.KEYSTORE_SLOTATTR n 1, 28, 2⟩
def keyUses (n : Nat) : Field := ⟨Reg.KEYSTORE_SLOTATTR n 2, 0, 16⟩

/-- Not-before and not-after of slot n. -/
def State.keyNb (s : State) (n : Nat) : Nat :=
  (s.rd (Reg.KEYSTORE_SLOTATTR n 3)).toNat + 2 ^ 32 * (s.rd (Reg.KEYSTORE_SLOTATTR n 4)).toNat
def State.keyNa (s : State) (n : Nat) : Nat :=
  (s.rd (Reg.KEYSTORE_SLOTATTR n 5)).toNat + 2 ^ 32 * (s.rd (Reg.KEYSTORE_SLOTATTR n 6)).toNat

/-- Slot states: 0 FREE, 1 VALID, 2 DEAD. -/
def State.keySt (s : State) (n : Nat) : Nat := s.get (keyState n)

/-- Key octets of a slot. -/
def State.keyBytes (s : State) (n : Nat) : List Byte := sparseGet (fun _ => []) s.keys.material n

def State.setKeyBytes (n : Nat) (b : List Byte) (s : State) : State :=
  { s with keys := { s.keys with material := sparseSet (fun _ => []) n b s.keys.material } }

/-- Octets of a key type (Table KEY-3). -/
def keyOctets (ktype : Nat) : Nat := match ktype with | 0 => 16 | 1 => 24 | _ => 32

/-- Set the state of slot n, with its mirror in KEYSTORE_VALID and the count of FREE slots (slot 0 apart). -/
def setKeySt (n st : Nat) (s : State) : State :=
  let was := s.keySt n
  let s := (s.put (keyState n) st).putBit (Reg.KEYSTORE_VALID (n / 32)) (n % 32) (st == 1)
  if n = 0 then s
  else if was ≠ 0 ∧ st = 0 then s.put Fld.KEYSTORE_STAT_FREE (s.get Fld.KEYSTORE_STAT_FREE + 1)
  else if was = 0 ∧ st ≠ 0 then s.put Fld.KEYSTORE_STAT_FREE (s.get Fld.KEYSTORE_STAT_FREE - 1)
  else s

/-- Is slot n VALID, with every ancestor? A chain has at most 8 slots (DEPTH 0 to 7). -/
def State.keyChain (s : State) : Nat → Nat → Bool
  | 0, _ => false
  | f + 1, n => s.keySt n == 1 && (n == 0 || s.keyChain f (s.get (keyParent n)))

def State.keyUsable (s : State) (n : Nat) : Bool := s.keyChain 8 n && !s.keys.orphans.contains n

/-- Has slot n a DEAD ancestor, or is it DEAD (R453)? -/
def State.keyDoomed (s : State) : Nat → Nat → Bool
  | 0, _ => false
  | f + 1, n => s.keySt n == 2 || (n != 0 && s.keyDoomed f (s.get (keyParent n)))

/-- Zero a slot and make it FREE. -/
def freeKeySlot (n : Nat) (s : State) : State :=
  let s := setKeySt n 0 s
  let s := s.forEach (List.range 8) (fun w s => s.wr (Reg.KEYSTORE_SLOTATTR n w) 0)
  let s := s.setKeyBytes n []
  { s with keys := { s.keys with orphans := s.keys.orphans.filter (fun k => k != n) } }

/-- Make the sweep visit every slot from now on: a running sweep goes on from its place (R453). -/
def sweepStart (s : State) : State :=
  let at' := match s.keys.sweep with | some (p, _) => p | none => 0
  { s with keys := { s.keys with sweep := some (at', 256) } }

/-- Mark slots DEAD (R452); slot 0 is never marked, and only VALID slots are. Their descendants are refused from now on, and
the sweep takes them too (R453). -/
def markDead (l : List Nat) (s : State) : State :=
  let hit := l.filter (fun n => n != 0 && s.keySt n == 1)
  if hit.isEmpty then s
  else
    let s := s.forEach hit (fun n s => setKeySt n 2 s)
    let lost := (List.range 256).filter (fun n => s.keySt n == 1 && s.keyDoomed 8 n && !s.keys.orphans.contains n)
    sweepStart { s with keys := { s.keys with orphans := s.keys.orphans ++ lost } }

/-- The attribute words of slot 0 (R437), state VALID. -/
def rootAttr : List Word :=
  [0x00002000#32, 0x10101006#32, 0x0000FFFF#32, 0#32, 0#32, 0xFFFFFFFF#32, 0xFFFFFFFF#32]

/-- Write the attribute words of a slot (hardware's own STATE bits included). -/
def putKeyAttr (n : Nat) (attr : List Word) (s : State) : State :=
  s.forEach attr.zipIdx (fun x s => s.wr (Reg.KEYSTORE_SLOTATTR n x.2) x.1)

/-- Load slot 0 from BBRAM (R437): its fixed attributes in either case (notes/assumptions/76.md), VALID with the root, or not
VALID where the root is absent; ROOTOK follows. -/
def loadRoot (s : State) : State :=
  if s.backup.root.isEmpty then
    ((((putKeyAttr 0 rootAttr s).put (keyState 0) 0).putBit (Reg.KEYSTORE_VALID 0) 0 false).setKeyBytes 0 []).unflag
      Fld.KEYSTORE_STAT_ROOTOK
  else
    (((putKeyAttr 0 rootAttr s).putBit (Reg.KEYSTORE_VALID 0) 0 true).setKeyBytes 0 s.backup.root).flag
      Fld.KEYSTORE_STAT_ROOTOK

/-- A slot's check does not match (R454). `rootLost`: the BBRAM check word fails too (slot 0 only). -/
def keyIntegrityFail (n : Nat) (rootLost : Bool) (s : State) : State :=
  let s := ((s.flag Fld.KEYSTORE_FLAGS_INTEG).inc Fld.KEYSTORE_CNT_INTEGFAIL).fire EV.KEYSTORE_INTEG
  if n = 0 then loadRoot (if rootLost then { s with backup := { s.backup with root := [] } } else s)
  else markDead [n] s

/-- One admission (R442): the handle, the masters the request needs, the operation's bit, the key types that suit, the
block that asks, and whether the slot's stored check fails. -/
structure KeyRequest where
  slot : Nat
  masters : Nat
  op : Nat
  types : List Nat
  block : Nat
  checkFails : Bool
  deriving DecidableEq, Repr

/-- The code of a request made at tide time `now` and stratum `stratum`: 0 where it is granted. -/
def admitCodeAt (now stratum : Nat) (r : KeyRequest) (s : State) : Nat :=
  let n := r.slot
  if s.has Fld.KEYSTORE_STAT_LOCKED then 0x050A
  else if !s.keyUsable n then 0x0501
  else if r.checkFails then 0x0511
  else if (List.range 5).any (fun k => testBit' r.masters k && !testBit' (s.get (keyMasters n)) k) then 0x0502
  else if !testBit' (s.get (keyOps n)) r.op then 0x0503
  else if !r.types.contains (s.get (keyType n)) then 0x0504
  else if (s.keyNb n ≠ 0 ∨ s.keyNa n ≠ 2 ^ 64 - 1) ∧ s.has Fld.KEYSTORE_CFG_TIMESYNC ∧ stratum = 15 then 0x0506
  else if now < s.keyNb n ∨ s.keyNa n < now then 0x0505
  else if s.get (keyUses n) = 0 then 0x0507
  else 0

/-- The code of a request made now. -/
def admitCode (r : KeyRequest) (s : State) : Nat := admitCodeAt s.now s.stratum r s

/-- A request was refused (R442). -/
def keyRefused (r : KeyRequest) (code : Nat) (s : State) : State :=
  ((((((s.put Fld.KEYSTORE_LAST_SLOT r.slot).put Fld.KEYSTORE_LAST_MASTER r.block).put Fld.KEYSTORE_LAST_CODE
    code).inc Fld.KEYSTORE_CNT_REFUSALS).flag Fld.KEYSTORE_FLAGS_REFUSE).fire EV.KEYSTORE_REFUSE)

/-- Take one use of a slot (R442). -/
def keyUse (n : Nat) (s : State) : State :=
  let u := s.get (keyUses n)
  if u = 0xFFFF then s
  else
    let s := s.put (keyUses n) (u - 1)
    if u = 1 then (s.inc Fld.KEYSTORE_CNT_USEOUT).fire EV.KEYSTORE_USEOUT else s

/-- Admit a request whose code is known, or refuse it (R442). Whether the check word of the root fails too, where slot 0's own
check has failed, is free (notes/assumptions/76.md). -/
def keyAdmitted (r : KeyRequest) (code : Nat) (s : State) : Nat × State :=
  if code = 0 then (0, keyUse r.slot (s.inc Fld.KEYSTORE_CNT_ADMITS))
  else if code = 0x0511 then (code, keyRefused r code (keyIntegrityFail r.slot (s.freeNat % 2 == 1) s).freeNext)
  else (code, keyRefused r code s)

/-- Admit a request or refuse it (R442). -/
def keyAdmit (r : KeyRequest) (s : State) : Nat × State := keyAdmitted r (admitCode r s) s

/-- The link controller's request for an AES-128 key (Table KEY-4): to encrypt (0) or to decrypt (1). -/
def linkAdmit (slot op : Nat) (checkFails : Bool) (s : State) : Nat × State :=
  keyAdmit ⟨slot, 1, op, [0], 0x04, checkFails⟩ s

/-- The key of a received frame, fetched at its header decision: validity is that of the time and stratum then (R295). -/
def linkFetch (slot : Nat) (fetch : Nat × Nat) (checkFails : Bool) (s : State) : Nat × State :=
  let r : KeyRequest := ⟨slot, 1, 1, [0], 0x04, checkFails⟩
  keyAdmitted r (admitCodeAt fetch.1 fetch.2 r s) s

end Sys2Proof.Machine
end

