-- ==== Sys2Proof/Machine/Phy.lean ====
section
/-!
DEFINITION. The MC-PHY waveform's bit-level rules: channels, header and its CRC, the linear-feedback registers, coding,
puncturing, repetition and the interleaver, the derivation of loading tables, airtime (R208 to R246). Modes are numbered
as in Table RXC-5: 0 MC-W, 1 MC-N, 2 LE 1M, 3 LE 2M, 4 LE Coded S=8, 5 LE Coded S=2.
-/

namespace Sys2Proof.Machine

/-- Symbol length in ticks (Table PHY-1). -/
def tsym (mode : Nat) : Nat := if mode = 1 then 5760 else 1152

/-- The turn-round of native modes, 16 us, in ticks (R157). -/
def turnRound : Nat := 512

/-- Is mode an issued native mode? -/
def isNative (mode : Nat) : Bool := mode ≤ 1

/-- Band of a mode: 0 high, 1 low. -/
def bandOf (mode : Nat) : Nat := if mode = 1 then 1 else 0

/-- Is channel c issued for a native mode (R210)? -/
def chanIssued (mode c : Nat) : Bool :=
  if mode = 0 then c < 40 else c < 17 || (32 ≤ c && c < 96)

/-- Centre frequency of a channel in kHz: native channels (R210), LE channel indices by the Bluetooth numbering. -/
def chanKHz (mode c : Nat) : Nat :=
  if mode = 0 then 2402000 + 2000 * c
  else if mode = 1 then (if c < 32 then 863200 + 400 * c else 902400 + 400 * (c - 32))
  else if c = 37 then 2402000 else if c = 38 then 2426000 else if c = 39 then 2480000
  else if c ≤ 10 then 2404000 + 2000 * c else 2428000 + 2000 * (c - 11)

/-- Half the occupied bandwidth in units of 100 Hz (R170). -/
def halfWidth100Hz (mode : Nat) : Nat :=
  match mode with
  | 0 => 8125
  | 1 => 1625
  | 3 => 10000
  | _ => 5000

/-- Repetition count of a REP code (Table PHY-6). -/
def nrepOf (rep : Nat) : Nat := match rep with | 1 => 2 | 2 => 4 | _ => 1

/-- The puncturing period p and the coded bits per period q of a RATE code (Table PHY-8). -/
def ratePQ (rate : Nat) : Nat × Nat :=
  match rate with | 0 => (1, 2) | 1 => (2, 3) | 2 => (3, 4) | _ => (5, 6)

/-- Payload symbols: N_ECHO + N_DATA (R212, R246). -/
def payloadSymbols (len ncbps rate rep mode : Nat) : Nat :=
  let (p, q) := ratePQ rate
  let nrep := nrepOf rep
  let ninfo := p * ((8 * len + 6 + p - 1) / p)
  let nc := ninfo * q / p
  let ndata := (nrep * nc + ncbps - 1) / ncbps
  (if mode = 1 ∧ 1 < nrep then 6 else 0) + ndata

/-- Airtime of a native frame in ticks (R246). -/
def airtime (len ncbps rate rep mode : Nat) : Nat := (5 + payloadSymbols len ncbps rate rep mode) * tsym mode

/-! ### Header (R219 to R222) -/

/-- One step of the header CRC register, most significant bit first (R220). -/
def crc8Step (r : Nat) (bit : Bool) : Nat :=
  let r2 := r * 2 % 256
  if (r / 128 % 2 == 1) != bit then r2 ^^^ 0x07 else r2

def crc8 (bits : List Bool) : Nat := bits.foldl crc8Step 0xFF

/-- The low n bits of x, bit 0 first. -/
def bitList (n x : Nat) : List Bool := (List.range n).map (fun k => x / 2 ^ k % 2 == 1)

/-- The number whose bits are given, bit 0 first. -/
def natOfBits : List Bool → Nat
  | [] => 0
  | b :: t => (if b then 1 else 0) + 2 * natOfBits t

/-- The header CRC of header bits 0 to 39, as the value of header bits 47 to 40 (R220). -/
def headerCrc (h : Nat) : Nat := natOfBits (bitList 8 (crc8 (bitList 40 h))).reverse

/-- Complete a 40-bit header with its CRC. -/
def headerWithCrc (h : Nat) : Nat := h % 2 ^ 40 + headerCrc h * 2 ^ 40

/-- A header word from its fields (Table PHY-6). -/
def headerBuild (type length loadidx rate rep ackreq stratum : Nat) : Nat :=
  headerWithCrc (type % 16 + length % 2048 * 2 ^ 4 + loadidx % 16 * 2 ^ 15 + rate % 4 * 2 ^ 19 + rep % 4 * 2 ^ 21
    + ackreq % 2 * 2 ^ 23 + stratum % 8 * 2 ^ 24)

def hdrType (h : Nat) : Nat := h % 16
def hdrLength (h : Nat) : Nat := h / 2 ^ 4 % 2048
def hdrLoadidx (h : Nat) : Nat := h / 2 ^ 15 % 16
def hdrRate (h : Nat) : Nat := h / 2 ^ 19 % 4
def hdrRep (h : Nat) : Nat := h / 2 ^ 21 % 4
def hdrAckreq (h : Nat) : Bool := h / 2 ^ 23 % 2 == 1
def hdrStratum (h : Nat) : Nat := h / 2 ^ 24 % 8
def hdrCrcOk (h : Nat) : Bool := h / 2 ^ 40 % 256 == headerCrc h

/-- Is a header that passed its CRC invalid (R222)? sts2neg: the sign of STS2 was inverted. -/
def headerInvalid (h mode : Nat) (sts2neg : Bool) : Bool :=
  5 < hdrType h || hdrLength h == 0 || 1024 < hdrLength h || hdrRep h == 3 || (mode == 0 && hdrRep h != 0)
  || (mode == 1 && (sts2neg != (hdrRep h != 0)))

/-! ### Linear-feedback registers (R216, R217, R223, R225) -/

/-- n outputs of a register with b = s6 XOR s(tap). -/
def lfsr (tap : Nat) : Nat → Nat → List Bool
  | 0, _ => []
  | n + 1, s =>
    let b := (s / 64 % 2 == 1) != (s / 2 ^ tap % 2 == 1)
    b :: lfsr tap n (s * 2 % 128 + (if b then 1 else 0))

/-- Signs of the long-training symbol on the 52 used sub-carriers, true for -1 (R217). -/
def ltsSigns (syncseq : Nat) : List Bool := lfsr 5 52 (2 * syncseq + 1)

/-- Pilot polarity of symbols 0 to n - 1 from HDR1 on, true for -1 (R223). -/
def pilotSigns (n : Nat) : List Bool := lfsr 3 n 0x7F

/-- The 48 data sub-carriers by data index (Table PHY-2). -/
def dataSubcarrier (d : Nat) : Int :=
  if d ≤ 4 then (d : Int) - 26 else if d ≤ 17 then (d : Int) - 25 else if d ≤ 23 then (d : Int) - 24
  else if d ≤ 29 then (d : Int) - 23 else if d ≤ 42 then (d : Int) - 22 else (d : Int) - 21

/-! ### Coding (R221, R224 to R230) -/

/-- One encoder step: the last six input bits, newest first, and the next bit give (A, B) (R227). -/
def convStep (m : List Bool) (u : Bool) : Bool × Bool :=
  let g := fun i => m.getD (i - 1) false
  ((u != g 2) != (g 3 != (g 5 != g 6)), (u != g 1) != (g 2 != (g 3 != g 6)))

/-- Encode at rate 1/2 from an encoder state. -/
def convEncode : List Bool → List Bool → List (Bool × Bool)
  | _, [] => []
  | m, u :: t => convStep m u :: convEncode ((u :: m).take 6) t

/-- The 96 coded header bits, tail-biting (R221). -/
def headerCoded (h : Nat) : List Bool :=
  (convEncode (bitList 6 (h / 2 ^ 42)).reverse (bitList 48 h)).flatMap (fun ab => [ab.1, ab.2])

/-- Puncturing patterns A and B of a RATE code (Table PHY-8). -/
def punctureA : Nat → List Bool
  | 0 => [true] | 1 => [true, true] | 2 => [true, true, false] | _ => [true, true, false, true, false]
def punctureB : Nat → List Bool
  | 0 => [true] | 1 => [true, false] | 2 => [true, false, true] | _ => [true, false, true, false, true]

/-- Keep the bits the pattern marks (R228). -/
def puncture (rate : Nat) (l : List (Bool × Bool)) : List Bool :=
  let p := (ratePQ rate).1
  (l.zipIdx).flatMap (fun x =>
    (if (punctureA rate).getD (x.2 % p) false then [x.1.1] else [])
    ++ (if (punctureB rate).getD (x.2 % p) false then [x.1.2] else []))

/-- The scrambled PSDU bits (R225). -/
def scramble (h : Nat) (bits : List Bool) : List Bool :=
  let seed := h / 2 ^ 40 % 128
  List.zipWith (fun a b => a != b) bits (lfsr 3 bits.length (if seed = 0 then 127 else seed))

/-- PSDU octets as air bits. -/
def psduBits (psdu : List Byte) : List Bool := psdu.flatMap (fun b => bitList 8 b.toNat)

/-- The coded, punctured and repeated payload bits (R224 to R229). -/
def payloadCoded (h : Nat) (psdu : List Byte) : List Bool :=
  let p := (ratePQ (hdrRate h)).1
  let n := 8 * psdu.length + 6
  let z := (p - n % p) % p
  let info := scramble h (psduBits psdu) ++ List.replicate (6 + z) false
  (puncture (hdrRate h) (convEncode [] info)).flatMap (fun b => List.replicate (nrepOf (hdrRep h)) b)

/-- Bits a sub-carrier of loading code c carries. -/
def cap (c : Nat) : Nat := match c with | 1 => 1 | 2 => 2 | 3 => 4 | _ => 0

def ncbpsOf (t : List Nat) : Nat := (t.map cap).sum

/-- The visit order of the interleaver: (data index, cell bit) for each coded bit of a symbol (R230). -/
def fillOrder (t : List Nat) : List (Nat × Nat) :=
  (List.range 4).flatMap (fun pass =>
    ((List.range 48).map (fun j => 13 * j % 48)).filterMap (fun d =>
      if pass < cap (t.getD d 0) then some (d, pass) else none))

/-- Uniform BPSK loading, LOADIDX 0. -/
def uniformTable : List Nat := List.replicate 48 1

/-! ### Symbols (R209, R211 to R218, R221, R223, R229 to R232) -/

/-- A sub-carrier that carries nothing. -/
def Cell.off : Cell := {}

/-- A BPSK point, a pilot or an LTS value: +1 or -1. -/
def Cell.sign (neg : Bool) : Cell := { i := if neg then -1 else 1 }

/-- The 16-QAM coordinate of two cell bits (Table PHY-9). -/
def qamCoord : Bool → Bool → Int
  | false, false => -3 | false, true => -1 | true, true => 1 | true, false => 3

/-- The constellation point of a loading code and its cell bits b0, b1, ... (Table PHY-9). -/
def mapPoint (c : Nat) (b : List Bool) : Cell :=
  let b := fun k => b.getD k false
  match c with
  | 1 => Cell.sign (!b 0)
  | 2 => { i := if b 0 then 1 else -1, q := if b 1 then 1 else -1, den := 2 }
  | 3 => { i := qamCoord (b 0) (b 2), q := qamCoord (b 1) (b 3), den := 10 }
  | _ => Cell.off

/-- The data cells of one symbol: the bits placed by R230 and mapped by R231. Bits that are missing are 0 (R229). -/
def fillSymbol (t : List Nat) (bits : List Bool) : List Cell :=
  let placed := (fillOrder t).zip (bits ++ List.replicate (ncbpsOf t - bits.length) false)
  (List.range 48).map (fun d => mapPoint (t.getD d 0) (placed.filterMap (fun x => if x.1.1 == d then some x.2 else none)))

/-- The base value of the pilot on sub-carrier k, true for -1, where k is a pilot place (R209, R223). -/
def pilotBase (k : Int) : Option Bool :=
  if k = -21 ∨ k = 7 ∨ k = 21 then some false else if k = -7 then some true else none

/-- The sub-carriers k = -26 to +26, k = 0 the channel centre (R209). -/
def carriers : List Int := (List.range 53).map (fun i => (i : Int) - 26)

/-- The data index of sub-carrier k, where it is a data sub-carrier (Table PHY-2). -/
def dataIndex (k : Int) : Option Nat := (List.range 48).find? (fun d => dataSubcarrier d == k)

/-- A header, echo or data symbol from its data cells and its pilot polarity, true for -1 (R209, R223). -/
def cellSymbol (data : List Cell) (neg : Bool) : List Cell :=
  carriers.map (fun k => match pilotBase k with
    | some b => Cell.sign (b != neg)
    | none => match dataIndex k with
      | some d => data.getD d Cell.off
      | none => Cell.off)

/-- The short-training values: the places whose value is 1+j, and those whose value is its negative (Table PHY-5). -/
def stsPlus : List Int := [-24, -20, -12, 4, 12, 16, 24]
def stsMinus : List Int := [-16, -8, -4, 8, 20]

/-- STS1, or its negative (R213, R215). -/
def stsSymbol (neg : Bool) : List Cell :=
  carriers.map (fun k =>
    let v : Int := if stsPlus.contains k then 1 else if stsMinus.contains k then -1 else 0
    let v := if neg then -v else v
    if v = 0 then Cell.off else { i := v, q := v, num := 13, den := 6 })

/-- The long-training symbol of a sync sequence: its signs on the 52 used sub-carriers in ascending k (R217). -/
def ltsSymbol (seq : Nat) : List Cell :=
  let signs := (ltsSigns seq).map Cell.sign
  signs.take 26 ++ Cell.off :: signs.drop 26

/-- The bits of the data symbols: N_CBPS at a time (R229). -/
def symbolBits (t : List Nat) (bits : List Bool) : List (List Bool) := chunks (ncbpsOf t) bits

/-- HDR1 and HDR2 as data cells (R221). -/
def headerCells (h : Nat) : List (List Cell) :=
  let b := headerCoded h
  [fillSymbol uniformTable (b.take 48), fillSymbol uniformTable (b.drop 48)]

/-- The symbols of a native frame (R211, R213, R221, R224): STS1, STS2, LTS, HDR1, HDR2, the echo where one is present, the
data symbols. `t` is the loading table, `seq` the sync sequence. -/
def frameSymbols (mode h seq : Nat) (t : List Nat) (psdu : List Byte) : List (List Cell) :=
  let echo := mode = 1 ∧ hdrRep h ≠ 0
  let hc := headerCells h
  let cells := hc ++ (if echo then hc ++ hc ++ hc else []) ++ (symbolBits t (payloadCoded h psdu)).map (fillSymbol t)
  [stsSymbol false, stsSymbol (decide echo), ltsSymbol seq] ++ List.zipWith cellSymbol cells (pilotSigns cells.length)

/-- Sample n of a symbol, n = -8 to 63, as the exact sum of R214: each term X_k exp(j 2 pi m / 64) as its cell and its phase
m = k n modulo 64. Every symbol is scaled by the same factor. -/
def sampleTerms (x : List Cell) (n : Int) : List (Cell × Nat) :=
  (carriers.zip x).map (fun p => (p.2, (p.1 * n % 64).toNat))

/-- The 72 samples of a symbol: the cyclic prefix, n = -8 to -1, then n = 0 to 63 (R214, Table PHY-1). -/
def symbolSamples (x : List Cell) : List (List (Cell × Nat)) := (List.range 72).map (fun i => sampleTerms x ((i : Int) - 8))

/-- Sample rate in samples per second (Table PHY-1); 64 samples are the useful part of a symbol, and the sub-carrier spacing is
1/64 of it. -/
def sampleRate (mode : Nat) : Nat := if mode = 1 then 400000 else 2000000

/-- The sub-carriers of a symbol that carry energy: with n of them the symbol is sent 10 log10(52 / n) dB below the level of a
symbol with all 52 active (R232), a fraction n / 52 of its power. -/
def activeCarriers (x : List Cell) : Nat := (x.filter (fun c => c.i != 0 || c.q != 0)).length

/-- The margin code of a data sub-carrier from its signal and noise power (R233): floor(SNR / 2 dB) + 1 is the number of
i with 2 i dB or less, and S/N is 2 i dB where S^5 = 10^i N^5. -/
def marginCode (sig noise : Nat) : Nat :=
  if sig < noise then 0 else ((List.range 15).filter (fun i => noise ^ 5 * 10 ^ i ≤ sig ^ 5)).length

/-! ### Loading tables (R236, R237) -/

/-- Thresholds of Table PHY-12 by rate code and loading code. -/
def loadThr (rate c : Nat) : Int :=
  match rate, c with
  | 0, 1 => 3 | 0, 2 => 6 | 0, _ => 13
  | 1, 1 => 5 | 1, 2 => 8 | 1, _ => 15
  | 2, 1 => 6 | 2, 2 => 9 | 2, _ => 16
  | _, 1 => 7 | _, 2 => 10 | _, _ => 17

def loadCode (rate : Nat) (snr : Int) : Nat :=
  if loadThr rate 3 ≤ snr then 3 else if loadThr rate 2 ≤ snr then 2 else if loadThr rate 1 ≤ snr then 1 else 0

def deriveAt (m : List Nat) (margin rate : Nat) : List Nat :=
  m.map (fun (x : Nat) => loadCode rate (2 * (x : Int) - 2 - (margin : Int)))

/-- Information bits per symbol, times 12. -/
def infoBits12 (t : List Nat) (rate : Nat) : Nat :=
  let (p, q) := ratePQ rate
  12 * p * ncbpsOf t / q

/-- The derived table and its rate code; none where no rate carries a bit (R236). -/
def derive (m : List Nat) (margin : Nat) : Option (List Nat × Nat) :=
  ((List.range 4).foldl (fun (best : Option (List Nat × Nat) × Nat) r =>
    let t := deriveAt m margin r
    let b := infoBits12 t r
    if best.2 < b then (some (t, r), b) else best) (none, 0)).1

/-- Is a table usable (R237)? -/
def tableUsable (t : List Nat) : Bool := 24 ≤ ncbpsOf t && t.any (fun c => c != 1)

/-- The 48 two-bit codes of a table as a 96-bit number, and back. -/
def tableToNat : List Nat → Nat
  | [] => 0
  | c :: t => c % 4 + 4 * tableToNat t

def tableOfNat (x : Nat) : List Nat := (List.range 48).map (fun d => x / 4 ^ d % 4)

/-! ### LE packets: whitening and CRC-24 (R277; notes/assumptions/20.md) -/

/-- n outputs of the whitening register, position p in bit p. -/
def leWhiteBits : Nat → Nat → List Bool
  | 0, _ => []
  | n + 1, r =>
    let out := r / 64 % 2 == 1
    let t := r * 2 % 128
    out :: leWhiteBits n (if out then t ^^^ 0x11 else t)

/-- The whitening register's first state for a channel index: position 0 holds 1, positions 1 to 6 the index, highest bit
first. -/
def leWhiteSeed (chan : Nat) : Nat := 1 + 2 * natOfBits (bitList 6 chan).reverse

/-- Whiten or dewhiten air bits. -/
def leWhiten (chan : Nat) (bits : List Bool) : List Bool :=
  List.zipWith (fun a b => a != b) bits (leWhiteBits bits.length (leWhiteSeed chan))

/-- One step of the CRC-24 register. -/
def crc24Step (r : Nat) (bit : Bool) : Nat :=
  let t := r * 2 % 2 ^ 24
  if (r / 2 ^ 23 % 2 == 1) != bit then t ^^^ 0x65B else t

/-- The CRC-24 of PDU bits as it stands on the air, highest bit first. -/
def crc24Bits (init : Nat) (bits : List Bool) : List Bool := (bitList 24 (bits.foldl crc24Step (init % 2 ^ 24))).reverse

/-- Air bits in octets. -/
def octetsOfBits (bits : List Bool) : List Byte := (chunks 8 bits).map (fun b => BitVec.ofNat 8 (natOfBits b))

/-- The air octets of an LE packet from its access address on: PDU and CRC-24 whitened. -/
def leAirOctets (aa init chan : Nat) (pdu : List Byte) : List Byte :=
  let b := psduBits pdu
  bytesLE 4 aa ++ octetsOfBits (leWhiten chan (b ++ crc24Bits init b))

/-- A received packet from its PDU header on, as on the air: its PDU, and whether its CRC-24 passes. -/
def leUnpack (init chan : Nat) (octets : List Byte) : List Byte × Bool :=
  let b := leWhiten chan (psduBits octets)
  let n := b.length - 24
  (octetsOfBits (b.take n), decide (24 ≤ b.length) && b.drop n == crc24Bits init (b.take n))

/-! ### Noise profiles (R235) -/

/-- A noise profile's 28 octets (Table PHY-11). -/
def profileBytes (slot mode margin nsym rssi : Nat) (m : List Nat) : List Byte :=
  [BitVec.ofNat 8 (slot % 16 + 16 * (mode % 2)), BitVec.ofNat 8 (margin % 16), BitVec.ofNat 8 nsym,
    BitVec.ofNat 8 rssi]
  ++ (List.range 24).map (fun i => BitVec.ofNat 8 (m.getD (2 * i) 0 % 16 + 16 * (m.getD (2 * i + 1) 0 % 16)))

def profileMargins (b : List Byte) : List Nat :=
  (b.drop 4).flatMap (fun x => [x.toNat % 16, x.toNat / 16])

end Sys2Proof.Machine
end

