-- ==== Sys2Proof/Machine/RfLimits.lean ====
section
/-!
DEFINITION. The RF limits record and the limits in force (R167 to R171), the duty buckets (R347 to R350), power
clamping (R164, R609).
-/

namespace Sys2Proof.Machine

/-! ### The record (Tables LANE-5 and LANE-6) -/

def rfRecordAddr : Nat := 0x0FF00000

/-- Is one sub-band entry below SBCOUNT well formed (R167)? -/
def bandOk (e : List Byte) : Bool :=
  eh e 0 < eh e 2 && ew e 4 ≤ 1000000 && eb e 11 == 0 && eh e 14 == 0

/-- Is a 148-octet record valid (R167)? -/
def rfRecordValid (r : List Byte) : Bool :=
  let n := eb r 6
  let es := chunks 16 ((r.drop 16).take 128)
  ew r 0 == 0x4D4C4652 && eh r 4 == 1 && BitVec.ofNat 32 (ew r 144) == crc32 (r.take 144)
  && 1 ≤ n && n ≤ 8 && eb r 7 == 0 && ew r 12 == 0
  && (es.drop n).all (fun e => e.all (fun b => b == 0)) && (es.take n).all bandOk

/-- The record in the information area. -/
def State.rfRecord (s : State) : List Byte := s.bytes rfRecordAddr 148

/-! ### Limits in force (R168) -/

/-- Limits of a sub-band: PMAX and LBTTHR signed, DUTY in ppm. -/
structure Limits where
  pmax : Int
  duty : Nat
  lbtthr : Int
  lbttime : Nat
  dwell : Nat
  deriving DecidableEq, Repr

/-- Tighten limits by one set of fields in the RF_REF encoding; the keep values take no part. -/
def Limits.tighten (l : Limits) (pmax duty lbtthr lbttime dwell : Nat) : Limits :=
  { pmax := if pmax = 0x7F then l.pmax else min l.pmax (toS 8 pmax)
    duty := if duty = 0xFFFF then l.duty else min l.duty (10 * duty)
    lbtthr := if lbtthr = 0x7F then l.lbtthr else min l.lbtthr (toS 8 lbtthr)
    lbttime := if lbttime = 0xFF then l.lbttime else max l.lbttime lbttime
    dwell := min l.dwell dwell }

/-- The limits in force for sub-band k (R168). -/
def limitsInForce (s : State) (k : Nat) : Limits :=
  let e := s.rf.bands.getD k []
  let l : Limits := ⟨toS 8 (eb e 8), ew e 4, toS 8 (eb e 9), eb e 10, eh e 12⟩
  let refs := ((s.entries 0x0B).drop 1).filter (fun t => eb t 0 == k)
  let l := refs.foldl (fun l t => l.tighten (eb t 1) (eh t 2) (eb t 4) (eb t 5) (eh t 6)) l
  l.tighten (s.get (Fld.RF_SWTIGHT_PMAX k)) (s.get (Fld.RF_SWTIGHT2_DUTY k)) (s.get (Fld.RF_SWTIGHT_LBTTHR k))
    (s.get (Fld.RF_SWTIGHT_LBTTIME k)) (s.get (Fld.RF_SWTIGHT2_DWELL k))

/-! ### Duty buckets -/

/-- The duty in force of bucket k, in ppm. -/
def State.duty (s : State) (k : Nat) : Nat := s.get (Fld.RF_SBDUTY_DUTY k)

/-- The cap of a bucket with this duty, in 10^-6 tick (R347). -/
def bucketCap (duty : Nat) : Nat := duty * 115200000000

def State.bucket (s : State) (k : Nat) : Bucket := nth {} s.rf.buckets k

def State.setBucket (k : Nat) (b : Bucket) (s : State) : State :=
  { s with rf := { s.rf with buckets := setNth s.rf.buckets k b } }

/-- Bring bucket k up to the present elapsed tick (R347). -/
def bucketSettle (k : Nat) (s : State) : State :=
  let b := s.bucket k
  s.setBucket k { credit := min (bucketCap (s.duty k)) (b.credit + (s.duty k * (s.elapsed - b.since) : Nat)), since := s.elapsed }

/-- Credit of bucket k in 10^-6 tick. -/
def credit (s : State) (k : Nat) : Int := ((bucketSettle k s).bucket k).credit

/-- Is there credit for an airtime in ticks (R348)? A duty of 1,000,000 ppm never refuses (R347). -/
def dutyAllows (s : State) (k airtime : Nat) : Bool := s.duty k == 1000000 || (airtime * 1000000 : Nat) ≤ credit s k

/-- Debit an airtime at launch (R348): all of it, so that a bucket whose credit several presented transmissions counted on
goes below 0 (notes/assumptions/74.md). -/
def dutyDebit (k airtime : Nat) (s : State) : State :=
  if s.duty k = 1000000 then s
  else
    let s := bucketSettle k s
    s.setBucket k { s.bucket k with credit := (s.bucket k).credit - (airtime * 1000000 : Nat) }

/-- Credit an unsent remainder back (R348). -/
def dutyRefund (k ticks : Nat) (s : State) : State :=
  if s.duty k = 1000000 then s
  else
    let s := bucketSettle k s
    s.setBucket k { s.bucket k with credit := min (bucketCap (s.duty k)) ((s.bucket k).credit + (ticks * 1000000 : Nat)) }

/-- Give the RF_SB registers of sub-band k the limits in force, and its bucket the new duty (R168, R350). -/
def refreshBand (k : Nat) (s : State) : State :=
  let s := bucketSettle k s
  let was := s.duty k
  let e := s.rf.bands.getD k []
  let s :=
    if k < s.rf.bands.length then
      let l := limitsInForce s k
      (((((((s.put (Fld.RF_SBFREQ_FLO k) (eh e 0)).put (Fld.RF_SBFREQ_FHI k) (eh e 2)).putS (Fld.RF_SBPWR_PMAX k)
        l.pmax).putS (Fld.RF_SBPWR_LBTTHR k) l.lbtthr).put (Fld.RF_SBPWR_LBTTIME k) l.lbttime).put
        (Fld.RF_SBDUTY_DUTY k) l.duty).put (Fld.RF_SBDWELL_DWELL k) l.dwell)
    else
      (((s.wr (Reg.RF_SBFREQ k) 0).wr (Reg.RF_SBPWR k) 0).wr (Reg.RF_SBDUTY k) 0).wr (Reg.RF_SBDWELL k) 0
  let now := s.duty k
  let c := (s.bucket k).credit
  if was = now then s
  else s.setBucket k { s.bucket k with credit := if was = 1000000 then 0 else min c (bucketCap now) }

def refreshLimits (s : State) : State := s.forEach (List.range 8) refreshBand

/-- Take the record from the information area at a system or full reset (R167): RF_LIMSTAT, RF_LIMVER, the limits. -/
def loadRfRecord (s : State) : State :=
  let r := s.rfRecord
  let ok := rfRecordValid r
  let n := if ok then eb r 6 else 0
  let s := { s with rf := { s.rf with bands := if ok then (chunks 16 ((r.drop 16).take 128)).take n else [] } }
  let s := ((s.put Fld.RF_LIMSTAT_VALID (if ok then 1 else 0)).put Fld.RF_LIMSTAT_SBCOUNT n).put Fld.RF_LIMVER_RFVER
    (if ok then ew r 8 else 0)
  refreshLimits s

/-- The sub-band a transmission falls in: carrier in kHz, mode by Table RXC-5 (R170). -/
def subBandOf (s : State) (kHz mode : Nat) : Option Nat :=
  let c := 10 * kHz
  let h := halfWidth100Hz mode
  (List.range s.rf.bands.length).find? (fun k =>
    1000 * s.get (Fld.RF_SBFREQ_FLO k) + h ≤ c && c + h ≤ 1000 * s.get (Fld.RF_SBFREQ_FHI k))

/-- Does an airtime in ticks exceed DWELL of sub-band k (R171)? -/
def dwellExceeded (s : State) (k airtime : Nat) : Bool :=
  let d := s.get (Fld.RF_SBDWELL_DWELL k)
  d != 0xFFFF && (d == 0 || 32000 * d < airtime)

/-- LBT listen time of sub-band k in ticks (R172). -/
def lbtTicks (s : State) (k : Nat) : Nat := 320 * s.get (Fld.RF_SBPWR_LBTTIME k)

/-! ### Software tightening (R169) -/

/-- The new value of a tightening field of which lower is tighter, by its order, and whether the write loosens. -/
def tightenField (lower : Bool) (old new : Int) : Int × Bool :=
  if (if lower then new ≤ old else old ≤ new) then (new, false) else (old, true)

/-- Write one tightening field; `key` orders its encodings (the keep value is the loosest). -/
def tightWrite (f : Field) (lower : Bool) (key : Nat → Int) (v : Nat) (s : State) : State :=
  if (tightenField lower (key (s.get f)) (key (v % 2 ^ f.width))).2 then s.flag Fld.RF_FLAGS_TIGHTREJ else s.put f v

/-- SWTIGHT_WRITE (R169): second is false for RF_SWTIGHT[k], true for RF_SWTIGHT2[k]. -/
def execSwtightWrite (k : Fin 8) (second : Bool) (value : Word) (s : State) : Out :=
  let v := value.toNat
  let n := k.val
  let s :=
    if second then
      tightWrite (Fld.RF_SWTIGHT2_DWELL n) true (fun x => x) (v / 2 ^ 16)
        (tightWrite (Fld.RF_SWTIGHT2_DUTY n) true (fun x => x) v s)
    else
      tightWrite (Fld.RF_SWTIGHT_LBTTIME n) false (fun x => if x = 0xFF then -1 else (x : Int)) (v / 2 ^ 16)
        (tightWrite (Fld.RF_SWTIGHT_LBTTHR n) true (toS 8) (v / 2 ^ 8)
          (tightWrite (Fld.RF_SWTIGHT_PMAX n) true (toS 8) v s))
  .next (refreshLimits s)

/-! ### Power (R164, R609) -/

/-- The headroom limit in 0.25 dB for a supply in mV; `loud`: the other lane stands above +17 dBm (Table ELEC-4). -/
def headroom (mV : Nat) (loud : Bool) : Int :=
  if 2950 ≤ mV then 80 else if 2400 ≤ mV then (if loud then 68 else 80)
  else if 2100 ≤ mV then (if loud then 56 else 68) else if 1800 ≤ mV then (if loud then 40 else 56) else 40

/-- A stored power request: limited to -120 and +80 (R163). -/
def clampLevel (p : Int) : Int := max (-120) (min p 80)

end Sys2Proof.Machine
end

