-- ==== Sys2Proof/Machine/Modem.lean ====
section
/-!
DEFINITION. The receive chain: pans and their frames, status records, the gain loop, frequency correction, receive
slots (R233 to R283).
-/

namespace Sys2Proof.Machine

def State.pan (s : State) (p : Nat) : Pan := sparseGet (fun _ => {}) s.modem.pans p

def State.setPan (p : Nat) (v : Pan) (s : State) : State :=
  { s with modem := { s.modem with pans := sparseSet (fun _ => {}) p v s.modem.pans } }

/-! ### Lanes -/

def State.lane (s : State) (l : Nat) : LaneState := nth {} s.lanes l

def State.setLane (l : Nat) (v : LaneState) (s : State) : State := { s with lanes := setNth s.lanes l v }

def State.setLaneSt (l v : Nat) (s : State) : State := s.put (Fld.LANE_STAT_STATE l) v

/-- Record a reason code of Table LANE-9 (LANE_LASTCODE). -/
def laneCode (l c : Nat) (s : State) : State := s.put (Fld.LANE_LASTCODE_CODE l) c

def State.retired (s : State) (l : Nat) : Bool := s.has (Fld.LANE_STAT_RETIRED l)

def State.owner (s : State) (l : Nat) : Nat := s.get (Fld.LANE_CTL_OWNER l)

/-- Band of the lane: 0 high, 1 low. -/
def State.laneBand (s : State) (l : Nat) : Nat := s.get (Fld.LANE_STAT_BAND l)

/-- The other lane. -/
def otherLane (l : Nat) : Nat := 1 - l

/-! ### Pans -/

/-- Pan states of MODEM_PANSTAT: 0 off, 1 hunting, 2 detected, 3 synced, 4 in payload, 5 bound, 6 refused. -/
def State.panState (s : State) (p : Nat) : Nat := s.get (Fld.MODEM_PANSTAT_STATE p)

def State.setPanState (p v : Nat) (s : State) : State := s.put (Fld.MODEM_PANSTAT_STATE p) v

def State.panMode (s : State) (p : Nat) : Nat := s.get (Fld.MODEM_PANCFG_MODE p)
def State.panChan (s : State) (p : Nat) : Nat := s.get (Fld.MODEM_PANCFG_CHAN p)

/-- The pans of a lane. -/
def panRange (l : Nat) : List Nat := (List.range 8).map (fun k => 8 * l + k)

/-- Is a pan between a detection and the end of its frame? -/
def State.panBusy (s : State) (p : Nat) : Bool := 2 ≤ s.panState p && s.panState p ≤ 4

/-- Lane states of LANE_STAT: 0 SLEEP, 1 STANDBY, 2 SYNTH, 3 RX, 4 TX, 5 calibrating, 6 health test, 7 retired. -/
def State.laneSt (s : State) (l : Nat) : Nat := s.get (Fld.LANE_STAT_STATE l)

def State.paired (s : State) : Bool := s.has (Fld.LANE_STAT_PAIRED 0)

/-- TIDE_NOW bits 57:26, the unit of stamps. -/
def State.stamp (s : State) : Nat := s.now / 2 ^ 26 % 2 ^ 32

/-- A pan with no detection: what outlives its frames. -/
def panBlank (s : State) (p : Nat) : Pan := { leSeen := (s.pan p).leSeen, stopped := (s.pan p).stopped }

/-- Is a pan enabled and not stopped? -/
def panEnabled (s : State) (p : Nat) : Bool := s.has (Fld.MODEM_PANCFG_EN p) && !(s.pan p).stopped

def boolBit (b : Bool) : Nat := if b then 1 else 0

/-! ### Gain (R256 to R259) -/

def State.agc (s : State) (l : Nat) : Agc := nth {} s.modem.agc l

def State.setAgc (l : Nat) (a : Agc) (s : State) : State :=
  { s with modem := { s.modem with agc := setNth s.modem.agc l a } }

/-- The pans whose frames run on a lane's front end: its own, and while paired LANE A's for LANE B too (R276). -/
def lanePans (s : State) (l : Nat) : List Nat := if s.paired then panRange 0 else panRange l

/-- Freeze or release one lane's gain by whether a frame runs on it (R258). -/
def gainFreezeOne (l : Nat) (s : State) : State :=
  s.put (Fld.MODEM_LANEGAIN_FROZEN l) (boolBit ((panRange l).any s.panBusy || (lanePans s l).any s.panBusy))

/-- Freeze or release the lane's gain; paired lanes freeze and are released together (R258, R276). -/
def gainFreeze (l : Nat) (s : State) : State :=
  if s.paired then gainFreezeOne 1 (gainFreezeOne 0 s) else gainFreezeOne l s

/-- The settled value of the lane's band. -/
def gainLast (s : State) (l : Nat) : Nat :=
  if s.has (Fld.LANE_STAT_BAND l) then s.get (Fld.MODEM_LANEGAIN_LBLAST l) else s.get (Fld.MODEM_LANEGAIN_HBLAST l)

/-- Entry to RX starts from the settled value (R256). -/
def gainStart (l : Nat) (s : State) : State :=
  (s.put (Fld.MODEM_LANEGAIN_GAIN l) (gainLast s l)).setAgc l {}

/-- A block in which G did not change: after eight of them G is settled and becomes the band's settled value (R256). -/
def agcStable (l : Nat) (a : Agc) (s : State) : State :=
  let n := min 8 (a.stable + 1)
  let s := s.setAgc l { stable := n, sinceOvl := min 16 (a.sinceOvl + 1) }
  if n = 8 then
    s.put (if s.has (Fld.LANE_STAT_BAND l) then Fld.MODEM_LANEGAIN_LBLAST l else Fld.MODEM_LANEGAIN_HBLAST l)
      (s.get (Fld.MODEM_LANEGAIN_GAIN l))
  else s

/-- An overload step: every pan inside a frame raises its digital gain by the calibrated size of the step, for which the spec
gives no value: a free value (R259, notes/assumptions/83.md). -/
def overloadStep (l : Nat) (s : State) : State :=
  let up := toS 16 s.freeNat
  let s := (s.freeNext.put (Fld.MODEM_LANEGAIN_GAIN l) (s.get (Fld.MODEM_LANEGAIN_GAIN l) - 3)).setAgc l { stable := 0, sinceOvl := 1 }
  let s := s.forEach ((lanePans s l).filter s.panBusy)
    (fun p s => s.setPan p { s.pan p with gainstep := true, dgain := (s.pan p).dgain + up })
  let s := s.inc (Fld.MODEM_RXCNT_OVERLOAD l)
  (s.flag (if l = 0 then Fld.MODEM_RXFLAGS_OVLA else Fld.MODEM_RXFLAGS_OVLB)).fire EV.MODEM_OVERLOAD

/-- One step of agc_block while not frozen: the new code from a power in 1/100 dBFS and the clips (R257). -/
def agcNext (g : Nat) (target : Int) (p : Int) (clips : Nat) : Nat :=
  let t := 100 * target
  let g' : Int :=
    if 2 ≤ clips then (g : Int) - 6
    else if p > t + 300 then (g : Int) + (t - p) / 200
    else if p < t - 900 then (g : Int) + min 6 ((t - p) / 200)
    else (g : Int)
  (max 0 (min 31 g')).toNat

/-- AGC_BLOCK (R257, R259): power in 1/100 dBFS. -/
def execAgcBlock (lane : Lane) (power : Int) (clips : Nat) (s : State) : Out :=
  let l := lane.val
  if s.laneSt l ≠ 3 then .next s
  else
    let g := s.get (Fld.MODEM_LANEGAIN_GAIN l)
    let a := s.agc l
    if s.has (Fld.MODEM_LANEGAIN_FROZEN l) then
      .next (if s.get Fld.MODEM_AGCCFG_OVLCLIP ≤ clips ∧ 16 ≤ a.sinceOvl then overloadStep l s else agcStable l a s)
    else
      let g' := agcNext g (s.getS Fld.MODEM_AGCCFG_TARGET) power clips
      .next (if g' = g then agcStable l a s
        else (s.put (Fld.MODEM_LANEGAIN_GAIN l) g').setAgc l { stable := 0, sinceOvl := min 16 (a.sinceOvl + 1) })

/-! ### AFC (R269, R271) -/

/-- The AFC fraction of a lane moves towards a frame's FOFS, saturating at 40 ppm. -/
def afcUpdate (l : Nat) (fofs : Int) (s : State) : State :=
  let f := s.getS (Fld.MODEM_AFCFRAC_FRAC l)
  let res := fofs - s.rate - f
  s.putS (Fld.MODEM_AFCFRAC_FRAC l) (max (-171798) (min 171798 (f + res / 2 ^ s.get Fld.MODEM_RXCFG_AFCK)))

/-- Is a pan of the lane inside a frame, or does the lane transmit? -/
def laneHoldsAfc (s : State) (l : Nat) : Bool := (lanePans s l).any s.panBusy || s.laneSt l == 4

/-- The synthesiser takes the AFC value, in FREQ units at the present carrier (R271, R151). -/
def afcToSynth (l : Nat) (s : State) : State :=
  s.putS (Fld.LANE_AFC_CORR l)
    (roundDiv (s.getS (Fld.MODEM_AFCFRAC_FRAC l) * s.get (Fld.LANE_FREQ_FREQ l)) (2 ^ 32))

/-! ### Pan configuration (R250 to R255) -/

/-- The carrier that lane l puts out for a value of FREQ, in units of 2^-32 FREQ step: the AFC correction added, scaled by the
tide rate (R151, R102). -/
def carrierOf (s : State) (l freq : Nat) : Int := (freq + s.getS (Fld.LANE_AFC_CORR l)) * (2 ^ 32 + s.rate)

/-- FREQ that the lane's synthesiser stands on: that of its lock, or LANE_FREQ, on which it will lock. -/
def spanFreq (s : State) (l : Nat) : Nat :=
  if s.has (Fld.LANE_STAT_LOCK l) then (s.lane l).lockedFreq else s.get (Fld.LANE_FREQ_FREQ l)

/-- 1 Hz in the units in which span centres are compared; one FREQ step is 15625/512 Hz. -/
def hzUnit : Int := 2 ^ 41

/-- The receive carrier of lane l for a value of FREQ, in hzUnit (R250, R151). -/
def centreOf (s : State) (l freq : Nat) : Int := carrierOf s l freq * 15625

/-- The centre of a lane's span (R250). -/
def spanCentre (s : State) (l : Nat) : Int := centreOf s l (spanFreq s l)

/-- Does the occupied band of (mode, channel) fit the span around a centre in hzUnit, with its DC exclusion (R251)? -/
def fitsSpan (c : Int) (mode chan : Nat) : Bool :=
  let f : Int := chanKHz mode chan * 1000 * hzUnit
  let h : Int := halfWidth100Hz mode * 100 * hzUnit
  let off := if f < c then c - f else f - c
  let low := bandOf mode = 1
  decide (off + h ≤ (if low then 1600000 else 8000000) * hzUnit) && decide ((if low then 25000 else 125000) * hzUnit ≤ off - h)

/-- Do the occupied bands of two pans of one lane overlap? -/
def bandsOverlap (m1 c1 m2 c2 : Nat) : Bool :=
  let f1 : Int := 10 * chanKHz m1 c1
  let f2 : Int := 10 * chanKHz m2 c2
  decide ((if f1 < f2 then f2 - f1 else f1 - f2) < (halfWidth100Hz m1 + halfWidth100Hz m2 : Nat))

/-- Is a channel issued for a mode (R210, R277)? -/
def panChanIssued (mode chan : Nat) : Bool :=
  mode ≤ 5 && (if mode ≤ 1 then chanIssued mode chan else chan < 40)

/-- Is the configuration of pan p acceptable (R251)? -/
def panFits (s : State) (p : Nat) : Bool :=
  let l := p / 8
  let m := s.panMode p
  let c := s.panChan p
  panChanIssued m c && bandOf m == s.get (Fld.LANE_STAT_BAND l) && fitsSpan (spanCentre s l) m c
  && (panRange l).all (fun q => q == p || !s.has (Fld.MODEM_PANCFG_EN q) || s.panState q == 6 || s.panState q == 5
      || !bandsOverlap m c (s.panMode q) (s.panChan q))

/-- Refuse the configuration of pan p (R251). -/
def panRefuse (p : Nat) (s : State) : State :=
  (((s.setPanState p 6).put (Fld.MODEM_PANSTAT_LASTCODE p) 0x0150).flag Fld.MODEM_RXFLAGS_CFGREJ).fire EV.MODEM_CFGREJ

/-! ### Status records (R275, R279 to R282) -/

/-- The mode of a pan's packet: LE Coded as its coding indicator gave it (R277). -/
def panRecMode (s : State) (p : Nat) : Nat :=
  let m := s.panMode p
  if m = 4 ∨ m = 5 then (s.pan p).coding.getD m else m

/-- The eight words of a status record (Table RXC-5). -/
def recordWords (s : State) (p code : Nat) (fofs : Int) (corrbits nsym : Nat) : List Word :=
  let v := s.pan p
  let mode := panRecMode s p
  let native := mode ≤ 1
  let hdrlo := if native then v.hdr % 2 ^ 32 else (s.rd (Reg.MODEM_PANAA p)).toNat
  let hdrhi := if native then v.hdr / 2 ^ 32 % 2 ^ 16 else v.hdr % 2 ^ 16
  [ BitVec.ofNat 32 (code * 2 ^ 16 + p * 2 ^ 12 + mode * 2 ^ 9 + boolBit v.paired * 2 ^ 8 + boolBit v.gainstep * 2 ^ 7
      + boolBit v.capt * 2 ^ 6 + boolBit v.hidden * 2 ^ 5),
    BitVec.ofNat 32 hdrlo,
    BitVec.ofNat 32 (s.panChan p * 2 ^ 24 + hdrhi),
    BitVec.ofNat 32 (ofS 8 v.rssi * 2 ^ 24 + ofS 8 v.snr * 2 ^ 16 + ofS 8 v.rssi2 * 2 ^ 8 + v.gain),
    BitVec.ofNat 32 (if v.hdrOk then ofS 32 fofs else 0),
    BitVec.ofNat 32 v.ts,
    BitVec.ofNat 32 (v.ts / 2 ^ 32),
    BitVec.ofNat 32 (min corrbits 0xFFFF * 2 ^ 16 + nsym % 256 * 2 ^ 8) ]

/-- Write a record to MODEM_PANLAST[p] and its code to MODEM_PANSTAT (R279, R281). -/
def putPanLast (p : Nat) (words : List Word) (s : State) : State :=
  let s := s.forEach words.zipIdx (fun x s => s.wr (Reg.MODEM_PANLAST p x.2) x.1)
  s.put (Fld.MODEM_PANSTAT_LASTCODE p) ((words.headD 0).toNat / 2 ^ 16)

/-- Record events of pan p: EV_MODEM_RXEND and EV_MODEM_ENDp (R280). -/
def recordEvents (p : Nat) (s : State) : State := (s.fire EV.MODEM_RXEND).fire (EV.MODEM_ENDn p)

/-- After a frame: the pan hunts again while its lane is in RX and it is enabled, else it is off; the gain follows. -/
def panRest (p : Nat) (s : State) : State :=
  let l := p / 8
  let on := s.laneSt l == 3 && panEnabled s p
  gainFreeze l ((s.setPan p (panBlank s p)).setPanState p (if on then 1 else 0))

/-- A frame of pan p ends early with a code: a confirmed one leaves a record in MODEM_PANLAST (R279, R254, R255). The
frequency measured so far is the pan's own measurement, which no command brings: a free value. -/
def panEndEarly (p code : Nat) (s : State) : State :=
  let st := s.panState p
  if st = 3 ∨ st = 4 then
    let v := s.pan p
    let fofs := toS 32 s.freeNat
    let corr := s.freeNext.freeNat % 2 ^ 16
    let s := s.freeNext.freeNext
    let s := putPanLast p (recordWords s p code fofs corr 0) s
    let s := if v.hdrOk then (if s.paired then afcUpdate 1 fofs (afcUpdate 0 fofs s) else afcUpdate (p / 8) fofs s) else s
    let s := if code = 0x0154 ∨ code = 0x0156 then s.inc (Fld.MODEM_RXCNT_CUT (p / 8)) else s
    recordEvents p s
  else s

/-- End every frame of a lane with a code and leave its pans off, as when the lane leaves RX (R254). -/
def panLaneStop (l code : Nat) (s : State) : State :=
  s.forEach (panRange l) (fun p s =>
    if s.panBusy p then gainFreeze l (((panEndEarly p code s).setPan p (panBlank s p)).setPanState p 0)
    else if s.panState p = 1 then s.setPanState p 0 else s)

/-- Start the enabled pans of a lane that enters RX; those that do not fit are refused (R251, R260). -/
def panLaneStart (l : Nat) (s : State) : State :=
  s.forEach (panRange l) (fun p s =>
    if panEnabled s p && s.panState p == 0 then
      if panFits s p then s.setPanState p 1 else panRefuse p s
    else s)

/-- The span centre has moved: enabled pans that no longer fit are disabled (R251). -/
def panRecheck (l : Nat) (s : State) : State :=
  s.forEach (panRange l) (fun p s =>
    if s.has (Fld.MODEM_PANCFG_EN p) && s.panState p != 6 && s.panState p != 5 && !panFits s p then
      panRefuse p (panEndEarly p 0x0154 s)
    else s)

/-- The tide rate takes a new value: the span centres move with it (R151, R251). -/
def rateSet (v : Int) (s : State) : State := panRecheck 1 (panRecheck 0 (s.putS Fld.TIDE_RATE_RATE v))

/-- AFC_APPLY (R271): the span centre moves with the correction (R151, R251). -/
def execAfcApply (lane : Lane) (s : State) : Out :=
  .next (if laneHoldsAfc s lane.val then s else panRecheck lane.val (afcToSynth lane.val s))

/-- Write the configuration of pan p (R251, R253, R255, R276). -/
def panConfigure (byLink : Bool) (p v : Nat) (s : State) : State :=
  let l := p / 8
  if byLink == s.has (Fld.LANE_CTL_OWNER l) then (if byLink then s else s.flag Fld.MODEM_RXFLAGS_CFGREJ)
  else if s.paired ∧ l = 1 then s
  else
    let mode := v / 2 ^ 10 % 8
    let le := 2 ≤ mode && mode ≤ 5
    let first := le && !(s.pan p).leSeen
    let s := panEndEarly p 0x0156 s
    let s := (((s.put (Fld.MODEM_PANCFG_CHAN p) (v / 2 ^ 16)).put (Fld.MODEM_PANCFG_MODE p) mode).put
      (Fld.MODEM_PANCFG_AATOL p) (if first then 1 else v / 2 ^ 8)).put (Fld.MODEM_PANCFG_EN p) v
    let s := (s.setPan p { leSeen := (s.pan p).leSeen || le }).setPanState p 0
    let s := if v % 2 = 0 then s
      else if panFits s p then (if s.laneSt l = 3 then s.setPanState p 1 else s)
      else panRefuse p s
    gainFreeze l s

/-- PANCFG_WRITE (R251, R253): by software, or by the link controller on its own lanes. -/
def execPancfgWrite (byLink : Bool) (pan : Fin 16) (value : Word) (s : State) : Out :=
  .next (panConfigure byLink pan.val value.toNat s)

/-- Stop one pan: its frame ends with 0x0156 and it stays off until its next configuration write (R255). -/
def panStop (p : Nat) (s : State) : State :=
  let s := panEndEarly p 0x0156 s
  let s := s.setPan p { panBlank s p with stopped := true }
  gainFreeze (p / 8) (if s.panState p = 5 then s else s.setPanState p 0)

/-- PANSTOP (R255). -/
def execPanstop (pan : Fin 16) (s : State) : Out := .next (panStop pan.val (s.takeTask (TK.MODEM_PANSTOP pan.val)))

/-- WBSNAP (Table RXC-8): the measured powers in dBm; -128 for a lane that is not in RX. -/
def execWbsnap (powerA : BitVec 8) (powerB : BitVec 8) (s : State) : Out :=
  let s := s.takeTask TK.MODEM_WBSNAP
  .next ((s.put Fld.MODEM_WBRSSI_LANEA (if s.laneSt 0 = 3 then powerA.toNat else 0x80)).put Fld.MODEM_WBRSSI_LANEB
    (if s.laneSt 1 = 3 then powerB.toNat else 0x80))

/-! ### Detection, sync, capture (R260 to R268) -/

/-- Does the tide clock's 32 MHz count run? A pan receives only while it does (R274). -/
def panCounts (s : State) : Bool := !s.lfMode

/-- SYNCSEQ in force (R218). -/
def State.syncSeq (s : State) : Nat := s.get Fld.MODEM_PHYCFG_SYNCSEQ

/-- Pan p takes a detection made under sync sequence `seq` (R264, R218): count, event, both gains freeze, a fresh sync
window. -/
def panTake (p : Nat) (power : Int) (capt : Bool) (seq : Nat) (s : State) : State :=
  let l := p / 8
  let s := s.setPan p
    { panBlank s p with
      power := power, capt := capt, gain := s.get (Fld.MODEM_LANEGAIN_GAIN l), paired := s.paired,
      dgain := Config.digitalLevel - power, seq := seq }
  let s := (s.setPanState p 2).inc (Fld.MODEM_RXCNT_DETECTS l)
  gainFreeze l (s.fire EV.MODEM_DETECT)

/-- A pan without a frame: it takes over the held detection whose sync reference point is still to come, or hunts
(R264). -/
def panNext (p : Nat) (heldAlive : Bool) (s : State) : State :=
  let held := (s.pan p).held
  let s := panRest p s
  match held with
  | some h => if heldAlive ∧ s.panState p = 1 then panTake p h.1 false h.2 s else s
  | none => s

/-- PAN_DETECT (R260): power in 1/100 dBm. -/
def execPanDetect (pan : Fin 16) (power : Int) (s : State) : Out :=
  .next (if s.panState pan.val = 1 && panCounts s then panTake pan.val power false s.syncSeq s else s)

/-- The multiple in Hz in which the coarse frequency estimate is ambiguous (R261). -/
def cfoStep (mode : Nat) : Int := if mode = 1 then 25000 else 125000

/-- The coarse estimate of a frequency offset in Hz: the offset less the nearest multiple (R261). -/
def cfoCoarse (mode : Nat) (f : Int) : Int := f - (2 * f + cfoStep mode) / (2 * cfoStep mode) * cfoStep mode

/-- The offsets that the LTS correlator tests: the coarse estimate and one multiple either way (R261). -/
def cfoHypotheses (mode : Nat) (f : Int) : List Int :=
  [cfoCoarse mode f, cfoCoarse mode f - cfoStep mode, cfoCoarse mode f + cfoStep mode]

/-- Does a native pan acquire a frame at an offset of f Hz, measured after AFC (R261): is that offset among the hypotheses? -/
def cfoAcquired (mode : Nat) (f : Int) : Bool := (cfoHypotheses mode f).contains f

/-- Does an LE pan accept a received access address (R277)? -/
def aaAccepted (s : State) (p : Nat) (aa : BitVec 32) : Bool :=
  let d := popCount 32 (aa ^^^ s.rd (Reg.MODEM_PANAA p)).toNat
  if s.panMode p = 2 ∨ s.panMode p = 3 then d ≤ s.get (Fld.MODEM_PANCFG_AATOL p) else d == 0

/-- Does what the correlator found confirm the detection of pan p (R217, R218, R261, R277)? -/
def syncConfirms (s : State) (p lts : Nat) (cfo : Int) (aa : BitVec 32) : Bool :=
  if s.panMode p ≤ 1 then lts == (s.pan p).seq && cfoAcquired (s.panMode p) cfo else aaAccepted s p aa

/-- PAN_SYNC (R261, R262, R272, R273, R277): the sync reference point. `ago`: 1/64 ticks from it, as the pan places it, to
TIDE_NOW; `lts` and `cfo`: sync sequence and frequency offset in Hz that the long training carried; `aa`: the access address
of an LE packet. -/
def execPanSync (pan : Fin 16) (ago : BitVec 16) (rssi : BitVec 8) (rssi2 : BitVec 8) (leSnr : BitVec 8) (lts : Fin 64)
    (cfo : Int) (aa : BitVec 32) (s : State) : Out :=
  let p := pan.val
  if s.panState p = 2 && panCounts s && syncConfirms s p lts.val cfo aa then
    let v := s.pan p
    let s := s.setPan p { v with ts := ofS 64 (64 * s.now - ago.toInt), rssi := rssi.toInt,
                                 rssi2 := if v.paired then rssi2.toInt else -128,
                                 snr := if s.panMode p ≤ 1 then 0 else leSnr.toInt, power := rssi.toInt * 100,
                                 cfo := if s.panMode p ≤ 1 then cfo else 0 }
    .next (((s.setPanState p 3).fire EV.MODEM_SYNC).fire (EV.MODEM_SYNCn p))
  else .next s

/-- SYNC_WINDOW_CLOSE (R262): no confirming peak. -/
def execSyncWindowClose (pan : Fin 16) (heldAlive : Bool) (s : State) : Out :=
  let p := pan.val
  if s.panState p = 2 then
    .next (panNext p heldAlive ((s.inc (Fld.MODEM_RXCNT_FALSEDET (p / 8))).fire EV.MODEM_FALSEDET))
  else .next s

/-- HUNTER_DETECT (R263 to R268): power in 1/100 dBm. -/
def execHunterDetect (pan : Fin 16) (power : Int) (s : State) : Out :=
  let p := pan.val
  let l := p / 8
  let st := s.panState p
  let v := s.pan p
  if !panCounts s then .next s
  else if st = 2 then .next (panTake p power false s.syncSeq (s.inc (Fld.MODEM_RXCNT_REDETECT l)))
  else if st = 3 ∨ st = 4 then
    if s.has Fld.MODEM_RXCFG_CAPEN ∧ v.power + 100 * (s.get Fld.MODEM_RXCFG_CAPTHR : Nat) ≤ power then
      let s := ((panEndEarly p 0x0153 s).inc (Fld.MODEM_RXCNT_CAPTURES l)).fire EV.MODEM_CAPTURE
      .next (panTake p power true s.syncSeq s)
    else .next ((s.setPan p { v with hidden := true, held := some (power, s.syncSeq) }).inc (Fld.MODEM_RXCNT_HIDDEN l))
  else .next s

/-! ### Receive slots (R236 to R241) -/

def slotValid (s : State) (j : Nat) : Bool := s.has (Fld.MODEM_RXSLOT_VALID j)

/-- The derived table of slot j. -/
def slotTable (s : State) (j : Nat) : List Nat :=
  (List.range 48).map (fun d => (s.rd (Reg.MODEM_RXTAB j (d / 16))).toNat / 4 ^ (d % 16) % 4)

/-- The defining margins of slot j. -/
def slotMargins (s : State) (j : Nat) : List Nat :=
  (List.range 48).map (fun d => (s.rd (Reg.MODEM_RXPROF j (d / 8))).toNat / 16 ^ (d % 8) % 16)

def slotSetValid (j : Nat) (b : Bool) (s : State) : State :=
  (s.put (Fld.MODEM_RXSLOT_VALID j) (boolBit b)).putBit Reg.MODEM_SLOTSTAT j b

/-- The word with 2^b-ary digits from a list. -/
def digits (base : Nat) : List Nat → Nat
  | [] => 0
  | x :: t => x % base + base * digits base t

/-- Fill slot j (R240): mode, margin, defining profile, derived table and rate, stamp. -/
def slotFill (j mode margin : Nat) (m t : List Nat) (rate : Nat) (s : State) : State :=
  let s := ((((s.put (Fld.MODEM_RXSLOT_MARGIN j) margin).put (Fld.MODEM_RXSLOT_MODE j) mode).put
    (Fld.MODEM_RXSLOT_RATE j) rate).put (Fld.MODEM_RXSLOT_NCBPS j) (ncbpsOf t)).put (Fld.MODEM_RXSLOTUSE_STAMP j) s.stamp
  let s := s.forEach (List.range 3) (fun w s => s.wr (Reg.MODEM_RXTAB j w) (BitVec.ofNat 32 (digits 4 ((t.drop (16 * w)).take 16))))
  let s := s.forEach (List.range 6) (fun w s => s.wr (Reg.MODEM_RXPROF j w) (BitVec.ofNat 32 (digits 16 ((m.drop (8 * w)).take 8))))
  slotSetValid j true s

/-- Does a pan demodulate a frame that names slot j (R240, R241)? -/
def slotInUse (s : State) (j : Nat) : Bool :=
  (List.range 16).any (fun p => s.panState p == 4 && s.panMode p ≤ 1 && hdrLoadidx (s.pan p).hdr == j)

/-- The slot allocation takes: the lowest invalid one that no frame in demodulation names, else the oldest idle one (R240
rule 3, R241). -/
def slotToAllocate (s : State) : Option Nat :=
  let js := (List.range 15).map (fun j => j + 1)
  match js.find? (fun j => !slotValid s j && !slotInUse s j) with
  | some j => some j
  | none =>
    let age := fun j => (s.stamp + 2 ^ 32 - s.get (Fld.MODEM_RXSLOTUSE_STAMP j)) % 2 ^ 32
    let oldest := js.foldl (fun b j => if age b < age j then j else b) 1
    if s.get Fld.MODEM_LOADCFG_SLOTIDLE * 32000000 < age oldest * 2 ^ 26 ∧ !slotInUse s oldest then some oldest else none

/-- Choose SLOT for a profile of a measured frame (R240): the slot, the margins and MARGIN that go out with it. -/
def chooseSlot (mode : Nat) (m : List Nat) (s : State) : (Nat × List Nat × Nat) × State :=
  let margin := s.get Fld.MODEM_LOADCFG_MARGIN
  let js := (List.range 15).map (fun j => j + 1)
  let bits := fun j => infoBits12 (slotTable s j) (s.get (Fld.MODEM_RXSLOT_RATE j))
  let cands := js.filter (fun j => slotValid s j && s.get (Fld.MODEM_RXSLOT_MODE j) == mode
    && s.get (Fld.MODEM_RXSLOT_MARGIN j) == margin && (List.zipWith (fun a b => decide (a ≤ b)) (slotMargins s j) m).all id)
  let best := cands.foldl (fun (b : Option Nat) j =>
    match b with | none => some j | some i => if bits i < bits j then some j else some i) none
  match derive m margin with
  | none => ((0, m, margin), s)
  | some (t, rate) =>
    if !tableUsable t then ((0, m, margin), s)
    else
      let want := match best with | none => true | some b => 9 * bits b < 8 * infoBits12 t rate
      match want, slotToAllocate s, best with
      | true, some j, _ => ((j, m, margin), slotFill j mode margin m t rate s)
      | _, _, some b => ((b, slotMargins s b, margin), s)
      | _, _, none => ((0, m, margin), s)

/-- SLOTINV_WRITE (R241). -/
def execSlotinvWrite (value : Word) (s : State) : Out :=
  .next (s.forEach ((bitsOf 16 value.toNat).filter (fun j => j != 0)) (fun j s => slotSetValid j false s))

/-! ### The header decision (R221, R222, R239, R265) -/

/-- An LE pan has a packet's first 16 bits: it dewhitens the PDU header with its channel index, and for LE Coded goes by the
coding indicator, true for S=2 (R277). -/
def leHeader (p raw : Nat) (s2 : Bool) (s : State) : State :=
  let mode := s.panMode p
  let h := natOfBits (leWhiten (s.panChan p) (bitList 16 raw))
  (s.setPan p { s.pan p with hdr := h, coding := if mode = 4 ∨ mode = 5 then some (if s2 then 5 else 4) else none }).setPanState p 4

/-- STAMP of a valid slot is set at each header decode that names it (R238). -/
def slotStamp (j : Nat) (s : State) : State :=
  if j ≠ 0 ∧ slotValid s j then s.put (Fld.MODEM_RXSLOTUSE_STAMP j) s.stamp else s

/-- HEADER_DECISION (R265, R238, R239): the 48 header bits as decoded (LE: the first 16 bits after the access address, and
`inverted` the coding indicator), with the SNR. -/
def execHeaderDecision (pan : Fin 16) (header : BitVec 48) (inverted : Bool) (snr : BitVec 8) (heldAlive : Bool)
    (s : State) : Out :=
  let p := pan.val
  let h := header.toNat
  let mode := s.panMode p
  if s.panState p ≠ 3 || !panCounts s then .next s
  else if 2 ≤ mode then .next (leHeader p h inverted s)
  else
    let s := s.setPan p { s.pan p with hdr := h, snr := snr.toInt, fetch := (s.now, s.stratum) }
    if !hdrCrcOk h then
      .next (panNext p heldAlive (((panEndEarly p 0x0151 s).inc (Fld.MODEM_RXCNT_HDRFAIL (p / 8))).fire EV.MODEM_HDRFAIL))
    else
      let s := (s.setPan p { s.pan p with hdrOk := true }).fire EV.MODEM_HDROK
      let j := hdrLoadidx h
      let s := slotStamp j s
      if headerInvalid h mode inverted then
        .next (panNext p heldAlive ((panEndEarly p 0x0140 s).inc Fld.MODEM_PHYCNT_HDRINV))
      else if j = 0 then .next ((s.setPan p { s.pan p with table := uniformTable }).setPanState p 4)
      else if slotValid s j && s.get (Fld.MODEM_RXSLOT_MODE j) == mode && s.get (Fld.MODEM_RXSLOT_RATE j) == hdrRate h then
        .next ((s.setPan p { s.pan p with table := slotTable s j }).setPanState p 4)
      else .next (panNext p heldAlive ((panEndEarly p 0x0141 s).inc Fld.MODEM_PHYCNT_LOADMISS))

/-- PANLAST_READ (R282): the answer is word 0; words 1 to 7 are latched for the reads that follow. -/
def execPanlastRead (pan : Fin 16) (s : State) : Out :=
  let s := s.forEach (List.range 8) (fun w s => s.setLatch (Reg.MODEM_PANLAST pan.val w) (s.rd (Reg.MODEM_PANLAST pan.val w)))
  .next { s with bus := .data (s.rd (Reg.MODEM_PANLAST pan.val 0)) }

end Sys2Proof.Machine
end

