-- ==== Sys2Proof/Machine/CalStore.lean ====
section
/-!
DEFINITION. The calibration store: entries and their kinds (R188), reload from factory trim (R190 to R192), staleness (R193,
R194), results and their limits (R200, R201), and the use of an entry by the radio path (R192, R195).
-/

namespace Sys2Proof.Machine

/-- Kinds of entries (Table CAL-1). -/
inductive CalKind where
  | vco
  | image
  | filter
  | dc
  deriving DecidableEq, Repr

def calKind (n : Nat) : CalKind := if n ≤ 5 then .vco else if n ≤ 7 then .image else if n = 8 then .filter else .dc

/-- Band of an entry: 0 high, 1 low. -/
def calBand (n : Nat) : Nat := if n ≤ 3 ∨ n = 6 ∨ (9 ≤ n ∧ n ≤ 12) then 0 else 1

/-- Centre of a VCO entry in kHz. -/
def calCentre (n : Nat) : Nat := nth 0 [2410000, 2431000, 2452000, 2473000, 866500, 915000] n

/-- The VCO entry whose range holds a carrier in kHz (Table CAL-1). -/
def vcoEntry (kHz : Nat) : Option Nat :=
  if 2400000 ≤ kHz ∧ kHz ≤ 2483500 then some (min 3 ((kHz - 2400000) / 21000))
  else if 863000 ≤ kHz ∧ kHz ≤ 870000 then some 4
  else if 902000 ≤ kHz ∧ kHz ≤ 928000 then some 5
  else none

/-- The carrier of a FREQ value in kHz, rounded down. -/
def kHzOfFreq (freq : Nat) : Nat := freq * 32000 / 2 ^ 20

/-! ### Results -/

/-- The bits of a result that its kind has; the others are 0 (LANE_CALRES). -/
def calMask (n : Nat) : Word :=
  match calKind n with | .vco => 0x03FF0F3F#32 | .image => 0x00FFFFFF#32 | .filter => 0x1F#32 | .dc => 0x03FF03FF#32

/-- The code of a finished calibration, or 0 (Table CAL-4). `fault`: no band code locked (VCO); the residual is above 2 %
of full scale (DC). -/
def calCode (n res : Nat) (fault : Bool) : Nat :=
  match calKind n with
  | .vco =>
    if fault then 0x0130 else if res / 2 ^ 8 % 16 = 0 ∨ res / 2 ^ 8 % 16 = 15 then 0x0131
    else if res / 2 ^ 16 % 1024 < 358 ∨ 666 < res / 2 ^ 16 % 1024 then 0x0132 else 0
  | .image => if res / 2 ^ 16 % 256 < 30 then 0x0133 else 0
  | .filter => if res % 32 = 0 ∨ res % 32 = 31 then 0x0134 else 0
  | .dc => if fault then 0x0135 else 0

/-! ### The store -/

/-- Set STALE of entry n with its mirror. -/
def setCalStale (l n : Nat) (b : Bool) (s : State) : State :=
  (s.put (Fld.LANE_CALMETA_STALE l n) (boolBit b)).putBit (Reg.LANE_CALSTALE l) n b

/-- Set FAILED of entry n with its mirror. -/
def setCalFailed (l n : Nat) (b : Bool) (s : State) : State :=
  (s.put (Fld.LANE_CALMETA_FAILED l n) (boolBit b)).putBit (Reg.LANE_CALFAILED l) n b

/-- Nothing of entry n waits or is held any more, and its words carry good parity: it has new contents. -/
def calFresh (l n : Nat) (s : State) : State :=
  s.setLane l { s.lane l with calRetry := (s.lane l).calRetry.filter (fun k => k != n),
                              calHeld := (s.lane l).calHeld.filter (fun x => x.1 != n),
                              calBad := (s.lane l).calBad.filter (fun k => k != n) }

/-- The design-nominal result of an entry: a VCO entry's KVCO is 512 (R191, Table CAL-4). -/
def calNominal (n : Nat) : Word :=
  let v := Config.nominalTrim n &&& calMask n
  match calKind n with | .vco => v &&& 0x0000FFFF#32 ||| 0x02000000#32 | _ => v

/-- What the factory trim row gives entry n: the register's reset value, or the nominal value where the row fails its CRC
(R190, R191). -/
def calTrim (s : State) (l n : Nat) : Word :=
  if s.has Fld.RF_CALSTAT_FTVALID then resetValue (Reg.LANE_CALRES l n) else calNominal n

/-- Reload an entry from factory trim (R190, R192). -/
def calReload (l n : Nat) (s : State) : State :=
  let s := ((s.wr (Reg.LANE_CALRES l n) (calTrim s l n)).wr (Reg.LANE_CALMETA l n) 0x00190005#32).wr
    (Reg.LANE_CALSTAMP l n) 0#32
  calFresh l n (setCalFailed l n false (setCalStale l n true s))

/-- An entry takes a new result (R201, R200). -/
def calStore (l n : Nat) (res : Word) (temp : Int) (s : State) : State :=
  let s := (((s.wr (Reg.LANE_CALRES l n) (res &&& calMask n)).putS (Fld.LANE_CALMETA_TEMP l n) temp).flag
    (Fld.LANE_CALMETA_VALID l n)).flag (Fld.LANE_CALMETA_ORIGIN l n)
  let s := setCalFailed l n false (setCalStale l n false (s.put (Fld.LANE_CALMETA_FAILCNT l n) 0))
  calFresh l n (s.put (Fld.LANE_CALSTAMP_STAMP l n) s.stamp)

/-! ### Use -/

/-- The radio path of lane l takes entry n as it stands: an entry with a parity error is reloaded first and 0x0136 recorded
(R192), and what is applied stays applied until the next use (R195). -/
def calUse (l n : Nat) (s : State) : State :=
  let s := if (s.lane l).calBad.contains n then laneCode l 0x0136 (calReload l n s) else s
  s.setLane l { s.lane l with
    calUsed := (s.lane l).calUsed.filter (fun x => x.1 != n) ++ [(n, s.rd (Reg.LANE_CALRES l n))] }

/-- A relock or a transmission start on FREQ `f` uses the VCO entry of its range (R188, R195). -/
def calUseVco (l f : Nat) (s : State) : State :=
  match vcoEntry (kHzOfFreq f) with
  | some n => calUse l n s
  | none => s

/-- A receiver start uses the filter entry, and the image and DC entries of the lane's band (R188, R195). -/
def calUseRx (l : Nat) (s : State) : State :=
  let low := s.laneBand l = 1
  s.forEach (8 :: (if low then [7, 13, 14, 15, 16] else [6, 9, 10, 11, 12])) (calUse l)

/-! ### Staleness -/

/-- Release a held entry (R202). -/
def calRelease (l n : Nat) (s : State) : State :=
  if s.get (Fld.LANE_CALMETA_FAILCNT l n) = 3 then
    (s.put (Fld.LANE_CALMETA_FAILCNT l n) 0).setLane l
      { s.lane l with calHeld := (s.lane l).calHeld.filter (fun x => x.1 != n) }
  else s

/-- Mark an entry stale and release it where it is held (R193, R202). -/
def calMark (l n : Nat) (s : State) : State := calRelease l n (setCalStale l n true s)

/-- Has the temperature moved TEMPTHR or more? -/
def calMoved (s : State) (l : Nat) (from' : Int) : Bool :=
  (s.get (Fld.LANE_CALCFG_TEMPTHR l) : Int) ≤ ((s.getS (Fld.LANE_CALTEMP_TEMP l) - from').natAbs : Int)

/-- Is entry n older than MAXAGE minutes (R193)? -/
def calAged (s : State) (l n : Nat) : Bool :=
  let maxage := s.get (Fld.LANE_CALCFG_MAXAGE l)
  s.has (Fld.LANE_CALMETA_ORIGIN l n) && maxage != 0
    && decide (maxage * 1920000000 < (s.stamp + 2 ^ 32 - s.get (Fld.LANE_CALSTAMP_STAMP l n)) % 2 ^ 32 * 2 ^ 26)

/-- Evaluate R193 for entry n, and the release by temperature of R202. -/
def calEvaluate (l n : Nat) (s : State) : State :=
  let s := if calMoved s l (s.getS (Fld.LANE_CALMETA_TEMP l n)) ∨ calAged s l n then setCalStale l n true s else s
  match (s.lane l).calHeld.find? (fun x => x.1 == n) with
  | some x => if calMoved s l x.2 then calRelease l n s else s
  | none => s

/-- Check every entry of a lane: those with a parity error are reloaded, then R193 is evaluated (R192, R194). -/
def calCheck (l : Nat) (s : State) : State :=
  let s := s.forEach (s.lane l).calBad (fun n s => laneCode l 0x0136 (calReload l n s))
  s.forEach (List.range 17) (calEvaluate l)

end Sys2Proof.Machine
end

