-- ==== Sys2Proof/Machine/LaneOps.lean ====
section
/-!
DEFINITION. What a lane does whoever drives it: ports, lock, entry to and exit from RX and TX, power clamping, the
refusals of reference and supply, pairing, background work that yields (R148 to R178).
-/

namespace Sys2Proof.Machine

/-! ### Ports (R148 to R150) -/

/-- Ports by bit position in RF_PORTMAP with their band: AH, BH, AL, BL. -/
def ports : List (Nat × Nat) := [(0, 0), (2, 0), (4, 1), (6, 1)]

/-- Source of the port at bit i of a port map: 0 LANE A, 1 LANE B, 2 open (also 0b11). -/
def portSource (v i : Nat) : Nat := min (v / 2 ^ i % 4) 2

/-- Would a port map connect one chain to two ports (R148)? -/
def portClash (v : Nat) : Bool :=
  (portSource v 0 == portSource v 2 && portSource v 0 != 2) || (portSource v 4 == portSource v 6 && portSource v 4 != 2)

/-- Is the chain of a lane in a band in RX or TX? -/
def chainActive (s : State) (src band : Nat) : Bool :=
  src < 2 && (s.laneSt src == 3 || s.laneSt src == 4) && s.laneBand src == band

/-- The ports a new map changes. -/
def portsChanged (old new : Nat) : List (Nat × Nat) := ports.filter (fun p => portSource old p.1 != portSource new p.1)

/-- Must the change wait (R149)? -/
def portsBlocked (s : State) (new : Nat) : Bool :=
  let old := (s.rd Reg.RF_PORTMAP).toNat
  (portsChanged old new).any (fun p => chainActive s (portSource old p.1) p.2 || chainActive s (portSource new p.1) p.2)

/-- Switch all changed ports together; the lanes whose chains they join or leave have to settle (R149). -/
def portsSwitch (new : Nat) (s : State) : State :=
  let old := (s.rd Reg.RF_PORTMAP).toNat
  let ch := portsChanged old new
  let s := (s.put ⟨Reg.RF_PORTMAP, 0, 8⟩ new).unflag Fld.RF_PORTMAP_PENDING
  let s := { s with rf := { s.rf with portWait := none } }
  s.forEach [0, 1] (fun l s =>
    if ch.any (fun p => portSource old p.1 == l || portSource new p.1 == l) then
      s.setLane l { s.lane l with settling := true, settleTo := s.elapsed + 32 }
    else s)

/-- PORTMAP_WRITE (R148, R149). A write that comes while one waits takes its place. -/
def execPortmapWrite (value : Word) (s : State) : Out :=
  let v := value.toNat % 256
  if portClash v then .next (s.flag Fld.RF_FLAGS_PORTERR)
  else if portsBlocked s v then
    .next ({ s with rf := { s.rf with portWait := some v } }.flag Fld.RF_PORTMAP_PENDING)
  else .next (portsSwitch v s)

/-- A waiting port change goes through once nothing blocks it (R149). -/
def portsRetry (s : State) : State :=
  match s.rf.portWait with
  | some v => if portsBlocked s v then s else portsSwitch v s
  | none => s

/-- PORTMAP_SWITCH (R149). -/
def execPortmapSwitch (s : State) : Out := .next (portsRetry s)

/-- Make every port that a lane drives open (R150). -/
def portsOpen (l : Nat) (s : State) : State :=
  s.forEach ports (fun p s =>
    if portSource (s.rd Reg.RF_PORTMAP).toNat p.1 = l then s.put ⟨Reg.RF_PORTMAP, p.1, 2⟩ 2 else s)

/-- Does a port carry the lane's chain of a band? -/
def chainConnected (s : State) (l band : Nat) : Bool :=
  ports.any (fun p => p.2 == band && portSource (s.rd Reg.RF_PORTMAP).toNat p.1 == l)

/-! ### Reference and supply (R122, R176, R543) -/

/-- The code that refuses a transmission for its reference, or 0 (R122, R176). -/
def txRefCode (s : State) : Nat := if s.clkSrc = 0 then 0x0111 else 0

/-- The code that refuses a reception for its reference, or 0 (R176). -/
def rxRefCode (s : State) : Nat :=
  if (s.clkSrc = 0 ∧ !s.tide.xtalFailed) ∨ s.tide.awaitResid then 0x0110 else 0

/-- Is a supply dip in force (R543)? -/
def State.dip (s : State) : Bool := s.has Fld.SUPMON_STAT_DIP

/-! ### Lock -/

/-- Band of a FREQ value: high from 2 GHz up. -/
def freqBand (freq : Nat) : Nat := if 64 * 2 ^ 20 ≤ freq then 0 else 1

/-- FREQ for a carrier in kHz: kHz x 1000 x 2^20 / 32,000,000, to the nearest step. -/
def freqOfKHz (kHz : Nat) : Nat := (kHz * 2 ^ 20 + 16000) / 32000

/-- The synthesiser locks on LANE_FREQ, from the stored calibration of its range (R188, R195): band, LOCK, event; pans that no
longer fit the span are refused (R251). -/
def laneLock (l : Nat) (s : State) : State :=
  let f := s.get (Fld.LANE_FREQ_FREQ l)
  let s := calUseVco l f s
  let s := ((s.put (Fld.LANE_STAT_BAND l) (freqBand f)).flag (Fld.LANE_STAT_LOCK l)).setLane l { s.lane l with lockedFreq := f }
  panRecheck l (s.fire (EV.LANE_LOCK l))

/-- Lose the lock (STANDBY, SLEEP). -/
def laneUnlock (l : Nat) (s : State) : State := s.unflag (Fld.LANE_STAT_LOCK l)

/-! ### RX -/

/-- Enter RX: the receive path's stored corrections, gain from the settled value, pans hunt, EV_LANEx_RXON. -/
def laneEnterRx (l : Nat) (s : State) : State :=
  let s := calUseRx l (s.setLaneSt l 3)
  let s := s.setLane l { s.lane l with rxFrom := s.elapsed, goal := none }
  (panLaneStart l (gainStart l s)).fire (EV.LANE_RXON l)

/-- Leave RX: frames on the lane's pans end with a code (R254), the time counts (Table LIFE-1), EV_LANEx_RXOFF. -/
def laneLeaveRx (l code dest : Nat) (s : State) : State :=
  if s.laneSt l = 3 then
    let s := panLaneStop l code s
    let s := lifeAir (4 + l) (s.elapsed - (s.lane l).rxFrom) s
    portsRetry ((s.setLaneSt l dest).fire (EV.LANE_RXOFF l))
  else s

/-! ### TX -/

/-- The target power and what limits it (R164, R609): requested level, sub-band, supply in mV. -/
def targetPower (s : State) (l k : Nat) (level : Int) (mV : Nat) : Int :=
  let loud := s.laneSt (otherLane l) == 4 && decide (68 < s.getS (Fld.LANE_PWRSTAT_TARGET (otherLane l)))
  min (clampLevel level) (min (s.getS (Fld.RF_SBPWR_PMAX k)) (headroom mV loud))

/-- Clamp the power of a transmission that starts (R164). -/
def powerClamp (l k : Nat) (level : Int) (mV : Nat) (s : State) : State :=
  let loud := s.laneSt (otherLane l) == 4 && decide (68 < s.getS (Fld.LANE_PWRSTAT_TARGET (otherLane l)))
  let t := targetPower s l k level mV
  let s' := ((s.putS (Fld.LANE_PWRSTAT_TARGET l) t).put (Fld.LANE_PWRSTAT_LIMIT l)
    (boolBit (s.getS (Fld.RF_SBPWR_PMAX k) == t))).put (Fld.LANE_PWRSTAT_HEADROOM l) (boolBit (headroom mV loud == t))
  if t < clampLevel level then (s'.flag (Fld.LANE_FLAGS_PWRCLAMP l)).fire (EV.LANE_PWRCLAMP l) else s'

/-- The first sample leaves the port: the VCO entry in use is applied (R195). -/
def laneStartTx (l : Nat) (s : State) : State :=
  let s := laneLeaveRx l 0x0154 2 s
  let s := calUseVco l (s.get (Fld.LANE_FREQ_FREQ l)) s
  let s := (s.setLaneSt l 4).setLane l { s.lane l with txFrom := s.elapsed, goal := none }
  let s := if chainConnected s l (s.laneBand l) then lifeCount64 12 1 s else s
  s.fire (EV.LANE_TXSTART l)

/-- The last sample leaves the port: the detector's measurement (a free value where the command brings none) and the
air time count. -/
def laneEndTx (l dest : Nat) (delivered : Option Nat) (s : State) : State :=
  if s.laneSt l = 4 then
    let s := match delivered with
      | some v => s.put (Fld.LANE_PWRSTAT_DELIVERED l) v
      | none => (s.put (Fld.LANE_PWRSTAT_DELIVERED l) s.freeNat).freeNext
    let t := s.elapsed - (s.lane l).txFrom
    let s := lifeAir (2 * l + s.laneBand l) t (s.setLane l { s.lane l with txTo := some s.elapsed })
    portsRetry ((s.setLaneSt l dest).fire (EV.LANE_TXEND l))
  else s

/-- Ticks until a port switch of the lane has settled (R149). -/
def settleLeft (s : State) (l : Nat) : Nat := if (s.lane l).settling then (s.lane l).settleTo - s.elapsed else 0

/-! ### Background work on a lane (R23 to R26, R158) -/

/-- A calibration step in progress is aborted at its boundary (R158), or a health test step yields (R23). -/
def laneYield (l : Nat) (s : State) : State :=
  let v := s.lane l
  if s.laneSt l = 5 then
    let s := (((s.flag (Fld.LANE_FLAGS_CALABORT l)).inc (Fld.LANE_CNT_CALABORT l)).fire (EV.LANE_CALABORT l))
    let s := yieldBackground 0 s
    (s.setLaneSt l v.idleState).setLane l
      { v with calYield := true, calAbortAt := s.elapsed }
  else if s.laneSt l = 6 then (yieldBackground 1 s).setLaneSt l v.idleState
  else s

/-! ### Pairing (R177, R178, R276) -/

/-- Is pairing in force (R177, R178)? -/
def pairingHolds (s : State) : Bool :=
  s.has Fld.RF_PAIR_EN && [0, 1].all (fun l =>
    testBit' (s.get (Fld.LANE_STAT_ROLES l)) 7 && !s.retired l && s.owner l == 0)

/-- Bring LANE_STAT.PAIRED, and the pans of LANE B, up to date. -/
def refreshPairing (s : State) : State :=
  let was := s.paired
  let is := pairingHolds s
  if was = is then s
  else
    let s := (s.put (Fld.LANE_STAT_PAIRED 0) (boolBit is)).put (Fld.LANE_STAT_PAIRED 1) (boolBit is)
    if is then s.forEach (panRange 1) (fun p s => (panEndEarly p 0x0156 s).setPanState p 5)
    else s.forEach (panRange 1) (fun p s => s.setPanState p 0)

/-- RF_PAIR_WRITE (R177). -/
def execRfPairWrite (value : Word) (s : State) : Out :=
  .next (refreshPairing ((s.put Fld.RF_PAIR_TXLANE (value.toNat / 2)).put Fld.RF_PAIR_EN value.toNat))

/-- LANE_OWNER_WRITE (R152): only in SLEEP or STANDBY. -/
def execLaneOwnerWrite (lane : Lane) (software : Bool) (s : State) : Out :=
  let l := lane.val
  if s.has (Fld.LANE_CTL_OWNER l) == software then .next s
  else if s.laneSt l ≤ 1 then .next (refreshPairing (s.put (Fld.LANE_CTL_OWNER l) (boolBit software)))
  else .next (s.flag (Fld.LANE_FLAGS_CMDREJ l))

/-! ### Roles (R51, R183, R185) -/

/-- The roles in force from the committed record: own roles, with the other lane's taken over where it is retired. -/
def refreshRoles (s : State) : State :=
  let roles := fun l => if s.retired (otherLane l) ∧ !(s.lane l).takeover ∧ !s.retired l
    then s.laneRoles l ||| s.laneTakeoverRoles l else if s.retired l then 0 else s.laneRoles l
  refreshPairing ((s.put (Fld.LANE_STAT_ROLES 0) (roles 0)).put (Fld.LANE_STAT_ROLES 1) (roles 1))

end Sys2Proof.Machine
end

