-- ==== Sys2Proof/Machine/LinkOps.lean ====
section
/-!
DEFINITION. What the link controller's steps share: the fields of LINK RAM (R313, R315, R321, R331, R343), templates and
partitions, the trace (R352), refusals and ends of activities (R324, R330, R351), the receive queue (R333, R334).
-/

namespace Sys2Proof.Machine

/-! ### LINK RAM -/

/-- A bit field of a record in LINK RAM: its lowest bit and its width. -/
structure RamField where
  lo : Nat
  width : Nat
  deriving DecidableEq, Repr

def ctxAddr (i : Nat) : Nat := 0x28000000 + 128 * i
def fwdAddr (h : Nat) : Nat := 0x28010000 + 16 * h
def tlAddr (n : Nat) : Nat := 0x28018000 + 32 * n
def traceAddr (k : Nat) : Nat := 0x28018800 + 16 * k
def cacheAddr (k : Nat) : Nat := 0x28019000 + 16 * k
def rxqAddr (k : Nat) : Nat := 0x2801D000 + 64 * k
def dackAddr (k : Nat) : Nat := 0x2801D800 + 16 * k
def descAddr (k : Nat) : Nat := 0x2801D900 + 16 * k
def cellAddr (c : Nat) : Nat := 0x2801DC00 + 128 * c
def mailboxAddr (j : Nat) : Nat := 0x2801FC00 + 64 * j

/-- Read a field of the record at a. -/
def State.ram (s : State) (a : Nat) (f : RamField) : Nat := s.bitsAt a f.lo f.width

/-- Write a field of the record at a. -/
def State.setRam (a : Nat) (f : RamField) (v : Nat) (s : State) : State := s.setBitsAt a f.lo f.width v

/-- Count in a saturating field of the record at a. -/
def State.ramCount (a : Nat) (f : RamField) (n : Nat) (s : State) : State :=
  s.setRam a f (min (s.ram a f + n) (2 ^ f.width - 1))

/-! Fields of a link context (Tables SCHED-2 and PHONE-3). -/
namespace CF
def PARTNER : RamField := ⟨0, 16⟩
def KEYH : RamField := ⟨16, 8⟩
def OPEN : RamField := ⟨24, 1⟩
def CONN : RamField := ⟨25, 1⟩
def CENTRAL : RamField := ⟨26, 1⟩
def TSRC : RamField := ⟨27, 1⟩
def RPVALID : RamField := ⟨28, 1⟩
def PROPVALID : RamField := ⟨29, 1⟩
def ANCHORVALID : RamField := ⟨30, 1⟩
def TABVALID : RamField := ⟨31, 1⟩
def TXCTR : RamField := ⟨32, 32⟩
def HWM : RamField := ⟨64, 32⟩
def RPMAP : RamField := ⟨96, 64⟩
def TABLE : RamField := ⟨160, 96⟩
def LOADIDX : RamField := ⟨256, 4⟩
def RATE : RamField := ⟨260, 2⟩
def REP : RamField := ⟨262, 2⟩
def MODE : RamField := ⟨264, 1⟩
def PWR : RamField := ⟨272, 8⟩
def CHAN : RamField := ⟨280, 8⟩
def PROP : RamField := ⟨288, 16⟩
def MISSES : RamField := ⟨304, 4⟩
def EPOCH : RamField := ⟨312, 8⟩
def OFS : RamField := ⟨320, 24⟩
def UNC : RamField := ⟨344, 8⟩
def DRIFT : RamField := ⟨352, 16⟩
def STRATUM : RamField := ⟨368, 4⟩
def ANCHOR : RamField := ⟨384, 40⟩
def LDFAIL : RamField := ⟨424, 4⟩
def EVCTR : RamField := ⟨448, 32⟩
def CHMAP : RamField := ⟨480, 64⟩
def INTERVAL : RamField := ⟨544, 24⟩
def HOP : RamField := ⟨568, 6⟩
def GRID : RamField := ⟨574, 2⟩
def SUPTO : RamField := ⟨576, 16⟩
def CHSEED : RamField := ⟨592, 8⟩
def SUPDL : RamField := ⟨608, 40⟩
def CEANCHOR : RamField := ⟨672, 40⟩
def TXFRAMES : RamField := ⟨736, 32⟩
def TXACKED : RamField := ⟨768, 32⟩
def RXFRAMES : RamField := ⟨800, 32⟩
def RXDUP : RamField := ⟨832, 16⟩
def RXMICFAIL : RamField := ⟨848, 16⟩
def RETRIES : RamField := ⟨864, 32⟩
def LASTRX : RamField := ⟨896, 32⟩
def LASTRSSI : RamField := ⟨928, 8⟩
def LASTSNR : RamField := ⟨936, 8⟩
def MISSTOT : RamField := ⟨944, 16⟩
def LATE : RamField := ⟨960, 16⟩
def REFUSED : RamField := ⟨976, 16⟩
/-! Class 2 contexts. -/
def ENCTX : RamField := ⟨27, 1⟩
def ENCRX : RamField := ⟨28, 1⟩
def AA : RamField := ⟨32, 32⟩
def CRCINIT : RamField := ⟨64, 24⟩
def TXPHY : RamField := ⟨88, 2⟩
def RXPHY : RamField := ⟨90, 2⟩
def SN : RamField := ⟨92, 1⟩
def NESN : RamField := ⟨93, 1⟩
def IV : RamField := ⟨96, 64⟩
def TXPKT : RamField := ⟨160, 39⟩
def MAXTXOCT : RamField := ⟨200, 8⟩
def MAXRXOCT : RamField := ⟨208, 8⟩
def RXPKT : RamField := ⟨224, 39⟩
def LEEVCTR : RamField := ⟨448, 16⟩
def LATENCY : RamField := ⟨464, 9⟩
def LECHMAP : RamField := ⟨480, 37⟩
def LEINTERVAL : RamField := ⟨544, 12⟩
def PSCA : RamField := ⟨560, 3⟩
def CHID : RamField := ⟨592, 16⟩
end CF

/-! Fields of a timeline entry (Table SCHED-4). -/
namespace TF
def TLAUNCH : RamField := ⟨0, 64⟩
def TMPL : RamField := ⟨64, 5⟩
def LANE : RamField := ⟨69, 2⟩
def CTX : RamField := ⟨80, 9⟩
def VALID : RamField := ⟨95, 1⟩
def PERIOD : RamField := ⟨96, 32⟩
def COUNT : RamField := ⟨128, 16⟩
def CHAN : RamField := ⟨144, 8⟩
def TXDESC : RamField := ⟨160, 6⟩
def RESULT : RamField := ⟨192, 16⟩
def LATE : RamField := ⟨208, 1⟩
def RUNS : RamField := ⟨216, 8⟩
def LASTT : RamField := ⟨224, 32⟩
end TF

/-! Fields of a transmit descriptor (R331, R366). -/
namespace DF
def DST : RamField := ⟨0, 16⟩
def TYPE : RamField := ⟨16, 8⟩
def FWD : RamField := ⟨24, 1⟩
def DONE : RamField := ⟨30, 1⟩
def BUSY : RamField := ⟨31, 1⟩
def FIRSTCELL : RamField := ⟨32, 6⟩
def PLEN : RamField := ⟨48, 11⟩
def ODST : RamField := ⟨64, 16⟩
def HOPS : RamField := ⟨80, 4⟩
def RESULT : RamField := ⟨96, 16⟩
def TRIES : RamField := ⟨112, 4⟩
def LLID : RamField := ⟨16, 2⟩
def RXENC : RamField := ⟨25, 1⟩
def TXENC : RamField := ⟨26, 1⟩
def RXPLAIN : RamField := ⟨27, 1⟩
def TXPLAIN : RamField := ⟨28, 1⟩
end DF

/-! Fields of a forwarding entry (R343). -/
namespace FF
def ODST : RamField := ⟨0, 16⟩
def NEXTHOP : RamField := ⟨16, 16⟩
def CTX : RamField := ⟨32, 9⟩
def TMPL : RamField := ⟨48, 5⟩
def VALID : RamField := ⟨56, 1⟩
def DROP : RamField := ⟨57, 1⟩
def HITS : RamField := ⟨64, 32⟩
def LASTUSE : RamField := ⟨96, 32⟩
end FF

def State.ctx (s : State) (i : Nat) (f : RamField) : Nat := s.ram (ctxAddr i) f
def State.setCtx (i : Nat) (f : RamField) (v : Nat) (s : State) : State := s.setRam (ctxAddr i) f v
def State.ctxBit (s : State) (i : Nat) (f : RamField) : Bool := s.ctx i f == 1

/-- Count in a statistics field of a context; none for no context. -/
def State.ctxCount (i : Nat) (f : RamField) (s : State) : State := if i < 512 then s.ramCount (ctxAddr i) f 1 else s

def State.tl (s : State) (n : Nat) (f : RamField) : Nat := s.ram (tlAddr n) f
def State.setTl (n : Nat) (f : RamField) (v : Nat) (s : State) : State := s.setRam (tlAddr n) f v

def State.desc (s : State) (k : Nat) (f : RamField) : Nat := s.ram (descAddr k) f
def State.setDesc (k : Nat) (f : RamField) (v : Nat) (s : State) : State := s.setRam (descAddr k) f v

/-- Set VALID of an entry with its mirrors. -/
def setTlValid (n : Nat) (b : Bool) (s : State) : State :=
  let was := s.tl n TF.VALID == 1
  let s := (s.setTl n TF.VALID (boolBit b)).putBit (Reg.LINK_TLARMED (n / 32)) (n % 32) b
  if was == b then s
  else s.put Fld.LINK_SCHSTAT_ARMED (if b then s.get Fld.LINK_SCHSTAT_ARMED + 1 else s.get Fld.LINK_SCHSTAT_ARMED - 1)

/-- Set TLAUNCH of an entry with its mirror. -/
def setTlLaunch (n t : Nat) (s : State) : State :=
  (s.setTl n TF.TLAUNCH t).put ⟨Reg.LINK_TL_TIME n, 0, 32⟩ t

/-- Template number t, where the committed record defines it (R319). -/
def State.tmpl (s : State) (t : Nat) : Option (List Byte) := (s.entries 0x06)[t]?

/-- The partition run of a context (R54). -/
def ctxRun (s : State) (i : Nat) : Option (List Byte) :=
  (s.entries 0x07).find? (fun e => eh e 0 ≤ i && i < eh e 0 + eh e 2)

/-- Owner class of a context; 4 where no run covers it. -/
def ctxClass (s : State) (i : Nat) : Nat :=
  match ctxRun s i with
  | some e => eb e 4
  | none => 4

/-- Does a handle lie in the run's range (R54)? -/
def ctxKeyOk (s : State) (i key : Nat) : Bool :=
  match ctxRun s i with
  | some e => eb e 5 ≤ key && key ≤ eb e 6
  | none => false

/-- Contexts, where a context is open. -/
def ctxOpen (s : State) (i : Nat) : Bool := i < 512 && s.ctxBit i CF.OPEN

/-- The open context of an OML source (R316). -/
def findCtx (s : State) (src : Nat) : Option Nat :=
  (List.range 512).find? (fun i => ctxOpen s i && s.ctx i CF.PARTNER == src && (ctxClass s i < 2 || ctxClass s i == 3))

/-! ### The trace (R352) -/

/-- Write one trace entry, where its KIND is traced. -/
def traceWrite (kind lane code ctx idx fcnt : Nat) (s : State) : State :=
  if s.has Fld.LINK_TRACECFG_EN && testBit' (s.get Fld.LINK_TRACECFG_MASK) kind then
    let k := s.get Fld.LINK_TRACEPTR_NEXT
    let s := s.setNum (traceAddr k) 16 (s.now % 2 ^ 48 + kind * 2 ^ 48 + lane * 2 ^ 56 + code * 2 ^ 64
      + (if ctx < 512 then ctx else 0x1FF) * 2 ^ 80 + (if idx < 64 then idx else 0x7F) * 2 ^ 96 + fcnt % 2 ^ 24 * 2 ^ 104)
    let s := s.put Fld.LINK_TRACEPTR_NEXT ((k + 1) % 128)
    if k = 127 then s.inc Fld.LINK_TRACEPTR_WRAPS else s
  else s

/-! ### Path delays (R95, R272, R374) -/

/-- Path delay of a lane, band and direction (0 receive, 1 transmit) in 1/64 tick (R95). -/
def pathDly (s : State) (l mode dir : Nat) : Int := s.get (Fld.TIDE_PATHDLY_DLY (4 * l + 2 * bandOf mode + dir))

/-- Path delay of Channel Sounding antenna path a in a direction (R374): paths 0 and 1 are LANE A's, 2 and 3 LANE B's. -/
def csPathDly (s : State) (a dir : Nat) : Int := pathDly s (a / 2) 2 dir + s.get (Fld.LINK_CSPATHDLY_DLY a)

/-- The DAC's start, in 1/16 tick, for a launch time in 1/16 tick and a path delay in 1/64 tick (R95, R356). -/
def dacStart (start dly : Int) : Int := start - roundDiv dly 4

/-! ### Activities -/

def State.acts (s : State) : List Activity := s.link.acts

def State.act (s : State) (id : Nat) : Option Activity := s.acts.find? (fun a => a.id == id)

/-- The domain of lane l powers up: its gain and its AFC start afresh (R256), and its entries are checked (R194). -/
def laneDomainUp (l : Nat) (s : State) : State :=
  calCheck l ((s.resetRegs (fun a => a == Reg.MODEM_LANEGAIN l || a == Reg.MODEM_AFCFRAC l)).setAgc l {})

/-- Lanes whose domain is On now and was not before. -/
def lanesUp (before : State) (s : State) : State :=
  s.forEach [0, 1] (fun l s => if !before.domOn (9 + l) && s.domOn (9 + l) then laneDomainUp l s else s)

/-- Put an activity among those held, in place of one with its id; its lane comes On for it (R525). -/
def State.setAct (a : Activity) (s : State) : State :=
  lanesUp s { s with link := { s.link with acts := s.acts.filter (fun b => b.id != a.id) ++ [a] } }

def State.dropAct (id : Nat) (s : State) : State :=
  { s with link := { s.link with acts := s.acts.filter (fun b => b.id != id) } }

/-- Does an activity receive on its lane at present? -/
def Activity.receives (a : Activity) : Bool := (a.phase == .running && !a.sending) || a.phase == .ackWait

/-- Is an activity held by its lane beyond a launch? -/
def Activity.isRunning (a : Activity) : Bool := a.phase == .running || a.phase == .ackWait

/-- FREQ of a carrier for native and LE work. -/
def chanFreq (mode chan : Nat) : Nat := freqOfKHz (chanKHz mode chan)

/-- Give LANE_FREQ a value with the synthesiser staying locked (R157). -/
def laneShift (l f : Nat) (s : State) : State :=
  if s.has (Fld.LANE_STAT_LOCK l) ∧ freqBand f = s.laneBand l then
    (s.put (Fld.LANE_FREQ_FREQ l) f).setLane l { s.lane l with lockedFreq := f }
  else laneLock l (s.put (Fld.LANE_FREQ_FREQ l) f)

/-- Is the lane locked on a carrier? -/
def lockedOn (s : State) (l f : Nat) : Bool := s.has (Fld.LANE_STAT_LOCK l) && (s.lane l).lockedFreq == f

/-- Tune a lane that drives no activity to a carrier (R152, R158): no relock where it is locked there, else one of 22 us. -/
def laneTune (l f : Nat) (s : State) : State :=
  let s := laneYield l s
  let s := if lockedOn s l f then s
    else
      let s := laneLock l (s.put (Fld.LANE_FREQ_FREQ l) f)
      s.setLane l { s.lane l with lockTo := s.elapsed + 704 }
  s.setLaneSt l 2

/-- Into RX for the receptions the lane holds: its span centre comes back first. -/
def nativeRx (l : Nat) (s : State) : State :=
  let f := (s.lane l).rxFreq
  let s := if s.get (Fld.LANE_FREQ_FREQ l) = f then s else laneShift l f s
  laneEnterRx l s

/-- The lanes that receive for work on lane l: while paired both, on one carrier (R177). -/
def rxLanes (s : State) (l : Nat) : List Nat := if s.paired then [0, 1] else [l]

/-- The lane whose pans receive for work on lane l (R276). -/
def rxLane (s : State) (l : Nat) : Nat := if s.paired then 0 else l

/-- The carrier on which receptions of lane l are centred. -/
def setRxFreq (l f : Nat) (s : State) : State :=
  s.forEach (rxLanes s l) (fun k s => s.setLane k { s.lane k with rxFreq := f })

/-- One lane into RX on the carrier of its receptions; a lane in RX elsewhere is retuned (R254). -/
def rxOnOne (l : Nat) (s : State) : State :=
  if s.laneSt l = 4 then s
  else
    let f := (s.lane l).rxFreq
    let s := if s.get (Fld.LANE_FREQ_FREQ l) = f then s else laneShift l f (laneLeaveRx l 0x0154 2 s)
    if s.laneSt l = 3 then s else laneEnterRx l s

/-- The lanes that receive for work on lane l go into RX on its carrier (R157, R177). -/
def rxOn (l : Nat) (s : State) : State := s.forEach (rxLanes s l) rxOnOne

/-- Does a reception that some activity holds run on lane l? While paired both lanes serve it (R177). -/
def laneReceives (s : State) (l : Nat) : Bool := s.acts.any (fun a => a.receives && (a.lane == l || s.paired))

/-- After an activity has left the lane: receptions it still holds keep it in RX or bring it back there; without any it
goes to STANDBY, with the synthesiser left locked where it was (the worked example of R199; R328, R157). -/
def laneAfterOne (l : Nat) (s : State) : State :=
  if s.owner l = 1 ∨ s.retired l ∨ s.laneSt l = 4 then s
  else if laneReceives s l then
    (if s.laneSt l = 3 then s else nativeRx l s)
  else if s.laneSt l = 3 then laneLeaveRx l 0x0154 1 s
  else if s.laneSt l = 2 ∧ !s.acts.any (fun a => a.lane == l && a.isRunning) then s.setLaneSt l 1
  else s

/-- As laneAfterOne, for both lanes while paired. -/
def laneAfter (l : Nat) (s : State) : State := s.forEach (rxLanes s l) laneAfterOne

/-- The frames on an activity's pans end with a code, where what ends them is not the pans' own reconfiguration (R254). -/
def pansCut (code : Nat) (a : Activity) (s : State) : State :=
  s.forEach (a.pans.filter s.panBusy) (fun p s => gainFreeze (p / 8) (((panEndEarly p code s).setPan p (panBlank s p)).setPanState p 0))

/-- Stop the pans of an activity (R328, R255) and free them. -/
def pansFree (a : Activity) (s : State) : State :=
  s.forEach a.pans (fun p s => (panStop p s).unflag (Fld.MODEM_PANCFG_EN p))

/-- After each run (R324): RESULT, LATE, RUNS, the periodic advance or the end of the entry, EV_LINK_TLDONE. `past`: the
entry was found past, and goes on by whole periods to the first value above TIDE_NOW (R325). -/
def finishRun (n code : Nat) (late past : Bool) (s : State) : State :=
  let s := ((s.setTl n TF.RESULT code).setTl n TF.LATE (boolBit late)).ramCount (tlAddr n) TF.RUNS 1
  let per := s.tl n TF.PERIOD
  let s :=
    if per = 0 then setTlValid n false s
    else
      let t := s.tl n TF.TLAUNCH + per
      let t := if past ∧ t ≤ s.now then t + ((s.now - t) / per + 1) * per else t
      let s := setTlLaunch n t s
      let c := s.tl n TF.COUNT
      if c = 0 then s
      else
        let s := s.setTl n TF.COUNT (c - 1)
        if c = 1 then setTlValid n false s else s
  s.fire EV.LINK_TLDONE

/-- The final word of a transmit descriptor (R331, R332). -/
def finishDesc (k code tries : Nat) (s : State) : State :=
  if k = 0x3F then s
  else (((s.setDesc k DF.DONE 1).setDesc k DF.BUSY 0).setDesc k DF.RESULT code).setDesc k DF.TRIES tries

/-- The code of the last ended activity (LINK_LASTRES). -/
def lastResult (id code : Nat) (late : Bool) (s : State) : State :=
  ((s.put Fld.LINK_LASTRES_LATE (boolBit late)).put Fld.LINK_LASTRES_INDEX (if id < 64 then id else 0x7F)).put
    Fld.LINK_LASTRES_CODE code

/-- Count a refusal of Table SCHED-8: its flag, LINK_SCHCNT, the context, the event, the trace. -/
def refusalCounts (code lane ctx id fcnt : Nat) (s : State) : State :=
  let s := if code = 0x0220 then s.flag Fld.LINK_SCHFLAGS_CONFLICT else s
  let s := if code = 0x0252 then s.flag Fld.LINK_SCHFLAGS_FWDFULL else s
  let s := (s.inc Fld.LINK_SCHCNT_REFUSE).ctxCount ctx CF.REFUSED
  traceWrite 2 lane code ctx id fcnt (s.fire EV.LINK_REFUSE)

/-! ### The receive queue (R314, R333, R334) -/

/-- Bring the views of the receive queue up to date; a written RXCELLS comes into force while the queue is empty. -/
def refreshRxq (s : State) : State :=
  let empty := s.link.rxRuns.isEmpty && s.link.fwds.isEmpty
  let n := s.get Fld.LINK_POOLCFG_RXCELLS
  let s := if empty ∧ s.link.rxCells ≠ n then { s with link := { s.link with rxCells := n, cellNext := 0 } } else s
  let used := (s.link.rxRuns.map (fun r => r.count)).sum + (s.link.fwds.map (fun f => f.run.count)).sum
  (((s.put Fld.LINK_SCHSTAT_CELLS (s.link.rxCells - used)).put Fld.LINK_SCHSTAT_RXQ
    (s.link.rxRuns.length + s.link.fwds.length)).put Fld.LINK_RXQ_COUNT s.link.rxRuns.length).put Fld.LINK_FWDCNT_INQ
    s.link.fwds.length

/-- Cells of a payload of n octets. -/
def cellsFor (n : Nat) : Nat := max 1 ((n + 127) / 128)

/-- Does a run hold a cell? -/
def CellRun.holds (r : CellRun) (size c : Nat) : Bool := (c + size - r.first) % size < r.count

/-- Do n cells from the next one on fit, consecutive modulo the region? -/
def cellsFit (s : State) (n : Nat) : Bool :=
  let size := s.link.rxCells
  let runs := s.link.rxRuns ++ s.link.fwds.map (fun f => f.run)
  n ≤ size && (List.range n).all (fun i => !runs.any (fun r => r.holds size ((s.link.cellNext + i) % size)))

/-- Is there room for a payload of n octets (R334)? -/
def rxqRoom (s : State) (n : Nat) : Bool :=
  s.link.rxRuns.length + s.link.fwds.length < 32 && cellsFit s (cellsFor n)

/-- Take cells for a payload and write it there. -/
def takeCells (payload : List Byte) (s : State) : CellRun × State :=
  let size := s.link.rxCells
  let n := cellsFor payload.length
  let first := s.link.cellNext
  let s := { s with link := { s.link with cellNext := (first + n) % size } }
  (⟨first, n⟩, s.forEach (chunks 128 payload).zipIdx (fun x s => s.setBytes (cellAddr ((first + x.2) % size)) x.1))

/-- Release a run of cells; the newest payload's release rewinds the ring. -/
def releaseRun (r : CellRun) (s : State) : State :=
  if (r.first + r.count) % s.link.rxCells = s.link.cellNext then { s with link := { s.link with cellNext := r.first } }
  else s

/-- Append a receive queue entry (R333). -/
def rxqAppend (words : List Word) (ctx plen src odst osrc kid disp code : Nat) (run : CellRun) (s : State) : State :=
  let slot := (s.get Fld.LINK_RXQ_HEAD + s.link.rxRuns.length) % 32
  let s := s.setBytes (rxqAddr slot) (words.flatMap (fun w => bytesLE 4 w.toNat))
  let s := s.setNum (rxqAddr slot + 32) 32 (ctx + 2 ^ 16 * run.first + 2 ^ 32 * plen + 2 ^ 48 * src + 2 ^ 64 * odst
    + 2 ^ 80 * osrc + 2 ^ 96 * kid + 2 ^ 104 * disp + 2 ^ 112 * code)
  refreshRxq { s with link := { s.link with rxRuns := s.link.rxRuns ++ [run] } }

/-- Refuse a frame for want of queue or cells (R334). -/
def rxqRefuse (lane ctx fcnt : Nat) (s : State) : State :=
  let s := ((s.inc Fld.LINK_SCHCNT_REFUSE).flag Fld.LINK_SCHFLAGS_RXQFULL).fire EV.LINK_RXQFULL
  traceWrite 2 lane 0x0210 ctx 0x7F fcnt s

/-- Release the oldest entry (R334). -/
def rxqPop (s : State) : State :=
  match s.link.rxRuns with
  | [] => s
  | r :: rest =>
    let s := { s with link := { s.link with rxRuns := rest } }
    let s := s.put Fld.LINK_RXQ_HEAD ((s.get Fld.LINK_RXQ_HEAD + 1) % 32)
    refreshRxq (releaseRun r s)

/-- RXQ_POP (R334). -/
def execRxqPop (value : Word) (s : State) : Out := .next (if value.toNat % 2 = 1 then rxqPop s else s)

/-! ### Duty refusals (R348, R349) -/

/-- Count a refusal with 0x0301 in sub-band k. -/
def dutyRefused (k : Nat) (s : State) : State :=
  ((s.inc (Fld.LINK_DUTYREF_REFUSED k)).flag Fld.LINK_SCHFLAGS_DUTYREF).fire EV.LINK_DUTYREF

/-- Set LANE_FLAGS.DWELL under R171 with its event. -/
def dwellFlag (l : Nat) (s : State) : State := (s.flag (Fld.LANE_FLAGS_DWELL l)).fire (EV.LANE_DWELL l)

/-! ### Ends -/

/-- A forwarded frame ends (R346): released on success, else delivered with DISP 2. -/
def forwardEnd (q code : Nat) (s : State) : State :=
  match s.link.fwds.find? (fun f => f.q == q) with
  | none => s
  | some f =>
    let s := { s with link := { s.link with fwds := s.link.fwds.filter (fun g => g.q != q) } }
    if code = 0 then refreshRxq (releaseRun f.run ((s.inc Fld.LINK_FWDCNT_FWD).fire EV.LINK_FWD))
    else
      let s := rxqAppend f.words f.rxctx f.payload.length f.src f.odst f.osrc f.kid 2 code f.run s
      (s.inc Fld.LINK_FWDCNT_FAIL).fire EV.LINK_FWDFAIL

/-- Is kind an LE kind? -/
def ActKind.isLe (k : ActKind) : Bool := k == .leAdv || k == .leConn || k == .leScan || k == .cs

/-- The number nearest to now with the given low w bits; of two equally near, the lower (R96). Where that would lie below 0
the candidate above it is taken: DESIGN CHOICE (notes/assumptions/51.md). -/
def nearBits (w now x : Nat) : Nat :=
  let c := now / 2 ^ w * 2 ^ w + x % 2 ^ w
  if now < c ∧ 2 ^ (w - 1) ≤ c - now then (if 2 ^ w ≤ c then c - 2 ^ w else c)
  else if c < now ∧ 2 ^ (w - 1) < now - c then c + 2 ^ w else c

/-- The full tide time nearest to now with the given low 40 bits (R96). -/
def near40 (now t40 : Nat) : Nat := nearBits 40 now t40

/-- After every connection event the counter and the anchor advance (R339, R366). -/
def connAdvance (a : Activity) (s : State) : State :=
  if a.kind = .conn ∧ a.ctx < 512 then
    let s := s.setCtx a.ctx CF.EVCTR (s.ctx a.ctx CF.EVCTR + 1)
    s.setCtx a.ctx CF.CEANCHOR (s.ctx a.ctx CF.CEANCHOR + 1024 * s.ctx a.ctx CF.INTERVAL)
  else if a.kind = .leConn ∧ a.ctx < 512 then
    let s := s.setCtx a.ctx CF.LEEVCTR (s.ctx a.ctx CF.LEEVCTR + 1)
    s.setCtx a.ctx CF.CEANCHOR (s.ctx a.ctx CF.CEANCHOR + 40000 * s.ctx a.ctx CF.LEINTERVAL)
  else s

/-- The run of an LE connection entry ends: its TLAUNCH follows CEANCHOR, PERIOD is ignored (R365). -/
def finishLeRun (n code ctx : Nat) (late : Bool) (s : State) : State :=
  let s := ((s.setTl n TF.RESULT code).setTl n TF.LATE (boolBit late)).ramCount (tlAddr n) TF.RUNS 1
  let s := if ctxOpen s ctx && s.ctxBit ctx CF.CONN then setTlLaunch n (near40 s.now (s.ctx ctx CF.CEANCHOR)) s
    else setTlValid n false s
  s.fire EV.LINK_TLDONE

/-- The full timestamp of a record in 1/64 tick (R272). -/
def RxRecord.fullTs (r : RxRecord) (s : State) : Int := nearBits 64 (64 * s.now) r.ts

/-- The reason codes that a lane issues (Table LANE-9). -/
def laneIssues (code : Nat) : Bool :=
  [0x0101, 0x0102, 0x0103, 0x0104, 0x0106, 0x0110, 0x0111, 0x0113, 0x0120, 0x0302, 0x0303, 0x0304, 0x0305].contains code

/-! ### The deferred-ack table (R337, R313) -/

/-- Entry k as its 16 octets in LINK RAM hold it: context, SRC, KID, base and map. The order of the fields is a DESIGN CHOICE
(notes/assumptions/84.md). -/
def dackEntry (s : State) (k : Nat) (d : DackEntry) : DackEntry :=
  let x := s.num (dackAddr k) 16
  { d with ctx := x % 2 ^ 16, src := x / 2 ^ 16 % 2 ^ 16, kid := x / 2 ^ 32 % 2 ^ 8, base := x / 2 ^ 64 % 2 ^ 32,
           map := x / 2 ^ 96 }

/-- The 16 octets of an entry. -/
def DackEntry.octets (d : DackEntry) : List Byte :=
  bytesLE 2 d.ctx ++ bytesLE 2 d.src ++ bytesLE 4 (d.kid % 2 ^ 8) ++ bytesLE 4 d.base ++ bytesLE 4 d.map

/-- The entries in use, from slot 0 of the table on. -/
def State.dacks (s : State) : List DackEntry := s.link.dacks.zipIdx.map (fun x => dackEntry s x.2 x.1)

/-- Give the table these entries; the slots after them are zero. -/
def setDacks (ds : List DackEntry) (s : State) : State :=
  let s := { s with link := { s.link with dacks := ds } }
  s.setBytes (dackAddr 0) ((ds.take 16).flatMap DackEntry.octets ++ List.replicate (256 - 16 * ds.length) 0#8)

/-- The block-ack of an entry ended before it left: the entry stays, as R337 clears it only when it leaves. -/
def dackUnsent (id : Nat) (s : State) : State :=
  { s with link := { s.link with dacks := s.link.dacks.map (fun d => if d.act = some id then { d with act := none } else d) } }

/-- An activity ends with a code: its pans, its lane, its entry or queue place, its descriptor, LINK_LASTRES. -/
def finishAct (a : Activity) (code : Nat) (s : State) : State :=
  let s := pansFree a (s.dropAct a.id)
  let s := if laneIssues code ∧ a.lane < 2 then laneCode a.lane code s else s
  let s := if a.late then s.ctxCount a.ctx CF.LATE else s
  let s := lastResult a.id code a.late s
  let s := connAdvance a s
  let s := match a.frame with
    | some f => if a.id < 64 then finishDesc f.desc code f.tries s else s
    | none => s
  let s := if a.id < 64 then
      (if a.kind = .leConn then finishLeRun a.id code a.ctx a.late s else finishRun a.id code a.late a.past s)
    else if a.kind = .forward then forwardEnd (a.id - 64) code s
    else if a.kind = .blockAck then dackUnsent a.id s
    else s
  laneAfter a.lane s

/-- FCNT of an activity's frame, for the trace. -/
def Activity.fcnt (a : Activity) : Nat := match a.frame with | some f => f.fcnt.getD 0 | none => 0

/-- End an activity (R351), traced as KIND 1. -/
def endAct (a : Activity) (code : Nat) (s : State) : State :=
  finishAct a code (traceWrite 1 a.lane code a.ctx a.id a.fcnt s)

/-- Refuse an activity (R351), traced as KIND 2. A refused kind 0x4 or 0x6 event is a missed one. -/
def refuseAct (a : Activity) (code : Nat) (s : State) : State :=
  let s := match code, a.sub with
    | 0x0301, some k => dutyRefused k s
    | _, _ => s
  let s := if code = 0x0303 then dwellFlag a.lane s else s
  finishAct a code (refusalCounts code a.lane a.ctx a.id a.fcnt s)

/-- Stop a transmission of an activity early: the unsent remainder goes back to the bucket (R348), the descriptor and
the entry end with the code. -/
def cutTx (a : Activity) (code : Nat) (s : State) : State :=
  let sent := s.elapsed - (s.lane a.lane).txFrom
  let s := match a.sub, a.frame with
    | some k, some f => dutyRefund k (f.airtime - sent) s
    | _, _ => s
  let s := laneEndTx a.lane 1 none s
  endAct a code s

/-- End every activity of a lane with a code, as at a retirement, a reference loss or a PA fault; presented ones too. -/
def endLaneActs (l code : Nat) (s : State) : State :=
  s.forEach (s.acts.filter (fun a => a.lane == l)) (fun a s =>
    if a.sending then cutTx a code s
    else if a.receives then endAct a code s
    else refuseAct a code s)

/-- Preempt a running reception: frames on its pans end with 0x0154 (R254, R330). -/
def preempt (a : Activity) (s : State) : State := endAct a 0x0221 (pansCut 0x0154 a (s.inc Fld.LINK_SCHCNT_PREEMPT))

end Sys2Proof.Machine
end

