-- ==== Sys2Proof/Machine/LinkFrames.lean ====
section
/-!
DEFINITION. OML frames: layout and format checks (R284 to R292), protection and nonces (R293, R294), keys and counters of
a sender (R295, R296, R310), the build of a frame to send (R288, R309, R320, R331, R337).
-/

namespace Sys2Proof.Machine

/-- Octets of a MICSZ code. -/
def micOctets (z : Nat) : Nat := match z % 4 with | 0 => 0 | 1 => 4 | 2 => 8 | _ => 16

/-- Octets of the type fields of a TYPE (Table OML-3). -/
def typeFieldOctets (type : Nat) : Nat := match type with | 2 => 9 | 3 => 6 | 5 => 4 | _ => 0

/-- A received frame taken apart (Table OML-2). -/
structure OmlFrame where
  type : Nat
  ackreq : Bool
  fc : Nat
  netid : Nat
  t40 : Nat
  dst : Nat
  src : Nat
  fields : List Byte
  fcnt : Nat
  kid : Nat
  mesh : List Byte
  dack : List Byte
  prof : List Byte
  /-- Octets before the payload, the payload and MIC as received, and the octets the present fields need. -/
  aad : List Byte
  body : List Byte
  mic : List Byte
  need : Nat
  deriving DecidableEq, Repr

/-- n octets of a list from place i on, as a list. -/
def cut (l : List Byte) (i n : Nat) : List Byte := (l.drop i).take n

def OmlFrame.bit (f : OmlFrame) (k : Nat) : Bool := testBit' f.fc k
def OmlFrame.sec (f : OmlFrame) : Bool := f.bit 2
def OmlFrame.micsz (f : OmlFrame) : Nat := f.fc / 8 % 4
def OmlFrame.dstmode (f : OmlFrame) : Nat := f.fc / 32 % 4
def OmlFrame.longSrc (f : OmlFrame) : Bool := f.bit 7
def OmlFrame.fbreq (f : OmlFrame) : Bool := f.bit 11

/-- Take a PSDU apart; octets that are missing read 0 (R289 drops such a frame). -/
def omlParse (type : Nat) (ackreq : Bool) (p : List Byte) : OmlFrame :=
  let fc := eh p 0
  let b := fun k => testBit' fc k
  let dl := match fc / 32 % 4 with | 0 => 0 | 1 => 2 | _ => 8
  let sl := if b 7 then 8 else 2
  let src := 9 + dl
  let tf := src + sl
  let fcn := tf + typeFieldOctets type
  let ms := fcn + (if b 2 then 5 else 0)
  let dk := ms + (if b 8 then 6 else 0)
  let pr := dk + (if b 10 then 7 else 0)
  let pl := pr + (if b 9 then 32 else 0)
  let mic := micOctets (fc / 8)
  { type := type, ackreq := ackreq, fc := fc, netid := eh p 2, t40 := natOfLE (cut p 4 5),
    dst := natOfLE (cut p 9 dl), src := natOfLE (cut p src sl), fields := cut p tf (typeFieldOctets type),
    fcnt := if b 2 then natOfLE (cut p fcn 4) else 0, kid := if b 2 then eb p (fcn + 4) else 0,
    mesh := if b 8 then cut p ms 6 else [], dack := if b 10 then cut p dk 7 else [],
    prof := if b 9 then cut p pr 32 else [],
    aad := p.take pl, body := cut p pl (p.length - pl - mic), mic := cut p (p.length - mic) mic, need := pl + mic }

/-- The format checks of R289 and R290, in order: 0, or the code of the first that fails. -/
def omlFormat (f : OmlFrame) (length : Nat) : Nat :=
  let sec := f.sec
  if f.fc % 4 ≠ 0 ∨ 4096 ≤ f.fc ∨ f.dstmode = 3 ∨ sec = (f.micsz == 0) ∨ (f.ackreq ∧ f.dstmode = 0)
    ∨ (f.type = 2 ∧ (!sec ∨ f.dstmode ≠ 1)) ∨ (f.type = 3 ∧ (f.dstmode ≠ 0 ∨ f.ackreq ∨ f.bit 8))
    ∨ (f.type = 4 ∧ !f.bit 9) ∨ (f.type = 5 ∧ f.bit 8) then 0x0201
  else if sec ∧ (f.longSrc ∨ f.dstmode = 2) then 0x0208
  else if length < f.need then 0x020E
  else if (f.ackreq ∧ f.dstmode = 1 ∧ f.dst = 0xFFFF) ∨ (f.type = 2 ∧ eb f.fields 5 % 2 = 0) then 0x0201
  else 0

/-- The nonce of a frame or an ack (R294). -/
def omlNonce (ack : Bool) (src fcnt t40 kid : Nat) : List Byte :=
  (if ack then 1#8 else 0#8) :: (bytesLE 2 src ++ bytesLE 4 fcnt ++ bytesLE 5 t40 ++ bytesLE 1 kid)

/-! ### Keys and counters -/

/-- The handle of the key that KID selects for context c (R295, R54): a code other than 0, or the handle. -/
def keyFor (s : State) (c kid closed range : Nat) : Nat × Nat :=
  if kid = 0 then
    if !ctxOpen s c then (closed, 0)
    else if !ctxKeyOk s c (s.ctx c CF.KEYH) then (range, 0)
    else (0, s.ctx c CF.KEYH)
  else if kid ≤ 15 ∧ s.has (Fld.LINK_NETKEY_EN kid) then (0, s.get (Fld.LINK_NETKEY_HANDLE kid))
  else (0x0205, 0)

/-- The next FCNT under a key (R296). -/
def txCounter (s : State) (c kid : Nat) : Nat := if kid = 0 then s.ctx c CF.TXCTR else s.get (Fld.LINK_NETCTR_NEXT kid)

/-- Is the key exhausted (R310)? -/
def txExhausted (s : State) (c kid : Nat) : Bool :=
  if kid = 0 then s.link.ctxExh.contains c else s.has (Fld.LINK_NETKEY_EXH kid)

/-- Take the counter value: it increments, warns at 0xFF000000, and after 0xFFFFFFFF the key is exhausted (R296, R310). -/
def txTake (c kid : Nat) (s : State) : State :=
  let v := txCounter s c kid
  let next := if v = 0xFFFFFFFF then v else v + 1
  let s := if kid = 0 then s.setCtx c CF.TXCTR next else s.put (Fld.LINK_NETCTR_NEXT kid) next
  let s := if next = 0xFF000000 then
      (if kid = 0 then (s.flag Fld.LINK_CTRFLAGS_CTXWARN).put Fld.LINK_CTRLAST_CTX c
        else s.putBit Reg.LINK_CTRFLAGS kid true).fire EV.LINK_CTRWARN
    else s
  if v = 0xFFFFFFFF then
    (if kid = 0 then { s with link := { s.link with ctxExh := s.link.ctxExh ++ [c] } } else s.flag (Fld.LINK_NETKEY_EXH kid))
  else s

/-- A new frame under an exhausted key is refused (R310): the flag and the event. -/
def txExhaustedRefused (c kid : Nat) (s : State) : State :=
  (if kid = 0 then (s.flag Fld.LINK_CTRFLAGS_CTXEXH).put Fld.LINK_CTRLAST_CTX c else s).fire EV.LINK_CTREXH

/-! ### Profiles (R235, R309, R242) -/

def profOf (s : State) (src : Nat) : Option ProfEntry := s.link.profs.find? (fun p => p.src == src)

/-- Keep the latest profile of a source in place of an older one. -/
def setProf (p : ProfEntry) (s : State) : State :=
  { s with link := { s.link with profs := s.link.profs.filter (fun q => q.src != p.src) ++ [p] } }

/-- A profile has gone to a partner. -/
def profSent (src : Nat) (s : State) : State :=
  match profOf s src with
  | some p => setProf { p with due := false, sentAt := some s.elapsed } s
  | none => s

/-- Make a context's table invalid (R242, R244). -/
def tableDrop (c : Nat) (s : State) : State := s.setCtx c CF.TABVALID 0

/-- Apply a received profile to a context (R242). -/
def profileApply (c : Nat) (b : List Byte) (s : State) : State :=
  if eb b 0 / 16 % 2 ≠ s.ctx c CF.MODE then s
  else
    let slot := eb b 0 % 16
    let good := match derive (profileMargins b) (eb b 1 % 16) with
      | some (t, rate) => if slot ≠ 0 ∧ tableUsable t then some (t, rate) else none
      | none => none
    let s := match good with
      | some (t, rate) =>
        (((s.setCtx c CF.TABLE (tableToNat t)).setCtx c CF.RATE rate).setCtx c CF.LOADIDX slot).setCtx c CF.TABVALID 1
      | none => tableDrop c s
    s.fire EV.LINK_PROFILE

/-! ### Building a frame -/

/-- The device's own short address. -/
def State.shortAddr (s : State) : Nat := s.get Fld.LINK_ADDR_SHORT

def State.eui (s : State) : Nat := s.get Fld.LINK_EUILO_EUI + 2 ^ 32 * s.get Fld.LINK_EUIHI_EUI

/-- FC of a frame to send. -/
def txFc (s : State) (f : TxFrame) : Nat :=
  (if f.fbreq then 0x800 else 0) + (if f.dack.isEmpty then 0 else 0x400) + (if f.prof.isEmpty then 0 else 0x200)
  + (if f.mesh.isEmpty then 0 else 0x100) + (if s.shortAddr = 0xFFFE then 0x80 else 0)
  + (if f.dst = 0xFFFF then 0 else 0x20) + 8 * f.micsz + (if f.micsz = 0 then 0 else 4)

/-- The octets before the payload at a sync reference point t64. -/
def txHead (s : State) (f : TxFrame) (fcnt t64 : Nat) : List Byte :=
  let tf := if f.type = 3 ∨ f.type = 5 then bytesLE 3 (t64 / 2 ^ 40) ++ f.fields else f.fields
  bytesLE 2 (txFc s f) ++ bytesLE 2 (s.get Fld.LINK_ADDR_NETID) ++ bytesLE 5 t64
  ++ (if f.dst = 0xFFFF then [] else bytesLE 2 f.dst)
  ++ (if s.shortAddr = 0xFFFE then bytesLE 8 s.eui else bytesLE 2 s.shortAddr)
  ++ tf ++ (if f.micsz = 0 then [] else bytesLE 4 fcnt ++ bytesLE 1 f.kid) ++ f.mesh ++ f.dack ++ f.prof

/-- The PSDU as sent (R293). -/
def txPsdu (s : State) (f : TxFrame) (fcnt t64 : Nat) : List Byte :=
  let head := txHead s f fcnt t64
  if f.micsz = 0 then head ++ f.payload
  else
    let cm := ccmEncrypt (s.keyBytes f.key) (omlNonce false s.shortAddr fcnt t64 f.kid) head f.payload (micOctets f.micsz)
    head ++ cm.1 ++ cm.2

/-- LENGTH of a frame. -/
def txLength (s : State) (f : TxFrame) : Nat := (txHead s f 0 0).length + f.payload.length + micOctets f.micsz

/-- The stratum a header carries (R97). -/
def headerStratum (s : State) : Nat := if s.stratum < 7 then s.stratum else 7

/-- Do a descriptor's cells lie in the software's region (R314, R332)? -/
def descCellsOk (s : State) (k : Nat) : Bool :=
  s.link.rxCells ≤ s.desc k DF.FIRSTCELL && s.desc k DF.FIRSTCELL < 64
  && cellsFor (s.desc k DF.PLEN) ≤ 64 - s.link.rxCells

/-- n octets from pool cell `first` on, consecutive modulo cells lo to 63. -/
def poolBytes (s : State) (lo first n : Nat) : List Byte :=
  (List.range n).map (fun i => s.byte (cellAddr (lo + (first - lo + i / 128) % (64 - lo)) + i % 128))

/-- The payload of a descriptor. -/
def descPayload (s : State) (k : Nat) : List Byte :=
  poolBytes s s.link.rxCells (s.desc k DF.FIRSTCELL) (s.desc k DF.PLEN)

/-- The deferred-ack entry that an element to `dst` can carry (R337). -/
def dackFor (s : State) (dst : Nat) : Option DackEntry := s.dacks.find? (fun d => d.src == dst && d.map < 2 ^ 16 && d.act.isNone)

/-- The element of a deferred-ack entry (R292). -/
def dackElement (d : DackEntry) : List Byte := bytesLE 1 d.kid ++ bytesLE 4 d.base ++ bytesLE 2 d.map

/-- BINT from a period in ticks: in units of 2^15 ticks where that is exact, else in whole seconds (R290). -/
def bintOf (period : Nat) : Nat :=
  if period % 2 ^ 15 = 0 ∧ period / 2 ^ 15 < 2 ^ 15 then period / 2 ^ 15
  else 2 ^ 15 + min (period / 32000000) (2 ^ 15 - 1)

/-- Give a frame its elements where they are due, and its LENGTH and airtime (R246, R309 rule 2, R337). -/
def txElements (mode : Nat) (f : TxFrame) (s : State) : TxFrame :=
  let able := f.micsz ≠ 0 ∧ f.dst ≠ 0xFFFF ∧ (f.type = 0 ∨ f.type = 4)
  let dk := if able then (match dackFor s f.dst with | some d => dackElement d | none => []) else []
  let pr := if able then (match profOf s f.dst with
    | some p => if p.due ∨ f.type = 4 then bytesLE 4 p.pfc ++ p.bytes else []
    | none => []) else []
  let g := { f with dack := dk, prof := pr }
  let g := if 1024 < txLength s g then { f with dack := [], prof := if f.type = 4 then pr else [] } else g
  let len := txLength s g
  { g with len := len, airtime := airtime len (ncbpsOf g.table) g.rate g.rep mode }

/-- What the port of lane l emits for a native frame launched at whole tick t (R95, R102, R211): level as for a symbol with
all sub-carriers active. -/
def airNative (s : State) (l mode chan hdr seq : Nat) (table : List Nat) (t : Nat) (psdu : List Byte) (level : Int) : AirTx :=
  { hdr := hdr, octets := psdu, t64 := t + 3 * tsym mode, mode := mode, chan := chan, level := level,
    carrier := carrierOf s l (chanFreq mode chan), start := 16 * t, dac := dacStart (16 * t) (pathDly s l mode 1),
    symbols := frameSymbols mode hdr seq table psdu }

/-- The presentation's refusal by the modem (R248): 0x0142, else 0. -/
def modemRefuses (mode chan : Nat) (f : TxFrame) : Nat :=
  if f.len = 0 ∨ 1024 < f.len ∨ f.rep = 3 ∨ (mode = 0 ∧ f.rep ≠ 0) ∨ !chanIssued mode chan
    ∨ (f.loadidx ≠ 0 ∧ !tableUsable f.table) then 0x0142 else 0

end Sys2Proof.Machine
end

