-- ==== Sys2Proof/Machine/LinkLe.lean ====
section
/-!
DEFINITION. Bluetooth LE in the link controller: PHYs and airtime (R357), templates' KSPEC (R359), channel selection, PDUs,
their encryption, sending one packet (R355, R358), connections (R365, R366), staged changes (R342, R367), Channel Sounding
paths and airtime (R368, R370). What the spec takes from the Bluetooth Core Specification follows that specification
(PRESUMED, notes/assumptions/20.md).
-/

namespace Sys2Proof.Machine

/-! ### Templates (Tables SCHED-3 and PHONE-2) -/

def tKind (t : List Byte) : Nat := eb t 0 % 16
def tMode (t : List Byte) : Nat := eb t 0 / 16 % 8
def tLatepol (t : List Byte) : Bool := testBit' (eb t 0) 7
def tPrio (t : List Byte) : Nat := eb t 1 % 8
def tRate0 (t : List Byte) : Nat := eb t 2 % 4
def tRep (t : List Byte) : Nat := eb t 2 / 4 % 4
def tMicsz (t : List Byte) : Nat := eb t 2 / 16 % 4
def tAckreq (t : List Byte) : Bool := testBit' (eb t 2) 6
def tFbreq (t : List Byte) : Bool := testBit' (eb t 2) 7
def tKid (t : List Byte) : Nat := eb t 3
def tChan (t : List Byte) : Nat := eb t 4
def tPwr (t : List Byte) : Nat := eb t 5
def tRetries (t : List Byte) : Nat := eb t 6 % 16
def tPans (t : List Byte) : Nat := eb t 6 / 16
def tRxwin (t : List Byte) : Nat := ew t 8
def tGap (t : List Byte) : Nat := ew t 12

def actKind : Nat → ActKind
  | 0 => .tx | 1 => .rxCtx | 2 => .listen | 3 => .beacon | 4 => .conn | 5 => .leAdv | 6 => .leConn | 7 => .leScan
  | _ => .cs

/-! ### PHYs, airtime, channels -/

/-- Modulation of a PHY code (Table PHONE-3, SECPHY). -/
def phyMode : Nat → Nat | 0 => 2 | 1 => 3 | 2 => 4 | _ => 5

/-- Airtime in ticks of an LE packet of n payload octets (R357). -/
def leAirtime (mode n : Nat) : Nat :=
  32 * (match mode with
    | 2 => 8 * (10 + n)
    | 3 => 4 * (11 + n)
    | 5 => 462 + 16 * n
    | _ => 720 + 64 * n)

/-- Bit reversal within each octet of a 16-bit number. -/
def csaPerm (v : Nat) : Nat :=
  ((List.range 16).map (fun k => if testBit' v k then 2 ^ (k / 8 * 8 + 7 - k % 8) else 0)).sum

/-- Channel selection algorithm #2: the channel of event `ev` for a channel identifier and a map of 37 channels. -/
def csa2 (chid ev map : Nat) : Nat :=
  let step := fun u => (csaPerm u * 17 + chid) % 65536
  let prn := (step (step (step ((ev % 65536) ^^^ chid)))) ^^^ chid
  let u := prn % 37
  let used := bitsOf 37 map
  if testBit' map u then u else used.getD (used.length * prn / 65536) u

/-- The channel of a native connection event (R340). -/
def gridSize : Nat → Nat | 0 => 40 | 1 => 17 | _ => 64

def eventChannel (s : State) (c : Nat) : Nat :=
  let g := s.ctx c CF.GRID
  let n := gridSize g
  let map := s.ctx c CF.CHMAP
  let used := bitsOf n map
  let u := (s.ctx c CF.CHSEED + s.ctx c CF.EVCTR * s.ctx c CF.HOP) % n
  let i := if testBit' map u then u else used.getD (u % used.length) 0
  if g = 2 then 32 + i else i

/-- Is a map valid within the grid of a context (R340)? -/
def mapValid (grid map : Nat) : Bool := grid < 3 && 2 ≤ popCount (gridSize grid) map

/-! ### LE links -/

def leLink (s : State) (c : Nat) : LeLink :=
  match s.link.le.find? (fun l => l.ctx == c) with
  | some l => l
  | none => { ctx := c }

def setLeLink (l : LeLink) (s : State) : State :=
  { s with link := { s.link with le := s.link.le.filter (fun m => m.ctx != l.ctx) ++ [l] } }

def dropLeLink (c : Nat) (s : State) : State :=
  { s with link := { s.link with le := s.link.le.filter (fun m => m.ctx != c) } }

/-- Set CONN of a context, and the count of class 2 connections (LINK_LESTAT.CONNS). -/
def setConn (c : Nat) (b : Bool) (s : State) : State :=
  let was := s.ctxBit c CF.CONN
  let s := s.setCtx c CF.CONN (boolBit b)
  if was == b || ctxClass s c != 2 then s
  else s.put Fld.LINK_LESTAT_CONNS (if b then s.get Fld.LINK_LESTAT_CONNS + 1 else s.get Fld.LINK_LESTAT_CONNS - 1)

/-- Renew the supervision deadline (R341, R366). -/
def renewSup (c : Nat) (s : State) : State := s.setCtx c CF.SUPDL (s.now + 32000 * s.ctx c CF.SUPTO)

/-- The entries of kinds 0x4 and 0x6 that name a context are cancelled (R341). -/
def cancelConnEntries (c : Nat) (s : State) : State :=
  s.forEach (List.range 64) (fun n s =>
    let k := match s.tmpl (s.tl n TF.TMPL) with | some t => tKind t | none => 0
    if s.tl n TF.VALID = 1 ∧ s.tl n TF.CTX = c ∧ (k = 4 ∨ k = 6) then setTlValid n false s else s)

/-- A connected link ends with a code (R341, R366): CONN := 0, its entries are cancelled, an event in progress ends. -/
def linkEnd (c code : Nat) (s : State) : State :=
  if !s.ctxBit c CF.CONN then s
  else
    let s := dropLeLink c (setConn c false s)
    let s := { s with link := { s.link with staged := s.link.staged.filter (fun g => g.ctx != c) } }
    let s := s.forEach (s.acts.filter (fun a => a.ctx == c && (a.kind == .conn || a.kind == .leConn) && !a.sending))
      (fun a s => endAct a code s)
    let s := cancelConnEntries c s
    let s := traceWrite 8 0 code c 0x7F 0 s
    if code = 0x0240 then (s.flag Fld.LINK_SCHFLAGS_SUPTO).fire EV.LINK_SUPTO else s

/-! ### PDUs -/

/-- An advertising-channel PDU: type, TxAdd, RxAdd, ChSel = 1, payload. -/
def advPdu (type : Nat) (txAdd rxAdd : Bool) (payload : List Byte) : List Byte :=
  BitVec.ofNat 8 (type + 0x20 + (if txAdd then 0x40 else 0) + (if rxAdd then 0x80 else 0))
    :: BitVec.ofNat 8 payload.length :: payload

/-- A device address: random or public. -/
def leAddr (s : State) (random : Bool) : List Byte :=
  if random then bytesLE 4 (s.get Fld.LINK_LERANDLO_ADDR) ++ bytesLE 2 (s.get Fld.LINK_LERANDHI_ADDR)
  else bytesLE 4 (s.get Fld.LINK_LEADDRLO_ADDR) ++ bytesLE 2 (s.get Fld.LINK_LEADDRHI_ADDR)

/-- n octets of advertising data from pool cell `first`; none where first is 0xFF. -/
def advData (s : State) (first n : Nat) : List Byte :=
  if first = 0xFF then [] else (List.range n).map (fun i => s.byte (cellAddr ((first + i / 128) % 64) + i % 128))

/-- Extended advertising data cut into the packets of the auxiliary chain. -/
def auxChunks : Nat → List Byte → List (List Byte)
  | 0, _ => []
  | f + 1, d => if d.length ≤ 244 then [d] else d.take 241 :: auxChunks f (d.drop 241)

/-- The PDU of packet i of an auxiliary chain of n: AUX_ADV_IND (with AdvA) first, AUX_CHAIN_IND after it. -/
def auxPdu (s : State) (random : Bool) (advMode sid i n : Nat) (data : List Byte) : List Byte :=
  let more := i + 1 < n
  let flags := (if i = 0 then 1 else 0) + 8 + (if more then 16 else 0)
  let ext := bytesLE 1 flags ++ (if i = 0 then leAddr s random else []) ++ bytesLE 2 (sid * 4096)
    ++ (if more then bytesLE 3 0 else [])
  advPdu 7 random false (bytesLE 1 (ext.length + 64 * (if i = 0 then advMode else 0)) ++ ext ++ data)

/-- The nonce of an encrypted data PDU: packet counter, direction (1 from the central), IV. -/
def leNonce (counter : Nat) (fromCentral : Bool) (iv : Nat) : List Byte :=
  bytesLE 5 (counter + (if fromCentral then 2 ^ 39 else 0)) ++ bytesLE 8 iv

/-! ### Sending one LE packet -/

/-- One LE packet's place: lane, PHY, channel, access address, CRC initial value, launch time in 1/16 tick (R356), and what
its listen period found, where it had one: true clear, false busy (R172). -/
structure LeAir where
  lane : Nat
  mode : Nat
  chan : Nat
  aa : Nat
  crc : Nat
  start : Int
  listen : Option Bool := none
  deriving DecidableEq, Repr

def advAA : Nat := 0x8E89BED6
def advCrc : Nat := 0x555555

/-- What an activity's listen period on a channel found. -/
def Activity.listenOf (a : Activity) (chan : Nat) : Option Bool :=
  if a.lbtDone || a.clear.contains chan then some true else if a.busy.contains chan then some false else none

/-- T_IFS and T_MAFS in ticks (R355). -/
def tIfs : Nat := 4800
def tMafs : Nat := 9600

/-- Ticks from the start of an LE packet to the end of its access address. -/
def leSyncSpan (mode : Nat) : Nat := match mode with | 2 => 1280 | 3 => 768 | _ => 10752

/-- The launch `gap` ticks after the end of a received LE packet, from its TS, to the nearest 1/16 tick (R355, R356). -/
def responseStart (s : State) (r : RxRecord) (gap : Nat) : Int :=
  roundDiv (r.fullTs s - pathDly s r.lane r.mode 0 + 64 * ((r.airtime : Int) - leSyncSpan r.mode + gap)) 4

/-- The code that refuses an LE packet on a lane: supply, reference, sub-band, dwell, duty, listening (R170 to R175, R176,
R348, R543), or 0. -/
def leTxCode (s : State) (mode chan airtime : Nat) (listen : Option Bool) : Nat :=
  if s.dip then 0x0701
  else if txRefCode s ≠ 0 then txRefCode s
  else match subBandOf s (chanKHz mode chan) mode with
    | none => 0x0302
    | some k =>
      if dwellExceeded s k airtime then 0x0303
      else if !dutyAllows s k airtime then 0x0301
      else if s.get (Fld.RF_SBPWR_LBTTIME k) = 0 then 0
      else match listen with
        | none => 0x0305
        | some clear => if clear then 0 else 0x0304

/-- Count what a refused packet counts (R348, R171). -/
def leTxRefused (l mode chan code : Nat) (s : State) : State :=
  let s := if code = 0x0303 then dwellFlag l s else s
  match code, subBandOf s (chanKHz mode chan) mode with
  | 0x0301, some k => dutyRefused k s
  | _, _ => s

/-- Send one LE packet whole: debit, clamp, TXSTART and TXEND, air time; the answer is its refusal code or 0. -/
def leSend (w : LeAir) (level : Int) (pdu : List Byte) (mV : Nat) (s : State) : Nat × State :=
  let l := w.lane
  let air := leAirtime w.mode (pdu.length - 2)
  let code := leTxCode s w.mode w.chan air w.listen
  if code ≠ 0 then (code, leTxRefused l w.mode w.chan code s)
  else match subBandOf s (chanKHz w.mode w.chan) w.mode with
    | none => (0x0302, s)
    | some k =>
      let s := dutyDebit k air s
      let f := chanFreq w.mode w.chan
      let s := if s.get (Fld.LANE_FREQ_FREQ l) = f then s else laneShift l f s
      let s := laneStartTx l (powerClamp l k level mV s)
      let s := { s with link := { s.link with air := setNth s.link.air l (some
        { hdr := 0, octets := pdu, t64 := (w.start / 16).toNat, mode := w.mode, chan := w.chan,
          level := targetPower s l k level mV, carrier := carrierOf s l f, start := w.start,
          dac := dacStart w.start (pathDly s l w.mode 1), raw := leAirOctets w.aa w.crc w.chan pdu }) } }
      (0, lifeAir (2 * l + s.laneBand l) air (laneEndTx l 2 none s))

/-! ### Data PDUs (R366) -/

/-- The payload and LLID of the PDU a context sends next: the one not yet acknowledged, else the oldest queued
descriptor, else an empty one. -/
def leNextDesc (s : State) (c : Nat) : Option Nat :=
  match (leLink s c).sent with
  | some d => some d
  | none => (leLink s c).queue.head?

/-- Send the next data PDU of an activity's context at `start` (1/16 tick). -/
def leSendData (a : Activity) (start : Int) (listen : Option Bool) (level : Int) (mV : Nat) (s : State) : Nat × State :=
  let c := a.ctx
  let k := leLink s c
  let fresh := k.sent.isNone
  let d := (leNextDesc s c).getD 0x3F
  let queue := if fresh then k.queue.drop 1 else k.queue
  let payload := if d = 0x3F then [] else descPayload s d
  let llid := if d = 0x3F then 1 else s.desc d DF.LLID
  let enc := s.ctxBit c CF.ENCTX && !payload.isEmpty
  let h0 := BitVec.ofNat 8 (llid + 4 * s.ctx c CF.NESN + 8 * s.ctx c CF.SN + (if queue.isEmpty then 0 else 16))
  let ctr := if fresh then s.ctx c CF.TXPKT else s.ctx c CF.TXPKT - 1
  let cm := ccmEncrypt (s.keyBytes (s.ctx c CF.KEYH)) (leNonce ctr (s.ctxBit c CF.CENTRAL) (s.ctx c CF.IV))
    [h0 &&& 0xE3#8] payload 4
  let body := if enc then cm.1 ++ cm.2 else payload
  let w : LeAir := ⟨a.lane, phyMode (s.ctx c CF.TXPHY), a.chan, s.ctx c CF.AA, s.ctx c CF.CRCINIT, start, listen⟩
  let r := leSend w level (h0 :: BitVec.ofNat 8 body.length :: body) mV s
  if r.1 ≠ 0 then r
  else
    let s := r.2
    let s := if enc ∧ fresh then s.setCtx c CF.TXPKT (s.ctx c CF.TXPKT + 1) else s
    let s := s.ctxCount c CF.TXFRAMES
    let s := if fresh then s else s.ctxCount c CF.RETRIES
    let s := setLeLink { k with sent := some d, queue := queue } s
    let s := if d = 0x3F ∨ !fresh then s
      else
        let s := s.setDesc d DF.BUSY 1
        let s := if s.desc d DF.RXENC = 1 then (s.setCtx c CF.ENCRX 1).setCtx c CF.RXPKT 0 else s
        if s.desc d DF.RXPLAIN = 1 then s.setCtx c CF.ENCRX 0 else s
    (0, s)

/-- The sent PDU was acknowledged: SN flips, the descriptor is done, TXENC and TXPLAIN take effect. -/
def leAcked (c : Nat) (s : State) : State :=
  let k := leLink s c
  match k.sent with
  | none => s
  | some d =>
    let s := setLeLink { k with sent := none } (s.setCtx c CF.SN (1 - s.ctx c CF.SN))
    let s := s.ctxCount c CF.TXACKED
    if d = 0x3F then s
    else
      let s := finishDesc d 0 0 s
      let s := if s.desc d DF.TXENC = 1 then (s.setCtx c CF.ENCTX 1).setCtx c CF.TXPKT 0 else s
      if s.desc d DF.TXPLAIN = 1 then s.setCtx c CF.ENCTX 0 else s

/-! ### Staged changes -/

def stagedAt (s : State) (c ev : Nat) : Option Staged := s.link.staged.find? (fun g => g.ctx == c && g.instant == ev)

/-- Apply a staged change at its event (R342, R367): the window it opens, in ticks, comes with the state. -/
def stagedApply (c ev n : Nat) (s : State) : Nat × State :=
  match stagedAt s c ev with
  | none => (0, s)
  | some g =>
    let s := { s with link := { s.link with staged := s.link.staged.filter (fun h => !(h.ctx == c && h.instant == ev)) } }
    let v := fun i => g.vals.getD i 0
    match g.op with
    | 1 =>
      let s := ((s.setCtx c CF.LEINTERVAL (v 0)).setCtx c CF.LATENCY (v 1)).setCtx c CF.SUPTO (v 2)
      let s := s.setCtx c CF.CEANCHOR (s.ctx c CF.CEANCHOR + 40000 * v 3)
      (40000 * v 4, setTlLaunch n (near40 s.now (s.ctx c CF.CEANCHOR)) s)
    | 3 => (0, (s.setCtx c CF.TXPHY (v 0)).setCtx c CF.RXPHY (v 1))
    | 4 => (40000 * v 0, s)
    | 2 => (0, s.setCtx c CF.LECHMAP (v 0))
    | _ => (0, s.setCtx c CF.CHMAP (v 0))

/-! ### Windows -/

/-- Upper bound in ppm of a sleep clock accuracy code. -/
def scaPpm : Nat → Nat
  | 0 => 500 | 1 => 250 | 2 => 150 | 3 => 100 | 4 => 75 | 5 => 50 | 6 => 30 | _ => 20

/-- Half width in ticks of the window of an LE event (R365). -/
def leWindow (s : State) (c dt : Nat) : Nat :=
  (scaPpm (s.ctx c CF.PSCA) + scaPpm (s.get Fld.LINK_LECFG_SCA)) * dt / 1000000 + 512

/-! ### Channel Sounding -/

/-- Local antennas that ACI implies for a role (0 initiator). -/
def csAntennas (aci role : Nat) : Nat :=
  let ab : Nat × Nat := match aci with
    | 0 => (1, 1) | 1 => (2, 1) | 2 => (3, 1) | 3 => (4, 1) | 4 => (1, 2) | 5 => (1, 3) | 6 => (1, 4) | _ => (2, 2)
  if role = 0 then ab.1 else ab.2

/-- Antenna paths available (R368). -/
def csPaths (s : State) : Nat :=
  if testBit' (s.get (Fld.LANE_STAT_ROLES 1)) 1 ∧ s.owner 1 = 0 ∧ !s.retired 1 then 4 else 2

/-- T_PM in microseconds. -/
def csTpm : Nat → Nat | 0 => 10 | 1 => 20 | _ => 40

/-- Planned airtime in ticks of a procedure: the packets and tones it sends locally (R370). -/
def csAirtime (t : List Byte) : Nat :=
  let k := eb t 16
  let role := k % 2
  let m0 := k / 8 % 4
  let nap := csAntennas (k / 32) 0 * csAntennas (k / 32) 1
  let mode0 := 44 + (if role = 1 then 80 else 0)
  let main := if k / 2 % 4 = 1 then 44 else (nap + 1) * (2 + csTpm (eb t 19 / 16 % 4))
  32 * (m0 * mode0 + eb t 17 * main)

end Sys2Proof.Machine
end

