-- ==== Sys2Proof/Machine/LinkSched.lean ====
section
/-!
DEFINITION. The timeline and the lanes: arming and cancelling, presentation with its checks, lanes and conflicts, launches,
ends, retransmissions (R321 to R332, R337, R339 to R342, R360 to R373).
-/

namespace Sys2Proof.Machine

/-! ### Lanes and roles (R326, R327) -/

/-- Role bits an activity needs (Table SCHED-5). -/
def rolesNeeded (k : ActKind) (band : Nat) : List Nat :=
  match k with
  | .tx | .beacon | .blockAck => [3 + 2 * band]
  | .rxCtx | .listen => [2 + 2 * band]
  | .conn => [2 + 2 * band, 3 + 2 * band]
  | .forward => [6, 3 + 2 * band]
  | .leAdv | .leConn => [0]
  | .leScan | .cs => [1]
  | .ack => []

def ActKind.isRx (k : ActKind) : Bool := k == .rxCtx || k == .listen || k == .leScan

/-- Does a lane hold the roles of an activity? While paired, either lane's roles cover a reception (R177). -/
def rolesHeld (s : State) (l : Nat) (k : ActKind) (band : Nat) : Bool :=
  let r := s.get (Fld.LANE_STAT_ROLES l)
  let r := if s.paired && k.isRx then r ||| s.get (Fld.LANE_STAT_ROLES (otherLane l)) else r
  !s.retired l && (rolesNeeded k band).all (fun b => testBit' r b)

/-- Is an activity present on a lane over a span? -/
def Activity.uses (a : Activity) (l t0 t1 : Nat) : Bool :=
  a.lane == l && a.phase != .deferred && a.phase != .retryWait && a.useFrom < t1 && t0 < a.useTo

/-- The lane of an activity (R327, R184): a refusal code or 0, and the lane. `want`: 0 any, 1 LANE A, 2 LANE B. -/
def laneChoice (s : State) (want : Nat) (k : ActKind) (band t0 t1 id : Nat) : Nat × Nat :=
  let gone := (want = 1 ∧ s.retired 0) ∨ (want = 2 ∧ s.retired 1)
  let wait := gone ∧ ((s.lane 0).takeover ∨ (s.lane 1).takeover)
  let open' := fun l => want = 0 ∨ want = 3 ∨ gone ∨ want = l + 1
  let held := [0, 1].filter (fun l => open' l && rolesHeld s l k band)
  let own := held.filter (fun l => s.owner l == 0)
  let idle := own.filter (fun l => !s.acts.any (fun a => a.id != id && a.uses l t0 t1))
  match idle, own, held with
  | l :: _, _, _ => (0, l)
  | [], l :: _, _ => (0, l)
  | [], [], l :: _ => (0x0106, l)
  | [], [], [] => (if wait then 0x0104 else 0x0213, want - 1)

/-- The lane a paired transmission leaves from (R177). -/
def pairedTxLane (s : State) (dst : Nat) : Nat :=
  match s.get Fld.RF_PAIR_TXLANE with
  | 0 => 0
  | 1 => 1
  | _ => match s.link.pairBest.find? (fun p => p.1 == dst) with | some p => p.2 | none => 0

/-! ### Span centres (R328) -/

/-- Candidate centres of a band in kHz, rising. -/
def centresOf (band : Nat) : List Nat :=
  if band = 0 then (List.range 42).map (fun i => 2401000 + 2000 * i)
  else (List.range 16).map (fun i => 863400 + 400 * i) ++ (List.range 63).map (fun i => 902600 + 400 * i)

/-- Do all pans meet R251 around a centre in kHz? -/
def allFit (centre : Nat) (ps : List (Nat × Nat)) : Bool := ps.all (fun p => fitsSpan (1000 * centre * hzUnit) p.1 p.2)

/-- The candidate nearest to the middle of the channel centres for which every pan fits, the lower of two equals. -/
def nearestCentre (ps : List (Nat × Nat)) : Option Nat :=
  let ks := ps.map (fun p => chanKHz p.1 p.2)
  let sum := ks.foldl min (ks.headD 0) + ks.foldl max 0
  let far := fun c => if 2 * c < sum then sum - 2 * c else 2 * c - sum
  ((centresOf (bandOf (ps.headD (0, 0)).1)).filter (fun c => allFit c ps)).foldl
    (fun (b : Option Nat) c => match b with | none => some c | some d => if far c < far d then some c else some d) none

/-- The centre for an activity's pans and those of the activities presented together with it. -/
def chooseCentre (mine others : List (Nat × Nat)) : Nat :=
  match nearestCentre (mine ++ others) with
  | some c => c
  | none => (nearestCentre mine).getD (chanKHz (mine.headD (0, 0)).1 (mine.headD (0, 0)).2)

/-- Mode and channel of the pans an activity listens on. -/
def pansWanted (a : Activity) (n : Nat) : List (Nat × Nat) := (List.range n).map (fun i => (a.mode, a.chan + i))

/-- The next primary channel of a scan's rotation, and the rotation after it (R361). -/
def scanChannel (s : State) (n : Nat) (t : List Byte) : Nat :=
  let chs := (bitsOf 3 (eb t 17)).map (fun b => 37 + b)
  let i := match s.link.scanNext.find? (fun x => x.1 == n) with | some x => x.2 | none => 0
  chs.getD (i % chs.length) 37

def scanAdvance (n : Nat) (s : State) : State :=
  let i := match s.link.scanNext.find? (fun x => x.1 == n) with | some x => x.2 | none => 0
  { s with link := { s.link with scanNext := s.link.scanNext.filter (fun x => x.1 != n) ++ [(n, i + 1)] } }

/-- Pans an armed receive entry wants, the receiving side of a connected event among them; none for other kinds. -/
def entryPans (s : State) (n : Nat) : List (Nat × Nat) :=
  match s.tmpl (s.tl n TF.TMPL) with
  | none => []
  | some t =>
    let ch := if s.tl n TF.CHAN ≠ 0xFF then s.tl n TF.CHAN
      else if tChan t ≠ 0xFF then tChan t else s.ctx (s.tl n TF.CTX) CF.CHAN
    match tKind t with
    | 1 => [(tMode t, ch)]
    | 2 => (List.range (tPans t)).map (fun i => (tMode t, ch + i))
    | 4 => if s.ctxBit (s.tl n TF.CTX) CF.CENTRAL then [] else [(tMode t, eventChannel s (s.tl n TF.CTX))]
    | 7 => [(tMode t, scanChannel s n t)]
    | _ => []

/-- Pans of the other entries presented in the same instant for the same band. -/
def pansTogether (s : State) (n mode : Nat) : List (Nat × Nat) :=
  ((List.range 64).filter (fun m => m != n && s.tl m TF.VALID == 1 && s.tl m TF.TLAUNCH == s.tl n TF.TLAUNCH
    && s.tl m TF.LANE == s.tl n TF.LANE && (s.act m).isNone)).flatMap
      (fun m => (entryPans s m).filter (fun p => bandOf p.1 == bandOf mode))

/-- Pans of a lane that no activity holds. -/
def freePans (s : State) (l : Nat) : List Nat :=
  (panRange l).filter (fun p => !s.acts.any (fun a => a.pans.contains p))

/-- Configure free pans of a lane for channels (R253). -/
def openPans (l : Nat) (chs : List (Nat × Nat)) (s : State) : List Nat × State :=
  let ps := (freePans s l).zip chs
  (ps.map (fun x => x.1), s.forEach ps (fun x s => panConfigure true x.1 (1 + x.2.1 * 2 ^ 10 + x.2.2 * 2 ^ 16) s))

/-! ### Conflicts (R329, R330) -/

/-- Does b come before a in a conflict? -/
def beats (b a : Activity) : Bool :=
  a.prio < b.prio || (a.prio == b.prio && (b.tlaunch < a.tlaunch || (b.tlaunch == a.tlaunch && b.id < a.id)))

/-- The receptions that use a reception's lane over its span. -/
def rxBeside (s : State) (a : Activity) : List Activity :=
  s.acts.filter (fun b => b.id != a.id && b.kind.isRx && b.uses a.lane a.useFrom a.useTo)

/-- Do a reception's pans fit the span around a chosen centre? -/
def fitsCentre (s : State) (a : Activity) (chs : List (Nat × Nat)) (freq : Nat) : Bool :=
  chs.all (fun p => fitsSpan (centreOf s a.lane freq) p.1 p.2)

/-- The span centre of a reception that is presented (R328): that of the receptions beside it where its pans fit it, else one
of its own, chosen with those presented together with it. -/
def rxCentre (s : State) (a : Activity) (chs together : List (Nat × Nat)) : Nat :=
  match (rxBeside s a).find? (fun b => fitsCentre s a chs b.centre) with
  | some b => b.centre
  | none => freqOfKHz (chooseCentre chs together)

/-- Are there pans for a reception beside those that share its centre (R328)? -/
def pansEnough (s : State) (a : Activity) : Bool :=
  decide (a.npans + (((rxBeside s a).filter (fun b => b.centre == a.centre)).map (fun b => b.npans)).sum ≤ 8)

/-- The activities in conflict with a (R329): those that use its lane over its span, but for receptions it shares it with. -/
def conflicting (s : State) (a : Activity) : List Activity :=
  let hit := s.acts.filter (fun b => b.id != a.id && b.kind != .ack && b.uses a.lane a.useFrom a.useTo)
  if a.kind.isRx && pansEnough s a then hit.filter (fun b => !(b.kind.isRx && b.centre == a.centre)) else hit

/-- The latest launch of a deferred activity (R330). -/
def deferLimit (s : State) (a : Activity) : Nat :=
  if a.id < 64 ∧ s.tl a.id TF.PERIOD ≠ 0 then a.tlaunch + s.tl a.id TF.PERIOD
  else a.tlaunch + 1024 * s.get Fld.LINK_SCHCFG_MAXLATE

/-- LBT listen period and 16 us of an activity's sub-band, or 0 (R323). -/
def lbtLead (s : State) (a : Activity) : Nat :=
  match a.sub with
  | some k => if lbtTicks s k = 0 then 0 else lbtTicks s k + turnRound
  | none => 0

/-- Preparation before a launch: the listen period, or the PA preset (R156). -/
def prepTicks (s : State) (a : Activity) : Nat :=
  if a.kind.isRx then 0 else max 352 (lbtLead s a)

/-- An activity that has not launched loses a conflict against work that ends at `free` (R330, R175). -/
def loseConflict (a : Activity) (free : Nat) (inListen : Bool) (s : State) : State :=
  let t := free + prepTicks s a
  if a.latepol ∧ t < deferLimit s a then
    s.setAct { a with phase := .deferred, late := true, launch := t, useFrom := t - prepTicks s a,
                      useTo := t + (a.useTo - a.launch) }
  else refuseAct a (if !a.latepol ∧ inListen then 0x0305 else 0x0220) s

/-- Settle an activity against those on its lane: it is presented, deferred or refused; presented losers yield. -/
def settle (a : Activity) (s : State) : State :=
  let cs := conflicting s a
  let win := cs.filter (fun b => b.sending || beats b a)
  if win.isEmpty then
    let s := s.setAct { a with phase := .presented }
    s.forEach (cs.filter (fun b => !b.isRunning)) (fun b s => loseConflict b a.useTo false s)
  else
    let free := win.foldl (fun m b => max m b.useTo) 0
    let listen := lbtLead s a ≠ 0 ∧ win.any (fun b => b.useFrom < a.launch - turnRound)
    loseConflict a free listen s

/-! ### Readiness (R159 to R161, R149) -/

/-- Ticks from the lane's readiness on its carrier to a launch: 5 us to TX and the 11 us of R156, or 3 us to RX (R160, R161). -/
def readyTail (tx : Bool) : Nat := if tx then 512 else 96

/-- Ticks from now until the lane is ready to launch on a carrier: the step boundary of what calibrates, tests or settles
elsewhere, a relock where one is needed or the rest of one that runs, a port that settles (R149), then TX or RX. -/
def readyIn (s : State) (l f boundary : Nat) (tx : Bool) : Nat :=
  let st := s.laneSt l
  let left := (s.lane l).lockTo - s.elapsed
  let here := lockedOn s l f
  (if st = 5 ∨ st = 6 ∨ (left ≠ 0 ∧ !here) then boundary else 0) + max (if here then left else 704) (settleLeft s l) + readyTail tx

/-- An activity that starts at `ready`: a transmission ends as much later, a window still closes on time (R160, R161). -/
def startLate (a : Activity) (ready : Nat) (tx : Bool) : Activity :=
  { a with launch := ready, late := true, laneLate := true, useTo := if tx then a.useTo + (ready - a.launch) else a.useTo }

/-- Put a launch that cannot be met (R160, R161): refused, or late. A span of less than 40 us counts. -/
def readyCheck (s : State) (a : Activity) (f boundary : Nat) (tx : Bool) : Option Activity :=
  let ready := s.now + readyIn s a.lane f boundary tx
  if s.now + 1280 ≤ a.launch ∨ ready ≤ a.launch ∨ s.laneSt a.lane = 3 ∨ s.laneSt a.lane = 4 then some a
  else if a.latepol then some (startLate a ready tx)
  else none

/-- A port that still settles at the launch, or at the preparation before it (R149): as readyCheck, at the launch itself. -/
def settleCheck (s : State) (a : Activity) (tx : Bool) : Option Activity :=
  let settled := s.now + settleLeft s a.lane
  if settleLeft s a.lane = 0 ∨ settled + (if tx then 352 else 0) ≤ max a.launch s.now then some a
  else if a.latepol then some (startLate a (settled + readyTail tx) tx)
  else none

/-- The lane begins to prepare an activity it has been presented (R152, R158): it is tuned where nothing else runs. -/
def prepare (a : Activity) (f : Nat) (s : State) : State :=
  match s.act a.id with
  | some b =>
    if b.phase = .presented ∧ !s.acts.any (fun c => c.id != a.id && c.lane == a.lane && c.isRunning) ∧ s.laneSt a.lane ≠ 4
        ∧ s.laneSt a.lane ≠ 3 then laneTune a.lane f s
    else s
  | none => s

/-! ### Listen periods (R172, R173) -/

/-- Receptions that run on a lane give way (R330). -/
def preemptLane (l id : Nat) (s : State) : State :=
  s.forEach (s.acts.filter (fun b => b.lane == l && b.id != id && b.receives)) (fun b s => preempt b s)

/-- A listen period begins: where the lane's span does not cover the channel, what receives gives way and the lane tunes to it
(R173). -/
def lbtTune (a : Activity) (s : State) : State :=
  let s := s.setAct { a with listening := true }
  if s.laneSt a.lane = 3 ∧ fitsSpan (spanCentre s a.lane) a.mode a.chan then s
  else
    let s := preemptLane a.lane a.id s
    if s.laneSt a.lane = 4 then s else laneTune a.lane (chanFreq a.mode a.chan) s

/-- Is an activity's listen period due, and not begun? -/
def listenWaits (s : State) (a : Activity) : Bool :=
  a.phase == .presented && !a.listening && lbtLead s a != 0 && decide (a.launch ≤ s.now + lbtLead s a)

/-- The listen periods that are due begin. -/
def listenDue (s : State) : State := s.forEach (s.acts.filter (listenWaits s)) lbtTune

/-! ### Building the frame of an entry (R320, R331, R339) -/

/-- The context of a destination (R316, R295), and the LOADIDX, RATE and table of a frame to it (R320). -/
def loadingTo (s : State) (mode dst : Nat) (t : List Byte) : Nat × Nat × Nat × List Nat :=
  match (if dst = 0xFFFF then none else findCtx s dst) with
  | some c =>
    if s.ctxBit c CF.TABVALID ∧ s.ctx c CF.MODE = mode then
      (c, s.ctx c CF.LOADIDX, s.ctx c CF.RATE, tableOfNat (s.ctx c CF.TABLE))
    else (c, 0, tRate0 t, uniformTable)
  | none => (512, 0, tRate0 t, uniformTable)

/-- The frame of an entry; `old`: the frame of an earlier launch, whose FCNT and payload it keeps (R296). -/
def entryFrame (s : State) (a : Activity) (t : List Byte) (old : Option TxFrame) : TxFrame :=
  let d := if a.id < 64 then s.tl a.id TF.TXDESC else 0x3F
  let none' := d = 0x3F ∨ 48 ≤ d
  let type := if a.kind = .beacon then 3 else if none' then 0 else s.desc d DF.TYPE
  let dst := match old with
    | some o => o.dst
    | none => if a.kind = .beacon then 0xFFFF else if none' then s.ctx a.ctx CF.PARTNER else s.desc d DF.DST
  let kid := tKid t
  let ld := loadingTo s a.mode dst t
  let g : TxFrame :=
    { desc := d, type := type, dst := dst, kid := kid, pctx := ld.1,
      key := (keyFor s ld.1 kid 0 0).2,
      micsz := if kid = 0 then tMicsz t else if kid ≤ 15 then s.get (Fld.LINK_NETKEY_MICSZ kid) else tMicsz t,
      ackreq := (tAckreq t || a.kind == .conn) && dst != 0xFFFF && type != 3, fbreq := tFbreq t,
      fields := if type = 3 then bytesLE 2 (bintOf (s.tl a.id TF.PERIOD)) ++ bytesLE 1 (s.freeNat % 4)
        else if type = 5 then bytesLE 1 (s.freeNat % 2) else [],
      mesh := if none' ∨ s.desc d DF.FWD = 0 then [] else
        bytesLE 2 (s.desc d DF.ODST) ++ bytesLE 2 s.shortAddr ++ bytesLE 2 (s.desc d DF.HOPS),
      payload := if none' then [] else descPayload s d,
      loadidx := ld.2.1, rate := ld.2.2.1, table := ld.2.2.2, seq := s.syncSeq,
      rep := if tRep t = 3 then s.ctx a.ctx CF.REP else tRep t,
      level := toS 8 (if tPwr t = 0x80 then s.ctx a.ctx CF.PWR else tPwr t),
      retries := tRetries t, gap := tGap t }
  let g := match old with
    | some o => { g with type := o.type, kid := o.kid, fcnt := o.fcnt, payload := o.payload,
                         fields := o.fields, mesh := o.mesh, tries := o.tries, micsz := o.micsz }
    | none => g
  txElements a.mode g s

/-- Does a transmission use its context (R317)? -/
def ctxNeeded (s : State) (a : Activity) (t : List Byte) (f : TxFrame) : Bool :=
  a.kind == .conn || (f.kid == 0 && f.micsz != 0 && a.ctx < 512) || tPwr t == 0x80 || tRep t == 3
  || ((64 ≤ a.id || s.tl a.id TF.CHAN == 0xFF) && tChan t == 0xFF)

/-- The checks before the key is fetched, in order: 0 or the first code. -/
def txPreCode (s : State) (a : Activity) (t : List Byte) (f : TxFrame) (laneCode : Nat) : Nat :=
  if ctxNeeded s a t f ∧ !ctxOpen s a.ctx then 0x0212
  else if laneCode ≠ 0 then laneCode
  else if f.micsz = 0 then (if f.kid = 0 ∧ !s.has Fld.LINK_ACCCFG_OPEN then 0x0204 else 0)
  else (keyFor s f.pctx f.kid 0x0205 0x0212).1

/-- Is the descriptor of a frame valid (R332)? -/
def descValid (s : State) (a : Activity) (f : TxFrame) : Bool :=
  if f.desc < 48 then
    descCellsOk s f.desc && f.len ≤ 1024 && (f.type == 0 || f.type == 3 || f.type == 4 || f.type == 5)
  else a.kind != .tx && f.len ≤ 1024

/-- The checks after the key is granted (R297, R310, R332, R289, R248, R170, R171, R348). -/
def txPostCode (s : State) (a : Activity) (f : TxFrame) : Nat :=
  let fmt := omlFormat (omlParse f.type f.ackreq (txHead s f 0 0 ++ f.payload ++ List.replicate (micOctets f.micsz) 0#8)) f.len
  if f.micsz ≠ 0 ∧ f.kid ≠ 0 ∧ !s.has (Fld.LINK_NETKEY_TXVALID f.kid) then 0x020D
  else if f.fcnt.isNone ∧ f.micsz ≠ 0 ∧ txExhausted s f.pctx f.kid then 0x020C
  else if a.id < 64 ∧ !descValid s a f then 0x0231
  else if fmt ≠ 0 ∧ f.type ≠ 2 then fmt
  else if modemRefuses a.mode a.chan f ≠ 0 then 0x0142
  else match a.sub with
    | none => 0x0302
    | some k =>
      if dwellExceeded s k f.airtime then 0x0303
      else if !dutyAllows s k f.airtime then 0x0301 else 0

/-- A transmission is refused: an exhausted key's flag and event go with 0x020C (R310), and a table that the modem turns down
is dropped (R244, R248). -/
def refuseTx (a : Activity) (f : TxFrame) (code : Nat) (s : State) : State :=
  let s := if code = 0x020C then txExhaustedRefused f.pctx f.kid s
    else if code = 0x0142 ∧ f.loadidx ≠ 0 then tableDrop f.pctx s else s
  refuseAct a code s

/-- Ticks between a presentation that comes at its launch time or after it and the launch: for a retransmission, whose
presentation RETRY_TIMER is, LEAD and L before the launch (R323), or RETRYGAP where that is shorter (R332). -/
def launchLead (s : State) (a : Activity) (f : TxFrame) : Nat :=
  if f.fcnt.isSome then max (prepTicks s a) (min f.gap (s.get Fld.LINK_SCHCFG_LEAD) + lbtLead s a) else prepTicks s a

/-- What a presentation works out before its checks (R323, R327): the frame, the activity with its sub-band, launch, span and
lane, and the code of the choice of lane. -/
def txPlan (a : Activity) (t : List Byte) (want : Nat) (s : State) : TxFrame × Activity × Nat :=
  let f := entryFrame s a t a.frame
  let a := { a with frame := some f, sub := subBandOf s (chanKHz a.mode a.chan) a.mode }
  let a := if (a.past ∨ f.fcnt.isSome) ∧ a.launch ≤ s.now then { a with launch := s.now + launchLead s a f } else a
  let ackAir := if f.ackreq then turnRound + airtime (33 + micOctets f.micsz) 48 0 f.rep a.mode + turnRound else turnRound
  let a := { a with useFrom := a.launch - prepTicks s a, useTo := a.launch + f.airtime + ackAir }
  let lc := laneChoice s want a.kind (bandOf a.mode) a.useFrom a.useTo a.id
  (f, { a with lane := if s.paired ∧ lc.1 = 0 then pairedTxLane s f.dst else lc.2 }, lc.1)

/-- Present a transmission (R323): checks in order, then the lane. -/
def presentTx (a : Activity) (t : List Byte) (want boundary : Nat) (fails : Bool) (s : State) : State :=
  let p := txPlan a t want s
  let f := p.1
  let a := p.2.1
  let s := if f.type = 3 ∨ f.type = 5 then s.freeNext else s
  let pre := txPreCode s a t f p.2.2
  if pre ≠ 0 then refuseAct a pre s
  else
    let adm := if f.micsz = 0 then (0, s) else linkAdmit f.key 0 fails s
    let s := adm.2
    if adm.1 ≠ 0 then refuseAct a adm.1 s
    else
      let post := txPostCode s a f
      if post ≠ 0 then refuseTx a f post s
      else
        let freq := chanFreq a.mode a.chan
        match readyCheck s a freq boundary true with
        | none => refuseAct a 0x0101 (laneTune a.lane freq s)
        | some a =>
          if lbtLead s a ≠ 0 ∧ a.launch < s.now + lbtLead s a then refuseAct a 0x0305 s
          else listenDue (prepare a freq (settle a s))

/-! ### Receive windows (R111, R112, R601) -/

/-- Retire an anchor that is too old to compare (R601). -/
def anchorFresh (c : Nat) (s : State) : State :=
  if s.ctxBit c CF.ANCHORVALID ∧ 4096 ≤ (s.stamp + 2 ^ 32 - s.ctx c CF.LASTRX) % 2 ^ 32 then
    (s.setCtx c CF.ANCHORVALID 0).setCtx c CF.UNC (min 255 (8 * s.get Fld.TIDE_GUARD_MAXPPM))
  else s

/-- The window of a reception at t with scheduled spacing `interval` (R111): opening and closing time. -/
def rxWindow (s : State) (c t interval : Nat) : Nat × Nat :=
  if !s.ctxBit c CF.ANCHORVALID then (t - interval / 2, t + interval / 2)
  else
    let dt : Nat := (t + 2 ^ 40 - s.ctx c CF.ANCHOR) % 2 ^ 40
    let pred : Int := (t : Int) + (toS 24 (s.ctx c CF.OFS) * 1000000 + toS 16 (s.ctx c CF.DRIFT) * (dt : Int)) / 64000000
    let w : Nat := s.ctx c CF.UNC * dt / 4000000 + s.get Fld.TIDE_GUARD_GUARDMIN
    let m := s.ctx c CF.MISSES
    let thr := s.get Fld.TIDE_GUARD_MISSTHR
    let w := if thr ≤ m then min (w * 2 ^ (m - thr + 1)) (interval / 2) else w
    ((pred - w).toNat, (pred + w).toNat)

/-- Present a reception on pans (kinds 0x1, 0x2, 0x7, and the receiving side of a connected event). -/
def presentRx (a : Activity) (chs : List (Nat × Nat)) (together : List (Nat × Nat)) (want boundary : Nat) (s : State) :
    State :=
  let lc := laneChoice s want a.kind (bandOf a.mode) a.useFrom a.useTo a.id
  let a := { a with lane := if s.paired ∧ lc.1 = 0 then 0 else lc.2, npans := chs.length }
  if a.kind ≠ .listen ∧ a.kind ≠ .leScan ∧ !ctxOpen s a.ctx then refuseAct a 0x0212 s
  else if lc.1 ≠ 0 then refuseAct a lc.1 s
  else
    let f := rxCentre s a chs together
    let a := { a with centre := f }
    match readyCheck s a f boundary false with
    | none => refuseAct a 0x0101 (laneTune a.lane f s)
    | some a => prepare a f (settle a s)

/-- An LE transmission's first refusal at presentation (R170, R171, R348), or 0. -/
def lePresentCode (s : State) (a : Activity) (airtime : Nat) : Nat :=
  match a.sub with
  | none => 0x0302
  | some k => if dwellExceeded s k airtime then 0x0303 else if !dutyAllows s k airtime then 0x0301 else 0

/-- Present an LE activity that begins with a transmission or needs the whole lane. -/
def presentLe (a : Activity) (want boundary airtime : Nat) (transmits : Bool) (s : State) : State :=
  let a := { a with sub := if transmits then subBandOf s (chanKHz a.mode a.chan) a.mode else none }
  let lc := laneChoice s want a.kind 0 a.useFrom a.useTo a.id
  let a := { a with lane := if s.paired ∧ transmits ∧ lc.1 = 0 then pairedTxLane s (0x10000 + a.ctx) else lc.2 }
  if lc.1 ≠ 0 then refuseAct a lc.1 s
  else
    let code := if transmits then lePresentCode s a airtime else 0
    if code ≠ 0 then refuseAct a code s
    else
      let f := chanFreq a.mode a.chan
      match readyCheck s a f boundary transmits with
      | none => refuseAct a 0x0101 (laneTune a.lane f s)
      | some a =>
        if lbtLead s a ≠ 0 ∧ a.launch < s.now + lbtLead s a then refuseAct a 0x0305 s
        else listenDue (prepare a f (settle a s))

/-- Does a peripheral skip this event under latency (R366)? -/
def leSkips (s : State) (t : List Byte) (c : Nat) : Bool :=
  let k := leLink s c
  eb t 16 % 4 == 1 && testBit' (eb t 16) 2 && k.established && k.queue.isEmpty && k.sent.isNone && !k.md
  && k.skipped < s.ctx c CF.LATENCY

/-- Present the LE connection event of an entry (R365 to R367). -/
def presentLeConn (a : Activity) (t : List Byte) (want boundary : Nat) (s : State) : State :=
  let c := a.ctx
  if !ctxOpen s c ∨ !s.ctxBit c CF.CONN then refuseAct a 0x0212 s
  else if leSkips s t c then
    let s := setLeLink { leLink s c with skipped := (leLink s c).skipped + 1 } (connAdvance a s)
    setTlLaunch a.id (near40 s.now (s.ctx c CF.CEANCHOR)) s
  else
    let st := stagedApply c (s.ctx c CF.LEEVCTR) a.id s
    let s := st.2
    let t0 := near40 s.now (s.ctx c CF.CEANCHOR)
    let chan := csa2 (s.ctx c CF.CHID) (s.ctx c CF.LEEVCTR) (s.ctx c CF.LECHMAP)
    let central := eb t 16 % 4 = 0
    let w := if central then 0 else leWindow s c (40000 * s.ctx c CF.LEINTERVAL * ((leLink s c).skipped + 1))
    let mode := phyMode (s.ctx c (if central then CF.TXPHY else CF.RXPHY))
    let a := { a with mode := mode, chan := chan, tlaunch := t0, launch := t0 - w, useFrom := t0 - w,
                      useTo := t0 + w + st.1 + max (ew t 20) 11520 }
    presentLe a want boundary (leAirtime mode 0) central s

/-- The context that an entry of a kind names (Table SCHED-4): kinds 0x2, 0x3 and 0x7 ignore CTX (512 none). -/
def entryCtx (s : State) (n : Nat) (k : ActKind) : Nat :=
  if k == .listen || k == .beacon || k == .leScan then 512 else s.tl n TF.CTX

/-- The tide time from which an entry's activity is presented (R323): TLAUNCH less LEAD and L, or for a reception from a context
with an anchor its window's opening less LEAD. -/
def presentFrom (s : State) (n mode chan : Nat) (k : ActKind) : Nat :=
  let tl := s.tl n TF.TLAUNCH
  let lead := s.get Fld.LINK_SCHCFG_LEAD
  let c := s.tl n TF.CTX
  if k = .rxCtx then
    (if s.ctxBit c CF.ANCHORVALID then (rxWindow s c tl (s.tl n TF.PERIOD)).1 - lead else tl - lead)
  else if k = .listen ∨ k = .leScan then tl - lead
  else tl - lead - (match subBandOf s (chanKHz mode chan) mode with
    | some b => if lbtTicks s b = 0 then 0 else lbtTicks s b + turnRound
    | none => 0)

/-- The channel of entry n's activity under template t: the entry's own, the template's, or its context's (R319). -/
def entryChan (s : State) (n : Nat) (t : List Byte) : Nat :=
  if s.tl n TF.CHAN ≠ 0xFF then s.tl n TF.CHAN else if tChan t ≠ 0xFF then tChan t else s.ctx (s.tl n TF.CTX) CF.CHAN

/-- The tide time from which entry n is presented; without its template it is refused then. -/
def entryPresentFrom (s : State) (n : Nat) : Nat :=
  match s.tmpl (s.tl n TF.TMPL) with
  | some t => presentFrom s n (tMode t) (entryChan s n t) (actKind (tKind t))
  | none => s.tl n TF.TLAUNCH - s.get Fld.LINK_SCHCFG_LEAD

/-- TL_PRESENT for entry n (R323, R325). `boundary`: ticks to the next step boundary or the end of port settling of a lane
that calibrates, is tested or settles; `fails`: the key slot's stored check does not match. -/
def presentEntry (n boundary : Nat) (fails : Bool) (s : State) : State :=
  let held : Bool := match s.act n with | some a => a.phase != .deferred | none => false
  if s.tl n TF.VALID = 0 ∨ !s.has Fld.LINK_SCHCFG_EN ∨ held then s
  else
    let tl := s.tl n TF.TLAUNCH
    let c := s.tl n TF.CTX
    let want := s.tl n TF.LANE
    let base : Activity := { id := n, kind := .tx, mode := 0, chan := 0, lane := want - 1, ctx := c, tlaunch := tl, launch := tl }
    match s.tmpl (s.tl n TF.TMPL) with
    | none => refuseAct base 0x0211 s
    | some t =>
      let k := actKind (tKind t)
      let past := decide (tl < s.now)
      let old := s.act n
      let ch := entryChan s n t
      let launch := match old with
        | some o => max o.launch s.now
        | none => if past then s.now else tl
      let a := { base with
        kind := k, mode := tMode t, chan := ch, prio := tPrio t, latepol := tLatepol t, ctx := entryCtx s n k,
        past := past, late := past || old.isSome, launch := launch, tmpl := t,
        frame := match old with | some o => o.frame | none => none }
      if old.isNone ∧ s.now < presentFrom s n a.mode ch k then s
      else
      let s := s.dropAct n
      if past ∧ old.isNone ∧ !a.latepol then refuseAct a 0x0223 s
      else match k with
        | .tx | .beacon => presentTx a t want boundary fails s
        | .listen =>
          let a := { a with useFrom := a.launch, useTo := a.launch + tRxwin t }
          presentRx a (pansWanted a (tPans t)) (pansTogether s n a.mode) want boundary s
        | .rxCtx =>
          let s := anchorFresh c s
          let w := rxWindow s c tl (s.tl n TF.PERIOD)
          let a := { a with launch := max w.1 (if past then s.now else 0), useFrom := w.1, useTo := w.2 }
          presentRx a [(a.mode, a.chan)] (pansTogether s n a.mode) want boundary s
        | .conn =>
          if !ctxOpen s c ∨ !s.ctxBit c CF.CONN then refuseAct a 0x0212 s
          else
            let s := anchorFresh c (stagedApply c (s.ctx c CF.EVCTR) n s).2
            let a := { a with chan := eventChannel s c }
            if s.ctxBit c CF.CENTRAL then presentTx a t want boundary fails s
            else
              let w := rxWindow s c tl (1024 * s.ctx c CF.INTERVAL)
              let a := { a with launch := w.1, useFrom := w.1, useTo := max w.2 (tl + tRxwin t) }
              let a := if s.tl n TF.TXDESC < 48 then { a with frame := some (entryFrame s a t none) } else a
              presentRx a [(a.mode, a.chan)] (pansTogether s n a.mode) want boundary s
        | .leAdv =>
          let chan := 37 + ((bitsOf 3 (eb t 17)).headD 0)
          let delay := 1024 * (s.freeNat % 313)
          let s := s.freeNext
          let ext := 3 ≤ eb t 16 % 8
          let n0 := if ext then 7 else 6 + eh t 20
          let air := leAirtime a.mode n0
          let a := { a with chan := chan, launch := a.launch + delay, useFrom := a.launch + delay,
                            useTo := a.launch + delay + popCount 3 (eb t 17) * (air + 4800)
                              + (if ext then 32 * eh t 28 + leAirtime (phyMode (eb t 16 / 8 % 4)) (min 255 (eh t 20)) else 0) }
          presentLe a want boundary air true s
        | .leScan =>
          let a := { a with chan := scanChannel s n t, useFrom := a.launch, useTo := a.launch + ew t 20 }
          presentRx a [(a.mode, a.chan)] (pansTogether s n a.mode) want boundary (scanAdvance n s)
        | .leConn => presentLeConn a t want boundary s
        | _ =>
          let a := { a with mode := 2, chan := 17, useFrom := a.launch, useTo := a.launch + csAirtime t * 4 }
          if csPaths s < csAntennas (eb t 16 / 32) (eb t 16 % 2) then refuseAct a 0x0264 s
          else
            let adm := linkAdmit (eb t 22) 0 fails s
            if adm.1 ≠ 0 then refuseAct a adm.1 adm.2
            else presentLe a want boundary (csAirtime t) true adm.2

/-- TL_PRESENT (R323). -/
def execTlPresent (entry : Fin 64) (boundary : Nat) (keyCheckFails : Bool) (s : State) : Out :=
  .next (presentEntry entry.val boundary keyCheckFails s)

/-! ### Arming and cancelling (R322, R325) -/

/-- Arm entry n. -/
def tlArm (n : Nat) (s : State) : State :=
  if s.tl n TF.VALID = 1 then s
  else
    let tl := s.tl n TF.TLAUNCH
    match s.tmpl (s.tl n TF.TMPL) with
    | none => refusalCounts 0x0211 (s.tl n TF.LANE - 1) 512 n 0 (lastResult n 0x0211 false (s.setTl n TF.RESULT 0x0211))
    | some t =>
      let s := setTlLaunch n tl (setTlValid n true s)
      if tl < s.now ∧ !tLatepol t then refuseAct { id := n, kind := actKind (tKind t), mode := tMode t, chan := 0,
                                                   lane := s.tl n TF.LANE - 1, ctx := entryCtx s n (actKind (tKind t)),
                                                   tlaunch := tl, past := true } 0x0223 s else s

/-- TL_ARM (R322): by LINK_TLCMD or by TK_LINK_ARMn. -/
def execTlArm (entry : Fin 64) (byTask : Bool) (s : State) : Out :=
  .next (tlArm entry.val (if byTask then s.takeTask (TK.LINK_ARM entry.val) else s))

/-- A forward step has carried TIDE_NOW past TLAUNCH of entries that have not launched (R325): those with LATEPOL = 0 are
refused, and an activity that its lane already has goes on with LATE status. -/
def tlCross (s : State) : State :=
  s.forEach (List.range 64) (fun n s =>
    if s.tl n TF.VALID = 1 ∧ s.tl n TF.TLAUNCH < s.now then
      match s.act n, s.tmpl (s.tl n TF.TMPL) with
      | some a, _ => if a.phase ≠ .presented ∧ a.phase ≠ .deferred then s
        else if a.latepol then s.setAct { a with late := true, past := true } else refuseAct { a with past := true } 0x0223 s
      | none, some t => if tLatepol t then s
        else refuseAct { id := n, kind := actKind (tKind t), mode := tMode t, chan := 0, lane := s.tl n TF.LANE - 1,
                         ctx := entryCtx s n (actKind (tKind t)), tlaunch := s.tl n TF.TLAUNCH, past := true } 0x0223 s
      | none, none => s
    else s)

/-- A step moves the supervision deadlines with TIDE_NOW, so that no timer is advanced or held back (R29). -/
def supShift (old : Nat) (s : State) : State :=
  s.forEach (List.range 512) (fun c s =>
    if s.ctxBit c CF.CONN then s.setCtx c CF.SUPDL ((s.ctx c CF.SUPDL + s.now + 2 ^ 40 - old % 2 ^ 40) % 2 ^ 40) else s)

/-- A step of tide time as the whole device sees it (R29, R84, R117, R325). -/
def timeStep (delta : Int) (s : State) : State := tlCross (supShift s.now (tideStep delta s))

/-- TL_CANCEL (R322). -/
def execTlCancel (entry : Fin 64) (s : State) : Out :=
  let n := entry.val
  let s := match s.act n with
    | some a => if a.sending then s.setAct { a with cancelled := true } else endAct a 0x0222 s
    | none => s
  .next (setTlValid n false s)

/-! ### Launch (R321) -/

/-- The code that refuses any launch on a lane: ownership, retirement (R152, R184), or 0. -/
def launchCode (s : State) (l : Nat) : Nat := if s.retired l then 0x0104 else if s.owner l = 1 then 0x0106 else 0

/-- A launch happened: LASTT, counts, events, trace. -/
def launched (a : Activity) (t fcnt : Nat) (s : State) : State :=
  let s := if a.id < 64 then (s.setTl a.id TF.LASTT t).fire EV.LINK_TLLAUNCH else s
  let s := s.inc Fld.LINK_SCHCNT_LAUNCH
  let s := if a.late then s.inc Fld.LINK_SCHCNT_LATE else s
  let s := if a.laneLate then ((s.flag (Fld.LANE_FLAGS_LATE a.lane)).inc (Fld.LANE_CNT_LATE a.lane)).fire (EV.LANE_LATE a.lane)
    else s
  traceWrite 0 a.lane 0 a.ctx a.id fcnt s

/-- Emit a native frame from a lane at launch time t: debit, clamp, first sample, record of what leaves the port. -/
def emitNative (a : Activity) (f : TxFrame) (t : Nat) (psdu : List Byte) (mV : Nat) (s : State) : State :=
  let k := a.sub.getD 0
  let s := dutyDebit k f.airtime s
  let freq := chanFreq a.mode a.chan
  let s := laneLeaveRx a.lane 0x0154 2 s
  let s := if s.get (Fld.LANE_FREQ_FREQ a.lane) = freq then s else laneShift a.lane freq s
  let s := laneStartTx a.lane (powerClamp a.lane k f.level mV s)
  { s with link := { s.link with air := setNth s.link.air a.lane (some
    (airNative s a.lane a.mode a.chan f.hdr f.seq f.table t psdu (targetPower s a.lane k f.level mV))) } }

/-- The element of a frame that leaves reports its entry as it stands (R292, R337). -/
def dackRefresh (f : TxFrame) (s : State) : TxFrame :=
  if f.dack.isEmpty then f
  else match s.dacks.find? (fun d => d.src == f.dst && d.map < 2 ^ 16 && d.act.isNone
      && (dackElement d).take 5 == f.dack.take 5) with
    | some d => { f with dack := dackElement d }
    | none => f

/-- The deferred-ack entry that an element or a block-ack carried out of the port is cleared; a block-ack is counted
(R337, Table SCHED-6). -/
def dackLeft (a : Activity) (f : TxFrame) (s : State) : State :=
  let kept := fun (d : DackEntry) => if a.kind = .blockAck then d.act != some a.id
    else f.dack.isEmpty || d.src != f.dst || dackElement d != f.dack
  let ds := s.dacks.filter kept
  let s := if ds.length = s.link.dacks.length then s else setDacks ds s
  if a.kind = .blockAck then (s.inc Fld.LINK_SCHCNT_BLOCKACK).fire EV.LINK_BLOCKACK else s

/-- Launch a native transmission (R321, R332): FCNT at the first launch, header and PSDU for its sync reference point. -/
def launchTx (a : Activity) (f : TxFrame) (mV : Nat) (s : State) : State :=
  let t := max a.launch s.now
  let first := f.fcnt.isNone
  let fcnt := match f.fcnt with | some c => c | none => if f.micsz = 0 then 0 else txCounter s f.pctx f.kid
  let s := if first ∧ f.micsz ≠ 0 then txTake f.pctx f.kid s else s
  let t64 := t + 3 * tsym a.mode
  let f := dackRefresh f s
  let f := { f with fcnt := some fcnt, t64 := t64,
                    hdr := headerBuild f.type f.len f.loadidx f.rate f.rep (boolBit f.ackreq) (headerStratum s),
                    tries := if first then 0 else f.tries + 1 }
  let s := emitNative a f t (txPsdu s f fcnt t64) mV s
  let s := s.setAct { a with phase := .running, sending := true, frame := some f }
  let s := if first ∧ f.desc < 48 then s.setDesc f.desc DF.BUSY 1 else s
  let s := s.ctxCount f.pctx CF.TXFRAMES
  let s := if first then s else (s.ctxCount f.pctx CF.RETRIES).inc Fld.LINK_SCHCNT_RETRY
  let s := dackLeft a f s
  let s := if f.prof.isEmpty then s else profSent f.dst s
  launched a t fcnt s

/-- Native launch refusals at the launch itself: supply, reference, listening (R543, R122, R172). -/
def nativeLaunchCode (s : State) (a : Activity) : Nat :=
  if launchCode s a.lane ≠ 0 then launchCode s a.lane
  else if s.dip then 0x0701
  else if txRefCode s ≠ 0 then txRefCode s
  else if a.kind ≠ .leAdv ∧ lbtLead s a ≠ 0 ∧ !a.lbtDone then 0x0305
  else 0

/-- Launch a transmission, or refuse or defer it. -/
def tryLaunchTx (a : Activity) (f : TxFrame) (mV : Nat) (s : State) : State :=
  let code := nativeLaunchCode s a
  if code ≠ 0 then refuseAct a code s
  else if s.laneSt a.lane = 4 then
    let free := s.acts.foldl (fun m b => if b.lane == a.lane && b.sending then max m b.useTo else m) s.now
    loseConflict a free false (s.dropAct a.id)
  else if f.fcnt.isNone ∧ f.micsz ≠ 0 ∧ txExhausted s f.pctx f.kid then refuseTx a f 0x020C s
  else launchTx a f mV (preemptLane a.lane a.id s)

/-- Start a reception on pans. -/
def launchRx (a : Activity) (chs : List (Nat × Nat)) (s : State) : State :=
  let code := if launchCode s a.lane ≠ 0 then launchCode s a.lane else rxRefCode s
  if code ≠ 0 then refuseAct a code s
  else if (rxLanes s a.lane).any (fun l => s.laneSt l == 4) then loseConflict a s.now false (s.dropAct a.id)
  else
    let l := rxLane s a.lane
    let s := if laneReceives s l ∧ (s.lane l).rxFreq = a.centre then s
      else setRxFreq a.lane a.centre (preemptLane a.lane a.id s)
    let op := openPans l chs (rxOn a.lane (s.setAct { a with phase := .running, pans := [] }))
    launched a (max a.launch s.now) 0 (op.2.setAct { a with phase := .running, pans := op.1 })

/-- The access address and CRC of LE pans. -/
def lePans (ps : List Nat) (aa crc : Nat) (s : State) : State :=
  s.forEach ps (fun p s => (s.wr (Reg.MODEM_PANAA p) (BitVec.ofNat 32 aa)).wr (Reg.MODEM_PANCRC p) (BitVec.ofNat 32 crc))

/-- Listen on one LE channel for the rest of an event. -/
def leListen (a : Activity) (mode chan aa crc : Nat) (s : State) : State :=
  let s := setRxFreq a.lane (freqOfKHz (chooseCentre [(mode, chan)] [])) (pansFree a s)
  let op := openPans (rxLane s a.lane) [(mode, chan)] (rxOn a.lane (s.setAct { a with phase := .running, pans := [] }))
  lePans op.1 aa crc (op.2.setAct { a with phase := .running, pans := op.1 })

/-- Power of an LE activity (R358). -/
def leLevel (s : State) (a : Activity) (t : List Byte) : Int :=
  toS 8 (if a.kind = .leConn then s.ctx a.ctx CF.PWR else if tPwr t = 0x80 then s.ctx a.ctx CF.PWR else tPwr t)

/-- Send a chain of packets on one channel from a place on, T_MAFS between them (R355), stopping at the first refusal; the code is
the first refusal's, or 0. -/
def leSendAll (level : Int) (mV : Nat) : LeAir → List (List Byte) → State → Nat × State
  | _, [], s => (0, s)
  | w, p :: t, s =>
    let r := leSend w level p mV s
    if r.1 ≠ 0 then r
    else leSendAll level mV { w with start := w.start + 16 * (leAirtime w.mode (p.length - 2) + tMafs : Nat), listen := none } t r.2

/-- Ticks from the start of a primary packet to the next channel's: DESIGN CHOICE (notes/assumptions/85.md). -/
def advSpacing (mode n : Nat) : Nat := leAirtime mode n + tIfs

/-- One advertising PDU on each of some channels, from a launch time in 1/16 tick on; the first code that refuses one (R360). Each
listens in its own band (R172). -/
def leAdvertise (a : Activity) (level : Int) (pdu : List Byte) (mV : Nat) : Int → List Nat → State → Nat × State
  | _, [], s => (0, s)
  | start, c :: t, s =>
    let x := leSend ⟨a.lane, a.mode, c, advAA, advCrc, start, a.listenOf c⟩ level pdu mV s
    let y := leAdvertise a level pdu mV (start + 16 * (advSpacing a.mode (pdu.length - 2) : Nat)) t x.2
    (if x.1 ≠ 0 then x.1 else y.1, y.2)

/-- An advertising event (R360): the primary channels in ascending order, then the auxiliary packets. -/
def launchAdv (a : Activity) (t : List Byte) (mV : Nat) (s : State) : State :=
  let ty := eb t 16 % 8
  let rand := testBit' (eb t 16) 5
  let level := leLevel s a t
  let chans := (bitsOf 3 (eb t 17)).map (fun b => 37 + b)
  let legacy := advPdu (if ty = 0 then 0 else if ty = 1 then 6 else 2) rand false
    (leAddr s rand ++ advData s (eb t 18) (eh t 20))
  let ext := advPdu 7 false false (bytesLE 1 (6 + 64 * (if ty = 4 then 1 else if ty = 5 then 2 else 0)) ++ bytesLE 1 24
    ++ bytesLE 2 (eb t 17 / 16 * 4096) ++ bytesLE 3 0)
  let pdu := if ty < 3 then legacy else ext
  let start : Nat := max a.launch s.now
  let r := leAdvertise a level pdu mV (16 * start) chans (preemptLane a.lane a.id s)
  let sec := if eb t 30 = 0xFF then r.2.freeNat % 37 else eb t 30
  let s := if ty < 3 ∨ eb t 30 ≠ 0xFF then r.2 else r.2.freeNext
  let ds := auxChunks 8 (advData s (eb t 18) (eh t 20))
  let aux := ds.zipIdx.map (fun x => auxPdu s rand (if ty = 4 then 1 else if ty = 5 then 2 else 0) (eb t 17 / 16) x.2 ds.length x.1)
  let secMode := phyMode (eb t 16 / 8 % 4)
  let auxStart := start + (chans.length - 1) * advSpacing a.mode (pdu.length - 2) + leAirtime a.mode (pdu.length - 2)
    + 32 * eh t 28
  let r := if ty < 3 ∨ r.1 ≠ 0 then (r.1, s)
    else leSendAll level mV ⟨a.lane, secMode, sec, advAA, advCrc, 16 * auxStart, a.listenOf 0xFF⟩ aux s
  if r.1 ≠ 0 then refuseAct a r.1 r.2
  else
    let s := launched a (max a.launch r.2.now) 0 (r.2.inc Fld.LINK_LECNT_ADVEVT)
    if ty = 2 ∨ ty = 3 then s.setAct { a with phase := .running }
    else if ty < 3 then leListen a a.mode (chans.getLastD 37) advAA advCrc s
    else leListen a secMode sec advAA advCrc s

/-- An LE connection event begins (R366): the central sends, the others listen. -/
def launchLeConn (a : Activity) (t : List Byte) (mV : Nat) (s : State) : State :=
  let c := a.ctx
  let s := preemptLane a.lane a.id s
  let s := setLeLink { leLink s c with skipped := 0 } s
  let r := if eb t 16 % 4 = 0 then leSendData a (16 * (max a.launch s.now : Nat)) (a.listenOf a.chan) (leLevel s a t) mV s else (0, s)
  if r.1 ≠ 0 then refuseAct a r.1 r.2
  else
    let s := launched a (max a.launch r.2.now) 0 r.2
    leListen a (phyMode (s.ctx c CF.RXPHY)) a.chan (s.ctx c CF.AA) (s.ctx c CF.CRCINIT) s

/-- The octets of a Channel Sounding step record (R373). Mode 1: `value` is ToA as the port's timestamp has it less ToD, and the
receive delay of the record's path comes off (R371, R374). -/
def csBytes (s : State) (r : CsRecord) : List Byte :=
  let path := (bitsOf 4 r.pathStatus).headD 0
  let v := if r.mode = 1 then ofS 32 (toS 32 r.value - csPathDly s path 0) else r.value
  bytesLE 1 r.mode ++ bytesLE 1 r.chan ++ bytesLE 1 r.pathStatus ++ bytesLE 1 r.rssi ++ bytesLE 4 v
  ++ (if r.mode = 2 then r.tones.flatMap (fun x => bytesLE 4 (x % 2 ^ 26)) else [])

/-- Whole records that fit n octets. -/
def csFit : Nat → List (List Byte) → List (List Byte)
  | _, [] => []
  | n, b :: t => if b.length ≤ n then b :: csFit (n - b.length) t else []

/-- The lanes of a procedure tune to a step's channel (R368): both of them while antenna paths 2 and 3 are available. -/
def csTune (a : Activity) (chan : Nat) (s : State) : State :=
  s.forEach (if csPaths s = 4 then [a.lane, otherLane a.lane] else [a.lane]) (fun l s =>
    if s.laneSt l = 4 then s else laneTune l (freqOfKHz (2402000 + 1000 * chan)) (laneLeaveRx l 0x0154 2 (preemptLane l a.id s)))

/-- A Channel Sounding procedure (R368 to R373): the lanes go from step to step, and stay locked on the last one's channel. -/
def launchCs (a : Activity) (t : List Byte) (steps : List CsRecord) (cut : Bool) (mV : Nat) (s : State) : State :=
  let s := steps.foldl (fun s r => csTune a r.chan s) (preemptLane a.lane a.id s)
  let k := a.sub.getD 0
  let s := dutyDebit k (csAirtime t) s
  let s := laneStartTx a.lane (powerClamp a.lane k (leLevel s a t) mV s)
  let start : Int := 16 * (max a.launch s.now : Nat)
  let s := { s with link := { s.link with air := setNth s.link.air a.lane (some
    { hdr := 0, octets := [], t64 := max a.launch s.now, mode := 2, chan := a.chan,
      level := targetPower s a.lane k (leLevel s a t) mV, carrier := carrierOf s a.lane (chanFreq 2 a.chan), start := start,
      dac := dacStart start (csPathDly s (2 * a.lane) 1) }) } }
  let recs := steps.map (csBytes s)
  let kept := csFit (128 * eb t 21) recs
  let s := s.setBytes (cellAddr (eb t 20)) kept.flatten
  let s := launched a (max a.launch s.now) 0 s
  let s := lifeAir (2 * a.lane) (csAirtime t) (laneEndTx a.lane 2 none s)
  s.setAct { a with phase := .running, result := some (if cut ∨ kept.length < recs.length then 0x0264 else 0) }

/-- The channel of an entry's activity under a template; connected and LE connection events have theirs from their context. -/
def laterChan (s : State) (a : Activity) (t : List Byte) : Nat :=
  if a.kind = .conn ∨ a.kind = .leConn ∨ a.kind = .leScan ∨ a.kind = .leAdv ∨ a.kind = .cs then a.chan
  else if a.id < 64 ∧ s.tl a.id TF.CHAN ≠ 0xFF then s.tl a.id TF.CHAN
  else if tChan t ≠ 0xFF then tChan t else s.ctx a.ctx CF.CHAN

/-- An activity that launches goes by the template and the lane roles in force (R75), with the code of a choice of lane that
they make anew; its frame, where they change, is built again and checked as at its presentation. -/
def asCommitted (s : State) (a : Activity) (t : List Byte) : Activity × Nat :=
  let b := if a.tmpl = t then a
    else
      let b := { a with tmpl := t, mode := if a.kind.isLe then a.mode else tMode t, chan := laterChan s a t, prio := tPrio t,
                        latepol := tLatepol t }
      { b with sub := if a.sub.isSome then subBandOf s (chanKHz b.mode b.chan) b.mode else none,
               frame := a.frame.map (fun f => entryFrame s b t (some f)),
               centre := if a.kind.isRx ∨ a.npans ≠ 0 then freqOfKHz (chooseCentre [(b.mode, b.chan)] []) else a.centre }
  let lc := if rolesHeld s b.lane b.kind (bandOf b.mode) then (0, b.lane)
    else laneChoice s (if b.id < 64 then s.tl b.id TF.LANE else 0) b.kind (bandOf b.mode) b.useFrom b.useTo b.id
  let code := match b.frame with
    | some f => if a.tmpl = t then 0 else if txPreCode s b t f 0 ≠ 0 then txPreCode s b t f 0 else txPostCode s b f
    | none => 0
  ({ b with lane := lc.2 }, if lc.1 ≠ 0 then lc.1 else code)

/-- The launch of a presented activity under its template `t`, by its kind. -/
def launchKind (a : Activity) (t : List Byte) (supply : Nat) (csSteps : List CsRecord) (csCut : Bool) (s : State) : State :=
  match a.kind with
  | .tx | .beacon | .blockAck => (match a.frame with | some f => tryLaunchTx a f supply s | none => refuseAct a 0x0231 s)
  | .conn => if s.ctxBit a.ctx CF.CENTRAL then
      (match a.frame with | some f => tryLaunchTx a f supply s | none => refuseAct a 0x0231 s)
    else launchRx a [(a.mode, a.chan)] s
  | .rxCtx => launchRx a [(a.mode, a.chan)] s
  | .listen => launchRx a (pansWanted a (tPans t)) s
  | .leScan =>
    let s := launchRx a [(a.mode, a.chan)] s
    lePans (match s.act a.id with | some b => b.pans | none => []) advAA advCrc s
  | .forward | .ack => s
  | k =>
    let tx := k == .leAdv || k == .cs || (k == .leConn && eb t 16 % 4 == 0)
    let code := if tx then nativeLaunchCode s a
      else if launchCode s a.lane ≠ 0 then launchCode s a.lane else rxRefCode s
    if code ≠ 0 then refuseAct a code s
    else if s.laneSt a.lane = 4 then loseConflict a s.now false (s.dropAct a.id)
    else if k = .leAdv then launchAdv a t supply s
    else if k = .leConn then launchLeConn a t supply s
    else launchCs a t csSteps csCut supply s

/-- Does a presented activity begin with a transmission? -/
def Activity.transmits (s : State) (a : Activity) : Bool :=
  match a.kind with
  | .rxCtx | .listen | .leScan => false
  | .conn => s.ctxBit a.ctx CF.CENTRAL
  | .leConn => eb a.tmpl 16 % 4 == 0
  | _ => true

/-- Would a peripheral's own frame, with its ack, pass the end of its event (R339)? -/
def pastRxwin (s : State) (a : Activity) (f : TxFrame) : Bool :=
  decide (a.tlaunch + tRxwin a.tmpl < s.now + f.airtime
    + (if f.ackreq then turnRound + airtime (5 + micOctets f.micsz) 48 0 f.rep a.mode else 0))

/-- ACTIVITY_LAUNCH (R321). `supply` in mV; for Channel Sounding the steps as measured, and whether a relock or launch
could not be met (R369). A connected event's peripheral launches a second time for its own frame, unless the exchange would
pass RXWIN with it: the event then ends early and the frame stays queued (R339). -/
def execActivityLaunch (act : Nat) (supply : Nat) (csSteps : List CsRecord) (csCut : Bool) (s : State) : Out :=
  match s.act act with
  | none => .next s
  | some a =>
    if a.phase = .presented then
      match (if a.id < 64 then s.tmpl (s.tl a.id TF.TMPL) else some a.tmpl) with
      | none => .next (refuseAct a 0x0211 s)
      | some t =>
        let c := asCommitted s a t
        if c.2 ≠ 0 then .next (refuseAct c.1 c.2 s)
        else match settleCheck s c.1 (c.1.transmits s) with
          | none => .next (refuseAct c.1 0x0101 s)
          | some b => if b.launch ≠ c.1.launch ∧ s.now < b.launch then .next (s.setAct b)
            else .next (launchKind b t supply csSteps csCut s)
    else if a.phase = .running ∧ a.kind = .conn ∧ !a.sending ∧ a.heard ∧ !s.ctxBit a.ctx CF.CENTRAL then
      .next (match a.frame with
        | some f => if f.fcnt.isNone then
            let a := { a with sub := subBandOf s (chanKHz a.mode a.chan) a.mode, launch := s.now }
            let code := txPostCode s a f
            if pastRxwin s a f then endAct { a with frame := none } 0 s
            else if nativeLaunchCode s a ≠ 0 then refuseAct a (nativeLaunchCode s a) s
            else if code ≠ 0 then refuseTx a f code s
            else launchTx a f supply s
          else s
        | none => s)
    else .next s

/-! ### Ends -/

/-- Listen for the ack of a frame that has been sent (R308, R332). -/
def awaitAck (a : Activity) (s : State) : State :=
  let a := { a with phase := .ackWait, sending := false, pans := [] }
  let s := setRxFreq a.lane (freqOfKHz (chooseCentre [(a.mode, a.chan)] [])) (pansFree a s)
  let op := openPans (rxLane s a.lane) [(a.mode, a.chan)] (rxOn a.lane (s.setAct a))
  op.2.setAct { a with pans := op.1 }

/-- A connected or LE event ends (R339, R341, R366). -/
def endEvent (a : Activity) (s : State) : State :=
  let c := a.ctx
  if a.kind = .leConn then
    let k := leLink s c
    let s := setLeLink { k with events := k.events + 1 } s
    let s := if a.heard then s
      else traceWrite 8 a.lane 0x0241 c a.id 0 ((s.inc Fld.LINK_LECNT_ANCHMISS).ctxCount c CF.MISSTOT)
    let s := endAct a (if a.heard then 0 else 0x0241) s
    if !k.established ∧ 5 ≤ k.events then linkEnd c 0x0266 s else s
  else endAct a (a.result.getD 0) s

/-- ACTIVITY_END (R324, R157): the last sample has left the port (the detector's measurement with it), or the activity's
time on the lane is over. -/
def execActivityEnd (act : Nat) (delivered : BitVec 8) (s : State) : Out :=
  match s.act act with
  | none => .next s
  | some a =>
    if a.sending then
      let s := laneEndTx a.lane 1 (some delivered.toNat) s
      let acked := match a.frame with | some f => f.ackreq | none => false
      .next (if acked then awaitAck a s else endAct a 0 s)
    else if a.phase = .running then .next (endEvent a s)
    else .next s

/-- A frame stays unacknowledged after its last retransmission (R332, R244). -/
def noAck (a : Activity) (f : TxFrame) (s : State) : State :=
  let s := (s.inc Fld.LINK_SCHCNT_NOACK).fire EV.LINK_NOACK
  let s := if ctxOpen s f.pctx ∧ f.loadidx ≠ 0 then
      let s := s.ramCount (ctxAddr f.pctx) CF.LDFAIL 1
      if s.get Fld.MODEM_LOADCFG_LOADFALL ≤ s.ctx f.pctx CF.LDFAIL then tableDrop f.pctx (s.setCtx f.pctx CF.LDFAIL 0) else s
    else s
  endAct a 0x0230 s

/-- ACK_WINDOW_CLOSE (R332): no ack was accepted. -/
def execAckWindowClose (act : Nat) (s : State) : Out :=
  match s.act act with
  | none => .next s
  | some a =>
    match a.phase, a.frame with
    | .ackWait, some f =>
      if f.tries < f.retries ∧ !a.cancelled then
        .next (laneAfter a.lane ((pansFree a s).setAct { a with phase := .retryWait, pans := [] }))
      else .next (noAck a f s)
    | _, _ => .next s

/-- RETRY_TIMER (R332): the frame is presented again with its FCNT, as a new launch (notes/assumptions/31.md). -/
def execRetryTimer (act : Nat) (boundary : Nat) (keyCheckFails : Bool) (s : State) : Out :=
  match s.act act with
  | none => .next s
  | some a =>
    if a.phase ≠ .retryWait then .next s
    else
      let t := if a.id < 64 then s.tmpl (s.tl a.id TF.TMPL) else (match s.link.fwds.find? (fun f => f.q + 64 == a.id) with
        | some f => s.tmpl f.tmpl
        | none => none)
      match t with
      | none => .next (refuseAct a 0x0211 s)
      | some t =>
        let want := if a.id < 64 then s.tl a.id TF.LANE else 0
        .next (presentTx { a with launch := s.now, lbtDone := false, listening := false, tmpl := t } t want boundary keyCheckFails s)

/-! ### Block-acks (R337) -/

/-- The frame of a block-ack for a deferred-ack entry. -/
def blockAckFrame (s : State) (a : Activity) (t : List Byte) (d : DackEntry) : TxFrame :=
  let f := entryFrame s a t none
  let g := { f with desc := 0x3F, type := 2, dst := d.src, ackreq := false, fbreq := false, mesh := [], payload := [],
                    fields := bytesLE 1 d.kid ++ bytesLE 4 d.base ++ bytesLE 4 d.map, dack := [], prof := [],
                    retries := 0 }
  let ld := loadingTo s a.mode d.src t
  let g := { g with pctx := ld.1, key := (keyFor s ld.1 g.kid 0 0).2, loadidx := ld.2.1, rate := ld.2.2.1, table := ld.2.2.2 }
  let len := txLength s g
  { g with len := len, airtime := airtime len (ncbpsOf g.table) g.rate g.rep a.mode }

/-- The block-ack of entry k is presented as activity id: the entry is fixed until the frame leaves. -/
def markDack (k id : Nat) (s : State) : State :=
  { s with link := { s.link with dacks := s.link.dacks.modify k (fun d => { d with act := some id }) } }

/-- The lowest activity number from 136 that is free. -/
def dackId (s : State) : Nat :=
  136 + ((List.range (s.acts.length + 1)).find? (fun k => (s.act (136 + k)).isNone)).getD 0

/-- The block-ack of a deferred-ack entry: its frame, its activity, and the code of the choice of lane. It is presented LEAD + L
before its launch (R323, notes/assumptions/31.md). -/
def dackPlan (id : Nat) (d : DackEntry) (t : List Byte) (s : State) : TxFrame × Activity × Nat :=
  let ch := if tChan t ≠ 0xFF then tChan t else s.ctx d.ctx CF.CHAN
  let a : Activity := { id := id, kind := .blockAck, mode := tMode t, chan := ch, lane := 0, prio := tPrio t,
                        latepol := tLatepol t, ctx := d.ctx, tlaunch := s.now, launch := s.now, tmpl := t }
  let a := { a with sub := subBandOf s (chanKHz a.mode a.chan) a.mode }
  let f := blockAckFrame s a t d
  let launch := s.now + s.get Fld.LINK_SCHCFG_LEAD + lbtLead s a
  let a := { a with frame := some f, tlaunch := launch, launch := launch }
  let a := { a with useFrom := launch - prepTicks s a, useTo := launch + f.airtime + turnRound }
  let lc := laneChoice s 0 a.kind (bandOf a.mode) a.useFrom a.useTo a.id
  (f, { a with lane := if s.paired ∧ lc.1 = 0 then pairedTxLane s f.dst else lc.2 }, lc.1)

/-- DACK_TIMEOUT (R337): entry k is presented as a block-ack; a refused one leaves it in the table. -/
def execDackTimeout (k : Fin 16) (boundary : Nat) (keyCheckFails : Bool) (s : State) : Out :=
  match s.dacks[k.val]? with
  | none => .next s
  | some d =>
    if d.act.isSome then .next s
    else
    let id := dackId s
    let s := markDack k.val id s
    let base : Activity := { id := id, kind := .blockAck, mode := 0, chan := 0, lane := 0, ctx := d.ctx, tlaunch := s.now,
                             launch := s.now }
    match s.tmpl (s.get Fld.LINK_ACKCFG_BATMPL) with
    | none => .next (refuseAct base 0x0211 s)
    | some t =>
      let p := dackPlan id d t s
      let f := p.1
      let a := p.2.1
      let pre := txPreCode s a t f p.2.2
      if pre ≠ 0 then .next (refuseAct a pre s)
      else
        let adm := linkAdmit f.key 0 keyCheckFails s
        if adm.1 ≠ 0 then .next (refuseAct a adm.1 adm.2)
        else
          let post := if f.micsz = 0 then 0x0201 else txPostCode adm.2 a f
          if post ≠ 0 then .next (refuseTx a f post adm.2)
          else
            let freq := chanFreq a.mode a.chan
            match readyCheck adm.2 a freq boundary true with
            | none => .next (refuseAct a 0x0101 (laneTune a.lane freq adm.2))
            | some a => .next (listenDue (prepare a freq (settle a adm.2)))

/-! ### Supervision, trace -/

/-- SUPERVISION_TIMEOUT (R341, R366): once TIDE_NOW has passed SUPDL. -/
def execSupervisionTimeout (ctx : Fin 512) (s : State) : Out :=
  .next (if near40 s.now (s.ctx ctx.val CF.SUPDL) < s.now then linkEnd ctx.val 0x0240 s else s)

/-- TRACESTOP (R353). -/
def execTracestop (s : State) : Out := .next ((s.takeTask TK.LINK_TRACESTOP).unflag Fld.LINK_TRACECFG_EN)

end Sys2Proof.Machine
end

