-- ==== Sys2Proof/Machine/Lanes.lean ====
section
/-!
DEFINITION. The lanes' own commands: stepwise mode (R152 to R155, R162), port settling (R149), listen-before-talk (R172),
PA protection (R166), health tests (R179 to R181), retirement, takeover and restoration (R182 to R185).
-/

namespace Sys2Proof.Machine

/-- PORT_SETTLED (R149): the lane may enter RX or TX. -/
def execPortSettled (lane : Lane) (s : State) : Out :=
  .next (s.setLane lane.val { s.lane lane.val with settling := false, waitPort := false })

/-! ### Stepwise transmissions: the duty debit as they run (R349), start, end -/

/-- Bring the debit of a running stepwise TX up to the present (R349). -/
def stepDebit (l : Nat) (s : State) : State :=
  match (s.lane l).txSub with
  | none => s
  | some k =>
    if s.duty k = 1000000 then s
    else
      let b := s.bucket k
      let c := b.credit + (s.duty k * (s.elapsed - b.since) : Nat) - (1000000 * (s.elapsed - (s.lane l).txPaid) : Nat)
      (s.setBucket k { credit := min (bucketCap (s.duty k)) c, since := s.elapsed }).setLane l
        { s.lane l with txPaid := s.elapsed }

/-- End a stepwise TX; the lane goes to state `dest`. -/
def stepEndTx (l dest : Nat) (s : State) : State :=
  let s := stepDebit l s
  laneEndTx l dest none (s.setLane l { s.lane l with txSub := none })

/-- The sub-band of a stepwise TX from LANE_FREQ, in steps of 1/512 Hz (R170). -/
def stepSubBand (s : State) (l mode : Nat) : Option Nat :=
  let c := s.get (Fld.LANE_FREQ_FREQ l) * 15625
  let h := 51200 * halfWidth100Hz mode
  (List.range s.rf.bands.length).find? (fun k =>
    51200000 * s.get (Fld.RF_SBFREQ_FLO k) + h ≤ c && c + h ≤ 51200000 * s.get (Fld.RF_SBFREQ_FHI k))

/-- The code that refuses a stepwise TX, or 0 (R543, R122, R170, R171, R349). -/
def stepTxCode (s : State) (l : Nat) : Nat :=
  if s.dip then 0x0701
  else if txRefCode s ≠ 0 then txRefCode s
  else match stepSubBand s l (s.lane l).goalMode with
    | none => 0x0302
    | some k =>
      if s.get (Fld.RF_SBDWELL_DWELL k) = 0 then 0x0303
      else if s.duty k ≠ 1000000 ∧ credit s k ≤ 0 then 0x0301 else 0

/-- A stepwise entry to RX or TX is refused: the lane stays locked in SYNTH. -/
def stepRefuse (l code : Nat) (s : State) : State :=
  let s := s.setLane l { s.lane l with goal := none, lbtWait := false, lbtClear := false }
  let s := if code = 0x0303 then dwellFlag l s else s
  let s := match code, stepSubBand s l (s.lane l).goalMode with
    | 0x0301, some k => dutyRefused k s
    | _, _ => s
  if laneIssues code then laneCode l code s else s

/-- From SYNTH into TX. A sub-band with a listen time is listened to first (R172). -/
def stepEnterTx (l mV : Nat) (s : State) : State :=
  let code := stepTxCode s l
  if code ≠ 0 then stepRefuse l code s
  else
    let k := (stepSubBand s l (s.lane l).goalMode).getD 0
    if lbtTicks s k ≠ 0 ∧ !(s.lane l).lbtClear then s.setLane l { s.lane l with lbtWait := true }
    else
      let s := laneStartTx l (powerClamp l k (s.getS (Fld.LANE_PWR_LEVEL l)) mV (bucketSettle k s))
      s.setLane l { s.lane l with txSub := some k, txPaid := s.elapsed, lbtClear := false, lbtWait := false }

/-- Lock on LANE_FREQ, with the full VCO calibration where CALMODE asked for it; a result within its limits is stored (R200,
R201). -/
def stepLock (l : Nat) (res : Word) (fault : Bool) (s : State) : State :=
  let s := laneLock l (s.setLaneSt l 2)
  if (s.lane l).fullCal then
    let s := s.setLane l { s.lane l with fullCal := false }
    match vcoEntry (kHzOfFreq (s.get (Fld.LANE_FREQ_FREQ l))) with
    | some n => if calCode n res.toNat fault = 0 then calStore l n res (s.getS (Fld.LANE_CALTEMP_TEMP l)) s else s
    | none => s
  else s

def stepArrived (l : Nat) (s : State) : State := s.setLane l { s.lane l with goal := none }

/-- One transition of Table LANE-3 ends, on the way to the goal (R153). -/
def stepSegment (l mV : Nat) (res : Word) (fault : Bool) (s : State) : State :=
  let st := s.laneSt l
  let locked := s.has (Fld.LANE_STAT_LOCK l) && (s.lane l).lockedFreq == s.get (Fld.LANE_FREQ_FREQ l) && !(s.lane l).fullCal
  let standby := fun s : State => (stepArrived l (laneUnlock l (s.setLaneSt l 1))).fire (EV.LANE_STANDBY l)
  let down := fun (dest : Nat) (s : State) => if st = 4 then stepEndTx l dest s else laneLeaveRx l 0x0154 dest s
  match (s.lane l).goal with
  | none => s
  | some g =>
    if 5 ≤ st then s
    else match g with
      | .sleep => stepArrived l (laneUnlock l ((down 0 s).setLaneSt l 0))
      | .standby => standby (down 1 s)
      | .synth => if st = 0 then s.setLaneSt l 1
        else if 3 ≤ st then laneUnlock l (down 1 s)
        else stepArrived l (stepLock l res fault s)
      | .rx => if st = 0 then s.setLaneSt l 1
        else if st = 4 then laneUnlock l (down 1 s)
        else if st = 3 then stepArrived l s
        else if st = 1 ∨ !locked then stepLock l res fault s
        else if (s.lane l).settling then s.setLane l { s.lane l with waitPort := true }
        else if rxRefCode s ≠ 0 then stepRefuse l (rxRefCode s) s
        else laneEnterRx l s
      | .tx => if st = 0 then s.setLaneSt l 1
        else if st = 3 then laneUnlock l (down 1 s)
        else if st = 4 then stepArrived l s
        else if st = 1 ∨ !locked then stepLock l res fault s
        else if (s.lane l).settling then s.setLane l { s.lane l with waitPort := true }
        else if (s.lane l).lbtWait then s
        else stepEnterTx l mV s

/-- LANE_TRANSITION_DONE (R153). `supply` is VDDIN in mV; `calResult` is what a full VCO calibration found, `calFault` that no band
code locked (R200, Table CAL-4). -/
def execLaneTransitionDone (lane : Lane) (supply : BitVec 16) (calResult : Word) (calFault : Bool) (s : State) : Out :=
  .next (stepSegment lane.val supply.toNat calResult calFault s)

/-! ### Stepwise commands (R152, R158, R162, R184) -/

/-- A stepwise command is rejected (R152, R184). -/
def laneReject (l : Nat) (s : State) : State := (s.flag (Fld.LANE_FLAGS_CMDREJ l)).fire (EV.LANE_CMDREJ l)

/-- A stepwise command: rejected unless software owns the lane and it is in service, else it sets the target. -/
def stepCommand (l k : Nat) (byTask : Bool) (v : LaneState → LaneState) (s : State) : State :=
  let s := if byTask then s.takeTask (TK.LANE l k) else s
  if s.owner l = 0 ∨ s.retired l then laneReject l s
  else
    let s := laneYield l s
    s.setLane l (v { s.lane l with lbtWait := false, lbtClear := false, fullCal := false })

/-- LANE_SLEEP (R152). -/
def execLaneSleep (lane : Lane) (byTask : Bool) (s : State) : Out :=
  .next (stepCommand lane.val 0 byTask (fun v => { v with goal := some .sleep }) s)

/-- LANE_STANDBY (R153). -/
def execLaneStandby (lane : Lane) (byTask : Bool) (s : State) : Out :=
  .next (stepCommand lane.val 1 byTask (fun v => { v with goal := some .standby }) s)

/-- LANE_SYNTH (R153, R200); a task uses CALMODE 0. -/
def execLaneSynth (lane : Lane) (byTask : Bool) (calmode : Bool) (s : State) : Out :=
  .next (stepCommand lane.val 2 byTask (fun v => { v with goal := some .synth, fullCal := calmode && !byTask }) s)

/-- LANE_RX (R155). -/
def execLaneRx (lane : Lane) (byTask : Bool) (s : State) : Out :=
  .next (stepCommand lane.val 3 byTask (fun v => { v with goal := some .rx }) s)

/-- LANE_TX (R155); `mode` is the modulation that software transmits with, numbered as in Table RXC-5. -/
def execLaneTx (lane : Lane) (byTask : Bool) (mode : Fin 5) (s : State) : Out :=
  .next (stepCommand lane.val 4 byTask (fun v => { v with goal := some .tx, goalMode := mode.val }) s)

/-- LANE_ABORT (R152): back to STANDBY. -/
def execLaneAbort (lane : Lane) (byTask : Bool) (s : State) : Out :=
  .next (stepCommand lane.val 5 byTask (fun v => { v with goal := some .standby }) s)

/-- SYNTH_LOCK_TIMEOUT (R154): the lane returns to STANDBY with 0x0102; what it prepares ends with that code. -/
def execSynthLockTimeout (lane : Lane) (s : State) : Out :=
  let l := lane.val
  let s := laneUnlock l (s.setLaneSt l 1)
  let s := s.setLane l { s.lane l with goal := none, fullCal := false, lbtWait := false }
  let s := s.forEach (s.acts.filter (fun a => a.lane == l && a.phase == .presented)) (fun a s => refuseAct a 0x0102 s)
  .next (laneCode l 0x0102 ((s.flag (Fld.LANE_FLAGS_LOCKFAIL l)).fire (EV.LANE_LOCKFAIL l)))

/-- End a running stepwise TX with a code; the lane goes to STANDBY. -/
def stepCut (l : Nat) (s : State) : State :=
  if (s.lane l).txSub.isSome then
    let s := laneUnlock l (stepEndTx l 1 s)
    s.setLane l { s.lane l with goal := none }
  else s

/-- STEPWISE_DWELL_EXPIRY (R171). -/
def execStepwiseDwellExpiry (lane : Lane) (s : State) : Out :=
  let l := lane.val
  .next (if (s.lane l).txSub.isSome then dwellFlag l (laneCode l 0x0303 (stepCut l s)) else s)

/-- STEPWISE_DUTY_EXHAUST (R349): the credit has reached 0. The code 0x0301 is none of Table LANE-9. -/
def execStepwiseDutyExhaust (lane : Lane) (s : State) : Out := .next (stepCut lane.val s)

/-! ### Listen-before-talk (R172, R173) -/

/-- The result of a listen period: the mean in 1/100 dBm, rounded down to a whole dBm, against LBTTHR. -/
def lbtBusy (s : State) (k : Nat) (mean : Int) : Bool := s.getS (Fld.RF_SBPWR_LBTTHR k) ≤ mean / 100

def lbtBusyMarks (l : Nat) (s : State) : State :=
  ((s.flag (Fld.LANE_FLAGS_LBTBUSY l)).inc (Fld.LANE_CNT_LBTBUSY l)).fire (EV.LANE_LBTBUSY l)

/-- The sub-band in which an activity's packet on a channel falls; 0xFF stands for an advertising event's auxiliary packet, on its
secondary channel, and where that is drawn at random for the band of its primary channels. -/
def listenBand (s : State) (a : Activity) (chan : Nat) : Option Nat :=
  if chan = 0xFF then
    let m := phyMode (eb a.tmpl 16 / 8 % 4)
    subBandOf s (chanKHz m (if eb a.tmpl 30 = 0xFF then a.chan else eb a.tmpl 30)) m
  else subBandOf s (chanKHz a.mode chan) a.mode

/-- The channels an activity has still to listen to before its launch: an advertising event listens on each of its channels, in
that channel's own band, before the launch step (notes/assumptions/86.md). -/
def listenChans (s : State) (a : Activity) : List Nat :=
  let chans := if a.kind = .leAdv then
      (bitsOf 3 (eb a.tmpl 17)).map (fun b => 37 + b) ++ (if 3 ≤ eb a.tmpl 16 % 8 then [0xFF] else [])
    else if a.sub.isSome then [a.chan] else []
  if a.phase ≠ .presented then []
  else chans.filter (fun c => (a.listenOf c).isNone && (match listenBand s a c with
    | some k => lbtTicks s k != 0
    | none => false))

/-- Did a transmission of the lane hold a part of a listen period of t ticks that ends now (R175)? -/
def listenHeld (s : State) (l t : Nat) : Bool :=
  s.laneSt l == 4 || (match (s.lane l).txTo with | some e => decide (s.elapsed < e + t) | none => false)

/-- The end of activity a's listen period on a channel in sub-band k, with the measured mean (R172, R175). -/
def listenEnd (a : Activity) (c k : Nat) (mean : Int) (s : State) : State :=
  let l := a.lane
  if listenHeld s l (lbtTicks s k) then refuseAct a 0x0305 s
  else if lbtBusy s k mean then
    (if a.kind = .leAdv then lbtBusyMarks l (s.setAct { a with busy := a.busy ++ [c] })
      else refuseAct a 0x0304 (lbtBusyMarks l s))
  else (s.setAct (if a.kind = .leAdv then { a with clear := a.clear ++ [c] } else { a with lbtDone := true })).fire (EV.LANE_LBTCLEAR l)

/-- LBT_LISTEN_END (R172): for the stepwise TX that waits, or the earliest presented activity that has to listen. -/
def execLbtListenEnd (lane : Lane) (mean : Int) (s : State) : Out :=
  let l := lane.val
  let v := s.lane l
  if v.lbtWait then
    let k := (stepSubBand s l v.goalMode).getD 0
    if lbtBusy s k mean then .next (stepRefuse l 0x0304 (lbtBusyMarks l s))
    else .next ((s.setLane l { v with lbtWait := false, lbtClear := true }).fire (EV.LANE_LBTCLEAR l))
  else
    let wait := s.acts.filter (fun a => a.lane == l && !(listenChans s a).isEmpty)
    match wait.foldl (fun (b : Option Activity) a => match b with
      | none => some a
      | some c => if a.launch < c.launch then some a else some c) none with
    | none => .next s
    | some a =>
      let c := (listenChans s a).headD a.chan
      let k := (listenBand s a c).getD 0
      .next (listenEnd { a with listening := true } c k mean (if a.listening then s else lbtTune a s))

/-! ### Health tests (R179 to R181) -/

/-- Does an activity that the lane has been presented launch within t ticks? -/
def launchNear (s : State) (l t : Nat) : Bool :=
  s.acts.any (fun a => a.lane == l && a.phase == .presented && decide (a.launch < s.now + t))

/-- The next step of a test starts and holds an idle lane, unless the lane has an activity to prepare within the step's 8 us plus
40 us (R179); its synthesiser has been elsewhere afterwards. A test that already holds the lane gives it back then. -/
def healthHold (l : Nat) (s : State) : State :=
  if s.laneSt l = 6 then (if launchNear s l 1536 then s.setLaneSt l (s.lane l).idleState else s)
  else if s.laneSt l ≤ 2 ∧ (s.lane l).goal.isNone ∧ !launchNear s l 1536 ∧ !s.acts.any (fun a => a.lane == l && a.isRunning) then
    stepResumed 1 (laneUnlock l ((s.setLane l { s.lane l with idleState := min 1 (s.laneSt l) }).setLaneSt l 6))
  else s

/-- A test starts; one that runs goes on. -/
def healthStart (l : Nat) (s : State) : State :=
  if s.has (Fld.LANE_HSTAT_RUNNING l) then s
  else healthHold l ((s.flag (Fld.LANE_HSTAT_RUNNING l)).setLane l { s.lane l with hStep := 1, hAgain := false })

/-- A test ends or is abandoned. -/
def healthEnd (l : Nat) (s : State) : State :=
  let s := (s.unflag (Fld.LANE_HSTAT_RUNNING l)).unflag (Fld.LANE_CTL_HEALTHREQ l)
  let s := s.setLane l { s.lane l with hStep := 0, hAgain := false }
  if s.laneSt l = 6 then s.setLaneSt l (s.lane l).idleState else s

/-- LANE_HEALTHREQ (R179, R184): whatever OWNER is, and for a retired lane too. -/
def execLaneHealthreq (lane : Lane) (byTask : Bool) (s : State) : Out :=
  let l := lane.val
  let s := if byTask then s.takeTask (TK.LANE l 6) else s.flag (Fld.LANE_CTL_HEALTHREQ l)
  .next (healthStart l s)

/-- HEALTH_PERIOD (R179, R181). -/
def execHealthPeriod (lane : Lane) (s : State) : Out :=
  let l := lane.val
  let s := s.setLane l { s.lane l with paFaults := 0 }
  let s := if s.has (Fld.LANE_HSTAT_RUNNING l) then healthEnd l (s.inc (Fld.LANE_HCNT_INCOMPLETE l)) else s
  .next (healthStart l s)

/-- PA_FAULT (R166): what transmits ends, a native frame or the LE activity whose packet it was. -/
def execPaFault (lane : Lane) (s : State) : Out :=
  let l := lane.val
  let s := (s.flag (Fld.LANE_FLAGS_PAFAULT l)).fire (EV.LANE_PAFAULT l)
  let s := laneCode l 0x0103 (stepCut l s)
  let sending := s.acts.filter (fun a => a.lane == l && a.sending)
  let s := s.forEach sending (fun a s => cutTx a 0x0103 s)
  let le := s.acts.filter (fun a => a.lane == l && a.kind.isLe && a.isRunning)
  let s := if sending.isEmpty then s.forEach le (fun a s => endAct a 0x0103 s) else s
  let n := (s.lane l).paFaults + 1
  let s := s.setLane l { s.lane l with paFaults := n }
  .next (if n = 3 then healthStart l s else s)

/-! ### Retirement, takeover, restoration (R182 to R185) -/

/-- The retirement flag of a lane in SYSCFG_FOSTAT. -/
def fostatLane (l : Nat) : Field := if l = 0 then Fld.SYSCFG_FOSTAT_LANEARET else Fld.SYSCFG_FOSTAT_LANEBRET

/-- Retire a lane (R182, R183), unless the other one is retired. What runs on it ends with 0x0113; an idle lane issues no code. -/
def laneRetire (l : Nat) (s : State) : State :=
  if s.retired l then s
  else if s.retired (otherLane l) then laneCode l 0x0120 (s.flag (Fld.LANE_FLAGS_HEALTHFAIL l))
  else
    let busy := s.laneSt l = 3 ∨ s.laneSt l = 4
    let s := s.flag (Fld.LANE_STAT_RETIRED l)
    let s := healthEnd l (laneYield l s)
    let s := if s.laneSt l = 3 then panLaneStop l 0x0113 s else s
    let s := endLaneActs l 0x0113 s
    let s := laneLeaveRx l 0x0113 7 (if (s.lane l).txSub.isSome then stepEndTx l 7 s else s)
    let s := portsOpen l (laneUnlock l (s.setLaneSt l 7))
    let s := if busy then laneCode l 0x0113 s else s
    let s := s.setLane l { s.lane l with goal := none, lbtWait := false, fullCal := false }
    let s := s.setLane (otherLane l) { s.lane (otherLane l) with takeover := true }
    let s := (refreshRoles (s.flag (fostatLane l))).fire (EV.LANE_RETIRED l)
    lifeCount 20 (8 * l) 8 1 (lifeCode 0x0113 (1 + l) s)

/-- HEALTH_STEP_DONE (R179, R180). -/
def execHealthStepDone (lane : Lane) (pass : Bool) (s : State) : Out :=
  let l := lane.val
  let v := s.lane l
  if !s.has (Fld.LANE_HSTAT_RUNNING l) ∨ (s.laneSt l ≠ 6 ∧ s.laneSt l ≠ 7) then .next s
  else if pass then
    if v.hStep < 7 then .next (healthHold l (s.setLane l { v with hStep := v.hStep + 1 }))
    else .next (((healthEnd l (s.put (Fld.LANE_HSTAT_LASTSTEP l) 0)).inc (Fld.LANE_HCNT_RUNS l)).fire (EV.LANE_HEALTHPASS l))
  else if !v.hAgain then .next (healthHold l (s.setLane l { v with hStep := 1, hAgain := true }))
  else
    let s := healthEnd l (s.put (Fld.LANE_HSTAT_LASTSTEP l) v.hStep)
    .next (laneRetire l (((s.inc (Fld.LANE_HCNT_RUNS l)).inc (Fld.LANE_HCNT_FAILS l)).fire (EV.LANE_HEALTHFAIL l)))

/-- LANE_RETIRE (R182): the bit clears itself. -/
def execLaneRetire (lane : Lane) (s : State) : Out := .next ((laneRetire lane.val s).unflag (Fld.LANE_CTL_RETIRE lane.val))

/-- LANE_TAKEOVER (R183): the surviving lane takes the other lane's roles over. -/
def execLaneTakeover (lane : Lane) (s : State) : Out :=
  let l := lane.val
  .next (if (s.lane l).takeover ∧ s.retired (otherLane l) then
    (refreshRoles (s.setLane l { s.lane l with takeover := false })).fire (EV.LANE_TAKEOVER l)
  else s)

/-- LANE_RESTORE (R185). -/
def execLaneRestore (lane : Lane) (s : State) : Out :=
  let l := lane.val
  .next (if s.retired l ∧ s.get (Fld.LANE_HSTAT_LASTSTEP l) = 0 then
    (s.flag (Fld.LANE_CTL_RESTORE l)).setLane l { s.lane l with restoring := true }
  else (s.flag (Fld.LANE_FLAGS_CMDREJ l)).unflag (Fld.LANE_CTL_RESTORE l))

/-- LANE_ROLES_RETURN (R185): the restored lane comes back in STANDBY. -/
def execLaneRolesReturn (lane : Lane) (s : State) : Out :=
  let l := lane.val
  if !(s.lane l).restoring then .next s
  else
    let s := healthEnd l s
    let s := ((s.unflag (Fld.LANE_STAT_RETIRED l)).unflag (Fld.LANE_CTL_RESTORE l)).unflag (fostatLane l)
    let s := (s.setLaneSt l 1).setLane l { s.lane l with restoring := false, takeover := false }
    let s := s.setLane (otherLane l) { s.lane (otherLane l) with takeover := false }
    .next ((refreshRoles s).fire (EV.LANE_RESTORED l))

end Sys2Proof.Machine
end

