-- ==== Sys2Proof/Machine/Cal.lean ====
section
/-!
DEFINITION. Calibration: the store and staleness (R188 to R195), the engine (R196 to R202), the crystal trim and RC64
tracking (R203, R204), and the loss of and return to the crystal (R121 to R125, R176, R205, R206).
-/

namespace Sys2Proof.Machine

/-! ### The store and staleness -/

/-- LANE_TEMP_SAMPLE (R194, R192). `temp` is the sensor's reading in °C; `parityBad` marks the entries whose parity fails
at this check, `upset` those that lose their parity after it. -/
def execLaneTempSample (lane : Lane) (temp : BitVec 8) (parityBad : BitVec 17) (upset : BitVec 17) (s : State) : Out :=
  let l := lane.val
  let bad := fun (x : BitVec 17) (s : State) => s.setLane l { s.lane l with calBad := (s.lane l).calBad ++ bitsOf 17 x.toNat }
  if !s.domOn (9 + l) then .next (bad upset s)
  else .next (bad upset (calCheck l (bad parityBad (s.put (Fld.LANE_CALTEMP_TEMP l) temp.toNat))))

/-- CALREQ_WRITE (R193). -/
def execCalreqWrite (lane : Lane) (value : Word) (s : State) : Out :=
  .next (s.forEach (bitsOf 17 value.toNat) (fun n s => calMark lane.val n s))

/-- LANE_CAL_TASK (R193). -/
def execLaneCalTask (lane : Lane) (s : State) : Out :=
  .next ((s.takeTask (TK.LANE lane.val 7)).forEach (List.range 17) (fun n s => calMark lane.val n s))

/-- CAL_RETRY_TIMER (R202). -/
def execCalRetryTimer (lane : Lane) (entry : Fin 17) (s : State) : Out :=
  let v := s.lane lane.val
  .next (s.setLane lane.val { v with calRetry := v.calRetry.filter (fun k => k != entry.val) })

/-! ### The engine -/

/-- The earliest activity presented to a lane. -/
def nextPresented (s : State) (l : Nat) : Option Activity :=
  (s.acts.filter (fun a => a.lane == l && a.phase == .presented)).foldl (fun (b : Option Activity) a => match b with
    | none => some a
    | some c => if a.launch < c.launch then some a else some c) none

/-- The entries of a band in the order of R197; `first`: the VCO entry of the next activity's frequency. -/
def calBandOrder (band : Nat) (first : Option Nat) : List Nat :=
  let vco := if band = 0 then [0, 1, 2, 3] else [4, 5]
  let vco := match first with | some f => if vco.contains f then f :: vco.filter (fun k => k != f) else vco | none => vco
  vco ++ (if band = 0 then [9, 10, 11, 12, 6] else [13, 14, 15, 16, 7])

/-- The order of R197. -/
def calOrder (s : State) (l : Nat) : List Nat :=
  match nextPresented s l with
  | some a => 8 :: (calBandOrder (bandOf a.mode) (vcoEntry (chanKHz a.mode a.chan)) ++ calBandOrder (1 - bandOf a.mode) none)
  | none => 8 :: (calBandOrder 0 none ++ calBandOrder 1 none)

/-- The entry that the engine takes next: stale, not held, not waiting for its retry. -/
def calNext (s : State) (l : Nat) : Option Nat :=
  (calOrder s l).find? (fun n => s.has (Fld.LANE_CALMETA_STALE l n) && s.get (Fld.LANE_CALMETA_FAILCNT l n) != 3
    && !(s.lane l).calRetry.contains n)

/-- The steps of an entry's kind (Table CAL-2). -/
def calSteps (n : Nat) : Nat := match calKind n with | .vco => 19 | .image => 12 | .filter => 5 | .dc => 2

/-- FREQ the engine locks on for an entry: its centre, or the last VCO centre of its band. -/
def calFreq (n : Nat) : Nat :=
  freqOfKHz (match calKind n with | .vco => calCentre n | _ => if calBand n = 0 then 2473000 else 915000)

/-- Must the engine relock for entry n (Table CAL-2, R198)? -/
def calNeedsLock (s : State) (l n : Nat) : Bool :=
  let locked := s.has (Fld.LANE_STAT_LOCK l)
  match calKind n with
  | .filter => false
  | .vco => !(locked && (s.lane l).lockedFreq == calFreq n)
  | _ => !(locked && s.laneBand l == calBand n)

/-- May the engine start a step (R196)? The lane is idle, and nothing presented launches within 42 us. -/
def calMayRun (s : State) (l : Nat) : Bool :=
  s.has (Fld.LANE_CALCFG_BGEN l) && !s.retired l && !s.has (Fld.LANE_HSTAT_RUNNING l)
  && (s.laneSt l == 1 || (s.laneSt l == 2 && s.owner l == 0)) && (s.lane l).goal.isNone
  && !s.acts.any (fun a => a.lane == l && a.isRunning) && !launchNear s l 1344

/-- May the engine go on with the next step of the entry it works on (R196)? -/
def calGoesOn (s : State) (l : Nat) : Bool :=
  s.has (Fld.LANE_CALCFG_BGEN l) && !s.retired l && !launchNear s l 1344

/-- The engine stops between two steps; the entry can go on as a yielded one (R196, R199). -/
def calPause (l : Nat) (s : State) : State :=
  let s := (s.setLaneSt l 1).setLane l { s.lane l with calYield := true, calAbortAt := s.elapsed }
  if s.owner l = 1 then laneUnlock l s else s

/-- A step is over and step k is next: the engine goes on or stops before it (R196). -/
def calNextStep (l k : Nat) (s : State) : State :=
  let s := s.put (Fld.LANE_CALSTAT_STEP l) k
  if calGoesOn s l then s else calPause l s

/-- The engine takes the lane, from own step `own` of entry n on: STATE 5, a relock first where one is needed. -/
def calTake (l n own : Nat) (s : State) : State :=
  let need := calNeedsLock s l n
  let s := if need then laneUnlock l s else s
  let v := s.lane l
  let s := s.setLane l { v with calYield := false, idleState := 1, calRelock := if need then 11 else 0, calFrom := own }
  let s := ((s.flag (Fld.LANE_CALSTAT_BUSY l)).put (Fld.LANE_CALSTAT_ENTRY l) n).put (Fld.LANE_CALSTAT_STEP l)
    (if need then 1 else own)
  { s.setLaneSt l 5 with yielded := s.yielded.filter (fun k => k != 0) }

/-- Start an entry at its first step. -/
def calBegin (l n : Nat) (s : State) : State :=
  calTake l n 1 (s.setLane l { s.lane l with calTemp := s.getS (Fld.LANE_CALTEMP_TEMP l) })

/-- The yielded calibration of a lane goes on at its aborted step, or starts again (R199). -/
def calResume (l : Nat) (s : State) : State :=
  let v := s.lane l
  if !calMayRun s l || !s.has (Fld.LANE_CALSTAT_BUSY l) || !v.calYield then s
  else
    let n := s.get (Fld.LANE_CALSTAT_ENTRY l)
    let step := s.get (Fld.LANE_CALSTAT_STEP l)
    let keeps := s.elapsed ≤ v.calAbortAt + 320000 ∧ (s.getS (Fld.LANE_CALTEMP_TEMP l) - v.calTemp).natAbs < 2
    if keeps then calTake l n (if step ≤ v.calRelock then v.calFrom else step - v.calRelock) s
    else calBegin l n (s.inc (Fld.LANE_CALCNT_RESTARTS l))

/-- CAL_STEP_START (R196 to R199): the engine starts the next entry, or goes on with the yielded one. -/
def execCalStepStart (lane : Lane) (s : State) : Out :=
  let l := lane.val
  if s.has (Fld.LANE_CALSTAT_BUSY l) then .next (calResume l s)
  else if !calMayRun s l then .next s
  else match calNext s l with
    | some n => .next (calBegin l n s)
    | none => .next s

/-- The engine leaves the lane. With OWNER = 1 it leaves it in STANDBY (R196). -/
def calLeave (l : Nat) (s : State) : State :=
  let s := (s.unflag (Fld.LANE_CALSTAT_BUSY l)).setLaneSt l 1
  if s.owner l = 1 then laneUnlock l s else s

/-- A calibration fails (R202). -/
def calFail (l n code : Nat) (s : State) : State :=
  let c := min 3 (s.get (Fld.LANE_CALMETA_FAILCNT l n) + 1)
  let s := ((setCalFailed l n true s).put (Fld.LANE_CALMETA_FAILCNT l n) c).inc (Fld.LANE_CALCNT_FAILS l)
  if c = 3 then
    let s := s.setLane l { s.lane l with calHeld := (s.lane l).calHeld ++ [(n, s.getS (Fld.LANE_CALTEMP_TEMP l))] }
    healthStart l (((laneCode l code s).fire (EV.LANE_CALFAIL l)).flag (Fld.LANE_CTL_HEALTHREQ l))
  else s.setLane l { s.lane l with calRetry := (s.lane l).calRetry ++ [n] }

/-- A calibration succeeds (R201); a new filter result makes the image entries stale (R193). -/
def calSucceed (l n : Nat) (res : Word) (s : State) : State :=
  let s := (calStore l n res (s.lane l).calTemp s).inc (Fld.LANE_CALCNT_DONE l)
  let s := if n = 8 then calMark l 7 (calMark l 6 s) else s
  if s.get (Fld.LANE_CALSTALE_STALE l) = 0 then s.fire (EV.LANE_CALDONE l) else s

/-- CAL_STEP_DONE (R198, R201, R202). `result` and `fault` count at an entry's last step. -/
def execCalStepDone (lane : Lane) (result : Word) (fault : Bool) (s : State) : Out :=
  let l := lane.val
  let v := s.lane l
  if s.laneSt l ≠ 5 then .next s
  else
    let n := s.get (Fld.LANE_CALSTAT_ENTRY l)
    let k := s.get (Fld.LANE_CALSTAT_STEP l)
    if k < v.calRelock then .next (calNextStep l (k + 1) s)
    else if k = v.calRelock then
      let s := ((s.flag (Fld.LANE_STAT_LOCK l)).put (Fld.LANE_STAT_BAND l) (calBand n)).setLane l { v with lockedFreq := calFreq n }
      .next (calNextStep l (v.calRelock + v.calFrom) (panRecheck l (calUseVco l (calFreq n) s)))
    else if k < v.calRelock + calSteps n then .next (calNextStep l (k + 1) s)
    else
      let s := calLeave l s
      let code := calCode n result.toNat fault
      if code = 0 then .next (calSucceed l n result s) else .next (calFail l n code s)

/-! ### Oscillators -/

/-- XTRIM_WRITE (R203). -/
def execXtrimWrite (value : Word) (s : State) : Out :=
  if s.clkSrc = 1 then
    let d := ((value.toNat % 256 : Nat) : Int) - s.get Fld.RF_XTRIM_TRIM
    .next ((rateSet (s.rate + s.getS Fld.RF_XPULL_PULL * d) s).put Fld.RF_XTRIM_TRIM value.toNat)
  else .next (s.flag Fld.RF_CALSTAT_XTRIMREJ)

/-- The temperature that the RC64 tracker reads: LANE A's, or LANE B's while D9 is off (R204). -/
def rcTemp (s : State) : Int :=
  if s.domOn 9 then s.getS (Fld.LANE_CALTEMP_TEMP 0) else s.getS (Fld.LANE_CALTEMP_TEMP 1)

/-- RC64_TRACK (R204). `ppm` is how far RC64 is above 64 MHz; a higher TRIM makes it faster. -/
def execRc64Track (ppm : Int) (s : State) : Out :=
  if s.clkSrc ≠ 1 then .next s
  else
    let t := s.get Fld.RF_RC64TRIM_TRIM
    let stuck := (50 < ppm ∧ t = 0) ∨ (ppm < -50 ∧ t = 1023)
    let t' := if 50 < ppm then t - 1 else if ppm < -50 then min 1023 (t + 1) else t
    let s := ((s.put Fld.RF_RC64TRIM_TRIM t').putS Fld.RF_RC64TRIM_TEMP (rcTemp s)).flag Fld.RF_RC64TRIM_VALID
    .next (if stuck then lifeCode 0x0138 3 (s.unflag Fld.RF_RC64TRIM_VALID) else s)

/-- Everything in progress on a lane ends with the reference-loss code, its pans' frames first (R176, R254). -/
def laneReferenceLost (l : Nat) (s : State) : State :=
  let busy := s.laneSt l = 3 ∨ s.laneSt l = 4
  let s := if s.laneSt l = 3 then panLaneStop l 0x0110 s else s
  let s := stepCut l (endLaneActs l 0x0110 s)
  let s := if s.laneSt l = 3 then laneLeaveRx l 0x0110 1 s else s
  let s := s.setLane l { s.lane l with goal := none, lbtWait := false }
  if busy then laneCode l 0x0110 s else s

/-- The coarse trim of the RC64 procedure (R205 step 1). The factory temperature coefficient is given no value. -/
def rcCoarse (s : State) : State :=
  if s.has Fld.RF_RC64TRIM_VALID then
    (if rcTemp s = s.getS Fld.RF_RC64TRIM_TEMP then s else (s.put Fld.RF_RC64TRIM_TRIM s.freeNat).freeNext)
  else s.put Fld.RF_RC64TRIM_TRIM ((resetValue Reg.RF_RC64TRIM).toNat % 1024)

/-- The crystal-failure sequence (Table TIDE-3, R176) and the start of the RC64 procedure (R205, R206). -/
def xtalFail (s : State) : State :=
  let s := ((s.setClkSrc 0).flag Fld.TIDE_FLAGS_XTALFAIL).fire EV.TIDE_XTALFAIL
  let s := { s with tide := { s.tide with xtalFailed := true, awaitResid := true, discFrames := 0, discRing := 0,
                                          discLf := false } }
  let s := (s.put Fld.TIDE_CLKCTL_RESID 0xFF).unflag Fld.TIDE_CLKCTL_XTALOK
  let s := laneReferenceLost 1 (laneReferenceLost 0 s)
  let s := lifeCount 20 24 8 1 (lifeCode 0x0110 0x10 s)
  if s.tide.lfPresent then
    let s := rcCoarse s
    { s with rf := { s.rf with rcRunning := true, rcMeasures := 0 } }
  else lifeCode 0x0139 3 { s with rf := { s.rf with rcRunning := false } }

/-- XTAL_FAIL_DETECT (R121): while the crystal clocks the islands. -/
def execXtalFailDetect (s : State) : Out := .next (if s.clkSrc = 1 then xtalFail s else s)

/-- RC64_MEASURE (R205, R206). `counts` are RC64 cycles over 1024 LF cycles, against what TIDE_LFINC expects; `resid` is the
residual estimate of the second measurement in 0.25 ppm. -/
def execRc64Measure (counts : BitVec 32) (resid : BitVec 8) (s : State) : Out :=
  if !s.rf.rcRunning then .next s
  else
    let inc : Int := s.get Fld.TIDE_LFINC_INC
    let err : Int := 32 * (counts.toNat : Int) - inc
    if s.rf.rcMeasures = 0 then
      let t : Int := s.get Fld.RF_RC64TRIM_TRIM - roundDiv (err * 10000) inc.toNat
      if t < 0 ∨ 1023 < t then .next (lifeCode 0x0138 3 { s with rf := { s.rf with rcRunning := false } })
      else .next (({ s with rf := { s.rf with rcMeasures := 1 } }).put Fld.RF_RC64TRIM_TRIM t.toNat)
    else
      let corr := satS 24 (roundDiv (-err * 2 ^ 32) (32 * counts.toNat))
      let s := ((rateSet corr s).putS Fld.RF_REFCORR_CORR corr).put Fld.TIDE_CLKCTL_RESID resid.toNat
      let s := { s with rf := { s.rf with rcRunning := false, rcMeasures := 0 },
                        tide := { s.tide with discLf := true, awaitResid := s.tide.awaitResid && decide (8 < resid.toNat) } }
      .next (disciplineCheck s)

/-- DISCIPLINE_TIMEOUT (R124). -/
def execDisciplineTimeout (s : State) : Out :=
  if !s.tide.xtalFailed then .next s
  else
    let r := max (s.get Fld.TIDE_CLKCTL_RESID) 80
    let s := s.put Fld.TIDE_CLKCTL_RESID r
    let s := { s with tide := { s.tide with discFrames := 0, discRing := 0, discLf := false } }
    .next (if s.get Fld.TIDE_CLKCTL_DISCTHR < r ∧ s.clkSrc = 2 then s.setClkSrc 0 else s)

/-- XTALOK (R125): 1 while the crystal has run within 100 ppm of the reference for 100 ms; `within` false is the moment at
which it no longer does. -/
def execXtalok (within : Bool) (s : State) : Out :=
  .next (s.put Fld.TIDE_CLKCTL_XTALOK (if within then 1 else 0))

/-- XTAL_RETURN (R125): a write of 1 to RETURN. `difference` is the measured difference between the crystal and disciplined
RC64 in 2^-32. -/
def execXtalReturn (difference : Int) (s : State) : Out :=
  let s := s.unflag Fld.TIDE_CLKCTL_RETURN
  if s.has Fld.TIDE_CLKCTL_XTALOK ∧ s.clkSrc ≠ 1 then
    let s := (rateSet (satS 24 (s.rate + difference)) (s.setClkSrc 1)).put Fld.RF_REFCORR_CORR 0
    .next { s with tide := { s.tide with xtalFailed := false, awaitResid := false },
                   rf := { s.rf with rcRunning := false } }
  else .next s

end Sys2Proof.Machine
end

