-- ==== Sys2Proof/Machine/Modes.lean ====
section
/-!
DEFINITION. The block cipher modes of the queues (Table CIPH-3) and the KDF of the key store (R446).
-/

namespace Sys2Proof.Machine

/-! ### The inverse cipher (FIPS 197) -/

def aesInvSub (b : Byte) : Byte := BitVec.ofNat 8 (aesSbox.idxOf b)

def aesInvShiftRows (s : List Byte) : List Byte :=
  (List.range 16).map (fun i => s.getD ((i + 12 * (i % 4)) % 16) 0)

/-- The product of two octets of the field of AES. -/
def gfMul (a b : Byte) : Byte :=
  ((List.range 8).foldl (fun (x : Byte × Byte) i =>
    (if b.getLsbD i then x.1 ^^^ x.2 else x.1, xtime x.2)) (0#8, a)).1

def aesInvMixColumn (c : List Byte) : List Byte :=
  let g := fun i => c.getD (i % 4) 0
  (List.range 4).map (fun i => gfMul (g i) 14 ^^^ gfMul (g (i + 1)) 11 ^^^ gfMul (g (i + 2)) 13 ^^^ gfMul (g (i + 3)) 9)

def aesInvMixColumns (s : List Byte) : List Byte := (chunks 4 s).flatMap aesInvMixColumn

/-- The inverse rounds, over the round keys in reverse order without the first of them. -/
def aesInvRounds : List (List Byte) → List Byte → List Byte
  | [], s => s
  | [k], s => xorBytes ((aesInvShiftRows s).map aesInvSub) k
  | k :: ks, s => aesInvRounds ks (aesInvMixColumns (xorBytes ((aesInvShiftRows s).map aesInvSub) k))

/-- AES decryption of one block. -/
def aesDecrypt (key block : List Byte) : List Byte :=
  match (aesRoundKeys key).reverse with
  | [] => block
  | k0 :: ks => aesInvRounds ks (xorBytes block k0)

/-! ### ECB, CBC, CTR (SP 800-38A) -/

def ecb (decrypt : Bool) (key m : List Byte) : List Byte :=
  (chunks 16 m).flatMap (if decrypt then aesDecrypt key else aesEncrypt key)

def cbcEncrypt (key iv m : List Byte) : List Byte :=
  ((chunks 16 m).foldl (fun (x : List Byte × List Byte) b =>
    let c := aesEncrypt key (xorBytes x.2 b)
    (x.1 ++ c, c)) ([], iv)).1

def cbcDecrypt (key iv m : List Byte) : List Byte :=
  ((chunks 16 m).foldl (fun (x : List Byte × List Byte) b => (x.1 ++ xorBytes (aesDecrypt key b) x.2, b)) ([], iv)).1

/-- The counter block i steps on from iv: the low 32 bits count and wrap. -/
def ctrBlock (iv : List Byte) (i : Nat) : List Byte := iv.take 12 ++ bytesBE 4 ((natOfBE (iv.drop 12) + i) % 2 ^ 32)

def ctrMode (key iv m : List Byte) : List Byte := ctrXor key (ctrBlock iv) m

/-! ### CCM and CCM* (SP 800-38C) with L = 15 - nonce length -/

def ccmAadBlocks (aad : List Byte) : List Byte :=
  if aad.length = 0 then []
  else padTo 16 ((if aad.length < 65280 then bytesBE 2 aad.length else [0xFF#8, 0xFE#8] ++ bytesBE 4 aad.length) ++ aad)

def ccmCounter (nonce : List Byte) (i : Nat) : List Byte :=
  BitVec.ofNat 8 (14 - nonce.length) :: (nonce ++ bytesBE (15 - nonce.length) i)

def ccmData (key nonce m : List Byte) : List Byte := ctrXor key (fun i => ccmCounter nonce (i + 1)) m

/-- The encrypted tag of tagLen octets over plaintext m. -/
def ccmTag (key nonce aad m : List Byte) (tagLen : Nat) : List Byte :=
  if tagLen = 0 then []
  else
    let flags := (if aad.length = 0 then 0 else 64) + 8 * ((tagLen - 2) / 2) + (14 - nonce.length)
    let b0 := BitVec.ofNat 8 flags :: (nonce ++ bytesBE (15 - nonce.length) m.length)
    let x := cbcMac key (List.replicate 16 0#8) (b0 ++ ccmAadBlocks aad ++ padTo 16 m)
    xorBytes (x.take tagLen) (aesEncrypt key (ccmCounter nonce 0))

/-! ### GCM (SP 800-38D), 96-bit IV -/

/-- The product in GF(2^128) with the bit order of GCM. -/
def ghashMul (x y : Nat) : Nat :=
  ((List.range 128).foldl (fun (z : Nat × Nat) i =>
    (if x / 2 ^ (127 - i) % 2 = 1 then z.1 ^^^ z.2 else z.1,
     if z.2 % 2 = 1 then z.2 / 2 ^^^ (0xE1 * 2 ^ 120) else z.2 / 2)) (0, y)).1

def ghash (h : Nat) (m : List Byte) : Nat := (chunks 16 m).foldl (fun y b => ghashMul (y ^^^ natOfBE b) h) 0

def gcmData (key iv m : List Byte) : List Byte := ctrXor key (fun i => ctrBlock (iv ++ bytesBE 4 1) (i + 1)) m

/-- The tag over ciphertext c. -/
def gcmTag (key iv aad c : List Byte) (tagLen : Nat) : List Byte :=
  let h := natOfBE (aesEncrypt key (List.replicate 16 0#8))
  let s := ghash h (padTo 16 aad ++ padTo 16 c ++ bytesBE 8 (8 * aad.length) ++ bytesBE 8 (8 * c.length))
  (xorBytes (bytesBE 16 s) (aesEncrypt key (ctrBlock (iv ++ bytesBE 4 1) 0))).take tagLen

/-! ### KDF (SP 800-108, counter mode, PRF CMAC) -/

def kdf (key fixed : List Byte) (len : Nat) : List Byte :=
  ((List.range ((len + 15) / 16)).flatMap (fun i =>
    aesCmac key (bytesBE 4 (i + 1) ++ fixed ++ bytesBE 4 (8 * len)))).take len

end Sys2Proof.Machine
end

