-- ==== Sys2Proof/Machine/Ring.lean ====
section
/-!
DEFINITION. The tide ring: the bypass (R378, R402 to R405), the cycle (R383 to R387), ring time (R388 to R390), the survey
(R391 to R393), ring sluices (R394 to R396), mailboxes (R397 to R401).
-/

namespace Sys2Proof.Machine

/-! ### Messages (Table RING-2) -/

/-- One bit of the CRC-16 of R385, low bit of each octet first. -/
def crc16Bit (r : Nat) (b : Bool) : Nat := if testBit' r 0 != b then (r / 2) ^^^ 0x8408 else r / 2

/-- The CRC-16 of a message's octets. -/
def crc16 (l : List Byte) : Nat := l.foldl (fun r b => (bitList 8 b.toNat).foldl crc16Bit r) 0xFFFF

/-- Append the CRC-16, low octet first. -/
def withCrc16 (l : List Byte) : List Byte := l ++ bytesLE 2 (crc16 l)

/-- A message of n octets whose CRC-16 matches. -/
def crc16Ok (n : Nat) (l : List Byte) : Bool := l.length == n && l.drop (n - 2) == bytesLE 2 (crc16 (l.take (n - 2)))

/-- The CRC-8 of an EVENT mask (R220 over the two octets). -/
def maskCrc (mask : Nat) : Nat := natOfBits (bitList 8 (crc8 (bitList 16 mask))).reverse

def eventMsg (mask : Nat) : List Byte := bytesLE 2 mask ++ bytesLE 1 (maskCrc mask)

/-- A TIME message's fields (R385). -/
structure RingTime where
  stratum : Nat
  gap : Bool
  surveyed : Bool
  hops : Nat
  t : Nat
  acc : Nat
  evsum : Nat
  deriving DecidableEq, Repr

def timeMsg (m : RingTime) : List Byte :=
  withCrc16 (bytesLE 1 (m.stratum + 16 * boolBit m.gap + 32 * boolBit m.surveyed) ++ bytesLE 1 m.hops ++ bytesLE 8 m.t
    ++ bytesLE 2 m.acc ++ bytesLE 2 m.evsum)

/-- Read a TIME message; none where its CRC or its format fails (R387). -/
def timeParse (l : List Byte) : Option RingTime :=
  let m : RingTime :=
    { stratum := eb l 0 % 16, gap := testBit' (eb l 0) 4, surveyed := testBit' (eb l 0) 5, hops := eb l 1 % 16,
      t := natOfLE ((l.drop 2).take 8), acc := eh l 10, evsum := eh l 12 }
  if crc16Ok 16 l && eb l 0 < 64 && eb l 1 < 16 then some m else none

/-! ### The port -/

/-- RING_STAT.STATE: 0 disabled, 1 seeking, 2 opening, 3 member, 4 master, 5 closed by fault. -/
def State.ringSt (s : State) : Nat := s.get Fld.RING_STAT_STATE

def State.ringPos (s : State) : Nat := s.get Fld.RING_STAT_POSITION

def State.ringNodes (s : State) : Nat := max 1 (eb s.ringCfg 2)

def State.ringMbox (s : State) : Nat := eb s.ringCfg 22

/-- Record a code of Table RING-5 (R406). -/
def ringCode (c : Nat) (s : State) : State :=
  let s := s.put Fld.RING_LASTCODE_CODE c
  if c = 0x0901 then s else s.fire EV.RING_FAULT

/-- Close the bypass for a cause (R378, R405). -/
def bypassClose (cause : Nat) (s : State) : State :=
  if s.has Fld.RINGBYP_STAT_CLOSED then s
  else (((s.flag Fld.RINGBYP_STAT_CLOSED).put Fld.RINGBYP_STAT_CAUSE cause).inc Fld.RINGBYP_CNT_CLOSES).fire EV.RING_LEAVE

/-- Open the bypass (R380). -/
def bypassOpen (s : State) : State := (s.unflag Fld.RINGBYP_STAT_CLOSED).inc Fld.RINGBYP_CNT_OPENS

/-- Is the port running (R378)? -/
def ringRunning (s : State) : Bool :=
  s.ringRole != 0 && s.committed && s.has Fld.RING_CTL_EN && s.domOn 11 && !s.has Fld.SYSCFG_BOOTREP_DRYPAN && !s.ring.left

/-- Give the port the state its configuration asks for: a port that stops closes its bypass, one that starts seeks. -/
def refreshRing (s : State) : State :=
  if ringRunning s then
    if s.ringSt = 0 then
      { s with ring := { s.ring with seen := 0, heard := false, prev := none, posBad := false } }.put Fld.RING_STAT_STATE 1
    else s
  else if s.ringSt = 0 ∨ s.ring.left then s
  else
    let s := (bypassClose 3 s).put Fld.RING_STAT_STATE 0
    { s with ring := { s.ring with survey := none, timeSurveyed := false, evFire := none, prev := none } }

/-- RING_LOCK (R382). -/
def execRingLock (s : State) : Out := .next { s with ring := { s.ring with locked := true } }

/-- RING_LOS (R382). -/
def execRingLos (s : State) : Out :=
  if s.ringSt = 0 then .next s
  else
    let s := { s with ring := { s.ring with locked := false, seen := 0 } }
    .next ((ringCode 0x0901 ((s.flag Fld.RING_FLAGS_LOS).inc Fld.RING_CNT_LOS)).fire EV.RING_LOS)

/-! ### The survey (R391 to R393) -/

/-- The master starts a survey: from the next cycle on TIME carries SURVEYED = 0. -/
def surveyStart (s : State) : State :=
  if s.ringSt ≠ 4 then s
  else
    let s := (s.unflag Fld.RING_CTL_SURVEY).unflag Fld.RING_STAT_SURVEYED
    { s with ring := { s.ring with survey := some 0, timeSurveyed := false, surveyWanted := false, surveyRetry := false,
                                   surveyHops := s.get Fld.RING_LOOP_HOPS } }

/-- SURVEY_START (R391): a write of RING_CTL.SURVEY or TK_RING_SURVEY. -/
def execSurveyStart (byTask : Bool) (s : State) : Out :=
  .next (surveyStart (if byTask then s.takeTask TK.RING_SURVEY else s))

/-- A survey fails (R393). -/
def surveyFail (s : State) : State :=
  let s := ringCode 0x0906 (s.flag Fld.RING_FLAGS_SURVFAIL)
  { s with ring := { s.ring with survey := none, timeSurveyed := false, surveyRetry := true } }

/-- SURVEY_STEP (R392): the probe of segment seg has come back to its upstream end after `echo` units of 1/64 tick. -/
def execSurveyStep (seg : Fin 8) (echo : BitVec 32) (s : State) : Out :=
  let up := (s.ringSt = 3 ∨ s.ringSt = 4) ∧ s.ringPos = seg.val
  let s := if up then s.put Fld.RING_TIMING_SEGDLY (max 0 (roundDiv ((echo.toNat : Int) - 1024) 2)).toNat else s
  if s.ringSt = 4 ∧ s.ring.survey = some seg.val then
    if seg.val = s.get Fld.RING_LOOP_HOPS then .next { s with ring := { s.ring with survey := none, timeSurveyed := true } }
    else .next { s with ring := { s.ring with survey := some (seg.val + 1) } }
  else .next s

/-- SURVEY_PROBE_TIMEOUT (R393). -/
def execSurveyProbeTimeout (s : State) : Out :=
  .next (if s.ringSt = 4 ∧ s.ring.survey.isSome then surveyFail s else s)

/-- SURVEY_RETRY (R393). -/
def execSurveyRetry (s : State) : Out := .next (if s.ring.surveyRetry then surveyStart s else s)

/-! ### The cycle -/

/-- Does the master open a join gap in cycle c (R404)? -/
def ringGap (s : State) (c : Nat) : Bool :=
  c % 2 == 1 && s.ring.relay.isEmpty && s.ring.survey.isNone && decide (s.get Fld.RING_LOOP_HOPS + 1 < s.ringNodes)
  && decide (s.ring.lastGap + 32000 * max 1 (s.get Fld.RING_CTL_GAPPER) ≤ s.elapsed)

/-- RING_CYCLE_START (R384, R386, R395, R404). -/
def execRingCycleStart (s : State) : Out :=
  if s.ringSt ≠ 4 then .next s
  else
    let c := s.now / 640
    let gap := ringGap s c
    let m := timeMsg
      { stratum := s.stratum, gap := gap, surveyed := s.ring.timeSurveyed, hops := 0, t := 640 * c,
        acc := s.get Fld.RING_TIMING_SEGDLY, evsum := s.ring.evAcc }
    .next { s with ring := { s.ring with cycle := c, evAcc := 0, txTime := m,
                                         lastGap := if gap then s.elapsed else s.ring.lastGap } }

/-- A message fails its CRC or format (R387). -/
def ringBad (s : State) : State := ringCode 0x0903 ((s.flag Fld.RING_FLAGS_CRCERR).inc Fld.RING_CNT_CRCERR)

/-- Apply a TIME message to rate, stratum and phase (R388). -/
def ringApply (m : RingTime) (s : State) : State :=
  let th : Int := s.ring.ts - (s.get Fld.RING_PATHDLY_RXDLY : Nat) - (m.t * 64 + m.acc : Nat)
  let s := s.putS Fld.RING_THETA_THETA (satS 32 th)
  let dt := match s.ring.prev with
    | some (_, t, h, sv) => if h = m.hops ∧ sv = m.surveyed then m.t - t else 0
    | none => 0
  let s := match s.ring.prev with
    | some (pth, _, _, _) =>
      if dt = 0 then s
      else rateSet (satS 24 (s.rate - (th - pth) * 2 ^ 26 / dt / 2 ^ s.get Fld.TIDE_LOOP_RATEK)) s
    | none => s
  let s := { s with ring := { s.ring with prev := some (th, m.t, m.hops, m.surveyed) },
                    tide := { s.tide with discRing := s.tide.discRing + dt } }
  let s :=
    if !m.surveyed then s
    else
      let s := setStratum m.stratum s
      if 64 * s.get Fld.TIDE_CFG_STEPTHR < th.natAbs then timeStep (-((th + 32) / 64)) (slewCancel s)
      else slewStart th s
  disciplineCheck (s.fire EV.RING_TIME)

/-- A node finds its position and keeps to it (R386, R405). -/
def ringPosition (hops : Nat) (s : State) : State :=
  let p := hops + 1
  if 7 < p then
    let s := ringCode 0x0908 ((bypassClose 6 s).flag Fld.RING_FLAGS_POSERR)
    { s with ring := { s.ring with seen := 0 } }.put Fld.RING_STAT_STATE 1
  else
    let want := eb s.ringCfg 1
    let bad := decide (want ≠ 0xFF ∧ want ≠ p)
    let s := s.put Fld.RING_STAT_POSITION p
    let s := if bad ∧ !s.ring.posBad then ringCode 0x0907 (s.flag Fld.RING_FLAGS_POSERR) else s
    { s with ring := { s.ring with posBad := bad } }

/-- What a member does with the ring sluices of a TIME message (R396). -/
def ringEvsum (m : RingTime) (s : State) : State :=
  { s with ring := { s.ring with evFire := if m.evsum = 0 then s.ring.evFire else some (m.evsum, m.t + 192) } }

/-- A TIME message returns to the master (R391, R393). -/
def masterTime (m : RingTime) (s : State) : State :=
  let delay : Int := s.ring.ts - (s.get Fld.RING_PATHDLY_RXDLY : Nat) - (64 * m.t : Nat)
  let s := ((((s.put Fld.RING_STAT_MEMBERS (m.hops + 1)).put Fld.RING_LOOP_HOPS m.hops).put Fld.RING_LOOP_DELAY
    (max 0 delay).toNat).put Fld.RING_TIMING_ACC m.acc)
  let s := ringEvsum m s
  let close := decide ((delay - m.acc).natAbs ≤ 8)
  let was := s.ring.broken
  let s := { s with ring := { s.ring with broken := false } }
  if s.ring.surveyWanted ∨ was ∨ (s.ring.surveyHops ≠ 0x10 ∧ m.hops ≠ s.ring.surveyHops) then surveyStart s
  else if s.has Fld.RING_STAT_SURVEYED then (if close then s else surveyStart s)
  else if s.ring.timeSurveyed ∧ m.surveyed then
    if close then ((s.flag Fld.RING_STAT_SURVEYED).inc Fld.RING_CNT_SURVEYS).fire EV.RING_SURVEYED
    else surveyFail s
  else s

/-- RING_TIME_MSG (R381, R385 to R388, R402). `octets` follow the control character; `ts` is the fine timestamp of the
K28.0 at TIDE_IN. -/
def execRingTimeMsg (octets : List Byte) (ts : BitVec 64) (s : State) : Out :=
  if s.ringSt = 0 then .next s
  else
    let s := { s with ring := { s.ring with ts := ts.toNat, locked := true } }.put Fld.RING_TSLO_TS ts.toNat
    match timeParse octets with
    | none =>
      let s := ringBad { s with ring := { s.ring with seen := 0 } }
      .next (if s.ringSt = 3 then { s with ring := { s.ring with txTime := octets } } else s)
    | some m =>
      let s := { s with ring := { s.ring with seen := min 2 (s.ring.seen + 1), gapSeen := m.gap, hopsSeen := m.hops } }
      if s.ringSt = 4 then .next (masterTime m s)
      else if s.ringRole = 2 then .next { s with ring := { s.ring with heard := true } }
      else if s.ringSt ≠ 3 then .next s
      else
        let s := ringPosition m.hops s
        if s.ringSt ≠ 3 then .next s
        else
          let s := (s.put Fld.RING_TIMING_ACC m.acc).put Fld.RING_STAT_SURVEYED (boolBit m.surveyed)
          let out := timeMsg { m with hops := m.hops + 1, acc := (m.acc + 640 + s.get Fld.RING_TIMING_SEGDLY) % 65536 }
          let s := ringEvsum m { s with ring := { s.ring with txTime := out, cycle := m.t / 640 } }
          .next (if s.get Fld.TIDE_CFG_SRCSEL = 1 ∧ m.t / 640 % 2 ^ s.get Fld.RING_CTL_APPLY = 0 then ringApply m s else s)

/-! ### Ring sluices -/

/-- RING_EVENT_MSG (R394, R395): the EVENT slot of a position passes; empty octets are an idle slot. -/
def execRingEventMsg (slot : Fin 8) (octets : List Byte) (s : State) : Out :=
  let mask := eh octets 0
  let ok := octets.length = 3 ∧ eb octets 2 = maskCrc mask
  if s.ringSt ≠ 3 ∧ s.ringSt ≠ 4 then .next s
  else if slot.val = s.ringPos then
    if s.ring.posBad then .next s
    else
      let mine := s.ring.evCollected
      let s := s.count Fld.RING_CNT_EVSENT (popCount 16 mine)
      .next { s with ring := { s.ring with evCollected := 0, txEvent := eventMsg mine,
                                           evAcc := if s.ringSt = 4 then s.ring.evAcc ||| mine else s.ring.evAcc } }
  else if octets.isEmpty then .next s
  else if !ok then .next (ringBad s)
  else if s.ringSt = 4 then .next { s with ring := { s.ring with evAcc := s.ring.evAcc ||| mask } }
  else .next s

/-- RING_SLUICE_FIRE (R396): at T + 192 ticks the received ring sluices enter the local ones they are mapped to. -/
def execRingSluiceFire (s : State) : Out :=
  match s.ring.evFire with
  | none => .next s
  | some (mask, t) =>
    if s.now < t then .next s
    else
      let s := { s with ring := { s.ring with evFire := none } }
      .next (s.forEach (bitsOf 16 mask) (fun k s =>
        match s.ringMap k with
        | some n => if s.ringSend k then s else s.fireSluice n
        | none => s))

/-! ### Mailboxes -/

/-- Read a DATA message: SRC, RELAY, DST, MBOX; none where its CRC or its format fails. -/
def dataParse (l : List Byte) : Option (Nat × Bool × Nat × Nat) :=
  let h := eb l 0
  if crc16Ok 68 l && eb l 1 < 16 && (decide (h / 16 ≤ 7) || h / 16 == 15) then
    some (h % 8, testBit' h 3, h / 16, eb l 1)
  else none

/-- Accept a DATA message (R400, R401). -/
def ringStore (dst box : Nat) (payload : List Byte) (s : State) : State :=
  if dst ≠ s.ringPos ∧ dst ≠ 15 then s
  else if s.ringMbox ≤ box ∨ s.bit Reg.RING_MBDIR box then ringCode 0x0909 s
  else if s.bit Reg.RING_MBFULL box then ringCode 0x0904 (s.inc Fld.RING_CNT_MBOVF)
  else ((s.setBytes (mailboxAddr box) payload).putBit Reg.RING_MBFULL box true).fire EV.RING_MBRX

/-- RING_DATA_MSG (R400, R401). -/
def execRingDataMsg (octets : List Byte) (s : State) : Out :=
  if s.ringSt ≠ 3 ∧ s.ringSt ≠ 4 then .next s
  else match dataParse octets with
    | none => .next (ringBad s)
    | some (src, relayed, dst, box) =>
      let payload := (octets.drop 2).take 64
      if s.ringSt = 4 then
        if relayed ∨ src = 0 then .next s
        else
          let s := ringStore dst box payload s
          let copy := withCrc16 (bytesLE 1 (src + 8 + 16 * dst) ++ (octets.drop 1).take 65)
          .next (if dst = 0 then s else { s with ring := { s.ring with relay := s.ring.relay ++ [copy] } })
      else .next (if src = 0 ∨ relayed then ringStore dst box payload s else s)

/-- RING_MBSEND (R399). -/
def execRingMbsend (value : Word) (s : State) : Out :=
  let j := value.toNat % 16
  let d := value.toNat / 16 % 16
  if (7 < d ∧ d < 15) ∨ s.ringMbox ≤ j ∨ !s.bit Reg.RING_MBDIR j then .next s
  else
    let s := s.putBit Reg.RING_MBPEND j true
    .next { s with ring := { s.ring with dst := s.ring.dst.filter (fun x => x.1 != j) ++ [(j, d)] } }

/-- RING_DATA_WINDOW (R398, R399): the device's owned window of an even cycle, or the master's relay in an odd one. -/
def execRingDataWindow (s : State) : Out :=
  let c := s.ring.cycle
  if c % 2 = 1 then
    match s.ring.relay with
    | m :: rest => .next (if s.ringSt = 4 then { s with ring := { s.ring with relay := rest, txData := m } } else s)
    | [] => .next s
  else if (s.ringSt ≠ 3 ∧ s.ringSt ≠ 4) ∨ s.ring.posBad ∨ c / 2 % s.ringNodes ≠ s.ringPos then .next s
  else match bitsOf 16 (s.get Fld.RING_MBPEND_PEND) with
    | [] => .next s
    | j :: _ =>
      let d := match s.ring.dst.find? (fun x => x.1 == j) with | some x => x.2 | none => 0
      let m := withCrc16 (bytesLE 1 (s.ringPos + 16 * d) ++ bytesLE 1 j ++ s.bytes (mailboxAddr j) 64)
      let s := { s with ring := { s.ring with txData := m, dst := s.ring.dst.filter (fun x => x.1 != j) } }
      .next ((s.putBit Reg.RING_MBPEND j false).fire EV.RING_MBTX)

/-! ### Joining and leaving -/

/-- RING_JOIN (R402): a seeking node joins in a gap. -/
def execRingJoin (s : State) : Out :=
  if s.ringSt ≠ 1 ∨ s.ringRole ≠ 1 ∨ s.ring.seen < 2 ∨ !s.ring.gapSeen then .next s
  else
    let s := ringPosition s.ring.hopsSeen (bypassOpen (s.put Fld.RING_STAT_STATE 3))
    .next (if s.ringSt = 3 then s.fire EV.RING_JOIN else s)

/-- RING_MASTER_LISTEN_END (R403). -/
def execRingMasterListenEnd (s : State) : Out :=
  if s.ringSt ≠ 1 ∨ s.ringRole ≠ 2 then .next s
  else if s.ring.heard then
    .next (ringCode 0x0905 ((s.flag Fld.RING_FLAGS_DUALMASTER).put Fld.RING_STAT_STATE 5))
  else
    let s := bypassOpen ((s.put Fld.RING_STAT_STATE 4).put Fld.RING_STAT_POSITION 0)
    .next { s with ring := { s.ring with surveyWanted := true, evAcc := 0, relay := [], survey := none, surveyHops := 0x10,
                                         timeSurveyed := false, lastGap := 0, broken := false } }

/-- RING_BROKEN_TIMEOUT (R405). -/
def execRingBrokenTimeout (s : State) : Out :=
  if s.ringSt ≠ 4 then .next s
  else
    let s := ringCode 0x0902 ((s.flag Fld.RING_FLAGS_BROKEN).unflag Fld.RING_STAT_SURVEYED)
    .next { s with ring := { s.ring with broken := true, survey := none, timeSurveyed := false } }

/-- RING_LEAVE (R378). -/
def execRingLeave (s : State) : Out :=
  let s := s.takeTask TK.RING_LEAVE
  if s.ringSt = 0 then .next s
  else
    let s := (bypassClose 6 s).put Fld.RING_STAT_STATE 5
    .next { s with ring := { s.ring with left := true, survey := none, timeSurveyed := false, evFire := none, prev := none } }

/-! ### The time source (R628, R390) -/

/-- SRCSEL_WRITE (R628): a write of TIDE_CFG; on the ring master SRCSEL = 1 acts as 3 (R390). STEPTHR and HOLDMAX run from
1; a write of 0 stores 1. -/
def execSrcselWrite (value : Word) (s : State) : Out :=
  let v := value.toNat
  let act := fun n => if n = 1 ∧ s.ringRole = 2 then 3 else n
  let old := s.get Fld.TIDE_CFG_SRCSEL
  let s := ((s.put Fld.TIDE_CFG_HOLDMAX (v / 2 ^ 16)).put Fld.TIDE_CFG_STEPTHR (v / 2 ^ 8)).put Fld.TIDE_CFG_SRCSEL v
  .next (if old = v % 4 then s else srcselChange (act old) (act (v % 4)) s)

end Sys2Proof.Machine
end

