-- ==== Sys2Proof/Machine/KeyStore.lean ====
section
/-!
DEFINITION. The key store's commands (R444 to R450, R630), sweeps (R451 to R453), refresh passes (R455, R456), tamper
(R457 to R460) and life-cycle transitions (R461, R462); the draws of the DRBG that they use (R432).
-/

namespace Sys2Proof.Machine

/-! ### The DRBG (R432, R434) -/

/-- Is the DRBG instantiated? -/
def State.drbgReady (s : State) : Bool := s.has Fld.TRNG_STAT_READY

/-- One generate request: n octets that nothing constrains. -/
def drbgDraw (n : Nat) (s : State) : List Byte × State :=
  (bytesBE n s.freeNat, { s with trng := { s.trng with generates := s.trng.generates + 1 } }.freeNext)

/-- A scalar from 1 to n - 1 of P-256 (rejection sampling, Table CIPH-6). -/
def drbgScalar (s : State) : Nat × State :=
  let d := drbgDraw 32 s
  (1 + natOfBE d.1 % (p256N - 1), d.2)

/-! ### Masters -/

/-- The block identifier of a master (Table SCOPE-4). -/
def masterBlock (m : Master) : Nat := match m with | .cpu0 => 0x0B | .cpu1 => 0x0C | .debug => 0x0D | .host => 0x0E

/-- The MASTERS bit that a block identifier needs; the host and the debug port have none (R441), which bit 4 stands for. -/
def masterBit (block : Nat) : Nat := if block = 0x0B then 2 else if block = 0x0C then 4 else 16

/-- KEY_ADMIT (R442): one request as it stands in Table KEY-4. -/
def execKeyAdmit (slot : Fin 256) (masters : BitVec 5) (op : Fin 8) (types : BitVec 8) (block : BitVec 5) (checkFails : Bool)
    (s : State) : Out :=
  .next (keyAdmit { slot := slot.val, masters := masters.toNat, op := op.val, types := bitsOf 8 types.toNat,
                    block := block.toNat, checkFails := checkFails } s).2

/-! ### Ends of commands -/

/-- A command ends with a code (R444, R630). -/
def keyCmdEnd (code : Nat) (s : State) : State :=
  let s := { s with keys := { s.keys with cmd := none, cmdWaits := false } }
  ((s.put Fld.KEYSTORE_RESULT_CODE code).unflag Fld.KEYSTORE_RESULT_BUSY).fire EV.KEYSTORE_DONE

/-- A command goes on until KEY_CMD_DONE, or until the sweep ends. -/
def keyCmdRun (e : KeyEnd) (code : Nat) (waits : Bool) (s : State) : State :=
  { s with keys := { s.keys with cmd := some (e, code), cmdWaits := waits } }.flag Fld.KEYSTORE_RESULT_BUSY

/-- A command from a master that may give none, or while one runs (R444). -/
def keyCmdReject (s : State) : State := (s.flag Fld.KEYSTORE_FLAGS_CMDREJ).put Fld.KEYSTORE_RESULT_CODE 0x050F

/-- The gate of every command (R444, R459); `locked`: a tamper lock ends this command. -/
def keyCommand (m : Master) (locked : Bool) (f : State → State) (s : State) : State :=
  if !s.issues m then s
  else if (m ≠ .cpu0 ∧ m ≠ .cpu1) ∨ s.has Fld.KEYSTORE_RESULT_BUSY then keyCmdReject s
  else if locked ∧ s.has Fld.KEYSTORE_STAT_LOCKED then keyCmdEnd 0x050A s
  else f s

/-! ### New slots (R445) -/

/-- The staged attributes. -/
def State.newAttr (s : State) : List Word := (List.range 7).map (fun w => s.rd (Reg.KEYSTORE_NEWATTR w))

def attrW (a : List Word) (w : Nat) : Nat := (nth 0 a w).toNat
def attrParent (a : List Word) : Nat := attrW a 0 % 256
def attrType (a : List Word) : Nat := attrW a 0 / 2 ^ 12 % 8
def attrLabel (a : List Word) : Nat := attrW a 0 / 2 ^ 16
def attrMasters (a : List Word) : Nat := attrW a 1 % 16
def attrOps (a : List Word) : Nat := attrW a 1 / 2 ^ 8 % 256
def attrLcmask (a : List Word) : Nat := attrW a 1 / 2 ^ 16 % 32
def attrExprst (a : List Word) : Nat := attrW a 1 / 2 ^ 24 % 2
def attrUses (a : List Word) : Nat := attrW a 2 % 2 ^ 16
def attrNb (a : List Word) : Nat := attrW a 3 + 2 ^ 32 * attrW a 4
def attrNa (a : List Word) : Nat := attrW a 5 + 2 ^ 32 * attrW a 6

/-- Bits of words 0, 1 and 2 that Table KEY-1 does not name. -/
def attrReserved (a : List Word) : Bool :=
  (nth 0 a 0 &&& 0x00008800#32) != 0 || (nth 0 a 1 &&& 0xCEE000F0#32) != 0 || (nth 0 a 2 &&& 0xFFFF0000#32) != 0

/-- The attribute words with PARENT, DEPTH and EXPRST as given, and STATE 0. -/
def attrBuild (a : List Word) (parent depth exprst : Nat) : List Word :=
  let w0 := attrW a 0 / 2 ^ 11 * 2 ^ 11 + depth * 2 ^ 8 + parent
  let w1 := attrMasters a + attrOps a * 2 ^ 8 + attrLcmask a * 2 ^ 16 + exprst * 2 ^ 24
  [BitVec.ofNat 32 w0, BitVec.ofNat 32 w1] ++ (a.drop 2).take 5

/-- The KEY_POLICY entry of a label (R55). -/
def keyPolicy (s : State) (label : Nat) : Option (List Byte) := (s.entries 0x08).find? (fun e => eh e 0 == label)

/-- Is set a within set b? -/
def subBits (a b : Nat) : Bool := a &&& b == a

/-- The checks of R445: 0 or the first code. -/
def newSlotCode (s : State) (a : List Word) (slot parent : Nat) : Nat :=
  if slot = 0 ∨ s.keySt slot ≠ 0 then 0x050B
  else if s.get (keyDepth parent) = 7 then 0x050C
  else
    let pol := match s.record 0x08 with
      | none => 0
      | some _ =>
        match keyPolicy s (attrLabel a) with
        | none => 0x0508
        | some e =>
          if !subBits (attrMasters a) (eb e 2 % 16) || !subBits (attrOps a) (eb e 3) || !subBits (eb e 4 % 32) (attrLcmask a)
              || (eh e 6 != 0 && decide (eh e 6 < attrUses a)) then 0x0509 else 0
    if pol ≠ 0 then pol else if attrReserved a ∨ 4 < attrType a then 0x0509 else 0

/-- EXPRST of a new slot: forced to 1 where its policy says so. -/
def newExprst (s : State) (a : List Word) : Nat :=
  match keyPolicy s (attrLabel a) with
  | some e => if testBit' (eb e 5) 0 then 1 else attrExprst a
  | none => attrExprst a

/-- The attribute words a new slot under a parent takes. -/
def newSlotAttr (s : State) (a : List Word) (parent : Nat) : List Word :=
  attrBuild a parent (s.get (keyDepth parent) + 1) (newExprst s a)

/-- A new slot becomes VALID. -/
def makeSlot (slot : Nat) (attr : List Word) (material : List Byte) (s : State) : State :=
  setKeySt slot 1 ((putKeyAttr slot attr s).setKeyBytes slot material)

/-! ### The commands -/

/-- The context octets of a derivation. -/
def keyContext (s : State) : List Byte :=
  (((List.range 16).flatMap (fun w => bytesLE 4 (s.rd (Reg.KEYSTORE_CTXDATA w)).toNat)).take
    (min 64 (s.get Fld.KEYSTORE_CTXLEN_LEN)))

/-- KEY_DERIVE (R446). `checkFails`: the parent's stored check does not match. -/
def execKeyDerive (master : Master) (slot : Fin 256) (checkFails : Bool) (s : State) : Out :=
  .next (keyCommand master true (fun s =>
    let a := s.newAttr
    let p := attrParent a
    let code := newSlotCode s a slot.val p
    if code ≠ 0 then keyCmdEnd code s
    else
      let adm := keyAdmit { slot := p, masters := masterBit (masterBlock master), op := 4, types := [2, 4], block := masterBlock master,
                            checkFails := checkFails } s
      if adm.1 ≠ 0 then keyCmdEnd adm.1 adm.2
      else
        let fixed := bytesBE 2 (attrLabel a) ++ [0#8] ++ keyContext s ++ bytesBE 1 (attrType a)
        let k := kdf (s.keyBytes p) fixed (keyOctets (attrType a))
        if attrType a = 3 ∧ (natOfBE k = 0 ∨ p256N ≤ natOfBE k) then keyCmdRun .nothing 0x050E false adm.2
        else keyCmdRun (.make slot.val (newSlotAttr s a p) k) 0 false adm.2) s)

/-- KEY_IMPORT (R447). An ARG that is no multiple of 4 ends as a blob outside job RAM does. -/
def execKeyImport (master : Master) (slot : Fin 256) (arg : BitVec 16) (checkFails : Bool) (s : State) : Out :=
  .next (keyCommand master true (fun s =>
    let at' := 0x40054000 + arg.toNat
    let a := (List.range 7).map (fun w => s.word (at' + 4 * w))
    let m := keyOctets (attrType a)
    let p := attrParent s.newAttr
    if arg.toNat % 4 ≠ 0 ∨ 16384 < arg.toNat + 28 ∨ 16384 < arg.toNat + 57 + m then keyCmdEnd 0x0406 s
    else
      let code := newSlotCode s a slot.val p
      if code ≠ 0 then keyCmdEnd code s
      else
        let adm := keyAdmit { slot := p, masters := masterBit (masterBlock master), op := 5, types := [0, 1, 2],
                              block := masterBlock master, checkFails := checkFails } s
        if adm.1 ≠ 0 then keyCmdEnd adm.1 adm.2
        else
          let kek := s.keyBytes p
          let nonce := s.bytes (at' + 28) 13
          let plain := ccmData kek nonce (s.bytes (at' + 41) m)
          if ccmTag kek nonce (s.bytes at' 28) plain 16 = s.bytes (at' + 41 + m) 16 then
            keyCmdRun (.make slot.val (newSlotAttr s a p) plain) 0 false adm.2
          else keyCmdRun .nothing 0x050D false adm.2) s)

/-- KEY_INVALIDATE (R451). -/
def execKeyInvalidate (master : Master) (slot : Fin 256) (s : State) : Out :=
  .next (keyCommand master false (fun s =>
    if slot.val = 0 then keyCmdEnd 0x050B s
    else if s.keySt slot.val = 0 then keyCmdEnd 0 s
    else keyCmdRun .nothing 0 true (markDead [slot.val] s)) s)

/-- Does a set of attributes only narrow those of a slot (R449)? -/
def narrows (s : State) (n : Nat) (a : List Word) : Bool :=
  attrParent a == s.get (keyParent n) && attrType a == s.get (keyType n) && attrLabel a == s.get (keyLabel n)
  && subBits (attrMasters a) (s.get (keyMasters n)) && subBits (attrOps a) (s.get (keyOps n))
  && subBits (s.get (keyLcmask n)) (attrLcmask a) && decide (s.get (keyExprst n) ≤ attrExprst a)
  && decide (attrUses a ≤ s.get (keyUses n)) && decide (s.keyNb n ≤ attrNb a) && decide (attrNa a ≤ s.keyNa n)

/-- KEY_RESTRICT (R449). -/
def execKeyRestrict (master : Master) (slot : Fin 256) (s : State) : Out :=
  .next (keyCommand master true (fun s =>
    let n := slot.val
    let a := s.newAttr
    if n = 0 then keyCmdEnd 0x050B s
    else if s.keySt n ≠ 1 then keyCmdEnd 0x0501 s
    else if !narrows s n a then keyCmdEnd 0x0509 s
    else keyCmdRun (.narrow n (attrBuild a (s.get (keyParent n)) (s.get (keyDepth n)) (attrExprst a))) 0 false s) s)

/-- KEY_ROOTGEN (R450). -/
def execKeyRootgen (master : Master) (s : State) : Out :=
  .next (keyCommand master true (fun s =>
    let lc := s.get Fld.KEYSTORE_STAT_LC
    if lc ≠ 0 ∧ lc ≠ 1 ∧ lc ≠ 3 then keyCmdEnd 0x0510 s
    else if !s.drbgReady then keyCmdEnd 0x0432 s
    else
      let s := if lc = 3 then markDead (List.range 256) s else s
      let d := drbgDraw 32 s
      keyCmdRun (.root d.1) 0 false d.2) s)

/-- KEY_CMD_DONE (R630): the running command's effect and its end. One that waits for the sweep ends there. -/
def execKeyCmdDone (s : State) : Out :=
  match s.keys.cmd with
  | none => .next s
  | some (e, code) =>
    if s.keys.cmdWaits then .next s
    else
      let s := match e with
        | .make n attr m => makeSlot n attr m s
        | .narrow n attr =>
          if s.keySt n = 1 then
            let u := s.get (keyUses n)
            let s := (putKeyAttr n attr s).put (keyState n) 1
            if s.get (keyUses n) ≤ u then s else s.put (keyUses n) u
          else s
        | .root m => loadRoot { s with backup := { s.backup with root := m } }
        | .nothing => s
      .next (keyCmdEnd code s)

/-! ### The sweep (R453) -/

/-- KEY_SWEEP_STEP (R453): the sweep visits one slot; with the last one, a command that waits for it ends. -/
def execKeySweepStep (s : State) : Out :=
  match s.keys.sweep with
  | none => .next s
  | some (p, left) =>
    let s := if p ≠ 0 ∧ (s.keySt p = 2 ∨ s.keys.orphans.contains p) then freeKeySlot p s else s
    if 1 < left then .next { s with keys := { s.keys with sweep := some ((p + 1) % 256, left - 1) } }
    else
      let s := { s with keys := { s.keys with sweep := none } }
      .next (if s.keys.cmdWaits then keyCmdEnd 0 s else s)

/-! ### Masking and refresh (R455, R456) -/

/-- A refresh pass begins with a new mask, or waits for the DRBG. -/
def refreshPassStart (s : State) : State :=
  if s.keys.pass.isSome then s
  else if !s.drbgReady then { s with keys := { s.keys with passWaits := true } }
  else
    let d := drbgDraw 32 s
    { d.2 with keys := { d.2.keys with pass := some 0, passWaits := false, nextMask := BitVec.ofNat 256 (natOfBE d.1) } }

/-- KEY_REFRESH_PASS (R456). -/
def execKeyRefreshPass (byTask : Bool) (s : State) : Out :=
  .next (refreshPassStart (if byTask then s.takeTask TK.KEYSTORE_REFRESH else s))

/-- KEY_REFRESH_STEP (R456, R454). `rootLost`: slot 0 fails and the check word of the root in BBRAM fails too. `taken`:
foreground work takes the key RAM, and the step yields (R23). -/
def execKeyRefreshStep (taken : Bool) (checkFails : Bool) (rootLost : Bool) (s : State) : Out :=
  match s.keys.pass with
  | none => .next s
  | some n =>
    if taken then .next (yieldBackground 3 s) else
    let s := stepResumed 3 s
    let s := if checkFails ∧ s.keySt n = 1 then keyIntegrityFail n rootLost s else s
    if n < 255 then .next { s with keys := { s.keys with pass := some (n + 1) } }
    else
      let s := { s with keys := { s.keys with pass := none, mask := s.keys.nextMask } }
      .next ((s.inc Fld.KEYSTORE_CNT_PASSES).fire EV.KEYSTORE_MASKPASS)

/-! ### Zeroing and tamper (R416, R457 to R460) -/

/-- Zero the key register sets (R416). -/
def keySetsZero (s : State) : State :=
  s.resetRegs (fun a => decide (Reg.CIPHER_KEY 0 0 ≤ a ∧ a ≤ Reg.CIPHER_KEY 7 7))

/-- Zero BBRAM: ROOTOK falls. -/
def rootZero (s : State) : State := loadRoot { s with backup := { s.backup with root := [] } }

/-- Zero key RAM: every slot FREE. -/
def keyRamZero (s : State) : State :=
  let s := s.resetRegs (fun a => decide ((Reg.KEYSTORE_SLOTATTR 0 0 ≤ a ∧ a ≤ Reg.KEYSTORE_SLOTATTR 255 7) ∨
    (Reg.KEYSTORE_VALID 0 ≤ a ∧ a ≤ Reg.KEYSTORE_VALID 7)))
  { s with keys := { s.keys with material := [], sweep := none, orphans := [] } }.put Fld.KEYSTORE_STAT_FREE 255

/-- Zero everything a key is in: the root, key RAM, the key register sets and the PKE ephemeral key. -/
def allKeysZero (s : State) : State :=
  let s := keySetsZero (rootZero (keyRamZero s))
  { s with pke := { s.pke with eph := none } }.unflag Fld.PKE_STAT_EPHVALID

/-- TAMPER_DETECT (R458): a source detects; `lfCount` is the D0 LF-cycle count. -/
def execTamperDetect (source : Fin 8) (lfCount : Word) (s : State) : Out :=
  let k := source.val
  let s := s.putBit Reg.BKP_TAMPSTAT (8 + k) true
  let resp := s.get Fld.BKP_TAMPCFG_RESP / 4 ^ k % 4
  if resp = 0 then .next s
  else
    let s := if s.get Fld.BKP_TAMPSTAT_LATCH = 0 then s.put Fld.BKP_TAMPTIME_LFCNT lfCount.toNat else s
    let s := ((s.putBit Reg.BKP_TAMPSTAT k true).inc Fld.BKP_TAMPCNT_EVENTS).flag Fld.KEYSTORE_FLAGS_TAMPER
    let s := { s with snapshot := { s.snapshot with valid := false } }
    let s := lifeCount 18 24 8 1 (if s.domOn 1 then s.fire EV.KEYSTORE_TAMPER else s)
    if resp = 1 then .next s
    else
      let s := if s.domOn 11 then allKeysZero s else rootZero s
      let s := { s with keys := { s.keys with cmd := none, cmdWaits := false } }.unflag Fld.KEYSTORE_RESULT_BUSY
      .next (s.flag Fld.KEYSTORE_STAT_LOCKED)

/-- TAMPER_LATCH_CLEAR (R459): a write of BKP_TAMPSTAT; `active` are the sources that detect at present. -/
def execTamperLatchClear (value : Word) (active : BitVec 8) (s : State) : Out :=
  let set := s.get Fld.BKP_TAMPSTAT_LATCH
  let w := value.toNat % 256
  let s := s.put Fld.BKP_TAMPSTAT_ACTIVE active.toNat
  let left := (bitsOf 8 set).filter (fun k => !testBit' w k || testBit' active.toNat k)
  let s := s.put Fld.BKP_TAMPSTAT_LATCH ((left.map (fun k => 2 ^ k)).sum)
  .next (if subBits set w ∧ active = 0 ∧ set ≠ 0 then s.unflag Fld.KEYSTORE_STAT_LOCKED else s)

/-- TAMPLOCK_WRITE (R460). -/
def execTamplockWrite (value : Word) (s : State) : Out :=
  .next (if value.toNat % 2 = 1 then s.flag Fld.BKP_TAMPLOCK_LOCK else s)

/-! ### Life cycle (R461, R462) -/

/-- Program unit n of a row of the information area: the spec gives the unit no layout beside its CRC-32, so its first 12
octets are free. -/
def infoUnit (row n : Nat) (s : State) : State :=
  let body := bytesBE 12 s.freeNat
  (s.freeNext).setBytes (row + 16 * n) (body ++ bytesLE 4 (crc32 body).toNat)

/-- Is a transition permitted, with its condition (Table KEY-5)? -/
def lcPermitted (s : State) (m : Master) (dest : Nat) : Bool :=
  let lc := s.get Fld.KEYSTORE_STAT_LC
  let software := m == .cpu0 || m == .cpu1
  let debug0 := m == .debug && s.get Fld.KEYSTORE_STAT_GL == 0
  let root := s.has Fld.KEYSTORE_STAT_ROOTOK
  match lc, dest with
  | 0, 1 => software || debug0
  | 1, 2 => software && root && !((s.bytes 0x0FF00100 64).all (fun b => b == 0xFF#8)) && s.imageCommitted
  | 2, 3 => software
  | 3, 2 => software && root
  | 4, _ => false
  | _, 4 => software || debug0
  | _, _ => false

/-- LC_REQUEST (R461, R462 step 1). -/
def execLcRequest (master : Master) (value : Word) (s : State) : Out :=
  let dest := value.toNat % 8
  if value.toNat / 2 ^ 16 ≠ 0x1C5E ∨ !s.issues master then .next s
  else if !lcPermitted s master dest ∨ s.has Fld.KEYSTORE_STAT_LCBUSY ∨ 128 ≤ s.keys.lcUnits then
    .next (s.put Fld.KEYSTORE_RESULT_CODE 0x0510)
  else
    let s := markDead ((List.range 256).filter (fun n => s.keySt n == 1 && testBit' (s.get (keyLcmask n)) dest)) s
    .next ({ s with keys := { s.keys with lcTo := some dest } }.flag Fld.KEYSTORE_STAT_LCBUSY)

/-- LC_TRANSITION_DONE (R462 steps 2 to 4), once the sweep has ended. -/
def execLcTransitionDone (s : State) : Out :=
  match s.keys.lcTo with
  | none => .next s
  | some dest =>
    if s.keys.sweep.isSome then .next s
    else
      let s := if dest = 4 then allKeysZero s else s
      let s := infoUnit 0x0FF00200 s.keys.lcUnits s
      let s := { s with keys := { s.keys with lcTo := none, lcUnits := s.keys.lcUnits + 1 } }
      .next (((s.put Fld.KEYSTORE_STAT_LC dest).unflag Fld.KEYSTORE_STAT_LCBUSY).fire EV.KEYSTORE_LCDONE)

end Sys2Proof.Machine
end

