-- ==== Sys2Proof/Machine/CipherEng.lean ====
section
/-!
DEFINITION. The cipher engine: the cores and their scheduler (R407 to R412), the descriptor queues (R413 to R421), the
self-test (R422 to R425), the entropy source and its FIFO (R431 to R434).
-/

namespace Sys2Proof.Machine

def State.queue (s : State) (q : Nat) : CipherQueue := nth {} s.cipher.queues q

def State.setQueue (q : Nat) (v : CipherQueue) (s : State) : State :=
  { s with cipher := { s.cipher with queues := setNth s.cipher.queues q v } }

def State.core (s : State) (k : Nat) : Option CoreWork := nth none s.cipher.cores k

/-- Give a core work, or leave it idle, with its bit of CIPHER_STAT.BUSY. -/
def setCore (k : Nat) (w : Option CoreWork) (s : State) : State :=
  { s with cipher := { s.cipher with cores := setNth s.cipher.cores k w } }.putBit Reg.CIPHER_STAT (4 + k) w.isSome

def coreRetired (s : State) (k : Nat) : Bool := testBit' (s.get Fld.CIPHER_STAT_RETIRED) k

/-- Cores in service; the short core anew (R409). -/
def refreshCores (s : State) : State :=
  let up := (List.range 4).filter (fun k => !coreRetired s k)
  (s.put Fld.CIPHER_STAT_INSERVICE up.length).put Fld.CIPHER_STAT_SHORT (up.headD 0)

/-! ### Descriptors (R418 to R420) -/

/-- Word w of the descriptor at place i of queue q. -/
def qdAddr (s : State) (q i : Nat) : Nat := 0x40054000 + (32 * s.get (Fld.CIPHER_QCFG_BASE q) + 32 * i) % 16384

def qdWord (s : State) (q i w : Nat) : Nat := (s.word (qdAddr s q i + 4 * w)).toNat

/-- A descriptor's fields (Table CIPH-4). -/
structure QueueDesc where
  mode : Nat
  decrypt : Bool
  keylen : Nat
  handle : Bool
  key : Nat
  tagLen : Nat
  nonceLen : Nat
  init : Bool
  final : Bool
  msgLen : Nat
  aadLen : Nat
  segLen : Nat
  src : Nat
  dst : Nat
  aad : Nat
  iv : Nat
  tag : Nat
  deriving DecidableEq, Repr

def qdRead (s : State) (q i : Nat) : QueueDesc :=
  let w0 := qdWord s q i 0
  { mode := w0 % 16, decrypt := testBit' w0 4, keylen := w0 / 2 ^ 5 % 4, handle := testBit' w0 7, key := w0 / 2 ^ 8 % 256,
    tagLen := 2 * (w0 / 2 ^ 16 % 16), nonceLen := w0 / 2 ^ 20 % 16, init := testBit' w0 24, final := testBit' w0 25,
    msgLen := qdWord s q i 1, aadLen := qdWord s q i 2, segLen := qdWord s q i 3, src := qdWord s q i 4 % 2 ^ 16,
    dst := qdWord s q i 4 / 2 ^ 16, aad := qdWord s q i 5 % 2 ^ 16, iv := qdWord s q i 5 / 2 ^ 16,
    tag := qdWord s q i 6 % 2 ^ 16 }

/-- Octets of the IV, nonce or counter block that a mode reads. -/
def ivLen (d : QueueDesc) : Nat :=
  match d.mode with | 1 | 2 => 16 | 3 | 4 => d.nonceLen | _ => 0

/-- Modes that write message output to DST; modes that use AAD; modes with a tag. -/
def modeOut (m : Nat) : Bool := m != 5
def modeAad (m : Nat) : Bool := m == 3 || m == 4 || m == 6
def modeTag (m : Nat) : Bool := 3 ≤ m && m ≤ 5

/-- Fields within what Table CIPH-3 and Table CIPH-4 issue. -/
def qdFieldsOk (d : QueueDesc) : Bool :=
  d.mode ≤ 6 && d.keylen ≤ 2 && (d.handle || decide (d.key ≤ 7)) && d.tagLen ≤ 16
  && [d.src, d.dst, d.aad, d.iv, d.tag].all (fun o => o % 4 == 0)
  && match d.mode with
    | 3 => 7 ≤ d.nonceLen && d.nonceLen ≤ 13 && d.tagLen != 2 && decide (d.msgLen < 2 ^ (8 * (15 - d.nonceLen)))
    | 4 => d.nonceLen == 12 && 12 ≤ d.tagLen
    | 5 => 4 ≤ d.tagLen
    | 6 => 1 ≤ d.msgLen && d.msgLen ≤ 4096 && d.aadLen ≤ 8192
    | _ => true

/-- Does every region the descriptor names lie in job RAM? `t`: the job's tag length. -/
def qdRegionsOk (d : QueueDesc) (mode t : Nat) : Bool :=
  let fits := fun o n => n == 0 || decide (o + n ≤ 16384)
  (mode == 6 || fits d.src d.segLen) && (!modeOut mode || fits d.dst d.segLen)
  && (!d.init || ((!modeAad mode || fits d.aad d.aadLen) && fits d.iv (ivLen d)))
  && (!d.final || !modeTag mode || fits d.tag t)

/-- The refusal of a descriptor (R419), or 0. -/
def qdCode (d : QueueDesc) (job : Option QueueJob) : Nat :=
  let first := job.isNone
  let mode := match job with | some j => j.mode | none => d.mode
  let total := match job with | some j => j.msgLen | none => d.msgLen
  let before := match job with | some j => j.done.length | none => 0
  let t := match job with | some j => j.tagLen | none => d.tagLen
  if !qdFieldsOk d ∨ d.init ≠ first ∨ (d.final ∧ before + d.segLen ≠ total) then 0x0401
  else if (!d.final ∧ d.segLen % 16 ≠ 0) ∨ (mode ≤ 1 ∧ (d.segLen % 16 ≠ 0 ∨ total % 16 ≠ 0)) then 0x0402
  else if !qdRegionsOk d mode t then 0x0406
  else 0

/-- AES blocks of a descriptor. -/
def qdBlocks (d : QueueDesc) (j : QueueJob) : Nat :=
  let n := (d.segLen + 15) / 16
  let i := if d.init then 1 else 0
  match j.mode with
  | 3 => n + (if j.tagLen = 0 then 0 else n + i * (1 + (ccmAadBlocks j.aad).length / 16) + (if d.final then 1 else 0))
  | 4 => n + i + (if d.final then 1 else 0)
  | 5 => i + (if d.final ∧ d.segLen = 0 ∧ j.msgLen = 0 then 1 else n)
  | 6 => i + n * ((j.aad.length + 8 + 15) / 16)
  | _ => n

/-- Blocks a job may have in flight (R412). -/
def inFlightMax (mode : Nat) : Nat := match mode with | 1 | 5 => 1 | 3 | 4 => 2 | _ => 4

/-- The output of the first n message octets of a job, of which m are its message so far. -/
def jobOutput (j : QueueJob) (m : List Byte) : List Byte :=
  match j.mode with
  | 0 => ecb j.decrypt j.key m
  | 1 => if j.decrypt then cbcDecrypt j.key j.iv m else cbcEncrypt j.key j.iv m
  | 2 => ctrMode j.key j.iv m
  | 3 => ccmData j.key j.iv m
  | 4 => gcmData j.key j.iv m
  | 6 => kdf j.key j.aad j.msgLen
  | _ => []

/-- The tag of a whole job over its message m and its output o. -/
def jobTag (j : QueueJob) (m o : List Byte) : List Byte :=
  match j.mode with
  | 3 => ccmTag j.key j.iv j.aad (if j.decrypt then o else m) j.tagLen
  | 4 => gcmTag j.key j.iv j.aad (if j.decrypt then m else o) j.tagLen
  | _ => (aesCmac j.key m).take j.tagLen

/-- The job of a descriptor with INIT. -/
def jobStart (s : State) (d : QueueDesc) (key : List Byte) (submit : Nat) : QueueJob :=
  { mode := d.mode, decrypt := d.decrypt, keylen := d.keylen, key := key, tagLen := d.tagLen,
    iv := s.bytes (0x40054000 + d.iv) (ivLen d), aad := if modeAad d.mode then s.bytes (0x40054000 + d.aad) d.aadLen else [],
    msgLen := d.msgLen, done := [], submit := submit }

/-- The key octets of a key register set (R415). -/
def keySet (s : State) (set keylen : Nat) : List Byte :=
  ((List.range 8).flatMap (fun w => bytesLE 4 (s.rd (Reg.CIPHER_KEY set w)).toNat)).take (keyOctets keylen)

/-- The key of a job that begins (R417, Table KEY-4): a refusal code or 0, and the key. -/
def jobKey (d : QueueDesc) (submit : Nat) (fails : Bool) (s : State) : Nat × List Byte × State :=
  if !d.handle then (0, keySet s d.key d.keylen, s)
  else if d.mode = 6 then
    let r : KeyRequest := { slot := d.key, masters := 0, op := 4, types := [], block := submit, checkFails := false }
    (0x0503, [], keyRefused r 0x0503 s)
  else
    let op := if d.mode = 5 then (if d.decrypt then 3 else 2) else if d.decrypt then 1 else 0
    let a := keyAdmit { slot := d.key, masters := masterBit submit, op := op, types := [d.keylen], block := submit,
                        checkFails := fails } s
    (a.1, if a.1 = 0 then s.keyBytes d.key else [], a.2)

/-- The submitter recorded for a descriptor (R420). -/
def qdSubmit (s : State) (q i : Nat) : Nat :=
  match (s.queue q).subs.find? (fun x => x.1 == i) with | some x => x.2 | none => 0

/-- A code that CIPHER itself issues (Table CIPH-8). -/
def cipherCode (c : Nat) (s : State) : State := if c / 256 = 4 then s.put Fld.CIPHER_LASTCODE_CODE c else s

/-- Write word 7 of a descriptor. -/
def qdDone (q i code : Nat) (s : State) : State :=
  s.setWord (qdAddr s q i + 28) (BitVec.ofNat 32 (code + 2 ^ 30))

/-- A descriptor ends (R420): word 7, HEAD, its events. A non-zero code ends its job. -/
def descEnd (q code : Nat) (s : State) : State :=
  let i := s.get (Fld.CIPHER_QHEAD_HEAD q)
  let d := qdRead s q i
  let s := qdDone q i code s
  let v := s.queue q
  let job := if code ≠ 0 ∨ d.final then none else v.job
  let s := s.setQueue q { v with job := job, active := false, todo := 0, flight := 0, subs := v.subs.filter (fun x => x.1 != i) }
  let s := ((s.put (Fld.CIPHER_QHEAD_HEAD q) ((i + 1) % max 1 (s.get (Fld.CIPHER_QCFG_SIZE q)))).put (Fld.CIPHER_QSTAT_LASTCODE q)
    code).put (Fld.CIPHER_QSTAT_ACTIVE q) (boolBit job.isSome)
  let s := s.fire (if q = 0 then EV.CIPHER_Q0DONE else EV.CIPHER_Q1DONE)
  if code = 0 then s
  else cipherCode code ((s.flag (if q = 0 then Fld.CIPHER_FLAGS_JOBERR0 else Fld.CIPHER_FLAGS_JOBERR1)).fire EV.CIPHER_JOBERR)

/-- The last block of the present descriptor has ended: output, tag, word 7 (R413, R414). -/
def descFinish (q : Nat) (s : State) : State :=
  let v := s.queue q
  match v.job with
  | none => s
  | some j =>
    let d := qdRead s q (s.get (Fld.CIPHER_QHEAD_HEAD q))
    let seg := if j.mode = 6 then List.replicate d.segLen 0#8 else s.bytes (0x40054000 + d.src) d.segLen
    let m := j.done ++ seg
    let all := jobOutput j m
    let out := (all.drop j.done.length).take d.segLen
    let s := s.setQueue q { v with job := some { j with done := m } }
    let s := if modeOut j.mode then s.setBytes (0x40054000 + d.dst) out else s
    if !d.final ∨ !modeTag j.mode ∨ j.tagLen = 0 then descEnd q 0 s
    else if !j.decrypt then descEnd q 0 (s.setBytes (0x40054000 + d.tag) (jobTag j m all))
    else if jobTag j m all = s.bytes (0x40054000 + d.tag) j.tagLen then descEnd q 0 s
    else
      let s := if d.init ∧ modeOut j.mode then s.setBytes (0x40054000 + d.dst) (List.replicate d.segLen 0#8) else s
      descEnd q 0x0404 s

/-- Take up the next pending descriptor of a queue, at most n of them in a row where they end at once (R419, R420). -/
def queueStart (q : Nat) (fails : Bool) : Nat → State → State
  | 0, s => s
  | n + 1, s =>
    let v := s.queue q
    let i := s.get (Fld.CIPHER_QHEAD_HEAD q)
    let en := s.has (if q = 0 then Fld.CIPHER_CTL_Q0EN else Fld.CIPHER_CTL_Q1EN)
    if v.active ∨ !en ∨ s.get (Fld.CIPHER_QCFG_SIZE q) = 0 ∨ i = s.get (Fld.CIPHER_QTAIL_TAIL q) then s
    else
      let d := qdRead s q i
      let code := qdCode d v.job
      if code ≠ 0 then queueStart q fails n (descEnd q code s)
      else
        let submit := match v.job with | some j => j.submit | none => qdSubmit s q i
        let k := match v.job with | some j => (0, j.key, s) | none => jobKey d submit fails s
        let s := k.2.2
        if k.1 ≠ 0 then queueStart q fails n (descEnd q k.1 s)
        else
          let j := match v.job with | some j => j | none => jobStart s d k.2.1 submit
          let s := s.setQueue q { v with job := some j, active := true, todo := qdBlocks d j, flight := 0 }
          let s := (s.put (Fld.CIPHER_QSTAT_SUBMIT q) submit).flag (Fld.CIPHER_QSTAT_ACTIVE q)
          if qdBlocks d j = 0 then queueStart q fails n (descFinish q s) else s

/-! ### The scheduler (R408 to R411) -/

/-- May a core take a block of a key length (R409)? -/
def coreTakes (s : State) (k keylen : Nat) : Bool :=
  keylen == 0 || s.get Fld.CIPHER_STAT_INSERVICE == 1 || s.get Fld.CIPHER_STAT_SHORT != k

/-- Has queue q a block that core k may start? -/
def queueReady (s : State) (q k : Nat) : Bool :=
  let v := s.queue q
  match v.job with
  | some j => v.active && decide (0 < v.todo) && decide (v.flight < inFlightMax j.mode) && coreTakes s k j.keylen
  | none => false

/-- An idle core takes the next block: LINK, KEY, Q0, Q1, then a self-test step, which yields to a LINK block (R23). -/
def coreGrant (k : Nat) (s : State) : State :=
  if (s.core k).isSome then s
  else
    let testing := s.cipher.tests.any (fun t => t.1 == k)
    let serves := !coreRetired s k && !s.cipher.untested.contains k
    let start := fun (q : Nat) (s : State) =>
      setCore k (some (.queue q)) (s.setQueue q { s.queue q with todo := (s.queue q).todo - 1, flight := (s.queue q).flight + 1 })
    match serves, s.cipher.link with
    | true, t :: rest =>
      let s := { s with cipher := { s.cipher with link := rest } }
      let s := if testing ∧ !s.yielded.contains 2 then yieldBackground 2 s else s
      setCore k (some .link) (if t + 6 < s.elapsed then s.inc Fld.CIPHER_CNT_LINKWAIT else s)
    | _, _ =>
      if serves ∧ 0 < s.cipher.keyWait ∧ coreTakes s k 2 then
        setCore k (some .key) { s with cipher := { s.cipher with keyWait := s.cipher.keyWait - 1 } }
      else if serves ∧ queueReady s 0 k then start 0 s
      else if serves ∧ queueReady s 1 k then start 1 s
      else if testing then setCore k (some .test) (stepResumed 2 s)
      else s

/-- All idle cores take work, the lowest-numbered first. -/
def dispatchCores (s : State) : State := s.forEach (List.range 4) coreGrant

/-- The DRBG asks for a block that refills its FIFO while it has room for four words (R432, R434). -/
def refillAsk (s : State) : State :=
  if s.drbgReady ∧ s.trng.fifo.length ≤ 12 ∧ s.cipher.keyWait = 0 ∧ !s.cipher.cores.contains (some .key) then
    { s with cipher := { s.cipher with keyWait := 1 } }
  else s

/-- Give the FIFO's fill level to TRNG_STAT.AVAIL. -/
def refreshAvail (s : State) : State := s.put Fld.TRNG_STAT_AVAIL s.trng.fifo.length

/-- A KEY-class block of the DRBG ends: four more words, which nothing constrains. -/
def refillEnd (s : State) : State :=
  if s.drbgReady ∧ s.trng.fifo.length ≤ 12 then
    let d := drbgDraw 16 s
    let ws := (chunks 4 d.1).map (fun b => BitVec.ofNat 32 (natOfLE b))
    refreshAvail { d.2 with trng := { d.2.trng with fifo := d.2.trng.fifo ++ ws } }
  else s

/-- Let the queues and the FIFO ask, then serve the idle cores. -/
def cipherRun (fails : Bool) (s : State) : State :=
  dispatchCores (refillAsk (queueStart 1 fails 256 (queueStart 0 fails 256 s)))

/-- LINK_CIPHER_REQUEST (R410). -/
def execLinkCipherRequest (s : State) : Out :=
  .next (dispatchCores { s with cipher := { s.cipher with link := s.cipher.link ++ [s.elapsed] } })

/-! ### Flush (R421) -/

/-- The flush of a queue completes once no block of it is in flight. -/
def flushEnd (q : Nat) (s : State) : State :=
  let v := s.queue q
  if !v.flushing ∨ 0 < v.flight then s
  else
    let s := if v.active then descEnd q 0x0405 s else s
    let size := max 1 (s.get (Fld.CIPHER_QCFG_SIZE q))
    let head := s.get (Fld.CIPHER_QHEAD_HEAD q)
    let tail := s.get (Fld.CIPHER_QTAIL_TAIL q)
    let n := (tail + size - head) % size
    let s := s.forEach (List.range n) (fun i s => qdDone q ((head + i) % size) 0x0405 s)
    let s := if v.job.isSome ∨ 0 < n then cipherCode 0x0405 (s.put (Fld.CIPHER_QSTAT_LASTCODE q) 0x0405) else s
    let s := (s.put (Fld.CIPHER_QHEAD_HEAD q) tail).unflag (Fld.CIPHER_QSTAT_ACTIVE q)
    (s.setQueue q {}).unflag (if q = 0 then Fld.CIPHER_CTL_FLUSH0 else Fld.CIPHER_CTL_FLUSH1)

/-- Begin to flush a queue: it starts no further block. -/
def flushQueue (q : Nat) (s : State) : State :=
  let s := s.flag (if q = 0 then Fld.CIPHER_CTL_FLUSH0 else Fld.CIPHER_CTL_FLUSH1)
  flushEnd q (s.setQueue q { s.queue q with flushing := true, todo := 0 })

/-- CIPHER_FLUSH (R421). -/
def execCipherFlush (q : Fin 2) (s : State) : Out := .next (dispatchCores (flushQueue q.val s))

/-- CIPHER_QTAIL_WRITE (R420). -/
def execCipherQtailWrite (q : Fin 2) (master : Master) (value : Word) (keyCheckFails : Bool) (s : State) : Out :=
  let n := q.val
  let t := value.toNat % 256
  let size := s.get (Fld.CIPHER_QCFG_SIZE n)
  if size ≤ t || !s.issues master then .next s
  else
    let old := s.get (Fld.CIPHER_QTAIL_TAIL n)
    let new := (List.range ((t + size - old) % size)).map (fun i => ((old + i) % size, masterBlock master))
    let v := s.queue n
    let s := s.setQueue n { v with subs := v.subs.filter (fun x => !new.any (fun y => y.1 == x.1)) ++ new }
    .next (cipherRun keyCheckFails (s.put (Fld.CIPHER_QTAIL_TAIL n) t))

/-- KEYCLR_WRITE (R415). -/
def execKeyclrWrite (value : Word) (s : State) : Out :=
  .next (s.resetRegs (fun a => decide (Reg.CIPHER_KEY 0 0 ≤ a ∧ a ≤ Reg.CIPHER_KEY 7 7)
    && testBit' value.toNat ((a - Reg.CIPHER_KEY 0 0) / 32)))

/-! ### Self-test (R422 to R425) -/

/-- A core begins its test, unless one runs on it. -/
def selfTest (k : Nat) (s : State) : State :=
  if s.cipher.tests.any (fun t => t.1 == k) then s
  else { s with cipher := { s.cipher with tests := s.cipher.tests ++ [(k, 1, false)] } }

/-- CIPHER_SELFTEST_START (R422): every core in service. -/
def execCipherSelftestStart (byTask : Bool) (s : State) : Out :=
  let s := if byTask then s.takeTask TK.CIPHER_SELFTEST else s
  .next (dispatchCores (s.forEach ((List.range 4).filter (fun k => !coreRetired s k)) selfTest))

/-- CIPHER_RESTORE (R425): the test runs on the retired cores named; other bits clear at once. -/
def execCipherRestore (cores : BitVec 4) (s : State) : Out :=
  .next (dispatchCores (s.forEach ((bitsOf 4 cores.toNat).filter (coreRetired s)) (fun k s =>
    selfTest k (s.putBit Reg.CIPHER_CTL (8 + k) true))))

/-- Take core k out of test. -/
def testOver (k : Nat) (s : State) : State :=
  let s := { s with cipher := { s.cipher with tests := s.cipher.tests.filter (fun t => t.1 != k),
                                              untested := s.cipher.untested.filter (fun c => c != k) } }
  (s.inc Fld.CIPHER_CNT_STRUNS).putBit Reg.CIPHER_CTL (8 + k) false

/-- Bit of core k in SYSCFG_FOSTAT.CIPHRET. -/
def putCoreRetired (k : Nat) (b : Bool) (s : State) : State :=
  refreshCores ((s.putBit Reg.CIPHER_STAT k b).putBit Reg.SYSCFG_FOSTAT (2 + k) b)

/-- A core fails its repeated test (R423, R424). -/
def coreFail (k : Nat) (s : State) : State :=
  if coreRetired s k then s
  else if s.get Fld.CIPHER_STAT_INSERVICE = 1 then
    lifeCode 0x0411 5 (cipherCode 0x0411 (s.flag Fld.CIPHER_FLAGS_LASTFAIL))
  else
    let s := ((putCoreRetired k true s).flag Fld.CIPHER_FLAGS_STFAIL).inc Fld.CIPHER_CNT_RETIRES
    lifeCount 20 16 8 1 (lifeCode 0x0410 5 ((cipherCode 0x0410 s).fire EV.CIPHER_RETIRED))

/-- One self-test step of core k ends (Table CIPH-5). -/
def testStep (k : Nat) (pass : Bool) (s : State) : State :=
  match s.cipher.tests.find? (fun t => t.1 == k) with
  | none => s
  | some (_, step, again) =>
    let put := fun (n : Nat) (a : Bool) (s : State) =>
      { s with cipher := { s.cipher with tests := s.cipher.tests.filter (fun t => t.1 != k) ++ [(k, n, a)] } }
    if pass then
      if step < 6 then put (step + 1) again s
      else testOver k (if coreRetired s k then putCoreRetired k false s else s)
    else
      let s := s.inc Fld.CIPHER_CNT_STFAILS
      if !again then put 1 true s else coreFail k (testOver k s)

/-- AES_BLOCK_END (R408, R411): core k ends its block and is granted anew. `pass` is the outcome of a self-test step. -/
def execAesBlockEnd (core : Fin 4) (pass : Bool) (keyCheckFails : Bool) (s : State) : Out :=
  let k := core.val
  match s.core k with
  | none => .next s
  | some w =>
    let s := setCore k none s
    let s := match w with
      | .link => s
      | .key => refillEnd s
      | .test => testStep k pass s
      | .queue q =>
        let v := s.queue q
        let s := s.setQueue q { v with flight := v.flight - 1 }
        if v.flushing then flushEnd q s
        else if v.todo = 0 ∧ v.flight ≤ 1 then descFinish q s else s
    let s := coreGrant k (refillAsk (queueStart 1 keyCheckFails 256 (queueStart 0 keyCheckFails 256 s)))
    let s := match w with
      | .queue q => if s.core k ≠ some (.queue q) ∧ 0 < (s.queue q).todo then s.inc Fld.CIPHER_CNT_PREEMPT else s
      | _ => s
    .next (dispatchCores s)

/-! ### TRNG (R432 to R434) -/

/-- TRNG_DATA_READ (R433). -/
def execTrngDataRead (s : State) : Out :=
  match s.trng.fifo with
  | w :: rest =>
    let s := refreshAvail { s with trng := { s.trng with fifo := rest } }
    .next (dispatchCores (refillAsk { s with bus := .data w }))
  | [] => .next { (s.flag Fld.TRNG_FLAGS_UNDERRUN).inc Fld.TRNG_CNT_UNDERRUNS with bus := .data 0 }

/-- The source stops and the DRBG is uninstantiated. -/
def trngStop (s : State) : State :=
  let s := { s with trng := { s.trng with fifo := [], generates := 0, starting := false } }
  refreshAvail (s.unflag Fld.TRNG_STAT_READY)

/-- TRNG_HEALTH_FAIL (R434): the adaptive proportion test, or the repetition count test. -/
def execTrngHealthFail (adaptive : Bool) (s : State) : Out :=
  let start := s.trng.starting
  let s := trngStop s
  let s := s.flag (if adaptive then Fld.TRNG_FLAGS_APTFAIL else Fld.TRNG_FLAGS_RCTFAIL)
  let s := s.put Fld.TRNG_STAT_CODE (if start then 0x0433 else if adaptive then 0x0431 else 0x0430)
  .next ((((s.inc Fld.TRNG_CNT_FAILS).flag Fld.TRNG_STAT_FAILED).unflag Fld.TRNG_CTL_RESTART).fire EV.TRNG_FAIL)

/-- TRNG_RESTART (R434). -/
def execTrngRestart (s : State) : Out :=
  .next ({ trngStop s with trng := { (trngStop s).trng with starting := true } }.flag Fld.TRNG_CTL_RESTART)

/-- TRNG_READY (R432): the start-up ends, and what waited for random data goes on. -/
def execTrngReady (s : State) : Out :=
  if !s.trng.starting ∨ !s.has Fld.TRNG_CTL_EN then .next s
  else
    let s := { s with trng := { s.trng with starting := false } }
    let s := (((s.flag Fld.TRNG_STAT_READY).unflag Fld.TRNG_STAT_FAILED).unflag Fld.TRNG_CTL_RESTART).fire EV.TRNG_READY
    .next (dispatchCores (refillAsk (if s.keys.passWaits then refreshPassStart s else s)))

/-- DRBG_RESEED (R432): after RESEED generate requests, or at the task. -/
def execDrbgReseed (byTask : Bool) (s : State) : Out :=
  let s := if byTask then s.takeTask TK.TRNG_RESEED else s
  .next (if s.drbgReady ∧ (byTask ∨ s.get Fld.TRNG_CTL_RESEED ≤ s.trng.generates) then
    { s with trng := { s.trng with generates := 0 } }.inc Fld.TRNG_CNT_RESEEDS
  else s)

end Sys2Proof.Machine
end

