-- ==== Sys2Proof/Machine/Background.lean ====
section
/-!
DEFINITION. The restart of yielded background steps (R26), and what the AON clock brings about in the radio: listen periods
that fall due (R173).
-/

namespace Sys2Proof.Machine

/-- The yielded step of background activity n runs again where its resource is free: a lane's calibration or health test, or a
core's self-test; the others go on with their next step. -/
def backgroundRestart (n : Nat) (s : State) : State :=
  match n with
  | 0 => s.forEach [0, 1] calResume
  | 1 => s.forEach [0, 1] (fun l s => if s.has (Fld.LANE_HSTAT_RUNNING l) then healthHold l s else s)
  | 2 => s.forEach (s.cipher.tests.map (fun t => t.1)) coreGrant
  | _ => s

/-- BACKGROUND_STEP_RESTART (R26): the yielded step begins again; it waits no longer. -/
def execBackgroundStepRestart (activity : Fin 8) (s : State) : Out :=
  .next (stepResumed activity.val (backgroundRestart activity.val s))

/-- What falls due with the AON clock in the radio (R173). -/
def aonDue (s : State) : State := if s.lfMode then s else listenDue s

end Sys2Proof.Machine
end

