-- ==== Sys2Proof/Machine/LinkAccept.lean ====
section
/-!
DEFINITION. Received frames: the end of a frame and the status queue (R279 to R281), acceptance (R298 to R307), what a
frame gives the tide clock and the drift estimate (R99 to R107), delivery (R333, R334, R589), mesh forwarding (R343 to
R345), deferred acknowledgements (R335 to R338), immediate acks and their receipt (R299, R308).
-/

namespace Sys2Proof.Machine

/-! ### The end of a frame -/

/-- The lane leaves RX for the preset of a possible ack once its time has come (R299, R336). -/
def presetDue (l : Nat) (s : State) : State :=
  match (s.lane l).ackPreset with
  | some t => if t ≤ s.elapsed then laneLeaveRx l 0x0154 2 s else s
  | none => s

/-- Put a record in the status queue: in order of frame end, and within one tick LANE A first, then by pan (R300). -/
def queueInsert (r : RxRecord) (q : List RxRecord) : List RxRecord :=
  let before := fun (x : RxRecord) => decide (x.endAt < r.endAt) || decide (x.endAt = r.endAt ∧ x.pan ≤ r.pan)
  q.takeWhile before ++ r :: q.dropWhile before

/-- RX_FRAME_END (R280): the last sample of pan p's frame, with what the pan measured: the signal and noise power of each data
sub-carrier (native, R233), and the octets: the PSDU as decoded, or for an LE packet its octets from the PDU header on as on the
air, which the pan dewhitens with its channel index and checks by its CRC-24 (R277). -/
def execRxFrameEnd (pan : Fin 16) (fofs : BitVec 32) (corrbits : BitVec 16) (powers : List (Nat × Nat)) (octets : List Byte)
    (s : State) : Out :=
  let p := pan.val
  let l := p / 8
  let s := presetDue l s
  if s.panState p ≠ 4 || !panCounts s then .next s
  else
    let mode := panRecMode s p
    let native := isNative mode
    let v := s.pan p
    let h := v.hdr
    let le := leUnpack (s.rd (Reg.MODEM_PANCRC p)).toNat (s.panChan p) octets
    let psdu := if native then octets else le.1
    let crcFail := !native && !le.2
    let ncbps := ncbpsOf v.table
    let nsym := if native then min 255 (3 + payloadSymbols (hdrLength h) ncbps (hdrRate h) (hdrRep h) mode) else 0
    let full := 16 ≤ (s.modem.queue.filter (fun r => r.lane == l)).length
    let v := { v with hdrOk := !crcFail }
    let s := s.setPan p v
    let code := if full then 0x0155 else if crcFail then 0x0152 else 0
    let measured := if nsym < s.get Fld.MODEM_LOADCFG_PROFMIN then 0 else nsym
    let words := recordWords s p code fofs.toInt corrbits.toNat measured
    let air := if native then airtime (hdrLength h) ncbps (hdrRate h) (hdrRep h) mode else leAirtime mode (psdu.length - 2)
    let ack := native && hdrAckreq h && hdrType h != 1 && s.owner l == 0 && !full
    let busy := (s.lane l).ackPreset.isSome
    let rec' : RxRecord :=
      { lane := l, pan := p, mode := mode, chan := s.panChan p, words := words, hdr := h, ts := v.ts, rssi := v.rssi,
        snr := v.snr, fofs := fofs.toInt, nsym := nsym, margins := powers.map (fun x => marginCode x.1 x.2), airtime := air,
        psdu := psdu, endAt := s.elapsed, preset := ack && !busy, deferred := ack && busy, fetch := v.fetch }
    let s := if full then
        ((s.inc (Fld.MODEM_RXCNT_QFULL l)).flag (if l = 0 then Fld.MODEM_RXFLAGS_QFULLA else Fld.MODEM_RXFLAGS_QFULLB)).fire
          EV.MODEM_QFULL
      else lifeCount64 14 1 { s with modem := { s.modem with queue := queueInsert rec' s.modem.queue } }
    let s := recordEvents p (putPanLast p words s)
    let s := if !v.hdrOk then s
      else if v.paired then afcUpdate 1 fofs.toInt (afcUpdate 0 fofs.toInt s) else afcUpdate l fofs.toInt s
    let s := if ack && !busy then s.setLane l { s.lane l with ackPreset := some (s.elapsed + 160) } else s
    .next (panRest p s)

/-- The head record has been decided and leaves the status queue (R279). -/
def popRecord (s : State) : State := { s with modem := { s.modem with queue := s.modem.queue.drop 1 } }

/-- The lane abandons its preset and is back in RX (R299). -/
def presetAbandon (l : Nat) (s : State) : State :=
  let s := s.setLane l { s.lane l with ackPreset := none }
  if s.laneSt l = 2 ∧ s.owner l = 0 ∧ s.acts.any (fun a => a.lane == l && a.receives) then nativeRx l s else s

/-- A record whose frame gets no immediate ack gives up its lane's preset. -/
def recordNoAck (r : RxRecord) (s : State) : State := if r.preset then presetAbandon r.lane s else s

/-! ### The tide clock (R99 to R103) -/

/-- PROP of a context, where it is valid (R104). -/
def propOf (s : State) (c : Nat) : Int := if s.ctxBit c CF.PROPVALID then s.ctx c CF.PROP else 0

/-- The sync arithmetic on a parent frame (R103). -/
def parentFrame (r : RxRecord) (c t : Nat) (s : State) : State :=
  let th : Int := r.fullTs s - pathDly s r.lane r.mode 0 - propOf s c - 64 * t
  let s := s.putS Fld.TIDE_LASTOFS_THETA (max (-(2 ^ 31 - 1)) (min (2 ^ 31 - 1) th))
  let s := rateSet (satS 24 (s.rate + (r.fofs - s.rate) / 2 ^ s.get Fld.TIDE_LOOP_RATEK)) s
  let s := if s.stratum = 15 ∨ 64 * s.get Fld.TIDE_CFG_STEPTHR < th.natAbs then
      timeStep (-((th + 32) / 64)) (slewCancel s)
    else slewStart th s
  disciplineCheck { s with tide := { s.tide with discFrames := s.tide.discFrames + 1 } }

/-- Adopt context c as the parent (R100). -/
def parentAdopt (r : RxRecord) (c hs t : Nat) (s : State) : State :=
  let s := ((((s.flag Fld.TIDE_STAT_PVALID).put Fld.TIDE_STAT_PARENT c).unflag Fld.TIDE_STAT_HOLDOVER).flag
    Fld.TIDE_FLAGS_PARENTCHG).inc Fld.TIDE_CNT_PCHANGES |>.fire EV.TIDE_PARENT
  let s := { s with tide := { s.tide with parentStratum := hs, cand := none } }
  setStratum (hs + 1) (parentFrame r c t s)

/-- The tracked candidate whose header stratum is no longer below the parent's is one no more (R99, R100). -/
def candRecheck (c hs : Nat) (s : State) : State :=
  match s.tide.cand with
  | some (k, _, _) => if k = c ∧ (hs = 7 ∨ s.tide.parentStratum ≤ hs) then { s with tide := { s.tide with cand := none } } else s
  | none => s

/-- Offer a frame of context c with header stratum hs and tide time t to the tide clock (R99 to R101): every frame of the
parent counts (R103), of others only a candidate's. `full`: it carries the full 64-bit time. -/
def offerTide (r : RxRecord) (c hs t : Nat) (full : Bool) (s : State) : State :=
  let valid := s.has Fld.TIDE_STAT_PVALID
  let isParent := valid && s.get Fld.TIDE_STAT_PARENT == c
  let s := candRecheck c hs s
  if s.get Fld.TIDE_CFG_SRCSEL ≠ 0 then s
  else if isParent then
    if hs = 7 then parentLose s
    else
      let s := if hs = s.tide.parentStratum then s
        else
          let cand := match s.tide.cand with
            | some (k, ks, n) => if hs ≤ ks then none else some (k, ks, n)
            | none => none
          setStratum (hs + 1) { s with tide := { s.tide with parentStratum := hs, cand := cand } }
      parentFrame r c t s
  else if !s.ctxBit c CF.TSRC ∨ hs = 7 ∨ r.snr < 4 * (s.get Fld.TIDE_LOOP_SNRMIN : Nat) then s
  else if !valid then (if s.stratum = 15 ∧ !full then s else parentAdopt r c hs t s)
  else if s.tide.parentStratum ≤ hs then s
  else
    let n := match s.tide.cand with
      | some (k, ks, n) => if k = c ∧ ks = hs then n + 1 else if hs < ks ∨ k = c then 1 else 0
      | none => 1
    if n = 0 then s
    else if s.get Fld.TIDE_LOOP_CANDN ≤ n then parentAdopt r c hs t s
    else { s with tide := { s.tide with cand := some (c, hs, n) } }

/-- The drift update of context c (R107, R108, R110, R601). -/
def partnerFrame (r : RxRecord) (c hs t : Nat) (s : State) : State :=
  let o : Int := r.fullTs s - pathDly s r.lane r.mode 0 - propOf s c - 64 * t
  let dt : Nat := (s.now + 2 ^ 40 - s.ctx c CF.ANCHOR) % 2 ^ 40
  let s := anchorFresh c s
  let s :=
    if s.ctxBit c CF.ANCHORVALID ∧ s.ctx c CF.EPOCH = s.get Fld.TIDE_STAT_STEPEPOCH ∧ 32768 ≤ dt then
      let drift := toS 16 (s.ctx c CF.DRIFT)
      let e : Int := (o - toS 24 (s.ctx c CF.OFS)) * 1000000 / dt - drift
      let s' := s.setCtx c CF.DRIFT (ofS 16 (satS 16 (drift + e / 2 ^ s.get Fld.TIDE_LOOP_DRIFTK)))
      s'.setCtx c CF.UNC (min 255 (max (s.get Fld.TIDE_GUARD_UNCFLOOR) (s.ctx c CF.UNC / 2 + e.natAbs / 16)))
    else s
  let s := s.setCtx c CF.OFS (ofS 24 (satS 24 o))
  let s := ((s.setCtx c CF.ANCHOR s.now).setCtx c CF.ANCHORVALID 1).setCtx c CF.EPOCH (s.get Fld.TIDE_STAT_STEPEPOCH)
  let s := if s.get Fld.TIDE_GUARD_MISSTHR ≤ s.ctx c CF.MISSES then
      s.setCtx c CF.UNC (min 255 (8 * s.get Fld.TIDE_GUARD_MAXPPM)) else s
  (s.setCtx c CF.MISSES 0).setCtx c CF.STRATUM hs

/-! ### Replay (R302 to R306) -/

/-- A replay cache entry. -/
structure CacheEntry where
  src : Nat
  kid : Nat
  map : Nat
  ctr : Nat
  lastt : Nat
  deriving DecidableEq, Repr

def cacheEntry (s : State) (k : Nat) : CacheEntry :=
  let x := s.num (cacheAddr k) 16
  ⟨x % 2 ^ 16, x / 2 ^ 16 % 2 ^ 8, x / 2 ^ 24 % 2 ^ 8, x / 2 ^ 32 % 2 ^ 32, x / 2 ^ 64⟩

def putCache (k : Nat) (e : CacheEntry) (s : State) : State :=
  s.setNum (cacheAddr k) 16 (e.src + e.kid * 2 ^ 16 + e.map * 2 ^ 24 + e.ctr * 2 ^ 32 + e.lastt * 2 ^ 64)

def cacheFind (s : State) (src kid : Nat) : Option Nat :=
  (List.range 1024).find? (fun k => s.num (cacheAddr k) 3 == src + kid * 2 ^ 16)

/-- RPEVICT (R304). -/
def rpevict (s : State) : Nat := s.get Fld.LINK_RPEVICTLO_T + 2 ^ 32 * s.get Fld.LINK_RPEVICTHI_T

def setRpevict (t : Nat) (s : State) : State := (s.put Fld.LINK_RPEVICTLO_T t).put Fld.LINK_RPEVICTHI_T (t / 2 ^ 32)

/-- The replay check: 0 new, 0x020B duplicate, 0x020A or 0x020F old. -/
def replayCheck (s : State) (c : Option Nat) (f : OmlFrame) (t : Nat) (unsync : Bool) : Nat :=
  let fresh := if unsync ∨ rpevict s < t then 0 else 0x020F
  if f.kid = 0 then
    match c with
    | none => 0x0205
    | some c =>
      if !s.ctxBit c CF.RPVALID then fresh
      else
        let d := toS 32 (s.ctx c CF.HWM + 2 ^ 32 - f.fcnt)
        if d < 0 then 0 else if 64 ≤ d then 0x020A else if testBit' (s.ctx c CF.RPMAP) d.toNat then 0x020B else 0
  else match cacheFind s f.src f.kid with
    | none => fresh
    | some k =>
      let e := cacheEntry s k
      if e.ctr < f.fcnt then 0
      else if f.fcnt = e.ctr then 0x020B
      else if f.fcnt + 8 < e.ctr then 0x020A
      else if testBit' e.map (e.ctr - 1 - f.fcnt) then 0x020B else 0

/-- The cache entry a new sender takes: a free one, or the one with the oldest LASTT (R303). -/
def cacheSlot (s : State) : Nat :=
  match (List.range 1024).find? (fun k => (cacheEntry s k).kid == 0) with
  | some k => k
  | none => (List.range 1024).foldl (fun b k => if (cacheEntry s k).lastt < (cacheEntry s b).lastt then k else b) 0

/-- Commit a frame to the replay state (R302, R303, R305). -/
def replayCommit (c : Option Nat) (f : OmlFrame) (t : Nat) (s : State) : State :=
  if f.kid = 0 then
    match c with
    | none => s
    | some c =>
      let d := toS 32 (s.ctx c CF.HWM + 2 ^ 32 - f.fcnt)
      if !s.ctxBit c CF.RPVALID then ((s.setCtx c CF.HWM f.fcnt).setCtx c CF.RPMAP 1).setCtx c CF.RPVALID 1
      else if d < 0 then
        (s.setCtx c CF.HWM f.fcnt).setCtx c CF.RPMAP (if d ≤ -64 then 1 else s.ctx c CF.RPMAP * 2 ^ (-d).toNat % 2 ^ 64 + 1)
      else s.setCtx c CF.RPMAP (setBitN (s.ctx c CF.RPMAP) d.toNat)
  else match cacheFind s f.src f.kid with
    | some k =>
      let e := cacheEntry s k
      if e.ctr < f.fcnt then
        let n := f.fcnt - e.ctr
        putCache k { e with map := if 8 < n then 0 else (e.map * 2 ^ n ||| 2 ^ (n - 1)) % 256, ctr := f.fcnt, lastt := t } s
      else putCache k { e with map := setBitN e.map (e.ctr - 1 - f.fcnt) } s
    | none =>
      let k := cacheSlot s
      let e := cacheEntry s k
      let s := if e.kid = 0 then s.put Fld.LINK_RPSTAT_USED (s.get Fld.LINK_RPSTAT_USED + 1)
        else setRpevict (max (rpevict s) e.lastt) (s.inc Fld.LINK_ACCCNT_EVICTS)
      putCache k ⟨f.src, f.kid, 0, f.fcnt, t⟩ s

/-! ### Drops -/

/-- A frame is dropped with a code (R298). -/
def acceptDrop (r : RxRecord) (f : OmlFrame) (code : Nat) (c : Option Nat) (s : State) : State :=
  let s := recordNoAck r (traceWrite 4 r.lane code (c.getD 0x1FF) 0x7F f.fcnt s)
  if code = 0x0203 then s
  else
    let s := (s.put Fld.LINK_ACCLAST_SRC (if f.longSrc then 0xFFFF else f.src)).put Fld.LINK_ACCLAST_CODE code
    let s := match code with
      | 0x0206 =>
        let s := s.inc Fld.LINK_ACCCNT_MICFAIL
        match c with | some c => s.ctxCount c CF.RXMICFAIL | none => s
      | 0x020A => s.inc Fld.LINK_ACCCNT_OLD
      | 0x020F => s.inc Fld.LINK_ACCCNT_OLD
      | 0x0207 => s.inc Fld.LINK_ACCCNT_WINDOW
      | 0x0209 => s.inc Fld.LINK_ACCCNT_UNSYNC
      | 0x0201 => s.inc Fld.LINK_ACCCNT_FORMAT
      | 0x0202 => s.inc Fld.LINK_ACCCNT_FORMAT
      | 0x0204 => s.inc Fld.LINK_ACCCNT_FORMAT
      | 0x0208 => s.inc Fld.LINK_ACCCNT_FORMAT
      | 0x020E => s.inc Fld.LINK_ACCCNT_FORMAT
      | _ => s.inc Fld.LINK_ACCCNT_NOKEY
    if [0x0206, 0x0207, 0x0209, 0x020A, 0x020F].contains code then s.fire EV.LINK_RXREFUSE else s

/-! ### Acknowledgements of sent frames (R308) -/

/-- A frame that waits for its ack or its retransmission is complete (R308, R244). -/
def frameAcked (a : Activity) (s : State) : State :=
  let c := match a.frame with | some f => f.pctx | none => 512
  let s := if ctxOpen s c then (s.ctxCount c CF.TXACKED).setCtx c CF.LDFAIL 0 else s
  if a.kind = .conn ∧ a.phase = .ackWait ∧ s.ctxBit a.ctx CF.CENTRAL then
    s.setAct { a with phase := .running, heard := true }
  else endAct a 0 s

/-- Complete every frame to `src` under `kid` whose counter has its bit set (R292, R290, R308). -/
def ackMap (src kid base map width : Nat) (s : State) : State :=
  let hit := s.acts.filter (fun a => a.phase != .running && match a.frame with
    | some f => f.micsz != 0 && f.dst == src && f.kid == kid && (match f.fcnt with
      | some n => let k := (n + 2 ^ 32 - base) % 2 ^ 32
                  decide (k < width) && testBit' map k
      | none => false)
    | none => false)
  s.forEach hit (fun a s => frameAcked a s)

/-! ### Deferred acknowledgements (R336 to R338) -/

/-- Enter a frame in the deferred-ack table; an unprotected one carries no counter and makes no entry. -/
def dackAdd (lane : Nat) (c : Option Nat) (f : OmlFrame) (s : State) : State :=
  if !f.sec then s
  else
    let near := fun (d : DackEntry) => d.act.isNone && d.src == f.src && d.kid == f.kid && decide ((f.fcnt + 2 ^ 32 - d.base) % 2 ^ 32 < 32)
    let s := traceWrite 6 lane 0 (c.getD 0x1FF) 0x7F f.fcnt s
    let ds := s.dacks
    match ds.findIdx? near with
    | some k =>
      let d := ds.getD k ⟨0, 0, 0, 0, 0, 0, none⟩
      let d := { d with map := setBitN d.map ((f.fcnt + 2 ^ 32 - d.base) % 2 ^ 32) }
      setDacks (ds.set k d) s
    | none =>
      let full := 16 ≤ ds.length
      let s := if full then (s.inc Fld.LINK_SCHCNT_DACKDROP).flag Fld.LINK_SCHFLAGS_DACKOVF else s
      let oldest := ds.zipIdx.foldl (fun (b : DackEntry × Nat) x => if x.1.first < b.1.first then x else b)
        (ds.headD ⟨0, 0, 0, 0, 0, 0, none⟩, 0)
      let new : DackEntry := ⟨c.getD 512, f.src, f.kid, f.fcnt, 1, s.elapsed, none⟩
      let kept := if full then ds.eraseIdx oldest.2 else ds
      (setDacks (kept ++ [new]) s).inc Fld.LINK_SCHCNT_DACK

/-! ### Profiles of received frames (R309, R240) -/

/-- Build the profile of a frame and note when it is due; the octets where an immediate ack is to carry it. -/
def profileOf (r : RxRecord) (f : OmlFrame) (immediate : Bool) (s : State) : List Byte × State :=
  if r.nsym < s.get Fld.MODEM_LOADCFG_PROFMIN ∨ f.longSrc ∨ !(f.ackreq || f.dstmode == 0 || (f.dstmode == 1 && f.dst == 0xFFFF)) then ([], s)
  else
    let ch := chooseSlot r.mode r.margins s
    let slot := ch.1.1
    let bytes := profileBytes slot r.mode ch.1.2.2 r.nsym (ofS 8 r.rssi) ch.1.2.1
    let s := ch.2
    let old := profOf s f.src
    let aged := match old with
      | some p => (match p.sentAt with
        | some t => decide (s.get Fld.LINK_FBCFG_FBAGE * 32000000 ≤ s.elapsed - t)
        | none => true)
      | none => true
    let due := f.fbreq || hdrLoadidx r.hdr == 0 || slot != hdrLoadidx r.hdr || aged
    let sent := match old with | some p => p.sentAt | none => none
    let s := setProf ⟨f.src, if f.sec then f.fcnt else 0xFFFFFFFF, bytes, due, sent⟩ s
    (if due ∧ immediate then bytes else [], s)

/-! ### Answering (R299, R335, R336) -/

/-- The PSDU of an ack. -/
def ackPsdu (s : State) (p : AckPlan) : List Byte :=
  let fc := (if p.profile.isEmpty then 0 else 0x200) + 8 * p.micsz + (if p.sec then 4 else 0)
  let head := bytesLE 2 fc ++ bytesLE 1 p.astat ++ bytesLE 2 (if p.sec then p.fcnt else 0) ++ p.profile
  if p.sec then head ++ (ccmEncrypt (s.keyBytes p.key) (omlNonce true p.src p.fcnt p.t40 p.kid) head [] (micOctets p.micsz)).2
  else head

/-- Airtime of an ack (R291). -/
def ackAirtime (p : AckPlan) : Nat := airtime (5 + p.profile.length + (if p.sec then micOctets p.micsz else 0)) 48 0 p.rep p.mode

/-- The lane an ack leaves from (R335, R177). -/
def ackTxLane (s : State) (p : AckPlan) : Nat := if s.paired then pairedTxLane s p.src else p.lane

/-- The first refusal of an ack (R335: R164, R170, R171, R348; no LBT, R174), or 0. -/
def ackCode (s : State) (p : AckPlan) : Nat :=
  let l := ackTxLane s p
  if launchCode s l ≠ 0 then launchCode s l
  else if settleLeft s l ≠ 0 then 0x0101
  else if s.dip then 0x0701
  else if txRefCode s ≠ 0 then txRefCode s
  else match subBandOf s (chanKHz p.mode p.chan) p.mode with
    | none => 0x0302
    | some k => if dwellExceeded s k (ackAirtime p) then 0x0303 else if !dutyAllows s k (ackAirtime p) then 0x0301 else 0

/-- An ack is refused: the receiving lane abandons its preset, the frame stays committed and is entered in the deferred-ack table
(R299, R335). -/
def ackRefused (p : AckPlan) (code : Nat) (s : State) : State :=
  let l := ackTxLane s p
  let a : Activity := { id := 128 + l, kind := .ack, mode := p.mode, chan := p.chan, lane := l, ctx := p.ctx,
                        sub := subBandOf s (chanKHz p.mode p.chan) p.mode }
  let s := refuseAct a code s
  let f : OmlFrame := omlParse 0 true (bytesLE 2 (if p.sec then 4 else 0))
  let s := dackAdd p.lane (if p.ctx < 512 then some p.ctx else none) { f with src := p.src, fcnt := p.fcnt, kid := p.kid } s
  presetAbandon p.lane s

/-- Acknowledge an accepted frame or a duplicate: at the turn-round, or through the deferred-ack table; a refused ack is given up
at the decision. -/
def answer (r : RxRecord) (f : OmlFrame) (c : Option Nat) (key astat : Nat) (prof : List Byte) (s : State) : State :=
  if !f.ackreq then recordNoAck r s
  else if !r.preset then dackAdd r.lane c f s
  else
    let plan : AckPlan :=
      { lane := r.lane, mode := r.mode, chan := r.chan, rep := hdrRep r.hdr, sec := f.sec, micsz := f.micsz, key := key,
        kid := f.kid, src := f.src, fcnt := f.fcnt, t40 := f.t40, astat := astat, profile := prof, ctx := c.getD 512,
        endAt := r.endAt }
    if ackCode s plan ≠ 0 then ackRefused plan (ackCode s plan) s
    else { s with link := { s.link with ackPlans := s.link.ackPlans.filter (fun p => p.lane != r.lane) ++ [plan] } }

/-! ### Delivery (R333, R334, R589) -/

/-- The lowest free host-bound mailbox slot. -/
def hostSlot (s : State) : Option Nat :=
  (List.range 16).find? (fun j => eb s.ringCfg 22 ≤ j && testBit' (s.get Fld.HOSTP_MBDIR_TOHOST) j
    && !testBit' (s.get Fld.HOSTP_MBTOHOST_FULL) j)

/-- Signal a host-bound slot (R588). -/
def hostSignal (j : Nat) (s : State) : State :=
  ((s.put Fld.HOSTP_MBTOHOST_FULL (setBitN (s.get Fld.HOSTP_MBTOHOST_FULL) j)).flag Fld.HOSTP_IRQSTAT_MBOX).fire EV.HOSTP_MBOX

/-- A frame of a class 3 context goes to the host: into a mailbox, or it stays in the queue (R589). -/
def deliverHost (r : RxRecord) (ctx src odst osrc kid : Nat) (payload : List Byte) (s : State) : State :=
  let box := if s.has Fld.HOSTP_CFG_RXTOMB ∧ payload.length ≤ 48 then hostSlot s else none
  match box with
  | some j =>
    let head := bytesLE 2 src ++ bytesLE 2 osrc ++ bytesLE 2 payload.length ++ bytesLE 2 ctx ++ bytesLE 8 r.ts
    hostSignal j (s.setBytes (mailboxAddr j) (head ++ payload))
  | none =>
    let t := takeCells payload s
    (rxqAppend r.words ctx payload.length src odst osrc kid 1 0 t.1 t.2).flag Fld.HOSTP_IRQSTAT_RXQ

/-- Deliver a payload to software or the host. -/
def deliver (r : RxRecord) (ctx src odst osrc kid disp code : Nat) (payload : List Byte) (s : State) : State :=
  let s := if disp = 1 then deliverHost r ctx src odst osrc kid payload s
    else
      let t := takeCells payload s
      rxqAppend r.words ctx payload.length src odst osrc kid disp code t.1 t.2
  s.fire EV.LINK_RXDONE

/-! ### Mesh routing (R343 to R345) -/

/-- The route of a mesh frame (R344): 0 and the forwarding slot, 1 where the frame is for this device, or the code that
makes it unroutable. -/
def meshRoute (s : State) (f : OmlFrame) : Nat × Nat :=
  let odst := eh f.mesh 0
  let h := (odst ^^^ (odst / 2 ^ 11)) % 2048
  if odst = s.shortAddr then (1, 0)
  else if !s.has Fld.LINK_FWDCFG_EN ∨ odst = 0xFFFF then (0x0250, 0)
  else
    let ok := fun k => s.ram (fwdAddr k) FF.VALID == 1 && s.ram (fwdAddr k) FF.ODST == odst && s.ram (fwdAddr k) FF.DROP == 0
      && ctxOpen s (s.ram (fwdAddr k) FF.CTX) && ctxClass s (s.ram (fwdAddr k) FF.CTX) < 2
    match ((List.range 8).map (fun i => (h + i) % 2048)).find? ok with
    | none => (0x0250, 0)
    | some k =>
      if eb f.mesh 4 % 16 = 0 then (0x0251, k)
      else if 8 ≤ s.link.fwds.length then (0x0252, k) else (0, k)

/-- The frame a forwarder sends in place of one it received (R301). -/
def forwardFrame (s : State) (a : Activity) (t : List Byte) (g : FwdFrame) : TxFrame :=
  let hop := (g.hop % 16 - 1) + (g.hop / 16 + 1) % 16 * 16
  entryFrame s a t (some
    { type := g.type, dst := g.nextHop, kid := tKid t, payload := g.payload, fields := g.fields,
      mesh := bytesLE 2 g.odst ++ bytesLE 2 g.osrc ++ bytesLE 2 hop,
      micsz := if tKid t = 0 then tMicsz t else if tKid t ≤ 15 then s.get (Fld.LINK_NETKEY_MICSZ (tKid t)) else tMicsz t })

/-- The lane a forwarded frame leaves from: another one than the receiver's where it holds the roles (R345). -/
def forwardLane (s : State) (rxLane band t0 t1 id : Nat) : Nat × Nat :=
  if rolesHeld s (otherLane rxLane) .forward band && s.owner (otherLane rxLane) == 0 then (0, otherLane rxLane)
  else laneChoice s 0 .forward band t0 t1 id

/-- The launch of a forwarded frame is planned: template, lane, time, and the lane prepared from now on; a refusal ends it (R345,
R158 to R160). `boundary`: ticks to the next step boundary of the lane it leaves from. -/
def forwardPlan (r : RxRecord) (g : FwdFrame) (q ctx tm ackEnd boundary : Nat) (s : State) : State :=
  let gap := if r.mode = 0 then 1536 else 7680
  let endNow := s.now - (s.elapsed - r.endAt)
  let base : Activity := { id := 64 + q, kind := .forward, mode := 0, chan := 0, lane := r.lane, ctx := ctx, tlaunch := endNow + gap }
  match s.tmpl tm with
  | none => refuseAct base 0x0211 s
  | some t =>
    let ch := if tChan t ≠ 0xFF then tChan t else s.ctx ctx CF.CHAN
    let a := { base with mode := tMode t, chan := ch, prio := tPrio t, latepol := tLatepol t, tmpl := t }
    let a := { a with sub := subBandOf s (chanKHz a.mode a.chan) a.mode }
    let tx := forwardFrame s a t g
    let lc := forwardLane s r.lane (bandOf a.mode) (endNow + gap) (endNow + gap + tx.airtime) a.id
    let lane := if s.paired ∧ lc.1 = 0 then pairedTxLane s g.nextHop else lc.2
    let launch := if lane = r.lane then endNow + ackEnd + gap else endNow + gap
    let a := { a with lane := lane, launch := launch, frame := some tx }
    let a := { a with useFrom := launch - prepTicks s a, useTo := launch + tx.airtime + turnRound }
    let freq := chanFreq a.mode a.chan
    if lc.1 ≠ 0 then refuseAct a lc.1 s
    else match readyCheck s a freq boundary true with
      | none => refuseAct a 0x0101 (laneTune a.lane freq s)
      | some a => listenDue (prepare a freq (settle a s))

/-- Hand a frame to forwarding through forwarding slot k (R344, R345). `ackEnd`: ticks from the frame's end to the end of
its ack, 0 without one. -/
def forwardStart (r : RxRecord) (f : OmlFrame) (c : Option Nat) (k ackEnd boundary : Nat) (payload : List Byte) (s : State) :
    State :=
  let q := ((List.range 8).find? (fun q => !s.link.fwds.any (fun g => g.q == q))).getD 0
  let ctx := s.ram (fwdAddr k) FF.CTX
  let tm := if s.ram (fwdAddr k) FF.TMPL = 31 then s.get Fld.LINK_FWDCFG_TMPL else s.ram (fwdAddr k) FF.TMPL
  let s := (s.ramCount (fwdAddr k) FF.HITS 1).setRam (fwdAddr k) FF.LASTUSE s.stamp
  let tk := takeCells payload s
  let g : FwdFrame :=
    { q := q, run := tk.1, words := r.words, rxctx := c.getD 0x1FF, type := f.type, fields := f.fields, src := f.src,
      kid := f.kid, odst := eh f.mesh 0, osrc := eh f.mesh 2, hop := eb f.mesh 4, payload := payload, rxLane := r.lane,
      mode := r.mode, ctx := ctx, tmpl := tm,
      nextHop := s.ram (fwdAddr k) FF.NEXTHOP }
  let s := tk.2
  let s := refreshRxq { s with link := { s.link with fwds := s.link.fwds ++ [g] } }
  let s := traceWrite 7 r.lane 0 ctx 0x7F f.fcnt (s.fire EV.LINK_RXDONE)
  forwardPlan r g q ctx tm ackEnd boundary s

/-! ### Committed frames -/

/-- The statistics of a committed frame in its context, and what it renews (R305, R341, Table SCHED-2). -/
def commitStats (r : RxRecord) (f : OmlFrame) (c : Option Nat) (s : State) : State :=
  let s := traceWrite 3 r.lane 0 (c.getD 0x1FF) 0x7F f.fcnt (s.inc Fld.LINK_ACCCNT_ACCEPT)
  let s := if s.paired then
      let best := if r.rssi < toS 8 ((r.words.getD 3 0).toNat / 2 ^ 8) then 1 else 0
      { s with link := { s.link with pairBest := s.link.pairBest.filter (fun p => p.1 != f.src) ++ [(f.src, best)] } }
    else s
  match c with
  | none => s
  | some c =>
    let s := (((s.ctxCount c CF.RXFRAMES).setCtx c CF.LASTRX s.stamp).setCtx c CF.LASTRSSI (ofS 8 r.rssi)).setCtx c CF.LASTSNR
      (ofS 8 r.snr)
    if s.ctxBit c CF.CONN then renewSup c s else s

/-- What an accepted frame brings beside its payload: the acks it reports and its profile (R292, R308, R309). -/
def useElements (f : OmlFrame) (c : Option Nat) (s : State) : State :=
  let s := if f.type = 2 then ackMap f.src (eb f.fields 0) (natOfLE (cut f.fields 1 4)) (natOfLE (cut f.fields 5 4)) 32 s else s
  let s := if f.dack.isEmpty then s
    else ackMap f.src (eb f.dack 0) (natOfLE (cut f.dack 1 4)) (natOfLE (cut f.dack 5 2)) 16 s
  match f.prof.isEmpty, c with
  | false, some c => profileApply c (f.prof.drop 4) s
  | _, _ => s

/-- The partner of a running reception has been heard (R112, R339). -/
def actHeard (r : RxRecord) (c : Option Nat) (s : State) : State :=
  match c with
  | none => s
  | some c => s.forEach (s.acts.filter (fun a => a.receives && a.ctx == c && (a.kind == .conn || a.kind == .rxCtx)
      && (a.lane == r.lane || s.paired))) (fun a s => s.setAct { a with heard := true })

/-- Ticks from a frame's end to the end of its immediate ack, as R345 counts it. -/
def ackSpan (r : RxRecord) (f : OmlFrame) (prof : List Byte) : Nat :=
  if f.ackreq ∧ r.preset then turnRound + airtime (5 + prof.length + micOctets f.micsz) 48 0 (hdrRep r.hdr) r.mode else 0

/-- A frame that passed every check: deliver it, forward it, or refuse it (R333, R334, R344). `commit`: it is protected. -/
def takeFrame (r : RxRecord) (f : OmlFrame) (c : Option Nat) (key t boundary : Nat) (payload : List Byte) (s : State) : State :=
  let route := if f.mesh.isEmpty then (1, 0) else meshRoute s f
  let s := if route.1 = 0x0252 then s.flag Fld.LINK_SCHFLAGS_FWDFULL else s
  let unroutable := route.1 ≠ 0 ∧ route.1 ≠ 1
  if unroutable ∧ s.has Fld.LINK_FWDCFG_UNROUTE then
    recordNoAck r (traceWrite 2 r.lane route.1 (c.getD 0x1FF) 0x7F f.fcnt (s.inc Fld.LINK_SCHCNT_REFUSE))
  else if !rxqRoom s payload.length then recordNoAck r (rxqRefuse r.lane (c.getD 0x1FF) f.fcnt s)
  else
    let s := if f.sec then commitStats r f c (replayCommit c f t s) else s
    let s := actHeard r c (if f.sec then useElements f c s else s)
    let pr := profileOf r f r.preset s
    let s := pr.2
    let host := match c with | some c => ctxClass s c == 3 | none => false
    let disp := if unroutable then 3 else if host then 1 else 0
    let src := if f.longSrc then 0xFFFF else f.src
    let s := if route.1 = 0 then forwardStart r f c route.2 (ackSpan r f pr.1) boundary payload s
      else deliver r (c.getD 0x1FF) src (eh f.mesh 0) (eh f.mesh 2) f.kid disp (if unroutable then route.1 else 0) payload s
    answer r f c key (if route.1 = 0 then 2 else 0) pr.1 s

/-- A duplicate (R307). -/
def duplicateFrame (r : RxRecord) (f : OmlFrame) (c : Option Nat) (key : Nat) (s : State) : State :=
  let s := (s.inc Fld.LINK_ACCCNT_DUP).fire EV.LINK_DUP
  let s := match c with | some c => s.ctxCount c CF.RXDUP | none => s
  let pr := profileOf r f r.preset s
  answer r f c key 1 pr.1 pr.2

/-- Is a frame addressed to this device (R285, R298)? -/
def addressedHere (s : State) (f : OmlFrame) : Bool :=
  match f.dstmode with
  | 0 => true
  | 1 => f.dst == 0xFFFF || (f.dst == s.shortAddr && s.shortAddr != 0xFFFE)
  | _ => f.dst == s.eui && s.shortAddr != 0xFFFE

/-- The pipeline of R298 on an OML record. -/
def acceptOml (r : RxRecord) (boundary : Nat) (fails : Bool) (s : State) : State :=
  let f := omlParse (hdrType r.hdr) (hdrAckreq r.hdr) r.psdu
  let fmt := omlFormat f r.psdu.length
  let c := if f.longSrc then none else findCtx s f.src
  let drop := fun code s => acceptDrop r f code c s
  let mine := addressedHere s f
  let own := if f.longSrc then f.src == s.eui else f.src == s.shortAddr && s.shortAddr != 0xFFFE
  if fmt ≠ 0 then drop fmt s
  else if f.netid ≠ s.get Fld.LINK_ADDR_NETID then drop 0x0202 s
  else if own then drop 0x0203 s
  else if !mine ∧ !s.has Fld.LINK_ACCCFG_OVERHEAR then drop 0x0203 s
  else if !f.sec then
    if !mine ∨ !s.has Fld.LINK_ACCCFG_OPEN ∨ f.bit 8 ∨ (f.type ≠ 0 ∧ f.type ≠ 3) then drop 0x0204 s
    else takeFrame r f c 0 0 boundary f.body s
  else if f.micsz < s.get Fld.LINK_ACCCFG_MINMIC then drop 0x0204 s
  else
    let k := keyFor s (c.getD 512) f.kid 0x0205 0x0205
    if k.1 ≠ 0 then drop k.1 s
    else
      let adm := linkFetch k.2 r.fetch fails s
      let s := adm.2
      if adm.1 ≠ 0 then drop adm.1 s
      else
        let dec := ccmDecrypt (s.keyBytes k.2) (omlNonce false f.src f.fcnt f.t40 f.kid) f.aad f.body f.mic
        if !dec.2 then drop 0x0206 s
        else
          let tloc := s.now - (s.elapsed - r.endAt) - (r.airtime - 3 * tsym r.mode)
          let full := f.type = 3 ∨ f.type = 5
          let t := if full then natOfLE (f.fields.take 3) * 2 ^ 40 + f.t40 else near40 tloc f.t40
          let unsync := s.stratum == 15
          let far := if t < tloc then tloc - t else t - tloc
          if unsync ∧ !full ∧ !s.has Fld.LINK_ACCCFG_UNSYNCOK then drop 0x0209 s
          else if !unsync ∧ 32000 * s.get Fld.LINK_ACCCFG_WINDOW < far then drop 0x0207 s
          else
            let hs := hdrStratum r.hdr
            let s := match c with
              | some c => partnerFrame r c hs t (offerTide r c hs t full s)
              | none => s
            if !mine then drop 0x0203 s
            else
              let rp := replayCheck s c f t unsync
              if rp = 0x020B then duplicateFrame r f c k.2 s
              else if rp ≠ 0 then drop rp s
              else takeFrame r f c k.2 t boundary dec.1 s

/-! ### The immediate ack (R291, R299, R335) -/

/-- IMMEDIATE_ACK_LAUNCH (R299): the turn-round of the lane's preset has come. -/
def execImmediateAckLaunch (lane : Lane) (supply : Nat) (s : State) : Out :=
  let l := lane.val
  let s := presetDue l s
  match s.link.ackPlans.find? (fun p => p.lane == l) with
  | none => .next (if (s.lane l).ackPreset.isSome then presetAbandon l s else s)
  | some p =>
    let s := { s with link := { s.link with ackPlans := s.link.ackPlans.filter (fun q => q.lane != l) } }
    let psdu := ackPsdu s p
    let air := ackAirtime p
    let tl := ackTxLane s p
    let code := ackCode s p
    if code ≠ 0 then .next (ackRefused p code s)
    else
      let level := toS 8 (if p.ctx < 512 then s.ctx p.ctx CF.PWR else s.get Fld.LINK_ACKCFG_PWR)
      let hdr := headerBuild 1 psdu.length 0 0 p.rep 0 (headerStratum s)
      let f : TxFrame := { type := 1, dst := p.src, level := level, len := psdu.length, airtime := air, hdr := hdr, rep := p.rep,
                            seq := s.syncSeq }
      let a : Activity :=
        { id := 128 + tl, kind := .ack, mode := p.mode, chan := p.chan, lane := tl, ctx := p.ctx, tlaunch := s.now,
          launch := s.now, phase := .running, sending := true, frame := some f, useFrom := s.now,
          useTo := s.now + air + turnRound, sub := subBandOf s (chanKHz p.mode p.chan) p.mode }
      let s := s.setLane l { s.lane l with ackPreset := none }
      let s := if s.laneSt tl = 4 then endLaneActs tl 0x0221 s else s
      let s := (emitNative a f s.now psdu supply s).setAct a
      let s := if p.profile.isEmpty then s else profSent p.src s
      .next (traceWrite 5 tl 0 p.ctx 0x7F p.fcnt s)

/-- The activity that an ack on record r answers. -/
def ackedAct (s : State) (r : RxRecord) : Option Activity :=
  s.acts.find? (fun a => a.phase == .ackWait && (a.lane == r.lane || s.paired) && a.mode == r.mode)

/-- Does an ack pass every check of R308 against frame f of activity a? -/
def ackOk (s : State) (r : RxRecord) (f : TxFrame) : Bool :=
  let fc := eh r.psdu 0
  let prof := testBit' fc 9
  let mic := micOctets f.micsz
  let want := 8 * f.micsz + (if f.micsz = 0 then 0 else 4)
  let fcnt := f.fcnt.getD 0
  let tEnd : Int := 64 * (f.t64 + (f.airtime - 3 * tsym r.mode) + turnRound + 3 * tsym r.mode)
  let n := r.psdu.length
  let aad := r.psdu.take (n - mic)
  let off := (r.fullTs s - pathDly s r.lane r.mode 0) - tEnd
  decide (off.natAbs ≤ 64 * 64) && (fc - (if prof then 0x200 else 0)) == want && n == 5 + (if prof then 28 else 0) + mic
  && eb r.psdu 2 % 4 != 3 && eh r.psdu 3 == (if f.micsz = 0 then 0 else fcnt % 2 ^ 16)
  && (f.micsz == 0 || (ccmDecrypt (s.keyBytes f.key) (omlNonce true s.shortAddr fcnt (f.t64 % 2 ^ 40) f.kid) aad []
    (r.psdu.drop (n - mic))).2)

/-- The parent's ack renews its propagation estimate (R104, R105). -/
def parentAck (r : RxRecord) (f : TxFrame) (s : State) : State :=
  let c := f.pctx
  if !s.has Fld.TIDE_STAT_PVALID ∨ s.get Fld.TIDE_STAT_PARENT ≠ c ∨ 512 ≤ c then s
  else
    let npay := f.airtime / tsym r.mode - 5
    let d : Int := 64 * ((2 + npay) * tsym r.mode + turnRound + 3 * tsym r.mode)
    let p := ((r.fullTs s - pathDly s r.lane r.mode 0) - 64 * f.t64 - d) / 2
    let prop : Int := s.ctx c CF.PROP
    let p := if s.ctxBit c CF.PROPVALID then prop + (p - prop) / 4 else p
    (s.setCtx c CF.PROP (satU 16 p)).setCtx c CF.PROPVALID 1

/-- ACK_RECEIVED (R308): the head record is an ack. One that fails a check leaves no trace. -/
def execAckReceived (s : State) : Out :=
  match s.modem.queue with
  | [] => .next s
  | r :: _ =>
    if !isNative r.mode ∨ hdrType r.hdr ≠ 1 then .next s
    else
      let s := popRecord s
      match ackedAct s r with
      | none => .next s
      | some a => match a.frame with
        | none => .next s
        | some f =>
          if !ackOk s r f then .next s
          else
            let s := parentAck r f s
            let s := if testBit' (eh r.psdu 0) 9 ∧ f.micsz ≠ 0 ∧ ctxOpen s f.pctx then
                profileApply f.pctx (cut r.psdu 5 28) s else s
            .next (frameAcked a s)

/-! ### Forwarded frames (R345, R346) -/

/-- FORWARD_LAUNCH (R345): the time of forwarded frame q has come; every check of a transmission is made. A retransmission
keeps its frame (R332). -/
def execForwardLaunch (q : Fin 8) (boundary : Nat) (supply : Nat) (keyCheckFails : Bool) (s : State) : Out :=
  match s.act (64 + q.val), s.link.fwds.find? (fun g => g.q == q.val) with
  | some a, some g =>
    if a.phase ≠ .presented ∧ a.phase ≠ .deferred then .next s
    else match s.tmpl g.tmpl with
      | none => .next (refuseAct a 0x0211 s)
      | some t =>
        let f := match a.frame with
          | some f => if f.fcnt.isSome ∨ a.tmpl = t then f else forwardFrame s a t g
          | none => forwardFrame s a t g
        let a := { a with frame := some f, tmpl := t }
        let pre := if !ctxOpen s a.ctx then 0x0212 else txPreCode s a t f 0
        if pre ≠ 0 then .next (refuseAct a pre s)
        else
          let adm := if f.micsz = 0 then (0, s) else linkAdmit f.key 0 keyCheckFails s
          let s := adm.2
          let post := txPostCode s a f
          if adm.1 ≠ 0 then .next (refuseAct a adm.1 s)
          else if post ≠ 0 then
            .next (refuseTx a f post s)
          else
            let ready := if a.phase = .presented then settleCheck s a true
              else readyCheck s { a with launch := max a.launch s.now } (chanFreq a.mode a.chan) boundary true
            match ready with
            | none => .next (refuseAct a 0x0101 s)
            | some a => .next (tryLaunchTx a f supply s)
  | _, _ => .next s

/-- TIDE_ADJ_WRITE (R84): ignored unless SRCSEL = 2 or STRATUM = 15. A slew in progress goes on: DESIGN CHOICE
(notes/assumptions/51.md). -/
def execTideAdjWrite (delta : Word) (s : State) : Out :=
  if s.get Fld.TIDE_CFG_SRCSEL = 2 ∨ s.stratum = 15 then .next (timeStep delta.toInt s) else .next s

end Sys2Proof.Machine
end

