-- ==== Sys2Proof/Machine/LinkPhone.lean ====
section
/-!
DEFINITION. What the link controller does with LE packets (R355, R360 to R367), ACCEPT_FRAME over native and LE records,
connection requests, pushes and staged changes.
-/

namespace Sys2Proof.Machine

/-- Header and payload of an LE packet. -/
def leHdr (r : RxRecord) (i : Nat) : Nat := eb r.psdu i
def leBody (r : RxRecord) : List Byte := (r.psdu.drop 2).take (leHdr r 1)
def leType (r : RxRecord) : Nat := leHdr r 0 % 16

/-- The activity on whose pan a record came in. -/
def actOfRecord (s : State) (r : RxRecord) : Option Activity :=
  s.acts.find? (fun a => a.pans.contains r.pan)

/-- The template that an activity runs under: the one it launched with, also after a patch commit (R75). -/
def actTmpl (a : Activity) : List Byte := a.tmpl

/-- An LE packet enters the receive queue (R333, R361, R366). -/
def leDeliver (r : RxRecord) (ctx code : Nat) (payload : List Byte) (s : State) : State :=
  let t := takeCells payload s
  (rxqAppend r.words ctx payload.length 0 0 0 0 0 code t.1 t.2).fire EV.LINK_RXDONE

/-! ### Extended advertising PDUs (notes/assumptions/20.md) -/

/-- Extended header: mode, length, flags. -/
def extMode (b : List Byte) : Nat := eb b 0 / 64
def extFlags (b : List Byte) : Nat := if eb b 0 % 64 = 0 then 0 else eb b 1

/-- AdvA of an extended PDU, where present. -/
def extAdvA (b : List Byte) : List Byte := if testBit' (extFlags b) 0 then cut b 2 6 else []

/-- AuxPtr of an extended PDU: channel and PHY, where present. -/
def extAux (b : List Byte) : Option (Nat × Nat) :=
  let fl := extFlags b
  let skip := 2 + (if testBit' fl 0 then 6 else 0) + (if testBit' fl 1 then 6 else 0) + (if testBit' fl 2 then 1 else 0)
    + (if testBit' fl 3 then 2 else 0)
  if testBit' fl 4 then
    let v := natOfLE (cut b skip 3)
    some (v % 64, match v / 2 ^ 21 % 8 with | 0 => 2 | 1 => 3 | _ => 4)
  else none

/-- The address the scanner or initiator uses: the public one, DESIGN CHOICE (notes/assumptions/23.md). -/
def scanAddr (s : State) : List Byte := leAddr s false

/-- Is the device the template of an advertising set speaks for addressed by octets `i` on of the payload? -/
def advAddressed (s : State) (t : List Byte) (b : List Byte) : Bool := cut b 6 6 == leAddr s (testBit' (eb t 16) 5)

/-! ### Scanning and initiating (R361, R362) -/

/-- LLData of a connection request from a context (R362). The window offset places the first anchor at CEANCHOR. -/
def connectData (s : State) (c : Nat) (reqEnd delay : Nat) : List Byte :=
  let anchor := near40 s.now (s.ctx c CF.CEANCHOR)
  let ofs := (anchor - (reqEnd + delay)) / 40000
  bytesLE 4 (s.ctx c CF.AA) ++ bytesLE 3 (s.ctx c CF.CRCINIT) ++ bytesLE 1 1 ++ bytesLE 2 ofs
  ++ bytesLE 2 (s.ctx c CF.LEINTERVAL) ++ bytesLE 2 (s.ctx c CF.LATENCY) ++ bytesLE 2 (s.ctx c CF.SUPTO / 10)
  ++ bytesLE 5 (s.ctx c CF.LECHMAP) ++ bytesLE 1 (5 + s.freeNat % 12 + 32 * s.get Fld.LINK_LECFG_SCA)

/-- Open a context for a connection and set its role (R362, R366). -/
def connectionOpen (c : Nat) (central : Bool) (s : State) : State :=
  let s := ((setConn c true s).setCtx c CF.OPEN 1).setCtx c CF.CENTRAL (boolBit central)
  renewSup c (dropLeLink c s)

/-- Arm the timeline entry of a new connection at an anchor; 0xFF names none. -/
def connectionArm (n anchor : Nat) (s : State) : State :=
  if 64 ≤ n then s else tlArm n (setTlLaunch n anchor s)

/-- End an entry's activity and the entry with it (R362). -/
def endEntry (a : Activity) (s : State) : State := setTlValid a.id false (endAct a 0 s)

/-- Is a peer address the one to connect to (R362)? -/
def isPeer (s : State) (adv : List Byte) (random : Bool) : Bool :=
  natOfLE adv == s.get Fld.LINK_LEPEERLO_ADDR + 2 ^ 32 * s.get Fld.LINK_LEPEERHI_ADDR
  && s.has Fld.LINK_LEPEERHI_RANDOM == random

/-- Stop the free pan that a scan's auxiliary packet took, where it took one beside the scan's own (R361). -/
def auxPanStop (a : Activity) (s : State) : Activity × State :=
  match a.pans with
  | p :: q :: _ => ({ a with pans := [p], aux := false }, (panStop q s).unflag (Fld.MODEM_PANCFG_EN q))
  | _ => (a, s)

/-- A scan follows an AuxPtr to a secondary channel (R361): inside the lane's span a free pan takes it, and the scan's own goes on;
otherwise the lane retunes. -/
def auxFollow (a : Activity) (mode ch : Nat) (s : State) : State :=
  let x := auxPanStop a s
  let a := { x.1 with aux := true }
  let s := x.2.setAct a
  let l := rxLane s a.lane
  if s.laneSt l = 3 ∧ fitsSpan (spanCentre s l) mode ch ∧ !(freePans s l).isEmpty ∧ a.pans.length = 1 then
    let op := openPans l [(mode, ch)] s
    lePans op.1 advAA advCrc (op.2.setAct { a with pans := a.pans ++ op.1 })
  else leListen a mode ch advAA advCrc s

/-- A scan returns from an auxiliary packet to its primary channel (R361). -/
def auxReturn (a : Activity) (s : State) : State :=
  let x := auxPanStop a s
  if x.1.aux then leListen { a with aux := false } a.mode a.chan advAA advCrc s else x.2.setAct x.1

/-- The scan's answer to an advertisement: initiate, follow AuxPtr, or send a scan request. -/
def scanAnswer (a : Activity) (t : List Byte) (r : RxRecord) (mV : Nat) (s : State) : State :=
  let b := leBody r
  let ext := leType r == 7
  let adv := if ext then extAdvA b else b.take 6
  let rnd := testBit' (leHdr r 0) 6
  let second := decide (r.chan < 37)
  let connectable := if ext then second && extMode b == 1 else leType r == 0
  let scannable := if ext then second && extMode b == 2 else leType r == 0 || leType r == 6
  let cx := eh t 24 % 512
  let dest := bytesLE 6 (natOfLE adv)
  if testBit' (eb t 16) 2 ∧ connectable ∧ isPeer s adv rnd ∧ cx < 512 ∧ ctxClass s cx = 2 ∧ !ctxOpen s cx
      ∧ s.get Fld.LINK_LESTAT_CONNS < 24 then
    let delay := if !ext then 40000 else if r.mode ≤ 3 then 80000 else 120000
    let reqEnd := s.now + 4800 + leAirtime r.mode 34
    let pdu := advPdu 5 false rnd (scanAddr s ++ dest ++ connectData s cx reqEnd delay)
    let x := leSend ⟨a.lane, r.mode, r.chan, advAA, advCrc, responseStart s r tIfs, none⟩ (leLevel s a t) pdu mV s
    let s := x.2.freeNext
    if x.1 ≠ 0 then refuseAct a x.1 s
    else endEntry a (connectionArm (eb t 26) (near40 s.now (s.ctx cx CF.CEANCHOR)) (connectionOpen cx true s))
  else if testBit' (eb t 16) 0 ∧ scannable then
    let x := leSend ⟨a.lane, r.mode, r.chan, advAA, advCrc, responseStart s r tIfs, none⟩ (leLevel s a t)
      (advPdu 3 false rnd (scanAddr s ++ dest)) mV s
    if x.1 ≠ 0 then refuseAct a x.1 x.2 else leListen { a with aux := second } r.mode r.chan advAA advCrc x.2
  else match (if testBit' (eb t 16) 1 ∧ ext then extAux b else none) with
    | some (ch, mode) => auxFollow a mode ch s
    | none => if second ∧ a.aux then auxReturn a s else s

/-- A packet of a scan (R361). -/
def scanReceive (a : Activity) (r : RxRecord) (crcOk : Bool) (mV : Nat) (s : State) : State :=
  if !crcOk then s
  else if !([0, 1, 2, 4, 6, 7].contains (leType r)) then s
  else if !rxqRoom s r.psdu.length then rxqRefuse r.lane 0x1FF 0 s
  else scanAnswer a (actTmpl a) r mV (leDeliver r 0x1FF 0 r.psdu (s.inc Fld.LINK_LECNT_SCANRPT))

/-! ### Advertising (R360) -/

/-- A packet of an advertising event: a scan request for AdvA is answered at T_IFS, and the event ends. -/
def advReceive (a : Activity) (r : RxRecord) (crcOk : Bool) (mV : Nat) (s : State) : State :=
  let t := actTmpl a
  let ty := eb t 16 % 8
  let rand := testBit' (eb t 16) 5
  if !crcOk ∨ leType r ≠ 3 ∨ !(ty = 0 ∨ ty = 1 ∨ ty = 5) ∨ !advAddressed s t (leBody r) then s
  else
    let data := advData s (eb t 19) (eh t 22)
    let pdus := if ty < 3 then [advPdu 4 rand false (leAddr s rand ++ data)]
      else
        let ds := auxChunks 8 data
        ds.zipIdx.map (fun x => auxPdu s rand 0 (eb t 17 / 16) x.2 ds.length x.1)
    let x := leSendAll (leLevel s a t) mV ⟨a.lane, r.mode, r.chan, advAA, advCrc, responseStart s r tIfs, none⟩ pdus s
    if x.1 ≠ 0 then refuseAct a x.1 x.2 else endAct a 0 x.2

/-! ### Connections (R365, R366) -/

/-- Does an event have time for another exchange within EVLEN? -/
def evRoom (s : State) (a : Activity) (t : List Byte) : Bool := decide (s.now + 11520 ≤ a.launch + max (ew t 20) 11520)

/-- Go on with an event after a packet: the peripheral answers at T_IFS, either side closes where neither sets MD. -/
def leContinue (a : Activity) (r : RxRecord) (md : Bool) (mV : Nat) (s : State) : State :=
  let t := actTmpl a
  let c := a.ctx
  let role := eb t 16 % 4
  let k := leLink s c
  if role = 2 then s
  else if role = 1 ∨ ((md ∨ k.sent.isSome ∨ !k.queue.isEmpty) ∧ evRoom s a t) then
    let x := leSendData a (responseStart s r tIfs) none (leLevel s a t) mV s
    if x.1 ≠ 0 then refuseAct a x.1 x.2
    else
      let s := x.2
      if role = 1 ∧ !((md ∨ !(leLink s c).queue.isEmpty) ∧ evRoom s a t) then endEvent a s
      else leListen a (phyMode (s.ctx c CF.RXPHY)) a.chan (s.ctx c CF.AA) (s.ctx c CF.CRCINIT) s
  else endEvent a s

/-- A packet whose CRC passed: what it renews, and the anchor of a peripheral or observer (R365, R366). -/
def leHeard (a : Activity) (r : RxRecord) (s : State) : State :=
  let c := a.ctx
  let s := renewSup c (setLeLink { leLink s c with established := true } s)
  let s := ((s.setCtx c CF.LASTRX s.stamp).setCtx c CF.LASTRSSI (ofS 8 r.rssi)).setCtx c CF.LASTSNR (ofS 8 r.snr)
  let s := if s.paired then
      let best := if r.rssi < toS 8 ((r.words.getD 3 0).toNat / 2 ^ 8) then 1 else 0
      { s with link := { s.link with pairBest := s.link.pairBest.filter (fun p => p.1 != 0x10000 + c) ++ [(0x10000 + c, best)] } }
    else s
  if a.heard ∨ eb (actTmpl a) 16 % 4 = 0 then s
  else s.setCtx c CF.CEANCHOR (((r.fullTs s - pathDly s r.lane r.mode 0) / 64).toNat - leSyncSpan r.mode)

/-- A new data PDU: decrypted where ENCRX is set, delivered, acknowledged by NESN. A MIC failure ends the connection. -/
def leTakePdu (a : Activity) (r : RxRecord) (s : State) : Bool × State :=
  let c := a.ctx
  let b := leBody r
  let enc := s.ctxBit c CF.ENCRX && !b.isEmpty
  let h0 := BitVec.ofNat 8 (leHdr r 0) &&& 0xE3#8
  let n := b.length - 4
  let dec := ccmDecrypt (s.keyBytes (s.ctx c CF.KEYH)) (leNonce (s.ctx c CF.RXPKT) (!s.ctxBit c CF.CENTRAL) (s.ctx c CF.IV)) [h0]
    (b.take n) (b.drop n)
  let payload := if enc then dec.1 else b
  if enc ∧ !dec.2 then (false, linkEnd c 0x0263 (s.ctxCount c CF.RXMICFAIL))
  else if !payload.isEmpty ∧ !rxqRoom s payload.length then (true, rxqRefuse r.lane c 0 s)
  else
    let s := s.setCtx c CF.NESN (1 - s.ctx c CF.NESN)
    let s := if enc then s.setCtx c CF.RXPKT (s.ctx c CF.RXPKT + 1) else s
    let s := s.ctxCount c CF.RXFRAMES
    (true, if payload.isEmpty then s else leDeliver r c 0 payload s)

/-- A packet of a connection event (R366). -/
def connReceive (a : Activity) (r : RxRecord) (crcOk : Bool) (mV : Nat) (s : State) : State :=
  let c := a.ctx
  let observer := eb (actTmpl a) 16 % 4 = 2
  let s := if observer then
      (if rxqRoom s 0 then leDeliver r c ((r.words.headD 0).toNat / 2 ^ 16) [] s else rxqRefuse r.lane c 0 s) else s
  if !crcOk then
    let a := { a with crcFails := a.crcFails + 1 }
    let s := (s.inc Fld.LINK_LECNT_CRCERR).setAct a
    if 2 ≤ a.crcFails then endEvent a s else leContinue a r (leLink s c).md mV s
  else
    let s := leHeard a r s
    let a := { a with heard := true, crcFails := 0 }
    let s := s.setAct a
    if observer then s
    else
      let md := testBit' (leHdr r 0) 4
      let s := setLeLink { leLink s c with md := md } s
      if s.ctx c CF.MAXRXOCT < leHdr r 1 then
        leContinue a r md mV (traceWrite 4 r.lane 0x0262 c 0x7F 0 (s.inc Fld.LINK_LECNT_LENREJ))
      else
        let nesn := leHdr r 0 / 4 % 2
        let s := if nesn ≠ s.ctx c CF.SN then leAcked c s else s
        if leHdr r 0 / 8 % 2 = s.ctx c CF.NESN then
          let x := leTakePdu a r s
          if x.1 then leContinue a r md mV x.2 else x.2
        else leContinue a r md mV (s.ctxCount c CF.RXDUP)

/-- The rules of an LE record by the activity that received it; a packet on a pan of no activity has no taker. -/
def leReceive (r : RxRecord) (mV : Nat) (s : State) : State :=
  let crcOk := (r.words.headD 0).toNat / 2 ^ 16 == 0
  match actOfRecord s r with
  | none => s
  | some a => match a.kind with
    | .leScan => scanReceive a r crcOk mV s
    | .leAdv => advReceive a r crcOk mV s
    | .leConn => connReceive a r crcOk mV s
    | _ => s

/-! ### The two rows that take a record -/

/-- Is a record a connection request for an advertising activity (R362)? -/
def isConnectReq (s : State) (r : RxRecord) : Bool :=
  !isNative r.mode && leType r == 5 && (match actOfRecord s r with | some a => a.kind == .leAdv | none => false)

/-- ACCEPT_FRAME (R298, R300): the head of the status queue is decided. Acks and connection requests have rows of their
own. -/
def execAcceptFrame (boundary : Nat) (keyCheckFails : Bool) (supply : Nat) (s : State) : Out :=
  match s.modem.queue with
  | [] => .next s
  | r :: _ =>
    let s := presetDue r.lane s
    if isNative r.mode then
      (if hdrType r.hdr = 1 then .next s else .next (acceptOml r boundary keyCheckFails (popRecord s)))
    else if isConnectReq s r then .next s
    else .next (leReceive r supply (popRecord s))

/-- Write the connection fields of a context from a request (R362). -/
def connectionFields (c : Nat) (b : List Byte) (mode anchor : Nat) (s : State) : State :=
  let aa := natOfLE (cut b 12 4)
  let phy := match mode with | 2 => 0 | 3 => 1 | 4 => 2 | _ => 3
  let s := ((s.setCtx c CF.AA aa).setCtx c CF.CRCINIT (natOfLE (cut b 16 3))).setCtx c CF.CHID (aa / 2 ^ 16 ^^^ aa % 2 ^ 16)
  let s := ((s.setCtx c CF.LEINTERVAL (eh b 22)).setCtx c CF.LATENCY (eh b 24)).setCtx c CF.SUPTO (10 * eh b 26)
  let s := ((s.setCtx c CF.LECHMAP (natOfLE (cut b 28 5))).setCtx c CF.PSCA (eb b 33 / 32)).setCtx c CF.LEEVCTR 0
  let s := ((s.setCtx c CF.TXPHY phy).setCtx c CF.RXPHY phy).setCtx c CF.SN 0
  let s := ((s.setCtx c CF.NESN 0).setCtx c CF.ENCTX 0).setCtx c CF.ENCRX 0
  s.setCtx c CF.CEANCHOR anchor

/-- Keep a staged change in place of one of its kind at the same instant. -/
def putStaged (g : Staged) (s : State) : State :=
  let rest := s.link.staged.filter (fun h => !(h.ctx == g.ctx && h.op == g.op && h.instant == g.instant))
  { s with link := { s.link with staged := rest ++ [g] } }

/-- CONNECT_REQ_RECEIVED (R362 to R364). -/
def execConnectReqReceived (supply : Nat) (s : State) : Out :=
  match s.modem.queue with
  | [] => .next s
  | r :: _ =>
    if !isConnectReq s r then .next s
    else match actOfRecord s r with
      | none => .next s
      | some a =>
        let s := popRecord s
        let t := actTmpl a
        let ty := eb t 16 % 8
        let c := eh t 24 % 512
        let b := leBody r
        let crcOk := (r.words.headD 0).toNat / 2 ^ 16 == 0
        if !crcOk ∨ !(ty = 0 ∨ ty = 4) ∨ c = 0x1FF ∨ !advAddressed s t b ∨ b.length ≠ 34 then .next s
        else if ty = 0 ∧ !testBit' (leHdr r 0) 5 then .next (traceWrite 2 r.lane 0x0261 0x1FF 0x7F 0 (s.inc Fld.LINK_LECNT_CHSELREJ))
        else if 24 ≤ s.get Fld.LINK_LESTAT_CONNS then .next (traceWrite 2 r.lane 0x0260 0x1FF 0x7F 0 s)
        else if ctxClass s c ≠ 2 ∨ ctxOpen s c then .next s
        else
          let rand := testBit' (eb t 16) 5
          let rsp := advPdu 8 rand (testBit' (leHdr r 0) 6)
            (bytesLE 1 13 ++ bytesLE 1 3 ++ leAddr s rand ++ b.take 6)
          let x := if ty = 0 then (0, s)
            else leSend ⟨a.lane, r.mode, r.chan, advAA, advCrc, responseStart s r tIfs, none⟩ (leLevel s a t) rsp supply s
          if x.1 ≠ 0 then .next (refuseAct a x.1 x.2)
          else
            let s := x.2
            let reqEnd := s.now - (s.elapsed - r.endAt)
            let delay := if ty = 0 then 40000 else if r.mode ≤ 3 then 80000 else 120000
            let anchor := reqEnd + delay + 40000 * eh b 20
            let s := if rxqRoom s r.psdu.length then leDeliver r 0x1FF 0 r.psdu s else rxqRefuse r.lane 0x1FF 0 s
            let s := connectionFields c b r.mode anchor (endEntry a s)
            let s := connectionOpen c false s
            .next (connectionArm (eb t 26) anchor (putStaged ⟨c, 4, 0, [eb b 19]⟩ s))

/-! ### Pushes and staging (R366, R367) -/

/-- Result of a push or a staging. -/
def leResult (code : Nat) (s : State) : State := s.put Fld.LINK_LESTAT_RESULT code

/-- Does an armed observer entry name the context? -/
def isObserver (s : State) (c : Nat) : Bool :=
  (List.range 64).any (fun n => s.tl n TF.VALID == 1 && s.tl n TF.CTX == c && (match s.tmpl (s.tl n TF.TMPL) with
    | some t => tKind t == 6 && eb t 16 % 4 == 2
    | none => false))

/-- LE_PUSH (R366): the word written to LINK_LEPUSH. -/
def execLePush (value : Word) (s : State) : Out :=
  let c := value.toNat % 512
  let d := value.toNat / 2 ^ 16 % 64
  let k := leLink s c
  if ctxClass s c ≠ 2 ∨ !ctxOpen s c ∨ !s.ctxBit c CF.CONN ∨ isObserver s c then .next (leResult 0x0212 s)
  else
    let mic := if s.ctxBit c CF.ENCTX ∧ s.desc d DF.PLEN ≠ 0 then 4 else 0
    if 48 ≤ d ∨ 8 ≤ k.queue.length ∨ !descCellsOk s d ∨ s.ctx c CF.MAXTXOCT < s.desc d DF.PLEN + mic then
      .next (leResult 0x0231 s)
    else .next (leResult 0 (setLeLink { k with queue := k.queue ++ [d] } s))

/-- Stage a change of an LE connection at LINK_LEINST (R367). -/
def leStage (c op : Nat) (vals : List Nat) (s : State) : State :=
  let inst := s.get Fld.LINK_LEINST_INSTANT
  if (s.ctx c CF.LEEVCTR + 2 ^ 16 - inst) % 2 ^ 16 ≤ 32767 then leResult 0x0242 s
  else leResult 0 (putStaged ⟨c, op, inst, vals⟩ s)

/-- LE_STAGE_CONN_UPDATE (R367). -/
def execLeStageConnUpdate (ctx : Fin 512) (s : State) : Out :=
  .next (leStage ctx.val 1 [s.get Fld.LINK_LESTGA_INTERVAL, s.get Fld.LINK_LESTGA_LATENCY, s.get Fld.LINK_LESTGB_SUPTO,
    s.get Fld.LINK_LESTGC_WINOFS, s.get Fld.LINK_LESTGB_WINSIZE] s)

/-- LE_STAGE_CHMAP (R367). -/
def execLeStageChmap (ctx : Fin 512) (s : State) : Out :=
  .next (leStage ctx.val 2 [s.get Fld.LINK_CTXMAPLO_MAP + 2 ^ 32 * (s.get Fld.LINK_CTXMAPHI_MAP % 32)] s)

/-- LE_STAGE_PHY (R367). -/
def execLeStagePhy (ctx : Fin 512) (s : State) : Out :=
  .next (leStage ctx.val 3 [s.get Fld.LINK_LESTGC_TXPHY, s.get Fld.LINK_LESTGC_RXPHY] s)

/-! ### Windows that close -/

/-- RX_WINDOW_CLOSE (R112, R341, R361): no sync reference point from the expected partner, or no auxiliary packet. -/
def execRxWindowClose (act : Nat) (s : State) : Out :=
  match s.act act with
  | none => .next s
  | some a =>
    if a.kind = .leScan ∧ a.aux ∧ !a.pans.any s.panBusy then
      .next (auxReturn a (traceWrite 8 a.lane 0x0265 0x1FF a.id 0 (s.inc Fld.LINK_LECNT_AUXMISS)))
    else if a.phase ≠ .running ∨ a.sending ∨ a.heard ∨ (a.kind ≠ .rxCtx ∧ a.kind ≠ .conn) ∨ a.pans.any s.panBusy then .next s
    else
      let s := (s.ramCount (ctxAddr a.ctx) CF.MISSES 1).ctxCount a.ctx CF.MISSTOT
      if a.kind = .conn then .next (finishAct a 0x0241 (traceWrite 8 a.lane 0x0241 a.ctx a.id 0 s))
      else .next (endAct a 0 s)

end Sys2Proof.Machine
end

