-- ==== Sys2Proof/Machine/LinkCtx.lean ====
section
/-!
DEFINITION. Context commands (R317, R339 to R342), the shared port's writes to LINK RAM (R318, R322), network keys and
counters (R297, R311).
-/

namespace Sys2Proof.Machine

/-- The result of a context operation. -/
def ctxResult (code : Nat) (s : State) : State := s.put Fld.LINK_CTXSTAT_RESULT code

def State.ctxArg (s : State) : Nat := s.get Fld.LINK_CTXARG_ARG

/-- Does another open context of the matching classes hold the partner of c (R316)? -/
def partnerTaken (s : State) (c : Nat) : Bool :=
  ctxClass s c != 2 && (List.range 512).any (fun i =>
    i != c && ctxOpen s i && ctxClass s i != 2 && s.ctx i CF.PARTNER == s.ctx c CF.PARTNER)

/-- CTX_OPEN (R317, R109). A class 2 context has none of the fields that opening clears. -/
def execCtxOpen (ctx : Fin 512) (s : State) : Out :=
  let c := ctx.val
  let badMap := ctxClass s c ≠ 2 ∧ s.ctxBit c CF.CONN ∧ !mapValid (s.ctx c CF.GRID) (s.ctx c CF.CHMAP)
  if (ctxRun s c).isNone ∨ !ctxKeyOk s c (s.ctx c CF.KEYH) ∨ partnerTaken s c ∨ badMap then .next (ctxResult 0x0212 s)
  else
    let s := ctxResult 0 (s.setCtx c CF.OPEN 1)
    if ctxClass s c = 2 then .next s
    else
      let s := ((s.setCtx c CF.ANCHORVALID 0).setCtx c CF.DRIFT 0).setCtx c CF.UNC (min 255 (8 * s.get Fld.TIDE_GUARD_MAXPPM))
      let s := ((s.setCtx c CF.PROPVALID 0).setCtx c CF.MISSES 0).setCtx c CF.RPVALID 0
      .next ((s.setCtx c CF.TABVALID 0).setCtx c CF.LDFAIL 0)

/-- The kinds whose entries name a context (Table SCHED-4). -/
def ActKind.namesCtx (k : ActKind) : Bool := k != .listen && k != .beacon && k != .leScan

/-- The armed entries that name context c and have nothing at their lane are refused one run (R317). -/
def closeEntries (c : Nat) (s : State) : State :=
  s.forEach (List.range 64) (fun n s =>
    match s.tmpl (s.tl n TF.TMPL), s.act n with
    | some t, none =>
      if s.tl n TF.VALID = 1 ∧ s.tl n TF.CTX = c ∧ (actKind (tKind t)).namesCtx then
        refuseAct { id := n, kind := actKind (tKind t), mode := tMode t, chan := 0, lane := s.tl n TF.LANE - 1, ctx := c,
                    tlaunch := s.tl n TF.TLAUNCH } 0x0212 s
      else s
    | _, _ => s)

/-- CTX_CLOSE (R317). What names the context and has not launched is refused first; a reception ends; a transmission in progress
completes. -/
def execCtxClose (ctx : Fin 512) (s : State) : Out :=
  let c := ctx.val
  let s := s.forEach (s.acts.filter (fun a => a.ctx == c && a.kind.namesCtx && !a.isRunning)) (fun a s => refuseAct a 0x0212 s)
  let s := closeEntries c s
  let s := s.forEach (s.acts.filter (fun a => a.ctx == c && a.receives)) (fun a s => endAct a 0x0222 s)
  let s := linkEnd c 0x0222 s
  let ds := s.dacks.filter (fun d => d.ctx != c)
  let s := if ds.length = s.link.dacks.length then s else setDacks ds s
  .next (ctxResult 0 (s.setCtx c CF.OPEN 0))

/-- Give a context a new key: its transmit counter and replay state begin anew (R311). -/
def ctxRekey (c key : Nat) (s : State) : State :=
  let s := s.setCtx c CF.KEYH key
  let s := { s with link := { s.link with ctxExh := s.link.ctxExh.filter (fun k => k != c) } }
  if ctxClass s c = 2 then s else (s.setCtx c CF.TXCTR 0).setCtx c CF.RPVALID 0

/-- CTX_REKEY (R317, R311). -/
def execCtxRekey (ctx : Fin 512) (s : State) : Out := .next (ctxResult 0 (ctxRekey ctx.val s.ctxArg s))

/-- CTX_SETPWR (R317, R244). -/
def execCtxSetpwr (ctx : Fin 512) (s : State) : Out :=
  let c := ctx.val
  let lower := toS 8 s.ctxArg < toS 8 (s.ctx c CF.PWR)
  let s := s.setCtx c CF.PWR s.ctxArg
  .next (ctxResult 0 (if lower ∧ ctxClass s c ≠ 2 then tableDrop c s else s))

/-- CTX_SETMAP (R342). -/
def execCtxSetmap (ctx : Fin 512) (s : State) : Out :=
  let c := ctx.val
  let map := s.get Fld.LINK_CTXMAPLO_MAP + 2 ^ 32 * s.get Fld.LINK_CTXMAPHI_MAP
  let inst := s.ctxArg
  let passed := 0 < toS 32 (s.ctx c CF.EVCTR + 2 ^ 32 - inst)
  if ctxClass s c = 2 ∨ !mapValid (s.ctx c CF.GRID) map ∨ passed then .next (ctxResult 0x0242 s)
  else .next (ctxResult 0 (putStaged ⟨c, 0, inst, [map]⟩ s))

/-- CTX_CONNECT (R339, R363, R366). -/
def execCtxConnect (ctx : Fin 512) (s : State) : Out :=
  let c := ctx.val
  if !ctxOpen s c then .next (ctxResult 0x0212 s)
  else if ctxClass s c = 2 then
    if 24 ≤ s.get Fld.LINK_LESTAT_CONNS ∧ !s.ctxBit c CF.CONN then .next (ctxResult 0x0260 s)
    else .next (ctxResult 0 (renewSup c (setConn c true (dropLeLink c s))))
  else if !mapValid (s.ctx c CF.GRID) (s.ctx c CF.CHMAP) then .next (ctxResult 0x0242 s)
  else .next (ctxResult 0 (renewSup c (setConn c true s)))

/-- CTX_DISCONNECT (R341, R366). -/
def execCtxDisconnect (ctx : Fin 512) (s : State) : Out := .next (ctxResult 0 (linkEnd ctx.val 0x0222 s))

/-! ### Writes to LINK RAM -/

/-- A write to the context table (R318): ignored at offsets 0x00 to 0x5B of an open context. A new key handle in a closed
context begins its counter space anew (R311). -/
def ctxWrite (c offset n v : Nat) (s : State) : State :=
  if ctxOpen s c ∧ offset < 0x5C then s.flag Fld.LINK_SCHFLAGS_CTXWR
  else
    let was := s.ctx c CF.KEYH
    let s := s.setNum (ctxAddr c + offset) n (v % 256 ^ n)
    if s.ctx c CF.KEYH = was then s
    else { s with link := { s.link with ctxExh := s.link.ctxExh.filter (fun k => k != c) } }

/-- CTX_MEMORY_WRITE (R318). -/
def execCtxMemoryWrite (ctx : Fin 512) (offset : Fin 128) (size : AccessSize) (value : Word) (s : State) : Out :=
  let n := sizeOctets size
  .next (ctxWrite ctx.val (offset.val / n * n) n value.toNat s)

/-- A shared-port write anywhere in LINK RAM: the context table under R318, an armed timeline entry's words 0 to 5 under
R322, plain memory elsewhere. -/
def linkRamWrite (a n v : Nat) (s : State) : State :=
  if a < 0x28010000 then ctxWrite ((a - 0x28000000) / 128) (a % 128) n v s
  else if 0x28018000 ≤ a ∧ a < 0x28018800 then
    let e := (a - 0x28018000) / 32
    if s.tl e TF.VALID = 1 ∧ a % 32 < 24 then s.flag Fld.LINK_SCHFLAGS_TLWR
    else
      let valid := s.tl e TF.VALID
      let s := (s.setNum a n (v % 256 ^ n)).setTl e TF.VALID valid
      s.put (Fld.LINK_TL_TIME_T e) (s.tl e TF.TLAUNCH)
  else s.setNum a n (v % 256 ^ n)

/-! ### Network keys (R297, R311) -/

/-- Free every cache entry of a KID, with RPEVICT at the present time (R304, R311). -/
def cacheInvalidate (kid : Nat) (s : State) : State :=
  let hit := (List.range 1024).filter (fun k => (cacheEntry s k).kid == kid)
  let s := s.forEach hit (fun k s => s.setNum (cacheAddr k) 16 0)
  setRpevict s.now (s.put Fld.LINK_RPSTAT_USED (s.get Fld.LINK_RPSTAT_USED - hit.length))

/-- NETKEY_WRITE (R311). Index 0 is reserved. -/
def execNetkeyWrite (k : Fin 16) (value : Word) (s : State) : Out :=
  let i := k.val
  let v := value.toNat
  if i = 0 then .next s
  else
    let changed := s.get (Fld.LINK_NETKEY_HANDLE i) ≠ v % 256
    let s := ((s.put (Fld.LINK_NETKEY_HANDLE i) v).put (Fld.LINK_NETKEY_EN i) (v / 2 ^ 8)).put (Fld.LINK_NETKEY_MICSZ i)
      (max 1 (v / 2 ^ 10 % 4))
    .next (if changed then
      cacheInvalidate i ((s.unflag (Fld.LINK_NETKEY_TXVALID i)).unflag (Fld.LINK_NETKEY_EXH i)) else s)

/-- NETCTR_WRITE (R297). -/
def execNetctrWrite (k : Fin 16) (value : Word) (s : State) : Out :=
  let i := k.val
  .next (if i = 0 then s else (s.put (Fld.LINK_NETCTR_NEXT i) value.toNat).flag (Fld.LINK_NETKEY_TXVALID i))

end Sys2Proof.Machine
end

