-- ==== Sys2Proof/Machine/Cache.lean ====
section
/-!
DEFINITION. The cores' caches (R466, R471 to R474): which regions they hold, and how a line enters, changes and leaves.
-/

namespace Sys2Proof.Machine

/-- Is an address in a cacheable region (Table CPU-3): the flash banks, the boot ROM, SRAM? Both caches hold the same ones. -/
def cacheable (a : Nat) : Bool :=
  a < 0x400000 || (0x01000000 ≤ a && a < 0x01010000) || (0x20000000 ≤ a && a < 0x20180000)

/-- The first address of the 32-octet line of an address (R473). -/
def lineBase (a : Nat) : Nat := a / 32 * 32

/-- Lines a cache has room for: 32 KiB of instructions, 16 KiB of data (R466). -/
def cacheLines (side : CacheSide) : Nat :=
  match side with
  | .instr => 1024
  | .data => 512

def State.cache (s : State) (x : Nat) : CoreCache := nth {} s.cores.caches x

def State.setCache (x : Nat) (v : CoreCache) (s : State) : State :=
  { s with cores := { s.cores with caches := setNth s.cores.caches x v } }

def CoreCache.lines (c : CoreCache) (side : CacheSide) : List CacheLine :=
  match side with
  | .instr => c.instr
  | .data => c.data

def CoreCache.setLines (side : CacheSide) (l : List CacheLine) (c : CoreCache) : CoreCache :=
  match side with
  | .instr => { c with instr := l }
  | .data => { c with data := l }

/-- The cores whose caches an access of a master goes through: in lockstep both take every access of the pair (R469, R474). -/
def cacheCores (s : State) (m : Master) : List Nat :=
  match m with
  | .cpu0 => if s.has Fld.SYSCFG_FOSTAT_LOCKSTEP then [0, 1] else [0]
  | .cpu1 => [1]
  | _ => []

/-- The lines other than the one at an address. -/
def linesBut (a : Nat) (l : List CacheLine) : List CacheLine := l.filter (fun x => x.base != lineBase a)

/-- The line of an address leaves a cache of core x. -/
def lineDrop (x : Nat) (side : CacheSide) (a : Nat) (s : State) : State :=
  s.setCache x ((s.cache x).setLines side (linesBut a ((s.cache x).lines side)))

/-- A line that holds an address enters a cache of core x; a full cache loses a line for it. Which one is free: the spec gives no ways
or replacement (notes/assumptions/58.md). -/
def lineFillOne (side : CacheSide) (a : Nat) (octets : List Byte) (x : Nat) (s : State) : State :=
  let old := linesBut a ((s.cache x).lines side)
  let old := if old.length < cacheLines side then old else old.eraseIdx (s.freeNat % old.length)
  (s.setCache x ((s.cache x).setLines side (old ++ [{ base := lineBase a, octets := octets }]))).freeNext

/-- A line fill of a core's read ends with the line in its cache, where the region is cacheable (R472, R473). -/
def cacheFill (m : Master) (side : CacheSide) (a : Nat) (octets : List Byte) (s : State) : State :=
  if cacheable a then s.forEach (cacheCores s m) (lineFillOne side a octets) else s

/-- A write of a core that hits a line of its data cache updates the line (R473). -/
def cacheWrite (m : Master) (a : Nat) (octets : List Byte) (s : State) : State :=
  s.forEach (cacheCores s m) (fun x s =>
    let c := s.cache x
    let put := fun (l : CacheLine) => if l.base = lineBase a
      then { l with octets := l.octets.take (a % 32) ++ octets ++ l.octets.drop (a % 32 + octets.length) } else l
    s.setCache x { c with data := c.data.map put })

/-- A lookup for an address finds a parity error: the line is invalidated, to be fetched again, and the error counts (R474). -/
def cacheParityError (m : Master) (side : CacheSide) (a : Nat) (s : State) : State :=
  let s := s.forEach (cacheCores s m) (fun x s => lineDrop x side a s)
  (s.inc Fld.MEMCTL_ECCCNT_CACHEPAR).flag Fld.MEMCTL_ECCFLAGS_CACHEPAR

/-- What a core's lookup did before its read reached the bus. -/
def cacheLookup (m : Master) (a : Nat) (fill : Option CacheUse) (s : State) : State :=
  match fill with
  | some u => if u.parity ∧ cacheable a ∧ !(cacheCores s m).isEmpty then cacheParityError m u.side a s else s
  | none => s

/-- Both cores' caches are invalidated (Table CPU-2). -/
def cachesClear (s : State) : State := { s with cores := { s.cores with caches := [{}, {}] } }

end Sys2Proof.Machine
end

