-- ==== Sys2Proof/Machine/Mem.lean ====
section
/-!
DEFINITION. Which master reaches what (Table ARCH-4, Table KEY-6); SRAM with its check bits, valid bits and merge
buffers (R475 to R485), rake passes (R486 to R489), semaphores (R490), the start of CPU1 (R467).
-/

namespace Sys2Proof.Machine

/-! ### Masters and targets -/

/-- Does a master reach an address (Table ARCH-4; the debug port by its guard level, R463)? -/
def State.reaches (s : State) (m : Master) (a : Nat) : Bool :=
  match m with
  | .cpu0 => true
  | .cpu1 => true
  | .host => (0x20000000 ≤ a && a < 0x20180000) || (0x28000000 ≤ a && a < 0x28020000) || (0x40000000 ≤ a && a < 0x40100000)
  | .debug =>
    match s.get Fld.KEYSTORE_STAT_GL with
    | 0 => true
    | 1 => (0x40000000 ≤ a && a < 0x40010000) || a == Reg.KEYSTORE_STAT || a == Reg.KEYSTORE_GLREQ
    | _ => false

/-- The access answers with a bus error. -/
def busError (s : State) : State := { s with bus := .error }

/-! ### Words -/

/-- The group of an SRAM address. -/
def sramGroup (a : Nat) : Nat := (a - 0x20000000) / 0x80000

def State.sramGrp (s : State) (g : Nat) : SramGroup := nth {} s.sram.groups g

def State.setSramGrp (g : Nat) (v : SramGroup) (s : State) : State :=
  { s with sram := { s.sram with groups := setNth s.sram.groups g v } }.put (Fld.MEMCTL_GRPSTAT_MBUF g) v.merge.length

def State.sramValid (s : State) (w : Nat) : Bool := sparseGet (fun _ => false) s.sram.valid w

def State.sramFault (s : State) (w : Nat) : Nat := sparseGet (fun _ => 0) s.sram.faults w

def State.setSramFault (w v : Nat) (s : State) : State :=
  { s with sram := { s.sram with faults := sparseSet (fun _ => 0) w v s.sram.faults } }

/-- Write a whole word: new check bits, valid, and no write-back of it is pending any more (R478, R480, R482). -/
def sramStore (w : Nat) (octets : List Byte) (s : State) : State :=
  let s := (s.setBytes w octets).setSramFault w 0
  let s := { s with sram := { s.sram with valid := sparseSet (fun _ => false) w true s.sram.valid } }
  let g := s.sramGrp (sramGroup w)
  if g.writeback = some w then s.setSramGrp (sramGroup w) { g with writeback := none } else s

/-- The check of a valid word on its way out: a valid-bit vote (R477), and 0 clean, 1 corrected, 2 uncorrectable. A
correction is counted unless the word's write-back is pending (R480). -/
def sramCheck (w : Nat) (vote : Bool) (ecc : Nat) (s : State) : Nat × State :=
  let s := if vote then ((s.inc Fld.MEMCTL_ECCCNT_CE).flag Fld.MEMCTL_ECCFLAGS_VOTE).fire EV.MEMCTL_CE else s
  let e := max (s.sramFault w) ecc
  let g := s.sramGrp (sramGroup w)
  if e = 0 then (0, s)
  else if e = 1 then
    if g.writeback = some w then (1, s)
    else
      let s := (s.setSramFault w 1).setSramGrp (sramGroup w) { g with writeback := some w }
      (1, (((s.inc Fld.MEMCTL_ECCCNT_CE).put Fld.MEMCTL_CEADDR_ADDR w).flag Fld.MEMCTL_ECCFLAGS_CE).fire EV.MEMCTL_CE)
  else (2, s.setSramFault w 2)

/-- Record an uncorrectable word (R481, R484, R595): kind 0 read, 1 merge drain, 3 line fill. -/
def sramUe (w kind block : Nat) (s : State) : State :=
  let code := if kind = 1 then 0x0B02 else 0x0B01
  let s := ((s.put Fld.MEMCTL_UEADDR_ADDR w).put Fld.MEMCTL_UEINFO_CODE code).put Fld.MEMCTL_UEINFO_MASTER block
  let s := (s.put Fld.MEMCTL_UEINFO_KIND kind).put Fld.MEMCTL_UEINFO_GROUP (sramGroup w)
  let s := (s.inc Fld.MEMCTL_ECCCNT_UE).flag (if kind = 1 then Fld.MEMCTL_ECCFLAGS_MERGEUE else Fld.MEMCTL_ECCFLAGS_UE)
  lifeCode code 0x08 (lifeCount 21 0 16 1 (s.fire EV.MEMCTL_UE))

/-! ### The merge buffer -/

/-- The entry that holds a word. -/
def mergeOf (s : State) (w : Nat) : Option MergeEntry := (s.sramGrp (sramGroup w)).merge.find? (fun e => e.word == w)

/-- The octets of a stored word with an entry's octets over them (R485). -/
def mergeOver (e : MergeEntry) (stored : List Byte) : List Byte :=
  (List.range 4).map (fun k => if testBit' e.mask k then nth 0#8 e.octets k else nth 0#8 stored k)

/-- An entry drains (R483, R484). -/
def mergeDrain (e : MergeEntry) (vote : Bool) (ecc : Nat) (s : State) : State :=
  let g := sramGroup e.word
  let v := s.sramGrp g
  let s := s.setSramGrp g { v with merge := v.merge.filter (fun x => x.word != e.word) }
  if e.mask = 15 then sramStore e.word e.octets s
  else if !s.sramValid e.word then sramStore e.word (mergeOver e [0#8, 0#8, 0#8, 0#8]) s
  else
    let r := sramCheck e.word vote ecc s
    if r.1 = 2 then sramUe e.word 1 e.block r.2
    else sramStore e.word (mergeOver e (r.2.bytes e.word 4)) r.2

/-- Every entry of group g drains. -/
def mergeDrainAll (g : Nat) (s : State) : State := s.forEach (s.sramGrp g).merge (fun e s => mergeDrain e false 0 s)

/-- A narrow write enters the merge buffer (R483); `vote` and `ecc` tell of the oldest entry's word where it drains first. -/
def mergeWrite (block a : Nat) (octets : List Byte) (vote : Bool) (ecc : Nat) (s : State) : State :=
  let w := a / 4 * 4
  let g := sramGroup w
  let put := fun (e : MergeEntry) =>
    octets.zipIdx.foldl (fun (e : MergeEntry) (b, i) =>
      { e with mask := setBitN e.mask (a % 4 + i), octets := setNth e.octets (a % 4 + i) b }) { e with block := block }
  match mergeOf s w with
  | some e =>
    let e' := put e
    let v := s.sramGrp g
    let s := s.setSramGrp g { v with merge := v.merge.map (fun x => if x.word == w then e' else x) }
    if e'.mask = 15 then mergeDrain e' false 0 s else s
  | none =>
    let s := match (s.sramGrp g).merge with
      | o :: rest => if 3 ≤ rest.length then mergeDrain o vote ecc s else s
      | [] => s
    let v := s.sramGrp g
    s.setSramGrp g { v with merge := v.merge ++ [put { word := w, mask := 0, octets := [0#8, 0#8, 0#8, 0#8], block := block }] }

/-! ### Accesses -/

/-- Is an SRAM access refused by the bus: a master that does not reach it, an unaligned address (R475), a group that is
not on (R15)? -/
def sramBars (s : State) (m : Master) (a : Nat) (z : AccessSize) : Bool :=
  a < 0x20000000 || 0x20180000 ≤ a || !s.reaches m a || a % sizeOctets z != 0 || !s.domOn (4 + sramGroup a)

/-- The other words of the cache line of a, read by a line fill: whether all of them can be used (R481). -/
def lineRead (a block : Nat) (bad : Option (Fin 8)) (s : State) : Bool × State :=
  (List.range 8).foldl (fun (p : Bool × State) k =>
    let w := lineBase a + 4 * k
    if w = a / 4 * 4 ∨ !p.2.sramValid w then p
    else
      let r := sramCheck w false (if bad.map (fun b => b.val) = some k then 2 else 0) p.2
      if r.1 = 2 then (false, sramUe w 3 block r.2) else (p.1, r.2)) (true, s)

/-- The octets a read of n octets at a gives, once its word is checked. -/
def sramOctets (s : State) (a n : Nat) : List Byte :=
  let w := a / 4 * 4
  let stored := s.bytes w 4
  let all := match mergeOf s w with
    | some e => mergeOver e stored
    | none => stored
  (all.drop (a % 4)).take n

/-- A read of SRAM that fills a line of its core's cache (R473, R481): the line enters unless one of its words is bad. -/
def sramLine (m : Master) (u : CacheUse) (a : Nat) (bad : Option (Fin 8)) (s : State) : State :=
  let r := lineRead a (masterBlock m) bad s
  let octets := (List.range 8).flatMap (fun k => sramOctets r.2 (lineBase a + 4 * k) 4)
  if r.1 then cacheFill m u.side a octets r.2 else r.2

/-- SRAM_READ (R475 to R481, R485): a read that reaches the bus. `vote` and `ecc` are what the copies of the valid bit and
the check bits show at this read; `fill`: a core's read that fills a line of a cache (R472 to R474), of which word `line`
shows an uncorrectable error. -/
def execSramRead (master : Master) (addr : Word) (size : AccessSize) (vote : Bool) (ecc : Fin 3) (fill : Option CacheUse)
    (line : Option (Fin 8)) (s : State) : Out :=
  let a := addr.toNat
  let w := a / 4 * 4
  let block := masterBlock master
  if !s.issues master then .next s
  else if sramBars s master a size then .next (busError s)
  else if s.has (Fld.MEMCTL_GRPSTAT_CLEARING (sramGroup a)) then .next { s with bus := .waits }
  else
    let s := cacheLookup master a fill s
    let r := if s.sramValid w then sramCheck w vote ecc.val s else (0, s)
    if r.1 = 2 then .next (busError (sramUe w 0 block r.2))
    else
      let s := match fill with
        | some u => if (cacheCores r.2 master).isEmpty then r.2 else sramLine master u a line r.2
        | none => r.2
      .next { s with bus := .data (BitVec.ofNat 32 (natOfLE (sramOctets s a (sizeOctets size)))) }

/-- SRAM_WRITE (R475, R478, R482, R483): `vote` and `ecc` are what the oldest entry's word shows where it has to drain
first. -/
def execSramWrite (master : Master) (addr : Word) (size : AccessSize) (value : Word) (vote : Bool) (ecc : Fin 3)
    (s : State) : Out :=
  let a := addr.toNat
  if !s.issues master then .next s
  else if sramBars s master a size then .next (busError s)
  else if s.has (Fld.MEMCTL_GRPSTAT_CLEARING (sramGroup a)) then .next { s with bus := .waits }
  else
    let octets := bytesLE (sizeOctets size) value.toNat
    let s := cacheWrite master a octets { s with bus := .done }
    if size = .word then
      let g := sramGroup a
      let v := s.sramGrp g
      .next (sramStore a octets (s.setSramGrp g { v with merge := v.merge.filter (fun e => e.word != a) }))
    else .next (mergeWrite (masterBlock master) a octets vote ecc.val s)

/-- ECC_WRITEBACK (R480). -/
def execEccWriteback (group : Fin 3) (s : State) : Out :=
  let g := s.sramGrp group.val
  match g.writeback with
  | none => .next s
  | some w => .next ((s.setSramFault w 0).setSramGrp group.val { g with writeback := none })

/-- MERGE_DRAIN (R483, R484): an entry drains in an idle cycle of the port. -/
def execMergeDrain (group : Fin 3) (entry : Fin 4) (vote : Bool) (ecc : Fin 3) (s : State) : Out :=
  match (s.sramGrp group.val).merge[entry.val]? with
  | some e => .next (mergeDrain e vote ecc.val s)
  | none => .next s

/-! ### Clearing (R479) -/

/-- Group g begins to clear its valid bits: every word reads as zero, its merge entries are discarded. -/
def sramClear (g : Nat) (s : State) : State :=
  let lo := 0x20000000 + 0x80000 * g
  let inG := fun a => decide (lo ≤ a ∧ a < lo + 0x80000)
  let s := wipe lo 0x80000 s
  let valid := sparseFilter (fun a => !inG a) s.sram.valid
  let faults := sparseFilter (fun a => !inG a) s.sram.faults
  let s := { s with sram := { s.sram with valid := valid, faults := faults } }
  (s.setSramGrp g {}).flag (Fld.MEMCTL_GRPSTAT_CLEARING g)

/-- SRAM_CLEAR (R479): a write of CLEAR to a group that is on. -/
def execSramClear (group : Fin 3) (s : State) : Out :=
  .next (if s.domOn (4 + group.val) then sramClear group.val (s.flag (Fld.MEMCTL_GRPCTL_CLEAR group.val)) else s)

/-- SRAM_CLEAR_DONE (R479). -/
def execSramClearDone (group : Fin 3) (s : State) : Out :=
  .next ((s.unflag (Fld.MEMCTL_GRPSTAT_CLEARING group.val)).unflag (Fld.MEMCTL_GRPCTL_CLEAR group.val))

/-! ### Rake passes (R486 to R489) -/

/-- The pass on group g ends in a state: 2 done, 3 aborted. -/
def rakeEnd (g st : Nat) (s : State) : State :=
  let s := { s with sram := { s.sram with rake := none } }
  let s := ((s.put (Fld.MEMCTL_RAKESUM_STATE g) st).unflag (Fld.MEMCTL_GRPSTAT_RAKING g)).unflag (Fld.MEMCTL_GRPCTL_STOP g)
  s.fire (EV.MEMCTL_RAKEDONE g)

/-- The pass on group g starts (R488). -/
def rakeBegin (g : Nat) (s : State) : State :=
  let s := s.resetRegs (fun a => decide (Reg.MEMCTL_RAKESUM g 0 ≤ a ∧ a ≤ Reg.MEMCTL_RAKESUM g 3))
  let s := ((s.put (Fld.MEMCTL_RAKESUM_STATE g) 1).unflag (Fld.MEMCTL_GRPCTL_RAKE g)).unflag (Fld.MEMCTL_GRPSTAT_RAKEWAIT g)
  { s with sram := { s.sram with rake := some g } }.flag (Fld.MEMCTL_GRPSTAT_RAKING g)

/-- The engine is free: the lowest waiting group is served; a group that is not on is abandoned at once (R489). -/
def rakeServe (s : State) : State :=
  s.forEach [0, 1, 2] (fun g s =>
    if s.sram.rake.isNone && s.has (Fld.MEMCTL_GRPSTAT_RAKEWAIT g) then
      let s := rakeBegin g s
      if s.domOn (4 + g) then s else rakeEnd g 3 s
    else s)

/-- The pass of group g is abandoned where it runs (R489). -/
def rakeAbandon (g : Nat) (s : State) : State := if s.sram.rake = some g then rakeServe (rakeEnd g 3 s) else s

/-- RAKE_REQUEST (R486). -/
def execRakeRequest (group : Fin 3) (cause : RakeCause) (s : State) : Out :=
  let g := group.val
  let s := if cause = .task then s.takeTask (TK.MEMCTL_RAKE g) else s
  if s.sram.rake = some g ∨ s.has (Fld.MEMCTL_GRPSTAT_RAKEWAIT g) then .next s
  else
    let s := if cause = .write then s.flag (Fld.MEMCTL_GRPCTL_RAKE g) else s
    .next (rakeServe (s.flag (Fld.MEMCTL_GRPSTAT_RAKEWAIT g)))

/-- The step of the pass at word w of group g. -/
def rakeWord (g w : Nat) (vote : Bool) (ecc : Nat) (s : State) : State :=
  match mergeOf s w with
  | some e => mergeDrain e vote ecc s
  | none =>
    if !s.sramValid w then s
    else
      let r := sramCheck w vote ecc s
      if r.1 = 0 then r.2
      else if r.1 = 1 then sramStore w (r.2.bytes w 4) (r.2.inc (Fld.MEMCTL_RAKESUM_CORR g))
      else
        let s := if r.2.get (Fld.MEMCTL_RAKESUM_UNCORR g) = 0 then r.2.put (Fld.MEMCTL_RAKESUM_FIRSTUE g) w else r.2
        ((s.put (Fld.MEMCTL_RAKESUM_LASTUE g) w).inc (Fld.MEMCTL_RAKESUM_UNCORR g)).flag Fld.MEMCTL_ECCFLAGS_RAKEUE

/-- RAKE_STEP (R487, R488). `taken`: a foreground request takes the port, and the step yields. -/
def execRakeStep (taken : Bool) (vote : Bool) (ecc : Fin 3) (s : State) : Out :=
  match s.sram.rake with
  | none => .next s
  | some g =>
    if taken then .next (yieldBackground 5 s)
    else if s.has (Fld.MEMCTL_GRPSTAT_CLEARING g) ∨ !s.domOn 12 then .next s
    else
      let n := s.get (Fld.MEMCTL_RAKESUM_SCANNED g)
      let s := rakeWord g (0x20000000 + 0x80000 * g + 4 * n) vote ecc.val s
      let s := s.put (Fld.MEMCTL_RAKESUM_SCANNED g) (n + 1)
      .next (if n + 1 < 131072 then s else rakeServe (rakeEnd g 2 s))

/-- RAKE_STOP (R489): a write of STOP. -/
def execRakeStop (group : Fin 3) (s : State) : Out := .next (rakeAbandon group.val s)

/-! ### Semaphores (R490) and CPU1 (R467) -/

/-- SEM_WRITE (R490). -/
def execSemWrite (n : Fin 32) (master : Master) (take : Bool) (s : State) : Out :=
  let o := s.get (Fld.MEMCTL_SEM_OWNER n.val)
  let b := masterBlock master
  if !s.issues master then .next s
  else if take then
    .next (if o = 0 then (s.put (Fld.MEMCTL_SEM_OWNER n.val) b).flag (Fld.MEMCTL_SEM_TAKE n.val) else s)
  else .next (if o = b then (s.put (Fld.MEMCTL_SEM_OWNER n.val) 0).unflag (Fld.MEMCTL_SEM_TAKE n.val) else s)

/-- Core x leaves reset at an address. -/
def coreStart (x a : Nat) (s : State) : State :=
  { s with cores := { s.cores with held := setNth s.cores.held x false, start := setNth s.cores.start x a,
                                   waiting := setNth s.cores.waiting x false, irq := setNth s.cores.irq x 0 } }.fire
    (EV.CPU_START x)

/-- CPU1_START (R467): a write of SYSCFG_CPUCTL with CPU1RUN = 1; its LSREQ is stored as in every write. D3 comes on. -/
def execCpu1Start (value : Word) (s : State) : Out :=
  let s := s.put Fld.SYSCFG_CPUCTL_LSREQ (value.toNat / 256)
  .next (if value.toNat % 2 = 0 ∨ s.has Fld.SYSCFG_FOSTAT_LOCKSTEP ∨ s.has Fld.SYSCFG_CPUCTL_CPU1RUN then s
    else
      let s := (s.flag Fld.SYSCFG_CPUCTL_CPU1RUN).flag Fld.SYSCFG_CPUSTAT_CPU1RUNNING
      coreStart 1 (s.rd Reg.SYSCFG_CPU1BOOT).toNat (s.putBit Reg.PMU_DOMSTAT 3 true))

end Sys2Proof.Machine
end

