-- ==== Sys2Proof/Machine/Flash.lean ====
section
/-!
DEFINITION. Flash: reads (R495 to R498, R507 to R510), program units (R499 to R502), block erases with their journal
(R503 to R509, R514), wear bookkeeping (R511 to R513).
-/

namespace Sys2Proof.Machine

def State.bank (s : State) (b : Nat) : FlashBank := nth {} s.flash.banks b

def State.setBank (b : Nat) (v : FlashBank) (s : State) : State :=
  { s with flash := { s.flash with banks := setNth s.flash.banks b v } }.put (Fld.FLASHC_STAT_QUEUE b) v.headers.length

/-- The bank of a flash or information-area address; the information area belongs to bank B. -/
def bankOf (a : Nat) : Nat := if a < 0x200000 then 0 else 1

/-- The block of a flash or information-area address (R493). -/
def blockOf (a : Nat) : Nat := if a < 0x400000 then a / 0x2000 else 512 + (a - 0x0FF00000) / 0x2000

/-- The first address of a block. -/
def blockAddr (n : Nat) : Nat := if n < 512 then n * 0x2000 else 0x0FF00000 + (n - 512) * 0x2000

/-- Is an address in flash or the information area? -/
def isFlash (a : Nat) : Bool := a < 0x400000 || (0x0FF00000 ≤ a && a < 0x0FF08000)

/-- Is a new flash operation held off by the supply monitor (R518)? -/
def State.flashHeld (s : State) : Bool := s.has Fld.SUPMON_STAT_DIP

/-- The bank's STATE (0 idle, 1 programming, 2 erase, 3 suspended) and HELD follow what it does. -/
def bankSync (b : Nat) (s : State) : State :=
  let v := s.bank b
  let st := if v.unit.isSome then 1 else match v.erase with
    | some e => if e.susp.isSome then 3 else 2
    | none => 0
  let resumeWaits := match v.erase with | some e => e.resume | none => false
  let waits := s.flashHeld && ((v.unit.isNone && v.next.isSome) || v.eraseWaits.isSome || resumeWaits)
  (s.put (Fld.FLASHC_STAT_STATE b) st).put (Fld.FLASHC_STAT_HELD b) (if waits then 1 else 0)

/-- A code of R500 to R504 or 0x060C ends something in bank b. -/
def flashCode (b code : Nat) (s : State) : State :=
  let s := s.put (Fld.FLASHC_STAT_LASTCODE b) code
  if code = 0 then s
  else
    let s := s.flag Fld.FLASHC_FLAGS_CMDERR
    if code = 0x060C then s else s.fire EV.FLASHC_ERR

/-! ### Hidden units (R514) -/

/-- Unit u of journal block x: 0 JA0, 1 JA1, 2 JB0, 3 JB1. -/
def journalUnit (x u : Nat) : Nat := 0x100000000 + 0x2000 * x + 16 * u

/-- The header unit of a block. -/
def headerUnit (n : Nat) : Nat := 0x100010000 + 16 * n

/-- Twelve octets with their CRC-32 (R40). -/
def crcUnit (body : List Byte) : List Byte := body ++ bytesLE 4 (crc32 body).toNat

/-- Does a unit's CRC-32 pass? -/
def crcUnitOk (u : List Byte) : Bool := u.drop 12 == bytesLE 4 (crc32 (u.take 12)).toNat

def unitBlank (u : List Byte) : Bool := u.all (fun b => b == 0xFF#8)

/-- The active journal block of bank b, and its SEQ. -/
def journalActive (s : State) (b : Nat) : Nat := 2 * b + s.get (Fld.FLASHC_JSTAT_ACTIVE b)

def journalSeq (s : State) (x : Nat) : Nat := s.num (journalUnit x 0 + 4) 4

/-- The header unit of a journal block. -/
def journalHeader (seq : Nat) : List Byte :=
  crcUnit (bytesLE 4 0x4E524A46 ++ bytesLE 4 seq ++ [0xFF#8, 0xFF#8, 0xFF#8, 0xFF#8])

/-- Journal block x is erased and given a header; it is active with no entry. -/
def journalInit (b x seq : Nat) (s : State) : State :=
  let s := (wipe (journalUnit x 0) 0x2000 s).setBytes (journalUnit x 0) (journalHeader seq)
  ((s.put (Fld.FLASHC_JSTAT_SEQ b) seq).put (Fld.FLASHC_JSTAT_ACTIVE b) (x % 2)).put (Fld.FLASHC_JSTAT_USED b) 0

/-- The START unit of an erase. -/
def startUnit (block count stamp : Nat) : List Byte :=
  crcUnit ([0x51#8, 0xFF#8] ++ bytesLE 2 block ++ bytesLE 4 count ++ bytesLE 4 stamp)

/-- The END unit of an erase. -/
def endUnit (result block pulses stamp : Nat) : List Byte :=
  crcUnit ([0xE5#8, BitVec.ofNat 8 result] ++ bytesLE 2 block ++ bytesLE 4 pulses ++ bytesLE 4 stamp)

/-- Write START in the next entry; a full journal block gives way to the other one (R505). -/
def journalStart (b block count : Nat) (s : State) : State :=
  let s := if 255 ≤ s.get (Fld.FLASHC_JSTAT_USED b) then
      let x := journalActive s b
      journalInit b (2 * b + (1 - x % 2)) (journalSeq s x + 1) s
    else s
  let k := s.get (Fld.FLASHC_JSTAT_USED b)
  (s.setBytes (journalUnit (journalActive s b) (1 + 2 * k)) (startUnit block count s.stamp)).put (Fld.FLASHC_JSTAT_USED b) (k + 1)

/-- Write END in the entry last used. -/
def journalEnd (b result block pulses : Nat) (s : State) : State :=
  let k := s.get (Fld.FLASHC_JSTAT_USED b)
  s.setBytes (journalUnit (journalActive s b) (2 * k)) (endUnit result block pulses s.stamp)

/-- The header unit that holds a count. -/
def headerOctets (count : Nat) : List Byte := bytesLE 4 count ++ bytesLE 4 (2 ^ 32 - 1 - count) ++ List.replicate 8 0xFF#8

/-- The count of a block's header unit, where it is consistent. -/
def headerCount (s : State) (n : Nat) : Option Nat :=
  let u := s.bytes (headerUnit n) 16
  if !unitBlank u ∧ natOfLE (u.take 4) + natOfLE ((u.drop 4).take 4) = 2 ^ 32 - 1 then some (natOfLE (u.take 4)) else none

/-- Erase a block: its octets, its header unit, its uncorrectable units, its copies in the read buffer (R497, R502). -/
def blockErase (n : Nat) (s : State) : State :=
  let s := wipe (headerUnit n) 16 (wipe (blockAddr n) 0x2000 s)
  let b := bankOf (blockAddr n)
  let v := s.bank b
  let out := fun (l : List Nat) => l.filter (fun u => blockOf u != n)
  let s := s.setBank b { v with buffer := out v.buffer }
  { s with flash := { s.flash with bad := out s.flash.bad, torn := s.flash.torn.filter (fun k => k != n) } }

/-- Program 16 octets; the unit's copy leaves the read buffer. -/
def unitStore (a : Nat) (octets : List Byte) (s : State) : State :=
  let v := s.bank (bankOf a)
  (s.setBytes a octets).setBank (bankOf a) { v with buffer := v.buffer.filter (fun u => u != a) }

/-! ### Protection (R501, R504, Table BOOT-3) -/

/-- Does FLASHC_WPROT protect an address? -/
def wprotected (s : State) (a : Nat) : Bool :=
  if a < 0x400000 then s.bit (Reg.FLASHC_WPROT (bankOf a)) (a % 0x200000 / 0x10000) else s.bit (Reg.FLASHC_WPROT 1) 31

/-- May software program a unit of the information area in the present life-cycle state? -/
def infoWritable (s : State) (a : Nat) : Bool :=
  let lc := s.get Fld.KEYSTORE_STAT_LC
  let o := a - 0x0FF00000
  if o < 0x94 ∨ (0x100 ≤ o ∧ o < 0x190) then lc ≤ 1 else 0x2000 ≤ o && o < 0x4000 && lc != 4

/-! ### Reads -/

/-- An entry for the early-warning FIFO (R498). -/
def ewPush (unit count : Nat) (s : State) : State :=
  if s.flash.warn.any (fun e => e.1 == unit) then s
  else
    let s := (s.flag Fld.FLASHC_FLAGS_EW).fire EV.FLASHC_EW
    if 8 ≤ s.flash.warn.length then s.flag Fld.FLASHC_EWSTAT_OVF
    else
      let s := { s with flash := { s.flash with warn := s.flash.warn ++ [(unit, count)] } }
      s.put Fld.FLASHC_EWSTAT_FILL s.flash.warn.length

/-- A unit is read from the array with its error count (R496 to R498). -/
def unitRead (u errors : Nat) (s : State) : State :=
  let b := bankOf u
  let s := (s.put (Fld.FLASHC_RDSTAT_UNIT b) (u / 16)).put (Fld.FLASHC_RDSTAT_COUNT b) errors
  let v := s.bank b
  let s := s.setBank b { v with buffer := (u :: v.buffer.filter (fun x => x != u)).take 2 }
  let s := if errors = 1 ∨ errors = 2 then s.inc Fld.FLASHC_ERRCNT_CE else s
  let s := if errors = 3 then
      let s := { s with flash := { s.flash with bad := if s.flash.bad.contains u then s.flash.bad else s.flash.bad ++ [u] } }
      let s := s.setBank b { s.bank b with buffer := (s.bank b).buffer.filter (fun x => x != u) }
      let s := ((s.put Fld.FLASHC_ERRADDR_ADDR u).inc Fld.FLASHC_ERRCNT_UE).flag Fld.FLASHC_FLAGS_UE
      lifeCode 0x0601 0x07 (lifeCount 21 16 16 1 (s.fire EV.FLASHC_UE))
    else s
  if s.get Fld.FLASHC_EWTHR_THR ≤ errors then ewPush u errors s else s

/-- The erase of bank b is suspended (R507); the harvest's erase yields with it (R23, R26, R598). -/
def eraseSuspend (b : Nat) (how : Suspension) (e : EraseOp) (s : State) : State :=
  let s := if e.harvest then yieldBackground 7 s else s
  (bankSync b (s.setBank b { s.bank b with erase := some { e with susp := some how } })).fire (EV.FLASHC_DONE b)

/-- A read that reaches its array or buffer. -/
def flashFetch (a n errors : Nat) (s : State) : State :=
  let u := a / 16 * 16
  let inBuffer := (s.bank (bankOf a)).buffer.contains u
  let errs := if s.flash.bad.contains u then 3 else errors
  let s := if inBuffer then s else unitRead u errs s
  if !inBuffer ∧ errs = 3 then busError s
  else if s.flash.torn.contains (blockOf a) then
    { s.freeNext with bus := .data (BitVec.ofNat 32 (s.freeNat % 2 ^ (8 * n))) }
  else { s with bus := .data (BitVec.ofNat 32 (s.num a n)) }

/-- The line of a read that reached a bank's array or buffer fills a core's cache (R472, R473, R495): its other unit is read
too, and shows `errors`; a line of which that unit is uncorrectable enters no cache (R497, as R481 says of SRAM). -/
def flashLine (m : Master) (u : CacheUse) (a errors : Nat) (s : State) : State :=
  let o := if a / 16 % 2 = 0 then a / 16 * 16 + 16 else a / 16 * 16 - 16
  let errs := if s.flash.bad.contains o then 3 else errors
  let inBuffer := (s.bank (bankOf a)).buffer.contains o
  let t := if inBuffer then s else unitRead o errs s
  if (!inBuffer ∧ errs = 3) ∨ s.flash.torn.contains (blockOf a) then t else cacheFill m u.side a (t.bytes (lineBase a) 32) t

/-- A read that reaches its array or buffer, with the fill of a line of its core's cache. -/
def flashGet (m : Master) (a n errors : Nat) (fill : Option CacheUse) (other : Nat) (s : State) : State :=
  let t := flashFetch a n errors s
  match fill with
  | some u => if t.bus = .error ∨ !cacheable a ∨ (cacheCores s m).isEmpty then t else flashLine m u a other t
  | none => t

/-- FLASH_READ (R495 to R498, R507 to R510, R512): a read that reaches the bus. `errors`: what the unit shows, 3
uncorrectable; `minrunOver`: MINRUN has passed since the erase resumed; `fill`: a core's read that fills a line of a cache
(R472 to R474), of which the other unit shows `other`. Without AUTOSUSP a read waits for a running erase to end. -/
def execFlashRead (master : Master) (addr : Word) (size : AccessSize) (errors : Fin 4) (minrunOver : Bool)
    (fill : Option CacheUse) (other : Fin 4) (s : State) : Out :=
  let a := addr.toNat
  let b := bankOf a
  let v := s.bank b
  let n := sizeOctets size
  if !s.issues master then .next s
  else if !isFlash a || !s.reaches master a || a % n != 0 || !s.domOn 7 then .next (busError s)
  else if s.get (Fld.FLASHC_STAT_STATE b) = 5 then .next { s with bus := .waits }
  else
    let wait : Out := .next { s with bus := .waits }
    let s := cacheLookup master a fill s
    let get := flashGet master a n errors.val fill other.val
    let inBuffer := v.buffer.contains (a / 16 * 16)
    match v.erase with
    | none =>
      if v.unit.isSome && !inBuffer then wait else .next (get s)
    | some e =>
      if e.susp.isSome then
        if blockOf a = e.block then
          let s := ((s.put Fld.FLASHC_SUSPERR_ADDR a).flag Fld.FLASHC_FLAGS_SUSPERR).inc Fld.FLASHC_ERRCNT_SUSPERR
          .next (busError (s.fire EV.FLASHC_SUSPERR))
        else if v.unit.isSome && !inBuffer then wait
        else .next (get s)
      else if inBuffer then .next (get s)
      else if e.harvest || (s.has Fld.FLASHC_CFG_AUTOSUSP && (minrunOver || !e.resumed)) then
        let s := eraseSuspend b .auto e s
        if blockOf a = e.block then
          let s := ((s.put Fld.FLASHC_SUSPERR_ADDR a).flag Fld.FLASHC_FLAGS_SUSPERR).inc Fld.FLASHC_ERRCNT_SUSPERR
          .next (busError (s.fire EV.FLASHC_SUSPERR))
        else .next (get s)
      else wait

/-- EWFIFO_READ (R498). -/
def execEwfifoRead (s : State) : Out :=
  match s.flash.warn with
  | [] => .next { s with bus := .data 0 }
  | (u, c) :: t =>
    let s := { s with flash := { s.flash with warn := t }, bus := .data (BitVec.ofNat 32 (u + 4 * c + 1)) }
    .next (s.put Fld.FLASHC_EWSTAT_FILL t.length)

/-! ### Programming (R499 to R502) -/

/-- The refusal of a unit (R501), or 0; a unit outside the bank is an invalid command. -/
def unitRefusal (s : State) (b a : Nat) : Nat :=
  if !isFlash a ∨ bankOf a ≠ b then 0x060C
  else
    match (s.bank b).erase with
    | some e =>
      if e.susp.isNone then 0x0602 else if blockOf a = e.block then 0x0605
      else if wprotected s a then 0x0606 else if 0x400000 ≤ a ∧ !infoWritable s a then 0x0607 else 0
    | none => if wprotected s a then 0x0606 else if 0x400000 ≤ a ∧ !infoWritable s a then 0x0607 else 0

/-- Start the next unit where the bank is free and nothing holds it off (R518). -/
def unitStart (b : Nat) (s : State) : State :=
  let v := s.bank b
  match v.unit, v.next with
  | none, some (a, octets) =>
    if s.flashHeld then bankSync b s
    else
      let code := unitRefusal s b a
      if code ≠ 0 then bankSync b (flashCode b code (s.setBank b { v with next := none }))
      else bankSync b (s.setBank b { v with unit := some (a, octets), next := none })
  | _, _ => bankSync b s

/-- FLASH_PROGRAM_UNIT (R499, R501): the write of PDATA word 3; where both places are taken the write stalls. -/
def execFlashProgramUnit (bank : Fin 2) (value : Word) (s : State) : Out :=
  let b := bank.val
  let v := s.bank b
  if v.next.isSome then .next { s with bus := .waits }
  else
    let a := (s.rd (Reg.FLASHC_ADDR b)).toNat / 16 * 16
    let s := s.wr (Reg.FLASHC_PDATA b 3) value
    let octets := (List.range 4).flatMap (fun w => bytesLE 4 (s.rd (Reg.FLASHC_PDATA b w)).toNat)
    let s := s.put (Fld.FLASHC_ADDR_UNIT b) (a / 16 + 1)
    let s := s.setBank b { v with next := some (a, octets), partialData := false }
    .next (unitStart b { s with bus := .done })

/-- Start an accepted ERASE (R503, R505, R506). -/
def eraseStart (b n : Nat) (s : State) : State :=
  let v := s.bank b
  let s := match v.headers with
    | (m, c) :: rest => if 2 ≤ v.headers.length then
        (s.setBytes (headerUnit m) (headerOctets c)).setBank b { v with headers := rest } else s
    | [] => s
  let s := journalStart b n (s.get (Fld.FLASHC_ERASECNT_COUNT n)) s
  let s := s.put (Fld.FLASHC_STAT_PULSES b) 0
  bankSync b (s.setBank b { s.bank b with erase := some { block := n }, eraseWaits := none })

/-- What waits in bank b starts as far as it can: an ERASE, a resume, a unit. -/
def bankGo (b : Nat) (s : State) : State :=
  let v := s.bank b
  if s.flashHeld ∨ v.unit.isSome then bankSync b s
  else
    match v.eraseWaits, v.erase with
    | some n, none => eraseStart b n s
    | _, some e =>
      if e.resume then bankSync b (s.setBank b { v with erase := some { e with susp := none, resume := false, resumed := true } })
      else unitStart b s
    | _, _ => unitStart b s

/-- FLASH_UNIT_DONE (R500). `dirty`: the unit does not read as erased though its octets do; `verifyBad`: the read-back with
margin fails, and what the unit holds then is free. -/
def execFlashUnitDone (bank : Fin 2) (dirty : Bool) (verifyBad : Bool) (s : State) : Out :=
  let b := bank.val
  let v := s.bank b
  match v.unit with
  | none => .next s
  | some (a, octets) =>
    let s := s.setBank b { v with unit := none }
    let erased := !dirty && unitBlank (s.bytes a 16) && !s.flash.bad.contains a
    let s := if !erased then flashCode b 0x0603 s
      else if verifyBad then flashCode b 0x0604 (unitStore a (bytesBE 16 s.freeNat) s.freeNext)
      else flashCode b 0 (unitStore a octets s)
    .next (bankGo b (s.fire (EV.FLASHC_DONE b)))

/-- FLASH_DISCARD (R517): PDATA words written without word 3 are discarded. -/
def execFlashDiscard (bank : Fin 2) (s : State) : Out :=
  let b := bank.val
  let s := s.resetRegs (fun a => decide (Reg.FLASHC_PDATA b 0 ≤ a ∧ a ≤ Reg.FLASHC_PDATA b 3))
  .next (s.setBank b { s.bank b with partialData := false })

/-! ### Erasing (R503 to R510) -/

/-- The refusal of an ERASE of block n in bank b (R503, R504), or 0. -/
def eraseRefusal (s : State) (b n key : Nat) : Nat :=
  let v := s.bank b
  if key ≠ 0xA5 ∨ 516 ≤ n ∨ bankOf (blockAddr n) ≠ b then 0x060C
  else if v.erase.isSome ∨ v.eraseWaits.isSome then 0x0602
  else if wprotected s (blockAddr n) then 0x0606
  else if n = 512 ∨ (513 ≤ n ∧ !infoWritable s (blockAddr n)) then 0x0607
  else 0

/-- FLASHC_ERASECNT[n] increments (R512, R513). -/
def eraseCount (n : Nat) (s : State) : State :=
  let c := s.get (Fld.FLASHC_ERASECNT_COUNT n)
  let s := s.inc (Fld.FLASHC_ERASECNT_COUNT n)
  if s.get (Fld.FLASHC_ERASECNT_COUNT n) = s.get Fld.FLASHC_WEARTHR_THR ∧ c ≠ s.get (Fld.FLASHC_ERASECNT_COUNT n) then
    (s.flag Fld.FLASHC_FLAGS_WEAR).fire EV.FLASHC_WEAR
  else s

/-- FLASH_ERASE (R503, R504): the ERASE command; it starts once no unit runs and nothing holds it off (R518). -/
def execFlashErase (bank : Fin 2) (value : Word) (s : State) : Out :=
  let b := bank.val
  let n := value.toNat / 2 ^ 10 % 2 ^ 10
  let code := eraseRefusal s b n (value.toNat / 2 ^ 24)
  if code ≠ 0 then .next (flashCode b code s)
  else
    let s := eraseCount n s
    .next (bankGo b (s.setBank b { s.bank b with eraseWaits := some n }))

/-- Is a reset of system or full scope pending, so that a running erase is abandoned (R516)? -/
def State.resetDue (s : State) : Bool := decide (2 ≤ s.boot.scope)

/-- A reset source asks for a reset of a scope (1 warm, 2 system, 3 full), with its RSTCAUSE bit; requests that are pending
together merge (R551). -/
def resetRequest (scope bit : Nat) (s : State) : State :=
  { s with boot := { s.boot with scope := max s.boot.scope scope, causes := setBitN s.boot.causes bit } }

/-- The erase of bank b is abandoned without END (R516): the block's contents are open until it is erased. -/
def eraseAbandon (b : Nat) (e : EraseOp) (s : State) : State :=
  let s := { s with flash := { s.flash with torn := s.flash.torn ++ [e.block] } }
  bankSync b (s.setBank b { s.bank b with erase := none })

/-- The header write of an erased block is queued, after each END entry (R511). -/
def headerQueue (b n : Nat) (s : State) : State :=
  let v := s.bank b
  s.setBank b { v with headers := v.headers ++ [(n, s.get (Fld.FLASHC_ERASECNT_COUNT n))] }

/-- FLASH_ERASE_PULSE_END (R503): `verified` says that the block verifies as erased. -/
def execFlashErasePulseEnd (bank : Fin 2) (verified : Bool) (s : State) : Out :=
  let b := bank.val
  match (s.bank b).erase with
  | none => .next s
  | some e =>
    if e.susp.isSome then .next s
    else
      let p := e.pulses + 1
      let s := s.put (Fld.FLASHC_STAT_PULSES b) p
      if s.resetDue then .next (eraseAbandon b e s)
      else if verified then
        let s := journalEnd b 0 e.block p (blockErase e.block s)
        let s := headerQueue b e.block (s.setBank b { s.bank b with erase := none })
        .next (bankGo b ((flashCode b 0 s).fire (EV.FLASHC_DONE b)))
      else if p < 96 then .next (s.setBank b { s.bank b with erase := some { e with pulses := p } })
      else
        let s := headerQueue b e.block (journalEnd b 1 e.block p (eraseAbandon b e s))
        .next (bankGo b ((flashCode b 0x0608 s).fire (EV.FLASHC_DONE b)))

/-- FLASH_SUSPEND (R507). -/
def execFlashSuspend (bank : Fin 2) (byTask : Bool) (s : State) : Out :=
  let b := bank.val
  let s := if byTask then s.takeTask (TK.FLASHC_SUSPEND b) else s
  match (s.bank b).erase with
  | none => .next s
  | some e =>
    if e.susp.isSome then .next (s.setBank b { s.bank b with erase := some { e with susp := some .command, resume := false } })
    else .next (eraseSuspend b .command e s)

/-- FLASH_RESUME (R509): with the supply held off, or while a unit runs, the resume waits. -/
def execFlashResume (bank : Fin 2) (byTask : Bool) (s : State) : Out :=
  let b := bank.val
  let s := if byTask then s.takeTask (TK.FLASHC_RESUME b) else s
  match (s.bank b).erase with
  | none => .next s
  | some e =>
    .next (if e.susp.isNone then s else bankGo b (s.setBank b { s.bank b with erase := some { e with resume := true } }))

/-- FLASH_AUTO_RESUME (R509). -/
def execFlashAutoResume (bank : Fin 2) (s : State) : Out :=
  let b := bank.val
  let v := s.bank b
  match v.erase with
  | none => .next s
  | some e =>
    .next (if e.susp = some .auto ∧ v.unit.isNone ∧ v.next.isNone ∧ !s.flashHeld then
      let s := if e.harvest then stepResumed 7 s else s
      bankSync b (s.setBank b { v with erase := some { e with susp := none, resumed := true } }) else s)

/-! ### Wear (R511, R512) -/

/-- WEAR_HEADER_WRITE (R511): one queued header write, while the bank runs no command and nothing holds it off. `taken`:
another master requests the port, and the step yields (R20, R23). -/
def execWearHeaderWrite (bank : Fin 2) (taken : Bool) (s : State) : Out :=
  let b := bank.val
  let v := s.bank b
  match v.headers with
  | [] => .next s
  | (n, c) :: rest =>
    if v.unit.isSome ∨ v.erase.isSome ∨ s.flashHeld ∨ !s.domOn 7 then .next s
    else if taken then .next (yieldBackground 6 s)
    else .next (stepResumed 6 ((s.setBytes (headerUnit n) (headerOctets c)).setBank b { v with headers := rest }))

/-- Is the header of journal block x valid? -/
def journalOk (s : State) (x : Nat) : Bool :=
  let u := s.bytes (journalUnit x 0) 16
  natOfLE (u.take 4) == 0x4E524A46 && crcUnitOk u

/-- The active journal block of bank b: of those with a valid header the one with the higher SEQ (R515). -/
def journalFind (s : State) (b : Nat) : Option Nat :=
  let x := 2 * b
  if journalOk s x then
    (if journalOk s (x + 1) ∧ journalSeq s x < journalSeq s (x + 1) then some (x + 1) else some x)
  else if journalOk s (x + 1) then some (x + 1) else none

/-- The entries used in journal block x: up to the last START unit that is not blank. -/
def journalUsed (s : State) (x : Nat) : Nat :=
  (List.range 255).foldl (fun n k => if unitBlank (s.bytes (journalUnit x (1 + 2 * k)) 16) then n else k + 1) 0

/-- FLASHC_JSTAT[b] as the journal blocks stand. -/
def journalScan (b : Nat) (s : State) : State :=
  match journalFind s b with
  | some x =>
    ((s.put (Fld.FLASHC_JSTAT_SEQ b) (journalSeq s x)).put (Fld.FLASHC_JSTAT_ACTIVE b) (x % 2)).put (Fld.FLASHC_JSTAT_USED b)
      (journalUsed s x)
  | none => s

/-- Load FLASHC_ERASECNT from the header units (R512), and the state of the journals with it. -/
def erasecntLoad (s : State) : State :=
  let s := s.forEach (List.range 516) (fun n s =>
    match headerCount s n with
    | some c => (s.put (Fld.FLASHC_ERASECNT_COUNT n) c).flag (Fld.FLASHC_ERASECNT_VALID n)
    | none => (s.put (Fld.FLASHC_ERASECNT_COUNT n) 0).unflag (Fld.FLASHC_ERASECNT_VALID n))
  bankSync 1 (bankSync 0 (journalScan 1 (journalScan 0 s)))

/-- ERASECNT_LOAD (R512). -/
def execErasecntLoad (s : State) : Out := .next (erasecntLoad s)

end Sys2Proof.Machine
end

