-- ==== Sys2Proof/Machine/Life.lean ====
section
/-!
DEFINITION. Lifetime records and counters: seconds and temperature (R594), the harvest (R596 to R598), loading at D1
power-up (R599), reading (R594).
-/

namespace Sys2Proof.Machine

/-! ### Records (Table LIFE-1) -/

/-- Address of record i of the lifetime area (R600). -/
def lifeRec (i : Nat) : Nat := 0x0FF06000 + 128 * i

/-- Is record i valid: MAGIC, FMT and CRC (R599)? -/
def lifeRecValid (s : State) (i : Nat) : Bool :=
  let r := s.bytes (lifeRec i) 128
  natOfLE (r.take 2) == 0x4C52 && nth 0#8 r 2 == 1#8 && r.drop 124 == bytesLE 4 (crc32 (r.take 124)).toNat

def lifeRecSeq (s : State) (i : Nat) : Nat := s.num (lifeRec i + 4) 4

/-- The valid record with the highest SEQ. -/
def lifeNewest (s : State) : Option Nat :=
  ((List.range 64).filter (lifeRecValid s)).foldl (fun best i =>
    match best with
    | none => some i
    | some j => if lifeRecSeq s j < lifeRecSeq s i then some i else some j) none

/-- The first blank slot after the newest valid record. -/
def lifeBlankSlot (s : State) : Option Nat :=
  let from' := match lifeNewest s with | some i => i + 1 | none => 0
  (List.range 64).find? (fun i => from' ≤ i && unitBlank (s.bytes (lifeRec i) 128))

/-- LIFE_STAT.SLOT anew. -/
def lifeSlotSync (s : State) : State := s.put Fld.LIFE_STAT_SLOT ((lifeBlankSlot s).getD 0)

/-- The record that latches the live counters (R597). -/
def lifeRecord (s : State) : List Byte :=
  let body := bytesLE 2 0x4C52 ++ [1#8, if s.life.requested then 1#8 else 0#8] ++ bytesLE 4 (s.get Fld.LIFE_SEQ_SEQ + 1)
    ++ bytesLE 4 s.stamp ++ bytesLE 4 s.stratum
    ++ (List.range 27).flatMap (fun k => bytesLE 4 (s.rd (Reg.LIFE_VAL (4 + k))).toNat)
  body ++ bytesLE 4 (crc32 body).toNat

/-! ### The harvest -/

/-- HARVEST_DUE (R596): the period's end while EN = 1, or a write of LIFE_CTL.HARVEST; it merges with one that is pending. -/
def execHarvestDue (requested : Bool) (s : State) : Out :=
  if !requested ∧ !s.has Fld.LIFE_CFG_EN then .next s
  else
    let s := if requested then s.flag Fld.LIFE_CTL_HARVEST else s
    .next (if s.has Fld.LIFE_STAT_PEND then s
      else { s with life := { s.life with requested := requested } }.flag Fld.LIFE_STAT_PEND)

/-- HARVEST_START (R596 to R598). -/
def execHarvestStart (s : State) : Out :=
  let v := s.bank 1
  if !s.has Fld.LIFE_STAT_PEND ∨ s.has Fld.LIFE_STAT_BUSY ∨ s.has Fld.LIFE_STAT_LOADING ∨ !s.domOn 7 ∨ v.unit.isSome ∨ v.erase.isSome
      ∨ s.flashHeld then
    .next s
  else
    let slot := lifeBlankSlot s
    let s := { s with life := { s.life with record := lifeRecord s, slot := slot.getD 0, units := 0 } }
    let s := ((s.unflag Fld.LIFE_STAT_PEND).unflag Fld.LIFE_CTL_HARVEST).flag Fld.LIFE_STAT_BUSY
    match slot with
    | some _ => .next s
    | none =>
      let s := eraseStart 1 515 (eraseCount 515 (s.inc Fld.LIFE_CNT_WRAPS))
      .next (s.setBank 1 { s.bank 1 with erase := (s.bank 1).erase.map (fun e => { e with harvest := true }) })

/-- HARVEST_UNIT_DONE (R597): one unit of the record is programmed, or fails R500 and the record is abandoned. `taken`:
another master requests the port, and the step yields (R20, R23). -/
def execHarvestUnitDone (taken : Bool) (dirty : Bool) (verifyBad : Bool) (s : State) : Out :=
  if !s.has Fld.LIFE_STAT_BUSY ∨ (s.bank 1).erase.isSome ∨ (s.bank 1).unit.isSome ∨ s.flashHeld then .next s
  else if taken then .next (yieldBackground 7 s)
  else
    let s := stepResumed 7 s
    let a := lifeRec s.life.slot + 16 * s.life.units
    let octets := (s.life.record.drop (16 * s.life.units)).take 16
    let erased := !dirty && unitBlank (s.bytes a 16)
    if !erased ∨ verifyBad then
      let s := if erased then unitStore a (bytesBE 16 s.freeNat) s.freeNext else s
      let s := lifeCode 0x0621 0x07 ((s.inc Fld.LIFE_CNT_FAILS).put Fld.LIFE_STAT_LASTRES 0x0621)
      .next (lifeSlotSync (s.unflag Fld.LIFE_STAT_BUSY))
    else
      let s := unitStore a octets s
      let n := s.life.units + 1
      let s := { s with life := { s.life with units := n } }
      if n < 8 then .next s
      else
        let s := (s.put Fld.LIFE_SEQ_SEQ (s.get Fld.LIFE_SEQ_SEQ + 1)).inc Fld.LIFE_CNT_HARVESTS
        .next (lifeSlotSync ((s.put Fld.LIFE_STAT_LASTRES 0).unflag Fld.LIFE_STAT_BUSY))

/-! ### Counting -/

/-- LIFE_TEMP_SAMPLE (R594). -/
def execLifeTempSample (temp : BitVec 8) (s : State) : Out := .next (lifeEvent (.temp (toS 8 temp.toNat)) s)

/-- Does the long watchdog count (R569)? -/
def lwdtCounts (s : State) : Bool :=
  s.has Fld.LWDT_CFG_EN && (s.has Fld.LWDT_CFG_SLEEPRUN || s.power.state != .sleep || s.has Fld.PMU_STAT_EXC)

/-- LIFE_SECOND_TICK (R594): POWERED and AWAKE; the long watchdog counts the same seconds (R569). -/
def execLifeSecondTick (s : State) : Out :=
  let s := lifeCount 4 0 32 1 s
  let s := if s.lfMode then s else lifeCount 5 0 32 1 s
  .next (if lwdtCounts s then s.put Fld.LWDT_STAT_REMAIN (s.get Fld.LWDT_STAT_REMAIN - 1) else s)

/-! ### Loading and reading -/

/-- Store words 4 to 30. -/
def lifeStore (words : List Word) (s : State) : State :=
  s.forEach (List.range 27) (fun k s => s.wr (Reg.LIFE_VAL (4 + k)) (nth 0#32 words k))

/-- LIFE_LOAD_END (R599): the first source that applies; the deferred events are counted. -/
def execLifeLoadEnd (s : State) : Out :=
  if !s.has Fld.LIFE_STAT_LOADING ∨ (s.life.restore.isNone ∧ !s.domOn 7) then .next s
  else
    let newest := if s.domOn 7 then lifeNewest s else none
    let s := match newest with
      | some i => s.put Fld.LIFE_SEQ_SEQ (lifeRecSeq s i)
      | none => s
    let empty := s.life.restore.isNone && newest.isNone
    let s := match s.life.restore, newest with
      | some words, _ => (lifeStore words s).put Fld.LIFE_STAT_SOURCE 2
      | none, some i =>
        (lifeStore ((List.range 27).map (fun k => s.word (lifeRec i + 16 + 4 * k))) s).put Fld.LIFE_STAT_SOURCE 1
      | none, none =>
        ((lifeStore [] s).wr (Reg.LIFE_VAL 19) 0x807F01FF#32).put Fld.LIFE_STAT_SOURCE 0
    let held := s.life.held
    let s := { s with life := { s.life with held := [], restore := none } }.unflag Fld.LIFE_STAT_LOADING
    let s := if empty then lifeCode 0x0620 0x07 s else s
    .next (lifeSlotSync (s.forEach held lifeApply))

/-- LIFE_VAL_READ (R594): a read of LIFE_VAL[12] or [14] latches the word above it. -/
def execLifeValRead (frames : Lane) (s : State) : Out :=
  let w := 12 + 2 * frames.val
  let s := s.setLatch (Reg.LIFE_VAL (w + 1)) (s.rd (Reg.LIFE_VAL (w + 1)))
  .next { s with bus := .data (s.rd (Reg.LIFE_VAL w)) }

end Sys2Proof.Machine
end

