-- ==== Sys2Proof/Machine/Pke.lean ====
section
/-!
DEFINITION. The public-key engine (R426 to R429) and SHA-256 (R430).
-/

namespace Sys2Proof.Machine

/-- Operand RAM (Table CIPH-7). -/
def pkeD : Nat := 0x40059000
def pkeQX : Nat := 0x40059020
def pkeQY : Nat := 0x40059040
def pkeE : Nat := 0x40059060
def pkeR : Nat := 0x40059080
def pkeS : Nat := 0x400590A0
def pkeRX : Nat := 0x400590C0

/-- A 32-octet big-endian operand. -/
def State.operand (s : State) (a : Nat) : Nat := natOfBE (s.bytes a 32)

/-- Clear the operand RAM. -/
def operandsClear (s : State) : State := s.setBytes pkeD (List.replicate 224 0#8)

/-- A write to PKE that its master may not make (R426, R427). -/
def pkeRefuse (s : State) : State := s.put Fld.PKE_STAT_CODE 0x0423

/-- Does a master hold the claim? -/
def pkeOwns (s : State) (m : Master) : Bool :=
  s.has Fld.PKE_CLAIM_CLAIM && !s.has Fld.PKE_CLAIM_LOADER && s.get Fld.PKE_CLAIM_OWNER == masterBlock m

/-- Drop the ephemeral key. -/
def ephDrop (s : State) : State := { s with pke := { s.pke with eph := none } }.unflag Fld.PKE_STAT_EPHVALID

/-- Release PKE (R426): the operand RAM and the ephemeral key are cleared; an operation that still runs leaves its code
only. -/
def pkeRelease (s : State) : State :=
  let s := operandsClear (ephDrop ((s.unflag Fld.PKE_CLAIM_CLAIM).put Fld.PKE_CLAIM_OWNER 0))
  match s.pke.op with
  | some o => { s with pke := { s.pke with op := some { code := o.code } } }
  | none => s

/-- PKE_CLAIM_WRITE (R426, R427). -/
def execPkeClaimWrite (master : Master) (claim : Bool) (s : State) : Out :=
  if s.has Fld.PKE_CLAIM_LOADER || !s.issues master then .next s
  else if s.has Fld.PKE_CLAIM_CLAIM then .next (if pkeOwns s master ∧ !claim then pkeRelease s else s)
  else if claim then .next ((s.flag Fld.PKE_CLAIM_CLAIM).put Fld.PKE_CLAIM_OWNER (masterBlock master))
  else .next s

/-- The gate of every operation: the owner only; a write while one runs is ignored, and so is a KEYSRC of 3. -/
def pkeCommand (m : Master) (cmd : Word) (f : State → PkeOp × State) (s : State) : State :=
  if !s.issues m then s
  else if !pkeOwns s m then pkeRefuse s
  else if s.has Fld.PKE_STAT_BUSY ∨ cmd.toNat / 2 ^ 4 % 4 = 3 then s
  else
    let r := f s
    { r.2 with pke := { r.2.pke with op := some r.1 } }.flag Fld.PKE_STAT_BUSY

/-- The private key of an operation (KEYSRC) for a key store operation bit: a code or 0, and the scalar. -/
def pkePrivate (m : Master) (cmd : Word) (op : Nat) (fails : Bool) (s : State) : Nat × Nat × State :=
  let c := cmd.toNat
  let r : Nat × Nat × State := match c / 2 ^ 4 % 4 with
    | 0 => (0, s.operand pkeD, s)
    | 1 =>
      let h := c / 2 ^ 8 % 256
      let a := keyAdmit { slot := h, masters := 8 ||| masterBit (masterBlock m), op := op, types := [3], block := masterBlock m,
                          checkFails := fails } s
      (a.1, natOfBE (s.keyBytes h), a.2)
    | _ => (0, s.pke.eph.getD 0, s)
  if r.1 = 0 ∧ (r.2.1 = 0 ∨ p256N ≤ r.2.1) then (0x0422, 0, r.2.2) else r

/-- PKE_KEYGEN (Table CIPH-6, R429). -/
def execPkeKeygen (master : Master) (cmd : Word) (_keyCheckFails : Bool) (s : State) : Out :=
  .next (pkeCommand master cmd (fun s =>
    if !s.drbgReady then ({ code := 0x0432 }, s)
    else
      let d := drbgScalar s
      match ecMul d.1 ecG with
      | some (x, y) =>
        ({ code := 0, writes := [(pkeQX, bytesBE 32 x), (pkeQY, bytesBE 32 y)], eph := some (some d.1) }, d.2)
      | none => ({ code := 0x04FF }, d.2)) s)

/-- The import of an ECDH result with TOKEY (R448): attributes with KTYPE 4 and a parent; a refusal code or 0. -/
def ecdhImport (cmd : Word) (s : State) : Nat × List Word :=
  let c := cmd.toNat
  let a := s.newAttr
  let a := [BitVec.ofNat 32 (fieldPut ⟨0, 12, 3⟩ 4 (attrW a 0))] ++ a.drop 1
  let parent := if c / 2 ^ 4 % 4 = 1 then c / 2 ^ 8 % 256 else 0
  let code := newSlotCode s a (c / 2 ^ 24) parent
  if code ≠ 0 then (code, [])
  else if parent = 0 ∧ s.has Fld.KEYSTORE_STAT_LOCKED then (0x050A, [])
  else if parent = 0 ∧ !s.keyUsable 0 then (0x0501, [])
  else (0, newSlotAttr s a parent)

/-- PKE_ECDH (R429, R448). -/
def execPkeEcdh (master : Master) (cmd : Word) (keyCheckFails : Bool) (s : State) : Out :=
  .next (pkeCommand master cmd (fun s =>
    let tokey := testBit' cmd.toNat 17
    let x := s.operand pkeQX
    let y := s.operand pkeQY
    let imp := if tokey then ecdhImport cmd s else (0, [])
    if imp.1 ≠ 0 then ({ code := imp.1 }, s)
    else if !ecOnCurve x y then ({ code := 0x0420 }, s)
    else
      let d := pkePrivate master cmd 7 keyCheckFails s
      if d.1 ≠ 0 then ({ code := d.1 }, d.2.2)
      else
        let used : Option (Option Nat) := if cmd.toNat / 2 ^ 4 % 4 = 2 then some none else none
        match ecMul d.2.1 (some (x, y)) with
        | none => ({ code := 0x04FF, eph := used }, d.2.2)
        | some (z, _) =>
          if tokey then
            ({ code := 0, writes := [(pkeRX, List.replicate 32 0#8)], eph := used,
               imp := some (cmd.toNat / 2 ^ 24, imp.2, bytesBE 32 z) }, d.2.2)
          else ({ code := 0, writes := [(pkeRX, bytesBE 32 z)], eph := used }, d.2.2)) s)

/-- PKE_SIGN (Table CIPH-6): k from the DRBG. A k for which the standard draws again leaves the unspecified fault of the
block (R11), which no k in use meets. -/
def execPkeSign (master : Master) (cmd : Word) (keyCheckFails : Bool) (s : State) : Out :=
  .next (pkeCommand master cmd (fun s =>
    let d := pkePrivate master cmd 6 keyCheckFails s
    if d.1 ≠ 0 then ({ code := d.1 }, d.2.2)
    else if !s.drbgReady then ({ code := 0x0432 }, d.2.2)
    else
      let k := drbgScalar d.2.2
      match ecdsaSign d.2.1 (s.operand pkeE) k.1 with
      | some (r, t) => ({ code := 0, writes := [(pkeR, bytesBE 32 r), (pkeS, bytesBE 32 t)] }, k.2)
      | none => ({ code := 0x04FF }, k.2)) s)

/-- PKE_VERIFY (R429). -/
def execPkeVerify (master : Master) (cmd : Word) (_keyCheckFails : Bool) (s : State) : Out :=
  .next (pkeCommand master cmd (fun s =>
    let x := s.operand pkeQX
    let y := s.operand pkeQY
    if !ecOnCurve x y then ({ code := 0x0420 }, s)
    else if ecdsaVerify x y (s.operand pkeE) (s.operand pkeR) (s.operand pkeS) then ({ code := 0 }, s)
    else ({ code := 0x0421 }, s)) s)

/-- PKE_VALIDATE (Table CIPH-6). -/
def execPkeValidate (master : Master) (cmd : Word) (_keyCheckFails : Bool) (s : State) : Out :=
  .next (pkeCommand master cmd (fun s =>
    ({ code := if ecOnCurve (s.operand pkeQX) (s.operand pkeQY) then 0 else 0x0420 }, s)) s)

/-- PKE_OP_DONE (R428): outputs, the ephemeral key, an import, the code and the event. -/
def execPkeOpDone (s : State) : Out :=
  match s.pke.op with
  | none => .next s
  | some o =>
    let s := { s with pke := { s.pke with op := none } }
    let s := s.forEach o.writes (fun w s => s.setBytes w.1 w.2)
    let s := match o.eph with
      | some (some d) => { s with pke := { s.pke with eph := some d } }.flag Fld.PKE_STAT_EPHVALID
      | some none => ephDrop s
      | none => s
    let r : Nat × State := match o.imp with
      | some (n, attr, m) => if s.keySt n = 0 then (o.code, makeSlot n attr m s) else (0x050B, s)
      | none => (o.code, s)
    .next (((r.2.put Fld.PKE_STAT_CODE r.1).unflag Fld.PKE_STAT_BUSY).fire EV.PKE_DONE)

/-! ### SHA-256 -/

/-- May a master use the SHA-256 unit? Free of the claim, except while an ECDSA operation or the patch loader holds PKE. -/
def shaAllowed (s : State) (m : Master) : Bool :=
  !s.has Fld.PKE_CLAIM_LOADER && (!s.has Fld.PKE_STAT_BUSY || pkeOwns s m)

/-- A command to the hash unit: refused where its master may not use it (R427, R430). -/
def shaCommand (m : Master) (f : State → State) (s : State) : State :=
  if !s.issues m then s else if shaAllowed s m then f s else pkeRefuse s

/-- SHA_INIT (R430). -/
def execShaInit (master : Master) (s : State) : Out :=
  .next (shaCommand master (fun s => { s with pke := { s.pke with sha := some [] } }) s)

/-- SHA_DATA (R430): four octets, most significant first. -/
def execShaData (master : Master) (value : Word) (s : State) : Out :=
  .next (shaCommand master (fun s => match s.pke.sha with
    | some m => { s with pke := { s.pke with sha := some (m ++ bytesBE 4 value.toNat) } }
    | none => s) s)

/-- SHA_FINAL (R430): `valid` octets of the last word count, 0 means 4. -/
def execShaFinal (master : Master) (valid : Fin 4) (s : State) : Out :=
  .next (shaCommand master (fun s => match s.pke.sha with
    | some m =>
      let cut := if valid.val = 0 then 0 else 4 - valid.val
      { s with pke := { s.pke with sha := none, digest := some (sha256 (m.take (m.length - cut))) } }
    | none => s) s)

/-- SHA_DONE (R430). -/
def execShaDone (s : State) : Out :=
  match s.pke.digest with
  | none => .next s
  | some d =>
    let s := { s with pke := { s.pke with digest := none } }
    .next ((s.forEach (chunks 4 d).zipIdx (fun x s => s.wr (Reg.PKE_DIGEST x.2) (BitVec.ofNat 32 (natOfBE x.1)))).fire
      EV.PKE_SHADONE)

end Sys2Proof.Machine
end

