-- ==== Sys2Proof/Machine/SaltCheck.lean ====
section
/-!
DEFINITION. The checks of the saltern loader and of the patch loader over an image in flash (R36 to R66, R71, R72).
-/

namespace Sys2Proof.Machine

/-! ### The pointer row (R554) -/

/-- The units of the pointer row up to the first blank one. -/
def pointerUnits (s : State) : List (List Byte) :=
  ((List.range 512).map (fun k => s.bytes (0x0FF02000 + 16 * k) 16)).takeWhile (fun u => !unitBlank u)

/-- The pointer row in force. -/
structure Pointers where
  valid : Bool := false
  active : Nat := 0
  salta : Nat := 0xFFFFFFFF
  saltb : Nat := 0xFFFFFFFF
  fwfloor : Nat := 0
  saltfloor : Nat := 0
  deriving DecidableEq, Repr

/-- Take one unit of the row into account. -/
def pointerTake (p : Pointers) (u : List Byte) : Pointers :=
  if !crcUnitOk u then p
  else if eb u 0 = 0x50 then { p with valid := true, active := eb u 1 % 2, salta := ew u 4, saltb := ew u 8 }
  else if eb u 0 = 0xF1 ∧ p.fwfloor ≤ ew u 4 ∧ p.saltfloor ≤ ew u 8 then { p with fwfloor := ew u 4, saltfloor := ew u 8 }
  else p

def State.pointers (s : State) : Pointers := (pointerUnits s).foldl pointerTake {}

/-! ### Images -/

/-- A record as it stands in an image: type, version, flags, reserved octet, BODYLEN, COUNT, body. -/
structure RawRecord where
  type : Nat
  rver : Nat
  flags : Nat
  rsvd : Nat
  bodylen : Nat
  count : Nat
  body : List Byte
  octets : List Byte
  deriving DecidableEq, Repr

/-- The records that follow one another in l; none where they do not fill it exactly (R43). -/
def rawRecords : Nat → List Byte → Option (List RawRecord)
  | _, [] => some []
  | 0, _ => none
  | n + 1, l =>
    let len := eh l 4
    if l.length < 8 + len then none
    else (rawRecords n (l.drop (8 + len))).map (fun t =>
      { type := eb l 0, rver := eb l 1, flags := eb l 2, rsvd := eb l 3, bodylen := len, count := eh l 6,
        body := (l.drop 8).take len, octets := l.take (8 + len) } :: t)

/-- The records between offset 0x20 and the CRC word of an image. -/
def imageRecords (img : List Byte) : Option (List RawRecord) :=
  rawRecords img.length ((img.take (img.length - 68)).drop 0x20)

/-- Do the n octets from a on lie outside block b? -/
def outsideBlock (a n b : Nat) : Bool := blockAddr b + 0x2000 ≤ a || a + n ≤ blockAddr b

/-- Can the octets from a on be read: no uncorrectable unit, no block whose erase did not finish, none whose erase runs or
is suspended (R510)? -/
def flashReadable (s : State) (a n : Nat) : Bool :=
  s.domOn 7 && s.flash.bad.all (fun u => u + 16 ≤ a || a + n ≤ u) && s.flash.torn.all (outsideBlock a n)
  && s.flash.banks.all (fun b => match b.erase with | some e => outsideBlock a n e.block | none => true)

/-- The saltern key, X then Y; none where none is written (R42). -/
def saltKey (s : State) : Option (Nat × Nat) :=
  let k := s.bytes 0x0FF00100 64
  if unitBlank k then none else some (natOfBE (k.take 32), natOfBE (k.drop 32))

/-- An ECDSA signature r, s over the SHA-256 digest of a message, with a key (R41). -/
def signedBy (key : Option (Nat × Nat)) (m sig : List Byte) : Bool :=
  match key with
  | some (x, y) => ecdsaVerify x y (natOfBE (sha256 m)) (natOfBE (sig.take 32)) (natOfBE (sig.drop 32))
  | none => false

/-! ### Fields of the record types -/

/-- A reserved run of octets. -/
def zeros (l : List Byte) : Bool := l.all (fun b => b == 0#8)

def sluiceEntryOk (e : List Byte) : Bool :=
  let f := eb e 1
  f < 32 && (f / 4 % 4 == 0 || testBit' f 1) && eb e 2 ≤ 64 && eb e 3 == 0
  && (List.range 8).all (fun k => let p := eh e (4 + 2 * k); p == 0xFFFF || producerIssued p)

def taskEntryOk (e : List Byte) : Bool := taskIssued (eh e 0) && eb e 3 ≤ 1

/-- FUNC codes with their pads (R573, R620, Table PER-2). -/
def padFuncOk (pad f : Nat) : Bool :=
  pad < 60 && (f == 0 || (f == 1 && 8 ≤ pad && pad ≤ 15) || f == 2 || f == 3 || (4 ≤ f && f ≤ 7 && pad + 4 == f)
    || (f == 8 && pad == 4) || (f == 9 && pad == 5) || (0x10 ≤ f && f < 0x1C) || (0x20 ≤ f && f < 0x2C)
    || (0x30 ≤ f && f ≤ 0x32) || (0x38 ≤ f && f ≤ 0x3C) || (0x40 ≤ f && f ≤ 0x43))

def pinEntryOk (e : List Byte) : Bool := padFuncOk (eb e 0) (eb e 1) && eb e 2 < 32 && eb e 3 == 0

def groupMask (e : List Byte) : Nat := ew e 0 / 2 ^ 16 % 2 ^ 13

def groupEntryOk (e : List Byte) : Bool := ew e 0 / 2 ^ 3 % 2 ^ 13 == 0 && ew e 0 < 2 ^ 29

/-- R50 over the entries of the record. -/
def groupsOk (es : List (List Byte)) : Bool :=
  let m := es.map groupMask
  (es.map (fun e => eb e 0 % 8)).Nodup
  && m.all (fun x => x % 4 == 0 && 2 ≤ popCount 13 x && (!testBit' x 11 || x &&& 0x100C == 0))
  && (List.range 13).all (fun k => (m.filter (fun x => testBit' x k)).length ≤ 1)

def laneEntryOk (e : List Byte) : Bool :=
  eb e 0 ≤ 1 && eb e 1 == 0 && eb e 3 == 0 && eb e 5 == 0 && eb e 6 != 0 && eb e 7 == 0

/-- R52. -/
def lanesOk (es : List (List Byte)) : Bool :=
  let e := fun l => (es.find? (fun e => eb e 0 == l)).getD []
  let covers := fun l => eb (e (1 - l)) 2 % 128 &&& eb (e l) 4 == eb (e (1 - l)) 2 % 128
  covers 0 && covers 1 && testBit' (eb (e 0) 2) 7 == testBit' (eb (e 1) 2) 7

/-- R72, R74: does the record give a retired lane roles? -/
def lanesRetiredRoles (s : State) (es : List (List Byte)) : Bool :=
  es.any (fun e => s.retired (eb e 0) && eb e 2 != 0)

/-- A native channel that is issued for a mode (R210), or taken from the context. -/
def templateChanOk (mode chan : Nat) : Bool := chan == 0xFF || panChanIssued mode chan

/-- KSPEC of the LE kinds (R359, R369, Table PHONE-2). -/
def kspecOk (e : List Byte) : Bool :=
  let b := fun i => eb e i
  match b 0 % 16 with
  | 5 =>
    let ty := b 16 % 8
    let most := if ty < 3 then 31 else 1650
    ty ≤ 5 && b 16 < 64 && b 17 % 8 != 0 && !testBit' (b 17) 3 && eh e 20 ≤ most && eh e 22 ≤ most && eh e 24 < 512
    && (b 26 < 64 || b 26 == 0xFF) && b 27 == 0 && 300 ≤ eh e 28 && eh e 28 ≤ 10000 && (b 30 ≤ 36 || b 30 == 0xFF) && b 31 == 0
  | 6 => b 16 % 4 != 3 && b 16 < 8 && zeros ((e.drop 17).take 3) && 11520 ≤ ew e 20 && zeros (e.drop 24)
  | 7 =>
    b 16 < 8 && b 17 % 8 != 0 && b 17 < 8 && zeros ((e.drop 18).take 2) && eh e 24 < 512 && (b 26 < 64 || b 26 == 0xFF)
    && zeros (e.drop 27)
  | _ =>
    (b 16 / 2 % 4 == 1 || b 16 / 2 % 4 == 2) && b 16 / 8 % 4 != 0 && 2 ≤ b 17 && b 17 ≤ 160
    && 3 ≤ b 18 % 16 && b 18 % 16 ≤ 7 && 3 ≤ b 18 / 16 && b 18 / 16 ≤ 7
    && 5 ≤ b 19 % 16 && b 19 % 16 ≤ 9 && b 19 / 16 ≤ 2 && zeros (e.drop 23)

/-- An activity template (R319, R359). -/
def templateOk (e : List Byte) : Bool :=
  let kind := eb e 0 % 16
  let mode := eb e 0 / 16 % 8
  let pans := eb e 6 / 16
  kind ≤ 8 && eb e 1 < 8 && eb e 3 ≤ 15 && eb e 7 == 0
  && (if kind ≤ 4 then
        mode ≤ 1 && templateChanOk mode (eb e 4) && (if kind = 2 then 1 ≤ pans && pans ≤ 8 else pans == 0)
        && (kind == 2 || kind == 4 || ew e 8 == 0) && 512 ≤ ew e 12 && zeros (e.drop 16)
      else
        2 ≤ mode && mode ≤ 5 && (kind != 8 || mode == 2) && (mode != 3 || kind == 6) && templateChanOk mode (eb e 4) && pans == 1
        && zeros ((e.drop 8).take 8) && kspecOk e)

def runEntryOk (e : List Byte) : Bool :=
  eh e 0 ≤ 511 && 1 ≤ eh e 2 && eb e 4 ≤ 3 && eb e 5 ≤ eb e 6 && eb e 7 == 0

/-- R54: no run reaches past 512, and no two overlap. -/
def runsOk (es : List (List Byte)) : Bool :=
  es.all (fun e => eh e 0 + eh e 2 ≤ 512)
  && es.Pairwise (fun a b => eh a 0 + eh a 2 ≤ eh b 0 ∨ eh b 0 + eh b 2 ≤ eh a 0)

def policyEntryOk (e : List Byte) : Bool := eb e 2 < 16 && eb e 4 < 32 && eb e 5 ≤ 1

def presetEntryOk (e : List Byte) : Bool := eb e 0 ≤ 31 && eb e 2 ≤ 2 && eb e 3 == 0 && 1 ≤ ew e 4

def ringEntryOk (e : List Byte) : Bool :=
  eb e 0 ≤ 2 && (eb e 1 ≤ 7 || eb e 1 == 0xFF) && 1 ≤ eb e 2 && eb e 2 ≤ 8 && eb e 3 == 0 && eb e 22 ≤ 16 && eb e 23 == 0

/-- R61: does a tightening entry loosen the record's sub-band entry? -/
def loosens (band e : List Byte) : Bool :=
  (eb e 1 != 0x7F && decide (toS 8 (eb band 8) < toS 8 (eb e 1))) || (eh e 2 != 0xFFFF && decide (ew band 4 < 10 * eh e 2))
  || (eb e 4 != 0x7F && decide (toS 8 (eb band 9) < toS 8 (eb e 4))) || (eb e 5 != 0xFF && decide (eb e 5 < eb band 10))
  || (eh e 6 != 0xFFFF && decide (eh band 12 < eh e 6))

/-- RF_REF (R59 to R61), against the record in the information area. The binding (0x082F) is tested before SUBBAND (0x082A):
the manual gives no order inside a record, DESIGN CHOICE (notes/assumptions/21.md). -/
def rfRefCode (s : State) (es : List (List Byte)) : Nat :=
  let r := s.rfRecord
  let e0 := es.headD []
  let bands := chunks 16 ((r.drop 16).take 128)
  if !rfRecordValid r ∨ ew e0 0 ≠ ew r 144 ∨ ew e0 4 ≠ ew r 8 then 0x082F
  else if es.tail.any (fun e => eb r 6 ≤ eb e 0) then 0x082A
  else if es.tail.any (fun e => loosens (nth [] bands (eb e 0)) e) then 0x0830
  else 0

/-- Is every entry well formed, and does no key occur twice? -/
def entriesCode (es : List (List Byte)) (ok : List Byte → Bool) (key : List Byte → Nat) : Nat :=
  if !es.all ok then 0x082A else if !(es.map key).Nodup then 0x082C else 0

/-- Entries column of Table SALT-3. -/
def recLimits : Nat → Nat × Nat
  | 0x01 => (1, 256) | 0x02 => (1, 512) | 0x03 => (1, 64) | 0x04 => (1, 8) | 0x05 => (2, 2) | 0x06 => (1, 32)
  | 0x07 => (1, 16) | 0x08 => (1, 64) | 0x09 => (1, 32) | 0x0A => (1, 1) | _ => (1, 9)

def patchable (t : Nat) : Bool := t == 1 || t == 2 || t == 5 || t == 6 || t == 9 || t == 0x0B

/-- Fields and cross-checks of one record of a known type (R47 to R61, R72). -/
def recordCode (s : State) (patch : Bool) (r : RawRecord) : Nat :=
  let es := bodyEntries r.type r.body
  let or' := fun (c : Nat) (bad : Bool) (code : Nat) => if c ≠ 0 then c else if bad then code else 0
  match r.type with
  | 0x01 => entriesCode es sluiceEntryOk (fun e => eb e 0)
  | 0x02 => entriesCode es taskEntryOk (fun e => eh e 0)
  | 0x03 =>
    let f := (es.map (fun e => eb e 1)).filter (fun f => 1 < f)
    if !es.all pinEntryOk ∨ !f.Nodup then 0x082A else if !(es.map (fun e => eb e 0)).Nodup then 0x082C else 0
  | 0x04 => if !es.all groupEntryOk then 0x082A else if groupsOk es then 0 else 0x082D
  | 0x05 => or' (entriesCode es laneEntryOk (fun e => eb e 0)) (!lanesOk es || (patch && lanesRetiredRoles s es)) 0x0831
  | 0x06 => if es.all templateOk then 0 else 0x082A
  | 0x07 => if !es.all runEntryOk then 0x082A else if runsOk es then 0 else 0x082E
  | 0x08 => entriesCode es policyEntryOk (fun e => eh e 0)
  | 0x09 => entriesCode es presetEntryOk (fun e => eb e 0)
  | 0x0A => if es.all ringEntryOk then 0 else 0x082A
  | _ => rfRefCode s es

/-- One record in its turn (R44, R46, R71): framing, occurrence, fields; `seen` are the types before it. The test for a
non-patchable record (0x0832) stands between occurrence and fields: DESIGN CHOICE (notes/assumptions/21.md). -/
def recordStep (s : State) (patch : Bool) (seen : List Nat) (r : RawRecord) : Nat :=
  if recEntrySize r.type = 0 ∨ r.rver ≠ 1 then (if testBit' r.flags 0 then 0x0828 else 0)
  else if r.bodylen ≠ r.count * recEntrySize r.type then 0x0828
  else if seen.contains r.type then 0x0829
  else if patch ∧ !patchable r.type then 0x0832
  else if 2 ≤ r.flags ∨ r.rsvd ≠ 0 ∨ r.count < (recLimits r.type).1 ∨ (recLimits r.type).2 < r.count then 0x082A
  else recordCode s patch r

/-- Is a record of a type and version the loader knows? -/
def RawRecord.known (r : RawRecord) : Bool := recEntrySize r.type != 0 && r.rver == 1

/-- Every record in turn, up to the first failure; a required record that is missing shows when all have passed: DESIGN
CHOICE (notes/assumptions/21.md). -/
def recordsCode (s : State) (patch : Bool) : List Nat → List RawRecord → Nat
  | seen, [] => if !patch ∧ [0x05, 0x07, 0x0B].any (fun t => !seen.contains t) then 0x0829 else 0
  | seen, r :: rest =>
    let c := recordStep s patch seen r
    if c ≠ 0 then c else recordsCode s patch (if r.known then r.type :: seen else seen) rest

/-! ### Static loops (R62, R63) -/

/-- The committed FABRIC_SLUICE cells that differ from the default, as sluice, LOOP, producers. -/
def committedSluices (s : State) : List (Nat × Bool × List Nat) :=
  (List.range 256).map (fun n => (n, s.has (Fld.FABRIC_SLCFG_LOOP n),
    (List.range 4).flatMap (fun p => [s.get (Fld.FABRIC_SLPROD_PRODA n p), s.get (Fld.FABRIC_SLPROD_PRODB n p)])))

def entrySluice (e : List Byte) : Nat × Bool × List Nat :=
  (eb e 0, testBit' (eb e 1) 4, (List.range 8).map (fun k => eh e (4 + 2 * k)))

/-- Task inputs with their sluice, where bound. -/
def committedTasks (s : State) : List (Nat × Nat) :=
  ((List.range 480).filter (fun i => s.has (Fld.FABRIC_TKBIND_EN i))).map (fun i => (i, s.get (Fld.FABRIC_TKBIND_SLUICE i)))

def entryTask (e : List Byte) : Nat × Nat := (eh e 0, eb e 2)

/-- Take out, again and again, the nodes that no edge leads on from: what is left holds a cycle. -/
def peel (edges : List (Nat × Nat)) : Nat → List Nat → List Nat
  | 0, l => l
  | n + 1, l => peel edges n (l.filter (fun a => edges.any (fun e => e.1 == a && l.contains e.2)))

/-- Does the graph hold a cycle in which no sluice has LOOP = 1? -/
def loopUnmarked (sl : List (Nat × Bool × List Nat)) (tk : List (Nat × Nat)) : Bool :=
  let free := sl.filter (fun x => !x.2.1)
  let edges := tk.flatMap (fun t => (free.filter (fun x => (taskCauses t.1).any x.2.2.contains)).map (fun x => (t.2, x.1)))
  let nodes := free.map (fun x => x.1)
  !(peel edges nodes.length nodes).isEmpty

/-- The routes an image leads to, merged with the committed ones for a patch (R71). -/
def loopCode (s : State) (patch : Bool) (rs : List RawRecord) : Nat :=
  let body := fun t => (rs.find? (fun r => r.known && r.type == t)).map (fun r => bodyEntries t r.body)
  let sl := match body 0x01 with
    | some es => es.map entrySluice
    | none => if patch then committedSluices s else []
  let tk := match body 0x02 with
    | some es => (es.filter (fun e => testBit' (eb e 3) 0)).map entryTask
    | none => if patch then committedTasks s else []
  if loopUnmarked sl tk then 0x082B else 0

/-! ### R64 -/

/-- The header of an image: steps 1 to 4 of R64 with the framing up to the CRC word, or its octets. -/
def imageOpen (s : State) (a : Nat) : Nat × List Byte :=
  if a = 0xFFFFFFFF ∨ 0x400000 ≤ a then (0x0820, [])
  else
    let h := s.bytes a 32
    let len := ew h 8
    if ew h 0 ≠ 0x544C4153 then (0x0821, [])
    else if eh h 4 ≠ 1 then (0x0822, [])
    else if len % 4 ≠ 0 ∨ len < 0x68 ∨ 0x10000 < len ∨ ew h 0x14 + 64 ≠ len ∨ a % 4 ≠ 0 ∨ a / 0x200000 ≠ (a + len - 1) / 0x200000
    then (0x0823, [])
    else
      let img := s.bytes a len
      if (imageRecords img).isNone then (0x0823, []) else (0, img)

/-- Steps 5 and 6: the CRC word; the signature unless R42 applies. `unsigned`: R42 is what it is accepted under. -/
def imageTrust (s : State) (a : Nat) (img : List Byte) : Nat :=
  let sig := img.length - 64
  if !flashReadable s a img.length ∨ BitVec.ofNat 32 (ew img (sig - 4)) ≠ crc32 (img.take (sig - 4)) then 0x0824
  else if testBit' (eh img 6) 1 then (if s.get Fld.KEYSTORE_STAT_LC ≤ 1 ∧ (saltKey s).isNone then 0 else 0x0825)
  else if signedBy (saltKey s) (img.take sig) (img.drop sig) then 0 else 0x0825

/-- The header fields of step 9. -/
def imageHeaderCode (s : State) (patch : Bool) (img : List Byte) (n : Nat) : Nat :=
  let flags := eh img 6
  if eb img 0x13 = 0 ∨ 64 < eb img 0x13 ∨ eb img 0x13 ≠ n then 0x0828
  else if 4 ≤ flags ∨ ew img 0x1C ≠ 0 then 0x082A
  else if patch then
    (if !testBit' flags 0 then 0x082A else if ew img 0x18 ≠ s.get Fld.SYSCFG_SALTCRC_CRC then 0x082F else 0)
  else if testBit' flags 0 ∨ ew img 0x18 ≠ 0 then 0x082A else 0

/-- Steps 7 to 10. -/
def imageFields (s : State) (patch : Bool) (img : List Byte) : Nat :=
  let rs := (imageRecords img).getD []
  let floor := s.pointers.saltfloor
  if eh img 0x10 ≠ s.get Fld.SYSCFG_ID_PARTNO ∨ eb img 0x12 ≠ s.get Fld.SYSCFG_ID_MAJOR then 0x0826
  else if ew img 0x0C < floor ∨ (patch ∧ ew img 0x0C < s.get Fld.SYSCFG_SALTVER_VERSION) then 0x0827
  else
    let c := imageHeaderCode s patch img rs.length
    if c ≠ 0 then c
    else
      let c := recordsCode s patch [] rs
      if c ≠ 0 then c else loopCode s patch rs

/-- The whole of R64, with R71 for a patch: the code, and the image. -/
def imageCheck (s : State) (patch : Bool) (a : Nat) : Nat × List Byte :=
  let o := imageOpen s a
  if o.1 ≠ 0 then o
  else
    let c := imageTrust s a o.2
    (if c ≠ 0 then c else imageFields s patch o.2, o.2)

/-- The records an accepted image commits, by rising type. -/
def imageCommits (a : Nat) (img : List Byte) : List CfgRecord :=
  let rs := ((imageRecords img).getD []).filter RawRecord.known
  (List.range 12).flatMap (fun t =>
    (rs.filter (fun r => r.type == t)).map (fun r => { type := t, body := r.body, source := some a, crc := crc32 r.octets }))

end Sys2Proof.Machine
end

