-- ==== Sys2Proof/Machine/Salt.lean ====
section
/-!
DEFINITION. Committing the configuration cells (R67, R69, R73 to R75), run-time patches (R70 to R77), the continuous check
(R78 to R80).
-/

namespace Sys2Proof.Machine

/-! ### Cells -/

/-- The FABRIC_SLUICE cells of one entry (Table SALT-4): GOVRATE 0 stands for 8. -/
def putSluiceCells (e : List Byte) (s : State) : State :=
  let n := eb e 0
  let rate := if eb e 2 = 0 then 8 else eb e 2
  let s := s.wr (Reg.FABRIC_SLCFG n) (BitVec.ofNat 32 (eb e 1 % 32 + 256 * rate))
  s.forEach (List.range 4) (fun p s => s.wr (Reg.FABRIC_SLPROD n p) (BitVec.ofNat 32 (ew e (4 + 4 * p))))

def putTaskCells (e : List Byte) (s : State) : State :=
  s.wr (Reg.FABRIC_TKBIND (eh e 0)) (BitVec.ofNat 32 (eb e 2 + 256 * (eb e 3 % 2)))

/-- The PIN_FUNC cells of one entry (R49), as GPIO_PADCFG shows them. -/
def putPinCells (e : List Byte) (s : State) : State :=
  let p := eb e 0
  (((s.put (Fld.GPIO_PADCFG_FUNC p) (eb e 1)).put (Fld.GPIO_PADCFG_PULL p) (eb e 2)).put (Fld.GPIO_PADCFG_DRIVE p)
    (eb e 2 / 4)).put (Fld.GPIO_PADCFG_WAKE p) (eb e 2 / 16)

/-- Is a an RWL cell of a record type? -/
def isCellOf (type a : Nat) : Bool :=
  match type with
  | 0x01 => decide (Reg.FABRIC_SLCFG 0 ≤ a ∧ a < Reg.FABRIC_SLCFG 256)
            || decide (Reg.FABRIC_SLPROD 0 0 ≤ a ∧ a < Reg.FABRIC_SLPROD 256 0)
  | 0x02 => decide (Reg.FABRIC_TKBIND 0 ≤ a ∧ a < Reg.FABRIC_TKBIND 480)
  | 0x03 => decide (Reg.GPIO_PADCFG 0 ≤ a ∧ a < Reg.GPIO_PADCFG 64)
  | _ => false

/-- Is a an RWL cell (R68)? -/
def isRwlCell (a : Nat) : Bool := isCellOf 1 a || isCellOf 2 a || isCellOf 3 a

/-- The cell words of a committed record: the RWL registers of the three types that show as such, else its body. -/
def cellWords (s : State) (type : Nat) (body : List Byte) : List Word :=
  match type with
  | 0x01 => (List.range 256).flatMap (fun n => s.rd (Reg.FABRIC_SLCFG n) :: (List.range 4).map (fun p => s.rd (Reg.FABRIC_SLPROD n p)))
  | 0x02 => (List.range 480).map (fun i => s.rd (Reg.FABRIC_TKBIND i))
  | 0x03 => (List.range 64).map (fun p => s.rd (Reg.GPIO_PADCFG p))
  | _ => (chunks 4 body).map (fun w => BitVec.ofNat 32 (natOfLE w))

/-- Put a record among those that are kept, in the place of one of its type. -/
def recordInsert (r : CfgRecord) : List CfgRecord → List CfgRecord
  | [] => [r]
  | x :: t => if r.type < x.type then r :: x :: t else if r.type = x.type then r :: t else x :: recordInsert r t

/-- Write a record's cells; it replaces the committed record of its type in full, and its check values are stored (R67,
R73). -/
def putRecord (r : CfgRecord) (s : State) : State :=
  let es := bodyEntries r.type r.body
  let s := s.resetRegs (isCellOf r.type)
  let s := match r.type with
    | 0x01 => s.forEach es putSluiceCells
    | 0x02 => s.forEach es putTaskCells
    | 0x03 => s.forEach es putPinCells
    | _ => s
  let r := { r with checks := Config.groupChecks r.type (cellWords s r.type r.body) }
  let kept := if r.type = 1 ∨ r.type = 2 ∨ r.type = 3 then { r with body := [] } else r
  { s with salt := { s.salt with records := recordInsert kept s.salt.records } }

/-- Disarm a gate. -/
def gateDisarm (n : Nat) (s : State) : State :=
  (((s.unflag (Fld.TIDE_GATE_CTL_EN n)).unflag (Fld.TIDE_GATE_CTL_ARMSYNC n)).setGateStepped n false).setGateLateNext n false

/-- A GATE_PRESET entry takes effect at the present tide time (R57, R75). The entry gives no WAKE and no STEPPOL; that they
become 0 with the rest of TIDE_GATE_CTL is a DESIGN CHOICE (notes/assumptions/24.md). -/
def presetArm (e : List Byte) (s : State) : State :=
  let n := eb e 0
  let s := gateDisarm n s
  let s := (s.wr (Reg.TIDE_GATE_CTL n) 0).put (Fld.TIDE_GATE_CTL_SLUICE n) (eb e 1)
  let s := s.put (Fld.TIDE_GATE_PER_PER n) (ew e 8)
  match eb e 2 with
  | 0 => s
  | 1 => (s.setGateT n (s.now + ew e 4)).flag (Fld.TIDE_GATE_CTL_EN n)
  | _ =>
    let s := ((s.setGateT n (ew e 4)).flag (Fld.TIDE_GATE_CTL_EN n)).flag (Fld.TIDE_GATE_CTL_ARMSYNC n)
    if s.stratum < 15 then gateArmOffset n s else s

/-- Gates at a commit of a GATE_PRESET record over the entries `old` (R75). -/
def presetsCommit (old : List (List Byte)) (s : State) : State :=
  let new := s.entries 0x09
  let gone := (old.map (fun e => eb e 0)).filter (fun n => !new.any (fun e => eb e 0 == n))
  (s.forEach gone gateDisarm).forEach new presetArm

/-- The order of R67. -/
def commitOrder : List Nat := [0x04, 0x03, 0x0B, 0x07, 0x08, 0x05, 0x0A, 0x06, 0x02, 0x01, 0x09]

/-- The groups under check, by committed record: record type and stored check value. -/
def checkGroups (s : State) : List (Nat × BitVec 16) := s.salt.records.flatMap (fun r => r.checks.map (fun c => (r.type, c)))

/-- The number of groups under check is set at each commit. -/
def groupsCount (s : State) : State := s.put Fld.SYSCFG_CFGCHK_GROUPS (checkGroups s).length

/-- What a base image leaves out takes its default (R45): RWL cells at reset, no gate armed. -/
def defaultCells (rs : List CfgRecord) (s : State) : State :=
  let s := { s.resetRegs isRwlCell with salt := { s.salt with records := [] } }
  if rs.any (fun r => r.type == 0x09) then s else s.forEach (List.range 32) gateDisarm

/-- All records become active together (R67, R73, R75). -/
def commitRecords (rs : List CfgRecord) (s : State) : State :=
  let old := s.entries 0x09
  let s := s.forEach commitOrder (fun t s => s.forEach (rs.filter (fun r => r.type == t)) putRecord)
  let s := if rs.any (fun r => r.type == 0x09) then presetsCommit old s else s
  refreshRing (refreshRoles (refreshLimits s))

/-- The commit of a base image from slot 0 or 1 (R67). -/
def baseCommit (slot a : Nat) (img : List Byte) (s : State) : State :=
  let s := (s.flag Fld.SYSCFG_SALTSTAT_COMMITTED).put Fld.SYSCFG_SALTSTAT_SOURCE (slot + 1)
  let s := (s.put Fld.SYSCFG_SALTSTAT_UNSIGNED (eh img 6 / 2)).put Fld.SYSCFG_SALTSTAT_PATCHES 0
  let s := s.put Fld.SYSCFG_SALTSTAT_LASTCODE 0
  let s := (s.put Fld.SYSCFG_SALTVER_VERSION (ew img 0x0C)).put Fld.SYSCFG_SALTCRC_CRC (ew img (img.length - 68))
  let rs := imageCommits a img
  groupsCount (commitRecords rs (defaultCells rs s))

/-- SALTCMT_COMMIT (R69): the write with its key and COMMIT = 1. -/
def execSaltcmtCommit (s : State) : Out :=
  if s.committed ∨ 1 < s.get Fld.KEYSTORE_STAT_LC then .next s
  else
    let own := fun (t : Nat) => ({ type := t, body := [], source := none, crc := crc32 [],
                                   checks := Config.groupChecks t (cellWords s t []) } : CfgRecord)
    let s := (s.flag Fld.SYSCFG_SALTSTAT_COMMITTED).put Fld.SYSCFG_SALTSTAT_SOURCE 0
    let s := { s with salt := { s.salt with records := [own 1, own 2, own 3] } }
    .next (refreshRing (groupsCount s))

/-! ### The continuous check -/

def State.patchActive (s : State) : Bool := s.has Fld.SYSCFG_PATCHSTAT_BUSY || s.has Fld.SYSCFG_PATCHSTAT_PENDING

/-- The first mismatch that waited is reloaded, where nothing holds it off (R80). -/
def reloadNext (s : State) : State :=
  match s.salt.reloadLater with
  | x :: t => if s.patchActive ∨ s.salt.reloading.isSome then s
    else { s with salt := { s.salt with reloading := some x, reloadLater := t } }
  | [] => s

/-- CFGCHK_PASS_START (R78). -/
def execCfgchkPassStart (s : State) : Out :=
  .next (if s.lfMode ∨ !s.committed ∨ checkGroups s = [] then s
    else { s with salt := { s.salt with passGroup := some 0 } })

/-- CFGCHK_GROUP_STEP (R78, R80): `recomputed` is the check value of the group as its cells now stand. `taken`: foreground
work takes the cells, and the step yields (R23). A type that no record supplied has no group (notes/assumptions/22.md). -/
def execCfgchkGroupStep (taken : Bool) (recomputed : BitVec 16) (s : State) : Out :=
  match s.salt.passGroup with
  | none => .next s
  | some g =>
    if s.lfMode then .next s
    else if taken then .next (yieldBackground 4 s)
    else
      let groups := checkGroups s
      let s := stepResumed 4 { s with salt := { s.salt with passGroup := if g + 1 < groups.length then some (g + 1) else none } }
      match groups[g]? with
      | some (t, c) =>
        if c = recomputed then .next s
        else .next (reloadNext { s with salt := { s.salt with reloadLater := s.salt.reloadLater ++ [(t, g)] } })
      | none => .next s

/-- A committed record read again from its reload source (R78): none where it cannot be read or its CRC-32 differs. The
source is the whole image, so all of it has to be readable and framed: DESIGN CHOICE (notes/assumptions/24.md). -/
def reloadRecord (s : State) (t : Nat) : Option CfgRecord :=
  match s.record t with
  | none => none
  | some r =>
    match r.source with
    | none => none
    | some a =>
      let len := min (s.num (a + 8) 4) 0x10000
      let raw := ((imageRecords (s.bytes a len)).getD []).find? (fun x => x.known && x.type == t)
      match raw with
      | some x => if flashReadable s a len ∧ crc32 x.octets = r.crc then some { r with body := x.body } else none
      | none => none

/-! ### Patches -/

/-- The patch loader starts (R70, R427): it takes PKE where PKE is free. -/
def patchBegin (mode : Nat) (s : State) : State :=
  let s := { s with salt := { s.salt with load := some ((s.rd Reg.SYSCFG_PATCHADDR).toNat / 4 * 4, mode) } }
  let s := (s.flag Fld.SYSCFG_PATCHSTAT_BUSY).flag Fld.SYSCFG_PATCHCTL_START
  if s.has Fld.PKE_CLAIM_CLAIM ∨ s.has Fld.PKE_STAT_BUSY ∨ s.pke.sha.isSome ∨ s.pke.digest.isSome then s
  else s.flag Fld.PKE_CLAIM_LOADER

/-- PATCH_START (R71, R76, R80): a write of PATCHCTL with START = 1 and this MODE. A refused START and a discard show in
RESULT only, not in SALTSTAT.LASTCODE: DESIGN CHOICE (notes/assumptions/24.md). -/
def execPatchStart (mode : Fin 4) (s : State) : Out :=
  let s := s.put Fld.SYSCFG_PATCHCTL_MODE mode.val
  if s.patchActive then
    let s := s.put Fld.SYSCFG_PATCHSTAT_RESULT 0x0835
    if mode = 2 ∧ s.has Fld.SYSCFG_PATCHSTAT_PENDING then
      let s := { s with salt := { s.salt with shadow := [] } }.unflag Fld.SYSCFG_PATCHSTAT_PENDING
      .next (reloadNext s)
    else .next s
  else if s.salt.reloading.isSome then
    .next ({ s with salt := { s.salt with startWaits := true } }.flag Fld.SYSCFG_PATCHCTL_START)
  else .next (patchBegin mode.val s)

/-- PKE is released by the loader: the operand RAM and the digest registers are cleared (R427). -/
def loaderRelease (s : State) : State :=
  if s.has Fld.PKE_CLAIM_LOADER then
    operandsClear ((s.unflag Fld.PKE_CLAIM_LOADER).resetRegs (fun a => decide (Reg.PKE_DIGEST 0 ≤ a ∧ a ≤ Reg.PKE_DIGEST 7)))
  else s

/-- Does the check of an image come to its signature (R427)? -/
def wantsPke (s : State) (a : Nat) : Bool :=
  let o := imageOpen s a
  let sig := o.2.length - 64
  o.1 == 0 && flashReadable s a o.2.length && BitVec.ofNat 32 (ew o.2 (sig - 4)) == crc32 (o.2.take (sig - 4))
  && !testBit' (eh o.2 6) 1

/-- The patch's records become active (R73, R75). -/
def patchCommit (rs : List CfgRecord) (s : State) : State :=
  (groupsCount (commitRecords rs { s with salt := { s.salt with shadow := [] } })).inc Fld.SYSCFG_SALTSTAT_PATCHES

/-- PATCH_LOAD_DONE (R71, R73): the checks end; while PKE is taken by others the check waits (R427). -/
def execPatchLoadDone (s : State) : Out :=
  match s.salt.load with
  | none => .next s
  | some (a, mode) =>
    let busy := s.has Fld.PKE_CLAIM_CLAIM || s.has Fld.PKE_STAT_BUSY || s.pke.sha.isSome || s.pke.digest.isSome
    if !s.has Fld.PKE_CLAIM_LOADER && busy && wantsPke s a then .next s
    else
      let r := imageCheck s true a
      let rs := imageCommits a r.2
      let s := loaderRelease { s with salt := { s.salt with load := none } }
      let s := ((s.unflag Fld.SYSCFG_PATCHSTAT_BUSY).unflag Fld.SYSCFG_PATCHCTL_START).put Fld.SYSCFG_PATCHSTAT_RESULT r.1
      let s := s.put Fld.SYSCFG_SALTSTAT_LASTCODE r.1
      let s := if r.1 ≠ 0 then s
        else if mode = 1 then { s with salt := { s.salt with shadow := rs } }.flag Fld.SYSCFG_PATCHSTAT_PENDING
        else patchCommit rs s
      .next (reloadNext (s.fire EV.SYSCFG_PATCHDONE))

/-- PATCH_DISCARD (R76): a write of PATCHCTL with MODE = 2. -/
def execPatchDiscard (s : State) : Out :=
  let s := s.put Fld.SYSCFG_PATCHCTL_MODE 2
  if !s.has Fld.SYSCFG_PATCHSTAT_PENDING then .next s
  else
    let s := { s with salt := { s.salt with shadow := [] } }.unflag Fld.SYSCFG_PATCHSTAT_PENDING
    .next (reloadNext (s.put Fld.SYSCFG_PATCHSTAT_RESULT 0x0835))

/-- PATCH_COMMIT_TASK (R73, R74). -/
def execPatchCommitTask (s : State) : Out :=
  let s := s.takeTask TK.SYSCFG_COMMIT
  if !s.has Fld.SYSCFG_PATCHSTAT_PENDING then .next s
  else
    let rs := s.salt.shadow
    let s := s.unflag Fld.SYSCFG_PATCHSTAT_PENDING
    if (rs.filter (fun r => r.type == 0x05)).any (fun r => lanesRetiredRoles s (bodyEntries 0x05 r.body)) then
      let s := { s with salt := { s.salt with shadow := [] } }.put Fld.SYSCFG_PATCHSTAT_RESULT 0x0831
      .next (reloadNext ((s.put Fld.SYSCFG_SALTSTAT_LASTCODE 0x0831).fire EV.SYSCFG_PATCHDONE))
    else .next (reloadNext (patchCommit rs s))

/-- CONFIG_RELOAD_DONE (R78 to R80): the record commits as by MODE 0, or the device asks for a system reset. -/
def execConfigReloadDone (s : State) : Out :=
  match s.salt.reloading with
  | none => .next s
  | some (t, g) =>
    let s := { s with salt := { s.salt with reloading := none } }
    match reloadRecord s t with
    | none => .next (resetRequest 2 7 s)
    | some r =>
      let s := ((commitRecords [r] s).inc Fld.SYSCFG_CFGERR_MISMATCHES).inc Fld.SYSCFG_CFGERR_RELOADS
      let s := ((s.put Fld.SYSCFG_CFGLAST_GROUP g).put Fld.SYSCFG_CFGLAST_TYPE t).fire EV.SYSCFG_CFGFIX
      if s.salt.startWaits then
        .next (patchBegin (s.get Fld.SYSCFG_PATCHCTL_MODE) { s with salt := { s.salt with startWaits := false } })
      else .next (reloadNext s)

end Sys2Proof.Machine
end

