-- ==== Sys2Proof/Machine/Domains.lean ====
section
/-!
DEFINITION. The conditions of the power domains (R522 to R526): what a domain loses when it goes Off, what happens when it
comes On, and the conditions that the power states give them (Table PWR-2).
-/

namespace Sys2Proof.Machine

/-! ### Switches -/

/-- Put the switches of the domains: those in `on` are On by themselves, those in `ret` in retention (PMU_DOMSTAT). -/
def domsPut (on ret : List Nat) (s : State) : State :=
  s.wr Reg.PMU_DOMSTAT (BitVec.ofNat 32 ((on.map (fun k => 2 ^ k)).sum + (ret.map (fun k => 2 ^ (16 + k))).sum))

/-- PMU_DOMSTAT as it reads. -/
def domStat (s : State) : Word :=
  BitVec.ofNat 32 ((((List.range 13).filter s.domOn).map (fun k => 2 ^ k)).sum
    + (((List.range 13).filter s.domRet).map (fun k => 2 ^ (16 + k))).sum)

/-- The mode of Dk in PMU_DOMCTL, for D4 to D10 (R526). -/
def domMode (s : State) (k : Nat) : Nat := s.get ⟨Reg.PMU_DOMCTL, 2 * k - 8, 2⟩

/-- D3 is On only while CPU1 runs split or the pair runs in lockstep (R526). -/
def d3On (s : State) : Bool := s.has Fld.SYSCFG_CPUSTAT_CPU1RUNNING || s.has Fld.SYSCFG_FOSTAT_LOCKSTEP

/-- The domains that are On by themselves in RUN and DOZE, and those in retention (R526). -/
def runDomains (s : State) : List Nat × List Nat :=
  ([0, 1, 2, 11, 12] ++ (if d3On s then [3] else []) ++ [4, 5, 6, 7, 8, 9, 10].filter (fun k => domMode s k == 0),
   [4, 5, 6].filter (fun k => domMode s k == 1))

/-- The switches of each power state (Table PWR-2); SRAM groups that hold nothing are not retained. -/
def stateDomains (st : PowerState) (s : State) : List Nat × List Nat :=
  let run := runDomains s
  let groups := [4, 5, 6].filter (fun k => s.domKept k && testBit' (s.get Fld.PMU_RETCFG_SRAMRET) (k - 4))
  match st with
  | .run => run
  | .doze => run
  | .nap =>
    (run.1.filter (fun k => k < 7 || k == 11 || k == 12 || (k == 7 && s.has Fld.PMU_RETCFG_NAPFLASH)) ++ [8, 9, 10], run.2)
  | .sleep => ([0, 1], (if s.has Fld.PMU_RETCFG_LINKRET then [11] else []) ++ groups)
  | .deep => ([0], [])
  | .off => ([0], [])

/-- The switches in a link excursion (R530): D8, D11 and the lanes in AUTO mode. -/
def excursionDomains (s : State) : List Nat × List Nat :=
  ([0, 1, 8, 11] ++ [9, 10].filter (fun k => domMode s k == 3), [4, 5, 6].filter s.domRet)

/-! ### What a domain loses -/

/-- FLASHC at a D7 power-up: only WPROT is kept (R520); the erase counts load (R512). -/
def flashcReset (s : State) : State :=
  let s := s.resetRegs (fun a => decide (0x40070000 ≤ a ∧ a < 0x40080000) && !(a == Reg.FLASHC_WPROT 0 || a == Reg.FLASHC_WPROT 1))
  let cut := s.flash.banks.filterMap (fun v => v.erase.map (fun e => e.block))
  { s with flash := { s.flash with banks := [{}, {}], torn := s.flash.torn ++ cut, warn := [] } }

/-- FLASHC loads its erase counts once D7 is On (R512). -/
def flashcLoading (s : State) : State := (s.put (Fld.FLASHC_STAT_STATE 0) 5).put (Fld.FLASHC_STAT_STATE 1) 5

/-- The slot store of loading tables and its views (R249). -/
def slotStoreClear (s : State) : State :=
  s.resetRegs (fun a => decide (Reg.MODEM_RXSLOT 0 ≤ a ∧ a < Reg.MODEM_RXCFG) || a == Reg.MODEM_SLOTSTAT)

/-- The job RAM of CIPHER and the operand RAM of PKE read 0. -/
def jobRamClear (s : State) : State := operandsClear (wipe 0x40054000 0x4000 s)

/-- CIPHER, PKE and TRNG at their reset: a key store command and its KEY-class service are kept where `keepKey` (R631). -/
def cipherReset (keepKey : Bool) (s : State) : State :=
  let s := s.resetRegs (fun a => decide (0x40050000 ≤ a ∧ a < 0x40060000))
  let s := jobRamClear s
  let cores := s.cipher.cores.map (fun c => if keepKey && c == some .key then c else none)
  { s with cipher := { cores := cores, keyWait := if keepKey then s.cipher.keyWait else 0 }, pke := {}, trng := {} }

/-- RING at its reset: the port seeks again once it is configured and enabled. -/
def ringReset (s : State) : State := { s.resetRegs (fun a => decide (0x40090000 ≤ a ∧ a < 0x400A0000)) with ring := {} }

/-- The key store at a D11 power-up without retention (R438, R455, R631): the running command is abandoned, slots 1 to 255
are FREE, slot 0 is loaded from BBRAM, a mask is drawn once the DRBG is ready. LC, GL and LOCKED stand. -/
def keyStoreReload (s : State) : State :=
  let lc := s.get Fld.KEYSTORE_STAT_LC
  let gl := s.get Fld.KEYSTORE_STAT_GL
  let locked := s.get Fld.KEYSTORE_STAT_LOCKED
  let s := s.resetRegs (fun a => decide (0x40060000 ≤ a ∧ a < 0x40070000))
  let s := ((s.put Fld.KEYSTORE_STAT_LC lc).put Fld.KEYSTORE_STAT_GL gl).put Fld.KEYSTORE_STAT_LOCKED locked
  let s := { s with keys := { lcUnits := s.keys.lcUnits, glUnits := s.keys.glUnits, passWaits := true } }
  loadRoot (s.put Fld.KEYSTORE_STAT_FREE 255)

/-- D11 loses its contents: LINK RAM, contexts, keys, queues, the ring port; with them the D8 retention cells (R249,
R438). -/
def linkDomainLost (s : State) : State :=
  let s := s.resetRegs (fun a => decide (0x40040000 ≤ a ∧ a < 0x40050000))
  let s := wipe 0x28000000 0x20000 { s.put Fld.SYSCFG_FOSTAT_CIPHRET 0 with link := {} }
  ringReset (keyStoreReload (cipherReset false (slotStoreClear s)))

/-- D12 loses its contents: SYSCFG, MEMCTL and the peripherals, but for what stands on the retention rail or in D1
(R68, R524, R572): the SALT registers and CFGCHK.GROUPS, the cells, the fabric's routing, RSTCAUSE. A patch load, a pending
patch, a check pass and a reload are lost with the loader's state. -/
def periphDomainLost (s : State) : State :=
  let groups := s.get Fld.SYSCFG_CFGCHK_GROUPS
  let lsmis := s.get Fld.SYSCFG_CPUSTAT_LSMIS
  let held := fun (a : Nat) => a == Reg.SYSCFG_SALTSTAT || a == Reg.SYSCFG_SALTVER || a == Reg.SYSCFG_SALTCRC
    || a == Reg.SYSCFG_RSTCAUSE || a == Reg.SYSCFG_CLKCFG || a == Reg.SYSCFG_FOSTAT || isRwlCell a
  let s := s.resetRegs (fun a => (decide (0x40000000 ≤ a ∧ a < 0x40010000) || decide (0x40080000 ≤ a ∧ a < 0x40090000)
    || decide (0x400A0000 ≤ a ∧ a < 0x40100000)) && !held a)
  let s := (s.put Fld.SYSCFG_CFGCHK_GROUPS groups).put Fld.SYSCFG_CPUSTAT_LSMIS lsmis
  let s := ((s.put Fld.SYSCFG_CLKCFG_PLLEN 0).put Fld.SYSCFG_CLKCFG_PLLLOCK 0).put Fld.SYSCFG_CLKCFG_BUSDIV 0
  let s := (s.put Fld.SYSCFG_CLKCFG_CPUDIV 0).put Fld.SYSCFG_FOSTAT_LOCKSTEP 0
  let s := wipe 0x400D8000 0x900 s
  { s with salt := { records := s.salt.records }, per := {}, yielded := [], sram := { s.sram with rake := none } }

/-- What Dk loses when it goes Off. D8, D9 and D10 keep their registers, DESIGN CHOICE (notes/assumptions/30.md): the spec
has only the gain and the AFC of a lane start afresh with its domain. -/
def domLost (k : Nat) (s : State) : State :=
  match k with
  | 7 => flashcReset s
  | 11 => linkDomainLost s
  | 12 => periphDomainLost s
  | _ => s

/-- Dk comes On; `kept`: from retention, or it was On. An SRAM group that comes from Off clears its valid bits (R479); the
replay eviction time of a new LINK RAM is the present (R304). -/
def domUp (k : Nat) (kept : Bool) (s : State) : State :=
  match k with
  | 4 => if kept then s else sramClear 0 s
  | 5 => if kept then s else sramClear 1 s
  | 6 => if kept then s else sramClear 2 s
  | 7 => if kept then s else flashcLoading s
  | 9 => laneDomainUp 0 s
  | 10 => laneDomainUp 1 s
  | 11 => refreshRing (if kept then s else setRpevict s.now s)
  | _ => s

/-- The domain of lane l leaves On: what it receives ends with 0x0154 (R254), what it transmits stops, and a lane in service is in
SLEEP (R153, R274). -/
def laneDomainDown (l : Nat) (s : State) : State :=
  if s.retired l then s
  else
    let s := laneLeaveRx l 0x0154 0 (if s.laneSt l = 4 then stepEndTx l 0 s else laneYield l s)
    let s := laneUnlock l (s.setLaneSt l 0)
    s.setLane l { s.lane l with goal := none, lbtWait := false, fullCal := false }

/-- What happens before Dk leaves On: merge buffers drain and a rake pass is abandoned (R483, R489), the bypass closes
(R378). -/
def domLeaves (k : Nat) (s : State) : State :=
  match k with
  | 4 => rakeAbandon 0 (mergeDrainAll 0 s)
  | 5 => rakeAbandon 1 (mergeDrainAll 1 s)
  | 6 => rakeAbandon 2 (mergeDrainAll 2 s)
  | 9 => laneDomainDown 0 s
  | 10 => laneDomainDown 1 s
  | 11 => (bypassClose 4 s).put Fld.RING_STAT_STATE 0
  | _ => s

/-- The domains below D12 that a change of switches concerns, the peripherals last. -/
def switched : List Nat := [4, 5, 6, 7, 8, 9, 10, 11, 12]

/-- Change the switches of the domains by f, with everything that follows from it. -/
def domShift (f : State → State) (s : State) : State :=
  let t := f s
  let s1 := s.forEach (switched.filter (fun k => s.domOn k && !t.domOn k)) domLeaves
  let s2 := s1.forEach (switched.filter (fun k => s.domKept k && !t.domKept k)) domLost
  (f s2).forEach (switched.filter (fun k => !s.domOn k && t.domOn k)) (fun k x => domUp k (s.domKept k) x)

/-! ### DOMCTL -/

/-- A mode that PMU_DOMCTL stores for a written code: D4 to D6, D7, D8 to D10. -/
def domCode (k v : Nat) : Nat :=
  if k < 7 then (if v = 3 then 0 else v) else if k = 7 then (if v = 2 then 2 else 0) else if v = 0 then 0 else 3

/-- DOMCTL_WRITE (R526): the modes act in RUN, DOZE and NAP; elsewhere they are stored, and act at the next wake. -/
def execDomctlWrite (value : Word) (s : State) : Out :=
  let modes := [4, 5, 6, 7, 8, 9, 10].map (fun k => domCode k (value.toNat / 2 ^ (2 * k - 8) % 4) * 2 ^ (2 * k - 8))
  let store := fun (s : State) => s.wr Reg.PMU_DOMCTL (BitVec.ofNat 32 modes.sum)
  if s.power.state = .run ∨ s.power.state = .doze ∨ s.power.state = .nap then
    .next (domShift (fun s =>
      let s := store s
      let d := stateDomains s.power.state s
      domsPut d.1 d.2 s) s)
  else .next (store s)

end Sys2Proof.Machine
end

