-- ==== Sys2Proof/Machine/Fabric.lean ====
section
/-!
DEFINITION. The event fabric: how an edge meets a sluice, the phases of a firing, the governor and quarantine, task
starts and drops (R126 to R147).
-/

namespace Sys2Proof.Machine

def State.sluice (s : State) (n : Nat) : Sluice := sparseGet (fun _ => {}) s.sluices n

def State.setSluice (n : Nat) (v : Sluice) (s : State) : State :=
  { s with sluices := sparseSet (fun _ => {}) n v s.sluices }

def State.quarantined (s : State) (n : Nat) : Bool := s.bit (Reg.FABRIC_QUAR (n / 32)) (n % 32)

/-- Keep FABRIC_BUSY and FABRIC_STAT.BUSYN in step with whether the sluice is in a firing or pending. -/
def setSluiceBusy (n : Nat) (b : Bool) (s : State) : State :=
  if s.bit (Reg.FABRIC_BUSY (n / 32)) (n % 32) == b then s
  else
    let c := s.get Fld.FABRIC_STAT_BUSYN
    (s.putBit (Reg.FABRIC_BUSY (n / 32)) (n % 32) b).put Fld.FABRIC_STAT_BUSYN (if b then c + 1 else c - 1)

/-- The task inputs bound to a sluice, by rising index: the enabled FABRIC_TKBIND cells that name it (R48). -/
def boundTasks (s : State) (n : Nat) : List Nat :=
  (s.regs.filter (fun e => Reg.FABRIC_TKBIND 0 ≤ e.1 && e.1 < Reg.FABRIC_TKBIND 480
      && e.2.toNat / 256 % 2 == 1 && e.2.toNat % 256 == n)).map (fun e => (e.1 - Reg.FABRIC_TKBIND 0) / 4)

/-- The sluices that list producer p in their PROD entries, by rising number (R127). -/
def routedSluices (s : State) (p : Nat) : List Nat :=
  ((s.regs.filter (fun e => Reg.FABRIC_SLPROD 0 0 ≤ e.1 && e.1 < Reg.FABRIC_SLPROD 256 0
      && (e.2.toNat % 65536 == p || e.2.toNat / 65536 == p))).map
        (fun e => (e.1 - Reg.FABRIC_SLPROD 0 0) / 16)).eraseDups

/-! ### The governor (R141 to R143) -/

/-- GOVRATE of a sluice. -/
def State.govRate (s : State) (n : Nat) : Nat := s.get (Fld.FABRIC_SLCFG_GOVRATE n)

/-- Would a firing at TIDE_NOW trip the governor (R141)? -/
def governorTrips (s : State) (n : Nat) : Bool :=
  let g := s.govRate n
  let h := (s.sluice n).hist
  if s.lfMode then 30 * g ≤ (h.filter (fun t => t == s.now)).length
  else g ≤ h.length && decide (s.now - h.getD (g - 1) 0 < 32)

/-- A firing trips the governor (R142): it is not passed, the sluice is quarantined, its pending state is cleared. -/
def governorTrip (n : Nat) (s : State) : State :=
  let v := s.sluice n
  let s := s.setSluice n { v with pending := false }
  let s := (s.putBit (Reg.FABRIC_QUAR (n / 32)) (n % 32) true).put Fld.FABRIC_STAT_QUARN (s.get Fld.FABRIC_STAT_QUARN + 1)
  let s := (s.inc Fld.FABRIC_GOVCNT_TRIPS).put Fld.FABRIC_GOVCNT_LASTSL n
  let s := if v.phase = .idle then setSluiceBusy n false s else s
  s.fire EV.FABRIC_QUAR

/-- Release one sluice from quarantine and clear its governor history (R143). -/
def governorRelease (n : Nat) (s : State) : State :=
  if s.quarantined n then
    let s := s.setSluice n { s.sluice n with hist := [] }
    (s.putBit (Reg.FABRIC_QUAR (n / 32)) (n % 32) false).put Fld.FABRIC_STAT_QUARN (s.get Fld.FABRIC_STAT_QUARN - 1)
  else s

/-! ### Firings -/

/-- A firing of an idle sluice begins, unless it trips the governor (R132, R141). -/
def startFiring (n : Nat) (s : State) : State :=
  if governorTrips s n then governorTrip n s
  else
    let v := s.sluice n
    let s := s.setSluice n
      { phase := .flight, consumers := boundTasks s n, pending := false,
        hist := (s.now :: v.hist).take (30 * s.govRate n) }
    setSluiceBusy n true (s.inc (Fld.FABRIC_SLCNT_FIRES n))

/-- The coincidence counter of task input i (R133). -/
def taskCoincidence (i : Nat) : Field := ⟨Reg.FABRIC_TK_COINC (i / 4), 8 * (i % 4), 8⟩

/-- One input edge of sluice n (R126, R132 to R134, R142). -/
def inputEdge (n : Nat) (s : State) : State :=
  let v := s.sluice n
  if s.quarantined n then s.inc (Fld.FABRIC_SLCNT_QDROP n)
  else match v.phase with
    | .idle => startFiring n s
    | .flight =>
      (s.inc (Fld.FABRIC_SLCNT_JOINED n)).forEach v.consumers (fun i s => s.inc (taskCoincidence i))
    | .refractory =>
      if v.pending then s.inc (Fld.FABRIC_SLCNT_MERGED n) else s.setSluice n { v with pending := true }

/-- An edge reaches its sluices. Before the commit no route is enabled (R67), and with D1 off no sluice fires (R146): the
edge is lost. -/
def edgeArrive (e : Edge) (s : State) : State :=
  if !s.committed || !s.domOn 1 then s
  else match e with
    | .producer p => s.forEach (routedSluices s p) inputEdge
    | .direct n => inputEdge n s

/-- A core enters wait-for-interrupt: software has taken its pending lines (the core's own part). -/
def coreWaits (x : Nat) (s : State) : State :=
  { s with cores := { s.cores with irq := setNth s.cores.irq x 0, waiting := setNth s.cores.waiting x true } }

/-- SLUICE_INPUT_EDGE (R132): the edge that a core's instruction delivers, or the oldest edge that has not been taken,
reaches its sluices. -/
def execSluiceInputEdge (core : Option CoreEvent) (s : State) : Out :=
  match core with
  | some (.sev x) => .next (if nth true s.cores.held x.val then s else edgeArrive (.producer (EV.CPU_SEV x.val)) s)
  | some (.wait x) =>
    .next (if nth true s.cores.held x.val then s else edgeArrive (.producer (EV.CPU_WAIT x.val)) (coreWaits x.val s))
  | none =>
    match s.edges with
    | [] => .next s
    | e :: rest => .next (edgeArrive e { s with edges := rest })

/-- The power domain of a task input (Table FAB-1, Table ARCH-1). -/
def taskDomain (s : State) (i : Nat) : Nat :=
  if i < 0x10 then 9 else if i < 0x20 then 10 else if i < 0x38 then 8
  else if i < 0x78 then 11 else if i < 0x7E then 7 else if i < 0x84 then 12 else if i < 0x8A then 11
  else if i < 0x8C then 1
  else if i < 0x90 then 2
  else if i < 0x94 then (if s.has Fld.SYSCFG_FOSTAT_LOCKSTEP then 2 else 3)
  else if i < 0x97 then 12 else if i < 0xA3 then 1 else 12

/-- Is the consumer of task input i still busy with an earlier task (R135)? What the task starts is in progress, whoever
started it: DEDUCED (notes/assumptions/81.md). The other tasks are restarting, never find their consumer busy, or act in
the cycle in which they start. -/
def taskBusy (s : State) (i : Nat) : Bool :=
  if i = TK.ADC_START then s.per.adcRunning
  else if i = TK.LANE 0 6 ∨ i = TK.LANE 1 6 then s.has (Fld.LANE_HSTAT_RUNNING (i / 0x10))
  else if i = TK.RING_SURVEY then s.ring.survey.isSome || s.ring.surveyWanted
  else if i = TK.CIPHER_SELFTEST then !s.cipher.tests.isEmpty
  else if i = TK.PMU_ENTER then s.has Fld.PMU_STAT_ENTERING
  else if i = TK.SPIM_START 0 ∨ i = TK.SPIM_START 1 then s.has (Fld.SPIM_STAT_BUSY (i - TK.SPIM_START 0))
  else if i = TK.I2C_START 0 ∨ i = TK.I2C_START 1 then s.has (Fld.I2C_STAT_BUSY (i - TK.I2C_START 0))
  else false

/-- Do tasks i and j of one cycle conflict, with j the winner (R137, R575: CLR wins among SET, CLR and TGL of a pad;
without CLR the lower index)? -/
def taskLosesTo (i j : Nat) : Bool :=
  0xA3 ≤ i && i < 0x163 && 0xA3 ≤ j && j < 0x163 && (i - 0xA3) / 3 == (j - 0xA3) / 3 && i != j
  && ((j - 0xA3) % 3 == 1 || (decide (j < i) && (i - 0xA3) % 3 != 1))

/-- A dropped task (R135, R136): its bit, FABRIC_LASTTK and EV_FABRIC_DROP. -/
def taskDrop (off : Bool) (i : Nat) (s : State) : State :=
  let s := if off then s.putBit (Reg.FABRIC_TK_OFF (i / 32)) (i % 32) true
           else s.putBit (Reg.FABRIC_TK_OVR (i / 32)) (i % 32) true
  ((s.put Fld.FABRIC_LASTTK_CAUSE (if off then 1 else 0)).put Fld.FABRIC_LASTTK_TASK i).fire EV.FABRIC_DROP

/-- The core that task input i interrupts, with the line: in lockstep CPU1's tasks reach the pair as CPU0's do. -/
def taskCore (s : State) (i : Nat) : Option (Nat × Nat) :=
  if 0x8C ≤ i ∧ i < 0x94 then some (if s.has Fld.SYSCFG_FOSTAT_LOCKSTEP then 0 else (i - 0x8C) / 4, i % 4) else none

/-- DOZE ends at an interrupt to a core (R533). -/
def dozeEnd (s : State) : State :=
  if s.power.state = .doze then
    ({ s with power := { s.power with state := .run } }.put Fld.PMU_REQ_STATE 0).put Fld.PMU_STAT_LAST 1
  else s

/-- A fabric interrupt line of core x becomes pending; a waiting core goes on. -/
def coreIrq (x k : Nat) (s : State) : State :=
  let s := dozeEnd s
  { s with cores := { s.cores with irq := setNth s.cores.irq x (setBitN (nth 0 s.cores.irq x) k),
                                   waiting := setNth s.cores.waiting x false } }

/-- Task i starts. Tasks of other firings that have not been acted on yet came in the same cycle
(notes/assumptions/77.md): those that lose to it are dropped (R137, R575). -/
def taskStart (i : Nat) (s : State) : State :=
  let losers := s.tasks.filter (fun j => taskLosesTo j i)
  let s := { s with tasks := s.tasks.filter (fun j => !taskLosesTo j i) ++ [i] }
  s.forEach losers (taskDrop false)

/-- A firing with these consumers reaches task input i. A core's interrupt lines take it at once; a core in reset counts
as off (R136). -/
def taskArrive (consumers : List Nat) (i : Nat) (s : State) : State :=
  if !s.domOn (taskDomain s i) then taskDrop true i s
  else if let some (x, k) := taskCore s i then
    if nth true s.cores.held x then taskDrop true i s else coreIrq x k s
  else if taskBusy s i || consumers.any (taskLosesTo i) || s.tasks.any (taskLosesTo i) then taskDrop false i s
  else taskStart i s

/-- The ring port takes a firing of a sluice whose ring sluices this device sends (R145, R394). -/
def ringCollect (n : Nat) (s : State) : State :=
  s.forEach (List.range 16) (fun k s =>
    if s.ringSend k && s.ringMap k == some n then
      if testBit' s.ring.evCollected k then s.inc Fld.RING_CNT_MERGED
      else { s with ring := { s.ring with evCollected := setBitN s.ring.evCollected k } }
    else s)

/-- FIRING_BOUNDARY (R129, R139, R145): the firing in flight reaches the consumer boundaries. While D1 is off a firing
stands still (R146, notes/assumptions/81.md). -/
def execFiringBoundary (sluice : Fin 256) (s : State) : Out :=
  let n := sluice.val
  let v := s.sluice n
  if !s.domOn 1 then .next s
  else match v.phase with
  | .flight =>
    let s := if s.has (Fld.FABRIC_SLCFG_WATCH n) then s.putBit (Reg.FABRIC_FLAG (n / 32)) (n % 32) true else s
    let s := ringCollect n s
    let s := s.forEach v.consumers (taskArrive v.consumers)
    if v.consumers = [] then .next (setSluiceBusy n false (s.setSluice n { s.sluice n with phase := .idle }))
    else .next (s.setSluice n { s.sluice n with phase := .refractory })
  | _ => .next s

/-- FIRING_END (R132, R134): the last acknowledgement arrives; a pending sluice fires once more. -/
def execFiringEnd (sluice : Fin 256) (s : State) : Out :=
  let n := sluice.val
  let v := s.sluice n
  if !s.domOn 1 then .next s
  else match v.phase with
  | .refractory =>
    let s := s.setSluice n { v with phase := .idle, consumers := [], pending := false }
    .next (if v.pending then startFiring n s else setSluiceBusy n false s)
  | _ => .next s

/-! ### Software and task access -/

/-- Software fires one sluice (R138). -/
def softwareFire (n : Nat) (s : State) : State :=
  if !s.has (Fld.FABRIC_SLCFG_SWFIRE n) then s.flag Fld.FABRIC_ERR_SWREJ
  else if s.quarantined n then (s.flag Fld.FABRIC_ERR_QFIRE).inc (Fld.FABRIC_SLCNT_QDROP n)
  else s.fireSluice n

/-- FABRIC_FIRE_WRITE (R138). -/
def execFabricFireWrite (m : Fin 8) (value : Word) (s : State) : Out :=
  .next (s.forEach (bitsOf 32 value.toNat) (fun k s => softwareFire (32 * m.val + k) s))

/-- FABRIC_QUAR_RELEASE (R143). -/
def execFabricQuarRelease (m : Fin 8) (value : Word) (s : State) : Out :=
  .next (s.forEach (bitsOf 32 value.toNat) (fun k s => governorRelease (32 * m.val + k) s))

/-- FABRIC_RELEASEALL (R143). -/
def execFabricReleaseall (s : State) : Out :=
  .next ((s.takeTask TK.FABRIC_RELEASEALL).forEach (List.range 256) governorRelease)

/-- The fabric interrupt to core x (R140): a set, enabled flag of a sluice whose IRQ names the core; in lockstep both
targets go to the pair. -/
def State.fabricIrq (s : State) (x : Nat) : Bool :=
  let lock := s.has Fld.SYSCFG_FOSTAT_LOCKSTEP
  (List.range 256).any (fun n =>
    s.bit (Reg.FABRIC_FLAG (n / 32)) (n % 32) && s.bit (Reg.FABRIC_IEN (n / 32)) (n % 32)
    && (let t := s.get (Fld.FABRIC_SLCFG_IRQ n)
        if lock then x == 0 && t != 0 else t / 2 ^ x % 2 == 1))

end Sys2Proof.Machine
end

