-- ==== Sys2Proof/Machine/Reset.lean ====
section
/-!
DEFINITION. Reset requests and watchdogs (R550, R551, R568, R569), the warm restart (R470, R471), system and full reset
(R549, Table BOOT-1).
-/

namespace Sys2Proof.Machine

/-! ### Requests (Table BOOT-2) -/

/-- RESETN_PIN (R550). -/
def execResetnPin (s : State) : Out := .next (resetRequest 2 2 s)

/-- DEBUG_RESET_REQUEST (R550): at GL0 and GL1. -/
def execDebugResetRequest (s : State) : Out :=
  .next (if s.get Fld.KEYSTORE_STAT_GL ≤ 1 then resetRequest 2 6 s else s)

/-- RSTREQ_WARM (R550). -/
def execRstreqWarm (s : State) : Out := .next (resetRequest 1 18 s)

/-- Note CLRFS for the next start (R561). -/
def clrfsNote (c : Bool) (s : State) : State := { s with boot := { s.boot with clrfs := s.boot.clrfs || c } }

/-- RSTREQ_SYSTEM (R550, R561). -/
def execRstreqSystem (clrfs : Bool) (s : State) : Out := .next (clrfsNote clrfs (resetRequest 2 4 s))

/-- RSTREQ_FULL (R550, R561). -/
def execRstreqFull (clrfs : Bool) (s : State) : Out := .next (clrfsNote clrfs (resetRequest 3 5 s))

/-- LOCKSTEP_MISMATCH (R470): the differing transfer is held, and the pair asks for a warm restart. -/
def execLockstepMismatch (s : State) : Out :=
  if !s.has Fld.SYSCFG_FOSTAT_LOCKSTEP ∨ testBit' s.boot.causes 17 then .next s
  else .next (lifeCode 0x0B10 0x0B (lifeCount 17 24 8 1 (resetRequest 1 17 s)))

/-! ### Watchdogs -/

/-- The core watchdog's count restarts (R568). -/
def cwdtRestart (s : State) : State := { s with boot := { s.boot with cwdtFrom := s.elapsed, cwdtRan := 0 } }

/-- CWDT_KICK (R568): the write of SYSCFG_CWDTKICK. -/
def execCwdtKick (value : Word) (s : State) : Out :=
  .next (if value.toNat % 2 ^ 16 = 0x4B1C then cwdtRestart s else s)

/-- Ticks that the core watchdog has counted since it was last restarted (R568). -/
def cwdtCount (s : State) : Nat :=
  s.boot.cwdtRan + (if s.power.state = .run ∨ s.power.state = .doze then s.elapsed - s.boot.cwdtFrom else 0)

/-- CWDT_EXPIRY (R568): the count has come to TIMEOUT milliseconds. -/
def execCwdtExpiry (s : State) : Out :=
  .next (if s.has Fld.SYSCFG_CWDTCFG_EN ∧ 32000 * s.get Fld.SYSCFG_CWDTCFG_TIMEOUT ≤ cwdtCount s then resetRequest 1 16 s else s)

/-- LWDT_KICK (R569): the write of LWDT_KICK. -/
def execLwdtKick (value : Word) (s : State) : Out :=
  .next (if value.toNat % 2 ^ 16 = 0xA11E ∧ s.has Fld.LWDT_CFG_EN then
    s.put Fld.LWDT_STAT_REMAIN (s.get Fld.LWDT_CFG_TIMEOUT) else s)

/-- LWDT_EXPIRY (R569): the count has come to TIMEOUT seconds. -/
def execLwdtExpiry (s : State) : Out :=
  if !s.has Fld.LWDT_CFG_EN ∨ s.get Fld.LWDT_STAT_REMAIN ≠ 0 then .next s
  else
    let s := resetRequest 2 3 (s.inc Fld.LWDT_STAT_EXPIRIES)
    .next (lifeCode 0x0811 0x0F (lifeCount 17 8 8 1 s))

/-! ### Holds (R516, R517, R551) -/

/-- Is a reset of a scope held off: a program unit runs; for system and full scope also an erase pulse, or steps 1 to 3 of
R462? -/
def resetHeld (scope : Nat) (s : State) : Bool :=
  [0, 1].any (fun b =>
    (s.bank b).unit.isSome || (2 ≤ scope && match (s.bank b).erase with
      | some e => e.susp.isNone
      | none => false))
  || (2 ≤ scope && s.keys.lcTo.isSome)

/-- Slots that expire at a reset (R439). -/
def keysExpire (s : State) : State := markDead ((List.range 256).filter (fun n => s.keySt n == 1 && s.has (keyExprst n))) s

/-- The ROM's first address. -/
def romEntry : Nat := 0x01000000

/-! ### The warm restart -/

/-- Release the semaphores held by either core (R491). -/
def semRelease (n : Nat) (s : State) : State :=
  let o := s.get (Fld.MEMCTL_SEM_OWNER n)
  if o = 0x0B ∨ o = 0x0C then (s.put (Fld.MEMCTL_SEM_OWNER n) 0).unflag (Fld.MEMCTL_SEM_TAKE n) else s

/-- PDATA words without word 3 are discarded (R517). -/
def pdataDiscard (b : Nat) (s : State) : State :=
  if (s.bank b).partialData then
    let s := s.resetRegs (fun a => decide (Reg.FLASHC_PDATA b 0 ≤ a ∧ a ≤ Reg.FLASHC_PDATA b 3) || a == Reg.FLASHC_ADDR b)
    (s.setBank b { s.bank b with partialData := false }).put (Fld.FLASHC_STAT_LASTCODE b) 0x060A
  else s

/-- The cores leave reset with empty caches (R467, R468, Table CPU-2): CPU0 at a start address; in lockstep CPU1 with it. The guard-level sequence holds
them (R464). -/
def coresStart (lock : Bool) (a : Nat) (s : State) : State :=
  let s := cachesClear { s with cores := { s.cores with held := [true, true], waiting := [false, false], irq := [0, 0] } }
  if s.keys.glErase then s
  else
    let s := coreStart 0 a s
    if lock then coreStart 1 a s else s

/-- Where the warm path leads (R563): the ENTRY of the firmware started; in the boot ROM and in dry-pan mode the ROM. -/
def warmEntry (s : State) : Nat := if s.boot.phase = .firmware then s.boot.entry else romEntry

/-- The effects of a warm restart (Table CPU-2, R416, R421, R426, R439, R517, R568). -/
def warmRestart (s : State) : State :=
  let causes := s.boot.causes
  let lock := s.has Fld.SYSCFG_CPUCTL_LSREQ
  let s := s.forEach [0, 1, 2] (fun g s => if s.domOn (4 + g) then mergeDrainAll g s else s)
  let s := (s.put Fld.SYSCFG_RSTCAUSE_WARM (causes / 2 ^ 16)).inc Fld.SYSCFG_FOSTAT_WARMRST
  let s := if testBit' causes 17 then s.inc Fld.SYSCFG_CPUSTAT_LSMIS else s
  let s := (s.unflag Fld.SYSCFG_CPUCTL_CPU1RUN).unflag Fld.SYSCFG_CPUSTAT_CPU1RUNNING
  let s := (s.put Fld.SYSCFG_FOSTAT_LOCKSTEP (boolBit lock)).putBit Reg.PMU_DOMSTAT 3 lock
  let s := s.forEach (List.range 32) semRelease
  let s := flushQueue 1 (flushQueue 0 (keySetsZero s))
  let mine := s.get Fld.PKE_CLAIM_OWNER = 0x0B ∨ s.get Fld.PKE_CLAIM_OWNER = 0x0C
  let s := if s.has Fld.PKE_CLAIM_CLAIM ∧ mine then pkeRelease s else s
  let s := lifeCount 16 0 16 1 (pdataDiscard 1 (pdataDiscard 0 (keysExpire s)))
  let s := { s with boot := { s.boot with scope := 0, causes := 0, cwdtFrom := s.elapsed, cwdtRan := 0 } }
  let s := s.wr (Reg.SYSCFG_BOOTREP 2) (s.rd Reg.SYSCFG_RSTCAUSE)
  coresStart lock (warmEntry s) s

/-- WARM_RESTART (R471, R517, R551): a pending restart of warm scope takes effect once nothing holds it. -/
def execWarmRestart (s : State) : Out :=
  .next (if s.boot.scope = 1 ∧ !resetHeld 1 s then warmRestart s else s)

/-! ### System and full reset -/

/-- Is the register at a kept through a system or full reset: D1, the key store, the calibration store (R189), RSTCAUSE, the
mirror of TLAUNCH in LINK RAM (notes/assumptions/78.md); at a system reset also what the commit stands in (R68)? -/
def keptReg (full : Bool) (a : Nat) : Bool :=
  0x50000000 ≤ a || (0x40060000 ≤ a && a < 0x40070000) || a == Reg.SYSCFG_RSTCAUSE
  || (Reg.LINK_TL_TIME 0 ≤ a && a < Reg.LINK_TL_TIME 64)
  || [0, 1].any (fun l => Reg.LANE_CALRES l 0 ≤ a && a < Reg.LANE_CALRES l 17)
  || (!full && (a == Reg.SYSCFG_SALTSTAT || a == Reg.SYSCFG_SALTVER || a == Reg.SYSCFG_SALTCRC || isRwlCell a))

/-- A firing in flight at the reset completes (R147): its flag and count are set afresh, its tasks into D1 start, every other
consumer is held in reset. -/
def firingComplete (n : Nat) (v : Sluice) (s : State) : State :=
  if v.phase = .flight then
    let s := if s.has (Fld.FABRIC_SLCFG_WATCH n) then s.putBit (Reg.FABRIC_FLAG (n / 32)) (n % 32) true else s
    (s.inc (Fld.FABRIC_SLCNT_FIRES n)).forEach v.consumers (fun i s =>
      if taskDomain s i = 1 then { s with tasks := s.tasks ++ [i] } else taskDrop true i s)
  else s

/-- The link controller at a reset: timeline entries disarmed; contexts, staged changes and LE work of contexts stay. -/
def linkReset (s : State) : State :=
  let s := s.forEach (List.range 64) (fun n s => setTlValid n false s)
  let s := wipe 0x28019000 0x4000 s
  { s with link := { staged := s.link.staged, le := s.link.le, ctxExh := s.link.ctxExh } }

/-- The radio in use at a reset: its air time counts (Table LIFE-1). -/
def airCount (l : Nat) (s : State) : State :=
  if s.laneSt l = 4 then lifeAir (2 * l + s.laneBand l) (s.elapsed - (s.lane l).txFrom) s
  else if s.laneSt l = 3 then lifeAir (4 + l) (s.elapsed - (s.lane l).rxFrom) s
  else s

/-- The domains and the crystal as a reset leaves them: RUN, with the crystal starting where only the LF crystal ran. -/
def powerReset (s : State) : State :=
  let lf := s.lfMode
  let s := (((s.unflag Fld.PMU_STAT_ENTERING).unflag Fld.PMU_STAT_EXC).put Fld.PMU_REQ_STATE 0)
  let s := { s with power := { xtalStarting := s.power.xtalStarting || lf } }
  let s := (s.unflag Fld.SYSCFG_CPUSTAT_CPU1RUNNING).unflag Fld.SYSCFG_FOSTAT_LOCKSTEP
  let s := domShift (fun s => domsPut (runDomains s).1 (runDomains s).2 s) s
  if lf then s.setClkSrc 0 else s

/-- What a lane keeps through a reset: all that belongs to its calibration store (R189, R195, R202). -/
def LaneState.kept (v : LaneState) : LaneState :=
  { calRetry := v.calRetry, calHeld := v.calHeld, calBad := v.calBad, calUsed := v.calUsed }

/-- The registers and the blocks' own state at a reset (Table BOOT-1). -/
def blocksReset (full : Bool) (s : State) : State :=
  let src := s.clkSrc
  let duties := (List.range 8).map s.duty
  let groups := s.get Fld.SYSCFG_CFGCHK_GROUPS
  let trim := s.get Fld.RF_CALSTAT_FTVALID
  let s := linkReset (s.forEach (List.range 8) bucketSettle)
  let s := flashcReset (cipherReset true s)
  let s := flashcLoading (s.resetRegs (fun a => !keptReg full a))
  let s := if full then { s with salt := {} }
           else { s with salt := { records := s.salt.records } }.put Fld.SYSCFG_CFGCHK_GROUPS groups
  let s := { s with latch := [] }
  let s := { s with lanes := s.lanes.map LaneState.kept, modem := {}, ring := {}, per := {}, yielded := [],
                    rf := { bands := s.rf.bands, buckets := s.rf.buckets, rcMeasures := s.rf.rcMeasures,
                            rcRunning := s.rf.rcRunning } }
  let s := { s with sram := { s.sram with rake := none } }.put Fld.RF_CALSTAT_FTVALID trim
  let s := s.forEach [0, 1, 2] (fun g s => if s.domOn (4 + g) then sramClear g s else s)
  let s := s.forEach duties.zipIdx (fun d s => s.put (Fld.RF_SBDUTY_DUTY d.2) d.1)
  refreshRing (refreshRoles (loadRfRecord (setRpevict s.now (s.setClkSrc src))))

/-- A reset of system or full scope (R549). `testen`: TESTEN is high when the reset ends, and the device stays in it (R622). -/
def deviceReset (full testen : Bool) (s : State) : State :=
  let causes := s.boot.causes
  let firings := s.sluices
  let s := airCount 1 (airCount 0 (bypassClose 2 (powerReset s)))
  let s := keysExpire { s with edges := [], tasks := s.tasks.filter (fun i => taskDomain s i == 1), sluices := [] }
  let s := blocksReset full s
  let s := { s with keys := { s.keys with passWaits := true, glErase := false } }.unflag Fld.KEYSTORE_STAT_LCBUSY
  let s := s.forEach firings (fun x s => firingComplete x.1 x.2 s)
  let s := ((s.unflag Fld.LWDT_CFG_EN).unflag Fld.LWDT_CFG_LOCK).put Fld.LWDT_STAT_REMAIN 0
  let s := s.wr Reg.SYSCFG_RSTCAUSE (BitVec.ofNat 32 causes)
  let s := lifeCount 16 16 16 1 (s.unflag Fld.LIFE_STAT_BUSY)
  let s := { s with boot := { phase := if testen then .held else .rom, wakeCode := s.boot.wakeCode, clrfs := s.boot.clrfs,
                              cwdtFrom := s.elapsed } }
  if testen then { s with cores := { held := [true, true] } }
  else coresStart false romEntry s

/-- SYSTEM_RESET (R549, R551). -/
def execSystemReset (testen : Bool) (s : State) : Out :=
  .next (if s.boot.scope = 2 ∧ !resetHeld 2 s then deviceReset false testen s else s)

/-- FULL_RESET (R549, R551). -/
def execFullReset (testen : Bool) (s : State) : Out :=
  .next (if s.boot.scope = 3 ∧ !resetHeld 3 s then deviceReset true testen s else s)

end Sys2Proof.Machine
end

