-- ==== Sys2Proof/Machine/Guard.lean ====
section
/-!
DEFINITION. Guard levels (R464): the requests, the erase-pending marker, the change from GL1 to GL0.
-/

namespace Sys2Proof.Machine

/-! ### The marker row -/

/-- Unit u of the marker row. -/
def markerUnit (u : Nat) : Nat := 0x0FF00C00 + 16 * u

/-- A SET (0xE7) or CLEAR (0x7E) unit. -/
def markerOctets (type : Byte) : List Byte := crcUnit (type :: List.replicate 11 0#8)

/-- The next blank pair of the marker row. -/
def markerPair (s : State) : Option Nat := (List.range 16).find? (fun i => unitBlank (s.bytes (markerUnit (2 * i)) 16))

/-- Is the marker present: is the last programmed unit of the row a SET unit whose CRC passes? -/
def markerPresent (s : State) : Bool :=
  match ((List.range 32).filter (fun u => !unitBlank (s.bytes (markerUnit u) 16))).getLast? with
  | some u => let o := s.bytes (markerUnit u) 16; eb o 0 == 0xE7 && crcUnitOk o
  | none => false

/-- Clear the marker: the CLEAR unit of the pair last set. -/
def markerClear (s : State) : State :=
  match ((List.range 16).filter (fun i => !unitBlank (s.bytes (markerUnit (2 * i)) 16))).getLast? with
  | some i => s.setBytes (markerUnit (2 * i + 1)) (markerOctets 0x7E#8)
  | none => s

/-! ### The sequence -/

/-- Steps 2 and 3: keys zeroed, cores held, SRAM cleared; the erase of step 4 runs. -/
def glZero (s : State) : State :=
  let s := allKeysZero s
  let s := { s with cores := { s.cores with held := [true, true], waiting := [false, false], irq := [0, 0] },
                    keys := { s.keys with glErase := true } }
  let s := s.flag Fld.KEYSTORE_STAT_LCBUSY
  s.forEach [0, 1, 2] (fun g s => if s.domOn (4 + g) then sramClear g s else s)

/-- Write a level in the guard-level row. -/
def glStore (level : Nat) (s : State) : State :=
  let s := infoUnit 0x0FF00A00 s.keys.glUnits s
  { s with keys := { s.keys with glUnits := s.keys.glUnits + 1 } }.put Fld.KEYSTORE_STAT_GL level

/-- GL_REQUEST (R464). -/
def execGlRequest (master : Master) (value : Word) (s : State) : Out :=
  let dest := value.toNat % 4
  let gl := s.get Fld.KEYSTORE_STAT_GL
  let software := master == .cpu0 || master == .cpu1
  let ok := (gl == 0 && dest == 1 && (software || master == .debug)) || (gl == 1 && dest == 2 && software)
    || (gl == 1 && dest == 0 && (software || master == .debug) && (markerPair s).isSome)
  if value.toNat / 2 ^ 16 ≠ 0x6A1D ∨ !s.issues master then .next s
  else if !ok ∨ s.has Fld.KEYSTORE_STAT_LCBUSY ∨ 32 ≤ s.keys.glUnits then .next (s.put Fld.KEYSTORE_RESULT_CODE 0x0510)
  else if dest ≠ 0 then .next (glStore dest s)
  else match markerPair s with
    | some i => .next (glZero (s.setBytes (markerUnit (2 * i)) (markerOctets 0xE7#8)))
    | none => .next s

/-- A block that the device erases by itself, counted and journalled (R464 step 4, R520, R558); how many pulses it took is
free. -/
def glEraseBlock (n : Nat) (s : State) : State :=
  let b := bankOf (blockAddr n)
  let s := eraseStart b n (eraseCount n s)
  let s := journalEnd b 0 n (1 + s.freeNat % 96) (blockErase n s)
  let v := s.bank b
  (bankSync b (s.setBank b { v with erase := none, headers := v.headers ++ [(n, s.get (Fld.FLASHC_ERASECNT_COUNT n))] })).freeNext

/-- GL0_ERASE_DONE (R464 steps 4 and 5, R520): blocks 0 to 511 are erased, GL0 written, the marker cleared, a full reset
raised. -/
def execGl0EraseDone (s : State) : Out :=
  if !s.keys.glErase ∨ [0, 1].any (fun b => (s.bank b).unit.isSome || (s.bank b).erase.isSome) then .next s
  else
    let s := s.forEach (List.range 512) glEraseBlock
    let s := markerClear (glStore 0 s)
    let s := { s with keys := { s.keys with glErase := false } }.unflag Fld.KEYSTORE_STAT_LCBUSY
    .next (resetRequest 3 12 s)

end Sys2Proof.Machine
end

