-- ==== Sys2Proof/Machine/Journal.lean ====
section
/-!
DEFINITION. The boot journal in block 514 (Table BOOT-6): its units, the failed-start counter (R558), the confirmation of a
start (R560).
-/

namespace Sys2Proof.Machine

/-- Unit u of the boot journal. -/
def bootUnitAddr (u : Nat) : Nat := 0x0FF04000 + 16 * u

/-- The journal's units up to the first blank one. -/
def bootUnits (s : State) : List (List Byte) :=
  ((List.range 512).map (fun u => s.bytes (bootUnitAddr u) 16)).takeWhile (fun u => !unitBlank u)

/-- TYPE of a unit whose CRC-32 passes, else 0. -/
def bootUnitType (u : List Byte) : Nat := if crcUnitOk u then eb u 0 else 0

/-- The FAIL units that count, newest first: those after the last GOOD or CLEAR unit. -/
def countedFails (us : List (List Byte)) : List (List Byte) :=
  (us.reverse.takeWhile (fun u => bootUnitType u != 0xC9 && bootUnitType u != 0x5E)).filter (fun u => bootUnitType u == 0x3F)

/-- The codes of the failed starts that count, newest first; FSCNT is how many they are. -/
def failCodes (s : State) : List Nat := (countedFails (bootUnits s)).map (fun u => eh u 2)

/-- A unit with its CRC-32. -/
def bootUnit (s : State) (type slot code version : Nat) : List Byte :=
  crcUnit ([BitVec.ofNat 8 type, BitVec.ofNat 8 slot] ++ bytesLE 2 code ++ bytesLE 4 version ++ bytesLE 4 s.stamp)

/-- Store units one after another from unit n on. -/
def bootStore (n : Nat) : List (List Byte) → State → State
  | [], s => s
  | u :: t, s => bootStore (n + 1) t (unitStore (bootUnitAddr n) u s)

/-- Append a unit; a full journal is erased first, and the FAIL units that count are written again. -/
def bootAppend (type slot code version : Nat) (s : State) : State :=
  let us := bootUnits s
  let u := bootUnit s type slot code version
  if us.length < 512 then bootStore us.length [u] s
  else bootStore 0 ((countedFails us).reverse ++ [u]) (glEraseBlock 514 s)

/-- A CLEAR unit: it concerns no firmware, so its VERSION is a free value. -/
def clearAppend (s : State) : State := bootAppend 0x5E 0xFF 0 s.freeNat s.freeNext

/-- The GOOD unit of the running slot, where it was asked for and nothing holds it off. -/
def goodAppend (s : State) : State :=
  if s.boot.goodWaits ∧ !s.flashHeld then
    (bootAppend 0xC9 s.boot.slot 0 s.boot.version { s with boot := { s.boot with goodWaits := false } }).flag Fld.SYSCFG_BOOTOK_OK
  else s

/-- BOOTOK_CONFIRM (R560): the write of SYSCFG_BOOTOK with its key; it acts once per start. -/
def execBootokConfirm (s : State) : Out :=
  .next (if s.boot.phase = .firmware ∧ !s.has Fld.SYSCFG_BOOTOK_OK then
    goodAppend { s with boot := { s.boot with goodWaits := true } } else s)

end Sys2Proof.Machine
end

