-- ==== Sys2Proof/Machine/Power.lean ====
section
/-!
DEFINITION. The PMU: state requests and entries (R532 to R537), wakes (R538 to R541), link excursions (R530, R531), D1
power-up (R90, R189, R350, R528, R599), the supply monitor, brown-out and VBAT (R542 to R546).
-/

namespace Sys2Proof.Machine

/-! ### Requests -/

/-- The encoding of a power state in PMU_REQ.STATE. -/
def stateCode : PowerState → Nat
  | .run => 0 | .doze => 1 | .nap => 2 | .sleep => 3 | .deep => 4 | .off => 5

/-- The power state that a code of PMU_REQ.STATE asks for. -/
def codeState : Nat → PowerState
  | 1 => .doze | 2 => .nap | 3 => .sleep | 4 => .deep | 5 => .off | _ => .run

/-- Does the PMU run an entry or a wake sequence (R532)? -/
def pmuBusy (s : State) : Bool := s.has Fld.PMU_STAT_ENTERING || s.power.wake.isSome

/-- PMU_STATE_REQUEST (R532, R533): a write of PMU_REQ. -/
def execPmuStateRequest (value : Word) (s : State) : Out :=
  let st := value.toNat % 8
  let key := value.toNat / 2 ^ 16
  if pmuBusy s then .next s
  else if 6 ≤ st ∨ (4 ≤ st ∧ key ≠ 0x0FF5) then
    let s := ((s.put Fld.PMU_LASTREF_CODE 0x0712).put Fld.PMU_LASTREF_ID 0x0F).put Fld.PMU_LASTREF_STATE st
    .next (s.put Fld.PMU_REQ_STATE 0)
  else .next (s.put Fld.PMU_REQ_STATE st)

/-- Has every running core entered wait-for-interrupt (R533)? -/
def coresWait (s : State) : Bool := [0, 1].all (fun x => nth true s.cores.held x || nth false s.cores.waiting x)

/-- Is an interrupt to a core pending, among those that the fabric raises? -/
def fabricPending (s : State) : Bool :=
  [0, 1].any (fun x => !nth true s.cores.held x && (nth 0 s.cores.irq x != 0 || s.fabricIrq x))

/-- Does D7 go Off in a state? -/
def d7Off (s : State) (st : PowerState) : Bool := s.domOn 7 && !(stateDomains st s).1.contains 7

/-- Does a bank hold FLASHC busy (R519)? -/
def bankBusy (v : FlashBank) : Bool :=
  v.unit.isSome || v.next.isSome || v.eraseWaits.isSome || v.erase.isSome || !v.headers.isEmpty

/-- Is any timeline entry armed? -/
def anyArmed (s : State) : Bool := s.get Fld.LINK_SCHSTAT_ARMED != 0

/-- The refusers of Table PWR-3 in table order, with whether each answers busy. `irq`: a core interrupt of a peripheral is
pending; `debugPower`: the debug session's power-up request; `periphBusy`: a UART receives or shifts, or HOSTP_CSN is low. -/
def refusers (s : State) (st : PowerState) (irq debugPower periphBusy : Bool) : List (Nat × Bool) :=
  let level := s.has Fld.WAKE_EN_IRQ && (irq || fabricPending s)
  let pins := s.rd (Reg.WAKE_PINPEND 0) != 0 || s.rd (Reg.WAKE_PINPEND 1) != 0
  let deep := st == .deep || st == .off
  let asleep := st == .sleep && (!s.has Fld.PMU_CFG_EXCEN || !s.has Fld.PMU_RETCFG_LINKRET)
  let keys := s.has Fld.KEYSTORE_RESULT_BUSY || s.keys.sweep.isSome || s.keys.lcTo.isSome || s.keys.glErase
  let leaves := st == .sleep || deep
  let clearing := st == .sleep && [0, 1, 2].any (fun g =>
    (stateDomains st s).2.contains (4 + g) && s.has (Fld.MEMCTL_GRPSTAT_CLEARING g))
  let per := periphBusy || s.per.uartTx.any (fun l => !l.isEmpty)
    || [0, 1].any (fun n => s.has (Fld.SPIM_STAT_BUSY n) || s.has (Fld.I2C_STAT_BUSY n))
    || s.per.adcRunning || decide (s.get Fld.CAN_STAT_STATE < 2)
  [(0x0F, level || pins), (0x0D, debugPower), (0x07, d7Off s st && s.flash.banks.any bankBusy),
   (0x04, !s.acts.isEmpty || (deep && anyArmed s && s.has Fld.LINK_SCHCFG_EN) || (asleep && anyArmed s)),
   (0x05, s.cipher.queues.any (fun q => q.job.isSome) || s.has Fld.PKE_CLAIM_CLAIM || s.has Fld.PKE_CLAIM_LOADER),
   (0x06, keys), (0x09, leaves && s.ringSt == 4), (0x08, clearing), (0x0E, per)]

/-- An entry is refused (R534). -/
def entryRefused (id : Nat) (st : PowerState) (s : State) : State :=
  let s := ((s.put Fld.PMU_LASTREF_CODE 0x0710).put Fld.PMU_LASTREF_ID id).put Fld.PMU_LASTREF_STATE (stateCode st)
  ((s.put Fld.PMU_REQ_STATE 0).inc Fld.PMU_REFCNT_REFUSALS).fire EV.PMU_REFUSED

/-- PMU_ENTRY_START (R533, R534): by TK_PMU_ENTER, or once every running core waits. DOZE begins at once; a pending interrupt
ends it. -/
def execPmuEntryStart (byTask : Bool) (irq : Bool) (debugPower : Bool) (periphBusy : Bool) (s : State) : Out :=
  let s := if byTask then s.takeTask TK.PMU_ENTER else s
  let st := codeState (s.get Fld.PMU_REQ_STATE)
  if st = .run ∨ s.power.state ≠ .run ∨ pmuBusy s ∨ (!byTask ∧ !coresWait s) then .next s
  else if st = .doze then
    let s := { s with power := { s.power with state := .doze } }
    .next (if irq || fabricPending s then dozeEnd s else s)
  else
    match (refusers s st irq debugPower periphBusy).find? (fun r => r.2) with
    | some r => .next (entryRefused r.1 st s)
    | none =>
      let s := s.forEach [0, 1, 2] (fun g s => if s.domOn (4 + g) then mergeDrainAll g s else s)
      .next ({ s with power := { s.power with entering := some st } }.flag Fld.PMU_STAT_ENTERING)

/-! ### Wake sequences (R538 to R541) -/

/-- The code of a wake source (Table PWR-5). -/
def wakeSourceCode : WakeSource → Nat
  | .irq => 0x01 | .task n => 0x10 + n.val | .pad p => 0x40 + p.val | .alarm => 0x20 | .tamper => 0x21

/-- LF cycles counted by D0 since the snapshot (R87, R90). -/
def lfSince (s : State) : Nat := s.backup.lfCount - s.snapshot.lfCount

/-- Is a source enabled to end a state (Table PWR-5)? The alarm ends DEEP once its LF cycles have passed. -/
def wakeEnds (s : State) (w : WakeSource) (st : PowerState) : Bool :=
  let light := st == .nap || st == .sleep
  match w with
  | .irq => light && s.has Fld.WAKE_EN_IRQ
  | .task n => light && testBit' (s.get Fld.WAKE_EN_TKWAKE) n.val
  | .pad p =>
    (s.has (Fld.GPIO_PADCFG_WAKE p.val) && (light || (st == .deep && p.val < 4)))
    || (st == .off && p.val == 0 && s.has Fld.WAKE_EN_OFFPIN0)
  | .alarm => s.power.state == .deep && s.rd Reg.WAKE_DEEPALM != 0 && decide ((s.rd Reg.WAKE_DEEPALM).toNat ≤ lfSince s)
  | .tamper => st == .deep && s.has Fld.WAKE_EN_TAMPWAKE

/-- The first step of the wake from a state: SLEEP, DEEP and OFF take all four; NAP only D7's regulator and logic; from an
excursion the oscillators already run. -/
def wakeFirst (s : State) (st : PowerState) : Nat :=
  if st = .nap then (if s.has Fld.PMU_RETCFG_NAPFLASH then 3 else 0) else if s.has Fld.PMU_STAT_EXC then 2 else 0

/-- A wake sequence begins. -/
def wakeBegin (code : Nat) (s : State) : State :=
  { s with power := { s.power with wakeAfter := none,
                                   wake := some { from_ := s.power.state, step := wakeFirst s s.power.state, source := code } } }

/-- A wake aborts the entry (R536): the device is in RUN again; an excursion that was ending wakes instead. -/
def entryAbort (code : Nat) (st : PowerState) (s : State) : State :=
  let s := { s with power := { s.power with entering := none } }.unflag Fld.PMU_STAT_ENTERING
  let s := ((s.put Fld.PMU_LASTABT_SOURCE code).put Fld.PMU_LASTABT_STATE (stateCode st)).put Fld.PMU_REQ_STATE 0
  let s := (s.inc Fld.PMU_REFCNT_ABORTS).fire EV.PMU_ABORTED
  if s.power.state = .run then s else wakeBegin code s

/-- A pad latches its wake while D1 is On (R538). -/
def padLatch (w : WakeSource) (s : State) : State :=
  match w with
  | .pad p =>
    if s.domOn 1 && s.has (Fld.GPIO_PADCFG_WAKE p.val) then s.putBit (Reg.WAKE_PINPEND (p.val / 32)) (p.val % 32) true else s
  | _ => s

/-- WAKE_EVENT (R536 to R538). `moment` tells where an entry in progress stands: 0 before isolation, 1 in the lost-pulse
window, 2 after it. -/
def execWakeEvent (source : WakeSource) (moment : Fin 3) (s : State) : Out :=
  let s := match source with
    | .task n => s.takeTask (TK.PMU_WAKE n.val)
    | _ => s
  let s := padLatch source s
  let code := wakeSourceCode source
  let pulse : Bool := match source with
    | .task _ => true
    | _ => false
  match s.power.entering with
  | some st =>
    if !wakeEnds s source st then .next s
    else if moment.val = 0 then .next (entryAbort code st s)
    else if moment.val == 1 && pulse then .next (s.inc Fld.PMU_CNT_LOSTWIN)
    else .next (if s.power.wakeAfter.isSome then s else { s with power := { s.power with wakeAfter := some code } })
  | none =>
    if s.power.wake.isSome ∨ s.power.state = .run then .next s
    else if s.power.state = .doze then .next (if source = .irq then dozeEnd s else s)
    else .next (if wakeEnds s source s.power.state then wakeBegin code s else s)

/-! ### The entry completes (R535) -/

/-- What D0 keeps of D1 at an orderly entry to DEEP or OFF: tide time, duty credits, lifetime counters (R90, R350, R593). -/
def snapshotTake (s : State) : State :=
  let s := s.forEach (List.range 8) bucketSettle
  { s with snapshot := { valid := true, now := s.now, rate := BitVec.ofNat 24 (s.get Fld.TIDE_RATE_RATE),
                         lfinc := BitVec.ofNat 32 (s.get Fld.TIDE_LFINC_INC), lfCount := s.backup.lfCount },
           kept := { credits := s.rf.buckets.map (fun b => b.credit),
                     life := (List.range 27).map (fun k => s.rd (Reg.LIFE_VAL (4 + k))) } }

/-- The retention rail goes: the commit and the cells are cleared (R68). -/
def railLost (s : State) : State :=
  let s := s.resetRegs (fun a => isRwlCell a || a == Reg.SYSCFG_SALTSTAT || a == Reg.SYSCFG_SALTVER || a == Reg.SYSCFG_SALTCRC
    || a == Reg.SYSCFG_CFGCHK)
  { s with salt := {} }

/-- The device rests in a state (Table PWR-4); the core watchdog pauses there (R568). -/
def stateRest (st : PowerState) (s : State) : State :=
  let s := if s.power.state = .run then { s with boot := { s.boot with cwdtRan := cwdtCount s } } else s
  let deep := st == .deep || st == .off
  let s := if deep then snapshotTake s else s
  let d := stateDomains st s
  let s := domShift (fun s => domsPut d.1 d.2 { s with power := { s.power with state := st } }) s
  let s := s.unflag Fld.SYSCFG_CLKCFG_PLLLOCK
  let s := if st = .sleep then (s.flag Fld.TIDE_STAT_LFMODE).unflag Fld.PMU_STAT_XTALRDY else s
  let s := if st = .nap then s
    else { s with cores := { held := [true, true], start := s.cores.start },
                  power := { s.power with xtalStarting := false } }
  if st = .off then railLost s else s

/-- PMU_ENTRY_DONE (R535, R537). -/
def execPmuEntryDone (s : State) : Out :=
  match s.power.entering with
  | none => .next s
  | some st =>
    let s := { s with power := { s.power with entering := none } }.unflag Fld.PMU_STAT_ENTERING
    let s := stateRest st s
    match s.power.wakeAfter with
    | some code => .next (wakeBegin code s)
    | none => .next s

/-! ### Leaving a state -/

/-- Record a wake to RUN (R538, R539). -/
def wakeRecord (w : WakeSeq) (s : State) : State :=
  let s := (s.put Fld.WAKE_CAUSE_SOURCE w.source).put Fld.WAKE_CAUSE_STATE (stateCode w.from_)
  ((s.put Fld.PMU_STAT_LAST (stateCode w.from_)).put Fld.PMU_REQ_STATE 0).fire EV.PMU_WAKE

/-- The domains of RUN come On, and the sequence ends. -/
def wakeToRun (s : State) : State :=
  let s := { s with boot := { s.boot with cwdtFrom := s.elapsed } }
  domShift (fun s =>
    let d := runDomains s
    domsPut d.1 d.2 { s with power := { s.power with state := .run, wake := none } }) (s.unflag Fld.PMU_STAT_EXC)

/-- CPU0 starts the resume path after SLEEP (R529, R564); without PMU_RESUME the warm path (R563). -/
def resumePath (s : State) : State :=
  let a := (s.rd Reg.PMU_RESUME).toNat / 4 * 4
  if a = 0 then coresStart false (warmEntry s) (s.wr (Reg.SYSCFG_BOOTREP 2) (s.rd Reg.SYSCFG_RSTCAUSE))
  else coresStart false a s

/-- WAKE_READY_STEP (R539): the ready signal of the step in progress. -/
def execWakeReadyStep (s : State) : Out :=
  match s.power.wake with
  | none => .next s
  | some w =>
    let go := fun (n : Nat) (s : State) => { s with power := { s.power with wake := some { w with step := n } } }
    match w.step with
    | 0 =>
      if w.from_ = .nap then .next (go 3 s)
      else .next (go 1 { s with power := { s.power with xtalStarting := true } })
    | 1 => .next (go 2 (if w.from_ = .sleep then s.setClkSrc 0 else s))
    | 2 => .next (go 3 s)
    | _ =>
      if w.from_ = .nap then
        let s := wakeRecord w (wakeToRun s)
        .next { s with cores := { s.cores with waiting := [false, false] } }
      else if w.from_ = .sleep then .next (resumePath (wakeRecord w (wakeToRun s)))
      else if !s.domOn 1 then .next s
      else
        let s := wakeRecord w { s with power := { s.power with wake := none } }
        .next (if w.from_ = .deep then resetRequest 2 9 s else resetRequest 3 10 s)

/-- WAKE_READY_TIMEOUT (R541): the wake is repeated once; a second timeout asks for a system reset. -/
def execWakeReadyTimeout (s : State) : Out :=
  match s.power.wake with
  | none => .next s
  | some w =>
    let s := s.inc Fld.PMU_CNT_TIMEOUTS
    if w.again then
      let s := { s with power := { s.power with wake := none }, boot := { s.boot with wakeCode := 0x0730 + w.step } }
      .next (resetRequest 2 8 s)
    else
      .next { s with power := { s.power with wake := some { w with step := wakeFirst s w.from_, again := true } } }

/-- The crystal clocks the islands (Table PWR-6). -/
def xtalRuns (s : State) : State :=
  let s := if s.tide.xtalFailed then s.put Fld.RF_REFCORR_CORR 0 else s
  let s := { s with power := { s.power with xtalStarting := false },
                    tide := { s.tide with xtalFailed := false, awaitResid := false }, rf := { s.rf with rcRunning := false } }
  (((s.setClkSrc 1).unflag Fld.TIDE_STAT_LFMODE).flag Fld.PMU_STAT_XTALRDY).fire EV.PMU_XTALRDY

/-- XTAL_READY (R539). -/
def execXtalReady (s : State) : Out := .next (if s.power.xtalStarting ∧ s.domOn 1 then xtalRuns s else s)

/-- XTAL_START_TIMEOUT (R540): the crystal-failure sequence; the AON island runs from RC64 divided by 2. -/
def execXtalStartTimeout (s : State) : Out :=
  .next (if s.power.xtalStarting then
    xtalFail ({ s with power := { s.power with xtalStarting := false } }.unflag Fld.TIDE_STAT_LFMODE) else s)

/-- Is gate n an enabled WAKE gate whose T - TIDE_WAKELEAD has come (R116)? -/
def wakeGateDue (s : State) (n : Nat) : Bool :=
  s.has (Fld.TIDE_GATE_CTL_EN n) && s.has (Fld.TIDE_GATE_CTL_WAKE n) && !s.gateHeld n
    && s.gateT n ≤ s.now + s.get Fld.TIDE_WAKELEAD_LEAD

/-- GATE_WAKE_REQUEST (R116): at T - TIDE_WAKELEAD of an enabled WAKE gate in LF mode, the crystal starts. -/
def execGateWakeRequest (gate : Fin 32) (s : State) : Out :=
  .next (if s.lfMode && wakeGateDue s gate.val then
    { s with power := { s.power with xtalStarting := true } } else s)

/-! ### Link excursions (R530, R531) -/

/-- Is hard-timed work due within TIDE_WAKELEAD (R530): the presentation of an armed entry, a WAKE gate? -/
def excursionDue (s : State) : Bool :=
  (List.range 64).any (fun n => s.tl n TF.VALID == 1 && entryPresentFrom s n ≤ s.now + s.get Fld.TIDE_WAKELEAD_LEAD)
  || (List.range 32).any (wakeGateDue s)

/-- EXCURSION_START (R530). -/
def execExcursionStart (s : State) : Out :=
  if s.power.state ≠ .sleep ∨ pmuBusy s ∨ s.has Fld.PMU_STAT_EXC ∨ !s.has Fld.PMU_CFG_EXCEN ∨ !s.has Fld.PMU_RETCFG_LINKRET
      ∨ !excursionDue s then .next s
  else
    let d := excursionDomains s
    let s := domShift (domsPut d.1 d.2) s
    let s := if s.has Fld.PMU_STAT_XTALRDY then s
             else { s.setClkSrc 0 with power := { s.power with xtalStarting := true } }
    .next ((s.flag Fld.PMU_STAT_EXC).fire EV.PMU_EXCIN)

/-- Is an armed launch or an enabled WAKE gate due within `ticks`? -/
def dueWithin (s : State) (ticks : Nat) : Bool :=
  (List.range 64).any (fun n => s.tl n TF.VALID == 1 && s.tl n TF.TLAUNCH < s.now + ticks)
  || (List.range 32).any (fun n => s.has (Fld.TIDE_GATE_CTL_EN n) && s.has (Fld.TIDE_GATE_CTL_WAKE n) && !s.gateHeld n
      && s.gateT n < s.now + ticks)

/-- EXCURSION_END (R531): SLEEP is entered again. -/
def execExcursionEnd (s : State) : Out :=
  if !s.has Fld.PMU_STAT_EXC ∨ pmuBusy s ∨ !s.acts.isEmpty ∨ !s.link.fwds.isEmpty
      ∨ dueWithin s (32000 * s.get Fld.PMU_CFG_RESLEEP) then .next s
  else
    let s := ((s.unflag Fld.PMU_STAT_EXC).inc Fld.PMU_CNT_EXCURSIONS).fire EV.PMU_EXCOUT
    .next ({ s with power := { s.power with entering := some .sleep } }.flag Fld.PMU_STAT_ENTERING)

/-! ### D1 power-up -/

/-- The registers of D1 that a D1 power-up resets: all but the backup domain's, WAKE_DEEPALM and SUPMON_FLAGS.BOR, which D0
holds. -/
def d1Reg (a : Nat) : Bool :=
  0x50000000 ≤ a && a < 0x50006000 && a != Reg.WAKE_DEEPALM && a != Reg.SUPMON_FLAGS

/-- The fabric at a D1 power-up: flags, counters, quarantine and pending state are retained through every power state but
OFF (R146). -/
def fabricRestore (s : State) : State :=
  if s.power.state = .deep then s
  else { s.resetRegs (fun a => 0x40010000 ≤ a && a < 0x40020000 && !isRwlCell a) with sluices := [] }

/-- Tide time at a D1 power-up, `lf` LF cycles after the snapshot (R90). -/
def tideRestore (lf : Nat) (s : State) : State :=
  let v := s.snapshot
  let ran := lf * v.lfinc.toNat * 2 ^ 16
  let lfp := s.tide.lfPresent
  let s := { s with snapshot := { s.snapshot with valid := false } }
  if v.valid then
    let s := { s with tide := { acc := v.now * 2 ^ 32 + ran, elapsed := s.tide.elapsed + ran, lfPresent := lfp } }
    (s.put Fld.TIDE_RATE_RATE v.rate.toNat).flag Fld.TIDE_FLAGS_RESTORED
  else { s with tide := { elapsed := s.tide.elapsed, lfPresent := lfp } }.flag Fld.TIDE_FLAGS_COLD

/-- Duty credits at a D1 power-up (R350): as kept, the elapsed time credited by the next settling; or none. -/
def creditsRestore (valid : Bool) (from' : Nat) (s : State) : State :=
  s.forEach (List.range 8) (fun k s =>
    if valid then s.setBucket k { credit := nth 0 s.kept.credits k, since := from' } else s.setBucket k { credit := 0, since := s.elapsed })

/-- D1 powers up: tide time, gates, calibration store, buckets and lifetime counters are rebuilt (R90, R189, R350, R528,
R599). Whether the factory trim row passes its CRC is free: no layout of it is given (R191). -/
def d1PowerUp (s : State) : State :=
  let valid := s.snapshot.valid
  let was := s.elapsed
  let bor := s.get Fld.SUPMON_FLAGS_BOR
  let s := ((s.resetRegs d1Reg).wr Reg.SUPMON_FLAGS 0).put Fld.SUPMON_FLAGS_BOR bor
  let s := domsPut [0, 1] [] { fabricRestore s with edges := [], tasks := [] }
  let s := creditsRestore valid was (tideRestore (lfSince s) s)
  let s : State := { s.setClkSrc 0 with power := { s.power with xtalStarting := true },
                                        rf := { s.rf with rcRunning := false, rcMeasures := 0 } }
  let s := (s.put Fld.RF_CALSTAT_FTVALID s.freeNat).freeNext
  let s : State := s.forEach (List.range 2) (fun l s => s.forEach (List.range 17) (calReload l))
  let s : State := if s.power.state = .deep then s.forEach ((s.entries 0x09).filter (fun e => eb e 2 != 0)) presetArm else s
  let s := { s with life := { restore := if valid then some s.kept.life else none } }.flag Fld.LIFE_STAT_LOADING
  if testBit' s.boot.causes 1 then lifeCode 0x0721 0x0F (lifeCount 17 0 8 1 s) else s

/-- D1_POWER_UP (R90): in the wake from DEEP or OFF. -/
def execD1PowerUp (s : State) : Out := .next (if s.domOn 1 then s else d1PowerUp s)

/-- POWER_ON (R550): VDDIN rises with D1 unpowered; a full reset follows. -/
def execPowerOn (s : State) : Out :=
  .next (if s.domOn 1 then s
    else resetRequest 3 0 (d1PowerUp { s with power := { s.power with wake := none, wakeAfter := none } }))

/-- LF_CLOCK_LOSS (R91). -/
def execLfClockLoss (s : State) : Out :=
  .next { s with snapshot := { s.snapshot with valid := false }, tide := { s.tide with lfPresent := false } }

/-! ### Supply -/

/-- SUPPLY_DIP_START (R542 to R544). -/
def execSupplyDipStart (s : State) : Out :=
  if !s.domOn 1 ∨ s.dip then .next s
  else
    let s := ((s.flag Fld.SUPMON_STAT_DIP).flag Fld.SUPMON_FLAGS_DIP).inc Fld.SUPMON_DIPCNT_DIPS
    .next (bankSync 1 (bankSync 0 (lifeCount 18 0 16 1 (s.fire EV.PMU_SUPWARN))))

/-- SUPPLY_DIP_END (R544): the held flash operations start, with the GOOD unit of R560 where it waits. -/
def execSupplyDipEnd (minimum : BitVec 9) (duration : BitVec 16) (s : State) : Out :=
  if !s.dip then .next s
  else
    let s := ((s.unflag Fld.SUPMON_STAT_DIP).put Fld.SUPMON_DIPLAST_MIN minimum.toNat).put Fld.SUPMON_DIPLAST_DURATION
      duration.toNat
    let s := lifeCode 0x0720 0x0F (lifeEvent (.low 19 0 9 minimum.toNat) s)
    .next (goodAppend (bankGo 1 (bankGo 0 (s.fire EV.PMU_SUPOK))))

/-- A program unit that loses its supply (R518): what the unit holds is free, and so is whether it reads as uncorrectable. -/
def unitCut (b : Nat) (s : State) : State :=
  match (s.bank b).unit with
  | none => s
  | some (a, _) =>
    let n := s.freeNat
    let s := (unitStore a (bytesBE 16 (n / 2)) s).freeNext
    if n % 2 = 1 then { s with flash := { s.flash with bad := s.flash.bad ++ [a] } } else s

/-- D1 and every domain but D0 lose power without a snapshot (R545). -/
def brownOut (s : State) : State :=
  let s := unitCut 1 (unitCut 0 { s with snapshot := { s.snapshot with valid := false } })
  let s := domShift (domsPut [0] []) { s with power := { state := .off } }
  let s := railLost (s.flag Fld.SUPMON_FLAGS_BOR)
  { s with cores := { held := [true, true] }, boot := { phase := .held, scope := 3, causes := 2 } }

/-- D0 loses its supply (R547): the root, the snapshot and what is kept with it, the registers held in D0 (R436, R460). -/
def d0Lost (s : State) : State :=
  let s := rootZero (s.resetRegs (fun a => decide (0x50006000 ≤ a ∧ a < 0x50007000) || a == Reg.WAKE_DEEPALM))
  let s := (s.unflag Fld.KEYSTORE_STAT_LOCKED).unflag Fld.SUPMON_FLAGS_BOR
  { s with backup := {}, snapshot := {}, kept := {}, boot := { s.boot with causes := 0 } }

/-- BROWN_OUT (R545): VDDIN falls below 1.70 V. `vbat`: VBAT has a supply for D0; at ground, D0 goes with VDDIN (R547). -/
def execBrownOut (vbat : Bool) (s : State) : Out :=
  let s := if s.domOn 1 then brownOut s else s
  .next (if vbat then s else d0Lost s)

/-- VBAT_SWITCH (R546). -/
def execVbatSwitch (toVbat : Bool) (s : State) : Out :=
  let was := s.has Fld.SUPMON_STAT_VBATSRC
  let s := s.put Fld.SUPMON_STAT_VBATSRC (boolBit toVbat)
  if !toVbat ∨ was ∨ !s.domOn 1 then .next s
  else
    let s := (s.inc Fld.SUPMON_DIPCNT_VBATSW).flag Fld.SUPMON_FLAGS_VBATSW
    .next (lifeCode 0x0722 0x0F (lifeCount 18 16 8 1 s))

end Sys2Proof.Machine
end

