-- ==== Sys2Proof/Machine/Boot.lean ====
section
/-!
DEFINITION. The boot sequence (R562): recovery of interrupted erases (R515), failed starts (R559), the choice and check of a
slot (R557, R64 to R69), the boot report (R571).
-/

namespace Sys2Proof.Machine

/-! ### The recovery record (Table BOOT-4) -/

structure RecoveryRecord where
  valid : Bool := false
  netid : Nat := 0
  chan : Nat := 13
  mode : Nat := 1
  limit : Nat := 3
  switchat : Nat := 1
  pwr : Int := 40
  bint : Nat := 10
  lwdt : Nat := 64
  deriving DecidableEq, Repr

/-- The record in the information area, or its defaults (R555). -/
def State.recovery (s : State) : RecoveryRecord :=
  let r := s.bytes 0x0FF00180 16
  if eh r 0 = 0x5244 ∧ crcUnitOk r ∧ flashReadable s 0x0FF00180 16 then
    { valid := true, netid := eh r 2, chan := eb r 4, mode := eb r 5 % 2, limit := eb r 5 / 2 % 8, switchat := eb r 5 / 16 % 8,
      pwr := toS 8 (eb r 6), bint := eb r 7, lwdt := eh r 8 }
  else {}

/-! ### Notes -/

/-- NOTE[i] of the boot report. -/
def noteField (i : Nat) : Field := ⟨Reg.SYSCFG_BOOTREP (8 + i / 2), 16 * (i % 2), 16⟩

/-- Record a code of the start in the next NOTE, where one is left (R571). -/
def bootNote (code : Nat) (s : State) : State :=
  match (List.range 8).find? (fun i => s.get (noteField i) == 0) with
  | some i => s.put (noteField i) code
  | none => s

/-! ### Recovery of the flash banks (R515) -/

/-- Step 1: the active journal block; where neither header is valid, the first block is made one. -/
def recoverActive (b : Nat) (s : State) : State :=
  match journalFind s b with
  | some _ => journalScan b s
  | none => bootNote 0x0612 (journalInit b (2 * b) 1 s)

/-- START and END of entry k in the active journal block of bank b. -/
def entryStart (s : State) (b k : Nat) : List Byte := s.bytes (journalUnit (journalActive s b) (1 + 2 * k)) 16
def entryEnd (s : State) (b k : Nat) : List Byte := s.bytes (journalUnit (journalActive s b) (2 + 2 * k)) 16

def startOk (u : List Byte) : Bool := eb u 0 == 0x51 && crcUnitOk u
def endOk (u : List Byte) : Bool := eb u 0 == 0xE5 && crcUnitOk u

/-- Steps 2 and 3: the entry last used. The pulses that complete an erase are free; so is what an unreadable START names. -/
def recoverLast (b : Nat) (s : State) : State :=
  let used := s.get (Fld.FLASHC_JSTAT_USED b)
  if used = 0 then s
  else
    let u := entryStart s b (used - 1)
    if startOk u then
      (if unitBlank (entryEnd s b (used - 1)) then
        bootNote 0x0610 (journalEnd b 2 (eh u 2) (1 + s.freeNat % 96) (blockErase (eh u 2) s)).freeNext
      else s)
    else if unitBlank (entryEnd s b (used - 1)) then (journalEnd b 3 (s.freeNat % 2 ^ 16) 0 s).freeNext
    else s

/-- Step 4 for one entry: a blank header unit is programmed from COUNT of START. -/
def recoverHeader (b k : Nat) (s : State) : State :=
  let u := entryStart s b k
  let n := eh u 2
  if startOk u ∧ n < 516 ∧ unitBlank (s.bytes (headerUnit n) 16) then
    bootNote 0x0611 (s.setBytes (headerUnit n) (headerOctets (ew u 4)))
  else s

/-- The last two entries with a valid END. -/
def lastEntries (s : State) (b : Nat) : List Nat :=
  let ks := (List.range (s.get (Fld.FLASHC_JSTAT_USED b))).filter (fun k => endOk (entryEnd s b k))
  ks.drop (ks.length - 2)

/-- The recovery of one bank. -/
def bankRecover (b : Nat) (s : State) : State :=
  let s := recoverLast b (recoverActive b s)
  s.forEach (lastEntries s b) (recoverHeader b)

/-! ### Failed starts (R559) -/

/-- RSTCAUSE bits whose starts are not counted as failed: POR, BOR, DEEPEXIT, OFFEXIT. -/
def uncounted (causes : Nat) : Bool := [0, 1, 9, 10].any (testBit' causes)

/-- The code of a cause that ended an unconfirmed start; a cause for which no code is given has a free one of the boot
block (R9). -/
def causeCode (s : State) : Nat × State :=
  let c := s.get Fld.SYSCFG_RSTCAUSE_CAUSE
  if testBit' c 2 then (0x0810, s)
  else if testBit' c 3 then (0x0811, s)
  else if testBit' c 4 || testBit' c 5 then (0x0812, s)
  else if testBit' c 6 then (0x0813, s)
  else if testBit' c 7 then (0x0834, s)
  else if testBit' c 8 then (s.boot.wakeCode, s)
  else (0x0800 + s.freeNat % 256, s.freeNext)

/-- Step 4 of R562: the FAIL unit of a start that ended unconfirmed, and the CLEAR unit of R561. -/
def failsDue (s : State) : State :=
  let s := match (bootUnits s).getLast? with
    | some u =>
      if bootUnitType u = 0xA7 ∧ !uncounted (s.get Fld.SYSCFG_RSTCAUSE_CAUSE) then
        let c := causeCode s
        bootAppend 0x3F (eb u 1) c.1 (ew u 4) c.2
      else s
    | none => s
  if s.boot.clrfs then clearAppend { s with boot := { s.boot with clrfs := false } } else s

/-! ### The report (R571) -/

/-- Write the boot report; `result`: 0 where firmware starts, else the dry-pan code. -/
def bootReport (result : Nat) (unsigned : Bool) (slot version ticks : Nat) (s : State) : State :=
  let codes := failCodes s
  let s := (s.wr (Reg.SYSCFG_BOOTREP 0) (s.rd Reg.SYSCFG_ID)).put Fld.SYSCFG_BOOTREP_RESULT result
  let s := (s.put Fld.SYSCFG_BOOTREP_LIMIT s.boot.limit).put Fld.SYSCFG_BOOTREP_FSCNT (min s.boot.fscnt 7)
  let s := (s.put Fld.SYSCFG_BOOTREP_DRYPAN (boolBit (result != 0))).put Fld.SYSCFG_BOOTREP_UNSIGNED (boolBit unsigned)
  let s := (s.put Fld.SYSCFG_BOOTREP_SLOT slot).wr (Reg.SYSCFG_BOOTREP 2) (s.rd Reg.SYSCFG_RSTCAUSE)
  let s := s.put Fld.SYSCFG_BOOTREP_VERSION version
  let s := s.forEach (List.range 8) (fun i s => s.put ⟨Reg.SYSCFG_BOOTREP (4 + i / 2), 16 * (i % 2), 16⟩ (nth 0 codes i))
  s.put Fld.SYSCFG_BOOTREP_BOOTTIME ticks

/-! ### Dry-pan mode (R565, R576) -/

/-- The built-in LANE_ROLE entries: LANE A holds every OML role, LANE B none; their health-test periods are not given. -/
def dryPanRoles (s : State) : List Byte :=
  let per := fun (n : Nat) => BitVec.ofNat 8 (1 + n % 255)
  [0#8, 0#8, 0x7C#8, 0#8, 0#8, 0#8, per s.freeNat, 0#8, 1#8, 0#8, 0#8, 0#8, 0#8, 0#8, per (s.freeNat / 255), 0#8]

/-- The built-in configuration, uncommitted. -/
def dryPanCells (s : State) : State :=
  let role : CfgRecord := { type := 5, body := dryPanRoles s, source := none, crc := 0 }
  let s := { s.freeNext with salt := { s.salt with records := [role] } }
  let s := (s.put Fld.RF_PORTMAP_AH 0).put Fld.RF_PORTMAP_AL 0
  let s := (s.flag Fld.LINK_ACCCFG_OPEN).flag Fld.LINK_ACCCFG_UNSYNCOK
  let s := s.resetRegs (isCellOf 3)
  let s := s.forEach (List.range 5) (fun i s => s.put (Fld.GPIO_PADCFG_FUNC (16 + i)) (0x38 + i))
  refreshRing (refreshRoles s)

/-- D10 and SRAM groups 1 and 2 go off; D3 is off since the reset. -/
def dryPanPower (s : State) : State :=
  domShift (fun s =>
    let s := (s.put Fld.PMU_DOMCTL_D5 2).put Fld.PMU_DOMCTL_D6 2
    let s := s.put Fld.PMU_DOMCTL_D10 3
    domsPut (runDomains s).1 (runDomains s).2 s) s

/-- Enter dry-pan mode with a code: through a full reset where a commit is in force. -/
def dryPanEnter (code ticks : Nat) (s : State) : State :=
  if s.committed then resetRequest 3 13 s
  else
    let s := dryPanCells (dryPanPower s)
    let s := lifeCode code 0 (lifeCount 17 16 8 1 (bootReport code false 0 0 ticks s))
    { s with boot := { s.boot with phase := .dryPan } }

/-! ### Firmware slots -/

/-- First address of a slot. -/
def slotBase (slot : Nat) : Nat := if slot = 0 then 0 else 0x200000

/-- The firmware key, X then Y; none where none is written (R553). -/
def firmwareKey (s : State) : Option (Nat × Nat) :=
  let k := s.bytes 0x0FF00140 64
  if unitBlank k then none else some (natOfBE (k.take 32), natOfBE (k.drop 32))

/-- Table BOOT-5 over the header h of a slot. -/
def headerOk (s : State) (slot : Nat) (h : List Byte) : Bool :=
  let len := ew h 8
  let entry := ew h 0x10
  ew h 0 == 0x5746444F && eh h 4 == 1 && eh h 6 ≤ 1 && len % 4 == 0 && 0x80 ≤ len && len ≤ 0x200000
  && entry % 4 == 0 && slotBase slot ≤ entry && entry < slotBase slot + 0x200000
  && eh h 0x14 == s.get Fld.SYSCFG_ID_PARTNO && eb h 0x16 == s.get Fld.SYSCFG_ID_MAJOR && zeros ((h.drop 0x17).take 9)

/-- Is the firmware image in a slot signed as R556 asks, or unsigned as R557 permits? -/
def firmwareTrusted (s : State) (slot : Nat) (h : List Byte) : Bool :=
  let len := ew h 8
  if eh h 6 = 1 then s.get Fld.KEYSTORE_STAT_LC ≤ 1 && (firmwareKey s).isNone
  else
    flashReadable s (slotBase slot) len
    && signedBy (firmwareKey s) (s.bytes (slotBase slot) (len - 64)) (s.bytes (slotBase slot + len - 64) 64)

/-- Steps 1 to 3 of R557: 0, or the code that rejects the slot. -/
def firmwareCode (s : State) (slot : Nat) : Nat :=
  let h := s.bytes (slotBase slot) 32
  if !flashReadable s (slotBase slot) 32 ∨ !headerOk s slot h then 0x0802
  else if !firmwareTrusted s slot h then 0x0803
  else if ew h 0x0C < s.pointers.fwfloor then 0x0804
  else 0

/-- What the ROM does with a slot: reject it with a code, start it, or raise a full reset first (R68). -/
inductive SlotVerdict where
  | reject (code : Nat)
  | start
  | reset
  deriving DecidableEq, Repr

/-- Does the image at a repeat the committed VERSION and CRC (R68)? One that fails steps 1 to 4 of R64, or whose records do
not fill it, counts as different: DESIGN CHOICE (notes/assumptions/34.md). -/
def sameCommit (s : State) (a : Nat) : Bool :=
  let o := imageOpen s a
  o.1 == 0 && ew o.2 0x0C == s.get Fld.SYSCFG_SALTVER_VERSION && ew o.2 (o.2.length - 68) == s.get Fld.SYSCFG_SALTCRC_CRC

/-- Step 4 of R557, with R64 and R67 to R69: the slot's saltern image. An uncommitted start without an image leaves the
code of step 1 of R64 in LASTCODE (notes/assumptions/75.md). -/
def slotImage (slot : Nat) (s : State) : SlotVerdict × State :=
  let a := if slot = 0 then s.pointers.salta else s.pointers.saltb
  if s.committed then
    let own := s.get Fld.SYSCFG_SALTSTAT_SOURCE = 0 ∧ a = 0xFFFFFFFF ∧ s.get Fld.KEYSTORE_STAT_LC ≤ 1
    if own ∨ sameCommit s a then (.start, s) else (.reset, s)
  else if a = 0xFFFFFFFF ∧ s.get Fld.KEYSTORE_STAT_LC ≤ 1 then (.start, s.put Fld.SYSCFG_SALTSTAT_LASTCODE 0x0820)
  else
    let r := imageCheck s false a
    if r.1 = 0 then (.start, baseCommit slot a r.2 s) else (.reject r.1, s.put Fld.SYSCFG_SALTSTAT_LASTCODE r.1)

/-- Check a slot under R557. -/
def slotCheck (slot : Nat) (s : State) : SlotVerdict × State :=
  if firmwareCode s slot ≠ 0 then (.reject (firmwareCode s slot), s) else slotImage slot s

/-- A rejected slot is a failed start (R559). -/
def slotReject (slot code : Nat) (s : State) : State := bootAppend 0x3F slot code (ew (s.bytes (slotBase slot) 32) 0x0C) s

/-- Step 8: the ATTEMPT unit, the report, the branch. -/
def bootStart (slot ticks : Nat) (s : State) : State :=
  let h := s.bytes (slotBase slot) 32
  let s := bootAppend 0xA7 slot 0 (ew h 0x0C) s
  let s := bootReport 0 (eh h 6 == 1) slot (ew h 0x0C) ticks s
  { s with boot := { s.boot with phase := .firmware, slot := slot, version := ew h 0x0C, entry := ew h 0x10 },
           cores := { s.cores with start := setNth s.cores.start 0 (ew h 0x10) } }

/-- Try a slot; where it is rejected, go on with `other`. -/
def slotTry (slot ticks : Nat) (other : State → State) (s : State) : State :=
  let r := slotCheck slot s
  match r.1 with
  | .start => bootStart slot ticks r.2
  | .reset => resetRequest 3 11 r.2
  | .reject code => other (slotReject slot code r.2)

/-- Steps 6 to 8. -/
def bootSlots (r : RecoveryRecord) (ticks : Nat) (s : State) : State :=
  let active := s.pointers.active
  let first := if s.boot.fscnt < r.switchat then active else 1 - active
  slotTry first ticks (fun s =>
    if (failCodes s).length < r.limit then slotTry (1 - first) ticks (dryPanEnter 0x0801 ticks) s
    else dryPanEnter 0x0806 ticks s) s

/-! ### The sequence -/

/-- The ROM reads flash: D7, where PMU_DOMCTL holds it Off, comes On, and its erase counts are loaded (R512). -/
def bootFlash (s : State) : State :=
  let s := if s.domOn 7 then s
    else domShift (fun s =>
      let s := s.put Fld.PMU_DOMCTL_D7 0
      domsPut (runDomains s).1 (runDomains s).2 s) s
  if [0, 1].any (fun b => s.get (Fld.FLASHC_STAT_STATE b) == 5) then erasecntLoad s else s

/-- Step 1: the long watchdog is armed; FLASHC_CFG.WAIT is 3. -/
def bootArm (r : RecoveryRecord) (s : State) : State :=
  let s := ((s.put Fld.LWDT_CFG_TIMEOUT r.lwdt).flag Fld.LWDT_CFG_EN).unflag Fld.LWDT_CFG_LOCK
  (s.put Fld.LWDT_STAT_REMAIN r.lwdt).put Fld.FLASHC_CFG_WAIT 3

/-- Step 3: the RF limits record, the pointer row, the recovery record, with what they leave to note. -/
def bootRead (r : RecoveryRecord) (s : State) : State :=
  let s := loadRfRecord s
  let s := if s.has Fld.RF_CALSTAT_FTVALID then s else bootNote 0x0137 s
  let s := if s.pointers.valid then s else bootNote 0x0805 s
  if r.valid then s else bootNote 0x0805 s

/-- Steps 4 to 8; in END the loader reports 0x0833 (R66). -/
def bootDecide (r : RecoveryRecord) (ticks : Nat) (s : State) : State :=
  let s := failsDue s
  let s := { s with boot := { s.boot with fscnt := (failCodes s).length, limit := r.limit } }
  if s.get Fld.KEYSTORE_STAT_LC == 4 then
    dryPanEnter 0x0833 ticks (s.put Fld.SYSCFG_SALTSTAT_LASTCODE 0x0833)
  else if r.limit ≤ s.boot.fscnt then dryPanEnter 0x0806 ticks s
  else bootSlots r ticks s

/-- The whole sequence. -/
def bootRun (r : RecoveryRecord) (ticks : Nat) (s : State) : State :=
  let s := bankRecover 1 (bankRecover 0 (bootArm r s))
  if markerPresent s then bootNote 0x080B (glZero s) else bootDecide r ticks (bootRead r s)

/-- Does the boot ROM run? -/
def romRuns (s : State) : Bool :=
  s.boot.phase == .rom && s.boot.scope < 2 && !s.keys.glErase && s.power.state == .run

/-- BOOT_SEQUENCE (R562) after a reset of system or full scope. `ticks`: from the ROM's first instruction to the branch. -/
def execBootSequence (ticks : Word) (s : State) : Out :=
  .next (if romRuns s then bootRun (bootFlash s).recovery ticks.toNat (bootFlash s) else s)

end Sys2Proof.Machine
end

