-- ==== Sys2Proof/Machine/DryPan.lean ====
section
/-!
DEFINITION. Dry-pan mode on the air: the recovery beacon (R566) and the recovery command (R567).
-/

namespace Sys2Proof.Machine

/-! ### The beacon -/

/-- The beacon's 20-octet payload. -/
def beaconPayload (s : State) : List Byte :=
  bytesLE 4 (s.rd Reg.SYSCFG_ID).toNat ++ bytesLE 2 (s.get Fld.SYSCFG_BOOTREP_RESULT)
  ++ bytesLE 1 (min s.boot.fscnt 15 + 16 * s.boot.limit)
  ++ bytesLE 1 (s.get Fld.KEYSTORE_STAT_LC + 16 * s.get Fld.KEYSTORE_STAT_GL)
  ++ (List.range 3).flatMap (fun i => bytesLE 4 (s.rd (Reg.SYSCFG_BOOTREP (4 + i))).toNat)

/-- The PSDU of a beacon whose sync reference point is at t64: an unprotected OML beacon from LINK_EUI to all, BFLAGS 0. -/
def beaconPsdu (s : State) (r : RecoveryRecord) (t64 : Nat) : List Byte :=
  bytesLE 2 0x0080 ++ bytesLE 2 r.netid ++ bytesLE 5 t64 ++ bytesLE 8 s.eui ++ bytesLE 3 (t64 / 2 ^ 40)
  ++ bytesLE 2 (0x8000 + r.bint) ++ [0#8] ++ beaconPayload s

/-- N_REP code of a beacon: 4 in MC-N. -/
def beaconRep (r : RecoveryRecord) : Nat := if r.mode = 1 then 2 else 0

def beaconAirtime (r : RecoveryRecord) : Nat := airtime 43 48 0 (beaconRep r) r.mode

/-- The sub-band the beacon falls in, where its channel is issued (R170, R210). -/
def beaconBand (s : State) (r : RecoveryRecord) : Option Nat :=
  if chanIssued r.mode r.chan then subBandOf s (chanKHz r.mode r.chan) r.mode else none

/-- The code that holds a beacon in sub-band k back until the next interval, or 0 (R183, R152, R122, R171, R348, R172, R543). -/
def beaconCode (s : State) (k air : Nat) (lbtClear : Bool) : Nat :=
  if s.retired 0 then 0x0104
  else if s.owner 0 = 1 then 0x0106
  else if txRefCode s ≠ 0 then txRefCode s
  else if dwellExceeded s k air then 0x0303
  else if !dutyAllows s k air then 0x0301
  else if lbtTicks s k ≠ 0 ∧ !lbtClear then 0x0304
  else if s.dip then 0x0701 else 0

/-- What a refusal of the beacon leaves: LANE A's code, and the marks of R171, R172 and R348. -/
def beaconRefused (k code : Nat) (s : State) : State :=
  let s := if laneIssues code then laneCode 0 code s else s
  if code = 0x0303 then dwellFlag 0 s
  else if code = 0x0304 then lbtBusyMarks 0 s
  else if code = 0x0301 then dutyRefused k s else s

/-- The listening after a beacon: 20 ms. -/
def beaconListen : Nat := 640000

/-- LANE A listens after a beacon; a reception refused for its reference leaves no listening, and no command is heard (R176). -/
def beaconHear (t64 : Nat) (psdu : List Byte) (s : State) : State :=
  let code := rxRefCode s
  let s := { s with boot := { s.boot with beaconT40 := if code = 0 then some (t64 % 2 ^ 40) else none, beacon := psdu } }
  if code = 0 then lifeAir 4 beaconListen ((s.fire (EV.LANE_RXON 0)).fire (EV.LANE_RXOFF 0)) else laneCode 0 code s

/-- The beacon leaves LANE A, which then listens; `mV`: the supply. -/
def beaconSend (r : RecoveryRecord) (k mV : Nat) (s : State) : State :=
  let air := beaconAirtime r
  let t := s.now
  let t64 := t + 3 * tsym r.mode
  let psdu := beaconPsdu s r t64
  let hdr := headerBuild 3 43 0 0 (beaconRep r) 0 (headerStratum s)
  let s := if lbtTicks s k = 0 then s else s.fire (EV.LANE_LBTCLEAR 0)
  let s := laneShift 0 (chanFreq r.mode r.chan) (laneYield 0 s)
  let level := targetPower s 0 k r.pwr mV
  let s := dutyDebit k air (laneStartTx 0 (powerClamp 0 k r.pwr mV s))
  let sent := airNative s 0 r.mode r.chan hdr s.syncSeq [] t psdu level
  let s := { s with link := { s.link with air := setNth s.link.air 0 (some sent) } }
  beaconHear t64 psdu (lifeAir (s.laneBand 0) air (laneEndTx 0 1 none s))

/-- Record a note of dry-pan mode once. -/
def noteOnce (code : Nat) (s : State) : State :=
  if (List.range 8).any (fun i => s.get (noteField i) == code) then s else bootNote code s

/-- DRYPAN_BEACON (R566). `lbtClear`: the channel was found clear under R172; `supply` in mV. -/
def execDrypanBeacon (lbtClear : Bool) (supply : Nat) (s : State) : Out :=
  let r := s.recovery
  if s.boot.phase ≠ .dryPan ∨ 2 ≤ s.boot.scope then .next s
  else match beaconBand s r with
    | none => .next (noteOnce 0x080A (laneCode 0 0x0302 s))
    | some k =>
      let code := beaconCode s k (beaconAirtime r) lbtClear
      .next (if code ≠ 0 then beaconRefused k code s else beaconSend r k supply s)

/-! ### The command -/

/-- Is the command acceptable (R567)? -/
def recoveryOk (s : State) (p : List Byte) : Bool :=
  let open' := (firmwareKey s).isNone && decide (s.get Fld.KEYSTORE_STAT_LC ≤ 1)
  p.length == 76 && eb p 0 == 1 && s.boot.beaconT40 == some (natOfLE ((p.drop 4).take 5))
  && (open' || signedBy (firmwareKey s) (bytesLE 8 s.eui ++ p.take 12) (p.drop 12)) && s.get Fld.KEYSTORE_STAT_LC != 4

/-- The POINTER unit that makes a slot active; it goes into the next blank unit of the pointer row, where one is left. -/
def pointerAppend (slot : Nat) (s : State) : State :=
  let p := s.pointers
  let n := (pointerUnits s).length
  if n < 512 then
    unitStore (0x0FF02000 + 16 * n) (crcUnit ([0x50#8, BitVec.ofNat 8 slot, 0xFF#8, 0xFF#8] ++ bytesLE 4 p.salta ++ bytesLE 4 p.saltb)) s
  else s

/-- RECOVERY_COMMAND (R567): the payload of an unprotected data frame to LINK_EUI in the listening after a beacon. -/
def execRecoveryCommand (payload : List Byte) (s : State) : Out :=
  if s.boot.phase ≠ .dryPan ∨ s.boot.beaconT40.isNone ∨ 2 ≤ s.boot.scope then .next s
  else if recoveryOk s payload then
    let s := clearAppend s
    let s := if eb payload 1 = 0xFF then s else pointerAppend (eb payload 1) s
    .next (resetRequest 2 4 (bootNote 0x0808 s))
  else .next (bootNote 0x0809 s)

end Sys2Proof.Machine
end

