-- ==== Sys2Proof/Machine/Periph.lean ====
section
/-!
DEFINITION. The peripherals (R572 to R582, R591, R592): pads, serial peripherals, timers, the ADC and the CAN
controller; the mailbox registers of the host port (R587 to R590).
-/

namespace Sys2Proof.Machine

/-! ### Pads (R574, R575) -/

/-- The synchronised level of pad p becomes b; an edge that GPIO_EDGE selects fires (R574). -/
def padLevel (p : Nat) (b : Bool) (s : State) : State :=
  let was := s.bit (Reg.GPIO_IN (p / 32)) (p % 32)
  let s := s.putBit (Reg.GPIO_IN (p / 32)) (p % 32) b
  let sel := s.get (Fld.GPIO_EDGE_EDGE p)
  if was == b then s
  else if sel / (if b then 1 else 2) % 2 = 1 then s.fire (EV.GPIO_EDGE p) else s

/-- Does a GPIO pad drive its output (R574)? -/
def padDrives (s : State) (p : Nat) : Bool :=
  s.bit (Reg.GPIO_DIR (p / 32)) (p % 32) && s.get (Fld.GPIO_PADCFG_FUNC p) == 0

/-- Store a bit of GPIO_OUT; a pad that drives shows it at its own input. -/
def padOut (p : Nat) (b : Bool) (s : State) : State :=
  let s := s.putBit (Reg.GPIO_OUT (p / 32)) (p % 32) b
  if padDrives s p then padLevel p b s else s

/-- GPIO_EDGE (R574): the level at a pad changes from outside. -/
def execGpioEdge (pad : Fin 64) (high : Bool) (s : State) : Out :=
  .next (if s.domOn 12 && !padDrives s pad.val then padLevel pad.val high s else s)

/-- GPIO_SET (R575). -/
def execGpioSet (pad : Fin 64) (s : State) : Out := .next (padOut pad.val true (s.takeTask (TK.GPIO_SET pad.val)))

/-- GPIO_CLR (R575). -/
def execGpioClr (pad : Fin 64) (s : State) : Out := .next (padOut pad.val false (s.takeTask (TK.GPIO_CLR pad.val)))

/-- GPIO_TGL (R575). -/
def execGpioTgl (pad : Fin 64) (s : State) : Out :=
  let b := s.bit (Reg.GPIO_OUT (pad.val / 32)) (pad.val % 32)
  .next (padOut pad.val (!b) (s.takeTask (TK.GPIO_TGL pad.val)))

/-! ### UART (R577) -/

def State.setUartTx (n : Nat) (l : List Byte) (s : State) : State :=
  { s with per := { s.per with uartTx := setNth s.per.uartTx n l } }.put (Fld.UART_STAT_TXFILL n) (min l.length 16)

def State.setUartRx (n : Nat) (l : List Byte) (s : State) : State :=
  { s with per := { s.per with uartRx := setNth s.per.uartRx n l } }.put (Fld.UART_STAT_RXFILL n) l.length

/-- UART_TX_PUSH (R577): `sent` characters have left the FIFO since the last push. A push into a full FIFO is lost. -/
def execUartTxPush (n : Fin 3) (sent : Fin 17) (value : Word) (s : State) : Out :=
  let l := (nth [] s.per.uartTx n.val).drop sent.val
  .next (s.setUartTx n.val (if l.length < 16 then l ++ [BitVec.ofNat 8 value.toNat] else l))

/-- UART_TXDONE (R577): the FIFO and the shift register are empty. -/
def execUartTxdone (n : Fin 3) (s : State) : Out := .next ((s.setUartTx n.val []).fire (EV.UART_TXDONE n.val))

/-- UART_RX_CHAR (R577). -/
def execUartRxChar (n : Fin 3) (ch : Byte) (parityBad : Bool) (frameBad : Bool) (s : State) : Out :=
  let l := nth [] s.per.uartRx n.val
  if !s.has (Fld.UART_CFG_EN n.val) then .next s
  else if frameBad then .next ((s.flag (Fld.UART_FLAGS_FRAME n.val)).fire (EV.UART_ERR n.val))
  else if parityBad then .next ((s.flag (Fld.UART_FLAGS_PARITY n.val)).fire (EV.UART_ERR n.val))
  else if 16 ≤ l.length then .next ((s.flag (Fld.UART_FLAGS_OVR n.val)).fire (EV.UART_ERR n.val))
  else .next ((s.setUartRx n.val (l ++ [ch])).fire (EV.UART_RXRDY n.val))

/-- UART_RX_POP (R577). What an empty FIFO gives is not stated: a free value. -/
def execUartRxPop (n : Fin 3) (s : State) : Out :=
  match nth [] s.per.uartRx n.val with
  | [] => .next { s.freeNext with bus := .data (BitVec.ofNat 32 (s.freeNat % 256)) }
  | c :: t => .next { s.setUartRx n.val t with bus := .data (BitVec.ofNat 32 c.toNat) }

/-- UART_RX_TIMEOUT (R577). -/
def execUartRxTimeout (n : Fin 3) (s : State) : Out := .next (s.flag (Fld.UART_FLAGS_TIMEOUT n.val))

/-! ### SPIM and I2C (R577) -/

def State.setSpi (n : Nat) (tx rx out : List Byte) (s : State) : State :=
  { s with per := { s.per with spiTx := setNth s.per.spiTx n tx, spiRx := setNth s.per.spiRx n rx,
                               spiOut := setNth s.per.spiOut n out } }

def State.setI2c (n : Nat) (tx rx out : List Byte) (s : State) : State :=
  { s with per := { s.per with i2cTx := setNth s.per.i2cTx n tx, i2cRx := setNth s.per.i2cRx n rx,
                               i2cOut := setNth s.per.i2cOut n out } }

/-- SPIM_START (R577). -/
def execSpimStart (n : Fin 2) (s : State) : Out :=
  let s := s.takeTask (TK.SPIM_START n.val)
  .next (if s.has (Fld.SPIM_CFG_EN n.val) then s.flag (Fld.SPIM_STAT_BUSY n.val) else s)

/-- SPIM_DONE (R577): LEN octets went out of the transmit FIFO while as many came in. -/
def execSpimDone (n : Fin 2) (miso : List Byte) (s : State) : Out :=
  let k := n.val
  if !s.has (Fld.SPIM_STAT_BUSY k) then .next s
  else
    let len := s.get (Fld.SPIM_LEN_LEN k)
    let tx := nth [] s.per.spiTx k
    let s := s.setSpi k (tx.drop len) ((nth [] s.per.spiRx k ++ miso.take len).take 32) (tx.take len)
    .next ((s.unflag (Fld.SPIM_STAT_BUSY k)).fire (EV.SPIM_DONE k))

/-- I2C_START (R577). -/
def execI2cStart (n : Fin 2) (s : State) : Out :=
  let s := s.takeTask (TK.I2C_START n.val)
  .next (if s.has (Fld.I2C_CFG_EN n.val) then (s.flag (Fld.I2C_STAT_BUSY n.val)).unflag (Fld.I2C_STAT_NACK n.val) else s)

/-- I2C_DONE (R577): a transfer ends with DONE, or with NACK after `sent` octets. -/
def execI2cDone (n : Fin 2) (nack : Bool) (sent : Fin 17) (data : List Byte) (s : State) : Out :=
  let k := n.val
  if !s.has (Fld.I2C_STAT_BUSY k) then .next s
  else
    let len := if nack then sent.val else s.get (Fld.I2C_LEN_LEN k)
    let tx := nth [] s.per.i2cTx k
    let rx := nth [] s.per.i2cRx k
    let s := if s.has (Fld.I2C_CFG_READ k) then s.setI2c k tx ((rx ++ data.take len).take 16) []
             else s.setI2c k (tx.drop len) rx (tx.take len)
    let s := s.unflag (Fld.I2C_STAT_BUSY k)
    .next (if nack then (s.flag (Fld.I2C_STAT_NACK k)).fire (EV.I2C_NACK k) else s.fire (EV.I2C_DONE k))

/-! ### Timers (R578) -/

def State.tmrRuns (s : State) (n : Nat) : Bool := nth false s.per.tmrRunning n

def State.setTmr (n : Nat) (run : Bool) (count : Nat) (s : State) : State :=
  { s with per := { s.per with tmrRunning := setNth s.per.tmrRunning n run } }.put (Fld.TMR_COUNT_VAL n) count

/-- TMR_START (R578). -/
def execTmrStart (n : Fin 4) (s : State) : Out := .next ((s.takeTask (TK.TMR_START n.val)).setTmr n.val true 0)

/-- TMR_STOP: the count stands where it stopped. -/
def execTmrStop (n : Fin 4) (count : Word) (s : State) : Out :=
  let s := s.takeTask (TK.TMR_STOP n.val)
  .next (if s.tmrRuns n.val then s.setTmr n.val false count.toNat else s)

/-- TMR_CAPTURE (R578): `count` is the running count; a stopped timer's count stands in TMR_COUNT. -/
def execTmrCapture (n : Fin 4) (count : Word) (s : State) : Out :=
  let s := s.takeTask (TK.TMR_CAP n.val)
  let s := if s.tmrRuns n.val then s.setTmr n.val true count.toNat else s
  .next ((s.put (Fld.TMR_CAPT_VAL n.val) (s.get (Fld.TMR_COUNT_VAL n.val))).fire (EV.TMR_CAP n.val))

/-- TMR_COMPARE (R578). -/
def execTmrCompare (n : Fin 4) (s : State) : Out :=
  if !s.tmrRuns n.val then .next s
  else
    let s := s.setTmr n.val (!s.has (Fld.TMR_CFG_ONESHOT n.val)) (s.get (Fld.TMR_CMP_VAL n.val))
    .next (s.fire (EV.TMR_CMP n.val))

/-- TMR_OVERFLOW (R578). -/
def execTmrOverflow (n : Fin 4) (s : State) : Out :=
  .next (if s.tmrRuns n.val then (s.setTmr n.val true 0).fire (EV.TMR_OVF n.val) else s)

/-! ### ADC (R579) -/

/-- ADC_START (R579). A sequence of no channel is none. -/
def execAdcStart (s : State) : Out :=
  let s := s.takeTask TK.ADC_START
  let chans := bitsOf 11 (s.get Fld.ADC_CFG_CHANS)
  .next (if s.has Fld.ADC_CFG_EN && !s.per.adcRunning && !chans.isEmpty then
    { s with per := { s.per with adcRunning := true, adcTodo := chans } } else s)

/-- ADC_CONVERSION_DONE (R579). -/
def execAdcConversionDone (result : BitVec 12) (s : State) : Out :=
  match s.per.adcTodo with
  | [] => .next s
  | c :: todo =>
    let r := result.toNat
    let full := decide (8 ≤ s.per.adcFifo.length)
    let s := if full then s.flag Fld.ADC_FLAGS_OVF
             else { s with per := { s.per with adcFifo := s.per.adcFifo ++ [(c, r)] } }
    let s := if !full && s.per.adcFifo.length == 8 then s.fire EV.ADC_FULL else s
    let s := if r < s.get Fld.ADC_LIMIT_LOW ∨ s.get Fld.ADC_LIMIT_HIGH < r then s.fire EV.ADC_LIMIT else s
    let s := { s with per := { s.per with adcTodo := todo, adcRunning := !todo.isEmpty } }
    .next (if todo.isEmpty then s.fire EV.ADC_DONE else s)

/-- ADC_STOP: the running sequence ends. -/
def execAdcStop (s : State) : Out :=
  let s := s.takeTask TK.ADC_STOP
  .next (if s.per.adcRunning then
    { s with per := { s.per with adcRunning := false, adcTodo := [] } }.fire EV.ADC_DONE else s)

/-- ADC_RESULT_READ (R579). What CHAN and RESULT give beside VALID = 0 is not stated: a free value. -/
def execAdcResultRead (s : State) : Out :=
  match s.per.adcFifo with
  | [] =>
    .next { s.freeNext with bus := .data (BitVec.ofNat 32 (s.freeNat % 16 * 2 ^ 16 + s.freeNat / 16 % 4096)) }
  | (c, r) :: t =>
    .next { s with per := { s.per with adcFifo := t }, bus := .data (BitVec.ofNat 32 (2 ^ 31 + c * 2 ^ 16 + r)) }

/-! ### CAN (R581, R582, R591, R592) -/

/-- Does the controller take part in the bus (R592)? -/
def State.canOn (s : State) : Bool := s.has Fld.CAN_CTL_EN && !s.has Fld.CAN_CTL_INIT

/-- The error counters as ISO 11898-1 leaves them, with the flags and the state they set. -/
def canCounters (tec rec : Nat) (s : State) : State :=
  let was := max (s.get Fld.CAN_STAT_TEC) (s.get Fld.CAN_STAT_REC)
  let now := max tec rec
  let s := (s.put Fld.CAN_STAT_TEC tec).put Fld.CAN_STAT_REC rec
  let s := if was < 96 ∧ 96 ≤ now then s.flag Fld.CAN_FLAGS_WARN else s
  let s := if was < 128 ∧ 128 ≤ now then s.flag Fld.CAN_FLAGS_PASSIVE else s
  s.put Fld.CAN_STAT_STATE (if 128 ≤ now then 1 else 0)

/-- A write to CAN_CTL: EN and INIT decide whether the controller runs (R592). -/
def canCtlWrite (v : Nat) (s : State) : State :=
  let was := s.canOn
  let busOff := s.get Fld.CAN_STAT_STATE == 2
  let s := s.wr Reg.CAN_CTL (BitVec.ofNat 32 v &&& 0x0000033F#32)
  if s.canOn then
    if was then s
    else if busOff then ((s.put Fld.CAN_STAT_STATE 0).put Fld.CAN_STAT_TEC 0).put Fld.CAN_STAT_REC 0
    else s.put Fld.CAN_STAT_STATE (if 128 ≤ max (s.get Fld.CAN_STAT_TEC) (s.get Fld.CAN_STAT_REC) then 1 else 0)
  else if busOff ∧ s.has Fld.CAN_CTL_EN then s
  else s.put Fld.CAN_STAT_STATE 3

/-- CAN_TXREQ (R591): a write, or TK_CAN_TXREQ with the buffers of CAN_TRIGMASK. -/
def execCanTxreq (byTask : Bool) (value : Word) (s : State) : Out :=
  let s := if byTask then s.takeTask TK.CAN_TXREQ else s
  let w := if byTask then s.rd Reg.CAN_TRIGMASK else value
  let s := if s.rd Reg.CAN_TXREQ = 0 then s else { s with per := { s.per with canNew := s.per.canNew ||| w } }
  .next (s.wr Reg.CAN_TXREQ (s.rd Reg.CAN_TXREQ ||| w))

/-- CAN_TXABORT (R591): requests that have not entered arbitration are withdrawn; `arbitrating` has. -/
def execCanTxabort (value : Word) (arbitrating : Option (Fin 32)) (s : State) : Out :=
  let arb := match arbitrating with
    | some b => 1#32 <<< b.val
    | none => 0#32
  let gone := s.rd Reg.CAN_TXREQ &&& value &&& ~~~arb
  let s := s.wr Reg.CAN_TXREQ (s.rd Reg.CAN_TXREQ &&& ~~~gone)
  .next (if gone = 0 then s else s.flag Fld.CAN_FLAGS_TXABORT)

/-- Address of message buffer b. -/
def canBuf (b : Nat) : Nat := 0x400D8000 + 72 * b

/-- Is buffer c offered before buffer b: the lower identifier first, then the lower index (R591)? -/
def canBefore (s : State) (c b : Nat) : Bool :=
  let ic := s.num (canBuf c) 4 % 2 ^ 29
  let ib := s.num (canBuf b) 4 % 2 ^ 29
  ic < ib || (ic == ib && c < b)

/-- May buffer b be the one that was sent: a requested transmit buffer before which none is offered that was requested in time for
its arbitration (R591)? In listen-only mode nothing is sent. -/
def canMaySend (s : State) (b : Nat) : Bool :=
  s.canOn && !s.has Fld.CAN_CTL_LISTEN && s.bit Reg.CAN_TXREQ b && s.bit Reg.CAN_BUFDIR b
  && (List.range 32).all (fun c => !(s.bit Reg.CAN_TXREQ c && s.bit Reg.CAN_BUFDIR c && !s.per.canNew.getLsbD c && canBefore s c b))

/-- The transmitter delay measured in an FD frame with BRS (R592): a free value. -/
def canDelay (b : Nat) (s : State) : State :=
  if s.has Fld.CAN_CTL_TDCEN ∧ s.has (Fld.CAN_BUFCTL_BRS b) ∧ 2 ^ 31 ≤ s.num (canBuf b) 4 then
    (s.put Fld.CAN_TDC_TDCV s.freeNat).freeNext
  else s

/-- CAN_TX_DONE (R591, R582). -/
def execCanTxDone (buf : Fin 32) (stamp : Word) (tec : BitVec 8) (s : State) : Out :=
  let b := buf.val
  if !canMaySend s b then .next s
  else
    let s := canDelay b { s with per := { s.per with canNew := 0 } }
    let s := (s.putBit Reg.CAN_TXREQ b false).putBit Reg.CAN_TXDONE b true
    let s := canCounters tec.toNat (s.get Fld.CAN_STAT_REC) (s.setWord (canBuf b + 4) stamp)
    .next (s.fire EV.CAN_TX)

/-- Does buffer b's filter match a frame (R591)? -/
def canMatches (s : State) (word0 : Nat) (b : Nat) : Bool :=
  !s.bit Reg.CAN_BUFDIR b && s.has (Fld.CAN_FILT_EN b) && s.get (Fld.CAN_FILT_IDE b) == word0 / 2 ^ 29 % 2
  && ((word0 % 2 ^ 29) ^^^ s.get (Fld.CAN_FILT_ID b)) &&& s.get (Fld.CAN_MASK_MASK b) == 0

/-- CAN_FRAME_RX (R591, R582). -/
def execCanFrameRx (word0 : Word) (dlc : Fin 16) (brs : Bool) (esi : Bool) (data : List Byte) (stamp : Word) (rec : BitVec 8)
    (s : State) : Out :=
  if !s.canOn then .next s
  else
    let s := canCounters (s.get Fld.CAN_STAT_TEC) rec.toNat s
    let hits := (List.range 32).filter (canMatches s word0.toNat)
    match hits.find? (fun b => !s.bit Reg.CAN_RXFULL b) with
    | some b =>
      let s := (s.setWord (canBuf b) word0).setWord (canBuf b + 4) stamp
      let s := s.setBytes (canBuf b + 8) (data.take 64)
      let s := ((s.put (Fld.CAN_BUFCTL_DLC b) dlc.val).put (Fld.CAN_BUFCTL_BRS b) (if brs then 1 else 0)).put
        (Fld.CAN_BUFCTL_ESI b) (if esi then 1 else 0)
      .next ((s.putBit Reg.CAN_RXFULL b true).fire EV.CAN_RX)
    | none => .next (if hits.isEmpty then s else (s.flag Fld.CAN_FLAGS_RXOVR).inc Fld.CAN_ERRCNT_RXOVRS)

/-- CAN_PROTOCOL_ERROR (R592): the counters are as ISO 11898-1 leaves them. -/
def execCanProtocolError (type : Fin 7) (tec : BitVec 8) (rec : BitVec 8) (s : State) : Out :=
  if !s.canOn then .next s
  else
    let s := canCounters tec.toNat rec.toNat ((s.put Fld.CAN_STAT_LASTERR type.val).flag Fld.CAN_FLAGS_PROTERR)
    .next ((s.inc Fld.CAN_ERRCNT_PROTERRS).fire EV.CAN_ERR)

/-- CAN_BUS_OFF (R592). -/
def execCanBusOff (s : State) : Out :=
  if !s.canOn then .next s
  else
    let s := ((s.flag Fld.CAN_CTL_INIT).put Fld.CAN_STAT_STATE 2).flag Fld.CAN_FLAGS_BUSOFF
    .next ((s.inc Fld.CAN_ERRCNT_BUSOFFS).fire EV.CAN_BUSOFF)

/-- CAN_BUSOFF_RECOVERY (R592). -/
def execCanBusoffRecovery (s : State) : Out :=
  .next (if s.get Fld.CAN_STAT_STATE = 2 ∧ s.has Fld.CAN_CTL_ABOM then
    canCtlWrite ((s.rd Reg.CAN_CTL).toNat - 256 * s.get Fld.CAN_CTL_INIT) s else s)

/-! ### Mailboxes and the interrupt pin of the host port (R587 to R590) -/

/-- HOSTP_IRQSTAT.MBOX and ERR follow MBTOHOST and HOSTP_FLAGS. -/
def hostSync (s : State) : State :=
  let mine := s.get Fld.HOSTP_MBTOHOST_FULL / 2 ^ eb s.ringCfg 22
  (s.put Fld.HOSTP_IRQSTAT_MBOX (if mine = 0 then 0 else 1)).put Fld.HOSTP_IRQSTAT_ERR
    (if s.rd Reg.HOSTP_FLAGS = 0 then 0 else 1)

/-- HOSTP_IRQN is driven low (R590). -/
def State.hostIrqLow (s : State) : Bool :=
  s.domOn 12 && (((hostSync s).rd Reg.HOSTP_IRQSTAT &&& s.rd Reg.HOSTP_IRQEN) != 0)

/-- The slots of the host port in a mailbox mask (R587). -/
def hostSlots (s : State) (mask : Nat) : Nat := mask / 2 ^ eb s.ringCfg 22 * 2 ^ eb s.ringCfg 22

/-- A write of HOSTP_MBSET (R588): host-bound slots by the low half, device-bound ones by the high half. -/
def mbsetWrite (v : Nat) (s : State) : State :=
  let dir := s.get Fld.HOSTP_MBDIR_TOHOST
  let up := hostSlots s (v % 2 ^ 16) &&& dir
  let down := hostSlots s (v / 2 ^ 16) &&& (2 ^ 16 - 1 - dir)
  let s := if up = 0 then s
    else (s.put Fld.HOSTP_MBTOHOST_FULL (s.get Fld.HOSTP_MBTOHOST_FULL ||| up)).fire EV.HOSTP_MBOX
  let s := if down = 0 then s
    else (s.put Fld.HOSTP_MBTODEV_FULL (s.get Fld.HOSTP_MBTODEV_FULL ||| down)).fire EV.HOSTP_DOORBELL
  hostSync s

/-- HOST_MBSET (R588); either side writes the one register. -/
def execHostMbset (master : Master) (value : Word) (s : State) : Out :=
  .next (if s.issues master then mbsetWrite value.toNat s else s)

/-- HOSTP_IRQ_TASK (R590). -/
def execHostpIrqTask (s : State) : Out := .next ((s.takeTask TK.HOSTP_IRQ).flag Fld.HOSTP_IRQSTAT_SW)

end Sys2Proof.Machine
end

