-- ==== Sys2Proof/Machine/RegWrite.lean ====
section
/-!
DEFINITION. Bus writes (R3 to R5, R14, R15, R463, R494): where an address leads, what a register stores by the access
classes of its bits and by the ranges its field tables give, and the registers whose write is a command of its own.
-/

namespace Sys2Proof.Machine

/-! ### Where an address leads -/

/-- The domain that holds the block at a register address (Table ARCH-1, Table ARCH-3). -/
def busDomain (a : Nat) : Nat :=
  if 0x50000000 ≤ a then 1
  else if a < 0x40020000 then 12
  else if a < 0x40024000 then 9
  else if a < 0x40028000 then 10
  else if a < 0x40040000 then 8
  else if a < 0x40070000 then 11
  else if a < 0x40080000 then 7
  else if a < 0x40090000 then 12
  else if a < 0x400A0000 then 11
  else 12

/-- Is an address in a register window (Table ARCH-3)? -/
def inRegisters (a : Nat) : Bool := (0x40000000 ≤ a && a < 0x40100000) || (0x50000000 ≤ a && a < 0x50007000)

def inLinkRam (a : Nat) : Bool := 0x28000000 ≤ a && a < 0x28020000

def inRom (a : Nat) : Bool := 0x01000000 ≤ a && a < 0x01010000

def inSram (a : Nat) : Bool := 0x20000000 ≤ a && a < 0x20180000

/-- The job RAM of CIPHER, the operand RAM of PKE, the buffer RAM of CAN. -/
def inJobRam (a : Nat) : Bool := 0x40054000 ≤ a && a < 0x40058000
def inOperandRam (a : Nat) : Bool := pkeD ≤ a && a < pkeD + 224
def inCanRam (a : Nat) : Bool := 0x400D8000 ≤ a && a < 0x400D8900
def inBlockRam (a : Nat) : Bool := inJobRam a || inOperandRam a || inCanRam a

/-- Does an access to a register window or block RAM answer with a bus error (R3, R14, R15)? -/
def regBars (s : State) (m : Master) (a n : Nat) : Bool :=
  !inRegisters a || !s.reaches m a || !s.domOn (busDomain a)
  || (if inBlockRam a then a % n != 0 else n != 4 || a % 4 != 0)

/-- Where a command leads, as a state. -/
def landed (o : Out) (s : State) : State :=
  match o with
  | .next t => t
  | .fault _ => s
  | .refused _ => s

/-- A number as an index below n. -/
def index (n : Nat) [NeZero n] (x : Nat) : Fin n := Fin.ofNat n x

/-- One free bit, for a condition that no command brings. -/
def freeBit (s : State) : Bool := s.freeNat % 2 == 1

/-! ### What a register stores -/

/-- A range of a field: values below lo are stored as `below`, values above hi as `above`. -/
structure Clamp where
  f : Field
  lo : Nat
  hi : Nat
  below : Nat
  above : Nat
  deriving DecidableEq, Repr

/-- A field from 1 up whose 0 is stored as 1. -/
def fromOne (f : Field) : Clamp := ⟨f, 1, 2 ^ f.width - 1, 1, 1⟩

/-- A field whose values outside lo to hi are stored as the nearer end. -/
def within (f : Field) (lo hi : Nat) : Clamp := ⟨f, lo, hi, lo, hi⟩

/-- The ranges that the field tables state. -/
def clamps : List Clamp :=
  [fromOne Fld.SYSCFG_CFGCHK_PERIOD, ⟨Fld.TIDE_LOOP_SLEWK, 16, 24, 20, 20⟩, within Fld.TIDE_WAKELEAD_LEAD 2048 (2 ^ 20 - 1),
   fromOne (Fld.LANE_CALCFG_TEMPTHR 0), fromOne (Fld.LANE_CALCFG_TEMPTHR 1), fromOne Fld.RF_RC64CFG_PERIOD,
   fromOne Fld.MODEM_LOADCFG_SLOTIDLE, fromOne Fld.MODEM_LOADCFG_LOADFALL, within Fld.MODEM_LOADCFG_PROFMIN 3 15,
   within Fld.MODEM_RXCFG_AFCK 0 7, within Fld.MODEM_RXCFG_SYNCTHR 6 15, within Fld.MODEM_RXCFG_DETTHR 4 15,
   within Fld.MODEM_RXCFG_CAPTHR 3 12, fromOne Fld.MODEM_AGCCFG_OVLCLIP]
  ++ [fromOne Fld.LINK_ACCCFG_MINMIC, fromOne Fld.LINK_ACCCFG_WINDOW, fromOne Fld.LINK_FBCFG_FBAGE,
   within Fld.LINK_SCHCFG_LEAD 1280 4095, fromOne Fld.LINK_ACKCFG_DACKTO, within Fld.LINK_POOLCFG_RXCELLS 16 64,
   fromOne Fld.RING_CTL_GAPPER, fromOne Fld.CIPHER_STCFG_PERIOD, fromOne Fld.TRNG_CTL_RESEED, fromOne Fld.KEYSTORE_CFG_MASKPER,
   within Fld.KEYSTORE_CTXLEN_LEN 0 64, fromOne Fld.FLASHC_EWTHR_THR, fromOne Fld.PMU_CFG_RESLEEP,
   within Fld.SUPMON_CFG_WARN 0 52, fromOne Fld.SYSCFG_CWDTCFG_TIMEOUT, fromOne Fld.LWDT_CFG_TIMEOUT,
   within Fld.LIFE_CFG_PERIOD 1 1440]
  ++ (List.range 3).map (fun n => within (Fld.UART_CFG_DIV n) 256 (2 ^ 20 - 1))

/-- The ranges of the register at a. -/
def clampsAt (a : Nat) : List Clamp :=
  if Reg.FABRIC_SLCFG 0 ≤ a ∧ a < Reg.FABRIC_SLCFG 256 then [⟨⟨a, 8, 8⟩, 1, 64, 8, 64⟩]
  else clamps.filter (fun c => c.f.addr == a)

def clampApply (v : Nat) (c : Clamp) : Nat :=
  let x := v / 2 ^ c.f.lo % 2 ^ c.f.width
  fieldPut c.f (if x < c.lo then c.below else if c.hi < x then c.above else x) v

/-- The signed ranges: LANE_PWR.LEVEL (R163), MODEM_AGCCFG.TARGET. -/
def clampSigned (a v : Nat) : Nat :=
  if a = Reg.LANE_PWR 0 ∨ a = Reg.LANE_PWR 1 then fieldPut ⟨a, 0, 8⟩ (ofS 8 (clampLevel (toS 8 v))) v
  else if a = Reg.MODEM_AGCCFG then fieldPut ⟨a, 0, 8⟩ (ofS 8 (max (-30) (min (toS 8 v) (-6)))) v
  else v

/-- The value that a write of v to the register at a asks it to hold. -/
def storedAs (a v : Nat) : Nat := clampSigned a ((clampsAt a).foldl clampApply v)

/-- Store by the access classes (Table SCOPE-2). A reserved offset takes nothing (R4). -/
def classWrite (a v : Nat) (s : State) : State :=
  match rowOf a with
  | none => s
  | some r =>
    let x := BitVec.ofNat 32 (storedAs a v)
    let mask := BitVec.ofNat 32 (r.rw ||| r.wo ||| (if s.committed then 0 else r.rwl))
    let old := s.rd a
    s.wr a ((((old &&& ~~~mask) ||| (x &&& mask)) &&& ~~~(x &&& BitVec.ofNat 32 r.w1c)) ||| (x &&& BitVec.ofNat 32 r.w1s))

/-- Keep a field of a written value as the register holds it. -/
def keepField (s : State) (f : Field) (v : Nat) : Nat := fieldPut f (s.get f) v

/-! ### Registers with effects of their own, block by block -/

/-- SYSCFG_RSTREQ (R550, R561). -/
def rstreqWrite (v : Nat) (s : State) : State :=
  if v / 2 ^ 16 ≠ 0x4B1D then s
  else
    let clr := testBit' v 8
    match v % 4 with
    | 1 => landed (execRstreqWarm s) s
    | 2 => landed (execRstreqSystem clr s) s
    | 3 => landed (execRstreqFull clr s) s
    | _ => s

/-- SYSCFG_PATCHCTL (R70, R76). -/
def patchctlWrite (v : Nat) (s : State) : State :=
  if v % 2 = 1 then landed (execPatchStart (index 4 (v / 2)) s) s
  else if v / 2 % 4 = 2 then landed (execPatchDiscard s) s
  else s.put Fld.SYSCFG_PATCHCTL_MODE (v / 2)

/-- SYSCFG_CWDTCFG (R568): TIMEOUT stands while EN = 1; the count starts with EN. -/
def cwdtWrite (v : Nat) (s : State) : State :=
  let was := s.has Fld.SYSCFG_CWDTCFG_EN
  let s := classWrite Reg.SYSCFG_CWDTCFG (if was then keepField s Fld.SYSCFG_CWDTCFG_TIMEOUT v else v) s
  if !was && s.has Fld.SYSCFG_CWDTCFG_EN then cwdtRestart s else s

def writeSyscfg (a : Nat) (value : Word) (s : State) : State :=
  let v := value.toNat
  if a = Reg.SYSCFG_CLKCFG then landed (execClkcfgWrite value s) s
  else if a = Reg.SYSCFG_SALTCMT then (if v / 2 ^ 16 = 0x5A17 ∧ v % 2 = 1 then landed (execSaltcmtCommit s) s else s)
  else if a = Reg.SYSCFG_PATCHCTL then patchctlWrite v s
  else if a = Reg.SYSCFG_RSTREQ then rstreqWrite v s
  else if a = Reg.SYSCFG_BOOTOK then (if v / 2 ^ 16 = 0x600D then landed (execBootokConfirm s) s else s)
  else if a = Reg.SYSCFG_CWDTKICK then landed (execCwdtKick value s) s
  else if a = Reg.SYSCFG_CPUCTL then landed (execCpu1Start value s) s
  else if a = Reg.SYSCFG_CWDTCFG then cwdtWrite v s
  else classWrite a v s

def writeFabric (a : Nat) (value : Word) (s : State) : State :=
  if Reg.FABRIC_FIRE 0 ≤ a ∧ a < Reg.FABRIC_FIRE 8 then
    landed (execFabricFireWrite (index 8 ((a - Reg.FABRIC_FIRE 0) / 4)) value s) s
  else if Reg.FABRIC_QUAR 0 ≤ a ∧ a < Reg.FABRIC_QUAR 8 then
    landed (execFabricQuarRelease (index 8 ((a - Reg.FABRIC_QUAR 0) / 4)) value s) s
  else classWrite a value.toNat s

/-- LANE_CTL: OWNER first, then the requests. A write whose OWNER change R152 refuses is ignored whole. -/
def laneCtlWrite (l : Lane) (v : Nat) (s : State) : State :=
  let refused := s.has (Fld.LANE_CTL_OWNER l.val) != testBit' v 0 && decide (1 < s.laneSt l.val)
  if refused then landed (execLaneOwnerWrite l (testBit' v 0) s) s else
  let s := landed (execLaneOwnerWrite l (testBit' v 0) s) s
  let s := if testBit' v 8 then landed (execLaneHealthreq l false s) s else s
  let s := if testBit' v 9 then landed (execLaneRetire l s) s else s
  if testBit' v 10 then landed (execLaneRestore l s) s else s

/-- LANE_CMD. The modulation of a stepwise transmission is not in the command: a free value. -/
def laneCmdWrite (l : Lane) (v : Nat) (s : State) : State :=
  match v % 8 with
  | 1 => landed (execLaneSleep l false s) s
  | 2 => landed (execLaneStandby l false s) s
  | 3 => landed (execLaneSynth l false (testBit' v 4) s) s
  | 4 => landed (execLaneRx l false s) s
  | 5 => landed (execLaneTx l false (index 5 s.freeNat) s.freeNext) s
  | 6 => landed (execLaneAbort l false s) s
  | _ => s

def writeLane (l : Lane) (a : Nat) (value : Word) (s : State) : State :=
  if a = Reg.LANE_CTL l.val then laneCtlWrite l value.toNat s
  else if a = Reg.LANE_CMD l.val then laneCmdWrite l value.toNat s
  else if a = Reg.LANE_CALREQ l.val then landed (execCalreqWrite l value s) s
  else classWrite a value.toNat s

def writeRf (a : Nat) (value : Word) (s : State) : State :=
  if a = Reg.RF_PORTMAP then landed (execPortmapWrite value s) s
  else if a = Reg.RF_PAIR then landed (execRfPairWrite value s) s
  else if a = Reg.RF_XTRIM then landed (execXtrimWrite value s) s
  else if Reg.RF_SWTIGHT 0 ≤ a ∧ a < Reg.RF_SWTIGHT 8 then
    landed (execSwtightWrite (index 8 ((a - Reg.RF_SWTIGHT 0) / 8)) ((a - Reg.RF_SWTIGHT 0) / 4 % 2 == 1) value s) s
  else classWrite a value.toNat s

/-- A software write of MODEM_PANAA or MODEM_PANCRC of pan p (R253). -/
def panWordWrite (p a v : Nat) (s : State) : State :=
  if s.has (Fld.LANE_CTL_OWNER (p / 8)) then classWrite a v s else s.flag Fld.MODEM_RXFLAGS_CFGREJ

def writeModem (a : Nat) (value : Word) (s : State) : State :=
  if a = Reg.MODEM_SLOTINV then landed (execSlotinvWrite value s) s
  else if Reg.MODEM_PANCFG 0 ≤ a ∧ a < Reg.MODEM_PANCFG 16 then
    landed (execPancfgWrite false (index 16 ((a - Reg.MODEM_PANCFG 0) / 4)) value s) s
  else if Reg.MODEM_PANAA 0 ≤ a ∧ a < Reg.MODEM_PANAA 16 then panWordWrite ((a - Reg.MODEM_PANAA 0) / 4) a value.toNat s
  else if Reg.MODEM_PANCRC 0 ≤ a ∧ a < Reg.MODEM_PANCRC 16 then panWordWrite ((a - Reg.MODEM_PANCRC 0) / 4) a value.toNat s
  else classWrite a value.toNat s

/-- LINK_TLCMD. -/
def tlcmdWrite (v : Nat) (s : State) : State :=
  match v / 2 ^ 8 % 4 with
  | 1 => landed (execTlArm (index 64 v) false s) s
  | 2 => landed (execTlCancel (index 64 v) s) s
  | _ => s

/-- LINK_CTXCMD. -/
def ctxcmdWrite (v : Nat) (s : State) : State :=
  let c := index 512 v
  match v / 2 ^ 12 % 8 with
  | 1 => landed (execCtxOpen c s) s
  | 2 => landed (execCtxClose c s) s
  | 3 => landed (execCtxRekey c s) s
  | 4 => landed (execCtxSetpwr c s) s
  | 5 => landed (execCtxSetmap c s) s
  | 6 => landed (execCtxConnect c s) s
  | 7 => landed (execCtxDisconnect c s) s
  | _ => s

/-- LINK_LESTAGE. -/
def lestageWrite (v : Nat) (s : State) : State :=
  let c := index 512 v
  match v / 2 ^ 12 % 4 with
  | 1 => landed (execLeStageConnUpdate c s) s
  | 2 => landed (execLeStageChmap c s) s
  | 3 => landed (execLeStagePhy c s) s
  | _ => s

def writeLink (a : Nat) (value : Word) (s : State) : State :=
  let v := value.toNat
  if a = Reg.LINK_TLCMD then tlcmdWrite v s
  else if a = Reg.LINK_CTXCMD then ctxcmdWrite v s
  else if a = Reg.LINK_LESTAGE then lestageWrite v s
  else if a = Reg.LINK_LEPUSH then landed (execLePush value s) s
  else if a = Reg.LINK_RXQPOP then landed (execRxqPop value s) s
  else if a = Reg.LINK_POOLCFG then refreshRxq (classWrite a v s)
  else if Reg.LINK_NETKEY 0 ≤ a ∧ a < Reg.LINK_NETKEY 16 then
    landed (execNetkeyWrite (index 16 ((a - Reg.LINK_NETKEY 0) / 4)) value s) s
  else if Reg.LINK_NETCTR 0 ≤ a ∧ a < Reg.LINK_NETCTR 16 then
    landed (execNetctrWrite (index 16 ((a - Reg.LINK_NETCTR 0) / 4)) value s) s
  else classWrite a v s

/-- CIPHER_CTL: the enables, then RESTORE and the flushes. -/
def cipherCtlWrite (v : Nat) (s : State) : State :=
  let s := (s.put Fld.CIPHER_CTL_Q1EN (v / 2)).put Fld.CIPHER_CTL_Q0EN v
  let s := if v / 2 ^ 8 % 16 = 0 then s else landed (execCipherRestore (BitVec.ofNat 4 (v / 2 ^ 8)) s) s
  let s := if testBit' v 2 then landed (execCipherFlush 0 s) s else s
  let s := if testBit' v 3 then landed (execCipherFlush 1 s) s else s
  cipherRun (freeBit s) s.freeNext

/-- Does queue q hold a pending descriptor? -/
def queuePending (s : State) (q : Nat) : Bool := s.get (Fld.CIPHER_QHEAD_HEAD q) != s.get (Fld.CIPHER_QTAIL_TAIL q)

def writeCipher (m : Master) (a : Nat) (value : Word) (s : State) : State :=
  let q := (a - Reg.CIPHER_QCFG 0) / 16
  if a = Reg.CIPHER_CTL then cipherCtlWrite value.toNat s
  else if a = Reg.CIPHER_KEYCLR then landed (execKeyclrWrite value s) s
  else if a = Reg.CIPHER_QTAIL 0 ∨ a = Reg.CIPHER_QTAIL 1 then
    landed (execCipherQtailWrite (index 2 q) m value (freeBit s) s.freeNext) s
  else if a = Reg.CIPHER_QCFG 0 ∨ a = Reg.CIPHER_QCFG 1 then (if queuePending s q then s else classWrite a value.toNat s)
  else classWrite a value.toNat s

/-- PKE_CMD (Table CIPH-6); a failing check of a handle's slot is a free condition. -/
def pkeCmdWrite (m : Master) (cmd : Word) (s : State) : State :=
  let f := freeBit s
  match cmd.toNat % 8 with
  | 1 => landed (execPkeKeygen m cmd f s.freeNext) s
  | 2 => landed (execPkeEcdh m cmd f s.freeNext) s
  | 3 => landed (execPkeSign m cmd f s.freeNext) s
  | 4 => landed (execPkeVerify m cmd f s.freeNext) s
  | 5 => landed (execPkeValidate m cmd f s.freeNext) s
  | _ => s

/-- PKE_SHACTL: INIT, then FINAL. -/
def shactlWrite (m : Master) (v : Nat) (s : State) : State :=
  let s := if testBit' v 0 then landed (execShaInit m s) s else s
  if testBit' v 1 then landed (execShaFinal m (index 4 (v / 16)) s) s else s

def writePke (m : Master) (a : Nat) (value : Word) (s : State) : State :=
  if a = Reg.PKE_CLAIM then landed (execPkeClaimWrite m (testBit' value.toNat 0) s) s
  else if a = Reg.PKE_CMD then pkeCmdWrite m value s
  else if a = Reg.PKE_SHACTL then shactlWrite m value.toNat s
  else if a = Reg.PKE_SHADATA then landed (execShaData m value s) s
  else classWrite a value.toNat s

/-- TRNG_CTL (R431, R434): clearing EN stops the source; setting EN or RESTART begins a start-up. -/
def trngCtlWrite (v : Nat) (s : State) : State :=
  let was := s.has Fld.TRNG_CTL_EN
  let s := (s.put Fld.TRNG_CTL_RESEED (max 1 (v / 2 ^ 16))).put Fld.TRNG_CTL_EN v
  if !s.has Fld.TRNG_CTL_EN then trngStop s
  else if testBit' v 1 then landed (execTrngRestart s) s
  else if was then s
  else { s with trng := { s.trng with starting := true } }

def writeTrng (a : Nat) (value : Word) (s : State) : State :=
  if a = Reg.TRNG_CTL then trngCtlWrite value.toNat s else classWrite a value.toNat s

/-- KEYSTORE_CMD; a failing integrity check is a free condition. -/
def keyCmdWrite (m : Master) (v : Nat) (s : State) : State :=
  let slot := index 256 (v / 2 ^ 8)
  let f := freeBit s
  match v % 16 with
  | 1 => landed (execKeyDerive m slot f s.freeNext) s
  | 2 => landed (execKeyImport m slot (BitVec.ofNat 16 (v / 2 ^ 16)) f s.freeNext) s
  | 3 => landed (execKeyInvalidate m slot s) s
  | 4 => landed (execKeyRestrict m slot s) s
  | 5 => landed (execKeyRootgen m s) s
  | _ => keyCommand m false (fun s => s) s

def writeKeystore (m : Master) (a : Nat) (value : Word) (s : State) : State :=
  if a = Reg.KEYSTORE_CMD then keyCmdWrite m value.toNat s
  else if a = Reg.KEYSTORE_LCREQ then landed (execLcRequest m value s) s
  else if a = Reg.KEYSTORE_GLREQ then landed (execGlRequest m value s) s
  else classWrite a value.toNat s

/-- FLASHC_CMD of bank b: its key, then the command; others than ERASE to DISCARD end with 0x060C. -/
def flashCmdWrite (b : Fin 2) (value : Word) (s : State) : State :=
  let op := value.toNat % 16
  if op = 0 then s
  else if value.toNat / 2 ^ 24 ≠ 0xA5 then flashCode b.val 0x060C s
  else match op with
    | 1 => landed (execFlashErase b value s) s
    | 2 => landed (execFlashSuspend b false s) s
    | 3 => landed (execFlashResume b false s) s
    | 4 => landed (execFlashDiscard b s) s
    | _ => flashCode b.val 0x060C s

/-- FLASHC_PDATA of bank b: words 0 to 2 wait for word 3, which starts the unit (R499). -/
def pdataWrite (b : Fin 2) (a : Nat) (value : Word) (s : State) : State :=
  if a = Reg.FLASHC_PDATA b.val 3 then landed (execFlashProgramUnit b value s) s
  else
    let s := classWrite a value.toNat s
    s.setBank b.val { s.bank b.val with partialData := true }

def writeFlashc (a : Nat) (value : Word) (s : State) : State :=
  if a = Reg.FLASHC_CMD 0 ∨ a = Reg.FLASHC_CMD 1 then flashCmdWrite (index 2 ((a - Reg.FLASHC_CMD 0) / 4)) value s
  else if Reg.FLASHC_PDATA 0 0 ≤ a ∧ a ≤ Reg.FLASHC_PDATA 1 3 then pdataWrite (index 2 ((a - Reg.FLASHC_PDATA 0 0) / 16)) a value s
  else classWrite a value.toNat s

/-- MEMCTL_GRPCTL of group g. -/
def grpctlWrite (g : Fin 3) (v : Nat) (s : State) : State :=
  let s := s.put (Fld.MEMCTL_GRPCTL_RAKEPER g.val) v
  let s := if testBit' v 16 then landed (execRakeRequest g .write s) s else s
  let s := if testBit' v 17 then landed (execSramClear g s) s else s
  if testBit' v 18 then landed (execRakeStop g s) s else s

def writeMemctl (m : Master) (a : Nat) (value : Word) (s : State) : State :=
  if Reg.MEMCTL_GRPCTL 0 ≤ a ∧ a < Reg.MEMCTL_GRPCTL 3 then grpctlWrite (index 3 ((a - Reg.MEMCTL_GRPCTL 0) / 4)) value.toNat s
  else if Reg.MEMCTL_SEM 0 ≤ a ∧ a < Reg.MEMCTL_SEM 32 then
    landed (execSemWrite (index 32 ((a - Reg.MEMCTL_SEM 0) / 4)) m (testBit' value.toNat 0) s) s
  else classWrite a value.toNat s

/-- RING_CTL (R378, R391): EN starts or stops the port, SURVEY asks for a survey. -/
def ringCtlWrite (v : Nat) (s : State) : State :=
  let s := classWrite Reg.RING_CTL v s
  let s := if testBit' v 0 then { s with ring := { s.ring with left := false } } else s
  let s := refreshRing s
  if testBit' v 1 then landed (execSurveyStart false s) s else s

def writeRing (a : Nat) (value : Word) (s : State) : State :=
  if a = Reg.RING_CTL then ringCtlWrite value.toNat s
  else if a = Reg.RING_MBSEND then landed (execRingMbsend value s) s
  else classWrite a value.toNat s

/-- Give the output bits of GPIO_OUT[m] that a mask names their new values. -/
def gpioOut (m mask v : Nat) (s : State) : State :=
  s.forEach (bitsOf 32 mask) (fun k s => padOut (32 * m + k) (testBit' v k) s)

/-- GPIO_DIR[m]: a pad that begins to drive shows its output. -/
def gpioDir (m v : Nat) (s : State) : State :=
  let s := classWrite (Reg.GPIO_DIR m) v s
  s.forEach (bitsOf 32 v) (fun k s => padOut (32 * m + k) (s.bit (Reg.GPIO_OUT m) k) s)

def writeGpio (a : Nat) (v : Nat) (s : State) : State :=
  let m := a / 4 % 2
  if a = Reg.GPIO_OUT m then gpioOut m (2 ^ 32 - 1) v s
  else if a = Reg.GPIO_OUTSET m then gpioOut m v (2 ^ 32 - 1) s
  else if a = Reg.GPIO_OUTCLR m then gpioOut m v 0 s
  else if a = Reg.GPIO_DIR m then gpioDir m v s
  else classWrite a v s

/-- UART, SPIM, I2C. How many characters have left a transmit FIFO since the last push is free. -/
def writeSerial (a : Nat) (value : Word) (s : State) : State :=
  let n := a / 0x1000 % 16
  let octet := BitVec.ofNat 8 value.toNat
  if n < 3 ∧ a = Reg.UART_TXD n then landed (execUartTxPush (index 3 n) (index 17 s.freeNat) value s.freeNext) s
  else if n < 2 ∧ a = Reg.SPIM_DATA n then
    let l := nth [] s.per.spiTx n
    if l.length < 32 then s.setSpi n (l ++ [octet]) (nth [] s.per.spiRx n) (nth [] s.per.spiOut n) else s
  else if n < 4 ∧ a = Reg.I2C_DATA (n - 2) then
    let l := nth [] s.per.i2cTx (n - 2)
    if l.length < 16 then s.setI2c (n - 2) (l ++ [octet]) (nth [] s.per.i2cRx (n - 2)) (nth [] s.per.i2cOut (n - 2)) else s
  else classWrite a value.toNat s

/-- Is a register of CAN writable only while INIT = 1 (R592)? -/
def canHeld (a : Nat) : Bool :=
  a == Reg.CAN_NBT || a == Reg.CAN_DBT || a == Reg.CAN_TDC || a == Reg.CAN_BUFDIR
  || (Reg.CAN_FILT 0 ≤ a && a < Reg.CAN_FILT 32)

/-- CAN. Whether a withdrawn request has entered arbitration is free. -/
def writeCan (a : Nat) (value : Word) (s : State) : State :=
  if a = Reg.CAN_CTL then canCtlWrite value.toNat s
  else if a = Reg.CAN_TXREQ then landed (execCanTxreq false value s) s
  else if a = Reg.CAN_TXABORT then
    landed (execCanTxabort value (if freeBit s then some (index 32 (s.freeNat / 2)) else none) s.freeNext) s
  else if canHeld a ∧ !s.has Fld.CAN_CTL_INIT then s
  else classWrite a value.toNat s

/-- HOSTP: only the host port's own slots (R587); IRQSTAT follows. -/
def writeHostp (m : Master) (a : Nat) (value : Word) (s : State) : State :=
  let v := value.toNat
  if a = Reg.HOSTP_MBSET then landed (execHostMbset m value s) s
  else if a = Reg.HOSTP_MBTOHOST ∨ a = Reg.HOSTP_MBTODEV ∨ a = Reg.HOSTP_MBDIR then hostSync (classWrite a (hostSlots s v) s)
  else hostSync (classWrite a v s)

def writePeriph (m : Master) (a : Nat) (value : Word) (s : State) : State :=
  if a < 0x400B0000 then writeGpio a value.toNat s
  else if a < 0x400D0000 then writeSerial a value s
  else if a < 0x400E0000 then writeCan a value s
  else if a < 0x400F0000 then classWrite a value.toNat s
  else writeHostp m a value s

/-- TIDE_CLKCTL: a write of RETURN asks for the return to the crystal, and clears at once without XTALOK (R125). The measured
difference is free. -/
def clkctlWrite (v : Nat) (s : State) : State :=
  let s := classWrite Reg.TIDE_CLKCTL v s
  if testBit' v 0 then landed (execXtalReturn ((s.freeNat % 2 ^ 24 : Nat) - 2 ^ 23) s.freeNext) s else s

def writeTide (a : Nat) (value : Word) (s : State) : State :=
  if a = Reg.TIDE_CFG then landed (execSrcselWrite value s) s
  else if a = Reg.TIDE_ADJ then landed (execTideAdjWrite value s) s
  else if a = Reg.TIDE_CLKCTL then clkctlWrite value.toNat s
  else if a = Reg.TIDE_RATE then panRecheck 1 (panRecheck 0 (classWrite a value.toNat s))
  else if Reg.TIDE_GATE_TLO 0 ≤ a ∧ a < Reg.TIDE_GATE_TLO 32 then
    landed (execGateRegisterWrite (index 32 ((a - Reg.TIDE_GATE_TLO 0) / 16)) (index 4 (a / 4)) value s) s
  else classWrite a value.toNat s

/-- LWDT_CFG (R569): TIMEOUT and SLEEPRUN stand while LOCK = 1; the count starts with EN. -/
def lwdtWrite (v : Nat) (s : State) : State :=
  let was := s.has Fld.LWDT_CFG_EN
  let v := if s.has Fld.LWDT_CFG_LOCK then keepField s Fld.LWDT_CFG_TIMEOUT (keepField s Fld.LWDT_CFG_SLEEPRUN v) else v
  let s := classWrite Reg.LWDT_CFG v s
  if !was && s.has Fld.LWDT_CFG_EN then s.put Fld.LWDT_STAT_REMAIN (s.get Fld.LWDT_CFG_TIMEOUT) else s

def writeAon (a : Nat) (value : Word) (s : State) : State :=
  let v := value.toNat
  if a = Reg.PMU_REQ then landed (execPmuStateRequest value s) s
  else if a = Reg.PMU_DOMCTL then landed (execDomctlWrite value s) s
  else if 0x50001000 ≤ a ∧ a < 0x50002000 then writeTide a value s
  else if a = Reg.LWDT_CFG then lwdtWrite v s
  else if a = Reg.LWDT_KICK then landed (execLwdtKick value s) s
  else if a = Reg.LIFE_CTL then (if testBit' v 0 then landed (execHarvestDue true s) s else s)
  else if a = Reg.BKP_TAMPLOCK then landed (execTamplockWrite value s) s
  else if a = Reg.BKP_TAMPCFG then (if s.has Fld.BKP_TAMPLOCK_LOCK then s else classWrite a v s)
  else if a = Reg.BKP_TAMPSTAT then landed (execTamperLatchClear value (BitVec.ofNat 8 (s.get Fld.BKP_TAMPSTAT_ACTIVE)) s) s
  else classWrite a v s

/-- A word written to the register at a. -/
def regWrite (m : Master) (a : Nat) (value : Word) (s : State) : State :=
  if 0x50000000 ≤ a then writeAon a value s
  else if a < 0x40010000 then writeSyscfg a value s
  else if a < 0x40020000 then writeFabric a value s
  else if a < 0x40024000 then writeLane 0 a value s
  else if a < 0x40028000 then writeLane 1 a value s
  else if a < 0x40030000 then writeRf a value s
  else if a < 0x40040000 then writeModem a value s
  else if a < 0x40050000 then writeLink a value s
  else if a < 0x40058000 then writeCipher m a value s
  else if a < 0x4005C000 then writePke m a value s
  else if a < 0x40060000 then writeTrng a value s
  else if a < 0x40070000 then writeKeystore m a value s
  else if a < 0x40080000 then writeFlashc a value s
  else if a < 0x40090000 then writeMemctl m a value s
  else if a < 0x400A0000 then writeRing a value s
  else writePeriph m a value s

/-! ### The bus -/

/-- A write to a block RAM: the operand RAM takes it from the owner of PKE only (R426). -/
def blockRamWrite (m : Master) (a n : Nat) (v : Nat) (s : State) : State :=
  if inOperandRam a ∧ !pkeOwns s m then pkeRefuse s else s.setNum a n (v % 256 ^ n)

/-- A bus write of an access size by a master. What an SRAM word shows while its line is read is free. -/
def busWrite (m : Master) (addr : Word) (size : AccessSize) (value : Word) (s : State) : State :=
  let a := addr.toNat
  let n := sizeOctets size
  if inSram a then landed (execSramWrite m addr size value (freeBit s) (index 3 (s.freeNat / 2)) s.freeNext) s
  else if inLinkRam a then
    (if !s.reaches m a || !s.domOn 11 || a % n != 0 then busError s else linkRamWrite a n value.toNat { s with bus := .done })
  else if regBars s m a n then busError s
  else if inBlockRam a then blockRamWrite m a n value.toNat { s with bus := .done }
  else regWrite m a value { s with bus := .done }

/-- REGISTER_WRITE (R5): a bus write; one whose register has a row of its own has that row's effect. -/
def execRegisterWrite (master : Master) (addr : Word) (size : AccessSize) (value : Word) (s : State) : Out :=
  .next (if s.issues master then busWrite master addr size value s else s)

end Sys2Proof.Machine
end

