-- ==== Sys2Proof/Machine/RegRead.lean ====
section
/-!
DEFINITION. Bus reads (R3 to R7, R14, R15): the value a register shows, what its read clears, the registers whose read is a
command of its own; the transactions of the host port (R583 to R586).
-/

namespace Sys2Proof.Machine

/-! ### Register reads -/

/-- Answer a read with a number. -/
def busAnswer (v : Nat) (s : State) : State := { s with bus := .data (BitVec.ofNat 32 v) }

/-- The registers whose value follows other state: PMU_DOMSTAT, MEMCTL_GRPSTAT.ON, HOSTP_IRQSTAT. -/
def liveValue (s : State) (a : Nat) : Word :=
  if a = Reg.PMU_DOMSTAT then domStat s
  else if Reg.MEMCTL_GRPSTAT 0 ≤ a ∧ a < Reg.MEMCTL_GRPSTAT 3 then
    BitVec.ofNat 32 (fieldPut ⟨a, 0, 1⟩ (boolBit (s.domOn (4 + (a - Reg.MEMCTL_GRPSTAT 0) / 4))) (s.rd a).toNat)
  else if a = Reg.HOSTP_IRQSTAT then (hostSync s).rd a
  else s.rd a

/-- The plain read of a register: its WO bits read 0, its RC bits clear (R5). A reserved offset reads 0 (R4). -/
def classRead (a : Nat) (s : State) : State :=
  match rowOf a with
  | none => busAnswer 0 s
  | some r =>
    let s := { s with bus := .data (liveValue s a &&& ~~~(BitVec.ofNat 32 r.wo)) }
    if r.rc = 0 then s else s.wr a (s.rd a &&& ~~~(BitVec.ofNat 32 r.rc))

/-- A read whose partner holds the word that it latches: `hi` is the word for the partner at b. -/
def latchRead (v : Nat) (b hi : Nat) (s : State) : State := busAnswer v (s.setLatch b (BitVec.ofNat 32 hi))

/-- LINK_DUTYCREDLO[k] (R347, R349): whole ticks of credit at the present, 0 where it is overdrawn; the high half is latched. -/
def creditRead (k : Nat) (s : State) : State :=
  let s := bucketSettle k (stepDebit 1 (stepDebit 0 s))
  let c := (s.bucket k).credit.toNat / 1000000
  latchRead c (Reg.LINK_DUTYCREDHI k) (c / 2 ^ 32) s

/-- Registers of LINK and MODEM that latch. -/
def readRadio (a : Nat) (s : State) : State :=
  if Reg.MODEM_PANLAST 0 0 ≤ a ∧ a < Reg.MODEM_PANLAST 16 0 then
    (if (a - Reg.MODEM_PANLAST 0 0) % 32 = 0 then landed (execPanlastRead (index 16 ((a - Reg.MODEM_PANLAST 0 0) / 32)) s) s
    else { s with bus := .data (s.latched a) })
  else if a = Reg.LINK_RPEVICTLO then latchRead (s.rd a).toNat Reg.LINK_RPEVICTHI (s.rd Reg.LINK_RPEVICTHI).toNat s
  else if a = Reg.LINK_RPEVICTHI then { s with bus := .data (s.latched a) }
  else if Reg.LINK_DUTYCREDLO 0 ≤ a ∧ a < Reg.LINK_DUTYCREDLO 8 then
    (if a / 4 % 2 = 0 then creditRead ((a - Reg.LINK_DUTYCREDLO 0) / 8) s else { s with bus := .data (s.latched a) })
  else classRead a s

/-- A FIFO read of SPIM or I2C; what an empty FIFO gives is not stated. -/
def fifoRead (l : List Byte) (pop : List Byte → State → State) (s : State) : State :=
  match l with
  | [] => busAnswer (s.freeNat % 256) s.freeNext
  | c :: t => busAnswer c.toNat (pop t s)

/-- The peripherals: three UARTs, two SPIMs, two I2Cs behind them, four timers (Table PER-1). The count of a timer that runs
is free. -/
def readPeriph (a : Nat) (s : State) : State :=
  let n := a / 0x1000 % 16
  if n < 3 ∧ a = Reg.UART_RXD n then landed (execUartRxPop (index 3 n) s) s
  else if n < 2 ∧ a = Reg.SPIM_DATA n then
    fifoRead (nth [] s.per.spiRx n) (fun t s => s.setSpi n (nth [] s.per.spiTx n) t (nth [] s.per.spiOut n)) s
  else if n < 4 ∧ a = Reg.I2C_DATA (n - 2) then
    fifoRead (nth [] s.per.i2cRx (n - 2)) (fun t s => s.setI2c (n - 2) (nth [] s.per.i2cTx (n - 2)) t (nth [] s.per.i2cOut (n - 2))) s
  else if a = Reg.ADC_RESULT then landed (execAdcResultRead s) s
  else if n < 4 ∧ a = Reg.TMR_COUNT n ∧ s.tmrRuns n then busAnswer s.freeNat s.freeNext
  else classRead a s

/-- LIFE_VAL[w] (R594): the frame counters are read low word first. -/
def readLife (a : Nat) (s : State) : State :=
  if a = Reg.LIFE_VAL 12 then landed (execLifeValRead 0 s) s
  else if a = Reg.LIFE_VAL 14 then landed (execLifeValRead 1 s) s
  else if a = Reg.LIFE_VAL 13 ∨ a = Reg.LIFE_VAL 15 then { s with bus := .data (s.latched a) }
  else classRead a s

/-- A word read from the register at a. -/
def regRead (a : Nat) (s : State) : State :=
  if a = Reg.TIDE_NOWLO then landed (execTideNowloRead s) s
  else if a = Reg.TRNG_DATA then landed (execTrngDataRead s) s
  else if a = Reg.FLASHC_EWFIFO then landed (execEwfifoRead s) s
  else if a = Reg.RING_TSLO then latchRead s.ring.ts Reg.RING_TSHI (s.ring.ts / 2 ^ 32) s
  else if a = Reg.RING_TSHI then { s with bus := .data (s.latched a) }
  else if 0x40030000 ≤ a ∧ a < 0x40050000 then readRadio a s
  else if 0x400A0000 ≤ a ∧ a < 0x40100000 then readPeriph a s
  else if 0x50004000 ≤ a ∧ a < 0x50005000 then readLife a s
  else classRead a s

/-! ### The bus -/

/-- The octets of the boot ROM from an address on. -/
def romBytes (a n : Nat) : List Byte := (List.range n).map (fun i => Config.romByte (a - 0x01000000 + i))

/-- A read of the boot ROM, with the fill of a line of its core's cache (R472, R473). -/
def romRead (m : Master) (a n : Nat) (fill : Option CacheUse) (s : State) : State :=
  let s := cacheLookup m a fill s
  let s := match fill with
    | some u => cacheFill m u.side a (romBytes (lineBase a) 32) s
    | none => s
  busAnswer (natOfLE (romBytes a n)) s

/-- A bus read of an access size by a master. What a unit or word shows of bit errors, and what the boot ROM holds, is
free. -/
def busRead (m : Master) (addr : Word) (size : AccessSize) (fill : Option CacheUse) (s : State) : State :=
  let a := addr.toNat
  let n := sizeOctets size
  if isFlash a then landed (execFlashRead m addr size (index 4 s.freeNat) (s.freeNat / 4 % 2 == 1) fill (index 4 (s.freeNat / 8)) s.freeNext) s
  else if inSram a then
    landed (execSramRead m addr size (freeBit s) (index 3 (s.freeNat / 2)) fill none s.freeNext) s
  else if inRom a then
    (if !s.reaches m a || !s.domOn 12 || a % n != 0 then busError s else romRead m a n fill s)
  else if inLinkRam a then
    (if !s.reaches m a || !s.domOn 11 || a % n != 0 then busError s else busAnswer (s.num a n) s)
  else if regBars s m a n then busError s
  else if inBlockRam a then busAnswer (s.num a n) s
  else regRead a s

/-- RC_REGISTER_READ (R5, R7): a bus read; one whose register has a row of its own has that row's effect. -/
def execRcRegisterRead (master : Master) (addr : Word) (size : AccessSize) (fill : Option CacheUse) (s : State) : Out :=
  .next (if s.issues master then busRead master addr size fill s else s)

/-! ### The host port (R583 to R586) -/

/-- The status octet. -/
def hostStatus (s : State) : Nat :=
  let t := hostSync s
  boolBit (s.has Fld.HOSTP_CFG_EN) + 2 * boolBit (t.has Fld.HOSTP_IRQSTAT_MBOX) + 4 * boolBit (s.has Fld.HOSTP_IRQSTAT_RXQ)
    + 8 * boolBit (s.rd Reg.HOSTP_FLAGS != 0)

/-- A word is refused (R584). -/
def hostRefused (f : Field) (a : Nat) (s : State) : State :=
  ((((s.flag f).put Fld.HOSTP_LASTERR_ADDR a).inc Fld.HOSTP_CNT_ERRS).fire EV.HOSTP_ERR)

/-- Why a word at a is refused before the access, where it is. -/
def hostBars (s : State) (a : Nat) : Option Field :=
  if !s.reaches .host a then some Fld.HOSTP_FLAGS_REGION else if a % 4 ≠ 0 then some Fld.HOSTP_FLAGS_ALIGN else none

/-- One word written. -/
def hostWrite (a : Nat) (octets : List Byte) (s : State) : State :=
  match hostBars s a with
  | some f => hostRefused f a s
  | none =>
    let s := busWrite .host (BitVec.ofNat 32 a) .word (BitVec.ofNat 32 (natOfLE octets)) s
    if s.bus = .error then hostRefused Fld.HOSTP_FLAGS_BUSERR a s else s

/-- What the bus answered to a read of the word at a; none where the access waits for its target (R479, R507, R512). -/
def hostGot (a : Nat) (s : State) : Option Nat × State :=
  match s.bus with
  | .data w => (some w.toNat, s)
  | .waits => (none, s)
  | _ => (some 0, hostRefused Fld.HOSTP_FLAGS_BUSERR a s)

/-- One word read: the word and the state after it. -/
def hostRead (a : Nat) (s : State) : Option Nat × State :=
  match hostBars s a with
  | some f => (some 0, hostRefused f a s)
  | none => hostGot a (busRead .host (BitVec.ofNat 32 a) .word none s)

/-- The words of a write, in order. -/
def hostWrites (a : Nat) : List (List Byte) → State → State
  | [], s => s
  | w :: t, s => hostWrites (a + 4) t (hostWrite a w s)

/-- From the first word on that has not arrived (R585), the port sends zeros: n words of them. -/
def hostUnder (n : Nat) (s : State) : List Byte × State :=
  (List.replicate (4 * n) 0#8, (s.flag Fld.HOSTP_FLAGS_UNDER).inc Fld.HOSTP_CNT_UNDERS)

/-- n words of a read, in order, of which k arrive in time. -/
def hostReads (a : Nat) : Nat → Nat → State → List Byte × State
  | 0, _, s => ([], s)
  | n + 1, 0, s => hostUnder (n + 1) s
  | n + 1, k + 1, s =>
    let r := hostRead a s
    match r.1 with
    | none => hostUnder (n + 1) r.2
    | some w =>
      let t := hostReads (a + 4) n k r.2
      (bytesLE 4 w ++ t.1, t.2)

/-- A transaction ends: what MISO carried, a partial word discarded, IRQSTAT.ERR in step. -/
def hostEnd (partWord : Bool) (miso : List Byte) (s : State) : State :=
  hostSync (if partWord then { s with per := { s.per with miso := miso } }.flag Fld.HOSTP_FLAGS_ABORT
    else { s with per := { s.per with miso := miso } })

/-- A served transaction: `mosi` from the command octet on. -/
def hostServe (mosi : List Byte) (arrived : Nat) (s : State) : State :=
  let status := bytesLE 1 (hostStatus s)
  let zero := fun (n : Nat) => List.replicate n 0#8
  let a := natOfBE ((mosi.drop 1).take 4)
  let s := s.inc Fld.HOSTP_CNT_TRANS
  if eb mosi 0 = 0x02 then
    let data := mosi.drop 5
    let s := hostWrites a ((chunks 4 data).filter (fun w => w.length == 4)) s
    hostEnd (data.length % 4 != 0) (status ++ zero (mosi.length - 1)) s
  else
    let n := mosi.length - 7
    let r := hostReads a (n / 4) arrived s
    hostEnd (n % 4 != 0) ((status ++ zero 6 ++ r.1 ++ zero (n % 4)).take mosi.length) r.2

/-- HOST_TRANSACTION (R583 to R586), from CSN low to CSN high. `arrived`: how many read words came in time (R585). -/
def execHostTransaction (mosi : List Byte) (arrived : Nat) (s : State) : Out :=
  if !s.domOn 12 then .next { s with per := { s.per with miso := [] } }
  else
    let s := s.fire EV.HOSTP_CSFALL
    if mosi.isEmpty then .next (hostEnd false [] s)
    else if !s.has Fld.HOSTP_CFG_EN then .next (hostEnd false (bytesLE 1 (hostStatus s)) s)
    else if eb mosi 0 ≠ 0x02 ∧ eb mosi 0 ≠ 0x0B then
      .next (hostEnd false (bytesLE 1 (hostStatus s)) (s.flag Fld.HOSTP_FLAGS_CMD))
    else .next (hostServe mosi arrived s)

end Sys2Proof.Machine
end

