-- ==== Sys2Proof/Machine/Dispatch.lean ====
section
/-!
DEFINITION. Which meaning each command has: one arm per constructor, each one direct call.
-/

namespace Sys2Proof.Machine

def exec (i : Instr) (s : State) : Host.Outcome State Fault Refusal :=
  match i with
  | .registerWrite master addr size value => Sys2Proof.Machine.execRegisterWrite master addr size value s
  | .rcRegisterRead master addr size fill => Sys2Proof.Machine.execRcRegisterRead master addr size fill s
  | .clkcfgWrite value => Sys2Proof.Machine.execClkcfgWrite value s
  | .pllLock => Sys2Proof.Machine.execPllLock s
  | .backgroundStepRestart activity => Sys2Proof.Machine.execBackgroundStepRestart activity s
  | .bootSequence ticks => Sys2Proof.Machine.execBootSequence ticks s
  | .saltcmtCommit => Sys2Proof.Machine.execSaltcmtCommit s
  | .patchStart mode => Sys2Proof.Machine.execPatchStart mode s
  | .patchLoadDone => Sys2Proof.Machine.execPatchLoadDone s
  | .patchDiscard => Sys2Proof.Machine.execPatchDiscard s
  | .patchCommitTask => Sys2Proof.Machine.execPatchCommitTask s
  | .cfgchkPassStart => Sys2Proof.Machine.execCfgchkPassStart s
  | .cfgchkGroupStep taken recomputed => Sys2Proof.Machine.execCfgchkGroupStep taken recomputed s
  | .configReloadDone => Sys2Proof.Machine.execConfigReloadDone s
  | .tideNowloRead => Sys2Proof.Machine.execTideNowloRead s
  | .tideCapture k => Sys2Proof.Machine.execTideCapture k s
  | .lfincMeasure ticks1024 => Sys2Proof.Machine.execLfincMeasure ticks1024 s
  | .d1PowerUp => Sys2Proof.Machine.execD1PowerUp s
  | .srcselWrite value => Sys2Proof.Machine.execSrcselWrite value s
  | .tideAdjWrite delta => Sys2Proof.Machine.execTideAdjWrite delta s
  | .slewEnd => Sys2Proof.Machine.execSlewEnd s
  | .parentLossTimeout => Sys2Proof.Machine.execParentLossTimeout s
  | .holdmaxExpiry => Sys2Proof.Machine.execHoldmaxExpiry s
  | .rxWindowClose act => Sys2Proof.Machine.execRxWindowClose act s
  | .gateFire gate => Sys2Proof.Machine.execGateFire gate s
  | .gateRegisterWrite gate reg value => Sys2Proof.Machine.execGateRegisterWrite gate reg value s
  | .gateWakeRequest gate => Sys2Proof.Machine.execGateWakeRequest gate s
  | .xtalFailDetect => Sys2Proof.Machine.execXtalFailDetect s
  | .rc64Measure counts resid => Sys2Proof.Machine.execRc64Measure counts resid s
  | .disciplineTimeout => Sys2Proof.Machine.execDisciplineTimeout s
  | .xtalReturn difference => Sys2Proof.Machine.execXtalReturn difference s
  | .sluiceInputEdge core => Sys2Proof.Machine.execSluiceInputEdge core s
  | .firingBoundary sluice => Sys2Proof.Machine.execFiringBoundary sluice s
  | .firingEnd sluice => Sys2Proof.Machine.execFiringEnd sluice s
  | .fabricFireWrite m value => Sys2Proof.Machine.execFabricFireWrite m value s
  | .fabricQuarRelease m value => Sys2Proof.Machine.execFabricQuarRelease m value s
  | .fabricReleaseall => Sys2Proof.Machine.execFabricReleaseall s
  | .portmapWrite value => Sys2Proof.Machine.execPortmapWrite value s
  | .portmapSwitch => Sys2Proof.Machine.execPortmapSwitch s
  | .portSettled lane => Sys2Proof.Machine.execPortSettled lane s
  | .laneOwnerWrite lane software => Sys2Proof.Machine.execLaneOwnerWrite lane software s
  | .laneSleep lane byTask => Sys2Proof.Machine.execLaneSleep lane byTask s
  | .laneStandby lane byTask => Sys2Proof.Machine.execLaneStandby lane byTask s
  | .laneSynth lane byTask calmode => Sys2Proof.Machine.execLaneSynth lane byTask calmode s
  | .laneRx lane byTask => Sys2Proof.Machine.execLaneRx lane byTask s
  | .laneTx lane byTask mode => Sys2Proof.Machine.execLaneTx lane byTask mode s
  | .laneAbort lane byTask => Sys2Proof.Machine.execLaneAbort lane byTask s
  | .laneTransitionDone lane supply calResult calFault => Sys2Proof.Machine.execLaneTransitionDone lane supply calResult calFault s
  | .synthLockTimeout lane => Sys2Proof.Machine.execSynthLockTimeout lane s
  | .stepwiseDwellExpiry lane => Sys2Proof.Machine.execStepwiseDwellExpiry lane s
  | .stepwiseDutyExhaust lane => Sys2Proof.Machine.execStepwiseDutyExhaust lane s
  | .paFault lane => Sys2Proof.Machine.execPaFault lane s
  | .lbtListenEnd lane mean => Sys2Proof.Machine.execLbtListenEnd lane mean s
  | .swtightWrite k second value => Sys2Proof.Machine.execSwtightWrite k second value s
  | .rfPairWrite value => Sys2Proof.Machine.execRfPairWrite value s
  | .healthPeriod lane => Sys2Proof.Machine.execHealthPeriod lane s
  | .laneHealthreq lane byTask => Sys2Proof.Machine.execLaneHealthreq lane byTask s
  | .healthStepDone lane pass => Sys2Proof.Machine.execHealthStepDone lane pass s
  | .laneRetire lane => Sys2Proof.Machine.execLaneRetire lane s
  | .laneTakeover lane => Sys2Proof.Machine.execLaneTakeover lane s
  | .laneRestore lane => Sys2Proof.Machine.execLaneRestore lane s
  | .laneRolesReturn lane => Sys2Proof.Machine.execLaneRolesReturn lane s
  | .laneTempSample lane temp parityBad upset => Sys2Proof.Machine.execLaneTempSample lane temp parityBad upset s
  | .calreqWrite lane value => Sys2Proof.Machine.execCalreqWrite lane value s
  | .laneCalTask lane => Sys2Proof.Machine.execLaneCalTask lane s
  | .calStepStart lane => Sys2Proof.Machine.execCalStepStart lane s
  | .calStepDone lane result fault => Sys2Proof.Machine.execCalStepDone lane result fault s
  | .calRetryTimer lane entry => Sys2Proof.Machine.execCalRetryTimer lane entry s
  | .xtrimWrite value => Sys2Proof.Machine.execXtrimWrite value s
  | .rc64Track ppm => Sys2Proof.Machine.execRc64Track ppm s
  | .slotinvWrite value => Sys2Proof.Machine.execSlotinvWrite value s
  | .pancfgWrite byLink pan value => Sys2Proof.Machine.execPancfgWrite byLink pan value s
  | .panstop pan => Sys2Proof.Machine.execPanstop pan s
  | .wbsnap powerA powerB => Sys2Proof.Machine.execWbsnap powerA powerB s
  | .agcBlock lane power clips => Sys2Proof.Machine.execAgcBlock lane power clips s
  | .panDetect pan power => Sys2Proof.Machine.execPanDetect pan power s
  | .panSync pan ago rssi rssi2 leSnr lts cfo aa => Sys2Proof.Machine.execPanSync pan ago rssi rssi2 leSnr lts cfo aa s
  | .syncWindowClose pan heldAlive => Sys2Proof.Machine.execSyncWindowClose pan heldAlive s
  | .hunterDetect pan power => Sys2Proof.Machine.execHunterDetect pan power s
  | .headerDecision pan header sts2Inverted snr heldAlive => Sys2Proof.Machine.execHeaderDecision pan header sts2Inverted snr heldAlive s
  | .rxFrameEnd pan fofs corrbits powers octets => Sys2Proof.Machine.execRxFrameEnd pan fofs corrbits powers octets s
  | .afcApply lane => Sys2Proof.Machine.execAfcApply lane s
  | .panlastRead pan => Sys2Proof.Machine.execPanlastRead pan s
  | .acceptFrame boundary keyCheckFails supply => Sys2Proof.Machine.execAcceptFrame boundary keyCheckFails supply s
  | .immediateAckLaunch lane supply => Sys2Proof.Machine.execImmediateAckLaunch lane supply s
  | .ackReceived => Sys2Proof.Machine.execAckReceived s
  | .ackWindowClose act => Sys2Proof.Machine.execAckWindowClose act s
  | .retryTimer act boundary keyCheckFails => Sys2Proof.Machine.execRetryTimer act boundary keyCheckFails s
  | .netkeyWrite k value => Sys2Proof.Machine.execNetkeyWrite k value s
  | .netctrWrite k value => Sys2Proof.Machine.execNetctrWrite k value s
  | .ctxOpen ctx => Sys2Proof.Machine.execCtxOpen ctx s
  | .ctxClose ctx => Sys2Proof.Machine.execCtxClose ctx s
  | .ctxRekey ctx => Sys2Proof.Machine.execCtxRekey ctx s
  | .ctxSetpwr ctx => Sys2Proof.Machine.execCtxSetpwr ctx s
  | .ctxSetmap ctx => Sys2Proof.Machine.execCtxSetmap ctx s
  | .ctxConnect ctx => Sys2Proof.Machine.execCtxConnect ctx s
  | .ctxDisconnect ctx => Sys2Proof.Machine.execCtxDisconnect ctx s
  | .ctxMemoryWrite ctx offset size value => Sys2Proof.Machine.execCtxMemoryWrite ctx offset size value s
  | .tlArm entry byTask => Sys2Proof.Machine.execTlArm entry byTask s
  | .tlCancel entry => Sys2Proof.Machine.execTlCancel entry s
  | .tlPresent entry boundary keyCheckFails => Sys2Proof.Machine.execTlPresent entry boundary keyCheckFails s
  | .activityLaunch act supply csSteps csCut => Sys2Proof.Machine.execActivityLaunch act supply csSteps csCut s
  | .activityEnd act delivered => Sys2Proof.Machine.execActivityEnd act delivered s
  | .rxqPop value => Sys2Proof.Machine.execRxqPop value s
  | .dackTimeout k boundary keyCheckFails => Sys2Proof.Machine.execDackTimeout k boundary keyCheckFails s
  | .supervisionTimeout ctx => Sys2Proof.Machine.execSupervisionTimeout ctx s
  | .forwardLaunch q boundary supply keyCheckFails => Sys2Proof.Machine.execForwardLaunch q boundary supply keyCheckFails s
  | .tracestop => Sys2Proof.Machine.execTracestop s
  | .connectReqReceived supply => Sys2Proof.Machine.execConnectReqReceived supply s
  | .lePush value => Sys2Proof.Machine.execLePush value s
  | .leStageConnUpdate ctx => Sys2Proof.Machine.execLeStageConnUpdate ctx s
  | .leStageChmap ctx => Sys2Proof.Machine.execLeStageChmap ctx s
  | .leStagePhy ctx => Sys2Proof.Machine.execLeStagePhy ctx s
  | .ringLock => Sys2Proof.Machine.execRingLock s
  | .ringLos => Sys2Proof.Machine.execRingLos s
  | .ringCycleStart => Sys2Proof.Machine.execRingCycleStart s
  | .ringTimeMsg octets ts => Sys2Proof.Machine.execRingTimeMsg octets ts s
  | .ringEventMsg slot octets => Sys2Proof.Machine.execRingEventMsg slot octets s
  | .ringSluiceFire => Sys2Proof.Machine.execRingSluiceFire s
  | .ringDataMsg octets => Sys2Proof.Machine.execRingDataMsg octets s
  | .ringMbsend value => Sys2Proof.Machine.execRingMbsend value s
  | .ringDataWindow => Sys2Proof.Machine.execRingDataWindow s
  | .surveyStart byTask => Sys2Proof.Machine.execSurveyStart byTask s
  | .surveyStep seg echo => Sys2Proof.Machine.execSurveyStep seg echo s
  | .surveyProbeTimeout => Sys2Proof.Machine.execSurveyProbeTimeout s
  | .surveyRetry => Sys2Proof.Machine.execSurveyRetry s
  | .ringJoin => Sys2Proof.Machine.execRingJoin s
  | .ringMasterListenEnd => Sys2Proof.Machine.execRingMasterListenEnd s
  | .ringBrokenTimeout => Sys2Proof.Machine.execRingBrokenTimeout s
  | .ringLeave => Sys2Proof.Machine.execRingLeave s
  | .linkCipherRequest => Sys2Proof.Machine.execLinkCipherRequest s
  | .aesBlockEnd core pass keyCheckFails => Sys2Proof.Machine.execAesBlockEnd core pass keyCheckFails s
  | .cipherQtailWrite q master value keyCheckFails => Sys2Proof.Machine.execCipherQtailWrite q master value keyCheckFails s
  | .cipherFlush q => Sys2Proof.Machine.execCipherFlush q s
  | .keyclrWrite value => Sys2Proof.Machine.execKeyclrWrite value s
  | .cipherSelftestStart byTask => Sys2Proof.Machine.execCipherSelftestStart byTask s
  | .cipherRestore cores => Sys2Proof.Machine.execCipherRestore cores s
  | .pkeClaimWrite master claim => Sys2Proof.Machine.execPkeClaimWrite master claim s
  | .pkeKeygen master cmd keyCheckFails => Sys2Proof.Machine.execPkeKeygen master cmd keyCheckFails s
  | .pkeEcdh master cmd keyCheckFails => Sys2Proof.Machine.execPkeEcdh master cmd keyCheckFails s
  | .pkeSign master cmd keyCheckFails => Sys2Proof.Machine.execPkeSign master cmd keyCheckFails s
  | .pkeVerify master cmd keyCheckFails => Sys2Proof.Machine.execPkeVerify master cmd keyCheckFails s
  | .pkeValidate master cmd keyCheckFails => Sys2Proof.Machine.execPkeValidate master cmd keyCheckFails s
  | .pkeOpDone => Sys2Proof.Machine.execPkeOpDone s
  | .shaInit master => Sys2Proof.Machine.execShaInit master s
  | .shaData master value => Sys2Proof.Machine.execShaData master value s
  | .shaFinal master valid => Sys2Proof.Machine.execShaFinal master valid s
  | .shaDone => Sys2Proof.Machine.execShaDone s
  | .trngDataRead => Sys2Proof.Machine.execTrngDataRead s
  | .trngHealthFail adaptive => Sys2Proof.Machine.execTrngHealthFail adaptive s
  | .trngRestart => Sys2Proof.Machine.execTrngRestart s
  | .trngReady => Sys2Proof.Machine.execTrngReady s
  | .drbgReseed byTask => Sys2Proof.Machine.execDrbgReseed byTask s
  | .keyAdmit slot masters op types block checkFails => Sys2Proof.Machine.execKeyAdmit slot masters op types block checkFails s
  | .keyDerive master slot checkFails => Sys2Proof.Machine.execKeyDerive master slot checkFails s
  | .keyImport master slot arg checkFails => Sys2Proof.Machine.execKeyImport master slot arg checkFails s
  | .keyInvalidate master slot => Sys2Proof.Machine.execKeyInvalidate master slot s
  | .keyRestrict master slot => Sys2Proof.Machine.execKeyRestrict master slot s
  | .keyRootgen master => Sys2Proof.Machine.execKeyRootgen master s
  | .keyCmdDone => Sys2Proof.Machine.execKeyCmdDone s
  | .keySweepStep => Sys2Proof.Machine.execKeySweepStep s
  | .keyRefreshPass byTask => Sys2Proof.Machine.execKeyRefreshPass byTask s
  | .keyRefreshStep taken checkFails rootLost => Sys2Proof.Machine.execKeyRefreshStep taken checkFails rootLost s
  | .tamperDetect source lfCount => Sys2Proof.Machine.execTamperDetect source lfCount s
  | .tamperLatchClear value active => Sys2Proof.Machine.execTamperLatchClear value active s
  | .tamplockWrite value => Sys2Proof.Machine.execTamplockWrite value s
  | .lcRequest master value => Sys2Proof.Machine.execLcRequest master value s
  | .lcTransitionDone => Sys2Proof.Machine.execLcTransitionDone s
  | .glRequest master value => Sys2Proof.Machine.execGlRequest master value s
  | .gl0EraseDone => Sys2Proof.Machine.execGl0EraseDone s
  | .cpu1Start value => Sys2Proof.Machine.execCpu1Start value s
  | .sramRead master addr size vote ecc fill line => Sys2Proof.Machine.execSramRead master addr size vote ecc fill line s
  | .sramWrite master addr size value vote ecc => Sys2Proof.Machine.execSramWrite master addr size value vote ecc s
  | .eccWriteback group => Sys2Proof.Machine.execEccWriteback group s
  | .mergeDrain group entry vote ecc => Sys2Proof.Machine.execMergeDrain group entry vote ecc s
  | .sramClear group => Sys2Proof.Machine.execSramClear group s
  | .sramClearDone group => Sys2Proof.Machine.execSramClearDone group s
  | .rakeRequest group cause => Sys2Proof.Machine.execRakeRequest group cause s
  | .rakeStep taken vote ecc => Sys2Proof.Machine.execRakeStep taken vote ecc s
  | .rakeStop group => Sys2Proof.Machine.execRakeStop group s
  | .semWrite n master take => Sys2Proof.Machine.execSemWrite n master take s
  | .flashRead master addr size errors minrunOver fill other => Sys2Proof.Machine.execFlashRead master addr size errors minrunOver fill other s
  | .flashProgramUnit bank value => Sys2Proof.Machine.execFlashProgramUnit bank value s
  | .flashUnitDone bank dirty verifyBad => Sys2Proof.Machine.execFlashUnitDone bank dirty verifyBad s
  | .flashErase bank value => Sys2Proof.Machine.execFlashErase bank value s
  | .flashErasePulseEnd bank verified => Sys2Proof.Machine.execFlashErasePulseEnd bank verified s
  | .flashSuspend bank byTask => Sys2Proof.Machine.execFlashSuspend bank byTask s
  | .flashResume bank byTask => Sys2Proof.Machine.execFlashResume bank byTask s
  | .flashAutoResume bank => Sys2Proof.Machine.execFlashAutoResume bank s
  | .flashDiscard bank => Sys2Proof.Machine.execFlashDiscard bank s
  | .wearHeaderWrite bank taken => Sys2Proof.Machine.execWearHeaderWrite bank taken s
  | .pmuStateRequest value => Sys2Proof.Machine.execPmuStateRequest value s
  | .pmuEntryStart byTask irq debugPower periphBusy => Sys2Proof.Machine.execPmuEntryStart byTask irq debugPower periphBusy s
  | .wakeEvent source moment => Sys2Proof.Machine.execWakeEvent source moment s
  | .domctlWrite value => Sys2Proof.Machine.execDomctlWrite value s
  | .supplyDipEnd minimum duration => Sys2Proof.Machine.execSupplyDipEnd minimum duration s
  | .vbatSwitch toVbat => Sys2Proof.Machine.execVbatSwitch toVbat s
  | .powerOn => Sys2Proof.Machine.execPowerOn s
  | .rstreqSystem clrfs => Sys2Proof.Machine.execRstreqSystem clrfs s
  | .rstreqFull clrfs => Sys2Proof.Machine.execRstreqFull clrfs s
  | .systemReset testen => Sys2Proof.Machine.execSystemReset testen s
  | .fullReset testen => Sys2Proof.Machine.execFullReset testen s
  | .drypanBeacon lbtClear supply => Sys2Proof.Machine.execDrypanBeacon lbtClear supply s
  | .recoveryCommand payload => Sys2Proof.Machine.execRecoveryCommand payload s
  | .cwdtKick value => Sys2Proof.Machine.execCwdtKick value s
  | .lwdtKick value => Sys2Proof.Machine.execLwdtKick value s
  | .gpioEdge pad high => Sys2Proof.Machine.execGpioEdge pad high s
  | .gpioSet pad => Sys2Proof.Machine.execGpioSet pad s
  | .gpioClr pad => Sys2Proof.Machine.execGpioClr pad s
  | .gpioTgl pad => Sys2Proof.Machine.execGpioTgl pad s
  | .uartTxPush n sent value => Sys2Proof.Machine.execUartTxPush n sent value s
  | .uartRxChar n ch parityBad frameBad => Sys2Proof.Machine.execUartRxChar n ch parityBad frameBad s
  | .uartRxPop n => Sys2Proof.Machine.execUartRxPop n s
  | .uartRxTimeout n => Sys2Proof.Machine.execUartRxTimeout n s
  | .spimStart n => Sys2Proof.Machine.execSpimStart n s
  | .spimDone n miso => Sys2Proof.Machine.execSpimDone n miso s
  | .i2cStart n => Sys2Proof.Machine.execI2cStart n s
  | .i2cDone n nack sent data => Sys2Proof.Machine.execI2cDone n nack sent data s
  | .tmrStart n => Sys2Proof.Machine.execTmrStart n s
  | .tmrStop n count => Sys2Proof.Machine.execTmrStop n count s
  | .tmrCapture n count => Sys2Proof.Machine.execTmrCapture n count s
  | .tmrCompare n => Sys2Proof.Machine.execTmrCompare n s
  | .tmrOverflow n => Sys2Proof.Machine.execTmrOverflow n s
  | .adcConversionDone result => Sys2Proof.Machine.execAdcConversionDone result s
  | .canTxreq byTask value => Sys2Proof.Machine.execCanTxreq byTask value s
  | .canTxabort value arbitrating => Sys2Proof.Machine.execCanTxabort value arbitrating s
  | .canTxDone buf stamp tec => Sys2Proof.Machine.execCanTxDone buf stamp tec s
  | .canFrameRx word0 dlc brs esi data stamp rec => Sys2Proof.Machine.execCanFrameRx word0 dlc brs esi data stamp rec s
  | .canProtocolError type tec rec => Sys2Proof.Machine.execCanProtocolError type tec rec s
  | .hostTransaction mosi arrived => Sys2Proof.Machine.execHostTransaction mosi arrived s
  | .hostMbset master value => Sys2Proof.Machine.execHostMbset master value s
  | .harvestDue requested => Sys2Proof.Machine.execHarvestDue requested s
  | .harvestUnitDone taken dirty verifyBad => Sys2Proof.Machine.execHarvestUnitDone taken dirty verifyBad s
  | .lifeTempSample temp => Sys2Proof.Machine.execLifeTempSample temp s
  | .lifeValRead frames => Sys2Proof.Machine.execLifeValRead frames s
  | .uartTxdone n => Sys2Proof.Machine.execUartTxdone n s
  | .lockstepMismatch => Sys2Proof.Machine.execLockstepMismatch s
  | .warmRestart => Sys2Proof.Machine.execWarmRestart s
  | .ewfifoRead => Sys2Proof.Machine.execEwfifoRead s
  | .erasecntLoad => Sys2Proof.Machine.execErasecntLoad s
  | .pmuEntryDone => Sys2Proof.Machine.execPmuEntryDone s
  | .wakeReadyStep => Sys2Proof.Machine.execWakeReadyStep s
  | .wakeReadyTimeout => Sys2Proof.Machine.execWakeReadyTimeout s
  | .xtalReady => Sys2Proof.Machine.execXtalReady s
  | .xtalStartTimeout => Sys2Proof.Machine.execXtalStartTimeout s
  | .excursionStart => Sys2Proof.Machine.execExcursionStart s
  | .excursionEnd => Sys2Proof.Machine.execExcursionEnd s
  | .supplyDipStart => Sys2Proof.Machine.execSupplyDipStart s
  | .brownOut vbat => Sys2Proof.Machine.execBrownOut vbat s
  | .resetnPin => Sys2Proof.Machine.execResetnPin s
  | .debugResetRequest => Sys2Proof.Machine.execDebugResetRequest s
  | .rstreqWarm => Sys2Proof.Machine.execRstreqWarm s
  | .bootokConfirm => Sys2Proof.Machine.execBootokConfirm s
  | .cwdtExpiry => Sys2Proof.Machine.execCwdtExpiry s
  | .lwdtExpiry => Sys2Proof.Machine.execLwdtExpiry s
  | .adcStart => Sys2Proof.Machine.execAdcStart s
  | .adcStop => Sys2Proof.Machine.execAdcStop s
  | .adcResultRead => Sys2Proof.Machine.execAdcResultRead s
  | .canBusOff => Sys2Proof.Machine.execCanBusOff s
  | .canBusoffRecovery => Sys2Proof.Machine.execCanBusoffRecovery s
  | .hostpIrqTask => Sys2Proof.Machine.execHostpIrqTask s
  | .harvestStart => Sys2Proof.Machine.execHarvestStart s
  | .lifeSecondTick => Sys2Proof.Machine.execLifeSecondTick s
  | .lifeLoadEnd => Sys2Proof.Machine.execLifeLoadEnd s
  | .lfClockLoss => Sys2Proof.Machine.execLfClockLoss s
  | .xtalok within => Sys2Proof.Machine.execXtalok within s

end Sys2Proof.Machine
end

