-- ==== Sys2Proof/Machine/Step.lean ====
section
/-!
DEFINITION. One step: the command at the front of the queue takes effect on the rest; with no command waiting, one cycle of
the AON clock passes.
-/

namespace Sys2Proof.Machine

/-- Nothing waits: one AON cycle, where D1 is powered (R82, R87), with the listen periods that fall due in it (R173); with
D1 off, one LF cycle of D0's backup counter (Table TIDE-1), where the LF crystal runs. DESIGN CHOICE
(notes/assumptions/3.md): the table has no row for the tick. -/
def idleStep (s : State) : State := if s.domOn 1 then aonDue (tideTick s) else backupTick s

/-- One step of the device. -/
def step (s : State) : Host.Outcome State Fault Refusal :=
  match s.pending with
  | [] => .next (idleStep s)
  | c :: rest => exec c { s with pending := rest }

/-- s with the command that a word spells in front of its queue; s itself where the word spells none. -/
def State.withFetchWord (s : State) (nbits w : Nat) : State :=
  match decodeTableWord nbits w with
  | some c => { s with pending := c :: s.pending }
  | none => s

end Sys2Proof.Machine
end

