-- ==== Sys2Proof/Safety.lean ====
section
/-!
DEFINITION. The terms in which claims speak: the canonical form of the tables by key, a run that does not stop, what a
command answers, and what it leaves as it was.
-/

namespace Sys2Proof.Machine

/-! ### The canonical form -/

/-- The register file lists each register once, by rising address, and none that holds its reset value. -/
def Registers.wf (m : List (Nat × Word)) : Bool := sparseWf resetValue m

/-- Memory lists each octet once, by rising address, and none that holds what an unlisted octet reads as. -/
def Memory.wf (m : List Host.Cell) : Bool := sparseWf memDefault m

/-- Registers, memory and latched words are in canonical form, so that equal contents are equal data. -/
def State.Canonical (s : State) : Prop :=
  Registers.wf s.regs = true ∧ Memory.wf s.mem = true ∧ sparseWf (fun _ => (0 : Word)) s.latch = true

/-! ### Runs -/

/-- k steps from s end in a state, not in a fault or a refusal. -/
def SafeRun (k : Nat) (s : State) : Prop :=
  ∃ t : State, Host.Core.run Sys2Proof.core k s = Host.Outcome.next (φ := Fault) (ρ := Refusal) t

/-! ### What a command answers -/

/-- The outcome is a next state, and it has the property Q. -/
def Answers (o : Out) (Q : State → Prop) : Prop := ∃ t, o = .next t ∧ Q t

/-! ### What stays as it was -/

/-- Every register at an address outside l reads in t as in s. -/
def RegsBut (l : List Nat) (s t : State) : Prop := ∀ a, a ∉ l → t.rd a = s.rd a

/-- Every register for whose address p fails reads in t as in s. -/
def RegsOutside (p : Nat → Bool) (s t : State) : Prop := ∀ a, p a = false → t.rd a = s.rd a

/-- Every octet of memory reads in t as in s. -/
def SameBytes (s t : State) : Prop := ∀ a, t.byte a = s.byte a

/-- Every octet of memory outside the n octets from a on reads in t as in s. -/
def BytesOutside (a n : Nat) (s t : State) : Prop := ∀ b, b < a ∨ a + n ≤ b → t.byte b = s.byte b

/-- The producer that an edge comes from, if one does. -/
def Edge.source : Edge → Option Nat
  | .producer p => some p
  | .direct _ => none

/-- The producers l, and nothing else, have delivered an edge each, in this order (R127). -/
def Fires (l : List Nat) (s t : State) : Prop := t.edges = s.edges ++ l.map Edge.producer

/-- A saturating counter with one more counted (R8). -/
def State.counted (s : State) (f : Field) : Nat := min (s.get f + 1) (2 ^ f.width - 1)

/-- No pan is enabled, so that no span centre bears on anything (R251). -/
abbrev State.NoPans (s : State) : Prop := ∀ p, p < 16 → s.has (Fld.MODEM_PANCFG_EN p) = false

/-! ### The cipher engine at rest -/

/-- Nothing waits for a core: no LINK request, no KEY-class block, no self-test, no active queue descriptor. -/
abbrev State.CipherQuiet (s : State) : Prop :=
  s.cipher.link = [] ∧ s.cipher.keyWait = 0 ∧ s.cipher.tests = [] ∧ (s.queue 0).active = false ∧ (s.queue 1).active = false

/-- Queue q has no descriptor to take up: it is not enabled, has no places, or its HEAD has reached its TAIL. -/
abbrev State.QueueIdle (q : Nat) (s : State) : Prop :=
  s.has (if q = 0 then Fld.CIPHER_CTL_Q0EN else Fld.CIPHER_CTL_Q1EN) = false ∨ s.get (Fld.CIPHER_QCFG_SIZE q) = 0
    ∨ s.get (Fld.CIPHER_QHEAD_HEAD q) = s.get (Fld.CIPHER_QTAIL_TAIL q)

/-- Neither queue has a descriptor to take up, and the random FIFO asks for nothing. -/
abbrev State.CipherIdle (s : State) : Prop :=
  s.QueueIdle 0 ∧ s.QueueIdle 1 ∧ (s.drbgReady = false ∨ 12 < s.trng.fifo.length)

/-! ### What lets a presentation pass -/

/-- The activity as its presentation puts it on its lane, where no check of R323 refuses it and its listen period, if it has
one, still fits. -/
def txReadied (a : Activity) (t : List Byte) (want boundary : Nat) (fails : Bool) (s : State) : Option Activity :=
  let p := txPlan a t want s
  let s := if p.1.type = 3 ∨ p.1.type = 5 then s.freeNext else s
  let adm := if p.1.micsz = 0 then (0, s) else linkAdmit p.1.key 0 fails s
  if txPreCode s p.2.1 t p.1 p.2.2 = 0 ∧ adm.1 = 0 ∧ txPostCode adm.2 p.2.1 p.1 = 0 then
    (readyCheck adm.2 p.2.1 (chanFreq p.2.1.mode p.2.1.chan) boundary true).filter
      (fun b => decide (lbtLead s b = 0 ∨ s.now + lbtLead s b ≤ b.launch))
  else none

/-- The same for the block-ack of deferred-ack entry d (R337). -/
def dackReadied (id : Nat) (d : DackEntry) (t : List Byte) (boundary : Nat) (fails : Bool) (s : State) : Option Activity :=
  let p := dackPlan id d t s
  let adm := linkAdmit p.1.key 0 fails s
  if txPreCode s p.2.1 t p.1 p.2.2 = 0 ∧ adm.1 = 0 ∧ p.1.micsz ≠ 0 ∧ txPostCode adm.2 p.2.1 p.1 = 0 then
    readyCheck adm.2 p.2.1 (chanFreq p.2.1.mode p.2.1.chan) boundary true
  else none

/-! ### Which commands may store -/

/-- May a command write an octet of memory (SRAM, flash, LINK RAM, job RAM, operand RAM, CAN buffer RAM)? The other commands
change registers and what stands beside them only. -/
def mayStore : Instr → Bool
  | .registerWrite .. | .bootSequence .. | .patchLoadDone .. | .tideAdjWrite .. | .rxWindowClose ..
  | .xtalFailDetect .. | .synthLockTimeout .. | .paFault .. | .lbtListenEnd .. | .healthStepDone ..
  | .laneRetire .. | .acceptFrame .. | .immediateAckLaunch .. | .ackReceived .. | .ackWindowClose ..
  | .retryTimer .. | .netkeyWrite .. | .ctxOpen .. | .ctxClose .. | .ctxRekey .. | .ctxSetpwr ..
  | .ctxConnect .. | .ctxDisconnect .. | .ctxMemoryWrite .. | .tlArm .. | .tlCancel .. | .tlPresent ..
  | .activityLaunch .. | .activityEnd .. | .dackTimeout .. | .supervisionTimeout .. | .forwardLaunch ..
  | .connectReqReceived .. | .ringTimeMsg .. | .ringDataMsg .. | .aesBlockEnd .. | .cipherQtailWrite ..
  | .cipherFlush .. | .pkeClaimWrite .. | .pkeOpDone .. | .lcTransitionDone .. | .glRequest ..
  | .gl0EraseDone .. | .warmRestart .. | .sramWrite .. | .mergeDrain .. | .sramClear .. | .rakeStep ..
  | .flashUnitDone .. | .flashErase .. | .flashErasePulseEnd .. | .flashResume .. | .wearHeaderWrite ..
  | .pmuEntryStart .. | .pmuEntryDone .. | .wakeReadyStep .. | .xtalStartTimeout .. | .excursionStart ..
  | .domctlWrite .. | .supplyDipEnd .. | .brownOut .. | .systemReset .. | .fullReset .. | .bootokConfirm ..
  | .recoveryCommand .. | .canTxDone .. | .canFrameRx .. | .hostTransaction .. | .harvestStart ..
  | .harvestUnitDone .. => true
  | .rcRegisterRead .. | .clkcfgWrite .. | .pllLock .. | .backgroundStepRestart .. | .saltcmtCommit ..
  | .patchStart .. | .patchDiscard .. | .patchCommitTask .. | .cfgchkPassStart .. | .cfgchkGroupStep ..
  | .configReloadDone .. | .tideNowloRead .. | .tideCapture .. | .lfincMeasure .. | .d1PowerUp ..
  | .srcselWrite .. | .slewEnd .. | .parentLossTimeout .. | .holdmaxExpiry .. | .gateFire ..
  | .gateRegisterWrite .. | .gateWakeRequest .. | .rc64Measure .. | .disciplineTimeout .. | .xtalReturn ..
  | .sluiceInputEdge .. | .firingBoundary .. | .firingEnd .. | .fabricFireWrite .. | .fabricQuarRelease ..
  | .fabricReleaseall .. | .portmapWrite .. | .portmapSwitch .. | .portSettled .. | .laneOwnerWrite ..
  | .laneSleep .. | .laneStandby .. | .laneSynth .. | .laneRx .. | .laneTx .. | .laneAbort ..
  | .laneTransitionDone .. | .stepwiseDwellExpiry .. | .stepwiseDutyExhaust .. | .swtightWrite ..
  | .rfPairWrite .. | .healthPeriod .. | .laneHealthreq .. | .laneTakeover .. | .laneRestore ..
  | .laneRolesReturn .. | .laneTempSample .. | .calreqWrite .. | .laneCalTask .. | .calStepStart ..
  | .calStepDone .. | .calRetryTimer .. | .xtrimWrite .. | .rc64Track .. | .slotinvWrite .. | .pancfgWrite ..
  | .panstop .. | .wbsnap .. | .agcBlock .. | .panDetect .. | .panSync .. | .syncWindowClose ..
  | .hunterDetect .. | .headerDecision .. | .rxFrameEnd .. | .afcApply .. | .panlastRead .. | .netctrWrite ..
  | .ctxSetmap .. | .rxqPop .. | .tracestop .. | .lePush .. | .leStageConnUpdate .. | .leStageChmap ..
  | .leStagePhy .. | .ringLock .. | .ringLos .. | .ringCycleStart .. | .ringEventMsg .. | .ringSluiceFire ..
  | .ringMbsend .. | .ringDataWindow .. | .surveyStart .. | .surveyStep .. | .surveyProbeTimeout ..
  | .surveyRetry .. | .ringJoin .. | .ringMasterListenEnd .. | .ringBrokenTimeout .. | .ringLeave ..
  | .linkCipherRequest .. | .keyclrWrite .. | .cipherSelftestStart .. | .cipherRestore .. | .pkeKeygen ..
  | .pkeEcdh .. | .pkeSign .. | .pkeVerify .. | .pkeValidate .. | .shaInit .. | .shaData .. | .shaFinal ..
  | .shaDone .. | .trngDataRead .. | .trngHealthFail .. | .trngRestart .. | .trngReady .. | .drbgReseed ..
  | .keyAdmit .. | .keyDerive .. | .keyImport .. | .keyInvalidate .. | .keyRestrict .. | .keyRootgen ..
  | .keyCmdDone .. | .keySweepStep .. | .keyRefreshPass .. | .keyRefreshStep .. | .tamperDetect ..
  | .tamperLatchClear .. | .tamplockWrite .. | .lcRequest .. | .cpu1Start .. | .lockstepMismatch ..
  | .sramRead .. | .eccWriteback .. | .sramClearDone .. | .rakeRequest .. | .rakeStop .. | .semWrite ..
  | .flashRead .. | .ewfifoRead .. | .flashProgramUnit .. | .flashSuspend .. | .flashAutoResume ..
  | .flashDiscard .. | .erasecntLoad .. | .pmuStateRequest .. | .wakeEvent .. | .wakeReadyTimeout ..
  | .xtalReady .. | .excursionEnd .. | .supplyDipStart .. | .vbatSwitch .. | .powerOn .. | .resetnPin ..
  | .debugResetRequest .. | .rstreqWarm .. | .rstreqSystem .. | .rstreqFull .. | .drypanBeacon ..
  | .cwdtKick .. | .cwdtExpiry .. | .lwdtKick .. | .lwdtExpiry .. | .gpioEdge .. | .gpioSet .. | .gpioClr ..
  | .gpioTgl .. | .uartTxPush .. | .uartRxChar .. | .uartRxPop .. | .uartRxTimeout .. | .spimStart ..
  | .spimDone .. | .i2cStart .. | .i2cDone .. | .tmrStart .. | .tmrStop .. | .tmrCapture .. | .tmrCompare ..
  | .tmrOverflow .. | .adcStart .. | .adcConversionDone .. | .adcStop .. | .adcResultRead .. | .canTxreq ..
  | .canTxabort .. | .canProtocolError .. | .canBusOff .. | .canBusoffRecovery .. | .hostMbset ..
  | .hostpIrqTask .. | .harvestDue .. | .lifeTempSample .. | .lifeSecondTick .. | .lifeLoadEnd ..
  | .lifeValRead .. | .lfClockLoss .. | .xtalok .. | .uartTxdone .. => false

end Sys2Proof.Machine
end

