-- ==== Sys2Proof/Certificates/Slice0/Obligations.lean ====
section
/-!
DEFINITION. The statements for the provers. Each says in its docstring which rules of the manual it comes from and, where
a clause rests on a choice of the model, which log entries that is (notes/assumptions). `Answers o Q` (Safety.lean) means
that the outcome is a next state with the property Q; `RegsBut`, `RegsOutside`, `SameBytes`, `BytesOutside` say what stays.
-/

open Sys2Proof Sys2Proof.Machine

/-! ### The machine as a whole -/

/-- A step takes the command at the front of the queue and answers what that command answers on the state with the rest
of the queue. -/
def Obligations.StepRunsFrontCommand : Prop :=
  ∀ (c : Instr) (rest : List Instr) (s : State),
    step { s with pending := c :: rest } = exec c { s with pending := rest }

/-- With no command waiting, one cycle of the AON clock passes while D1 is powered, and the tide clock takes its
increment of R82 and R87, with nothing else where no presented activity has a listen period still to begin; with D1 off
one LF cycle is counted by D0's backup counter while the LF crystal runs. That time passes exactly then is the model's
choice (notes/assumptions/3.md). Choices of the model it rests on: notes/assumptions/3. -/
def Obligations.IdleStepTicksTideClock : Prop :=
  ∀ (s : State), s.pending = [] →
    (s.domOn 1 = false → Answers (step s) fun t =>
        t.backup = { s.backup with lfCount := s.backup.lfCount + (if s.tide.lfPresent = true then 1 else 0) }
        ∧ t = { s with backup := t.backup })
    ∧ (s.domOn 1 = true → (s.lfMode = true ∨ ∀ a ∈ s.acts, a.phase = .presented → a.listening = true) → ∀ inc : Nat,
        (s.lfMode = true → inc = s.get Fld.TIDE_LFINC_INC * 2 ^ 16) →
        (s.lfMode = false → s.tide.slewLeft = 0 → (inc : Int) = 2 ^ 32 + s.rate) →
        (s.lfMode = false → s.tide.slewLeft ≠ 0 → inc = (2 ^ 32 + s.rate + s.tide.slew).toNat) →
        Answers (step s) fun t => t.tide.acc = s.tide.acc + inc ∧ t.tide.elapsed = s.tide.elapsed + inc
          ∧ t = { s with tide := t.tide })

/-- No command that the model has is turned away and none stops the device: from every state, whatever waits in the
queue, k steps end in a state. Choices of the model it rests on: notes/assumptions/8. -/
def Obligations.EveryRunIsSafe : Prop := ∀ (k : Nat) (s : State), SafeRun k s

/-- A command's effect never touches the queue of waiting commands. Choices of the model it rests on:
notes/assumptions/8. -/
def Obligations.ExecLeavesQueue : Prop :=
  ∀ (c : Instr) (s : State), Answers (exec c s) fun t => t.pending = s.pending

/-- From every state in canonical form, a step leaves one in canonical form: registers, memory and latched words list
each key once, in rising order, and nothing that an unlisted key would read as. Choices of the model it rests on:
notes/assumptions/5. -/
def Obligations.StepKeepsCanonical : Prop :=
  ∀ (s : State), s.Canonical → Answers (step s) State.Canonical

/-- The state after reset is in canonical form, waits for no command, and its memory lists nothing. Choices of the model
it rests on: notes/assumptions/5, 7. -/
def Obligations.ResetIsCanonical : Prop :=
  State.reset.Canonical ∧ State.reset.pending = [] ∧ State.reset.mem = []

/-- The 196 commands that the manual gives no store leave every octet of memory as it was. -/
def Obligations.CommandsWithoutStoreLeaveMemory : Prop :=
  ∀ (c : Instr) (s : State), mayStore c = false → Answers (exec c s) fun t => SameBytes s t
/-! ### Clock configuration and the tide clock (chapters 2 and 4) -/

/-- SYSCFG_CLKCFG (R17): a write that would set a bus clock above 64 MHz changes nothing; the check takes 128 MHz for
PLLEN = 1 and 64 MHz for PLLEN = 0, divided by CPUDIV and BUSDIV; and no write takes a bus clock of at most 64 MHz above
it. -/
def Obligations.ClockWriteAboveLimitIgnored : Prop :=
  ∀ (v : Word) (s : State),
    (64 < (if v.toNat % 2 = 1 then 128 else 64) / 2 ^ (v.toNat / 4 % 4) / 2 ^ (v.toNat / 2 % 2) →
      exec (.clkcfgWrite v) s = .next s)
    ∧ (busMHz (s.get Fld.SYSCFG_CLKCFG_PLLEN) (s.get Fld.SYSCFG_CLKCFG_BUSDIV) (s.get Fld.SYSCFG_CLKCFG_CPUDIV) ≤ 64 →
      Answers (exec (.clkcfgWrite v) s) fun t =>
        busMHz (t.get Fld.SYSCFG_CLKCFG_PLLEN) (t.get Fld.SYSCFG_CLKCFG_BUSDIV) (t.get Fld.SYSCFG_CLKCFG_CPUDIV) ≤ 64)

/-- SYSCFG_CLKCFG, yielded work, the LF measurement and the crystal's flag (after R17, R629, R26, R88, R125): a write
that keeps the limit sets PLLEN, BUSDIV and CPUDIV, and one that clears PLLEN clears PLLLOCK at once; PLLLOCK becomes 1
at lock; a yielded background step that restarts waits no longer, and a lane's yielded calibration has the lane again; a
measurement over 1024 LF cycles becomes TIDE_LFINC; TIDE_CLKCTL.XTALOK follows whether the crystal runs within its
limit. Choices of the model it rests on: notes/assumptions/1, 69. -/
def Obligations.ClockAndBackgroundWork : Prop :=
  ∀ (s : State),
    (∀ v : Word, busMHz (v.toNat % 2) (v.toNat / 2 % 2) (v.toNat / 4 % 4) ≤ 64 →
      Answers (exec (.clkcfgWrite v) s) fun t =>
        t.get Fld.SYSCFG_CLKCFG_PLLEN = v.toNat % 2 ∧ t.get Fld.SYSCFG_CLKCFG_BUSDIV = v.toNat / 2 % 2
        ∧ t.get Fld.SYSCFG_CLKCFG_CPUDIV = v.toNat / 4 % 4
        ∧ t.get Fld.SYSCFG_CLKCFG_PLLLOCK = (if v.toNat % 2 = 0 then 0 else s.get Fld.SYSCFG_CLKCFG_PLLLOCK)
        ∧ t.get Fld.SYSCFG_CLKCFG_CLKSRC = s.get Fld.SYSCFG_CLKCFG_CLKSRC
        ∧ RegsBut [Reg.SYSCFG_CLKCFG] s t ∧ t = { s with regs := t.regs })
    ∧ (s.has Fld.SYSCFG_CLKCFG_PLLEN = true →
      Answers (exec .pllLock s) fun t =>
        t.has Fld.SYSCFG_CLKCFG_PLLLOCK = true ∧ RegsBut [Reg.SYSCFG_CLKCFG] s t ∧ t = { s with regs := t.regs })
    ∧ (∀ n : Fin 8, Answers (exec (.backgroundStepRestart n) s) fun t =>
        n.val ∉ t.yielded ∧ (∀ k, k ≠ n.val → (k ∈ t.yielded ↔ k ∈ s.yielded))
        ∧ (2 < n.val → t = { s with yielded := t.yielded }))
    ∧ (∀ l : Lane, s.lanes.length = 2 → calMayRun s l = true → s.has (Fld.LANE_CALSTAT_BUSY l) = true →
        (s.lane l).calYield = true → (s.lane (otherLane l)).calYield = false →
      Answers (exec (.backgroundStepRestart 0) s) fun t =>
        t.laneSt l = 5 ∧ (t.lane l).calYield = false ∧ t.lane (otherLane l) = s.lane (otherLane l)
        ∧ RegsBut [Reg.LANE_STAT l, Reg.LANE_CALSTAT l, Reg.LANE_CALCNT l] s t
        ∧ t = { s with regs := t.regs, lanes := t.lanes, yielded := t.yielded })
    ∧ (∀ n : Nat, s.lfMode = false → n * 64 < 2 ^ 32 →
      Answers (exec (.lfincMeasure n) s) fun t =>
        t.get Fld.TIDE_LFINC_INC = n * 64 % 2 ^ Fld.TIDE_LFINC_INC.width
        ∧ RegsBut [Reg.TIDE_LFINC] s t ∧ t = { s with regs := t.regs })
    ∧ (∀ w : Bool, Answers (exec (.xtalok w) s) fun t => t.has Fld.TIDE_CLKCTL_XTALOK = w ∧ RegsBut [Reg.TIDE_CLKCTL] s t
      ∧ t = { s with regs := t.regs })

/-- Reading and capturing tide time (R85, R86): a read of TIDE_NOWLO answers the lower word and latches the matching
upper word into TIDE_NOWHI; a capture stores TIDE_NOW in TIDE_CAPLO[k] and TIDE_CAPHI[k]. -/
def Obligations.TideTimeReadAndCapture : Prop :=
  ∀ (s : State),
    Answers (exec .tideNowloRead s) (fun t =>
      t.bus = .data (BitVec.ofNat 32 s.now) ∧ t.rd Reg.TIDE_NOWHI = BitVec.ofNat 32 (s.now / 2 ^ 32)
      ∧ RegsBut [Reg.TIDE_NOWLO, Reg.TIDE_NOWHI] s t ∧ t = { s with regs := t.regs, bus := t.bus })
    ∧ ∀ k : Fin 4, Answers (exec (.tideCapture k) s) (fun t =>
      t.rd (Reg.TIDE_CAPLO k) = BitVec.ofNat 32 s.now ∧ t.rd (Reg.TIDE_CAPHI k) = BitVec.ofNat 32 (s.now / 2 ^ 32)
      ∧ RegsBut [Reg.TIDE_CAPLO k, Reg.TIDE_CAPHI k] s t ∧ t = { s with regs := t.regs, tasks := t.tasks })

/-- Gates (R113, R114): an enabled gate that is not held and whose T has come gives its sluice one edge; a one-shot gate
is disarmed, a periodic one takes T + PER; TIDE_GATELATE is set where it fires more than one tick after T. A gate that
is not due does nothing. -/
def Obligations.GateFires : Prop :=
  ∀ (g : Fin 32) (s : State), s.has (Fld.TIDE_GATE_CTL_EN g) = true → s.gateHeld g = false →
    s.gateStepped g = false → s.gateLateNext g = false →
    (s.now < s.gateT g → exec (.gateFire g) s = .next s)
    ∧ (s.gateT g ≤ s.now → Answers (exec (.gateFire g) s) fun t =>
        t.edges = s.edges ++ [.direct (s.get (Fld.TIDE_GATE_CTL_SLUICE g))]
        ∧ (s.get (Fld.TIDE_GATE_PER_PER g) = 0 → t.has (Fld.TIDE_GATE_CTL_EN g) = false ∧ t.gateT g = s.gateT g)
        ∧ (s.get (Fld.TIDE_GATE_PER_PER g) ≠ 0 → t.has (Fld.TIDE_GATE_CTL_EN g) = true
            ∧ t.gateT g = (s.gateT g + s.get (Fld.TIDE_GATE_PER_PER g)) % 2 ^ 64)
        ∧ t.bit Reg.TIDE_GATELATE g = (decide (s.gateT g + 1 < s.now) || s.bit Reg.TIDE_GATELATE g)
        ∧ RegsBut [Reg.TIDE_GATE_CTL g, Reg.TIDE_GATE_TLO g, Reg.TIDE_GATE_THI g, Reg.TIDE_GATELATE] s t
        ∧ t = { s with regs := t.regs, tide := t.tide, edges := t.edges })

/-- Gate registers (after R119): while EN = 1 writes to TLO, THI and PER change nothing; with EN = 0 each stores its
register; a write of CTL stores its fields, and one with EN = 0 disarms the gate. A gate with WAKE = 1 that approaches
its time by TIDE_WAKELEAD while the island runs from the LF crystal starts the main crystal (after R116). Choices of the model it rests on:
notes/assumptions/1. -/
def Obligations.GateRegisterWrites : Prop :=
  ∀ (g : Fin 32) (v : Word) (s : State),
    (s.has (Fld.TIDE_GATE_CTL_EN g) = true →
      exec (.gateRegisterWrite g 0 v) s = .next s ∧ exec (.gateRegisterWrite g 1 v) s = .next s
      ∧ exec (.gateRegisterWrite g 2 v) s = .next s)
    ∧ (s.has (Fld.TIDE_GATE_CTL_EN g) = false → ∀ (r : Fin 4) (a : Nat),
        (r = 0 ∧ a = Reg.TIDE_GATE_TLO g) ∨ (r = 1 ∧ a = Reg.TIDE_GATE_THI g) ∨ (r = 2 ∧ a = Reg.TIDE_GATE_PER g) →
        Answers (exec (.gateRegisterWrite g r v) s) fun t => t.rd a = v ∧ RegsBut [a] s t ∧ t = { s with regs := t.regs })
    ∧ (v.toNat % 2 = 0 → Answers (exec (.gateRegisterWrite g 3 v) s) fun t =>
        t.has (Fld.TIDE_GATE_CTL_EN g) = false ∧ t.get (Fld.TIDE_GATE_CTL_SLUICE g) = v.toNat / 256 % 256
        ∧ t.get (Fld.TIDE_GATE_CTL_WAKE g) = v.toNat / 2 % 2 ∧ t.get (Fld.TIDE_GATE_CTL_STEPPOL g) = v.toNat / 4 % 2
        ∧ t.get (Fld.TIDE_GATE_CTL_ARMSYNC g) = v.toNat / 8 % 2
        ∧ RegsBut [Reg.TIDE_GATE_CTL g] s t ∧ t = { s with regs := t.regs, tide := t.tide })
    ∧ (s.lfMode = true → s.has (Fld.TIDE_GATE_CTL_EN g) = true → s.has (Fld.TIDE_GATE_CTL_WAKE g) = true → s.gateHeld g = false →
        s.gateT g ≤ s.now + s.get Fld.TIDE_WAKELEAD_LEAD →
        Answers (exec (.gateWakeRequest g) s) fun t => t.power.xtalStarting = true ∧ t = { s with power := t.power })

/-- Source, stratum and steps of tide time (after R84, R100, R103, R628): the parent times out to holdover; HOLDMAX ends
in stratum 15 with EV_TIDE_LOST; SRCSEL = 2 makes stratum 0; a software step moves TIDE_NOW by whole ticks, steps the
epoch and fires EV_TIDE_STEP, elapsed time does not move with it and the supervision deadlines of connected contexts
move as far (after R29); a slew that ends leaves no slew term;
without the LF crystal the snapshot is void (after R91). Choices of the model it rests on: notes/assumptions/1, 51. -/
def Obligations.TideSourceAndSteps : Prop :=
  ∀ (s : State),
    (s.get Fld.TIDE_CFG_SRCSEL = 0 → s.has Fld.TIDE_STAT_PVALID = true →
      Answers (exec .parentLossTimeout s) fun t =>
        t.has Fld.TIDE_STAT_PVALID = false ∧ t.has Fld.TIDE_STAT_HOLDOVER = true ∧ t.stratum = s.stratum
        ∧ RegsBut [Reg.TIDE_STAT] s t ∧ t = { s with regs := t.regs })
    ∧ (s.get Fld.TIDE_CFG_SRCSEL ≠ 2 → s.stratum ≠ 15 →
      Answers (exec .holdmaxExpiry s) fun t =>
        t.stratum = 15 ∧ t.has Fld.TIDE_STAT_SYNCED = false ∧ t.has Fld.TIDE_STAT_PVALID = false
        ∧ t.has Fld.TIDE_FLAGS_LOST = true ∧ t.get Fld.TIDE_CNT_LOSTS = s.counted Fld.TIDE_CNT_LOSTS ∧ Fires [EV.TIDE_LOST] s t
        ∧ RegsBut [Reg.TIDE_STAT, Reg.TIDE_FLAGS, Reg.TIDE_CNT] s t ∧ t = { s with regs := t.regs, edges := t.edges })
    ∧ (∀ v : Word, v.toNat % 4 = 2 → s.get Fld.TIDE_CFG_SRCSEL ≠ 2 →
      Answers (exec (.srcselWrite v) s) fun t =>
        t.get Fld.TIDE_CFG_SRCSEL = 2 ∧ t.stratum = 0 ∧ t.has Fld.TIDE_STAT_SYNCED = true
        ∧ t.has Fld.TIDE_STAT_PVALID = false ∧ t.has Fld.TIDE_STAT_HOLDOVER = false ∧ t.tide.cand = none
        ∧ Fires (if s.stratum = 15 then [EV.TIDE_SYNC] else []) s t
        ∧ (s.stratum ≠ 15 → RegsBut [Reg.TIDE_CFG, Reg.TIDE_STAT] s t)
        ∧ t = { s with regs := t.regs, tide := t.tide, edges := t.edges })
    ∧ (∀ d : Word, (s.get Fld.TIDE_CFG_SRCSEL = 2 ∨ s.stratum = 15) → 0 ≤ (s.now : Int) + d.toInt →
      (∀ n, n < 64 → s.tl n TF.VALID = 0) →
      Answers (exec (.tideAdjWrite d) s) fun t =>
        (t.now : Int) = s.now + d.toInt ∧ t.tide.elapsed = s.tide.elapsed ∧ t.has Fld.TIDE_FLAGS_STEP = true
        ∧ t.get Fld.TIDE_STAT_STEPEPOCH = (s.get Fld.TIDE_STAT_STEPEPOCH + 1) % 256
        ∧ t.get Fld.TIDE_CNT_STEPS = s.counted Fld.TIDE_CNT_STEPS ∧ Fires [EV.TIDE_STEP] s t
        ∧ (d.toInt < 0 → RegsBut [Reg.TIDE_STAT, Reg.TIDE_FLAGS, Reg.TIDE_CNT] s t)
        ∧ (∀ c, c < 512 → s.ctxBit c CF.CONN = true →
            t.ctx c CF.SUPDL = (((s.ctx c CF.SUPDL : Int) + d.toInt) % 2 ^ 40).toNat)
        ∧ ((∀ c, c < 512 → s.ctxBit c CF.CONN = false) → SameBytes s t) ∧ BytesOutside (ctxAddr 0) 65536 s t)
    ∧ Answers (exec .slewEnd s) (fun t =>
        t.tide = { s.tide with slew := 0, slewLeft := 0 } ∧ t.has Fld.TIDE_STAT_SLEWING = false
        ∧ RegsBut [Reg.TIDE_STAT] s t ∧ t = { s with regs := t.regs, tide := t.tide })
    ∧ Answers (exec .lfClockLoss s) (fun t =>
        t.snapshot.valid = false ∧ t.tide = { s.tide with lfPresent := false }
        ∧ t = { s with snapshot := t.snapshot, tide := t.tide })
/-! ### The event fabric (chapter 5) -/

/-- An edge meets a sluice (after R126, R132 to R134, R141, R142): it fires an idle sluice unless the governor trips,
joins a firing in flight, and makes a refractory sluice pending, or merges there; in quarantine it is dropped and
counted. Choices of the model it rests on: notes/assumptions/73. -/
def Obligations.EdgeMeetsSluice : Prop :=
  ∀ (n : Fin 256) (rest : List Edge) (s : State), s.committed = true → s.domOn 1 = true → s.edges = .direct n :: rest →
    (s.quarantined n = false → (s.sluice n).phase = .idle → governorTrips s n = false →
      Answers (exec (.sluiceInputEdge none) s) fun t =>
        (t.sluice n).phase = .flight ∧ (t.sluice n).consumers = boundTasks s n ∧ (t.sluice n).pending = false
        ∧ t.get (Fld.FABRIC_SLCNT_FIRES n) = s.counted (Fld.FABRIC_SLCNT_FIRES n)
        ∧ t.bit (Reg.FABRIC_BUSY (n.val / 32)) (n.val % 32) = true ∧ (∀ m, m ≠ n.val → t.sluice m = s.sluice m)
        ∧ RegsBut [Reg.FABRIC_SLCNT n, Reg.FABRIC_BUSY (n.val / 32), Reg.FABRIC_STAT] s t
        ∧ t = { s with regs := t.regs, edges := rest, sluices := t.sluices })
    ∧ (s.quarantined n = false → (s.sluice n).phase = .idle → governorTrips s n = true →
      Answers (exec (.sluiceInputEdge none) s) fun t =>
        t.quarantined n = true ∧ (t.sluice n).phase = .idle ∧ (t.sluice n).pending = false
        ∧ t.get Fld.FABRIC_GOVCNT_TRIPS = s.counted Fld.FABRIC_GOVCNT_TRIPS ∧ t.get Fld.FABRIC_GOVCNT_LASTSL = n
        ∧ t.edges = rest ++ [.producer EV.FABRIC_QUAR] ∧ (∀ m, m ≠ n.val → t.sluice m = s.sluice m)
        ∧ RegsBut [Reg.FABRIC_QUAR (n.val / 32), Reg.FABRIC_BUSY (n.val / 32), Reg.FABRIC_STAT, Reg.FABRIC_GOVCNT] s t
        ∧ t = { s with regs := t.regs, edges := t.edges, sluices := t.sluices })
    ∧ (s.quarantined n = false → (s.sluice n).phase = .refractory → (s.sluice n).pending = false →
      Answers (exec (.sluiceInputEdge none) s) fun t =>
        t.sluice n = { s.sluice n with pending := true } ∧ (∀ m, m ≠ n.val → t.sluice m = s.sluice m)
        ∧ t = { s with edges := rest, sluices := t.sluices })
    ∧ (∀ f : Field, (s.quarantined n = true ∧ f = Fld.FABRIC_SLCNT_QDROP n
          ∨ s.quarantined n = false ∧ (s.sluice n).phase = .refractory ∧ (s.sluice n).pending = true
            ∧ f = Fld.FABRIC_SLCNT_MERGED n
          ∨ s.quarantined n = false ∧ (s.sluice n).phase = .flight ∧ (s.sluice n).consumers = [] ∧ f = Fld.FABRIC_SLCNT_JOINED n) →
      Answers (exec (.sluiceInputEdge none) s) fun t =>
        t.get f = s.counted f ∧ RegsBut [Reg.FABRIC_SLCNT n] s t ∧ t = { s with regs := t.regs, edges := rest })

/-- A firing reaches its consumers and ends (after R129, R132, R134 to R137, R139, R575): a bound task input starts
where its domain is on and its consumer is not busy, and is dropped, flagged and reported where the domain is off; of
two conflicting GPIO tasks the loser is dropped and flagged; WATCH sets the sluice's flag; a firing with no bound task
input ends at the boundary; after the last acknowledgement a pending sluice fires once more. Choices of the model it
rests on: notes/assumptions/1, 73, 77, 81. -/
def Obligations.FiringReachesConsumers : Prop :=
  ∀ (n : Fin 256) (s : State), s.domOn 1 = true → (∀ k, k < 16 → s.ringSend k = true → s.ringMap k ≠ some n.val) →
    ((s.sluice n).phase = .flight →
      ((s.sluice n).consumers = [] →
        Answers (exec (.firingBoundary n) s) fun t =>
          (t.sluice n).phase = .idle ∧ t.bit (Reg.FABRIC_BUSY (n.val / 32)) (n.val % 32) = false
          ∧ t.bit (Reg.FABRIC_FLAG (n.val / 32)) (n.val % 32)
              = (s.has (Fld.FABRIC_SLCFG_WATCH n) || s.bit (Reg.FABRIC_FLAG (n.val / 32)) (n.val % 32))
          ∧ RegsBut [Reg.FABRIC_FLAG (n.val / 32), Reg.FABRIC_BUSY (n.val / 32), Reg.FABRIC_STAT] s t
          ∧ t = { s with regs := t.regs, sluices := t.sluices })
      ∧ (∀ i, (s.sluice n).consumers = [i] → taskCore s i = none → (0xA3 ≤ i → i < 0x163) →
          (∀ j ∈ s.tasks, taskLosesTo i j = false ∧ taskLosesTo j i = false) →
        Answers (exec (.firingBoundary n) s) fun t =>
          (t.sluice n).phase = .refractory
          ∧ (s.domOn (taskDomain s i) = true → t.tasks = s.tasks ++ [i] ∧ t.edges = s.edges)
          ∧ (s.domOn (taskDomain s i) = false → i < 480 → t.tasks = s.tasks ∧ Fires [EV.FABRIC_DROP] s t
              ∧ t.bit (Reg.FABRIC_TK_OFF (i / 32)) (i % 32) = true ∧ t.get Fld.FABRIC_LASTTK_TASK = i
              ∧ t.get Fld.FABRIC_LASTTK_CAUSE = 1)
          ∧ RegsBut [Reg.FABRIC_FLAG (n.val / 32), Reg.FABRIC_TK_OFF (i / 32), Reg.FABRIC_LASTTK] s t
          ∧ t = { s with regs := t.regs, sluices := t.sluices, tasks := t.tasks, edges := t.edges })
      ∧ (∀ i j w l, (s.sluice n).consumers = [i] → s.tasks = [j] → s.domOn (taskDomain s i) = true →
          (taskLosesTo i j = true ∧ w = j ∧ l = i ∨ taskLosesTo j i = true ∧ w = i ∧ l = j) →
        Answers (exec (.firingBoundary n) s) fun t =>
          (t.sluice n).phase = .refractory ∧ t.tasks = [w] ∧ Fires [EV.FABRIC_DROP] s t
          ∧ t.bit (Reg.FABRIC_TK_OVR (l / 32)) (l % 32) = true ∧ t.get Fld.FABRIC_LASTTK_TASK = l
          ∧ t.get Fld.FABRIC_LASTTK_CAUSE = 0
          ∧ RegsBut [Reg.FABRIC_FLAG (n.val / 32), Reg.FABRIC_TK_OVR (l / 32), Reg.FABRIC_LASTTK] s t
          ∧ t = { s with regs := t.regs, sluices := t.sluices, tasks := t.tasks, edges := t.edges }))
    ∧ ((s.sluice n).phase = .refractory →
      ((s.sluice n).pending = false →
        Answers (exec (.firingEnd n) s) fun t =>
          (t.sluice n).phase = .idle ∧ t.bit (Reg.FABRIC_BUSY (n.val / 32)) (n.val % 32) = false
          ∧ RegsBut [Reg.FABRIC_BUSY (n.val / 32), Reg.FABRIC_STAT] s t ∧ t = { s with regs := t.regs, sluices := t.sluices })
      ∧ ((s.sluice n).pending = true → governorTrips s n = false →
        Answers (exec (.firingEnd n) s) fun t =>
          (t.sluice n).phase = .flight ∧ (t.sluice n).pending = false ∧ (t.sluice n).consumers = boundTasks s n
          ∧ t.get (Fld.FABRIC_SLCNT_FIRES n) = s.counted (Fld.FABRIC_SLCNT_FIRES n)
          ∧ RegsBut [Reg.FABRIC_SLCNT n, Reg.FABRIC_BUSY (n.val / 32), Reg.FABRIC_STAT] s t
          ∧ t = { s with regs := t.regs, sluices := t.sluices }))

/-- Software firings (R138): each bit set in a write of FABRIC_FIRE[m] fires its sluice where SWFIRE = 1; with SWFIRE =
0 it only sets FABRIC_ERR.SWREJ, and for a quarantined sluice it only sets FABRIC_ERR.QFIRE and counts in QDROP. -/
def Obligations.SoftwareFirings : Prop :=
  ∀ (m : Fin 8) (v : Word) (s : State),
    Answers (exec (.fabricFireWrite m v) s) fun t =>
      t.edges = s.edges ++ ((bitsOf 32 v.toNat).filter (fun k =>
          s.has (Fld.FABRIC_SLCFG_SWFIRE (32 * m.val + k)) && !s.quarantined (32 * m.val + k))).map (fun k => .direct (32 * m.val + k))
      ∧ t.has Fld.FABRIC_ERR_SWREJ = (s.has Fld.FABRIC_ERR_SWREJ
          || (bitsOf 32 v.toNat).any (fun k => !s.has (Fld.FABRIC_SLCFG_SWFIRE (32 * m.val + k))))
      ∧ t.has Fld.FABRIC_ERR_QFIRE = (s.has Fld.FABRIC_ERR_QFIRE || (bitsOf 32 v.toNat).any (fun k =>
          s.has (Fld.FABRIC_SLCFG_SWFIRE (32 * m.val + k)) && s.quarantined (32 * m.val + k)))
      ∧ (∀ k, k < 32 → t.get (Fld.FABRIC_SLCNT_QDROP (32 * m.val + k)) =
          if v.toNat.testBit k && s.has (Fld.FABRIC_SLCFG_SWFIRE (32 * m.val + k)) && s.quarantined (32 * m.val + k)
          then s.counted (Fld.FABRIC_SLCNT_QDROP (32 * m.val + k)) else s.get (Fld.FABRIC_SLCNT_QDROP (32 * m.val + k)))
      ∧ RegsBut (Reg.FABRIC_ERR :: (List.range 32).map (fun k => Reg.FABRIC_SLCNT (32 * m.val + k))) s t
      ∧ t = { s with regs := t.regs, edges := t.edges }

/-- Release from quarantine (after R143): a write of FABRIC_QUAR[m] releases the sluices whose bits are 1,
TK_FABRIC_RELEASEALL every quarantined sluice; the governor history of a released sluice is cleared, and no sluice
fires. Choices of the model it rests on: notes/assumptions/68. -/
def Obligations.QuarantineRelease : Prop :=
  ∀ (s : State),
    (∀ (m : Fin 8) (v : Word), Answers (exec (.fabricQuarRelease m v) s) fun t =>
      (∀ k, k < 32 → t.quarantined (32 * m.val + k) = (s.quarantined (32 * m.val + k) && !v.toNat.testBit k))
      ∧ (∀ n, t.sluice n = if n / 32 = m.val ∧ v.toNat.testBit (n % 32) = true ∧ s.quarantined n = true
          then { s.sluice n with hist := [] } else s.sluice n)
      ∧ RegsBut [Reg.FABRIC_QUAR m, Reg.FABRIC_STAT] s t ∧ t = { s with regs := t.regs, sluices := t.sluices })
    ∧ Answers (exec .fabricReleaseall s) (fun t =>
      (∀ n : Fin 256, t.quarantined n = false)
      ∧ (∀ n : Fin 256, t.sluice n = if s.quarantined n = true then { s.sluice n with hist := [] } else s.sluice n)
      ∧ RegsBut (Reg.FABRIC_STAT :: (List.range 8).map Reg.FABRIC_QUAR) s t
      ∧ t = { s with regs := t.regs, sluices := t.sluices, tasks := t.tasks })
/-! ### Configuration cells and patches (chapter 3) -/

/-- Commit, patch and check (after R67 to R80): the software commit, the start of a patch load and its end, its discard
and its commit by task, the check pass and the reload of a group. Choices of the model it rests on:
notes/assumptions/22, 24, 25. -/
def Obligations.ConfigurationLoading : Prop :=
  ∀ (s : State),
    (s.committed = false → s.get Fld.KEYSTORE_STAT_LC ≤ 1 → s.ringSt = 0 → Answers (exec .saltcmtCommit s) fun t =>
      t.committed = true ∧ t.get Fld.SYSCFG_SALTSTAT_SOURCE = 0 ∧ t.salt.records.map (fun r => r.type) = [1, 2, 3]
      ∧ RegsBut [Reg.SYSCFG_SALTSTAT, Reg.SYSCFG_CFGCHK] s t
      ∧ t = { s with regs := t.regs, salt := t.salt })
    ∧ (s.committed = true → exec .saltcmtCommit s = .next s)
    ∧ (∀ (mode : Fin 4), s.patchActive = false → s.salt.reloading = none → Answers (exec (.patchStart mode) s) fun t =>
        t.salt = { s.salt with load := some ((s.rd Reg.SYSCFG_PATCHADDR).toNat / 4 * 4, mode.val) } ∧ t.has Fld.SYSCFG_PATCHSTAT_BUSY = true
        ∧ t.get Fld.SYSCFG_PATCHCTL_MODE = mode.val ∧ t.has Fld.SYSCFG_PATCHCTL_START = true
        ∧ RegsBut [Reg.SYSCFG_PATCHCTL, Reg.SYSCFG_PATCHSTAT, Reg.PKE_CLAIM] s t ∧ t = { s with regs := t.regs, salt := t.salt })
    ∧ (∀ (a mode : Nat), s.salt.load = some (a, mode) → s.salt.reloadLater = [] →
      (s.has Fld.PKE_CLAIM_LOADER = true ∨ wantsPke s a = false) →
      ((imageCheck s true a).1 ≠ 0 → (imageCheck s true a).1 < 2 ^ 16 → Answers (exec .patchLoadDone s) fun t =>
        t.get Fld.SYSCFG_PATCHSTAT_RESULT = (imageCheck s true a).1 ∧ t.get Fld.SYSCFG_SALTSTAT_LASTCODE = (imageCheck s true a).1
        ∧ t.has Fld.SYSCFG_PATCHSTAT_BUSY = false ∧ t.salt = { s.salt with load := none } ∧ t.has Fld.PKE_CLAIM_LOADER = false
        ∧ Fires [EV.SYSCFG_PATCHDONE] s t ∧ t = { s with regs := t.regs, mem := t.mem, salt := t.salt, edges := t.edges })
      ∧ ((imageCheck s true a).1 = 0 → mode = 1 → Answers (exec .patchLoadDone s) fun t =>
        t.get Fld.SYSCFG_PATCHSTAT_RESULT = 0 ∧ t.has Fld.SYSCFG_PATCHSTAT_PENDING = true ∧ t.has Fld.SYSCFG_PATCHSTAT_BUSY = false
        ∧ t.salt = { s.salt with load := none, shadow := imageCommits a (imageCheck s true a).2 } ∧ Fires [EV.SYSCFG_PATCHDONE] s t
        ∧ t = { s with regs := t.regs, mem := t.mem, salt := t.salt, edges := t.edges }))
    ∧ (s.has Fld.SYSCFG_PATCHSTAT_PENDING = true → s.salt.reloadLater = [] →
      (Answers (exec .patchDiscard s) fun t =>
        t.salt = { s.salt with shadow := [] } ∧ t.has Fld.SYSCFG_PATCHSTAT_PENDING = false ∧ t.get Fld.SYSCFG_PATCHSTAT_RESULT = 0x0835
        ∧ RegsBut [Reg.SYSCFG_PATCHCTL, Reg.SYSCFG_PATCHSTAT] s t ∧ t = { s with regs := t.regs, salt := t.salt })
      ∧ ((∀ r ∈ s.salt.shadow, r.type = 0x0B) → s.salt.shadow ≠ [] → Answers (exec .patchCommitTask s) fun t =>
        t.salt.shadow = [] ∧ t.has Fld.SYSCFG_PATCHSTAT_PENDING = false ∧ t.get Fld.SYSCFG_SALTSTAT_PATCHES = s.counted Fld.SYSCFG_SALTSTAT_PATCHES
        ∧ (∀ r, s.salt.shadow = [r] → t.record 0x0B = some r) ∧ SameBytes s t))
    ∧ (s.lfMode = false → s.committed = true → checkGroups s ≠ [] →
      exec .cfgchkPassStart s = .next { s with salt := { s.salt with passGroup := some 0 } })
    ∧ (∀ (g ty : Nat) (c : BitVec 16) (next : Option Nat), s.salt.passGroup = some g → s.lfMode = false →
        (checkGroups s)[g]? = some (ty, c) → next = (if g + 1 < (checkGroups s).length then some (g + 1) else none) →
      (∀ x : BitVec 16, Answers (exec (.cfgchkGroupStep true x) s) fun t =>
        4 ∈ t.yielded ∧ t.get (Fld.SYSCFG_BGYIELD_YIELDS 4) = s.counted (Fld.SYSCFG_BGYIELD_YIELDS 4)
        ∧ RegsBut [Reg.SYSCFG_BGYIELD 4] s t ∧ t = { s with regs := t.regs, yielded := t.yielded })
      ∧ (Answers (exec (.cfgchkGroupStep false c) s) fun t =>
        t.salt = { s.salt with passGroup := next } ∧ 4 ∉ t.yielded ∧ t = { s with salt := t.salt, yielded := t.yielded })
      ∧ (∀ x : BitVec 16, x ≠ c → s.patchActive = false → s.salt.reloading = none → s.salt.reloadLater = [] →
        Answers (exec (.cfgchkGroupStep false x) s) fun t =>
          t.salt = { s.salt with passGroup := next, reloading := some (ty, g) } ∧ 4 ∉ t.yielded
          ∧ t = { s with salt := t.salt, yielded := t.yielded }))
    ∧ (∀ (ty g : Nat), s.salt.reloading = some (ty, g) →
      (reloadRecord s ty = none → exec .configReloadDone s = .next { s with salt := { s.salt with reloading := none }, boot := { s.boot with scope := max s.boot.scope 2, causes := setBitN s.boot.causes 7 } })
      ∧ (∀ r, reloadRecord s ty = some r → ty = 0x0B → r.type = 0x0B → s.salt.startWaits = false → s.salt.reloadLater = [] → Answers (exec .configReloadDone s) fun t =>
        t.get Fld.SYSCFG_CFGERR_MISMATCHES = s.counted Fld.SYSCFG_CFGERR_MISMATCHES ∧ t.get Fld.SYSCFG_CFGERR_RELOADS = s.counted Fld.SYSCFG_CFGERR_RELOADS
        ∧ t.get Fld.SYSCFG_CFGLAST_TYPE = ty ∧ t.salt.reloading = none ∧ t.record 0x0B = some r
        ∧ t.edges.getLast? = some (.producer EV.SYSCFG_CFGFIX) ∧ SameBytes s t))
/-! ### The transceiver lanes (chapter 6) -/

/-- Ownership and stepwise commands (after R152, R155, R184): a lane that software owns and that is in service takes the
target of a command, whatever its state below calibration; one that the link controller owns, or that is retired,
rejects it with CMDREJ and EV_LANEx_CMDREJ and stays as it was. OWNER changes only in SLEEP and STANDBY; elsewhere the
write sets CMDREJ. Choices of the model it rests on: notes/assumptions/48. -/
def Obligations.StepwiseCommands : Prop :=
  ∀ (l : Lane) (b cal : Bool) (m : Fin 5) (s : State),
    (∀ (c : Instr) (v : LaneState),
      (c = .laneSleep l b ∧ v = { s.lane l with goal := some .sleep, lbtWait := false, lbtClear := false, fullCal := false })
      ∨ ((c = .laneStandby l b ∨ c = .laneAbort l b)
          ∧ v = { s.lane l with goal := some .standby, lbtWait := false, lbtClear := false, fullCal := false })
      ∨ (c = .laneSynth l b cal
          ∧ v = { s.lane l with goal := some .synth, lbtWait := false, lbtClear := false, fullCal := cal && !b })
      ∨ (c = .laneRx l b ∧ v = { s.lane l with goal := some .rx, lbtWait := false, lbtClear := false, fullCal := false })
      ∨ (c = .laneTx l b m
          ∧ v = { s.lane l with goal := some .tx, goalMode := m, lbtWait := false, lbtClear := false, fullCal := false }) →
      (s.owner l = 1 → s.retired l = false → s.laneSt l < 5 →
        Answers (exec c s) fun t => t.lanes = setNth s.lanes l v ∧ t = { s with lanes := t.lanes, tasks := t.tasks })
      ∧ (s.owner l = 0 ∨ s.retired l = true →
        Answers (exec c s) fun t => t.has (Fld.LANE_FLAGS_CMDREJ l) = true ∧ Fires [EV.LANE_CMDREJ l] s t
          ∧ RegsBut [Reg.LANE_FLAGS l] s t ∧ t = { s with regs := t.regs, edges := t.edges, tasks := t.tasks }))
    ∧ (s.has (Fld.LANE_CTL_OWNER l) ≠ cal → 1 < s.laneSt l →
      Answers (exec (.laneOwnerWrite l cal) s) fun t =>
        t.owner l = s.owner l ∧ t.has (Fld.LANE_FLAGS_CMDREJ l) = true ∧ RegsBut [Reg.LANE_FLAGS l] s t
        ∧ t = { s with regs := t.regs })
    ∧ (s.has (Fld.LANE_CTL_OWNER l) ≠ cal → s.laneSt l ≤ 1 → s.has Fld.RF_PAIR_EN = false → s.paired = false →
      Answers (exec (.laneOwnerWrite l cal) s) fun t =>
        t.has (Fld.LANE_CTL_OWNER l) = cal ∧ RegsBut [Reg.LANE_CTL l] s t ∧ t = { s with regs := t.regs })
    ∧ Answers (exec (.portSettled l) s) (fun t =>
        t.lanes = setNth s.lanes l { s.lane l with settling := false, waitPort := false } ∧ t = { s with lanes := t.lanes })

/-- Stepwise transitions (after R153, R155, R164): STANDBY loses the lock and fires EV_LANEx_STANDBY; SYNTH locks on
LANE_FREQ with EV_LANEx_LOCK; from a lock on LANE_FREQ RX fires EV_LANEx_RXON, and a TX whose sub-band has credit, dwell
and no listen time fires EV_LANEx_TXSTART at the clamped power; all where no calibration entry of the lane has a parity
error. Choices of the model it rests on: notes/assumptions/48,
64. -/
def Obligations.StepwiseTransitions : Prop :=
  ∀ (l : Lane) (mV : BitVec 16) (res : Word) (fault : Bool) (s : State), l.val < s.lanes.length →
    ((s.lane l).goal = some .standby → s.laneSt l ≤ 2 →
      Answers (exec (.laneTransitionDone l mV res fault) s) fun t =>
        t.laneSt l = 1 ∧ t.has (Fld.LANE_STAT_LOCK l) = false ∧ (t.lane l).goal = none ∧ Fires [EV.LANE_STANDBY l] s t
        ∧ RegsBut [Reg.LANE_STAT l] s t ∧ t = { s with regs := t.regs, lanes := t.lanes, edges := t.edges })
    ∧ ((s.lane l).goal = some .synth → (s.laneSt l = 1 ∨ s.laneSt l = 2) → (s.lane l).fullCal = false →
      (s.lane l).calBad = [] → (∀ p, p < 16 → s.has (Fld.MODEM_PANCFG_EN p) = false) →
      Answers (exec (.laneTransitionDone l mV res fault) s) fun t =>
        t.laneSt l = 2 ∧ t.has (Fld.LANE_STAT_LOCK l) = true ∧ t.laneBand l = freqBand (s.get (Fld.LANE_FREQ_FREQ l))
        ∧ (t.lane l).lockedFreq = s.get (Fld.LANE_FREQ_FREQ l) ∧ (t.lane l).goal = none ∧ Fires [EV.LANE_LOCK l] s t
        ∧ RegsBut [Reg.LANE_STAT l] s t ∧ t = { s with regs := t.regs, lanes := t.lanes, edges := t.edges })
    ∧ (s.laneSt l = 2 → s.has (Fld.LANE_STAT_LOCK l) = true → (s.lane l).lockedFreq = s.get (Fld.LANE_FREQ_FREQ l) →
      (s.lane l).fullCal = false → (s.lane l).settling = false → (s.lane l).calBad = [] →
      ((s.lane l).goal = some .rx → rxRefCode s = 0 → (∀ p, p < 16 → s.has (Fld.MODEM_PANCFG_EN p) = false) →
        Answers (exec (.laneTransitionDone l mV res fault) s) fun t =>
          t.laneSt l = 3 ∧ (t.lane l).goal = none ∧ (t.lane l).rxFrom = s.elapsed
          ∧ t.get (Fld.MODEM_LANEGAIN_GAIN l) = gainLast s l ∧ Fires [EV.LANE_RXON l] s t
          ∧ RegsBut [Reg.LANE_STAT l, Reg.MODEM_LANEGAIN l] s t
          ∧ t = { s with regs := t.regs, lanes := t.lanes, modem := t.modem, edges := t.edges })
      ∧ (∀ k, (s.lane l).goal = some .tx → (s.lane l).lbtWait = false → stepTxCode s l = 0 →
          stepSubBand s l (s.lane l).goalMode = some k → lbtTicks s k = 0 →
        Answers (exec (.laneTransitionDone l mV res fault) s) fun t =>
          t.laneSt l = 4 ∧ (t.lane l).txSub = some k ∧ (t.lane l).txFrom = s.elapsed ∧ (t.lane l).goal = none
          ∧ t.getS (Fld.LANE_PWRSTAT_TARGET l)
              = toS 8 (ofS 8 (targetPower s l k (s.getS (Fld.LANE_PWR_LEVEL l)) mV.toNat))
          ∧ EV.LANE_TXSTART l ∈ (t.edges.drop s.edges.length).filterMap Edge.source
          ∧ RegsOutside (fun a => a == Reg.LANE_STAT l || a == Reg.LANE_PWRSTAT l || a == Reg.LANE_FLAGS l
              || Reg.LIFE_VAL 0 ≤ a && a < Reg.LIFE_VAL 32) s t))

/-- Stepwise work that fails or is cut off (after R154, R171, R349, R172): a lock that does not come leaves STANDBY,
LOCKFAIL and 0x0102; a running stepwise TX that reaches its dwell limit ends in STANDBY with 0x0303 and DWELL, one whose
credit ends stops in STANDBY; a clear listen period lets the TX go on, a busy one refuses it with 0x0304 in SYNTH.
Choices of the model it rests on: notes/assumptions/48. -/
def Obligations.StepwiseWorkEnds : Prop :=
  ∀ (l : Lane) (s : State), l.val < s.lanes.length →
    ((∀ a ∈ s.acts, a.lane ≠ l.val) →
      Answers (exec (.synthLockTimeout l) s) fun t =>
        t.laneSt l = 1 ∧ t.has (Fld.LANE_STAT_LOCK l) = false ∧ (t.lane l).goal = none
        ∧ t.has (Fld.LANE_FLAGS_LOCKFAIL l) = true ∧ t.get (Fld.LANE_LASTCODE_CODE l) = 0x0102
        ∧ Fires [EV.LANE_LOCKFAIL l] s t ∧ RegsBut [Reg.LANE_STAT l, Reg.LANE_FLAGS l, Reg.LANE_LASTCODE l] s t
        ∧ t = { s with regs := t.regs, lanes := t.lanes, edges := t.edges })
    ∧ ((s.lane l).txSub.isSome = true → s.laneSt l = 4 → s.rf.portWait = none →
      Answers (exec (.stepwiseDwellExpiry l) s) (fun t =>
        t.laneSt l = 1 ∧ t.has (Fld.LANE_STAT_LOCK l) = false ∧ (t.lane l).txSub = none ∧ (t.lane l).goal = none
        ∧ t.has (Fld.LANE_FLAGS_DWELL l) = true ∧ t.get (Fld.LANE_LASTCODE_CODE l) = 0x0303
        ∧ Fires [EV.LANE_TXEND l, EV.LANE_DWELL l] s t ∧ SameBytes s t)
      ∧ Answers (exec (.stepwiseDutyExhaust l) s) (fun t =>
        t.laneSt l = 1 ∧ t.has (Fld.LANE_STAT_LOCK l) = false ∧ (t.lane l).txSub = none
        ∧ Fires [EV.LANE_TXEND l] s t ∧ SameBytes s t))
    ∧ (∀ (mean : Int), (s.lane l).lbtWait = true →
      (lbtBusy s ((stepSubBand s l (s.lane l).goalMode).getD 0) mean = false →
        Answers (exec (.lbtListenEnd l mean) s) fun t =>
          (t.lane l).lbtWait = false ∧ (t.lane l).lbtClear = true ∧ Fires [EV.LANE_LBTCLEAR l] s t
          ∧ t = { s with lanes := t.lanes, edges := t.edges })
      ∧ (lbtBusy s ((stepSubBand s l (s.lane l).goalMode).getD 0) mean = true →
        Answers (exec (.lbtListenEnd l mean) s) fun t =>
          t.laneSt l = s.laneSt l ∧ (t.lane l).goal = none ∧ (t.lane l).lbtWait = false
          ∧ t.has (Fld.LANE_FLAGS_LBTBUSY l) = true ∧ t.get (Fld.LANE_CNT_LBTBUSY l) = s.counted (Fld.LANE_CNT_LBTBUSY l)
          ∧ t.get (Fld.LANE_LASTCODE_CODE l) = 0x0304 ∧ Fires [EV.LANE_LBTBUSY l] s t
          ∧ RegsBut [Reg.LANE_FLAGS l, Reg.LANE_CNT l, Reg.LANE_LASTCODE l] s t
          ∧ t = { s with regs := t.regs, lanes := t.lanes, edges := t.edges }))

/-- The port map (after R148, R149): a map that connects one chain to two ports only sets RF_FLAGS.PORTERR; one that
changes a port of a chain in RX or TX waits with PENDING = 1; any other takes effect, also one that waited once nothing
blocks it. RF_PAIR with EN = 0 leaves unpaired lanes unpaired. Choices of the model it rests on: notes/assumptions/1. -/
def Obligations.PortMapAndPairing : Prop :=
  ∀ (v : Word) (s : State),
    (portClash (v.toNat % 256) = true →
      Answers (exec (.portmapWrite v) s) fun t =>
        t.has Fld.RF_FLAGS_PORTERR = true ∧ RegsBut [Reg.RF_FLAGS] s t ∧ t = { s with regs := t.regs })
    ∧ (portClash (v.toNat % 256) = false → portsBlocked s (v.toNat % 256) = true →
      Answers (exec (.portmapWrite v) s) fun t =>
        t.rf.portWait = some (v.toNat % 256) ∧ t.has Fld.RF_PORTMAP_PENDING = true
        ∧ (t.rd Reg.RF_PORTMAP).toNat % 256 = (s.rd Reg.RF_PORTMAP).toNat % 256
        ∧ RegsBut [Reg.RF_PORTMAP] s t ∧ t = { s with regs := t.regs, rf := t.rf })
    ∧ (∀ c : Instr, (c = .portmapWrite v ∧ portClash (v.toNat % 256) = false)
          ∨ (c = .portmapSwitch ∧ s.rf.portWait = some (v.toNat % 256)) → portsBlocked s (v.toNat % 256) = false →
      Answers (exec c s) fun t =>
        (t.rd Reg.RF_PORTMAP).toNat % 256 = v.toNat % 256 ∧ t.has Fld.RF_PORTMAP_PENDING = false ∧ t.rf.portWait = none
        ∧ (∀ l, l < 2 → l < s.lanes.length → (t.lane l).settling = ((s.lane l).settling
            || (portsChanged (s.rd Reg.RF_PORTMAP).toNat (v.toNat % 256)).any (fun p =>
                portSource (s.rd Reg.RF_PORTMAP).toNat p.1 == l || portSource (v.toNat % 256) p.1 == l)))
        ∧ RegsBut [Reg.RF_PORTMAP] s t ∧ t = { s with regs := t.regs, rf := t.rf, lanes := t.lanes })
    ∧ (v.toNat % 2 = 0 → s.paired = false →
      Answers (exec (.rfPairWrite v) s) fun t =>
        t.has Fld.RF_PAIR_EN = false ∧ t.get Fld.RF_PAIR_TXLANE = v.toNat / 2 % 4 ∧ t.paired = false
        ∧ RegsBut [Reg.RF_PAIR] s t ∧ t = { s with regs := t.regs })

/-- Health tests (after R166, R179 to R181): a request, and each health period, starts a test on an idle lane that has no
activity to prepare within 48 us; a passed step leads to the next, a failed one repeats the test once, and a passed last
step fires EV_LANEx_HEALTHPASS, counts the run and gives the lane back; a PA fault sets PAFAULT and records 0x0103, and
the third in a period starts a test. Choices of the model it rests on: notes/assumptions/49. -/
def Obligations.HealthTests : Prop :=
  ∀ (l : Lane) (b : Bool) (s : State), l.val < s.lanes.length →
    (s.laneSt l ≤ 2 → (s.lane l).goal = none → launchNear s l 1536 = false →
      (∀ a ∈ s.acts, a.lane = l.val → a.isRunning = false) → s.has (Fld.LANE_HSTAT_RUNNING l) = false →
      ∀ c : Instr, c = .laneHealthreq l b ∨ c = .healthPeriod l →
      Answers (exec c s) fun t =>
        t.has (Fld.LANE_HSTAT_RUNNING l) = true ∧ (t.lane l).hStep = 1 ∧ t.laneSt l = 6
        ∧ t.has (Fld.LANE_STAT_LOCK l) = false
        ∧ RegsBut [Reg.LANE_HSTAT l, Reg.LANE_STAT l, Reg.LANE_CTL l] s t
        ∧ t = { s with regs := t.regs, lanes := t.lanes, tasks := t.tasks, yielded := t.yielded })
    ∧ (s.has (Fld.LANE_HSTAT_RUNNING l) = true → s.laneSt l = 6 →
      ((s.lane l).hStep < 7 → launchNear s l 1536 = false →
        Answers (exec (.healthStepDone l true) s) fun t =>
          (t.lane l).hStep = (s.lane l).hStep + 1 ∧ t = { s with lanes := t.lanes })
      ∧ ((s.lane l).hStep = 7 →
        Answers (exec (.healthStepDone l true) s) fun t =>
          t.has (Fld.LANE_HSTAT_RUNNING l) = false ∧ t.get (Fld.LANE_HSTAT_LASTSTEP l) = 0
          ∧ t.has (Fld.LANE_CTL_HEALTHREQ l) = false ∧ t.get (Fld.LANE_HCNT_RUNS l) = s.counted (Fld.LANE_HCNT_RUNS l)
          ∧ t.laneSt l = (s.lane l).idleState % 8 ∧ Fires [EV.LANE_HEALTHPASS l] s t
          ∧ RegsBut [Reg.LANE_HSTAT l, Reg.LANE_STAT l, Reg.LANE_CTL l, Reg.LANE_HCNT l] s t
          ∧ t = { s with regs := t.regs, lanes := t.lanes, edges := t.edges })
      ∧ ((s.lane l).hAgain = false → launchNear s l 1536 = false →
        Answers (exec (.healthStepDone l false) s) fun t =>
          (t.lane l).hStep = 1 ∧ (t.lane l).hAgain = true ∧ t = { s with lanes := t.lanes }))
    ∧ ((s.lane l).txSub = none → (∀ a ∈ s.acts, a.lane ≠ l.val) → (s.lane l).paFaults < 2 →
      Answers (exec (.paFault l) s) fun t =>
        t.has (Fld.LANE_FLAGS_PAFAULT l) = true ∧ t.get (Fld.LANE_LASTCODE_CODE l) = 0x0103
        ∧ (t.lane l).paFaults = (s.lane l).paFaults + 1 ∧ Fires [EV.LANE_PAFAULT l] s t
        ∧ RegsBut [Reg.LANE_FLAGS l, Reg.LANE_LASTCODE l] s t
        ∧ t = { s with regs := t.regs, lanes := t.lanes, edges := t.edges })

/-- Retirement, takeover and restoration (after R182, R183, R185): a retired idle lane is in state 7, unlocked, with no
port, its SYSCFG_FOSTAT flag set and its last code as it was, and the other lane is to take its roles over; a lane whose
other is retired is not retired (0x0120); a restoration needs a passed test, and brings the lane back in STANDBY with
EV_LANEx_RESTORED. Choices of the model it rests on: notes/assumptions/49. -/
def Obligations.RetirementAndRestoration : Prop :=
  ∀ (l : Lane) (s : State), s.lanes.length = 2 → s.has Fld.RF_PAIR_EN = false → s.paired = false →
    (s.retired l = false → s.retired (otherLane l) = false → s.laneSt l ≤ 2 → (∀ a ∈ s.acts, a.lane ≠ l.val) →
      (s.lane l).txSub = none →
      Answers (exec (.laneRetire l) s) fun t =>
        t.retired l = true ∧ t.laneSt l = 7 ∧ t.has (Fld.LANE_STAT_LOCK l) = false ∧ t.has (Fld.LANE_CTL_RETIRE l) = false
        ∧ t.get (Fld.LANE_LASTCODE_CODE l) = s.get (Fld.LANE_LASTCODE_CODE l) ∧ t.has (fostatLane l) = true ∧ t.get (Fld.LANE_STAT_ROLES l) = 0
        ∧ (∀ p ∈ ports, portSource (t.rd Reg.RF_PORTMAP).toNat p.1 ≠ l.val)
        ∧ (t.lane (otherLane l)).takeover = true ∧ Fires [EV.LANE_RETIRED l] s t ∧ SameBytes s t)
    ∧ (s.retired l = false → s.retired (otherLane l) = true →
      Answers (exec (.laneRetire l) s) fun t =>
        t.retired l = false ∧ t.get (Fld.LANE_LASTCODE_CODE l) = 0x0120 ∧ t.has (Fld.LANE_FLAGS_HEALTHFAIL l) = true
        ∧ t.has (Fld.LANE_CTL_RETIRE l) = false ∧ RegsBut [Reg.LANE_LASTCODE l, Reg.LANE_FLAGS l, Reg.LANE_CTL l] s t
        ∧ t = { s with regs := t.regs })
    ∧ ((s.lane l).takeover = true → s.retired l = false → s.retired (otherLane l) = true →
      Answers (exec (.laneTakeover l) s) fun t =>
        (t.lane l).takeover = false ∧ t.get (Fld.LANE_STAT_ROLES l) = (s.laneRoles l ||| s.laneTakeoverRoles l) % 256
        ∧ Fires [EV.LANE_TAKEOVER l] s t ∧ RegsBut [Reg.LANE_STAT 0, Reg.LANE_STAT 1] s t
        ∧ t = { s with regs := t.regs, lanes := t.lanes, edges := t.edges })
    ∧ (s.retired l = true → s.get (Fld.LANE_HSTAT_LASTSTEP l) = 0 →
      Answers (exec (.laneRestore l) s) fun t =>
        (t.lane l).restoring = true ∧ t.has (Fld.LANE_CTL_RESTORE l) = true ∧ RegsBut [Reg.LANE_CTL l] s t
        ∧ t = { s with regs := t.regs, lanes := t.lanes })
    ∧ ((s.lane l).restoring = true → s.has (Fld.LANE_HSTAT_RUNNING l) = false → s.laneSt l = 7 →
      Answers (exec (.laneRolesReturn l) s) fun t =>
        t.retired l = false ∧ t.laneSt l = 1 ∧ t.has (fostatLane l) = false ∧ t.has (Fld.LANE_CTL_RESTORE l) = false
        ∧ (t.lane l).restoring = false ∧ (t.lane (otherLane l)).takeover = false ∧ Fires [EV.LANE_RESTORED l] s t
        ∧ RegsBut [Reg.LANE_STAT 0, Reg.LANE_STAT 1, Reg.LANE_CTL l, Reg.LANE_HSTAT l, Reg.SYSCFG_FOSTAT] s t
        ∧ t = { s with regs := t.regs, lanes := t.lanes, edges := t.edges })

/-- Software tightening (after R169): a write of RF_SWTIGHT[k] or RF_SWTIGHT2[k] takes each field that it does not
loosen; a field that it would loosen stays, and RF_FLAGS.TIGHTREJ is set. -/
def Obligations.SoftwareTightening : Prop :=
  ∀ (k : Fin 8) (v : Word) (s : State),
    Answers (exec (.swtightWrite k false v) s) (fun t =>
      t.getS (Fld.RF_SWTIGHT_PMAX k) = min (s.getS (Fld.RF_SWTIGHT_PMAX k)) (toS 8 v.toNat)
      ∧ t.getS (Fld.RF_SWTIGHT_LBTTHR k) = min (s.getS (Fld.RF_SWTIGHT_LBTTHR k)) (toS 8 (v.toNat / 2 ^ 8))
      ∧ t.get (Fld.RF_SWTIGHT_LBTTIME k) = (let old := s.get (Fld.RF_SWTIGHT_LBTTIME k); let new := v.toNat / 2 ^ 16 % 256
          if old = 0xFF then new else if new = 0xFF then old else max old new)
      ∧ t.has Fld.RF_FLAGS_TIGHTREJ = (s.has Fld.RF_FLAGS_TIGHTREJ
          || decide (s.getS (Fld.RF_SWTIGHT_PMAX k) < toS 8 v.toNat)
          || decide (s.getS (Fld.RF_SWTIGHT_LBTTHR k) < toS 8 (v.toNat / 2 ^ 8))
          || s.get (Fld.RF_SWTIGHT_LBTTIME k) != 0xFF
              && (v.toNat / 2 ^ 16 % 256 == 0xFF || decide (v.toNat / 2 ^ 16 % 256 < s.get (Fld.RF_SWTIGHT_LBTTIME k))))
      ∧ t.rd (Reg.RF_SWTIGHT2 k) = s.rd (Reg.RF_SWTIGHT2 k) ∧ t = { s with regs := t.regs, rf := t.rf })
    ∧ Answers (exec (.swtightWrite k true v) s) (fun t =>
      t.get (Fld.RF_SWTIGHT2_DUTY k)
          = min (s.get (Fld.RF_SWTIGHT2_DUTY k)) (v.toNat % 2 ^ 16)
      ∧ t.get (Fld.RF_SWTIGHT2_DWELL k)
          = min (s.get (Fld.RF_SWTIGHT2_DWELL k)) (v.toNat / 2 ^ 16 % 2 ^ 16)
      ∧ t.has Fld.RF_FLAGS_TIGHTREJ = (s.has Fld.RF_FLAGS_TIGHTREJ
          || decide (s.get (Fld.RF_SWTIGHT2_DUTY k) < v.toNat % 2 ^ 16)
          || decide (s.get (Fld.RF_SWTIGHT2_DWELL k) < v.toNat / 2 ^ 16 % 2 ^ 16))
      ∧ t.rd (Reg.RF_SWTIGHT k) = s.rd (Reg.RF_SWTIGHT k) ∧ t = { s with regs := t.regs, rf := t.rf })
/-! ### Calibration and oscillators (chapter 7, R121 to R125) -/

/-- Requests and samples (after R193, R194, R202): a write of LANE_CALREQ marks the entries whose bits are 1 stale,
TK_LANEx_CAL all 17, and an entry held after three failures is released; a temperature sample is stored, and marks each
entry stale whose temperature it has left by TEMPTHR, and entries with a parity error are reloaded; an entry's retry time
ends. Choices of the model it rests on:
notes/assumptions/1, 64. -/
def Obligations.CalibrationRequests : Prop :=
  ∀ (l : Lane) (s : State),
    (∀ (v : Word) (c : Instr), c = .calreqWrite l v ∨ (c = .laneCalTask l ∧ v = 0x1FFFF#32) →
      Answers (exec c s) fun t =>
        (∀ n, n < 17 → t.has (Fld.LANE_CALMETA_STALE l n) = (v.toNat.testBit n || s.has (Fld.LANE_CALMETA_STALE l n))
          ∧ t.get (Fld.LANE_CALMETA_FAILCNT l n) = (if v.toNat.testBit n = true ∧ s.get (Fld.LANE_CALMETA_FAILCNT l n) = 3 then 0
              else s.get (Fld.LANE_CALMETA_FAILCNT l n))
          ∧ t.rd (Reg.LANE_CALRES l n) = s.rd (Reg.LANE_CALRES l n))
        ∧ RegsBut (Reg.LANE_CALSTALE l :: (List.range 17).map (Reg.LANE_CALMETA l)) s t
        ∧ t = { s with regs := t.regs, lanes := t.lanes, tasks := t.tasks })
    ∧ (∀ (temp : BitVec 8) (upset : BitVec 17), s.domOn (9 + l.val) = true → (s.lane l).calBad = [] →
      Answers (exec (.laneTempSample l temp 0 upset) s) fun t =>
        t.getS (Fld.LANE_CALTEMP_TEMP l) = temp.toInt
        ∧ (∀ n, n < 17 → (s.get (Fld.LANE_CALCFG_TEMPTHR l) : Int) ≤ (temp.toInt - s.getS (Fld.LANE_CALMETA_TEMP l n)).natAbs →
            t.has (Fld.LANE_CALMETA_STALE l n) = true)
        ∧ (∀ n, n < 17 → s.has (Fld.LANE_CALMETA_STALE l n) = true → t.has (Fld.LANE_CALMETA_STALE l n) = true)
        ∧ RegsBut (Reg.LANE_CALTEMP l :: Reg.LANE_CALSTALE l :: (List.range 17).map (Reg.LANE_CALMETA l)) s t
        ∧ t = { s with regs := t.regs, lanes := t.lanes })
    ∧ (∀ n : Fin 17, l.val < s.lanes.length →
      Answers (exec (.calRetryTimer l n) s) fun t =>
        n.val ∉ (t.lane l).calRetry ∧ (∀ k, k ≠ n.val → (k ∈ (t.lane l).calRetry ↔ k ∈ (s.lane l).calRetry))
        ∧ t = { s with lanes := t.lanes })

/-- The calibration engine (after R196 to R198, R201): it takes an idle lane for the next stale entry, steps through it,
and a good result of the last step is stored with VALID and its stamp, no longer stale, and the lane returns to STANDBY.
Choices of the model it rests on: notes/assumptions/49, 50. -/
def Obligations.CalibrationEngine : Prop :=
  ∀ (l : Lane) (s : State), l.val < s.lanes.length →
    (∀ n, calMayRun s l = true → s.has (Fld.LANE_CALSTAT_BUSY l) = false → calNext s l = some n →
      Answers (exec (.calStepStart l) s) fun t =>
        t.laneSt l = 5 ∧ t.has (Fld.LANE_CALSTAT_BUSY l) = true ∧ t.get (Fld.LANE_CALSTAT_ENTRY l) = n
        ∧ t.get (Fld.LANE_CALSTAT_STEP l) = 1 ∧ RegsBut [Reg.LANE_STAT l, Reg.LANE_CALSTAT l] s t
        ∧ t = { s with regs := t.regs, lanes := t.lanes, yielded := t.yielded })
    ∧ (∀ (n k : Nat) (res : Word) (fault : Bool), s.laneSt l = 5 → s.get (Fld.LANE_CALSTAT_ENTRY l) = n →
        s.get (Fld.LANE_CALSTAT_STEP l) = k → (s.lane l).calRelock = 0 →
      (0 < k → k < calSteps n → calGoesOn s l = true →
        Answers (exec (.calStepDone l res fault) s) fun t =>
          t.get (Fld.LANE_CALSTAT_STEP l) = k + 1 ∧ RegsBut [Reg.LANE_CALSTAT l] s t ∧ t = { s with regs := t.regs })
      ∧ (calSteps n ≤ k → 0 < k → n < 17 → n ≠ 8 → calCode n res.toNat fault = 0 → s.owner l = 0 →
        Answers (exec (.calStepDone l res fault) s) fun t =>
          t.laneSt l = 1 ∧ t.has (Fld.LANE_CALSTAT_BUSY l) = false
          ∧ t.rd (Reg.LANE_CALRES l n) = res &&& calMask n ∧ t.has (Fld.LANE_CALMETA_VALID l n) = true
          ∧ t.has (Fld.LANE_CALMETA_STALE l n) = false ∧ t.has (Fld.LANE_CALMETA_FAILED l n) = false
          ∧ t.get (Fld.LANE_CALMETA_FAILCNT l n) = 0 ∧ t.get (Fld.LANE_CALSTAMP_STAMP l n) = s.stamp
          ∧ t.get (Fld.LANE_CALCNT_DONE l) = s.counted (Fld.LANE_CALCNT_DONE l)
          ∧ Fires (if t.get (Fld.LANE_CALSTALE_STALE l) = 0 then [EV.LANE_CALDONE l] else []) s t
          ∧ RegsBut [Reg.LANE_STAT l, Reg.LANE_CALSTAT l, Reg.LANE_CALRES l n, Reg.LANE_CALMETA l n, Reg.LANE_CALSTAMP l n,
              Reg.LANE_CALSTALE l, Reg.LANE_CALFAILED l, Reg.LANE_CALCNT l] s t
          ∧ t = { s with regs := t.regs, lanes := t.lanes, edges := t.edges }))

/-- RF_XTRIM (R203): while CLKSRC = 0b01 a write takes effect, and TIDE_RATE changes by RF_XPULL times the change of the
code; otherwise the write is ignored and sets RF_CALSTAT.XTRIMREJ. -/
def Obligations.CrystalTrimWrite : Prop :=
  ∀ (v : Word) (s : State),
    (s.clkSrc = 1 → Answers (exec (.xtrimWrite v) s) fun t =>
      t.get Fld.RF_XTRIM_TRIM = v.toNat % 256
      ∧ t.rate = toS 24 (ofS 24 (s.rate
          + s.getS Fld.RF_XPULL_PULL * (((v.toNat % 256 : Nat) : Int) - (s.get Fld.RF_XTRIM_TRIM : Int))))
      ∧ RegsBut [Reg.RF_XTRIM, Reg.TIDE_RATE] s t ∧ t = { s with regs := t.regs })
    ∧ (s.clkSrc ≠ 1 → Answers (exec (.xtrimWrite v) s) fun t =>
      t.has Fld.RF_CALSTAT_XTRIMREJ = true ∧ RegsBut [Reg.RF_CALSTAT] s t ∧ t = { s with regs := t.regs })

/-- The oscillators (after R121 to R125, R204, R205): the crystal's failure with idle lanes puts the island on RC64
(CLKSRC 0) with its flag and event and starts the RC64 procedure where the LF crystal runs; a measurement of it trims RC64,
the next one sets rate, CORR and RESID and, with enough discipline, takes CLKSRC to 0b10 with its flag and event; the
tracker moves TRIM by one step where RC64 is more than 50 ppm off; a discipline that is not renewed in time raises RESID to
80 and, above DISCTHR, takes CLKSRC back to 0; RETURN with XTALOK puts the island back on the crystal. With no enabled pan
(whose span a new rate would move) nothing else changes.
Choices of the model it rests on: notes/assumptions/50, 51. -/
def Obligations.OscillatorFailureAndReturn : Prop :=
  ∀ (s : State),
    (s.clkSrc = 1 → s.acts = [] → (∀ l, l < 2 → s.laneSt l ≤ 2 ∧ (s.lane l).txSub = none) →
      Answers (exec .xtalFailDetect s) fun t =>
        t.clkSrc = 0 ∧ t.get Fld.SYSCFG_CLKCFG_CLKSRC = 0 ∧ t.has Fld.TIDE_FLAGS_XTALFAIL = true
        ∧ t.get Fld.TIDE_CLKCTL_RESID = 0xFF ∧ t.has Fld.TIDE_CLKCTL_XTALOK = false ∧ t.tide.xtalFailed = true
        ∧ t.rf.rcRunning = s.tide.lfPresent ∧ (s.tide.lfPresent = true → t.rf.rcMeasures = 0)
        ∧ Fires [EV.TIDE_XTALFAIL] s t ∧ SameBytes s t)
    ∧ (∀ (counts : BitVec 32) (resid : BitVec 8), s.rf.rcRunning = true →
      (∀ tr : Nat, s.rf.rcMeasures = 0 → tr ≤ 1023 →
          (tr : Int) = s.get Fld.RF_RC64TRIM_TRIM
            - roundDiv ((32 * (counts.toNat : Int) - s.get Fld.TIDE_LFINC_INC) * 10000) (s.get Fld.TIDE_LFINC_INC) →
        Answers (exec (.rc64Measure counts resid) s) fun t =>
          t.get Fld.RF_RC64TRIM_TRIM = tr ∧ t.rf.rcMeasures = 1 ∧ t.rf.rcRunning = true
          ∧ RegsBut [Reg.RF_RC64TRIM] s t ∧ t = { s with regs := t.regs, rf := t.rf })
      ∧ (s.rf.rcMeasures ≠ 0 →
        Answers (exec (.rc64Measure counts resid) s) fun t =>
          t.rf.rcRunning = false ∧ t.get Fld.TIDE_CLKCTL_RESID = resid.toNat
          ∧ t.rate = satS 24 (roundDiv (-(32 * (counts.toNat : Int) - s.get Fld.TIDE_LFINC_INC) * 2 ^ 32) (32 * counts.toNat))
          ∧ t.getS Fld.RF_REFCORR_CORR = t.rate
          ∧ (if s.clkSrc = 0 ∧ s.tide.xtalFailed = true ∧ resid.toNat ≤ s.get Fld.TIDE_CLKCTL_DISCTHR
                ∧ (4 ≤ s.tide.discFrames ∨ 320000 ≤ s.tide.discRing ∨ s.get Fld.TIDE_CFG_SRCSEL = 2) then
              t.clkSrc = 2 ∧ t.has Fld.TIDE_FLAGS_DISC = true
              ∧ (s.NoPans → Fires [EV.TIDE_DISC] s t
                ∧ RegsBut [Reg.TIDE_RATE, Reg.RF_REFCORR, Reg.TIDE_CLKCTL, Reg.TIDE_STAT, Reg.TIDE_FLAGS, Reg.SYSCFG_CLKCFG,
                    Reg.SYSCFG_FOSTAT] s t)
            else t.clkSrc = s.clkSrc
              ∧ (s.NoPans → Fires [] s t ∧ RegsBut [Reg.TIDE_RATE, Reg.RF_REFCORR, Reg.TIDE_CLKCTL] s t))
          ∧ (s.NoPans → t = { s with regs := t.regs, rf := t.rf, tide := t.tide, edges := t.edges })))
    ∧ (∀ ppm : Int, s.clkSrc = 1 → 0 < s.get Fld.RF_RC64TRIM_TRIM → s.get Fld.RF_RC64TRIM_TRIM < 1023 →
      Answers (exec (.rc64Track ppm) s) fun t =>
        t.get Fld.RF_RC64TRIM_TRIM = (if 50 < ppm then s.get Fld.RF_RC64TRIM_TRIM - 1
          else if ppm < -50 then s.get Fld.RF_RC64TRIM_TRIM + 1 else s.get Fld.RF_RC64TRIM_TRIM)
        ∧ t.has Fld.RF_RC64TRIM_VALID = true ∧ RegsBut [Reg.RF_RC64TRIM] s t ∧ t = { s with regs := t.regs })
    ∧ (s.tide.xtalFailed = true →
      Answers (exec .disciplineTimeout s) fun t =>
        t.get Fld.TIDE_CLKCTL_RESID = max (s.get Fld.TIDE_CLKCTL_RESID) 80
        ∧ t.clkSrc = (if s.get Fld.TIDE_CLKCTL_DISCTHR < max (s.get Fld.TIDE_CLKCTL_RESID) 80 ∧ s.clkSrc = 2 then 0 else s.clkSrc)
        ∧ RegsBut [Reg.TIDE_CLKCTL, Reg.TIDE_STAT, Reg.SYSCFG_CLKCFG, Reg.SYSCFG_FOSTAT] s t
        ∧ t = { s with regs := t.regs, tide := t.tide })
    ∧ (∀ d : Int, s.has Fld.TIDE_CLKCTL_XTALOK = true → s.clkSrc ≠ 1 →
      Answers (exec (.xtalReturn d) s) fun t =>
        t.clkSrc = 1 ∧ t.get Fld.SYSCFG_CLKCFG_CLKSRC = 1 ∧ t.has Fld.SYSCFG_FOSTAT_XTALFAIL = false
        ∧ t.rate = satS 24 (s.rate + d) ∧ t.get Fld.RF_REFCORR_CORR = 0 ∧ t.has Fld.TIDE_CLKCTL_RETURN = false
        ∧ t.tide.xtalFailed = false ∧ t.rf.rcRunning = false
        ∧ (s.NoPans →
          RegsBut [Reg.TIDE_CLKCTL, Reg.TIDE_STAT, Reg.TIDE_RATE, Reg.RF_REFCORR, Reg.SYSCFG_CLKCFG, Reg.SYSCFG_FOSTAT] s t
          ∧ t = { s with regs := t.regs, tide := t.tide, rf := t.rf }))
/-! ### The receive chain (chapters 8 and 9) -/

/-- Pans, slots and measurements (after R241, R251, R255, R271, R282): software configures a pan only on a lane it owns
and the link controller on its own, a pan with EN = 0 is off, and one that does not fit is refused with 0x0150; a stopped
pan is off; a snapshot stores each receiving lane's power and -128 for the
other; slots named in a write of MODEM_SLOTINV become invalid; AFC is taken where no frame and no TX holds it, and with no
enabled pan (whose span it would move) nothing else changes; a read of word 0 of MODEM_PANLAST latches the whole record. Choices of the model it rests on: notes/assumptions/16, 64. -/
def Obligations.PanConfigurationAndSlots : Prop :=
  ∀ (p : Fin 16) (v : Word) (s : State),
    (s.has (Fld.LANE_CTL_OWNER (p.val / 8)) = false →
      Answers (exec (.pancfgWrite false p v) s) fun t =>
        t.has Fld.MODEM_RXFLAGS_CFGREJ = true ∧ RegsBut [Reg.MODEM_RXFLAGS] s t ∧ t = { s with regs := t.regs })
    ∧ (∀ byLink : Bool, s.has (Fld.LANE_CTL_OWNER (p.val / 8)) = !byLink → s.paired = false →
        s.panState p ≠ 3 → s.panState p ≠ 4 →
      Answers (exec (.pancfgWrite byLink p v) s) fun t =>
        t.has (Fld.MODEM_PANCFG_EN p) = v.toNat.testBit 0 ∧ t.panMode p = v.toNat / 2 ^ 10 % 8
        ∧ t.panChan p = v.toNat / 2 ^ 16 % 256
        ∧ (if v.toNat % 2 = 0 then t.panState p = 0
          else if panFits t p = true then t.panState p = (if s.laneSt (p.val / 8) = 3 then 1 else 0)
          else t.panState p = 6 ∧ t.get (Fld.MODEM_PANSTAT_LASTCODE p) = 0x0150 ∧ t.has Fld.MODEM_RXFLAGS_CFGREJ = true)
        ∧ Fires (if t.panState p = 6 then [EV.MODEM_CFGREJ] else []) s t
        ∧ RegsBut [Reg.MODEM_PANCFG p, Reg.MODEM_PANSTAT p, Reg.MODEM_LANEGAIN (p.val / 8), Reg.MODEM_RXFLAGS] s t
        ∧ t = { s with regs := t.regs, modem := t.modem, edges := t.edges })
    ∧ (s.panState p ≤ 2 → Answers (exec (.panstop p) s) fun t =>
        t.panState p = 0 ∧ (t.pan p).stopped = true ∧ RegsBut [Reg.MODEM_PANSTAT p, Reg.MODEM_LANEGAIN 0, Reg.MODEM_LANEGAIN 1] s t
        ∧ t = { s with regs := t.regs, modem := t.modem, tasks := t.tasks })
    ∧ (∀ a b : BitVec 8, Answers (exec (.wbsnap a b) s) fun t =>
        t.getS Fld.MODEM_WBRSSI_LANEA = (if s.laneSt 0 = 3 then a.toInt else -128)
        ∧ t.getS Fld.MODEM_WBRSSI_LANEB = (if s.laneSt 1 = 3 then b.toInt else -128)
        ∧ RegsBut [Reg.MODEM_WBRSSI] s t ∧ t = { s with regs := t.regs, tasks := t.tasks })
    ∧ Answers (exec (.slotinvWrite v) s) (fun t =>
        (∀ j, j < 16 → 0 < j → slotValid t j = (slotValid s j && !v.toNat.testBit j))
        ∧ RegsBut (Reg.MODEM_SLOTSTAT :: (List.range 16).map Reg.MODEM_RXSLOT) s t ∧ t = { s with regs := t.regs })
    ∧ (∀ l : Lane, laneHoldsAfc s l = false → Answers (exec (.afcApply l) s) fun t =>
        t.getS (Fld.LANE_AFC_CORR l) = toS (Fld.LANE_AFC_CORR l).width (ofS (Fld.LANE_AFC_CORR l).width
          (roundDiv (s.getS (Fld.MODEM_AFCFRAC_FRAC l) * s.get (Fld.LANE_FREQ_FREQ l)) (2 ^ 32)))
        ∧ (s.NoPans → RegsBut [Reg.LANE_AFC l] s t ∧ t = { s with regs := t.regs }))
    ∧ Answers (exec (.panlastRead p) s) (fun t =>
        t.bus = .data (s.rd (Reg.MODEM_PANLAST p 0))
        ∧ (∀ w, w < 8 → t.latched (Reg.MODEM_PANLAST p w) = s.rd (Reg.MODEM_PANLAST p w))
        ∧ t = { s with latch := t.latch, bus := t.bus })

/-- From a detection to the header (after R217, R218, R260 to R265, R272, R277): while the 32 MHz count runs, a hunting pan
that detects counts, freezes the gain and keeps SYNCSEQ; a peak that confirms it brings the timestamp in tide time and
EV_MODEM_SYNC, and one that does not leaves it waiting; a window without one counts a false detection and the pan hunts
again; a hunter's detection inside a frame that does not capture marks it hidden and is held; a good header with LOADIDX 0
leads to the payload under the uniform table, one whose CRC fails ends the frame with 0x0151, and an LE header is dewhitened
with the pan's channel. Choices of the model it rests on: notes/assumptions/64. -/
def Obligations.DetectionToHeader : Prop :=
  ∀ (p : Fin 16) (s : State), s.lfMode = false →
    (∀ power : Int, s.panState p = 1 → Answers (exec (.panDetect p power) s) fun t =>
        t.panState p = 2 ∧ (t.pan p).power = power ∧ (t.pan p).gain = s.get (Fld.MODEM_LANEGAIN_GAIN (p.val / 8))
        ∧ (t.pan p).seq = s.get Fld.MODEM_PHYCFG_SYNCSEQ
        ∧ t.get (Fld.MODEM_RXCNT_DETECTS (p.val / 8)) = s.counted (Fld.MODEM_RXCNT_DETECTS (p.val / 8))
        ∧ t.has (Fld.MODEM_LANEGAIN_FROZEN (p.val / 8)) = true ∧ Fires [EV.MODEM_DETECT] s t
        ∧ RegsBut [Reg.MODEM_PANSTAT p, Reg.MODEM_RXCNT (p.val / 8) 0, Reg.MODEM_LANEGAIN 0, Reg.MODEM_LANEGAIN 1] s t
        ∧ t = { s with regs := t.regs, modem := t.modem, edges := t.edges })
    ∧ (s.panState p = 2 →
      (∀ (ago : BitVec 16) (r r2 snr : BitVec 8) (lts : Fin 64) (cfo : Int) (aa : BitVec 32),
        if syncConfirms s p lts.val cfo aa = true then
          Answers (exec (.panSync p ago r r2 snr lts cfo aa) s) fun t =>
            t.panState p = 3 ∧ (t.pan p).ts = ofS 64 (64 * (s.now : Int) - ago.toInt) ∧ (t.pan p).rssi = r.toInt
            ∧ Fires [EV.MODEM_SYNC, EV.MODEM_SYNCn p] s t
            ∧ RegsBut [Reg.MODEM_PANSTAT p] s t ∧ t = { s with regs := t.regs, modem := t.modem, edges := t.edges }
        else exec (.panSync p ago r r2 snr lts cfo aa) s = .next s)
      ∧ Answers (exec (.syncWindowClose p false) s) (fun t =>
        t.panState p = (if s.laneSt (p.val / 8) = 3 ∧ panEnabled s p = true then 1 else 0)
        ∧ t.get (Fld.MODEM_RXCNT_FALSEDET (p.val / 8)) = s.counted (Fld.MODEM_RXCNT_FALSEDET (p.val / 8))
        ∧ Fires [EV.MODEM_FALSEDET] s t
        ∧ RegsBut [Reg.MODEM_PANSTAT p, Reg.MODEM_RXCNT (p.val / 8) 0, Reg.MODEM_LANEGAIN 0, Reg.MODEM_LANEGAIN 1] s t
        ∧ t = { s with regs := t.regs, modem := t.modem, edges := t.edges }))
    ∧ (∀ power : Int, (s.panState p = 3 ∨ s.panState p = 4) → s.has Fld.MODEM_RXCFG_CAPEN = false →
      Answers (exec (.hunterDetect p power) s) fun t =>
        (t.pan p) = { s.pan p with hidden := true, held := some (power, s.get Fld.MODEM_PHYCFG_SYNCSEQ) }
        ∧ t.get (Fld.MODEM_RXCNT_HIDDEN (p.val / 8)) = s.counted (Fld.MODEM_RXCNT_HIDDEN (p.val / 8))
        ∧ RegsBut [Reg.MODEM_RXCNT (p.val / 8) 2] s t ∧ t = { s with regs := t.regs, modem := t.modem })
    ∧ (∀ (h : BitVec 48) (inv : Bool) (snr : BitVec 8), s.panState p = 3 →
      (s.panMode p ≤ 1 → hdrCrcOk h.toNat = true → headerInvalid h.toNat (s.panMode p) inv = false → hdrLoadidx h.toNat = 0 →
        Answers (exec (.headerDecision p h inv snr false) s) fun t =>
          t.panState p = 4 ∧ (t.pan p).hdr = h.toNat ∧ (t.pan p).snr = snr.toInt ∧ (t.pan p).hdrOk = true
          ∧ (t.pan p).table = List.replicate 48 1 ∧ (t.pan p).fetch = (s.now, s.stratum)
          ∧ Fires [EV.MODEM_HDROK] s t ∧ RegsBut [Reg.MODEM_PANSTAT p] s t
          ∧ t = { s with regs := t.regs, modem := t.modem, edges := t.edges })
      ∧ (s.panMode p ≤ 1 → hdrCrcOk h.toNat = false → (s.pan p).hdrOk = false →
        Answers (exec (.headerDecision p h inv snr false) s) fun t =>
          t.panState p = (if s.laneSt (p.val / 8) = 3 ∧ panEnabled s p = true then 1 else 0)
          ∧ t.get (Fld.MODEM_PANSTAT_LASTCODE p) = 0x0151
          ∧ t.get (Fld.MODEM_RXCNT_HDRFAIL (p.val / 8)) = s.counted (Fld.MODEM_RXCNT_HDRFAIL (p.val / 8))
          ∧ Fires [EV.MODEM_RXEND, EV.MODEM_ENDn p, EV.MODEM_HDRFAIL] s t
          ∧ RegsBut ([Reg.MODEM_PANSTAT p, Reg.MODEM_RXCNT (p.val / 8) 1, Reg.MODEM_LANEGAIN 0, Reg.MODEM_LANEGAIN 1]
              ++ (List.range 8).map (Reg.MODEM_PANLAST p)) s t
          ∧ t = { s with regs := t.regs, modem := t.modem, edges := t.edges, freeCounter := t.freeCounter })
      ∧ (2 ≤ s.panMode p → Answers (exec (.headerDecision p h inv snr false) s) fun t =>
          t.panState p = 4 ∧ (t.pan p).hdr = natOfBits (leWhiten (s.panChan p) (bitList 16 h.toNat))
          ∧ (t.pan p).coding = (if s.panMode p = 4 ∨ s.panMode p = 5 then some (if inv = true then 5 else 4) else none)
          ∧ RegsBut [Reg.MODEM_PANSTAT p] s t ∧ t = { s with regs := t.regs, modem := t.modem }))

/-- The end of a frame and the gain loop (after R233, R257, R269, R277, R279 to R281): a frame whose lane has room in its
status queue puts one record there, with the margin codes of its powers, leaves it in MODEM_PANLAST and fires
EV_MODEM_RXEND and EV_MODEM_ENDp; an LE packet is dewhitened with the pan's channel, and one whose CRC-24 fails ends with
0x0152; a block of samples moves a gain that is not frozen. Choices of the model it rests on: notes/assumptions/64, 70. -/
def Obligations.FrameEndAndGain : Prop :=
  (∀ (p : Fin 16) (fofs : BitVec 32) (cb : BitVec 16) (powers : List (Nat × Nat)) (octets : List Byte) (s : State),
    s.panState p = 4 → s.lfMode = false →
    (s.lane (p.val / 8)).ackPreset = none → (s.modem.queue.filter (fun r => r.lane == p.val / 8)).length < 16 →
    (s.modem.queue.all fun r => decide (r.endAt < s.elapsed)) = true →
    Answers (exec (.rxFrameEnd p fofs cb powers octets) s) fun t =>
      (∃ r : RxRecord, t.modem.queue = s.modem.queue ++ [r] ∧ r.pan = p.val ∧ r.lane = p.val / 8
        ∧ r.chan = s.panChan p ∧ r.hdr = (s.pan p).hdr ∧ r.ts = (s.pan p).ts
        ∧ (if s.panMode p ≤ 1 then r.mode = s.panMode p ∧ r.psdu = octets
            ∧ t.get (Fld.MODEM_PANSTAT_LASTCODE p) = 0
          else t.get (Fld.MODEM_PANSTAT_LASTCODE p)
              = (if (leUnpack (s.rd (Reg.MODEM_PANCRC p)).toNat (s.panChan p) octets).2 = true then 0 else 0x0152)
            ∧ r.psdu = (leUnpack (s.rd (Reg.MODEM_PANCRC p)).toNat (s.panChan p) octets).1)
        ∧ r.margins = powers.map (fun x => marginCode x.1 x.2)
        ∧ r.fofs = fofs.toInt ∧ r.endAt = s.elapsed ∧ ∀ w, w < 8 → t.rd (Reg.MODEM_PANLAST p w) = r.words.getD w 0)
      ∧ t.panState p = (if s.laneSt (p.val / 8) = 3 ∧ panEnabled s p = true then 1 else 0)
      ∧ Fires [EV.MODEM_RXEND, EV.MODEM_ENDn p] s t
      ∧ RegsOutside (fun a => a == Reg.MODEM_PANSTAT p || a == Reg.MODEM_LANEGAIN 0 || a == Reg.MODEM_LANEGAIN 1
          || a == Reg.MODEM_AFCFRAC 0 || a == Reg.MODEM_AFCFRAC 1
          || decide (Reg.MODEM_PANLAST p 0 ≤ a ∧ a < Reg.MODEM_PANLAST p 8)
          || decide (Reg.LIFE_VAL 14 ≤ a ∧ a < Reg.LIFE_VAL 16)) s t)
  ∧ ∀ (l : Lane) (power : Int) (clips : Nat) (s : State), s.laneSt l = 3 → s.has (Fld.MODEM_LANEGAIN_FROZEN l) = false →
    Answers (exec (.agcBlock l power clips) s) fun t =>
      t.get (Fld.MODEM_LANEGAIN_GAIN l)
          = agcNext (s.get (Fld.MODEM_LANEGAIN_GAIN l)) (s.getS Fld.MODEM_AGCCFG_TARGET) power clips
      ∧ RegsBut [Reg.MODEM_LANEGAIN l] s t ∧ t = { s with regs := t.regs, modem := t.modem }
/-! ### The link controller (chapters 10 to 12) -/

/-- Context commands (after R316, R317, R339, R341, R342, R311): OPEN begins a context that a partition covers, whose
key handle lies in its range, whose partner is free and whose map is valid; CLOSE (which also drops the context's
deferred acks), REKEY, SETPWR, SETMAP, CONNECT and DISCONNECT do what their names say; a supervision timeout, once TIDE_NOW
has passed SUPDL, ends the connection with SUPTO and its event; each touches its context's 128 octets, and an end of a
connection also timeline entries and the trace. Choices of the model it rests on:
notes/assumptions/1, 52. -/
def Obligations.ContextCommands : Prop :=
  ∀ (c : Fin 512) (s : State),
    ((ctxRun s c).isSome = true → ctxKeyOk s c (s.ctx c CF.KEYH) = true → partnerTaken s c = false →
      (ctxClass s c ≠ 2 → s.ctxBit c CF.CONN = true → mapValid (s.ctx c CF.GRID) (s.ctx c CF.CHMAP) = true) →
      Answers (exec (.ctxOpen c) s) fun t =>
        t.get Fld.LINK_CTXSTAT_RESULT = 0 ∧ t.ctx c CF.OPEN = 1
        ∧ (ctxClass s c ≠ 2 → t.ctx c CF.ANCHORVALID = 0 ∧ t.ctx c CF.DRIFT = 0
          ∧ t.ctx c CF.UNC = min 255 (8 * s.get Fld.TIDE_GUARD_MAXPPM) ∧ t.ctx c CF.PROPVALID = 0 ∧ t.ctx c CF.MISSES = 0
          ∧ t.ctx c CF.RPVALID = 0 ∧ t.ctx c CF.TABVALID = 0 ∧ t.ctx c CF.LDFAIL = 0
          ∧ t.ctx c CF.PARTNER = s.ctx c CF.PARTNER)
        ∧ BytesOutside (ctxAddr c) 128 s t ∧ RegsBut [Reg.LINK_CTXSTAT] s t ∧ t = { s with regs := t.regs, mem := t.mem })
    ∧ ((ctxRun s c).isNone = true ∨ ctxKeyOk s c (s.ctx c CF.KEYH) = false ∨ partnerTaken s c = true →
      Answers (exec (.ctxOpen c) s) fun t =>
        t.get Fld.LINK_CTXSTAT_RESULT = 0x0212 ∧ RegsBut [Reg.LINK_CTXSTAT] s t ∧ t = { s with regs := t.regs })
    ∧ Answers (exec (.ctxClose c) s) (fun t =>
        t.ctx c CF.OPEN = 0 ∧ t.get Fld.LINK_CTXSTAT_RESULT = 0
        ∧ (s.ctxBit c CF.CONN = false → (∀ a ∈ s.acts, a.ctx ≠ c.val) →
            (∀ n, n < 64 → s.tl n TF.VALID = 0 ∨ s.tl n TF.CTX ≠ c.val) → (∀ d ∈ s.dacks, d.ctx ≠ c.val) →
          BytesOutside (ctxAddr c) 128 s t ∧ RegsBut [Reg.LINK_CTXSTAT] s t
          ∧ t = { s with regs := t.regs, mem := t.mem }))
    ∧ (s.acts = [] → s.ctxBit c CF.CONN = false → Answers (exec (.ctxClose c) s) fun t =>
        t.ctx c CF.OPEN = 0 ∧ (∀ d ∈ t.dacks, d.ctx ≠ c.val) ∧ t.dacks = s.dacks.filter (fun d => d.ctx != c.val))
    ∧ Answers (exec (.ctxRekey c) s) (fun t =>
        t.ctx c CF.KEYH = s.ctxArg % 256 ∧ (ctxClass s c ≠ 2 → t.ctx c CF.TXCTR = 0 ∧ t.ctx c CF.RPVALID = 0)
        ∧ c.val ∉ t.link.ctxExh
        ∧ t.get Fld.LINK_CTXSTAT_RESULT = 0 ∧ BytesOutside (ctxAddr c) 128 s t ∧ RegsBut [Reg.LINK_CTXSTAT] s t
        ∧ t = { s with regs := t.regs, mem := t.mem, link := t.link })
    ∧ Answers (exec (.ctxSetpwr c) s) (fun t =>
        t.ctx c CF.PWR = s.ctxArg % 256 ∧ t.get Fld.LINK_CTXSTAT_RESULT = 0 ∧ BytesOutside (ctxAddr c) 128 s t
        ∧ RegsBut [Reg.LINK_CTXSTAT] s t)
    ∧ (ctxClass s c = 2 → ctxOpen s c = true → s.get Fld.LINK_LESTAT_CONNS < 24 ∨ s.ctxBit c CF.CONN = true →
        Answers (exec (.ctxConnect c) s) fun t =>
          t.ctxBit c CF.CONN = true ∧ t.ctx c CF.SUPDL = (s.now + 32000 * s.ctx c CF.SUPTO) % 2 ^ 40
          ∧ t.get Fld.LINK_CTXSTAT_RESULT = 0
          ∧ t.get Fld.LINK_LESTAT_CONNS = s.get Fld.LINK_LESTAT_CONNS + (if s.ctxBit c CF.CONN = true then 0 else 1)
          ∧ BytesOutside (ctxAddr c) 128 s t ∧ RegsBut [Reg.LINK_CTXSTAT, Reg.LINK_LESTAT] s t
          ∧ t = { s with regs := t.regs, mem := t.mem, link := t.link })
    ∧ (ctxClass s c ≠ 2 →
      (∀ map, map = s.get Fld.LINK_CTXMAPLO_MAP + 2 ^ 32 * s.get Fld.LINK_CTXMAPHI_MAP →
          mapValid (s.ctx c CF.GRID) map = true → toS 32 (s.ctx c CF.EVCTR + 2 ^ 32 - s.ctxArg) ≤ 0 →
        Answers (exec (.ctxSetmap c) s) fun t =>
          ⟨c, 0, s.ctxArg, [map]⟩ ∈ t.link.staged ∧ t.get Fld.LINK_CTXSTAT_RESULT = 0 ∧ RegsBut [Reg.LINK_CTXSTAT] s t
          ∧ t = { s with regs := t.regs, link := t.link })
      ∧ (ctxOpen s c = true → mapValid (s.ctx c CF.GRID) (s.ctx c CF.CHMAP) = true →
        Answers (exec (.ctxConnect c) s) fun t =>
          t.ctxBit c CF.CONN = true ∧ t.ctx c CF.SUPDL = (s.now + 32000 * s.ctx c CF.SUPTO) % 2 ^ 40
          ∧ t.get Fld.LINK_CTXSTAT_RESULT = 0 ∧ BytesOutside (ctxAddr c) 128 s t ∧ RegsBut [Reg.LINK_CTXSTAT] s t
          ∧ t = { s with regs := t.regs, mem := t.mem }))
    ∧ (s.ctxBit c CF.CONN = true → (∀ a ∈ s.acts, a.ctx ≠ c.val) →
        ∀ i : Instr, i = .ctxDisconnect c ∨ (i = .supervisionTimeout c ∧ near40 s.now (s.ctx c CF.SUPDL) < s.now) →
      Answers (exec i s) fun t =>
        t.ctxBit c CF.CONN = false ∧ (∀ g ∈ t.link.staged, g.ctx ≠ c.val)
        ∧ (i = .ctxDisconnect c → t.get Fld.LINK_CTXSTAT_RESULT = 0 ∧ t.edges = s.edges)
        ∧ (i = .supervisionTimeout c → t.has Fld.LINK_SCHFLAGS_SUPTO = true ∧ Fires [EV.LINK_SUPTO] s t)
        ∧ ∀ a, (a < ctxAddr c ∨ ctxAddr c + 128 ≤ a) → (a < 0x28018000 ∨ 0x28019000 ≤ a) → t.byte a = s.byte a)

/-- Writes to context memory and to the network keys (after R311, R318, R297): a closed context takes the write; an open
one ignores it below offset 0x5C and sets LINK_SCHFLAGS.CTXWR; a new handle in LINK_NETKEY[k] frees the replay entries
of that KID and clears TXVALID and EXH; a write of LINK_NETCTR[k] sets TXVALID. Choices of the model it rests on:
notes/assumptions/5. -/
def Obligations.ContextMemoryAndNetworkKeys : Prop :=
  ∀ (s : State),
    (∀ (c : Fin 512) (o : Fin 128) (z : AccessSize) (v : Word),
      ((ctxOpen s c = false ∨ 0x5C ≤ o.val / sizeOctets z * sizeOctets z) →
        Answers (exec (.ctxMemoryWrite c o z v) s) fun t =>
          t.num (ctxAddr c + o.val / sizeOctets z * sizeOctets z) (sizeOctets z) = v.toNat % 256 ^ sizeOctets z
          ∧ BytesOutside (ctxAddr c + o.val / sizeOctets z * sizeOctets z) (sizeOctets z) s t
          ∧ t = { s with mem := t.mem, link := t.link })
      ∧ (ctxOpen s c = true → o.val / sizeOctets z * sizeOctets z < 0x5C →
        Answers (exec (.ctxMemoryWrite c o z v) s) fun t =>
          t.has Fld.LINK_SCHFLAGS_CTXWR = true ∧ RegsBut [Reg.LINK_SCHFLAGS] s t ∧ t = { s with regs := t.regs }))
    ∧ (∀ (k : Fin 16) (v : Word), 0 < k.val →
      (s.get (Fld.LINK_NETKEY_HANDLE k) ≠ v.toNat % 256 →
        Answers (exec (.netkeyWrite k v) s) fun t =>
          t.get (Fld.LINK_NETKEY_HANDLE k) = v.toNat % 256 ∧ t.get (Fld.LINK_NETKEY_EN k) = v.toNat / 2 ^ 8 % 2
          ∧ t.get (Fld.LINK_NETKEY_MICSZ k) = max 1 (v.toNat / 2 ^ 10 % 4)
          ∧ t.has (Fld.LINK_NETKEY_TXVALID k) = false ∧ t.has (Fld.LINK_NETKEY_EXH k) = false
          ∧ (∀ j, j < 1024 → (cacheEntry s j).kid = k.val → t.num (cacheAddr j) 16 = 0)
          ∧ (∀ j, j < 1024 → (cacheEntry s j).kid ≠ k.val → t.num (cacheAddr j) 16 = s.num (cacheAddr j) 16)
          ∧ BytesOutside (cacheAddr 0) 16384 s t
          ∧ RegsBut [Reg.LINK_NETKEY k, Reg.LINK_RPSTAT, Reg.LINK_RPEVICTLO, Reg.LINK_RPEVICTHI] s t
          ∧ t = { s with regs := t.regs, mem := t.mem })
      ∧ Answers (exec (.netctrWrite k v) s) (fun t =>
          t.get (Fld.LINK_NETCTR_NEXT k) = v.toNat ∧ t.has (Fld.LINK_NETKEY_TXVALID k) = true
          ∧ RegsBut [Reg.LINK_NETCTR k, Reg.LINK_NETKEY k] s t ∧ t = { s with regs := t.regs }))

/-- Arming, cancelling and the receive queue (after R322, R334, R332, R353): arming a defined entry that is not past
sets VALID with its mirrors, cancelling one that has no activity clears it; a pop releases the oldest entry of the
receive queue; a frame whose ack did not come waits for its retransmission while tries are left; TK_LINK_TRACESTOP stops
the trace. Choices of the model it rests on: notes/assumptions/27, 31. -/
def Obligations.TimelineAndReceiveQueue : Prop :=
  ∀ (s : State),
    (∀ (n : Fin 64) (b : Bool) (t0 : List Byte), s.tl n TF.VALID = 0 → s.tmpl (s.tl n TF.TMPL) = some t0 →
      s.now ≤ s.tl n TF.TLAUNCH →
      Answers (exec (.tlArm n b) s) fun t =>
        t.tl n TF.VALID = 1 ∧ t.tl n TF.TLAUNCH = s.tl n TF.TLAUNCH ∧ t.bit (Reg.LINK_TLARMED (n.val / 32)) (n.val % 32) = true
        ∧ t.get Fld.LINK_SCHSTAT_ARMED = (s.get Fld.LINK_SCHSTAT_ARMED + 1) % 2 ^ 7
        ∧ t.get (Fld.LINK_TL_TIME_T n) = s.tl n TF.TLAUNCH % 2 ^ 32
        ∧ BytesOutside (tlAddr n) 32 s t
        ∧ RegsBut [Reg.LINK_TLARMED (n.val / 32), Reg.LINK_SCHSTAT, Reg.LINK_TL_TIME n] s t
        ∧ t = { s with regs := t.regs, mem := t.mem, tasks := t.tasks })
    ∧ (∀ n : Fin 64, s.act n = none → s.tl n TF.VALID = 1 →
      Answers (exec (.tlCancel n) s) fun t =>
        t.tl n TF.VALID = 0 ∧ t.bit (Reg.LINK_TLARMED (n.val / 32)) (n.val % 32) = false
        ∧ BytesOutside (tlAddr n) 32 s t ∧ RegsBut [Reg.LINK_TLARMED (n.val / 32), Reg.LINK_SCHSTAT] s t
        ∧ t = { s with regs := t.regs, mem := t.mem })
    ∧ (∀ (v : Word) (r : CellRun) (rest : List CellRun), v.toNat % 2 = 1 → s.link.rxRuns = r :: rest →
      Answers (exec (.rxqPop v) s) fun t =>
        t.link.rxRuns = rest ∧ t.get Fld.LINK_RXQ_HEAD = (s.get Fld.LINK_RXQ_HEAD + 1) % 32
        ∧ t.get Fld.LINK_RXQ_COUNT = rest.length % 64
        ∧ RegsBut [Reg.LINK_RXQ, Reg.LINK_SCHSTAT, Reg.LINK_FWDCNT] s t ∧ t = { s with regs := t.regs, link := t.link })
    ∧ (∀ (a : Activity) (f : TxFrame), s.acts = [a] → a.phase = .ackWait → a.frame = some f → f.tries < f.retries →
      a.pans = [] →
      Answers (exec (.ackWindowClose a.id) s) fun t =>
        t.act a.id = some { a with phase := .retryWait, pans := [] } ∧ SameBytes s t)
    ∧ Answers (exec .tracestop s) (fun t =>
        t.has Fld.LINK_TRACECFG_EN = false ∧ RegsBut [Reg.LINK_TRACECFG] s t ∧ t = { s with regs := t.regs, tasks := t.tasks })

/-- Presentation (after R323, R327, R332, R337): once its time has come, a transmission that no check refuses, alone on its
lanes, is presented with the launch, span and lane worked out for it, and so is a listening window; a retransmission is
presented again with its own counter and payload; the block-ack of a deferred-ack entry that times out is presented, and
the entry stays in the table until it leaves. Choices of the model it rests on: notes/assumptions/26, 28, 64. -/
def Obligations.TransmissionsPresented : Prop :=
  ∀ (s : State) (t0 : List Byte) (boundary : Nat) (fails : Bool),
    (∀ (n : Fin 64) (a b : Activity), s.acts = [] → s.has Fld.LINK_SCHCFG_EN = true → s.tl n TF.VALID = 1 →
      s.tmpl (s.tl n TF.TMPL) = some t0 → s.now ≤ s.tl n TF.TLAUNCH →
      presentFrom s n (tMode t0) (entryChan s n t0) (actKind (tKind t0)) ≤ s.now →
      a = { id := n, kind := actKind (tKind t0), mode := tMode t0, chan := entryChan s n t0, lane := s.tl n TF.LANE - 1,
            prio := tPrio t0, latepol := tLatepol t0, ctx := entryCtx s n (actKind (tKind t0)), tlaunch := s.tl n TF.TLAUNCH,
            launch := s.tl n TF.TLAUNCH, tmpl := t0 } →
      (actKind (tKind t0) = .tx ∨ actKind (tKind t0) = .beacon → txReadied a t0 (s.tl n TF.LANE) boundary fails s = some b →
        Answers (exec (.tlPresent n boundary fails) s) fun t =>
          (∃ c, t.act n = some c ∧ c = { b with phase := .presented, listening := c.listening }) ∧ SameBytes s t)
      ∧ (actKind (tKind t0) = .listen → s.paired = false → s.now + 1280 ≤ s.tl n TF.TLAUNCH → tPans t0 ≤ 8 →
        (laneChoice s (s.tl n TF.LANE) .listen (bandOf (tMode t0)) (s.tl n TF.TLAUNCH) (s.tl n TF.TLAUNCH + tRxwin t0) n).1 = 0 →
        Answers (exec (.tlPresent n boundary fails) s) fun t =>
          (∃ c, t.act n = some c ∧ c.phase = .presented ∧ c.kind = .listen ∧ c.mode = tMode t0
            ∧ c.chan = entryChan s n t0 ∧ c.launch = s.tl n TF.TLAUNCH ∧ c.useTo = s.tl n TF.TLAUNCH + tRxwin t0
            ∧ c.npans = tPans t0
            ∧ c.lane = (laneChoice s (s.tl n TF.LANE) .listen (bandOf (tMode t0)) a.launch (a.launch + tRxwin t0) n).2)
          ∧ SameBytes s t))
    ∧ (∀ (a b : Activity) (f : TxFrame), s.acts = [a] → a.id < 64 → a.phase = .retryWait → a.frame = some f →
      s.tmpl (s.tl a.id TF.TMPL) = some t0 →
      txReadied { a with launch := s.now, lbtDone := false, listening := false, tmpl := t0 } t0 (s.tl a.id TF.LANE) boundary
        fails s = some b →
      Answers (exec (.retryTimer a.id boundary fails) s) fun t =>
        (∃ c, t.act a.id = some c ∧ c = { b with phase := .presented, listening := c.listening })
        ∧ b.frame.bind TxFrame.fcnt = f.fcnt ∧ b.frame.map TxFrame.payload = some f.payload ∧ SameBytes s t)
    ∧ (∀ (k : Fin 16) (d : DackEntry) (b : Activity), s.acts = [] → s.dacks[k.val]? = some d → d.act = none →
      s.tmpl (s.get Fld.LINK_ACKCFG_BATMPL) = some t0 → dackReadied 136 d t0 boundary fails (markDack k 136 s) = some b →
      Answers (exec (.dackTimeout k boundary fails) s) fun t =>
        t.dacks = s.dacks.set k { d with act := some 136 } ∧ SameBytes s t
        ∧ ∃ c, t.act 136 = some c ∧ c = { b with phase := .presented, listening := c.listening })

/-- Launches and ends (after R299, R321, R324, R337, R345): a presented transmission whose lane holds its roles and that
nothing forbids leaves the port, counted; so does a block-ack, which clears its entry; so do the immediate ack of the
lane's plan and a forwarded frame, which goes to the next hop; a presented reception opens its pans on a lane in RX; a
transmission that needs no ack ends with result 0, the detector's measurement stored and the lane in STANDBY. Choices of
the model it rests on: notes/assumptions/28, 31. -/
def Obligations.LaunchesAndEnds : Prop :=
  ∀ (s : State) (mV : Nat),
    (∀ (a : Activity) (f : TxFrame) (cs : List CsRecord) (cut : Bool), s.acts = [a] → a.phase = .presented →
      a.kind = .tx ∨ a.kind = .beacon → a.frame = some f → a.id < 64 → s.tmpl (s.tl a.id TF.TMPL) = some a.tmpl →
      rolesHeld s a.lane a.kind (bandOf a.mode) = true → settleLeft s a.lane = 0 →
      (f.fcnt = none → f.micsz ≠ 0 → txExhausted s f.pctx f.kid = false) →
      nativeLaunchCode s a = 0 → s.laneSt a.lane ≠ 4 → a.lane < 2 →
      Answers (exec (.activityLaunch a.id mV cs cut) s) fun t =>
        t.laneSt a.lane = 4 ∧ (∃ b, t.act a.id = some b ∧ b.phase = .running ∧ b.sending = true ∧ b.lane = a.lane)
        ∧ t.get Fld.LINK_SCHCNT_LAUNCH = s.counted Fld.LINK_SCHCNT_LAUNCH
        ∧ EV.LANE_TXSTART a.lane ∈ (t.edges.drop s.edges.length).filterMap Edge.source
        ∧ EV.LINK_TLLAUNCH ∈ (t.edges.drop s.edges.length).filterMap Edge.source)
    ∧ (∀ (a : Activity) (f : TxFrame) (cs : List CsRecord) (cut : Bool), s.acts = [a] → a.phase = .presented →
      a.kind = .blockAck → a.frame = some f → 136 ≤ a.id → rolesHeld s a.lane a.kind (bandOf a.mode) = true →
      settleLeft s a.lane = 0 → (f.fcnt = none → f.micsz ≠ 0 → txExhausted s f.pctx f.kid = false) →
      nativeLaunchCode s a = 0 → s.laneSt a.lane ≠ 4 → a.lane < 2 →
      Answers (exec (.activityLaunch a.id mV cs cut) s) fun t =>
        t.laneSt a.lane = 4 ∧ t.dacks = s.dacks.filter (fun d => d.act ≠ some a.id)
        ∧ t.get Fld.LINK_SCHCNT_BLOCKACK = s.counted Fld.LINK_SCHCNT_BLOCKACK
        ∧ EV.LINK_BLOCKACK ∈ (t.edges.drop s.edges.length).filterMap Edge.source)
    ∧ (∀ (a : Activity) (cs : List CsRecord) (cut : Bool), s.acts = [a] → a.phase = .presented →
      a.kind = .listen ∨ a.kind = .rxCtx → a.id < 64 → s.tmpl (s.tl a.id TF.TMPL) = some a.tmpl → s.paired = false →
      rolesHeld s a.lane a.kind (bandOf a.mode) = true → settleLeft s a.lane = 0 → launchCode s a.lane = 0 →
      rxRefCode s = 0 → s.laneSt a.lane ≤ 2 → a.lane < 2 →
      Answers (exec (.activityLaunch a.id mV cs cut) s) fun t =>
        t.laneSt a.lane = 3 ∧ (∃ b, t.act a.id = some b ∧ b.phase = .running ∧ b.sending = false ∧ b.lane = a.lane
          ∧ b.pans = (panRange a.lane).take (if a.kind = .listen then tPans a.tmpl else 1))
        ∧ t.get Fld.LINK_SCHCNT_LAUNCH = s.counted Fld.LINK_SCHCNT_LAUNCH
        ∧ EV.LINK_TLLAUNCH ∈ (t.edges.drop s.edges.length).filterMap Edge.source)
    ∧ (∀ (l : Lane) (p : AckPlan), s.acts = [] → s.lanes.length = 2 → s.link.ackPlans = [p] → p.lane = l.val → s.paired = false →
      s.laneSt l = 2 → ackCode s p = 0 →
      Answers (exec (.immediateAckLaunch l mV) s) fun t =>
        t.laneSt l = 4 ∧ t.link.ackPlans = [] ∧ (t.lane l).ackPreset = none
        ∧ (∃ b, t.act (128 + l.val) = some b ∧ b.kind = .ack ∧ b.sending = true ∧ b.lane = l.val)
        ∧ EV.LANE_TXSTART l ∈ (t.edges.drop s.edges.length).filterMap Edge.source)
    ∧ (∀ (q : Fin 8) (a : Activity) (g : FwdFrame) (t0 : List Byte) (boundary : Nat) (fails : Bool) (f : TxFrame),
      s.acts = [a] → a.id = 64 + q.val → a.phase = .presented → s.link.fwds.find? (fun x => x.q == q.val) = some g →
      s.tmpl g.tmpl = some t0 → a.tmpl = t0 → ctxOpen s a.ctx = true → a.frame = some f → f.fcnt = none →
      txPreCode s a t0 f 0 = 0 → f.micsz = 0 → txPostCode s a f = 0 → settleLeft s a.lane = 0 →
      nativeLaunchCode s a = 0 → s.laneSt a.lane ≠ 4 → a.lane < 2 →
      Answers (exec (.forwardLaunch q boundary mV fails) s) fun t =>
        t.laneSt a.lane = 4 ∧ (∃ c, t.act a.id = some c ∧ c.phase = .running ∧ c.sending = true
          ∧ c.frame.map TxFrame.dst = some f.dst)
        ∧ t.get Fld.LINK_SCHCNT_LAUNCH = s.counted Fld.LINK_SCHCNT_LAUNCH)
    ∧ (∀ (a : Activity) (f : TxFrame) (d : BitVec 8), s.acts = [a] → a.sending = true → a.kind = .tx → a.id < 64 → a.lane < 2 →
      a.frame = some f → f.ackreq = false → a.pans = [] → s.laneSt a.lane = 4 → s.rf.portWait = none →
      Answers (exec (.activityEnd a.id d) s) fun t =>
        t.act a.id = none ∧ t.laneSt a.lane = 1 ∧ t.get (Fld.LANE_PWRSTAT_DELIVERED a.lane) = d.toNat
        ∧ t.get Fld.LINK_LASTRES_CODE = 0 ∧ t.get Fld.LINK_LASTRES_INDEX = a.id
        ∧ EV.LANE_TXEND a.lane ∈ (t.edges.drop s.edges.length).filterMap Edge.source
        ∧ EV.LINK_TLDONE ∈ (t.edges.drop s.edges.length).filterMap Edge.source)

/-- Received frames (after R112, R298, R308, R333): an unprotected frame that the acceptance settings allow, from a
source without a context, is delivered into the receive queue with EV_LINK_RXDONE; an ack that passes every check
completes its frame; a receive window that closes on nothing ends its activity and counts a miss. Choices of the model
it rests on: notes/assumptions/27, 29. -/
def Obligations.FramesReceived : Prop :=
  ∀ (s : State),
    (∀ (r : RxRecord) (q : List RxRecord) (f : OmlFrame) (boundary : Nat) (fails : Bool) (mV : Nat),
        s.modem.queue = r :: q → s.acts = [] →
      isNative r.mode = true → hdrType r.hdr = 0 → hdrAckreq r.hdr = false → (s.lane r.lane).ackPreset = none →
      r.preset = false → f = omlParse 0 false r.psdu → omlFormat f r.psdu.length = 0 → f.netid = s.get Fld.LINK_ADDR_NETID →
      f.sec = false → f.longSrc = false → f.src ≠ s.shortAddr → addressedHere s f = true → s.has Fld.LINK_ACCCFG_OPEN = true →
      f.bit 8 = false → f.mesh = [] → findCtx s f.src = none → rxqRoom s f.body.length = true →
      r.nsym < s.get Fld.MODEM_LOADCFG_PROFMIN →
      Answers (exec (.acceptFrame boundary fails mV) s) fun t =>
        t.modem.queue = q ∧ t.link.rxRuns = s.link.rxRuns ++ [⟨s.link.cellNext, cellsFor f.body.length⟩]
        ∧ t.get Fld.LINK_RXQ_COUNT = (s.link.rxRuns.length + 1) % 64
        ∧ (f.body.length ≤ 128 → s.link.cellNext < s.link.rxCells → s.link.rxCells ≤ 64 →
            t.bytes (cellAddr s.link.cellNext) f.body.length = f.body)
        ∧ Fires [EV.LINK_RXDONE] s t ∧ RegsBut [Reg.LINK_RXQ, Reg.LINK_SCHSTAT, Reg.LINK_FWDCNT] s t
        ∧ t = { s with regs := t.regs, mem := t.mem, modem := t.modem, link := t.link, edges := t.edges })
    ∧ (∀ (r : RxRecord) (q : List RxRecord) (a : Activity) (f : TxFrame), s.modem.queue = r :: q → s.acts = [a] →
      isNative r.mode = true → hdrType r.hdr = 1 → ackedAct s r = some a → a.frame = some f → ackOk s r f = true →
      a.kind = .tx → a.id < 64 → s.has Fld.TIDE_STAT_PVALID = false → testBit' (eh r.psdu 0) 9 = false →
      Answers (exec .ackReceived s) fun t =>
        t.modem.queue = q ∧ t.act a.id = none ∧ t.get Fld.LINK_LASTRES_CODE = 0 ∧ t.get Fld.LINK_LASTRES_INDEX = a.id
        ∧ EV.LINK_TLDONE ∈ (t.edges.drop s.edges.length).filterMap Edge.source)
    ∧ (∀ a : Activity, s.acts = [a] → a.kind = .rxCtx → a.phase = .running → a.sending = false → a.heard = false →
      a.pans = [] → a.id < 64 → a.ctx < 512 → a.late = false → a.frame = none →
      Answers (exec (.rxWindowClose a.id) s) fun t =>
        t.act a.id = none ∧ t.ctx a.ctx CF.MISSES = min (s.ctx a.ctx CF.MISSES + 1) 15
        ∧ t.get Fld.LINK_LASTRES_CODE = 0 ∧ t.get Fld.LINK_LASTRES_INDEX = a.id
        ∧ EV.LINK_TLDONE ∈ (t.edges.drop s.edges.length).filterMap Edge.source)

/-- LE connections (after R362 to R367): a legacy connection request that an advertising event may accept opens its
class 2 context with the request's fields, connected and as peripheral; a push queues its descriptor for the next event;
a change staged for an instant still to come waits for it. Choices of the model it rests on: notes/assumptions/20, 53,
54. -/
def Obligations.LeConnections : Prop :=
  ∀ (s : State),
    (∀ (r : RxRecord) (q : List RxRecord) (a : Activity) (t0 : List Byte) (c mV : Nat), s.modem.queue = r :: q →
      isConnectReq s r = true → actOfRecord s r = some a → (r.words.headD 0).toNat / 2 ^ 16 = 0 → t0 = actTmpl a →
      eb t0 16 % 8 = 0 → c = eh t0 24 % 512 → c ≠ 0x1FF → advAddressed s t0 (leBody r) = true → (leBody r).length = 34 →
      testBit' (leHdr r 0) 5 = true → s.get Fld.LINK_LESTAT_CONNS < 24 → ctxClass s c = 2 → ctxOpen s c = false →
      s.acts = [a] → eb t0 26 = 0xFF →
      Answers (exec (.connectReqReceived mV) s) fun t =>
        t.modem.queue = q ∧ t.act a.id = none ∧ t.ctxBit c CF.OPEN = true ∧ t.ctxBit c CF.CONN = true
        ∧ t.ctx c CF.CENTRAL = 0 ∧ t.ctx c CF.AA = natOfLE (cut (leBody r) 12 4)
        ∧ t.ctx c CF.LEINTERVAL = eh (leBody r) 22 % 2 ^ 12 ∧ t.ctx c CF.LEEVCTR = 0
        ∧ ⟨c, 4, 0, [eb (leBody r) 19]⟩ ∈ t.link.staged)
    ∧ (∀ (v : Word) (c d : Nat), c = v.toNat % 512 → d = v.toNat / 2 ^ 16 % 64 → ctxClass s c = 2 → ctxOpen s c = true →
      s.ctxBit c CF.CONN = true → isObserver s c = false → d < 48 → (leLink s c).queue.length < 8 → descCellsOk s d = true →
      s.desc d DF.PLEN + 4 ≤ s.ctx c CF.MAXTXOCT →
      Answers (exec (.lePush v) s) fun t =>
        (leLink t c).queue = (leLink s c).queue ++ [d] ∧ t.get Fld.LINK_LESTAT_RESULT = 0
        ∧ RegsBut [Reg.LINK_LESTAT] s t ∧ t = { s with regs := t.regs, link := t.link })
    ∧ (∀ (c : Fin 512) (i : Instr) (op : Nat) (vals : List Nat),
      (i = .leStageConnUpdate c ∧ op = 1 ∧ vals = [s.get Fld.LINK_LESTGA_INTERVAL, s.get Fld.LINK_LESTGA_LATENCY,
          s.get Fld.LINK_LESTGB_SUPTO, s.get Fld.LINK_LESTGC_WINOFS, s.get Fld.LINK_LESTGB_WINSIZE])
      ∨ (i = .leStageChmap c ∧ op = 2
          ∧ vals = [s.get Fld.LINK_CTXMAPLO_MAP + 2 ^ 32 * (s.get Fld.LINK_CTXMAPHI_MAP % 32)])
      ∨ (i = .leStagePhy c ∧ op = 3 ∧ vals = [s.get Fld.LINK_LESTGC_TXPHY, s.get Fld.LINK_LESTGC_RXPHY]) →
      (32767 < (s.ctx c CF.LEEVCTR + 2 ^ 16 - s.get Fld.LINK_LEINST_INSTANT) % 2 ^ 16 →
        Answers (exec i s) fun t =>
          ⟨c, op, s.get Fld.LINK_LEINST_INSTANT, vals⟩ ∈ t.link.staged ∧ t.get Fld.LINK_LESTAT_RESULT = 0
          ∧ RegsBut [Reg.LINK_LESTAT] s t ∧ t = { s with regs := t.regs, link := t.link })
      ∧ ((s.ctx c CF.LEEVCTR + 2 ^ 16 - s.get Fld.LINK_LEINST_INSTANT) % 2 ^ 16 ≤ 32767 →
        Answers (exec i s) fun t =>
          t.get Fld.LINK_LESTAT_RESULT = 0x0242 ∧ RegsBut [Reg.LINK_LESTAT] s t ∧ t = { s with regs := t.regs }))
/-! ### The tide ring (chapter 18) -/

/-- The ring's cycle (after R381 to R388, R394 to R401): the master's TIME message, a member's relay of it with its own
position, the EVENT slot, the firing of ring sluices, and the mailboxes. Choices of the model it rests on:
notes/assumptions/42, 43. -/
def Obligations.RingCycle : Prop :=
  ∀ (s : State),
    exec .ringLock s = .next { s with ring := { s.ring with locked := true } }
    ∧ (s.ringSt ≠ 0 → Answers (exec .ringLos s) fun t =>
        t.has Fld.RING_FLAGS_LOS = true ∧ t.get Fld.RING_CNT_LOS = s.counted Fld.RING_CNT_LOS
        ∧ t.get Fld.RING_LASTCODE_CODE = 0x0901 ∧ t.ring = { s.ring with locked := false, seen := 0 } ∧ Fires [EV.RING_LOS] s t
        ∧ RegsBut [Reg.RING_FLAGS, Reg.RING_CNT 0, Reg.RING_LASTCODE] s t
        ∧ t = { s with regs := t.regs, ring := t.ring, edges := t.edges })
    ∧ (s.ringSt = 4 → Answers (exec .ringCycleStart s) fun t =>
        t.ring = { s.ring with cycle := s.now / 640, evAcc := 0, txTime := timeMsg { stratum := s.stratum, gap := ringGap s (s.now / 640), surveyed := s.ring.timeSurveyed, hops := 0, t := 640 * (s.now / 640), acc := s.get Fld.RING_TIMING_SEGDLY, evsum := s.ring.evAcc }, lastGap := if ringGap s (s.now / 640) then s.elapsed else s.ring.lastGap }
        ∧ t = { s with ring := t.ring })
    ∧ (∀ (octets : List Byte) (ts : BitVec 64) (m : RingTime), timeParse octets = some m → s.ringSt = 3 → s.ringRole = 1 →
      m.hops + 1 ≤ 7 → (eb s.ringCfg 1 = 0xFF ∨ eb s.ringCfg 1 = m.hops + 1) → s.get Fld.TIDE_CFG_SRCSEL ≠ 1 →
      Answers (exec (.ringTimeMsg octets ts) s) fun t =>
        t.ring = { s.ring with ts := ts.toNat, locked := true, seen := min 2 (s.ring.seen + 1), gapSeen := m.gap, hopsSeen := m.hops, posBad := false, txTime := timeMsg { m with hops := m.hops + 1, acc := (m.acc + 640 + s.get Fld.RING_TIMING_SEGDLY) % 65536 }, cycle := m.t / 640, evFire := if m.evsum = 0 then s.ring.evFire else some (m.evsum, m.t + 192) }
        ∧ t.get Fld.RING_STAT_POSITION = m.hops + 1 ∧ t.has Fld.RING_STAT_SURVEYED = m.surveyed
        ∧ t.get Fld.RING_TIMING_ACC = m.acc % 2 ^ 16 ∧ t.get Fld.RING_TSLO_TS = ts.toNat % 2 ^ 32
        ∧ RegsBut [Reg.RING_STAT, Reg.RING_TIMING, Reg.RING_TSLO] s t ∧ t = { s with regs := t.regs, ring := t.ring })
    ∧ (∀ (slot : Fin 8) (octets : List Byte), s.ringSt = 3 → slot.val = s.ringPos → s.ring.posBad = false →
      Answers (exec (.ringEventMsg slot octets) s) fun t =>
        t.ring = { s.ring with evCollected := 0, txEvent := eventMsg s.ring.evCollected }
        ∧ t.get Fld.RING_CNT_EVSENT = min (s.get Fld.RING_CNT_EVSENT + popCount 16 s.ring.evCollected) 65535
        ∧ RegsBut [Reg.RING_CNT 1] s t ∧ t = { s with regs := t.regs, ring := t.ring })
    ∧ (∀ (mask at' : Nat), s.ring.evFire = some (mask, at') → at' ≤ s.now →
      Answers (exec .ringSluiceFire s) fun t =>
        t.edges = s.edges ++ (bitsOf 16 mask).filterMap (fun k => if s.ringSend k then none else (s.ringMap k).map Edge.direct)
        ∧ t.ring = { s.ring with evFire := none } ∧ t = { s with ring := t.ring, edges := t.edges })
    ∧ (∀ (octets : List Byte) (box : Nat), s.ringSt = 3 → dataParse octets = some (0, false, s.ringPos, box) →
      box < s.ringMbox → s.bit Reg.RING_MBDIR box = false →
      Answers (exec (.ringDataMsg octets) s) fun t =>
        (s.bit Reg.RING_MBFULL box = false → t.bytes (mailboxAddr box) 64 = (octets.drop 2).take 64
          ∧ t.bit Reg.RING_MBFULL box = true ∧ Fires [EV.RING_MBRX] s t ∧ BytesOutside (mailboxAddr box) 64 s t
          ∧ RegsBut [Reg.RING_MBFULL] s t)
        ∧ (s.bit Reg.RING_MBFULL box = true → t.get Fld.RING_CNT_MBOVF = s.counted Fld.RING_CNT_MBOVF
          ∧ t.get Fld.RING_LASTCODE_CODE = 0x0904 ∧ Fires [EV.RING_FAULT] s t ∧ SameBytes s t
          ∧ RegsBut [Reg.RING_CNT 1, Reg.RING_LASTCODE] s t)
        ∧ t = { s with regs := t.regs, mem := t.mem, edges := t.edges })
    ∧ (∀ (j : Fin 16) (d : Nat), (d ≤ 7 ∨ d = 15) → j.val < s.ringMbox → s.bit Reg.RING_MBDIR j = true →
      Answers (exec (.ringMbsend (BitVec.ofNat 32 (16 * d + j.val))) s) fun t =>
        t.bit Reg.RING_MBPEND j = true
        ∧ t.ring = { s.ring with dst := s.ring.dst.filter (fun x => x.1 != j.val) ++ [(j.val, d)] }
        ∧ (∀ k, k ≠ j.val → t.bit Reg.RING_MBPEND k = s.bit Reg.RING_MBPEND k)
        ∧ RegsBut [Reg.RING_MBPEND] s t ∧ t = { s with regs := t.regs, ring := t.ring })
    ∧ (∀ (j d : Nat) (rest : List Nat), (s.ringSt = 3 ∨ s.ringSt = 4) → s.ring.posBad = false → s.ring.cycle % 2 = 0 →
      s.ring.cycle / 2 % s.ringNodes = s.ringPos → bitsOf 16 (s.get Fld.RING_MBPEND_PEND) = j :: rest →
      s.ring.dst.find? (fun x => x.1 == j) = some (j, d) →
      Answers (exec .ringDataWindow s) fun t =>
        t.ring.txData = withCrc16 (bytesLE 1 (s.ringPos + 16 * d) ++ bytesLE 1 j ++ s.bytes (mailboxAddr j) 64)
        ∧ t.bit Reg.RING_MBPEND j = false ∧ Fires [EV.RING_MBTX] s t ∧ RegsBut [Reg.RING_MBPEND] s t
        ∧ t = { s with regs := t.regs, edges := t.edges, ring := { s.ring with txData := t.ring.txData, dst := s.ring.dst.filter (fun x => x.1 != j) } })

/-- Survey, joining and leaving (after R378, R391 to R393, R402, R403, R405): a survey goes segment by segment and may
fail and repeat; a seeking node opens its bypass in a gap; a master that hears no other opens at once; a leave closes
the bypass. Choices of the model it rests on: notes/assumptions/1, 43. -/
def Obligations.RingSurveyAndMembership : Prop :=
  ∀ (s : State),
    (s.ringSt = 4 →
      (∀ (b : Bool), Answers (exec (.surveyStart b) s) fun t =>
        t.ring = { s.ring with survey := some 0, timeSurveyed := false, surveyWanted := false, surveyRetry := false, surveyHops := s.get Fld.RING_LOOP_HOPS }
        ∧ t.has Fld.RING_CTL_SURVEY = false ∧ t.has Fld.RING_STAT_SURVEYED = false
        ∧ RegsBut [Reg.RING_CTL, Reg.RING_STAT] s t ∧ t = { s with regs := t.regs, ring := t.ring, tasks := t.tasks })
      ∧ (s.ring.surveyRetry = true → Answers (exec .surveyRetry s) fun t =>
        t.ring = { s.ring with survey := some 0, timeSurveyed := false, surveyWanted := false, surveyRetry := false, surveyHops := s.get Fld.RING_LOOP_HOPS }
        ∧ t.has Fld.RING_CTL_SURVEY = false ∧ t.has Fld.RING_STAT_SURVEYED = false
        ∧ RegsBut [Reg.RING_CTL, Reg.RING_STAT] s t ∧ t = { s with regs := t.regs, ring := t.ring })
      ∧ (∀ (seg : Fin 8) (echo : BitVec 32), s.ring.survey = some seg.val →
        Answers (exec (.surveyStep seg echo) s) fun t =>
          t.ring = (if seg.val = s.get Fld.RING_LOOP_HOPS then { s.ring with survey := none, timeSurveyed := true } else { s.ring with survey := some (seg.val + 1) })
          ∧ t.get Fld.RING_TIMING_SEGDLY = (if seg.val = s.ringPos then (max 0 (roundDiv ((echo.toNat : Int) - 1024) 2)).toNat % 2 ^ 16 else s.get Fld.RING_TIMING_SEGDLY)
          ∧ RegsBut [Reg.RING_TIMING] s t ∧ t = { s with regs := t.regs, ring := t.ring })
      ∧ (s.ring.survey.isSome = true → Answers (exec .surveyProbeTimeout s) fun t =>
          t.has Fld.RING_FLAGS_SURVFAIL = true ∧ t.get Fld.RING_LASTCODE_CODE = 0x0906 ∧ Fires [EV.RING_FAULT] s t
          ∧ t.ring = { s.ring with survey := none, timeSurveyed := false, surveyRetry := true }
          ∧ RegsBut [Reg.RING_FLAGS, Reg.RING_LASTCODE] s t ∧ t = { s with regs := t.regs, ring := t.ring, edges := t.edges })
      ∧ Answers (exec .ringBrokenTimeout s) (fun t =>
          t.has Fld.RING_FLAGS_BROKEN = true ∧ t.has Fld.RING_STAT_SURVEYED = false ∧ t.get Fld.RING_LASTCODE_CODE = 0x0902
          ∧ Fires [EV.RING_FAULT] s t ∧ t.ring = { s.ring with broken := true, survey := none, timeSurveyed := false }
          ∧ RegsBut [Reg.RING_FLAGS, Reg.RING_STAT, Reg.RING_LASTCODE] s t
          ∧ t = { s with regs := t.regs, ring := t.ring, edges := t.edges }))
    ∧ (s.ringSt = 1 → s.ringRole = 1 → 2 ≤ s.ring.seen → s.ring.gapSeen = true → s.ring.hopsSeen + 1 ≤ 7 →
      (eb s.ringCfg 1 = 0xFF ∨ eb s.ringCfg 1 = s.ring.hopsSeen + 1) →
      Answers (exec .ringJoin s) fun t =>
        t.ringSt = 3 ∧ t.ringPos = s.ring.hopsSeen + 1 ∧ t.has Fld.RINGBYP_STAT_CLOSED = false
        ∧ t.get Fld.RINGBYP_CNT_OPENS = s.counted Fld.RINGBYP_CNT_OPENS ∧ Fires [EV.RING_JOIN] s t
        ∧ RegsBut [Reg.RING_STAT, Reg.RINGBYP_STAT, Reg.RINGBYP_CNT] s t
        ∧ t = { s with regs := t.regs, edges := t.edges, ring := { s.ring with posBad := false } })
    ∧ (s.ringSt = 1 → s.ringRole = 2 →
      (s.ring.heard = false → Answers (exec .ringMasterListenEnd s) fun t =>
        t.ringSt = 4 ∧ t.ringPos = 0 ∧ t.has Fld.RINGBYP_STAT_CLOSED = false
        ∧ t.get Fld.RINGBYP_CNT_OPENS = s.counted Fld.RINGBYP_CNT_OPENS ∧ t.ring.surveyWanted = true
        ∧ RegsBut [Reg.RING_STAT, Reg.RINGBYP_STAT, Reg.RINGBYP_CNT] s t ∧ t = { s with regs := t.regs, ring := t.ring })
      ∧ (s.ring.heard = true → Answers (exec .ringMasterListenEnd s) fun t =>
        t.ringSt = 5 ∧ t.has Fld.RING_FLAGS_DUALMASTER = true ∧ t.get Fld.RING_LASTCODE_CODE = 0x0905 ∧ Fires [EV.RING_FAULT] s t
        ∧ RegsBut [Reg.RING_STAT, Reg.RING_FLAGS, Reg.RING_LASTCODE] s t ∧ t = { s with regs := t.regs, edges := t.edges }))
    ∧ (s.ringSt ≠ 0 → s.has Fld.RINGBYP_STAT_CLOSED = false → Answers (exec .ringLeave s) fun t =>
        t.ring = { s.ring with left := true, survey := none, timeSurveyed := false, evFire := none, prev := none }
        ∧ t.ringSt = 5 ∧ t.has Fld.RINGBYP_STAT_CLOSED = true ∧ t.get Fld.RINGBYP_STAT_CAUSE = 6
        ∧ t.get Fld.RINGBYP_CNT_CLOSES = s.counted Fld.RINGBYP_CNT_CLOSES ∧ Fires [EV.RING_LEAVE] s t
        ∧ RegsBut [Reg.RING_STAT, Reg.RINGBYP_STAT, Reg.RINGBYP_CNT] s t
        ∧ t = { s with regs := t.regs, ring := t.ring, edges := t.edges, tasks := t.tasks })
/-! ### Cipher engine, public-key engine, entropy source (chapter 19) -/

/-- The cores and their scheduler, the queues and the self-test (after R408 to R425): a LINK request takes an idle core
or waits; the last block of a queue's ECB, CBC or CTR descriptor stores its output and word 7; a tail write, a flush, a
clear of key register sets, self-tests and restores have their stated effect. Choices of the model it rests on:
notes/assumptions/44, 45. -/
def Obligations.CipherCommands : Prop :=
  ∀ (s : State),
    (∀ (a b c d : CoreWork), s.cipher.cores = [some a, some b, some c, some d] →
      exec .linkCipherRequest s = .next { s with cipher := { s.cipher with link := s.cipher.link ++ [s.elapsed] } })
    ∧ (∀ (b c d : CoreWork), s.cipher.cores = [none, some b, some c, some d] → s.cipher.link = [] → coreRetired s 0 = false →
      0 ∉ s.cipher.untested →
      Answers (exec .linkCipherRequest s) fun t =>
        t.cipher = { s.cipher with cores := [some .link, some b, some c, some d] } ∧ t.get Fld.CIPHER_STAT_BUSY % 2 = 1
        ∧ RegsBut [Reg.CIPHER_STAT] s t ∧ t = { s with regs := t.regs, cipher := t.cipher })
    ∧ (∀ (k : Fin 4) (pass fails : Bool), s.cipher.cores.length = 4 → s.core k = some .link → s.CipherQuiet → s.CipherIdle →
      Answers (exec (.aesBlockEnd k pass fails) s) fun t =>
        t.cipher = { s.cipher with cores := setNth s.cipher.cores k none } ∧ t.bit Reg.CIPHER_STAT (4 + k.val) = false
        ∧ RegsBut [Reg.CIPHER_STAT] s t ∧ t = { s with regs := t.regs, cipher := t.cipher })
    ∧ (∀ (k : Fin 4) (fails : Bool) (v : CipherQueue) (j : QueueJob) (h : Nat) (e : QueueDesc) (out : List Byte),
      s.cipher.queues = [v, {}] → s.cipher.cores.length = 4 → s.core k = some (.queue 0) → v.job = some j → v.flushing = false →
      v.todo = 0 → v.flight = 1 → j.mode ≤ 2 → h = s.get (Fld.CIPHER_QHEAD_HEAD 0) → e = qdRead s 0 h → e.final = true →
      (h + 1) % max 1 (s.get (Fld.CIPHER_QCFG_SIZE 0)) = s.get (Fld.CIPHER_QTAIL_TAIL 0) → s.QueueIdle 1 →
      s.cipher.link = [] → s.cipher.keyWait = 0 → s.cipher.tests = [] → s.drbgReady = false →
      out = ((jobOutput j (j.done ++ s.bytes (0x40054000 + e.src) e.segLen)).drop j.done.length).take e.segLen →
      (0x40054000 + e.dst + e.segLen ≤ qdAddr s 0 h ∨ qdAddr s 0 h + 32 ≤ 0x40054000 + e.dst) →
      Answers (exec (.aesBlockEnd k true fails) s) fun t =>
        t.bytes (0x40054000 + e.dst) out.length = out ∧ t.word (qdAddr s 0 h + 28) = 0x40000000#32
        ∧ t.get (Fld.CIPHER_QHEAD_HEAD 0) = s.get (Fld.CIPHER_QTAIL_TAIL 0) ∧ t.has (Fld.CIPHER_QSTAT_ACTIVE 0) = false
        ∧ (t.queue 0).job = none ∧ Fires [EV.CIPHER_Q0DONE] s t
        ∧ RegsBut [Reg.CIPHER_STAT, Reg.CIPHER_QHEAD 0, Reg.CIPHER_QSTAT 0] s t
        ∧ t = { s with regs := t.regs, mem := t.mem, cipher := t.cipher, edges := t.edges })
    ∧ (∀ (q : Fin 2) (m : Master) (v : Word) (fails : Bool),
      (s.get (Fld.CIPHER_QCFG_SIZE q) ≤ v.toNat % 256 ∨ s.issues m = false → exec (.cipherQtailWrite q m v fails) s = .next s)
      ∧ (v.toNat % 256 < s.get (Fld.CIPHER_QCFG_SIZE q) → s.issues m = true → s.CipherQuiet → s.QueueIdle (1 - q.val) →
        (s.drbgReady = false ∨ 12 < s.trng.fifo.length) →
        (s.has (if q.val = 0 then Fld.CIPHER_CTL_Q0EN else Fld.CIPHER_CTL_Q1EN) = false ∨ v.toNat % 256 = s.get (Fld.CIPHER_QHEAD_HEAD q)) →
        Answers (exec (.cipherQtailWrite q m v fails) s) fun t =>
          t.get (Fld.CIPHER_QTAIL_TAIL q) = v.toNat % 256 ∧ RegsBut [Reg.CIPHER_QTAIL q] s t
          ∧ t = { s with regs := t.regs, cipher := { s.cipher with queues := t.cipher.queues } }))
    ∧ (∀ (q : Fin 2), s.CipherQuiet → s.cipher.queues.length = 2 → (s.queue q).flight = 0 →
      s.get (Fld.CIPHER_QTAIL_TAIL q) < s.get (Fld.CIPHER_QCFG_SIZE q) → s.get (Fld.CIPHER_QHEAD_HEAD q) < s.get (Fld.CIPHER_QCFG_SIZE q) →
      Answers (exec (.cipherFlush q) s) fun t =>
        t.get (Fld.CIPHER_QHEAD_HEAD q) = s.get (Fld.CIPHER_QTAIL_TAIL q) ∧ t.has (Fld.CIPHER_QSTAT_ACTIVE q) = false
        ∧ t.queue q = {} ∧ t.has (if q.val = 0 then Fld.CIPHER_CTL_FLUSH0 else Fld.CIPHER_CTL_FLUSH1) = false
        ∧ (∀ i, i < (s.get (Fld.CIPHER_QTAIL_TAIL q) + s.get (Fld.CIPHER_QCFG_SIZE q) - s.get (Fld.CIPHER_QHEAD_HEAD q)) % s.get (Fld.CIPHER_QCFG_SIZE q) →
          t.word (qdAddr s q ((s.get (Fld.CIPHER_QHEAD_HEAD q) + i) % s.get (Fld.CIPHER_QCFG_SIZE q)) + 28) = 0x40000405#32)
        ∧ RegsBut [Reg.CIPHER_CTL, Reg.CIPHER_QHEAD q, Reg.CIPHER_QSTAT q, Reg.CIPHER_LASTCODE] s t
        ∧ t = { s with regs := t.regs, mem := t.mem, cipher := t.cipher })
    ∧ (∀ (v : Word), Answers (exec (.keyclrWrite v) s) fun t =>
        (∀ k w : Fin 8, t.rd (Reg.CIPHER_KEY k w) = if v.toNat.testBit k then 0 else s.rd (Reg.CIPHER_KEY k w))
        ∧ RegsOutside (fun a => decide (Reg.CIPHER_KEY 0 0 ≤ a ∧ a ≤ Reg.CIPHER_KEY 7 7)) s t ∧ t = { s with regs := t.regs })
    ∧ (s.CipherQuiet → s.cipher.cores = [none, none, none, none] →
      (∀ (b : Bool), s.get Fld.CIPHER_STAT_RETIRED = 0 → Answers (exec (.cipherSelftestStart b) s) fun t =>
        t.cipher = { s.cipher with tests := [(0, 1, false), (1, 1, false), (2, 1, false), (3, 1, false)], cores := [some .test, some .test, some .test, some .test] }
        ∧ t.get Fld.CIPHER_STAT_BUSY = 15 ∧ RegsBut [Reg.CIPHER_STAT] s t
        ∧ t = { s with regs := t.regs, cipher := t.cipher, tasks := t.tasks, yielded := s.yielded.filter (fun n => n != 2) })
      ∧ (∀ (k : Fin 4), coreRetired s k = true → Answers (exec (.cipherRestore (BitVec.ofNat 4 (2 ^ k.val))) s) fun t =>
        t.cipher = { s.cipher with tests := [(k.val, 1, false)], cores := setNth s.cipher.cores k (some .test) }
        ∧ t.bit Reg.CIPHER_CTL (8 + k.val) = true ∧ RegsBut [Reg.CIPHER_CTL, Reg.CIPHER_STAT] s t
        ∧ t = { s with regs := t.regs, cipher := t.cipher, yielded := s.yielded.filter (fun n => n != 2) }))

/-- Random data (after R432 to R434): a read of TRNG_DATA takes the oldest word, or answers zero and sets UNDERRUN where
there is none; a FIFO with room asks for a block; a failed health test stops the source; a restart and READY bring it
back; a reseed is counted. Choices of the model it rests on: notes/assumptions/2, 45. -/
def Obligations.RandomData : Prop :=
  ∀ (s : State),
    (∀ (w : Word) (rest : List Word), s.trng.fifo = w :: rest → rest.length < 16 →
      (12 < rest.length → s.CipherQuiet → Answers (exec .trngDataRead s) fun t =>
        t.bus = .data w ∧ t.get Fld.TRNG_STAT_AVAIL = rest.length ∧ RegsBut [Reg.TRNG_STAT] s t
        ∧ t = { s with regs := t.regs, bus := t.bus, trng := { s.trng with fifo := rest } })
      ∧ (rest.length ≤ 12 → s.drbgReady = true → s.cipher.keyWait = 0 → s.cipher.cores = [some .link, some .link, some .link, some .link] →
        Answers (exec .trngDataRead s) fun t =>
          t.bus = .data w ∧ t.get Fld.TRNG_STAT_AVAIL = rest.length ∧ RegsBut [Reg.TRNG_STAT] s t
          ∧ t = { s with regs := t.regs, bus := t.bus, trng := { s.trng with fifo := rest }, cipher := { s.cipher with keyWait := 1 } }))
    ∧ (s.trng.fifo = [] → Answers (exec .trngDataRead s) fun t =>
        t.bus = .data 0 ∧ t.has Fld.TRNG_FLAGS_UNDERRUN = true ∧ t.get Fld.TRNG_CNT_UNDERRUNS = s.counted Fld.TRNG_CNT_UNDERRUNS
        ∧ RegsBut [Reg.TRNG_FLAGS, Reg.TRNG_CNT] s t ∧ t = { s with regs := t.regs, bus := t.bus })
    ∧ (∀ (adaptive : Bool), Answers (exec (.trngHealthFail adaptive) s) fun t =>
        t.has Fld.TRNG_STAT_READY = false ∧ t.has Fld.TRNG_STAT_FAILED = true ∧ t.get Fld.TRNG_STAT_AVAIL = 0
        ∧ t.get Fld.TRNG_STAT_CODE = (if s.trng.starting then 0x0433 else if adaptive then 0x0431 else 0x0430)
        ∧ t.has (if adaptive then Fld.TRNG_FLAGS_APTFAIL else Fld.TRNG_FLAGS_RCTFAIL) = true
        ∧ t.get Fld.TRNG_CNT_FAILS = s.counted Fld.TRNG_CNT_FAILS ∧ t.trng = { fifo := [], generates := 0, starting := false }
        ∧ Fires [EV.TRNG_FAIL] s t ∧ RegsBut [Reg.TRNG_STAT, Reg.TRNG_FLAGS, Reg.TRNG_CNT, Reg.TRNG_CTL] s t
        ∧ t = { s with regs := t.regs, trng := t.trng, edges := t.edges })
    ∧ Answers (exec .trngRestart s) (fun t =>
        t.trng = { fifo := [], generates := 0, starting := true } ∧ t.has Fld.TRNG_STAT_READY = false
        ∧ t.get Fld.TRNG_STAT_AVAIL = 0 ∧ t.has Fld.TRNG_CTL_RESTART = true ∧ RegsBut [Reg.TRNG_STAT, Reg.TRNG_CTL] s t
        ∧ t = { s with regs := t.regs, trng := t.trng })
    ∧ (s.trng.starting = true → s.has Fld.TRNG_CTL_EN = true → s.trng.fifo = [] → s.keys.passWaits = false → s.cipher.keyWait = 0 →
      s.cipher.cores = [some .link, some .link, some .link, some .link] →
      Answers (exec .trngReady s) fun t =>
        t.has Fld.TRNG_STAT_READY = true ∧ t.has Fld.TRNG_STAT_FAILED = false ∧ t.has Fld.TRNG_CTL_RESTART = false
        ∧ Fires [EV.TRNG_READY] s t ∧ RegsBut [Reg.TRNG_STAT, Reg.TRNG_CTL] s t
        ∧ t = { s with regs := t.regs, edges := t.edges, trng := { s.trng with starting := false }, cipher := { s.cipher with keyWait := 1 } })
    ∧ (∀ (byTask : Bool), s.drbgReady = true → (byTask = true ∨ s.get Fld.TRNG_CTL_RESEED ≤ s.trng.generates) →
      Answers (exec (.drbgReseed byTask) s) fun t =>
        t.trng = { s.trng with generates := 0 } ∧ t.get Fld.TRNG_CNT_RESEEDS = s.counted Fld.TRNG_CNT_RESEEDS
        ∧ RegsBut [Reg.TRNG_CNT] s t ∧ t = { s with regs := t.regs, trng := t.trng, tasks := t.tasks })

/-- The public-key engine and SHA-256 (after R426 to R430): a free engine is claimed and released by its owner, which
clears the operand RAM; an operation of the owner sets BUSY and fixes its result from the operands; one of another
master is refused with 0x0423; its end stores the outputs and the code. INIT begins an empty message, each data word
adds four octets, most significant first, FINAL fixes the digest of the valid octets, and the end stores it in
PKE_DIGEST and fires EV_PKE_SHADONE. Choices of the model it rests on: notes/assumptions/2, 47. -/
def Obligations.PublicKeyOperations : Prop :=
  ∀ (m : Master) (s : State),
    (s.has Fld.PKE_CLAIM_LOADER = false → s.issues m = true →
      (s.has Fld.PKE_CLAIM_CLAIM = false → Answers (exec (.pkeClaimWrite m true) s) fun t =>
        t.has Fld.PKE_CLAIM_CLAIM = true ∧ t.get Fld.PKE_CLAIM_OWNER = masterBlock m ∧ RegsBut [Reg.PKE_CLAIM] s t
        ∧ t = { s with regs := t.regs })
      ∧ (pkeOwns s m = true → s.pke.op = none → Answers (exec (.pkeClaimWrite m false) s) fun t =>
        t.has Fld.PKE_CLAIM_CLAIM = false ∧ t.has Fld.PKE_STAT_EPHVALID = false ∧ t.pke = { s.pke with eph := none }
        ∧ t.bytes pkeD 224 = List.replicate 224 0#8 ∧ BytesOutside pkeD 224 s t ∧ RegsBut [Reg.PKE_CLAIM, Reg.PKE_STAT] s t
        ∧ t = { s with regs := t.regs, mem := t.mem, pke := t.pke }))
    ∧ (∀ (cmd : Word) (f : Bool),
      ∀ c ∈ [Instr.pkeKeygen m cmd f, .pkeEcdh m cmd f, .pkeSign m cmd f, .pkeVerify m cmd f, .pkeValidate m cmd f],
        (s.issues m = false → exec c s = .next s)
        ∧ (s.issues m = true → pkeOwns s m = false → Answers (exec c s) fun t => t.get Fld.PKE_STAT_CODE = 0x0423 ∧ t.has Fld.PKE_STAT_BUSY = s.has Fld.PKE_STAT_BUSY
          ∧ RegsBut [Reg.PKE_STAT] s t ∧ t = { s with regs := t.regs }))
    ∧ (∀ (cmd : Word) (f : Bool), pkeOwns s m = true → s.issues m = true → s.has Fld.PKE_STAT_BUSY = false →
        cmd.toNat / 16 % 4 ≠ 3 →
      (s.drbgReady = true → Answers (exec (.pkeKeygen m cmd f) s) fun t => ∃ o, t.pke = { s.pke with op := some o }
        ∧ (∀ x y, ecMul (drbgScalar s).1 ecG = some (x, y) →
          o = { code := 0, writes := [(pkeQX, bytesBE 32 x), (pkeQY, bytesBE 32 y)], eph := some (some (drbgScalar s).1) })
        ∧ t.has Fld.PKE_STAT_BUSY = true ∧ RegsBut [Reg.PKE_STAT] s t
        ∧ t = { s with regs := t.regs, pke := t.pke, trng := t.trng, freeCounter := t.freeCounter })
      ∧ (∀ (d : Nat × Nat × State), d = pkePrivate m cmd 6 f s → s.drbgReady = true → d.1 = 0 →
        Answers (exec (.pkeSign m cmd f) s) fun t =>
        ∃ o, t.pke = { s.pke with op := some o }
        ∧ (∀ x y, ecdsaSign d.2.1 (s.operand pkeE) (drbgScalar d.2.2).1 = some (x, y) →
          o = { code := 0, writes := [(pkeR, bytesBE 32 x), (pkeS, bytesBE 32 y)] })
        ∧ (cmd.toNat / 16 % 4 = 0 → d.2.1 = s.operand pkeD) ∧ (cmd.toNat / 16 % 4 = 1 → d.2.1 = natOfBE (s.keyBytes (cmd.toNat / 256 % 256)))
        ∧ (cmd.toNat / 16 % 4 = 2 → d.2.1 = s.pke.eph.getD 0)
        ∧ t.has Fld.PKE_STAT_BUSY = true ∧ RegsBut [Reg.PKE_STAT] d.2.2 t
        ∧ t = { d.2.2 with regs := t.regs, pke := t.pke, trng := t.trng, freeCounter := t.freeCounter })
      ∧ (∀ (d : Nat × Nat × State), d = pkePrivate m cmd 7 f s → cmd.toNat.testBit 17 = false →
        (ecOnCurve (s.operand pkeQX) (s.operand pkeQY) = false → Answers (exec (.pkeEcdh m cmd f) s) fun t =>
          t.pke = { s.pke with op := some { code := 0x0420 } } ∧ t.has Fld.PKE_STAT_BUSY = true ∧ RegsBut [Reg.PKE_STAT] s t
          ∧ t = { s with regs := t.regs, pke := t.pke })
        ∧ (ecOnCurve (s.operand pkeQX) (s.operand pkeQY) = true → d.1 = 0 → Answers (exec (.pkeEcdh m cmd f) s) fun t =>
          ∃ o, t.pke = { s.pke with op := some o }
          ∧ (∀ x y, ecMul d.2.1 (some (s.operand pkeQX, s.operand pkeQY)) = some (x, y) →
            o = { code := 0, writes := [(pkeRX, bytesBE 32 x)], eph := if cmd.toNat / 16 % 4 = 2 then some none else none })
          ∧ t.has Fld.PKE_STAT_BUSY = true ∧ RegsBut [Reg.PKE_STAT] d.2.2 t ∧ t = { d.2.2 with regs := t.regs, pke := t.pke }))
      ∧ (∀ (verify : Bool), Answers (exec (if verify then .pkeVerify m cmd f else .pkeValidate m cmd f) s) fun t =>
        t.pke = { s.pke with op := some { code := if ecOnCurve (s.operand pkeQX) (s.operand pkeQY) = false then 0x0420 else if verify && !ecdsaVerify (s.operand pkeQX) (s.operand pkeQY) (s.operand pkeE) (s.operand pkeR) (s.operand pkeS) then 0x0421 else 0 } }
        ∧ t.has Fld.PKE_STAT_BUSY = true ∧ RegsBut [Reg.PKE_STAT] s t ∧ t = { s with regs := t.regs, pke := t.pke }))
    ∧ (∀ (c a : Nat) (b : List Byte), s.pke.op = some { code := c, writes := [(a, b)] } → Answers (exec .pkeOpDone s) fun t =>
        t.bytes a b.length = b ∧ t.get Fld.PKE_STAT_CODE = c % 2 ^ 16 ∧ t.has Fld.PKE_STAT_BUSY = false
        ∧ t.pke = { s.pke with op := none } ∧ Fires [EV.PKE_DONE] s t ∧ BytesOutside a b.length s t ∧ RegsBut [Reg.PKE_STAT] s t
        ∧ t = { s with regs := t.regs, mem := t.mem, pke := t.pke, edges := t.edges })
    ∧ (∀ (o : PkeOp), s.pke.op = some o → Answers (exec .pkeOpDone s) fun t =>
        t.pke.op = none ∧ t.has Fld.PKE_STAT_BUSY = false ∧ t.edges.getLast? = some (.producer EV.PKE_DONE)
        ∧ (o.imp = none → t.get Fld.PKE_STAT_CODE = o.code % 2 ^ 16)
        ∧ (∀ n a k, o.imp = some (n, a, k) → t.get Fld.PKE_STAT_CODE = (if s.keySt n = 0 then o.code % 2 ^ 16 else 0x050B))
        ∧ (o.eph = none → t.pke.eph = s.pke.eph) ∧ (o.eph = some none → t.pke.eph = none ∧ t.has Fld.PKE_STAT_EPHVALID = false)
        ∧ (∀ d, o.eph = some (some d) → t.pke.eph = some d ∧ t.has Fld.PKE_STAT_EPHVALID = true))
    ∧ (s.issues m = false → ∀ c ∈ [Instr.pkeClaimWrite m true, .pkeClaimWrite m false, .shaInit m, .shaData m 0, .shaFinal m 0],
        exec c s = .next s)
    ∧ (s.issues m = true → shaAllowed s m = true →
      exec (.shaInit m) s = .next { s with pke := { s.pke with sha := some [] } }
      ∧ ∀ (msg : List Byte), s.pke.sha = some msg →
        (∀ (v : Word), exec (.shaData m v) s = .next { s with pke := { s.pke with sha := some (msg ++ bytesBE 4 v.toNat) } })
        ∧ (∀ (valid : Fin 4), exec (.shaFinal m valid) s = .next { s with pke := { s.pke with sha := none, digest := some (sha256 (msg.take (msg.length - (if valid.val = 0 then 0 else 4 - valid.val)))) } }))
    ∧ (∀ (d : List Byte), s.pke.digest = some d → d.length = 32 → Answers (exec .shaDone s) fun t =>
        (∀ w : Fin 8, t.rd (Reg.PKE_DIGEST w) = BitVec.ofNat 32 (natOfBE ((d.drop (4 * w.val)).take 4)))
        ∧ t.pke = { s.pke with digest := none } ∧ Fires [EV.PKE_SHADONE] s t
        ∧ RegsBut ((List.range 8).map Reg.PKE_DIGEST) s t ∧ t = { s with regs := t.regs, pke := t.pke, edges := t.edges })
/-! ### The key store (chapter 20) -/

/-- The key store's commands, admission, sweep and refresh (after R442 to R456, R630): an admitted request counts and
takes a use; a command of a core runs with BUSY set and fixes its result, others are rejected with 0x050F; its end makes
the slot VALID. Choices of the model it rests on: notes/assumptions/2, 12, 46. -/
def Obligations.KeySlotCommands : Prop :=
  ∀ (s : State),
    (∀ (slot : Fin 256) (masters : BitVec 5) (op : Fin 8) (types : BitVec 8) (block : BitVec 5) (r : KeyRequest),
      r = { slot := slot.val, masters := masters.toNat, op := op.val, types := bitsOf 8 types.toNat, block := block.toNat, checkFails := false } →
      (admitCode r s = 0 → 1 < s.get (keyUses slot) → Answers (exec (.keyAdmit slot masters op types block false) s) fun t =>
        t.get (keyUses slot) = (if s.get (keyUses slot) = 0xFFFF then 0xFFFF else s.get (keyUses slot) - 1)
        ∧ t.get Fld.KEYSTORE_CNT_ADMITS = s.counted Fld.KEYSTORE_CNT_ADMITS
        ∧ RegsBut [Reg.KEYSTORE_CNT 0, Reg.KEYSTORE_SLOTATTR slot 2] s t ∧ t = { s with regs := t.regs })
      ∧ (admitCode r s ≠ 0 → Answers (exec (.keyAdmit slot masters op types block false) s) fun t =>
        t.get Fld.KEYSTORE_LAST_CODE = admitCode r s ∧ t.get Fld.KEYSTORE_LAST_SLOT = slot.val
        ∧ t.get Fld.KEYSTORE_LAST_MASTER = block.toNat ∧ t.get Fld.KEYSTORE_CNT_REFUSALS = s.counted Fld.KEYSTORE_CNT_REFUSALS
        ∧ t.has Fld.KEYSTORE_FLAGS_REFUSE = true ∧ Fires [EV.KEYSTORE_REFUSE] s t
        ∧ RegsBut [Reg.KEYSTORE_LAST, Reg.KEYSTORE_CNT 0, Reg.KEYSTORE_FLAGS] s t ∧ t = { s with regs := t.regs, edges := t.edges }))
    ∧ (∀ (m : Master) (slot : Fin 256) (arg : BitVec 16) (f : Bool),
      ∀ c ∈ [Instr.keyDerive m slot f, .keyImport m slot arg f, .keyInvalidate m slot, .keyRestrict m slot, .keyRootgen m],
        (s.issues m = false → exec c s = .next s)
        ∧ ((m ≠ .cpu0 ∧ m ≠ .cpu1) ∨ (s.issues m = true ∧ s.has Fld.KEYSTORE_RESULT_BUSY = true) → Answers (exec c s) fun t => t.has Fld.KEYSTORE_FLAGS_CMDREJ = true ∧ t.get Fld.KEYSTORE_RESULT_CODE = 0x050F
          ∧ RegsBut [Reg.KEYSTORE_FLAGS, Reg.KEYSTORE_RESULT] s t ∧ t = { s with regs := t.regs }))
    ∧ (∀ (m : Master) (slot : Fin 256), (m = .cpu0 ∨ m = .cpu1) → s.issues m = true → s.has Fld.KEYSTORE_RESULT_BUSY = false →
      s.has Fld.KEYSTORE_STAT_LOCKED = false →
      (∀ (p : Nat) (k : List Byte), p = attrParent s.newAttr →
        k = kdf (s.keyBytes p) (bytesBE 2 (attrLabel s.newAttr) ++ [0#8] ++ keyContext s ++ bytesBE 1 (attrType s.newAttr)) (keyOctets (attrType s.newAttr)) →
        newSlotCode s s.newAttr slot p = 0 →
        admitCode { slot := p, masters := masterBit (masterBlock m), op := 4, types := [2, 4], block := masterBlock m, checkFails := false } s = 0 →
        Answers (exec (.keyDerive m slot false) s) fun t =>
          t.keys = { s.keys with cmd := (if attrType s.newAttr = 3 ∧ (natOfBE k = 0 ∨ p256N ≤ natOfBE k) then some (.nothing, 0x050E) else some (.make slot (newSlotAttr s s.newAttr p) k, 0)), cmdWaits := false }
          ∧ t.has Fld.KEYSTORE_RESULT_BUSY = true
          ∧ RegsBut [Reg.KEYSTORE_RESULT, Reg.KEYSTORE_CNT 0, Reg.KEYSTORE_CNT 1, Reg.KEYSTORE_SLOTATTR p 2] s t
          ∧ t = { s with regs := t.regs, keys := t.keys, edges := t.edges })
      ∧ (∀ (arg : BitVec 16) (b n p : Nat) (a : List Word), b = 0x40054000 + arg.toNat → a = (List.range 7).map (fun w => s.word (b + 4 * w)) →
        n = keyOctets (attrType a) → p = attrParent s.newAttr → arg.toNat % 4 = 0 → arg.toNat + 57 + n ≤ 16384 →
        newSlotCode s a slot p = 0 →
        admitCode { slot := p, masters := masterBit (masterBlock m), op := 5, types := [0, 1, 2], block := masterBlock m, checkFails := false } s = 0 →
        Answers (exec (.keyImport m slot arg false) s) fun t =>
          t.keys = { s.keys with cmd := (if ccmTag (s.keyBytes p) (s.bytes (b + 28) 13) (s.bytes b 28) (ccmData (s.keyBytes p) (s.bytes (b + 28) 13) (s.bytes (b + 41) n)) 16 = s.bytes (b + 41 + n) 16 then some (.make slot (newSlotAttr s a p) (ccmData (s.keyBytes p) (s.bytes (b + 28) 13) (s.bytes (b + 41) n)), 0) else some (.nothing, 0x050D)), cmdWaits := false }
          ∧ t.has Fld.KEYSTORE_RESULT_BUSY = true
          ∧ RegsBut [Reg.KEYSTORE_RESULT, Reg.KEYSTORE_CNT 0, Reg.KEYSTORE_CNT 1, Reg.KEYSTORE_SLOTATTR p 2] s t
          ∧ t = { s with regs := t.regs, keys := t.keys, edges := t.edges })
      ∧ (slot.val ≠ 0 → s.keySt slot = 1 → Answers (exec (.keyInvalidate m slot) s) fun t =>
        t.keySt slot = 2 ∧ t.bit (Reg.KEYSTORE_VALID (slot.val / 32)) (slot.val % 32) = false ∧ t.has Fld.KEYSTORE_RESULT_BUSY = true
        ∧ t.keys.cmd = some (.nothing, 0) ∧ t.keys.cmdWaits = true ∧ t.keys.sweep.map Prod.snd = some 256
        ∧ RegsBut [Reg.KEYSTORE_SLOTATTR slot 1, Reg.KEYSTORE_VALID (slot.val / 32), Reg.KEYSTORE_RESULT] s t
        ∧ t = { s with regs := t.regs, keys := t.keys })
      ∧ (slot.val ≠ 0 → s.keySt slot = 1 → narrows s slot s.newAttr = true → Answers (exec (.keyRestrict m slot) s) fun t =>
        t.keys = { s.keys with cmd := some (.narrow slot (attrBuild s.newAttr (s.get (keyParent slot)) (s.get (keyDepth slot)) (attrExprst s.newAttr)), 0), cmdWaits := false }
        ∧ t.has Fld.KEYSTORE_RESULT_BUSY = true ∧ RegsBut [Reg.KEYSTORE_RESULT] s t ∧ t = { s with regs := t.regs, keys := t.keys })
      ∧ ((s.get Fld.KEYSTORE_STAT_LC = 0 ∨ s.get Fld.KEYSTORE_STAT_LC = 1) → s.drbgReady = true →
        Answers (exec (.keyRootgen m) s) fun t =>
          t.keys = { s.keys with cmd := some (.root (bytesBE 32 s.freeNat), 0), cmdWaits := false } ∧ t.has Fld.KEYSTORE_RESULT_BUSY = true
          ∧ RegsBut [Reg.KEYSTORE_RESULT] s t
          ∧ t = { s with regs := t.regs, keys := t.keys, freeCounter := s.freeCounter + 1, trng := { s.trng with generates := s.trng.generates + 1 } }))
    ∧ (∀ (slot : Fin 256) (a : List Word) (p d x : Nat) (key : List Byte), slot.val ≠ 0 → s.keys.cmdWaits = false → a.length = 7 → x ≤ 1 →
      s.keys.cmd = some (.make slot (attrBuild a p d x) key, 0) → Answers (exec .keyCmdDone s) fun t =>
        t.keySt slot = 1 ∧ t.keyBytes slot = key ∧ t.bit (Reg.KEYSTORE_VALID (slot.val / 32)) (slot.val % 32) = true
        ∧ t.get (keyMasters slot) = attrMasters a ∧ t.get (keyOps slot) = attrOps a ∧ t.get (keyLcmask slot) = attrLcmask a
        ∧ t.get Fld.KEYSTORE_STAT_FREE = s.get Fld.KEYSTORE_STAT_FREE - 1 ∧ t.get Fld.KEYSTORE_RESULT_CODE = 0
        ∧ t.has Fld.KEYSTORE_RESULT_BUSY = false ∧ t.keys.cmd = none ∧ Fires [EV.KEYSTORE_DONE] s t
        ∧ RegsBut ([Reg.KEYSTORE_VALID (slot.val / 32), Reg.KEYSTORE_STAT, Reg.KEYSTORE_RESULT] ++ (List.range 7).map (Reg.KEYSTORE_SLOTATTR slot)) s t
        ∧ t = { s with regs := t.regs, keys := t.keys, edges := t.edges })
    ∧ (∀ (e : KeyEnd) (code : Nat), s.keys.cmdWaits = false → s.keys.cmd = some (e, code) → Answers (exec .keyCmdDone s) fun t =>
        t.get Fld.KEYSTORE_RESULT_CODE = code % 2 ^ 16 ∧ t.has Fld.KEYSTORE_RESULT_BUSY = false ∧ t.keys.cmd = none
        ∧ Fires [EV.KEYSTORE_DONE] s t
        ∧ (∀ m, e = .root m → t.backup.root = m ∧ t.keyBytes 0 = m ∧ t.has Fld.KEYSTORE_STAT_ROOTOK = !m.isEmpty)
        ∧ (e = .nothing → RegsBut [Reg.KEYSTORE_RESULT] s t))
    ∧ (∀ (p : Fin 256) (left : Nat), s.keys.sweep = some (p.val, left) →
      (1 < left → p.val ≠ 0 → s.keySt p = 2 → Answers (exec .keySweepStep s) fun t =>
        t.keySt p = 0 ∧ t.keyBytes p = [] ∧ t.get Fld.KEYSTORE_STAT_FREE = (s.get Fld.KEYSTORE_STAT_FREE + 1) % 256
        ∧ t.keys.sweep = some ((p.val + 1) % 256, left - 1)
        ∧ RegsBut ([Reg.KEYSTORE_VALID (p.val / 32), Reg.KEYSTORE_STAT] ++ (List.range 8).map (Reg.KEYSTORE_SLOTATTR p)) s t
        ∧ t = { s with regs := t.regs, keys := t.keys })
      ∧ (left = 1 → p.val = 0 → s.keys.cmdWaits = true → Answers (exec .keySweepStep s) fun t =>
        t.keys = { s.keys with sweep := none, cmd := none, cmdWaits := false } ∧ t.get Fld.KEYSTORE_RESULT_CODE = 0
        ∧ t.has Fld.KEYSTORE_RESULT_BUSY = false ∧ Fires [EV.KEYSTORE_DONE] s t ∧ RegsBut [Reg.KEYSTORE_RESULT] s t
        ∧ t = { s with regs := t.regs, keys := t.keys, edges := t.edges }))
    ∧ (∀ (byTask : Bool), s.keys.pass = none → s.drbgReady = true → Answers (exec (.keyRefreshPass byTask) s) fun t =>
        t.keys = { s.keys with pass := some 0, passWaits := false, nextMask := BitVec.ofNat 256 (natOfBE (bytesBE 32 s.freeNat)) }
        ∧ t = { s with keys := t.keys, tasks := t.tasks, freeCounter := s.freeCounter + 1, trng := { s.trng with generates := s.trng.generates + 1 } })
    ∧ (∀ (n : Nat) (lost : Bool), s.keys.pass = some n →
      (n < 255 → Answers (exec (.keyRefreshStep false false lost) s) fun t => t.keys = { s.keys with pass := some (n + 1) }
        ∧ 3 ∉ t.yielded ∧ t = { s with keys := t.keys, yielded := t.yielded })
      ∧ (n = 255 → Answers (exec (.keyRefreshStep false false lost) s) fun t =>
        t.keys = { s.keys with pass := none, mask := s.keys.nextMask } ∧ t.get Fld.KEYSTORE_CNT_PASSES = s.counted Fld.KEYSTORE_CNT_PASSES
        ∧ Fires [EV.KEYSTORE_MASKPASS] s t ∧ RegsBut [Reg.KEYSTORE_CNT 1] s t
        ∧ t = { s with regs := t.regs, keys := t.keys, edges := t.edges, yielded := t.yielded })
      ∧ (∀ fails, Answers (exec (.keyRefreshStep true fails lost) s) fun t => 3 ∈ t.yielded ∧ t.keys = s.keys))

/-- Tamper, life cycle and guard level (after R457 to R464): a detection latches and, by its response, zeroes every key
and locks the store; a write clears latches and the lock; TAMPLOCK sets LOCK; a permitted transition or level is carried
out and recorded, and the change to GL0 ends with the flash erased and a full reset asked for. Choices of the model it
rests on: notes/assumptions/46, 71. -/
def Obligations.TamperAndLifeCycle : Prop :=
  ∀ (s : State),
    (∀ (k : Fin 8) (lf : Word),
      (s.get Fld.BKP_TAMPCFG_RESP / 4 ^ k.val % 4 = 0 → Answers (exec (.tamperDetect k lf) s) fun t =>
        t.bit Reg.BKP_TAMPSTAT (8 + k.val) = true ∧ t.get Fld.BKP_TAMPSTAT_LATCH = s.get Fld.BKP_TAMPSTAT_LATCH
        ∧ RegsBut [Reg.BKP_TAMPSTAT] s t ∧ t = { s with regs := t.regs })
      ∧ (2 ≤ s.get Fld.BKP_TAMPCFG_RESP / 4 ^ k.val % 4 → s.domOn 1 = true → s.domOn 11 = true → Answers (exec (.tamperDetect k lf) s) fun t =>
        t.bit Reg.BKP_TAMPSTAT k = true ∧ t.get Fld.BKP_TAMPCNT_EVENTS = s.counted Fld.BKP_TAMPCNT_EVENTS
        ∧ (s.get Fld.BKP_TAMPSTAT_LATCH = 0 → t.rd Reg.BKP_TAMPTIME = lf) ∧ t.has Fld.KEYSTORE_FLAGS_TAMPER = true
        ∧ t.has Fld.KEYSTORE_STAT_LOCKED = true ∧ t.has Fld.KEYSTORE_RESULT_BUSY = false ∧ t.backup.root = [] ∧ t.pke.eph = none
        ∧ (∀ n : Fin 256, t.keySt n = 0 ∧ t.keyBytes n = []) ∧ (∀ x w : Fin 8, t.rd (Reg.CIPHER_KEY x w) = 0)
        ∧ t.snapshot = { s.snapshot with valid := false } ∧ Fires [EV.KEYSTORE_TAMPER] s t
        ∧ t = { s with regs := t.regs, keys := t.keys, backup := t.backup, pke := t.pke, snapshot := t.snapshot, life := t.life, edges := t.edges }))
    ∧ (∀ (v : Word), s.get Fld.BKP_TAMPSTAT_LATCH ≠ 0 → s.get Fld.BKP_TAMPSTAT_LATCH &&& (v.toNat % 256) = s.get Fld.BKP_TAMPSTAT_LATCH →
      Answers (exec (.tamperLatchClear v 0) s) fun t =>
        t.get Fld.BKP_TAMPSTAT_LATCH = 0 ∧ t.get Fld.BKP_TAMPSTAT_ACTIVE = 0 ∧ t.has Fld.KEYSTORE_STAT_LOCKED = false
        ∧ RegsBut [Reg.BKP_TAMPSTAT, Reg.KEYSTORE_STAT] s t ∧ t = { s with regs := t.regs })
    ∧ (∀ (v : Word), Answers (exec (.tamplockWrite v) s) fun t =>
        t.has Fld.BKP_TAMPLOCK_LOCK = (decide (v.toNat % 2 = 1) || s.has Fld.BKP_TAMPLOCK_LOCK)
        ∧ RegsBut [Reg.BKP_TAMPLOCK] s t ∧ t = { s with regs := t.regs })
    ∧ (∀ (m : Master) (v : Word), v.toNat / 2 ^ 16 = 0x1C5E → s.issues m = true →
      (lcPermitted s m (v.toNat % 8) = false → Answers (exec (.lcRequest m v) s) fun t =>
        t.get Fld.KEYSTORE_RESULT_CODE = 0x0510 ∧ RegsBut [Reg.KEYSTORE_RESULT] s t ∧ t = { s with regs := t.regs })
      ∧ (lcPermitted s m (v.toNat % 8) = true → s.has Fld.KEYSTORE_STAT_LCBUSY = false → s.keys.lcUnits < 128 →
        (∀ n : Fin 256, s.keySt n = 1 → (s.get (keyLcmask n)).testBit (v.toNat % 8) = false) →
        Answers (exec (.lcRequest m v) s) fun t =>
          t.has Fld.KEYSTORE_STAT_LCBUSY = true ∧ t.keys = { s.keys with lcTo := some (v.toNat % 8) }
          ∧ RegsBut [Reg.KEYSTORE_STAT] s t ∧ t = { s with regs := t.regs, keys := t.keys }))
    ∧ (∀ (to' : Nat), s.keys.lcTo = some to' → to' < 4 → s.keys.sweep = none → Answers (exec .lcTransitionDone s) fun t =>
        t.get Fld.KEYSTORE_STAT_LC = to' ∧ t.has Fld.KEYSTORE_STAT_LCBUSY = false ∧ Fires [EV.KEYSTORE_LCDONE] s t
        ∧ crcUnitOk (t.bytes (0x0FF00200 + 16 * s.keys.lcUnits) 16) = true ∧ BytesOutside (0x0FF00200 + 16 * s.keys.lcUnits) 16 s t
        ∧ t.keys = { s.keys with lcTo := none, lcUnits := s.keys.lcUnits + 1 } ∧ RegsBut [Reg.KEYSTORE_STAT] s t
        ∧ t = { s with regs := t.regs, mem := t.mem, keys := t.keys, edges := t.edges, freeCounter := t.freeCounter })
    ∧ (∀ (m : Master) (level : Nat), (m = .cpu0 ∨ m = .cpu1) → s.issues m = true → (level = 1 ∨ level = 2) → s.get Fld.KEYSTORE_STAT_GL + 1 = level →
      s.has Fld.KEYSTORE_STAT_LCBUSY = false → s.keys.glUnits < 32 →
      Answers (exec (.glRequest m (BitVec.ofNat 32 (0x6A1D0000 + level))) s) fun t =>
        t.get Fld.KEYSTORE_STAT_GL = level ∧ t.keys = { s.keys with glUnits := s.keys.glUnits + 1 }
        ∧ crcUnitOk (t.bytes (0x0FF00A00 + 16 * s.keys.glUnits) 16) = true ∧ BytesOutside (0x0FF00A00 + 16 * s.keys.glUnits) 16 s t
        ∧ RegsBut [Reg.KEYSTORE_STAT] s t ∧ t = { s with regs := t.regs, mem := t.mem, keys := t.keys, freeCounter := t.freeCounter })
    ∧ (s.keys.glErase = true → (∀ b, b < 2 → (s.bank b).unit = none ∧ (s.bank b).erase = none) → Answers (exec .gl0EraseDone s) fun t =>
        t.get Fld.KEYSTORE_STAT_GL = 0 ∧ t.has Fld.KEYSTORE_STAT_LCBUSY = false ∧ t.keys.glErase = false
        ∧ (∀ a, a < 0x400000 → t.byte a = 0xFF#8) ∧ t.boot = { s.boot with scope := max s.boot.scope 3, causes := setBitN s.boot.causes 12 })
/-! ### Cores, SRAM and semaphores (chapters 21 and 22) -/

/-- SRAM (after R475 to R485): a word that is not valid reads as its octets stand, a word write stores four octets and
makes the word valid, a narrow write waits in the merge buffer, and a whole entry drains into the array; a correctable
error is counted and queued for write-back; a clear makes every word of the group invalid; semaphores have one owner;
CPU1 starts. Choices of the model it rests on: notes/assumptions/13, 58, 59. -/
def Obligations.SramAndCores : Prop :=
  ∀ (s : State),
    (∀ (m : Master) (addr : Word) (z : AccessSize), s.issues m = true → sramBars s m addr.toNat z = false →
      s.has (Fld.MEMCTL_GRPSTAT_CLEARING (sramGroup addr.toNat)) = false → mergeOf s (addr.toNat / 4 * 4) = none →
      s.sramFault (addr.toNat / 4 * 4) = 0 →
        exec (.sramRead m addr z false 0 none none) s
          = .next { s with bus := .data (BitVec.ofNat 32 (s.num addr.toNat (sizeOctets z))) })
    ∧ (∀ (m : Master) (addr : Word) (side : CacheSide), s.issues m = true → sramBars s m addr.toNat .word = false →
      s.has (Fld.MEMCTL_GRPSTAT_CLEARING (sramGroup addr.toNat)) = false → s.cores.caches.length = 2 →
      (∀ k, k < 8 → s.sramValid (lineBase addr.toNat + 4 * k) = false) →
      Answers (exec (.sramRead m addr .word false 0 (some { side := side, parity := false }) none) s) fun t =>
        t.bus = .data (BitVec.ofNat 32 (natOfLE (sramOctets s addr.toNat 4)))
        ∧ (∀ x ∈ cacheCores s m, CacheLine.mk (lineBase addr.toNat)
            ((List.range 8).flatMap (fun k => sramOctets s (lineBase addr.toNat + 4 * k) 4)) ∈ (t.cache x).lines side)
        ∧ t = { s with bus := t.bus, cores := { s.cores with caches := t.cores.caches }, freeCounter := t.freeCounter })
    ∧ (∀ (m : Master) (addr : Word), s.issues m = true → sramBars s m addr.toNat .word = false →
      s.has (Fld.MEMCTL_GRPSTAT_CLEARING (sramGroup addr.toNat)) = false →
      (mergeOf s addr.toNat = none → s.sramFault addr.toNat = 0 → s.sramValid addr.toNat = true → (s.sramGrp (sramGroup addr.toNat)).writeback = none →
        Answers (exec (.sramRead m addr .word false 1 none none) s) fun t =>
          t.bus = .data (BitVec.ofNat 32 (s.num addr.toNat 4)) ∧ t.get Fld.MEMCTL_ECCCNT_CE = s.counted Fld.MEMCTL_ECCCNT_CE
          ∧ t.rd Reg.MEMCTL_CEADDR = addr ∧ t.has Fld.MEMCTL_ECCFLAGS_CE = true ∧ Fires [EV.MEMCTL_CE] s t ∧ t = { s with regs := t.regs, sram := t.sram, bus := t.bus, edges := t.edges })
      ∧ (∀ (v : Word) (vote : Bool) (ecc : Fin 3), (s.sramGrp (sramGroup addr.toNat)).merge = [] → (s.sramGrp (sramGroup addr.toNat)).writeback = none →
        s.sram.groups.length = 3 → Answers (exec (.sramWrite m addr .word v vote ecc) s) fun t =>
          t.word addr.toNat = v ∧ BytesOutside addr.toNat 4 s t ∧ t.sramValid addr.toNat = true ∧ t.bus = .done
          ∧ RegsBut [Reg.MEMCTL_GRPSTAT (sramGroup addr.toNat)] s t
          ∧ t = { s with regs := t.regs, mem := t.mem, sram := t.sram, bus := t.bus, cores := { s.cores with caches := t.cores.caches } }))
    ∧ (∀ (m : Master) (addr v : Word) (vote : Bool) (ecc : Fin 3), s.issues m = true → sramBars s m addr.toNat .byte = false →
      s.has (Fld.MEMCTL_GRPSTAT_CLEARING (sramGroup addr.toNat)) = false → (s.sramGrp (sramGroup addr.toNat)).merge = [] → s.sram.groups.length = 3 →
      Answers (exec (.sramWrite m addr .byte v vote ecc) s) fun t =>
        t.bus = .done ∧ SameBytes s t ∧ (∃ e, (t.sramGrp (sramGroup addr.toNat)).merge = [e] ∧ e.word = addr.toNat / 4 * 4
          ∧ e.mask = 2 ^ (addr.toNat % 4) ∧ nth 0#8 e.octets (addr.toNat % 4) = v.setWidth 8)
        ∧ RegsBut [Reg.MEMCTL_GRPSTAT (sramGroup addr.toNat)] s t
        ∧ t = { s with regs := t.regs, sram := t.sram, bus := t.bus, cores := { s.cores with caches := t.cores.caches } })
    ∧ (∀ (g : Fin 3) (e : MergeEntry) (vote : Bool) (ecc : Fin 3), (s.sramGrp g).merge = [e] → e.mask = 15 → e.octets.length = 4 →
      sramGroup e.word = g.val → (s.sramGrp g).writeback = none → s.sram.groups.length = 3 →
      Answers (exec (.mergeDrain g 0 vote ecc) s) fun t =>
        t.bytes e.word 4 = e.octets ∧ BytesOutside e.word 4 s t ∧ t.sramValid e.word = true ∧ (t.sramGrp g).merge = []
        ∧ RegsBut [Reg.MEMCTL_GRPSTAT g] s t ∧ t = { s with regs := t.regs, mem := t.mem, sram := t.sram })
    ∧ (∀ (g : Fin 3) (w : Nat), (s.sramGrp g).writeback = some w → s.sram.groups.length = 3 → Answers (exec (.eccWriteback g) s) fun t =>
        t.sramFault w = 0 ∧ (t.sramGrp g).writeback = none ∧ (t.sramGrp g).merge = (s.sramGrp g).merge
        ∧ RegsBut [Reg.MEMCTL_GRPSTAT g] s t ∧ t = { s with regs := t.regs, sram := t.sram })
    ∧ (∀ (g : Fin 3), s.domOn (4 + g.val) = true → Answers (exec (.sramClear g) s) fun t =>
        (∀ a, 0x20000000 + 0x80000 * g.val ≤ a → a < 0x20000000 + 0x80000 * (g.val + 1) → t.byte a = 0#8 ∧ t.sramValid a = false ∧ t.sramFault a = 0)
        ∧ BytesOutside (0x20000000 + 0x80000 * g.val) 0x80000 s t ∧ t.has (Fld.MEMCTL_GRPSTAT_CLEARING g) = true
        ∧ t.has (Fld.MEMCTL_GRPCTL_CLEAR g) = true ∧ RegsBut [Reg.MEMCTL_GRPSTAT g, Reg.MEMCTL_GRPCTL g] s t
        ∧ t = { s with regs := t.regs, mem := t.mem, sram := t.sram })
    ∧ (∀ (g : Fin 3), Answers (exec (.sramClearDone g) s) fun t =>
        t.has (Fld.MEMCTL_GRPSTAT_CLEARING g) = false ∧ t.has (Fld.MEMCTL_GRPCTL_CLEAR g) = false
        ∧ RegsBut [Reg.MEMCTL_GRPSTAT g, Reg.MEMCTL_GRPCTL g] s t ∧ t = { s with regs := t.regs })
    ∧ (∀ (n : Fin 32) (m : Master) (b : Bool), s.issues m = false → exec (.semWrite n m b) s = .next s)
    ∧ (∀ (n : Fin 32) (m : Master), s.issues m = true →
      (s.get (Fld.MEMCTL_SEM_OWNER n) = 0 → Answers (exec (.semWrite n m true) s) fun t =>
        t.get (Fld.MEMCTL_SEM_OWNER n) = masterBlock m ∧ t.has (Fld.MEMCTL_SEM_TAKE n) = true ∧ RegsBut [Reg.MEMCTL_SEM n] s t
        ∧ t = { s with regs := t.regs })
      ∧ (s.get (Fld.MEMCTL_SEM_OWNER n) ≠ 0 → exec (.semWrite n m true) s = .next s)
      ∧ (s.get (Fld.MEMCTL_SEM_OWNER n) = masterBlock m → Answers (exec (.semWrite n m false) s) fun t =>
        t.get (Fld.MEMCTL_SEM_OWNER n) = 0 ∧ t.has (Fld.MEMCTL_SEM_TAKE n) = false ∧ RegsBut [Reg.MEMCTL_SEM n] s t
        ∧ t = { s with regs := t.regs })
      ∧ (s.get (Fld.MEMCTL_SEM_OWNER n) ≠ masterBlock m → exec (.semWrite n m false) s = .next s))
    ∧ (∀ (v : Word), v.toNat % 2 = 1 → s.has Fld.SYSCFG_FOSTAT_LOCKSTEP = false → s.has Fld.SYSCFG_CPUCTL_CPU1RUN = false → s.cores.held.length = 2 →
      s.cores.start.length = 2 → Answers (exec (.cpu1Start v) s) fun t =>
        nth true t.cores.held 1 = false ∧ nth true t.cores.held 0 = nth true s.cores.held 0 ∧ nth 0 t.cores.start 1 = (s.rd Reg.SYSCFG_CPU1BOOT).toNat
        ∧ t.has Fld.SYSCFG_CPUCTL_CPU1RUN = true ∧ t.has Fld.SYSCFG_CPUSTAT_CPU1RUNNING = true ∧ t.bit Reg.PMU_DOMSTAT 3 = true
        ∧ Fires [EV.CPU_START 1] s t ∧ RegsBut [Reg.SYSCFG_CPUCTL, Reg.SYSCFG_CPUSTAT, Reg.PMU_DOMSTAT] s t
        ∧ t = { s with regs := t.regs, cores := t.cores, edges := t.edges })

/-- Rake passes (after R486 to R489): a request on a group that is on starts the pass on a free engine; a step that the
foreground takes yields; a step on a clean word only counts it; a stop ends the pass as aborted. Choices of the model it
rests on: notes/assumptions/59. -/
def Obligations.RakePasses : Prop :=
  ∀ (g : Fin 3) (s : State),
    (∀ (cause : RakeCause), s.sram.rake = none → s.domOn (4 + g.val) = true →
      (∀ k : Fin 3, s.has (Fld.MEMCTL_GRPSTAT_RAKEWAIT k) = false) → Answers (exec (.rakeRequest g cause) s) fun t =>
        t.sram = { s.sram with rake := some g.val } ∧ t.get (Fld.MEMCTL_RAKESUM_STATE g) = 1 ∧ t.get (Fld.MEMCTL_RAKESUM_SCANNED g) = 0
        ∧ t.get (Fld.MEMCTL_RAKESUM_CORR g) = 0 ∧ t.get (Fld.MEMCTL_RAKESUM_UNCORR g) = 0
        ∧ t.has (Fld.MEMCTL_GRPSTAT_RAKING g) = true ∧ t.has (Fld.MEMCTL_GRPSTAT_RAKEWAIT g) = false
        ∧ RegsBut ([Reg.MEMCTL_GRPSTAT g, Reg.MEMCTL_GRPCTL g] ++ (List.range 4).map (Reg.MEMCTL_RAKESUM g)) s t
        ∧ t = { s with regs := t.regs, sram := t.sram, tasks := t.tasks })
    ∧ (s.sram.rake = some g.val →
      (∀ (vote : Bool) (ecc : Fin 3), Answers (exec (.rakeStep true vote ecc) s) fun t =>
        5 ∈ t.yielded ∧ t.sram = s.sram ∧ SameBytes s t)
      ∧ (∀ (w : Nat), w = 0x20000000 + 0x80000 * g.val + 4 * s.get (Fld.MEMCTL_RAKESUM_SCANNED g) →
        s.has (Fld.MEMCTL_GRPSTAT_CLEARING g) = false → s.domOn 12 = true → s.get (Fld.MEMCTL_RAKESUM_SCANNED g) + 1 < 131072 →
        mergeOf s w = none → s.sramFault w = 0 → Answers (exec (.rakeStep false false 0) s) fun t =>
          t.get (Fld.MEMCTL_RAKESUM_SCANNED g) = s.get (Fld.MEMCTL_RAKESUM_SCANNED g) + 1
          ∧ RegsBut ((List.range 4).map (Reg.MEMCTL_RAKESUM g)) s t ∧ t = { s with regs := t.regs })
      ∧ ((∀ k : Fin 3, s.has (Fld.MEMCTL_GRPSTAT_RAKEWAIT k) = false) → Answers (exec (.rakeStop g) s) fun t =>
        t.sram = { s.sram with rake := none } ∧ t.get (Fld.MEMCTL_RAKESUM_STATE g) = 3 ∧ t.has (Fld.MEMCTL_GRPSTAT_RAKING g) = false
        ∧ t.has (Fld.MEMCTL_GRPCTL_STOP g) = false ∧ Fires [EV.MEMCTL_RAKEDONE g] s t
        ∧ RegsBut ([Reg.MEMCTL_GRPSTAT g, Reg.MEMCTL_GRPCTL g] ++ (List.range 4).map (Reg.MEMCTL_RAKESUM g)) s t
        ∧ t = { s with regs := t.regs, sram := t.sram, edges := t.edges }))
/-! ### Flash (chapter 23) -/

/-- Flash commands (after R495 to R513): a read answers the stored octets, or a bus error in a block whose erase is
suspended; the write of the last PDATA word starts a unit, whose end stores it; an erase is journalled, ends with every
octet 0xFF, may be suspended, resumed and abandoned; header writes and the load of the erase counts have their stated
effect. Choices of the model it rests on: notes/assumptions/60, 61. -/
def Obligations.FlashCommands : Prop :=
  ∀ (b : Fin 2) (s : State), s.flash.banks.length = 2 →
    (∀ (m : Master) (addr : Word) (z : AccessSize) (ran : Bool) (a : Nat), a = addr.toNat → s.issues m = true → isFlash a = true →
      s.reaches m a = true → a % sizeOctets z = 0 → s.domOn 7 = true →
      bankOf a = b.val → s.get (Fld.FLASHC_STAT_STATE b) ≠ 5 →
      ((s.bank b).erase = none → (s.bank b).unit = none → a / 16 * 16 ∉ s.flash.bad → blockOf a ∉ s.flash.torn → 0 < s.get Fld.FLASHC_EWTHR_THR →
        Answers (exec (.flashRead m addr z 0 ran none 0) s) fun t =>
          t.bus = .data (BitVec.ofNat 32 (s.num a (sizeOctets z))) ∧ RegsBut [Reg.FLASHC_RDSTAT b, Reg.FLASHC_STAT b] s t
          ∧ t = { s with regs := t.regs, flash := t.flash, bus := t.bus })
      ∧ (∀ (e : EraseOp), (s.bank b).erase = some e → e.susp.isSome = true → blockOf a = e.block →
        Answers (exec (.flashRead m addr z 0 ran none 0) s) fun t =>
          t.bus = .error ∧ t.rd Reg.FLASHC_SUSPERR = addr ∧ t.has Fld.FLASHC_FLAGS_SUSPERR = true
          ∧ t.get Fld.FLASHC_ERRCNT_SUSPERR = s.counted Fld.FLASHC_ERRCNT_SUSPERR ∧ Fires [EV.FLASHC_SUSPERR] s t
          ∧ RegsBut [Reg.FLASHC_SUSPERR, Reg.FLASHC_FLAGS, Reg.FLASHC_ERRCNT] s t
          ∧ t = { s with regs := t.regs, bus := t.bus, edges := t.edges }))
    ∧ (∀ (u c : Nat) (rest : List (Nat × Nat)), s.flash.warn = (u, c) :: rest → rest.length < 16 → Answers (exec .ewfifoRead s) fun t =>
        t.bus = .data (BitVec.ofNat 32 (u + 4 * c + 1)) ∧ t.flash = { s.flash with warn := rest } ∧ t.get Fld.FLASHC_EWSTAT_FILL = rest.length
        ∧ RegsBut [Reg.FLASHC_EWSTAT] s t ∧ t = { s with regs := t.regs, flash := t.flash, bus := t.bus })
    ∧ (s.flashHeld = false → (s.bank b).unit = none → (s.bank b).next = none → (s.bank b).eraseWaits = none →
      (∀ (v : Word) (a : Nat), (s.bank b).erase = none → a = (s.rd (Reg.FLASHC_ADDR b)).toNat / 16 * 16 → unitRefusal s b a = 0 →
        Answers (exec (.flashProgramUnit b v) s) fun t =>
          (t.bank b).unit = some (a, bytesLE 4 (s.rd (Reg.FLASHC_PDATA b 0)).toNat ++ bytesLE 4 (s.rd (Reg.FLASHC_PDATA b 1)).toNat ++ bytesLE 4 (s.rd (Reg.FLASHC_PDATA b 2)).toNat ++ bytesLE 4 v.toNat)
          ∧ t.get (Fld.FLASHC_STAT_STATE b) = 1 ∧ t.get (Fld.FLASHC_ADDR_UNIT b) = (a / 16 + 1) % 2 ^ 28 ∧ t.bus = .done
          ∧ RegsBut [Reg.FLASHC_PDATA b 3, Reg.FLASHC_ADDR b, Reg.FLASHC_STAT b] s t
          ∧ t = { s with regs := t.regs, flash := t.flash, bus := t.bus })
      ∧ (∀ (v : Word) (n j k : Nat), n = v.toNat / 2 ^ 10 % 2 ^ 10 → j = journalActive s b → k = s.get (Fld.FLASHC_JSTAT_USED b) →
        (eraseRefusal s b n (v.toNat / 2 ^ 24) ≠ 0 → Answers (exec (.flashErase b v) s) fun t =>
          t.get (Fld.FLASHC_STAT_LASTCODE b) = eraseRefusal s b n (v.toNat / 2 ^ 24) ∧ t.has Fld.FLASHC_FLAGS_CMDERR = true
          ∧ Fires (if eraseRefusal s b n (v.toNat / 2 ^ 24) = 0x060C then [] else [EV.FLASHC_ERR]) s t
          ∧ RegsBut [Reg.FLASHC_STAT b, Reg.FLASHC_FLAGS] s t ∧ t = { s with regs := t.regs, edges := t.edges })
        ∧ (eraseRefusal s b n (v.toNat / 2 ^ 24) = 0 → (s.bank b).headers = [] → k < 255 → s.get (Fld.FLASHC_ERASECNT_COUNT n) + 1 < s.get Fld.FLASHC_WEARTHR_THR →
          Answers (exec (.flashErase b v) s) fun t =>
            (t.bank b).erase = some { block := n } ∧ t.get (Fld.FLASHC_STAT_STATE b) = 2 ∧ t.get (Fld.FLASHC_STAT_PULSES b) = 0
            ∧ t.get (Fld.FLASHC_ERASECNT_COUNT n) = s.get (Fld.FLASHC_ERASECNT_COUNT n) + 1 ∧ t.get (Fld.FLASHC_JSTAT_USED b) = k + 1
            ∧ t.bytes (journalUnit j (1 + 2 * k)) 16 = startUnit n (s.get (Fld.FLASHC_ERASECNT_COUNT n) + 1) s.stamp
            ∧ BytesOutside (journalUnit j (1 + 2 * k)) 16 s t
            ∧ RegsBut [Reg.FLASHC_STAT b, Reg.FLASHC_JSTAT b, Reg.FLASHC_ERASECNT n] s t ∧ t = { s with regs := t.regs, mem := t.mem, flash := t.flash })))
    ∧ (∀ (a : Nat) (o : List Byte), (s.bank b).unit = some (a, o) → o.length = 16 → bankOf a = b.val → (s.bank b).next = none →
      (s.bank b).eraseWaits = none → (s.bank b).erase = none →
      (unitBlank (s.bytes a 16) = true → a ∉ s.flash.bad → Answers (exec (.flashUnitDone b false false) s) fun t =>
        t.bytes a 16 = o ∧ BytesOutside a 16 s t ∧ (t.bank b).unit = none ∧ t.get (Fld.FLASHC_STAT_STATE b) = 0
        ∧ t.get (Fld.FLASHC_STAT_LASTCODE b) = 0 ∧ Fires [EV.FLASHC_DONE b] s t ∧ RegsBut [Reg.FLASHC_STAT b] s t
        ∧ t = { s with regs := t.regs, mem := t.mem, flash := t.flash, edges := t.edges })
      ∧ (unitBlank (s.bytes a 16) = false → Answers (exec (.flashUnitDone b false false) s) fun t =>
        SameBytes s t ∧ (t.bank b).unit = none ∧ t.get (Fld.FLASHC_STAT_LASTCODE b) = 0x0603
        ∧ Fires [EV.FLASHC_ERR, EV.FLASHC_DONE b] s t ∧ RegsBut [Reg.FLASHC_STAT b, Reg.FLASHC_FLAGS] s t
        ∧ t = { s with regs := t.regs, flash := t.flash, edges := t.edges }))
    ∧ (∀ (e : EraseOp) (j k : Nat), (s.bank b).erase = some e → j = journalActive s b → k = s.get (Fld.FLASHC_JSTAT_USED b) →
      (e.susp = none → s.resetDue = false → e.pulses + 1 < 96 →
        (Answers (exec (.flashErasePulseEnd b false) s) fun t =>
          (t.bank b).erase = some { e with pulses := e.pulses + 1 } ∧ t.get (Fld.FLASHC_STAT_PULSES b) = e.pulses + 1 ∧ SameBytes s t
          ∧ RegsBut [Reg.FLASHC_STAT b] s t ∧ t = { s with regs := t.regs, flash := t.flash })
        ∧ (e.block < 516 → bankOf (blockAddr e.block) = b.val → (s.bank b).unit = none → (s.bank b).next = none → (s.bank b).eraseWaits = none →
          Answers (exec (.flashErasePulseEnd b true) s) fun t =>
            (∀ a, blockAddr e.block ≤ a → a < blockAddr e.block + 0x2000 → t.byte a = 0xFF#8)
            ∧ t.bytes (journalUnit j (2 * k)) 16 = endUnit 0 e.block (e.pulses + 1) s.stamp
            ∧ (∀ a, (a < blockAddr e.block ∨ blockAddr e.block + 0x2000 ≤ a) → (a < headerUnit e.block ∨ headerUnit e.block + 16 ≤ a) → (a < journalUnit j (2 * k) ∨ journalUnit j (2 * k) + 16 ≤ a) → t.byte a = s.byte a)
            ∧ (t.bank b).erase = none ∧ (t.bank b).headers = (s.bank b).headers ++ [(e.block, s.get (Fld.FLASHC_ERASECNT_COUNT e.block))]
            ∧ t.get (Fld.FLASHC_STAT_STATE b) = 0 ∧ t.get (Fld.FLASHC_STAT_LASTCODE b) = 0 ∧ Fires [EV.FLASHC_DONE b] s t
            ∧ RegsBut [Reg.FLASHC_STAT b] s t ∧ t = { s with regs := t.regs, mem := t.mem, flash := t.flash, edges := t.edges }))
      ∧ ((s.bank b).unit = none →
        (∀ (byTask : Bool), e.susp = none → Answers (exec (.flashSuspend b byTask) s) fun t =>
          (t.bank b).erase = some { e with susp := some .command } ∧ t.get (Fld.FLASHC_STAT_STATE b) = 3 ∧ Fires [EV.FLASHC_DONE b] s t
          ∧ (e.harvest = true → 7 ∈ t.yielded) ∧ (e.harvest = false → t.yielded = s.yielded)
          ∧ RegsBut (Reg.FLASHC_STAT b :: if e.harvest = true then [Reg.SYSCFG_BGYIELD 7] else []) s t
          ∧ t = { s with regs := t.regs, flash := t.flash, tasks := t.tasks, edges := t.edges, yielded := t.yielded })
        ∧ (∀ (byTask : Bool), e.susp.isSome = true → (s.bank b).eraseWaits = none → s.flashHeld = false → Answers (exec (.flashResume b byTask) s) fun t =>
          (t.bank b).erase = some { e with susp := none, resume := false, resumed := true } ∧ t.get (Fld.FLASHC_STAT_STATE b) = 2
          ∧ RegsBut [Reg.FLASHC_STAT b] s t ∧ t = { s with regs := t.regs, flash := t.flash, tasks := t.tasks })
        ∧ (e.susp = some .auto → (s.bank b).next = none → s.flashHeld = false → Answers (exec (.flashAutoResume b) s) fun t =>
          (t.bank b).erase = some { e with susp := none, resumed := true } ∧ t.get (Fld.FLASHC_STAT_STATE b) = 2
          ∧ RegsBut [Reg.FLASHC_STAT b] s t ∧ t = { s with regs := t.regs, flash := t.flash, yielded := t.yielded })))
    ∧ Answers (exec (.flashDiscard b) s) (fun t =>
        (∀ w : Fin 4, t.rd (Reg.FLASHC_PDATA b w) = 0) ∧ (t.bank b).partialData = false
        ∧ RegsBut (Reg.FLASHC_STAT b :: (List.range 4).map (Reg.FLASHC_PDATA b)) s t ∧ t = { s with regs := t.regs, flash := t.flash })
    ∧ (∀ (n c : Nat) (rest : List (Nat × Nat)), (s.bank b).headers = (n, c) :: rest → (s.bank b).unit = none → (s.bank b).erase = none →
      s.flashHeld = false → s.domOn 7 = true →
      (Answers (exec (.wearHeaderWrite b false) s) fun t =>
        t.bytes (headerUnit n) 16 = headerOctets c ∧ BytesOutside (headerUnit n) 16 s t ∧ (t.bank b).headers = rest
        ∧ RegsBut [Reg.FLASHC_STAT b] s t ∧ t = { s with regs := t.regs, mem := t.mem, flash := t.flash, yielded := t.yielded })
      ∧ (Answers (exec (.wearHeaderWrite b true) s) fun t =>
        6 ∈ t.yielded ∧ t.flash = s.flash ∧ SameBytes s t ∧ RegsBut [Reg.SYSCFG_BGYIELD 6] s t))
    ∧ Answers (exec .erasecntLoad s) (fun t =>
        (∀ n, n < 516 → t.get (Fld.FLASHC_ERASECNT_COUNT n) = (headerCount s n).getD 0 % 2 ^ 24
          ∧ t.has (Fld.FLASHC_ERASECNT_VALID n) = (headerCount s n).isSome)
        ∧ RegsBut ([Reg.FLASHC_STAT 0, Reg.FLASHC_STAT 1, Reg.FLASHC_JSTAT 0, Reg.FLASHC_JSTAT 1] ++ (List.range 516).map Reg.FLASHC_ERASECNT) s t
        ∧ t = { s with regs := t.regs })
/-! ### Power (chapter 25) -/

/-- Power states (after R526 to R541): a request is stored or turned away, an entry runs where no refuser is busy and
ends in its state, a wake takes its steps and ends in RUN, its timeout repeats it once and then asks for a system reset;
the crystal, excursions and the domain modes follow their rules. Choices of the model it rests on: notes/assumptions/1,
37, 38. -/
def Obligations.PowerStates : Prop :=
  ∀ (s : State),
    (∀ (v : Word), pmuBusy s = false →
      Answers (exec (.pmuStateRequest v) s) fun t =>
        (v.toNat % 8 ≤ 3 ∨ (v.toNat % 8 ≤ 5 ∧ v.toNat / 2 ^ 16 = 0x0FF5) → t.get Fld.PMU_REQ_STATE = v.toNat % 8 ∧ RegsBut [Reg.PMU_REQ] s t)
        ∧ (¬ (v.toNat % 8 ≤ 3 ∨ (v.toNat % 8 ≤ 5 ∧ v.toNat / 2 ^ 16 = 0x0FF5)) → t.get Fld.PMU_REQ_STATE = 0 ∧ t.get Fld.PMU_LASTREF_CODE = 0x0712
          ∧ t.get Fld.PMU_LASTREF_ID = 0x0F ∧ t.get Fld.PMU_LASTREF_STATE = v.toNat % 8 ∧ RegsBut [Reg.PMU_REQ, Reg.PMU_LASTREF] s t)
        ∧ t = { s with regs := t.regs })
    ∧ (∀ (debugPower periphBusy : Bool) (st : PowerState), st = codeState (s.get Fld.PMU_REQ_STATE) → s.power.state = .run → pmuBusy s = false →
      (st = .doze → fabricPending s = false → Answers (exec (.pmuEntryStart true false debugPower periphBusy) s) fun t =>
        t = { s with power := { s.power with state := .doze }, tasks := t.tasks })
      ∧ (st ≠ .run → st ≠ .doze → (refusers s st false debugPower periphBusy).find? (fun r => r.2) = none → (∀ g : Fin 3, (s.sramGrp g).merge = []) →
        Answers (exec (.pmuEntryStart true false debugPower periphBusy) s) fun t =>
          t.power = { s.power with entering := some st } ∧ t.has Fld.PMU_STAT_ENTERING = true ∧ RegsBut [Reg.PMU_STAT] s t
          ∧ t = { s with regs := t.regs, power := t.power, tasks := t.tasks })
      ∧ (∀ (id : Nat), st ≠ .run → st ≠ .doze → (refusers s st false debugPower periphBusy).find? (fun r => r.2) = some (id, true) → id < 32 →
        Answers (exec (.pmuEntryStart true false debugPower periphBusy) s) fun t =>
          t.get Fld.PMU_LASTREF_CODE = 0x0710 ∧ t.get Fld.PMU_LASTREF_ID = id ∧ t.get Fld.PMU_LASTREF_STATE = stateCode st
          ∧ t.get Fld.PMU_REQ_STATE = 0 ∧ t.get Fld.PMU_REFCNT_REFUSALS = s.counted Fld.PMU_REFCNT_REFUSALS ∧ Fires [EV.PMU_REFUSED] s t
          ∧ RegsBut [Reg.PMU_LASTREF, Reg.PMU_REQ, Reg.PMU_REFCNT] s t ∧ t = { s with regs := t.regs, edges := t.edges, tasks := t.tasks }))
    ∧ (∀ (st : PowerState), s.power.entering = some st → s.power.wakeAfter = none → s.power.wake = none → Answers (exec .pmuEntryDone s) fun t =>
        t.power.state = st ∧ t.power.entering = none ∧ t.power.wake = none
        ∧ (st ≠ .nap → t.cores.held = [true, true] ∧ t.power.xtalStarting = false) ∧ (st = .off → t.salt = {}))
    ∧ (∀ (n : Fin 4),
      (s.power.entering = none → s.power.wake = none → (s.power.state = .nap ∨ s.power.state = .sleep) → testBit' (s.get Fld.WAKE_EN_TKWAKE) n = true →
        Answers (exec (.wakeEvent (.task n) 0) s) fun t =>
          t.power = { s.power with wakeAfter := none, wake := some { from_ := s.power.state, step := wakeFirst s s.power.state, source := 0x10 + n.val } }
          ∧ t = { s with power := t.power, tasks := t.tasks })
      ∧ (∀ (st : PowerState), s.power.entering = some st → (st = .nap ∨ st = .sleep) → testBit' (s.get Fld.WAKE_EN_TKWAKE) n = true →
        (s.power.state = .run → Answers (exec (.wakeEvent (.task n) 0) s) fun t =>
          t.power = { s.power with entering := none } ∧ t.has Fld.PMU_STAT_ENTERING = false ∧ t.get Fld.PMU_LASTABT_SOURCE = 0x10 + n.val
          ∧ t.get Fld.PMU_LASTABT_STATE = stateCode st ∧ t.get Fld.PMU_REFCNT_ABORTS = s.counted Fld.PMU_REFCNT_ABORTS
          ∧ Fires [EV.PMU_ABORTED] s t ∧ RegsBut [Reg.PMU_STAT, Reg.PMU_LASTABT, Reg.PMU_REQ, Reg.PMU_REFCNT] s t
          ∧ t = { s with regs := t.regs, power := t.power, tasks := t.tasks, edges := t.edges })
        ∧ (Answers (exec (.wakeEvent (.task n) 1) s) fun t =>
          t.get Fld.PMU_CNT_LOSTWIN = s.counted Fld.PMU_CNT_LOSTWIN ∧ RegsBut [Reg.PMU_CNT] s t ∧ t = { s with regs := t.regs, tasks := t.tasks })))
    ∧ (∀ (w : WakeSeq), s.power.wake = some w →
      (w.step < 3 → w.from_ = .sleep → Answers (exec .wakeReadyStep s) fun t =>
        t.power = { s.power with wake := some { w with step := w.step + 1 }, xtalStarting := if w.step = 0 then true else s.power.xtalStarting }
        ∧ (w.step ≠ 1 → t.regs = s.regs) ∧ (w.step = 1 → t.clkSrc = 0) ∧ t = { s with regs := t.regs, power := t.power })
      ∧ (w.step = 3 → w.from_ = .nap → Answers (exec .wakeReadyStep s) fun t =>
        t.power.state = .run ∧ t.power.wake = none ∧ t.get Fld.WAKE_CAUSE_SOURCE = w.source % 256 ∧ t.get Fld.WAKE_CAUSE_STATE = 2
        ∧ t.get Fld.PMU_STAT_LAST = 2 ∧ t.get Fld.PMU_REQ_STATE = 0 ∧ t.cores.waiting = [false, false])
      ∧ (w.step = 3 → w.from_ = .sleep → Answers (exec .wakeReadyStep s) fun t =>
        t.power.state = .run ∧ t.power.wake = none ∧ t.get Fld.WAKE_CAUSE_SOURCE = w.source % 256 ∧ t.get Fld.WAKE_CAUSE_STATE = 3
        ∧ t.get Fld.PMU_STAT_LAST = 3 ∧ t.get Fld.PMU_REQ_STATE = 0)
      ∧ (w.step = 3 → w.from_ = .deep → s.domOn 1 = true → Answers (exec .wakeReadyStep s) fun t =>
        t.power = { s.power with wake := none } ∧ t.boot = { s.boot with scope := max s.boot.scope 2, causes := setBitN s.boot.causes 9 }
        ∧ t.get Fld.WAKE_CAUSE_STATE = 4 ∧ Fires [EV.PMU_WAKE] s t ∧ RegsBut [Reg.WAKE_CAUSE, Reg.PMU_STAT, Reg.PMU_REQ] s t
        ∧ t = { s with regs := t.regs, power := t.power, boot := t.boot, edges := t.edges })
      ∧ Answers (exec .wakeReadyTimeout s) (fun t =>
        t.get Fld.PMU_CNT_TIMEOUTS = s.counted Fld.PMU_CNT_TIMEOUTS
        ∧ (w.again = false → t.power = { s.power with wake := some { w with step := wakeFirst s w.from_, again := true } } ∧ t.boot = s.boot)
        ∧ (w.again = true → t.power = { s.power with wake := none } ∧ t.boot = { s.boot with wakeCode := 0x0730 + w.step, scope := max s.boot.scope 2, causes := setBitN s.boot.causes 8 })
        ∧ RegsBut [Reg.PMU_CNT] s t ∧ t = { s with regs := t.regs, power := t.power, boot := t.boot }))
    ∧ (s.power.xtalStarting = true →
      (s.domOn 1 = true → Answers (exec .xtalReady s) fun t =>
        t.clkSrc = 1 ∧ t.lfMode = false ∧ t.has Fld.PMU_STAT_XTALRDY = true ∧ t.power.xtalStarting = false ∧ Fires [EV.PMU_XTALRDY] s t
        ∧ t.tide.xtalFailed = false ∧ (s.tide.xtalFailed = true → t.get Fld.RF_REFCORR_CORR = 0)
        ∧ (s.tide.xtalFailed = false → t.rd Reg.RF_REFCORR = s.rd Reg.RF_REFCORR)
        ∧ RegsBut [Reg.TIDE_STAT, Reg.SYSCFG_CLKCFG, Reg.SYSCFG_FOSTAT, Reg.PMU_STAT, Reg.RF_REFCORR] s t
        ∧ t = { s with regs := t.regs, power := t.power, tide := t.tide, rf := t.rf, edges := t.edges })
      ∧ exec .xtalStartTimeout s = .next (xtalFail ({ s with power := { s.power with xtalStarting := false } }.unflag Fld.TIDE_STAT_LFMODE)))
    ∧ (s.power.state = .sleep → pmuBusy s = false → s.has Fld.PMU_STAT_EXC = false → s.has Fld.PMU_CFG_EXCEN = true → s.has Fld.PMU_RETCFG_LINKRET = true →
      excursionDue s = true →
      Answers (exec .excursionStart s) fun t => t.has Fld.PMU_STAT_EXC = true ∧ t.edges.getLast? = some (.producer EV.PMU_EXCIN))
    ∧ (s.has Fld.PMU_STAT_EXC = true → pmuBusy s = false → s.acts = [] → s.link.fwds = [] → dueWithin s (32000 * s.get Fld.PMU_CFG_RESLEEP) = false →
      Answers (exec .excursionEnd s) fun t =>
        t.has Fld.PMU_STAT_EXC = false ∧ t.has Fld.PMU_STAT_ENTERING = true ∧ t.get Fld.PMU_CNT_EXCURSIONS = s.counted Fld.PMU_CNT_EXCURSIONS
        ∧ t.power = { s.power with entering := some .sleep } ∧ Fires [EV.PMU_EXCOUT] s t ∧ RegsBut [Reg.PMU_STAT, Reg.PMU_CNT] s t
        ∧ t = { s with regs := t.regs, power := t.power, edges := t.edges })
    ∧ (∀ (v : Word), Answers (exec (.domctlWrite v) s) fun t =>
        (∀ k, 4 ≤ k → k ≤ 10 → t.get ⟨Reg.PMU_DOMCTL, 2 * k - 8, 2⟩ = domCode k (v.toNat / 2 ^ (2 * k - 8) % 4))
        ∧ (s.power.state = .run ∨ s.power.state = .doze → ∀ k, 4 ≤ k → k ≤ 10 →
            t.bit Reg.PMU_DOMSTAT k = (domCode k (v.toNat / 2 ^ (2 * k - 8) % 4) == 0))
        ∧ (s.power.state = .sleep ∨ s.power.state = .deep ∨ s.power.state = .off →
          RegsBut [Reg.PMU_DOMCTL] s t ∧ t = { s with regs := t.regs }))
/-! ### Reset, start and dry-pan mode (chapters 25 and 26) -/

/-- The supply, reset requests and watchdogs (after R90, R470, R542 to R546, R550, R551, R568, R569): each reset source
adds its cause and asks for its scope, and requests that are pending together merge; a kick with its key restarts the
count; a dip is flagged and counted and its end is recorded; a brown-out leaves the device held with a full reset asked
for; the switch to VBAT is counted; D1 comes up with tide time rebuilt from a valid snapshot. Choices of the model it
rests on: notes/assumptions/39, 40. -/
def Obligations.SupplyAndResetRequests : Prop :=
  ∀ (s : State),
    (∀ (c : Instr) (scope bit : Nat), ((c = .resetnPin ∧ scope = 2 ∧ bit = 2) ∨ (c = .debugResetRequest ∧ scope = 2 ∧ bit = 6 ∧ s.get Fld.KEYSTORE_STAT_GL ≤ 1)
        ∨ (c = .rstreqWarm ∧ scope = 1 ∧ bit = 18) ∨ (c = .cwdtExpiry ∧ scope = 1 ∧ bit = 16 ∧ s.has Fld.SYSCFG_CWDTCFG_EN = true
          ∧ 32000 * s.get Fld.SYSCFG_CWDTCFG_TIMEOUT ≤ cwdtCount s)) →
      exec c s = .next { s with boot := { s.boot with scope := max s.boot.scope scope, causes := setBitN s.boot.causes bit } })
    ∧ (2 ≤ s.get Fld.KEYSTORE_STAT_GL → exec .debugResetRequest s = .next s)
    ∧ (∀ (clr : Bool),
      exec (.rstreqSystem clr) s = .next { s with boot := { s.boot with scope := max s.boot.scope 2, causes := setBitN s.boot.causes 4, clrfs := s.boot.clrfs || clr } }
      ∧ exec (.rstreqFull clr) s = .next { s with boot := { s.boot with scope := max s.boot.scope 3, causes := setBitN s.boot.causes 5, clrfs := s.boot.clrfs || clr } })
    ∧ (s.has Fld.SYSCFG_FOSTAT_LOCKSTEP = true → testBit' s.boot.causes 17 = false → Answers (exec .lockstepMismatch s) fun t =>
        t.boot = { s.boot with scope := max s.boot.scope 1, causes := setBitN s.boot.causes 17 }
        ∧ t = { s with regs := t.regs, boot := t.boot, life := t.life })
    ∧ (∀ (v : Word),
      exec (.cwdtKick v) s = .next (if v.toNat % 2 ^ 16 = 0x4B1C then { s with boot := { s.boot with cwdtFrom := s.elapsed, cwdtRan := 0 } } else s)
      ∧ (v.toNat % 2 ^ 16 ≠ 0xA11E → exec (.lwdtKick v) s = .next s)
      ∧ (v.toNat % 2 ^ 16 = 0xA11E → s.has Fld.LWDT_CFG_EN = true → Answers (exec (.lwdtKick v) s) fun t =>
        t.get Fld.LWDT_STAT_REMAIN = s.get Fld.LWDT_CFG_TIMEOUT ∧ t.get Fld.LWDT_STAT_EXPIRIES = s.get Fld.LWDT_STAT_EXPIRIES
        ∧ RegsBut [Reg.LWDT_STAT] s t ∧ t = { s with regs := t.regs }))
    ∧ (s.has Fld.LWDT_CFG_EN = true → s.get Fld.LWDT_STAT_REMAIN = 0 → Answers (exec .lwdtExpiry s) fun t =>
        t.get Fld.LWDT_STAT_REMAIN = 0 ∧ t.get Fld.LWDT_STAT_EXPIRIES = s.counted Fld.LWDT_STAT_EXPIRIES
        ∧ t.boot = { s.boot with scope := max s.boot.scope 2, causes := setBitN s.boot.causes 3 }
        ∧ t = { s with regs := t.regs, boot := t.boot, life := t.life })
    ∧ (s.domOn 1 = false → Answers (exec .powerOn s) fun t =>
        t.boot = { s.boot with scope := max s.boot.scope 3, causes := setBitN s.boot.causes 0 } ∧ t.power.wake = none
        ∧ t.power.xtalStarting = true ∧ t.has Fld.LIFE_STAT_LOADING = true ∧ SameBytes s t)
    ∧ (s.domOn 1 = true → s.has Fld.SUPMON_STAT_DIP = false → Answers (exec .supplyDipStart s) fun t =>
      t.has Fld.SUPMON_STAT_DIP = true ∧ t.has Fld.SUPMON_FLAGS_DIP = true ∧ t.get Fld.SUPMON_DIPCNT_DIPS = s.counted Fld.SUPMON_DIPCNT_DIPS
      ∧ Fires [EV.PMU_SUPWARN] s t ∧ t = { s with regs := t.regs, life := t.life, edges := t.edges })
    ∧ (∀ (least : BitVec 9) (dur : BitVec 16), s.has Fld.SUPMON_STAT_DIP = true → s.flash.banks = [{}, {}] → s.boot.goodWaits = false →
      Answers (exec (.supplyDipEnd least dur) s) fun t =>
        t.has Fld.SUPMON_STAT_DIP = false ∧ t.get Fld.SUPMON_DIPLAST_MIN = least.toNat ∧ t.get Fld.SUPMON_DIPLAST_DURATION = dur.toNat
        ∧ Fires [EV.PMU_SUPOK] s t ∧ t = { s with regs := t.regs, life := t.life, edges := t.edges })
    ∧ (s.domOn 1 = true →
      (Answers (exec (.brownOut true) s) fun t =>
        t.boot = { phase := .held, scope := 3, causes := 2 } ∧ t.cores = { held := [true, true] } ∧ t.has Fld.SUPMON_FLAGS_BOR = true ∧ t.salt = {})
      ∧ (Answers (exec (.brownOut false) s) fun t =>
        t.boot = { phase := .held, scope := 3 } ∧ t.cores = { held := [true, true] } ∧ t.has Fld.SUPMON_FLAGS_BOR = false ∧ t.salt = {}
        ∧ t.backup = {} ∧ t.snapshot = {} ∧ t.has Fld.KEYSTORE_STAT_ROOTOK = false))
    ∧ (s.domOn 1 = true → s.has Fld.SUPMON_STAT_VBATSRC = false → Answers (exec (.vbatSwitch true) s) fun t =>
        t.has Fld.SUPMON_STAT_VBATSRC = true ∧ t.has Fld.SUPMON_FLAGS_VBATSW = true ∧ t.get Fld.SUPMON_DIPCNT_VBATSW = s.counted Fld.SUPMON_DIPCNT_VBATSW
        ∧ t = { s with regs := t.regs, life := t.life })
    ∧ (s.domOn 1 = false → Answers (exec .d1PowerUp s) fun t =>
        t.tide.acc = (if s.snapshot.valid then s.snapshot.now * 2 ^ 32 + (s.backup.lfCount - s.snapshot.lfCount) * s.snapshot.lfinc.toNat * 2 ^ 16 else 0)
        ∧ t.snapshot = { s.snapshot with valid := false } ∧ t.power.xtalStarting = true ∧ t.has Fld.LIFE_STAT_LOADING = true
        ∧ t.life.restore = (if s.snapshot.valid then some s.kept.life else none) ∧ t.edges = [] ∧ t.tasks = [] ∧ SameBytes s t)

/-- Resets and the start (after R471, R549, R557 to R567): a restart of the pending scope takes effect where nothing
holds it and leaves no request; the ROM starts the firmware of a slot that passes its checks, or enters dry-pan mode; a
confirmed start leaves a GOOD unit; dry-pan mode sends its beacon and obeys a command to it. Choices of the model it
rests on: notes/assumptions/32, 34, 35, 36, 41. -/
def Obligations.ResetsAndStart : Prop :=
  ∀ (s : State),
    (s.boot.scope = 1 → resetHeld 1 s = false → s.keys.glErase = false → Answers (exec .warmRestart s) fun t =>
      t.boot.scope = 0 ∧ t.boot.causes = 0 ∧ t.cores.held = [false, !s.has Fld.SYSCFG_CPUCTL_LSREQ] ∧ t.cores.waiting = [false, false]
      ∧ t.get Fld.SYSCFG_RSTCAUSE_WARM = s.boot.causes / 2 ^ 16 % 8 ∧ t.has Fld.SYSCFG_CPUCTL_CPU1RUN = false
      ∧ (∀ x w : Fin 8, t.rd (Reg.CIPHER_KEY x w) = 0)
      ∧ (∀ n : Fin 32, t.get (Fld.MEMCTL_SEM_OWNER n) ≠ 0x0B ∧ t.get (Fld.MEMCTL_SEM_OWNER n) ≠ 0x0C))
    ∧ (∀ (full : Bool), s.boot.scope = (if full then 3 else 2) → resetHeld s.boot.scope s = false →
      Answers (exec (if full then .fullReset false else .systemReset false) s) fun t =>
        t.boot.phase = .rom ∧ t.boot.scope = 0 ∧ t.boot.causes = 0 ∧ t.cores.held = [false, true] ∧ nth 0 t.cores.start 0 = 0x01000000
        ∧ t.rd Reg.SYSCFG_RSTCAUSE = BitVec.ofNat 32 s.boot.causes ∧ t.has Fld.LWDT_CFG_EN = false ∧ t.has Fld.LWDT_CFG_LOCK = false
        ∧ t.has Fld.LIFE_STAT_BUSY = false ∧ t.keys.glErase = false ∧ t.keys.passWaits = true)
    ∧ (∀ (ticks : Word), romRuns s = true → s.domOn 7 = true → (∀ b : Fin 2, s.get (Fld.FLASHC_STAT_STATE b) ≠ 5 ∧ (journalFind s b).map (journalUsed s) = some 0) →
      markerPresent s = false → s.boot.clrfs = false → bootUnits s = [] → s.committed = false →
      (s.get Fld.KEYSTORE_STAT_LC = 4 → Answers (exec (.bootSequence ticks) s) fun t =>
        t.boot.phase = .dryPan ∧ t.get Fld.SYSCFG_BOOTREP_RESULT = 0x0833 ∧ t.has Fld.SYSCFG_BOOTREP_DRYPAN = true
        ∧ t.rd (Reg.SYSCFG_BOOTREP 12) = ticks)
      ∧ (s.get Fld.KEYSTORE_STAT_LC ≤ 1 → 0 < s.recovery.limit → 0 < s.recovery.switchat → firmwareCode s s.pointers.active = 0 →
        (if s.pointers.active = 0 then s.pointers.salta else s.pointers.saltb) = 0xFFFFFFFF → Answers (exec (.bootSequence ticks) s) fun t =>
          t.boot.phase = .firmware ∧ t.boot.slot = s.pointers.active ∧ t.boot.entry = s.num (slotBase s.pointers.active + 0x10) 4
          ∧ t.boot.version = s.num (slotBase s.pointers.active + 0x0C) 4 ∧ nth 0 t.cores.start 0 = t.boot.entry
          ∧ t.get Fld.SYSCFG_BOOTREP_RESULT = 0 ∧ t.get Fld.SYSCFG_BOOTREP_SLOT = s.pointers.active
          ∧ t.bytes (bootUnitAddr 0) 16 = bootUnit s 0xA7 s.pointers.active 0 t.boot.version ∧ BytesOutside (bootUnitAddr 0) 16 s t
          ∧ t.has Fld.LWDT_CFG_EN = true ∧ t.get Fld.LWDT_CFG_TIMEOUT = s.recovery.lwdt))
    ∧ (s.boot.phase = .firmware → s.has Fld.SYSCFG_BOOTOK_OK = false → s.flashHeld = false → (bootUnits s).length < 512 →
      Answers (exec .bootokConfirm s) fun t =>
        t.has Fld.SYSCFG_BOOTOK_OK = true ∧ t.bytes (bootUnitAddr (bootUnits s).length) 16 = bootUnit s 0xC9 s.boot.slot 0 s.boot.version
        ∧ BytesOutside (bootUnitAddr (bootUnits s).length) 16 s t ∧ RegsBut [Reg.SYSCFG_BOOTOK, Reg.FLASHC_STAT 1] s t
        ∧ t = { s with regs := t.regs, mem := t.mem, flash := t.flash, boot := { s.boot with goodWaits := false } })
    ∧ (∀ (clear : Bool) (mV k t64 : Nat), s.boot.phase = .dryPan → s.boot.scope < 2 → beaconBand s s.recovery = some k →
      beaconCode s k (beaconAirtime s.recovery) clear = 0 → rxRefCode s = 0 → t64 = s.now + 3 * tsym s.recovery.mode →
      Answers (exec (.drypanBeacon clear mV) s) fun t =>
        t.boot = { s.boot with beaconT40 := some (t64 % 2 ^ 40), beacon := beaconPsdu s s.recovery t64 } ∧ SameBytes s t
        ∧ t.edges.getLast? = some (.producer (EV.LANE_RXOFF 0)))
    ∧ (∀ (p : List Byte), s.boot.phase = .dryPan → s.boot.beaconT40.isSome = true → s.boot.scope < 2 →
      (recoveryOk s p = false → exec (.recoveryCommand p) s = .next (bootNote 0x0809 s))
      ∧ (recoveryOk s p = true → eb p 1 = 0xFF → (bootUnits s).length < 512 → Answers (exec (.recoveryCommand p) s) fun t =>
        t.boot = { s.boot with scope := 2, causes := setBitN s.boot.causes 4 } ∧ eb (t.bytes (bootUnitAddr (bootUnits s).length) 16) 0 = 0x5E
        ∧ crcUnitOk (t.bytes (bootUnitAddr (bootUnits s).length) 16) = true ∧ BytesOutside (bootUnitAddr (bootUnits s).length) 16 s t))
/-! ### Peripherals and the host port (chapter 19) -/

/-- GPIO_SET, GPIO_CLR, GPIO_TGL and GPIO_EDGE (after R574): the pad's GPIO_OUT bit is set, cleared, toggled, and a pad
that drives shows it at its own input; a level that comes from outside stands in GPIO_IN, and EV_GPIO_EDGEp fires where
the level changed and GPIO_EDGE[p] selects that direction: bit 0 rising, bit 1 falling. -/
def Obligations.PadTasksAndEdges : Prop :=
  ∀ (pad : Fin 64) (s : State),
    (∀ (c : Instr) (b : Bool), (c = .gpioSet pad ∧ b = true) ∨ (c = .gpioClr pad ∧ b = false)
        ∨ (c = .gpioTgl pad ∧ b = !s.bit (Reg.GPIO_OUT (pad.val / 32)) (pad.val % 32)) →
      Answers (exec c s) fun t =>
        t.bit (Reg.GPIO_OUT (pad.val / 32)) (pad.val % 32) = b
        ∧ (∀ k, k < 32 → k ≠ pad.val % 32 → t.bit (Reg.GPIO_OUT (pad.val / 32)) k = s.bit (Reg.GPIO_OUT (pad.val / 32)) k)
        ∧ (padDrives s pad.val = true → t.bit (Reg.GPIO_IN (pad.val / 32)) (pad.val % 32) = b)
        ∧ (padDrives s pad.val = false →
            t.rd (Reg.GPIO_IN (pad.val / 32)) = s.rd (Reg.GPIO_IN (pad.val / 32)) ∧ t.edges = s.edges)
        ∧ RegsBut [Reg.GPIO_OUT (pad.val / 32), Reg.GPIO_IN (pad.val / 32)] s t
        ∧ t = { s with regs := t.regs, edges := t.edges, tasks := t.tasks })
    ∧ (∀ (high : Bool), s.domOn 12 = true → padDrives s pad.val = false →
      Answers (exec (.gpioEdge pad high) s) fun t =>
        t.bit (Reg.GPIO_IN (pad.val / 32)) (pad.val % 32) = high
        ∧ Fires (if s.bit (Reg.GPIO_IN (pad.val / 32)) (pad.val % 32) != high
              && (s.get (Fld.GPIO_EDGE_EDGE pad.val)).testBit (if high then 0 else 1)
            then [EV.GPIO_EDGE pad.val] else []) s t
        ∧ RegsBut [Reg.GPIO_IN (pad.val / 32)] s t
        ∧ t = { s with regs := t.regs, edges := t.edges })

/-- The timers (R578): START sets the count to 0 and runs the timer, running or not; at CMP EV_TMRn_CMP fires and, with
ONESHOT = 1, the timer stops; a wrap fires EV_TMRn_OVF; CAP copies the count to TMR_CAPT and fires EV_TMRn_CAP. -/
def Obligations.TimerRules : Prop :=
  ∀ (n : Fin 4) (count : Word) (s : State),
    Answers (exec (.tmrStart n) s) (fun t =>
      t.get (Fld.TMR_COUNT_VAL n) = 0 ∧ t.per.tmrRunning = setNth s.per.tmrRunning n true ∧ t.edges = s.edges
      ∧ RegsBut [Reg.TMR_COUNT n] s t ∧ t = { s with regs := t.regs, per := t.per, tasks := t.tasks })
    ∧ Answers (exec (.tmrCapture n count) s) (fun t =>
      t.get (Fld.TMR_CAPT_VAL n) = (if s.tmrRuns n then count.toNat else s.get (Fld.TMR_COUNT_VAL n))
      ∧ Fires [EV.TMR_CAP n] s t ∧ RegsBut [Reg.TMR_COUNT n, Reg.TMR_CAPT n] s t
      ∧ t = { s with regs := t.regs, per := t.per, tasks := t.tasks, edges := t.edges })
    ∧ (s.tmrRuns n = true →
      Answers (exec (.tmrCompare n) s) (fun t =>
        t.per.tmrRunning = setNth s.per.tmrRunning n (!s.has (Fld.TMR_CFG_ONESHOT n))
        ∧ t.get (Fld.TMR_COUNT_VAL n) = s.get (Fld.TMR_CMP_VAL n) ∧ Fires [EV.TMR_CMP n] s t
        ∧ RegsBut [Reg.TMR_COUNT n] s t ∧ t = { s with regs := t.regs, per := t.per, edges := t.edges })
      ∧ Answers (exec (.tmrOverflow n) s) (fun t =>
        t.get (Fld.TMR_COUNT_VAL n) = 0 ∧ t.per.tmrRunning = setNth s.per.tmrRunning n true ∧ Fires [EV.TMR_OVF n] s t
        ∧ RegsBut [Reg.TMR_COUNT n] s t ∧ t = { s with regs := t.regs, per := t.per, edges := t.edges })
      ∧ Answers (exec (.tmrStop n count) s) (fun t =>
        t.get (Fld.TMR_COUNT_VAL n) = count.toNat ∧ t.per.tmrRunning = setNth s.per.tmrRunning n false
        ∧ t.edges = s.edges ∧ RegsBut [Reg.TMR_COUNT n] s t
        ∧ t = { s with regs := t.regs, per := t.per, tasks := t.tasks }))

/-- The ADC (after R579): a start converts the channels of ADC_CFG.CHANS in ascending order; a result goes into the
FIFO, or, where that is full, is discarded with OVF; after the last channel EV_ADC_DONE fires; a read pops the oldest
result. Choices of the model it rests on: notes/assumptions/56. -/
def Obligations.AdcSequence : Prop :=
  ∀ (s : State),
    (s.has Fld.ADC_CFG_EN = true → s.per.adcRunning = false → bitsOf 11 (s.get Fld.ADC_CFG_CHANS) ≠ [] →
      Answers (exec .adcStart s) fun t =>
        t.per = { s.per with adcRunning := true, adcTodo := bitsOf 11 (s.get Fld.ADC_CFG_CHANS) }
        ∧ t = { s with per := t.per, tasks := t.tasks })
    ∧ (∀ (r : BitVec 12) (c : Nat) (todo : List Nat), s.per.adcTodo = c :: todo →
      Answers (exec (.adcConversionDone r) s) fun t =>
        t.per.adcTodo = todo ∧ t.per.adcRunning = !todo.isEmpty
        ∧ t.per.adcFifo = (if 8 ≤ s.per.adcFifo.length then s.per.adcFifo else s.per.adcFifo ++ [(c, r.toNat)])
        ∧ (8 ≤ s.per.adcFifo.length → t.has Fld.ADC_FLAGS_OVF = true)
        ∧ (EV.ADC_DONE ∈ (t.edges.drop s.edges.length).filterMap Edge.source ↔ todo = [])
        ∧ RegsBut [Reg.ADC_FLAGS] s t ∧ t = { s with regs := t.regs, per := t.per, edges := t.edges })
    ∧ (s.per.adcRunning = true →
      Answers (exec .adcStop s) fun t =>
        t.per = { s.per with adcRunning := false, adcTodo := [] } ∧ Fires [EV.ADC_DONE] s t
        ∧ t = { s with per := t.per, tasks := t.tasks, edges := t.edges })
    ∧ (∀ (c r : Nat) (rest : List (Nat × Nat)), s.per.adcFifo = (c, r) :: rest →
      Answers (exec .adcResultRead s) fun t =>
        t.bus = .data (BitVec.ofNat 32 (2 ^ 31 + c * 2 ^ 16 + r)) ∧ t.per = { s.per with adcFifo := rest }
        ∧ t = { s with per := t.per, bus := t.bus })

/-- The UARTs: a character pushed or received goes to the end of its FIFO and the fill level follows; a received
character with an error, or one that finds the FIFO full, sets its flag and fires EV_UARTn_ERR instead; a read pops the
oldest. Choices of the model it rests on: notes/assumptions/14, 56. -/
def Obligations.UartCharacters : Prop :=
  ∀ (n : Fin 3) (ch : Byte) (s : State),
    ((nth [] s.per.uartTx n).length < 16 →
      Answers (exec (.uartTxPush n 0 (ch.setWidth 32)) s) fun t =>
        t.per = { s.per with uartTx := setNth s.per.uartTx n (nth [] s.per.uartTx n ++ [ch]) }
        ∧ t.get (Fld.UART_STAT_TXFILL n) = (nth [] s.per.uartTx n).length + 1
        ∧ RegsBut [Reg.UART_STAT n] s t ∧ t = { s with regs := t.regs, per := t.per })
    ∧ Answers (exec (.uartTxdone n) s) (fun t =>
        t.per = { s.per with uartTx := setNth s.per.uartTx n [] } ∧ t.get (Fld.UART_STAT_TXFILL n) = 0
        ∧ Fires [EV.UART_TXDONE n] s t ∧ RegsBut [Reg.UART_STAT n] s t
        ∧ t = { s with regs := t.regs, per := t.per, edges := t.edges })
    ∧ (s.has (Fld.UART_CFG_EN n) = true →
      ((nth [] s.per.uartRx n).length < 16 →
        Answers (exec (.uartRxChar n ch false false) s) fun t =>
          t.per = { s.per with uartRx := setNth s.per.uartRx n (nth [] s.per.uartRx n ++ [ch]) }
          ∧ t.get (Fld.UART_STAT_RXFILL n) = (nth [] s.per.uartRx n).length + 1
          ∧ Fires [EV.UART_RXRDY n] s t ∧ RegsBut [Reg.UART_STAT n] s t
          ∧ t = { s with regs := t.regs, per := t.per, edges := t.edges })
      ∧ (∀ (p f : Bool), p = true ∨ f = true ∨ 16 ≤ (nth [] s.per.uartRx n).length →
        Answers (exec (.uartRxChar n ch p f) s) fun t =>
          t.has (if f then Fld.UART_FLAGS_FRAME n else if p then Fld.UART_FLAGS_PARITY n else Fld.UART_FLAGS_OVR n) = true
          ∧ Fires [EV.UART_ERR n] s t ∧ RegsBut [Reg.UART_FLAGS n] s t
          ∧ t = { s with regs := t.regs, edges := t.edges }))
    ∧ (∀ rest, nth [] s.per.uartRx n = ch :: rest → rest.length < 16 →
      Answers (exec (.uartRxPop n) s) fun t =>
        t.bus = .data (ch.setWidth 32) ∧ t.per = { s.per with uartRx := setNth s.per.uartRx n rest }
        ∧ t.get (Fld.UART_STAT_RXFILL n) = rest.length
        ∧ RegsBut [Reg.UART_STAT n] s t ∧ t = { s with regs := t.regs, per := t.per, bus := t.bus })
    ∧ Answers (exec (.uartRxTimeout n) s) (fun t =>
        t.has (Fld.UART_FLAGS_TIMEOUT n) = true ∧ RegsBut [Reg.UART_FLAGS n] s t ∧ t = { s with regs := t.regs })

/-- SPIM and I2C: a start sets BUSY where the controller is enabled; the end of a transfer clears it, moves the octets
between the FIFOs and the bus and fires DONE; an address or octet not acknowledged sets NACK and fires EV_I2Cn_NACK.
Choices of the model it rests on: notes/assumptions/14, 64. -/
def Obligations.SerialTransfers : Prop :=
  ∀ (n : Fin 2) (s : State),
    (s.has (Fld.SPIM_CFG_EN n) = true →
      Answers (exec (.spimStart n) s) fun t =>
        t.has (Fld.SPIM_STAT_BUSY n) = true ∧ RegsBut [Reg.SPIM_STAT n] s t ∧ t = { s with regs := t.regs, tasks := t.tasks })
    ∧ (∀ miso : List Byte, s.has (Fld.SPIM_STAT_BUSY n) = true →
      Answers (exec (.spimDone n miso) s) fun t =>
        t.has (Fld.SPIM_STAT_BUSY n) = false ∧ Fires [EV.SPIM_DONE n] s t
        ∧ t.per.spiOut = setNth s.per.spiOut n ((nth [] s.per.spiTx n).take (s.get (Fld.SPIM_LEN_LEN n)))
        ∧ t.per.spiTx = setNth s.per.spiTx n ((nth [] s.per.spiTx n).drop (s.get (Fld.SPIM_LEN_LEN n)))
        ∧ RegsBut [Reg.SPIM_STAT n] s t ∧ t = { s with regs := t.regs, per := t.per, edges := t.edges })
    ∧ (s.has (Fld.I2C_CFG_EN n) = true →
      Answers (exec (.i2cStart n) s) fun t =>
        t.has (Fld.I2C_STAT_BUSY n) = true ∧ t.has (Fld.I2C_STAT_NACK n) = false
        ∧ RegsBut [Reg.I2C_STAT n] s t ∧ t = { s with regs := t.regs, tasks := t.tasks })
    ∧ (∀ (nack : Bool) (sent : Fin 17) (data : List Byte), s.has (Fld.I2C_STAT_BUSY n) = true →
      Answers (exec (.i2cDone n nack sent data) s) fun t =>
        t.has (Fld.I2C_STAT_BUSY n) = false ∧ (nack = true → t.has (Fld.I2C_STAT_NACK n) = true)
        ∧ Fires [if nack then EV.I2C_NACK n else EV.I2C_DONE n] s t
        ∧ (s.has (Fld.I2C_CFG_READ n) = true → t.per.i2cRx = setNth s.per.i2cRx n
            ((nth [] s.per.i2cRx n ++ data.take (if nack then sent.val else s.get (Fld.I2C_LEN_LEN n))).take 16))
        ∧ RegsBut [Reg.I2C_STAT n] s t ∧ t = { s with regs := t.regs, per := t.per, edges := t.edges })

/-- CAN (after R591, R592): while it takes part in the bus a frame sent leaves its stamp in its buffer header and its
TXDONE bit, and a frame received goes into the lowest matching buffer that is empty; a request sets bits of CAN_TXREQ,
an abort withdraws those that no arbitration holds; a protocol error is recorded and fires EV_CAN_ERR; TEC past 255
stops the controller; ABOM brings it back. Choices of the model it rests on: notes/assumptions/57. -/
def Obligations.CanCommands : Prop :=
  ∀ (s : State),
    (s.canOn = true →
    (∀ (buf : Fin 32) (stamp : Word) (tec : BitVec 8), canMaySend s buf = true →
      Answers (exec (.canTxDone buf stamp tec) s) fun t =>
        t.word (canBuf buf + 4) = stamp ∧ t.bit Reg.CAN_TXREQ buf = false ∧ t.bit Reg.CAN_TXDONE buf = true
        ∧ t.get Fld.CAN_STAT_TEC = tec.toNat ∧ Fires [EV.CAN_TX] s t
        ∧ t.per = { s.per with canNew := 0 }
        ∧ (s.has Fld.CAN_CTL_TDCEN = false → t.rd Reg.CAN_TDC = s.rd Reg.CAN_TDC ∧ t.freeCounter = s.freeCounter)
        ∧ BytesOutside (canBuf buf + 4) 4 s t
        ∧ RegsBut [Reg.CAN_TXREQ, Reg.CAN_TXDONE, Reg.CAN_STAT, Reg.CAN_FLAGS, Reg.CAN_TDC] s t
        ∧ t = { s with regs := t.regs, mem := t.mem, edges := t.edges, per := t.per, freeCounter := t.freeCounter })
    ∧ (∀ (word0 stamp : Word) (dlc : Fin 16) (brs esi : Bool) (data : List Byte) (rec : BitVec 8) (b : Nat),
      ((List.range 32).filter (canMatches s word0.toNat)).find? (fun k => !s.bit Reg.CAN_RXFULL k) = some b →
      Answers (exec (.canFrameRx word0 dlc brs esi data stamp rec) s) fun t =>
        t.word (canBuf b) = word0 ∧ t.word (canBuf b + 4) = stamp
        ∧ t.bytes (canBuf b + 8) (data.take 64).length = data.take 64
        ∧ t.get (Fld.CAN_BUFCTL_DLC b) = dlc.val ∧ t.bit Reg.CAN_RXFULL b = true ∧ Fires [EV.CAN_RX] s t
        ∧ BytesOutside (canBuf b) 72 s t
        ∧ RegsBut [Reg.CAN_RXFULL, Reg.CAN_BUFCTL b, Reg.CAN_STAT, Reg.CAN_FLAGS] s t
        ∧ t = { s with regs := t.regs, mem := t.mem, edges := t.edges }))
    ∧ (∀ (byTask : Bool) (v : Word),
      Answers (exec (.canTxreq byTask v) s) fun t =>
        t.rd Reg.CAN_TXREQ = s.rd Reg.CAN_TXREQ ||| (if byTask then s.rd Reg.CAN_TRIGMASK else v)
        ∧ t.per = { s.per with canNew := if s.rd Reg.CAN_TXREQ = 0 then s.per.canNew
            else s.per.canNew ||| (if byTask then s.rd Reg.CAN_TRIGMASK else v) }
        ∧ RegsBut [Reg.CAN_TXREQ] s t ∧ t = { s with regs := t.regs, tasks := t.tasks, per := t.per })
    ∧ (∀ (v : Word),
      Answers (exec (.canTxabort v none) s) fun t =>
        t.rd Reg.CAN_TXREQ = s.rd Reg.CAN_TXREQ &&& ~~~v
        ∧ (s.rd Reg.CAN_TXREQ &&& v ≠ 0 → t.has Fld.CAN_FLAGS_TXABORT = true)
        ∧ RegsBut [Reg.CAN_TXREQ, Reg.CAN_FLAGS] s t ∧ t = { s with regs := t.regs })
    ∧ (s.canOn = true →
      (∀ (ty : Fin 7) (tec rec : BitVec 8),
        Answers (exec (.canProtocolError ty tec rec) s) fun t =>
          t.get Fld.CAN_STAT_LASTERR = ty.val ∧ t.get Fld.CAN_STAT_TEC = tec.toNat ∧ t.get Fld.CAN_STAT_REC = rec.toNat
          ∧ t.get Fld.CAN_ERRCNT_PROTERRS
              = min (s.get Fld.CAN_ERRCNT_PROTERRS + 1) (2 ^ Fld.CAN_ERRCNT_PROTERRS.width - 1)
          ∧ Fires [EV.CAN_ERR] s t ∧ RegsBut [Reg.CAN_STAT, Reg.CAN_FLAGS, Reg.CAN_ERRCNT] s t
          ∧ t = { s with regs := t.regs, edges := t.edges })
      ∧ Answers (exec .canBusOff s) (fun t =>
          t.has Fld.CAN_CTL_INIT = true ∧ t.canOn = false ∧ t.get Fld.CAN_STAT_STATE = 2 ∧ t.has Fld.CAN_FLAGS_BUSOFF = true
          ∧ Fires [EV.CAN_BUSOFF] s t ∧ RegsBut [Reg.CAN_CTL, Reg.CAN_STAT, Reg.CAN_FLAGS, Reg.CAN_ERRCNT] s t
          ∧ t = { s with regs := t.regs, edges := t.edges }))
    ∧ (s.get Fld.CAN_STAT_STATE = 2 → s.has Fld.CAN_CTL_ABOM = true → s.has Fld.CAN_CTL_EN = true →
      Answers (exec .canBusoffRecovery s) fun t =>
        t.has Fld.CAN_CTL_INIT = false ∧ RegsBut [Reg.CAN_CTL, Reg.CAN_STAT] s t ∧ t = { s with regs := t.regs })
/-! ### The host port, the lifetime block and the bus (chapters 1, 24 and 27) -/

/-- Host transactions, mailbox bits and the lifetime block (after R583 to R590, R594 to R599): a host write of one word
reaches SRAM, a read answers LINK RAM after the status octet and six zeros; a harvest is requested, started and
programmed unit by unit; seconds, temperatures and loading are counted as Table LIFE-1 says. Choices of the model it
rests on: notes/assumptions/13, 19, 62. -/
def Obligations.HostAndLifetime : Prop :=
  ∀ (s : State),
    (∀ (a : Nat) (d : List Byte) (n : Nat), s.domOn 12 = true → s.has Fld.HOSTP_CFG_EN = true → a < 2 ^ 32 → d.length = 4 → sramBars s .host a .word = false →
      s.has (Fld.MEMCTL_GRPSTAT_CLEARING (sramGroup a)) = false → (s.sramGrp (sramGroup a)).merge = [] → (s.sramGrp (sramGroup a)).writeback = none → s.sram.groups.length = 3 →
      Answers (exec (.hostTransaction (0x02#8 :: bytesBE 4 a ++ d) n) s) fun t =>
        t.bytes a 4 = d ∧ BytesOutside a 4 s t ∧ t.get Fld.HOSTP_CNT_TRANS = s.counted Fld.HOSTP_CNT_TRANS
        ∧ t.per.miso = BitVec.ofNat 8 (hostStatus (s.fire EV.HOSTP_CSFALL)) :: List.replicate 8 0#8 ∧ Fires [EV.HOSTP_CSFALL] s t)
    ∧ (∀ (a n : Nat), s.domOn 12 = true → s.domOn 11 = true → s.has Fld.HOSTP_CFG_EN = true → 0x28000000 ≤ a → a < 0x28020000 → a % 4 = 0 →
      Answers (exec (.hostTransaction (0x0B#8 :: bytesBE 4 a ++ List.replicate 6 0#8) (n + 1)) s) fun t =>
        t.per.miso = BitVec.ofNat 8 (hostStatus (s.fire EV.HOSTP_CSFALL)) :: (List.replicate 6 0#8 ++ s.bytes a 4) ∧ SameBytes s t
        ∧ t.get Fld.HOSTP_CNT_TRANS = s.counted Fld.HOSTP_CNT_TRANS ∧ Fires [EV.HOSTP_CSFALL] s t ∧ RegsBut [Reg.HOSTP_CNT, Reg.HOSTP_IRQSTAT] s t)
    ∧ (∀ (m : Master) (v : Word) (up down : Nat), s.issues m = true → up = hostSlots s (v.toNat % 2 ^ 16) &&& s.get Fld.HOSTP_MBDIR_TOHOST →
      down = hostSlots s (v.toNat / 2 ^ 16) &&& (2 ^ 16 - 1 - s.get Fld.HOSTP_MBDIR_TOHOST) → Answers (exec (.hostMbset m v) s) fun t =>
        t.get Fld.HOSTP_MBTOHOST_FULL = s.get Fld.HOSTP_MBTOHOST_FULL ||| up ∧ t.get Fld.HOSTP_MBTODEV_FULL = s.get Fld.HOSTP_MBTODEV_FULL ||| down
        ∧ SameBytes s t ∧ t = { s with regs := t.regs, edges := t.edges })
    ∧ Answers (exec .hostpIrqTask s) (fun t =>
        t.has Fld.HOSTP_IRQSTAT_SW = true ∧ RegsBut [Reg.HOSTP_IRQSTAT] s t ∧ t = { s with regs := t.regs, tasks := t.tasks })
    ∧ (∀ (req : Bool), (req = true ∨ s.has Fld.LIFE_CFG_EN = true) → s.has Fld.LIFE_STAT_PEND = false → Answers (exec (.harvestDue req) s) fun t =>
        t.has Fld.LIFE_STAT_PEND = true ∧ t.life = { s.life with requested := req } ∧ RegsBut [Reg.LIFE_STAT, Reg.LIFE_CTL] s t
        ∧ t = { s with regs := t.regs, life := t.life })
    ∧ (∀ (slot : Nat), s.has Fld.LIFE_STAT_PEND = true → s.has Fld.LIFE_STAT_BUSY = false → s.has Fld.LIFE_STAT_LOADING = false → s.domOn 7 = true →
      (s.bank 1).unit = none → (s.bank 1).erase = none → s.flashHeld = false → lifeBlankSlot s = some slot → Answers (exec .harvestStart s) fun t =>
        t.life = { s.life with record := lifeRecord s, slot := slot, units := 0 } ∧ t.has Fld.LIFE_STAT_BUSY = true ∧ t.has Fld.LIFE_STAT_PEND = false
        ∧ RegsBut [Reg.LIFE_STAT, Reg.LIFE_CTL] s t ∧ t = { s with regs := t.regs, life := t.life })
    ∧ (∀ (a : Nat), a = lifeRec s.life.slot + 16 * s.life.units → s.has Fld.LIFE_STAT_BUSY = true → (s.bank 1).erase = none → (s.bank 1).unit = none →
      s.flashHeld = false → unitBlank (s.bytes a 16) = true → s.life.units < 7 → s.life.record.length = 128 → Answers (exec (.harvestUnitDone false false false) s) fun t =>
        t.bytes a 16 = (s.life.record.drop (16 * s.life.units)).take 16 ∧ BytesOutside a 16 s t ∧ t.life = { s.life with units := s.life.units + 1 }
        ∧ RegsBut [Reg.FLASHC_STAT 1] s t
        ∧ t = { s with regs := t.regs, mem := t.mem, flash := t.flash, life := t.life, yielded := t.yielded })
    ∧ (s.has Fld.LIFE_STAT_LOADING = false →
      (∀ (t8 : BitVec 8), 25 ≤ t8.toInt → t8.toInt < 50 → Answers (exec (.lifeTempSample t8) s) fun t =>
        t.get (Fld.LIFE_VAL_VAL 26) = min (s.get (Fld.LIFE_VAL_VAL 26) + 64) (2 ^ 32 - 1)
        ∧ t.getS ⟨Reg.LIFE_VAL 19, 16, 8⟩ = min (s.getS ⟨Reg.LIFE_VAL 19, 16, 8⟩) t8.toInt ∧ t.getS ⟨Reg.LIFE_VAL 19, 24, 8⟩ = max (s.getS ⟨Reg.LIFE_VAL 19, 24, 8⟩) t8.toInt
        ∧ RegsBut [Reg.LIFE_VAL 26, Reg.LIFE_VAL 19] s t ∧ t = { s with regs := t.regs })
      ∧ Answers (exec .lifeSecondTick s) (fun t =>
        t.get (Fld.LIFE_VAL_VAL 4) = s.counted (Fld.LIFE_VAL_VAL 4)
        ∧ t.get (Fld.LIFE_VAL_VAL 5) = (if s.lfMode then s.get (Fld.LIFE_VAL_VAL 5) else s.counted (Fld.LIFE_VAL_VAL 5))
        ∧ (lwdtCounts s = true → t.get Fld.LWDT_STAT_REMAIN = s.get Fld.LWDT_STAT_REMAIN - 1)
        ∧ RegsBut [Reg.LIFE_VAL 4, Reg.LIFE_VAL 5, Reg.LWDT_STAT] s t ∧ t = { s with regs := t.regs }))
    ∧ (∀ (ws : List Word), s.has Fld.LIFE_STAT_LOADING = true → s.life.restore = some ws → s.life.held = [] → s.domOn 7 = false → Answers (exec .lifeLoadEnd s) fun t =>
        (∀ k, k < 27 → t.rd (Reg.LIFE_VAL (4 + k)) = nth 0#32 ws k) ∧ t.get Fld.LIFE_STAT_SOURCE = 2 ∧ t.has Fld.LIFE_STAT_LOADING = false
        ∧ t.life = { s.life with restore := none } ∧ RegsBut (Reg.LIFE_STAT :: (List.range 27).map (fun k => Reg.LIFE_VAL (4 + k))) s t
        ∧ t = { s with regs := t.regs, life := t.life })
    ∧ (∀ (f : Lane), Answers (exec (.lifeValRead f) s) fun t =>
        t.bus = .data (s.rd (Reg.LIFE_VAL (12 + 2 * f.val))) ∧ t.latched (Reg.LIFE_VAL (13 + 2 * f.val)) = s.rd (Reg.LIFE_VAL (13 + 2 * f.val))
        ∧ t = { s with bus := t.bus, latch := t.latch })

/-- The bus (after R3, R14, R15, R5): an access to a register window or block RAM that its master does not reach, whose
domain is off, that is no aligned word, or that lies outside every window answers with a bus error and does nothing
else; a word write to job RAM or to a staging register of the key store is stored, and a word read of it answers it; a
word read of a read-to-clear register answers its value and clears its RC bits. CPU1 in lockstep makes no access of its
own. Choices of the model it rests on: notes/assumptions/9, 10, 11, 82. -/
def Obligations.BusAccesses : Prop :=
  ∀ (m : Master) (addr v : Word) (z : AccessSize) (fill : Option CacheUse) (a : Nat) (s : State), a = addr.toNat →
    (s.issues m = false → exec (.registerWrite m addr z v) s = .next s ∧ exec (.rcRegisterRead m addr z fill) s = .next s)
    ∧ (s.issues m = true → isFlash a = false → inSram a = false → inRom a = false → inLinkRam a = false → regBars s m a (sizeOctets z) = true →
      exec (.registerWrite m addr z v) s = .next { s with bus := .error } ∧ exec (.rcRegisterRead m addr z fill) s = .next { s with bus := .error })
    ∧ (s.issues m = true → regBars s m a 4 = false → inJobRam a = true →
      (Answers (exec (.registerWrite m addr .word v) s) fun t =>
        t.word a = v ∧ BytesOutside a 4 s t ∧ t = { s with mem := t.mem, bus := .done })
      ∧ exec (.rcRegisterRead m addr .word fill) s = .next { s with bus := .data (s.word a) })
    ∧ (∀ (w : Fin 7), s.issues m = true → regBars s m a 4 = false → a = Reg.KEYSTORE_NEWATTR w →
      (Answers (exec (.registerWrite m addr .word v) s) fun t => t.rd a = v ∧ RegsBut [a] s t ∧ t = { s with regs := t.regs, bus := .done })
      ∧ exec (.rcRegisterRead m addr .word fill) s = .next { s with bus := .data (s.rd a) })
    ∧ (∀ (r : RegRow), s.issues m = true → regBars s m a 4 = false → rowOf a = some r → r.rc ≠ 0 →
      Answers (exec (.rcRegisterRead m addr .word fill) s) fun t =>
        t.bus = .data (s.rd a) ∧ t.rd a = s.rd a &&& ~~~(BitVec.ofNat 32 r.rc) ∧ RegsBut [a] s t
        ∧ t = { s with regs := t.regs, bus := t.bus })
end

