-- ==== Sys2Proof/Laws/Sparse.lean ====
section
/-!
SUPPORT. Laws of the tables by key: a read after a write, a write leaves the other keys alone, and every operation keeps
the canonical form.
-/

namespace Sys2Proof.Machine

variable {α : Type} {dflt : Nat → α} {k j : Nat} {v : α} {m : List (Nat × α)} {p : Nat → Bool}

/-! ### Reading after a change -/

theorem sparseGet_insert : sparseGet dflt (sparseInsert k v m) j = if j = k then v else sparseGet dflt m j := by
  induction m with
  | nil => by_cases h : k = j <;> simp [sparseInsert, sparseGet, h, eq_comm]
  | cons e t ih =>
    obtain ⟨a, b⟩ := e
    simp only [sparseInsert]
    split
    · by_cases h : k = j <;> simp [sparseGet, h, eq_comm]
    · split
      · subst_vars
        by_cases h : a = j
        · simp [sparseGet, h]
        · simp [sparseGet, h, Ne.symm h]
      · by_cases h : a = j
        · subst h; simp_all [sparseGet]
        · simp [sparseGet, h, ih]

theorem sparseGet_erase : sparseGet dflt (sparseErase k m) j = if j = k then dflt k else sparseGet dflt m j := by
  induction m with
  | nil => by_cases h : j = k <;> simp [sparseErase, sparseGet, h]
  | cons e t ih =>
    obtain ⟨a, b⟩ := e
    simp only [sparseErase]
    split
    · subst_vars
      by_cases h : a = j <;> simp_all [sparseGet, eq_comm]
    · by_cases h : a = j
      · subst h; simp_all [sparseGet]
      · simp [sparseGet, h, ih]

/-- A read after a write: the value written at that key, what stood there at every other. -/
theorem sparseGet_set [DecidableEq α] : sparseGet dflt (sparseSet dflt k v m) j = if j = k then v else sparseGet dflt m j := by
  unfold sparseSet
  split
  · subst_vars; exact sparseGet_erase
  · exact sparseGet_insert

@[simp] theorem sparseGet_set_self [DecidableEq α] : sparseGet dflt (sparseSet dflt k v m) k = v := by simp [sparseGet_set]

theorem sparseGet_set_ne [DecidableEq α] (h : j ≠ k) : sparseGet dflt (sparseSet dflt k v m) j = sparseGet dflt m j := by
  simp [sparseGet_set, h]

/-- A key that the filter keeps holds what it held; every other holds what an unlisted key holds. -/
theorem sparseGet_filter : sparseGet dflt (sparseFilter p m) j = if p j then sparseGet dflt m j else dflt j := by
  induction m with
  | nil => simp [sparseFilter, sparseGet]
  | cons e t ih =>
    obtain ⟨a, b⟩ := e
    by_cases hp : p a <;> by_cases h : a = j <;> simp_all [sparseFilter, sparseGet]

/-! ### The canonical form -/

theorem sparseWf_cons [DecidableEq α] {e : Nat × α} {t : List (Nat × α)} :
    sparseWf dflt (e :: t) = true ↔ e.2 ≠ dflt e.1 ∧ (∀ x ∈ t, e.1 < x.1) ∧ sparseWf dflt t = true := by
  obtain ⟨a, b⟩ := e
  simp [sparseWf, and_assoc]

theorem mem_sparseErase {e : Nat × α} (h : e ∈ sparseErase k m) : e ∈ m := by
  induction m with
  | nil => simp [sparseErase] at h
  | cons x t ih =>
    obtain ⟨a, b⟩ := x
    simp only [sparseErase] at h
    split at h
    · exact List.mem_cons_of_mem _ (ih h)
    · rcases List.mem_cons.mp h with h | h
      · simp [h]
      · exact List.mem_cons_of_mem _ (ih h)

theorem mem_sparseInsert {e : Nat × α} (h : e ∈ sparseInsert k v m) : e = (k, v) ∨ e ∈ m := by
  induction m with
  | nil => simpa [sparseInsert] using h
  | cons x t ih =>
    obtain ⟨a, b⟩ := x
    simp only [sparseInsert] at h
    split at h
    · simpa using h
    · split at h
      · rcases List.mem_cons.mp h with h | h
        · exact .inl h
        · exact .inr (List.mem_cons_of_mem _ h)
      · rcases List.mem_cons.mp h with h | h
        · exact .inr (by simp [h])
        · exact (ih h).imp id (List.mem_cons_of_mem _)

theorem sparseWf_erase [DecidableEq α] (h : sparseWf dflt m = true) : sparseWf dflt (sparseErase k m) = true := by
  induction m with
  | nil => rfl
  | cons e t ih =>
    obtain ⟨a, b⟩ := e
    obtain ⟨h1, h2, h3⟩ := sparseWf_cons.mp h
    simp only [sparseErase]
    split
    · exact ih h3
    · exact sparseWf_cons.mpr ⟨h1, fun x hx => h2 x (mem_sparseErase hx), ih h3⟩

theorem sparseWf_insert [DecidableEq α] (hv : v ≠ dflt k) (h : sparseWf dflt m = true) : sparseWf dflt (sparseInsert k v m) = true := by
  induction m with
  | nil => simp [sparseInsert, sparseWf, hv]
  | cons e t ih =>
    obtain ⟨a, b⟩ := e
    obtain ⟨h1, h2, h3⟩ := sparseWf_cons.mp h
    simp only [sparseInsert]
    split
    · next hk =>
      refine sparseWf_cons.mpr ⟨hv, fun x hx => ?_, h⟩
      rcases List.mem_cons.mp hx with rfl | hx
      · exact hk
      · exact Nat.lt_trans hk (h2 x hx)
    · split
      · next hk =>
        subst hk
        exact sparseWf_cons.mpr ⟨hv, h2, h3⟩
      · refine sparseWf_cons.mpr ⟨h1, fun x hx => ?_, ih h3⟩
        rcases mem_sparseInsert hx with rfl | hx
        · show a < k
          omega
        · exact h2 x hx

/-- A write keeps the canonical form. -/
theorem sparseWf_set [DecidableEq α] (h : sparseWf dflt m = true) : sparseWf dflt (sparseSet dflt k v m) = true := by
  unfold sparseSet
  split
  · exact sparseWf_erase h
  · next hv => exact sparseWf_insert hv h

/-- A filter keeps the canonical form. -/
theorem sparseWf_filter [DecidableEq α] (h : sparseWf dflt m = true) : sparseWf dflt (sparseFilter p m) = true := by
  induction m with
  | nil => rfl
  | cons e t ih =>
    obtain ⟨a, b⟩ := e
    obtain ⟨h1, h2, h3⟩ := sparseWf_cons.mp h
    have ih := ih h3
    unfold sparseFilter at ih ⊢
    rw [List.filter_cons]
    split
    · exact sparseWf_cons.mpr ⟨h1, fun x hx => h2 x ((List.mem_filter.mp hx).1), ih⟩
    · exact ih

/-- Tables in canonical form that read the same are the same table. -/
theorem sparse_ext [DecidableEq α] {m n : List (Nat × α)} (hm : sparseWf dflt m = true) (hn : sparseWf dflt n = true)
    (h : ∀ j, sparseGet dflt m j = sparseGet dflt n j) : m = n := by
  induction m generalizing n with
  | nil =>
    cases n with
    | nil => rfl
    | cons e t =>
      obtain ⟨h1, -, -⟩ := sparseWf_cons.mp hn
      exact absurd (h e.1) (by simpa [sparseGet] using Ne.symm h1)
  | cons d u ih =>
    obtain ⟨d1, d2, d3⟩ := sparseWf_cons.mp hm
    cases n with
    | nil => exact absurd (h d.1) (by simpa [sparseGet] using d1)
    | cons e t =>
      obtain ⟨e1, e2, e3⟩ := sparseWf_cons.mp hn
      have low : ∀ {l : List (Nat × α)} {j}, (∀ x ∈ l, j < x.1) → sparseGet dflt l j = dflt j := by
        intro l j hl
        induction l with
        | nil => rfl
        | cons x t iht =>
          have := hl x (by simp)
          rw [sparseGet, if_neg (by omega), iht (fun y hy => hl y (List.mem_cons_of_mem _ hy))]
      have key : d.1 = e.1 := by
        rcases Nat.lt_trichotomy d.1 e.1 with hlt | heq | hgt
        · have := h d.1
          rw [sparseGet, if_pos rfl, sparseGet, if_neg (by omega), low (fun x hx => Nat.lt_trans hlt (e2 x hx))] at this
          exact absurd this d1
        · exact heq
        · have := h e.1
          rw [sparseGet, if_neg (by omega), sparseGet, if_pos rfl, low (fun x hx => Nat.lt_trans hgt (d2 x hx))] at this
          exact absurd this.symm e1
      have val : d.2 = e.2 := by simpa [sparseGet, key] using h d.1
      have hde : d = e := Prod.ext key val
      subst hde
      refine congrArg _ (ih d3 e3 fun j => ?_)
      have hj := h j
      by_cases hd : d.1 = j
      · rw [low (fun x hx => hd ▸ d2 x hx), low (fun x hx => hd ▸ e2 x hx)]
      · simpa [sparseGet, hd] using hj

end Sys2Proof.Machine
end

