-- ==== Sys2Proof/Laws/State.lean ====
section
/-!
SUPPORT. What each named operation over State leaves as it was: one lemma for each field and each operation. What it changes
is said in Sys2Proof/Laws/Registers.lean and Sys2Proof/Laws/Memory.lean.
-/

namespace Sys2Proof.Machine

variable (s : State)

/-! ### wr changes `regs` only -/

@[simp] theorem State.wr_mem (a : Nat) (v : Word) : (s.wr a v).mem = s.mem := (rfl)
@[simp] theorem State.wr_edges (a : Nat) (v : Word) : (s.wr a v).edges = s.edges := (rfl)
@[simp] theorem State.wr_tasks (a : Nat) (v : Word) : (s.wr a v).tasks = s.tasks := (rfl)
@[simp] theorem State.wr_bus (a : Nat) (v : Word) : (s.wr a v).bus = s.bus := (rfl)
@[simp] theorem State.wr_latch (a : Nat) (v : Word) : (s.wr a v).latch = s.latch := (rfl)
@[simp] theorem State.wr_freeCounter (a : Nat) (v : Word) : (s.wr a v).freeCounter = s.freeCounter := (rfl)
@[simp] theorem State.wr_tide (a : Nat) (v : Word) : (s.wr a v).tide = s.tide := (rfl)
@[simp] theorem State.wr_snapshot (a : Nat) (v : Word) : (s.wr a v).snapshot = s.snapshot := (rfl)
@[simp] theorem State.wr_salt (a : Nat) (v : Word) : (s.wr a v).salt = s.salt := (rfl)
@[simp] theorem State.wr_sluices (a : Nat) (v : Word) : (s.wr a v).sluices = s.sluices := (rfl)
@[simp] theorem State.wr_yielded (a : Nat) (v : Word) : (s.wr a v).yielded = s.yielded := (rfl)
@[simp] theorem State.wr_rf (a : Nat) (v : Word) : (s.wr a v).rf = s.rf := (rfl)
@[simp] theorem State.wr_lanes (a : Nat) (v : Word) : (s.wr a v).lanes = s.lanes := (rfl)
@[simp] theorem State.wr_modem (a : Nat) (v : Word) : (s.wr a v).modem = s.modem := (rfl)
@[simp] theorem State.wr_link (a : Nat) (v : Word) : (s.wr a v).link = s.link := (rfl)
@[simp] theorem State.wr_ring (a : Nat) (v : Word) : (s.wr a v).ring = s.ring := (rfl)
@[simp] theorem State.wr_sram (a : Nat) (v : Word) : (s.wr a v).sram = s.sram := (rfl)
@[simp] theorem State.wr_cores (a : Nat) (v : Word) : (s.wr a v).cores = s.cores := (rfl)
@[simp] theorem State.wr_flash (a : Nat) (v : Word) : (s.wr a v).flash = s.flash := (rfl)
@[simp] theorem State.wr_power (a : Nat) (v : Word) : (s.wr a v).power = s.power := (rfl)
@[simp] theorem State.wr_kept (a : Nat) (v : Word) : (s.wr a v).kept = s.kept := (rfl)
@[simp] theorem State.wr_boot (a : Nat) (v : Word) : (s.wr a v).boot = s.boot := (rfl)
@[simp] theorem State.wr_per (a : Nat) (v : Word) : (s.wr a v).per = s.per := (rfl)
@[simp] theorem State.wr_life (a : Nat) (v : Word) : (s.wr a v).life = s.life := (rfl)
@[simp] theorem State.wr_keys (a : Nat) (v : Word) : (s.wr a v).keys = s.keys := (rfl)
@[simp] theorem State.wr_cipher (a : Nat) (v : Word) : (s.wr a v).cipher = s.cipher := (rfl)
@[simp] theorem State.wr_pke (a : Nat) (v : Word) : (s.wr a v).pke = s.pke := (rfl)
@[simp] theorem State.wr_trng (a : Nat) (v : Word) : (s.wr a v).trng = s.trng := (rfl)
@[simp] theorem State.wr_backup (a : Nat) (v : Word) : (s.wr a v).backup = s.backup := (rfl)
@[simp] theorem State.wr_pending (a : Nat) (v : Word) : (s.wr a v).pending = s.pending := (rfl)

/-! ### put changes `regs` only -/

@[simp] theorem State.put_mem (f : Field) (v : Nat) : (s.put f v).mem = s.mem := (rfl)
@[simp] theorem State.put_edges (f : Field) (v : Nat) : (s.put f v).edges = s.edges := (rfl)
@[simp] theorem State.put_tasks (f : Field) (v : Nat) : (s.put f v).tasks = s.tasks := (rfl)
@[simp] theorem State.put_bus (f : Field) (v : Nat) : (s.put f v).bus = s.bus := (rfl)
@[simp] theorem State.put_latch (f : Field) (v : Nat) : (s.put f v).latch = s.latch := (rfl)
@[simp] theorem State.put_freeCounter (f : Field) (v : Nat) : (s.put f v).freeCounter = s.freeCounter := (rfl)
@[simp] theorem State.put_tide (f : Field) (v : Nat) : (s.put f v).tide = s.tide := (rfl)
@[simp] theorem State.put_snapshot (f : Field) (v : Nat) : (s.put f v).snapshot = s.snapshot := (rfl)
@[simp] theorem State.put_salt (f : Field) (v : Nat) : (s.put f v).salt = s.salt := (rfl)
@[simp] theorem State.put_sluices (f : Field) (v : Nat) : (s.put f v).sluices = s.sluices := (rfl)
@[simp] theorem State.put_yielded (f : Field) (v : Nat) : (s.put f v).yielded = s.yielded := (rfl)
@[simp] theorem State.put_rf (f : Field) (v : Nat) : (s.put f v).rf = s.rf := (rfl)
@[simp] theorem State.put_lanes (f : Field) (v : Nat) : (s.put f v).lanes = s.lanes := (rfl)
@[simp] theorem State.put_modem (f : Field) (v : Nat) : (s.put f v).modem = s.modem := (rfl)
@[simp] theorem State.put_link (f : Field) (v : Nat) : (s.put f v).link = s.link := (rfl)
@[simp] theorem State.put_ring (f : Field) (v : Nat) : (s.put f v).ring = s.ring := (rfl)
@[simp] theorem State.put_sram (f : Field) (v : Nat) : (s.put f v).sram = s.sram := (rfl)
@[simp] theorem State.put_cores (f : Field) (v : Nat) : (s.put f v).cores = s.cores := (rfl)
@[simp] theorem State.put_flash (f : Field) (v : Nat) : (s.put f v).flash = s.flash := (rfl)
@[simp] theorem State.put_power (f : Field) (v : Nat) : (s.put f v).power = s.power := (rfl)
@[simp] theorem State.put_kept (f : Field) (v : Nat) : (s.put f v).kept = s.kept := (rfl)
@[simp] theorem State.put_boot (f : Field) (v : Nat) : (s.put f v).boot = s.boot := (rfl)
@[simp] theorem State.put_per (f : Field) (v : Nat) : (s.put f v).per = s.per := (rfl)
@[simp] theorem State.put_life (f : Field) (v : Nat) : (s.put f v).life = s.life := (rfl)
@[simp] theorem State.put_keys (f : Field) (v : Nat) : (s.put f v).keys = s.keys := (rfl)
@[simp] theorem State.put_cipher (f : Field) (v : Nat) : (s.put f v).cipher = s.cipher := (rfl)
@[simp] theorem State.put_pke (f : Field) (v : Nat) : (s.put f v).pke = s.pke := (rfl)
@[simp] theorem State.put_trng (f : Field) (v : Nat) : (s.put f v).trng = s.trng := (rfl)
@[simp] theorem State.put_backup (f : Field) (v : Nat) : (s.put f v).backup = s.backup := (rfl)
@[simp] theorem State.put_pending (f : Field) (v : Nat) : (s.put f v).pending = s.pending := (rfl)

/-! ### putBit changes `regs` only -/

@[simp] theorem State.putBit_mem (a k : Nat) (b : Bool) : (s.putBit a k b).mem = s.mem := (rfl)
@[simp] theorem State.putBit_edges (a k : Nat) (b : Bool) : (s.putBit a k b).edges = s.edges := (rfl)
@[simp] theorem State.putBit_tasks (a k : Nat) (b : Bool) : (s.putBit a k b).tasks = s.tasks := (rfl)
@[simp] theorem State.putBit_bus (a k : Nat) (b : Bool) : (s.putBit a k b).bus = s.bus := (rfl)
@[simp] theorem State.putBit_latch (a k : Nat) (b : Bool) : (s.putBit a k b).latch = s.latch := (rfl)
@[simp] theorem State.putBit_freeCounter (a k : Nat) (b : Bool) : (s.putBit a k b).freeCounter = s.freeCounter := (rfl)
@[simp] theorem State.putBit_tide (a k : Nat) (b : Bool) : (s.putBit a k b).tide = s.tide := (rfl)
@[simp] theorem State.putBit_snapshot (a k : Nat) (b : Bool) : (s.putBit a k b).snapshot = s.snapshot := (rfl)
@[simp] theorem State.putBit_salt (a k : Nat) (b : Bool) : (s.putBit a k b).salt = s.salt := (rfl)
@[simp] theorem State.putBit_sluices (a k : Nat) (b : Bool) : (s.putBit a k b).sluices = s.sluices := (rfl)
@[simp] theorem State.putBit_yielded (a k : Nat) (b : Bool) : (s.putBit a k b).yielded = s.yielded := (rfl)
@[simp] theorem State.putBit_rf (a k : Nat) (b : Bool) : (s.putBit a k b).rf = s.rf := (rfl)
@[simp] theorem State.putBit_lanes (a k : Nat) (b : Bool) : (s.putBit a k b).lanes = s.lanes := (rfl)
@[simp] theorem State.putBit_modem (a k : Nat) (b : Bool) : (s.putBit a k b).modem = s.modem := (rfl)
@[simp] theorem State.putBit_link (a k : Nat) (b : Bool) : (s.putBit a k b).link = s.link := (rfl)
@[simp] theorem State.putBit_ring (a k : Nat) (b : Bool) : (s.putBit a k b).ring = s.ring := (rfl)
@[simp] theorem State.putBit_sram (a k : Nat) (b : Bool) : (s.putBit a k b).sram = s.sram := (rfl)
@[simp] theorem State.putBit_cores (a k : Nat) (b : Bool) : (s.putBit a k b).cores = s.cores := (rfl)
@[simp] theorem State.putBit_flash (a k : Nat) (b : Bool) : (s.putBit a k b).flash = s.flash := (rfl)
@[simp] theorem State.putBit_power (a k : Nat) (b : Bool) : (s.putBit a k b).power = s.power := (rfl)
@[simp] theorem State.putBit_kept (a k : Nat) (b : Bool) : (s.putBit a k b).kept = s.kept := (rfl)
@[simp] theorem State.putBit_boot (a k : Nat) (b : Bool) : (s.putBit a k b).boot = s.boot := (rfl)
@[simp] theorem State.putBit_per (a k : Nat) (b : Bool) : (s.putBit a k b).per = s.per := (rfl)
@[simp] theorem State.putBit_life (a k : Nat) (b : Bool) : (s.putBit a k b).life = s.life := (rfl)
@[simp] theorem State.putBit_keys (a k : Nat) (b : Bool) : (s.putBit a k b).keys = s.keys := (rfl)
@[simp] theorem State.putBit_cipher (a k : Nat) (b : Bool) : (s.putBit a k b).cipher = s.cipher := (rfl)
@[simp] theorem State.putBit_pke (a k : Nat) (b : Bool) : (s.putBit a k b).pke = s.pke := (rfl)
@[simp] theorem State.putBit_trng (a k : Nat) (b : Bool) : (s.putBit a k b).trng = s.trng := (rfl)
@[simp] theorem State.putBit_backup (a k : Nat) (b : Bool) : (s.putBit a k b).backup = s.backup := (rfl)
@[simp] theorem State.putBit_pending (a k : Nat) (b : Bool) : (s.putBit a k b).pending = s.pending := (rfl)

/-! ### resetRegs changes `regs` only -/

@[simp] theorem State.resetRegs_mem (p : Nat → Bool) : (s.resetRegs p).mem = s.mem := (rfl)
@[simp] theorem State.resetRegs_edges (p : Nat → Bool) : (s.resetRegs p).edges = s.edges := (rfl)
@[simp] theorem State.resetRegs_tasks (p : Nat → Bool) : (s.resetRegs p).tasks = s.tasks := (rfl)
@[simp] theorem State.resetRegs_bus (p : Nat → Bool) : (s.resetRegs p).bus = s.bus := (rfl)
@[simp] theorem State.resetRegs_latch (p : Nat → Bool) : (s.resetRegs p).latch = s.latch := (rfl)
@[simp] theorem State.resetRegs_freeCounter (p : Nat → Bool) : (s.resetRegs p).freeCounter = s.freeCounter := (rfl)
@[simp] theorem State.resetRegs_tide (p : Nat → Bool) : (s.resetRegs p).tide = s.tide := (rfl)
@[simp] theorem State.resetRegs_snapshot (p : Nat → Bool) : (s.resetRegs p).snapshot = s.snapshot := (rfl)
@[simp] theorem State.resetRegs_salt (p : Nat → Bool) : (s.resetRegs p).salt = s.salt := (rfl)
@[simp] theorem State.resetRegs_sluices (p : Nat → Bool) : (s.resetRegs p).sluices = s.sluices := (rfl)
@[simp] theorem State.resetRegs_yielded (p : Nat → Bool) : (s.resetRegs p).yielded = s.yielded := (rfl)
@[simp] theorem State.resetRegs_rf (p : Nat → Bool) : (s.resetRegs p).rf = s.rf := (rfl)
@[simp] theorem State.resetRegs_lanes (p : Nat → Bool) : (s.resetRegs p).lanes = s.lanes := (rfl)
@[simp] theorem State.resetRegs_modem (p : Nat → Bool) : (s.resetRegs p).modem = s.modem := (rfl)
@[simp] theorem State.resetRegs_link (p : Nat → Bool) : (s.resetRegs p).link = s.link := (rfl)
@[simp] theorem State.resetRegs_ring (p : Nat → Bool) : (s.resetRegs p).ring = s.ring := (rfl)
@[simp] theorem State.resetRegs_sram (p : Nat → Bool) : (s.resetRegs p).sram = s.sram := (rfl)
@[simp] theorem State.resetRegs_cores (p : Nat → Bool) : (s.resetRegs p).cores = s.cores := (rfl)
@[simp] theorem State.resetRegs_flash (p : Nat → Bool) : (s.resetRegs p).flash = s.flash := (rfl)
@[simp] theorem State.resetRegs_power (p : Nat → Bool) : (s.resetRegs p).power = s.power := (rfl)
@[simp] theorem State.resetRegs_kept (p : Nat → Bool) : (s.resetRegs p).kept = s.kept := (rfl)
@[simp] theorem State.resetRegs_boot (p : Nat → Bool) : (s.resetRegs p).boot = s.boot := (rfl)
@[simp] theorem State.resetRegs_per (p : Nat → Bool) : (s.resetRegs p).per = s.per := (rfl)
@[simp] theorem State.resetRegs_life (p : Nat → Bool) : (s.resetRegs p).life = s.life := (rfl)
@[simp] theorem State.resetRegs_keys (p : Nat → Bool) : (s.resetRegs p).keys = s.keys := (rfl)
@[simp] theorem State.resetRegs_cipher (p : Nat → Bool) : (s.resetRegs p).cipher = s.cipher := (rfl)
@[simp] theorem State.resetRegs_pke (p : Nat → Bool) : (s.resetRegs p).pke = s.pke := (rfl)
@[simp] theorem State.resetRegs_trng (p : Nat → Bool) : (s.resetRegs p).trng = s.trng := (rfl)
@[simp] theorem State.resetRegs_backup (p : Nat → Bool) : (s.resetRegs p).backup = s.backup := (rfl)
@[simp] theorem State.resetRegs_pending (p : Nat → Bool) : (s.resetRegs p).pending = s.pending := (rfl)

/-! ### flag changes `regs` only -/

@[simp] theorem State.flag_mem (f : Field) : (s.flag f).mem = s.mem := (rfl)
@[simp] theorem State.flag_edges (f : Field) : (s.flag f).edges = s.edges := (rfl)
@[simp] theorem State.flag_tasks (f : Field) : (s.flag f).tasks = s.tasks := (rfl)
@[simp] theorem State.flag_bus (f : Field) : (s.flag f).bus = s.bus := (rfl)
@[simp] theorem State.flag_latch (f : Field) : (s.flag f).latch = s.latch := (rfl)
@[simp] theorem State.flag_freeCounter (f : Field) : (s.flag f).freeCounter = s.freeCounter := (rfl)
@[simp] theorem State.flag_tide (f : Field) : (s.flag f).tide = s.tide := (rfl)
@[simp] theorem State.flag_snapshot (f : Field) : (s.flag f).snapshot = s.snapshot := (rfl)
@[simp] theorem State.flag_salt (f : Field) : (s.flag f).salt = s.salt := (rfl)
@[simp] theorem State.flag_sluices (f : Field) : (s.flag f).sluices = s.sluices := (rfl)
@[simp] theorem State.flag_yielded (f : Field) : (s.flag f).yielded = s.yielded := (rfl)
@[simp] theorem State.flag_rf (f : Field) : (s.flag f).rf = s.rf := (rfl)
@[simp] theorem State.flag_lanes (f : Field) : (s.flag f).lanes = s.lanes := (rfl)
@[simp] theorem State.flag_modem (f : Field) : (s.flag f).modem = s.modem := (rfl)
@[simp] theorem State.flag_link (f : Field) : (s.flag f).link = s.link := (rfl)
@[simp] theorem State.flag_ring (f : Field) : (s.flag f).ring = s.ring := (rfl)
@[simp] theorem State.flag_sram (f : Field) : (s.flag f).sram = s.sram := (rfl)
@[simp] theorem State.flag_cores (f : Field) : (s.flag f).cores = s.cores := (rfl)
@[simp] theorem State.flag_flash (f : Field) : (s.flag f).flash = s.flash := (rfl)
@[simp] theorem State.flag_power (f : Field) : (s.flag f).power = s.power := (rfl)
@[simp] theorem State.flag_kept (f : Field) : (s.flag f).kept = s.kept := (rfl)
@[simp] theorem State.flag_boot (f : Field) : (s.flag f).boot = s.boot := (rfl)
@[simp] theorem State.flag_per (f : Field) : (s.flag f).per = s.per := (rfl)
@[simp] theorem State.flag_life (f : Field) : (s.flag f).life = s.life := (rfl)
@[simp] theorem State.flag_keys (f : Field) : (s.flag f).keys = s.keys := (rfl)
@[simp] theorem State.flag_cipher (f : Field) : (s.flag f).cipher = s.cipher := (rfl)
@[simp] theorem State.flag_pke (f : Field) : (s.flag f).pke = s.pke := (rfl)
@[simp] theorem State.flag_trng (f : Field) : (s.flag f).trng = s.trng := (rfl)
@[simp] theorem State.flag_backup (f : Field) : (s.flag f).backup = s.backup := (rfl)
@[simp] theorem State.flag_pending (f : Field) : (s.flag f).pending = s.pending := (rfl)

/-! ### unflag changes `regs` only -/

@[simp] theorem State.unflag_mem (f : Field) : (s.unflag f).mem = s.mem := (rfl)
@[simp] theorem State.unflag_edges (f : Field) : (s.unflag f).edges = s.edges := (rfl)
@[simp] theorem State.unflag_tasks (f : Field) : (s.unflag f).tasks = s.tasks := (rfl)
@[simp] theorem State.unflag_bus (f : Field) : (s.unflag f).bus = s.bus := (rfl)
@[simp] theorem State.unflag_latch (f : Field) : (s.unflag f).latch = s.latch := (rfl)
@[simp] theorem State.unflag_freeCounter (f : Field) : (s.unflag f).freeCounter = s.freeCounter := (rfl)
@[simp] theorem State.unflag_tide (f : Field) : (s.unflag f).tide = s.tide := (rfl)
@[simp] theorem State.unflag_snapshot (f : Field) : (s.unflag f).snapshot = s.snapshot := (rfl)
@[simp] theorem State.unflag_salt (f : Field) : (s.unflag f).salt = s.salt := (rfl)
@[simp] theorem State.unflag_sluices (f : Field) : (s.unflag f).sluices = s.sluices := (rfl)
@[simp] theorem State.unflag_yielded (f : Field) : (s.unflag f).yielded = s.yielded := (rfl)
@[simp] theorem State.unflag_rf (f : Field) : (s.unflag f).rf = s.rf := (rfl)
@[simp] theorem State.unflag_lanes (f : Field) : (s.unflag f).lanes = s.lanes := (rfl)
@[simp] theorem State.unflag_modem (f : Field) : (s.unflag f).modem = s.modem := (rfl)
@[simp] theorem State.unflag_link (f : Field) : (s.unflag f).link = s.link := (rfl)
@[simp] theorem State.unflag_ring (f : Field) : (s.unflag f).ring = s.ring := (rfl)
@[simp] theorem State.unflag_sram (f : Field) : (s.unflag f).sram = s.sram := (rfl)
@[simp] theorem State.unflag_cores (f : Field) : (s.unflag f).cores = s.cores := (rfl)
@[simp] theorem State.unflag_flash (f : Field) : (s.unflag f).flash = s.flash := (rfl)
@[simp] theorem State.unflag_power (f : Field) : (s.unflag f).power = s.power := (rfl)
@[simp] theorem State.unflag_kept (f : Field) : (s.unflag f).kept = s.kept := (rfl)
@[simp] theorem State.unflag_boot (f : Field) : (s.unflag f).boot = s.boot := (rfl)
@[simp] theorem State.unflag_per (f : Field) : (s.unflag f).per = s.per := (rfl)
@[simp] theorem State.unflag_life (f : Field) : (s.unflag f).life = s.life := (rfl)
@[simp] theorem State.unflag_keys (f : Field) : (s.unflag f).keys = s.keys := (rfl)
@[simp] theorem State.unflag_cipher (f : Field) : (s.unflag f).cipher = s.cipher := (rfl)
@[simp] theorem State.unflag_pke (f : Field) : (s.unflag f).pke = s.pke := (rfl)
@[simp] theorem State.unflag_trng (f : Field) : (s.unflag f).trng = s.trng := (rfl)
@[simp] theorem State.unflag_backup (f : Field) : (s.unflag f).backup = s.backup := (rfl)
@[simp] theorem State.unflag_pending (f : Field) : (s.unflag f).pending = s.pending := (rfl)

/-! ### count changes `regs` only -/

@[simp] theorem State.count_mem (f : Field) (n : Nat) : (s.count f n).mem = s.mem := (rfl)
@[simp] theorem State.count_edges (f : Field) (n : Nat) : (s.count f n).edges = s.edges := (rfl)
@[simp] theorem State.count_tasks (f : Field) (n : Nat) : (s.count f n).tasks = s.tasks := (rfl)
@[simp] theorem State.count_bus (f : Field) (n : Nat) : (s.count f n).bus = s.bus := (rfl)
@[simp] theorem State.count_latch (f : Field) (n : Nat) : (s.count f n).latch = s.latch := (rfl)
@[simp] theorem State.count_freeCounter (f : Field) (n : Nat) : (s.count f n).freeCounter = s.freeCounter := (rfl)
@[simp] theorem State.count_tide (f : Field) (n : Nat) : (s.count f n).tide = s.tide := (rfl)
@[simp] theorem State.count_snapshot (f : Field) (n : Nat) : (s.count f n).snapshot = s.snapshot := (rfl)
@[simp] theorem State.count_salt (f : Field) (n : Nat) : (s.count f n).salt = s.salt := (rfl)
@[simp] theorem State.count_sluices (f : Field) (n : Nat) : (s.count f n).sluices = s.sluices := (rfl)
@[simp] theorem State.count_yielded (f : Field) (n : Nat) : (s.count f n).yielded = s.yielded := (rfl)
@[simp] theorem State.count_rf (f : Field) (n : Nat) : (s.count f n).rf = s.rf := (rfl)
@[simp] theorem State.count_lanes (f : Field) (n : Nat) : (s.count f n).lanes = s.lanes := (rfl)
@[simp] theorem State.count_modem (f : Field) (n : Nat) : (s.count f n).modem = s.modem := (rfl)
@[simp] theorem State.count_link (f : Field) (n : Nat) : (s.count f n).link = s.link := (rfl)
@[simp] theorem State.count_ring (f : Field) (n : Nat) : (s.count f n).ring = s.ring := (rfl)
@[simp] theorem State.count_sram (f : Field) (n : Nat) : (s.count f n).sram = s.sram := (rfl)
@[simp] theorem State.count_cores (f : Field) (n : Nat) : (s.count f n).cores = s.cores := (rfl)
@[simp] theorem State.count_flash (f : Field) (n : Nat) : (s.count f n).flash = s.flash := (rfl)
@[simp] theorem State.count_power (f : Field) (n : Nat) : (s.count f n).power = s.power := (rfl)
@[simp] theorem State.count_kept (f : Field) (n : Nat) : (s.count f n).kept = s.kept := (rfl)
@[simp] theorem State.count_boot (f : Field) (n : Nat) : (s.count f n).boot = s.boot := (rfl)
@[simp] theorem State.count_per (f : Field) (n : Nat) : (s.count f n).per = s.per := (rfl)
@[simp] theorem State.count_life (f : Field) (n : Nat) : (s.count f n).life = s.life := (rfl)
@[simp] theorem State.count_keys (f : Field) (n : Nat) : (s.count f n).keys = s.keys := (rfl)
@[simp] theorem State.count_cipher (f : Field) (n : Nat) : (s.count f n).cipher = s.cipher := (rfl)
@[simp] theorem State.count_pke (f : Field) (n : Nat) : (s.count f n).pke = s.pke := (rfl)
@[simp] theorem State.count_trng (f : Field) (n : Nat) : (s.count f n).trng = s.trng := (rfl)
@[simp] theorem State.count_backup (f : Field) (n : Nat) : (s.count f n).backup = s.backup := (rfl)
@[simp] theorem State.count_pending (f : Field) (n : Nat) : (s.count f n).pending = s.pending := (rfl)

/-! ### inc changes `regs` only -/

@[simp] theorem State.inc_mem (f : Field) : (s.inc f).mem = s.mem := (rfl)
@[simp] theorem State.inc_edges (f : Field) : (s.inc f).edges = s.edges := (rfl)
@[simp] theorem State.inc_tasks (f : Field) : (s.inc f).tasks = s.tasks := (rfl)
@[simp] theorem State.inc_bus (f : Field) : (s.inc f).bus = s.bus := (rfl)
@[simp] theorem State.inc_latch (f : Field) : (s.inc f).latch = s.latch := (rfl)
@[simp] theorem State.inc_freeCounter (f : Field) : (s.inc f).freeCounter = s.freeCounter := (rfl)
@[simp] theorem State.inc_tide (f : Field) : (s.inc f).tide = s.tide := (rfl)
@[simp] theorem State.inc_snapshot (f : Field) : (s.inc f).snapshot = s.snapshot := (rfl)
@[simp] theorem State.inc_salt (f : Field) : (s.inc f).salt = s.salt := (rfl)
@[simp] theorem State.inc_sluices (f : Field) : (s.inc f).sluices = s.sluices := (rfl)
@[simp] theorem State.inc_yielded (f : Field) : (s.inc f).yielded = s.yielded := (rfl)
@[simp] theorem State.inc_rf (f : Field) : (s.inc f).rf = s.rf := (rfl)
@[simp] theorem State.inc_lanes (f : Field) : (s.inc f).lanes = s.lanes := (rfl)
@[simp] theorem State.inc_modem (f : Field) : (s.inc f).modem = s.modem := (rfl)
@[simp] theorem State.inc_link (f : Field) : (s.inc f).link = s.link := (rfl)
@[simp] theorem State.inc_ring (f : Field) : (s.inc f).ring = s.ring := (rfl)
@[simp] theorem State.inc_sram (f : Field) : (s.inc f).sram = s.sram := (rfl)
@[simp] theorem State.inc_cores (f : Field) : (s.inc f).cores = s.cores := (rfl)
@[simp] theorem State.inc_flash (f : Field) : (s.inc f).flash = s.flash := (rfl)
@[simp] theorem State.inc_power (f : Field) : (s.inc f).power = s.power := (rfl)
@[simp] theorem State.inc_kept (f : Field) : (s.inc f).kept = s.kept := (rfl)
@[simp] theorem State.inc_boot (f : Field) : (s.inc f).boot = s.boot := (rfl)
@[simp] theorem State.inc_per (f : Field) : (s.inc f).per = s.per := (rfl)
@[simp] theorem State.inc_life (f : Field) : (s.inc f).life = s.life := (rfl)
@[simp] theorem State.inc_keys (f : Field) : (s.inc f).keys = s.keys := (rfl)
@[simp] theorem State.inc_cipher (f : Field) : (s.inc f).cipher = s.cipher := (rfl)
@[simp] theorem State.inc_pke (f : Field) : (s.inc f).pke = s.pke := (rfl)
@[simp] theorem State.inc_trng (f : Field) : (s.inc f).trng = s.trng := (rfl)
@[simp] theorem State.inc_backup (f : Field) : (s.inc f).backup = s.backup := (rfl)
@[simp] theorem State.inc_pending (f : Field) : (s.inc f).pending = s.pending := (rfl)

/-! ### incWrap changes `regs` only -/

@[simp] theorem State.incWrap_mem (f : Field) : (s.incWrap f).mem = s.mem := (rfl)
@[simp] theorem State.incWrap_edges (f : Field) : (s.incWrap f).edges = s.edges := (rfl)
@[simp] theorem State.incWrap_tasks (f : Field) : (s.incWrap f).tasks = s.tasks := (rfl)
@[simp] theorem State.incWrap_bus (f : Field) : (s.incWrap f).bus = s.bus := (rfl)
@[simp] theorem State.incWrap_latch (f : Field) : (s.incWrap f).latch = s.latch := (rfl)
@[simp] theorem State.incWrap_freeCounter (f : Field) : (s.incWrap f).freeCounter = s.freeCounter := (rfl)
@[simp] theorem State.incWrap_tide (f : Field) : (s.incWrap f).tide = s.tide := (rfl)
@[simp] theorem State.incWrap_snapshot (f : Field) : (s.incWrap f).snapshot = s.snapshot := (rfl)
@[simp] theorem State.incWrap_salt (f : Field) : (s.incWrap f).salt = s.salt := (rfl)
@[simp] theorem State.incWrap_sluices (f : Field) : (s.incWrap f).sluices = s.sluices := (rfl)
@[simp] theorem State.incWrap_yielded (f : Field) : (s.incWrap f).yielded = s.yielded := (rfl)
@[simp] theorem State.incWrap_rf (f : Field) : (s.incWrap f).rf = s.rf := (rfl)
@[simp] theorem State.incWrap_lanes (f : Field) : (s.incWrap f).lanes = s.lanes := (rfl)
@[simp] theorem State.incWrap_modem (f : Field) : (s.incWrap f).modem = s.modem := (rfl)
@[simp] theorem State.incWrap_link (f : Field) : (s.incWrap f).link = s.link := (rfl)
@[simp] theorem State.incWrap_ring (f : Field) : (s.incWrap f).ring = s.ring := (rfl)
@[simp] theorem State.incWrap_sram (f : Field) : (s.incWrap f).sram = s.sram := (rfl)
@[simp] theorem State.incWrap_cores (f : Field) : (s.incWrap f).cores = s.cores := (rfl)
@[simp] theorem State.incWrap_flash (f : Field) : (s.incWrap f).flash = s.flash := (rfl)
@[simp] theorem State.incWrap_power (f : Field) : (s.incWrap f).power = s.power := (rfl)
@[simp] theorem State.incWrap_kept (f : Field) : (s.incWrap f).kept = s.kept := (rfl)
@[simp] theorem State.incWrap_boot (f : Field) : (s.incWrap f).boot = s.boot := (rfl)
@[simp] theorem State.incWrap_per (f : Field) : (s.incWrap f).per = s.per := (rfl)
@[simp] theorem State.incWrap_life (f : Field) : (s.incWrap f).life = s.life := (rfl)
@[simp] theorem State.incWrap_keys (f : Field) : (s.incWrap f).keys = s.keys := (rfl)
@[simp] theorem State.incWrap_cipher (f : Field) : (s.incWrap f).cipher = s.cipher := (rfl)
@[simp] theorem State.incWrap_pke (f : Field) : (s.incWrap f).pke = s.pke := (rfl)
@[simp] theorem State.incWrap_trng (f : Field) : (s.incWrap f).trng = s.trng := (rfl)
@[simp] theorem State.incWrap_backup (f : Field) : (s.incWrap f).backup = s.backup := (rfl)
@[simp] theorem State.incWrap_pending (f : Field) : (s.incWrap f).pending = s.pending := (rfl)

/-! ### putS changes `regs` only -/

@[simp] theorem State.putS_mem (f : Field) (v : Int) : (s.putS f v).mem = s.mem := (rfl)
@[simp] theorem State.putS_edges (f : Field) (v : Int) : (s.putS f v).edges = s.edges := (rfl)
@[simp] theorem State.putS_tasks (f : Field) (v : Int) : (s.putS f v).tasks = s.tasks := (rfl)
@[simp] theorem State.putS_bus (f : Field) (v : Int) : (s.putS f v).bus = s.bus := (rfl)
@[simp] theorem State.putS_latch (f : Field) (v : Int) : (s.putS f v).latch = s.latch := (rfl)
@[simp] theorem State.putS_freeCounter (f : Field) (v : Int) : (s.putS f v).freeCounter = s.freeCounter := (rfl)
@[simp] theorem State.putS_tide (f : Field) (v : Int) : (s.putS f v).tide = s.tide := (rfl)
@[simp] theorem State.putS_snapshot (f : Field) (v : Int) : (s.putS f v).snapshot = s.snapshot := (rfl)
@[simp] theorem State.putS_salt (f : Field) (v : Int) : (s.putS f v).salt = s.salt := (rfl)
@[simp] theorem State.putS_sluices (f : Field) (v : Int) : (s.putS f v).sluices = s.sluices := (rfl)
@[simp] theorem State.putS_yielded (f : Field) (v : Int) : (s.putS f v).yielded = s.yielded := (rfl)
@[simp] theorem State.putS_rf (f : Field) (v : Int) : (s.putS f v).rf = s.rf := (rfl)
@[simp] theorem State.putS_lanes (f : Field) (v : Int) : (s.putS f v).lanes = s.lanes := (rfl)
@[simp] theorem State.putS_modem (f : Field) (v : Int) : (s.putS f v).modem = s.modem := (rfl)
@[simp] theorem State.putS_link (f : Field) (v : Int) : (s.putS f v).link = s.link := (rfl)
@[simp] theorem State.putS_ring (f : Field) (v : Int) : (s.putS f v).ring = s.ring := (rfl)
@[simp] theorem State.putS_sram (f : Field) (v : Int) : (s.putS f v).sram = s.sram := (rfl)
@[simp] theorem State.putS_cores (f : Field) (v : Int) : (s.putS f v).cores = s.cores := (rfl)
@[simp] theorem State.putS_flash (f : Field) (v : Int) : (s.putS f v).flash = s.flash := (rfl)
@[simp] theorem State.putS_power (f : Field) (v : Int) : (s.putS f v).power = s.power := (rfl)
@[simp] theorem State.putS_kept (f : Field) (v : Int) : (s.putS f v).kept = s.kept := (rfl)
@[simp] theorem State.putS_boot (f : Field) (v : Int) : (s.putS f v).boot = s.boot := (rfl)
@[simp] theorem State.putS_per (f : Field) (v : Int) : (s.putS f v).per = s.per := (rfl)
@[simp] theorem State.putS_life (f : Field) (v : Int) : (s.putS f v).life = s.life := (rfl)
@[simp] theorem State.putS_keys (f : Field) (v : Int) : (s.putS f v).keys = s.keys := (rfl)
@[simp] theorem State.putS_cipher (f : Field) (v : Int) : (s.putS f v).cipher = s.cipher := (rfl)
@[simp] theorem State.putS_pke (f : Field) (v : Int) : (s.putS f v).pke = s.pke := (rfl)
@[simp] theorem State.putS_trng (f : Field) (v : Int) : (s.putS f v).trng = s.trng := (rfl)
@[simp] theorem State.putS_backup (f : Field) (v : Int) : (s.putS f v).backup = s.backup := (rfl)
@[simp] theorem State.putS_pending (f : Field) (v : Int) : (s.putS f v).pending = s.pending := (rfl)

/-! ### setByte changes `mem` only -/

@[simp] theorem State.setByte_regs (a : Nat) (v : Byte) : (s.setByte a v).regs = s.regs := (rfl)
@[simp] theorem State.setByte_edges (a : Nat) (v : Byte) : (s.setByte a v).edges = s.edges := (rfl)
@[simp] theorem State.setByte_tasks (a : Nat) (v : Byte) : (s.setByte a v).tasks = s.tasks := (rfl)
@[simp] theorem State.setByte_bus (a : Nat) (v : Byte) : (s.setByte a v).bus = s.bus := (rfl)
@[simp] theorem State.setByte_latch (a : Nat) (v : Byte) : (s.setByte a v).latch = s.latch := (rfl)
@[simp] theorem State.setByte_freeCounter (a : Nat) (v : Byte) : (s.setByte a v).freeCounter = s.freeCounter := (rfl)
@[simp] theorem State.setByte_tide (a : Nat) (v : Byte) : (s.setByte a v).tide = s.tide := (rfl)
@[simp] theorem State.setByte_snapshot (a : Nat) (v : Byte) : (s.setByte a v).snapshot = s.snapshot := (rfl)
@[simp] theorem State.setByte_salt (a : Nat) (v : Byte) : (s.setByte a v).salt = s.salt := (rfl)
@[simp] theorem State.setByte_sluices (a : Nat) (v : Byte) : (s.setByte a v).sluices = s.sluices := (rfl)
@[simp] theorem State.setByte_yielded (a : Nat) (v : Byte) : (s.setByte a v).yielded = s.yielded := (rfl)
@[simp] theorem State.setByte_rf (a : Nat) (v : Byte) : (s.setByte a v).rf = s.rf := (rfl)
@[simp] theorem State.setByte_lanes (a : Nat) (v : Byte) : (s.setByte a v).lanes = s.lanes := (rfl)
@[simp] theorem State.setByte_modem (a : Nat) (v : Byte) : (s.setByte a v).modem = s.modem := (rfl)
@[simp] theorem State.setByte_link (a : Nat) (v : Byte) : (s.setByte a v).link = s.link := (rfl)
@[simp] theorem State.setByte_ring (a : Nat) (v : Byte) : (s.setByte a v).ring = s.ring := (rfl)
@[simp] theorem State.setByte_sram (a : Nat) (v : Byte) : (s.setByte a v).sram = s.sram := (rfl)
@[simp] theorem State.setByte_cores (a : Nat) (v : Byte) : (s.setByte a v).cores = s.cores := (rfl)
@[simp] theorem State.setByte_flash (a : Nat) (v : Byte) : (s.setByte a v).flash = s.flash := (rfl)
@[simp] theorem State.setByte_power (a : Nat) (v : Byte) : (s.setByte a v).power = s.power := (rfl)
@[simp] theorem State.setByte_kept (a : Nat) (v : Byte) : (s.setByte a v).kept = s.kept := (rfl)
@[simp] theorem State.setByte_boot (a : Nat) (v : Byte) : (s.setByte a v).boot = s.boot := (rfl)
@[simp] theorem State.setByte_per (a : Nat) (v : Byte) : (s.setByte a v).per = s.per := (rfl)
@[simp] theorem State.setByte_life (a : Nat) (v : Byte) : (s.setByte a v).life = s.life := (rfl)
@[simp] theorem State.setByte_keys (a : Nat) (v : Byte) : (s.setByte a v).keys = s.keys := (rfl)
@[simp] theorem State.setByte_cipher (a : Nat) (v : Byte) : (s.setByte a v).cipher = s.cipher := (rfl)
@[simp] theorem State.setByte_pke (a : Nat) (v : Byte) : (s.setByte a v).pke = s.pke := (rfl)
@[simp] theorem State.setByte_trng (a : Nat) (v : Byte) : (s.setByte a v).trng = s.trng := (rfl)
@[simp] theorem State.setByte_backup (a : Nat) (v : Byte) : (s.setByte a v).backup = s.backup := (rfl)
@[simp] theorem State.setByte_pending (a : Nat) (v : Byte) : (s.setByte a v).pending = s.pending := (rfl)

/-! ### setLatch changes `latch` only -/

@[simp] theorem State.setLatch_regs (a : Nat) (v : Word) : (s.setLatch a v).regs = s.regs := (rfl)
@[simp] theorem State.setLatch_mem (a : Nat) (v : Word) : (s.setLatch a v).mem = s.mem := (rfl)
@[simp] theorem State.setLatch_edges (a : Nat) (v : Word) : (s.setLatch a v).edges = s.edges := (rfl)
@[simp] theorem State.setLatch_tasks (a : Nat) (v : Word) : (s.setLatch a v).tasks = s.tasks := (rfl)
@[simp] theorem State.setLatch_bus (a : Nat) (v : Word) : (s.setLatch a v).bus = s.bus := (rfl)
@[simp] theorem State.setLatch_freeCounter (a : Nat) (v : Word) : (s.setLatch a v).freeCounter = s.freeCounter := (rfl)
@[simp] theorem State.setLatch_tide (a : Nat) (v : Word) : (s.setLatch a v).tide = s.tide := (rfl)
@[simp] theorem State.setLatch_snapshot (a : Nat) (v : Word) : (s.setLatch a v).snapshot = s.snapshot := (rfl)
@[simp] theorem State.setLatch_salt (a : Nat) (v : Word) : (s.setLatch a v).salt = s.salt := (rfl)
@[simp] theorem State.setLatch_sluices (a : Nat) (v : Word) : (s.setLatch a v).sluices = s.sluices := (rfl)
@[simp] theorem State.setLatch_yielded (a : Nat) (v : Word) : (s.setLatch a v).yielded = s.yielded := (rfl)
@[simp] theorem State.setLatch_rf (a : Nat) (v : Word) : (s.setLatch a v).rf = s.rf := (rfl)
@[simp] theorem State.setLatch_lanes (a : Nat) (v : Word) : (s.setLatch a v).lanes = s.lanes := (rfl)
@[simp] theorem State.setLatch_modem (a : Nat) (v : Word) : (s.setLatch a v).modem = s.modem := (rfl)
@[simp] theorem State.setLatch_link (a : Nat) (v : Word) : (s.setLatch a v).link = s.link := (rfl)
@[simp] theorem State.setLatch_ring (a : Nat) (v : Word) : (s.setLatch a v).ring = s.ring := (rfl)
@[simp] theorem State.setLatch_sram (a : Nat) (v : Word) : (s.setLatch a v).sram = s.sram := (rfl)
@[simp] theorem State.setLatch_cores (a : Nat) (v : Word) : (s.setLatch a v).cores = s.cores := (rfl)
@[simp] theorem State.setLatch_flash (a : Nat) (v : Word) : (s.setLatch a v).flash = s.flash := (rfl)
@[simp] theorem State.setLatch_power (a : Nat) (v : Word) : (s.setLatch a v).power = s.power := (rfl)
@[simp] theorem State.setLatch_kept (a : Nat) (v : Word) : (s.setLatch a v).kept = s.kept := (rfl)
@[simp] theorem State.setLatch_boot (a : Nat) (v : Word) : (s.setLatch a v).boot = s.boot := (rfl)
@[simp] theorem State.setLatch_per (a : Nat) (v : Word) : (s.setLatch a v).per = s.per := (rfl)
@[simp] theorem State.setLatch_life (a : Nat) (v : Word) : (s.setLatch a v).life = s.life := (rfl)
@[simp] theorem State.setLatch_keys (a : Nat) (v : Word) : (s.setLatch a v).keys = s.keys := (rfl)
@[simp] theorem State.setLatch_cipher (a : Nat) (v : Word) : (s.setLatch a v).cipher = s.cipher := (rfl)
@[simp] theorem State.setLatch_pke (a : Nat) (v : Word) : (s.setLatch a v).pke = s.pke := (rfl)
@[simp] theorem State.setLatch_trng (a : Nat) (v : Word) : (s.setLatch a v).trng = s.trng := (rfl)
@[simp] theorem State.setLatch_backup (a : Nat) (v : Word) : (s.setLatch a v).backup = s.backup := (rfl)
@[simp] theorem State.setLatch_pending (a : Nat) (v : Word) : (s.setLatch a v).pending = s.pending := (rfl)

/-! ### fire changes `edges` only -/

@[simp] theorem State.fire_regs (p : Nat) : (s.fire p).regs = s.regs := (rfl)
@[simp] theorem State.fire_mem (p : Nat) : (s.fire p).mem = s.mem := (rfl)
@[simp] theorem State.fire_tasks (p : Nat) : (s.fire p).tasks = s.tasks := (rfl)
@[simp] theorem State.fire_bus (p : Nat) : (s.fire p).bus = s.bus := (rfl)
@[simp] theorem State.fire_latch (p : Nat) : (s.fire p).latch = s.latch := (rfl)
@[simp] theorem State.fire_freeCounter (p : Nat) : (s.fire p).freeCounter = s.freeCounter := (rfl)
@[simp] theorem State.fire_tide (p : Nat) : (s.fire p).tide = s.tide := (rfl)
@[simp] theorem State.fire_snapshot (p : Nat) : (s.fire p).snapshot = s.snapshot := (rfl)
@[simp] theorem State.fire_salt (p : Nat) : (s.fire p).salt = s.salt := (rfl)
@[simp] theorem State.fire_sluices (p : Nat) : (s.fire p).sluices = s.sluices := (rfl)
@[simp] theorem State.fire_yielded (p : Nat) : (s.fire p).yielded = s.yielded := (rfl)
@[simp] theorem State.fire_rf (p : Nat) : (s.fire p).rf = s.rf := (rfl)
@[simp] theorem State.fire_lanes (p : Nat) : (s.fire p).lanes = s.lanes := (rfl)
@[simp] theorem State.fire_modem (p : Nat) : (s.fire p).modem = s.modem := (rfl)
@[simp] theorem State.fire_link (p : Nat) : (s.fire p).link = s.link := (rfl)
@[simp] theorem State.fire_ring (p : Nat) : (s.fire p).ring = s.ring := (rfl)
@[simp] theorem State.fire_sram (p : Nat) : (s.fire p).sram = s.sram := (rfl)
@[simp] theorem State.fire_cores (p : Nat) : (s.fire p).cores = s.cores := (rfl)
@[simp] theorem State.fire_flash (p : Nat) : (s.fire p).flash = s.flash := (rfl)
@[simp] theorem State.fire_power (p : Nat) : (s.fire p).power = s.power := (rfl)
@[simp] theorem State.fire_kept (p : Nat) : (s.fire p).kept = s.kept := (rfl)
@[simp] theorem State.fire_boot (p : Nat) : (s.fire p).boot = s.boot := (rfl)
@[simp] theorem State.fire_per (p : Nat) : (s.fire p).per = s.per := (rfl)
@[simp] theorem State.fire_life (p : Nat) : (s.fire p).life = s.life := (rfl)
@[simp] theorem State.fire_keys (p : Nat) : (s.fire p).keys = s.keys := (rfl)
@[simp] theorem State.fire_cipher (p : Nat) : (s.fire p).cipher = s.cipher := (rfl)
@[simp] theorem State.fire_pke (p : Nat) : (s.fire p).pke = s.pke := (rfl)
@[simp] theorem State.fire_trng (p : Nat) : (s.fire p).trng = s.trng := (rfl)
@[simp] theorem State.fire_backup (p : Nat) : (s.fire p).backup = s.backup := (rfl)
@[simp] theorem State.fire_pending (p : Nat) : (s.fire p).pending = s.pending := (rfl)

/-! ### fireSluice changes `edges` only -/

@[simp] theorem State.fireSluice_regs (n : Nat) : (s.fireSluice n).regs = s.regs := (rfl)
@[simp] theorem State.fireSluice_mem (n : Nat) : (s.fireSluice n).mem = s.mem := (rfl)
@[simp] theorem State.fireSluice_tasks (n : Nat) : (s.fireSluice n).tasks = s.tasks := (rfl)
@[simp] theorem State.fireSluice_bus (n : Nat) : (s.fireSluice n).bus = s.bus := (rfl)
@[simp] theorem State.fireSluice_latch (n : Nat) : (s.fireSluice n).latch = s.latch := (rfl)
@[simp] theorem State.fireSluice_freeCounter (n : Nat) : (s.fireSluice n).freeCounter = s.freeCounter := (rfl)
@[simp] theorem State.fireSluice_tide (n : Nat) : (s.fireSluice n).tide = s.tide := (rfl)
@[simp] theorem State.fireSluice_snapshot (n : Nat) : (s.fireSluice n).snapshot = s.snapshot := (rfl)
@[simp] theorem State.fireSluice_salt (n : Nat) : (s.fireSluice n).salt = s.salt := (rfl)
@[simp] theorem State.fireSluice_sluices (n : Nat) : (s.fireSluice n).sluices = s.sluices := (rfl)
@[simp] theorem State.fireSluice_yielded (n : Nat) : (s.fireSluice n).yielded = s.yielded := (rfl)
@[simp] theorem State.fireSluice_rf (n : Nat) : (s.fireSluice n).rf = s.rf := (rfl)
@[simp] theorem State.fireSluice_lanes (n : Nat) : (s.fireSluice n).lanes = s.lanes := (rfl)
@[simp] theorem State.fireSluice_modem (n : Nat) : (s.fireSluice n).modem = s.modem := (rfl)
@[simp] theorem State.fireSluice_link (n : Nat) : (s.fireSluice n).link = s.link := (rfl)
@[simp] theorem State.fireSluice_ring (n : Nat) : (s.fireSluice n).ring = s.ring := (rfl)
@[simp] theorem State.fireSluice_sram (n : Nat) : (s.fireSluice n).sram = s.sram := (rfl)
@[simp] theorem State.fireSluice_cores (n : Nat) : (s.fireSluice n).cores = s.cores := (rfl)
@[simp] theorem State.fireSluice_flash (n : Nat) : (s.fireSluice n).flash = s.flash := (rfl)
@[simp] theorem State.fireSluice_power (n : Nat) : (s.fireSluice n).power = s.power := (rfl)
@[simp] theorem State.fireSluice_kept (n : Nat) : (s.fireSluice n).kept = s.kept := (rfl)
@[simp] theorem State.fireSluice_boot (n : Nat) : (s.fireSluice n).boot = s.boot := (rfl)
@[simp] theorem State.fireSluice_per (n : Nat) : (s.fireSluice n).per = s.per := (rfl)
@[simp] theorem State.fireSluice_life (n : Nat) : (s.fireSluice n).life = s.life := (rfl)
@[simp] theorem State.fireSluice_keys (n : Nat) : (s.fireSluice n).keys = s.keys := (rfl)
@[simp] theorem State.fireSluice_cipher (n : Nat) : (s.fireSluice n).cipher = s.cipher := (rfl)
@[simp] theorem State.fireSluice_pke (n : Nat) : (s.fireSluice n).pke = s.pke := (rfl)
@[simp] theorem State.fireSluice_trng (n : Nat) : (s.fireSluice n).trng = s.trng := (rfl)
@[simp] theorem State.fireSluice_backup (n : Nat) : (s.fireSluice n).backup = s.backup := (rfl)
@[simp] theorem State.fireSluice_pending (n : Nat) : (s.fireSluice n).pending = s.pending := (rfl)

/-! ### takeTask changes `tasks` only -/

@[simp] theorem State.takeTask_regs (i : Nat) : (s.takeTask i).regs = s.regs := (rfl)
@[simp] theorem State.takeTask_mem (i : Nat) : (s.takeTask i).mem = s.mem := (rfl)
@[simp] theorem State.takeTask_edges (i : Nat) : (s.takeTask i).edges = s.edges := (rfl)
@[simp] theorem State.takeTask_bus (i : Nat) : (s.takeTask i).bus = s.bus := (rfl)
@[simp] theorem State.takeTask_latch (i : Nat) : (s.takeTask i).latch = s.latch := (rfl)
@[simp] theorem State.takeTask_freeCounter (i : Nat) : (s.takeTask i).freeCounter = s.freeCounter := (rfl)
@[simp] theorem State.takeTask_tide (i : Nat) : (s.takeTask i).tide = s.tide := (rfl)
@[simp] theorem State.takeTask_snapshot (i : Nat) : (s.takeTask i).snapshot = s.snapshot := (rfl)
@[simp] theorem State.takeTask_salt (i : Nat) : (s.takeTask i).salt = s.salt := (rfl)
@[simp] theorem State.takeTask_sluices (i : Nat) : (s.takeTask i).sluices = s.sluices := (rfl)
@[simp] theorem State.takeTask_yielded (i : Nat) : (s.takeTask i).yielded = s.yielded := (rfl)
@[simp] theorem State.takeTask_rf (i : Nat) : (s.takeTask i).rf = s.rf := (rfl)
@[simp] theorem State.takeTask_lanes (i : Nat) : (s.takeTask i).lanes = s.lanes := (rfl)
@[simp] theorem State.takeTask_modem (i : Nat) : (s.takeTask i).modem = s.modem := (rfl)
@[simp] theorem State.takeTask_link (i : Nat) : (s.takeTask i).link = s.link := (rfl)
@[simp] theorem State.takeTask_ring (i : Nat) : (s.takeTask i).ring = s.ring := (rfl)
@[simp] theorem State.takeTask_sram (i : Nat) : (s.takeTask i).sram = s.sram := (rfl)
@[simp] theorem State.takeTask_cores (i : Nat) : (s.takeTask i).cores = s.cores := (rfl)
@[simp] theorem State.takeTask_flash (i : Nat) : (s.takeTask i).flash = s.flash := (rfl)
@[simp] theorem State.takeTask_power (i : Nat) : (s.takeTask i).power = s.power := (rfl)
@[simp] theorem State.takeTask_kept (i : Nat) : (s.takeTask i).kept = s.kept := (rfl)
@[simp] theorem State.takeTask_boot (i : Nat) : (s.takeTask i).boot = s.boot := (rfl)
@[simp] theorem State.takeTask_per (i : Nat) : (s.takeTask i).per = s.per := (rfl)
@[simp] theorem State.takeTask_life (i : Nat) : (s.takeTask i).life = s.life := (rfl)
@[simp] theorem State.takeTask_keys (i : Nat) : (s.takeTask i).keys = s.keys := (rfl)
@[simp] theorem State.takeTask_cipher (i : Nat) : (s.takeTask i).cipher = s.cipher := (rfl)
@[simp] theorem State.takeTask_pke (i : Nat) : (s.takeTask i).pke = s.pke := (rfl)
@[simp] theorem State.takeTask_trng (i : Nat) : (s.takeTask i).trng = s.trng := (rfl)
@[simp] theorem State.takeTask_backup (i : Nat) : (s.takeTask i).backup = s.backup := (rfl)
@[simp] theorem State.takeTask_pending (i : Nat) : (s.takeTask i).pending = s.pending := (rfl)

/-! ### freeNext changes `freeCounter` only -/

@[simp] theorem State.freeNext_regs : (s.freeNext).regs = s.regs := (rfl)
@[simp] theorem State.freeNext_mem : (s.freeNext).mem = s.mem := (rfl)
@[simp] theorem State.freeNext_edges : (s.freeNext).edges = s.edges := (rfl)
@[simp] theorem State.freeNext_tasks : (s.freeNext).tasks = s.tasks := (rfl)
@[simp] theorem State.freeNext_bus : (s.freeNext).bus = s.bus := (rfl)
@[simp] theorem State.freeNext_latch : (s.freeNext).latch = s.latch := (rfl)
@[simp] theorem State.freeNext_tide : (s.freeNext).tide = s.tide := (rfl)
@[simp] theorem State.freeNext_snapshot : (s.freeNext).snapshot = s.snapshot := (rfl)
@[simp] theorem State.freeNext_salt : (s.freeNext).salt = s.salt := (rfl)
@[simp] theorem State.freeNext_sluices : (s.freeNext).sluices = s.sluices := (rfl)
@[simp] theorem State.freeNext_yielded : (s.freeNext).yielded = s.yielded := (rfl)
@[simp] theorem State.freeNext_rf : (s.freeNext).rf = s.rf := (rfl)
@[simp] theorem State.freeNext_lanes : (s.freeNext).lanes = s.lanes := (rfl)
@[simp] theorem State.freeNext_modem : (s.freeNext).modem = s.modem := (rfl)
@[simp] theorem State.freeNext_link : (s.freeNext).link = s.link := (rfl)
@[simp] theorem State.freeNext_ring : (s.freeNext).ring = s.ring := (rfl)
@[simp] theorem State.freeNext_sram : (s.freeNext).sram = s.sram := (rfl)
@[simp] theorem State.freeNext_cores : (s.freeNext).cores = s.cores := (rfl)
@[simp] theorem State.freeNext_flash : (s.freeNext).flash = s.flash := (rfl)
@[simp] theorem State.freeNext_power : (s.freeNext).power = s.power := (rfl)
@[simp] theorem State.freeNext_kept : (s.freeNext).kept = s.kept := (rfl)
@[simp] theorem State.freeNext_boot : (s.freeNext).boot = s.boot := (rfl)
@[simp] theorem State.freeNext_per : (s.freeNext).per = s.per := (rfl)
@[simp] theorem State.freeNext_life : (s.freeNext).life = s.life := (rfl)
@[simp] theorem State.freeNext_keys : (s.freeNext).keys = s.keys := (rfl)
@[simp] theorem State.freeNext_cipher : (s.freeNext).cipher = s.cipher := (rfl)
@[simp] theorem State.freeNext_pke : (s.freeNext).pke = s.pke := (rfl)
@[simp] theorem State.freeNext_trng : (s.freeNext).trng = s.trng := (rfl)
@[simp] theorem State.freeNext_backup : (s.freeNext).backup = s.backup := (rfl)
@[simp] theorem State.freeNext_pending : (s.freeNext).pending = s.pending := (rfl)

end Sys2Proof.Machine
end

