-- ==== Sys2Proof/Laws/Memory.lean ====
section
/-!
SUPPORT. Reading an octet or a number after each operation that writes memory.
-/

namespace Sys2Proof.Machine

variable {s : State} {a b n x : Nat} {v : Byte} {l : List Byte}

/-! ### Octets -/

theorem State.byte_setByte : (s.setByte a v).byte b = if b = a then v else s.byte b := sparseGet_set

@[simp] theorem State.byte_setByte_self : (s.setByte a v).byte a = v := by simp [State.byte_setByte]

theorem State.byte_setByte_ne (h : b ≠ a) : (s.setByte a v).byte b = s.byte b := by simp [State.byte_setByte, h]

theorem State.byte_congr {t : State} (h : t.mem = s.mem) : t.byte b = s.byte b := by simp [State.byte, h]

/-- Octets written from a on: each reads as written, every other octet as before. -/
theorem State.byte_setBytes :
    (s.setBytes a l).byte b = if a ≤ b ∧ b < a + l.length then l.getD (b - a) 0 else s.byte b := by
  induction l generalizing a s with
  | nil => rw [State.setBytes, if_neg (by simp only [List.length_nil]; omega)]
  | cons c t ih =>
    rw [State.setBytes, ih, State.byte_setByte]
    by_cases h : b = a
    · subst h
      rw [if_neg (by omega), if_pos rfl, if_pos (by simp)]; simp
    · by_cases h2 : a + 1 ≤ b ∧ b < a + 1 + t.length
      · rw [if_pos h2, if_pos (by simp only [List.length_cons]; omega)]
        rw [show b - a = (b - (a + 1)) + 1 by omega, List.getD_cons_succ]
      · rw [if_neg h2, if_neg h, if_neg (by simp only [List.length_cons]; omega)]

theorem State.byte_setBytes_out (h : b < a ∨ a + l.length ≤ b) : (s.setBytes a l).byte b = s.byte b := by
  rw [State.byte_setBytes, if_neg (by omega)]

@[simp] theorem length_bytesLE : (bytesLE n x).length = n := by
  induction n generalizing x with
  | zero => rfl
  | succ n ih => simp [bytesLE, ih]

/-- A number written leaves every octet outside its n octets as it was. -/
theorem State.byte_setNum_out (h : b < a ∨ a + n ≤ b) : (s.setNum a n x).byte b = s.byte b :=
  State.byte_setBytes_out (by simpa using h)

/-- Octets wiped read as octets that nothing has written; every other as before. -/
theorem State.byte_wipe {lo len : Nat} :
    (wipe lo len s).byte b = if b < lo ∨ lo + len ≤ b then s.byte b else memDefault b := by
  simp only [State.byte, wipe, sparseGet_filter]
  by_cases h : b < lo ∨ lo + len ≤ b <;> simp [h]

/-- A change of registers and of the blocks' own fields leaves every octet as it was. -/
@[simp] theorem State.byte_upd {r v1 v2 v3 v4 v5 v6 v7 v8 v9 v10 v11 v12 v13 v14 v15 v16 v17 v18 v19 v20 v21 v22 v23 v24 v25 v26 v27 v28 v29} :
    State.byte (.mk r s.mem v1 v2 v3 v4 v5 v6 v7 v8 v9 v10 v11 v12 v13 v14 v15 v16 v17 v18 v19 v20 v21 v22 v23 v24 v25 v26 v27 v28 v29) a = s.byte a := (rfl)

@[simp] theorem State.byte_wr {c : Nat} {x : Word} : (s.wr c x).byte a = s.byte a := (rfl)
@[simp] theorem State.byte_put {f : Field} {x : Nat} : (s.put f x).byte a = s.byte a := (rfl)
@[simp] theorem State.byte_resetRegs {p : Nat → Bool} : (s.resetRegs p).byte a = s.byte a := (rfl)
@[simp] theorem State.byte_putBit {c k : Nat} {x : Bool} : (s.putBit c k x).byte a = s.byte a := (rfl)
@[simp] theorem State.byte_flag {f : Field} : (s.flag f).byte a = s.byte a := (rfl)
@[simp] theorem State.byte_unflag {f : Field} : (s.unflag f).byte a = s.byte a := (rfl)
@[simp] theorem State.byte_count {f : Field} {k : Nat} : (s.count f k).byte a = s.byte a := (rfl)
@[simp] theorem State.byte_inc {f : Field} : (s.inc f).byte a = s.byte a := (rfl)
@[simp] theorem State.byte_incWrap {f : Field} : (s.incWrap f).byte a = s.byte a := (rfl)
@[simp] theorem State.byte_putS {f : Field} {x : Int} : (s.putS f x).byte a = s.byte a := (rfl)
@[simp] theorem State.byte_fire {p : Nat} : (s.fire p).byte a = s.byte a := (rfl)
@[simp] theorem State.byte_takeTask {k : Nat} : (s.takeTask k).byte a = s.byte a := (rfl)
@[simp] theorem State.byte_freeNext : (s.freeNext).byte a = s.byte a := (rfl)

/-! ### Numbers -/

theorem natOfLE_bytesLE : natOfLE (bytesLE n x) = x % 256 ^ n := by
  induction n generalizing x with
  | zero => simp [bytesLE, natOfLE, Nat.mod_one]
  | succ n ih =>
    have h : x % 256 ^ (n + 1) = x % 256 + 256 * (x / 256 % 256 ^ n) := by rw [Nat.pow_succ', Nat.mod_mul]
    rw [bytesLE, natOfLE, ih, BitVec.toNat_ofNat, h]

/-- Octets from a on as they were written. -/
theorem State.bytes_setBytes : (s.setBytes a l).bytes a l.length = l := by
  induction l generalizing a s with
  | nil => rfl
  | cons c t ih =>
    have h : (s.setBytes a (c :: t)).byte a = c := by
      rw [State.byte_setBytes, if_pos (by simp)]; simp
    rw [List.length_cons, State.bytes, h, State.setBytes, ih]

/-- A number reads as it was written, modulo its size. -/
theorem State.num_setNum : (s.setNum a n x).num a n = x % 256 ^ n := by
  have h := State.bytes_setBytes (s := s) (a := a) (l := bytesLE n x)
  rw [length_bytesLE] at h
  rw [State.num, State.setNum, h, natOfLE_bytesLE]

theorem State.bytes_congr {t : State} (h : ∀ c, a ≤ c → c < a + n → t.byte c = s.byte c) : t.bytes a n = s.bytes a n := by
  induction n generalizing a with
  | zero => rfl
  | succ n ih =>
    rw [State.bytes, State.bytes, h a (Nat.le_refl _) (by omega), ih fun c h1 h2 => h c (by omega) (by omega)]

theorem State.num_congr {t : State} (h : ∀ c, a ≤ c → c < a + n → t.byte c = s.byte c) : t.num a n = s.num a n := by
  simp [State.num, State.bytes_congr h]

/-- A number written leaves the numbers that share no octet with it as they were. -/
theorem State.num_setNum_apart {m : Nat} (h : b + m ≤ a ∨ a + n ≤ b) : (s.setNum a n x).num b m = s.num b m :=
  State.num_congr fun c h1 h2 => State.byte_setNum_out (by omega)

/-! ### What a write of octets leaves as it was -/

/-- Octets written change `mem` only. -/
theorem State.setBytes_frame : s.setBytes a l = { s with mem := (s.setBytes a l).mem } := by
  induction l generalizing a s with
  | nil => rfl
  | cons c t ih => rw [State.setBytes, ih]; rfl

/-- A number written changes `mem` only. -/
theorem State.setNum_frame : s.setNum a n x = { s with mem := (s.setNum a n x).mem } := State.setBytes_frame

@[simp] theorem State.setBytes_regs : (s.setBytes a l).regs = s.regs := by rw [State.setBytes_frame]
@[simp] theorem State.setBytes_edges : (s.setBytes a l).edges = s.edges := by rw [State.setBytes_frame]
@[simp] theorem State.setBytes_tasks : (s.setBytes a l).tasks = s.tasks := by rw [State.setBytes_frame]
@[simp] theorem State.setBytes_bus : (s.setBytes a l).bus = s.bus := by rw [State.setBytes_frame]
@[simp] theorem State.setBytes_latch : (s.setBytes a l).latch = s.latch := by rw [State.setBytes_frame]
@[simp] theorem State.setBytes_freeCounter : (s.setBytes a l).freeCounter = s.freeCounter := by rw [State.setBytes_frame]
@[simp] theorem State.setBytes_tide : (s.setBytes a l).tide = s.tide := by rw [State.setBytes_frame]
@[simp] theorem State.setBytes_snapshot : (s.setBytes a l).snapshot = s.snapshot := by rw [State.setBytes_frame]
@[simp] theorem State.setBytes_salt : (s.setBytes a l).salt = s.salt := by rw [State.setBytes_frame]
@[simp] theorem State.setBytes_sluices : (s.setBytes a l).sluices = s.sluices := by rw [State.setBytes_frame]
@[simp] theorem State.setBytes_yielded : (s.setBytes a l).yielded = s.yielded := by rw [State.setBytes_frame]
@[simp] theorem State.setBytes_rf : (s.setBytes a l).rf = s.rf := by rw [State.setBytes_frame]
@[simp] theorem State.setBytes_lanes : (s.setBytes a l).lanes = s.lanes := by rw [State.setBytes_frame]
@[simp] theorem State.setBytes_modem : (s.setBytes a l).modem = s.modem := by rw [State.setBytes_frame]
@[simp] theorem State.setBytes_link : (s.setBytes a l).link = s.link := by rw [State.setBytes_frame]
@[simp] theorem State.setBytes_ring : (s.setBytes a l).ring = s.ring := by rw [State.setBytes_frame]
@[simp] theorem State.setBytes_sram : (s.setBytes a l).sram = s.sram := by rw [State.setBytes_frame]
@[simp] theorem State.setBytes_cores : (s.setBytes a l).cores = s.cores := by rw [State.setBytes_frame]
@[simp] theorem State.setBytes_flash : (s.setBytes a l).flash = s.flash := by rw [State.setBytes_frame]
@[simp] theorem State.setBytes_power : (s.setBytes a l).power = s.power := by rw [State.setBytes_frame]
@[simp] theorem State.setBytes_kept : (s.setBytes a l).kept = s.kept := by rw [State.setBytes_frame]
@[simp] theorem State.setBytes_boot : (s.setBytes a l).boot = s.boot := by rw [State.setBytes_frame]
@[simp] theorem State.setBytes_per : (s.setBytes a l).per = s.per := by rw [State.setBytes_frame]
@[simp] theorem State.setBytes_life : (s.setBytes a l).life = s.life := by rw [State.setBytes_frame]
@[simp] theorem State.setBytes_keys : (s.setBytes a l).keys = s.keys := by rw [State.setBytes_frame]
@[simp] theorem State.setBytes_cipher : (s.setBytes a l).cipher = s.cipher := by rw [State.setBytes_frame]
@[simp] theorem State.setBytes_pke : (s.setBytes a l).pke = s.pke := by rw [State.setBytes_frame]
@[simp] theorem State.setBytes_trng : (s.setBytes a l).trng = s.trng := by rw [State.setBytes_frame]
@[simp] theorem State.setBytes_backup : (s.setBytes a l).backup = s.backup := by rw [State.setBytes_frame]
@[simp] theorem State.setBytes_pending : (s.setBytes a l).pending = s.pending := by rw [State.setBytes_frame]

@[simp] theorem State.setNum_regs : (s.setNum a n x).regs = s.regs := by rw [State.setNum_frame]
@[simp] theorem State.setNum_edges : (s.setNum a n x).edges = s.edges := by rw [State.setNum_frame]
@[simp] theorem State.setNum_tasks : (s.setNum a n x).tasks = s.tasks := by rw [State.setNum_frame]
@[simp] theorem State.setNum_bus : (s.setNum a n x).bus = s.bus := by rw [State.setNum_frame]
@[simp] theorem State.setNum_latch : (s.setNum a n x).latch = s.latch := by rw [State.setNum_frame]
@[simp] theorem State.setNum_freeCounter : (s.setNum a n x).freeCounter = s.freeCounter := by rw [State.setNum_frame]
@[simp] theorem State.setNum_tide : (s.setNum a n x).tide = s.tide := by rw [State.setNum_frame]
@[simp] theorem State.setNum_snapshot : (s.setNum a n x).snapshot = s.snapshot := by rw [State.setNum_frame]
@[simp] theorem State.setNum_salt : (s.setNum a n x).salt = s.salt := by rw [State.setNum_frame]
@[simp] theorem State.setNum_sluices : (s.setNum a n x).sluices = s.sluices := by rw [State.setNum_frame]
@[simp] theorem State.setNum_yielded : (s.setNum a n x).yielded = s.yielded := by rw [State.setNum_frame]
@[simp] theorem State.setNum_rf : (s.setNum a n x).rf = s.rf := by rw [State.setNum_frame]
@[simp] theorem State.setNum_lanes : (s.setNum a n x).lanes = s.lanes := by rw [State.setNum_frame]
@[simp] theorem State.setNum_modem : (s.setNum a n x).modem = s.modem := by rw [State.setNum_frame]
@[simp] theorem State.setNum_link : (s.setNum a n x).link = s.link := by rw [State.setNum_frame]
@[simp] theorem State.setNum_ring : (s.setNum a n x).ring = s.ring := by rw [State.setNum_frame]
@[simp] theorem State.setNum_sram : (s.setNum a n x).sram = s.sram := by rw [State.setNum_frame]
@[simp] theorem State.setNum_cores : (s.setNum a n x).cores = s.cores := by rw [State.setNum_frame]
@[simp] theorem State.setNum_flash : (s.setNum a n x).flash = s.flash := by rw [State.setNum_frame]
@[simp] theorem State.setNum_power : (s.setNum a n x).power = s.power := by rw [State.setNum_frame]
@[simp] theorem State.setNum_kept : (s.setNum a n x).kept = s.kept := by rw [State.setNum_frame]
@[simp] theorem State.setNum_boot : (s.setNum a n x).boot = s.boot := by rw [State.setNum_frame]
@[simp] theorem State.setNum_per : (s.setNum a n x).per = s.per := by rw [State.setNum_frame]
@[simp] theorem State.setNum_life : (s.setNum a n x).life = s.life := by rw [State.setNum_frame]
@[simp] theorem State.setNum_keys : (s.setNum a n x).keys = s.keys := by rw [State.setNum_frame]
@[simp] theorem State.setNum_cipher : (s.setNum a n x).cipher = s.cipher := by rw [State.setNum_frame]
@[simp] theorem State.setNum_pke : (s.setNum a n x).pke = s.pke := by rw [State.setNum_frame]
@[simp] theorem State.setNum_trng : (s.setNum a n x).trng = s.trng := by rw [State.setNum_frame]
@[simp] theorem State.setNum_backup : (s.setNum a n x).backup = s.backup := by rw [State.setNum_frame]
@[simp] theorem State.setNum_pending : (s.setNum a n x).pending = s.pending := by rw [State.setNum_frame]

end Sys2Proof.Machine
end

