-- ==== Sys2Proof/Laws/Registers.lean ====
section
/-!
SUPPORT. Reading a register or a field after each operation that writes one.
-/

namespace Sys2Proof.Machine

variable {s : State} {a b : Nat} {f g : Field} {v w : Nat}

/-! ### Whole registers -/

theorem State.rd_wr {x : Word} : (s.wr a x).rd b = if b = a then x else s.rd b := sparseGet_set

@[simp] theorem State.rd_wr_self {x : Word} : (s.wr a x).rd a = x := by simp [State.rd_wr]

theorem State.rd_wr_ne {x : Word} (h : b ≠ a) : (s.wr a x).rd b = s.rd b := by simp [State.rd_wr, h]

/-- A put leaves every other register as it was. -/
theorem State.rd_put_ne (h : b ≠ f.addr) : (s.put f v).rd b = s.rd b := State.rd_wr_ne h

theorem State.rd_put_self : (s.put f v).rd f.addr = BitVec.ofNat 32 (fieldPut f v (s.rd f.addr).toNat) :=
  State.rd_wr_self

theorem State.rd_resetRegs {p : Nat → Bool} : (s.resetRegs p).rd a = if p a then resetValue a else s.rd a := by
  simp only [State.rd, State.resetRegs, sparseGet_filter]
  cases p a <;> simp

theorem State.rd_congr {t : State} (h : t.regs = s.regs) : t.rd a = s.rd a := by simp [State.rd, h]

theorem State.get_congr {t : State} (h : t.regs = s.regs) : t.get f = s.get f := by simp [State.get, State.rd_congr h]

/-! ### What reads no register file reads as before -/

/-- A change of the blocks' own fields leaves every register as it was. -/
@[simp] theorem State.rd_upd {v0 v1 v2 v3 v4 v5 v6 v7 v8 v9 v10 v11 v12 v13 v14 v15 v16 v17 v18 v19 v20 v21 v22 v23 v24 v25 v26 v27 v28 v29} :
    State.rd (.mk s.regs v0 v1 v2 v3 v4 v5 v6 v7 v8 v9 v10 v11 v12 v13 v14 v15 v16 v17 v18 v19 v20 v21 v22 v23 v24 v25 v26 v27 v28 v29) a = s.rd a := (rfl)

@[simp] theorem State.get_upd {v0 v1 v2 v3 v4 v5 v6 v7 v8 v9 v10 v11 v12 v13 v14 v15 v16 v17 v18 v19 v20 v21 v22 v23 v24 v25 v26 v27 v28 v29} :
    State.get (.mk s.regs v0 v1 v2 v3 v4 v5 v6 v7 v8 v9 v10 v11 v12 v13 v14 v15 v16 v17 v18 v19 v20 v21 v22 v23 v24 v25 v26 v27 v28 v29) f = s.get f := (rfl)

@[simp] theorem State.has_upd {v0 v1 v2 v3 v4 v5 v6 v7 v8 v9 v10 v11 v12 v13 v14 v15 v16 v17 v18 v19 v20 v21 v22 v23 v24 v25 v26 v27 v28 v29} :
    State.has (.mk s.regs v0 v1 v2 v3 v4 v5 v6 v7 v8 v9 v10 v11 v12 v13 v14 v15 v16 v17 v18 v19 v20 v21 v22 v23 v24 v25 v26 v27 v28 v29) f = s.has f := (rfl)

@[simp] theorem State.bit_upd {k : Nat} {v0 v1 v2 v3 v4 v5 v6 v7 v8 v9 v10 v11 v12 v13 v14 v15 v16 v17 v18 v19 v20 v21 v22 v23 v24 v25 v26 v27 v28 v29} :
    State.bit (.mk s.regs v0 v1 v2 v3 v4 v5 v6 v7 v8 v9 v10 v11 v12 v13 v14 v15 v16 v17 v18 v19 v20 v21 v22 v23 v24 v25 v26 v27 v28 v29) a k = s.bit a k := (rfl)

@[simp] theorem State.rd_fire {p : Nat} : (s.fire p).rd a = s.rd a := (rfl)
@[simp] theorem State.get_fire {p : Nat} : (s.fire p).get f = s.get f := (rfl)
@[simp] theorem State.has_fire {p : Nat} : (s.fire p).has f = s.has f := (rfl)
@[simp] theorem State.bit_fire {p : Nat} {k : Nat} : (s.fire p).bit a k = s.bit a k := (rfl)

@[simp] theorem State.rd_fireSluice {n : Nat} : (s.fireSluice n).rd a = s.rd a := (rfl)
@[simp] theorem State.get_fireSluice {n : Nat} : (s.fireSluice n).get f = s.get f := (rfl)
@[simp] theorem State.has_fireSluice {n : Nat} : (s.fireSluice n).has f = s.has f := (rfl)
@[simp] theorem State.bit_fireSluice {n : Nat} {k : Nat} : (s.fireSluice n).bit a k = s.bit a k := (rfl)

@[simp] theorem State.rd_takeTask {n : Nat} : (s.takeTask n).rd a = s.rd a := (rfl)
@[simp] theorem State.get_takeTask {n : Nat} : (s.takeTask n).get f = s.get f := (rfl)
@[simp] theorem State.has_takeTask {n : Nat} : (s.takeTask n).has f = s.has f := (rfl)
@[simp] theorem State.bit_takeTask {n : Nat} {k : Nat} : (s.takeTask n).bit a k = s.bit a k := (rfl)

@[simp] theorem State.rd_freeNext : (s.freeNext).rd a = s.rd a := (rfl)
@[simp] theorem State.get_freeNext : (s.freeNext).get f = s.get f := (rfl)
@[simp] theorem State.has_freeNext : (s.freeNext).has f = s.has f := (rfl)
@[simp] theorem State.bit_freeNext {k : Nat} : (s.freeNext).bit a k = s.bit a k := (rfl)

@[simp] theorem State.rd_setLatch {n : Nat} {x : Word} : (s.setLatch n x).rd a = s.rd a := (rfl)
@[simp] theorem State.get_setLatch {n : Nat} {x : Word} : (s.setLatch n x).get f = s.get f := (rfl)
@[simp] theorem State.has_setLatch {n : Nat} {x : Word} : (s.setLatch n x).has f = s.has f := (rfl)
@[simp] theorem State.bit_setLatch {n : Nat} {x : Word} {k : Nat} : (s.setLatch n x).bit a k = s.bit a k := (rfl)

@[simp] theorem State.rd_setByte {n : Nat} {x : Byte} : (s.setByte n x).rd a = s.rd a := (rfl)
@[simp] theorem State.get_setByte {n : Nat} {x : Byte} : (s.setByte n x).get f = s.get f := (rfl)
@[simp] theorem State.has_setByte {n : Nat} {x : Byte} : (s.setByte n x).has f = s.has f := (rfl)
@[simp] theorem State.bit_setByte {n : Nat} {x : Byte} {k : Nat} : (s.setByte n x).bit a k = s.bit a k := (rfl)

/-! ### Fields -/

theorem State.get_lt : s.get f < 2 ^ f.width := Nat.mod_lt _ (Nat.two_pow_pos _)

theorem fieldPut_lt {r : Nat} (hf : f.lo + f.width ≤ 32) (hr : r < 2 ^ 32) : fieldPut f v r < 2 ^ 32 := by
  unfold fieldPut
  obtain ⟨k, hk⟩ := Nat.le.dest hf
  have hw : v % 2 ^ f.width < 2 ^ f.width := Nat.mod_lt _ (Nat.two_pow_pos _)
  have hl : r % 2 ^ f.lo < 2 ^ f.lo := Nat.mod_lt _ (Nat.two_pow_pos _)
  have e32 : 2 ^ 32 = 2 ^ (f.lo + f.width) * 2 ^ k := by rw [← Nat.pow_add, hk]
  have ew : 2 ^ (f.lo + f.width) = 2 ^ f.width * 2 ^ f.lo := by rw [Nat.add_comm, Nat.pow_add]
  have hq : r / 2 ^ (f.lo + f.width) < 2 ^ k := by
    rw [Nat.div_lt_iff_lt_mul (Nat.two_pow_pos _), Nat.mul_comm, ← e32]; exact hr
  have hin : v % 2 ^ f.width * 2 ^ f.lo + r % 2 ^ f.lo < 2 ^ (f.lo + f.width) := by
    rw [ew]
    calc _ < v % 2 ^ f.width * 2 ^ f.lo + 2 ^ f.lo := by omega
      _ = (v % 2 ^ f.width + 1) * 2 ^ f.lo := by rw [Nat.add_mul, Nat.one_mul]
      _ ≤ _ := Nat.mul_le_mul_right _ hw
  calc _ < r / 2 ^ (f.lo + f.width) * 2 ^ (f.lo + f.width) + 2 ^ (f.lo + f.width) := by omega
    _ = (r / 2 ^ (f.lo + f.width) + 1) * 2 ^ (f.lo + f.width) := by rw [Nat.add_mul, Nat.one_mul]
    _ ≤ 2 ^ k * 2 ^ (f.lo + f.width) := Nat.mul_le_mul_right _ hq
    _ = 2 ^ 32 := by rw [e32, Nat.mul_comm]

/-- The bits of a register after a put: those of the field are the value's, every other bit stays. -/
theorem testBit_fieldPut {r i : Nat} :
    (fieldPut f v r).testBit i = if f.lo ≤ i ∧ i < f.lo + f.width then v.testBit (i - f.lo) else r.testBit i := by
  have hw : v % 2 ^ f.width < 2 ^ f.width := Nat.mod_lt _ (Nat.two_pow_pos _)
  have hl : r % 2 ^ f.lo < 2 ^ f.lo := Nat.mod_lt _ (Nat.two_pow_pos _)
  have ew : 2 ^ (f.lo + f.width) = 2 ^ f.lo * 2 ^ f.width := Nat.pow_add ..
  have hin : 2 ^ f.lo * (v % 2 ^ f.width) + r % 2 ^ f.lo < 2 ^ (f.lo + f.width) := by
    rw [ew]
    calc _ < 2 ^ f.lo * (v % 2 ^ f.width) + 2 ^ f.lo := by omega
      _ = 2 ^ f.lo * (v % 2 ^ f.width + 1) := by rw [Nat.mul_add, Nat.mul_one]
      _ ≤ _ := Nat.mul_le_mul_left _ hw
  have e : fieldPut f v r = 2 ^ (f.lo + f.width) * (r / 2 ^ (f.lo + f.width)) + (2 ^ f.lo * (v % 2 ^ f.width) + r % 2 ^ f.lo) := by
    unfold fieldPut
    rw [Nat.mul_comm (r / _), Nat.mul_comm (v % _)]; omega
  rw [e, Nat.testBit_two_pow_mul_add _ hin, Nat.testBit_two_pow_mul_add _ hl]
  split
  · split
    · next h1 h2 =>
      rw [if_neg (by omega), Nat.testBit_mod_two_pow]; simp [h2]
    · next h1 h2 =>
      rw [if_pos (by omega), Nat.testBit_mod_two_pow]
      simp [show i - f.lo < f.width by omega]
  · next h1 =>
    rw [if_neg (by omega), Nat.testBit_div_two_pow]
    congr 1; omega

theorem testBit_get {i : Nat} : (s.get f).testBit i = (decide (i < f.width) && (s.rd f.addr).toNat.testBit (i + f.lo)) := by
  rw [State.get, Nat.testBit_mod_two_pow, Nat.testBit_div_two_pow, Nat.add_comm]

theorem testBit_rd_put (hf : f.lo + f.width ≤ 32) {i : Nat} :
    ((s.put f v).rd f.addr).toNat.testBit i
      = if f.lo ≤ i ∧ i < f.lo + f.width then v.testBit (i - f.lo) else (s.rd f.addr).toNat.testBit i := by
  rw [State.rd_put_self, BitVec.toNat_ofNat, Nat.mod_eq_of_lt (fieldPut_lt hf (s.rd f.addr).isLt), testBit_fieldPut]

/-- A field reads as it was put, modulo its width. -/
theorem State.get_put_self (hf : f.lo + f.width ≤ 32) : (s.put f v).get f = v % 2 ^ f.width := by
  refine Nat.eq_of_testBit_eq fun i => ?_
  rw [testBit_get, testBit_rd_put hf, Nat.testBit_mod_two_pow]
  by_cases h : i < f.width
  · rw [if_pos (by omega)]; simp [h]
  · simp [h]

/-- A put leaves the fields of every other register as they were. -/
theorem State.get_put_addr (h : g.addr ≠ f.addr) : (s.put f v).get g = s.get g := by
  simp [State.get, State.rd_put_ne h]

/-- A put leaves the fields of the same register that share no bit with it as they were. -/
theorem State.get_put_bits (hf : f.lo + f.width ≤ 32) (ha : g.addr = f.addr)
    (h : f.lo + f.width ≤ g.lo ∨ g.lo + g.width ≤ f.lo) : (s.put f v).get g = s.get g := by
  refine Nat.eq_of_testBit_eq fun i => ?_
  rw [testBit_get, testBit_get, ha, testBit_rd_put hf]
  by_cases hi : i < g.width
  · rw [if_neg (by omega)]
  · simp [hi]

/-- Two fields that share no bit. -/
def Field.apart (f g : Field) : Bool := f.addr != g.addr || decide (f.lo + f.width ≤ g.lo ∨ g.lo + g.width ≤ f.lo)

theorem State.get_put_apart (hf : f.lo + f.width ≤ 32) (h : f.apart g = true) : (s.put f v).get g = s.get g := by
  by_cases ha : g.addr = f.addr
  · refine State.get_put_bits hf ha ?_
    simpa [Field.apart, ha] using h
  · exact State.get_put_addr ha

theorem State.has_iff : s.has f = true ↔ s.get f ≠ 0 := by simp [State.has]

theorem State.has_eq_of_get {t : State} (h : t.get f = s.get f) : t.has f = s.has f := by simp [State.has, h]

/-! ### Bits -/

theorem State.bit_eq_testBit {k : Nat} : s.bit a k = (s.rd a).toNat.testBit k := by
  rw [State.bit, Nat.testBit_eq_decide_div_mod_eq]
  rfl

/-- A bit reads as it was put. -/
theorem State.bit_putBit_self {k : Nat} {c : Bool} (hk : k < 32) : (s.putBit a k c).bit a k = c := by
  rw [State.bit_eq_testBit, State.putBit, testBit_rd_put (f := ⟨a, k, 1⟩) (Nat.succ_le_of_lt hk), if_pos (by simp)]
  cases c <;> simp

/-- Putting a bit leaves the other bits of the register as they were. -/
theorem State.bit_putBit_ne {k j : Nat} {c : Bool} (hk : k < 32) (h : j ≠ k) : (s.putBit a k c).bit a j = s.bit a j := by
  rw [State.bit_eq_testBit, State.bit_eq_testBit, State.putBit, testBit_rd_put (f := ⟨a, k, 1⟩) (Nat.succ_le_of_lt hk),
    if_neg (by simp; omega)]

theorem State.rd_flag_ne (h : b ≠ f.addr) : (s.flag f).rd b = s.rd b := State.rd_put_ne h

theorem State.rd_unflag_ne (h : b ≠ f.addr) : (s.unflag f).rd b = s.rd b := State.rd_put_ne h

theorem State.rd_count_ne {n : Nat} (h : b ≠ f.addr) : (s.count f n).rd b = s.rd b := State.rd_put_ne h

theorem State.rd_inc_ne (h : b ≠ f.addr) : (s.inc f).rd b = s.rd b := State.rd_put_ne h

theorem State.rd_incWrap_ne (h : b ≠ f.addr) : (s.incWrap f).rd b = s.rd b := State.rd_put_ne h

theorem State.rd_putS_ne {i : Int} (h : b ≠ f.addr) : (s.putS f i).rd b = s.rd b := State.rd_put_ne h

theorem State.rd_putBit_ne {k : Nat} {c : Bool} (h : b ≠ a) : (s.putBit a k c).rd b = s.rd b := State.rd_put_ne h

/-! ### Flags and counters -/

theorem State.flag_eq_put : s.flag f = s.put f 1 := rfl

theorem State.unflag_eq_put : s.unflag f = s.put f 0 := rfl

theorem State.inc_eq_put : s.inc f = s.put f (min (s.get f + 1) (2 ^ f.width - 1)) := rfl

theorem State.has_flag (hf : f.lo + f.width ≤ 32) (hw : 0 < f.width) : (s.flag f).has f = true := by
  rw [State.has_iff, State.flag_eq_put, State.get_put_self hf, Nat.mod_eq_of_lt]
  · decide
  · exact Nat.one_lt_two_pow (by omega)

theorem State.has_unflag (hf : f.lo + f.width ≤ 32) : (s.unflag f).has f = false := by
  simp [State.has, State.unflag_eq_put, State.get_put_self hf]

/-- A saturating counter after n more (R8). -/
theorem State.get_count (hf : f.lo + f.width ≤ 32) {n : Nat} :
    (s.count f n).get f = min (s.get f + n) (2 ^ f.width - 1) := by
  rw [State.count, State.get_put_self hf, Nat.mod_eq_of_lt]
  have := Nat.two_pow_pos f.width
  omega

theorem State.get_inc (hf : f.lo + f.width ≤ 32) : (s.inc f).get f = min (s.get f + 1) (2 ^ f.width - 1) :=
  State.get_count hf

/-- A wrapping counter after one more (R8). -/
theorem State.get_incWrap (hf : f.lo + f.width ≤ 32) : (s.incWrap f).get f = (s.get f + 1) % 2 ^ f.width :=
  State.get_put_self hf

end Sys2Proof.Machine
end

