-- ==== Sys2Proof/Laws/Closed.lean ====
section
/-!
SUPPORT. Properties of a state that the named operations keep. A property that is closed under the few operations that
change the register file, the latched words and the memory, and that looks at nothing else but the queue, is kept by
every operation that is made of them: the lemmas of Sys2Proof/Laws/Keeps*.lean say so once for each operation.
-/

namespace Sys2Proof.Machine

/-- P is kept by every change that leaves memory and the queue alone. -/
structure RegClosed (P : State → Prop) : Prop where
  wr : ∀ {a v s}, P s → P (s.wr a v)
  resetRegs : ∀ {p s}, P s → P (s.resetRegs p)
  setLatch : ∀ {a v s}, P s → P (s.setLatch a v)
  noLatch : ∀ {s}, P s → P { s with latch := [] }
  other : ∀ {s t : State}, P s → t.regs = s.regs → t.mem = s.mem → t.latch = s.latch → t.pending = s.pending → P t

/-- A state that differs from s in the blocks' own fields only. -/
theorem RegClosed.upd {P : State → Prop} (hR : RegClosed P) {s : State}
    {v0 v1 v2 v3 v4 v5 v6 v7 v8 v9 v10 v11 v12 v13
      v14 v15 v16 v17 v18 v19 v20 v21 v22 v23 v24 v25 v26} (h : P s) :
    P (.mk s.regs s.mem v0 v1 v2 s.latch v3 v4 v5 v6 v7 v8 v9 v10 v11 v12
      v13 v14 v15 v16 v17 v18 v19 v20 v21 v22 v23 v24 v25 v26 s.pending) :=
  hR.other h rfl rfl rfl rfl

/-- P is kept by every change that leaves the queue alone. -/
structure Closed (P : State → Prop) : Prop extends RegClosed P where
  setByte : ∀ {a v s}, P s → P (s.setByte a v)
  memFilter : ∀ {p s}, P s → P { s with mem := sparseFilter p s.mem }

/-- Whatever next state an outcome holds has P. -/
def OutAll (P : State → Prop) (o : Host.Outcome State Fault Refusal) : Prop := ∀ t, o = .next t → P t

section
variable {P : State → Prop} {s : State}

theorem next_keeps (h : P s) : OutAll P (.next s) := fun _ e => Host.Outcome.next.inj e ▸ h

theorem ite_keeps {c : Prop} [Decidable c] {a b : State} (ha : P a) (hb : P b) : P (if c then a else b) := by
  split <;> assumption

theorem ite_out_keeps {c : Prop} [Decidable c] {a b : Host.Outcome State Fault Refusal} (ha : OutAll P a) (hb : OutAll P b) :
    OutAll P (if c then a else b) := by
  split <;> assumption

theorem ite_snd_keeps {β : Type} {c : Prop} [Decidable c] {a b : β × State} (ha : P a.2) (hb : P b.2) :
    P (if c then a else b).2 := by
  split <;> assumption

theorem ite_snd2_keeps {β γ : Type} {c : Prop} [Decidable c] {a b : β × γ × State} (ha : P a.2.2) (hb : P b.2.2) :
    P (if c then a else b).2.2 := by
  split <;> assumption

theorem snd_keeps {β : Type} {b : β} (h : P s) : P (b, s).2 := h

theorem foldl_keeps {α : Type} {l : List α} {f : State → α → State} (hf : ∀ {s a}, P s → P (f s a)) (h : P s) :
    P (l.foldl f s) := by
  induction l generalizing s with
  | nil => exact h
  | cons x t ih => exact ih (hf h)

theorem foldl_snd_keeps {α β : Type} {l : List α} {f : β × State → α → β × State} {b : β}
    (hf : ∀ {b s a}, P s → P (f (b, s) a).2) (h : P s) : P (l.foldl f (b, s)).2 := by
  induction l generalizing b s with
  | nil => exact h
  | cons x t ih => exact ih (b := (f (b, s) x).1) (hf h)

/-! ### The primitive operations -/

theorem State.wr_keeps (hR : RegClosed P) {a v} (h : P s) : P (s.wr a v) := hR.wr h

theorem State.resetRegs_keeps (hR : RegClosed P) {p} (h : P s) : P (s.resetRegs p) := hR.resetRegs h

theorem State.setLatch_keeps (hR : RegClosed P) {a v} (h : P s) : P (s.setLatch a v) := hR.setLatch h

theorem State.setByte_keeps (hP : Closed P) {a v} (h : P s) : P (s.setByte a v) := hP.setByte h

theorem wipe_keeps (hP : Closed P) {lo len} (h : P s) : P (wipe lo len s) := hP.memFilter h

theorem State.setBytes_keeps (hP : Closed P) {a l} (h : P s) : P (s.setBytes a l) := by
  induction l generalizing a s with
  | nil => exact h
  | cons c t ih => exact ih (hP.setByte h)

theorem State.forEach_keeps {α : Type} {l : List α} {f : α → State → State} (hf : ∀ {x s}, P s → P (f x s)) (h : P s) :
    P (s.forEach l f) :=
  foldl_keeps (fun h => hf h) h

theorem State.onlyIf_keeps {c : Bool} {f : State → State} (hf : ∀ {s}, P s → P (f s)) (h : P s) : P (s.onlyIf c f) := by
  unfold State.onlyIf
  split
  · exact hf h
  · exact h

end

end Sys2Proof.Machine
end

