-- ==== Sys2Proof/Laws/Keeps1.lean ====
section
/-!
SUPPORT. What the operations of Ops, Operands, Flags, Arch, Cache, Tide, LifeOps, Keys, RfLimits, Modem, CalStore, LaneOps, LinkOps keep:
one lemma for each, under the hypothesis that Sys2Proof/Laws/Closed.lean names.
-/

namespace Sys2Proof.Machine

variable {P : State → Prop}

/-! ### Ops -/

theorem State.put_keeps (hR : RegClosed P) {a0 a1 s0} (hs0 : P s0) : P (State.put a0 a1 s0) := by
  delta State.put; exact (State.wr_keeps hR hs0)

theorem State.putBit_keeps (hR : RegClosed P) {a0 a1 a2 s0} (hs0 : P s0) : P (State.putBit a0 a1 a2 s0) := by
  delta State.putBit; exact (State.put_keeps hR hs0)

theorem State.setNum_keeps (hP : Closed P) {a0 a1 a2 s0} (hs0 : P s0) : P (State.setNum a0 a1 a2 s0) := by
  delta State.setNum; exact (State.setBytes_keeps hP hs0)

theorem State.setWord_keeps (hP : Closed P) {a0 a1 s0} (hs0 : P s0) : P (State.setWord a0 a1 s0) := by
  delta State.setWord; exact (State.setNum_keeps hP hs0)

theorem State.setBitsAt_keeps (hP : Closed P) {a0 a1 a2 a3 s0} (hs0 : P s0) : P (State.setBitsAt a0 a1 a2 a3 s0) := by
  delta State.setBitsAt
  extract_lets x0 x1
  exact (State.setNum_keeps hP hs0)

theorem State.fire_keeps (hR : RegClosed P) {a0 s0} (hs0 : P s0) : P (State.fire a0 s0) := by
  delta State.fire; exact (hR.upd hs0)

theorem State.fireSluice_keeps (hR : RegClosed P) {a0 s0} (hs0 : P s0) : P (State.fireSluice a0 s0) := by
  delta State.fireSluice; exact (hR.upd hs0)

theorem State.takeTask_keeps (hR : RegClosed P) {a0 s0} (hs0 : P s0) : P (State.takeTask a0 s0) := by
  delta State.takeTask; exact (hR.upd hs0)

theorem State.freeNext_keeps (hR : RegClosed P) {s0} (hs0 : P s0) : P (State.freeNext s0) := by
  delta State.freeNext; exact (hR.upd hs0)

/-! ### Operands -/

theorem State.putS_keeps (hR : RegClosed P) {a0 a1 s0} (hs0 : P s0) : P (State.putS a0 a1 s0) := by
  delta State.putS; exact (State.put_keeps hR hs0)

/-! ### Flags -/

theorem State.flag_keeps (hR : RegClosed P) {a0 s0} (hs0 : P s0) : P (State.flag a0 s0) := by
  delta State.flag; exact (State.put_keeps hR hs0)

theorem State.unflag_keeps (hR : RegClosed P) {a0 s0} (hs0 : P s0) : P (State.unflag a0 s0) := by
  delta State.unflag; exact (State.put_keeps hR hs0)

theorem State.count_keeps (hR : RegClosed P) {a0 a1 s0} (hs0 : P s0) : P (State.count a0 a1 s0) := by
  delta State.count; exact (State.put_keeps hR hs0)

theorem State.inc_keeps (hR : RegClosed P) {a0 s0} (hs0 : P s0) : P (State.inc a0 s0) := by
  delta State.inc; exact (State.count_keeps hR hs0)

theorem State.incWrap_keeps (hR : RegClosed P) {a0 s0} (hs0 : P s0) : P (State.incWrap a0 s0) := by
  delta State.incWrap; exact (State.put_keeps hR hs0)

/-! ### Arch -/

theorem State.setClkSrc_keeps (hR : RegClosed P) {a0 s0} (hs0 : P s0) : P (State.setClkSrc a0 s0) := by
  delta State.setClkSrc
  exact (State.put_keeps hR (State.put_keeps hR (State.put_keeps hR hs0)))

theorem execClkcfgWrite_keeps (hR : RegClosed P) {a0 s0} (hs0 : P s0) : OutAll P (execClkcfgWrite a0 s0) := by
  delta execClkcfgWrite
  extract_lets x0 x1 x2 x3 x4
  have h5 : P x4 := (State.put_keeps hR (State.put_keeps hR (State.put_keeps hR hs0)))
  clear_value x4
  refine ite_out_keeps ?_ ?_
  · refine next_keeps ?_
    exact hs0
  · refine next_keeps ?_
    exact (ite_keeps (State.unflag_keeps hR h5) h5)

theorem execPllLock_keeps (hR : RegClosed P) {s0} (hs0 : P s0) : OutAll P (execPllLock s0) := by
  delta execPllLock
  refine next_keeps ?_
  exact (ite_keeps (State.flag_keeps hR hs0) hs0)

theorem yieldBackground_keeps (hR : RegClosed P) {a0 s0} (hs0 : P s0) : P (yieldBackground a0 s0) := by
  delta yieldBackground
  extract_lets x0
  have h1 : P x0 := (State.inc_keeps hR hs0)
  clear_value x0
  exact (ite_keeps h1 (hR.upd h1))

theorem stepResumed_keeps (hR : RegClosed P) {a0 s0} (hs0 : P s0) : P (stepResumed a0 s0) := by
  delta stepResumed
  exact hR.upd hs0

/-! ### Cache -/

theorem State.setCache_keeps (hR : RegClosed P) {a0 a1 s0} (hs0 : P s0) : P (State.setCache a0 a1 s0) := by
  delta State.setCache
  exact hR.upd hs0

theorem lineDrop_keeps (hR : RegClosed P) {a0 a1 a2 s0} (hs0 : P s0) : P (lineDrop a0 a1 a2 s0) := by
  delta lineDrop
  exact State.setCache_keeps hR hs0

theorem lineFillOne_keeps (hR : RegClosed P) {a0 a1 a2 a3 s0} (hs0 : P s0) : P (lineFillOne a0 a1 a2 a3 s0) := by
  delta lineFillOne
  extract_lets x0 x1
  exact State.freeNext_keeps hR (State.setCache_keeps hR hs0)

theorem cacheFill_keeps (hR : RegClosed P) {a0 a1 a2 a3 s0} (hs0 : P s0) : P (cacheFill a0 a1 a2 a3 s0) := by
  delta cacheFill
  exact ite_keeps (State.forEach_keeps (fun h2 => lineFillOne_keeps hR h2) hs0) hs0

theorem cacheWrite_keeps (hR : RegClosed P) {a0 a1 a2 s0} (hs0 : P s0) : P (cacheWrite a0 a1 a2 s0) := by
  delta cacheWrite
  exact State.forEach_keeps (fun h2 => by
    extract_lets x3 x4
    exact State.setCache_keeps hR h2) hs0

theorem cacheParityError_keeps (hR : RegClosed P) {a0 a1 a2 s0} (hs0 : P s0) : P (cacheParityError a0 a1 a2 s0) := by
  delta cacheParityError
  extract_lets x0
  have h1 : P x0 := State.forEach_keeps (fun h4 => lineDrop_keeps hR h4) hs0
  clear_value x0
  exact State.flag_keeps hR (State.inc_keeps hR h1)

theorem cacheLookup_keeps (hR : RegClosed P) {a0 a1 a2 s0} (hs0 : P s0) : P (cacheLookup a0 a1 a2 s0) := by
  delta cacheLookup
  split
  · exact ite_keeps (cacheParityError_keeps hR hs0) hs0
  · exact hs0

theorem cachesClear_keeps (hR : RegClosed P) {s0} (hs0 : P s0) : P (cachesClear s0) := by
  delta cachesClear
  exact hR.upd hs0

/-! ### Tide -/

theorem tideTick_keeps (hR : RegClosed P) {s0} (hs0 : P s0) : P (tideTick s0) := by
  delta tideTick
  extract_lets x0 x1
  exact (hR.upd hs0)

theorem backupTick_keeps (hR : RegClosed P) {s0} (hs0 : P s0) : P (backupTick s0) := by
  delta backupTick
  exact ite_keeps (hR.upd hs0) hs0

theorem State.setGateT_keeps (hR : RegClosed P) {a0 a1 s0} (hs0 : P s0) : P (State.setGateT a0 a1 s0) := by
  delta State.setGateT; exact (State.put_keeps hR (State.put_keeps hR hs0))

theorem State.setGateStepped_keeps (hR : RegClosed P) {a0 a1 s0} (hs0 : P s0) : P (State.setGateStepped a0 a1 s0) := by
  delta State.setGateStepped; exact (hR.upd hs0)

theorem State.setGateLateNext_keeps (hR : RegClosed P) {a0 a1 s0} (hs0 : P s0) : P (State.setGateLateNext a0 a1 s0) := by
  delta State.setGateLateNext; exact (hR.upd hs0)

theorem gateArmOffset_keeps (hR : RegClosed P) {a0 s0} (hs0 : P s0) : P (gateArmOffset a0 s0) := by
  delta gateArmOffset; exact (State.unflag_keeps hR (State.setGateT_keeps hR hs0))

theorem gatesRelease_keeps (hR : RegClosed P) {s0} (hs0 : P s0) : P (gatesRelease s0) := by
  delta gatesRelease
  exact (State.forEach_keeps (fun h0 => (ite_keeps (gateArmOffset_keeps hR h0) h0)) hs0)

theorem gateCross_keeps (hR : RegClosed P) {a0 a1 a2 s0} (hs0 : P s0) : P (gateCross a0 a1 a2 s0) := by
  delta gateCross
  extract_lets x0 x1 x2 x3 x4 x5
  have h6 : P x3 := (ite_keeps hs0 (State.setGateT_keeps hR hs0))
  clear_value x3
  have h7 : P x5 := (ite_keeps h6 (State.put_keeps hR (State.count_keeps hR h6)))
  clear_value x5
  exact (ite_keeps (ite_keeps (ite_keeps (State.unflag_keeps hR h7) h7) (State.setGateLateNext_keeps hR (State.setGateStepped_keeps hR (ite_keeps h6 (State.put_keeps hR (State.count_keeps hR h6)))))) hs0)

theorem gateFire_keeps (hR : RegClosed P) {a0 s0} (hs0 : P s0) : P (gateFire a0 s0) := by
  delta gateFire
  extract_lets x0 x1 x2 x3 x4 x5
  have h6 : P x3 := (State.fireSluice_keeps hR hs0)
  clear_value x3
  have h7 : P x4 := (ite_keeps (State.putBit_keeps hR h6) h6)
  clear_value x4
  have h8 : P x5 := (ite_keeps (State.unflag_keeps hR h7) (ite_keeps h7 (State.setGateT_keeps hR h7)))
  clear_value x5
  exact (State.setGateLateNext_keeps hR (State.setGateStepped_keeps hR h8))

theorem execGateFire_keeps (hR : RegClosed P) {a0 s0} (hs0 : P s0) : OutAll P (execGateFire a0 s0) := by
  delta execGateFire
  extract_lets x0
  refine ite_out_keeps ?_ ?_
  · refine next_keeps ?_
    exact (gateFire_keeps hR hs0)
  · refine next_keeps ?_
    exact hs0

theorem gateCtlWrite_keeps (hR : RegClosed P) {a0 a1 s0} (hs0 : P s0) : P (gateCtlWrite a0 a1 s0) := by
  delta gateCtlWrite
  extract_lets x0 x1 x2 x3 x4
  have h5 : P x2 := (State.put_keeps hR (State.put_keeps hR (State.put_keeps hR (State.put_keeps hR (State.put_keeps hR hs0)))))
  clear_value x2
  exact (ite_keeps (State.setGateLateNext_keeps hR (State.setGateStepped_keeps hR h5)) (ite_keeps (ite_keeps (ite_keeps (gateArmOffset_keeps hR h5) h5) (State.setGateLateNext_keeps hR h5)) (ite_keeps (State.setGateLateNext_keeps hR h5) h5)))

theorem execGateRegisterWrite_keeps (hR : RegClosed P) {a0 a1 a2 s0} (hs0 : P s0) :
    OutAll P (execGateRegisterWrite a0 a1 a2 s0) := by
  delta execGateRegisterWrite
  extract_lets x0 x1 x2
  split
  · refine next_keeps ?_
    exact (ite_keeps hs0 (State.put_keeps hR hs0))
  · refine next_keeps ?_
    exact (ite_keeps hs0 (State.put_keeps hR hs0))
  · refine next_keeps ?_
    exact (ite_keeps hs0 (State.put_keeps hR hs0))
  · refine next_keeps ?_
    exact (gateCtlWrite_keeps hR hs0)

theorem tideStep_keeps (hR : RegClosed P) {a0 s0} (hs0 : P s0) : P (tideStep a0 s0) := by
  delta tideStep
  extract_lets x0 x1 x2 x3 x4
  have h5 : P x2 := (hR.upd hs0)
  clear_value x2
  have h6 : P x3 := (State.fire_keeps hR (State.incWrap_keeps hR (State.inc_keeps hR (State.flag_keeps hR h5))))
  clear_value x3
  exact (ite_keeps (State.forEach_keeps (fun h7 => (gateCross_keeps hR h7)) h6) h6)

theorem slewStart_keeps (hR : RegClosed P) {a0 s0} (hs0 : P s0) : P (slewStart a0 s0) := by
  delta slewStart
  extract_lets x0 x1 x2
  have h3 : P x2 := (hR.upd hs0)
  clear_value x2
  exact (State.flag_keeps hR h3)

theorem slewCancel_keeps (hR : RegClosed P) {s0} (hs0 : P s0) : P (slewCancel s0) := by
  delta slewCancel
  extract_lets x0 x1
  have h2 : P x1 := (hR.upd hs0)
  clear_value x1
  exact (State.unflag_keeps hR h2)

theorem execSlewEnd_keeps (hR : RegClosed P) {s0} (hs0 : P s0) : OutAll P (execSlewEnd s0) := by
  delta execSlewEnd
  refine next_keeps ?_
  exact (slewCancel_keeps hR hs0)

theorem setStratum_keeps (hR : RegClosed P) {a0 s0} (hs0 : P s0) : P (setStratum a0 s0) := by
  delta setStratum
  extract_lets x0 x1
  have h2 : P x1 := (State.put_keeps hR (State.put_keeps hR hs0))
  clear_value x1
  exact (ite_keeps (gatesRelease_keeps hR (State.fire_keeps hR (State.flag_keeps hR h2))) h2)

theorem stratumLost_keeps (hR : RegClosed P) {s0} (hs0 : P s0) : P (stratumLost s0) := by
  delta stratumLost
  exact (State.fire_keeps hR (State.inc_keeps hR (State.flag_keeps hR (setStratum_keeps hR hs0))))

theorem parentLose_keeps (hR : RegClosed P) {s0} (hs0 : P s0) : P (parentLose s0) := by
  delta parentLose; exact (State.flag_keeps hR (State.unflag_keeps hR hs0))

theorem execParentLossTimeout_keeps (hR : RegClosed P) {s0} (hs0 : P s0) : OutAll P (execParentLossTimeout s0) := by
  delta execParentLossTimeout
  refine next_keeps ?_
  exact (ite_keeps (parentLose_keeps hR hs0) hs0)

theorem execHoldmaxExpiry_keeps (hR : RegClosed P) {s0} (hs0 : P s0) : OutAll P (execHoldmaxExpiry s0) := by
  delta execHoldmaxExpiry
  refine ite_out_keeps ?_ ?_
  · refine next_keeps ?_
    exact hs0
  · refine next_keeps ?_
    exact (stratumLost_keeps hR (ite_keeps (parentLose_keeps hR hs0) hs0))

theorem srcselChange_keeps (hR : RegClosed P) {a0 a1 s0} (hs0 : P s0) : P (srcselChange a0 a1 s0) := by
  unfold srcselChange
  have h : P { s0 with tide := { s0.tide with cand := none } } := hR.upd hs0
  revert h
  generalize { s0 with tide := { s0.tide with cand := none } } = t
  intro h
  refine ite_keeps (setStratum_keeps hR (State.unflag_keeps hR (State.unflag_keeps hR h))) (ite_keeps ?_ (ite_keeps ?_ ?_))
  · exact State.flag_keeps hR (State.unflag_keeps hR h)
  · exact ite_keeps (State.unflag_keeps hR h) (State.flag_keeps hR (State.unflag_keeps hR h))
  · exact State.unflag_keeps hR h

theorem disciplineCheck_keeps (hR : RegClosed P) {s0} (hs0 : P s0) : P (disciplineCheck s0) := by
  delta disciplineCheck
  extract_lets x0
  exact (ite_keeps (State.fire_keeps hR (State.flag_keeps hR (State.setClkSrc_keeps hR hs0))) hs0)

theorem execTideNowloRead_keeps (hR : RegClosed P) {s0} (hs0 : P s0) : OutAll P (execTideNowloRead s0) := by
  delta execTideNowloRead
  extract_lets x0 x1
  have h2 : P x1 := (State.put_keeps hR (State.put_keeps hR hs0))
  clear_value x1
  refine next_keeps ?_
  exact (hR.upd h2)

theorem execTideCapture_keeps (hR : RegClosed P) {a0 s0} (hs0 : P s0) : OutAll P (execTideCapture a0 s0) := by
  delta execTideCapture
  extract_lets x0
  have h1 : P x0 := (State.takeTask_keeps hR hs0)
  clear_value x0
  refine next_keeps ?_
  exact (State.put_keeps hR (State.put_keeps hR h1))

theorem execLfincMeasure_keeps (hR : RegClosed P) {a0 s0} (hs0 : P s0) : OutAll P (execLfincMeasure a0 s0) := by
  delta execLfincMeasure
  refine next_keeps ?_
  exact (ite_keeps hs0 (State.put_keeps hR hs0))

/-! ### LifeOps -/

theorem lifeApply_keeps (hR : RegClosed P) {a0 s0} (hs0 : P s0) : P (lifeApply a0 s0) := by
  delta lifeApply
  extract_lets x0 x1
  split
  · exact (State.count_keeps hR hs0)
  · extract_lets x2
    exact (State.put_keeps hR (State.put_keeps hR hs0))
  · exact (State.put_keeps hR (State.put_keeps hR hs0))
  · extract_lets x3
    exact (ite_keeps (State.put_keeps hR hs0) hs0)
  · extract_lets x4 x5 x6
    have h7 : P x5 := (State.count_keeps hR hs0)
    clear_value x5
    have h8 : P x6 := (ite_keeps (State.putS_keeps hR h7) h7)
    clear_value x6
    exact (ite_keeps (State.putS_keeps hR h8) h8)

theorem lifeEvent_keeps (hR : RegClosed P) {a0 s0} (hs0 : P s0) : P (lifeEvent a0 s0) := by
  delta lifeEvent; exact (ite_keeps (hR.upd hs0) (lifeApply_keeps hR hs0))

theorem lifeCount_keeps (hR : RegClosed P) {a0 a1 a2 a3 s0} (hs0 : P s0) : P (lifeCount a0 a1 a2 a3 s0) := by
  delta lifeCount; exact (lifeEvent_keeps hR hs0)

theorem lifeCode_keeps (hR : RegClosed P) {a0 a1 s0} (hs0 : P s0) : P (lifeCode a0 a1 s0) := by
  delta lifeCode; exact (lifeEvent_keeps hR hs0)

theorem lifeCount64_keeps (hR : RegClosed P) {a0 a1 s0} (hs0 : P s0) : P (lifeCount64 a0 a1 s0) := by
  delta lifeCount64; exact (lifeEvent_keeps hR hs0)

theorem lifeAir_keeps (hR : RegClosed P) {a0 a1 s0} (hs0 : P s0) : P (lifeAir a0 a1 s0) := by
  delta lifeAir
  extract_lets x0 x1 x2
  have h3 : P x2 := (hR.upd hs0)
  clear_value x2
  exact (ite_keeps h3 (lifeCount_keeps hR h3))

/-! ### Keys -/

theorem State.setKeyBytes_keeps (hR : RegClosed P) {a0 a1 s0} (hs0 : P s0) : P (State.setKeyBytes a0 a1 s0) := by
  delta State.setKeyBytes; exact (hR.upd hs0)

theorem setKeySt_keeps (hR : RegClosed P) {a0 a1 s0} (hs0 : P s0) : P (setKeySt a0 a1 s0) := by
  delta setKeySt
  extract_lets x0 x1
  have h2 : P x1 := (State.putBit_keeps hR (State.put_keeps hR hs0))
  clear_value x1
  exact (ite_keeps h2 (ite_keeps (State.put_keeps hR h2) (ite_keeps (State.put_keeps hR h2) h2)))

theorem freeKeySlot_keeps (hR : RegClosed P) {a0 s0} (hs0 : P s0) : P (freeKeySlot a0 s0) := by
  delta freeKeySlot
  extract_lets x0 x1 x2 x3
  have h4 : P x0 := (setKeySt_keeps hR hs0)
  clear_value x0
  have h5 : P x1 := (State.forEach_keeps (fun h6 => (State.wr_keeps hR h6)) h4)
  clear_value x1
  have h7 : P x2 := (State.setKeyBytes_keeps hR h5)
  clear_value x2
  exact (hR.upd h7)

theorem sweepStart_keeps (hR : RegClosed P) {s0} (hs0 : P s0) : P (sweepStart s0) := by
  delta sweepStart
  extract_lets x0 x1
  exact (hR.upd hs0)

theorem markDead_keeps (hR : RegClosed P) {a0 s0} (hs0 : P s0) : P (markDead a0 s0) := by
  delta markDead
  extract_lets x0 x1 x2 x3
  have h4 : P x1 := (State.forEach_keeps (fun h5 => (setKeySt_keeps hR h5)) hs0)
  clear_value x1
  exact (ite_keeps hs0 (sweepStart_keeps hR (hR.upd h4)))

theorem putKeyAttr_keeps (hR : RegClosed P) {a0 a1 s0} (hs0 : P s0) : P (putKeyAttr a0 a1 s0) := by
  delta putKeyAttr; exact (State.forEach_keeps (fun h0 => (State.wr_keeps hR h0)) hs0)

theorem loadRoot_keeps (hR : RegClosed P) {s0} (hs0 : P s0) : P (loadRoot s0) := by
  delta loadRoot
  exact (ite_keeps (State.unflag_keeps hR (State.setKeyBytes_keeps hR (State.putBit_keeps hR (State.put_keeps hR (putKeyAttr_keeps hR hs0))))) (State.flag_keeps hR (State.setKeyBytes_keeps hR (State.putBit_keeps hR (putKeyAttr_keeps hR hs0)))))

theorem keyIntegrityFail_keeps (hR : RegClosed P) {a0 a1 s0} (hs0 : P s0) : P (keyIntegrityFail a0 a1 s0) := by
  delta keyIntegrityFail
  extract_lets x0 x1
  have h2 : P x0 := (State.fire_keeps hR (State.inc_keeps hR (State.flag_keeps hR hs0)))
  clear_value x0
  exact (ite_keeps (loadRoot_keeps hR (ite_keeps (hR.upd h2) h2)) (markDead_keeps hR h2))

theorem keyRefused_keeps (hR : RegClosed P) {a0 a1 s0} (hs0 : P s0) : P (keyRefused a0 a1 s0) := by
  delta keyRefused
  exact (State.fire_keeps hR (State.flag_keeps hR (State.inc_keeps hR (State.put_keeps hR (State.put_keeps hR (State.put_keeps hR hs0))))))

theorem keyUse_keeps (hR : RegClosed P) {a0 s0} (hs0 : P s0) : P (keyUse a0 s0) := by
  delta keyUse
  extract_lets x0 x1
  have h2 : P x1 := (State.put_keeps hR hs0)
  clear_value x1
  exact (ite_keeps hs0 (ite_keeps (State.fire_keeps hR (State.inc_keeps hR h2)) h2))

theorem keyAdmitted_keeps (hR : RegClosed P) {a0 a1 s0} (hs0 : P s0) : P (keyAdmitted a0 a1 s0).2 := by
  delta keyAdmitted
  exact ite_snd_keeps (keyUse_keeps hR (State.inc_keeps hR hs0)) (ite_snd_keeps (keyRefused_keeps hR (State.freeNext_keeps hR (keyIntegrityFail_keeps hR hs0))) (keyRefused_keeps hR hs0))

theorem keyAdmit_keeps (hR : RegClosed P) {a0 s0} (hs0 : P s0) : P (keyAdmit a0 s0).2 := by
  delta keyAdmit
  exact keyAdmitted_keeps hR hs0

theorem linkAdmit_keeps (hR : RegClosed P) {a0 a1 a2 s0} (hs0 : P s0) : P (linkAdmit a0 a1 a2 s0).2 := by
  delta linkAdmit; exact (keyAdmit_keeps hR hs0)

theorem linkFetch_keeps (hR : RegClosed P) {a0 a1 a2 s0} (hs0 : P s0) : P (linkFetch a0 a1 a2 s0).2 := by
  delta linkFetch
  extract_lets x0
  exact keyAdmitted_keeps hR hs0

/-! ### RfLimits -/

theorem State.setBucket_keeps (hR : RegClosed P) {a0 a1 s0} (hs0 : P s0) : P (State.setBucket a0 a1 s0) := by
  delta State.setBucket; exact (hR.upd hs0)

theorem bucketSettle_keeps (hR : RegClosed P) {a0 s0} (hs0 : P s0) : P (bucketSettle a0 s0) := by
  delta bucketSettle
  extract_lets x0
  exact (State.setBucket_keeps hR hs0)

theorem dutyDebit_keeps (hR : RegClosed P) {a0 a1 s0} (hs0 : P s0) : P (dutyDebit a0 a1 s0) := by
  delta dutyDebit
  extract_lets x0 x1
  have h2 : P x0 := (bucketSettle_keeps hR hs0)
  clear_value x0
  exact (ite_keeps hs0 (State.setBucket_keeps hR h2))

theorem dutyRefund_keeps (hR : RegClosed P) {a0 a1 s0} (hs0 : P s0) : P (dutyRefund a0 a1 s0) := by
  delta dutyRefund
  extract_lets x0 x1
  have h2 : P x0 := (bucketSettle_keeps hR hs0)
  clear_value x0
  exact (ite_keeps hs0 (State.setBucket_keeps hR h2))

theorem refreshBand_keeps (hR : RegClosed P) {a0 s0} (hs0 : P s0) : P (refreshBand a0 s0) := by
  delta refreshBand
  extract_lets x0 x1 x2 x3 x4 x5 x6 x7
  have h8 : P x0 := (bucketSettle_keeps hR hs0)
  clear_value x0
  have h9 : P x4 := (ite_keeps (State.put_keeps hR (State.put_keeps hR (State.put_keeps hR (State.putS_keeps hR (State.putS_keeps hR (State.put_keeps hR (State.put_keeps hR h8))))))) (State.wr_keeps hR (State.wr_keeps hR (State.wr_keeps hR (State.wr_keeps hR h8)))))
  clear_value x4
  exact (ite_keeps h9 (State.setBucket_keeps hR h9))

theorem refreshLimits_keeps (hR : RegClosed P) {s0} (hs0 : P s0) : P (refreshLimits s0) := by
  delta refreshLimits; exact (State.forEach_keeps (fun h0 => (refreshBand_keeps hR h0)) hs0)

theorem loadRfRecord_keeps (hR : RegClosed P) {s0} (hs0 : P s0) : P (loadRfRecord s0) := by
  delta loadRfRecord
  extract_lets x0 x1 x2 x3 x4 x5
  have h6 : P x4 := (hR.upd hs0)
  clear_value x4
  have h7 : P x5 := (State.put_keeps hR (State.put_keeps hR (State.put_keeps hR h6)))
  clear_value x5
  exact (refreshLimits_keeps hR h7)

theorem tightWrite_keeps (hR : RegClosed P) {a0 a1 a2 a3 s0} (hs0 : P s0) : P (tightWrite a0 a1 a2 a3 s0) := by
  delta tightWrite; exact (ite_keeps (State.flag_keeps hR hs0) (State.put_keeps hR hs0))

theorem execSwtightWrite_keeps (hR : RegClosed P) {a0 a1 a2 s0} (hs0 : P s0) :
    OutAll P (execSwtightWrite a0 a1 a2 s0) := by
  delta execSwtightWrite
  extract_lets x0 x1 x2
  have h3 : P x2 := (ite_keeps (tightWrite_keeps hR (tightWrite_keeps hR hs0)) (tightWrite_keeps hR (tightWrite_keeps hR (tightWrite_keeps hR hs0))))
  clear_value x2
  refine next_keeps ?_
  exact (refreshLimits_keeps hR h3)

/-! ### Modem -/

theorem State.setPan_keeps (hR : RegClosed P) {a0 a1 s0} (hs0 : P s0) : P (State.setPan a0 a1 s0) := by
  delta State.setPan; exact (hR.upd hs0)

theorem State.setLane_keeps (hR : RegClosed P) {a0 a1 s0} (hs0 : P s0) : P (State.setLane a0 a1 s0) := by
  delta State.setLane; exact (hR.upd hs0)

theorem State.setLaneSt_keeps (hR : RegClosed P) {a0 a1 s0} (hs0 : P s0) : P (State.setLaneSt a0 a1 s0) := by
  delta State.setLaneSt; exact (State.put_keeps hR hs0)

theorem laneCode_keeps (hR : RegClosed P) {a0 a1 s0} (hs0 : P s0) : P (laneCode a0 a1 s0) := by
  delta laneCode; exact (State.put_keeps hR hs0)

theorem State.setPanState_keeps (hR : RegClosed P) {a0 a1 s0} (hs0 : P s0) : P (State.setPanState a0 a1 s0) := by
  delta State.setPanState; exact (State.put_keeps hR hs0)

theorem State.setAgc_keeps (hR : RegClosed P) {a0 a1 s0} (hs0 : P s0) : P (State.setAgc a0 a1 s0) := by
  delta State.setAgc; exact (hR.upd hs0)

theorem gainFreezeOne_keeps (hR : RegClosed P) {a0 s0} (hs0 : P s0) : P (gainFreezeOne a0 s0) := by
  delta gainFreezeOne
  exact State.put_keeps hR hs0

theorem gainFreeze_keeps (hR : RegClosed P) {a0 s0} (hs0 : P s0) : P (gainFreeze a0 s0) := by
  delta gainFreeze
  exact ite_keeps (gainFreezeOne_keeps hR (gainFreezeOne_keeps hR hs0)) (gainFreezeOne_keeps hR hs0)

theorem gainStart_keeps (hR : RegClosed P) {a0 s0} (hs0 : P s0) : P (gainStart a0 s0) := by
  delta gainStart; exact (State.setAgc_keeps hR (State.put_keeps hR hs0))

theorem agcStable_keeps (hR : RegClosed P) {a0 a1 s0} (hs0 : P s0) : P (agcStable a0 a1 s0) := by
  delta agcStable
  extract_lets x0 x1
  have h2 : P x1 := State.setAgc_keeps hR hs0
  clear_value x1
  exact ite_keeps (State.put_keeps hR h2) h2

theorem overloadStep_keeps (hR : RegClosed P) {a0 s0} (hs0 : P s0) : P (overloadStep a0 s0) := by
  delta overloadStep
  extract_lets x0 x1 x2 x3
  have h4 : P x1 := State.setAgc_keeps hR (State.put_keeps hR (State.freeNext_keeps hR hs0))
  clear_value x1
  have h5 : P x2 := State.forEach_keeps (fun h8 => State.setPan_keeps hR h8) h4
  clear_value x2
  have h9 : P x3 := State.inc_keeps hR h5
  clear_value x3
  exact State.fire_keeps hR (State.flag_keeps hR h9)

theorem execAgcBlock_keeps (hR : RegClosed P) {a0 a1 a2 s0} (hs0 : P s0) : OutAll P (execAgcBlock a0 a1 a2 s0) := by
  delta execAgcBlock
  extract_lets x0 x1 x2 x3
  refine ite_out_keeps ?_ ?_
  · exact next_keeps hs0
  · refine ite_out_keeps ?_ ?_
    · exact next_keeps (ite_keeps (overloadStep_keeps hR hs0) (agcStable_keeps hR hs0))
    · exact next_keeps (ite_keeps (agcStable_keeps hR hs0) (State.setAgc_keeps hR (State.put_keeps hR hs0)))

theorem afcUpdate_keeps (hR : RegClosed P) {a0 a1 s0} (hs0 : P s0) : P (afcUpdate a0 a1 s0) := by
  delta afcUpdate
  extract_lets x0 x1
  exact (State.putS_keeps hR hs0)

theorem afcToSynth_keeps (hR : RegClosed P) {a0 s0} (hs0 : P s0) : P (afcToSynth a0 s0) := by
  delta afcToSynth; exact (State.putS_keeps hR hs0)

theorem panRefuse_keeps (hR : RegClosed P) {a0 s0} (hs0 : P s0) : P (panRefuse a0 s0) := by
  delta panRefuse
  exact (State.fire_keeps hR (State.flag_keeps hR (State.put_keeps hR (State.setPanState_keeps hR hs0))))

theorem putPanLast_keeps (hR : RegClosed P) {a0 a1 s0} (hs0 : P s0) : P (putPanLast a0 a1 s0) := by
  delta putPanLast
  extract_lets x0
  have h1 : P x0 := (State.forEach_keeps (fun h2 => (State.wr_keeps hR h2)) hs0)
  clear_value x0
  exact (State.put_keeps hR h1)

theorem recordEvents_keeps (hR : RegClosed P) {a0 s0} (hs0 : P s0) : P (recordEvents a0 s0) := by
  delta recordEvents; exact (State.fire_keeps hR (State.fire_keeps hR hs0))

theorem panRest_keeps (hR : RegClosed P) {a0 s0} (hs0 : P s0) : P (panRest a0 s0) := by
  delta panRest
  extract_lets x0 x1
  exact (gainFreeze_keeps hR (State.setPanState_keeps hR (State.setPan_keeps hR hs0)))

theorem panEndEarly_keeps (hR : RegClosed P) {a0 a1 s0} (hs0 : P s0) : P (panEndEarly a0 a1 s0) := by
  delta panEndEarly
  extract_lets x0 x1 x2 x3 x4 x5 x6 x7
  have h8 : P x4 := (State.freeNext_keeps hR (State.freeNext_keeps hR hs0))
  clear_value x4
  have h9 : P x5 := (putPanLast_keeps hR h8)
  clear_value x5
  have h10 : P x6 := (ite_keeps (ite_keeps (afcUpdate_keeps hR (afcUpdate_keeps hR h9)) (afcUpdate_keeps hR h9)) h9)
  clear_value x6
  have h11 : P x7 := (ite_keeps (State.inc_keeps hR h10) h10)
  clear_value x7
  exact (ite_keeps (recordEvents_keeps hR h11) hs0)

theorem panLaneStop_keeps (hR : RegClosed P) {a0 a1 s0} (hs0 : P s0) : P (panLaneStop a0 a1 s0) := by
  delta panLaneStop
  exact (State.forEach_keeps (fun h0 => (ite_keeps (gainFreeze_keeps hR (State.setPanState_keeps hR (State.setPan_keeps hR (panEndEarly_keeps hR h0)))) (ite_keeps (State.setPanState_keeps hR h0) h0))) hs0)

theorem panLaneStart_keeps (hR : RegClosed P) {a0 s0} (hs0 : P s0) : P (panLaneStart a0 s0) := by
  delta panLaneStart
  exact (State.forEach_keeps (fun h0 => (ite_keeps (ite_keeps (State.setPanState_keeps hR h0) (panRefuse_keeps hR h0)) h0)) hs0)

theorem panRecheck_keeps (hR : RegClosed P) {a0 s0} (hs0 : P s0) : P (panRecheck a0 s0) := by
  delta panRecheck
  exact (State.forEach_keeps (fun h0 => (ite_keeps (panRefuse_keeps hR (panEndEarly_keeps hR h0)) h0)) hs0)

theorem rateSet_keeps (hR : RegClosed P) {a0 s0} (hs0 : P s0) : P (rateSet a0 s0) := by
  delta rateSet
  exact panRecheck_keeps hR (panRecheck_keeps hR (State.putS_keeps hR hs0))

theorem execAfcApply_keeps (hR : RegClosed P) {a0 s0} (hs0 : P s0) : OutAll P (execAfcApply a0 s0) := by
  delta execAfcApply
  exact next_keeps (ite_keeps hs0 (panRecheck_keeps hR (afcToSynth_keeps hR hs0)))

theorem panConfigure_keeps (hR : RegClosed P) {a0 a1 a2 s0} (hs0 : P s0) : P (panConfigure a0 a1 a2 s0) := by
  delta panConfigure
  extract_lets x0 x1 x2 x3 x4 x5 x6 x7
  have h8 : P x4 := panEndEarly_keeps hR hs0
  clear_value x4
  have h9 : P x5 := State.put_keeps hR (State.put_keeps hR (State.put_keeps hR (State.put_keeps hR h8)))
  clear_value x5
  have h10 : P x6 := State.setPanState_keeps hR (State.setPan_keeps hR h9)
  clear_value x6
  have h11 : P x7 := ite_keeps h10 (ite_keeps (ite_keeps (State.setPanState_keeps hR h10) h10) (panRefuse_keeps hR h10))
  clear_value x7
  exact ite_keeps (ite_keeps hs0 (State.flag_keeps hR hs0)) (ite_keeps hs0 (gainFreeze_keeps hR h11))

theorem execPancfgWrite_keeps (hR : RegClosed P) {a0 a1 a2 s0} (hs0 : P s0) : OutAll P (execPancfgWrite a0 a1 a2 s0) := by
  delta execPancfgWrite
  refine next_keeps ?_
  exact (panConfigure_keeps hR hs0)

theorem panStop_keeps (hR : RegClosed P) {a0 s0} (hs0 : P s0) : P (panStop a0 s0) := by
  delta panStop
  extract_lets x0 x1 x2
  have h3 : P x0 := (panEndEarly_keeps hR hs0)
  clear_value x0
  have h4 : P x2 := (State.setPan_keeps hR h3)
  clear_value x2
  exact (gainFreeze_keeps hR (ite_keeps h4 (State.setPanState_keeps hR h4)))

theorem execPanstop_keeps (hR : RegClosed P) {a0 s0} (hs0 : P s0) : OutAll P (execPanstop a0 s0) := by
  delta execPanstop
  refine next_keeps ?_
  exact (panStop_keeps hR (State.takeTask_keeps hR hs0))

theorem execWbsnap_keeps (hR : RegClosed P) {a0 a1 s0} (hs0 : P s0) : OutAll P (execWbsnap a0 a1 s0) := by
  delta execWbsnap
  extract_lets x0
  have h1 : P x0 := (State.takeTask_keeps hR hs0)
  clear_value x0
  refine next_keeps ?_
  exact (State.put_keeps hR (State.put_keeps hR h1))

theorem panTake_keeps (hR : RegClosed P) {a0 a1 a2 a3 s0} (hs0 : P s0) : P (panTake a0 a1 a2 a3 s0) := by
  delta panTake
  extract_lets x0 x1 x2 x3
  have h4 : P x2 := State.setPan_keeps hR hs0
  clear_value x2
  have h5 : P x3 := State.inc_keeps hR (State.setPanState_keeps hR h4)
  clear_value x3
  exact gainFreeze_keeps hR (State.fire_keeps hR h5)

theorem panNext_keeps (hR : RegClosed P) {a0 a1 s0} (hs0 : P s0) : P (panNext a0 a1 s0) := by
  delta panNext
  extract_lets x0 x1
  have h2 : P x1 := (panRest_keeps hR hs0)
  clear_value x1
  clear_value x0
  split
  · exact (ite_keeps (panTake_keeps hR h2) h2)
  · exact h2

theorem execPanDetect_keeps (hR : RegClosed P) {a0 a1 s0} (hs0 : P s0) : OutAll P (execPanDetect a0 a1 s0) := by
  delta execPanDetect
  refine next_keeps ?_
  exact (ite_keeps (panTake_keeps hR hs0) hs0)

theorem execPanSync_keeps (hR : RegClosed P) {a0 a1 a2 a3 a4 a5 a6 a7 s0} (hs0 : P s0) :
    OutAll P (execPanSync a0 a1 a2 a3 a4 a5 a6 a7 s0) := by
  delta execPanSync
  extract_lets x0 x1 x2
  have h3 : P x2 := State.setPan_keeps hR hs0
  clear_value x2
  refine ite_out_keeps ?_ ?_
  · exact next_keeps (State.fire_keeps hR (State.fire_keeps hR (State.setPanState_keeps hR h3)))
  · exact next_keeps hs0

theorem execSyncWindowClose_keeps (hR : RegClosed P) {a0 a1 s0} (hs0 : P s0) :
    OutAll P (execSyncWindowClose a0 a1 s0) := by
  delta execSyncWindowClose
  extract_lets x0
  refine ite_out_keeps ?_ ?_
  · refine next_keeps ?_
    exact (panNext_keeps hR (State.fire_keeps hR (State.inc_keeps hR hs0)))
  · refine next_keeps ?_
    exact hs0

theorem execHunterDetect_keeps (hR : RegClosed P) {a0 a1 s0} (hs0 : P s0) : OutAll P (execHunterDetect a0 a1 s0) := by
  delta execHunterDetect
  extract_lets x0 x1 x2 x3 x4
  have h5 : P x4 := State.fire_keeps hR (State.inc_keeps hR (panEndEarly_keeps hR hs0))
  clear_value x4
  refine ite_out_keeps ?_ ?_
  · exact next_keeps hs0
  · refine ite_out_keeps ?_ ?_
    · exact next_keeps (panTake_keeps hR (State.inc_keeps hR hs0))
    · refine ite_out_keeps ?_ ?_
      · refine ite_out_keeps ?_ ?_
        · exact next_keeps (panTake_keeps hR h5)
        · exact next_keeps (State.inc_keeps hR (State.setPan_keeps hR hs0))
      · exact next_keeps hs0

theorem slotSetValid_keeps (hR : RegClosed P) {a0 a1 s0} (hs0 : P s0) : P (slotSetValid a0 a1 s0) := by
  delta slotSetValid; exact (State.putBit_keeps hR (State.put_keeps hR hs0))

theorem slotFill_keeps (hR : RegClosed P) {a0 a1 a2 a3 a4 a5 s0} (hs0 : P s0) : P (slotFill a0 a1 a2 a3 a4 a5 s0) := by
  delta slotFill
  extract_lets x0 x1 x2
  have h3 : P x0 := (State.put_keeps hR (State.put_keeps hR (State.put_keeps hR (State.put_keeps hR (State.put_keeps hR hs0)))))
  clear_value x0
  have h4 : P x1 := (State.forEach_keeps (fun h5 => (State.wr_keeps hR h5)) h3)
  clear_value x1
  have h6 : P x2 := (State.forEach_keeps (fun h7 => (State.wr_keeps hR h7)) h4)
  clear_value x2
  exact (slotSetValid_keeps hR h6)

theorem chooseSlot_keeps (hR : RegClosed P) {a0 a1 s0} (hs0 : P s0) : P (chooseSlot a0 a1 s0).2 := by
  delta chooseSlot
  extract_lets x0 x1 x2 x3 x4
  split
  · exact hs0
  · extract_lets x5
    refine ite_snd_keeps ?_ ?_
    · exact hs0
    · split
      · exact (slotFill_keeps hR hs0)
      · exact hs0
      · exact hs0

theorem execSlotinvWrite_keeps (hR : RegClosed P) {a0 s0} (hs0 : P s0) : OutAll P (execSlotinvWrite a0 s0) := by
  delta execSlotinvWrite
  refine next_keeps ?_
  exact (State.forEach_keeps (fun h0 => (slotSetValid_keeps hR h0)) hs0)

theorem leHeader_keeps (hR : RegClosed P) {a0 a1 a2 s0} (hs0 : P s0) : P (leHeader a0 a1 a2 s0) := by
  delta leHeader
  extract_lets x0 x1 x2
  exact State.setPanState_keeps hR (State.setPan_keeps hR hs0)

theorem slotStamp_keeps (hR : RegClosed P) {a0 s0} (hs0 : P s0) : P (slotStamp a0 s0) := by
  delta slotStamp
  exact ite_keeps (State.put_keeps hR hs0) hs0

theorem execHeaderDecision_keeps (hR : RegClosed P) {a0 a1 a2 a3 a4 s0} (hs0 : P s0) :
    OutAll P (execHeaderDecision a0 a1 a2 a3 a4 s0) := by
  delta execHeaderDecision
  extract_lets x0 x1 x2 x3 x4 x5 x6 x7 x8 x9
  have h10 : P x4 := State.setPan_keeps hR hs0
  clear_value x4
  have h11 : P x6 := State.fire_keeps hR (State.setPan_keeps hR h10)
  clear_value x6
  have h12 : P x8 := slotStamp_keeps hR h11
  clear_value x8
  refine ite_out_keeps ?_ ?_
  · exact next_keeps hs0
  · refine ite_out_keeps ?_ ?_
    · exact next_keeps (leHeader_keeps hR hs0)
    · refine ite_out_keeps ?_ ?_
      · exact next_keeps (panNext_keeps hR (State.fire_keeps hR (State.inc_keeps hR (panEndEarly_keeps hR h10))))
      · refine ite_out_keeps ?_ ?_
        · exact next_keeps (panNext_keeps hR (State.inc_keeps hR (panEndEarly_keeps hR h12)))
        · refine ite_out_keeps ?_ ?_
          · exact next_keeps (State.setPanState_keeps hR (State.setPan_keeps hR h12))
          · refine ite_out_keeps ?_ ?_
            · exact next_keeps (State.setPanState_keeps hR (State.setPan_keeps hR h12))
            · exact next_keeps (panNext_keeps hR (State.inc_keeps hR (panEndEarly_keeps hR h12)))

theorem execPanlastRead_keeps (hR : RegClosed P) {a0 s0} (hs0 : P s0) : OutAll P (execPanlastRead a0 s0) := by
  delta execPanlastRead
  extract_lets x0
  have h1 : P x0 := (State.forEach_keeps (fun h2 => (State.setLatch_keeps hR h2)) hs0)
  clear_value x0
  refine next_keeps ?_
  exact (hR.upd h1)

/-! ### CalStore -/

theorem setCalStale_keeps (hR : RegClosed P) {a0 a1 a2 s0} (hs0 : P s0) : P (setCalStale a0 a1 a2 s0) := by
  delta setCalStale; exact (State.putBit_keeps hR (State.put_keeps hR hs0))

theorem setCalFailed_keeps (hR : RegClosed P) {a0 a1 a2 s0} (hs0 : P s0) : P (setCalFailed a0 a1 a2 s0) := by
  delta setCalFailed; exact (State.putBit_keeps hR (State.put_keeps hR hs0))

theorem calFresh_keeps (hR : RegClosed P) {a0 a1 s0} (hs0 : P s0) : P (calFresh a0 a1 s0) := by
  delta calFresh
  exact State.setLane_keeps hR hs0

theorem calReload_keeps (hR : RegClosed P) {a0 a1 s0} (hs0 : P s0) : P (calReload a0 a1 s0) := by
  delta calReload
  extract_lets x0
  have h1 : P x0 := State.wr_keeps hR (State.wr_keeps hR (State.wr_keeps hR hs0))
  clear_value x0
  exact calFresh_keeps hR (setCalFailed_keeps hR (setCalStale_keeps hR h1))

theorem calStore_keeps (hR : RegClosed P) {a0 a1 a2 a3 s0} (hs0 : P s0) : P (calStore a0 a1 a2 a3 s0) := by
  delta calStore
  extract_lets x0 x1
  have h2 : P x0 := State.flag_keeps hR (State.flag_keeps hR (State.putS_keeps hR (State.wr_keeps hR hs0)))
  clear_value x0
  have h3 : P x1 := setCalFailed_keeps hR (setCalStale_keeps hR (State.put_keeps hR h2))
  clear_value x1
  exact calFresh_keeps hR (State.put_keeps hR h3)

theorem calUse_keeps (hR : RegClosed P) {a0 a1 s0} (hs0 : P s0) : P (calUse a0 a1 s0) := by
  delta calUse
  extract_lets x0 x1
  have h2 : P x0 := ite_keeps (laneCode_keeps hR (calReload_keeps hR hs0)) hs0
  clear_value x0
  exact State.setLane_keeps hR h2

theorem calUseVco_keeps (hR : RegClosed P) {a0 a1 s0} (hs0 : P s0) : P (calUseVco a0 a1 s0) := by
  delta calUseVco
  split
  · exact calUse_keeps hR hs0
  · exact hs0

theorem calUseRx_keeps (hR : RegClosed P) {a0 s0} (hs0 : P s0) : P (calUseRx a0 s0) := by
  delta calUseRx
  extract_lets x0
  exact State.forEach_keeps (fun h3 => calUse_keeps hR h3) hs0

theorem calRelease_keeps (hR : RegClosed P) {a0 a1 s0} (hs0 : P s0) : P (calRelease a0 a1 s0) := by
  delta calRelease; exact (ite_keeps (State.setLane_keeps hR (State.put_keeps hR hs0)) hs0)

theorem calMark_keeps (hR : RegClosed P) {a0 a1 s0} (hs0 : P s0) : P (calMark a0 a1 s0) := by
  delta calMark; exact (calRelease_keeps hR (setCalStale_keeps hR hs0))

theorem calEvaluate_keeps (hR : RegClosed P) {a0 a1 s0} (hs0 : P s0) : P (calEvaluate a0 a1 s0) := by
  delta calEvaluate
  extract_lets x0
  have h1 : P x0 := (ite_keeps (setCalStale_keeps hR hs0) hs0)
  clear_value x0
  split
  · exact (ite_keeps (calRelease_keeps hR h1) h1)
  · exact h1

theorem calCheck_keeps (hR : RegClosed P) {a0 s0} (hs0 : P s0) : P (calCheck a0 s0) := by
  delta calCheck
  extract_lets x0
  have h1 : P x0 := State.forEach_keeps (fun h4 => laneCode_keeps hR (calReload_keeps hR h4)) hs0
  clear_value x0
  exact State.forEach_keeps (fun h7 => calEvaluate_keeps hR h7) h1

/-! ### LaneOps -/

theorem portsSwitch_keeps (hR : RegClosed P) {a0 s0} (hs0 : P s0) : P (portsSwitch a0 s0) := by
  delta portsSwitch
  extract_lets x0 x1 x2 x3 x4
  have h5 : P x2 := (State.unflag_keeps hR (State.put_keeps hR hs0))
  clear_value x2
  have h6 : P x4 := (hR.upd h5)
  clear_value x4
  exact (State.forEach_keeps (fun h7 => (ite_keeps (State.setLane_keeps hR h7) h7)) h6)

theorem execPortmapWrite_keeps (hR : RegClosed P) {a0 s0} (hs0 : P s0) : OutAll P (execPortmapWrite a0 s0) := by
  delta execPortmapWrite
  extract_lets x0 x1
  refine ite_out_keeps ?_ ?_
  · refine next_keeps ?_
    exact (State.flag_keeps hR hs0)
  · refine ite_out_keeps ?_ ?_
    · refine next_keeps ?_
      exact (State.flag_keeps hR (hR.upd hs0))
    · refine next_keeps ?_
      exact (portsSwitch_keeps hR hs0)

theorem portsRetry_keeps (hR : RegClosed P) {s0} (hs0 : P s0) : P (portsRetry s0) := by
  delta portsRetry
  split
  · exact (ite_keeps hs0 (portsSwitch_keeps hR hs0))
  · exact hs0

theorem execPortmapSwitch_keeps (hR : RegClosed P) {s0} (hs0 : P s0) : OutAll P (execPortmapSwitch s0) := by
  delta execPortmapSwitch
  refine next_keeps ?_
  exact (portsRetry_keeps hR hs0)

theorem portsOpen_keeps (hR : RegClosed P) {a0 s0} (hs0 : P s0) : P (portsOpen a0 s0) := by
  delta portsOpen
  exact (State.forEach_keeps (fun h0 => (ite_keeps (State.put_keeps hR h0) h0)) hs0)

theorem laneLock_keeps (hR : RegClosed P) {a0 s0} (hs0 : P s0) : P (laneLock a0 s0) := by
  delta laneLock
  extract_lets x0 x1 x2 x3
  have h4 : P x1 := calUseVco_keeps hR hs0
  clear_value x1
  have h5 : P x3 := State.setLane_keeps hR (State.flag_keeps hR (State.put_keeps hR h4))
  clear_value x3
  exact panRecheck_keeps hR (State.fire_keeps hR h5)

theorem laneUnlock_keeps (hR : RegClosed P) {a0 s0} (hs0 : P s0) : P (laneUnlock a0 s0) := by
  delta laneUnlock; exact (State.unflag_keeps hR hs0)

theorem laneEnterRx_keeps (hR : RegClosed P) {a0 s0} (hs0 : P s0) : P (laneEnterRx a0 s0) := by
  delta laneEnterRx
  extract_lets x0 x1 x2
  have h3 : P x0 := calUseRx_keeps hR (State.setLaneSt_keeps hR hs0)
  clear_value x0
  have h4 : P x2 := State.setLane_keeps hR h3
  clear_value x2
  exact State.fire_keeps hR (panLaneStart_keeps hR (gainStart_keeps hR h4))

theorem laneLeaveRx_keeps (hR : RegClosed P) {a0 a1 a2 s0} (hs0 : P s0) : P (laneLeaveRx a0 a1 a2 s0) := by
  delta laneLeaveRx
  extract_lets x0 x1
  have h2 : P x0 := (panLaneStop_keeps hR hs0)
  clear_value x0
  have h3 : P x1 := (lifeAir_keeps hR h2)
  clear_value x1
  exact (ite_keeps (portsRetry_keeps hR (State.fire_keeps hR (State.setLaneSt_keeps hR h3))) hs0)

theorem powerClamp_keeps (hR : RegClosed P) {a0 a1 a2 a3 s0} (hs0 : P s0) : P (powerClamp a0 a1 a2 a3 s0) := by
  delta powerClamp
  extract_lets x0 x1 x2
  have h3 : P x2 := (State.put_keeps hR (State.put_keeps hR (State.putS_keeps hR hs0)))
  clear_value x2
  exact (ite_keeps (State.fire_keeps hR (State.flag_keeps hR h3)) h3)

theorem laneStartTx_keeps (hR : RegClosed P) {a0 s0} (hs0 : P s0) : P (laneStartTx a0 s0) := by
  delta laneStartTx
  extract_lets x0 x1 x2 x3 x4
  have h5 : P x0 := laneLeaveRx_keeps hR hs0
  clear_value x0
  have h6 : P x1 := calUseVco_keeps hR h5
  clear_value x1
  have h7 : P x3 := State.setLane_keeps hR (State.setLaneSt_keeps hR h6)
  clear_value x3
  have h8 : P x4 := ite_keeps (lifeCount64_keeps hR h7) h7
  clear_value x4
  exact State.fire_keeps hR h8

theorem laneEndTx_keeps (hR : RegClosed P) {a0 a1 a2 s0} (hs0 : P s0) : P (laneEndTx a0 a1 a2 s0) := by
  delta laneEndTx
  refine ite_keeps ?_ ?_
  · extract_lets x0 x1 x2 x3
    have h4 : P x0 := by
      unfold x0
      split
      · exact State.put_keeps hR hs0
      · exact State.freeNext_keeps hR (State.put_keeps hR hs0)
    clear_value x0
    have h5 : P x3 := lifeAir_keeps hR (State.setLane_keeps hR h4)
    clear_value x3
    exact portsRetry_keeps hR (State.fire_keeps hR (State.setLaneSt_keeps hR h5))
  · exact hs0

theorem laneYield_keeps (hR : RegClosed P) {a0 s0} (hs0 : P s0) : P (laneYield a0 s0) := by
  delta laneYield
  extract_lets x0 x1 x2
  have h3 : P x1 := (State.fire_keeps hR (State.inc_keeps hR (State.flag_keeps hR hs0)))
  clear_value x1
  have h4 : P x2 := (yieldBackground_keeps hR h3)
  clear_value x2
  exact (ite_keeps (State.setLane_keeps hR (State.setLaneSt_keeps hR h4)) (ite_keeps (State.setLaneSt_keeps hR (yieldBackground_keeps hR hs0)) hs0))

theorem refreshPairing_keeps (hR : RegClosed P) {s0} (hs0 : P s0) : P (refreshPairing s0) := by
  delta refreshPairing
  extract_lets x0 x1 x2
  have h3 : P x2 := (State.put_keeps hR (State.put_keeps hR hs0))
  clear_value x2
  exact (ite_keeps hs0 (ite_keeps (State.forEach_keeps (fun h4 => (State.setPanState_keeps hR (panEndEarly_keeps hR h4))) h3) (State.forEach_keeps (fun h5 => (State.setPanState_keeps hR h5)) h3)))

theorem execRfPairWrite_keeps (hR : RegClosed P) {a0 s0} (hs0 : P s0) : OutAll P (execRfPairWrite a0 s0) := by
  delta execRfPairWrite
  refine next_keeps ?_
  exact (refreshPairing_keeps hR (State.put_keeps hR (State.put_keeps hR hs0)))

theorem execLaneOwnerWrite_keeps (hR : RegClosed P) {a0 a1 s0} (hs0 : P s0) : OutAll P (execLaneOwnerWrite a0 a1 s0) := by
  delta execLaneOwnerWrite
  extract_lets x0
  refine ite_out_keeps ?_ ?_
  · refine next_keeps ?_
    exact hs0
  · refine ite_out_keeps ?_ ?_
    · refine next_keeps ?_
      exact (refreshPairing_keeps hR (State.put_keeps hR hs0))
    · refine next_keeps ?_
      exact (State.flag_keeps hR hs0)

theorem refreshRoles_keeps (hR : RegClosed P) {s0} (hs0 : P s0) : P (refreshRoles s0) := by
  delta refreshRoles
  extract_lets x0
  exact (refreshPairing_keeps hR (State.put_keeps hR (State.put_keeps hR hs0)))

/-! ### LinkOps -/

theorem State.setRam_keeps (hP : Closed P) {a0 a1 a2 s0} (hs0 : P s0) : P (State.setRam a0 a1 a2 s0) := by
  delta State.setRam; exact (State.setBitsAt_keeps hP hs0)

theorem State.ramCount_keeps (hP : Closed P) {a0 a1 a2 s0} (hs0 : P s0) : P (State.ramCount a0 a1 a2 s0) := by
  delta State.ramCount; exact (State.setRam_keeps hP hs0)

theorem State.setCtx_keeps (hP : Closed P) {a0 a1 a2 s0} (hs0 : P s0) : P (State.setCtx a0 a1 a2 s0) := by
  delta State.setCtx; exact (State.setRam_keeps hP hs0)

theorem State.ctxCount_keeps (hP : Closed P) {a0 a1 s0} (hs0 : P s0) : P (State.ctxCount a0 a1 s0) := by
  delta State.ctxCount; exact (ite_keeps (State.ramCount_keeps hP hs0) hs0)

theorem State.setTl_keeps (hP : Closed P) {a0 a1 a2 s0} (hs0 : P s0) : P (State.setTl a0 a1 a2 s0) := by
  delta State.setTl; exact (State.setRam_keeps hP hs0)

theorem State.setDesc_keeps (hP : Closed P) {a0 a1 a2 s0} (hs0 : P s0) : P (State.setDesc a0 a1 a2 s0) := by
  delta State.setDesc; exact (State.setRam_keeps hP hs0)

theorem setTlValid_keeps (hP : Closed P) {a0 a1 s0} (hs0 : P s0) : P (setTlValid a0 a1 s0) := by
  have hR := hP.toRegClosed
  delta setTlValid
  extract_lets x0 x1
  have h2 : P x1 := (State.putBit_keeps hR (State.setTl_keeps hP hs0))
  clear_value x1
  exact (ite_keeps h2 (State.put_keeps hR h2))

theorem setTlLaunch_keeps (hP : Closed P) {a0 a1 s0} (hs0 : P s0) : P (setTlLaunch a0 a1 s0) := by
  have hR := hP.toRegClosed
  delta setTlLaunch
  exact (State.put_keeps hR (State.setTl_keeps hP hs0))

theorem traceWrite_keeps (hP : Closed P) {a0 a1 a2 a3 a4 a5 s0} (hs0 : P s0) : P (traceWrite a0 a1 a2 a3 a4 a5 s0) := by
  have hR := hP.toRegClosed
  delta traceWrite
  extract_lets x0 x1 x2
  have h3 : P x1 := (State.setNum_keeps hP hs0)
  clear_value x1
  have h4 : P x2 := (State.put_keeps hR h3)
  clear_value x2
  exact (ite_keeps (ite_keeps (State.inc_keeps hR h4) h4) hs0)

theorem laneDomainUp_keeps (hR : RegClosed P) {a0 s0} (hs0 : P s0) : P (laneDomainUp a0 s0) := by
  delta laneDomainUp
  exact calCheck_keeps hR (State.setAgc_keeps hR (State.resetRegs_keeps hR hs0))

theorem lanesUp_keeps (hR : RegClosed P) {s0 s1} (_hs0 : P s0) (hs1 : P s1) : P (lanesUp s0 s1) := by
  delta lanesUp
  exact (State.forEach_keeps (fun h0 => (ite_keeps (laneDomainUp_keeps hR h0) h0)) hs1)

theorem State.setAct_keeps (hR : RegClosed P) {a0 s0} (hs0 : P s0) : P (State.setAct a0 s0) := by
  delta State.setAct; exact (lanesUp_keeps hR hs0 (hR.upd hs0))

theorem State.dropAct_keeps (hR : RegClosed P) {a0 s0} (hs0 : P s0) : P (State.dropAct a0 s0) := by
  delta State.dropAct; exact (hR.upd hs0)

theorem laneShift_keeps (hR : RegClosed P) {a0 a1 s0} (hs0 : P s0) : P (laneShift a0 a1 s0) := by
  delta laneShift
  exact (ite_keeps (State.setLane_keeps hR (State.put_keeps hR hs0)) (laneLock_keeps hR (State.put_keeps hR hs0)))

theorem laneTune_keeps (hR : RegClosed P) {a0 a1 s0} (hs0 : P s0) : P (laneTune a0 a1 s0) := by
  delta laneTune
  extract_lets x0 x1 x2 x3
  have h4 : P x0 := laneYield_keeps hR hs0
  clear_value x0
  have h5 : P x1 := laneLock_keeps hR (State.put_keeps hR h4)
  clear_value x1
  have h6 : P x3 := ite_keeps h4 (State.setLane_keeps hR h5)
  clear_value x3
  exact State.setLaneSt_keeps hR h6

theorem nativeRx_keeps (hR : RegClosed P) {a0 s0} (hs0 : P s0) : P (nativeRx a0 s0) := by
  delta nativeRx
  extract_lets x0 x1
  have h2 : P x1 := (ite_keeps hs0 (laneShift_keeps hR hs0))
  clear_value x1
  exact (laneEnterRx_keeps hR h2)

theorem setRxFreq_keeps (hR : RegClosed P) {a0 a1 s0} (hs0 : P s0) : P (setRxFreq a0 a1 s0) := by
  delta setRxFreq
  exact State.forEach_keeps (fun h2 => State.setLane_keeps hR h2) hs0

theorem rxOnOne_keeps (hR : RegClosed P) {a0 s0} (hs0 : P s0) : P (rxOnOne a0 s0) := by
  delta rxOnOne
  refine ite_keeps ?_ ?_
  · exact hs0
  · extract_lets x0 x1
    have h2 : P x1 := ite_keeps hs0 (laneShift_keeps hR (laneLeaveRx_keeps hR hs0))
    clear_value x1
    exact ite_keeps h2 (laneEnterRx_keeps hR h2)

theorem rxOn_keeps (hR : RegClosed P) {a0 s0} (hs0 : P s0) : P (rxOn a0 s0) := by
  delta rxOn
  exact State.forEach_keeps (fun h2 => rxOnOne_keeps hR h2) hs0

theorem laneAfterOne_keeps (hR : RegClosed P) {a0 s0} (hs0 : P s0) : P (laneAfterOne a0 s0) := by
  delta laneAfterOne
  exact ite_keeps hs0 (ite_keeps (ite_keeps hs0 (nativeRx_keeps hR hs0)) (ite_keeps (laneLeaveRx_keeps hR hs0) (ite_keeps (State.setLaneSt_keeps hR hs0) hs0)))

theorem laneAfter_keeps (hR : RegClosed P) {a0 s0} (hs0 : P s0) : P (laneAfter a0 s0) := by
  delta laneAfter
  exact State.forEach_keeps (fun h2 => laneAfterOne_keeps hR h2) hs0

theorem pansCut_keeps (hR : RegClosed P) {a0 a1 s0} (hs0 : P s0) : P (pansCut a0 a1 s0) := by
  delta pansCut
  exact State.forEach_keeps (fun h2 => gainFreeze_keeps hR (State.setPanState_keeps hR (State.setPan_keeps hR (panEndEarly_keeps hR h2)))) hs0

theorem pansFree_keeps (hR : RegClosed P) {a0 s0} (hs0 : P s0) : P (pansFree a0 s0) := by
  delta pansFree
  exact (State.forEach_keeps (fun h0 => (State.unflag_keeps hR (panStop_keeps hR h0))) hs0)

theorem finishRun_keeps (hP : Closed P) {a0 a1 a2 a3 s0} (hs0 : P s0) : P (finishRun a0 a1 a2 a3 s0) := by
  have hR := hP.toRegClosed
  delta finishRun
  extract_lets x0 x1 x2 x3 x4 x5 x6 x7
  have h8 : P x0 := (State.ramCount_keeps hP (State.setTl_keeps hP (State.setTl_keeps hP hs0)))
  clear_value x0
  have h9 : P x4 := (setTlLaunch_keeps hP h8)
  clear_value x4
  have h10 : P x6 := (State.setTl_keeps hP h9)
  clear_value x6
  have h11 : P x7 := (ite_keeps (setTlValid_keeps hP h8) (ite_keeps h9 (ite_keeps (setTlValid_keeps hP h10) h10)))
  clear_value x7
  exact (State.fire_keeps hR h11)

theorem finishDesc_keeps (hP : Closed P) {a0 a1 a2 s0} (hs0 : P s0) : P (finishDesc a0 a1 a2 s0) := by
  delta finishDesc
  exact (ite_keeps hs0 (State.setDesc_keeps hP (State.setDesc_keeps hP (State.setDesc_keeps hP (State.setDesc_keeps hP hs0)))))

theorem lastResult_keeps (hR : RegClosed P) {a0 a1 a2 s0} (hs0 : P s0) : P (lastResult a0 a1 a2 s0) := by
  delta lastResult; exact (State.put_keeps hR (State.put_keeps hR (State.put_keeps hR hs0)))

theorem refusalCounts_keeps (hP : Closed P) {a0 a1 a2 a3 a4 s0} (hs0 : P s0) : P (refusalCounts a0 a1 a2 a3 a4 s0) := by
  have hR := hP.toRegClosed
  delta refusalCounts
  extract_lets x0 x1 x2
  have h3 : P x0 := (ite_keeps (State.flag_keeps hR hs0) hs0)
  clear_value x0
  have h4 : P x1 := (ite_keeps (State.flag_keeps hR h3) h3)
  clear_value x1
  have h5 : P x2 := (State.ctxCount_keeps hP (State.inc_keeps hR h4))
  clear_value x2
  exact (traceWrite_keeps hP (State.fire_keeps hR h5))

theorem refreshRxq_keeps (hR : RegClosed P) {s0} (hs0 : P s0) : P (refreshRxq s0) := by
  delta refreshRxq
  extract_lets x0 x1 x2 x3 x4
  have h5 : P x3 := (ite_keeps (hR.upd hs0) hs0)
  clear_value x3
  exact (State.put_keeps hR (State.put_keeps hR (State.put_keeps hR (State.put_keeps hR h5))))

theorem takeCells_keeps (hP : Closed P) {a0 s0} (hs0 : P s0) : P (takeCells a0 s0).2 := by
  have hR := hP.toRegClosed
  delta takeCells
  extract_lets x0 x1 x2 x3 x4
  have h5 : P x4 := (hR.upd hs0)
  clear_value x4
  exact (State.forEach_keeps (fun h6 => (State.setBytes_keeps hP h6)) h5)

theorem releaseRun_keeps (hR : RegClosed P) {a0 s0} (hs0 : P s0) : P (releaseRun a0 s0) := by
  delta releaseRun; exact (ite_keeps (hR.upd hs0) hs0)

theorem rxqAppend_keeps (hP : Closed P) {a0 a1 a2 a3 a4 a5 a6 a7 a8 a9 s0} (hs0 : P s0) :
    P (rxqAppend a0 a1 a2 a3 a4 a5 a6 a7 a8 a9 s0) := by
  have hR := hP.toRegClosed
  delta rxqAppend
  extract_lets x0 x1 x2 x3
  have h4 : P x1 := (State.setBytes_keeps hP hs0)
  clear_value x1
  have h5 : P x2 := (State.setNum_keeps hP h4)
  clear_value x2
  exact (refreshRxq_keeps hR (hR.upd h5))

theorem rxqRefuse_keeps (hP : Closed P) {a0 a1 a2 s0} (hs0 : P s0) : P (rxqRefuse a0 a1 a2 s0) := by
  have hR := hP.toRegClosed
  delta rxqRefuse
  extract_lets x0
  have h1 : P x0 := (State.fire_keeps hR (State.flag_keeps hR (State.inc_keeps hR hs0)))
  clear_value x0
  exact (traceWrite_keeps hP h1)

theorem rxqPop_keeps (hR : RegClosed P) {s0} (hs0 : P s0) : P (rxqPop s0) := by
  delta rxqPop
  extract_lets x0
  split
  · exact hs0
  · extract_lets x1 x2
    have h3 : P x1 := (hR.upd hs0)
    clear_value x1
    have h4 : P x2 := (State.put_keeps hR h3)
    clear_value x2
    exact (refreshRxq_keeps hR (releaseRun_keeps hR h4))

theorem execRxqPop_keeps (hR : RegClosed P) {a0 s0} (hs0 : P s0) : OutAll P (execRxqPop a0 s0) := by
  delta execRxqPop
  refine next_keeps ?_
  exact (ite_keeps (rxqPop_keeps hR hs0) hs0)

theorem dutyRefused_keeps (hR : RegClosed P) {a0 s0} (hs0 : P s0) : P (dutyRefused a0 s0) := by
  delta dutyRefused
  exact (State.fire_keeps hR (State.flag_keeps hR (State.inc_keeps hR hs0)))

theorem dwellFlag_keeps (hR : RegClosed P) {a0 s0} (hs0 : P s0) : P (dwellFlag a0 s0) := by
  delta dwellFlag; exact (State.fire_keeps hR (State.flag_keeps hR hs0))

theorem forwardEnd_keeps (hP : Closed P) {a0 a1 s0} (hs0 : P s0) : P (forwardEnd a0 a1 s0) := by
  have hR := hP.toRegClosed
  delta forwardEnd
  extract_lets x0 x1
  have h2 : P x1 := (hR.upd hs0)
  clear_value x1
  split
  · exact hs0
  · extract_lets x3
    have h4 : P x3 := (rxqAppend_keeps hP h2)
    clear_value x3
    exact (ite_keeps (refreshRxq_keeps hR (releaseRun_keeps hR (State.fire_keeps hR (State.inc_keeps hR h2)))) (State.fire_keeps hR (State.inc_keeps hR h4)))

theorem connAdvance_keeps (hP : Closed P) {a0 s0} (hs0 : P s0) : P (connAdvance a0 s0) := by
  delta connAdvance
  extract_lets x0 x1
  have h2 : P x0 := (State.setCtx_keeps hP hs0)
  clear_value x0
  have h3 : P x1 := (State.setCtx_keeps hP hs0)
  clear_value x1
  exact (ite_keeps (State.setCtx_keeps hP h2) (ite_keeps (State.setCtx_keeps hP h3) hs0))

theorem finishLeRun_keeps (hP : Closed P) {a0 a1 a2 a3 s0} (hs0 : P s0) : P (finishLeRun a0 a1 a2 a3 s0) := by
  have hR := hP.toRegClosed
  delta finishLeRun
  extract_lets x0 x1
  have h2 : P x0 := (State.ramCount_keeps hP (State.setTl_keeps hP (State.setTl_keeps hP hs0)))
  clear_value x0
  have h3 : P x1 := (ite_keeps (setTlLaunch_keeps hP h2) (setTlValid_keeps hP h2))
  clear_value x1
  exact (State.fire_keeps hR h3)

theorem setDacks_keeps (hP : Closed P) {a0 s0} (hs0 : P s0) : P (setDacks a0 s0) := by
  have hR := hP.toRegClosed
  delta setDacks
  extract_lets x0 x1
  have h2 : P x1 := hR.upd hs0
  clear_value x1
  exact State.setBytes_keeps hP h2

theorem dackUnsent_keeps (hR : RegClosed P) {a0 s0} (hs0 : P s0) : P (dackUnsent a0 s0) := by
  delta dackUnsent; exact (hR.upd hs0)

theorem finishAct_keeps (hP : Closed P) {a0 a1 s0} (hs0 : P s0) : P (finishAct a0 a1 s0) := by
  have hR := hP.toRegClosed
  delta finishAct
  extract_lets x0 x1 x2 x3 x4 x5 x6
  have h7 : P x0 := (pansFree_keeps hR (State.dropAct_keeps hR hs0))
  clear_value x0
  have h8 : P x1 := (ite_keeps (laneCode_keeps hR h7) h7)
  clear_value x1
  have h9 : P x2 := (ite_keeps (State.ctxCount_keeps hP h8) h8)
  clear_value x2
  have h10 : P x3 := (lastResult_keeps hR h9)
  clear_value x3
  have h11 : P x4 := (connAdvance_keeps hP h10)
  clear_value x4
  have h12 : P x5 := by
    unfold x5
    split
    · exact (ite_keeps (finishDesc_keeps hP h11) h11)
    · exact h11
  clear_value x5
  have h13 : P x6 := (ite_keeps (ite_keeps (finishLeRun_keeps hP h12) (finishRun_keeps hP h12)) (ite_keeps (forwardEnd_keeps hP h12) (ite_keeps (dackUnsent_keeps hR h12) h12)))
  clear_value x6
  exact (laneAfter_keeps hR h13)

theorem endAct_keeps (hP : Closed P) {a0 a1 s0} (hs0 : P s0) : P (endAct a0 a1 s0) := by
  delta endAct; exact (finishAct_keeps hP (traceWrite_keeps hP hs0))

theorem refuseAct_keeps (hP : Closed P) {a0 a1 s0} (hs0 : P s0) : P (refuseAct a0 a1 s0) := by
  have hR := hP.toRegClosed
  delta refuseAct
  extract_lets x0 x1
  have h2 : P x0 := by
    unfold x0
    split
    · exact (dutyRefused_keeps hR hs0)
    · exact hs0
  clear_value x0
  have h3 : P x1 := (ite_keeps (dwellFlag_keeps hR h2) h2)
  clear_value x1
  exact (finishAct_keeps hP (refusalCounts_keeps hP h3))

theorem cutTx_keeps (hP : Closed P) {a0 a1 s0} (hs0 : P s0) : P (cutTx a0 a1 s0) := by
  have hR := hP.toRegClosed
  delta cutTx
  extract_lets x0 x1 x2
  have h3 : P x1 := by
    unfold x1
    split
    · exact (dutyRefund_keeps hR hs0)
    · exact hs0
  clear_value x1
  have h4 : P x2 := (laneEndTx_keeps hR h3)
  clear_value x2
  exact (endAct_keeps hP h4)

theorem endLaneActs_keeps (hP : Closed P) {a0 a1 s0} (hs0 : P s0) : P (endLaneActs a0 a1 s0) := by
  delta endLaneActs
  exact (State.forEach_keeps (fun h0 => (ite_keeps (cutTx_keeps hP h0) (ite_keeps (endAct_keeps hP h0) (refuseAct_keeps hP h0)))) hs0)

theorem preempt_keeps (hP : Closed P) {a0 s0} (hs0 : P s0) : P (preempt a0 s0) := by
  have hR := hP.toRegClosed
  delta preempt
  exact endAct_keeps hP (pansCut_keeps hR (State.inc_keeps hR hs0))

end Sys2Proof.Machine
end

