-- ==== Sys2Proof/Laws/Keeps2.lean ====
section
/-!
SUPPORT. What the operations of LinkFrames, LinkLe, LinkSched, Lanes, Cal keep:
one lemma for each, under the hypothesis that Sys2Proof/Laws/Closed.lean names.
-/

namespace Sys2Proof.Machine

variable {P : State → Prop}

/-! ### LinkFrames -/

theorem txTake_keeps (hP : Closed P) {a0 a1 s0} (hs0 : P s0) : P (txTake a0 a1 s0) := by
  have hR := hP.toRegClosed
  delta txTake
  extract_lets x0 x1 x2 x3 x4
  have h5 : P x2 := (ite_keeps (State.setCtx_keeps hP hs0) (State.put_keeps hR hs0))
  clear_value x2
  have h6 : P x3 := (ite_keeps (State.fire_keeps hR (ite_keeps (State.put_keeps hR (State.flag_keeps hR h5)) (State.putBit_keeps hR h5))) h5)
  clear_value x3
  exact (ite_keeps (ite_keeps (hR.upd h6) (State.flag_keeps hR h6)) h6)

theorem txExhaustedRefused_keeps (hR : RegClosed P) {a0 a1 s0} (hs0 : P s0) : P (txExhaustedRefused a0 a1 s0) := by
  delta txExhaustedRefused
  exact (State.fire_keeps hR (ite_keeps (State.put_keeps hR (State.flag_keeps hR hs0)) hs0))

theorem setProf_keeps (hR : RegClosed P) {a0 s0} (hs0 : P s0) : P (setProf a0 s0) := by
  delta setProf; exact (hR.upd hs0)

theorem profSent_keeps (hR : RegClosed P) {a0 s0} (hs0 : P s0) : P (profSent a0 s0) := by
  delta profSent
  split
  · exact (setProf_keeps hR hs0)
  · exact hs0

theorem tableDrop_keeps (hP : Closed P) {a0 s0} (hs0 : P s0) : P (tableDrop a0 s0) := by
  delta tableDrop; exact (State.setCtx_keeps hP hs0)

theorem profileApply_keeps (hP : Closed P) {a0 a1 s0} (hs0 : P s0) : P (profileApply a0 a1 s0) := by
  have hR := hP.toRegClosed
  delta profileApply
  extract_lets x0 x1 x2
  have h3 : P x2 := by
    unfold x2
    clear_value x1
    clear_value x0
    split
    · exact (State.setCtx_keeps hP (State.setCtx_keeps hP (State.setCtx_keeps hP (State.setCtx_keeps hP hs0))))
    · exact (tableDrop_keeps hP hs0)
  clear_value x2
  exact (ite_keeps hs0 (State.fire_keeps hR h3))

/-! ### LinkLe -/

theorem setLeLink_keeps (hR : RegClosed P) {a0 s0} (hs0 : P s0) : P (setLeLink a0 s0) := by
  delta setLeLink; exact (hR.upd hs0)

theorem dropLeLink_keeps (hR : RegClosed P) {a0 s0} (hs0 : P s0) : P (dropLeLink a0 s0) := by
  delta dropLeLink; exact (hR.upd hs0)

theorem setConn_keeps (hP : Closed P) {a0 a1 s0} (hs0 : P s0) : P (setConn a0 a1 s0) := by
  have hR := hP.toRegClosed
  delta setConn
  extract_lets x0 x1
  have h2 : P x1 := (State.setCtx_keeps hP hs0)
  clear_value x1
  exact (ite_keeps h2 (State.put_keeps hR h2))

theorem renewSup_keeps (hP : Closed P) {a0 s0} (hs0 : P s0) : P (renewSup a0 s0) := by
  delta renewSup; exact (State.setCtx_keeps hP hs0)

theorem cancelConnEntries_keeps (hP : Closed P) {a0 s0} (hs0 : P s0) : P (cancelConnEntries a0 s0) := by
  delta cancelConnEntries
  refine State.forEach_keeps ?_ hs0
  intro y2 y3 h4
  extract_lets x5
  exact (ite_keeps (setTlValid_keeps hP h4) h4)

theorem linkEnd_keeps (hP : Closed P) {a0 a1 s0} (hs0 : P s0) : P (linkEnd a0 a1 s0) := by
  have hR := hP.toRegClosed
  delta linkEnd
  extract_lets x0 x1 x2 x3 x4 x5
  have h6 : P x0 := (dropLeLink_keeps hR (setConn_keeps hP hs0))
  clear_value x0
  have h7 : P x2 := (hR.upd h6)
  clear_value x2
  have h8 : P x3 := (State.forEach_keeps (fun h9 => (endAct_keeps hP h9)) h7)
  clear_value x3
  have h10 : P x4 := (cancelConnEntries_keeps hP h8)
  clear_value x4
  have h11 : P x5 := (traceWrite_keeps hP h10)
  clear_value x5
  exact (ite_keeps hs0 (ite_keeps (State.fire_keeps hR (State.flag_keeps hR h11)) h11))

theorem leTxRefused_keeps (hR : RegClosed P) {a0 a1 a2 a3 s0} (hs0 : P s0) : P (leTxRefused a0 a1 a2 a3 s0) := by
  delta leTxRefused
  extract_lets x0
  have h1 : P x0 := (ite_keeps (dwellFlag_keeps hR hs0) hs0)
  clear_value x0
  split
  · exact (dutyRefused_keeps hR h1)
  · exact h1

theorem leSend_keeps (hR : RegClosed P) {a0 a1 a2 a3 s0} (hs0 : P s0) : P (leSend a0 a1 a2 a3 s0).2 := by
  delta leSend
  extract_lets x0 x1 x2 x3
  refine ite_snd_keeps ?_ ?_
  · exact leTxRefused_keeps hR hs0
  · split
    · exact hs0
    · extract_lets x4 x5 x6 x7 x8
      have h9 : P x4 := dutyDebit_keeps hR hs0
      clear_value x4
      have h10 : P x5 := ite_keeps h9 (laneShift_keeps hR h9)
      clear_value x5
      have h11 : P x6 := laneStartTx_keeps hR (powerClamp_keeps hR h10)
      clear_value x6
      have h12 : P x8 := hR.upd h11
      clear_value x8
      exact lifeAir_keeps hR (laneEndTx_keeps hR h12)

theorem leSendData_keeps (hP : Closed P) {a0 a1 a2 a3 a4 s0} (hs0 : P s0) : P (leSendData a0 a1 a2 a3 a4 s0).2 := by
  have hR := hP.toRegClosed
  delta leSendData
  extract_lets x0 x1 x2 x3 x4 x5 x6 x7 x8 x9 x10 x11 x12 x13 x14 x15 x16 x17 x18 x19 x20 x21
  have h22 : P x13.2 := leSend_keeps hR hs0
  clear_value x13
  have h23 : P x14 := h22
  clear_value x14
  have h24 : P x15 := ite_keeps (State.setCtx_keeps hP h23) h23
  clear_value x15
  have h25 : P x16 := State.ctxCount_keeps hP h24
  clear_value x16
  have h26 : P x17 := ite_keeps h25 (State.ctxCount_keeps hP h25)
  clear_value x17
  have h27 : P x18 := setLeLink_keeps hR h26
  clear_value x18
  have h28 : P x19 := State.setDesc_keeps hP h27
  clear_value x19
  have h29 : P x20 := ite_keeps (State.setCtx_keeps hP (State.setCtx_keeps hP h28)) h28
  clear_value x20
  have h30 : P x21 := ite_keeps h27 (ite_keeps (State.setCtx_keeps hP h29) h29)
  clear_value x21
  exact ite_snd_keeps h22 h30

theorem leAcked_keeps (hP : Closed P) {a0 s0} (hs0 : P s0) : P (leAcked a0 s0) := by
  have hR := hP.toRegClosed
  delta leAcked
  extract_lets x0 x1 x2
  have h3 : P x1 := (setLeLink_keeps hR (State.setCtx_keeps hP hs0))
  clear_value x1
  have h4 : P x2 := (State.ctxCount_keeps hP h3)
  clear_value x2
  split
  · exact hs0
  · extract_lets x5 x6
    have h7 : P x5 := (finishDesc_keeps hP h4)
    clear_value x5
    have h8 : P x6 := (ite_keeps (State.setCtx_keeps hP (State.setCtx_keeps hP h7)) h7)
    clear_value x6
    exact (ite_keeps h4 (ite_keeps (State.setCtx_keeps hP h8) h8))

theorem stagedApply_keeps (hP : Closed P) {a0 a1 a2 s0} (hs0 : P s0) : P (stagedApply a0 a1 a2 s0).2 := by
  have hR := hP.toRegClosed
  delta stagedApply
  extract_lets x0 x1
  have h2 : P x1 := (hR.upd hs0)
  clear_value x1
  split
  · exact hs0
  · extract_lets x3 x4 x5
    have h6 : P x4 := (State.setCtx_keeps hP (State.setCtx_keeps hP (State.setCtx_keeps hP h2)))
    clear_value x4
    have h7 : P x5 := (State.setCtx_keeps hP h6)
    clear_value x5
    split
    · exact (setTlLaunch_keeps hP h7)
    · exact (State.setCtx_keeps hP (State.setCtx_keeps hP h2))
    · exact h2
    · exact (State.setCtx_keeps hP h2)
    · exact (State.setCtx_keeps hP h2)

/-! ### LinkSched -/

theorem scanAdvance_keeps (hR : RegClosed P) {a0 s0} (hs0 : P s0) : P (scanAdvance a0 s0) := by
  delta scanAdvance
  extract_lets x0 x1
  exact (hR.upd hs0)

theorem openPans_keeps (hR : RegClosed P) {a0 a1 s0} (hs0 : P s0) : P (openPans a0 a1 s0).2 := by
  delta openPans
  extract_lets x0
  exact (State.forEach_keeps (fun h1 => (panConfigure_keeps hR h1)) hs0)

theorem loseConflict_keeps (hP : Closed P) {a0 a1 a2 s0} (hs0 : P s0) : P (loseConflict a0 a1 a2 s0) := by
  have hR := hP.toRegClosed
  delta loseConflict
  extract_lets x0
  exact (ite_keeps (State.setAct_keeps hR hs0) (refuseAct_keeps hP hs0))

theorem settle_keeps (hP : Closed P) {a0 s0} (hs0 : P s0) : P (settle a0 s0) := by
  have hR := hP.toRegClosed
  delta settle
  extract_lets x0 x1 x2 x3 x4
  have h5 : P x2 := State.setAct_keeps hR hs0
  clear_value x2
  exact ite_keeps (State.forEach_keeps (fun h8 => loseConflict_keeps hP h8) h5) (loseConflict_keeps hP hs0)

theorem prepare_keeps (hR : RegClosed P) {a0 a1 s0} (hs0 : P s0) : P (prepare a0 a1 s0) := by
  delta prepare
  split
  · exact (ite_keeps (laneTune_keeps hR hs0) hs0)
  · exact hs0

theorem preemptLane_keeps (hP : Closed P) {a0 a1 s0} (hs0 : P s0) : P (preemptLane a0 a1 s0) := by
  delta preemptLane; exact (State.forEach_keeps (fun h0 => (preempt_keeps hP h0)) hs0)

theorem lbtTune_keeps (hP : Closed P) {a0 s0} (hs0 : P s0) : P (lbtTune a0 s0) := by
  have hR := hP.toRegClosed
  delta lbtTune
  extract_lets x0 x1
  have h2 : P x0 := State.setAct_keeps hR hs0
  clear_value x0
  have h3 : P x1 := preemptLane_keeps hP h2
  clear_value x1
  exact ite_keeps h2 (ite_keeps h3 (laneTune_keeps hR h3))

theorem listenDue_keeps (hP : Closed P) {s0} (hs0 : P s0) : P (listenDue s0) := by
  delta listenDue
  exact State.forEach_keeps (fun h2 => lbtTune_keeps hP h2) hs0

theorem refuseTx_keeps (hP : Closed P) {a0 a1 a2 s0} (hs0 : P s0) : P (refuseTx a0 a1 a2 s0) := by
  have hR := hP.toRegClosed
  delta refuseTx
  extract_lets x0
  have h1 : P x0 := ite_keeps (txExhaustedRefused_keeps hR hs0) (ite_keeps (tableDrop_keeps hP hs0) hs0)
  clear_value x0
  exact refuseAct_keeps hP h1

theorem presentTx_keeps (hP : Closed P) {a0 a1 a2 a3 a4 s0} (hs0 : P s0) : P (presentTx a0 a1 a2 a3 a4 s0) := by
  have hR := hP.toRegClosed
  delta presentTx
  extract_lets x0 x1 x2 x3 x4 x5 x6 x7 x8
  have h9 : P x3 := ite_keeps (State.freeNext_keeps hR hs0) hs0
  clear_value x3
  have h10 : P x5.2 := ite_snd_keeps h9 (linkAdmit_keeps hR h9)
  clear_value x5
  have h11 : P x6 := h10
  clear_value x6
  refine ite_keeps ?_ ?_
  · exact refuseAct_keeps hP h9
  · refine ite_keeps ?_ ?_
    · exact refuseAct_keeps hP h11
    · refine ite_keeps ?_ ?_
      · exact refuseTx_keeps hP h11
      · clear_value x2
        clear_value x8
        split
        · exact refuseAct_keeps hP (laneTune_keeps hR h11)
        · exact ite_keeps (refuseAct_keeps hP h11) (listenDue_keeps hP (prepare_keeps hR (settle_keeps hP h11)))

theorem anchorFresh_keeps (hP : Closed P) {a0 s0} (hs0 : P s0) : P (anchorFresh a0 s0) := by
  delta anchorFresh
  exact (ite_keeps (State.setCtx_keeps hP (State.setCtx_keeps hP hs0)) hs0)

theorem presentRx_keeps (hP : Closed P) {a0 a1 a2 a3 a4 s0} (hs0 : P s0) : P (presentRx a0 a1 a2 a3 a4 s0) := by
  have hR := hP.toRegClosed
  delta presentRx
  extract_lets x0 x1 x2 x3
  refine ite_keeps ?_ ?_
  · exact refuseAct_keeps hP hs0
  · refine ite_keeps ?_ ?_
    · exact refuseAct_keeps hP hs0
    · clear_value x3
      clear_value x2
      split
      · exact refuseAct_keeps hP (laneTune_keeps hR hs0)
      · exact prepare_keeps hR (settle_keeps hP hs0)

theorem presentLe_keeps (hP : Closed P) {a0 a1 a2 a3 a4 s0} (hs0 : P s0) : P (presentLe a0 a1 a2 a3 a4 s0) := by
  have hR := hP.toRegClosed
  delta presentLe
  extract_lets x0 x1 x2 x3 x4
  refine ite_keeps ?_ ?_
  · exact refuseAct_keeps hP hs0
  · refine ite_keeps ?_ ?_
    · exact refuseAct_keeps hP hs0
    · clear_value x2
      clear_value x4
      split
      · exact refuseAct_keeps hP (laneTune_keeps hR hs0)
      · exact ite_keeps (refuseAct_keeps hP hs0) (listenDue_keeps hP (prepare_keeps hR (settle_keeps hP hs0)))

theorem presentLeConn_keeps (hP : Closed P) {a0 a1 a2 a3 s0} (hs0 : P s0) : P (presentLeConn a0 a1 a2 a3 s0) := by
  have hR := hP.toRegClosed
  delta presentLeConn
  extract_lets x0 x1 x2 x3 x4 x5 x6 x7 x8 x9 x10
  have h11 : P x2 := (setLeLink_keeps hR (connAdvance_keeps hP hs0))
  clear_value x2
  have h12 : P x4 := (stagedApply_keeps hP hs0)
  clear_value x4
  exact (ite_keeps (refuseAct_keeps hP hs0) (ite_keeps (setTlLaunch_keeps hP h11) (presentLe_keeps hP h12)))

theorem presentEntry_keeps (hP : Closed P) {a0 a1 a2 s0} (hs0 : P s0) : P (presentEntry a0 a1 a2 s0) := by
  have hR := hP.toRegClosed
  delta presentEntry
  extract_lets x0 x1 x2 x3 x4 x5 x6 x7 x8 x9 x10 x11 x12 x13 x14
  have h15 : P x8 := State.dropAct_keeps hR hs0
  clear_value x8
  have h16 : P x9 := anchorFresh_keeps hP h15
  clear_value x9
  have h17 : P x11 := anchorFresh_keeps hP (stagedApply_keeps hP h15)
  clear_value x11
  have h18 : P x14 := State.freeNext_keeps hR h15
  clear_value x14
  refine ite_keeps ?_ ?_
  · exact hs0
  · split
    · exact refuseAct_keeps hP hs0
    · extract_lets x19 x20 x21 x22 x23 x24 x25 x26 x27 x28 x29 x30 x31 x32 x33 x34
      have h35 : P x34.2 := linkAdmit_keeps hR h15
      clear_value x34
      refine ite_keeps ?_ ?_
      · exact hs0
      · refine ite_keeps ?_ ?_
        · exact refuseAct_keeps hP h15
        · clear_value x19
          split
          · exact presentTx_keeps hP h15
          · exact presentTx_keeps hP h15
          · exact presentRx_keeps hP h15
          · exact presentRx_keeps hP h16
          · exact ite_keeps (refuseAct_keeps hP h15) (ite_keeps (presentTx_keeps hP h17) (presentRx_keeps hP h17))
          · exact presentLe_keeps hP h18
          · exact presentRx_keeps hP (scanAdvance_keeps hR h15)
          · exact presentLeConn_keeps hP h15
          · exact ite_keeps (refuseAct_keeps hP h15) (ite_keeps (refuseAct_keeps hP h35) (presentLe_keeps hP h35))

theorem execTlPresent_keeps (hP : Closed P) {a0 a1 a2 s0} (hs0 : P s0) : OutAll P (execTlPresent a0 a1 a2 s0) := by
  delta execTlPresent
  refine next_keeps ?_
  exact (presentEntry_keeps hP hs0)

theorem tlArm_keeps (hP : Closed P) {a0 s0} (hs0 : P s0) : P (tlArm a0 s0) := by
  have hR := hP.toRegClosed
  delta tlArm
  extract_lets x0 x1
  have h3 : P x1 := (setTlLaunch_keeps hP (setTlValid_keeps hP hs0))
  clear_value x1
  refine ite_keeps ?_ ?_
  · exact hs0
  · split
    · exact (refusalCounts_keeps hP (lastResult_keeps hR (State.setTl_keeps hP hs0)))
    · exact (ite_keeps (refuseAct_keeps hP h3) h3)

theorem execTlArm_keeps (hP : Closed P) {a0 a1 s0} (hs0 : P s0) : OutAll P (execTlArm a0 a1 s0) := by
  have hR := hP.toRegClosed
  delta execTlArm
  refine next_keeps ?_
  exact (tlArm_keeps hP (ite_keeps (State.takeTask_keeps hR hs0) hs0))

theorem tlCross_keeps (hP : Closed P) {s0} (hs0 : P s0) : P (tlCross s0) := by
  have hR := hP.toRegClosed
  delta tlCross
  exact State.forEach_keeps (fun h2 => by
    refine ite_keeps ?_ ?_
    · split
      · exact ite_keeps h2 (ite_keeps (State.setAct_keeps hR h2) (refuseAct_keeps hP h2))
      · exact ite_keeps h2 (refuseAct_keeps hP h2)
      · exact h2
    · exact h2) hs0

theorem supShift_keeps (hP : Closed P) {a0 s0} (hs0 : P s0) : P (supShift a0 s0) := by
  delta supShift
  exact State.forEach_keeps (fun h2 => ite_keeps (State.setCtx_keeps hP h2) h2) hs0

theorem timeStep_keeps (hP : Closed P) {a0 s0} (hs0 : P s0) : P (timeStep a0 s0) := by
  have hR := hP.toRegClosed
  delta timeStep
  exact tlCross_keeps hP (supShift_keeps hP (tideStep_keeps hR hs0))

theorem execTlCancel_keeps (hP : Closed P) {a0 s0} (hs0 : P s0) : OutAll P (execTlCancel a0 s0) := by
  have hR := hP.toRegClosed
  delta execTlCancel
  extract_lets x0 x1
  have h2 : P x1 := by
    unfold x1
    split
    · exact (ite_keeps (State.setAct_keeps hR hs0) (endAct_keeps hP hs0))
    · exact hs0
  clear_value x1
  refine next_keeps ?_
  exact (setTlValid_keeps hP h2)

theorem launched_keeps (hP : Closed P) {a0 a1 a2 s0} (hs0 : P s0) : P (launched a0 a1 a2 s0) := by
  have hR := hP.toRegClosed
  delta launched
  extract_lets x0 x1 x2 x3
  have h4 : P x0 := (ite_keeps (State.fire_keeps hR (State.setTl_keeps hP hs0)) hs0)
  clear_value x0
  have h5 : P x1 := (State.inc_keeps hR h4)
  clear_value x1
  have h6 : P x2 := (ite_keeps (State.inc_keeps hR h5) h5)
  clear_value x2
  have h7 : P x3 := (ite_keeps (State.fire_keeps hR (State.inc_keeps hR (State.flag_keeps hR h6))) h6)
  clear_value x3
  exact (traceWrite_keeps hP h7)

theorem emitNative_keeps (hR : RegClosed P) {a0 a1 a2 a3 a4 s0} (hs0 : P s0) : P (emitNative a0 a1 a2 a3 a4 s0) := by
  delta emitNative
  extract_lets x0 x1 x2 x3 x4 x5 x6
  have h7 : P x1 := (dutyDebit_keeps hR hs0)
  clear_value x1
  have h8 : P x3 := (laneLeaveRx_keeps hR h7)
  clear_value x3
  have h9 : P x4 := (ite_keeps h8 (laneShift_keeps hR h8))
  clear_value x4
  have h10 : P x5 := (laneStartTx_keeps hR (powerClamp_keeps hR h9))
  clear_value x5
  exact (hR.upd h10)

theorem dackLeft_keeps (hP : Closed P) {a0 a1 s0} (hs0 : P s0) : P (dackLeft a0 a1 s0) := by
  have hR := hP.toRegClosed
  delta dackLeft
  extract_lets x0 x1 x2
  have h3 : P x2 := ite_keeps hs0 (setDacks_keeps hP hs0)
  clear_value x2
  exact ite_keeps (State.fire_keeps hR (State.inc_keeps hR h3)) h3

theorem launchTx_keeps (hP : Closed P) {a0 a1 a2 s0} (hs0 : P s0) : P (launchTx a0 a1 a2 s0) := by
  have hR := hP.toRegClosed
  delta launchTx
  extract_lets x0 x1 x2 x3 x4 x5 x6 x7 x8 x9 x10 x11 x12 x13
  have h14 : P x3 := ite_keeps (txTake_keeps hP hs0) hs0
  clear_value x3
  have h15 : P x7 := emitNative_keeps hR h14
  clear_value x7
  have h16 : P x8 := State.setAct_keeps hR h15
  clear_value x8
  have h17 : P x9 := ite_keeps (State.setDesc_keeps hP h16) h16
  clear_value x9
  have h18 : P x10 := State.ctxCount_keeps hP h17
  clear_value x10
  have h19 : P x11 := ite_keeps h18 (State.inc_keeps hR (State.ctxCount_keeps hP h18))
  clear_value x11
  have h20 : P x12 := dackLeft_keeps hP h19
  clear_value x12
  have h21 : P x13 := ite_keeps h20 (profSent_keeps hR h20)
  clear_value x13
  exact launched_keeps hP h21

theorem tryLaunchTx_keeps (hP : Closed P) {a0 a1 a2 s0} (hs0 : P s0) : P (tryLaunchTx a0 a1 a2 s0) := by
  have hR := hP.toRegClosed
  delta tryLaunchTx
  extract_lets x0 x1
  exact ite_keeps (refuseAct_keeps hP hs0) (ite_keeps (loseConflict_keeps hP (State.dropAct_keeps hR hs0)) (ite_keeps (refuseTx_keeps hP hs0) (launchTx_keeps hP (preemptLane_keeps hP hs0))))

theorem launchRx_keeps (hP : Closed P) {a0 a1 s0} (hs0 : P s0) : P (launchRx a0 a1 s0) := by
  have hR := hP.toRegClosed
  delta launchRx
  extract_lets x0 x1 x2 x3
  have h4 : P x2 := ite_keeps hs0 (setRxFreq_keeps hR (preemptLane_keeps hP hs0))
  clear_value x2
  have h5 : P x3.2 := openPans_keeps hR (rxOn_keeps hR (State.setAct_keeps hR h4))
  clear_value x3
  exact ite_keeps (refuseAct_keeps hP hs0) (ite_keeps (loseConflict_keeps hP (State.dropAct_keeps hR hs0)) (launched_keeps hP (State.setAct_keeps hR h5)))

theorem lePans_keeps (hR : RegClosed P) {a0 a1 a2 s0} (hs0 : P s0) : P (lePans a0 a1 a2 s0) := by
  delta lePans
  exact (State.forEach_keeps (fun h0 => (State.wr_keeps hR (State.wr_keeps hR h0))) hs0)

theorem leListen_keeps (hR : RegClosed P) {a0 a1 a2 a3 a4 s0} (hs0 : P s0) : P (leListen a0 a1 a2 a3 a4 s0) := by
  delta leListen
  extract_lets x0 x1
  have h2 : P x0 := setRxFreq_keeps hR (pansFree_keeps hR hs0)
  clear_value x0
  have h3 : P x1.2 := openPans_keeps hR (rxOn_keeps hR (State.setAct_keeps hR h2))
  clear_value x1
  exact lePans_keeps hR (State.setAct_keeps hR h3)

theorem leSendAll_keeps (hR : RegClosed P) {a0 a1 a2 a3 s0} (hs0 : P s0) : P (leSendAll a0 a1 a2 a3 s0).2 := by
  induction a3 generalizing a2 s0 with
  | nil => exact hs0
  | cons p t ih =>
    unfold leSendAll
    extract_lets x0
    have h1 : P x0.2 := leSend_keeps hR hs0
    exact ite_snd_keeps h1 (ih h1)

theorem leAdvertise_keeps (hR : RegClosed P) {a0 a1 a2 a3 a4 a5 s0} (hs0 : P s0) : P (leAdvertise a0 a1 a2 a3 a4 a5 s0).2 := by
  induction a5 generalizing a4 s0 with
  | nil => exact hs0
  | cons c t ih => exact ih (leSend_keeps hR hs0)

theorem launchAdv_keeps (hP : Closed P) {a0 a1 a2 s0} (hs0 : P s0) : P (launchAdv a0 a1 a2 s0) := by
  have hR := hP.toRegClosed
  delta launchAdv
  extract_lets x0 x1 x2 x3 x4 x5 x6 x7 x8 x9 x10 x11 x12 x13 x14 x15 x16
  have h17 : P x8.2 := leAdvertise_keeps hR (preemptLane_keeps hP hs0)
  clear_value x8
  have h18 : P x10 := ite_keeps h17 (State.freeNext_keeps hR h17)
  clear_value x10
  have h19 : P x15.2 := ite_snd_keeps h18 (leSendAll_keeps hR h18)
  clear_value x15
  have h20 : P x16 := launched_keeps hP (State.inc_keeps hR h19)
  clear_value x16
  exact ite_keeps (refuseAct_keeps hP h19) (ite_keeps (State.setAct_keeps hR h20) (ite_keeps (leListen_keeps hR h20) (leListen_keeps hR h20)))

theorem launchLeConn_keeps (hP : Closed P) {a0 a1 a2 s0} (hs0 : P s0) : P (launchLeConn a0 a1 a2 s0) := by
  have hR := hP.toRegClosed
  delta launchLeConn
  extract_lets x0 x1 x2 x3 x4 x5
  have h6 : P x1 := (preemptLane_keeps hP hs0)
  clear_value x1
  have h7 : P x3 := (setLeLink_keeps hR h6)
  clear_value x3
  have h8 : P x5 := (launched_keeps hP (ite_snd_keeps (leSendData_keeps hP h7) h7))
  clear_value x5
  exact (ite_keeps (refuseAct_keeps hP (ite_snd_keeps (leSendData_keeps hP h7) h7)) (leListen_keeps hR h8))

theorem csTune_keeps (hP : Closed P) {a0 a1 s0} (hs0 : P s0) : P (csTune a0 a1 s0) := by
  have hR := hP.toRegClosed
  delta csTune
  exact State.forEach_keeps (fun h2 => ite_keeps h2 (laneTune_keeps hR (laneLeaveRx_keeps hR (preemptLane_keeps hP h2)))) hs0

theorem launchCs_keeps (hP : Closed P) {a0 a1 a2 a3 a4 s0} (hs0 : P s0) : P (launchCs a0 a1 a2 a3 a4 s0) := by
  have hR := hP.toRegClosed
  delta launchCs
  extract_lets x0 x1 x2 x3 x4 x5 x6 x7 x8 x9 x10 x11
  have h12 : P x0 := foldl_keeps (fun h15 => csTune_keeps hP h15) (preemptLane_keeps hP hs0)
  clear_value x0
  have h16 : P x2 := dutyDebit_keeps hR h12
  clear_value x2
  have h17 : P x3 := laneStartTx_keeps hR (powerClamp_keeps hR h16)
  clear_value x3
  have h18 : P x6 := hR.upd h17
  clear_value x6
  have h19 : P x9 := State.setBytes_keeps hP h18
  clear_value x9
  have h20 : P x10 := launched_keeps hP h19
  clear_value x10
  have h21 : P x11 := lifeAir_keeps hR (laneEndTx_keeps hR h20)
  clear_value x11
  exact State.setAct_keeps hR h21

theorem launchKind_keeps (hP : Closed P) {a0 a1 a2 a3 a4 s0} (hs0 : P s0) : P (launchKind a0 a1 a2 a3 a4 s0) := by
  have hR := hP.toRegClosed
  delta launchKind
  split
  · split
    · exact tryLaunchTx_keeps hP hs0
    · exact refuseAct_keeps hP hs0
  · split
    · exact tryLaunchTx_keeps hP hs0
    · exact refuseAct_keeps hP hs0
  · split
    · exact tryLaunchTx_keeps hP hs0
    · exact refuseAct_keeps hP hs0
  · refine ite_keeps ?_ ?_
    · split
      · exact tryLaunchTx_keeps hP hs0
      · exact refuseAct_keeps hP hs0
    · exact launchRx_keeps hP hs0
  · exact launchRx_keeps hP hs0
  · exact launchRx_keeps hP hs0
  · extract_lets x0
    have h1 : P x0 := launchRx_keeps hP hs0
    clear_value x0
    exact lePans_keeps hR h1
  · exact hs0
  · exact hs0
  · extract_lets x2 x3
    exact ite_keeps (refuseAct_keeps hP hs0) (ite_keeps (loseConflict_keeps hP (State.dropAct_keeps hR hs0)) (ite_keeps (launchAdv_keeps hP hs0) (ite_keeps (launchLeConn_keeps hP hs0) (launchCs_keeps hP hs0))))

theorem execActivityLaunch_keeps (hP : Closed P) {a0 a1 a2 a3 s0} (hs0 : P s0) :
    OutAll P (execActivityLaunch a0 a1 a2 a3 s0) := by
  have hR := hP.toRegClosed
  delta execActivityLaunch
  split
  · exact next_keeps hs0
  · refine ite_out_keeps ?_ ?_
    · split
      · exact next_keeps (refuseAct_keeps hP hs0)
      · extract_lets x0
        refine ite_out_keeps ?_ ?_
        · exact next_keeps (refuseAct_keeps hP hs0)
        · clear_value x0
          split
          · exact next_keeps (refuseAct_keeps hP hs0)
          · refine ite_out_keeps ?_ ?_
            · exact next_keeps (State.setAct_keeps hR hs0)
            · exact next_keeps (launchKind_keeps hP hs0)
    · refine ite_out_keeps ?_ ?_
      · refine next_keeps ?_
        split
        · refine ite_keeps ?_ ?_
          · extract_lets x1 x2
            exact ite_keeps (endAct_keeps hP hs0) (ite_keeps (refuseAct_keeps hP hs0) (ite_keeps (refuseTx_keeps hP hs0) (launchTx_keeps hP hs0)))
          · exact hs0
        · exact hs0
      · exact next_keeps hs0

theorem awaitAck_keeps (hR : RegClosed P) {a0 s0} (hs0 : P s0) : P (awaitAck a0 s0) := by
  delta awaitAck
  extract_lets x0 x1 x2
  have h3 : P x1 := setRxFreq_keeps hR (pansFree_keeps hR hs0)
  clear_value x1
  have h4 : P x2.2 := openPans_keeps hR (rxOn_keeps hR (State.setAct_keeps hR h3))
  clear_value x2
  exact State.setAct_keeps hR h4

theorem endEvent_keeps (hP : Closed P) {a0 s0} (hs0 : P s0) : P (endEvent a0 s0) := by
  have hR := hP.toRegClosed
  delta endEvent
  extract_lets x0 x1 x2 x3 x4
  have h5 : P x2 := (setLeLink_keeps hR hs0)
  clear_value x2
  have h6 : P x3 := (ite_keeps h5 (traceWrite_keeps hP (State.ctxCount_keeps hP (State.inc_keeps hR h5))))
  clear_value x3
  have h7 : P x4 := (endAct_keeps hP h6)
  clear_value x4
  exact (ite_keeps (ite_keeps (linkEnd_keeps hP h7) h7) (endAct_keeps hP hs0))

theorem execActivityEnd_keeps (hP : Closed P) {a0 a1 s0} (hs0 : P s0) : OutAll P (execActivityEnd a0 a1 s0) := by
  have hR := hP.toRegClosed
  delta execActivityEnd
  split
  · exact next_keeps hs0
  · refine ite_out_keeps ?_ ?_
    · extract_lets x0 x1
      have h2 : P x0 := laneEndTx_keeps hR hs0
      clear_value x0
      exact next_keeps (ite_keeps (awaitAck_keeps hR h2) (endAct_keeps hP h2))
    · refine ite_out_keeps ?_ ?_
      · exact next_keeps (endEvent_keeps hP hs0)
      · exact next_keeps hs0

theorem noAck_keeps (hP : Closed P) {a0 a1 s0} (hs0 : P s0) : P (noAck a0 a1 s0) := by
  have hR := hP.toRegClosed
  delta noAck
  extract_lets x0 x1 x2
  have h3 : P x0 := (State.fire_keeps hR (State.inc_keeps hR hs0))
  clear_value x0
  have h4 : P x1 := (State.ramCount_keeps hP h3)
  clear_value x1
  have h5 : P x2 := (ite_keeps (ite_keeps (tableDrop_keeps hP (State.setCtx_keeps hP h4)) h4) h3)
  clear_value x2
  exact (endAct_keeps hP h5)

theorem execAckWindowClose_keeps (hP : Closed P) {a0 s0} (hs0 : P s0) : OutAll P (execAckWindowClose a0 s0) := by
  have hR := hP.toRegClosed
  delta execAckWindowClose
  split
  · refine next_keeps ?_
    exact hs0
  · split
    · refine ite_out_keeps ?_ ?_
      · refine next_keeps ?_
        exact (laneAfter_keeps hR (State.setAct_keeps hR (pansFree_keeps hR hs0)))
      · refine next_keeps ?_
        exact (noAck_keeps hP hs0)
    · refine next_keeps ?_
      exact hs0

theorem execRetryTimer_keeps (hP : Closed P) {a0 a1 a2 s0} (hs0 : P s0) : OutAll P (execRetryTimer a0 a1 a2 s0) := by
  delta execRetryTimer
  split
  · refine next_keeps ?_
    exact hs0
  · extract_lets x0 x1
    refine ite_out_keeps ?_ ?_
    · refine next_keeps ?_
      exact hs0
    · clear_value x0
      clear_value x1
      split
      · refine next_keeps ?_
        exact (refuseAct_keeps hP hs0)
      · refine next_keeps ?_
        exact (presentTx_keeps hP hs0)

theorem markDack_keeps (hR : RegClosed P) {a0 a1 s0} (hs0 : P s0) : P (markDack a0 a1 s0) := by
  delta markDack; exact (hR.upd hs0)

theorem execDackTimeout_keeps (hP : Closed P) {a0 a1 a2 s0} (hs0 : P s0) : OutAll P (execDackTimeout a0 a1 a2 s0) := by
  have hR := hP.toRegClosed
  delta execDackTimeout
  split
  · exact next_keeps hs0
  · refine ite_out_keeps ?_ ?_
    · exact next_keeps hs0
    · extract_lets x0 x1 x2
      have h3 : P x1 := markDack_keeps hR hs0
      clear_value x1
      split
      · exact next_keeps (refuseAct_keeps hP h3)
      · extract_lets x4 x5 x6 x7 x8 x9 x10
        have h11 : P x8.2 := linkAdmit_keeps hR h3
        clear_value x8
        refine ite_out_keeps ?_ ?_
        · exact next_keeps (refuseAct_keeps hP h3)
        · refine ite_out_keeps ?_ ?_
          · exact next_keeps (refuseAct_keeps hP h11)
          · refine ite_out_keeps ?_ ?_
            · exact next_keeps (refuseTx_keeps hP h11)
            · clear_value x6
              clear_value x10
              split
              · exact next_keeps (refuseAct_keeps hP (laneTune_keeps hR h11))
              · exact next_keeps (listenDue_keeps hP (prepare_keeps hR (settle_keeps hP h11)))

theorem execSupervisionTimeout_keeps (hP : Closed P) {a0 s0} (hs0 : P s0) : OutAll P (execSupervisionTimeout a0 s0) := by
  delta execSupervisionTimeout
  exact next_keeps (ite_keeps (linkEnd_keeps hP hs0) hs0)

theorem execTracestop_keeps (hR : RegClosed P) {s0} (hs0 : P s0) : OutAll P (execTracestop s0) := by
  delta execTracestop
  refine next_keeps ?_
  exact (State.unflag_keeps hR (State.takeTask_keeps hR hs0))

/-! ### Lanes -/

theorem execPortSettled_keeps (hR : RegClosed P) {a0 s0} (hs0 : P s0) : OutAll P (execPortSettled a0 s0) := by
  delta execPortSettled
  extract_lets x0
  refine next_keeps ?_
  exact (State.setLane_keeps hR hs0)

theorem stepDebit_keeps (hR : RegClosed P) {a0 s0} (hs0 : P s0) : P (stepDebit a0 s0) := by
  delta stepDebit
  extract_lets x0
  split
  · exact hs0
  · extract_lets x1 x2
    exact (ite_keeps hs0 (State.setLane_keeps hR (State.setBucket_keeps hR hs0)))

theorem stepEndTx_keeps (hR : RegClosed P) {a0 a1 s0} (hs0 : P s0) : P (stepEndTx a0 a1 s0) := by
  delta stepEndTx
  extract_lets x0 x1
  have h2 : P x0 := (stepDebit_keeps hR hs0)
  clear_value x0
  exact (laneEndTx_keeps hR (State.setLane_keeps hR h2))

theorem stepRefuse_keeps (hR : RegClosed P) {a0 a1 s0} (hs0 : P s0) : P (stepRefuse a0 a1 s0) := by
  delta stepRefuse
  extract_lets x0 x1 x2 x3
  have h4 : P x1 := (State.setLane_keeps hR hs0)
  clear_value x1
  have h5 : P x2 := (ite_keeps (dwellFlag_keeps hR h4) h4)
  clear_value x2
  have h6 : P x3 := by
    unfold x3
    split
    · exact (dutyRefused_keeps hR h5)
    · exact h5
  clear_value x3
  exact (ite_keeps (laneCode_keeps hR h6) h6)

theorem stepEnterTx_keeps (hR : RegClosed P) {a0 a1 s0} (hs0 : P s0) : P (stepEnterTx a0 a1 s0) := by
  delta stepEnterTx
  extract_lets x0 x1 x2 x3 x4
  have h5 : P x3 := (laneStartTx_keeps hR (powerClamp_keeps hR (bucketSettle_keeps hR hs0)))
  clear_value x3
  exact (ite_keeps (stepRefuse_keeps hR hs0) (ite_keeps (State.setLane_keeps hR hs0) (State.setLane_keeps hR h5)))

theorem stepLock_keeps (hR : RegClosed P) {a0 a1 a2 s0} (hs0 : P s0) : P (stepLock a0 a1 a2 s0) := by
  delta stepLock
  extract_lets x0 x1 x2
  have h3 : P x0 := laneLock_keeps hR (State.setLaneSt_keeps hR hs0)
  clear_value x0
  have h4 : P x2 := State.setLane_keeps hR h3
  clear_value x2
  refine ite_keeps ?_ ?_
  · split
    · exact ite_keeps (calStore_keeps hR h4) h4
    · exact h4
  · exact h3

theorem stepArrived_keeps (hR : RegClosed P) {a0 s0} (hs0 : P s0) : P (stepArrived a0 s0) := by
  delta stepArrived; exact (State.setLane_keeps hR hs0)

theorem stepSegment_keeps (hR : RegClosed P) {a0 a1 a2 a3 s0} (hs0 : P s0) : P (stepSegment a0 a1 a2 a3 s0) := by
  delta stepSegment
  extract_lets x0 x1 x2 x3 x4
  have h5 : ∀ {y0}, P y0 → P (x2 y0) := fun h7 => State.fire_keeps hR (stepArrived_keeps hR (laneUnlock_keeps hR (State.setLaneSt_keeps hR h7)))
  clear_value x2
  have h8 : ∀ {y0 y1}, P y1 → P (x3 y0 y1) := fun h11 => ite_keeps (stepEndTx_keeps hR h11) (laneLeaveRx_keeps hR h11)
  clear_value x3
  split
  · exact hs0
  · refine ite_keeps ?_ ?_
    · exact hs0
    · split
      · exact stepArrived_keeps hR (laneUnlock_keeps hR (State.setLaneSt_keeps hR (h8 hs0)))
      · exact h5 (h8 hs0)
      · exact ite_keeps (State.setLaneSt_keeps hR hs0) (ite_keeps (laneUnlock_keeps hR (h8 hs0)) (stepArrived_keeps hR (stepLock_keeps hR hs0)))
      · exact ite_keeps (State.setLaneSt_keeps hR hs0) (ite_keeps (laneUnlock_keeps hR (h8 hs0)) (ite_keeps (stepArrived_keeps hR hs0) (ite_keeps (stepLock_keeps hR hs0) (ite_keeps (State.setLane_keeps hR hs0) (ite_keeps (stepRefuse_keeps hR hs0) (laneEnterRx_keeps hR hs0))))))
      · exact ite_keeps (State.setLaneSt_keeps hR hs0) (ite_keeps (laneUnlock_keeps hR (h8 hs0)) (ite_keeps (stepArrived_keeps hR hs0) (ite_keeps (stepLock_keeps hR hs0) (ite_keeps (State.setLane_keeps hR hs0) (ite_keeps hs0 (stepEnterTx_keeps hR hs0))))))

theorem execLaneTransitionDone_keeps (hR : RegClosed P) {a0 a1 a2 a3 s0} (hs0 : P s0) :
    OutAll P (execLaneTransitionDone a0 a1 a2 a3 s0) := by
  delta execLaneTransitionDone
  exact next_keeps (stepSegment_keeps hR hs0)

theorem laneReject_keeps (hR : RegClosed P) {a0 s0} (hs0 : P s0) : P (laneReject a0 s0) := by
  delta laneReject; exact (State.fire_keeps hR (State.flag_keeps hR hs0))

theorem stepCommand_keeps (hR : RegClosed P) {a0 a1 a2 a3 s0} (hs0 : P s0) : P (stepCommand a0 a1 a2 a3 s0) := by
  delta stepCommand
  extract_lets x0 x1 x2
  have h3 : P x0 := (ite_keeps (State.takeTask_keeps hR hs0) hs0)
  clear_value x0
  have h4 : P x1 := (laneYield_keeps hR h3)
  clear_value x1
  exact (ite_keeps (laneReject_keeps hR h3) (State.setLane_keeps hR h4))

theorem execLaneSleep_keeps (hR : RegClosed P) {a0 a1 s0} (hs0 : P s0) : OutAll P (execLaneSleep a0 a1 s0) := by
  delta execLaneSleep
  refine next_keeps ?_
  exact (stepCommand_keeps hR hs0)

theorem execLaneStandby_keeps (hR : RegClosed P) {a0 a1 s0} (hs0 : P s0) : OutAll P (execLaneStandby a0 a1 s0) := by
  delta execLaneStandby
  refine next_keeps ?_
  exact (stepCommand_keeps hR hs0)

theorem execLaneSynth_keeps (hR : RegClosed P) {a0 a1 a2 s0} (hs0 : P s0) : OutAll P (execLaneSynth a0 a1 a2 s0) := by
  delta execLaneSynth
  refine next_keeps ?_
  exact (stepCommand_keeps hR hs0)

theorem execLaneRx_keeps (hR : RegClosed P) {a0 a1 s0} (hs0 : P s0) : OutAll P (execLaneRx a0 a1 s0) := by
  delta execLaneRx
  refine next_keeps ?_
  exact (stepCommand_keeps hR hs0)

theorem execLaneTx_keeps (hR : RegClosed P) {a0 a1 a2 s0} (hs0 : P s0) : OutAll P (execLaneTx a0 a1 a2 s0) := by
  delta execLaneTx
  refine next_keeps ?_
  exact (stepCommand_keeps hR hs0)

theorem execLaneAbort_keeps (hR : RegClosed P) {a0 a1 s0} (hs0 : P s0) : OutAll P (execLaneAbort a0 a1 s0) := by
  delta execLaneAbort
  refine next_keeps ?_
  exact (stepCommand_keeps hR hs0)

theorem execSynthLockTimeout_keeps (hP : Closed P) {a0 s0} (hs0 : P s0) : OutAll P (execSynthLockTimeout a0 s0) := by
  have hR := hP.toRegClosed
  delta execSynthLockTimeout
  extract_lets x0 x1 x2 x3 x4
  have h5 : P x1 := (laneUnlock_keeps hR (State.setLaneSt_keeps hR hs0))
  clear_value x1
  have h6 : P x3 := (State.setLane_keeps hR h5)
  clear_value x3
  have h7 : P x4 := (State.forEach_keeps (fun h8 => (refuseAct_keeps hP h8)) h6)
  clear_value x4
  refine next_keeps ?_
  exact (laneCode_keeps hR (State.fire_keeps hR (State.flag_keeps hR h7)))

theorem stepCut_keeps (hR : RegClosed P) {a0 s0} (hs0 : P s0) : P (stepCut a0 s0) := by
  delta stepCut
  extract_lets x0 x1
  have h2 : P x0 := (laneUnlock_keeps hR (stepEndTx_keeps hR hs0))
  clear_value x0
  exact (ite_keeps (State.setLane_keeps hR h2) hs0)

theorem execStepwiseDwellExpiry_keeps (hR : RegClosed P) {a0 s0} (hs0 : P s0) :
    OutAll P (execStepwiseDwellExpiry a0 s0) := by
  delta execStepwiseDwellExpiry
  extract_lets x0
  refine next_keeps ?_
  exact (ite_keeps (dwellFlag_keeps hR (laneCode_keeps hR (stepCut_keeps hR hs0))) hs0)

theorem execStepwiseDutyExhaust_keeps (hR : RegClosed P) {a0 s0} (hs0 : P s0) :
    OutAll P (execStepwiseDutyExhaust a0 s0) := by
  delta execStepwiseDutyExhaust
  refine next_keeps ?_
  exact (stepCut_keeps hR hs0)

theorem lbtBusyMarks_keeps (hR : RegClosed P) {a0 s0} (hs0 : P s0) : P (lbtBusyMarks a0 s0) := by
  delta lbtBusyMarks
  exact (State.fire_keeps hR (State.inc_keeps hR (State.flag_keeps hR hs0)))

theorem listenEnd_keeps (hP : Closed P) {a0 a1 a2 a3 s0} (hs0 : P s0) : P (listenEnd a0 a1 a2 a3 s0) := by
  have hR := hP.toRegClosed
  delta listenEnd
  extract_lets x0
  exact ite_keeps (refuseAct_keeps hP hs0) (ite_keeps (ite_keeps (lbtBusyMarks_keeps hR (State.setAct_keeps hR hs0)) (refuseAct_keeps hP (lbtBusyMarks_keeps hR hs0))) (State.fire_keeps hR (State.setAct_keeps hR hs0)))

theorem execLbtListenEnd_keeps (hP : Closed P) {a0 a1 s0} (hs0 : P s0) : OutAll P (execLbtListenEnd a0 a1 s0) := by
  have hR := hP.toRegClosed
  delta execLbtListenEnd
  extract_lets x0 x1 x2 x3
  refine ite_out_keeps ?_ ?_
  · refine ite_out_keeps ?_ ?_
    · exact next_keeps (stepRefuse_keeps hR (lbtBusyMarks_keeps hR hs0))
    · exact next_keeps (State.fire_keeps hR (State.setLane_keeps hR hs0))
  · clear_value x3
    split
    · exact next_keeps hs0
    · extract_lets x4 x5
      exact next_keeps (listenEnd_keeps hP (ite_keeps hs0 (lbtTune_keeps hP hs0)))

theorem healthHold_keeps (hR : RegClosed P) {a0 s0} (hs0 : P s0) : P (healthHold a0 s0) := by
  delta healthHold
  exact ite_keeps (ite_keeps (State.setLaneSt_keeps hR hs0) hs0) (ite_keeps (stepResumed_keeps hR (laneUnlock_keeps hR (State.setLaneSt_keeps hR (State.setLane_keeps hR hs0)))) hs0)

theorem healthStart_keeps (hR : RegClosed P) {a0 s0} (hs0 : P s0) : P (healthStart a0 s0) := by
  delta healthStart
  exact (ite_keeps hs0 (healthHold_keeps hR (State.setLane_keeps hR (State.flag_keeps hR hs0))))

theorem healthEnd_keeps (hR : RegClosed P) {a0 s0} (hs0 : P s0) : P (healthEnd a0 s0) := by
  delta healthEnd
  extract_lets x0 x1 x2
  have h3 : P x0 := (State.unflag_keeps hR (State.unflag_keeps hR hs0))
  clear_value x0
  have h4 : P x2 := (State.setLane_keeps hR h3)
  clear_value x2
  exact (ite_keeps (State.setLaneSt_keeps hR h4) h4)

theorem execLaneHealthreq_keeps (hR : RegClosed P) {a0 a1 s0} (hs0 : P s0) : OutAll P (execLaneHealthreq a0 a1 s0) := by
  delta execLaneHealthreq
  extract_lets x0 x1
  have h2 : P x1 := (ite_keeps (State.takeTask_keeps hR hs0) (State.flag_keeps hR hs0))
  clear_value x1
  refine next_keeps ?_
  exact (healthStart_keeps hR h2)

theorem execHealthPeriod_keeps (hR : RegClosed P) {a0 s0} (hs0 : P s0) : OutAll P (execHealthPeriod a0 s0) := by
  delta execHealthPeriod
  extract_lets x0 x1 x2 x3
  have h4 : P x2 := (State.setLane_keeps hR hs0)
  clear_value x2
  have h5 : P x3 := (ite_keeps (healthEnd_keeps hR (State.inc_keeps hR h4)) h4)
  clear_value x3
  refine next_keeps ?_
  exact (healthStart_keeps hR h5)

theorem execPaFault_keeps (hP : Closed P) {a0 s0} (hs0 : P s0) : OutAll P (execPaFault a0 s0) := by
  have hR := hP.toRegClosed
  delta execPaFault
  extract_lets x0 x1 x2 x3 x4 x5 x6 x7 x8 x9
  have h10 : P x1 := State.fire_keeps hR (State.flag_keeps hR hs0)
  clear_value x1
  have h11 : P x2 := laneCode_keeps hR (stepCut_keeps hR h10)
  clear_value x2
  have h12 : P x4 := State.forEach_keeps (fun h15 => cutTx_keeps hP h15) h11
  clear_value x4
  have h16 : P x6 := ite_keeps (State.forEach_keeps (fun h19 => endAct_keeps hP h19) h12) h12
  clear_value x6
  have h20 : P x9 := State.setLane_keeps hR h16
  clear_value x9
  exact next_keeps (ite_keeps (healthStart_keeps hR h20) h20)

theorem laneRetire_keeps (hP : Closed P) {a0 s0} (hs0 : P s0) : P (laneRetire a0 s0) := by
  have hR := hP.toRegClosed
  delta laneRetire
  refine ite_keeps ?_ ?_
  · exact hs0
  · refine ite_keeps ?_ ?_
    · exact laneCode_keeps hR (State.flag_keeps hR hs0)
    · extract_lets x0 x1 x2 x3 x4 x5 x6 x7 x8 x9 x10 x11 x12
      have h13 : P x1 := State.flag_keeps hR hs0
      clear_value x1
      have h14 : P x2 := healthEnd_keeps hR (laneYield_keeps hR h13)
      clear_value x2
      have h15 : P x3 := ite_keeps (panLaneStop_keeps hR h14) h14
      clear_value x3
      have h16 : P x4 := endLaneActs_keeps hP h15
      clear_value x4
      have h17 : P x5 := laneLeaveRx_keeps hR (ite_keeps (stepEndTx_keeps hR h16) h16)
      clear_value x5
      have h18 : P x6 := portsOpen_keeps hR (laneUnlock_keeps hR (State.setLaneSt_keeps hR h17))
      clear_value x6
      have h19 : P x7 := ite_keeps (laneCode_keeps hR h18) h18
      clear_value x7
      have h20 : P x9 := State.setLane_keeps hR h19
      clear_value x9
      have h21 : P x11 := State.setLane_keeps hR h20
      clear_value x11
      have h22 : P x12 := State.fire_keeps hR (refreshRoles_keeps hR (State.flag_keeps hR h21))
      clear_value x12
      exact lifeCount_keeps hR (lifeCode_keeps hR h22)

theorem execHealthStepDone_keeps (hP : Closed P) {a0 a1 s0} (hs0 : P s0) : OutAll P (execHealthStepDone a0 a1 s0) := by
  have hR := hP.toRegClosed
  delta execHealthStepDone
  extract_lets x0 x1 x2
  have h3 : P x2 := (healthEnd_keeps hR (State.put_keeps hR hs0))
  clear_value x2
  refine ite_out_keeps ?_ ?_
  · refine next_keeps ?_
    exact hs0
  · refine ite_out_keeps ?_ ?_
    · refine ite_out_keeps ?_ ?_
      · refine next_keeps ?_
        exact (healthHold_keeps hR (State.setLane_keeps hR hs0))
      · refine next_keeps ?_
        exact (State.fire_keeps hR (State.inc_keeps hR (healthEnd_keeps hR (State.put_keeps hR hs0))))
    · refine ite_out_keeps ?_ ?_
      · refine next_keeps ?_
        exact (healthHold_keeps hR (State.setLane_keeps hR hs0))
      · refine next_keeps ?_
        exact (laneRetire_keeps hP (State.fire_keeps hR (State.inc_keeps hR (State.inc_keeps hR h3))))

theorem execLaneRetire_keeps (hP : Closed P) {a0 s0} (hs0 : P s0) : OutAll P (execLaneRetire a0 s0) := by
  have hR := hP.toRegClosed
  delta execLaneRetire
  refine next_keeps ?_
  exact (State.unflag_keeps hR (laneRetire_keeps hP hs0))

theorem execLaneTakeover_keeps (hR : RegClosed P) {a0 s0} (hs0 : P s0) : OutAll P (execLaneTakeover a0 s0) := by
  delta execLaneTakeover
  extract_lets x0 x1
  refine next_keeps ?_
  exact (ite_keeps (State.fire_keeps hR (refreshRoles_keeps hR (State.setLane_keeps hR hs0))) hs0)

theorem execLaneRestore_keeps (hR : RegClosed P) {a0 s0} (hs0 : P s0) : OutAll P (execLaneRestore a0 s0) := by
  delta execLaneRestore
  extract_lets x0 x1
  refine next_keeps ?_
  exact (ite_keeps (State.setLane_keeps hR (State.flag_keeps hR hs0)) (State.unflag_keeps hR (State.flag_keeps hR hs0)))

theorem execLaneRolesReturn_keeps (hR : RegClosed P) {a0 s0} (hs0 : P s0) : OutAll P (execLaneRolesReturn a0 s0) := by
  delta execLaneRolesReturn
  extract_lets x0 x1 x2 x3 x4 x5 x6
  have h7 : P x1 := (healthEnd_keeps hR hs0)
  clear_value x1
  have h8 : P x2 := (State.unflag_keeps hR (State.unflag_keeps hR (State.unflag_keeps hR h7)))
  clear_value x2
  have h9 : P x4 := (State.setLane_keeps hR (State.setLaneSt_keeps hR h8))
  clear_value x4
  have h10 : P x6 := (State.setLane_keeps hR h9)
  clear_value x6
  refine ite_out_keeps ?_ ?_
  · refine next_keeps ?_
    exact hs0
  · refine next_keeps ?_
    exact (State.fire_keeps hR (refreshRoles_keeps hR h10))

/-! ### Cal -/

theorem execLaneTempSample_keeps (hR : RegClosed P) {a0 a1 a2 a3 s0} (hs0 : P s0) :
    OutAll P (execLaneTempSample a0 a1 a2 a3 s0) := by
  delta execLaneTempSample
  extract_lets x0 x1
  have h2 : ∀ {y0 y1}, P y1 → P (x1 y0 y1) := fun h5 => State.setLane_keeps hR h5
  clear_value x1
  refine ite_out_keeps ?_ ?_
  · exact next_keeps (h2 hs0)
  · exact next_keeps (h2 (calCheck_keeps hR (h2 (State.put_keeps hR hs0))))

theorem execCalreqWrite_keeps (hR : RegClosed P) {a0 a1 s0} (hs0 : P s0) : OutAll P (execCalreqWrite a0 a1 s0) := by
  delta execCalreqWrite
  refine next_keeps ?_
  exact (State.forEach_keeps (fun h0 => (calMark_keeps hR h0)) hs0)

theorem execLaneCalTask_keeps (hR : RegClosed P) {a0 s0} (hs0 : P s0) : OutAll P (execLaneCalTask a0 s0) := by
  delta execLaneCalTask
  refine next_keeps ?_
  exact (State.forEach_keeps (fun h0 => (calMark_keeps hR h0)) (State.takeTask_keeps hR hs0))

theorem execCalRetryTimer_keeps (hR : RegClosed P) {a0 a1 s0} (hs0 : P s0) : OutAll P (execCalRetryTimer a0 a1 s0) := by
  delta execCalRetryTimer
  extract_lets x0
  refine next_keeps ?_
  exact (State.setLane_keeps hR hs0)

theorem calPause_keeps (hR : RegClosed P) {a0 s0} (hs0 : P s0) : P (calPause a0 s0) := by
  delta calPause
  extract_lets x0 x1
  have h2 : P x1 := State.setLane_keeps hR (State.setLaneSt_keeps hR hs0)
  clear_value x1
  exact ite_keeps (laneUnlock_keeps hR h2) h2

theorem calNextStep_keeps (hR : RegClosed P) {a0 a1 s0} (hs0 : P s0) : P (calNextStep a0 a1 s0) := by
  delta calNextStep
  extract_lets x0
  have h1 : P x0 := State.put_keeps hR hs0
  clear_value x0
  exact ite_keeps h1 (calPause_keeps hR h1)

theorem calTake_keeps (hR : RegClosed P) {a0 a1 a2 s0} (hs0 : P s0) : P (calTake a0 a1 a2 s0) := by
  delta calTake
  extract_lets x0 x1 x2 x3 x4 x5
  have h6 : P x1 := (ite_keeps (laneUnlock_keeps hR hs0) hs0)
  clear_value x1
  have h7 : P x3 := (State.setLane_keeps hR h6)
  clear_value x3
  have h8 : P x4 := (State.put_keeps hR (State.put_keeps hR (State.flag_keeps hR h7)))
  clear_value x4
  have h9 : P x5 := (State.setLaneSt_keeps hR h8)
  clear_value x5
  exact (hR.upd h9)

theorem calBegin_keeps (hR : RegClosed P) {a0 a1 s0} (hs0 : P s0) : P (calBegin a0 a1 s0) := by
  delta calBegin; exact (calTake_keeps hR (State.setLane_keeps hR hs0))

theorem calResume_keeps (hR : RegClosed P) {a0 s0} (hs0 : P s0) : P (calResume a0 s0) := by
  delta calResume
  extract_lets x0 x1 x2 x3
  exact ite_keeps hs0 (ite_keeps (calTake_keeps hR hs0) (calBegin_keeps hR (State.inc_keeps hR hs0)))

theorem execCalStepStart_keeps (hR : RegClosed P) {a0 s0} (hs0 : P s0) : OutAll P (execCalStepStart a0 s0) := by
  delta execCalStepStart
  extract_lets x0
  refine ite_out_keeps ?_ ?_
  · exact next_keeps (calResume_keeps hR hs0)
  · refine ite_out_keeps ?_ ?_
    · exact next_keeps hs0
    · clear_value x0
      split
      · exact next_keeps (calBegin_keeps hR hs0)
      · exact next_keeps hs0

theorem calLeave_keeps (hR : RegClosed P) {a0 s0} (hs0 : P s0) : P (calLeave a0 s0) := by
  delta calLeave
  extract_lets x0
  have h1 : P x0 := (State.setLaneSt_keeps hR (State.unflag_keeps hR hs0))
  clear_value x0
  exact (ite_keeps (laneUnlock_keeps hR h1) h1)

theorem calFail_keeps (hR : RegClosed P) {a0 a1 a2 s0} (hs0 : P s0) : P (calFail a0 a1 a2 s0) := by
  delta calFail
  extract_lets x0 x1 x2 x3
  have h4 : P x1 := State.inc_keeps hR (State.put_keeps hR (setCalFailed_keeps hR hs0))
  clear_value x1
  have h5 : P x3 := State.setLane_keeps hR h4
  clear_value x3
  exact ite_keeps (healthStart_keeps hR (State.flag_keeps hR (State.fire_keeps hR (laneCode_keeps hR h5)))) (State.setLane_keeps hR h4)

theorem calSucceed_keeps (hR : RegClosed P) {a0 a1 a2 s0} (hs0 : P s0) : P (calSucceed a0 a1 a2 s0) := by
  delta calSucceed
  extract_lets x0 x1
  have h2 : P x0 := (State.inc_keeps hR (calStore_keeps hR hs0))
  clear_value x0
  have h3 : P x1 := (ite_keeps (calMark_keeps hR (calMark_keeps hR h2)) h2)
  clear_value x1
  exact (ite_keeps (State.fire_keeps hR h3) h3)

theorem execCalStepDone_keeps (hR : RegClosed P) {a0 a1 a2 s0} (hs0 : P s0) : OutAll P (execCalStepDone a0 a1 a2 s0) := by
  delta execCalStepDone
  extract_lets x0 x1 x2 x3 x4 x5 x6
  have h7 : P x4 := State.setLane_keeps hR (State.put_keeps hR (State.flag_keeps hR hs0))
  clear_value x4
  have h8 : P x5 := calLeave_keeps hR hs0
  clear_value x5
  refine ite_out_keeps ?_ ?_
  · exact next_keeps hs0
  · refine ite_out_keeps ?_ ?_
    · exact next_keeps (calNextStep_keeps hR hs0)
    · refine ite_out_keeps ?_ ?_
      · exact next_keeps (calNextStep_keeps hR (panRecheck_keeps hR (calUseVco_keeps hR h7)))
      · refine ite_out_keeps ?_ ?_
        · exact next_keeps (calNextStep_keeps hR hs0)
        · refine ite_out_keeps ?_ ?_
          · exact next_keeps (calSucceed_keeps hR h8)
          · exact next_keeps (calFail_keeps hR h8)

theorem execXtrimWrite_keeps (hR : RegClosed P) {a0 s0} (hs0 : P s0) : OutAll P (execXtrimWrite a0 s0) := by
  delta execXtrimWrite
  refine ite_out_keeps ?_ ?_
  · extract_lets x0
    exact next_keeps (State.put_keeps hR (rateSet_keeps hR hs0))
  · exact next_keeps (State.flag_keeps hR hs0)

theorem execRc64Track_keeps (hR : RegClosed P) {a0 s0} (hs0 : P s0) : OutAll P (execRc64Track a0 s0) := by
  delta execRc64Track
  extract_lets x0 x1 x2 x3
  have h4 : P x3 := (State.flag_keeps hR (State.putS_keeps hR (State.put_keeps hR hs0)))
  clear_value x3
  refine ite_out_keeps ?_ ?_
  · refine next_keeps ?_
    exact hs0
  · refine next_keeps ?_
    exact (ite_keeps (lifeCode_keeps hR (State.unflag_keeps hR h4)) h4)

theorem laneReferenceLost_keeps (hP : Closed P) {a0 s0} (hs0 : P s0) : P (laneReferenceLost a0 s0) := by
  have hR := hP.toRegClosed
  delta laneReferenceLost
  extract_lets x0 x1 x2 x3 x4 x5
  have h6 : P x1 := ite_keeps (panLaneStop_keeps hR hs0) hs0
  clear_value x1
  have h7 : P x2 := stepCut_keeps hR (endLaneActs_keeps hP h6)
  clear_value x2
  have h8 : P x3 := ite_keeps (laneLeaveRx_keeps hR h7) h7
  clear_value x3
  have h9 : P x5 := State.setLane_keeps hR h8
  clear_value x5
  exact ite_keeps (laneCode_keeps hR h9) h9

theorem rcCoarse_keeps (hR : RegClosed P) {s0} (hs0 : P s0) : P (rcCoarse s0) := by
  delta rcCoarse
  exact (ite_keeps (ite_keeps hs0 (State.freeNext_keeps hR (State.put_keeps hR hs0))) (State.put_keeps hR hs0))

theorem xtalFail_keeps (hP : Closed P) {s0} (hs0 : P s0) : P (xtalFail s0) := by
  have hR := hP.toRegClosed
  delta xtalFail
  extract_lets x0 x1 x2 x3 x4 x5 x6 x7 x8
  have h9 : P x0 := (State.fire_keeps hR (State.flag_keeps hR (State.setClkSrc_keeps hR hs0)))
  clear_value x0
  have h10 : P x2 := (hR.upd h9)
  clear_value x2
  have h11 : P x3 := (State.unflag_keeps hR (State.put_keeps hR h10))
  clear_value x3
  have h12 : P x4 := (laneReferenceLost_keeps hP (laneReferenceLost_keeps hP h11))
  clear_value x4
  have h13 : P x5 := (lifeCount_keeps hR (lifeCode_keeps hR h12))
  clear_value x5
  have h14 : P x6 := (rcCoarse_keeps hR h13)
  clear_value x6
  exact (ite_keeps (hR.upd h14) (lifeCode_keeps hR (hR.upd h13)))

theorem execXtalFailDetect_keeps (hP : Closed P) {s0} (hs0 : P s0) : OutAll P (execXtalFailDetect s0) := by
  delta execXtalFailDetect
  refine next_keeps ?_
  exact (ite_keeps (xtalFail_keeps hP hs0) hs0)

theorem execRc64Measure_keeps (hR : RegClosed P) {a0 a1 s0} (hs0 : P s0) : OutAll P (execRc64Measure a0 a1 s0) := by
  delta execRc64Measure
  refine ite_out_keeps ?_ ?_
  · exact next_keeps hs0
  · extract_lets x0 x1 x2 x3 x4 x5 x6 x7 x8
    have h9 : P x5 := State.put_keeps hR (State.putS_keeps hR (rateSet_keeps hR hs0))
    clear_value x5
    have h10 : P x8 := hR.upd h9
    clear_value x8
    refine ite_out_keeps ?_ ?_
    · refine ite_out_keeps ?_ ?_
      · exact next_keeps (lifeCode_keeps hR (hR.upd hs0))
      · exact next_keeps (State.put_keeps hR (hR.upd hs0))
    · exact next_keeps (disciplineCheck_keeps hR h10)

theorem execDisciplineTimeout_keeps (hR : RegClosed P) {s0} (hs0 : P s0) : OutAll P (execDisciplineTimeout s0) := by
  delta execDisciplineTimeout
  extract_lets x0 x1 x2 x3
  have h4 : P x1 := (State.put_keeps hR hs0)
  have h5 : P x3 := (hR.upd h4)
  refine ite_out_keeps ?_ ?_
  · refine next_keeps ?_
    exact hs0
  · refine next_keeps ?_
    exact (ite_keeps (State.setClkSrc_keeps hR h5) h5)

theorem execXtalok_keeps (hR : RegClosed P) {a0 s0} (hs0 : P s0) : OutAll P (execXtalok a0 s0) := by
  delta execXtalok
  exact next_keeps (State.put_keeps hR hs0)

theorem execXtalReturn_keeps (hR : RegClosed P) {a0 s0} (hs0 : P s0) : OutAll P (execXtalReturn a0 s0) := by
  delta execXtalReturn
  extract_lets x0 x1 x2 x3
  have h4 : P x0 := State.unflag_keeps hR hs0
  clear_value x0
  have h5 : P x1 := State.put_keeps hR (rateSet_keeps hR (State.setClkSrc_keeps hR h4))
  clear_value x1
  refine ite_out_keeps ?_ ?_
  · exact next_keeps (hR.upd h5)
  · exact next_keeps h4

end Sys2Proof.Machine
end

