-- ==== Sys2Proof/Laws/Keeps3.lean ====
section
/-!
SUPPORT. What the operations of Ring, KeyStore, Mem, Flash, Life keep:
one lemma for each, under the hypothesis that Sys2Proof/Laws/Closed.lean names.
-/

namespace Sys2Proof.Machine

variable {P : State → Prop}

/-! ### Ring -/

theorem ringCode_keeps (hR : RegClosed P) {a0 s0} (hs0 : P s0) : P (ringCode a0 s0) := by
  delta ringCode
  extract_lets x0
  have h1 : P x0 := (State.put_keeps hR hs0)
  clear_value x0
  exact (ite_keeps h1 (State.fire_keeps hR h1))

theorem bypassClose_keeps (hR : RegClosed P) {a0 s0} (hs0 : P s0) : P (bypassClose a0 s0) := by
  delta bypassClose
  exact (ite_keeps hs0 (State.fire_keeps hR (State.inc_keeps hR (State.put_keeps hR (State.flag_keeps hR hs0)))))

theorem bypassOpen_keeps (hR : RegClosed P) {s0} (hs0 : P s0) : P (bypassOpen s0) := by
  delta bypassOpen; exact (State.inc_keeps hR (State.unflag_keeps hR hs0))

theorem refreshRing_keeps (hR : RegClosed P) {s0} (hs0 : P s0) : P (refreshRing s0) := by
  delta refreshRing
  extract_lets x0 x1 x2
  have h3 : P x1 := (State.put_keeps hR (bypassClose_keeps hR hs0))
  clear_value x1
  exact (ite_keeps (ite_keeps (State.put_keeps hR (hR.upd hs0)) hs0) (ite_keeps hs0 (hR.upd h3)))

theorem execRingLock_keeps (hR : RegClosed P) {s0} (hs0 : P s0) : OutAll P (execRingLock s0) := by
  delta execRingLock
  extract_lets x0
  refine next_keeps ?_
  exact (hR.upd hs0)

theorem execRingLos_keeps (hR : RegClosed P) {s0} (hs0 : P s0) : OutAll P (execRingLos s0) := by
  delta execRingLos
  extract_lets x0 x1
  have h2 : P x1 := (hR.upd hs0)
  clear_value x1
  refine ite_out_keeps ?_ ?_
  · refine next_keeps ?_
    exact hs0
  · refine next_keeps ?_
    exact (State.fire_keeps hR (ringCode_keeps hR (State.inc_keeps hR (State.flag_keeps hR h2))))

theorem surveyStart_keeps (hR : RegClosed P) {s0} (hs0 : P s0) : P (surveyStart s0) := by
  delta surveyStart
  extract_lets x0 x1
  have h2 : P x0 := (State.unflag_keeps hR (State.unflag_keeps hR hs0))
  clear_value x0
  exact (ite_keeps hs0 (hR.upd h2))

theorem execSurveyStart_keeps (hR : RegClosed P) {a0 s0} (hs0 : P s0) : OutAll P (execSurveyStart a0 s0) := by
  delta execSurveyStart
  refine next_keeps ?_
  exact (surveyStart_keeps hR (ite_keeps (State.takeTask_keeps hR hs0) hs0))

theorem surveyFail_keeps (hR : RegClosed P) {s0} (hs0 : P s0) : P (surveyFail s0) := by
  delta surveyFail
  extract_lets x0 x1
  have h2 : P x0 := (ringCode_keeps hR (State.flag_keeps hR hs0))
  clear_value x0
  exact (hR.upd h2)

theorem execSurveyStep_keeps (hR : RegClosed P) {a0 a1 s0} (hs0 : P s0) : OutAll P (execSurveyStep a0 a1 s0) := by
  delta execSurveyStep
  extract_lets x0 x1 x2
  have h3 : P x1 := (ite_keeps (State.put_keeps hR hs0) hs0)
  clear_value x1
  refine ite_out_keeps ?_ ?_
  · refine ite_out_keeps ?_ ?_
    · refine next_keeps ?_
      exact (hR.upd h3)
    · refine next_keeps ?_
      exact (hR.upd h3)
  · refine next_keeps ?_
    exact h3

theorem execSurveyProbeTimeout_keeps (hR : RegClosed P) {s0} (hs0 : P s0) : OutAll P (execSurveyProbeTimeout s0) := by
  delta execSurveyProbeTimeout
  refine next_keeps ?_
  exact (ite_keeps (surveyFail_keeps hR hs0) hs0)

theorem execSurveyRetry_keeps (hR : RegClosed P) {s0} (hs0 : P s0) : OutAll P (execSurveyRetry s0) := by
  delta execSurveyRetry
  refine next_keeps ?_
  exact (ite_keeps (surveyStart_keeps hR hs0) hs0)

theorem execRingCycleStart_keeps (hR : RegClosed P) {s0} (hs0 : P s0) : OutAll P (execRingCycleStart s0) := by
  delta execRingCycleStart
  extract_lets x0 x1 x2 x3
  refine ite_out_keeps ?_ ?_
  · refine next_keeps ?_
    exact hs0
  · refine next_keeps ?_
    exact (hR.upd hs0)

theorem ringBad_keeps (hR : RegClosed P) {s0} (hs0 : P s0) : P (ringBad s0) := by
  delta ringBad; exact (ringCode_keeps hR (State.inc_keeps hR (State.flag_keeps hR hs0)))

theorem ringApply_keeps (hP : Closed P) {a0 s0} (hs0 : P s0) : P (ringApply a0 s0) := by
  have hR := hP.toRegClosed
  delta ringApply
  extract_lets x0 x1 x2 x3 x4 x5 x6 x7 x8
  have h9 : P x1 := State.putS_keeps hR hs0
  clear_value x1
  have h10 : P x3 := by
    unfold x3
    split
    · exact ite_keeps h9 (rateSet_keeps hR h9)
    · exact h9
  clear_value x3
  have h11 : P x6 := hR.upd h10
  clear_value x6
  have h12 : P x7 := setStratum_keeps hR h11
  clear_value x7
  have h13 : P x8 := ite_keeps h11 (ite_keeps (timeStep_keeps hP (slewCancel_keeps hR h12)) (slewStart_keeps hR h12))
  clear_value x8
  exact disciplineCheck_keeps hR (State.fire_keeps hR h13)

theorem ringPosition_keeps (hR : RegClosed P) {a0 s0} (hs0 : P s0) : P (ringPosition a0 s0) := by
  delta ringPosition
  extract_lets x0 x1 x2 x3 x4 x5 x6 x7
  have h8 : P x1 := (ringCode_keeps hR (State.flag_keeps hR (bypassClose_keeps hR hs0)))
  clear_value x1
  have h9 : P x5 := (State.put_keeps hR hs0)
  clear_value x5
  have h10 : P x6 := (ite_keeps (ringCode_keeps hR (State.flag_keeps hR h9)) h9)
  clear_value x6
  exact (ite_keeps (State.put_keeps hR (hR.upd h8)) (hR.upd h10))

theorem ringEvsum_keeps (hR : RegClosed P) {a0 s0} (hs0 : P s0) : P (ringEvsum a0 s0) := by
  delta ringEvsum; exact (hR.upd hs0)

theorem masterTime_keeps (hR : RegClosed P) {a0 s0} (hs0 : P s0) : P (masterTime a0 s0) := by
  delta masterTime
  extract_lets x0 x1 x2 x3 x4 x5 x6
  have h7 : P x1 := (State.put_keeps hR (State.put_keeps hR (State.put_keeps hR (State.put_keeps hR hs0))))
  have h8 : P x2 := (ringEvsum_keeps hR h7)
  have h9 : P x6 := (hR.upd h8)
  exact (ite_keeps (surveyStart_keeps hR h9) (ite_keeps (ite_keeps h9 (surveyStart_keeps hR h9)) (ite_keeps (ite_keeps (State.fire_keeps hR (State.inc_keeps hR (State.flag_keeps hR h9))) (surveyFail_keeps hR h9)) h9)))

theorem execRingTimeMsg_keeps (hP : Closed P) {a0 a1 s0} (hs0 : P s0) : OutAll P (execRingTimeMsg a0 a1 s0) := by
  have hR := hP.toRegClosed
  delta execRingTimeMsg
  extract_lets x0 x1 x2 x3 x4
  have h5 : P x1 := (State.put_keeps hR (hR.upd hs0))
  have h6 : P x3 := (ringBad_keeps hR (hR.upd h5))
  clear_value x3
  refine ite_out_keeps ?_ ?_
  · refine next_keeps ?_
    exact hs0
  · split
    · refine next_keeps ?_
      exact (ite_keeps (hR.upd h6) h6)
    · extract_lets x7 x8 x9 x10 x11 x12 x13
      have h14 : P x7 := (hR.upd h5)
      have h15 : P x9 := (ringPosition_keeps hR h14)
      clear_value x9
      have h16 : P x10 := (State.put_keeps hR (State.put_keeps hR h15))
      clear_value x10
      have h17 : P x13 := (ringEvsum_keeps hR (hR.upd h16))
      clear_value x13
      refine ite_out_keeps ?_ ?_
      · refine next_keeps ?_
        exact (masterTime_keeps hR h14)
      · refine ite_out_keeps ?_ ?_
        · refine next_keeps ?_
          exact (hR.upd h14)
        · refine ite_out_keeps ?_ ?_
          · refine next_keeps ?_
            exact h14
          · refine ite_out_keeps ?_ ?_
            · refine next_keeps ?_
              exact h15
            · refine next_keeps ?_
              exact (ite_keeps (ringApply_keeps hP h17) h17)

theorem execRingEventMsg_keeps (hR : RegClosed P) {a0 a1 s0} (hs0 : P s0) : OutAll P (execRingEventMsg a0 a1 s0) := by
  delta execRingEventMsg
  extract_lets x0 x1 x2 x3 x4 x5
  have h6 : P x3 := (State.count_keeps hR hs0)
  clear_value x3
  refine ite_out_keeps ?_ ?_
  · refine next_keeps ?_
    exact hs0
  · refine ite_out_keeps ?_ ?_
    · refine ite_out_keeps ?_ ?_
      · refine next_keeps ?_
        exact hs0
      · refine next_keeps ?_
        exact (hR.upd h6)
    · refine ite_out_keeps ?_ ?_
      · refine next_keeps ?_
        exact hs0
      · refine ite_out_keeps ?_ ?_
        · refine next_keeps ?_
          exact (ringBad_keeps hR hs0)
        · refine ite_out_keeps ?_ ?_
          · refine next_keeps ?_
            exact (hR.upd hs0)
          · refine next_keeps ?_
            exact hs0

theorem execRingSluiceFire_keeps (hR : RegClosed P) {s0} (hs0 : P s0) : OutAll P (execRingSluiceFire s0) := by
  delta execRingSluiceFire
  extract_lets x0 x1
  have h2 : P x1 := (hR.upd hs0)
  clear_value x1
  split
  · refine next_keeps ?_
    exact hs0
  · refine ite_out_keeps ?_ ?_
    · refine next_keeps ?_
      exact hs0
    · refine next_keeps ?_
      refine State.forEach_keeps ?_ h2
      intro y5 y6 h7
      split
      · exact (ite_keeps h7 (State.fireSluice_keeps hR h7))
      · exact h7

theorem ringStore_keeps (hP : Closed P) {a0 a1 a2 s0} (hs0 : P s0) : P (ringStore a0 a1 a2 s0) := by
  have hR := hP.toRegClosed
  delta ringStore
  exact (ite_keeps hs0 (ite_keeps (ringCode_keeps hR hs0) (ite_keeps (ringCode_keeps hR (State.inc_keeps hR hs0)) (State.fire_keeps hR (State.putBit_keeps hR (State.setBytes_keeps hP hs0))))))

theorem execRingDataMsg_keeps (hP : Closed P) {a0 s0} (hs0 : P s0) : OutAll P (execRingDataMsg a0 s0) := by
  have hR := hP.toRegClosed
  delta execRingDataMsg
  extract_lets x0
  refine ite_out_keeps ?_ ?_
  · refine next_keeps ?_
    exact hs0
  · split
    · refine next_keeps ?_
      exact (ringBad_keeps hR hs0)
    · extract_lets x1 x2 x3
      have h4 : P x1 := (ringStore_keeps hP hs0)
      clear_value x1
      refine ite_out_keeps ?_ ?_
      · refine ite_out_keeps ?_ ?_
        · refine next_keeps ?_
          exact hs0
        · refine next_keeps ?_
          exact (ite_keeps h4 (hR.upd h4))
      · refine next_keeps ?_
        exact (ite_keeps (ringStore_keeps hP hs0) hs0)

theorem execRingMbsend_keeps (hR : RegClosed P) {a0 s0} (hs0 : P s0) : OutAll P (execRingMbsend a0 s0) := by
  delta execRingMbsend
  extract_lets x0 x1 x2 x3
  have h4 : P x2 := (State.putBit_keeps hR hs0)
  clear_value x2
  refine ite_out_keeps ?_ ?_
  · refine next_keeps ?_
    exact hs0
  · refine next_keeps ?_
    exact (hR.upd h4)

theorem execRingDataWindow_keeps (hR : RegClosed P) {s0} (hs0 : P s0) : OutAll P (execRingDataWindow s0) := by
  delta execRingDataWindow
  extract_lets x0 x1
  refine ite_out_keeps ?_ ?_
  · split
    · refine next_keeps ?_
      exact (ite_keeps (hR.upd hs0) hs0)
    · refine next_keeps ?_
      exact hs0
  · refine ite_out_keeps ?_ ?_
    · refine next_keeps ?_
      exact hs0
    · split
      · refine next_keeps ?_
        exact hs0
      · extract_lets x2 x3 x4
        have h5 : P x4 := (hR.upd hs0)
        clear_value x4
        refine next_keeps ?_
        exact (State.fire_keeps hR (State.putBit_keeps hR h5))

theorem execRingJoin_keeps (hR : RegClosed P) {s0} (hs0 : P s0) : OutAll P (execRingJoin s0) := by
  delta execRingJoin
  extract_lets x0
  have h1 : P x0 := (ringPosition_keeps hR (bypassOpen_keeps hR (State.put_keeps hR hs0)))
  clear_value x0
  refine ite_out_keeps ?_ ?_
  · refine next_keeps ?_
    exact hs0
  · refine next_keeps ?_
    exact (ite_keeps (State.fire_keeps hR h1) h1)

theorem execRingMasterListenEnd_keeps (hR : RegClosed P) {s0} (hs0 : P s0) : OutAll P (execRingMasterListenEnd s0) := by
  delta execRingMasterListenEnd
  extract_lets x0 x1
  have h2 : P x0 := (bypassOpen_keeps hR (State.put_keeps hR (State.put_keeps hR hs0)))
  clear_value x0
  refine ite_out_keeps ?_ ?_
  · refine next_keeps ?_
    exact hs0
  · refine ite_out_keeps ?_ ?_
    · refine next_keeps ?_
      exact (ringCode_keeps hR (State.put_keeps hR (State.flag_keeps hR hs0)))
    · refine next_keeps ?_
      exact (hR.upd h2)

theorem execRingBrokenTimeout_keeps (hR : RegClosed P) {s0} (hs0 : P s0) : OutAll P (execRingBrokenTimeout s0) := by
  delta execRingBrokenTimeout
  extract_lets x0 x1
  have h2 : P x0 := (ringCode_keeps hR (State.unflag_keeps hR (State.flag_keeps hR hs0)))
  clear_value x0
  refine ite_out_keeps ?_ ?_
  · refine next_keeps ?_
    exact hs0
  · refine next_keeps ?_
    exact (hR.upd h2)

theorem execRingLeave_keeps (hR : RegClosed P) {s0} (hs0 : P s0) : OutAll P (execRingLeave s0) := by
  delta execRingLeave
  extract_lets x0 x1 x2
  have h3 : P x0 := (State.takeTask_keeps hR hs0)
  clear_value x0
  have h4 : P x1 := (State.put_keeps hR (bypassClose_keeps hR h3))
  clear_value x1
  refine ite_out_keeps ?_ ?_
  · refine next_keeps ?_
    exact h3
  · refine next_keeps ?_
    exact (hR.upd h4)

theorem execSrcselWrite_keeps (hR : RegClosed P) {a0 s0} (hs0 : P s0) : OutAll P (execSrcselWrite a0 s0) := by
  delta execSrcselWrite
  extract_lets x0 x1 x2 x3
  have h4 : P x3 := (State.put_keeps hR (State.put_keeps hR (State.put_keeps hR hs0)))
  clear_value x3
  refine next_keeps ?_
  exact (ite_keeps h4 (srcselChange_keeps hR h4))

/-! ### KeyStore -/

theorem drbgDraw_keeps (hR : RegClosed P) {a0 s0} (hs0 : P s0) : P (drbgDraw a0 s0).2 := by
  delta drbgDraw; exact (State.freeNext_keeps hR (hR.upd hs0))

theorem drbgScalar_keeps (hR : RegClosed P) {s0} (hs0 : P s0) : P (drbgScalar s0).2 := drbgDraw_keeps (a0 := 32) hR hs0

theorem execKeyAdmit_keeps (hR : RegClosed P) {a0 a1 a2 a3 a4 a5 s0} (hs0 : P s0) :
    OutAll P (execKeyAdmit a0 a1 a2 a3 a4 a5 s0) := by
  delta execKeyAdmit
  refine next_keeps ?_
  exact (keyAdmit_keeps hR hs0)

theorem keyCmdEnd_keeps (hR : RegClosed P) {a0 s0} (hs0 : P s0) : P (keyCmdEnd a0 s0) := by
  delta keyCmdEnd
  extract_lets x0 x1
  have h2 : P x1 := (hR.upd hs0)
  clear_value x1
  exact (State.fire_keeps hR (State.unflag_keeps hR (State.put_keeps hR h2)))

theorem keyCmdRun_keeps (hR : RegClosed P) {a0 a1 a2 s0} (hs0 : P s0) : P (keyCmdRun a0 a1 a2 s0) := by
  delta keyCmdRun; exact (State.flag_keeps hR (hR.upd hs0))

theorem keyCmdReject_keeps (hR : RegClosed P) {s0} (hs0 : P s0) : P (keyCmdReject s0) := by
  delta keyCmdReject; exact (State.put_keeps hR (State.flag_keeps hR hs0))

theorem keyCommand_keeps (hR : RegClosed P) {a0 a1 f2 s0} (hf2 : ∀ {y0}, P y0 → P (f2 y0)) (hs0 : P s0) :
    P (keyCommand a0 a1 f2 s0) := by
  delta keyCommand
  exact ite_keeps hs0 (ite_keeps (keyCmdReject_keeps hR hs0) (ite_keeps (keyCmdEnd_keeps hR hs0) (hf2 hs0)))

theorem makeSlot_keeps (hR : RegClosed P) {a0 a1 a2 s0} (hs0 : P s0) : P (makeSlot a0 a1 a2 s0) := by
  delta makeSlot
  exact (setKeySt_keeps hR (State.setKeyBytes_keeps hR (putKeyAttr_keeps hR hs0)))

theorem execKeyDerive_keeps (hR : RegClosed P) {a0 a1 a2 s0} (hs0 : P s0) : OutAll P (execKeyDerive a0 a1 a2 s0) := by
  delta execKeyDerive
  refine next_keeps ?_
  refine keyCommand_keeps hR ?_ hs0
  intro y2 h3
  extract_lets x4 x5 x6 x7 x8 x9
  exact (ite_keeps (keyCmdEnd_keeps hR h3) (ite_keeps (keyCmdEnd_keeps hR (keyAdmit_keeps hR h3)) (ite_keeps (keyCmdRun_keeps hR (keyAdmit_keeps hR h3)) (keyCmdRun_keeps hR (keyAdmit_keeps hR h3)))))

theorem execKeyImport_keeps (hR : RegClosed P) {a0 a1 a2 a3 s0} (hs0 : P s0) :
    OutAll P (execKeyImport a0 a1 a2 a3 s0) := by
  delta execKeyImport
  extract_lets x0
  refine next_keeps ?_
  refine keyCommand_keeps hR ?_ hs0
  intro y3 h4
  extract_lets x5 x6 x7 x8 x9 x10 x11 x12
  exact (ite_keeps (keyCmdEnd_keeps hR h4) (ite_keeps (keyCmdEnd_keeps hR h4) (ite_keeps (keyCmdEnd_keeps hR (keyAdmit_keeps hR h4)) (ite_keeps (keyCmdRun_keeps hR (keyAdmit_keeps hR h4)) (keyCmdRun_keeps hR (keyAdmit_keeps hR h4))))))

theorem execKeyInvalidate_keeps (hR : RegClosed P) {a0 a1 s0} (hs0 : P s0) : OutAll P (execKeyInvalidate a0 a1 s0) := by
  delta execKeyInvalidate
  refine next_keeps ?_
  exact (keyCommand_keeps hR (fun h0 => (ite_keeps (keyCmdEnd_keeps hR h0) (ite_keeps (keyCmdEnd_keeps hR h0) (keyCmdRun_keeps hR (markDead_keeps hR h0))))) hs0)

theorem execKeyRestrict_keeps (hR : RegClosed P) {a0 a1 s0} (hs0 : P s0) : OutAll P (execKeyRestrict a0 a1 s0) := by
  delta execKeyRestrict
  extract_lets x0
  refine next_keeps ?_
  refine keyCommand_keeps hR ?_ hs0
  intro y3 h4
  extract_lets x5
  exact (ite_keeps (keyCmdEnd_keeps hR h4) (ite_keeps (keyCmdEnd_keeps hR h4) (ite_keeps (keyCmdEnd_keeps hR h4) (keyCmdRun_keeps hR h4))))

theorem execKeyRootgen_keeps (hR : RegClosed P) {a0 s0} (hs0 : P s0) : OutAll P (execKeyRootgen a0 s0) := by
  delta execKeyRootgen
  refine next_keeps ?_
  refine keyCommand_keeps hR ?_ hs0
  intro y2 h3
  extract_lets x4 x5 x6
  have h7 : P x5 := (ite_keeps (markDead_keeps hR h3) h3)
  clear_value x5
  exact (ite_keeps (keyCmdEnd_keeps hR h3) (ite_keeps (keyCmdEnd_keeps hR h3) (keyCmdRun_keeps hR (drbgDraw_keeps hR h7))))

theorem execKeyCmdDone_keeps (hR : RegClosed P) {s0} (hs0 : P s0) : OutAll P (execKeyCmdDone s0) := by
  delta execKeyCmdDone
  extract_lets x0
  split
  · refine next_keeps ?_
    exact hs0
  · extract_lets x1
    have h2 : P x1 := by
      unfold x1
      split
      · exact (makeSlot_keeps hR hs0)
      · extract_lets x3 x4
        have h5 : P x4 := (State.put_keeps hR (putKeyAttr_keeps hR hs0))
        clear_value x4
        exact (ite_keeps (ite_keeps h5 (State.put_keeps hR h5)) hs0)
      · exact (loadRoot_keeps hR (hR.upd hs0))
      · exact hs0
    clear_value x1
    refine ite_out_keeps ?_ ?_
    · refine next_keeps ?_
      exact hs0
    · refine next_keeps ?_
      exact (keyCmdEnd_keeps hR h2)

theorem execKeySweepStep_keeps (hR : RegClosed P) {s0} (hs0 : P s0) : OutAll P (execKeySweepStep s0) := by
  delta execKeySweepStep
  split
  · refine next_keeps ?_
    exact hs0
  · extract_lets x0 x1 x2
    have h3 : P x0 := (ite_keeps (freeKeySlot_keeps hR hs0) hs0)
    clear_value x0
    have h4 : P x2 := (hR.upd h3)
    clear_value x2
    refine ite_out_keeps ?_ ?_
    · refine next_keeps ?_
      exact (hR.upd h3)
    · refine next_keeps ?_
      exact (ite_keeps (keyCmdEnd_keeps hR h4) h4)

theorem refreshPassStart_keeps (hR : RegClosed P) {s0} (hs0 : P s0) : P (refreshPassStart s0) := by
  delta refreshPassStart
  extract_lets x0 x1 x2 x3
  have h4 : P x2 := (drbgDraw_keeps hR hs0)
  clear_value x2
  exact (ite_keeps hs0 (ite_keeps (hR.upd hs0) (hR.upd h4)))

theorem execKeyRefreshPass_keeps (hR : RegClosed P) {a0 s0} (hs0 : P s0) : OutAll P (execKeyRefreshPass a0 s0) := by
  delta execKeyRefreshPass
  refine next_keeps ?_
  exact (refreshPassStart_keeps hR (ite_keeps (State.takeTask_keeps hR hs0) hs0))

theorem execKeyRefreshStep_keeps (hR : RegClosed P) {a0 a1 a2 s0} (hs0 : P s0) : OutAll P (execKeyRefreshStep a0 a1 a2 s0) := by
  delta execKeyRefreshStep
  split
  · exact next_keeps hs0
  · refine ite_out_keeps ?_ ?_
    · exact next_keeps (yieldBackground_keeps hR hs0)
    · extract_lets x0 x1 x2 x3
      have h4 : P x0 := stepResumed_keeps hR hs0
      clear_value x0
      have h5 : P x1 := ite_keeps (keyIntegrityFail_keeps hR h4) h4
      clear_value x1
      have h6 : P x3 := hR.upd h5
      clear_value x3
      refine ite_out_keeps ?_ ?_
      · exact next_keeps (hR.upd h5)
      · exact next_keeps (State.fire_keeps hR (State.inc_keeps hR h6))

theorem keySetsZero_keeps (hR : RegClosed P) {s0} (hs0 : P s0) : P (keySetsZero s0) := by
  delta keySetsZero; exact (State.resetRegs_keeps hR hs0)

theorem rootZero_keeps (hR : RegClosed P) {s0} (hs0 : P s0) : P (rootZero s0) := by
  delta rootZero; exact (loadRoot_keeps hR (hR.upd hs0))

theorem keyRamZero_keeps (hR : RegClosed P) {s0} (hs0 : P s0) : P (keyRamZero s0) := by
  delta keyRamZero
  extract_lets x0 x1
  have h2 : P x0 := (State.resetRegs_keeps hR hs0)
  clear_value x0
  exact (State.put_keeps hR (hR.upd h2))

theorem allKeysZero_keeps (hR : RegClosed P) {s0} (hs0 : P s0) : P (allKeysZero s0) := by
  delta allKeysZero
  extract_lets x0 x1
  have h2 : P x0 := keySetsZero_keeps hR (rootZero_keeps hR (keyRamZero_keeps hR hs0))
  clear_value x0
  exact State.unflag_keeps hR (hR.upd h2)

theorem execTamperDetect_keeps (hR : RegClosed P) {a0 a1 s0} (hs0 : P s0) : OutAll P (execTamperDetect a0 a1 s0) := by
  delta execTamperDetect
  extract_lets x0 x1 x2 x3 x4 x5 x6 x7 x8 x9 x10
  have h11 : P x1 := (State.putBit_keeps hR hs0)
  clear_value x1
  have h12 : P x3 := (ite_keeps (State.put_keeps hR h11) h11)
  clear_value x3
  have h13 : P x4 := (State.flag_keeps hR (State.inc_keeps hR (State.putBit_keeps hR h12)))
  clear_value x4
  have h14 : P x6 := (hR.upd h13)
  clear_value x6
  have h15 : P x7 := (lifeCount_keeps hR (ite_keeps (State.fire_keeps hR h14) h14))
  clear_value x7
  have h16 : P x8 := (ite_keeps (allKeysZero_keeps hR h15) (rootZero_keeps hR h15))
  clear_value x8
  have h17 : P x10 := (State.unflag_keeps hR (hR.upd h16))
  clear_value x10
  refine ite_out_keeps ?_ ?_
  · refine next_keeps ?_
    exact h11
  · refine ite_out_keeps ?_ ?_
    · refine next_keeps ?_
      exact h15
    · refine next_keeps ?_
      exact (State.flag_keeps hR h17)

theorem execTamperLatchClear_keeps (hR : RegClosed P) {a0 a1 s0} (hs0 : P s0) :
    OutAll P (execTamperLatchClear a0 a1 s0) := by
  delta execTamperLatchClear
  extract_lets x0 x1 x2 x3 x4
  have h5 : P x2 := (State.put_keeps hR hs0)
  clear_value x2
  have h6 : P x4 := (State.put_keeps hR h5)
  clear_value x4
  refine next_keeps ?_
  exact (ite_keeps (State.unflag_keeps hR h6) h6)

theorem execTamplockWrite_keeps (hR : RegClosed P) {a0 s0} (hs0 : P s0) : OutAll P (execTamplockWrite a0 s0) := by
  delta execTamplockWrite
  refine next_keeps ?_
  exact (ite_keeps (State.flag_keeps hR hs0) hs0)

theorem infoUnit_keeps (hP : Closed P) {a0 a1 s0} (hs0 : P s0) : P (infoUnit a0 a1 s0) := by
  have hR := hP.toRegClosed
  delta infoUnit
  extract_lets x0
  exact (State.setBytes_keeps hP (State.freeNext_keeps hR hs0))

theorem execLcRequest_keeps (hR : RegClosed P) {a0 a1 s0} (hs0 : P s0) : OutAll P (execLcRequest a0 a1 s0) := by
  delta execLcRequest
  extract_lets x0 x1 x2
  have h3 : P x1 := (markDead_keeps hR hs0)
  clear_value x1
  refine ite_out_keeps ?_ ?_
  · refine next_keeps ?_
    exact hs0
  · refine ite_out_keeps ?_ ?_
    · refine next_keeps ?_
      exact (State.put_keeps hR hs0)
    · refine next_keeps ?_
      exact (State.flag_keeps hR (hR.upd h3))

theorem execLcTransitionDone_keeps (hP : Closed P) {s0} (hs0 : P s0) : OutAll P (execLcTransitionDone s0) := by
  have hR := hP.toRegClosed
  delta execLcTransitionDone
  split
  · refine next_keeps ?_
    exact hs0
  · extract_lets x0 x1 x2 x3
    have h4 : P x0 := (ite_keeps (allKeysZero_keeps hR hs0) hs0)
    clear_value x0
    have h5 : P x1 := (infoUnit_keeps hP h4)
    clear_value x1
    have h6 : P x3 := (hR.upd h5)
    clear_value x3
    refine ite_out_keeps ?_ ?_
    · refine next_keeps ?_
      exact hs0
    · refine next_keeps ?_
      exact (State.fire_keeps hR (State.unflag_keeps hR (State.put_keeps hR h6)))

/-! ### Mem -/

theorem busError_keeps (hR : RegClosed P) {s0} (hs0 : P s0) : P (busError s0) := by
  delta busError; exact (hR.upd hs0)

theorem State.setSramGrp_keeps (hR : RegClosed P) {a0 a1 s0} (hs0 : P s0) : P (State.setSramGrp a0 a1 s0) := by
  delta State.setSramGrp; exact (State.put_keeps hR (hR.upd hs0))

theorem State.setSramFault_keeps (hR : RegClosed P) {a0 a1 s0} (hs0 : P s0) : P (State.setSramFault a0 a1 s0) := by
  delta State.setSramFault; exact (hR.upd hs0)

theorem sramStore_keeps (hP : Closed P) {a0 a1 s0} (hs0 : P s0) : P (sramStore a0 a1 s0) := by
  have hR := hP.toRegClosed
  delta sramStore
  extract_lets x0 x1 x2 x3
  have h4 : P x0 := (State.setSramFault_keeps hR (State.setBytes_keeps hP hs0))
  have h5 : P x2 := (hR.upd h4)
  exact (ite_keeps (State.setSramGrp_keeps hR h5) h5)

theorem sramCheck_keeps (hR : RegClosed P) {a0 a1 a2 s0} (hs0 : P s0) : P (sramCheck a0 a1 a2 s0).2 := by
  delta sramCheck
  extract_lets x0 x1 x2 x3
  have h4 : P x0 := (ite_keeps (State.fire_keeps hR (State.flag_keeps hR (State.inc_keeps hR hs0))) hs0)
  clear_value x0
  have h5 : P x3 := (State.setSramGrp_keeps hR (State.setSramFault_keeps hR h4))
  clear_value x3
  exact (ite_snd_keeps h4 (ite_snd_keeps (ite_snd_keeps h4 (State.fire_keeps hR (State.flag_keeps hR (State.put_keeps hR (State.inc_keeps hR h5))))) (State.setSramFault_keeps hR h4)))

theorem sramUe_keeps (hR : RegClosed P) {a0 a1 a2 s0} (hs0 : P s0) : P (sramUe a0 a1 a2 s0) := by
  delta sramUe
  extract_lets x0 x1 x2 x3
  have h4 : P x1 := (State.put_keeps hR (State.put_keeps hR (State.put_keeps hR hs0)))
  clear_value x1
  have h5 : P x2 := (State.put_keeps hR (State.put_keeps hR h4))
  clear_value x2
  have h6 : P x3 := (State.flag_keeps hR (State.inc_keeps hR h5))
  clear_value x3
  exact (lifeCode_keeps hR (lifeCount_keeps hR (State.fire_keeps hR h6)))

theorem mergeDrain_keeps (hP : Closed P) {a0 a1 a2 s0} (hs0 : P s0) : P (mergeDrain a0 a1 a2 s0) := by
  have hR := hP.toRegClosed
  delta mergeDrain
  extract_lets x0 x1 x2 x3
  have h4 : P x2 := (State.setSramGrp_keeps hR hs0)
  clear_value x2
  exact (ite_keeps (sramStore_keeps hP h4) (ite_keeps (sramStore_keeps hP h4) (ite_keeps (sramUe_keeps hR (sramCheck_keeps hR h4)) (sramStore_keeps hP (sramCheck_keeps hR h4)))))

theorem mergeDrainAll_keeps (hP : Closed P) {a0 s0} (hs0 : P s0) : P (mergeDrainAll a0 s0) := by
  delta mergeDrainAll; exact (State.forEach_keeps (fun h0 => (mergeDrain_keeps hP h0)) hs0)

theorem mergeWrite_keeps (hP : Closed P) {a0 a1 a2 a3 a4 s0} (hs0 : P s0) : P (mergeWrite a0 a1 a2 a3 a4 s0) := by
  have hR := hP.toRegClosed
  delta mergeWrite
  extract_lets x0 x1 x2 x3 x4 x5
  have h6 : P x4 := by
    unfold x4
    split
    · exact (ite_keeps (mergeDrain_keeps hP hs0) hs0)
    · exact hs0
  clear_value x4
  split
  · extract_lets x7 x8
    have h9 : P x8 := (State.setSramGrp_keeps hR hs0)
    clear_value x8
    exact (ite_keeps (mergeDrain_keeps hP h9) h9)
  · exact (State.setSramGrp_keeps hR h6)

theorem lineRead_keeps (hR : RegClosed P) {a0 a1 a2 s0} (hs0 : P s0) : P (lineRead a0 a1 a2 s0).2 := by
  delta lineRead
  refine foldl_snd_keeps (fun {b s k} h => ?_) hs0
  extract_lets x0 x1
  refine ite_snd_keeps h ?_
  have h1 : P x1.2 := sramCheck_keeps hR h
  exact ite_snd_keeps (sramUe_keeps hR h1) h1

theorem sramLine_keeps (hR : RegClosed P) {a0 a1 a2 a3 s0} (hs0 : P s0) : P (sramLine a0 a1 a2 a3 s0) := by
  delta sramLine
  extract_lets x0 x1
  have h2 : P x0.2 := lineRead_keeps hR hs0
  clear_value x0
  exact ite_keeps (cacheFill_keeps hR h2) h2

theorem execSramRead_keeps (hR : RegClosed P) {a0 a1 a2 a3 a4 a5 a6 s0} (hs0 : P s0) :
    OutAll P (execSramRead a0 a1 a2 a3 a4 a5 a6 s0) := by
  delta execSramRead
  extract_lets x0 x1 x2 x3 x4 x5
  have h6 : P x3 := cacheLookup_keeps hR hs0
  clear_value x3
  have h7 : P x4.2 := ite_snd_keeps (sramCheck_keeps hR h6) h6
  clear_value x4
  have h8 : P x5 := by
    unfold x5
    split
    · exact ite_keeps h7 (sramLine_keeps hR h7)
    · exact h7
  clear_value x5
  refine ite_out_keeps ?_ ?_
  · exact next_keeps hs0
  · refine ite_out_keeps ?_ ?_
    · exact next_keeps (busError_keeps hR hs0)
    · refine ite_out_keeps ?_ ?_
      · exact next_keeps (hR.upd hs0)
      · refine ite_out_keeps ?_ ?_
        · exact next_keeps (busError_keeps hR (sramUe_keeps hR h7))
        · exact next_keeps (hR.upd h8)

theorem execSramWrite_keeps (hP : Closed P) {a0 a1 a2 a3 a4 a5 s0} (hs0 : P s0) :
    OutAll P (execSramWrite a0 a1 a2 a3 a4 a5 s0) := by
  have hR := hP.toRegClosed
  delta execSramWrite
  extract_lets x0 x1 x2 x3 x4
  have h5 : P x2 := cacheWrite_keeps hR (hR.upd hs0)
  clear_value x2
  refine ite_out_keeps ?_ ?_
  · exact next_keeps hs0
  · refine ite_out_keeps ?_ ?_
    · exact next_keeps (busError_keeps hR hs0)
    · refine ite_out_keeps ?_ ?_
      · exact next_keeps (hR.upd hs0)
      · refine ite_out_keeps ?_ ?_
        · exact next_keeps (sramStore_keeps hP (State.setSramGrp_keeps hR h5))
        · exact next_keeps (mergeWrite_keeps hP h5)

theorem execEccWriteback_keeps (hR : RegClosed P) {a0 s0} (hs0 : P s0) : OutAll P (execEccWriteback a0 s0) := by
  delta execEccWriteback
  extract_lets x0
  split
  · refine next_keeps ?_
    exact hs0
  · refine next_keeps ?_
    exact (State.setSramGrp_keeps hR (State.setSramFault_keeps hR hs0))

theorem execMergeDrain_keeps (hP : Closed P) {a0 a1 a2 a3 s0} (hs0 : P s0) :
    OutAll P (execMergeDrain a0 a1 a2 a3 s0) := by
  delta execMergeDrain
  split
  · refine next_keeps ?_
    exact (mergeDrain_keeps hP hs0)
  · refine next_keeps ?_
    exact hs0

theorem sramClear_keeps (hP : Closed P) {a0 s0} (hs0 : P s0) : P (sramClear a0 s0) := by
  have hR := hP.toRegClosed
  delta sramClear
  extract_lets x0 x1 x2 x3 x4 x5 x6
  have h7 : P x2 := (wipe_keeps hP hs0)
  clear_value x2
  have h8 : P x6 := (hR.upd h7)
  clear_value x6
  exact (State.flag_keeps hR (State.setSramGrp_keeps hR h8))

theorem execSramClear_keeps (hP : Closed P) {a0 s0} (hs0 : P s0) : OutAll P (execSramClear a0 s0) := by
  have hR := hP.toRegClosed
  delta execSramClear
  refine next_keeps ?_
  exact (ite_keeps (sramClear_keeps hP (State.flag_keeps hR hs0)) hs0)

theorem execSramClearDone_keeps (hR : RegClosed P) {a0 s0} (hs0 : P s0) : OutAll P (execSramClearDone a0 s0) := by
  delta execSramClearDone
  refine next_keeps ?_
  exact (State.unflag_keeps hR (State.unflag_keeps hR hs0))

theorem rakeEnd_keeps (hR : RegClosed P) {a0 a1 s0} (hs0 : P s0) : P (rakeEnd a0 a1 s0) := by
  delta rakeEnd
  extract_lets x0 x1 x2
  have h3 : P x1 := (hR.upd hs0)
  clear_value x1
  have h4 : P x2 := (State.unflag_keeps hR (State.unflag_keeps hR (State.put_keeps hR h3)))
  clear_value x2
  exact (State.fire_keeps hR h4)

theorem rakeBegin_keeps (hR : RegClosed P) {a0 s0} (hs0 : P s0) : P (rakeBegin a0 s0) := by
  delta rakeBegin
  extract_lets x0 x1 x2
  have h3 : P x0 := (State.resetRegs_keeps hR hs0)
  clear_value x0
  have h4 : P x1 := (State.unflag_keeps hR (State.unflag_keeps hR (State.put_keeps hR h3)))
  clear_value x1
  exact (State.flag_keeps hR (hR.upd h4))

theorem rakeServe_keeps (hR : RegClosed P) {s0} (hs0 : P s0) : P (rakeServe s0) := by
  delta rakeServe
  refine State.forEach_keeps ?_ hs0
  intro y2 y3 h4
  extract_lets x5
  have h6 : P x5 := (rakeBegin_keeps hR h4)
  clear_value x5
  exact (ite_keeps (ite_keeps h6 (rakeEnd_keeps hR h6)) h4)

theorem rakeAbandon_keeps (hR : RegClosed P) {a0 s0} (hs0 : P s0) : P (rakeAbandon a0 s0) := by
  delta rakeAbandon; exact (ite_keeps (rakeServe_keeps hR (rakeEnd_keeps hR hs0)) hs0)

theorem execRakeRequest_keeps (hR : RegClosed P) {a0 a1 s0} (hs0 : P s0) : OutAll P (execRakeRequest a0 a1 s0) := by
  delta execRakeRequest
  extract_lets x0 x1 x2
  have h3 : P x1 := (ite_keeps (State.takeTask_keeps hR hs0) hs0)
  clear_value x1
  have h4 : P x2 := (ite_keeps (State.flag_keeps hR h3) h3)
  clear_value x2
  refine ite_out_keeps ?_ ?_
  · refine next_keeps ?_
    exact h3
  · refine next_keeps ?_
    exact (rakeServe_keeps hR (State.flag_keeps hR h4))

theorem rakeWord_keeps (hP : Closed P) {a0 a1 a2 a3 s0} (hs0 : P s0) : P (rakeWord a0 a1 a2 a3 s0) := by
  have hR := hP.toRegClosed
  delta rakeWord
  extract_lets x0 x1
  have h2 : P x1 := (ite_keeps (State.put_keeps hR (sramCheck_keeps hR hs0)) (sramCheck_keeps hR hs0))
  clear_value x1
  split
  · exact (mergeDrain_keeps hP hs0)
  · exact (ite_keeps hs0 (ite_keeps (sramCheck_keeps hR hs0) (ite_keeps (sramStore_keeps hP (State.inc_keeps hR (sramCheck_keeps hR hs0))) (State.flag_keeps hR (State.inc_keeps hR (State.put_keeps hR h2))))))

theorem execRakeStep_keeps (hP : Closed P) {a0 a1 a2 s0} (hs0 : P s0) : OutAll P (execRakeStep a0 a1 a2 s0) := by
  have hR := hP.toRegClosed
  delta execRakeStep
  split
  · refine next_keeps ?_
    exact hs0
  · extract_lets x0 x1 x2
    have h3 : P x1 := (rakeWord_keeps hP hs0)
    clear_value x1
    have h4 : P x2 := (State.put_keeps hR h3)
    clear_value x2
    refine ite_out_keeps ?_ ?_
    · refine next_keeps ?_
      exact (yieldBackground_keeps hR hs0)
    · refine ite_out_keeps ?_ ?_
      · refine next_keeps ?_
        exact hs0
      · refine next_keeps ?_
        exact (ite_keeps h4 (rakeServe_keeps hR (rakeEnd_keeps hR h4)))

theorem execRakeStop_keeps (hR : RegClosed P) {a0 s0} (hs0 : P s0) : OutAll P (execRakeStop a0 s0) := by
  delta execRakeStop
  refine next_keeps ?_
  exact (rakeAbandon_keeps hR hs0)

theorem execSemWrite_keeps (hR : RegClosed P) {a0 a1 a2 s0} (hs0 : P s0) : OutAll P (execSemWrite a0 a1 a2 s0) := by
  delta execSemWrite
  extract_lets x0 x1
  refine ite_out_keeps ?_ ?_
  · exact next_keeps hs0
  · refine ite_out_keeps ?_ ?_
    · exact next_keeps (ite_keeps (State.flag_keeps hR (State.put_keeps hR hs0)) hs0)
    · exact next_keeps (ite_keeps (State.unflag_keeps hR (State.put_keeps hR hs0)) hs0)

theorem coreStart_keeps (hR : RegClosed P) {a0 a1 s0} (hs0 : P s0) : P (coreStart a0 a1 s0) := by
  delta coreStart; exact (State.fire_keeps hR (hR.upd hs0))

theorem execCpu1Start_keeps (hR : RegClosed P) {a0 s0} (hs0 : P s0) : OutAll P (execCpu1Start a0 s0) := by
  delta execCpu1Start
  extract_lets x0 x1
  have h2 : P x0 := (State.put_keeps hR hs0)
  clear_value x0
  have h3 : P x1 := (State.flag_keeps hR (State.flag_keeps hR h2))
  clear_value x1
  refine next_keeps ?_
  exact (ite_keeps h2 (coreStart_keeps hR (State.putBit_keeps hR h3)))

/-! ### Flash -/

theorem State.setBank_keeps (hR : RegClosed P) {a0 a1 s0} (hs0 : P s0) : P (State.setBank a0 a1 s0) := by
  delta State.setBank; exact (State.put_keeps hR (hR.upd hs0))

theorem bankSync_keeps (hR : RegClosed P) {a0 s0} (hs0 : P s0) : P (bankSync a0 s0) := by
  delta bankSync
  extract_lets x0 x1 x2 x3
  exact (State.put_keeps hR (State.put_keeps hR hs0))

theorem flashCode_keeps (hR : RegClosed P) {a0 a1 s0} (hs0 : P s0) : P (flashCode a0 a1 s0) := by
  delta flashCode
  extract_lets x0 x1
  have h2 : P x0 := (State.put_keeps hR hs0)
  clear_value x0
  have h3 : P x1 := (State.flag_keeps hR h2)
  clear_value x1
  exact (ite_keeps h2 (ite_keeps h3 (State.fire_keeps hR h3)))

theorem journalInit_keeps (hP : Closed P) {a0 a1 a2 s0} (hs0 : P s0) : P (journalInit a0 a1 a2 s0) := by
  have hR := hP.toRegClosed
  delta journalInit
  extract_lets x0
  have h1 : P x0 := (State.setBytes_keeps hP (wipe_keeps hP hs0))
  clear_value x0
  exact (State.put_keeps hR (State.put_keeps hR (State.put_keeps hR h1)))

theorem journalStart_keeps (hP : Closed P) {a0 a1 a2 s0} (hs0 : P s0) : P (journalStart a0 a1 a2 s0) := by
  have hR := hP.toRegClosed
  delta journalStart
  extract_lets x0 x1 x2
  have h3 : P x1 := (ite_keeps (journalInit_keeps hP hs0) hs0)
  clear_value x1
  exact (State.put_keeps hR (State.setBytes_keeps hP h3))

theorem journalEnd_keeps (hP : Closed P) {a0 a1 a2 a3 s0} (hs0 : P s0) : P (journalEnd a0 a1 a2 a3 s0) := by
  delta journalEnd
  extract_lets x0
  exact (State.setBytes_keeps hP hs0)

theorem blockErase_keeps (hP : Closed P) {a0 s0} (hs0 : P s0) : P (blockErase a0 s0) := by
  have hR := hP.toRegClosed
  delta blockErase
  extract_lets x0 x1 x2 x3 x4 x5
  have h6 : P x0 := (wipe_keeps hP (wipe_keeps hP hs0))
  clear_value x0
  have h7 : P x4 := (State.setBank_keeps hR h6)
  clear_value x4
  exact (hR.upd h7)

theorem unitStore_keeps (hP : Closed P) {a0 a1 s0} (hs0 : P s0) : P (unitStore a0 a1 s0) := by
  have hR := hP.toRegClosed
  delta unitStore
  extract_lets x0
  exact (State.setBank_keeps hR (State.setBytes_keeps hP hs0))

theorem ewPush_keeps (hR : RegClosed P) {a0 a1 s0} (hs0 : P s0) : P (ewPush a0 a1 s0) := by
  delta ewPush
  extract_lets x0 x1 x2
  have h3 : P x0 := (State.fire_keeps hR (State.flag_keeps hR hs0))
  clear_value x0
  have h4 : P x2 := (hR.upd h3)
  clear_value x2
  exact (ite_keeps hs0 (ite_keeps (State.flag_keeps hR h3) (State.put_keeps hR h4)))

theorem unitRead_keeps (hR : RegClosed P) {a0 a1 s0} (hs0 : P s0) : P (unitRead a0 a1 s0) := by
  delta unitRead
  extract_lets x0 x1 x2 x3 x4 x5 x6 x7 x8 x9 x10
  have h11 : P x1 := (State.put_keeps hR (State.put_keeps hR hs0))
  clear_value x1
  have h12 : P x3 := (State.setBank_keeps hR h11)
  clear_value x3
  have h13 : P x4 := (ite_keeps (State.inc_keeps hR h12) h12)
  clear_value x4
  have h14 : P x6 := (hR.upd h13)
  clear_value x6
  have h15 : P x8 := (State.setBank_keeps hR h14)
  clear_value x8
  have h16 : P x9 := (State.flag_keeps hR (State.inc_keeps hR (State.put_keeps hR h15)))
  clear_value x9
  have h17 : P x10 := (ite_keeps (lifeCode_keeps hR (lifeCount_keeps hR (State.fire_keeps hR h16))) h13)
  clear_value x10
  exact (ite_keeps (ewPush_keeps hR h17) h17)

theorem eraseSuspend_keeps (hR : RegClosed P) {a0 a1 a2 s0} (hs0 : P s0) : P (eraseSuspend a0 a1 a2 s0) := by
  delta eraseSuspend
  extract_lets x0 x1
  have h2 : P x0 := ite_keeps (yieldBackground_keeps hR hs0) hs0
  clear_value x0
  exact State.fire_keeps hR (bankSync_keeps hR (State.setBank_keeps hR h2))

theorem flashFetch_keeps (hR : RegClosed P) {a0 a1 a2 s0} (hs0 : P s0) : P (flashFetch a0 a1 a2 s0) := by
  delta flashFetch
  extract_lets x0 x1 x2 x3 x4
  have h5 : P x3 := (ite_keeps hs0 (unitRead_keeps hR hs0))
  clear_value x3
  have h6 : P x4 := (State.freeNext_keeps hR h5)
  clear_value x4
  exact (ite_keeps (busError_keeps hR h5) (ite_keeps (hR.upd h6) (hR.upd h5)))

theorem flashLine_keeps (hR : RegClosed P) {a0 a1 a2 a3 s0} (hs0 : P s0) : P (flashLine a0 a1 a2 a3 s0) := by
  delta flashLine
  extract_lets x0 x1 x2 x3
  have h4 : P x3 := ite_keeps hs0 (unitRead_keeps hR hs0)
  clear_value x3
  exact ite_keeps h4 (cacheFill_keeps hR h4)

theorem flashGet_keeps (hR : RegClosed P) {a0 a1 a2 a3 a4 a5 s0} (hs0 : P s0) : P (flashGet a0 a1 a2 a3 a4 a5 s0) := by
  delta flashGet
  extract_lets x0
  have h1 : P x0 := flashFetch_keeps hR hs0
  clear_value x0
  split
  · exact ite_keeps h1 (flashLine_keeps hR h1)
  · exact h1

theorem execFlashRead_keeps (hR : RegClosed P) {a0 a1 a2 a3 a4 a5 a6 s0} (hs0 : P s0) :
    OutAll P (execFlashRead a0 a1 a2 a3 a4 a5 a6 s0) := by
  delta execFlashRead
  extract_lets x0 x1 x2 x3 x4 x5 x6 x7 x8
  have h9 : OutAll P x4 := next_keeps (hR.upd hs0)
  clear_value x4
  have h10 : P x5 := cacheLookup_keeps hR hs0
  clear_value x5
  have h11 : ∀ {y0}, P y0 → P (x6 y0) := fun h13 => flashGet_keeps hR h13
  clear_value x6
  have h14 : P x8 := State.inc_keeps hR (State.flag_keeps hR (State.put_keeps hR h10))
  clear_value x8
  refine ite_out_keeps ?_ ?_
  · exact next_keeps hs0
  · refine ite_out_keeps ?_ ?_
    · exact next_keeps (busError_keeps hR hs0)
    · refine ite_out_keeps ?_ ?_
      · exact next_keeps (hR.upd hs0)
      · clear_value x2
        split
        · refine ite_out_keeps ?_ ?_
          · exact h9
          · exact next_keeps (h11 h10)
        · refine ite_out_keeps ?_ ?_
          · refine ite_out_keeps ?_ ?_
            · exact next_keeps (busError_keeps hR (State.fire_keeps hR h14))
            · refine ite_out_keeps ?_ ?_
              · exact h9
              · exact next_keeps (h11 h10)
          · refine ite_out_keeps ?_ ?_
            · exact next_keeps (h11 h10)
            · refine ite_out_keeps ?_ ?_
              · extract_lets x15 x16
                have h17 : P x15 := eraseSuspend_keeps hR h10
                clear_value x15
                have h18 : P x16 := State.inc_keeps hR (State.flag_keeps hR (State.put_keeps hR h17))
                clear_value x16
                refine ite_out_keeps ?_ ?_
                · exact next_keeps (busError_keeps hR (State.fire_keeps hR h18))
                · exact next_keeps (h11 h17)
              · exact h9

theorem execEwfifoRead_keeps (hR : RegClosed P) {s0} (hs0 : P s0) : OutAll P (execEwfifoRead s0) := by
  delta execEwfifoRead
  extract_lets x0
  split
  · refine next_keeps ?_
    exact (hR.upd hs0)
  · extract_lets x1
    have h2 : P x1 := (hR.upd hs0)
    clear_value x1
    refine next_keeps ?_
    exact (State.put_keeps hR h2)

theorem unitStart_keeps (hR : RegClosed P) {a0 s0} (hs0 : P s0) : P (unitStart a0 s0) := by
  delta unitStart
  extract_lets x0
  split
  · extract_lets x1
    exact (ite_keeps (bankSync_keeps hR hs0) (ite_keeps (bankSync_keeps hR (flashCode_keeps hR (State.setBank_keeps hR hs0))) (bankSync_keeps hR (State.setBank_keeps hR hs0))))
  · exact (bankSync_keeps hR hs0)

theorem execFlashProgramUnit_keeps (hR : RegClosed P) {a0 a1 s0} (hs0 : P s0) :
    OutAll P (execFlashProgramUnit a0 a1 s0) := by
  delta execFlashProgramUnit
  extract_lets x0 x1 x2 x3 x4 x5 x6
  have h7 : P x3 := (State.wr_keeps hR hs0)
  clear_value x3
  have h8 : P x5 := (State.put_keeps hR h7)
  clear_value x5
  have h9 : P x6 := (State.setBank_keeps hR h8)
  clear_value x6
  refine ite_out_keeps ?_ ?_
  · refine next_keeps ?_
    exact (hR.upd hs0)
  · refine next_keeps ?_
    exact (unitStart_keeps hR (hR.upd h9))

theorem eraseStart_keeps (hP : Closed P) {a0 a1 s0} (hs0 : P s0) : P (eraseStart a0 a1 s0) := by
  have hR := hP.toRegClosed
  delta eraseStart
  extract_lets x0 x1 x2 x3 x4
  have h5 : P x1 := by
    unfold x1
    split
    · exact (ite_keeps (State.setBank_keeps hR (State.setBytes_keeps hP hs0)) hs0)
    · exact hs0
  clear_value x1
  have h6 : P x2 := (journalStart_keeps hP h5)
  clear_value x2
  have h7 : P x3 := (State.put_keeps hR h6)
  clear_value x3
  exact (bankSync_keeps hR (State.setBank_keeps hR h7))

theorem bankGo_keeps (hP : Closed P) {a0 s0} (hs0 : P s0) : P (bankGo a0 s0) := by
  have hR := hP.toRegClosed
  delta bankGo
  extract_lets x0
  refine ite_keeps ?_ ?_
  · exact (bankSync_keeps hR hs0)
  · split
    · exact (eraseStart_keeps hP hs0)
    · exact (ite_keeps (bankSync_keeps hR (State.setBank_keeps hR hs0)) (unitStart_keeps hR hs0))
    · exact (unitStart_keeps hR hs0)

theorem execFlashUnitDone_keeps (hP : Closed P) {a0 a1 a2 s0} (hs0 : P s0) :
    OutAll P (execFlashUnitDone a0 a1 a2 s0) := by
  have hR := hP.toRegClosed
  delta execFlashUnitDone
  extract_lets x0 x1 x2
  have h3 : P x2 := (State.setBank_keeps hR hs0)
  clear_value x2
  split
  · refine next_keeps ?_
    exact hs0
  · extract_lets x4 x5
    have h6 : P x5 := (ite_keeps (flashCode_keeps hR h3) (ite_keeps (flashCode_keeps hR (unitStore_keeps hP (State.freeNext_keeps hR h3))) (flashCode_keeps hR (unitStore_keeps hP h3))))
    clear_value x5
    refine next_keeps ?_
    exact (bankGo_keeps hP (State.fire_keeps hR h6))

theorem execFlashDiscard_keeps (hR : RegClosed P) {a0 s0} (hs0 : P s0) : OutAll P (execFlashDiscard a0 s0) := by
  delta execFlashDiscard
  extract_lets x0 x1 x2
  have h3 : P x1 := (State.resetRegs_keeps hR hs0)
  clear_value x1
  refine next_keeps ?_
  exact (State.setBank_keeps hR h3)

theorem eraseCount_keeps (hR : RegClosed P) {a0 s0} (hs0 : P s0) : P (eraseCount a0 s0) := by
  delta eraseCount
  extract_lets x0 x1
  have h2 : P x1 := (State.inc_keeps hR hs0)
  clear_value x1
  exact (ite_keeps (State.fire_keeps hR (State.flag_keeps hR h2)) h2)

theorem execFlashErase_keeps (hP : Closed P) {a0 a1 s0} (hs0 : P s0) : OutAll P (execFlashErase a0 a1 s0) := by
  have hR := hP.toRegClosed
  delta execFlashErase
  extract_lets x0 x1 x2 x3 x4
  have h5 : P x3 := (eraseCount_keeps hR hs0)
  clear_value x3
  refine ite_out_keeps ?_ ?_
  · refine next_keeps ?_
    exact (flashCode_keeps hR hs0)
  · refine next_keeps ?_
    exact (bankGo_keeps hP (State.setBank_keeps hR h5))

theorem resetRequest_keeps (hR : RegClosed P) {a0 a1 s0} (hs0 : P s0) : P (resetRequest a0 a1 s0) := by
  delta resetRequest; exact (hR.upd hs0)

theorem eraseAbandon_keeps (hR : RegClosed P) {a0 a1 s0} (hs0 : P s0) : P (eraseAbandon a0 a1 s0) := by
  delta eraseAbandon
  extract_lets x0 x1 x2
  have h3 : P x1 := (hR.upd hs0)
  clear_value x1
  exact (bankSync_keeps hR (State.setBank_keeps hR h3))

theorem headerQueue_keeps (hR : RegClosed P) {a0 a1 s0} (hs0 : P s0) : P (headerQueue a0 a1 s0) := by
  delta headerQueue
  extract_lets x0
  exact State.setBank_keeps hR hs0

theorem execFlashErasePulseEnd_keeps (hP : Closed P) {a0 a1 s0} (hs0 : P s0) : OutAll P (execFlashErasePulseEnd a0 a1 s0) := by
  have hR := hP.toRegClosed
  delta execFlashErasePulseEnd
  extract_lets x0
  clear_value x0
  split
  · exact next_keeps hs0
  · refine ite_out_keeps ?_ ?_
    · exact next_keeps hs0
    · extract_lets x1 x2 x3 x4 x5 x6 x7
      have h8 : P x2 := State.put_keeps hR hs0
      clear_value x2
      have h9 : P x3 := journalEnd_keeps hP (blockErase_keeps hP h8)
      clear_value x3
      have h10 : P x5 := headerQueue_keeps hR (State.setBank_keeps hR h9)
      clear_value x5
      have h11 : P x7 := headerQueue_keeps hR (journalEnd_keeps hP (eraseAbandon_keeps hR h8))
      clear_value x7
      refine ite_out_keeps ?_ ?_
      · exact next_keeps (eraseAbandon_keeps hR h8)
      · refine ite_out_keeps ?_ ?_
        · exact next_keeps (bankGo_keeps hP (State.fire_keeps hR (flashCode_keeps hR h10)))
        · refine ite_out_keeps ?_ ?_
          · exact next_keeps (State.setBank_keeps hR h8)
          · exact next_keeps (bankGo_keeps hP (State.fire_keeps hR (flashCode_keeps hR h11)))

theorem execFlashSuspend_keeps (hR : RegClosed P) {a0 a1 s0} (hs0 : P s0) : OutAll P (execFlashSuspend a0 a1 s0) := by
  delta execFlashSuspend
  extract_lets x0 x1 x2
  have h3 : P x1 := (ite_keeps (State.takeTask_keeps hR hs0) hs0)
  clear_value x1
  split
  · refine next_keeps ?_
    exact h3
  · refine ite_out_keeps ?_ ?_
    · refine next_keeps ?_
      exact (State.setBank_keeps hR h3)
    · refine next_keeps ?_
      exact (eraseSuspend_keeps hR h3)

theorem execFlashResume_keeps (hP : Closed P) {a0 a1 s0} (hs0 : P s0) : OutAll P (execFlashResume a0 a1 s0) := by
  have hR := hP.toRegClosed
  delta execFlashResume
  extract_lets x0 x1 x2
  have h3 : P x1 := (ite_keeps (State.takeTask_keeps hR hs0) hs0)
  clear_value x1
  split
  · refine next_keeps ?_
    exact h3
  · refine next_keeps ?_
    exact (ite_keeps h3 (bankGo_keeps hP (State.setBank_keeps hR h3)))

theorem execFlashAutoResume_keeps (hR : RegClosed P) {a0 s0} (hs0 : P s0) : OutAll P (execFlashAutoResume a0 s0) := by
  delta execFlashAutoResume
  extract_lets x0 x1
  clear_value x1
  split
  · exact next_keeps hs0
  · refine next_keeps ?_
    refine ite_keeps ?_ ?_
    · extract_lets x2
      have h3 : P x2 := ite_keeps (stepResumed_keeps hR hs0) hs0
      clear_value x2
      exact bankSync_keeps hR (State.setBank_keeps hR h3)
    · exact hs0

theorem execWearHeaderWrite_keeps (hP : Closed P) {a0 a1 s0} (hs0 : P s0) : OutAll P (execWearHeaderWrite a0 a1 s0) := by
  have hR := hP.toRegClosed
  delta execWearHeaderWrite
  extract_lets x0 x1
  clear_value x1
  split
  · exact next_keeps hs0
  · refine ite_out_keeps ?_ ?_
    · exact next_keeps hs0
    · refine ite_out_keeps ?_ ?_
      · exact next_keeps (yieldBackground_keeps hR hs0)
      · exact next_keeps (stepResumed_keeps hR (State.setBank_keeps hR (State.setBytes_keeps hP hs0)))

theorem journalScan_keeps (hR : RegClosed P) {a0 s0} (hs0 : P s0) : P (journalScan a0 s0) := by
  delta journalScan
  split
  · exact (State.put_keeps hR (State.put_keeps hR (State.put_keeps hR hs0)))
  · exact hs0

theorem erasecntLoad_keeps (hR : RegClosed P) {s0} (hs0 : P s0) : P (erasecntLoad s0) := by
  delta erasecntLoad
  extract_lets x0
  have h1 : P x0 := by
    unfold x0
    refine State.forEach_keeps ?_ hs0
    intro y5 y6 h7
    split
    · exact (State.flag_keeps hR (State.put_keeps hR h7))
    · exact (State.unflag_keeps hR (State.put_keeps hR h7))
  clear_value x0
  exact (bankSync_keeps hR (bankSync_keeps hR (journalScan_keeps hR (journalScan_keeps hR h1))))

theorem execErasecntLoad_keeps (hR : RegClosed P) {s0} (hs0 : P s0) : OutAll P (execErasecntLoad s0) := by
  delta execErasecntLoad
  refine next_keeps ?_
  exact (erasecntLoad_keeps hR hs0)

/-! ### Life -/

theorem lifeSlotSync_keeps (hR : RegClosed P) {s0} (hs0 : P s0) : P (lifeSlotSync s0) := by
  delta lifeSlotSync; exact (State.put_keeps hR hs0)

theorem execHarvestDue_keeps (hR : RegClosed P) {a0 s0} (hs0 : P s0) : OutAll P (execHarvestDue a0 s0) := by
  delta execHarvestDue
  extract_lets x0 x1
  have h2 : P x0 := (ite_keeps (State.flag_keeps hR hs0) hs0)
  clear_value x0
  refine ite_out_keeps ?_ ?_
  · refine next_keeps ?_
    exact hs0
  · refine next_keeps ?_
    exact (ite_keeps h2 (State.flag_keeps hR (hR.upd h2)))

theorem execHarvestStart_keeps (hP : Closed P) {s0} (hs0 : P s0) : OutAll P (execHarvestStart s0) := by
  have hR := hP.toRegClosed
  delta execHarvestStart
  extract_lets x0 x1 x2 x3 x4 x5 x6
  have h7 : P x3 := (hR.upd hs0)
  clear_value x3
  have h8 : P x4 := (State.flag_keeps hR (State.unflag_keeps hR (State.unflag_keeps hR h7)))
  clear_value x4
  have h9 : P x5 := (eraseStart_keeps hP (eraseCount_keeps hR (State.inc_keeps hR h8)))
  clear_value x5
  refine ite_out_keeps ?_ ?_
  · refine next_keeps ?_
    exact hs0
  · clear_value x1
    clear_value x6
    split
    · refine next_keeps ?_
      exact h8
    · refine next_keeps ?_
      exact (State.setBank_keeps hR h9)

theorem execHarvestUnitDone_keeps (hP : Closed P) {a0 a1 a2 s0} (hs0 : P s0) : OutAll P (execHarvestUnitDone a0 a1 a2 s0) := by
  have hR := hP.toRegClosed
  delta execHarvestUnitDone
  refine ite_out_keeps ?_ ?_
  · exact next_keeps hs0
  · refine ite_out_keeps ?_ ?_
    · exact next_keeps (yieldBackground_keeps hR hs0)
    · extract_lets x0 x1 x2 x3 x4 x5 x6 x7 x8 x9 x10
      have h11 : P x0 := stepResumed_keeps hR hs0
      clear_value x0
      have h12 : P x4 := ite_keeps (unitStore_keeps hP (State.freeNext_keeps hR h11)) h11
      clear_value x4
      have h13 : P x5 := lifeCode_keeps hR (State.put_keeps hR (State.inc_keeps hR h12))
      clear_value x5
      have h14 : P x6 := unitStore_keeps hP h11
      clear_value x6
      have h15 : P x9 := hR.upd h14
      clear_value x9
      have h16 : P x10 := State.inc_keeps hR (State.put_keeps hR h15)
      clear_value x10
      refine ite_out_keeps ?_ ?_
      · exact next_keeps (lifeSlotSync_keeps hR (State.unflag_keeps hR h13))
      · refine ite_out_keeps ?_ ?_
        · exact next_keeps h15
        · exact next_keeps (lifeSlotSync_keeps hR (State.unflag_keeps hR (State.put_keeps hR h16)))

theorem execLifeTempSample_keeps (hR : RegClosed P) {a0 s0} (hs0 : P s0) : OutAll P (execLifeTempSample a0 s0) := by
  delta execLifeTempSample
  refine next_keeps ?_
  exact (lifeEvent_keeps hR hs0)

theorem execLifeSecondTick_keeps (hR : RegClosed P) {s0} (hs0 : P s0) : OutAll P (execLifeSecondTick s0) := by
  delta execLifeSecondTick
  extract_lets x0 x1
  have h2 : P x0 := (lifeCount_keeps hR hs0)
  clear_value x0
  have h3 : P x1 := (ite_keeps h2 (lifeCount_keeps hR h2))
  clear_value x1
  refine next_keeps ?_
  exact (ite_keeps (State.put_keeps hR h3) h3)

theorem lifeStore_keeps (hR : RegClosed P) {a0 s0} (hs0 : P s0) : P (lifeStore a0 s0) := by
  delta lifeStore; exact (State.forEach_keeps (fun h0 => (State.wr_keeps hR h0)) hs0)

theorem execLifeLoadEnd_keeps (hR : RegClosed P) {s0} (hs0 : P s0) : OutAll P (execLifeLoadEnd s0) := by
  delta execLifeLoadEnd
  extract_lets x0 x1 x2 x3 x4 x5 x6 x7
  have h8 : P x1 := by
    unfold x1
    clear_value x0
    split
    · exact (State.put_keeps hR hs0)
    · exact hs0
  clear_value x1
  have h9 : P x3 := by
    unfold x3
    split
    · exact (State.put_keeps hR (lifeStore_keeps hR h8))
    · exact (State.put_keeps hR (lifeStore_keeps hR h8))
    · exact (State.put_keeps hR (State.wr_keeps hR (lifeStore_keeps hR h8)))
  clear_value x3
  have h10 : P x6 := (State.unflag_keeps hR (hR.upd h9))
  clear_value x6
  have h11 : P x7 := (ite_keeps (lifeCode_keeps hR h10) h10)
  clear_value x7
  refine ite_out_keeps ?_ ?_
  · refine next_keeps ?_
    exact hs0
  · refine next_keeps ?_
    exact (lifeSlotSync_keeps hR (State.forEach_keeps (fun h12 => (lifeApply_keeps hR h12)) h11))

theorem execLifeValRead_keeps (hR : RegClosed P) {a0 s0} (hs0 : P s0) : OutAll P (execLifeValRead a0 s0) := by
  delta execLifeValRead
  extract_lets x0 x1
  have h2 : P x1 := (State.setLatch_keeps hR hs0)
  clear_value x1
  refine next_keeps ?_
  exact (hR.upd h2)

end Sys2Proof.Machine
end

