-- ==== Sys2Proof/Laws/Keeps4.lean ====
section
/-!
SUPPORT. What the operations of CipherEng, Pke, Salt, LinkAccept, LinkPhone keep:
one lemma for each, under the hypothesis that Sys2Proof/Laws/Closed.lean names.
-/

namespace Sys2Proof.Machine

variable {P : State → Prop}

/-! ### CipherEng -/

theorem State.setQueue_keeps (hR : RegClosed P) {a0 a1 s0} (hs0 : P s0) : P (State.setQueue a0 a1 s0) := by
  delta State.setQueue; exact (hR.upd hs0)

theorem setCore_keeps (hR : RegClosed P) {a0 a1 s0} (hs0 : P s0) : P (setCore a0 a1 s0) := by
  delta setCore; exact (State.putBit_keeps hR (hR.upd hs0))

theorem refreshCores_keeps (hR : RegClosed P) {s0} (hs0 : P s0) : P (refreshCores s0) := by
  delta refreshCores
  extract_lets x0
  exact (State.put_keeps hR (State.put_keeps hR hs0))

theorem jobKey_keeps (hR : RegClosed P) {a0 a1 a2 s0} (hs0 : P s0) : P (jobKey a0 a1 a2 s0).2.2 := by
  delta jobKey
  extract_lets x0 x1 x2
  exact (ite_snd2_keeps hs0 (ite_snd2_keeps (keyRefused_keeps hR hs0) (keyAdmit_keeps hR hs0)))

theorem cipherCode_keeps (hR : RegClosed P) {a0 s0} (hs0 : P s0) : P (cipherCode a0 s0) := by
  delta cipherCode; exact (ite_keeps (State.put_keeps hR hs0) hs0)

theorem qdDone_keeps (hP : Closed P) {a0 a1 a2 s0} (hs0 : P s0) : P (qdDone a0 a1 a2 s0) := by
  delta qdDone; exact (State.setWord_keeps hP hs0)

theorem descEnd_keeps (hP : Closed P) {a0 a1 s0} (hs0 : P s0) : P (descEnd a0 a1 s0) := by
  have hR := hP.toRegClosed
  delta descEnd
  extract_lets x0 x1 x2 x3 x4 x5 x6 x7
  have h8 : P x2 := (qdDone_keeps hP hs0)
  clear_value x2
  have h9 : P x5 := (State.setQueue_keeps hR h8)
  clear_value x5
  have h10 : P x6 := (State.put_keeps hR (State.put_keeps hR (State.put_keeps hR h9)))
  clear_value x6
  have h11 : P x7 := (State.fire_keeps hR h10)
  clear_value x7
  exact (ite_keeps h11 (cipherCode_keeps hR (State.fire_keeps hR (State.flag_keeps hR h11))))

theorem descFinish_keeps (hP : Closed P) {a0 s0} (hs0 : P s0) : P (descFinish a0 s0) := by
  have hR := hP.toRegClosed
  delta descFinish
  extract_lets x0 x1
  split
  · exact hs0
  · extract_lets x2 x3 x4 x5 x6 x7 x8
    have h9 : P x6 := (State.setQueue_keeps hR hs0)
    clear_value x6
    have h10 : P x7 := (ite_keeps (State.setBytes_keeps hP h9) h9)
    clear_value x7
    have h11 : P x8 := (ite_keeps (State.setBytes_keeps hP h10) h10)
    clear_value x8
    exact (ite_keeps (descEnd_keeps hP h10) (ite_keeps (descEnd_keeps hP (State.setBytes_keeps hP h10)) (ite_keeps (descEnd_keeps hP h10) (descEnd_keeps hP h11))))

theorem queueStart_keeps (hP : Closed P) {a0 a1 a2 s0} (hs0 : P s0) : P (queueStart a0 a1 a2 s0) := by
  have hR := hP.toRegClosed
  induction a2 generalizing s0 with
  | zero => exact hs0
  | succ n ih =>
    unfold queueStart
    refine ite_keeps hs0 (ite_keeps (ih (descEnd_keeps hP hs0)) ?_)
    extract_lets submit k t j t1 w
    have ht : P t := by
      unfold t k
      split
      · exact hs0
      · exact jobKey_keeps hR hs0
    clear_value t
    refine ite_keeps (ih (descEnd_keeps hP ht)) ?_
    have hw : P w := State.flag_keeps hR (State.put_keeps hR (State.setQueue_keeps hR ht))
    exact ite_keeps (ih (descFinish_keeps hP hw)) hw

theorem coreGrant_keeps (hR : RegClosed P) {a0 s0} (hs0 : P s0) : P (coreGrant a0 s0) := by
  delta coreGrant
  refine ite_keeps ?_ ?_
  · exact hs0
  · extract_lets x0 x1 x2 x3
    have h4 : ∀ {y0 y1}, P y1 → P (x2 y0 y1) := fun h7 => setCore_keeps hR (State.setQueue_keeps hR h7)
    clear_value x2
    clear_value x1
    split
    · extract_lets x8 x9
      have h10 : P x8 := hR.upd hs0
      clear_value x8
      have h11 : P x9 := ite_keeps (yieldBackground_keeps hR h10) h10
      clear_value x9
      exact setCore_keeps hR (ite_keeps (State.inc_keeps hR h11) h11)
    · exact ite_keeps (setCore_keeps hR (hR.upd hs0)) (ite_keeps (h4 hs0) (ite_keeps (h4 hs0) (ite_keeps (setCore_keeps hR (stepResumed_keeps hR hs0)) hs0)))

theorem dispatchCores_keeps (hR : RegClosed P) {s0} (hs0 : P s0) : P (dispatchCores s0) := by
  delta dispatchCores; exact (State.forEach_keeps (fun h0 => (coreGrant_keeps hR h0)) hs0)

theorem refillAsk_keeps (hR : RegClosed P) {s0} (hs0 : P s0) : P (refillAsk s0) := by
  delta refillAsk; exact (ite_keeps (hR.upd hs0) hs0)

theorem refreshAvail_keeps (hR : RegClosed P) {s0} (hs0 : P s0) : P (refreshAvail s0) := by
  delta refreshAvail; exact (State.put_keeps hR hs0)

theorem refillEnd_keeps (hR : RegClosed P) {s0} (hs0 : P s0) : P (refillEnd s0) := by
  delta refillEnd
  extract_lets x0 x1 x2 x3
  have h4 : P x2 := (drbgDraw_keeps hR hs0)
  clear_value x2
  exact (ite_keeps (refreshAvail_keeps hR (hR.upd h4)) hs0)

theorem cipherRun_keeps (hP : Closed P) {a0 s0} (hs0 : P s0) : P (cipherRun a0 s0) := by
  have hR := hP.toRegClosed
  delta cipherRun
  exact (dispatchCores_keeps hR (refillAsk_keeps hR (queueStart_keeps hP (queueStart_keeps hP hs0))))

theorem execLinkCipherRequest_keeps (hR : RegClosed P) {s0} (hs0 : P s0) : OutAll P (execLinkCipherRequest s0) := by
  delta execLinkCipherRequest
  extract_lets x0
  refine next_keeps ?_
  exact (dispatchCores_keeps hR (hR.upd hs0))

theorem flushEnd_keeps (hP : Closed P) {a0 s0} (hs0 : P s0) : P (flushEnd a0 s0) := by
  have hR := hP.toRegClosed
  delta flushEnd
  extract_lets x0 x1 x2 x3 x4 x5 x6 x7 x8
  have h9 : P x1 := (ite_keeps (descEnd_keeps hP hs0) hs0)
  clear_value x1
  have h10 : P x6 := (State.forEach_keeps (fun h11 => (qdDone_keeps hP h11)) h9)
  clear_value x6
  have h12 : P x7 := (ite_keeps (cipherCode_keeps hR (State.put_keeps hR h10)) h10)
  clear_value x7
  have h13 : P x8 := (State.unflag_keeps hR (State.put_keeps hR h12))
  clear_value x8
  exact (ite_keeps hs0 (State.unflag_keeps hR (State.setQueue_keeps hR h13)))

theorem flushQueue_keeps (hP : Closed P) {a0 s0} (hs0 : P s0) : P (flushQueue a0 s0) := by
  have hR := hP.toRegClosed
  delta flushQueue
  extract_lets x0 x1
  have h2 : P x0 := (State.flag_keeps hR hs0)
  clear_value x0
  exact (flushEnd_keeps hP (State.setQueue_keeps hR h2))

theorem execCipherFlush_keeps (hP : Closed P) {a0 s0} (hs0 : P s0) : OutAll P (execCipherFlush a0 s0) := by
  have hR := hP.toRegClosed
  delta execCipherFlush
  refine next_keeps ?_
  exact (dispatchCores_keeps hR (flushQueue_keeps hP hs0))

theorem execCipherQtailWrite_keeps (hP : Closed P) {a0 a1 a2 a3 s0} (hs0 : P s0) :
    OutAll P (execCipherQtailWrite a0 a1 a2 a3 s0) := by
  have hR := hP.toRegClosed
  delta execCipherQtailWrite
  extract_lets x0 x1 x2 x3 x4 x5 x6
  have h7 : P x6 := (State.setQueue_keeps hR hs0)
  clear_value x6
  refine ite_out_keeps ?_ ?_
  · refine next_keeps ?_
    exact hs0
  · refine next_keeps ?_
    exact (cipherRun_keeps hP (State.put_keeps hR h7))

theorem execKeyclrWrite_keeps (hR : RegClosed P) {a0 s0} (hs0 : P s0) : OutAll P (execKeyclrWrite a0 s0) := by
  delta execKeyclrWrite
  refine next_keeps ?_
  exact (State.resetRegs_keeps hR hs0)

theorem selfTest_keeps (hR : RegClosed P) {a0 s0} (hs0 : P s0) : P (selfTest a0 s0) := by
  delta selfTest; exact (ite_keeps hs0 (hR.upd hs0))

theorem execCipherSelftestStart_keeps (hR : RegClosed P) {a0 s0} (hs0 : P s0) :
    OutAll P (execCipherSelftestStart a0 s0) := by
  delta execCipherSelftestStart
  extract_lets x0
  have h1 : P x0 := (ite_keeps (State.takeTask_keeps hR hs0) hs0)
  clear_value x0
  refine next_keeps ?_
  exact (dispatchCores_keeps hR (State.forEach_keeps (fun h2 => (selfTest_keeps hR h2)) h1))

theorem execCipherRestore_keeps (hR : RegClosed P) {a0 s0} (hs0 : P s0) : OutAll P (execCipherRestore a0 s0) := by
  delta execCipherRestore
  refine next_keeps ?_
  exact (dispatchCores_keeps hR (State.forEach_keeps (fun h0 => (selfTest_keeps hR (State.putBit_keeps hR h0))) hs0))

theorem testOver_keeps (hR : RegClosed P) {a0 s0} (hs0 : P s0) : P (testOver a0 s0) := by
  delta testOver
  extract_lets x0 x1
  have h2 : P x1 := (hR.upd hs0)
  clear_value x1
  exact (State.putBit_keeps hR (State.inc_keeps hR h2))

theorem putCoreRetired_keeps (hR : RegClosed P) {a0 a1 s0} (hs0 : P s0) : P (putCoreRetired a0 a1 s0) := by
  delta putCoreRetired
  exact (refreshCores_keeps hR (State.putBit_keeps hR (State.putBit_keeps hR hs0)))

theorem coreFail_keeps (hR : RegClosed P) {a0 s0} (hs0 : P s0) : P (coreFail a0 s0) := by
  delta coreFail
  extract_lets x0
  have h1 : P x0 := (State.inc_keeps hR (State.flag_keeps hR (putCoreRetired_keeps hR hs0)))
  clear_value x0
  exact (ite_keeps hs0 (ite_keeps (lifeCode_keeps hR (cipherCode_keeps hR (State.flag_keeps hR hs0))) (lifeCount_keeps hR (lifeCode_keeps hR (State.fire_keeps hR (cipherCode_keeps hR h1))))))

theorem testStep_keeps (hR : RegClosed P) {a0 a1 s0} (hs0 : P s0) : P (testStep a0 a1 s0) := by
  delta testStep
  extract_lets x0 x1
  have h2 : P x1 := (State.inc_keeps hR hs0)
  clear_value x1
  split
  · exact hs0
  · exact (ite_keeps (ite_keeps (hR.upd hs0) (testOver_keeps hR (ite_keeps (putCoreRetired_keeps hR hs0) hs0))) (ite_keeps (hR.upd h2) (coreFail_keeps hR (testOver_keeps hR h2))))

theorem execAesBlockEnd_keeps (hP : Closed P) {a0 a1 a2 s0} (hs0 : P s0) : OutAll P (execAesBlockEnd a0 a1 a2 s0) := by
  have hR := hP.toRegClosed
  delta execAesBlockEnd
  extract_lets x0 x1
  have h2 : P x1 := (setCore_keeps hR hs0)
  clear_value x1
  split
  · refine next_keeps ?_
    exact hs0
  · extract_lets x3 x4 x5
    have h6 : P x3 := by
      unfold x3
      split
      · exact h2
      · exact (refillEnd_keeps hR h2)
      · exact (testStep_keeps hR h2)
      · extract_lets x7 x8
        have h9 : P x8 := (State.setQueue_keeps hR h2)
        clear_value x8
        exact (ite_keeps (flushEnd_keeps hP h9) (ite_keeps (descFinish_keeps hP h9) h9))
    clear_value x3
    have h10 : P x4 := (coreGrant_keeps hR (refillAsk_keeps hR (queueStart_keeps hP (queueStart_keeps hP h6))))
    clear_value x4
    have h11 : P x5 := by
      unfold x5
      split
      · exact (ite_keeps (State.inc_keeps hR h10) h10)
      · exact h10
    clear_value x5
    refine next_keeps ?_
    exact (dispatchCores_keeps hR h11)

theorem execTrngDataRead_keeps (hR : RegClosed P) {s0} (hs0 : P s0) : OutAll P (execTrngDataRead s0) := by
  delta execTrngDataRead
  extract_lets x0 x1
  have h2 : P x1 := (State.inc_keeps hR (State.flag_keeps hR hs0))
  clear_value x1
  split
  · extract_lets x3
    have h4 : P x3 := (refreshAvail_keeps hR (hR.upd hs0))
    clear_value x3
    refine next_keeps ?_
    exact (dispatchCores_keeps hR (refillAsk_keeps hR (hR.upd h4)))
  · refine next_keeps ?_
    exact (hR.upd h2)

theorem trngStop_keeps (hR : RegClosed P) {s0} (hs0 : P s0) : P (trngStop s0) := by
  delta trngStop
  extract_lets x0 x1
  have h2 : P x1 := (hR.upd hs0)
  clear_value x1
  exact (refreshAvail_keeps hR (State.unflag_keeps hR h2))

theorem execTrngHealthFail_keeps (hR : RegClosed P) {a0 s0} (hs0 : P s0) : OutAll P (execTrngHealthFail a0 s0) := by
  delta execTrngHealthFail
  extract_lets x0 x1 x2 x3
  have h4 : P x1 := (trngStop_keeps hR hs0)
  clear_value x1
  have h5 : P x2 := (State.flag_keeps hR h4)
  clear_value x2
  have h6 : P x3 := (State.put_keeps hR h5)
  clear_value x3
  refine next_keeps ?_
  exact (State.fire_keeps hR (State.unflag_keeps hR (State.flag_keeps hR (State.inc_keeps hR h6))))

theorem execTrngRestart_keeps (hR : RegClosed P) {s0} (hs0 : P s0) : OutAll P (execTrngRestart s0) := by
  delta execTrngRestart
  extract_lets x0 x1
  have h2 : P x0 := (trngStop_keeps hR hs0)
  clear_value x0
  refine next_keeps ?_
  exact (State.flag_keeps hR (hR.upd h2))

theorem execTrngReady_keeps (hR : RegClosed P) {s0} (hs0 : P s0) : OutAll P (execTrngReady s0) := by
  delta execTrngReady
  extract_lets x0 x1 x2
  have h3 : P x1 := (hR.upd hs0)
  clear_value x1
  have h4 : P x2 := (State.fire_keeps hR (State.unflag_keeps hR (State.unflag_keeps hR (State.flag_keeps hR h3))))
  clear_value x2
  refine ite_out_keeps ?_ ?_
  · refine next_keeps ?_
    exact hs0
  · refine next_keeps ?_
    exact (dispatchCores_keeps hR (refillAsk_keeps hR (ite_keeps (refreshPassStart_keeps hR h4) h4)))

theorem execDrbgReseed_keeps (hR : RegClosed P) {a0 s0} (hs0 : P s0) : OutAll P (execDrbgReseed a0 s0) := by
  delta execDrbgReseed
  extract_lets x0 x1
  have h2 : P x0 := (ite_keeps (State.takeTask_keeps hR hs0) hs0)
  clear_value x0
  refine next_keeps ?_
  exact (ite_keeps (State.inc_keeps hR (hR.upd h2)) h2)

/-! ### Pke -/

theorem operandsClear_keeps (hP : Closed P) {s0} (hs0 : P s0) : P (operandsClear s0) := by
  delta operandsClear; exact (State.setBytes_keeps hP hs0)

theorem pkeRefuse_keeps (hR : RegClosed P) {s0} (hs0 : P s0) : P (pkeRefuse s0) := by
  delta pkeRefuse; exact (State.put_keeps hR hs0)

theorem ephDrop_keeps (hR : RegClosed P) {s0} (hs0 : P s0) : P (ephDrop s0) := by
  delta ephDrop; exact (State.unflag_keeps hR (hR.upd hs0))

theorem pkeRelease_keeps (hP : Closed P) {s0} (hs0 : P s0) : P (pkeRelease s0) := by
  have hR := hP.toRegClosed
  delta pkeRelease
  extract_lets x0 x1
  have h2 : P x0 := (operandsClear_keeps hP (ephDrop_keeps hR (State.put_keeps hR (State.unflag_keeps hR hs0))))
  clear_value x0
  split
  · exact (hR.upd h2)
  · exact h2

theorem execPkeClaimWrite_keeps (hP : Closed P) {a0 a1 s0} (hs0 : P s0) : OutAll P (execPkeClaimWrite a0 a1 s0) := by
  have hR := hP.toRegClosed
  delta execPkeClaimWrite
  refine ite_out_keeps ?_ ?_
  · refine next_keeps ?_
    exact hs0
  · refine ite_out_keeps ?_ ?_
    · refine next_keeps ?_
      exact (ite_keeps (pkeRelease_keeps hP hs0) hs0)
    · refine ite_out_keeps ?_ ?_
      · refine next_keeps ?_
        exact (State.put_keeps hR (State.flag_keeps hR hs0))
      · refine next_keeps ?_
        exact hs0

theorem pkeCommand_keeps (hR : RegClosed P) {a0 a1 f2 s0} (hf2 : ∀ {y0}, P y0 → P (f2 y0).2) (hs0 : P s0) :
    P (pkeCommand a0 a1 f2 s0) := by
  delta pkeCommand
  refine ite_keeps ?_ ?_
  · exact hs0
  · refine ite_keeps ?_ ?_
    · exact pkeRefuse_keeps hR hs0
    · refine ite_keeps ?_ ?_
      · exact hs0
      · extract_lets x0 x1 x2
        have h3 : P x0.2 := hf2 hs0
        clear_value x0
        have h4 : P x1 := h3
        clear_value x1
        exact State.flag_keeps hR (hR.upd h4)

theorem pkePrivate_keeps (hR : RegClosed P) {a0 a1 a2 a3 s0} (hs0 : P s0) : P (pkePrivate a0 a1 a2 a3 s0).2.2 := by
  unfold pkePrivate
  extract_lets c h d r
  have hr : P r.2.2 := by
    unfold r
    split
    · exact hs0
    · exact keyAdmit_keeps hR hs0
    · exact hs0
  exact ite_snd2_keeps hr hr

theorem execPkeKeygen_keeps (hR : RegClosed P) {a0 a1 a2 s0} (hs0 : P s0) : OutAll P (execPkeKeygen a0 a1 a2 s0) := by
  delta execPkeKeygen
  refine next_keeps ?_
  refine pkeCommand_keeps hR ?_ hs0
  intro y2 h3
  extract_lets x4
  refine ite_snd_keeps ?_ ?_
  · exact h3
  · split
    · exact (drbgScalar_keeps hR h3)
    · exact (drbgScalar_keeps hR h3)

theorem execPkeEcdh_keeps (hR : RegClosed P) {a0 a1 a2 s0} (hs0 : P s0) : OutAll P (execPkeEcdh a0 a1 a2 s0) := by
  delta execPkeEcdh
  extract_lets x0 x1
  refine next_keeps ?_
  refine pkeCommand_keeps hR ?_ hs0
  intro y4 h5
  extract_lets x6 x7 x8 x9
  refine ite_snd_keeps ?_ ?_
  · exact h5
  · refine ite_snd_keeps ?_ ?_
    · exact h5
    · refine ite_snd_keeps ?_ ?_
      · exact (pkePrivate_keeps hR h5)
      · split
        · exact (pkePrivate_keeps hR h5)
        · exact (ite_snd_keeps (pkePrivate_keeps hR h5) (pkePrivate_keeps hR h5))

theorem execPkeSign_keeps (hR : RegClosed P) {a0 a1 a2 s0} (hs0 : P s0) : OutAll P (execPkeSign a0 a1 a2 s0) := by
  delta execPkeSign
  refine next_keeps ?_
  refine pkeCommand_keeps hR ?_ hs0
  intro y2 h3
  extract_lets x4 x5
  refine ite_snd_keeps ?_ ?_
  · exact (pkePrivate_keeps hR h3)
  · refine ite_snd_keeps ?_ ?_
    · exact (pkePrivate_keeps hR h3)
    · split
      · exact (drbgScalar_keeps hR (pkePrivate_keeps hR h3))
      · exact (drbgScalar_keeps hR (pkePrivate_keeps hR h3))

theorem execPkeVerify_keeps (hR : RegClosed P) {a0 a1 a2 s0} (hs0 : P s0) : OutAll P (execPkeVerify a0 a1 a2 s0) := by
  delta execPkeVerify
  refine next_keeps ?_
  refine pkeCommand_keeps hR ?_ hs0
  intro y2 h3
  extract_lets x4 x5
  exact (ite_snd_keeps h3 (ite_snd_keeps h3 h3))

theorem execPkeValidate_keeps (hR : RegClosed P) {a0 a1 a2 s0} (hs0 : P s0) : OutAll P (execPkeValidate a0 a1 a2 s0) := by
  delta execPkeValidate
  refine next_keeps ?_
  exact (pkeCommand_keeps hR (fun h0 => h0) hs0)

theorem execPkeOpDone_keeps (hP : Closed P) {s0} (hs0 : P s0) : OutAll P (execPkeOpDone s0) := by
  have hR := hP.toRegClosed
  unfold execPkeOpDone
  split
  · exact next_keeps hs0
  · next o _ =>
    extract_lets p1 t1 t2 p2 t3 r
    have h2 : P t2 := State.forEach_keeps (fun h => State.setBytes_keeps hP h) (hR.upd hs0)
    clear_value t2
    have h3 : P t3 := by
      unfold t3
      split
      · exact State.flag_keeps hR (hR.upd h2)
      · exact ephDrop_keeps hR h2
      · exact h2
    clear_value t3
    have hr : P r.2 := by
      unfold r
      split
      · exact ite_snd_keeps (makeSlot_keeps hR h3) h3
      · exact h3
    exact next_keeps (State.fire_keeps hR (State.unflag_keeps hR (State.put_keeps hR hr)))

theorem shaCommand_keeps (hR : RegClosed P) {a0 f1 s0} (hf1 : ∀ {y0}, P y0 → P (f1 y0)) (hs0 : P s0) :
    P (shaCommand a0 f1 s0) := by
  delta shaCommand
  exact ite_keeps hs0 (ite_keeps (hf1 hs0) (pkeRefuse_keeps hR hs0))

theorem execShaInit_keeps (hR : RegClosed P) {a0 s0} (hs0 : P s0) : OutAll P (execShaInit a0 s0) := by
  delta execShaInit
  exact next_keeps (shaCommand_keeps hR (fun h1 => hR.upd h1) hs0)

theorem execShaData_keeps (hR : RegClosed P) {a0 a1 s0} (hs0 : P s0) : OutAll P (execShaData a0 a1 s0) := by
  delta execShaData
  exact next_keeps (shaCommand_keeps hR (fun h1 => by
    split
    · exact hR.upd h1
    · exact h1) hs0)

theorem execShaFinal_keeps (hR : RegClosed P) {a0 a1 s0} (hs0 : P s0) : OutAll P (execShaFinal a0 a1 s0) := by
  delta execShaFinal
  exact next_keeps (shaCommand_keeps hR (fun h1 => by
    split
    · extract_lets x2 x3
      exact hR.upd h1
    · exact h1) hs0)

theorem execShaDone_keeps (hR : RegClosed P) {s0} (hs0 : P s0) : OutAll P (execShaDone s0) := by
  delta execShaDone
  extract_lets x0 x1
  have h2 : P x1 := (hR.upd hs0)
  clear_value x1
  split
  · refine next_keeps ?_
    exact hs0
  · refine next_keeps ?_
    exact (State.fire_keeps hR (State.forEach_keeps (fun h3 => (State.wr_keeps hR h3)) h2))

/-! ### Salt -/

theorem putSluiceCells_keeps (hR : RegClosed P) {a0 s0} (hs0 : P s0) : P (putSluiceCells a0 s0) := by
  delta putSluiceCells
  extract_lets x0 x1 x2
  have h3 : P x2 := (State.wr_keeps hR hs0)
  clear_value x2
  exact (State.forEach_keeps (fun h4 => (State.wr_keeps hR h4)) h3)

theorem putTaskCells_keeps (hR : RegClosed P) {a0 s0} (hs0 : P s0) : P (putTaskCells a0 s0) := by
  delta putTaskCells; exact (State.wr_keeps hR hs0)

theorem putPinCells_keeps (hR : RegClosed P) {a0 s0} (hs0 : P s0) : P (putPinCells a0 s0) := by
  delta putPinCells
  extract_lets x0
  exact (State.put_keeps hR (State.put_keeps hR (State.put_keeps hR (State.put_keeps hR hs0))))

theorem putRecord_keeps (hR : RegClosed P) {a0 s0} (hs0 : P s0) : P (putRecord a0 s0) := by
  delta putRecord
  extract_lets x0 x1 x2 x3 x4
  have h5 : P x1 := (State.resetRegs_keeps hR hs0)
  clear_value x1
  have h6 : P x2 := by
    unfold x2
    split
    · exact (State.forEach_keeps (fun h7 => (putSluiceCells_keeps hR h7)) h5)
    · exact (State.forEach_keeps (fun h8 => (putTaskCells_keeps hR h8)) h5)
    · exact (State.forEach_keeps (fun h9 => (putPinCells_keeps hR h9)) h5)
    · exact h5
  clear_value x2
  exact (hR.upd h6)

theorem gateDisarm_keeps (hR : RegClosed P) {a0 s0} (hs0 : P s0) : P (gateDisarm a0 s0) := by
  delta gateDisarm
  exact (State.setGateLateNext_keeps hR (State.setGateStepped_keeps hR (State.unflag_keeps hR (State.unflag_keeps hR hs0))))

theorem presetArm_keeps (hR : RegClosed P) {a0 s0} (hs0 : P s0) : P (presetArm a0 s0) := by
  delta presetArm
  extract_lets x0 x1 x2 x3 x4
  have h5 : P x1 := (gateDisarm_keeps hR hs0)
  clear_value x1
  have h6 : P x2 := (State.put_keeps hR (State.wr_keeps hR h5))
  clear_value x2
  have h7 : P x3 := (State.put_keeps hR h6)
  clear_value x3
  have h8 : P x4 := (State.flag_keeps hR (State.flag_keeps hR (State.setGateT_keeps hR h7)))
  clear_value x4
  split
  · exact h7
  · exact (State.flag_keeps hR (State.setGateT_keeps hR h7))
  · exact (ite_keeps (gateArmOffset_keeps hR h8) h8)

theorem presetsCommit_keeps (hR : RegClosed P) {a0 s0} (hs0 : P s0) : P (presetsCommit a0 s0) := by
  delta presetsCommit
  extract_lets x0 x1
  exact (State.forEach_keeps (fun h2 => (presetArm_keeps hR h2)) (State.forEach_keeps (fun h3 => (gateDisarm_keeps hR h3)) hs0))

theorem groupsCount_keeps (hR : RegClosed P) {s0} (hs0 : P s0) : P (groupsCount s0) := by
  delta groupsCount
  exact State.put_keeps hR hs0

theorem defaultCells_keeps (hR : RegClosed P) {a0 s0} (hs0 : P s0) : P (defaultCells a0 s0) := by
  delta defaultCells
  extract_lets x0 x1 x2
  have h3 : P x0 := State.resetRegs_keeps hR hs0
  clear_value x0
  have h4 : P x2 := hR.upd h3
  clear_value x2
  exact ite_keeps h4 (State.forEach_keeps (fun h7 => gateDisarm_keeps hR h7) h4)

theorem commitRecords_keeps (hR : RegClosed P) {a0 s0} (hs0 : P s0) : P (commitRecords a0 s0) := by
  delta commitRecords
  extract_lets x0 x1 x2
  have h3 : P x1 := (State.forEach_keeps (fun h4 => (State.forEach_keeps (fun h5 => (putRecord_keeps hR h5)) h4)) hs0)
  clear_value x1
  have h6 : P x2 := (ite_keeps (presetsCommit_keeps hR h3) h3)
  clear_value x2
  exact (refreshRing_keeps hR (refreshRoles_keeps hR (refreshLimits_keeps hR h6)))

theorem baseCommit_keeps (hR : RegClosed P) {a0 a1 a2 s0} (hs0 : P s0) : P (baseCommit a0 a1 a2 s0) := by
  delta baseCommit
  extract_lets x0 x1 x2 x3 x4
  have h5 : P x0 := State.put_keeps hR (State.flag_keeps hR hs0)
  clear_value x0
  have h6 : P x1 := State.put_keeps hR (State.put_keeps hR h5)
  clear_value x1
  have h7 : P x2 := State.put_keeps hR h6
  clear_value x2
  have h8 : P x3 := State.put_keeps hR (State.put_keeps hR h7)
  clear_value x3
  exact groupsCount_keeps hR (commitRecords_keeps hR (defaultCells_keeps hR h8))

theorem execSaltcmtCommit_keeps (hR : RegClosed P) {s0} (hs0 : P s0) : OutAll P (execSaltcmtCommit s0) := by
  delta execSaltcmtCommit
  refine ite_out_keeps ?_ ?_
  · exact next_keeps hs0
  · extract_lets x0 x1 x2 x3
    have h4 : P x1 := State.put_keeps hR (State.flag_keeps hR hs0)
    clear_value x1
    have h5 : P x3 := hR.upd h4
    clear_value x3
    exact next_keeps (refreshRing_keeps hR (groupsCount_keeps hR h5))

theorem reloadNext_keeps (hR : RegClosed P) {s0} (hs0 : P s0) : P (reloadNext s0) := by
  delta reloadNext
  extract_lets x0
  split
  · exact (ite_keeps hs0 (hR.upd hs0))
  · exact hs0

theorem execCfgchkPassStart_keeps (hR : RegClosed P) {s0} (hs0 : P s0) : OutAll P (execCfgchkPassStart s0) := by
  delta execCfgchkPassStart
  extract_lets x0
  refine next_keeps ?_
  exact (ite_keeps hs0 (hR.upd hs0))

theorem execCfgchkGroupStep_keeps (hR : RegClosed P) {a0 a1 s0} (hs0 : P s0) : OutAll P (execCfgchkGroupStep a0 a1 s0) := by
  delta execCfgchkGroupStep
  split
  · exact next_keeps hs0
  · refine ite_out_keeps ?_ ?_
    · exact next_keeps hs0
    · refine ite_out_keeps ?_ ?_
      · exact next_keeps (yieldBackground_keeps hR hs0)
      · extract_lets x0 x1 x2 x3
        have h4 : P x2 := stepResumed_keeps hR (hR.upd hs0)
        clear_value x2
        clear_value x0
        split
        · refine ite_out_keeps ?_ ?_
          · exact next_keeps h4
          · exact next_keeps (reloadNext_keeps hR (hR.upd h4))
        · exact next_keeps h4

theorem patchBegin_keeps (hR : RegClosed P) {a0 s0} (hs0 : P s0) : P (patchBegin a0 s0) := by
  delta patchBegin
  extract_lets x0 x1 x2
  have h3 : P x1 := (hR.upd hs0)
  have h4 : P x2 := (State.flag_keeps hR (State.flag_keeps hR h3))
  exact (ite_keeps h4 (State.flag_keeps hR h4))

theorem execPatchStart_keeps (hR : RegClosed P) {a0 s0} (hs0 : P s0) : OutAll P (execPatchStart a0 s0) := by
  delta execPatchStart
  extract_lets x0 x1 x2 x3 x4
  have h5 : P x0 := (State.put_keeps hR hs0)
  clear_value x0
  have h6 : P x1 := (State.put_keeps hR h5)
  clear_value x1
  have h7 : P x3 := (State.unflag_keeps hR (hR.upd h6))
  clear_value x3
  refine ite_out_keeps ?_ ?_
  · refine ite_out_keeps ?_ ?_
    · refine next_keeps ?_
      exact (reloadNext_keeps hR h7)
    · refine next_keeps ?_
      exact h6
  · refine ite_out_keeps ?_ ?_
    · refine next_keeps ?_
      exact (State.flag_keeps hR (hR.upd h5))
    · refine next_keeps ?_
      exact (patchBegin_keeps hR h5)

theorem loaderRelease_keeps (hP : Closed P) {s0} (hs0 : P s0) : P (loaderRelease s0) := by
  have hR := hP.toRegClosed
  delta loaderRelease
  exact (ite_keeps (operandsClear_keeps hP (State.resetRegs_keeps hR (State.unflag_keeps hR hs0))) hs0)

theorem patchCommit_keeps (hR : RegClosed P) {a0 s0} (hs0 : P s0) : P (patchCommit a0 s0) := by
  delta patchCommit
  exact State.inc_keeps hR (groupsCount_keeps hR (commitRecords_keeps hR (hR.upd hs0)))

theorem execPatchLoadDone_keeps (hP : Closed P) {s0} (hs0 : P s0) : OutAll P (execPatchLoadDone s0) := by
  have hR := hP.toRegClosed
  delta execPatchLoadDone
  extract_lets x0 x1 x2
  have h3 : P x2 := (loaderRelease_keeps hP (hR.upd hs0))
  clear_value x2
  split
  · refine next_keeps ?_
    exact hs0
  · extract_lets x4 x5 x6 x7 x8 x9
    have h10 : P x6 := (State.put_keeps hR (State.unflag_keeps hR (State.unflag_keeps hR h3)))
    clear_value x6
    have h11 : P x7 := (State.put_keeps hR h10)
    clear_value x7
    have h12 : P x9 := (ite_keeps h11 (ite_keeps (State.flag_keeps hR (hR.upd h11)) (patchCommit_keeps hR h11)))
    clear_value x9
    refine ite_out_keeps ?_ ?_
    · refine next_keeps ?_
      exact hs0
    · refine next_keeps ?_
      exact (reloadNext_keeps hR (State.fire_keeps hR h12))

theorem execPatchDiscard_keeps (hR : RegClosed P) {s0} (hs0 : P s0) : OutAll P (execPatchDiscard s0) := by
  delta execPatchDiscard
  extract_lets x0 x1 x2
  have h3 : P x0 := (State.put_keeps hR hs0)
  clear_value x0
  have h4 : P x2 := (State.unflag_keeps hR (hR.upd h3))
  clear_value x2
  refine ite_out_keeps ?_ ?_
  · refine next_keeps ?_
    exact h3
  · refine next_keeps ?_
    exact (reloadNext_keeps hR (State.put_keeps hR h4))

theorem execPatchCommitTask_keeps (hR : RegClosed P) {s0} (hs0 : P s0) : OutAll P (execPatchCommitTask s0) := by
  delta execPatchCommitTask
  extract_lets x0 x1 x2 x3 x4
  have h5 : P x0 := (State.takeTask_keeps hR hs0)
  clear_value x0
  have h6 : P x2 := (State.unflag_keeps hR h5)
  clear_value x2
  have h7 : P x4 := (State.put_keeps hR (hR.upd h6))
  clear_value x4
  refine ite_out_keeps ?_ ?_
  · refine next_keeps ?_
    exact h5
  · refine ite_out_keeps ?_ ?_
    · refine next_keeps ?_
      exact (reloadNext_keeps hR (State.fire_keeps hR (State.put_keeps hR h7)))
    · refine next_keeps ?_
      exact (reloadNext_keeps hR (patchCommit_keeps hR h6))

theorem execConfigReloadDone_keeps (hR : RegClosed P) {s0} (hs0 : P s0) : OutAll P (execConfigReloadDone s0) := by
  delta execConfigReloadDone
  extract_lets x0 x1
  have h2 : P x1 := (hR.upd hs0)
  clear_value x1
  split
  · refine next_keeps ?_
    exact hs0
  · split
    · refine next_keeps ?_
      exact (resetRequest_keeps hR h2)
    · extract_lets x3 x4 x5
      have h6 : P x3 := (State.inc_keeps hR (State.inc_keeps hR (commitRecords_keeps hR h2)))
      clear_value x3
      have h7 : P x4 := (State.fire_keeps hR (State.put_keeps hR (State.put_keeps hR h6)))
      clear_value x4
      refine ite_out_keeps ?_ ?_
      · refine next_keeps ?_
        exact (patchBegin_keeps hR (hR.upd h7))
      · refine next_keeps ?_
        exact (reloadNext_keeps hR h7)

/-! ### LinkAccept -/

theorem presetDue_keeps (hR : RegClosed P) {a0 s0} (hs0 : P s0) : P (presetDue a0 s0) := by
  delta presetDue
  split
  · exact (ite_keeps (laneLeaveRx_keeps hR hs0) hs0)
  · exact hs0

theorem execRxFrameEnd_keeps (hR : RegClosed P) {a0 a1 a2 a3 a4 s0} (hs0 : P s0) :
    OutAll P (execRxFrameEnd a0 a1 a2 a3 a4 s0) := by
  delta execRxFrameEnd
  extract_lets x0 x1 x2 x3 x4 x5 x6 x7 x8 x9 x10 x11 x12 x13 x14 x15 x16 x17 x18 x19 x20 x21 x22 x23 x24 x25 x26 x27
  have h28 : P x2 := presetDue_keeps hR hs0
  clear_value x2
  have h29 : P x14 := State.setPan_keeps hR h28
  clear_value x14
  have h30 : P x23 := ite_keeps (State.fire_keeps hR (State.flag_keeps hR (State.inc_keeps hR h29))) (lifeCount64_keeps hR (hR.upd h29))
  clear_value x23
  have h31 : P x24 := recordEvents_keeps hR (putPanLast_keeps hR h30)
  clear_value x24
  have h32 : P x25 := ite_keeps h31 (ite_keeps (afcUpdate_keeps hR (afcUpdate_keeps hR h31)) (afcUpdate_keeps hR h31))
  clear_value x25
  have h33 : P x27 := ite_keeps (State.setLane_keeps hR h32) h32
  clear_value x27
  refine ite_out_keeps ?_ ?_
  · exact next_keeps h28
  · exact next_keeps (panRest_keeps hR h33)

theorem popRecord_keeps (hR : RegClosed P) {s0} (hs0 : P s0) : P (popRecord s0) := by
  delta popRecord; exact (hR.upd hs0)

theorem presetAbandon_keeps (hR : RegClosed P) {a0 s0} (hs0 : P s0) : P (presetAbandon a0 s0) := by
  delta presetAbandon
  extract_lets x0 x1
  have h2 : P x1 := (State.setLane_keeps hR hs0)
  clear_value x1
  exact (ite_keeps (nativeRx_keeps hR h2) h2)

theorem recordNoAck_keeps (hR : RegClosed P) {a0 s0} (hs0 : P s0) : P (recordNoAck a0 s0) := by
  delta recordNoAck; exact (ite_keeps (presetAbandon_keeps hR hs0) hs0)

theorem parentFrame_keeps (hP : Closed P) {a0 a1 a2 s0} (hs0 : P s0) : P (parentFrame a0 a1 a2 s0) := by
  have hR := hP.toRegClosed
  delta parentFrame
  extract_lets x0 x1 x2 x3 x4
  have h5 : P x1 := State.putS_keeps hR hs0
  clear_value x1
  have h6 : P x2 := rateSet_keeps hR h5
  clear_value x2
  have h7 : P x3 := ite_keeps (timeStep_keeps hP (slewCancel_keeps hR h6)) (slewStart_keeps hR h6)
  clear_value x3
  exact disciplineCheck_keeps hR (hR.upd h7)

theorem parentAdopt_keeps (hP : Closed P) {a0 a1 a2 a3 s0} (hs0 : P s0) : P (parentAdopt a0 a1 a2 a3 s0) := by
  have hR := hP.toRegClosed
  delta parentAdopt
  extract_lets x0 x1 x2
  have h3 : P x0 := (State.fire_keeps hR (State.inc_keeps hR (State.flag_keeps hR (State.unflag_keeps hR (State.put_keeps hR (State.flag_keeps hR hs0))))))
  clear_value x0
  have h4 : P x2 := (hR.upd h3)
  clear_value x2
  exact (setStratum_keeps hR (parentFrame_keeps hP h4))

theorem candRecheck_keeps (hR : RegClosed P) {a0 a1 s0} (hs0 : P s0) : P (candRecheck a0 a1 s0) := by
  delta candRecheck
  split
  · exact ite_keeps (hR.upd hs0) hs0
  · exact hs0

theorem offerTide_keeps (hP : Closed P) {a0 a1 a2 a3 a4 s0} (hs0 : P s0) : P (offerTide a0 a1 a2 a3 a4 s0) := by
  have hR := hP.toRegClosed
  delta offerTide
  extract_lets x0 x1 x2 x3 x4 x5 x6
  have h7 : P x2 := candRecheck_keeps hR hs0
  clear_value x2
  have h8 : P x5 := ite_keeps h7 (setStratum_keeps hR (hR.upd h7))
  clear_value x5
  exact ite_keeps h7 (ite_keeps (ite_keeps (parentLose_keeps hR h7) (parentFrame_keeps hP h8)) (ite_keeps h7 (ite_keeps (ite_keeps h7 (parentAdopt_keeps hP h7)) (ite_keeps h7 (ite_keeps h7 (ite_keeps (parentAdopt_keeps hP h7) (hR.upd h7)))))))

theorem partnerFrame_keeps (hP : Closed P) {a0 a1 a2 a3 s0} (hs0 : P s0) : P (partnerFrame a0 a1 a2 a3 s0) := by
  delta partnerFrame
  extract_lets x0 x1 x2 x3 x4 x5 x6 x7 x8 x9
  have h10 : P x2 := (anchorFresh_keeps hP hs0)
  clear_value x2
  have h11 : P x5 := (State.setCtx_keeps hP h10)
  clear_value x5
  have h12 : P x6 := (ite_keeps (State.setCtx_keeps hP h11) h10)
  clear_value x6
  have h13 : P x7 := (State.setCtx_keeps hP h12)
  clear_value x7
  have h14 : P x8 := (State.setCtx_keeps hP (State.setCtx_keeps hP (State.setCtx_keeps hP h13)))
  clear_value x8
  have h15 : P x9 := (ite_keeps (State.setCtx_keeps hP h14) h14)
  clear_value x9
  exact (State.setCtx_keeps hP (State.setCtx_keeps hP h15))

theorem putCache_keeps (hP : Closed P) {a0 a1 s0} (hs0 : P s0) : P (putCache a0 a1 s0) := by
  delta putCache; exact (State.setNum_keeps hP hs0)

theorem setRpevict_keeps (hR : RegClosed P) {a0 s0} (hs0 : P s0) : P (setRpevict a0 s0) := by
  delta setRpevict; exact (State.put_keeps hR (State.put_keeps hR hs0))

theorem replayCommit_keeps (hP : Closed P) {a0 a1 a2 s0} (hs0 : P s0) : P (replayCommit a0 a1 a2 s0) := by
  have hR := hP.toRegClosed
  delta replayCommit
  extract_lets x0 x1 x2
  have h3 : P x2 := (ite_keeps (State.put_keeps hR hs0) (setRpevict_keeps hR (State.inc_keeps hR hs0)))
  clear_value x2
  refine ite_keeps ?_ ?_
  · split
    · exact hs0
    · extract_lets x4
      exact (ite_keeps (State.setCtx_keeps hP (State.setCtx_keeps hP (State.setCtx_keeps hP hs0))) (ite_keeps (State.setCtx_keeps hP (State.setCtx_keeps hP hs0)) (State.setCtx_keeps hP hs0)))
  · split
    · extract_lets x5 x6
      exact (ite_keeps (putCache_keeps hP hs0) (putCache_keeps hP hs0))
    · exact (putCache_keeps hP h3)

theorem acceptDrop_keeps (hP : Closed P) {a0 a1 a2 a3 s0} (hs0 : P s0) : P (acceptDrop a0 a1 a2 a3 s0) := by
  have hR := hP.toRegClosed
  delta acceptDrop
  extract_lets x0 x1 x2 x3
  have h4 : P x0 := (recordNoAck_keeps hR (traceWrite_keeps hP hs0))
  clear_value x0
  have h5 : P x1 := (State.put_keeps hR (State.put_keeps hR h4))
  clear_value x1
  have h6 : P x2 := (State.inc_keeps hR h5)
  clear_value x2
  have h7 : P x3 := by
    unfold x3
    split
    · split
      · exact (State.ctxCount_keeps hP h6)
      · exact h6
    · exact (State.inc_keeps hR h5)
    · exact (State.inc_keeps hR h5)
    · exact (State.inc_keeps hR h5)
    · exact (State.inc_keeps hR h5)
    · exact (State.inc_keeps hR h5)
    · exact (State.inc_keeps hR h5)
    · exact (State.inc_keeps hR h5)
    · exact (State.inc_keeps hR h5)
    · exact (State.inc_keeps hR h5)
    · exact (State.inc_keeps hR h5)
  clear_value x3
  exact (ite_keeps h4 (ite_keeps (State.fire_keeps hR h7) h7))

theorem frameAcked_keeps (hP : Closed P) {a0 s0} (hs0 : P s0) : P (frameAcked a0 s0) := by
  have hR := hP.toRegClosed
  delta frameAcked
  extract_lets x0 x1
  have h2 : P x1 := ite_keeps (State.setCtx_keeps hP (State.ctxCount_keeps hP hs0)) hs0
  clear_value x1
  exact ite_keeps (State.setAct_keeps hR h2) (endAct_keeps hP h2)

theorem ackMap_keeps (hP : Closed P) {a0 a1 a2 a3 a4 s0} (hs0 : P s0) : P (ackMap a0 a1 a2 a3 a4 s0) := by
  delta ackMap
  extract_lets x0
  exact (State.forEach_keeps (fun h1 => (frameAcked_keeps hP h1)) hs0)

theorem dackAdd_keeps (hP : Closed P) {a0 a1 a2 s0} (hs0 : P s0) : P (dackAdd a0 a1 a2 s0) := by
  have hR := hP.toRegClosed
  delta dackAdd
  refine ite_keeps ?_ ?_
  · exact hs0
  · extract_lets x0 x1 x2 x3 x4 x5 x6 x7
    have h8 : P x1 := traceWrite_keeps hP hs0
    clear_value x1
    have h9 : P x4 := ite_keeps (State.flag_keeps hR (State.inc_keeps hR h8)) h8
    clear_value x4
    clear_value x0
    clear_value x2
    split
    · extract_lets x10 x11
      exact setDacks_keeps hP h8
    · exact State.inc_keeps hR (setDacks_keeps hP h9)

theorem profileOf_keeps (hR : RegClosed P) {a0 a1 a2 s0} (hs0 : P s0) : P (profileOf a0 a1 a2 s0).2 := by
  delta profileOf
  extract_lets x0 x1 x2 x3 x4 x5 x6 x7 x8
  have h9 : P x3 := (chooseSlot_keeps hR hs0)
  clear_value x3
  have h10 : P x8 := (setProf_keeps hR h9)
  clear_value x8
  exact (ite_snd_keeps hs0 h10)

theorem ackRefused_keeps (hP : Closed P) {a0 a1 s0} (hs0 : P s0) : P (ackRefused a0 a1 s0) := by
  have hR := hP.toRegClosed
  delta ackRefused
  extract_lets x0 x1 x2 x3 x4
  have h5 : P x2 := refuseAct_keeps hP hs0
  clear_value x2
  have h6 : P x4 := dackAdd_keeps hP h5
  clear_value x4
  exact presetAbandon_keeps hR h6

theorem answer_keeps (hP : Closed P) {a0 a1 a2 a3 a4 a5 s0} (hs0 : P s0) : P (answer a0 a1 a2 a3 a4 a5 s0) := by
  have hR := hP.toRegClosed
  delta answer
  refine ite_keeps ?_ ?_
  · exact recordNoAck_keeps hR hs0
  · refine ite_keeps ?_ ?_
    · exact dackAdd_keeps hP hs0
    · extract_lets x0 x1
      exact ite_keeps (ackRefused_keeps hP hs0) (hR.upd hs0)

theorem hostSignal_keeps (hR : RegClosed P) {a0 s0} (hs0 : P s0) : P (hostSignal a0 s0) := by
  delta hostSignal
  exact (State.fire_keeps hR (State.flag_keeps hR (State.put_keeps hR hs0)))

theorem deliverHost_keeps (hP : Closed P) {a0 a1 a2 a3 a4 a5 a6 s0} (hs0 : P s0) :
    P (deliverHost a0 a1 a2 a3 a4 a5 a6 s0) := by
  have hR := hP.toRegClosed
  delta deliverHost
  extract_lets x0 x1 x2
  clear_value x0
  clear_value x1
  split
  · exact (hostSignal_keeps hR (State.setBytes_keeps hP hs0))
  · exact (State.flag_keeps hR (rxqAppend_keeps hP (takeCells_keeps hP hs0)))

theorem deliver_keeps (hP : Closed P) {a0 a1 a2 a3 a4 a5 a6 a7 a8 s0} (hs0 : P s0) :
    P (deliver a0 a1 a2 a3 a4 a5 a6 a7 a8 s0) := by
  have hR := hP.toRegClosed
  delta deliver
  extract_lets x0 x1
  have h2 : P x1 := (ite_keeps (deliverHost_keeps hP hs0) (rxqAppend_keeps hP (takeCells_keeps hP hs0)))
  clear_value x1
  exact (State.fire_keeps hR h2)

theorem forwardPlan_keeps (hP : Closed P) {a0 a1 a2 a3 a4 a5 a6 s0} (hs0 : P s0) : P (forwardPlan a0 a1 a2 a3 a4 a5 a6 s0) := by
  have hR := hP.toRegClosed
  delta forwardPlan
  extract_lets x0 x1 x2
  split
  · exact refuseAct_keeps hP hs0
  · extract_lets x3 x4 x5 x6 x7 x8 x9 x10 x11 x12
    refine ite_keeps ?_ ?_
    · exact refuseAct_keeps hP hs0
    · clear_value x11
      clear_value x12
      split
      · exact refuseAct_keeps hP (laneTune_keeps hR hs0)
      · exact listenDue_keeps hP (prepare_keeps hR (settle_keeps hP hs0))

theorem forwardStart_keeps (hP : Closed P) {a0 a1 a2 a3 a4 a5 a6 s0} (hs0 : P s0) : P (forwardStart a0 a1 a2 a3 a4 a5 a6 s0) := by
  have hR := hP.toRegClosed
  delta forwardStart
  extract_lets x0 x1 x2 x3 x4 x5 x6 x7 x8 x9
  have h10 : P x3 := State.setRam_keeps hP (State.ramCount_keeps hP hs0)
  clear_value x3
  have h11 : P x4.2 := takeCells_keeps hP h10
  clear_value x4
  have h12 : P x6 := h11
  clear_value x6
  have h13 : P x8 := refreshRxq_keeps hR (hR.upd h12)
  clear_value x8
  have h14 : P x9 := traceWrite_keeps hP (State.fire_keeps hR h13)
  clear_value x9
  exact forwardPlan_keeps hP h14

theorem commitStats_keeps (hP : Closed P) {a0 a1 a2 s0} (hs0 : P s0) : P (commitStats a0 a1 a2 s0) := by
  have hR := hP.toRegClosed
  delta commitStats
  extract_lets x0 x1 x2 x3
  have h4 : P x0 := (traceWrite_keeps hP (State.inc_keeps hR hs0))
  clear_value x0
  have h5 : P x3 := (ite_keeps (hR.upd h4) h4)
  clear_value x3
  split
  · exact h5
  · extract_lets x6
    have h7 : P x6 := (State.setCtx_keeps hP (State.setCtx_keeps hP (State.setCtx_keeps hP (State.ctxCount_keeps hP h5))))
    clear_value x6
    exact (ite_keeps (renewSup_keeps hP h7) h7)

theorem useElements_keeps (hP : Closed P) {a0 a1 s0} (hs0 : P s0) : P (useElements a0 a1 s0) := by
  delta useElements
  extract_lets x0 x1
  have h2 : P x0 := (ite_keeps (ackMap_keeps hP hs0) hs0)
  clear_value x0
  have h3 : P x1 := (ite_keeps h2 (ackMap_keeps hP h2))
  clear_value x1
  split
  · exact (profileApply_keeps hP h3)
  · exact h3

theorem actHeard_keeps (hR : RegClosed P) {a0 a1 s0} (hs0 : P s0) : P (actHeard a0 a1 s0) := by
  delta actHeard
  split
  · exact hs0
  · exact (State.forEach_keeps (fun h0 => (State.setAct_keeps hR h0)) hs0)

theorem takeFrame_keeps (hP : Closed P) {a0 a1 a2 a3 a4 a5 a6 s0} (hs0 : P s0) : P (takeFrame a0 a1 a2 a3 a4 a5 a6 s0) := by
  have hR := hP.toRegClosed
  delta takeFrame
  extract_lets x0 x1 x2 x3 x4 x5 x6 x7 x8 x9 x10
  have h11 : P x1 := ite_keeps (State.flag_keeps hR hs0) hs0
  clear_value x1
  have h12 : P x3 := ite_keeps (commitStats_keeps hP (replayCommit_keeps hP h11)) h11
  clear_value x3
  have h13 : P x4 := actHeard_keeps hR (ite_keeps (useElements_keeps hP h12) h12)
  clear_value x4
  have h14 : P x5.2 := profileOf_keeps hR h13
  clear_value x5
  have h15 : P x6 := h14
  clear_value x6
  have h16 : P x10 := ite_keeps (forwardStart_keeps hP h15) (deliver_keeps hP h15)
  clear_value x10
  exact ite_keeps (recordNoAck_keeps hR (traceWrite_keeps hP (State.inc_keeps hR h11))) (ite_keeps (recordNoAck_keeps hR (rxqRefuse_keeps hP h11)) (answer_keeps hP h16))

theorem duplicateFrame_keeps (hP : Closed P) {a0 a1 a2 a3 s0} (hs0 : P s0) : P (duplicateFrame a0 a1 a2 a3 s0) := by
  have hR := hP.toRegClosed
  delta duplicateFrame
  extract_lets x0 x1 x2
  have h3 : P x0 := State.fire_keeps hR (State.inc_keeps hR hs0)
  clear_value x0
  have h4 : P x1 := by
    unfold x1
    split
    · exact State.ctxCount_keeps hP h3
    · exact h3
  clear_value x1
  have h5 : P x2.2 := profileOf_keeps hR h4
  clear_value x2
  exact answer_keeps hP h5

theorem acceptOml_keeps (hP : Closed P) {a0 a1 a2 s0} (hs0 : P s0) : P (acceptOml a0 a1 a2 s0) := by
  have hR := hP.toRegClosed
  delta acceptOml
  extract_lets x0 x1 x2 x3 x4 x5 x6 x7 x8 x9 x10 x11 x12 x13 x14 x15 x16 x17
  have h18 : ∀ {y0 y1}, P y1 → P (x3 y0 y1) := fun h21 => acceptDrop_keeps hP h21
  clear_value x3
  have h22 : P x7.2 := linkFetch_keeps hR hs0
  clear_value x7
  have h23 : P x8 := h22
  clear_value x8
  have h24 : P x16 := by
    unfold x16
    clear_value x2
    split
    · exact partnerFrame_keeps hP (offerTide_keeps hP h23)
    · exact h23
  clear_value x16
  exact ite_keeps (h18 hs0) (ite_keeps (h18 hs0) (ite_keeps (h18 hs0) (ite_keeps (h18 hs0) (ite_keeps (ite_keeps (h18 hs0) (takeFrame_keeps hP hs0)) (ite_keeps (h18 hs0) (ite_keeps (h18 hs0) (ite_keeps (h18 h23) (ite_keeps (h18 h23) (ite_keeps (h18 h23) (ite_keeps (h18 h23) (ite_keeps (h18 h24) (ite_keeps (duplicateFrame_keeps hP h24) (ite_keeps (h18 h24) (takeFrame_keeps hP h24))))))))))))))

theorem execImmediateAckLaunch_keeps (hP : Closed P) {a0 a1 s0} (hs0 : P s0) :
    OutAll P (execImmediateAckLaunch a0 a1 s0) := by
  have hR := hP.toRegClosed
  delta execImmediateAckLaunch
  extract_lets x0 x1 x2 x3 x4 x5
  have h6 : P x1 := (presetDue_keeps hR hs0)
  clear_value x1
  have h7 : P x3 := (hR.upd h6)
  clear_value x3
  have h8 : P x5 := (State.setLane_keeps hR h7)
  clear_value x5
  split
  · refine next_keeps ?_
    exact (ite_keeps (presetAbandon_keeps hR h6) h6)
  · extract_lets x9 x10 x11 x12 x13 x14 x15 x16 x17 x18 x19
    have h20 : P x17 := (ite_keeps (endLaneActs_keeps hP h8) h8)
    clear_value x17
    have h21 : P x18 := (State.setAct_keeps hR (emitNative_keeps hR h20))
    clear_value x18
    have h22 : P x19 := (ite_keeps h21 (profSent_keeps hR h21))
    clear_value x19
    refine ite_out_keeps ?_ ?_
    · refine next_keeps ?_
      exact (ackRefused_keeps hP h7)
    · refine next_keeps ?_
      exact (traceWrite_keeps hP h22)

theorem parentAck_keeps (hP : Closed P) {a0 a1 s0} (hs0 : P s0) : P (parentAck a0 a1 s0) := by
  delta parentAck
  extract_lets x0 x1 x2 x3 x4 x5
  exact ite_keeps hs0 (State.setCtx_keeps hP (State.setCtx_keeps hP hs0))

theorem execAckReceived_keeps (hP : Closed P) {s0} (hs0 : P s0) : OutAll P (execAckReceived s0) := by
  have hR := hP.toRegClosed
  delta execAckReceived
  extract_lets x0
  have h1 : P x0 := (popRecord_keeps hR hs0)
  clear_value x0
  split
  · refine next_keeps ?_
    exact hs0
  · refine ite_out_keeps ?_ ?_
    · refine next_keeps ?_
      exact hs0
    · split
      · refine next_keeps ?_
        exact h1
      · split
        · refine next_keeps ?_
          exact h1
        · extract_lets x2 x3
          have h4 : P x2 := (parentAck_keeps hP h1)
          clear_value x2
          have h5 : P x3 := (ite_keeps (profileApply_keeps hP h4) h4)
          clear_value x3
          refine ite_out_keeps ?_ ?_
          · refine next_keeps ?_
            exact h1
          · refine next_keeps ?_
            exact (frameAcked_keeps hP h5)

theorem execForwardLaunch_keeps (hP : Closed P) {a0 a1 a2 a3 s0} (hs0 : P s0) : OutAll P (execForwardLaunch a0 a1 a2 a3 s0) := by
  have hR := hP.toRegClosed
  delta execForwardLaunch
  split
  · refine ite_out_keeps ?_ ?_
    · exact next_keeps hs0
    · split
      · exact next_keeps (refuseAct_keeps hP hs0)
      · extract_lets x0 x1 x2 x3 x4 x5 x6
        have h7 : P x3.2 := ite_snd_keeps hs0 (linkAdmit_keeps hR hs0)
        clear_value x3
        have h8 : P x4 := h7
        clear_value x4
        refine ite_out_keeps ?_ ?_
        · exact next_keeps (refuseAct_keeps hP hs0)
        · refine ite_out_keeps ?_ ?_
          · exact next_keeps (refuseAct_keeps hP h8)
          · refine ite_out_keeps ?_ ?_
            · exact next_keeps (refuseTx_keeps hP h8)
            · clear_value x6
              split
              · exact next_keeps (refuseAct_keeps hP h8)
              · exact next_keeps (tryLaunchTx_keeps hP h8)
  · exact next_keeps hs0

theorem execTideAdjWrite_keeps (hP : Closed P) {a0 s0} (hs0 : P s0) : OutAll P (execTideAdjWrite a0 s0) := by
  delta execTideAdjWrite
  refine ite_out_keeps ?_ ?_
  · exact next_keeps (timeStep_keeps hP hs0)
  · exact next_keeps hs0

/-! ### LinkPhone -/

theorem leDeliver_keeps (hP : Closed P) {a0 a1 a2 a3 s0} (hs0 : P s0) : P (leDeliver a0 a1 a2 a3 s0) := by
  have hR := hP.toRegClosed
  delta leDeliver
  extract_lets x0
  exact (State.fire_keeps hR (rxqAppend_keeps hP (takeCells_keeps hP hs0)))

theorem connectionOpen_keeps (hP : Closed P) {a0 a1 s0} (hs0 : P s0) : P (connectionOpen a0 a1 s0) := by
  have hR := hP.toRegClosed
  delta connectionOpen
  extract_lets x0
  have h1 : P x0 := (State.setCtx_keeps hP (State.setCtx_keeps hP (setConn_keeps hP hs0)))
  clear_value x0
  exact (renewSup_keeps hP (dropLeLink_keeps hR h1))

theorem connectionArm_keeps (hP : Closed P) {a0 a1 s0} (hs0 : P s0) : P (connectionArm a0 a1 s0) := by
  delta connectionArm; exact (ite_keeps hs0 (tlArm_keeps hP (setTlLaunch_keeps hP hs0)))

theorem endEntry_keeps (hP : Closed P) {a0 s0} (hs0 : P s0) : P (endEntry a0 s0) := by
  delta endEntry; exact (setTlValid_keeps hP (endAct_keeps hP hs0))

theorem auxPanStop_keeps (hR : RegClosed P) {a0 s0} (hs0 : P s0) : P (auxPanStop a0 s0).2 := by
  delta auxPanStop
  split
  · exact State.unflag_keeps hR (panStop_keeps hR hs0)
  · exact hs0

theorem auxFollow_keeps (hR : RegClosed P) {a0 a1 a2 s0} (hs0 : P s0) : P (auxFollow a0 a1 a2 s0) := by
  delta auxFollow
  extract_lets x0 x1 x2 x3 x4 x5
  have h6 : P x0.2 := auxPanStop_keeps hR hs0
  clear_value x0
  have h7 : P x3 := State.setAct_keeps hR h6
  clear_value x3
  have h8 : P x5.2 := openPans_keeps hR h7
  clear_value x5
  exact ite_keeps (lePans_keeps hR (State.setAct_keeps hR h8)) (leListen_keeps hR h7)

theorem auxReturn_keeps (hR : RegClosed P) {a0 s0} (hs0 : P s0) : P (auxReturn a0 s0) := by
  delta auxReturn
  extract_lets x0
  have h1 : P x0.2 := auxPanStop_keeps hR hs0
  clear_value x0
  exact ite_keeps (leListen_keeps hR hs0) (State.setAct_keeps hR h1)

theorem scanAnswer_keeps (hP : Closed P) {a0 a1 a2 a3 s0} (hs0 : P s0) : P (scanAnswer a0 a1 a2 a3 s0) := by
  have hR := hP.toRegClosed
  delta scanAnswer
  extract_lets x0 x1 x2 x3 x4 x5 x6 x7 x8 x9 x10 x11 x12 x13 x14
  have h15 : P x12.2 := leSend_keeps hR hs0
  clear_value x12
  have h16 : P x13 := State.freeNext_keeps hR h15
  clear_value x13
  have h17 : P x14.2 := leSend_keeps hR hs0
  clear_value x14
  refine ite_keeps ?_ ?_
  · exact ite_keeps (refuseAct_keeps hP h16) (endEntry_keeps hP (connectionArm_keeps hP (connectionOpen_keeps hP h16)))
  · refine ite_keeps ?_ ?_
    · exact ite_keeps (refuseAct_keeps hP h17) (leListen_keeps hR h17)
    · clear_value x1
      clear_value x0
      split
      · exact auxFollow_keeps hR hs0
      · exact ite_keeps (auxReturn_keeps hR hs0) hs0

theorem scanReceive_keeps (hP : Closed P) {a0 a1 a2 a3 s0} (hs0 : P s0) : P (scanReceive a0 a1 a2 a3 s0) := by
  have hR := hP.toRegClosed
  delta scanReceive
  exact (ite_keeps hs0 (ite_keeps hs0 (ite_keeps (rxqRefuse_keeps hP hs0) (scanAnswer_keeps hP (leDeliver_keeps hP (State.inc_keeps hR hs0))))))

theorem advReceive_keeps (hP : Closed P) {a0 a1 a2 a3 s0} (hs0 : P s0) : P (advReceive a0 a1 a2 a3 s0) := by
  have hR := hP.toRegClosed
  delta advReceive
  extract_lets x0 x1 x2 x3 x4 x5 x6
  exact (ite_keeps hs0 (ite_keeps (refuseAct_keeps hP (leSendAll_keeps hR hs0)) (endAct_keeps hP (leSendAll_keeps hR hs0))))

theorem leContinue_keeps (hP : Closed P) {a0 a1 a2 a3 s0} (hs0 : P s0) : P (leContinue a0 a1 a2 a3 s0) := by
  have hR := hP.toRegClosed
  delta leContinue
  extract_lets x0 x1 x2 x3 x4 x5
  have h6 : P x4.2 := leSendData_keeps hP hs0
  clear_value x4
  have h7 : P x5 := h6
  clear_value x5
  exact ite_keeps hs0 (ite_keeps (ite_keeps (refuseAct_keeps hP h6) (ite_keeps (endEvent_keeps hP h7) (leListen_keeps hR h7))) (endEvent_keeps hP hs0))

theorem leHeard_keeps (hP : Closed P) {a0 a1 s0} (hs0 : P s0) : P (leHeard a0 a1 s0) := by
  have hR := hP.toRegClosed
  delta leHeard
  extract_lets x0 x1 x2 x3 x4 x5 x6
  have h7 : P x2 := renewSup_keeps hP (setLeLink_keeps hR hs0)
  clear_value x2
  have h8 : P x3 := State.setCtx_keeps hP (State.setCtx_keeps hP (State.setCtx_keeps hP h7))
  clear_value x3
  have h9 : P x6 := ite_keeps (hR.upd h8) h8
  clear_value x6
  exact ite_keeps h9 (State.setCtx_keeps hP h9)

theorem leTakePdu_keeps (hP : Closed P) {a0 a1 s0} (hs0 : P s0) : P (leTakePdu a0 a1 s0).2 := by
  delta leTakePdu
  extract_lets x0 x1 x2 x3 x4 x5 x6 x7 x8 x9
  have h10 : P x7 := (State.setCtx_keeps hP hs0)
  clear_value x7
  have h11 : P x8 := (ite_keeps (State.setCtx_keeps hP h10) h10)
  clear_value x8
  have h12 : P x9 := (State.ctxCount_keeps hP h11)
  clear_value x9
  exact (ite_snd_keeps (linkEnd_keeps hP (State.ctxCount_keeps hP hs0)) (ite_snd_keeps (rxqRefuse_keeps hP hs0) (ite_keeps h12 (leDeliver_keeps hP h12))))

theorem connReceive_keeps (hP : Closed P) {a0 a1 a2 a3 s0} (hs0 : P s0) : P (connReceive a0 a1 a2 a3 s0) := by
  have hR := hP.toRegClosed
  delta connReceive
  extract_lets x0 x1 x2 x3 x4 x5 x6 x7 x8 x9 x10 x11 x12 x13
  have h14 : P x2 := (ite_keeps (ite_keeps (leDeliver_keeps hP hs0) (rxqRefuse_keeps hP hs0)) hs0)
  clear_value x2
  have h15 : P x4 := (State.setAct_keeps hR (State.inc_keeps hR h14))
  clear_value x4
  have h16 : P x5 := (leHeard_keeps hP h14)
  clear_value x5
  have h17 : P x7 := (State.setAct_keeps hR h16)
  clear_value x7
  have h18 : P x10 := (setLeLink_keeps hR h17)
  clear_value x10
  have h19 : P x12 := (ite_keeps (leAcked_keeps hP h18) h18)
  clear_value x12
  exact (ite_keeps (ite_keeps (endEvent_keeps hP h15) (leContinue_keeps hP h15)) (ite_keeps h17 (ite_keeps (leContinue_keeps hP (traceWrite_keeps hP (State.inc_keeps hR h18))) (ite_keeps (ite_keeps (leContinue_keeps hP (leTakePdu_keeps hP h19)) (leTakePdu_keeps hP h19)) (leContinue_keeps hP (State.ctxCount_keeps hP h19))))))

theorem leReceive_keeps (hP : Closed P) {a0 a1 s0} (hs0 : P s0) : P (leReceive a0 a1 s0) := by
  delta leReceive
  extract_lets x0
  split
  · exact hs0
  · split
    · exact (scanReceive_keeps hP hs0)
    · exact (advReceive_keeps hP hs0)
    · exact (connReceive_keeps hP hs0)
    · exact hs0

theorem execAcceptFrame_keeps (hP : Closed P) {a0 a1 a2 s0} (hs0 : P s0) : OutAll P (execAcceptFrame a0 a1 a2 s0) := by
  have hR := hP.toRegClosed
  delta execAcceptFrame
  split
  · exact next_keeps hs0
  · extract_lets x0
    have h1 : P x0 := presetDue_keeps hR hs0
    clear_value x0
    refine ite_out_keeps ?_ ?_
    · refine ite_out_keeps ?_ ?_
      · exact next_keeps h1
      · exact next_keeps (acceptOml_keeps hP (popRecord_keeps hR h1))
    · refine ite_out_keeps ?_ ?_
      · exact next_keeps h1
      · exact next_keeps (leReceive_keeps hP (popRecord_keeps hR h1))

theorem connectionFields_keeps (hP : Closed P) {a0 a1 a2 a3 s0} (hs0 : P s0) : P (connectionFields a0 a1 a2 a3 s0) := by
  delta connectionFields
  extract_lets x0 x1 x2 x3 x4 x5 x6
  have h7 : P x2 := (State.setCtx_keeps hP (State.setCtx_keeps hP (State.setCtx_keeps hP hs0)))
  clear_value x2
  have h8 : P x3 := (State.setCtx_keeps hP (State.setCtx_keeps hP (State.setCtx_keeps hP h7)))
  clear_value x3
  have h9 : P x4 := (State.setCtx_keeps hP (State.setCtx_keeps hP (State.setCtx_keeps hP h8)))
  clear_value x4
  have h10 : P x5 := (State.setCtx_keeps hP (State.setCtx_keeps hP (State.setCtx_keeps hP h9)))
  clear_value x5
  have h11 : P x6 := (State.setCtx_keeps hP (State.setCtx_keeps hP (State.setCtx_keeps hP h10)))
  clear_value x6
  exact (State.setCtx_keeps hP h11)

theorem putStaged_keeps (hR : RegClosed P) {a0 s0} (hs0 : P s0) : P (putStaged a0 s0) := by
  delta putStaged
  extract_lets x0 x1
  exact (hR.upd hs0)

theorem execConnectReqReceived_keeps (hP : Closed P) {a0 s0} (hs0 : P s0) : OutAll P (execConnectReqReceived a0 s0) := by
  have hR := hP.toRegClosed
  delta execConnectReqReceived
  extract_lets x0
  have h1 : P x0 := (popRecord_keeps hR hs0)
  clear_value x0
  split
  · refine next_keeps ?_
    exact hs0
  · extract_lets x2 x3
    refine ite_out_keeps ?_ ?_
    · refine next_keeps ?_
      exact hs0
    · split
      · refine next_keeps ?_
        exact hs0
      · extract_lets x4 x5 x6 x7 x8 x9 x10 x11 x12 x13 x14 x15 x16
        have h17 : P x10 := (ite_snd_keeps h1 (leSend_keeps hR h1))
        clear_value x10
        have h18 : P x14 := (ite_keeps (leDeliver_keeps hP h17) (rxqRefuse_keeps hP h17))
        clear_value x14
        have h19 : P x15 := (connectionFields_keeps hP (endEntry_keeps hP h18))
        clear_value x15
        have h20 : P x16 := (connectionOpen_keeps hP h19)
        clear_value x16
        refine ite_out_keeps ?_ ?_
        · refine next_keeps ?_
          exact h1
        · refine ite_out_keeps ?_ ?_
          · refine next_keeps ?_
            exact (traceWrite_keeps hP (State.inc_keeps hR h1))
          · refine ite_out_keeps ?_ ?_
            · refine next_keeps ?_
              exact (traceWrite_keeps hP h1)
            · refine ite_out_keeps ?_ ?_
              · refine next_keeps ?_
                exact h1
              · refine ite_out_keeps ?_ ?_
                · refine next_keeps ?_
                  exact (refuseAct_keeps hP (ite_snd_keeps h1 (leSend_keeps hR h1)))
                · refine next_keeps ?_
                  exact (connectionArm_keeps hP (putStaged_keeps hR h20))

theorem leResult_keeps (hR : RegClosed P) {a0 s0} (hs0 : P s0) : P (leResult a0 s0) := by
  delta leResult; exact (State.put_keeps hR hs0)

theorem execLePush_keeps (hR : RegClosed P) {a0 s0} (hs0 : P s0) : OutAll P (execLePush a0 s0) := by
  delta execLePush
  extract_lets x0 x1 x2 x3
  refine ite_out_keeps ?_ ?_
  · refine next_keeps ?_
    exact (leResult_keeps hR hs0)
  · refine ite_out_keeps ?_ ?_
    · refine next_keeps ?_
      exact (leResult_keeps hR hs0)
    · refine next_keeps ?_
      exact (leResult_keeps hR (setLeLink_keeps hR hs0))

theorem leStage_keeps (hR : RegClosed P) {a0 a1 a2 s0} (hs0 : P s0) : P (leStage a0 a1 a2 s0) := by
  delta leStage
  extract_lets x0
  exact (ite_keeps (leResult_keeps hR hs0) (leResult_keeps hR (putStaged_keeps hR hs0)))

theorem execLeStageConnUpdate_keeps (hR : RegClosed P) {a0 s0} (hs0 : P s0) : OutAll P (execLeStageConnUpdate a0 s0) := by
  delta execLeStageConnUpdate
  refine next_keeps ?_
  exact (leStage_keeps hR hs0)

theorem execLeStageChmap_keeps (hR : RegClosed P) {a0 s0} (hs0 : P s0) : OutAll P (execLeStageChmap a0 s0) := by
  delta execLeStageChmap
  refine next_keeps ?_
  exact (leStage_keeps hR hs0)

theorem execLeStagePhy_keeps (hR : RegClosed P) {a0 s0} (hs0 : P s0) : OutAll P (execLeStagePhy a0 s0) := by
  delta execLeStagePhy
  refine next_keeps ?_
  exact (leStage_keeps hR hs0)

theorem execRxWindowClose_keeps (hP : Closed P) {a0 s0} (hs0 : P s0) : OutAll P (execRxWindowClose a0 s0) := by
  have hR := hP.toRegClosed
  delta execRxWindowClose
  split
  · exact next_keeps hs0
  · refine ite_out_keeps ?_ ?_
    · exact next_keeps (auxReturn_keeps hR (traceWrite_keeps hP (State.inc_keeps hR hs0)))
    · refine ite_out_keeps ?_ ?_
      · exact next_keeps hs0
      · extract_lets x0
        have h1 : P x0 := State.ctxCount_keeps hP (State.ramCount_keeps hP hs0)
        clear_value x0
        refine ite_out_keeps ?_ ?_
        · exact next_keeps (finishAct_keeps hP (traceWrite_keeps hP h1))
        · exact next_keeps (endAct_keeps hP h1)

end Sys2Proof.Machine
end

