-- ==== Sys2Proof/Laws/Keeps5.lean ====
section
/-!
SUPPORT. What the operations of LinkCtx, Domains, Fabric, Reset, Guard, Journal, Power, Boot keep:
one lemma for each, under the hypothesis that Sys2Proof/Laws/Closed.lean names.
-/

namespace Sys2Proof.Machine

variable {P : State → Prop}

/-! ### LinkCtx -/

theorem ctxResult_keeps (hR : RegClosed P) {a0 s0} (hs0 : P s0) : P (ctxResult a0 s0) := by
  delta ctxResult; exact (State.put_keeps hR hs0)

theorem execCtxOpen_keeps (hP : Closed P) {a0 s0} (hs0 : P s0) : OutAll P (execCtxOpen a0 s0) := by
  have hR := hP.toRegClosed
  delta execCtxOpen
  extract_lets x0 x1 x2 x3 x4
  have h5 : P x2 := (ctxResult_keeps hR (State.setCtx_keeps hP hs0))
  clear_value x2
  have h6 : P x3 := (State.setCtx_keeps hP (State.setCtx_keeps hP (State.setCtx_keeps hP h5)))
  clear_value x3
  have h7 : P x4 := (State.setCtx_keeps hP (State.setCtx_keeps hP (State.setCtx_keeps hP h6)))
  clear_value x4
  refine ite_out_keeps ?_ ?_
  · refine next_keeps ?_
    exact (ctxResult_keeps hR hs0)
  · refine ite_out_keeps ?_ ?_
    · refine next_keeps ?_
      exact h5
    · refine next_keeps ?_
      exact (State.setCtx_keeps hP (State.setCtx_keeps hP h7))

theorem closeEntries_keeps (hP : Closed P) {a0 s0} (hs0 : P s0) : P (closeEntries a0 s0) := by
  delta closeEntries
  exact State.forEach_keeps (fun h2 => by
    split
    · exact ite_keeps (refuseAct_keeps hP h2) h2
    · exact h2) hs0

theorem execCtxClose_keeps (hP : Closed P) {a0 s0} (hs0 : P s0) : OutAll P (execCtxClose a0 s0) := by
  have hR := hP.toRegClosed
  delta execCtxClose
  extract_lets x0 x1 x2 x3 x4 x5 x6
  have h7 : P x1 := State.forEach_keeps (fun h10 => refuseAct_keeps hP h10) hs0
  clear_value x1
  have h11 : P x2 := closeEntries_keeps hP h7
  clear_value x2
  have h12 : P x3 := State.forEach_keeps (fun h15 => endAct_keeps hP h15) h11
  clear_value x3
  have h16 : P x4 := linkEnd_keeps hP h12
  clear_value x4
  have h17 : P x6 := ite_keeps h16 (setDacks_keeps hP h16)
  clear_value x6
  exact next_keeps (ctxResult_keeps hR (State.setCtx_keeps hP h17))

theorem ctxRekey_keeps (hP : Closed P) {a0 a1 s0} (hs0 : P s0) : P (ctxRekey a0 a1 s0) := by
  have hR := hP.toRegClosed
  delta ctxRekey
  extract_lets x0 x1 x2
  have h3 : P x0 := (State.setCtx_keeps hP hs0)
  clear_value x0
  have h4 : P x2 := (hR.upd h3)
  clear_value x2
  exact (ite_keeps h4 (State.setCtx_keeps hP (State.setCtx_keeps hP h4)))

theorem execCtxRekey_keeps (hP : Closed P) {a0 s0} (hs0 : P s0) : OutAll P (execCtxRekey a0 s0) := by
  have hR := hP.toRegClosed
  delta execCtxRekey
  refine next_keeps ?_
  exact (ctxResult_keeps hR (ctxRekey_keeps hP hs0))

theorem execCtxSetpwr_keeps (hP : Closed P) {a0 s0} (hs0 : P s0) : OutAll P (execCtxSetpwr a0 s0) := by
  have hR := hP.toRegClosed
  delta execCtxSetpwr
  extract_lets x0 x1 x2
  have h3 : P x2 := (State.setCtx_keeps hP hs0)
  clear_value x2
  refine next_keeps ?_
  exact (ctxResult_keeps hR (ite_keeps (tableDrop_keeps hP h3) h3))

theorem execCtxSetmap_keeps (hR : RegClosed P) {a0 s0} (hs0 : P s0) : OutAll P (execCtxSetmap a0 s0) := by
  delta execCtxSetmap
  extract_lets x0 x1 x2 x3
  refine ite_out_keeps ?_ ?_
  · refine next_keeps ?_
    exact (ctxResult_keeps hR hs0)
  · refine next_keeps ?_
    exact (ctxResult_keeps hR (putStaged_keeps hR hs0))

theorem execCtxConnect_keeps (hP : Closed P) {a0 s0} (hs0 : P s0) : OutAll P (execCtxConnect a0 s0) := by
  have hR := hP.toRegClosed
  delta execCtxConnect
  extract_lets x0
  refine ite_out_keeps ?_ ?_
  · refine next_keeps ?_
    exact (ctxResult_keeps hR hs0)
  · refine ite_out_keeps ?_ ?_
    · refine ite_out_keeps ?_ ?_
      · refine next_keeps ?_
        exact (ctxResult_keeps hR hs0)
      · refine next_keeps ?_
        exact (ctxResult_keeps hR (renewSup_keeps hP (setConn_keeps hP (dropLeLink_keeps hR hs0))))
    · refine ite_out_keeps ?_ ?_
      · refine next_keeps ?_
        exact (ctxResult_keeps hR hs0)
      · refine next_keeps ?_
        exact (ctxResult_keeps hR (renewSup_keeps hP (setConn_keeps hP hs0)))

theorem execCtxDisconnect_keeps (hP : Closed P) {a0 s0} (hs0 : P s0) : OutAll P (execCtxDisconnect a0 s0) := by
  have hR := hP.toRegClosed
  delta execCtxDisconnect
  refine next_keeps ?_
  exact (ctxResult_keeps hR (linkEnd_keeps hP hs0))

theorem ctxWrite_keeps (hP : Closed P) {a0 a1 a2 a3 s0} (hs0 : P s0) : P (ctxWrite a0 a1 a2 a3 s0) := by
  have hR := hP.toRegClosed
  delta ctxWrite
  extract_lets x0 x1 x2
  have h3 : P x1 := (State.setNum_keeps hP hs0)
  clear_value x1
  exact (ite_keeps (State.flag_keeps hR hs0) (ite_keeps h3 (hR.upd h3)))

theorem execCtxMemoryWrite_keeps (hP : Closed P) {a0 a1 a2 a3 s0} (hs0 : P s0) :
    OutAll P (execCtxMemoryWrite a0 a1 a2 a3 s0) := by
  delta execCtxMemoryWrite
  extract_lets x0
  refine next_keeps ?_
  exact (ctxWrite_keeps hP hs0)

theorem linkRamWrite_keeps (hP : Closed P) {a0 a1 a2 s0} (hs0 : P s0) : P (linkRamWrite a0 a1 a2 s0) := by
  have hR := hP.toRegClosed
  delta linkRamWrite
  extract_lets x0 x1 x2
  have h3 : P x2 := (State.setTl_keeps hP (State.setNum_keeps hP hs0))
  clear_value x2
  exact (ite_keeps (ctxWrite_keeps hP hs0) (ite_keeps (ite_keeps (State.flag_keeps hR hs0) (State.put_keeps hR h3)) (State.setNum_keeps hP hs0)))

theorem cacheInvalidate_keeps (hP : Closed P) {a0 s0} (hs0 : P s0) : P (cacheInvalidate a0 s0) := by
  have hR := hP.toRegClosed
  delta cacheInvalidate
  extract_lets x0 x1
  have h2 : P x1 := (State.forEach_keeps (fun h3 => (State.setNum_keeps hP h3)) hs0)
  clear_value x1
  exact (setRpevict_keeps hR (State.put_keeps hR h2))

theorem execNetkeyWrite_keeps (hP : Closed P) {a0 a1 s0} (hs0 : P s0) : OutAll P (execNetkeyWrite a0 a1 s0) := by
  have hR := hP.toRegClosed
  delta execNetkeyWrite
  extract_lets x0 x1 x2 x3
  have h4 : P x3 := (State.put_keeps hR (State.put_keeps hR (State.put_keeps hR hs0)))
  clear_value x3
  refine ite_out_keeps ?_ ?_
  · refine next_keeps ?_
    exact hs0
  · refine next_keeps ?_
    exact (ite_keeps (cacheInvalidate_keeps hP (State.unflag_keeps hR (State.unflag_keeps hR h4))) h4)

theorem execNetctrWrite_keeps (hR : RegClosed P) {a0 a1 s0} (hs0 : P s0) : OutAll P (execNetctrWrite a0 a1 s0) := by
  delta execNetctrWrite
  extract_lets x0
  refine next_keeps ?_
  exact (ite_keeps hs0 (State.flag_keeps hR (State.put_keeps hR hs0)))

/-! ### Domains -/

theorem domsPut_keeps (hR : RegClosed P) {a0 a1 s0} (hs0 : P s0) : P (domsPut a0 a1 s0) := by
  delta domsPut; exact (State.wr_keeps hR hs0)

theorem flashcReset_keeps (hR : RegClosed P) {s0} (hs0 : P s0) : P (flashcReset s0) := by
  delta flashcReset
  extract_lets x0 x1 x2
  have h3 : P x0 := (State.resetRegs_keeps hR hs0)
  clear_value x0
  exact (hR.upd h3)

theorem flashcLoading_keeps (hR : RegClosed P) {s0} (hs0 : P s0) : P (flashcLoading s0) := by
  delta flashcLoading; exact (State.put_keeps hR (State.put_keeps hR hs0))

theorem slotStoreClear_keeps (hR : RegClosed P) {s0} (hs0 : P s0) : P (slotStoreClear s0) := by
  delta slotStoreClear; exact (State.resetRegs_keeps hR hs0)

theorem jobRamClear_keeps (hP : Closed P) {s0} (hs0 : P s0) : P (jobRamClear s0) := by
  delta jobRamClear; exact (operandsClear_keeps hP (wipe_keeps hP hs0))

theorem cipherReset_keeps (hP : Closed P) {a0 s0} (hs0 : P s0) : P (cipherReset a0 s0) := by
  have hR := hP.toRegClosed
  delta cipherReset
  extract_lets x0 x1 x2
  have h3 : P x0 := (State.resetRegs_keeps hR hs0)
  clear_value x0
  have h4 : P x1 := (jobRamClear_keeps hP h3)
  clear_value x1
  exact (hR.upd h4)

theorem ringReset_keeps (hR : RegClosed P) {s0} (hs0 : P s0) : P (ringReset s0) := by
  delta ringReset
  extract_lets x0
  have h1 : P x0 := (State.resetRegs_keeps hR hs0)
  clear_value x0
  exact (hR.upd h1)

theorem keyStoreReload_keeps (hR : RegClosed P) {s0} (hs0 : P s0) : P (keyStoreReload s0) := by
  delta keyStoreReload
  extract_lets x0 x1 x2 x3 x4 x5
  have h6 : P x3 := (State.resetRegs_keeps hR hs0)
  clear_value x3
  have h7 : P x4 := (State.put_keeps hR (State.put_keeps hR (State.put_keeps hR h6)))
  clear_value x4
  have h8 : P x5 := (hR.upd h7)
  clear_value x5
  exact (loadRoot_keeps hR (State.put_keeps hR h8))

theorem linkDomainLost_keeps (hP : Closed P) {s0} (hs0 : P s0) : P (linkDomainLost s0) := by
  have hR := hP.toRegClosed
  delta linkDomainLost
  extract_lets x0 x1 x2
  have h3 : P x0 := (State.resetRegs_keeps hR hs0)
  clear_value x0
  have h4 : P x1 := (State.put_keeps hR h3)
  clear_value x1
  have h5 : P x2 := (wipe_keeps hP (hR.upd h4))
  clear_value x2
  exact (ringReset_keeps hR (keyStoreReload_keeps hR (cipherReset_keeps hP (slotStoreClear_keeps hR h5))))

theorem periphDomainLost_keeps (hP : Closed P) {s0} (hs0 : P s0) : P (periphDomainLost s0) := by
  have hR := hP.toRegClosed
  delta periphDomainLost
  extract_lets x0 x1 x2 x3 x4 x5 x6 x7 x8
  have h9 : P x3 := (State.resetRegs_keeps hR hs0)
  clear_value x3
  have h10 : P x4 := (State.put_keeps hR (State.put_keeps hR h9))
  clear_value x4
  have h11 : P x5 := (State.put_keeps hR (State.put_keeps hR (State.put_keeps hR h10)))
  clear_value x5
  have h12 : P x6 := (State.put_keeps hR (State.put_keeps hR h11))
  clear_value x6
  have h13 : P x7 := (wipe_keeps hP h12)
  clear_value x7
  exact (hR.upd h13)

theorem domLost_keeps (hP : Closed P) {a0 s0} (hs0 : P s0) : P (domLost a0 s0) := by
  have hR := hP.toRegClosed
  delta domLost
  split
  · exact (flashcReset_keeps hR hs0)
  · exact (linkDomainLost_keeps hP hs0)
  · exact (periphDomainLost_keeps hP hs0)
  · exact hs0

theorem domUp_keeps (hP : Closed P) {a0 a1 s0} (hs0 : P s0) : P (domUp a0 a1 s0) := by
  have hR := hP.toRegClosed
  delta domUp
  split
  · exact (ite_keeps hs0 (sramClear_keeps hP hs0))
  · exact (ite_keeps hs0 (sramClear_keeps hP hs0))
  · exact (ite_keeps hs0 (sramClear_keeps hP hs0))
  · exact (ite_keeps hs0 (flashcLoading_keeps hR hs0))
  · exact (laneDomainUp_keeps hR hs0)
  · exact (laneDomainUp_keeps hR hs0)
  · exact (refreshRing_keeps hR (ite_keeps hs0 (setRpevict_keeps hR hs0)))
  · exact hs0

theorem laneDomainDown_keeps (hR : RegClosed P) {a0 s0} (hs0 : P s0) : P (laneDomainDown a0 s0) := by
  delta laneDomainDown
  refine ite_keeps ?_ ?_
  · exact hs0
  · extract_lets x0 x1 x2
    have h3 : P x0 := laneLeaveRx_keeps hR (ite_keeps (stepEndTx_keeps hR hs0) (laneYield_keeps hR hs0))
    clear_value x0
    have h4 : P x1 := laneUnlock_keeps hR (State.setLaneSt_keeps hR h3)
    clear_value x1
    exact State.setLane_keeps hR h4

theorem domLeaves_keeps (hP : Closed P) {a0 s0} (hs0 : P s0) : P (domLeaves a0 s0) := by
  have hR := hP.toRegClosed
  delta domLeaves
  split
  · exact rakeAbandon_keeps hR (mergeDrainAll_keeps hP hs0)
  · exact rakeAbandon_keeps hR (mergeDrainAll_keeps hP hs0)
  · exact rakeAbandon_keeps hR (mergeDrainAll_keeps hP hs0)
  · exact laneDomainDown_keeps hR hs0
  · exact laneDomainDown_keeps hR hs0
  · exact State.put_keeps hR (bypassClose_keeps hR hs0)
  · exact hs0

theorem domShift_keeps (hP : Closed P) {f0 s0} (hf0 : ∀ {y0}, P y0 → P (f0 y0)) (hs0 : P s0) : P (domShift f0 s0) := by
  delta domShift
  extract_lets x0 x1 x2
  have h3 : P x0 := (hf0 hs0)
  clear_value x0
  have h4 : P x1 := (State.forEach_keeps (fun h5 => (domLeaves_keeps hP h5)) hs0)
  clear_value x1
  have h6 : P x2 := (State.forEach_keeps (fun h7 => (domLost_keeps hP h7)) h4)
  clear_value x2
  exact (State.forEach_keeps (fun h8 => (domUp_keeps hP h8)) (hf0 h6))

theorem execDomctlWrite_keeps (hP : Closed P) {a0 s0} (hs0 : P s0) : OutAll P (execDomctlWrite a0 s0) := by
  have hR := hP.toRegClosed
  delta execDomctlWrite
  extract_lets x0 x1
  refine ite_out_keeps ?_ ?_
  · refine next_keeps ?_
    refine domShift_keeps hP ?_ hs0
    intro y4 h5
    extract_lets x6 x7
    have h8 : P x6 := (State.wr_keeps hR h5)
    clear_value x6
    exact (domsPut_keeps hR h8)
  · refine next_keeps ?_
    exact (State.wr_keeps hR hs0)

/-! ### Fabric -/

theorem State.setSluice_keeps (hR : RegClosed P) {a0 a1 s0} (hs0 : P s0) : P (State.setSluice a0 a1 s0) := by
  delta State.setSluice; exact (hR.upd hs0)

theorem setSluiceBusy_keeps (hR : RegClosed P) {a0 a1 s0} (hs0 : P s0) : P (setSluiceBusy a0 a1 s0) := by
  delta setSluiceBusy
  extract_lets x0
  exact (ite_keeps hs0 (State.put_keeps hR (State.putBit_keeps hR hs0)))

theorem governorTrip_keeps (hR : RegClosed P) {a0 s0} (hs0 : P s0) : P (governorTrip a0 s0) := by
  delta governorTrip
  extract_lets x0 x1 x2 x3 x4
  have h5 : P x1 := (State.setSluice_keeps hR hs0)
  clear_value x1
  have h6 : P x2 := (State.put_keeps hR (State.putBit_keeps hR h5))
  clear_value x2
  have h7 : P x3 := (State.put_keeps hR (State.inc_keeps hR h6))
  clear_value x3
  have h8 : P x4 := (ite_keeps (setSluiceBusy_keeps hR h7) h7)
  clear_value x4
  exact (State.fire_keeps hR h8)

theorem governorRelease_keeps (hR : RegClosed P) {a0 s0} (hs0 : P s0) : P (governorRelease a0 s0) := by
  delta governorRelease
  extract_lets x0 x1
  have h2 : P x1 := (State.setSluice_keeps hR hs0)
  clear_value x1
  exact (ite_keeps (State.put_keeps hR (State.putBit_keeps hR h2)) hs0)

theorem startFiring_keeps (hR : RegClosed P) {a0 s0} (hs0 : P s0) : P (startFiring a0 s0) := by
  delta startFiring
  extract_lets x0 x1
  have h2 : P x1 := (State.setSluice_keeps hR hs0)
  clear_value x1
  exact (ite_keeps (governorTrip_keeps hR hs0) (setSluiceBusy_keeps hR (State.inc_keeps hR h2)))

theorem inputEdge_keeps (hR : RegClosed P) {a0 s0} (hs0 : P s0) : P (inputEdge a0 s0) := by
  delta inputEdge
  extract_lets x0
  refine ite_keeps ?_ ?_
  · exact (State.inc_keeps hR hs0)
  · split
    · exact (startFiring_keeps hR hs0)
    · exact (State.forEach_keeps (fun h1 => (State.inc_keeps hR h1)) (State.inc_keeps hR hs0))
    · exact (ite_keeps (State.inc_keeps hR hs0) (State.setSluice_keeps hR hs0))

theorem edgeArrive_keeps (hR : RegClosed P) {a0 s0} (hs0 : P s0) : P (edgeArrive a0 s0) := by
  delta edgeArrive
  refine ite_keeps ?_ ?_
  · exact hs0
  · split
    · exact (State.forEach_keeps (fun h0 => (inputEdge_keeps hR h0)) hs0)
    · exact (inputEdge_keeps hR hs0)

theorem coreWaits_keeps (hR : RegClosed P) {a0 s0} (hs0 : P s0) : P (coreWaits a0 s0) := by
  delta coreWaits; exact (hR.upd hs0)

theorem execSluiceInputEdge_keeps (hR : RegClosed P) {a0 s0} (hs0 : P s0) : OutAll P (execSluiceInputEdge a0 s0) := by
  delta execSluiceInputEdge
  split
  · refine next_keeps ?_
    exact (ite_keeps hs0 (edgeArrive_keeps hR hs0))
  · refine next_keeps ?_
    exact (ite_keeps hs0 (edgeArrive_keeps hR (coreWaits_keeps hR hs0)))
  · split
    · refine next_keeps ?_
      exact hs0
    · refine next_keeps ?_
      exact (edgeArrive_keeps hR (hR.upd hs0))

theorem taskDrop_keeps (hR : RegClosed P) {a0 a1 s0} (hs0 : P s0) : P (taskDrop a0 a1 s0) := by
  delta taskDrop
  extract_lets x0
  have h1 : P x0 := (ite_keeps (State.putBit_keeps hR hs0) (State.putBit_keeps hR hs0))
  clear_value x0
  exact (State.fire_keeps hR (State.put_keeps hR (State.put_keeps hR h1)))

theorem dozeEnd_keeps (hR : RegClosed P) {s0} (hs0 : P s0) : P (dozeEnd s0) := by
  delta dozeEnd; exact (ite_keeps (State.put_keeps hR (State.put_keeps hR (hR.upd hs0))) hs0)

theorem coreIrq_keeps (hR : RegClosed P) {a0 a1 s0} (hs0 : P s0) : P (coreIrq a0 a1 s0) := by
  delta coreIrq
  extract_lets x0 x1
  have h2 : P x0 := (dozeEnd_keeps hR hs0)
  clear_value x0
  exact (hR.upd h2)

theorem taskStart_keeps (hR : RegClosed P) {a0 s0} (hs0 : P s0) : P (taskStart a0 s0) := by
  delta taskStart
  extract_lets x0 x1
  have h2 : P x1 := (hR.upd hs0)
  clear_value x1
  exact (State.forEach_keeps (fun h => (taskDrop_keeps hR h)) h2)

theorem taskArrive_keeps (hR : RegClosed P) {a0 a1 s0} (hs0 : P s0) : P (taskArrive a0 a1 s0) := by
  delta taskArrive
  refine ite_keeps ?_ ?_
  · exact (taskDrop_keeps hR hs0)
  · split
    · exact (ite_keeps (taskDrop_keeps hR hs0) (coreIrq_keeps hR hs0))
    · exact (ite_keeps (taskDrop_keeps hR hs0) (taskStart_keeps hR hs0))

theorem ringCollect_keeps (hR : RegClosed P) {a0 s0} (hs0 : P s0) : P (ringCollect a0 s0) := by
  delta ringCollect
  exact (State.forEach_keeps (fun h0 => (ite_keeps (ite_keeps (State.inc_keeps hR h0) (hR.upd h0)) h0)) hs0)

theorem execFiringBoundary_keeps (hR : RegClosed P) {a0 s0} (hs0 : P s0) : OutAll P (execFiringBoundary a0 s0) := by
  delta execFiringBoundary
  extract_lets x0 x1 x2 x3 x4 x5
  have h6 : P x2 := ite_keeps (State.putBit_keeps hR hs0) hs0
  clear_value x2
  have h7 : P x3 := ringCollect_keeps hR h6
  clear_value x3
  have h8 : P x4 := State.forEach_keeps (fun h11 => taskArrive_keeps hR h11) h7
  clear_value x4
  refine ite_out_keeps ?_ ?_
  · exact next_keeps hs0
  · clear_value x1
    split
    · refine ite_out_keeps ?_ ?_
      · exact next_keeps (setSluiceBusy_keeps hR (State.setSluice_keeps hR h8))
      · exact next_keeps (State.setSluice_keeps hR h8)
    · exact next_keeps hs0

theorem execFiringEnd_keeps (hR : RegClosed P) {a0 s0} (hs0 : P s0) : OutAll P (execFiringEnd a0 s0) := by
  delta execFiringEnd
  extract_lets x0 x1 x2
  have h3 : P x2 := State.setSluice_keeps hR hs0
  clear_value x2
  refine ite_out_keeps ?_ ?_
  · exact next_keeps hs0
  · clear_value x1
    split
    · exact next_keeps (ite_keeps (startFiring_keeps hR h3) (setSluiceBusy_keeps hR h3))
    · exact next_keeps hs0

theorem softwareFire_keeps (hR : RegClosed P) {a0 s0} (hs0 : P s0) : P (softwareFire a0 s0) := by
  delta softwareFire
  exact (ite_keeps (State.flag_keeps hR hs0) (ite_keeps (State.inc_keeps hR (State.flag_keeps hR hs0)) (State.fireSluice_keeps hR hs0)))

theorem execFabricFireWrite_keeps (hR : RegClosed P) {a0 a1 s0} (hs0 : P s0) :
    OutAll P (execFabricFireWrite a0 a1 s0) := by
  delta execFabricFireWrite
  refine next_keeps ?_
  exact (State.forEach_keeps (fun h0 => (softwareFire_keeps hR h0)) hs0)

theorem execFabricQuarRelease_keeps (hR : RegClosed P) {a0 a1 s0} (hs0 : P s0) :
    OutAll P (execFabricQuarRelease a0 a1 s0) := by
  delta execFabricQuarRelease
  refine next_keeps ?_
  exact (State.forEach_keeps (fun h0 => (governorRelease_keeps hR h0)) hs0)

theorem execFabricReleaseall_keeps (hR : RegClosed P) {s0} (hs0 : P s0) : OutAll P (execFabricReleaseall s0) := by
  delta execFabricReleaseall
  refine next_keeps ?_
  exact (State.forEach_keeps (fun h0 => (governorRelease_keeps hR h0)) (State.takeTask_keeps hR hs0))

/-! ### Reset -/

theorem execResetnPin_keeps (hR : RegClosed P) {s0} (hs0 : P s0) : OutAll P (execResetnPin s0) := by
  delta execResetnPin
  refine next_keeps ?_
  exact (resetRequest_keeps hR hs0)

theorem execDebugResetRequest_keeps (hR : RegClosed P) {s0} (hs0 : P s0) : OutAll P (execDebugResetRequest s0) := by
  delta execDebugResetRequest
  refine next_keeps ?_
  exact (ite_keeps (resetRequest_keeps hR hs0) hs0)

theorem execRstreqWarm_keeps (hR : RegClosed P) {s0} (hs0 : P s0) : OutAll P (execRstreqWarm s0) := by
  delta execRstreqWarm
  refine next_keeps ?_
  exact (resetRequest_keeps hR hs0)

theorem clrfsNote_keeps (hR : RegClosed P) {a0 s0} (hs0 : P s0) : P (clrfsNote a0 s0) := by
  delta clrfsNote; exact (hR.upd hs0)

theorem execRstreqSystem_keeps (hR : RegClosed P) {a0 s0} (hs0 : P s0) : OutAll P (execRstreqSystem a0 s0) := by
  delta execRstreqSystem
  refine next_keeps ?_
  exact (clrfsNote_keeps hR (resetRequest_keeps hR hs0))

theorem execRstreqFull_keeps (hR : RegClosed P) {a0 s0} (hs0 : P s0) : OutAll P (execRstreqFull a0 s0) := by
  delta execRstreqFull
  refine next_keeps ?_
  exact (clrfsNote_keeps hR (resetRequest_keeps hR hs0))

theorem execLockstepMismatch_keeps (hR : RegClosed P) {s0} (hs0 : P s0) : OutAll P (execLockstepMismatch s0) := by
  delta execLockstepMismatch
  refine ite_out_keeps ?_ ?_
  · refine next_keeps ?_
    exact hs0
  · refine next_keeps ?_
    exact (lifeCode_keeps hR (lifeCount_keeps hR (resetRequest_keeps hR hs0)))

theorem cwdtRestart_keeps (hR : RegClosed P) {s0} (hs0 : P s0) : P (cwdtRestart s0) := by
  delta cwdtRestart
  exact hR.upd hs0

theorem execCwdtKick_keeps (hR : RegClosed P) {a0 s0} (hs0 : P s0) : OutAll P (execCwdtKick a0 s0) := by
  delta execCwdtKick
  exact next_keeps (ite_keeps (cwdtRestart_keeps hR hs0) hs0)

theorem execCwdtExpiry_keeps (hR : RegClosed P) {s0} (hs0 : P s0) : OutAll P (execCwdtExpiry s0) := by
  delta execCwdtExpiry
  refine next_keeps ?_
  exact (ite_keeps (resetRequest_keeps hR hs0) hs0)

theorem execLwdtKick_keeps (hR : RegClosed P) {a0 s0} (hs0 : P s0) : OutAll P (execLwdtKick a0 s0) := by
  delta execLwdtKick
  refine next_keeps ?_
  exact (ite_keeps (State.put_keeps hR hs0) hs0)

theorem execLwdtExpiry_keeps (hR : RegClosed P) {s0} (hs0 : P s0) : OutAll P (execLwdtExpiry s0) := by
  delta execLwdtExpiry
  refine ite_out_keeps ?_ ?_
  · exact next_keeps hs0
  · extract_lets x0
    have h1 : P x0 := resetRequest_keeps hR (State.inc_keeps hR hs0)
    clear_value x0
    exact next_keeps (lifeCode_keeps hR (lifeCount_keeps hR h1))

theorem keysExpire_keeps (hR : RegClosed P) {s0} (hs0 : P s0) : P (keysExpire s0) := by
  delta keysExpire; exact (markDead_keeps hR hs0)

theorem semRelease_keeps (hR : RegClosed P) {a0 s0} (hs0 : P s0) : P (semRelease a0 s0) := by
  delta semRelease
  extract_lets x0
  exact (ite_keeps (State.unflag_keeps hR (State.put_keeps hR hs0)) hs0)

theorem pdataDiscard_keeps (hR : RegClosed P) {a0 s0} (hs0 : P s0) : P (pdataDiscard a0 s0) := by
  delta pdataDiscard
  extract_lets x0 x1
  have h2 : P x0 := (State.resetRegs_keeps hR hs0)
  clear_value x0
  exact (ite_keeps (State.put_keeps hR (State.setBank_keeps hR h2)) hs0)

theorem coresStart_keeps (hR : RegClosed P) {a0 a1 s0} (hs0 : P s0) : P (coresStart a0 a1 s0) := by
  delta coresStart
  extract_lets x0 x1 x2
  have h3 : P x1 := cachesClear_keeps hR (hR.upd hs0)
  clear_value x1
  have h4 : P x2 := coreStart_keeps hR h3
  clear_value x2
  exact ite_keeps h3 (ite_keeps (coreStart_keeps hR h4) h4)

theorem warmRestart_keeps (hP : Closed P) {s0} (hs0 : P s0) : P (warmRestart s0) := by
  have hR := hP.toRegClosed
  delta warmRestart
  extract_lets x0 x1 x2 x3 x4 x5 x6 x7 x8 x9 x10 x11 x12 x13 x14
  have h15 : P x2 := (State.forEach_keeps (fun h16 => (ite_keeps (mergeDrainAll_keeps hP h16) h16)) hs0)
  clear_value x2
  have h17 : P x3 := (State.inc_keeps hR (State.put_keeps hR h15))
  clear_value x3
  have h18 : P x4 := (ite_keeps (State.inc_keeps hR h17) h17)
  clear_value x4
  have h19 : P x5 := (State.unflag_keeps hR (State.unflag_keeps hR h18))
  clear_value x5
  have h20 : P x6 := (State.putBit_keeps hR (State.put_keeps hR h19))
  clear_value x6
  have h21 : P x7 := (State.forEach_keeps (fun h22 => (semRelease_keeps hR h22)) h20)
  clear_value x7
  have h23 : P x8 := (flushQueue_keeps hP (flushQueue_keeps hP (keySetsZero_keeps hR h21)))
  clear_value x8
  have h24 : P x10 := (ite_keeps (pkeRelease_keeps hP h23) h23)
  clear_value x10
  have h25 : P x11 := (lifeCount_keeps hR (pdataDiscard_keeps hR (pdataDiscard_keeps hR (keysExpire_keeps hR h24))))
  clear_value x11
  have h26 : P x13 := (hR.upd h25)
  clear_value x13
  have h27 : P x14 := (State.wr_keeps hR h26)
  clear_value x14
  exact (coresStart_keeps hR h27)

theorem execWarmRestart_keeps (hP : Closed P) {s0} (hs0 : P s0) : OutAll P (execWarmRestart s0) := by
  delta execWarmRestart
  refine next_keeps ?_
  exact (ite_keeps (warmRestart_keeps hP hs0) hs0)

theorem firingComplete_keeps (hR : RegClosed P) {a0 a1 s0} (hs0 : P s0) : P (firingComplete a0 a1 s0) := by
  delta firingComplete
  extract_lets x0
  have h1 : P x0 := (ite_keeps (State.putBit_keeps hR hs0) hs0)
  clear_value x0
  exact (ite_keeps (State.forEach_keeps (fun h2 => (ite_keeps (hR.upd h2) (taskDrop_keeps hR h2))) (State.inc_keeps hR h1)) hs0)

theorem linkReset_keeps (hP : Closed P) {s0} (hs0 : P s0) : P (linkReset s0) := by
  have hR := hP.toRegClosed
  delta linkReset
  extract_lets x0 x1
  have h2 : P x0 := (State.forEach_keeps (fun h3 => (setTlValid_keeps hP h3)) hs0)
  clear_value x0
  have h4 : P x1 := (wipe_keeps hP h2)
  clear_value x1
  exact (hR.upd h4)

theorem airCount_keeps (hR : RegClosed P) {a0 s0} (hs0 : P s0) : P (airCount a0 s0) := by
  delta airCount
  exact (ite_keeps (lifeAir_keeps hR hs0) (ite_keeps (lifeAir_keeps hR hs0) hs0))

theorem powerReset_keeps (hP : Closed P) {s0} (hs0 : P s0) : P (powerReset s0) := by
  have hR := hP.toRegClosed
  delta powerReset
  extract_lets x0 x1 x2 x3 x4
  have h5 : P x1 := (State.put_keeps hR (State.unflag_keeps hR (State.unflag_keeps hR hs0)))
  clear_value x1
  have h6 : P x2 := (hR.upd h5)
  clear_value x2
  have h7 : P x3 := (State.unflag_keeps hR (State.unflag_keeps hR h6))
  clear_value x3
  have h8 : P x4 := (domShift_keeps hP (fun h9 => (domsPut_keeps hR h9)) h7)
  clear_value x4
  exact (ite_keeps (State.setClkSrc_keeps hR h8) h8)

theorem blocksReset_keeps (hP : Closed P) {a0 s0} (hs0 : P s0) : P (blocksReset a0 s0) := by
  have hR := hP.toRegClosed
  delta blocksReset
  extract_lets x0 x1 x2 x3 x4 x5 x6 x7 x8 x9 x10 x11 x12 x13
  have h14 : P x4 := (linkReset_keeps hP (State.forEach_keeps (fun h15 => (bucketSettle_keeps hR h15)) hs0))
  clear_value x4
  have h16 : P x5 := (flashcReset_keeps hR (cipherReset_keeps hP h14))
  clear_value x5
  have h17 : P x6 := (flashcLoading_keeps hR (State.resetRegs_keeps hR h16))
  clear_value x6
  have h18 : P x7 := (ite_keeps (hR.upd h17) (State.put_keeps hR (hR.upd h17)))
  clear_value x7
  have h19 : P x8 := (hR.noLatch h18)
  clear_value x8
  have h20 : P x9 := (hR.upd h19)
  clear_value x9
  have h21 : P x11 := (State.put_keeps hR (hR.upd h20))
  clear_value x11
  have h22 : P x12 := (State.forEach_keeps (fun h23 => (ite_keeps (sramClear_keeps hP h23) h23)) h21)
  clear_value x12
  have h24 : P x13 := (State.forEach_keeps (fun h25 => (State.put_keeps hR h25)) h22)
  clear_value x13
  exact (refreshRing_keeps hR (refreshRoles_keeps hR (loadRfRecord_keeps hR (setRpevict_keeps hR (State.setClkSrc_keeps hR h24)))))

theorem deviceReset_keeps (hP : Closed P) {a0 a1 s0} (hs0 : P s0) : P (deviceReset a0 a1 s0) := by
  have hR := hP.toRegClosed
  delta deviceReset
  extract_lets x0 x1 x2 x3 x4 x5 x6 x7 x8 x9 x10 x11
  have h12 : P x2 := (airCount_keeps hR (airCount_keeps hR (bypassClose_keeps hR (powerReset_keeps hP hs0))))
  clear_value x2
  have h13 : P x3 := (keysExpire_keeps hR (hR.upd h12))
  clear_value x3
  have h14 : P x4 := (blocksReset_keeps hP h13)
  clear_value x4
  have h15 : P x6 := (State.unflag_keeps hR (hR.upd h14))
  clear_value x6
  have h16 : P x7 := (State.forEach_keeps (fun h17 => (firingComplete_keeps hR h17)) h15)
  clear_value x7
  have h18 : P x8 := (State.put_keeps hR (State.unflag_keeps hR (State.unflag_keeps hR h16)))
  clear_value x8
  have h19 : P x9 := (State.wr_keeps hR h18)
  clear_value x9
  have h20 : P x10 := (lifeCount_keeps hR (State.unflag_keeps hR h19))
  clear_value x10
  have h21 : P x11 := (hR.upd h20)
  clear_value x11
  exact (ite_keeps (hR.upd h21) (coresStart_keeps hR h21))

theorem execSystemReset_keeps (hP : Closed P) {a0 s0} (hs0 : P s0) : OutAll P (execSystemReset a0 s0) := by
  delta execSystemReset
  refine next_keeps ?_
  exact (ite_keeps (deviceReset_keeps hP hs0) hs0)

theorem execFullReset_keeps (hP : Closed P) {a0 s0} (hs0 : P s0) : OutAll P (execFullReset a0 s0) := by
  delta execFullReset
  refine next_keeps ?_
  exact (ite_keeps (deviceReset_keeps hP hs0) hs0)

/-! ### Guard -/

theorem markerClear_keeps (hP : Closed P) {s0} (hs0 : P s0) : P (markerClear s0) := by
  delta markerClear
  split
  · exact (State.setBytes_keeps hP hs0)
  · exact hs0

theorem glZero_keeps (hP : Closed P) {s0} (hs0 : P s0) : P (glZero s0) := by
  have hR := hP.toRegClosed
  delta glZero
  extract_lets x0 x1 x2 x3 x4
  have h5 : P x0 := (allKeysZero_keeps hR hs0)
  clear_value x0
  have h6 : P x3 := (hR.upd h5)
  clear_value x3
  have h7 : P x4 := (State.flag_keeps hR h6)
  clear_value x4
  exact (State.forEach_keeps (fun h8 => (ite_keeps (sramClear_keeps hP h8) h8)) h7)

theorem glStore_keeps (hP : Closed P) {a0 s0} (hs0 : P s0) : P (glStore a0 s0) := by
  have hR := hP.toRegClosed
  delta glStore
  extract_lets x0 x1
  have h2 : P x0 := (infoUnit_keeps hP hs0)
  clear_value x0
  exact (State.put_keeps hR (hR.upd h2))

theorem execGlRequest_keeps (hP : Closed P) {a0 a1 s0} (hs0 : P s0) : OutAll P (execGlRequest a0 a1 s0) := by
  have hR := hP.toRegClosed
  delta execGlRequest
  extract_lets x0 x1 x2 x3
  refine ite_out_keeps ?_ ?_
  · refine next_keeps ?_
    exact hs0
  · refine ite_out_keeps ?_ ?_
    · refine next_keeps ?_
      exact (State.put_keeps hR hs0)
    · refine ite_out_keeps ?_ ?_
      · refine next_keeps ?_
        exact (glStore_keeps hP hs0)
      · split
        · refine next_keeps ?_
          exact (glZero_keeps hP (State.setBytes_keeps hP hs0))
        · refine next_keeps ?_
          exact hs0

theorem glEraseBlock_keeps (hP : Closed P) {a0 s0} (hs0 : P s0) : P (glEraseBlock a0 s0) := by
  have hR := hP.toRegClosed
  delta glEraseBlock
  extract_lets x0 x1 x2 x3
  have h4 : P x1 := (eraseStart_keeps hP (eraseCount_keeps hR hs0))
  clear_value x1
  have h5 : P x2 := (journalEnd_keeps hP (blockErase_keeps hP h4))
  clear_value x2
  exact (State.freeNext_keeps hR (bankSync_keeps hR (State.setBank_keeps hR h5)))

theorem execGl0EraseDone_keeps (hP : Closed P) {s0} (hs0 : P s0) : OutAll P (execGl0EraseDone s0) := by
  have hR := hP.toRegClosed
  delta execGl0EraseDone
  extract_lets x0 x1 x2 x3
  have h4 : P x0 := (State.forEach_keeps (fun h5 => (glEraseBlock_keeps hP h5)) hs0)
  clear_value x0
  have h6 : P x1 := (markerClear_keeps hP (glStore_keeps hP h4))
  clear_value x1
  have h7 : P x3 := (State.unflag_keeps hR (hR.upd h6))
  clear_value x3
  refine ite_out_keeps ?_ ?_
  · refine next_keeps ?_
    exact hs0
  · refine next_keeps ?_
    exact (resetRequest_keeps hR h7)

/-! ### Journal -/

theorem bootStore_keeps (hP : Closed P) {a0 a1 s0} (hs0 : P s0) : P (bootStore a0 a1 s0) := by
  induction a1 generalizing a0 s0 with
  | nil => exact hs0
  | cons u t ih => exact ih (unitStore_keeps hP hs0)

theorem bootAppend_keeps (hP : Closed P) {a0 a1 a2 a3 s0} (hs0 : P s0) : P (bootAppend a0 a1 a2 a3 s0) := by
  delta bootAppend
  extract_lets x0 x1
  exact (ite_keeps (bootStore_keeps hP hs0) (bootStore_keeps hP (glEraseBlock_keeps hP hs0)))

theorem clearAppend_keeps (hP : Closed P) {s0} (hs0 : P s0) : P (clearAppend s0) := by
  have hR := hP.toRegClosed
  delta clearAppend
  exact (bootAppend_keeps hP (State.freeNext_keeps hR hs0))

theorem goodAppend_keeps (hP : Closed P) {s0} (hs0 : P s0) : P (goodAppend s0) := by
  have hR := hP.toRegClosed
  delta goodAppend
  exact (ite_keeps (State.flag_keeps hR (bootAppend_keeps hP (hR.upd hs0))) hs0)

theorem execBootokConfirm_keeps (hP : Closed P) {s0} (hs0 : P s0) : OutAll P (execBootokConfirm s0) := by
  have hR := hP.toRegClosed
  delta execBootokConfirm
  extract_lets x0
  refine next_keeps ?_
  exact (ite_keeps (goodAppend_keeps hP (hR.upd hs0)) hs0)

/-! ### Power -/

theorem execPmuStateRequest_keeps (hR : RegClosed P) {a0 s0} (hs0 : P s0) : OutAll P (execPmuStateRequest a0 s0) := by
  delta execPmuStateRequest
  extract_lets x0 x1 x2
  have h3 : P x2 := (State.put_keeps hR (State.put_keeps hR (State.put_keeps hR hs0)))
  clear_value x2
  refine ite_out_keeps ?_ ?_
  · refine next_keeps ?_
    exact hs0
  · refine ite_out_keeps ?_ ?_
    · refine next_keeps ?_
      exact (State.put_keeps hR h3)
    · refine next_keeps ?_
      exact (State.put_keeps hR hs0)

theorem entryRefused_keeps (hR : RegClosed P) {a0 a1 s0} (hs0 : P s0) : P (entryRefused a0 a1 s0) := by
  delta entryRefused
  extract_lets x0
  have h1 : P x0 := (State.put_keeps hR (State.put_keeps hR (State.put_keeps hR hs0)))
  clear_value x0
  exact (State.fire_keeps hR (State.inc_keeps hR (State.put_keeps hR h1)))

theorem execPmuEntryStart_keeps (hP : Closed P) {a0 a1 a2 a3 s0} (hs0 : P s0) :
    OutAll P (execPmuEntryStart a0 a1 a2 a3 s0) := by
  have hR := hP.toRegClosed
  delta execPmuEntryStart
  extract_lets x0 x1 x2 x3 x4 x5
  have h6 : P x0 := (ite_keeps (State.takeTask_keeps hR hs0) hs0)
  clear_value x0
  have h7 : P x3 := (hR.upd h6)
  clear_value x3
  have h8 : P x4 := (State.forEach_keeps (fun h9 => (ite_keeps (mergeDrainAll_keeps hP h9) h9)) h6)
  clear_value x4
  refine ite_out_keeps ?_ ?_
  · refine next_keeps ?_
    exact h6
  · refine ite_out_keeps ?_ ?_
    · refine next_keeps ?_
      exact (ite_keeps (dozeEnd_keeps hR h7) h7)
    · split
      · refine next_keeps ?_
        exact (entryRefused_keeps hR h6)
      · refine next_keeps ?_
        exact (State.flag_keeps hR (hR.upd h8))

theorem wakeBegin_keeps (hR : RegClosed P) {a0 s0} (hs0 : P s0) : P (wakeBegin a0 s0) := by
  delta wakeBegin; exact (hR.upd hs0)

theorem entryAbort_keeps (hR : RegClosed P) {a0 a1 s0} (hs0 : P s0) : P (entryAbort a0 a1 s0) := by
  delta entryAbort
  extract_lets x0 x1 x2 x3
  have h4 : P x1 := (State.unflag_keeps hR (hR.upd hs0))
  have h5 : P x2 := (State.put_keeps hR (State.put_keeps hR (State.put_keeps hR h4)))
  have h6 : P x3 := (State.fire_keeps hR (State.inc_keeps hR h5))
  exact (ite_keeps h6 (wakeBegin_keeps hR h6))

theorem padLatch_keeps (hR : RegClosed P) {a0 s0} (hs0 : P s0) : P (padLatch a0 s0) := by
  delta padLatch
  split
  · exact (ite_keeps (State.putBit_keeps hR hs0) hs0)
  · exact hs0

theorem execWakeEvent_keeps (hR : RegClosed P) {a0 a1 s0} (hs0 : P s0) : OutAll P (execWakeEvent a0 a1 s0) := by
  delta execWakeEvent
  extract_lets x0 x1 x2 x3 x4
  have h5 : P x0 := by
    unfold x0
    split
    · exact (State.takeTask_keeps hR hs0)
    · exact hs0
  clear_value x0
  have h6 : P x1 := (padLatch_keeps hR h5)
  clear_value x1
  split
  · refine ite_out_keeps ?_ ?_
    · refine next_keeps ?_
      exact h6
    · refine ite_out_keeps ?_ ?_
      · refine next_keeps ?_
        exact (entryAbort_keeps hR h6)
      · refine ite_out_keeps ?_ ?_
        · refine next_keeps ?_
          exact (State.inc_keeps hR h6)
        · refine next_keeps ?_
          exact (ite_keeps h6 (hR.upd h6))
  · refine ite_out_keeps ?_ ?_
    · refine next_keeps ?_
      exact h6
    · refine ite_out_keeps ?_ ?_
      · refine next_keeps ?_
        exact (ite_keeps (dozeEnd_keeps hR h6) h6)
      · refine next_keeps ?_
        exact (ite_keeps (wakeBegin_keeps hR h6) h6)

theorem snapshotTake_keeps (hR : RegClosed P) {s0} (hs0 : P s0) : P (snapshotTake s0) := by
  delta snapshotTake
  extract_lets x0
  have h1 : P x0 := (State.forEach_keeps (fun h2 => (bucketSettle_keeps hR h2)) hs0)
  clear_value x0
  exact (hR.upd h1)

theorem railLost_keeps (hR : RegClosed P) {s0} (hs0 : P s0) : P (railLost s0) := by
  delta railLost
  extract_lets x0
  have h1 : P x0 := (State.resetRegs_keeps hR hs0)
  clear_value x0
  exact (hR.upd h1)

theorem stateRest_keeps (hP : Closed P) {a0 s0} (hs0 : P s0) : P (stateRest a0 s0) := by
  have hR := hP.toRegClosed
  delta stateRest
  extract_lets x0 x1 x2 x3 x4 x5 x6 x7 x8 x9
  have h10 : P x1 := ite_keeps (hR.upd hs0) hs0
  clear_value x1
  have h11 : P x3 := ite_keeps (snapshotTake_keeps hR h10) h10
  clear_value x3
  have h12 : P x5 := domShift_keeps hP (fun h14 => domsPut_keeps hR (hR.upd h14)) h11
  clear_value x5
  have h15 : P x6 := State.unflag_keeps hR h12
  clear_value x6
  have h16 : P x7 := ite_keeps (State.unflag_keeps hR (State.flag_keeps hR h15)) h15
  clear_value x7
  have h17 : P x9 := ite_keeps h16 (hR.upd h16)
  clear_value x9
  exact ite_keeps (railLost_keeps hR h17) h17

theorem execPmuEntryDone_keeps (hP : Closed P) {s0} (hs0 : P s0) : OutAll P (execPmuEntryDone s0) := by
  have hR := hP.toRegClosed
  delta execPmuEntryDone
  extract_lets x0 x1
  have h2 : P x1 := (State.unflag_keeps hR (hR.upd hs0))
  clear_value x1
  split
  · refine next_keeps ?_
    exact hs0
  · extract_lets x3
    have h4 : P x3 := (stateRest_keeps hP h2)
    clear_value x3
    split
    · refine next_keeps ?_
      exact (wakeBegin_keeps hR h4)
    · refine next_keeps ?_
      exact h4

theorem wakeRecord_keeps (hR : RegClosed P) {a0 s0} (hs0 : P s0) : P (wakeRecord a0 s0) := by
  delta wakeRecord
  extract_lets x0
  have h1 : P x0 := (State.put_keeps hR (State.put_keeps hR hs0))
  clear_value x0
  exact (State.fire_keeps hR (State.put_keeps hR (State.put_keeps hR h1)))

theorem wakeToRun_keeps (hP : Closed P) {s0} (hs0 : P s0) : P (wakeToRun s0) := by
  have hR := hP.toRegClosed
  delta wakeToRun
  extract_lets x0 x1
  have h2 : P x1 := hR.upd hs0
  clear_value x1
  exact domShift_keeps hP (fun h4 => by
    extract_lets x5 x6
    exact domsPut_keeps hR (hR.upd h4)) (State.unflag_keeps hR h2)

theorem resumePath_keeps (hR : RegClosed P) {s0} (hs0 : P s0) : P (resumePath s0) := by
  delta resumePath
  extract_lets x0
  exact (ite_keeps (coresStart_keeps hR (State.wr_keeps hR hs0)) (coresStart_keeps hR hs0))

theorem execWakeReadyStep_keeps (hP : Closed P) {s0} (hs0 : P s0) : OutAll P (execWakeReadyStep s0) := by
  have hR := hP.toRegClosed
  delta execWakeReadyStep
  extract_lets x0
  split
  · refine next_keeps ?_
    exact hs0
  · extract_lets x1 x2 x3 x4
    have h5 : P x2 := (wakeRecord_keeps hR (wakeToRun_keeps hP hs0))
    clear_value x2
    have h6 : P x4 := (wakeRecord_keeps hR (hR.upd hs0))
    clear_value x4
    split
    · refine ite_out_keeps ?_ ?_
      · refine next_keeps ?_
        exact (hR.upd hs0)
      · refine next_keeps ?_
        exact (hR.upd (hR.upd hs0))
    · refine next_keeps ?_
      exact (hR.upd (ite_keeps (State.setClkSrc_keeps hR hs0) hs0))
    · refine next_keeps ?_
      exact (hR.upd hs0)
    · refine ite_out_keeps ?_ ?_
      · refine next_keeps ?_
        exact (hR.upd h5)
      · refine ite_out_keeps ?_ ?_
        · refine next_keeps ?_
          exact (resumePath_keeps hR (wakeRecord_keeps hR (wakeToRun_keeps hP hs0)))
        · refine ite_out_keeps ?_ ?_
          · refine next_keeps ?_
            exact hs0
          · refine next_keeps ?_
            exact (ite_keeps (resetRequest_keeps hR h6) (resetRequest_keeps hR h6))

theorem execWakeReadyTimeout_keeps (hR : RegClosed P) {s0} (hs0 : P s0) : OutAll P (execWakeReadyTimeout s0) := by
  delta execWakeReadyTimeout
  extract_lets x0 x1 x2
  have h3 : P x0 := (State.inc_keeps hR hs0)
  clear_value x0
  split
  · refine next_keeps ?_
    exact hs0
  · extract_lets x4
    have h5 : P x4 := (hR.upd h3)
    clear_value x4
    refine ite_out_keeps ?_ ?_
    · refine next_keeps ?_
      exact (resetRequest_keeps hR h5)
    · refine next_keeps ?_
      exact (hR.upd h3)

theorem xtalRuns_keeps (hR : RegClosed P) {s0} (hs0 : P s0) : P (xtalRuns s0) := by
  delta xtalRuns
  extract_lets x0 x1 x2 x3 x4
  have h5 : P x0 := (ite_keeps (State.put_keeps hR hs0) hs0)
  clear_value x0
  have h6 : P x4 := (hR.upd h5)
  clear_value x4
  exact (State.fire_keeps hR (State.flag_keeps hR (State.unflag_keeps hR (State.setClkSrc_keeps hR h6))))

theorem execXtalReady_keeps (hR : RegClosed P) {s0} (hs0 : P s0) : OutAll P (execXtalReady s0) := by
  delta execXtalReady
  refine next_keeps ?_
  exact (ite_keeps (xtalRuns_keeps hR hs0) hs0)

theorem execXtalStartTimeout_keeps (hP : Closed P) {s0} (hs0 : P s0) : OutAll P (execXtalStartTimeout s0) := by
  have hR := hP.toRegClosed
  delta execXtalStartTimeout
  extract_lets x0
  refine next_keeps ?_
  exact (ite_keeps (xtalFail_keeps hP (State.unflag_keeps hR (hR.upd hs0))) hs0)

theorem execGateWakeRequest_keeps (hR : RegClosed P) {a0 s0} (hs0 : P s0) : OutAll P (execGateWakeRequest a0 s0) := by
  delta execGateWakeRequest
  extract_lets x0 x1
  refine next_keeps ?_
  exact (ite_keeps (hR.upd hs0) hs0)

theorem execExcursionStart_keeps (hP : Closed P) {s0} (hs0 : P s0) : OutAll P (execExcursionStart s0) := by
  have hR := hP.toRegClosed
  delta execExcursionStart
  extract_lets x0 x1 x2 x3 x4
  have h5 : P x1 := (domShift_keeps hP (fun h6 => (domsPut_keeps hR h6)) hs0)
  clear_value x1
  have h7 : P x2 := (State.setClkSrc_keeps hR h5)
  clear_value x2
  have h8 : P x4 := (ite_keeps h5 (hR.upd h7))
  clear_value x4
  refine ite_out_keeps ?_ ?_
  · refine next_keeps ?_
    exact hs0
  · refine next_keeps ?_
    exact (State.fire_keeps hR (State.flag_keeps hR h8))

theorem execExcursionEnd_keeps (hR : RegClosed P) {s0} (hs0 : P s0) : OutAll P (execExcursionEnd s0) := by
  delta execExcursionEnd
  extract_lets x0 x1
  have h2 : P x0 := (State.fire_keeps hR (State.inc_keeps hR (State.unflag_keeps hR hs0)))
  clear_value x0
  refine ite_out_keeps ?_ ?_
  · refine next_keeps ?_
    exact hs0
  · refine next_keeps ?_
    exact (State.flag_keeps hR (hR.upd h2))

theorem fabricRestore_keeps (hR : RegClosed P) {s0} (hs0 : P s0) : P (fabricRestore s0) := by
  delta fabricRestore
  refine ite_keeps ?_ ?_
  · exact hs0
  · extract_lets x0
    have h1 : P x0 := State.resetRegs_keeps hR hs0
    clear_value x0
    exact hR.upd h1

theorem tideRestore_keeps (hR : RegClosed P) {a0 s0} (hs0 : P s0) : P (tideRestore a0 s0) := by
  delta tideRestore
  extract_lets x0 x1 x2 x3 x4
  have h5 : P x3 := (hR.upd hs0)
  clear_value x3
  have h6 : P x4 := (hR.upd h5)
  clear_value x4
  exact (ite_keeps (State.flag_keeps hR (State.put_keeps hR h6)) (State.flag_keeps hR (hR.upd h5)))

theorem creditsRestore_keeps (hR : RegClosed P) {a0 a1 s0} (hs0 : P s0) : P (creditsRestore a0 a1 s0) := by
  delta creditsRestore
  exact (State.forEach_keeps (fun h0 => (ite_keeps (State.setBucket_keeps hR h0) (State.setBucket_keeps hR h0))) hs0)

theorem d1PowerUp_keeps (hR : RegClosed P) {s0} (hs0 : P s0) : P (d1PowerUp s0) := by
  delta d1PowerUp
  extract_lets x0 x1 x2 x3 x4 x5 x6 x7 x8 x9 x10 x11 x12 x13 x14
  have h15 : P x3 := State.put_keeps hR (State.wr_keeps hR (State.resetRegs_keeps hR hs0))
  clear_value x3
  have h16 : P x4 := fabricRestore_keeps hR h15
  clear_value x4
  have h17 : P x5 := domsPut_keeps hR (hR.upd h16)
  clear_value x5
  have h18 : P x6 := creditsRestore_keeps hR (tideRestore_keeps hR h17)
  clear_value x6
  have h19 : P x7 := State.setClkSrc_keeps hR h18
  clear_value x7
  have h20 : P x10 := hR.upd h19
  clear_value x10
  have h21 : P x11 := State.freeNext_keeps hR (State.put_keeps hR h20)
  clear_value x11
  have h22 : P x12 := State.forEach_keeps (fun h25 => State.forEach_keeps (fun h28 => calReload_keeps hR h28) h25) h21
  clear_value x12
  have h29 : P x13 := ite_keeps (State.forEach_keeps (fun h32 => presetArm_keeps hR h32) h22) h22
  clear_value x13
  have h33 : P x14 := State.flag_keeps hR (hR.upd h29)
  clear_value x14
  exact ite_keeps (lifeCode_keeps hR (lifeCount_keeps hR h33)) h33

theorem execD1PowerUp_keeps (hR : RegClosed P) {s0} (hs0 : P s0) : OutAll P (execD1PowerUp s0) := by
  delta execD1PowerUp
  exact next_keeps (ite_keeps hs0 (d1PowerUp_keeps hR hs0))

theorem execPowerOn_keeps (hR : RegClosed P) {s0} (hs0 : P s0) : OutAll P (execPowerOn s0) := by
  delta execPowerOn
  exact next_keeps (ite_keeps hs0 (resetRequest_keeps hR (d1PowerUp_keeps hR (hR.upd hs0))))

theorem execLfClockLoss_keeps (hR : RegClosed P) {s0} (hs0 : P s0) : OutAll P (execLfClockLoss s0) := by
  delta execLfClockLoss
  extract_lets x0 x1
  refine next_keeps ?_
  exact (hR.upd hs0)

theorem execSupplyDipStart_keeps (hR : RegClosed P) {s0} (hs0 : P s0) : OutAll P (execSupplyDipStart s0) := by
  delta execSupplyDipStart
  extract_lets x0
  have h1 : P x0 := (State.inc_keeps hR (State.flag_keeps hR (State.flag_keeps hR hs0)))
  clear_value x0
  refine ite_out_keeps ?_ ?_
  · refine next_keeps ?_
    exact hs0
  · refine next_keeps ?_
    exact (bankSync_keeps hR (bankSync_keeps hR (lifeCount_keeps hR (State.fire_keeps hR h1))))

theorem execSupplyDipEnd_keeps (hP : Closed P) {a0 a1 s0} (hs0 : P s0) : OutAll P (execSupplyDipEnd a0 a1 s0) := by
  have hR := hP.toRegClosed
  delta execSupplyDipEnd
  extract_lets x0 x1
  have h2 : P x0 := (State.put_keeps hR (State.put_keeps hR (State.unflag_keeps hR hs0)))
  clear_value x0
  have h3 : P x1 := (lifeCode_keeps hR (lifeEvent_keeps hR h2))
  clear_value x1
  refine ite_out_keeps ?_ ?_
  · refine next_keeps ?_
    exact hs0
  · refine next_keeps ?_
    exact (goodAppend_keeps hP (bankGo_keeps hP (bankGo_keeps hP (State.fire_keeps hR h3))))

theorem unitCut_keeps (hP : Closed P) {a0 s0} (hs0 : P s0) : P (unitCut a0 s0) := by
  have hR := hP.toRegClosed
  delta unitCut
  extract_lets x0
  split
  · exact hs0
  · extract_lets x1 x2
    have h3 : P x1 := (State.freeNext_keeps hR (unitStore_keeps hP hs0))
    clear_value x1
    exact (ite_keeps (hR.upd h3) h3)

theorem brownOut_keeps (hP : Closed P) {s0} (hs0 : P s0) : P (brownOut s0) := by
  have hR := hP.toRegClosed
  delta brownOut
  extract_lets x0 x1 x2 x3
  have h4 : P x1 := unitCut_keeps hP (unitCut_keeps hP (hR.upd hs0))
  clear_value x1
  have h5 : P x2 := domShift_keeps hP (fun h7 => domsPut_keeps hR h7) (hR.upd h4)
  clear_value x2
  have h8 : P x3 := railLost_keeps hR (State.flag_keeps hR h5)
  clear_value x3
  exact hR.upd h8

theorem d0Lost_keeps (hR : RegClosed P) {s0} (hs0 : P s0) : P (d0Lost s0) := by
  delta d0Lost
  extract_lets x0 x1 x2
  have h3 : P x0 := rootZero_keeps hR (State.resetRegs_keeps hR hs0)
  clear_value x0
  have h4 : P x1 := State.unflag_keeps hR (State.unflag_keeps hR h3)
  clear_value x1
  exact hR.upd h4

theorem execBrownOut_keeps (hP : Closed P) {a0 s0} (hs0 : P s0) : OutAll P (execBrownOut a0 s0) := by
  have hR := hP.toRegClosed
  delta execBrownOut
  extract_lets x0
  have h1 : P x0 := ite_keeps (brownOut_keeps hP hs0) hs0
  clear_value x0
  exact next_keeps (ite_keeps h1 (d0Lost_keeps hR h1))

theorem execVbatSwitch_keeps (hR : RegClosed P) {a0 s0} (hs0 : P s0) : OutAll P (execVbatSwitch a0 s0) := by
  delta execVbatSwitch
  extract_lets x0 x1 x2
  have h3 : P x1 := (State.put_keeps hR hs0)
  clear_value x1
  have h4 : P x2 := (State.flag_keeps hR (State.inc_keeps hR h3))
  clear_value x2
  refine ite_out_keeps ?_ ?_
  · refine next_keeps ?_
    exact h3
  · refine next_keeps ?_
    exact (lifeCode_keeps hR (lifeCount_keeps hR h4))

/-! ### Boot -/

theorem bootNote_keeps (hR : RegClosed P) {a0 s0} (hs0 : P s0) : P (bootNote a0 s0) := by
  delta bootNote
  split
  · exact (State.put_keeps hR hs0)
  · exact hs0

theorem recoverActive_keeps (hP : Closed P) {a0 s0} (hs0 : P s0) : P (recoverActive a0 s0) := by
  have hR := hP.toRegClosed
  delta recoverActive
  split
  · exact (journalScan_keeps hR hs0)
  · exact (bootNote_keeps hR (journalInit_keeps hP hs0))

theorem recoverLast_keeps (hP : Closed P) {a0 s0} (hs0 : P s0) : P (recoverLast a0 s0) := by
  have hR := hP.toRegClosed
  delta recoverLast
  extract_lets x0 x1
  exact (ite_keeps hs0 (ite_keeps (ite_keeps (bootNote_keeps hR (State.freeNext_keeps hR (journalEnd_keeps hP (blockErase_keeps hP hs0)))) hs0) (ite_keeps (State.freeNext_keeps hR (journalEnd_keeps hP hs0)) hs0)))

theorem recoverHeader_keeps (hP : Closed P) {a0 a1 s0} (hs0 : P s0) : P (recoverHeader a0 a1 s0) := by
  have hR := hP.toRegClosed
  delta recoverHeader
  extract_lets x0 x1
  exact (ite_keeps (bootNote_keeps hR (State.setBytes_keeps hP hs0)) hs0)

theorem bankRecover_keeps (hP : Closed P) {a0 s0} (hs0 : P s0) : P (bankRecover a0 s0) := by
  delta bankRecover
  extract_lets x0
  have h1 : P x0 := (recoverLast_keeps hP (recoverActive_keeps hP hs0))
  clear_value x0
  exact (State.forEach_keeps (fun h2 => (recoverHeader_keeps hP h2)) h1)

theorem causeCode_keeps (hR : RegClosed P) {s0} (hs0 : P s0) : P (causeCode s0).2 := by
  delta causeCode
  extract_lets x0
  exact (ite_snd_keeps hs0 (ite_snd_keeps hs0 (ite_snd_keeps hs0 (ite_snd_keeps hs0 (ite_snd_keeps hs0 (ite_snd_keeps hs0 (State.freeNext_keeps hR hs0)))))))

theorem failsDue_keeps (hP : Closed P) {s0} (hs0 : P s0) : P (failsDue s0) := by
  have hR := hP.toRegClosed
  delta failsDue
  extract_lets x0 x1 x2
  have h3 : P x1 := by
    unfold x1
    split
    · exact (ite_keeps (bootAppend_keeps hP (causeCode_keeps hR hs0)) hs0)
    · exact hs0
  clear_value x1
  exact (ite_keeps (clearAppend_keeps hP (hR.upd h3)) h3)

theorem bootReport_keeps (hR : RegClosed P) {a0 a1 a2 a3 a4 s0} (hs0 : P s0) : P (bootReport a0 a1 a2 a3 a4 s0) := by
  delta bootReport
  extract_lets x0 x1 x2 x3 x4 x5 x6
  have h7 : P x1 := (State.put_keeps hR (State.wr_keeps hR hs0))
  clear_value x1
  have h8 : P x2 := (State.put_keeps hR (State.put_keeps hR h7))
  clear_value x2
  have h9 : P x3 := (State.put_keeps hR (State.put_keeps hR h8))
  clear_value x3
  have h10 : P x4 := (State.wr_keeps hR (State.put_keeps hR h9))
  clear_value x4
  have h11 : P x5 := (State.put_keeps hR h10)
  clear_value x5
  have h12 : P x6 := (State.forEach_keeps (fun h13 => (State.put_keeps hR h13)) h11)
  clear_value x6
  exact (State.put_keeps hR h12)

theorem dryPanCells_keeps (hR : RegClosed P) {s0} (hs0 : P s0) : P (dryPanCells s0) := by
  delta dryPanCells
  extract_lets x0 x1 x2 x3 x4 x5 x6 x7
  have h8 : P x1 := (State.freeNext_keeps hR hs0)
  clear_value x1
  have h9 : P x3 := (hR.upd h8)
  clear_value x3
  have h10 : P x4 := (State.put_keeps hR (State.put_keeps hR h9))
  clear_value x4
  have h11 : P x5 := (State.flag_keeps hR (State.flag_keeps hR h10))
  clear_value x5
  have h12 : P x6 := (State.resetRegs_keeps hR h11)
  clear_value x6
  have h13 : P x7 := (State.forEach_keeps (fun h14 => (State.put_keeps hR h14)) h12)
  clear_value x7
  exact (refreshRing_keeps hR (refreshRoles_keeps hR h13))

theorem dryPanPower_keeps (hP : Closed P) {s0} (hs0 : P s0) : P (dryPanPower s0) := by
  have hR := hP.toRegClosed
  delta dryPanPower
  refine domShift_keeps hP ?_ hs0
  intro y2 h3
  extract_lets x4 x5
  have h6 : P x4 := (State.put_keeps hR (State.put_keeps hR h3))
  clear_value x4
  have h7 : P x5 := (State.put_keeps hR h6)
  clear_value x5
  exact (domsPut_keeps hR h7)

theorem dryPanEnter_keeps (hP : Closed P) {a0 a1 s0} (hs0 : P s0) : P (dryPanEnter a0 a1 s0) := by
  have hR := hP.toRegClosed
  delta dryPanEnter
  extract_lets x0 x1 x2
  have h3 : P x0 := (dryPanCells_keeps hR (dryPanPower_keeps hP hs0))
  clear_value x0
  have h4 : P x1 := (lifeCode_keeps hR (lifeCount_keeps hR (bootReport_keeps hR h3)))
  clear_value x1
  exact (ite_keeps (resetRequest_keeps hR hs0) (hR.upd h4))

theorem slotImage_keeps (hR : RegClosed P) {a0 s0} (hs0 : P s0) : P (slotImage a0 s0).2 := by
  delta slotImage
  extract_lets x0 x1 x2
  exact (ite_snd_keeps (ite_snd_keeps hs0 hs0) (ite_snd_keeps (State.put_keeps hR hs0) (ite_snd_keeps (baseCommit_keeps hR hs0) (State.put_keeps hR hs0))))

theorem slotCheck_keeps (hR : RegClosed P) {a0 s0} (hs0 : P s0) : P (slotCheck a0 s0).2 := by
  delta slotCheck; exact (ite_snd_keeps hs0 (slotImage_keeps hR hs0))

theorem slotReject_keeps (hP : Closed P) {a0 a1 s0} (hs0 : P s0) : P (slotReject a0 a1 s0) := by
  delta slotReject; exact (bootAppend_keeps hP hs0)

theorem bootStart_keeps (hP : Closed P) {a0 a1 s0} (hs0 : P s0) : P (bootStart a0 a1 s0) := by
  have hR := hP.toRegClosed
  delta bootStart
  extract_lets x0 x1 x2 x3 x4
  have h5 : P x1 := (bootAppend_keeps hP hs0)
  clear_value x1
  have h6 : P x2 := (bootReport_keeps hR h5)
  clear_value x2
  exact (hR.upd h6)

theorem slotTry_keeps (hP : Closed P) {a0 a1 f2 s0} (hf2 : ∀ {y0}, P y0 → P (f2 y0)) (hs0 : P s0) :
    P (slotTry a0 a1 f2 s0) := by
  have hR := hP.toRegClosed
  delta slotTry
  extract_lets x0
  split
  · exact (bootStart_keeps hP (slotCheck_keeps hR hs0))
  · exact (resetRequest_keeps hR (slotCheck_keeps hR hs0))
  · exact (hf2 (slotReject_keeps hP (slotCheck_keeps hR hs0)))

theorem bootSlots_keeps (hP : Closed P) {a0 a1 s0} (hs0 : P s0) : P (bootSlots a0 a1 s0) := by
  delta bootSlots
  extract_lets x0 x1
  exact (slotTry_keeps hP (fun h2 => (ite_keeps (slotTry_keeps hP (fun h3 => (dryPanEnter_keeps hP h3)) h2) (dryPanEnter_keeps hP h2))) hs0)

theorem bootFlash_keeps (hP : Closed P) {s0} (hs0 : P s0) : P (bootFlash s0) := by
  have hR := hP.toRegClosed
  delta bootFlash
  extract_lets x0
  have h1 : P x0 := by
    unfold x0
    refine ite_keeps ?_ ?_
    · exact hs0
    · refine domShift_keeps hP ?_ hs0
      intro y6 h7
      extract_lets x8
      have h9 : P x8 := (State.put_keeps hR h7)
      clear_value x8
      exact (domsPut_keeps hR h9)
  clear_value x0
  exact (ite_keeps (erasecntLoad_keeps hR h1) h1)

theorem bootArm_keeps (hR : RegClosed P) {a0 s0} (hs0 : P s0) : P (bootArm a0 s0) := by
  delta bootArm
  extract_lets x0
  have h1 : P x0 := (State.unflag_keeps hR (State.flag_keeps hR (State.put_keeps hR hs0)))
  clear_value x0
  exact (State.put_keeps hR (State.put_keeps hR h1))

theorem bootRead_keeps (hR : RegClosed P) {a0 s0} (hs0 : P s0) : P (bootRead a0 s0) := by
  delta bootRead
  extract_lets x0 x1 x2
  have h3 : P x0 := (loadRfRecord_keeps hR hs0)
  clear_value x0
  have h4 : P x1 := (ite_keeps h3 (bootNote_keeps hR h3))
  clear_value x1
  have h5 : P x2 := (ite_keeps h4 (bootNote_keeps hR h4))
  clear_value x2
  exact (ite_keeps h5 (bootNote_keeps hR h5))

theorem bootDecide_keeps (hP : Closed P) {a0 a1 s0} (hs0 : P s0) : P (bootDecide a0 a1 s0) := by
  have hR := hP.toRegClosed
  delta bootDecide
  extract_lets x0 x1 x2
  have h3 : P x0 := (failsDue_keeps hP hs0)
  clear_value x0
  have h4 : P x2 := (hR.upd h3)
  clear_value x2
  exact (ite_keeps (dryPanEnter_keeps hP (State.put_keeps hR h4)) (ite_keeps (dryPanEnter_keeps hP h4) (bootSlots_keeps hP h4)))

theorem bootRun_keeps (hP : Closed P) {a0 a1 s0} (hs0 : P s0) : P (bootRun a0 a1 s0) := by
  have hR := hP.toRegClosed
  delta bootRun
  extract_lets x0
  have h1 : P x0 := (bankRecover_keeps hP (bankRecover_keeps hP (bootArm_keeps hR hs0)))
  clear_value x0
  exact (ite_keeps (bootNote_keeps hR (glZero_keeps hP h1)) (bootDecide_keeps hP (bootRead_keeps hR h1)))

theorem execBootSequence_keeps (hP : Closed P) {a0 s0} (hs0 : P s0) : OutAll P (execBootSequence a0 s0) := by
  delta execBootSequence
  refine next_keeps ?_
  exact (ite_keeps (bootRun_keeps hP (bootFlash_keeps hP hs0)) hs0)

end Sys2Proof.Machine
end

