-- ==== Sys2Proof/Laws/Keeps6.lean ====
section
/-!
SUPPORT. What the operations of DryPan, Background, Periph, RegWrite, RegRead, Step keep:
one lemma for each, under the hypothesis that Sys2Proof/Laws/Closed.lean names.
-/

namespace Sys2Proof.Machine

variable {P : State → Prop}

/-! ### DryPan -/

theorem beaconRefused_keeps (hR : RegClosed P) {a0 a1 s0} (hs0 : P s0) : P (beaconRefused a0 a1 s0) := by
  delta beaconRefused
  extract_lets x0
  have h1 : P x0 := ite_keeps (laneCode_keeps hR hs0) hs0
  clear_value x0
  exact ite_keeps (dwellFlag_keeps hR h1) (ite_keeps (lbtBusyMarks_keeps hR h1) (ite_keeps (dutyRefused_keeps hR h1) h1))

theorem beaconHear_keeps (hR : RegClosed P) {a0 a1 s0} (hs0 : P s0) : P (beaconHear a0 a1 s0) := by
  delta beaconHear
  extract_lets x0 x1 x2
  have h3 : P x2 := hR.upd hs0
  clear_value x2
  exact ite_keeps (lifeAir_keeps hR (State.fire_keeps hR (State.fire_keeps hR h3))) (laneCode_keeps hR h3)

theorem beaconSend_keeps (hR : RegClosed P) {a0 a1 a2 s0} (hs0 : P s0) : P (beaconSend a0 a1 a2 s0) := by
  delta beaconSend
  extract_lets x0 x1 x2 x3 x4 x5 x6 x7 x8 x9 x10 x11
  have h12 : P x5 := ite_keeps hs0 (State.fire_keeps hR hs0)
  clear_value x5
  have h13 : P x6 := laneShift_keeps hR (laneYield_keeps hR h12)
  clear_value x6
  have h14 : P x8 := dutyDebit_keeps hR (laneStartTx_keeps hR (powerClamp_keeps hR h13))
  clear_value x8
  have h15 : P x11 := hR.upd h14
  clear_value x11
  exact beaconHear_keeps hR (lifeAir_keeps hR (laneEndTx_keeps hR h15))

theorem noteOnce_keeps (hR : RegClosed P) {a0 s0} (hs0 : P s0) : P (noteOnce a0 s0) := by
  delta noteOnce; exact (ite_keeps hs0 (bootNote_keeps hR hs0))

theorem execDrypanBeacon_keeps (hR : RegClosed P) {a0 a1 s0} (hs0 : P s0) : OutAll P (execDrypanBeacon a0 a1 s0) := by
  delta execDrypanBeacon
  extract_lets x0
  refine ite_out_keeps ?_ ?_
  · exact next_keeps hs0
  · clear_value x0
    split
    · exact next_keeps (noteOnce_keeps hR (laneCode_keeps hR hs0))
    · extract_lets x1
      exact next_keeps (ite_keeps (beaconRefused_keeps hR hs0) (beaconSend_keeps hR hs0))

theorem pointerAppend_keeps (hP : Closed P) {a0 s0} (hs0 : P s0) : P (pointerAppend a0 s0) := by
  delta pointerAppend
  extract_lets x0 x1
  exact (ite_keeps (unitStore_keeps hP hs0) hs0)

theorem execRecoveryCommand_keeps (hP : Closed P) {a0 s0} (hs0 : P s0) : OutAll P (execRecoveryCommand a0 s0) := by
  have hR := hP.toRegClosed
  delta execRecoveryCommand
  extract_lets x0 x1
  have h2 : P x0 := (clearAppend_keeps hP hs0)
  clear_value x0
  have h3 : P x1 := (ite_keeps h2 (pointerAppend_keeps hP h2))
  clear_value x1
  refine ite_out_keeps ?_ ?_
  · refine next_keeps ?_
    exact hs0
  · refine ite_out_keeps ?_ ?_
    · refine next_keeps ?_
      exact (resetRequest_keeps hR (bootNote_keeps hR h3))
    · refine next_keeps ?_
      exact (bootNote_keeps hR hs0)

/-! ### Background -/

theorem backgroundRestart_keeps (hR : RegClosed P) {a0 s0} (hs0 : P s0) : P (backgroundRestart a0 s0) := by
  delta backgroundRestart
  split
  · exact State.forEach_keeps (fun h2 => calResume_keeps hR h2) hs0
  · exact State.forEach_keeps (fun h5 => ite_keeps (healthHold_keeps hR h5) h5) hs0
  · exact State.forEach_keeps (fun h8 => coreGrant_keeps hR h8) hs0
  · exact hs0

theorem execBackgroundStepRestart_keeps (hR : RegClosed P) {a0 s0} (hs0 : P s0) : OutAll P (execBackgroundStepRestart a0 s0) := by
  delta execBackgroundStepRestart
  exact next_keeps (stepResumed_keeps hR (backgroundRestart_keeps hR hs0))

theorem aonDue_keeps (hP : Closed P) {s0} (hs0 : P s0) : P (aonDue s0) := by
  delta aonDue
  exact ite_keeps hs0 (listenDue_keeps hP hs0)

/-! ### Periph -/

theorem padLevel_keeps (hR : RegClosed P) {a0 a1 s0} (hs0 : P s0) : P (padLevel a0 a1 s0) := by
  delta padLevel
  extract_lets x0 x1 x2
  have h3 : P x1 := (State.putBit_keeps hR hs0)
  clear_value x1
  exact (ite_keeps h3 (ite_keeps (State.fire_keeps hR h3) h3))

theorem padOut_keeps (hR : RegClosed P) {a0 a1 s0} (hs0 : P s0) : P (padOut a0 a1 s0) := by
  delta padOut
  extract_lets x0
  have h1 : P x0 := (State.putBit_keeps hR hs0)
  clear_value x0
  exact (ite_keeps (padLevel_keeps hR h1) h1)

theorem execGpioEdge_keeps (hR : RegClosed P) {a0 a1 s0} (hs0 : P s0) : OutAll P (execGpioEdge a0 a1 s0) := by
  delta execGpioEdge
  refine next_keeps ?_
  exact (ite_keeps (padLevel_keeps hR hs0) hs0)

theorem execGpioSet_keeps (hR : RegClosed P) {a0 s0} (hs0 : P s0) : OutAll P (execGpioSet a0 s0) := by
  delta execGpioSet
  refine next_keeps ?_
  exact (padOut_keeps hR (State.takeTask_keeps hR hs0))

theorem execGpioClr_keeps (hR : RegClosed P) {a0 s0} (hs0 : P s0) : OutAll P (execGpioClr a0 s0) := by
  delta execGpioClr
  refine next_keeps ?_
  exact (padOut_keeps hR (State.takeTask_keeps hR hs0))

theorem execGpioTgl_keeps (hR : RegClosed P) {a0 s0} (hs0 : P s0) : OutAll P (execGpioTgl a0 s0) := by
  delta execGpioTgl
  extract_lets x0
  refine next_keeps ?_
  exact (padOut_keeps hR (State.takeTask_keeps hR hs0))

theorem State.setUartTx_keeps (hR : RegClosed P) {a0 a1 s0} (hs0 : P s0) : P (State.setUartTx a0 a1 s0) := by
  delta State.setUartTx; exact (State.put_keeps hR (hR.upd hs0))

theorem State.setUartRx_keeps (hR : RegClosed P) {a0 a1 s0} (hs0 : P s0) : P (State.setUartRx a0 a1 s0) := by
  delta State.setUartRx; exact (State.put_keeps hR (hR.upd hs0))

theorem execUartTxPush_keeps (hR : RegClosed P) {a0 a1 a2 s0} (hs0 : P s0) : OutAll P (execUartTxPush a0 a1 a2 s0) := by
  delta execUartTxPush
  extract_lets x0
  refine next_keeps ?_
  exact (State.setUartTx_keeps hR hs0)

theorem execUartTxdone_keeps (hR : RegClosed P) {a0 s0} (hs0 : P s0) : OutAll P (execUartTxdone a0 s0) := by
  delta execUartTxdone
  refine next_keeps ?_
  exact (State.fire_keeps hR (State.setUartTx_keeps hR hs0))

theorem execUartRxChar_keeps (hR : RegClosed P) {a0 a1 a2 a3 s0} (hs0 : P s0) :
    OutAll P (execUartRxChar a0 a1 a2 a3 s0) := by
  delta execUartRxChar
  extract_lets x0
  refine ite_out_keeps ?_ ?_
  · refine next_keeps ?_
    exact hs0
  · refine ite_out_keeps ?_ ?_
    · refine next_keeps ?_
      exact (State.fire_keeps hR (State.flag_keeps hR hs0))
    · refine ite_out_keeps ?_ ?_
      · refine next_keeps ?_
        exact (State.fire_keeps hR (State.flag_keeps hR hs0))
      · refine ite_out_keeps ?_ ?_
        · refine next_keeps ?_
          exact (State.fire_keeps hR (State.flag_keeps hR hs0))
        · refine next_keeps ?_
          exact (State.fire_keeps hR (State.setUartRx_keeps hR hs0))

theorem execUartRxPop_keeps (hR : RegClosed P) {a0 s0} (hs0 : P s0) : OutAll P (execUartRxPop a0 s0) := by
  delta execUartRxPop
  extract_lets x0
  have h1 : P x0 := (State.freeNext_keeps hR hs0)
  clear_value x0
  split
  · refine next_keeps ?_
    exact (hR.upd h1)
  · extract_lets x2
    have h3 : P x2 := (State.setUartRx_keeps hR hs0)
    clear_value x2
    refine next_keeps ?_
    exact (hR.upd h3)

theorem execUartRxTimeout_keeps (hR : RegClosed P) {a0 s0} (hs0 : P s0) : OutAll P (execUartRxTimeout a0 s0) := by
  delta execUartRxTimeout
  refine next_keeps ?_
  exact (State.flag_keeps hR hs0)

theorem State.setSpi_keeps (hR : RegClosed P) {a0 a1 a2 a3 s0} (hs0 : P s0) : P (State.setSpi a0 a1 a2 a3 s0) := by
  delta State.setSpi; exact (hR.upd hs0)

theorem State.setI2c_keeps (hR : RegClosed P) {a0 a1 a2 a3 s0} (hs0 : P s0) : P (State.setI2c a0 a1 a2 a3 s0) := by
  delta State.setI2c; exact (hR.upd hs0)

theorem execSpimStart_keeps (hR : RegClosed P) {a0 s0} (hs0 : P s0) : OutAll P (execSpimStart a0 s0) := by
  delta execSpimStart
  extract_lets x0
  have h1 : P x0 := (State.takeTask_keeps hR hs0)
  clear_value x0
  refine next_keeps ?_
  exact (ite_keeps (State.flag_keeps hR h1) h1)

theorem execSpimDone_keeps (hR : RegClosed P) {a0 a1 s0} (hs0 : P s0) : OutAll P (execSpimDone a0 a1 s0) := by
  delta execSpimDone
  extract_lets x0 x1 x2 x3
  have h4 : P x3 := (State.setSpi_keeps hR hs0)
  clear_value x3
  refine ite_out_keeps ?_ ?_
  · refine next_keeps ?_
    exact hs0
  · refine next_keeps ?_
    exact (State.fire_keeps hR (State.unflag_keeps hR h4))

theorem execI2cStart_keeps (hR : RegClosed P) {a0 s0} (hs0 : P s0) : OutAll P (execI2cStart a0 s0) := by
  delta execI2cStart
  extract_lets x0
  have h1 : P x0 := (State.takeTask_keeps hR hs0)
  clear_value x0
  refine next_keeps ?_
  exact (ite_keeps (State.unflag_keeps hR (State.flag_keeps hR h1)) h1)

theorem execI2cDone_keeps (hR : RegClosed P) {a0 a1 a2 a3 s0} (hs0 : P s0) : OutAll P (execI2cDone a0 a1 a2 a3 s0) := by
  delta execI2cDone
  extract_lets x0 x1 x2 x3 x4 x5
  have h6 : P x4 := (ite_keeps (State.setI2c_keeps hR hs0) (State.setI2c_keeps hR hs0))
  clear_value x4
  have h7 : P x5 := (State.unflag_keeps hR h6)
  clear_value x5
  refine ite_out_keeps ?_ ?_
  · refine next_keeps ?_
    exact hs0
  · refine next_keeps ?_
    exact (ite_keeps (State.fire_keeps hR (State.flag_keeps hR h7)) (State.fire_keeps hR h7))

theorem State.setTmr_keeps (hR : RegClosed P) {a0 a1 a2 s0} (hs0 : P s0) : P (State.setTmr a0 a1 a2 s0) := by
  delta State.setTmr; exact (State.put_keeps hR (hR.upd hs0))

theorem execTmrStart_keeps (hR : RegClosed P) {a0 s0} (hs0 : P s0) : OutAll P (execTmrStart a0 s0) := by
  delta execTmrStart
  refine next_keeps ?_
  exact (State.setTmr_keeps hR (State.takeTask_keeps hR hs0))

theorem execTmrStop_keeps (hR : RegClosed P) {a0 a1 s0} (hs0 : P s0) : OutAll P (execTmrStop a0 a1 s0) := by
  delta execTmrStop
  extract_lets x0
  have h1 : P x0 := (State.takeTask_keeps hR hs0)
  clear_value x0
  refine next_keeps ?_
  exact (ite_keeps (State.setTmr_keeps hR h1) h1)

theorem execTmrCapture_keeps (hR : RegClosed P) {a0 a1 s0} (hs0 : P s0) : OutAll P (execTmrCapture a0 a1 s0) := by
  delta execTmrCapture
  extract_lets x0 x1
  have h2 : P x0 := (State.takeTask_keeps hR hs0)
  clear_value x0
  have h3 : P x1 := (ite_keeps (State.setTmr_keeps hR h2) h2)
  clear_value x1
  refine next_keeps ?_
  exact (State.fire_keeps hR (State.put_keeps hR h3))

theorem execTmrCompare_keeps (hR : RegClosed P) {a0 s0} (hs0 : P s0) : OutAll P (execTmrCompare a0 s0) := by
  delta execTmrCompare
  extract_lets x0
  have h1 : P x0 := (State.setTmr_keeps hR hs0)
  clear_value x0
  refine ite_out_keeps ?_ ?_
  · refine next_keeps ?_
    exact hs0
  · refine next_keeps ?_
    exact (State.fire_keeps hR h1)

theorem execTmrOverflow_keeps (hR : RegClosed P) {a0 s0} (hs0 : P s0) : OutAll P (execTmrOverflow a0 s0) := by
  delta execTmrOverflow
  refine next_keeps ?_
  exact (ite_keeps (State.fire_keeps hR (State.setTmr_keeps hR hs0)) hs0)

theorem execAdcStart_keeps (hR : RegClosed P) {s0} (hs0 : P s0) : OutAll P (execAdcStart s0) := by
  delta execAdcStart
  extract_lets x0 x1 x2
  have h3 : P x0 := (State.takeTask_keeps hR hs0)
  clear_value x0
  refine next_keeps ?_
  exact (ite_keeps (hR.upd h3) h3)

theorem execAdcConversionDone_keeps (hR : RegClosed P) {a0 s0} (hs0 : P s0) : OutAll P (execAdcConversionDone a0 s0) := by
  delta execAdcConversionDone
  extract_lets x0 x1 x2
  split
  · refine next_keeps ?_
    exact hs0
  · extract_lets x3 x4 x5 x6 x7
    have h8 : P x3 := (ite_keeps (State.flag_keeps hR hs0) (hR.upd hs0))
    clear_value x3
    have h9 : P x4 := (ite_keeps (State.fire_keeps hR h8) h8)
    clear_value x4
    have h10 : P x5 := (ite_keeps (State.fire_keeps hR h9) h9)
    clear_value x5
    have h11 : P x7 := (hR.upd h10)
    clear_value x7
    refine next_keeps ?_
    exact (ite_keeps (State.fire_keeps hR h11) h11)

theorem execAdcStop_keeps (hR : RegClosed P) {s0} (hs0 : P s0) : OutAll P (execAdcStop s0) := by
  delta execAdcStop
  extract_lets x0 x1
  have h2 : P x0 := (State.takeTask_keeps hR hs0)
  clear_value x0
  refine next_keeps ?_
  exact (ite_keeps (State.fire_keeps hR (hR.upd h2)) h2)

theorem execAdcResultRead_keeps (hR : RegClosed P) {s0} (hs0 : P s0) : OutAll P (execAdcResultRead s0) := by
  delta execAdcResultRead
  extract_lets x0 x1
  have h2 : P x0 := (State.freeNext_keeps hR hs0)
  clear_value x0
  split
  · refine next_keeps ?_
    exact (hR.upd h2)
  · refine next_keeps ?_
    exact (hR.upd hs0)

theorem canCounters_keeps (hR : RegClosed P) {a0 a1 s0} (hs0 : P s0) : P (canCounters a0 a1 s0) := by
  delta canCounters
  extract_lets x0 x1 x2 x3 x4
  have h5 : P x2 := (State.put_keeps hR (State.put_keeps hR hs0))
  clear_value x2
  have h6 : P x3 := (ite_keeps (State.flag_keeps hR h5) h5)
  clear_value x3
  have h7 : P x4 := (ite_keeps (State.flag_keeps hR h6) h6)
  clear_value x4
  exact (State.put_keeps hR h7)

theorem canCtlWrite_keeps (hR : RegClosed P) {a0 s0} (hs0 : P s0) : P (canCtlWrite a0 s0) := by
  delta canCtlWrite
  extract_lets x0 x1 x2
  have h3 : P x2 := (State.wr_keeps hR hs0)
  clear_value x2
  exact (ite_keeps (ite_keeps h3 (ite_keeps (State.put_keeps hR (State.put_keeps hR (State.put_keeps hR h3))) (State.put_keeps hR h3))) (ite_keeps h3 (State.put_keeps hR h3)))

theorem execCanTxreq_keeps (hR : RegClosed P) {a0 a1 s0} (hs0 : P s0) : OutAll P (execCanTxreq a0 a1 s0) := by
  delta execCanTxreq
  extract_lets x0 x1 x2 x3
  have h4 : P x0 := ite_keeps (State.takeTask_keeps hR hs0) hs0
  clear_value x0
  have h5 : P x3 := ite_keeps h4 (hR.upd h4)
  clear_value x3
  exact next_keeps (State.wr_keeps hR h5)

theorem execCanTxabort_keeps (hR : RegClosed P) {a0 a1 s0} (hs0 : P s0) : OutAll P (execCanTxabort a0 a1 s0) := by
  delta execCanTxabort
  extract_lets x0 x1 x2
  have h3 : P x2 := (State.wr_keeps hR hs0)
  clear_value x2
  refine next_keeps ?_
  exact (ite_keeps h3 (State.flag_keeps hR h3))

theorem canDelay_keeps (hR : RegClosed P) {a0 s0} (hs0 : P s0) : P (canDelay a0 s0) := by
  delta canDelay
  exact ite_keeps (State.freeNext_keeps hR (State.put_keeps hR hs0)) hs0

theorem execCanTxDone_keeps (hP : Closed P) {a0 a1 a2 s0} (hs0 : P s0) : OutAll P (execCanTxDone a0 a1 a2 s0) := by
  have hR := hP.toRegClosed
  delta execCanTxDone
  extract_lets x0 x1 x2 x3 x4
  have h5 : P x2 := canDelay_keeps hR (hR.upd hs0)
  clear_value x2
  have h6 : P x3 := State.putBit_keeps hR (State.putBit_keeps hR h5)
  clear_value x3
  have h7 : P x4 := canCounters_keeps hR (State.setWord_keeps hP h6)
  clear_value x4
  refine ite_out_keeps ?_ ?_
  · exact next_keeps hs0
  · exact next_keeps (State.fire_keeps hR h7)

theorem execCanFrameRx_keeps (hP : Closed P) {a0 a1 a2 a3 a4 a5 a6 s0} (hs0 : P s0) :
    OutAll P (execCanFrameRx a0 a1 a2 a3 a4 a5 a6 s0) := by
  have hR := hP.toRegClosed
  delta execCanFrameRx
  extract_lets x0 x1
  have h2 : P x0 := (canCounters_keeps hR hs0)
  clear_value x0
  refine ite_out_keeps ?_ ?_
  · refine next_keeps ?_
    exact hs0
  · split
    · extract_lets x3 x4 x5
      have h6 : P x3 := (State.setWord_keeps hP (State.setWord_keeps hP h2))
      clear_value x3
      have h7 : P x4 := (State.setBytes_keeps hP h6)
      clear_value x4
      have h8 : P x5 := (State.put_keeps hR (State.put_keeps hR (State.put_keeps hR h7)))
      clear_value x5
      refine next_keeps ?_
      exact (State.fire_keeps hR (State.putBit_keeps hR h8))
    · refine next_keeps ?_
      exact (ite_keeps h2 (State.inc_keeps hR (State.flag_keeps hR h2)))

theorem execCanProtocolError_keeps (hR : RegClosed P) {a0 a1 a2 s0} (hs0 : P s0) :
    OutAll P (execCanProtocolError a0 a1 a2 s0) := by
  delta execCanProtocolError
  extract_lets x0
  have h1 : P x0 := (canCounters_keeps hR (State.flag_keeps hR (State.put_keeps hR hs0)))
  clear_value x0
  refine ite_out_keeps ?_ ?_
  · refine next_keeps ?_
    exact hs0
  · refine next_keeps ?_
    exact (State.fire_keeps hR (State.inc_keeps hR h1))

theorem execCanBusOff_keeps (hR : RegClosed P) {s0} (hs0 : P s0) : OutAll P (execCanBusOff s0) := by
  delta execCanBusOff
  extract_lets x0
  have h1 : P x0 := (State.flag_keeps hR (State.put_keeps hR (State.flag_keeps hR hs0)))
  clear_value x0
  refine ite_out_keeps ?_ ?_
  · refine next_keeps ?_
    exact hs0
  · refine next_keeps ?_
    exact (State.fire_keeps hR (State.inc_keeps hR h1))

theorem execCanBusoffRecovery_keeps (hR : RegClosed P) {s0} (hs0 : P s0) : OutAll P (execCanBusoffRecovery s0) := by
  delta execCanBusoffRecovery
  refine next_keeps ?_
  exact (ite_keeps (canCtlWrite_keeps hR hs0) hs0)

theorem hostSync_keeps (hR : RegClosed P) {s0} (hs0 : P s0) : P (hostSync s0) := by
  delta hostSync
  extract_lets x0
  exact (State.put_keeps hR (State.put_keeps hR hs0))

theorem mbsetWrite_keeps (hR : RegClosed P) {a0 s0} (hs0 : P s0) : P (mbsetWrite a0 s0) := by
  delta mbsetWrite
  extract_lets x0 x1 x2 x3 x4
  have h5 : P x3 := (ite_keeps hs0 (State.fire_keeps hR (State.put_keeps hR hs0)))
  clear_value x3
  have h6 : P x4 := (ite_keeps h5 (State.fire_keeps hR (State.put_keeps hR h5)))
  clear_value x4
  exact (hostSync_keeps hR h6)

theorem execHostMbset_keeps (hR : RegClosed P) {a0 a1 s0} (hs0 : P s0) : OutAll P (execHostMbset a0 a1 s0) := by
  delta execHostMbset
  exact next_keeps (ite_keeps (mbsetWrite_keeps hR hs0) hs0)

theorem execHostpIrqTask_keeps (hR : RegClosed P) {s0} (hs0 : P s0) : OutAll P (execHostpIrqTask s0) := by
  delta execHostpIrqTask
  refine next_keeps ?_
  exact (State.flag_keeps hR (State.takeTask_keeps hR hs0))

/-! ### RegWrite -/

theorem landed_keeps (_hR : RegClosed P) {o0 s0} (ho0 : OutAll P o0) (hs0 : P s0) : P (landed o0 s0) := by
  unfold landed
  split
  · exact ho0 _ rfl
  · exact hs0
  · exact hs0

theorem classWrite_keeps (hR : RegClosed P) {a0 a1 s0} (hs0 : P s0) : P (classWrite a0 a1 s0) := by
  delta classWrite
  extract_lets x0 x1
  split
  · exact hs0
  · extract_lets x2
    exact (State.wr_keeps hR hs0)

theorem rstreqWrite_keeps (hR : RegClosed P) {a0 s0} (hs0 : P s0) : P (rstreqWrite a0 s0) := by
  delta rstreqWrite
  extract_lets x0
  refine ite_keeps ?_ ?_
  · exact hs0
  · split
    · exact (landed_keeps hR (execRstreqWarm_keeps hR hs0) hs0)
    · exact (landed_keeps hR (execRstreqSystem_keeps hR hs0) hs0)
    · exact (landed_keeps hR (execRstreqFull_keeps hR hs0) hs0)
    · exact hs0

theorem patchctlWrite_keeps (hR : RegClosed P) {a0 s0} (hs0 : P s0) : P (patchctlWrite a0 s0) := by
  delta patchctlWrite
  exact (ite_keeps (landed_keeps hR (execPatchStart_keeps hR hs0) hs0) (ite_keeps (landed_keeps hR (execPatchDiscard_keeps hR hs0) hs0) (State.put_keeps hR hs0)))

theorem cwdtWrite_keeps (hR : RegClosed P) {a0 s0} (hs0 : P s0) : P (cwdtWrite a0 s0) := by
  delta cwdtWrite
  extract_lets x0 x1 x2
  have h3 : P x1 := (classWrite_keeps hR hs0)
  clear_value x1
  exact (ite_keeps (hR.upd h3) h3)

theorem writeSyscfg_keeps (hP : Closed P) {a0 a1 s0} (hs0 : P s0) : P (writeSyscfg a0 a1 s0) := by
  have hR := hP.toRegClosed
  delta writeSyscfg
  extract_lets x0
  exact (ite_keeps (landed_keeps hR (execClkcfgWrite_keeps hR hs0) hs0) (ite_keeps (ite_keeps (landed_keeps hR (execSaltcmtCommit_keeps hR hs0) hs0) hs0) (ite_keeps (patchctlWrite_keeps hR hs0) (ite_keeps (rstreqWrite_keeps hR hs0) (ite_keeps (ite_keeps (landed_keeps hR (execBootokConfirm_keeps hP hs0) hs0) hs0) (ite_keeps (landed_keeps hR (execCwdtKick_keeps hR hs0) hs0) (ite_keeps (landed_keeps hR (execCpu1Start_keeps hR hs0) hs0) (ite_keeps (cwdtWrite_keeps hR hs0) (classWrite_keeps hR hs0)))))))))

theorem writeFabric_keeps (hR : RegClosed P) {a0 a1 s0} (hs0 : P s0) : P (writeFabric a0 a1 s0) := by
  delta writeFabric
  exact (ite_keeps (landed_keeps hR (execFabricFireWrite_keeps hR hs0) hs0) (ite_keeps (landed_keeps hR (execFabricQuarRelease_keeps hR hs0) hs0) (classWrite_keeps hR hs0)))

theorem laneCtlWrite_keeps (hP : Closed P) {a0 a1 s0} (hs0 : P s0) : P (laneCtlWrite a0 a1 s0) := by
  have hR := hP.toRegClosed
  delta laneCtlWrite
  extract_lets x0 x1 x2 x3
  have h4 : P x1 := landed_keeps hR (execLaneOwnerWrite_keeps hR hs0) hs0
  clear_value x1
  have h5 : P x2 := ite_keeps (landed_keeps hR (execLaneHealthreq_keeps hR h4) h4) h4
  clear_value x2
  have h6 : P x3 := ite_keeps (landed_keeps hR (execLaneRetire_keeps hP h5) h5) h5
  clear_value x3
  exact ite_keeps (landed_keeps hR (execLaneOwnerWrite_keeps hR hs0) hs0) (ite_keeps (landed_keeps hR (execLaneRestore_keeps hR h6) h6) h6)

theorem laneCmdWrite_keeps (hR : RegClosed P) {a0 a1 s0} (hs0 : P s0) : P (laneCmdWrite a0 a1 s0) := by
  delta laneCmdWrite
  split
  · exact (landed_keeps hR (execLaneSleep_keeps hR hs0) hs0)
  · exact (landed_keeps hR (execLaneStandby_keeps hR hs0) hs0)
  · exact (landed_keeps hR (execLaneSynth_keeps hR hs0) hs0)
  · exact (landed_keeps hR (execLaneRx_keeps hR hs0) hs0)
  · exact (landed_keeps hR (execLaneTx_keeps hR (State.freeNext_keeps hR hs0)) hs0)
  · exact (landed_keeps hR (execLaneAbort_keeps hR hs0) hs0)
  · exact hs0

theorem writeLane_keeps (hP : Closed P) {a0 a1 a2 s0} (hs0 : P s0) : P (writeLane a0 a1 a2 s0) := by
  have hR := hP.toRegClosed
  delta writeLane
  exact (ite_keeps (laneCtlWrite_keeps hP hs0) (ite_keeps (laneCmdWrite_keeps hR hs0) (ite_keeps (landed_keeps hR (execCalreqWrite_keeps hR hs0) hs0) (classWrite_keeps hR hs0))))

theorem writeRf_keeps (hR : RegClosed P) {a0 a1 s0} (hs0 : P s0) : P (writeRf a0 a1 s0) := by
  delta writeRf
  exact (ite_keeps (landed_keeps hR (execPortmapWrite_keeps hR hs0) hs0) (ite_keeps (landed_keeps hR (execRfPairWrite_keeps hR hs0) hs0) (ite_keeps (landed_keeps hR (execXtrimWrite_keeps hR hs0) hs0) (ite_keeps (landed_keeps hR (execSwtightWrite_keeps hR hs0) hs0) (classWrite_keeps hR hs0)))))

theorem panWordWrite_keeps (hR : RegClosed P) {a0 a1 a2 s0} (hs0 : P s0) : P (panWordWrite a0 a1 a2 s0) := by
  delta panWordWrite; exact (ite_keeps (classWrite_keeps hR hs0) (State.flag_keeps hR hs0))

theorem writeModem_keeps (hR : RegClosed P) {a0 a1 s0} (hs0 : P s0) : P (writeModem a0 a1 s0) := by
  delta writeModem
  exact (ite_keeps (landed_keeps hR (execSlotinvWrite_keeps hR hs0) hs0) (ite_keeps (landed_keeps hR (execPancfgWrite_keeps hR hs0) hs0) (ite_keeps (panWordWrite_keeps hR hs0) (ite_keeps (panWordWrite_keeps hR hs0) (classWrite_keeps hR hs0)))))

theorem tlcmdWrite_keeps (hP : Closed P) {a0 s0} (hs0 : P s0) : P (tlcmdWrite a0 s0) := by
  have hR := hP.toRegClosed
  delta tlcmdWrite
  split
  · exact (landed_keeps hR (execTlArm_keeps hP hs0) hs0)
  · exact (landed_keeps hR (execTlCancel_keeps hP hs0) hs0)
  · exact hs0

theorem ctxcmdWrite_keeps (hP : Closed P) {a0 s0} (hs0 : P s0) : P (ctxcmdWrite a0 s0) := by
  have hR := hP.toRegClosed
  delta ctxcmdWrite
  extract_lets x0
  split
  · exact (landed_keeps hR (execCtxOpen_keeps hP hs0) hs0)
  · exact (landed_keeps hR (execCtxClose_keeps hP hs0) hs0)
  · exact (landed_keeps hR (execCtxRekey_keeps hP hs0) hs0)
  · exact (landed_keeps hR (execCtxSetpwr_keeps hP hs0) hs0)
  · exact (landed_keeps hR (execCtxSetmap_keeps hR hs0) hs0)
  · exact (landed_keeps hR (execCtxConnect_keeps hP hs0) hs0)
  · exact (landed_keeps hR (execCtxDisconnect_keeps hP hs0) hs0)
  · exact hs0

theorem lestageWrite_keeps (hR : RegClosed P) {a0 s0} (hs0 : P s0) : P (lestageWrite a0 s0) := by
  delta lestageWrite
  extract_lets x0
  split
  · exact (landed_keeps hR (execLeStageConnUpdate_keeps hR hs0) hs0)
  · exact (landed_keeps hR (execLeStageChmap_keeps hR hs0) hs0)
  · exact (landed_keeps hR (execLeStagePhy_keeps hR hs0) hs0)
  · exact hs0

theorem writeLink_keeps (hP : Closed P) {a0 a1 s0} (hs0 : P s0) : P (writeLink a0 a1 s0) := by
  have hR := hP.toRegClosed
  delta writeLink
  extract_lets x0
  exact (ite_keeps (tlcmdWrite_keeps hP hs0) (ite_keeps (ctxcmdWrite_keeps hP hs0) (ite_keeps (lestageWrite_keeps hR hs0) (ite_keeps (landed_keeps hR (execLePush_keeps hR hs0) hs0) (ite_keeps (landed_keeps hR (execRxqPop_keeps hR hs0) hs0) (ite_keeps (refreshRxq_keeps hR (classWrite_keeps hR hs0)) (ite_keeps (landed_keeps hR (execNetkeyWrite_keeps hP hs0) hs0) (ite_keeps (landed_keeps hR (execNetctrWrite_keeps hR hs0) hs0) (classWrite_keeps hR hs0)))))))))

theorem cipherCtlWrite_keeps (hP : Closed P) {a0 s0} (hs0 : P s0) : P (cipherCtlWrite a0 s0) := by
  have hR := hP.toRegClosed
  delta cipherCtlWrite
  extract_lets x0 x1 x2 x3
  have h4 : P x0 := (State.put_keeps hR (State.put_keeps hR hs0))
  clear_value x0
  have h5 : P x1 := (ite_keeps h4 (landed_keeps hR (execCipherRestore_keeps hR h4) h4))
  clear_value x1
  have h6 : P x2 := (ite_keeps (landed_keeps hR (execCipherFlush_keeps hP h5) h5) h5)
  clear_value x2
  have h7 : P x3 := (ite_keeps (landed_keeps hR (execCipherFlush_keeps hP h6) h6) h6)
  clear_value x3
  exact (cipherRun_keeps hP (State.freeNext_keeps hR h7))

theorem writeCipher_keeps (hP : Closed P) {a0 a1 a2 s0} (hs0 : P s0) : P (writeCipher a0 a1 a2 s0) := by
  have hR := hP.toRegClosed
  delta writeCipher
  extract_lets x0
  exact (ite_keeps (cipherCtlWrite_keeps hP hs0) (ite_keeps (landed_keeps hR (execKeyclrWrite_keeps hR hs0) hs0) (ite_keeps (landed_keeps hR (execCipherQtailWrite_keeps hP (State.freeNext_keeps hR hs0)) hs0) (ite_keeps (ite_keeps hs0 (classWrite_keeps hR hs0)) (classWrite_keeps hR hs0)))))

theorem pkeCmdWrite_keeps (hR : RegClosed P) {a0 a1 s0} (hs0 : P s0) : P (pkeCmdWrite a0 a1 s0) := by
  delta pkeCmdWrite
  extract_lets x0
  split
  · exact (landed_keeps hR (execPkeKeygen_keeps hR (State.freeNext_keeps hR hs0)) hs0)
  · exact (landed_keeps hR (execPkeEcdh_keeps hR (State.freeNext_keeps hR hs0)) hs0)
  · exact (landed_keeps hR (execPkeSign_keeps hR (State.freeNext_keeps hR hs0)) hs0)
  · exact (landed_keeps hR (execPkeVerify_keeps hR (State.freeNext_keeps hR hs0)) hs0)
  · exact (landed_keeps hR (execPkeValidate_keeps hR (State.freeNext_keeps hR hs0)) hs0)
  · exact hs0

theorem shactlWrite_keeps (hR : RegClosed P) {a0 a1 s0} (hs0 : P s0) : P (shactlWrite a0 a1 s0) := by
  delta shactlWrite
  extract_lets x0
  have h1 : P x0 := (ite_keeps (landed_keeps hR (execShaInit_keeps hR hs0) hs0) hs0)
  clear_value x0
  exact (ite_keeps (landed_keeps hR (execShaFinal_keeps hR h1) h1) h1)

theorem writePke_keeps (hP : Closed P) {a0 a1 a2 s0} (hs0 : P s0) : P (writePke a0 a1 a2 s0) := by
  have hR := hP.toRegClosed
  delta writePke
  exact (ite_keeps (landed_keeps hR (execPkeClaimWrite_keeps hP hs0) hs0) (ite_keeps (pkeCmdWrite_keeps hR hs0) (ite_keeps (shactlWrite_keeps hR hs0) (ite_keeps (landed_keeps hR (execShaData_keeps hR hs0) hs0) (classWrite_keeps hR hs0)))))

theorem trngCtlWrite_keeps (hR : RegClosed P) {a0 s0} (hs0 : P s0) : P (trngCtlWrite a0 s0) := by
  delta trngCtlWrite
  extract_lets x0 x1 x2
  have h3 : P x1 := (State.put_keeps hR (State.put_keeps hR hs0))
  clear_value x1
  exact (ite_keeps (trngStop_keeps hR h3) (ite_keeps (landed_keeps hR (execTrngRestart_keeps hR h3) h3) (ite_keeps h3 (hR.upd h3))))

theorem writeTrng_keeps (hR : RegClosed P) {a0 a1 s0} (hs0 : P s0) : P (writeTrng a0 a1 s0) := by
  delta writeTrng; exact (ite_keeps (trngCtlWrite_keeps hR hs0) (classWrite_keeps hR hs0))

theorem keyCmdWrite_keeps (hR : RegClosed P) {a0 a1 s0} (hs0 : P s0) : P (keyCmdWrite a0 a1 s0) := by
  delta keyCmdWrite
  extract_lets x0 x1
  split
  · exact landed_keeps hR (execKeyDerive_keeps hR (State.freeNext_keeps hR hs0)) hs0
  · exact landed_keeps hR (execKeyImport_keeps hR (State.freeNext_keeps hR hs0)) hs0
  · exact landed_keeps hR (execKeyInvalidate_keeps hR hs0) hs0
  · exact landed_keeps hR (execKeyRestrict_keeps hR hs0) hs0
  · exact landed_keeps hR (execKeyRootgen_keeps hR hs0) hs0
  · exact keyCommand_keeps hR (fun h3 => h3) hs0

theorem writeKeystore_keeps (hP : Closed P) {a0 a1 a2 s0} (hs0 : P s0) : P (writeKeystore a0 a1 a2 s0) := by
  have hR := hP.toRegClosed
  delta writeKeystore
  exact (ite_keeps (keyCmdWrite_keeps hR hs0) (ite_keeps (landed_keeps hR (execLcRequest_keeps hR hs0) hs0) (ite_keeps (landed_keeps hR (execGlRequest_keeps hP hs0) hs0) (classWrite_keeps hR hs0))))

theorem flashCmdWrite_keeps (hP : Closed P) {a0 a1 s0} (hs0 : P s0) : P (flashCmdWrite a0 a1 s0) := by
  have hR := hP.toRegClosed
  delta flashCmdWrite
  extract_lets x0
  refine ite_keeps ?_ ?_
  · exact hs0
  · refine ite_keeps ?_ ?_
    · exact (flashCode_keeps hR hs0)
    · clear_value x0
      split
      · exact (landed_keeps hR (execFlashErase_keeps hP hs0) hs0)
      · exact (landed_keeps hR (execFlashSuspend_keeps hR hs0) hs0)
      · exact (landed_keeps hR (execFlashResume_keeps hP hs0) hs0)
      · exact (landed_keeps hR (execFlashDiscard_keeps hR hs0) hs0)
      · exact (flashCode_keeps hR hs0)

theorem pdataWrite_keeps (hR : RegClosed P) {a0 a1 a2 s0} (hs0 : P s0) : P (pdataWrite a0 a1 a2 s0) := by
  delta pdataWrite
  extract_lets x0 x1
  have h2 : P x0 := (classWrite_keeps hR hs0)
  clear_value x0
  exact (ite_keeps (landed_keeps hR (execFlashProgramUnit_keeps hR hs0) hs0) (State.setBank_keeps hR h2))

theorem writeFlashc_keeps (hP : Closed P) {a0 a1 s0} (hs0 : P s0) : P (writeFlashc a0 a1 s0) := by
  have hR := hP.toRegClosed
  delta writeFlashc
  exact (ite_keeps (flashCmdWrite_keeps hP hs0) (ite_keeps (pdataWrite_keeps hR hs0) (classWrite_keeps hR hs0)))

theorem grpctlWrite_keeps (hP : Closed P) {a0 a1 s0} (hs0 : P s0) : P (grpctlWrite a0 a1 s0) := by
  have hR := hP.toRegClosed
  delta grpctlWrite
  extract_lets x0 x1 x2
  have h3 : P x0 := (State.put_keeps hR hs0)
  clear_value x0
  have h4 : P x1 := (ite_keeps (landed_keeps hR (execRakeRequest_keeps hR h3) h3) h3)
  clear_value x1
  have h5 : P x2 := (ite_keeps (landed_keeps hR (execSramClear_keeps hP h4) h4) h4)
  clear_value x2
  exact (ite_keeps (landed_keeps hR (execRakeStop_keeps hR h5) h5) h5)

theorem writeMemctl_keeps (hP : Closed P) {a0 a1 a2 s0} (hs0 : P s0) : P (writeMemctl a0 a1 a2 s0) := by
  have hR := hP.toRegClosed
  delta writeMemctl
  exact (ite_keeps (grpctlWrite_keeps hP hs0) (ite_keeps (landed_keeps hR (execSemWrite_keeps hR hs0) hs0) (classWrite_keeps hR hs0)))

theorem ringCtlWrite_keeps (hR : RegClosed P) {a0 s0} (hs0 : P s0) : P (ringCtlWrite a0 s0) := by
  delta ringCtlWrite
  extract_lets x0 x1 x2 x3
  have h4 : P x0 := (classWrite_keeps hR hs0)
  clear_value x0
  have h5 : P x2 := (ite_keeps (hR.upd h4) h4)
  clear_value x2
  have h6 : P x3 := (refreshRing_keeps hR h5)
  clear_value x3
  exact (ite_keeps (landed_keeps hR (execSurveyStart_keeps hR h6) h6) h6)

theorem writeRing_keeps (hR : RegClosed P) {a0 a1 s0} (hs0 : P s0) : P (writeRing a0 a1 s0) := by
  delta writeRing
  exact (ite_keeps (ringCtlWrite_keeps hR hs0) (ite_keeps (landed_keeps hR (execRingMbsend_keeps hR hs0) hs0) (classWrite_keeps hR hs0)))

theorem gpioOut_keeps (hR : RegClosed P) {a0 a1 a2 s0} (hs0 : P s0) : P (gpioOut a0 a1 a2 s0) := by
  delta gpioOut; exact (State.forEach_keeps (fun h0 => (padOut_keeps hR h0)) hs0)

theorem gpioDir_keeps (hR : RegClosed P) {a0 a1 s0} (hs0 : P s0) : P (gpioDir a0 a1 s0) := by
  delta gpioDir
  extract_lets x0
  have h1 : P x0 := (classWrite_keeps hR hs0)
  clear_value x0
  exact (State.forEach_keeps (fun h2 => (padOut_keeps hR h2)) h1)

theorem writeGpio_keeps (hR : RegClosed P) {a0 a1 s0} (hs0 : P s0) : P (writeGpio a0 a1 s0) := by
  delta writeGpio
  extract_lets x0
  exact (ite_keeps (gpioOut_keeps hR hs0) (ite_keeps (gpioOut_keeps hR hs0) (ite_keeps (gpioOut_keeps hR hs0) (ite_keeps (gpioDir_keeps hR hs0) (classWrite_keeps hR hs0)))))

theorem writeSerial_keeps (hR : RegClosed P) {a0 a1 s0} (hs0 : P s0) : P (writeSerial a0 a1 s0) := by
  delta writeSerial
  extract_lets x0 x1 x2 x3
  exact (ite_keeps (landed_keeps hR (execUartTxPush_keeps hR (State.freeNext_keeps hR hs0)) hs0) (ite_keeps (ite_keeps (State.setSpi_keeps hR hs0) hs0) (ite_keeps (ite_keeps (State.setI2c_keeps hR hs0) hs0) (classWrite_keeps hR hs0))))

theorem writeCan_keeps (hR : RegClosed P) {a0 a1 s0} (hs0 : P s0) : P (writeCan a0 a1 s0) := by
  delta writeCan
  exact (ite_keeps (canCtlWrite_keeps hR hs0) (ite_keeps (landed_keeps hR (execCanTxreq_keeps hR hs0) hs0) (ite_keeps (landed_keeps hR (execCanTxabort_keeps hR (State.freeNext_keeps hR hs0)) hs0) (ite_keeps hs0 (classWrite_keeps hR hs0)))))

theorem writeHostp_keeps (hR : RegClosed P) {a0 a1 a2 s0} (hs0 : P s0) : P (writeHostp a0 a1 a2 s0) := by
  delta writeHostp
  extract_lets x0
  exact (ite_keeps (landed_keeps hR (execHostMbset_keeps hR hs0) hs0) (ite_keeps (hostSync_keeps hR (classWrite_keeps hR hs0)) (hostSync_keeps hR (classWrite_keeps hR hs0))))

theorem writePeriph_keeps (hR : RegClosed P) {a0 a1 a2 s0} (hs0 : P s0) : P (writePeriph a0 a1 a2 s0) := by
  delta writePeriph
  exact (ite_keeps (writeGpio_keeps hR hs0) (ite_keeps (writeSerial_keeps hR hs0) (ite_keeps (writeCan_keeps hR hs0) (ite_keeps (classWrite_keeps hR hs0) (writeHostp_keeps hR hs0)))))

theorem clkctlWrite_keeps (hR : RegClosed P) {a0 s0} (hs0 : P s0) : P (clkctlWrite a0 s0) := by
  delta clkctlWrite
  extract_lets x0
  have h1 : P x0 := classWrite_keeps hR hs0
  clear_value x0
  exact ite_keeps (landed_keeps hR (execXtalReturn_keeps hR (State.freeNext_keeps hR h1)) h1) h1

theorem writeTide_keeps (hP : Closed P) {a0 a1 s0} (hs0 : P s0) : P (writeTide a0 a1 s0) := by
  have hR := hP.toRegClosed
  delta writeTide
  exact ite_keeps (landed_keeps hR (execSrcselWrite_keeps hR hs0) hs0) (ite_keeps (landed_keeps hR (execTideAdjWrite_keeps hP hs0) hs0) (ite_keeps (clkctlWrite_keeps hR hs0) (ite_keeps (panRecheck_keeps hR (panRecheck_keeps hR (classWrite_keeps hR hs0))) (ite_keeps (landed_keeps hR (execGateRegisterWrite_keeps hR hs0) hs0) (classWrite_keeps hR hs0)))))

theorem lwdtWrite_keeps (hR : RegClosed P) {a0 s0} (hs0 : P s0) : P (lwdtWrite a0 s0) := by
  delta lwdtWrite
  extract_lets x0 x1 x2
  have h3 : P x2 := (classWrite_keeps hR hs0)
  clear_value x2
  exact (ite_keeps (State.put_keeps hR h3) h3)

theorem writeAon_keeps (hP : Closed P) {a0 a1 s0} (hs0 : P s0) : P (writeAon a0 a1 s0) := by
  have hR := hP.toRegClosed
  delta writeAon
  extract_lets x0
  exact (ite_keeps (landed_keeps hR (execPmuStateRequest_keeps hR hs0) hs0) (ite_keeps (landed_keeps hR (execDomctlWrite_keeps hP hs0) hs0) (ite_keeps (writeTide_keeps hP hs0) (ite_keeps (lwdtWrite_keeps hR hs0) (ite_keeps (landed_keeps hR (execLwdtKick_keeps hR hs0) hs0) (ite_keeps (ite_keeps (landed_keeps hR (execHarvestDue_keeps hR hs0) hs0) hs0) (ite_keeps (landed_keeps hR (execTamplockWrite_keeps hR hs0) hs0) (ite_keeps (ite_keeps hs0 (classWrite_keeps hR hs0)) (ite_keeps (landed_keeps hR (execTamperLatchClear_keeps hR hs0) hs0) (classWrite_keeps hR hs0))))))))))

theorem regWrite_keeps (hP : Closed P) {a0 a1 a2 s0} (hs0 : P s0) : P (regWrite a0 a1 a2 s0) := by
  have hR := hP.toRegClosed
  delta regWrite
  exact (ite_keeps (writeAon_keeps hP hs0) (ite_keeps (writeSyscfg_keeps hP hs0) (ite_keeps (writeFabric_keeps hR hs0) (ite_keeps (writeLane_keeps hP hs0) (ite_keeps (writeLane_keeps hP hs0) (ite_keeps (writeRf_keeps hR hs0) (ite_keeps (writeModem_keeps hR hs0) (ite_keeps (writeLink_keeps hP hs0) (ite_keeps (writeCipher_keeps hP hs0) (ite_keeps (writePke_keeps hP hs0) (ite_keeps (writeTrng_keeps hR hs0) (ite_keeps (writeKeystore_keeps hP hs0) (ite_keeps (writeFlashc_keeps hP hs0) (ite_keeps (writeMemctl_keeps hP hs0) (ite_keeps (writeRing_keeps hR hs0) (writePeriph_keeps hR hs0))))))))))))))))

theorem blockRamWrite_keeps (hP : Closed P) {a0 a1 a2 a3 s0} (hs0 : P s0) : P (blockRamWrite a0 a1 a2 a3 s0) := by
  have hR := hP.toRegClosed
  delta blockRamWrite
  exact (ite_keeps (pkeRefuse_keeps hR hs0) (State.setNum_keeps hP hs0))

theorem busWrite_keeps (hP : Closed P) {a0 a1 a2 a3 s0} (hs0 : P s0) : P (busWrite a0 a1 a2 a3 s0) := by
  have hR := hP.toRegClosed
  delta busWrite
  extract_lets x0 x1
  exact (ite_keeps (landed_keeps hR (execSramWrite_keeps hP (State.freeNext_keeps hR hs0)) hs0) (ite_keeps (ite_keeps (busError_keeps hR hs0) (linkRamWrite_keeps hP (hR.upd hs0))) (ite_keeps (busError_keeps hR hs0) (ite_keeps (blockRamWrite_keeps hP (hR.upd hs0)) (regWrite_keeps hP (hR.upd hs0))))))

theorem execRegisterWrite_keeps (hP : Closed P) {a0 a1 a2 a3 s0} (hs0 : P s0) : OutAll P (execRegisterWrite a0 a1 a2 a3 s0) := by
  delta execRegisterWrite
  exact next_keeps (ite_keeps (busWrite_keeps hP hs0) hs0)

/-! ### RegRead -/

theorem busAnswer_keeps (hR : RegClosed P) {a0 s0} (hs0 : P s0) : P (busAnswer a0 s0) := by
  delta busAnswer; exact (hR.upd hs0)

theorem classRead_keeps (hR : RegClosed P) {a0 s0} (hs0 : P s0) : P (classRead a0 s0) := by
  delta classRead
  split
  · exact (busAnswer_keeps hR hs0)
  · extract_lets x0
    have h1 : P x0 := (hR.upd hs0)
    clear_value x0
    exact (ite_keeps h1 (State.wr_keeps hR h1))

theorem latchRead_keeps (hR : RegClosed P) {a0 a1 a2 s0} (hs0 : P s0) : P (latchRead a0 a1 a2 s0) := by
  delta latchRead; exact (busAnswer_keeps hR (State.setLatch_keeps hR hs0))

theorem creditRead_keeps (hR : RegClosed P) {a0 s0} (hs0 : P s0) : P (creditRead a0 s0) := by
  delta creditRead
  extract_lets x0 x1
  have h2 : P x0 := (bucketSettle_keeps hR (stepDebit_keeps hR (stepDebit_keeps hR hs0)))
  clear_value x0
  exact (latchRead_keeps hR h2)

theorem readRadio_keeps (hR : RegClosed P) {a0 s0} (hs0 : P s0) : P (readRadio a0 s0) := by
  delta readRadio
  exact (ite_keeps (ite_keeps (landed_keeps hR (execPanlastRead_keeps hR hs0) hs0) (hR.upd hs0)) (ite_keeps (latchRead_keeps hR hs0) (ite_keeps (hR.upd hs0) (ite_keeps (ite_keeps (creditRead_keeps hR hs0) (hR.upd hs0)) (classRead_keeps hR hs0)))))

theorem fifoRead_keeps (hR : RegClosed P) {a0 f1 s0} (hf1 : ∀ {y0 y1}, P y1 → P (f1 y0 y1)) (hs0 : P s0) :
    P (fifoRead a0 f1 s0) := by
  delta fifoRead
  split
  · exact (busAnswer_keeps hR (State.freeNext_keeps hR hs0))
  · exact (busAnswer_keeps hR (hf1 hs0))

theorem readPeriph_keeps (hR : RegClosed P) {a0 s0} (hs0 : P s0) : P (readPeriph a0 s0) := by
  delta readPeriph
  extract_lets x0
  exact (ite_keeps (landed_keeps hR (execUartRxPop_keeps hR hs0) hs0) (ite_keeps (fifoRead_keeps hR (fun h1 => (State.setSpi_keeps hR h1)) hs0) (ite_keeps (fifoRead_keeps hR (fun h2 => (State.setI2c_keeps hR h2)) hs0) (ite_keeps (landed_keeps hR (execAdcResultRead_keeps hR hs0) hs0) (ite_keeps (busAnswer_keeps hR (State.freeNext_keeps hR hs0)) (classRead_keeps hR hs0))))))

theorem readLife_keeps (hR : RegClosed P) {a0 s0} (hs0 : P s0) : P (readLife a0 s0) := by
  delta readLife
  exact (ite_keeps (landed_keeps hR (execLifeValRead_keeps hR hs0) hs0) (ite_keeps (landed_keeps hR (execLifeValRead_keeps hR hs0) hs0) (ite_keeps (hR.upd hs0) (classRead_keeps hR hs0))))

theorem regRead_keeps (hR : RegClosed P) {a0 s0} (hs0 : P s0) : P (regRead a0 s0) := by
  delta regRead
  exact (ite_keeps (landed_keeps hR (execTideNowloRead_keeps hR hs0) hs0) (ite_keeps (landed_keeps hR (execTrngDataRead_keeps hR hs0) hs0) (ite_keeps (landed_keeps hR (execEwfifoRead_keeps hR hs0) hs0) (ite_keeps (latchRead_keeps hR hs0) (ite_keeps (hR.upd hs0) (ite_keeps (readRadio_keeps hR hs0) (ite_keeps (readPeriph_keeps hR hs0) (ite_keeps (readLife_keeps hR hs0) (classRead_keeps hR hs0)))))))))

theorem romRead_keeps (hR : RegClosed P) {a0 a1 a2 a3 s0} (hs0 : P s0) : P (romRead a0 a1 a2 a3 s0) := by
  delta romRead
  extract_lets x0 x1
  have h2 : P x0 := cacheLookup_keeps hR hs0
  clear_value x0
  have h3 : P x1 := by
    unfold x1
    split
    · exact cacheFill_keeps hR h2
    · exact h2
  clear_value x1
  exact busAnswer_keeps hR h3

theorem busRead_keeps (hR : RegClosed P) {a0 a1 a2 a3 s0} (hs0 : P s0) : P (busRead a0 a1 a2 a3 s0) := by
  delta busRead
  extract_lets x0 x1
  exact ite_keeps (landed_keeps hR (execFlashRead_keeps hR (State.freeNext_keeps hR hs0)) hs0) (ite_keeps (landed_keeps hR (execSramRead_keeps hR (State.freeNext_keeps hR hs0)) hs0) (ite_keeps (ite_keeps (busError_keeps hR hs0) (romRead_keeps hR hs0)) (ite_keeps (ite_keeps (busError_keeps hR hs0) (busAnswer_keeps hR hs0)) (ite_keeps (busError_keeps hR hs0) (ite_keeps (busAnswer_keeps hR hs0) (regRead_keeps hR hs0))))))

theorem execRcRegisterRead_keeps (hR : RegClosed P) {a0 a1 a2 a3 s0} (hs0 : P s0) :
    OutAll P (execRcRegisterRead a0 a1 a2 a3 s0) := by
  delta execRcRegisterRead
  exact next_keeps (ite_keeps (busRead_keeps hR hs0) hs0)

theorem hostRefused_keeps (hR : RegClosed P) {a0 a1 s0} (hs0 : P s0) : P (hostRefused a0 a1 s0) := by
  delta hostRefused
  exact (State.fire_keeps hR (State.inc_keeps hR (State.put_keeps hR (State.flag_keeps hR hs0))))

theorem hostWrite_keeps (hP : Closed P) {a0 a1 s0} (hs0 : P s0) : P (hostWrite a0 a1 s0) := by
  have hR := hP.toRegClosed
  delta hostWrite
  extract_lets x0
  have h1 : P x0 := (busWrite_keeps hP hs0)
  clear_value x0
  split
  · exact (hostRefused_keeps hR hs0)
  · exact (ite_keeps (hostRefused_keeps hR h1) h1)

theorem hostGot_keeps (hR : RegClosed P) {a0 s0} (hs0 : P s0) : P (hostGot a0 s0).2 := by
  unfold hostGot
  generalize s0.bus = b
  cases b with
  | data w => exact hs0
  | waits => exact hs0
  | none => exact hostRefused_keeps hR hs0
  | done => exact hostRefused_keeps hR hs0
  | error => exact hostRefused_keeps hR hs0

theorem hostRead_keeps (hR : RegClosed P) {a0 s0} (hs0 : P s0) : P (hostRead a0 s0).2 := by
  delta hostRead
  split
  · exact (hostRefused_keeps hR hs0)
  · exact (hostGot_keeps hR (busRead_keeps hR hs0))

theorem hostWrites_keeps (hP : Closed P) {a0 a1 s0} (hs0 : P s0) : P (hostWrites a0 a1 s0) := by
  induction a1 generalizing a0 s0 with
  | nil => exact hs0
  | cons w t ih => exact ih (hostWrite_keeps hP hs0)

theorem hostUnder_keeps (hR : RegClosed P) {a0 s0} (hs0 : P s0) : P (hostUnder a0 s0).2 := by
  delta hostUnder; exact (State.inc_keeps hR (State.flag_keeps hR hs0))

theorem hostReads_keeps (hR : RegClosed P) {a0 a1 a2 s0} (hs0 : P s0) : P (hostReads a0 a1 a2 s0).2 := by
  induction a1 generalizing a0 a2 s0 with
  | zero => exact hs0
  | succ n ih =>
    cases a2 with
    | zero => exact hostUnder_keeps hR hs0
    | succ k =>
      unfold hostReads
      extract_lets r
      have hr : P r.2 := hostRead_keeps hR hs0
      split
      · exact hostUnder_keeps hR hr
      · exact ih hr

theorem hostEnd_keeps (hR : RegClosed P) {a0 a1 s0} (hs0 : P s0) : P (hostEnd a0 a1 s0) := by
  delta hostEnd
  exact (hostSync_keeps hR (ite_keeps (State.flag_keeps hR (hR.upd hs0)) (hR.upd hs0)))

theorem hostServe_keeps (hP : Closed P) {a0 a1 s0} (hs0 : P s0) : P (hostServe a0 a1 s0) := by
  have hR := hP.toRegClosed
  delta hostServe
  extract_lets x0 x1 x2 x3 x4 x5 x6 x7
  have h8 : P x3 := (State.inc_keeps hR hs0)
  clear_value x3
  have h9 : P x5 := (hostWrites_keeps hP h8)
  clear_value x5
  exact (ite_keeps (hostEnd_keeps hR h9) (hostEnd_keeps hR (hostReads_keeps hR h8)))

theorem execHostTransaction_keeps (hP : Closed P) {a0 a1 s0} (hs0 : P s0) : OutAll P (execHostTransaction a0 a1 s0) := by
  have hR := hP.toRegClosed
  delta execHostTransaction
  extract_lets x0 x1
  have h2 : P x1 := (State.fire_keeps hR hs0)
  clear_value x1
  refine ite_out_keeps ?_ ?_
  · refine next_keeps ?_
    exact (hR.upd hs0)
  · refine ite_out_keeps ?_ ?_
    · refine next_keeps ?_
      exact (hostEnd_keeps hR h2)
    · refine ite_out_keeps ?_ ?_
      · refine next_keeps ?_
        exact (hostEnd_keeps hR h2)
      · refine ite_out_keeps ?_ ?_
        · refine next_keeps ?_
          exact (hostEnd_keeps hR (State.flag_keeps hR h2))
        · refine next_keeps ?_
          exact (hostServe_keeps hP h2)

/-! ### Step -/

theorem idleStep_keeps (hP : Closed P) {s0} (hs0 : P s0) : P (idleStep s0) := by
  have hR := hP.toRegClosed
  delta idleStep
  exact ite_keeps (aonDue_keeps hP (tideTick_keeps hR hs0)) (backupTick_keeps hR hs0)

end Sys2Proof.Machine
end

