-- ==== Sys2Proof/WellFormed.lean ====
section
/-!
DEFINITION. When a command is well formed: its operands are ones that the step it stands for can bring. Operands with a
bound in their type need no check; exec is total and needs none of these.
-/

namespace Sys2Proof

/-- A bus write carries no bit above its width (R3). -/
def AccessSize.fits (size : AccessSize) (value : Word) : Bool :=
  match size with
  | .byte => decide (value.toNat < 2 ^ 8)
  | .half => decide (value.toNat < 2 ^ 16)
  | .word .. => true

/-- The fields of a Channel Sounding record have the widths of its step result (R371 to R373). -/
def CsRecord.wf (r : CsRecord) : Bool :=
  decide (r.mode < 4) && decide (r.chan < 79) && r.tones.all (fun t => t < 2 ^ 26)

/-- Is a command well formed: activity numbers below 152, a 16-bit supply voltage in mV, octet strings within the length
that their message can have? -/
def Instr.wf (i : Instr) : Bool :=
  match i with
  | .registerWrite _ _ size value => size.fits value
  | .rcRegisterRead .. => true
  | .clkcfgWrite .. => true
  | .pllLock .. => true
  | .backgroundStepRestart .. => true
  | .bootSequence .. => true
  | .saltcmtCommit .. => true
  | .patchStart .. => true
  | .patchLoadDone .. => true
  | .patchDiscard .. => true
  | .patchCommitTask .. => true
  | .cfgchkPassStart .. => true
  | .cfgchkGroupStep .. => true
  | .configReloadDone .. => true
  | .tideNowloRead .. => true
  | .tideCapture .. => true
  | .lfincMeasure ticks1024 => decide (ticks1024 < 2 ^ 32)
  | .d1PowerUp .. => true
  | .srcselWrite .. => true
  | .tideAdjWrite .. => true
  | .slewEnd .. => true
  | .parentLossTimeout .. => true
  | .holdmaxExpiry .. => true
  | .rxWindowClose act => decide (act < 152)
  | .gateFire .. => true
  | .gateRegisterWrite .. => true
  | .gateWakeRequest .. => true
  | .xtalFailDetect .. => true
  | .rc64Measure .. => true
  | .disciplineTimeout .. => true
  | .xtalReturn .. => true
  | .sluiceInputEdge .. => true
  | .firingBoundary .. => true
  | .firingEnd .. => true
  | .fabricFireWrite .. => true
  | .fabricQuarRelease .. => true
  | .fabricReleaseall .. => true
  | .portmapWrite .. => true
  | .portmapSwitch .. => true
  | .portSettled .. => true
  | .laneOwnerWrite .. => true
  | .laneSleep .. => true
  | .laneStandby .. => true
  | .laneSynth .. => true
  | .laneRx .. => true
  | .laneTx .. => true
  | .laneAbort .. => true
  | .laneTransitionDone .. => true
  | .synthLockTimeout .. => true
  | .stepwiseDwellExpiry .. => true
  | .stepwiseDutyExhaust .. => true
  | .paFault .. => true
  | .lbtListenEnd .. => true
  | .swtightWrite .. => true
  | .rfPairWrite .. => true
  | .healthPeriod .. => true
  | .laneHealthreq .. => true
  | .healthStepDone .. => true
  | .laneRetire .. => true
  | .laneTakeover .. => true
  | .laneRestore .. => true
  | .laneRolesReturn .. => true
  | .laneTempSample .. => true
  | .calreqWrite .. => true
  | .laneCalTask .. => true
  | .calStepStart .. => true
  | .calStepDone .. => true
  | .calRetryTimer .. => true
  | .xtrimWrite .. => true
  | .rc64Track .. => true
  | .slotinvWrite .. => true
  | .pancfgWrite .. => true
  | .panstop .. => true
  | .wbsnap .. => true
  | .agcBlock _ _ clips => decide (clips ≤ 16)
  | .panDetect .. => true
  | .panSync .. => true
  | .syncWindowClose .. => true
  | .hunterDetect .. => true
  | .headerDecision .. => true
  | .rxFrameEnd _ _ _ powers psdu => decide (powers.length ≤ 48) && decide (psdu.length ≤ 2047)
  | .afcApply .. => true
  | .panlastRead .. => true
  | .acceptFrame _ _ supply => decide (supply < 2 ^ 16)
  | .immediateAckLaunch _ supply => decide (supply < 2 ^ 16)
  | .ackReceived .. => true
  | .ackWindowClose act => decide (act < 152)
  | .retryTimer act _ _ => decide (act < 152)
  | .netkeyWrite .. => true
  | .netctrWrite .. => true
  | .ctxOpen .. => true
  | .ctxClose .. => true
  | .ctxRekey .. => true
  | .ctxSetpwr .. => true
  | .ctxSetmap .. => true
  | .ctxConnect .. => true
  | .ctxDisconnect .. => true
  | .ctxMemoryWrite _ _ size value => size.fits value
  | .tlArm .. => true
  | .tlCancel .. => true
  | .tlPresent .. => true
  | .activityLaunch act supply csSteps _ => decide (act < 152) && decide (supply < 2 ^ 16) && csSteps.all CsRecord.wf
  | .activityEnd act _ => decide (act < 152)
  | .rxqPop .. => true
  | .dackTimeout .. => true
  | .supervisionTimeout .. => true
  | .forwardLaunch _ _ supply _ => decide (supply < 2 ^ 16)
  | .tracestop .. => true
  | .connectReqReceived supply => decide (supply < 2 ^ 16)
  | .lePush .. => true
  | .leStageConnUpdate .. => true
  | .leStageChmap .. => true
  | .leStagePhy .. => true
  | .ringLock .. => true
  | .ringLos .. => true
  | .ringCycleStart .. => true
  | .ringTimeMsg octets _ => decide (octets.length ≤ 16)
  | .ringEventMsg _ octets => decide (octets.length ≤ 3)
  | .ringSluiceFire .. => true
  | .ringDataMsg octets => decide (octets.length ≤ 68)
  | .ringMbsend .. => true
  | .ringDataWindow .. => true
  | .surveyStart .. => true
  | .surveyStep .. => true
  | .surveyProbeTimeout .. => true
  | .surveyRetry .. => true
  | .ringJoin .. => true
  | .ringMasterListenEnd .. => true
  | .ringBrokenTimeout .. => true
  | .ringLeave .. => true
  | .linkCipherRequest .. => true
  | .aesBlockEnd .. => true
  | .cipherQtailWrite .. => true
  | .cipherFlush .. => true
  | .keyclrWrite .. => true
  | .cipherSelftestStart .. => true
  | .cipherRestore .. => true
  | .pkeClaimWrite .. => true
  | .pkeKeygen .. => true
  | .pkeEcdh .. => true
  | .pkeSign .. => true
  | .pkeVerify .. => true
  | .pkeValidate .. => true
  | .pkeOpDone .. => true
  | .shaInit .. => true
  | .shaData .. => true
  | .shaFinal .. => true
  | .shaDone .. => true
  | .trngDataRead .. => true
  | .trngHealthFail .. => true
  | .trngRestart .. => true
  | .trngReady .. => true
  | .drbgReseed .. => true
  | .keyAdmit .. => true
  | .keyDerive .. => true
  | .keyImport .. => true
  | .keyInvalidate .. => true
  | .keyRestrict .. => true
  | .keyRootgen .. => true
  | .keyCmdDone .. => true
  | .keySweepStep .. => true
  | .keyRefreshPass .. => true
  | .keyRefreshStep .. => true
  | .tamperDetect .. => true
  | .tamperLatchClear .. => true
  | .tamplockWrite .. => true
  | .lcRequest .. => true
  | .lcTransitionDone .. => true
  | .glRequest .. => true
  | .gl0EraseDone .. => true
  | .cpu1Start .. => true
  | .lockstepMismatch .. => true
  | .warmRestart .. => true
  | .sramRead .. => true
  | .sramWrite _ _ size value _ _ => size.fits value
  | .eccWriteback .. => true
  | .mergeDrain .. => true
  | .sramClear .. => true
  | .sramClearDone .. => true
  | .rakeRequest .. => true
  | .rakeStep .. => true
  | .rakeStop .. => true
  | .semWrite .. => true
  | .flashRead .. => true
  | .ewfifoRead .. => true
  | .flashProgramUnit .. => true
  | .flashUnitDone .. => true
  | .flashErase .. => true
  | .flashErasePulseEnd .. => true
  | .flashSuspend .. => true
  | .flashResume .. => true
  | .flashAutoResume .. => true
  | .flashDiscard .. => true
  | .wearHeaderWrite .. => true
  | .erasecntLoad .. => true
  | .pmuStateRequest .. => true
  | .pmuEntryStart .. => true
  | .pmuEntryDone .. => true
  | .wakeEvent .. => true
  | .wakeReadyStep .. => true
  | .wakeReadyTimeout .. => true
  | .xtalReady .. => true
  | .xtalStartTimeout .. => true
  | .excursionStart .. => true
  | .excursionEnd .. => true
  | .domctlWrite .. => true
  | .supplyDipStart .. => true
  | .supplyDipEnd .. => true
  | .brownOut .. => true
  | .vbatSwitch .. => true
  | .powerOn .. => true
  | .resetnPin .. => true
  | .debugResetRequest .. => true
  | .rstreqWarm .. => true
  | .rstreqSystem .. => true
  | .rstreqFull .. => true
  | .systemReset .. => true
  | .fullReset .. => true
  | .bootokConfirm .. => true
  | .drypanBeacon _ supply => decide (supply < 2 ^ 16)
  | .recoveryCommand payload => decide (payload.length ≤ 1024)
  | .cwdtKick .. => true
  | .cwdtExpiry .. => true
  | .lwdtKick .. => true
  | .lwdtExpiry .. => true
  | .gpioEdge .. => true
  | .gpioSet .. => true
  | .gpioClr .. => true
  | .gpioTgl .. => true
  | .uartTxPush .. => true
  | .uartRxChar .. => true
  | .uartRxPop .. => true
  | .uartRxTimeout .. => true
  | .spimStart .. => true
  | .spimDone _ miso => decide (miso.length ≤ 32)
  | .i2cStart .. => true
  | .i2cDone _ _ _ data => decide (data.length ≤ 16)
  | .tmrStart .. => true
  | .tmrStop .. => true
  | .tmrCapture .. => true
  | .tmrCompare .. => true
  | .tmrOverflow .. => true
  | .adcStart .. => true
  | .adcConversionDone .. => true
  | .adcStop .. => true
  | .adcResultRead .. => true
  | .canTxreq .. => true
  | .canTxabort .. => true
  | .canTxDone .. => true
  | .canFrameRx _ _ _ _ data _ _ => decide (data.length ≤ 64)
  | .canProtocolError .. => true
  | .canBusOff .. => true
  | .canBusoffRecovery .. => true
  | .hostTransaction mosi arrived => decide (arrived ≤ mosi.length / 4)
  | .hostMbset .. => true
  | .hostpIrqTask .. => true
  | .harvestDue .. => true
  | .harvestStart .. => true
  | .harvestUnitDone .. => true
  | .lifeTempSample .. => true
  | .lifeSecondTick .. => true
  | .lifeLoadEnd .. => true
  | .lifeValRead .. => true
  | .lfClockLoss .. => true
  | .xtalok .. => true
  | .uartTxdone .. => true

end Sys2Proof
end

