-- ==== Sys2Proof/Tests/Slice0.lean ====
section
/-!
SUPPORT. Tests: a malformed term for each check of WellFormed; values of the manual's worked examples and of published
vectors; one step on a small state per family; and, for every statement of Certificates/Slice0, states and operands that
meet its hypotheses together.
-/

open Sys2Proof Sys2Proof.Machine
set_option maxRecDepth 100000
set_option Elab.async false

namespace Sys2Proof.Tests

/-! ### Malformed commands -/

theorem test_wf_register_write : (Instr.registerWrite .cpu0 0 .half 0x10000).wf = false := by decide
theorem test_wf_lfinc : (Instr.lfincMeasure (2 ^ 32)).wf = false := by decide
theorem test_wf_rx_window : (Instr.rxWindowClose 152).wf = false := by decide
theorem test_wf_ack_window : (Instr.ackWindowClose 152).wf = false := by decide
theorem test_wf_retry : (Instr.retryTimer 152 0 false).wf = false := by decide
theorem test_wf_activity_end : (Instr.activityEnd 152 0).wf = false := by decide
theorem test_wf_launch_act : (Instr.activityLaunch 152 0 [] false).wf = false := by decide
theorem test_wf_launch_supply : (Instr.activityLaunch 0 65536 [] false).wf = false := by decide
theorem test_wf_launch_steps : (Instr.activityLaunch 0 0 [⟨4, 0, 0, 0, 0, []⟩] false).wf = false := by decide
theorem test_wf_launch_steps_chan : (Instr.activityLaunch 0 0 [⟨0, 79, 0, 0, 0, []⟩] false).wf = false := by decide
theorem test_wf_launch_steps_tone : (Instr.activityLaunch 0 0 [⟨0, 0, 0, 0, 0, [2 ^ 26]⟩] false).wf = false := by decide
theorem test_wf_agc : (Instr.agcBlock 0 0 17).wf = false := by decide
theorem test_wf_rx_powers : (Instr.rxFrameEnd 0 0 0 (List.replicate 49 (0, 0)) []).wf = false := by decide
theorem test_wf_rx_psdu : (Instr.rxFrameEnd 0 0 0 [] (List.replicate 2048 0)).wf = false := by decide +kernel
theorem test_wf_accept : (Instr.acceptFrame 0 false 65536).wf = false := by decide
theorem test_wf_imm_ack : (Instr.immediateAckLaunch 0 65536).wf = false := by decide
theorem test_wf_forward : (Instr.forwardLaunch 0 0 65536 false).wf = false := by decide
theorem test_wf_connect_req : (Instr.connectReqReceived 65536).wf = false := by decide
theorem test_wf_beacon : (Instr.drypanBeacon true 65536).wf = false := by decide
theorem test_wf_ctx_write : (Instr.ctxMemoryWrite 0 0 .byte 256).wf = false := by decide
theorem test_wf_sram_write : (Instr.sramWrite .cpu0 0 .byte 256 false 0).wf = false := by decide
theorem test_wf_ring_time : (Instr.ringTimeMsg (List.replicate 17 0) 0).wf = false := by decide
theorem test_wf_ring_event : (Instr.ringEventMsg 0 (List.replicate 4 0)).wf = false := by decide
theorem test_wf_ring_data : (Instr.ringDataMsg (List.replicate 69 0)).wf = false := by decide
theorem test_wf_recovery : (Instr.recoveryCommand (List.replicate 1025 0)).wf = false := by decide +kernel
theorem test_wf_spim : (Instr.spimDone 0 (List.replicate 33 0)).wf = false := by decide
theorem test_wf_i2c : (Instr.i2cDone 0 false 0 (List.replicate 17 0)).wf = false := by decide
theorem test_wf_can : (Instr.canFrameRx 0 0 false false (List.replicate 65 0) 0 0).wf = false := by decide
theorem test_wf_host : (Instr.hostTransaction [0x0B] 1).wf = false := by decide

/-! ### Worked examples of the manual, and published vectors -/

/-- Table PHY-15: the airtime of its five frames. -/
theorem test_airtime :
    airtime 100 116 2 0 0 = 17280 ∧ airtime 100 48 0 0 0 = 44928 ∧ airtime 20 48 0 2 1 = 224640
    ∧ airtime 1024 48 0 2 1 = 7937280 ∧ airtime 1024 192 3 0 0 = 65664 := by decide

/-- The table of the loading example (Table PHY-13). -/
def exampleTable : List Nat := List.replicate 16 3 ++ List.replicate 24 2 ++ List.replicate 4 1 ++ List.replicate 4 0

/-- Table PHY-13: rate 3/4 wins, with 116 coded bits a symbol. -/
theorem test_loading_derivation :
    derive (List.replicate 16 10 ++ List.replicate 24 7 ++ List.replicate 4 5 ++ List.replicate 4 2) 2 = some (exampleTable, 2)
    ∧ ncbpsOf exampleTable = 116 := by decide +kernel

/-- Table PHY-10: the places of selected coded bits. -/
theorem test_interleaver :
    [0, 1, 2, 3, 7, 11, 41, 43, 44, 81, 83, 84, 99, 100, 115].map (fun n => (fillOrder exampleTable).getD n (0, 0))
      = [(0, 0), (13, 0), (26, 0), (39, 0), (43, 0), (12, 0), (9, 0), (35, 0), (0, 1), (9, 1), (35, 1), (0, 2), (9, 2), (0, 3),
        (9, 3)] := by decide +kernel

/-- Chapter 10, the worked example of header octets: the 18 octets in air order, and the nonce. -/
theorem test_header_octets :
    txHead ((State.reset.put Fld.LINK_ADDR_NETID 0x5A01).put Fld.LINK_ADDR_SHORT 0x0A17)
        { dst := 0x0042, kid := 0, micsz := 2, fbreq := true } 0x3E9 0x123456789A
      = [0x34, 0x08, 0x01, 0x5A, 0x9A, 0x78, 0x56, 0x34, 0x12, 0x42, 0x00, 0x17, 0x0A, 0xE9, 0x03, 0x00, 0x00, 0x00]
    ∧ omlNonce false 0x0A17 0x3E9 0x123456789A 0
      = [0x00, 0x17, 0x0A, 0xE9, 0x03, 0x00, 0x00, 0x9A, 0x78, 0x56, 0x34, 0x12, 0x00] := by decide +kernel

/-- The settled window of the guard example: from 25,120 to 23,072 ticks before t. -/
theorem test_guard_window :
    rxWindow (((((State.reset.setCtx 0 CF.ANCHORVALID 1).setCtx 0 CF.ANCHOR 0).setCtx 0 CF.OFS (2 ^ 24 - 6144)).setCtx 0 CF.DRIFT
        (2 ^ 16 - 800)).setCtx 0 CF.UNC 2) 0 1920000000 1920000000 = (1920000000 - 25120, 1920000000 - 23072) := by
  decide +kernel

/-- A context with HWM 1000 and map 1011 in binary, and a frame of counter n: the replay example (Table OML-5). -/
def replayState : State := ((State.reset.setCtx 0 CF.RPVALID 1).setCtx 0 CF.HWM 1000).setCtx 0 CF.RPMAP 0xB
def replayFrame (n : Nat) : OmlFrame := { omlParse 0 false [] with fcnt := n, kid := 0 }

/-- Table OML-5: 1001 is new; 997 and 999 have been accepted; 998 has not; 936 is old. -/
theorem test_replay :
    [1001, 999, 997, 998, 936].map (fun n => replayCheck replayState (some 0) (replayFrame n) 0 true)
      = [0, 0x020B, 0x020B, 0, 0x020A] := by decide +kernel

/-- Table RING-4: N2 relays what N1 sent with ACC 10 after a segment of 12. -/
theorem test_ring_acc :
    timeParse (timeMsg { stratum := 3, gap := false, surveyed := true, hops := 1, t := 640, acc := 662, evsum := 0 })
      = some { stratum := 3, gap := false, surveyed := true, hops := 1, t := 640, acc := 662, evsum := 0 } := by
  decide +kernel

/-- FIPS 180-4, SHA-256 of "abc". -/
theorem test_sha256 :
    sha256 [0x61, 0x62, 0x63] = bytesBE 32 0xBA7816BF8F01CFEA414140DE5DAE2223B00361A396177A9CB410FF61F20015AD := by decide +kernel

/-- FIPS 197, appendix C: AES-128 and AES-256. -/
theorem test_aes :
    aesEncrypt (bytesBE 16 0x000102030405060708090A0B0C0D0E0F) (bytesBE 16 0x00112233445566778899AABBCCDDEEFF)
      = bytesBE 16 0x69C4E0D86A7B0430D8CDB78070B4C55A
    ∧ aesEncrypt (bytesBE 32 0x000102030405060708090A0B0C0D0E0F101112131415161718191A1B1C1D1E1F)
        (bytesBE 16 0x00112233445566778899AABBCCDDEEFF) = bytesBE 16 0x8EA2B7CA516745BFEAFC49904B496089 := by decide +kernel

/-- RFC 4493, example 2: AES-CMAC of one block. -/
theorem test_cmac :
    aesCmac (bytesBE 16 0x2B7E151628AED2A6ABF7158809CF4F3C) (bytesBE 16 0x6BC1BEE22E409F96E93D7E117393172A)
      = bytesBE 16 0x070A16B46B4D4144F79BDD9DD04A287C := by decide +kernel

/-- The check value of the CRC-32 of R40 over "123456789". -/
theorem test_crc32 : crc32 [0x31, 0x32, 0x33, 0x34, 0x35, 0x36, 0x37, 0x38, 0x39] = 0xCBF43926#32 := by decide +kernel

/-! ### One step each -/

/-- A property of the next state. -/
def after (o : Out) (p : State → Bool) : Bool :=
  match o with
  | .next t => p t
  | _ => false

/-- SRAM with its group not clearing. -/
def sramOpen : State := State.reset.unflag (Fld.MEMCTL_GRPSTAT_CLEARING 0)

/-- The merge example of the chapter on SRAM, accesses 1 and 3: a byte waits; the last missing byte fills the entry, which drains. -/
theorem test_merge_waits :
    after (exec (.sramWrite .cpu0 0x20000100 .byte 0xAB false 0) sramOpen) (fun t =>
      t.mem == [] && (t.sramGrp 0).merge == [{ word := 0x20000100, mask := 1, octets := [0xAB, 0, 0, 0], block := 0xB }]) = true := by
  decide +kernel
theorem test_merge_drains :
    after (exec (.sramWrite .cpu0 0x20000101 .byte 0xCD false 0)
        { sramOpen with sram := { groups := [{ merge := [{ word := 0x20000100, mask := 13, octets := [0xAB, 0, 0x34, 0x12], block := 0xB }] }, {}, {}] } })
      (fun t => t.bytes 0x20000100 4 == [0xAB, 0xCD, 0x34, 0x12] && t.sramValid 0x20000100 && (t.sramGrp 0).merge == []) = true := by
  decide +kernel

/-- R17: 128 MHz undivided is refused, halved by BUSDIV it is taken. -/
theorem test_clkcfg :
    after (exec (.clkcfgWrite 1) State.reset) (fun t => t == State.reset) = true
    ∧ after (exec (.clkcfgWrite 3) State.reset) (fun t => t.has Fld.SYSCFG_CLKCFG_PLLEN) = true := by decide +kernel

/-- R114: a one-shot gate that is due gives its sluice one edge and is disarmed. -/
theorem test_gate :
    after (exec (.gateFire 3) ((State.reset.flag (Fld.TIDE_GATE_CTL_EN 3)).put (Fld.TIDE_GATE_CTL_SLUICE 3) 77)) (fun t =>
      t.edges == State.reset.edges ++ [.direct 77] && !t.has (Fld.TIDE_GATE_CTL_EN 3)) = true := by decide +kernel

/-- R138: a sluice with SWFIRE = 0 does not fire and sets SWREJ. -/
theorem test_software_fire :
    after (exec (.fabricFireWrite 1 0x80000000) State.reset) (fun t =>
      t.edges == State.reset.edges && t.has Fld.FABRIC_ERR_SWREJ) = true := by decide +kernel

/-- R533: OFF without its key is turned away with 0x0712. -/
theorem test_power_request :
    after (exec (.pmuStateRequest 5) State.reset) (fun t => t.get Fld.PMU_LASTREF_CODE == 0x0712 && t.get Fld.PMU_REQ_STATE == 0) = true := by
  decide +kernel

/-- R475: a word that is not aligned to the bus access gives a bus error. -/
theorem test_bus_error :
    after (exec (.sramRead .cpu0 0x20000002 .word false 0 none none) sramOpen) (fun t => t.bus == .error) = true := by decide +kernel

/-- R490: a held semaphore is not taken by another master; its holder releases it. -/
theorem test_semaphore :
    after (exec (.semWrite 4 .cpu0 true) State.reset) (fun t => t.get (Fld.MEMCTL_SEM_OWNER 4) == 0x0B) = true
    ∧ after (exec (.semWrite 4 .cpu1 true) (State.reset.wr (Reg.MEMCTL_SEM 4) 0x0B01)) (fun t => t.get (Fld.MEMCTL_SEM_OWNER 4) == 0x0B)
      = true := by decide +kernel

/-- R551: requests pending together take the broader scope and both causes. -/
theorem test_reset_merge :
    after (exec .resetnPin { State.reset with boot := { scope := 3, causes := 1 } }) (fun t => t.boot.scope == 3 && t.boot.causes == 5)
      = true := by decide +kernel

/-- R574: a rising edge fires only where GPIO_EDGE selects it. -/
theorem test_gpio_edge :
    after (exec (.gpioEdge 9 true) (State.reset.put (Fld.GPIO_EDGE_EDGE 9) 1)) (fun t =>
      t.edges == State.reset.edges ++ [.producer (EV.GPIO_EDGE 9)]) = true
    ∧ after (exec (.gpioEdge 9 true) (State.reset.put (Fld.GPIO_EDGE_EDGE 9) 2)) (fun t => t.edges == State.reset.edges) = true := by
  decide +kernel

/-- The queue: a step runs its front command and keeps the rest. -/
theorem test_queue :
    after (step { State.reset with pending := [.clkcfgWrite 3, .pllLock] }) (fun t =>
      t.pending == [.pllLock] && t.has Fld.SYSCFG_CLKCFG_PLLEN) = true := by decide +kernel

end Sys2Proof.Tests

/-! ### What the statements assume can be met -/

namespace Sys2Proof.Tests.Whole

def lf : State := State.reset.flag Fld.TIDE_STAT_LFMODE
def sl : State := { State.reset with tide := { State.reset.tide with slewLeft := 5, slew := -7 } }
def st1 : State := { State.reset with regs := [] }.put Fld.PMU_DOMSTAT_ON 1


/-- A state and operands that meet the hypotheses of Obligations.IdleStepTicksTideClock, clause by clause. -/
theorem witness_IdleStepTicksTideClock :
    ((st1.pending = []) ∧ (st1.domOn 1 = false))
    ∧ ((lf.pending = []) ∧ (lf.domOn 1 = true) ∧ (lf.lfMode = true ∨ ∀ a ∈ lf.acts, a.phase = ActPhase.presented → a.listening = true) ∧ (lf.lfMode = true → (lf.get Fld.TIDE_LFINC_INC * 2 ^ 16 : Nat) = lf.get Fld.TIDE_LFINC_INC * 2 ^ 16) ∧ (lf.lfMode = false → lf.tide.slewLeft = 0 → ↑(lf.get Fld.TIDE_LFINC_INC * 2 ^ 16 : Nat) = 2 ^ 32 + lf.rate) ∧ (lf.lfMode = false → lf.tide.slewLeft ≠ 0 → (lf.get Fld.TIDE_LFINC_INC * 2 ^ 16 : Nat) = (2 ^ 32 + lf.rate + lf.tide.slew).toNat))
    ∧ ((State.reset.pending = []) ∧ (State.reset.domOn 1 = true) ∧ (State.reset.lfMode = true ∨ ∀ a ∈ State.reset.acts, a.phase = ActPhase.presented → a.listening = true) ∧ (State.reset.lfMode = true → (2 ^ 32 : Nat) = State.reset.get Fld.TIDE_LFINC_INC * 2 ^ 16) ∧ (State.reset.lfMode = false → State.reset.tide.slewLeft = 0 → ↑(2 ^ 32 : Nat) = 2 ^ 32 + State.reset.rate) ∧ (State.reset.lfMode = false → State.reset.tide.slewLeft ≠ 0 → (2 ^ 32 : Nat) = (2 ^ 32 + State.reset.rate + State.reset.tide.slew).toNat))
    ∧ ((sl.pending = []) ∧ (sl.domOn 1 = true) ∧ (sl.lfMode = true ∨ ∀ a ∈ sl.acts, a.phase = ActPhase.presented → a.listening = true) ∧ (sl.lfMode = true → (2 ^ 32 - 7 : Nat) = sl.get Fld.TIDE_LFINC_INC * 2 ^ 16) ∧ (sl.lfMode = false → sl.tide.slewLeft = 0 → ↑(2 ^ 32 - 7 : Nat) = 2 ^ 32 + sl.rate) ∧ (sl.lfMode = false → sl.tide.slewLeft ≠ 0 → (2 ^ 32 - 7 : Nat) = (2 ^ 32 + sl.rate + sl.tide.slew).toNat)) :=
  ⟨by decide +kernel, by decide +kernel, by decide +kernel, by decide +kernel⟩

/-- A state and operands that meet the hypotheses of Obligations.StepKeepsCanonical, clause by clause. -/
theorem witness_StepKeepsCanonical : State.reset.Canonical := by
  unfold State.Canonical
  decide +kernel

/-- A state and operands that meet the hypotheses of Obligations.CommandsWithoutStoreLeaveMemory, clause by clause. -/
theorem witness_CommandsWithoutStoreLeaveMemory :
    (mayStore Instr.ringLock = false) := by
  decide +kernel

end Sys2Proof.Tests.Whole

namespace Sys2Proof.Tests.Tide

abbrev r := State.reset
def gateW : State := ((State.reset.flag (Fld.TIDE_GATE_CTL_EN 31)).setGateT 31 5).put (Fld.TIDE_GATE_CTL_SLUICE 31) 200
def st1 : State := State.reset.flag Fld.SYSCFG_CLKCFG_PLLEN
def st5 : State := { gateW with tide := { acc := 2^32 * 5 } }
def st6 : State := { gateW.put (Fld.TIDE_GATE_PER_PER 31) 9 with tide := { acc := 2^32 * 8 } }
def st7 : State := (gateW.flag (Fld.TIDE_GATE_CTL_WAKE 31)).flag Fld.TIDE_STAT_LFMODE
def st8 : State := State.reset.flag Fld.TIDE_STAT_PVALID
def st9 : State := State.reset.put Fld.TIDE_STAT_STRATUM 3
def st10 : State := State.reset.put Fld.TIDE_STAT_STRATUM 15
def st12 : State := { State.reset.put Fld.TIDE_STAT_STRATUM 15 with tide := { acc := 2 ^ 33 } }


/-- A state and operands that meet the hypotheses of Obligations.ClockWriteAboveLimitIgnored, clause by clause. -/
theorem witness_ClockWriteAboveLimitIgnored :
    ((64 < (if BitVec.toNat (1 : Word) % 2 = 1 then 128 else 64) / 2 ^ (BitVec.toNat (1 : Word) / 4 % 4) / 2 ^ (BitVec.toNat (1 : Word) / 2 % 2)))
    ∧ ((busMHz (State.reset.get Fld.SYSCFG_CLKCFG_PLLEN) (State.reset.get Fld.SYSCFG_CLKCFG_BUSDIV) (State.reset.get Fld.SYSCFG_CLKCFG_CPUDIV) ≤ 64)) :=
  ⟨by decide +kernel, by decide +kernel⟩

/-- A state and operands that meet the hypotheses of Obligations.ClockAndBackgroundWork, clause by clause. -/
theorem witness_ClockAndBackgroundWork_1 :
    ((busMHz (BitVec.toNat (3 : Word) % 2) (BitVec.toNat (3 : Word) / 2 % 2) (BitVec.toNat (3 : Word) / 4 % 4) ≤ 64))
    ∧ ((st1.has Fld.SYSCFG_CLKCFG_PLLEN = true))
    ∧ ((State.reset.lfMode = false) ∧ ((2 ^ 26 - 1) * 64 < 2 ^ 32)) :=
  ⟨by decide +kernel, by decide +kernel, by decide +kernel⟩

/-- A state and operands that meet the hypotheses of Obligations.GateFires, clause by clause. -/
theorem witness_GateFires :
    ((gateW.has (Fld.TIDE_GATE_CTL_EN 31) = true) ∧ (gateW.gateHeld 31 = false) ∧ (gateW.gateStepped 31 = false) ∧ (gateW.gateLateNext 31 = false) ∧ (gateW.now < gateW.gateT 31))
    ∧ ((st5.has (Fld.TIDE_GATE_CTL_EN 31) = true) ∧ (st5.gateHeld 31 = false) ∧ (st5.gateStepped 31 = false) ∧ (st5.gateLateNext 31 = false) ∧ (st5.gateT 31 ≤ st5.now))
    ∧ ((st6.has (Fld.TIDE_GATE_CTL_EN 31) = true) ∧ (st6.gateHeld 31 = false) ∧ (st6.gateStepped 31 = false) ∧ (st6.gateLateNext 31 = false) ∧ (st6.gateT 31 ≤ st6.now)) :=
  ⟨by decide +kernel, by decide +kernel, by decide +kernel⟩

/-- A state and operands that meet the hypotheses of Obligations.GateRegisterWrites, clause by clause. -/
theorem witness_GateRegisterWrites :
    ((gateW.has (Fld.TIDE_GATE_CTL_EN 31) = true))
    ∧ ((State.reset.has (Fld.TIDE_GATE_CTL_EN 31) = false) ∧ ((1 : Fin 4) = 0 ∧ (Reg.TIDE_GATE_THI 31) = Reg.TIDE_GATE_TLO 31 ∨ (1 : Fin 4) = 1 ∧ (Reg.TIDE_GATE_THI 31) = Reg.TIDE_GATE_THI 31 ∨ (1 : Fin 4) = 2 ∧ (Reg.TIDE_GATE_THI 31) = Reg.TIDE_GATE_PER 31))
    ∧ ((BitVec.toNat (65294 : Word) % 2 = 0))
    ∧ ((st7.lfMode = true) ∧ (st7.has (Fld.TIDE_GATE_CTL_EN 31) = true) ∧ (st7.has (Fld.TIDE_GATE_CTL_WAKE 31) = true) ∧ (st7.gateHeld 31 = false) ∧ (st7.gateT 31 ≤ st7.now + st7.get Fld.TIDE_WAKELEAD_LEAD)) :=
  ⟨by decide +kernel, by decide +kernel, by decide +kernel, by decide +kernel⟩

/-- A state and operands that meet the hypotheses of Obligations.TideSourceAndSteps, clause by clause. -/
theorem witness_TideSourceAndSteps :
    ((st8.get Fld.TIDE_CFG_SRCSEL = 0) ∧ (st8.has Fld.TIDE_STAT_PVALID = true))
    ∧ ((st9.get Fld.TIDE_CFG_SRCSEL ≠ 2) ∧ (st9.stratum ≠ 15))
    ∧ ((BitVec.toNat (2 : Word) % 4 = 2) ∧ (st10.get Fld.TIDE_CFG_SRCSEL ≠ 2))
    ∧ ((st10.get Fld.TIDE_CFG_SRCSEL = 2 ∨ st10.stratum = 15) ∧ (0 ≤ ↑st10.now + BitVec.toInt (1000 : Word)) ∧ (∀ n < 64, st10.tl n TF.VALID = 0))
    ∧ ((st12.get Fld.TIDE_CFG_SRCSEL = 2 ∨ st12.stratum = 15) ∧ (0 ≤ ↑st12.now + BitVec.toInt (4294967294 : Word)) ∧ (∀ n < 64, st12.tl n TF.VALID = 0)) :=
  ⟨by decide +kernel, by decide +kernel, by decide +kernel, by decide +kernel, by decide +kernel⟩

end Sys2Proof.Tests.Tide

namespace Sys2Proof.Tests.Fabric

def cm : State := State.reset.flag Fld.SYSCFG_SALTSTAT_COMMITTED
def edgeIn (v : Sluice) : State := { cm.put (Fld.FABRIC_SLCFG_GOVRATE 255) 1 with edges := [.direct 255], sluices := [(255, v)] }
abbrev eIdle : State := edgeIn {}
abbrev eTrip : State := edgeIn { hist := [0] }
abbrev eRefr : State := edgeIn { phase := .refractory }
abbrev eMerge : State := edgeIn { phase := .refractory, pending := true }
abbrev eJoin : State := edgeIn { phase := .flight }
abbrev eQuar : State := (edgeIn {}).putBit (Reg.FABRIC_QUAR 7) 31 true
def fire0 (c : List Nat) : State := { cm.flag (Fld.FABRIC_SLCFG_WATCH 255) with sluices := [(255, { phase := .flight, consumers := c })] }
def firR (p : Bool) : State := { cm.put (Fld.FABRIC_SLCFG_GOVRATE 255) 1 with sluices := [(255, { phase := .refractory, consumers := [0], pending := p })] }
def st1 : State := fire0 []
def st2 : State := fire0 [0x162]
def st3 : State := fire0 [0x10]
def st4 : State := firR false
def st5 : State := firR true
def st6 : State := { fire0 [163] with tasks := [164] }
def st7 : State := { fire0 [353] with tasks := [354] }


/-- A state and operands that meet the hypotheses of Obligations.EdgeMeetsSluice, clause by clause. -/
theorem witness_EdgeMeetsSluice_1 :
    ((eIdle.committed = true) ∧ (eIdle.domOn 1 = true) ∧ (eIdle.edges = [Edge.direct 255]) ∧ (eIdle.quarantined 255 = false) ∧ ((eIdle.sluice 255).phase = SluicePhase.idle) ∧ (governorTrips eIdle 255 = false))
    ∧ ((eTrip.committed = true) ∧ (eTrip.domOn 1 = true) ∧ (eTrip.edges = [Edge.direct 255]) ∧ (eTrip.quarantined 255 = false) ∧ ((eTrip.sluice 255).phase = SluicePhase.idle) ∧ (governorTrips eTrip 255 = true))
    ∧ ((eRefr.committed = true) ∧ (eRefr.domOn 1 = true) ∧ (eRefr.edges = [Edge.direct 255]) ∧ (eRefr.quarantined 255 = false) ∧ ((eRefr.sluice 255).phase = SluicePhase.refractory) ∧ ((eRefr.sluice 255).pending = false))
    ∧ ((eMerge.committed = true) ∧ (eMerge.domOn 1 = true) ∧ (eMerge.edges = [Edge.direct 255]) ∧ (eMerge.quarantined 255 = true ∧ Fld.FABRIC_SLCNT_MERGED 255 = Fld.FABRIC_SLCNT_QDROP 255 ∨ eMerge.quarantined 255 = false ∧ (eMerge.sluice 255).phase = SluicePhase.refractory ∧ (eMerge.sluice 255).pending = true ∧ Fld.FABRIC_SLCNT_MERGED 255 = Fld.FABRIC_SLCNT_MERGED 255 ∨ eMerge.quarantined 255 = false ∧ (eMerge.sluice 255).phase = SluicePhase.flight ∧ (eMerge.sluice 255).consumers = [] ∧ Fld.FABRIC_SLCNT_MERGED 255 = Fld.FABRIC_SLCNT_JOINED 255))
    ∧ ((eJoin.committed = true) ∧ (eJoin.domOn 1 = true) ∧ (eJoin.edges = [Edge.direct 255]) ∧ (eJoin.quarantined 255 = true ∧ Fld.FABRIC_SLCNT_JOINED 255 = Fld.FABRIC_SLCNT_QDROP 255 ∨ eJoin.quarantined 255 = false ∧ (eJoin.sluice 255).phase = SluicePhase.refractory ∧ (eJoin.sluice 255).pending = true ∧ Fld.FABRIC_SLCNT_JOINED 255 = Fld.FABRIC_SLCNT_MERGED 255 ∨ eJoin.quarantined 255 = false ∧ (eJoin.sluice 255).phase = SluicePhase.flight ∧ (eJoin.sluice 255).consumers = [] ∧ Fld.FABRIC_SLCNT_JOINED 255 = Fld.FABRIC_SLCNT_JOINED 255)) :=
  ⟨by decide +kernel, by decide +kernel, by decide +kernel, by decide +kernel, by decide +kernel⟩

/-- A state and operands that meet the hypotheses of Obligations.EdgeMeetsSluice, clause by clause. -/
theorem witness_EdgeMeetsSluice_2 :
    (eQuar.committed = true) ∧ (eQuar.domOn 1 = true) ∧ (eQuar.edges = [Edge.direct 255]) ∧ (eQuar.quarantined 255 = true ∧ Fld.FABRIC_SLCNT_QDROP 255 = Fld.FABRIC_SLCNT_QDROP 255 ∨ eQuar.quarantined 255 = false ∧ (eQuar.sluice 255).phase = SluicePhase.refractory ∧ (eQuar.sluice 255).pending = true ∧ Fld.FABRIC_SLCNT_QDROP 255 = Fld.FABRIC_SLCNT_MERGED 255 ∨ eQuar.quarantined 255 = false ∧ (eQuar.sluice 255).phase = SluicePhase.flight ∧ (eQuar.sluice 255).consumers = [] ∧ Fld.FABRIC_SLCNT_QDROP 255 = Fld.FABRIC_SLCNT_JOINED 255) := by
  decide +kernel

/-- A state and operands that meet the hypotheses of Obligations.FiringReachesConsumers, clause by clause. -/
theorem witness_FiringReachesConsumers_1 :
    ((st1.domOn 1 = true) ∧ (∀ k < 16, st1.ringSend k = true → st1.ringMap k ≠ some 255) ∧ ((st1.sluice 255).phase = SluicePhase.flight) ∧ ((st1.sluice 255).consumers = []))
    ∧ ((st2.domOn 1 = true) ∧ (∀ k < 16, st2.ringSend k = true → st2.ringMap k ≠ some 255) ∧ ((st2.sluice 255).phase = SluicePhase.flight) ∧ ((st2.sluice 255).consumers = [354]) ∧ (taskCore st2 354 = none) ∧ (163 ≤ 354 → 354 < 355) ∧ (∀ j ∈ st2.tasks, taskLosesTo 354 j = false ∧ taskLosesTo j 354 = false))
    ∧ ((st3.domOn 1 = true) ∧ (∀ k < 16, st3.ringSend k = true → st3.ringMap k ≠ some 255) ∧ ((st3.sluice 255).phase = SluicePhase.flight) ∧ ((st3.sluice 255).consumers = [16]) ∧ (taskCore st3 16 = none) ∧ (163 ≤ 16 → 16 < 355) ∧ (∀ j ∈ st3.tasks, taskLosesTo 16 j = false ∧ taskLosesTo j 16 = false))
    ∧ ((st6.domOn 1 = true) ∧ (∀ k < 16, st6.ringSend k = true → st6.ringMap k ≠ some 255) ∧ ((st6.sluice 255).phase = SluicePhase.flight) ∧ ((st6.sluice 255).consumers = [163]) ∧ (st6.tasks = [164]) ∧ (st6.domOn (taskDomain st6 163) = true) ∧ (taskLosesTo 163 164 = true ∧ 164 = 164 ∧ 163 = 163 ∨ taskLosesTo 164 163 = true ∧ 164 = 163 ∧ 163 = 164))
    ∧ ((st7.domOn 1 = true) ∧ (∀ k < 16, st7.ringSend k = true → st7.ringMap k ≠ some 255) ∧ ((st7.sluice 255).phase = SluicePhase.flight) ∧ ((st7.sluice 255).consumers = [353]) ∧ (st7.tasks = [354]) ∧ (st7.domOn (taskDomain st7 353) = true) ∧ (taskLosesTo 353 354 = true ∧ 353 = 354 ∧ 354 = 353 ∨ taskLosesTo 354 353 = true ∧ 353 = 353 ∧ 354 = 354)) :=
  ⟨by decide +kernel, by decide +kernel, by decide +kernel, by decide +kernel, by decide +kernel⟩

/-- A state and operands that meet the hypotheses of Obligations.FiringReachesConsumers, clause by clause. -/
theorem witness_FiringReachesConsumers_2 :
    ((st4.domOn 1 = true) ∧ (∀ k < 16, st4.ringSend k = true → st4.ringMap k ≠ some 255) ∧ ((st4.sluice 255).phase = SluicePhase.refractory) ∧ ((st4.sluice 255).pending = false))
    ∧ ((st5.domOn 1 = true) ∧ (∀ k < 16, st5.ringSend k = true → st5.ringMap k ≠ some 255) ∧ ((st5.sluice 255).phase = SluicePhase.refractory) ∧ ((st5.sluice 255).pending = true) ∧ (governorTrips st5 255 = false)) :=
  ⟨by decide +kernel, by decide +kernel⟩

end Sys2Proof.Tests.Fabric

namespace Sys2Proof.Tests.Salt

def cm : State := State.reset.flag Fld.SYSCFG_SALTSTAT_COMMITTED
def patchImage (record : List Byte) : List Byte :=
  let len := 32 + record.length + 68
  let body := bytesLE 4 0x544C4153 ++ bytesLE 2 1 ++ bytesLE 2 3 ++ bytesLE 4 len ++ bytesLE 4 1
    ++ bytesLE 2 (State.reset.get Fld.SYSCFG_ID_PARTNO) ++ [BitVec.ofNat 8 (State.reset.get Fld.SYSCFG_ID_MAJOR), 1] ++ bytesLE 4 (len - 64) ++ bytesLE 4 0 ++ bytesLE 4 0 ++ record
  body ++ bytesLE 4 (crc32 body).toNat ++ List.replicate 64 0
def recGate : List Byte := [9, 1, 0, 0] ++ bytesLE 2 12 ++ bytesLE 2 1 ++ [31, 255, 0, 0] ++ bytesLE 4 1 ++ bytesLE 4 0
def recRf : List Byte := [0x0B, 1, 0, 0] ++ bytesLE 2 8 ++ bytesLE 2 1 ++ bytesLE 8 0
def withImage (a : Nat) (r : List Byte) : State := { State.reset.setBytes a (patchImage r) with salt := { load := some (a, 1) } }
def committedRf : CfgRecord := { type := 0x0B, body := (recRf.drop 8), source := some 0x100, crc := crc32 recRf }
def reloadS : State := { State.reset.setBytes 0x100 (patchImage recRf) with salt := { reloading := some (0x0B, 3), records := [committedRf] } }
def noLoad : State := { State.reset with salt := { load := some (0, 0) } }
def pend : State := { State.reset.flag Fld.SYSCFG_PATCHSTAT_PENDING with salt := { shadow := [committedRf] } }
def chk2 (g : Option Nat) : State := { cm with salt := { passGroup := g, records := [{ committedRf with checks := [7, 9] }] } }
def chk1 : State := chk2 none
def reloadNone : State := { State.reset with salt := { reloading := some (0x0B, 3) } }
def st1 : State := State.reset.wr Reg.SYSCFG_PATCHADDR 0xFFFFFFFF
def st2 : State := withImage 0x1FFF88 recGate
def st3 : State := chk2 (some 0)
def st4 : State := chk2 (some 1)


/-- A state and operands that meet the hypotheses of Obligations.ConfigurationLoading, clause by clause. -/
theorem witness_ConfigurationLoading_1 :
    ((State.reset.committed = false) ∧ (State.reset.get Fld.KEYSTORE_STAT_LC ≤ 1) ∧ (State.reset.ringSt = 0))
    ∧ ((cm.committed = true))
    ∧ ((st1.patchActive = false) ∧ (st1.salt.reloading = none))
    ∧ ((noLoad.salt.load = some (0, 0)) ∧ (noLoad.salt.reloadLater = []) ∧ (noLoad.has Fld.PKE_CLAIM_LOADER = true ∨ wantsPke noLoad 0 = false) ∧ ((imageCheck noLoad true 0).1 ≠ 0) ∧ ((imageCheck noLoad true 0).1 < 2 ^ 16))
    ∧ ((st2.salt.load = some (2097032, 1)) ∧ (st2.salt.reloadLater = []) ∧ (st2.has Fld.PKE_CLAIM_LOADER = true ∨ wantsPke st2 2097032 = false) ∧ ((imageCheck st2 true 2097032).1 = 0) ∧ (1 = 1)) :=
  ⟨by decide +kernel, by decide +kernel, by decide +kernel, by decide +kernel, by decide +kernel⟩

/-- A state and operands that meet the hypotheses of Obligations.ConfigurationLoading, clause by clause. -/
theorem witness_ConfigurationLoading_2 :
    ((pend.has Fld.SYSCFG_PATCHSTAT_PENDING = true) ∧ (pend.salt.reloadLater = []))
    ∧ ((pend.has Fld.SYSCFG_PATCHSTAT_PENDING = true) ∧ (pend.salt.reloadLater = []) ∧ (∀ r ∈ pend.salt.shadow, r.type = 11) ∧ (pend.salt.shadow ≠ []))
    ∧ ((chk1.lfMode = false) ∧ (chk1.committed = true) ∧ (checkGroups chk1 ≠ []))
    ∧ ((st3.salt.passGroup = some 0) ∧ (st3.lfMode = false) ∧ ((checkGroups st3)[0]? = some (11, (7 : BitVec 16))) ∧ ((some 1) = if 0 + 1 < (checkGroups st3).length then some (0 + 1) else none))
    ∧ ((st4.salt.passGroup = some 1) ∧ (st4.lfMode = false) ∧ ((checkGroups st4)[1]? = some (11, (9 : BitVec 16))) ∧ ((none : Option Nat) = if 1 + 1 < (checkGroups st4).length then some (1 + 1) else none)) :=
  ⟨by decide +kernel, by decide +kernel, by decide +kernel, by decide +kernel, by decide +kernel⟩

/-- A state and operands that meet the hypotheses of Obligations.ConfigurationLoading, clause by clause. -/
theorem witness_ConfigurationLoading_3 :
    ((st4.salt.passGroup = some 1) ∧ (st4.lfMode = false) ∧ ((checkGroups st4)[1]? = some (11, (9 : BitVec 16))) ∧ ((none : Option Nat) = if 1 + 1 < (checkGroups st4).length then some (1 + 1) else none) ∧ ((7 : BitVec 16) ≠ (9 : BitVec 16)) ∧ (st4.patchActive = false) ∧ (st4.salt.reloading = none) ∧ (st4.salt.reloadLater = []))
    ∧ ((reloadNone.salt.reloading = some (11, 3)) ∧ (reloadRecord reloadNone 11 = none))
    ∧ ((reloadS.salt.reloading = some (11, 3)) ∧ (reloadRecord reloadS 11 = some committedRf) ∧ (11 = 11) ∧ (committedRf.type = 11) ∧ (reloadS.salt.startWaits = false) ∧ (reloadS.salt.reloadLater = [])) :=
  ⟨by decide +kernel, by decide +kernel, by decide +kernel⟩

end Sys2Proof.Tests.Salt

namespace Sys2Proof.Tests.Lane

def soft (st : Nat) (v : LaneState) : State := { ((State.reset.flag (Fld.LANE_CTL_OWNER 1)).setLaneSt 1 st) with lanes := [{}, v] }
def retiredLane : State := (soft 7 {}).flag (Fld.LANE_STAT_RETIRED 1)
def linkLane (st : Nat) : State := State.reset.setLaneSt 1 st
def chan2440 : Nat := freqOfKHz 2440000
def locked (v : LaneState) : State :=
  (((((((soft 2 { v with lockedFreq := chan2440 }).flag (Fld.LANE_STAT_LOCK 1)).put (Fld.LANE_FREQ_FREQ 1) chan2440).setClkSrc 1).put (Fld.RF_SBFREQ_FLO 0) 24000).put (Fld.RF_SBFREQ_FHI 0) 24835).put (Fld.RF_SBDWELL_DWELL 0) 0xFFFF).put (Fld.RF_SBDUTY_DUTY 0) 1000000
def banded (v : LaneState) : State := { locked v with rf := { bands := [List.replicate 16 0] } }
abbrev ss (c : Option StepGoal) (m : Nat) (f : Bool) : LaneState := { goal := c, goalMode := m, fullCal := f }
def txing : State := banded { goal := some .tx, txSub := some 0 } |>.setLaneSt 1 4
def listening : State := banded { goal := some .tx, lbtWait := true }
def actPort : State := ((State.reset.wr Reg.RF_PORTMAP 0xAA).setLaneSt 0 4)
def waitP : State := { State.reset with rf := { portWait := some 0xA8 } }
def tested (st : Nat) (v : LaneState) : State := { (soft st v).flag (Fld.LANE_HSTAT_RUNNING 1) with boot := {} }
def otherRetired (v : LaneState) : State := { State.reset.flag (Fld.LANE_STAT_RETIRED 0) with lanes := [{}, v] }
def restor : State := { retiredLane with lanes := [{}, { restoring := true }] }
def st1 : State := soft 4 {}
def st7 : State := linkLane 2
def st8 : State := linkLane 1
def st10 : State := soft 2 { goal := some .standby }
def st11 : State := soft 1 { goal := some .synth }
def st12 : State := locked { goal := some .rx }
def st13 : State := banded { goal := some .tx }
def st14 : State := locked { goal := some .tx }
def st15 : State := soft 2 {}
def st17 : State := tested 6 { hStep := 6 }
def st18 : State := tested 6 { hStep := 7, idleState := 1 }
def st20 : State := soft 2 { paFaults := 1 }
def st22 : State := otherRetired {}
def st23 : State := otherRetired { takeover := true }


/-- A state and operands that meet the hypotheses of Obligations.StepwiseCommands, clause by clause. -/
theorem witness_StepwiseCommands_1 :
    (((Instr.laneTx 1 true 4 = Instr.laneSleep 1 true ∧ { st1.lane (1 : Lane) with goal := some .tx, goalMode := 4, lbtWait := false, lbtClear := false, fullCal := false } = { st1.lane (1 : Lane) with goal := some .sleep, lbtWait := false, lbtClear := false, fullCal := false })
      ∨ ((Instr.laneTx 1 true 4 = Instr.laneStandby 1 true ∨ Instr.laneTx 1 true 4 = Instr.laneAbort 1 true)
        ∧ { st1.lane (1 : Lane) with goal := some .tx, goalMode := 4, lbtWait := false, lbtClear := false, fullCal := false } = { st1.lane (1 : Lane) with goal := some .standby, lbtWait := false, lbtClear := false, fullCal := false })
      ∨ (Instr.laneTx 1 true 4 = Instr.laneSynth 1 true true ∧ { st1.lane (1 : Lane) with goal := some .tx, goalMode := 4, lbtWait := false, lbtClear := false, fullCal := false } = { st1.lane (1 : Lane) with goal := some .synth, lbtWait := false, lbtClear := false, fullCal := true && !true })
      ∨ (Instr.laneTx 1 true 4 = Instr.laneRx 1 true ∧ { st1.lane (1 : Lane) with goal := some .tx, goalMode := 4, lbtWait := false, lbtClear := false, fullCal := false } = { st1.lane (1 : Lane) with goal := some .rx, lbtWait := false, lbtClear := false, fullCal := false })
      ∨ (Instr.laneTx 1 true 4 = Instr.laneTx 1 true 4 ∧ { st1.lane (1 : Lane) with goal := some .tx, goalMode := 4, lbtWait := false, lbtClear := false, fullCal := false } = { st1.lane (1 : Lane) with goal := some .tx, goalMode := 4, lbtWait := false, lbtClear := false, fullCal := false }))
      ∧ st1.owner (1 : Lane) = 1 ∧ st1.retired (1 : Lane) = false ∧ st1.laneSt (1 : Lane) < 5)
    ∧ (((Instr.laneSleep 1 true = Instr.laneSleep 1 true ∧ { State.reset.lane (1 : Lane) with goal := some .sleep, lbtWait := false, lbtClear := false, fullCal := false } = { State.reset.lane (1 : Lane) with goal := some .sleep, lbtWait := false, lbtClear := false, fullCal := false })
      ∨ ((Instr.laneSleep 1 true = Instr.laneStandby 1 true ∨ Instr.laneSleep 1 true = Instr.laneAbort 1 true)
        ∧ { State.reset.lane (1 : Lane) with goal := some .sleep, lbtWait := false, lbtClear := false, fullCal := false } = { State.reset.lane (1 : Lane) with goal := some .standby, lbtWait := false, lbtClear := false, fullCal := false })
      ∨ (Instr.laneSleep 1 true = Instr.laneSynth 1 true true ∧ { State.reset.lane (1 : Lane) with goal := some .sleep, lbtWait := false, lbtClear := false, fullCal := false } = { State.reset.lane (1 : Lane) with goal := some .synth, lbtWait := false, lbtClear := false, fullCal := true && !true })
      ∨ (Instr.laneSleep 1 true = Instr.laneRx 1 true ∧ { State.reset.lane (1 : Lane) with goal := some .sleep, lbtWait := false, lbtClear := false, fullCal := false } = { State.reset.lane (1 : Lane) with goal := some .rx, lbtWait := false, lbtClear := false, fullCal := false })
      ∨ (Instr.laneSleep 1 true = Instr.laneTx 1 true 4 ∧ { State.reset.lane (1 : Lane) with goal := some .sleep, lbtWait := false, lbtClear := false, fullCal := false } = { State.reset.lane (1 : Lane) with goal := some .tx, goalMode := 4, lbtWait := false, lbtClear := false, fullCal := false }))
      ∧ (State.reset.owner (1 : Lane) = 0 ∨ State.reset.retired (1 : Lane) = true)) :=
  ⟨by decide +kernel, by decide +kernel⟩

/-- A state and operands that meet the hypotheses of Obligations.StepwiseCommands, clause by clause. -/
theorem witness_StepwiseCommands_2 :
    (((Instr.laneTx 1 true 4 = Instr.laneSleep 1 true ∧ { retiredLane.lane (1 : Lane) with goal := some .tx, goalMode := 4, lbtWait := false, lbtClear := false, fullCal := false } = { retiredLane.lane (1 : Lane) with goal := some .sleep, lbtWait := false, lbtClear := false, fullCal := false })
      ∨ ((Instr.laneTx 1 true 4 = Instr.laneStandby 1 true ∨ Instr.laneTx 1 true 4 = Instr.laneAbort 1 true)
        ∧ { retiredLane.lane (1 : Lane) with goal := some .tx, goalMode := 4, lbtWait := false, lbtClear := false, fullCal := false } = { retiredLane.lane (1 : Lane) with goal := some .standby, lbtWait := false, lbtClear := false, fullCal := false })
      ∨ (Instr.laneTx 1 true 4 = Instr.laneSynth 1 true true ∧ { retiredLane.lane (1 : Lane) with goal := some .tx, goalMode := 4, lbtWait := false, lbtClear := false, fullCal := false } = { retiredLane.lane (1 : Lane) with goal := some .synth, lbtWait := false, lbtClear := false, fullCal := true && !true })
      ∨ (Instr.laneTx 1 true 4 = Instr.laneRx 1 true ∧ { retiredLane.lane (1 : Lane) with goal := some .tx, goalMode := 4, lbtWait := false, lbtClear := false, fullCal := false } = { retiredLane.lane (1 : Lane) with goal := some .rx, lbtWait := false, lbtClear := false, fullCal := false })
      ∨ (Instr.laneTx 1 true 4 = Instr.laneTx 1 true 4 ∧ { retiredLane.lane (1 : Lane) with goal := some .tx, goalMode := 4, lbtWait := false, lbtClear := false, fullCal := false } = { retiredLane.lane (1 : Lane) with goal := some .tx, goalMode := 4, lbtWait := false, lbtClear := false, fullCal := false }))
      ∧ (retiredLane.owner (1 : Lane) = 0 ∨ retiredLane.retired (1 : Lane) = true))
    ∧ (st7.has (Fld.LANE_CTL_OWNER ↑(1 : Lane)) ≠ true ∧ 1 < st7.laneSt ↑(1 : Lane))
    ∧ (st8.has (Fld.LANE_CTL_OWNER ↑(1 : Lane)) ≠ true ∧ st8.laneSt ↑(1 : Lane) ≤ 1
      ∧ st8.has Fld.RF_PAIR_EN = false ∧ st8.paired = false) :=
  ⟨by decide +kernel, by decide +kernel, by decide +kernel⟩

/-- A state and operands that meet the hypotheses of Obligations.StepwiseTransitions, clause by clause. -/
theorem witness_StepwiseTransitions :
    ((↑(1 : Lane) < st10.lanes.length) ∧ ((st10.lane ↑(1 : Lane)).goal = some StepGoal.standby) ∧ (st10.laneSt ↑(1 : Lane) ≤ 2))
    ∧ ((↑(1 : Lane) < st11.lanes.length) ∧ ((st11.lane ↑(1 : Lane)).goal = some StepGoal.synth) ∧ (st11.laneSt ↑(1 : Lane) = 1 ∨ st11.laneSt ↑(1 : Lane) = 2) ∧ ((st11.lane ↑(1 : Lane)).fullCal = false) ∧ ((st11.lane ↑(1 : Lane)).calBad = []) ∧ (∀ p < 16, st11.has (Fld.MODEM_PANCFG_EN p) = false))
    ∧ ((↑(1 : Lane) < st12.lanes.length) ∧ (st12.laneSt ↑(1 : Lane) = 2) ∧ (st12.has (Fld.LANE_STAT_LOCK ↑(1 : Lane)) = true) ∧ ((st12.lane ↑(1 : Lane)).lockedFreq = st12.get (Fld.LANE_FREQ_FREQ ↑(1 : Lane))) ∧ ((st12.lane ↑(1 : Lane)).fullCal = false) ∧ ((st12.lane ↑(1 : Lane)).settling = false) ∧ ((st12.lane ↑(1 : Lane)).calBad = []) ∧ ((st12.lane ↑(1 : Lane)).goal = some StepGoal.rx) ∧ (rxRefCode st12 = 0) ∧ (∀ p < 16, st12.has (Fld.MODEM_PANCFG_EN p) = false))
    ∧ ((↑(1 : Lane) < st13.lanes.length) ∧ (st13.laneSt ↑(1 : Lane) = 2) ∧ (st13.has (Fld.LANE_STAT_LOCK ↑(1 : Lane)) = true) ∧ ((st13.lane ↑(1 : Lane)).lockedFreq = st13.get (Fld.LANE_FREQ_FREQ ↑(1 : Lane))) ∧ ((st13.lane ↑(1 : Lane)).fullCal = false) ∧ ((st13.lane ↑(1 : Lane)).settling = false) ∧ ((st13.lane ↑(1 : Lane)).calBad = []) ∧ ((st13.lane ↑(1 : Lane)).goal = some StepGoal.tx) ∧ ((st13.lane ↑(1 : Lane)).lbtWait = false) ∧ (stepTxCode st13 ↑(1 : Lane) = 0) ∧ (stepSubBand st13 (↑(1 : Lane)) (st13.lane ↑(1 : Lane)).goalMode = some 0) ∧ (lbtTicks st13 0 = 0)) :=
  ⟨by decide +kernel, by decide +kernel, by decide +kernel, by decide +kernel⟩

/-- A state and operands that meet the hypotheses of Obligations.StepwiseWorkEnds, clause by clause. -/
theorem witness_StepwiseWorkEnds :
    ((↑(1 : Lane) < st14.lanes.length) ∧ (∀ a ∈ st14.acts, a.lane ≠ ↑(1 : Lane)))
    ∧ ((↑(1 : Lane) < txing.lanes.length) ∧ ((txing.lane ↑(1 : Lane)).txSub.isSome = true) ∧ (txing.laneSt ↑(1 : Lane) = 4) ∧ (txing.rf.portWait = none))
    ∧ ((↑(1 : Lane) < listening.lanes.length) ∧ ((listening.lane ↑(1 : Lane)).lbtWait = true) ∧ (lbtBusy listening ((stepSubBand listening (↑(1 : Lane)) (listening.lane ↑(1 : Lane)).goalMode).getD 0) (-1 : ℤ) = false))
    ∧ ((↑(1 : Lane) < listening.lanes.length) ∧ ((listening.lane ↑(1 : Lane)).lbtWait = true) ∧ (lbtBusy listening ((stepSubBand listening (↑(1 : Lane)) (listening.lane ↑(1 : Lane)).goalMode).getD 0) (0 : ℤ) = true)) :=
  ⟨by decide +kernel, by decide +kernel, by decide +kernel, by decide +kernel⟩

/-- A state and operands that meet the hypotheses of Obligations.PortMapAndPairing, clause by clause. -/
theorem witness_PortMapAndPairing :
    ((portClash (BitVec.toNat (160 : Word) % 256) = true))
    ∧ ((portClash (BitVec.toNat (168 : Word) % 256) = false) ∧ (portsBlocked actPort (BitVec.toNat (168 : Word) % 256) = true))
    ∧ ((Instr.portmapWrite (168 : Word) = Instr.portmapWrite (168 : Word) ∧ portClash (BitVec.toNat (168 : Word) % 256) = false ∨ Instr.portmapWrite (168 : Word) = Instr.portmapSwitch ∧ State.reset.rf.portWait = some (BitVec.toNat (168 : Word) % 256)) ∧ (portsBlocked State.reset (BitVec.toNat (168 : Word) % 256) = false))
    ∧ ((Instr.portmapSwitch = Instr.portmapWrite (168 : Word) ∧ portClash (BitVec.toNat (168 : Word) % 256) = false ∨ Instr.portmapSwitch = Instr.portmapSwitch ∧ waitP.rf.portWait = some (BitVec.toNat (168 : Word) % 256)) ∧ (portsBlocked waitP (BitVec.toNat (168 : Word) % 256) = false))
    ∧ ((BitVec.toNat (4294967294 : Word) % 2 = 0) ∧ (State.reset.paired = false)) :=
  ⟨by decide +kernel, by decide +kernel, by decide +kernel, by decide +kernel, by decide +kernel⟩

/-- A state and operands that meet the hypotheses of Obligations.HealthTests, clause by clause. -/
theorem witness_HealthTests_1 :
    ((↑(1 : Lane) < st15.lanes.length) ∧ (st15.laneSt ↑(1 : Lane) ≤ 2) ∧ ((st15.lane ↑(1 : Lane)).goal = none) ∧ (launchNear st15 (↑(1 : Lane)) 1536 = false) ∧ (∀ a ∈ st15.acts, a.lane = ↑(1 : Lane) → a.isRunning = false) ∧ (st15.has (Fld.LANE_HSTAT_RUNNING ↑(1 : Lane)) = false) ∧ ((Instr.laneHealthreq (1 : Lane) true) = Instr.laneHealthreq (1 : Lane) true ∨ (Instr.laneHealthreq (1 : Lane) true) = Instr.healthPeriod (1 : Lane)))
    ∧ ((↑(1 : Lane) < st15.lanes.length) ∧ (st15.laneSt ↑(1 : Lane) ≤ 2) ∧ ((st15.lane ↑(1 : Lane)).goal = none) ∧ (launchNear st15 (↑(1 : Lane)) 1536 = false) ∧ (∀ a ∈ st15.acts, a.lane = ↑(1 : Lane) → a.isRunning = false) ∧ (st15.has (Fld.LANE_HSTAT_RUNNING ↑(1 : Lane)) = false) ∧ ((Instr.healthPeriod (1 : Lane)) = Instr.laneHealthreq (1 : Lane) true ∨ (Instr.healthPeriod (1 : Lane)) = Instr.healthPeriod (1 : Lane)))
    ∧ ((↑(1 : Lane) < st17.lanes.length) ∧ (st17.has (Fld.LANE_HSTAT_RUNNING ↑(1 : Lane)) = true) ∧ (st17.laneSt ↑(1 : Lane) = 6) ∧ ((st17.lane ↑(1 : Lane)).hStep < 7) ∧ (launchNear st17 (↑(1 : Lane)) 1536 = false))
    ∧ ((↑(1 : Lane) < st18.lanes.length) ∧ (st18.has (Fld.LANE_HSTAT_RUNNING ↑(1 : Lane)) = true) ∧ (st18.laneSt ↑(1 : Lane) = 6) ∧ ((st18.lane ↑(1 : Lane)).hStep = 7))
    ∧ ((↑(1 : Lane) < st18.lanes.length) ∧ (st18.has (Fld.LANE_HSTAT_RUNNING ↑(1 : Lane)) = true) ∧ (st18.laneSt ↑(1 : Lane) = 6) ∧ ((st18.lane ↑(1 : Lane)).hAgain = false) ∧ (launchNear st18 (↑(1 : Lane)) 1536 = false)) :=
  ⟨by decide +kernel, by decide +kernel, by decide +kernel, by decide +kernel, by decide +kernel⟩

/-- A state and operands that meet the hypotheses of Obligations.HealthTests, clause by clause. -/
theorem witness_HealthTests_2 :
    ((↑(1 : Lane) < st20.lanes.length) ∧ ((st20.lane ↑(1 : Lane)).txSub = none) ∧ (∀ a ∈ st20.acts, a.lane ≠ ↑(1 : Lane)) ∧ ((st20.lane ↑(1 : Lane)).paFaults < 2)) :=
  by decide +kernel

/-- A state and operands that meet the hypotheses of Obligations.RetirementAndRestoration, clause by clause. -/
theorem witness_RetirementAndRestoration :
    ((st7.lanes.length = 2) ∧ (st7.has Fld.RF_PAIR_EN = false) ∧ (st7.paired = false) ∧ (st7.retired ↑(1 : Lane) = false) ∧ (st7.retired (otherLane ↑(1 : Lane)) = false) ∧ (st7.laneSt ↑(1 : Lane) ≤ 2) ∧ (∀ a ∈ st7.acts, a.lane ≠ ↑(1 : Lane)) ∧ ((st7.lane ↑(1 : Lane)).txSub = none))
    ∧ ((st22.lanes.length = 2) ∧ (st22.has Fld.RF_PAIR_EN = false) ∧ (st22.paired = false) ∧ (st22.retired ↑(1 : Lane) = false) ∧ (st22.retired (otherLane ↑(1 : Lane)) = true))
    ∧ ((st23.lanes.length = 2) ∧ (st23.has Fld.RF_PAIR_EN = false) ∧ (st23.paired = false) ∧ ((st23.lane ↑(1 : Lane)).takeover = true) ∧ (st23.retired ↑(1 : Lane) = false) ∧ (st23.retired (otherLane ↑(1 : Lane)) = true))
    ∧ ((retiredLane.lanes.length = 2) ∧ (retiredLane.has Fld.RF_PAIR_EN = false) ∧ (retiredLane.paired = false) ∧ (retiredLane.retired ↑(1 : Lane) = true) ∧ (retiredLane.get (Fld.LANE_HSTAT_LASTSTEP ↑(1 : Lane)) = 0))
    ∧ ((restor.lanes.length = 2) ∧ (restor.has Fld.RF_PAIR_EN = false) ∧ (restor.paired = false) ∧ ((restor.lane ↑(1 : Lane)).restoring = true) ∧ (restor.has (Fld.LANE_HSTAT_RUNNING ↑(1 : Lane)) = false) ∧ (restor.laneSt ↑(1 : Lane) = 7)) :=
  ⟨by decide +kernel, by decide +kernel, by decide +kernel, by decide +kernel, by decide +kernel⟩

end Sys2Proof.Tests.Lane

namespace Sys2Proof.Tests.Calib

def d10 : State := State.reset.put Fld.PMU_DOMSTAT_ON 0x1FFF
def calReady (v : LaneState) : State := { (State.reset.setLaneSt 1 1).flag (Fld.LANE_CALCFG_BGEN 1) with lanes := [{}, v] }
def calIn (n k : Nat) : State := (((State.reset.setLaneSt 1 5).flag (Fld.LANE_CALSTAT_BUSY 1)).put (Fld.LANE_CALSTAT_ENTRY 1) n).put (Fld.LANE_CALSTAT_STEP 1) k
def crystal : State := State.reset.setClkSrc 1
def rc (n : Nat) : State := { State.reset with rf := { rcRunning := true, rcMeasures := n } }
def trim (v n : Nat) : State := (rc n).put Fld.RF_RC64TRIM_TRIM v
def failed : State := { State.reset.setClkSrc 2 with tide := { xtalFailed := true } }
def st1 : State := calReady {}
def st2 : State := calReady { calYield := true }
def yielding : State := (calReady { calYield := true }).flag (Fld.LANE_CALSTAT_BUSY 1)
def st3 : State := calIn 0 18
def st4 : State := calIn 0 1
def calOn : State := st3.flag (Fld.LANE_CALCFG_BGEN 1)
def st5 : State := calIn 16 2
def st6 : State := calIn 0 19
def st7 : State := trim 512 0
def st9 : State := trim 512 1
def st10 : State := crystal.put Fld.RF_RC64TRIM_TRIM 1
def st11 : State := crystal.put Fld.RF_RC64TRIM_TRIM 1022
def st12 : State := failed.flag Fld.TIDE_CLKCTL_XTALOK


/-- A state and operands that meet the hypotheses of Obligations.CalibrationRequests, clause by clause. -/
theorem witness_CalibrationRequests :
    (((Instr.calreqWrite (1 : Lane) (4294967295 : Word)) = Instr.calreqWrite (1 : Lane) (4294967295 : Word) ∨ (Instr.calreqWrite (1 : Lane) (4294967295 : Word)) = Instr.laneCalTask (1 : Lane) ∧ (4294967295 : Word) = 131071#32))
    ∧ (((Instr.laneCalTask (1 : Lane)) = Instr.calreqWrite (1 : Lane) (131071 : Word) ∨ (Instr.laneCalTask (1 : Lane)) = Instr.laneCalTask (1 : Lane) ∧ (131071 : Word) = 131071#32))
    ∧ ((d10.domOn (9 + ↑(1 : Lane)) = true) ∧ ((d10.lane ↑(1 : Lane)).calBad = []))
    ∧ ((↑(1 : Lane) < State.reset.lanes.length)) :=
  ⟨by decide +kernel, by decide +kernel, by decide +kernel, by decide +kernel⟩

/-- A state and operands that meet the hypotheses of Obligations.CalibrationEngine, clause by clause. -/
theorem witness_CalibrationEngine :
    ((↑(1 : Lane) < st1.lanes.length) ∧ (calMayRun st1 ↑(1 : Lane) = true) ∧ (st1.has (Fld.LANE_CALSTAT_BUSY ↑(1 : Lane)) = false) ∧ (calNext st1 ↑(1 : Lane) = some 8))
    ∧ ((↑(1 : Lane) < calOn.lanes.length) ∧ (calOn.laneSt ↑(1 : Lane) = 5) ∧ (calOn.get (Fld.LANE_CALSTAT_ENTRY ↑(1 : Lane)) = 0) ∧ (calOn.get (Fld.LANE_CALSTAT_STEP ↑(1 : Lane)) = 18) ∧ ((calOn.lane ↑(1 : Lane)).calRelock = 0) ∧ (0 < 18) ∧ (18 < calSteps 0) ∧ (calGoesOn calOn ↑(1 : Lane) = true))
    ∧ ((↑(1 : Lane) < st5.lanes.length) ∧ (st5.laneSt ↑(1 : Lane) = 5) ∧ (st5.get (Fld.LANE_CALSTAT_ENTRY ↑(1 : Lane)) = 16) ∧ (st5.get (Fld.LANE_CALSTAT_STEP ↑(1 : Lane)) = 2) ∧ ((st5.lane ↑(1 : Lane)).calRelock = 0) ∧ (calSteps 16 ≤ 2) ∧ (0 < 2) ∧ (16 < 17) ∧ (16 ≠ 8) ∧ (calCode 16 (BitVec.toNat (4294967295 : Word)) false = 0) ∧ (st5.owner ↑(1 : Lane) = 0)) :=
  ⟨by decide +kernel, by decide +kernel, by decide +kernel⟩

/-- A state and operands that meet the hypotheses of Obligations.CrystalTrimWrite, clause by clause. -/
theorem witness_CrystalTrimWrite :
    ((crystal.clkSrc = 1))
    ∧ ((State.reset.clkSrc ≠ 1)) :=
  ⟨by decide +kernel, by decide +kernel⟩

/-- A state and operands that meet the hypotheses of Obligations.OscillatorFailureAndReturn, clause by clause. -/
theorem witness_OscillatorFailureAndReturn_1 :
    ((crystal.clkSrc = 1) ∧ (crystal.acts = []) ∧ (∀ l < 2, crystal.laneSt l ≤ 2 ∧ (crystal.lane l).txSub = none))
    ∧ ((st7.rf.rcRunning = true) ∧ (st7.rf.rcMeasures = 0) ∧ (512 ≤ 1023) ∧ (512 = ↑(st7.get Fld.RF_RC64TRIM_TRIM) - roundDiv ((32 * ↑(BitVec.ofNat 32 (st7.get Fld.TIDE_LFINC_INC / 32)).toNat - ↑(st7.get Fld.TIDE_LFINC_INC)) * 10000) (st7.get Fld.TIDE_LFINC_INC)))
    ∧ ((st9.rf.rcRunning = true) ∧ (st9.rf.rcMeasures ≠ 0))
    ∧ ((st10.clkSrc = 1) ∧ (0 < st10.get Fld.RF_RC64TRIM_TRIM) ∧ (st10.get Fld.RF_RC64TRIM_TRIM < 1023))
    ∧ ((st11.clkSrc = 1) ∧ (0 < st11.get Fld.RF_RC64TRIM_TRIM) ∧ (st11.get Fld.RF_RC64TRIM_TRIM < 1023)) :=
  ⟨by decide +kernel, by decide +kernel, by decide +kernel, by decide +kernel, by decide +kernel⟩

/-- A state and operands that meet the hypotheses of Obligations.OscillatorFailureAndReturn, clause by clause. -/
theorem witness_OscillatorFailureAndReturn_2 :
    ((failed.tide.xtalFailed = true))
    ∧ ((st12.has Fld.TIDE_CLKCTL_XTALOK = true) ∧ (st12.clkSrc ≠ 1)) :=
  ⟨by decide +kernel, by decide +kernel⟩

/-- A state and operands that meet the hypotheses of Obligations.ClockAndBackgroundWork, clause by clause. -/
theorem witness_ClockAndBackgroundWork_2 :
    ((Calib.yielding.lanes.length = 2) ∧ (calMayRun Calib.yielding ↑(1 : Lane) = true) ∧ (Calib.yielding.has (Fld.LANE_CALSTAT_BUSY ↑(1 : Lane)) = true) ∧ ((Calib.yielding.lane ↑(1 : Lane)).calYield = true) ∧ ((Calib.yielding.lane (otherLane ↑(1 : Lane))).calYield = false)) :=
  by decide +kernel

end Sys2Proof.Tests.Calib

namespace Sys2Proof.Tests.Modem

def swLane : State := State.reset.flag (Fld.LANE_CTL_OWNER 1)
def pst (st : Nat) : State := State.reset.setPanState 15 st
def slots : State := State.reset.wr (Reg.MODEM_RXSLOT 15) 0xFFFFFFFF
def afcS : State := (State.reset.putS (Fld.MODEM_AFCFRAC_FRAC 1) (-40000)).put (Fld.LANE_FREQ_FREQ 1) (freqOfKHz 2440000)
def hdr1024 : BitVec 48 := BitVec.ofNat 48 (16 * 1024 + headerCrc (16 * 1024) * 2 ^ 40)
def st1 : State := pst 2
def st2 : State := State.reset.setLaneSt 1 3
def st4 : State := pst 1
def st7 : State := (pst 2).setLaneSt 1 3
def st8 : State := (pst 4).unflag Fld.MODEM_RXCFG_CAPEN
def st9 : State := (pst 3).unflag Fld.MODEM_RXCFG_CAPEN
def st10 : State := pst 3
def st11 : State := (pst 3).setLaneSt 1 3
def leHdrS : State := (pst 3).put (Fld.MODEM_PANCFG_MODE 15) 5
def st12 : State := pst 4
def st13 : State := (pst 4).setLaneSt 1 3
def st16 : State := (State.reset.setLaneSt 1 3).put (Fld.MODEM_LANEGAIN_GAIN 1) 0


/-- A state and operands that meet the hypotheses of Obligations.PanConfigurationAndSlots, clause by clause. -/
theorem witness_PanConfigurationAndSlots :
    ((State.reset.has (Fld.LANE_CTL_OWNER (15 / 8)) = false))
    ∧ ((swLane.has (Fld.LANE_CTL_OWNER (15 / 8)) = !false) ∧ (swLane.paired = false) ∧ (swLane.panState 15 ≠ 3) ∧ (swLane.panState 15 ≠ 4))
    ∧ ((State.reset.has (Fld.LANE_CTL_OWNER (15 / 8)) = !true) ∧ (State.reset.paired = false) ∧ (State.reset.panState 15 ≠ 3) ∧ (State.reset.panState 15 ≠ 4))
    ∧ ((st1.panState 15 ≤ 2))
    ∧ ((laneHoldsAfc afcS ↑(1 : Lane) = false)) :=
  ⟨by decide +kernel, by decide +kernel, by decide +kernel, by decide +kernel, by decide +kernel⟩

/-- A state and operands that meet the hypotheses of Obligations.DetectionToHeader, clause by clause. -/
theorem witness_DetectionToHeader_1 :
    ((st4.lfMode = false) ∧ (st4.panState 15 = 1))
    ∧ ((st1.lfMode = false) ∧ (st1.panState 15 = 2) ∧ (syncConfirms st1 (15) (↑(0 : Fin 64)) (0 : Int) (0 : BitVec 32) = true))
    ∧ ((st1.lfMode = false) ∧ (st1.panState 15 = 2) ∧ (¬syncConfirms st1 (15) (↑(63 : Fin 64)) (0 : Int) (0 : BitVec 32) = true))
    ∧ ((st1.lfMode = false) ∧ (st1.panState 15 = 2))
    ∧ ((st8.lfMode = false) ∧ (st8.panState 15 = 3 ∨ st8.panState 15 = 4) ∧ (st8.has Fld.MODEM_RXCFG_CAPEN = false)) :=
  ⟨by decide +kernel, by decide +kernel, by decide +kernel, by decide +kernel, by decide +kernel⟩

/-- A state and operands that meet the hypotheses of Obligations.DetectionToHeader, clause by clause. -/
theorem witness_DetectionToHeader_2 :
    ((st9.lfMode = false) ∧ (st9.panState 15 = 3 ∨ st9.panState 15 = 4) ∧ (st9.has Fld.MODEM_RXCFG_CAPEN = false))
    ∧ ((st10.lfMode = false) ∧ (st10.panState 15 = 3) ∧ (st10.panMode 15 ≤ 1) ∧ (hdrCrcOk hdr1024.toNat = true) ∧ (headerInvalid hdr1024.toNat (st10.panMode 15) false = false) ∧ (hdrLoadidx hdr1024.toNat = 0))
    ∧ ((st11.lfMode = false) ∧ (st11.panState 15 = 3) ∧ (st11.panMode 15 ≤ 1) ∧ (hdrCrcOk (0 : BitVec 48).toNat = false) ∧ ((st11.pan 15).hdrOk = false))
    ∧ ((leHdrS.lfMode = false) ∧ (leHdrS.panState 15 = 3) ∧ (2 ≤ leHdrS.panMode 15)) :=
  ⟨by decide +kernel, by decide +kernel, by decide +kernel, by decide +kernel⟩

/-- A state and operands that meet the hypotheses of Obligations.FrameEndAndGain, clause by clause. -/
theorem witness_FrameEndAndGain :
    ((st12.panState 15 = 4) ∧ (st12.lfMode = false) ∧ ((st12.lane (15 / 8)).ackPreset = none) ∧ ((List.filter (fun r => r.lane == 15 / 8) st12.modem.queue).length < 16) ∧ ((st12.modem.queue.all fun r => decide (r.endAt < st12.elapsed)) = true))
    ∧ ((st2.laneSt ↑(1 : Lane) = 3) ∧ (st2.has (Fld.MODEM_LANEGAIN_FROZEN ↑(1 : Lane)) = false)) :=
  ⟨by decide +kernel, by decide +kernel⟩

end Sys2Proof.Tests.Modem

namespace Sys2Proof.Tests.Link

def runEntry (first n cls : Nat) : List Byte := bytesLE 2 first ++ bytesLE 2 n ++ bytesLE 1 cls ++ [0, 255, 0]
def recs (tmpls : List (List Byte)) : List CfgRecord :=
  [{ type := 6, body := tmpls.flatten, source := none, crc := 0 },
   { type := 7, body := runEntry 0 256 0 ++ runEntry 256 256 2, source := none, crc := 0 }]
def net (tmpls : List (List Byte)) : State :=
  let s := { State.reset with salt := { records := recs tmpls }, rf := { bands := [List.replicate 16 0] } }
  let s := ((s.put (Fld.LANE_STAT_ROLES 0) 0xFF).put (Fld.LANE_STAT_ROLES 1) 0xFF).setClkSrc 1
  let s := (((s.put (Fld.RF_SBFREQ_FLO 0) 24000).put (Fld.RF_SBFREQ_FHI 0) 24835).put (Fld.RF_SBDWELL_DWELL 0) 0xFFFF).put (Fld.RF_SBDUTY_DUTY 0) 1000000
  (s.flag Fld.LINK_SCHCFG_EN).flag Fld.LINK_ACCCFG_OPEN
abbrev t0 : List Byte := List.replicate 12 0 ++ [0, 2] ++ List.replicate 18 0
def base : State := net [t0]
def openCtx (c : Nat) (s : State) : State := s.setCtx c CF.OPEN 1
def mapped (m : Nat) : State := (base.wr Reg.LINK_CTXMAPLO (BitVec.ofNat 32 m)).setCtx 255 CF.CHMAP 3
def conned (c : Nat) : State := (openCtx c base).setCtx c CF.CONN 1
def timed (t : Nat) (v : Nat) : State := ((base.setTl 63 TF.TLAUNCH t).setTl 63 TF.VALID v)
def queued : State := { base with link := { rxRuns := [⟨47, 1⟩, ⟨0, 2⟩] } }
def retry1 : TxFrame := { retries := 1 }
def waitingAct : Activity := { id := 63, kind := .tx, mode := 0, chan := 0, lane := 0, phase := .ackWait, frame := some retry1 }
def held (a : Activity) : State := { base with link := { acts := [a] } }
def armed : State := { ((((((setTlValid 63 true base).setTl 63 TF.TLAUNCH 5000).setTl 63 TF.CTX 9).setDesc 0 DF.DST 0x1234).setDesc 0 DF.FIRSTCELL 48).setDesc 0 DF.PLEN 5) with tide := { acc := 3000 * 2 ^ 32 } }
def shown : Activity := { id := 63, kind := .tx, mode := 0, chan := 0, lane := 0 - 1, ctx := 9, tlaunch := 5000, launch := 5000, tmpl := t0 }
abbrev tLis : List Byte := [2, 0, 0, 0, 0, 0, 0x20, 0, 0x10] ++ List.replicate 23 0
def listening : State := { ((setTlValid 63 true (net [tLis])).setTl 63 TF.TLAUNCH 5000) with tide := { acc := 3000 * 2 ^ 32 } }
def shownB : Activity := (txReadied shown t0 0 0 false armed).getD shown
def shownLis : Activity := { id := 63, kind := .listen, mode := 0, chan := 0, lane := 0 - 1, ctx := entryCtx listening 63 .listen, tlaunch := 5000, launch := 5000, prio := tPrio tLis, latepol := tLatepol tLis, tmpl := tLis }
def retryFrame : TxFrame := { desc := 0, dst := 0x1234, retries := 1, tries := 1, fcnt := some 7, payload := [1, 2] }
def retryAct : Activity := { shown with phase := .retryWait, frame := some retryFrame }
def retrying : State := { (armed.flag (Fld.LANE_STAT_LOCK 0)) with lanes := [{ lockedFreq := chanFreq 0 0 }, {}], link := { acts := [retryAct] } }
def retryB : Activity :=
  (txReadied { retryAct with launch := retrying.now, lbtDone := false, listening := false, tmpl := t0 } t0 (retrying.tl 63 TF.LANE) 0 false retrying).getD retryAct
def keyed (s : State) : State :=
  putKeyAttr 1 [0, 0x10000101, 0xFFFF, 0, 0, 0xFFFFFFFF, 0xFFFFFFFF] (putKeyAttr 0 rootAttr s)
def tBa : List Byte := [0, 0, 0x10, 1] ++ List.replicate 28 0
def dk : DackEntry := { ctx := 512, src := 0x2222, kid := 1, base := 5, map := 1, first := 0 }
def dacked : State := setDacks [dk] (((keyed (net [tBa])).wr (Reg.LINK_NETKEY 1) 0x00000501).flag (Fld.LINK_NETKEY_TXVALID 1))
def dackB : Activity := (dackReadied 136 dk tBa 0 false (markDack 0 136 dacked)).getD shown
def lockedFor (s : State) (v : LaneState) : State := { s.flag (Fld.LANE_STAT_LOCK 1) with lanes := [{}, v] }
def sendFrame : TxFrame := { dst := 0xFFFF, len := 22, airtime := 8064, t64 := 100, payload := [1] }
def sendAct : Activity := { id := 63, kind := .tx, mode := 0, chan := 0, lane := 1, sub := some 0, frame := some sendFrame, tmpl := t0 }
def plan : AckPlan := { lane := 1, mode := 0, chan := 0, rep := 0, sec := false, micsz := 0, key := 0, kid := 0, src := 1, fcnt := 0, t40 := 0, astat := 0, profile := [], ctx := 512, endAt := 0 }
def acking : State := { base.setLaneSt 1 2 with link := { ackPlans := [plan] } }
def fwdF : FwdFrame := { q := 7, run := ⟨0, 1⟩, words := [], rxctx := 3, type := 0, fields := [], src := 1, kid := 0, odst := 2, osrc := 3, hop := 5, payload := [9], rxLane := 0, mode := 0, ctx := 3, tmpl := 0, nextHop := 6 }
def fwdAct0 : Activity := { id := 71, kind := .forward, mode := 0, chan := 0, lane := 1, ctx := 3, sub := some 0, launch := 5000, tmpl := t0 }
def fwdFr : TxFrame := forwardFrame (openCtx 3 base) fwdAct0 t0 fwdF
def fwdAct : Activity := { fwdAct0 with frame := some fwdFr }
def fwdS : State := { openCtx 3 base with link := { acts := [fwdAct], fwds := [fwdF] } }
def sendingAct : Activity := { sendAct with sending := true, phase := .running }
def sendingS : State := { base.setLaneSt 1 4 with link := { acts := [sendingAct] } }
def psdu (n : Nat) : List Byte := bytesLE 2 0 ++ bytesLE 2 0 ++ bytesLE 5 77 ++ bytesLE 2 0x1111 ++ List.replicate n 5
def rxr (hdr : Nat) (p : List Byte) : RxRecord := { lane := 1, pan := 15, mode := 0, chan := 0, words := List.replicate 8 0, hdr := hdr, ts := 0, rssi := -80, snr := 20, fofs := 0, nsym := 3, margins := [], airtime := 8064, psdu := p, endAt := 0, preset := false, deferred := false }
def opq (n : Nat) : State := { base with modem := { queue := [rxr 0 (psdu n)] } }
def ackedF : TxFrame := { dst := 0x2222, ackreq := true, airtime := 8064, t64 := 100000 }
def ackedA : Activity := { id := 63, kind := .tx, mode := 0, chan := 0, lane := 1, phase := .ackWait, frame := some ackedF }
def ackRec : RxRecord := { rxr 1 (bytesLE 5 0) with ts := 64 * (100000 + 8064 + turnRound) }
def ackQ : State := { base with modem := { queue := [ackRec] }, link := { acts := [ackedA] }, tide := { acc := 109000 * 2^32 } }
def winA : Activity := { id := 63, kind := .rxCtx, mode := 0, chan := 0, lane := 1, phase := .running, ctx := 255 }
def tAdv : List Byte := [0x25, 0, 0, 0, 37, 0, 0x10] ++ List.replicate 9 0 ++ [0, 1] ++ List.replicate 6 0 ++ [0xFF, 0, 0xFF, 0, 0, 0, 0, 0]
def tAdv' : List Byte := (tAdv.take 24) ++ bytesLE 2 511 ++ (tAdv.drop 26)
def tAdvC (c : Nat) : List Byte := (tAdv.take 24) ++ bytesLE 2 c ++ [0xFF] ++ (tAdv.drop 27)
def advA : Activity := { id := 63, kind := .leAdv, mode := 2, chan := 37, lane := 1, phase := .running, pans := [8], tmpl := tAdvC 510 }
def req : List Byte := [0x25, 34] ++ List.replicate 12 0 ++ List.replicate 22 1
def advRec : RxRecord := { rxr 0 req with mode := 2, pan := 8 }
def advS : State := { net [tAdvC 510] with modem := { queue := [advRec] }, link := { acts := [advA] } }
def leC : State := ((conned 511).setCtx 511 CF.MAXTXOCT 251).setDesc 47 DF.FIRSTCELL 63 |>.setDesc 47 DF.PLEN 247
def st1 : State := openCtx 255 base
def st2 : State := openCtx 511 base
def st3 : State := base.wr Reg.LINK_CTXARG 0xFFFFFFFF
def st5 : State := mapped 3
def st6 : State := (openCtx 255 (mapped 3)).setCtx 255 CF.SUPTO 0xFFFF
def st7 : State := conned 255
def st8 : State := conned 511
def leOpen : State := (openCtx 511 base).setCtx 511 CF.SUPTO 0xFFFF
def lapsed : State := { (conned 255).setCtx 255 CF.SUPDL 7 with tide := { acc := 8 * 2 ^ 32 } }
def st12 : State := (base.setNum (cacheAddr 1023) 16 0xFFFFFFFF).setNum (cacheAddr 0) 16 (2^128-1)
def st13 : State := timed 0 0
def st14 : State := timed (2^64-1) 0
def st15 : State := setTlValid 63 true base
def st16 : State := held waitingAct
def st17 : State := { base.setLaneSt 1 2 with link := { acts := [sendAct] } }
def baAct : Activity := { sendAct with id := 136, kind := .blockAck }
def baS : State := setDacks [dk, { dk with act := some 136 }] { base.setLaneSt 1 2 with link := { acts := [baAct] } }
def lisAct : Activity := { id := 63, kind := .listen, mode := 0, chan := 0, lane := 1, tmpl := tLis, npans := 2 }
def lisS : State := { net [tLis] with link := { acts := [lisAct] } }
def st18 : State := opq 3
def st19 : State := opq 128
def st20 : State := { base.setLaneSt 1 3 with link := { acts := [winA] } }
def st21 : State := (base.put Fld.LINK_LEINST_INSTANT 1)
def st22 : State := (base.put Fld.LINK_LEINST_INSTANT 32768)
def st23 : State := (base.put Fld.LINK_LEINST_INSTANT 32769)


/-- A state and operands that meet the hypotheses of Obligations.ContextCommands, clause by clause. -/
theorem witness_ContextCommands_1 :
    (((ctxRun base 255).isSome = true) ∧ (ctxKeyOk base (255) (base.ctx (255) CF.KEYH) = true) ∧ (partnerTaken base 255 = false) ∧ (ctxClass base 255 ≠ 2 → base.ctxBit (255) CF.CONN = true → mapValid (base.ctx (255) CF.GRID) (base.ctx (255) CF.CHMAP) = true))
    ∧ (((ctxRun State.reset 511).isNone = true ∨ ctxKeyOk State.reset (511) (State.reset.ctx (511) CF.KEYH) = false ∨ partnerTaken State.reset 511 = true))
    ∧ ((st2.acts = []) ∧ (st2.ctxBit (511) CF.CONN = false))
    ∧ ((ctxClass leOpen 511 = 2) ∧ (ctxOpen leOpen 511 = true) ∧ (leOpen.get Fld.LINK_LESTAT_CONNS < 24 ∨ leOpen.ctxBit (511) CF.CONN = true))
    ∧ ((ctxClass st5 255 ≠ 2) ∧ (3 = st5.get Fld.LINK_CTXMAPLO_MAP + 2 ^ 32 * st5.get Fld.LINK_CTXMAPHI_MAP) ∧ (mapValid (st5.ctx (255) CF.GRID) 3 = true) ∧ (toS 32 (st5.ctx (255) CF.EVCTR + 2 ^ 32 - st5.ctxArg) ≤ 0)) :=
  ⟨by decide +kernel, by decide +kernel, by decide +kernel, by decide +kernel, by decide +kernel⟩

/-- A state and operands that meet the hypotheses of Obligations.ContextCommands, clause by clause. -/
theorem witness_ContextCommands_2 :
    ((ctxClass st6 255 ≠ 2) ∧ (ctxOpen st6 255 = true) ∧ (mapValid (st6.ctx (255) CF.GRID) (st6.ctx (255) CF.CHMAP) = true))
    ∧ ((st7.ctxBit (↑(255 : Fin 512)) CF.CONN = true) ∧ (∀ a ∈ st7.acts, a.ctx ≠ ↑(255 : Fin 512)) ∧ ((Instr.ctxDisconnect (255 : Fin 512)) = Instr.ctxDisconnect (255 : Fin 512) ∨ (Instr.ctxDisconnect (255 : Fin 512)) = Instr.supervisionTimeout (255 : Fin 512) ∧ near40 st7.now (st7.ctx (↑(255 : Fin 512)) CF.SUPDL) < st7.now))
    ∧ ((lapsed.ctxBit (↑(255 : Fin 512)) CF.CONN = true) ∧ (∀ a ∈ lapsed.acts, a.ctx ≠ ↑(255 : Fin 512)) ∧ ((Instr.supervisionTimeout (255 : Fin 512)) = Instr.ctxDisconnect (255 : Fin 512) ∨ (Instr.supervisionTimeout (255 : Fin 512)) = Instr.supervisionTimeout (255 : Fin 512) ∧ near40 lapsed.now (lapsed.ctx (↑(255 : Fin 512)) CF.SUPDL) < lapsed.now)) :=
  ⟨by decide +kernel, by decide +kernel, by decide +kernel⟩

/-- A state and operands that meet the hypotheses of Obligations.ContextMemoryAndNetworkKeys, clause by clause. -/
theorem witness_ContextMemoryAndNetworkKeys :
    ((ctxOpen State.reset 511 = false ∨ 92 ≤ 127 / sizeOctets AccessSize.word * sizeOctets AccessSize.word))
    ∧ ((ctxOpen st2 511 = false ∨ 92 ≤ 93 / sizeOctets AccessSize.half * sizeOctets AccessSize.half))
    ∧ ((ctxOpen st2 511 = true) ∧ (91 / sizeOctets AccessSize.byte * sizeOctets AccessSize.byte < 92))
    ∧ ((0 < 15) ∧ (st12.get (Fld.LINK_NETKEY_HANDLE 15) ≠ BitVec.toNat (511 : Word) % 256)) :=
  ⟨by decide +kernel, by decide +kernel, by decide +kernel, by decide +kernel⟩

/-- A state and operands that meet the hypotheses of Obligations.TimelineAndReceiveQueue, clause by clause. -/
theorem witness_TimelineAndReceiveQueue :
    ((st13.tl (63) TF.VALID = 0) ∧ (st13.tmpl (st13.tl (63) TF.TMPL) = some t0) ∧ (st13.now ≤ st13.tl (63) TF.TLAUNCH))
    ∧ ((st14.tl (63) TF.VALID = 0) ∧ (st14.tmpl (st14.tl (63) TF.TMPL) = some t0) ∧ (st14.now ≤ st14.tl (63) TF.TLAUNCH))
    ∧ ((st15.act 63 = none) ∧ (st15.tl (63) TF.VALID = 1))
    ∧ ((BitVec.toNat (1 : Word) % 2 = 1) ∧ (queued.link.rxRuns = [{ first := 47, count := 1 }, { first := 0, count := 2 }]))
    ∧ ((st16.acts = [waitingAct]) ∧ (waitingAct.phase = ActPhase.ackWait) ∧ (waitingAct.frame = some retry1) ∧ (retry1.tries < retry1.retries) ∧ (waitingAct.pans = [])) :=
  ⟨by decide +kernel, by decide +kernel, by decide +kernel, by decide +kernel, by decide +kernel⟩

/-- A state and operands that meet the hypotheses of Obligations.TransmissionsPresented, clause by clause. -/
theorem witness_TransmissionsPresented :
    ((armed.acts = []) ∧ (armed.has Fld.LINK_SCHCFG_EN = true) ∧ (armed.tl (63) TF.VALID = 1) ∧ (armed.tmpl (armed.tl (63) TF.TMPL) = some t0) ∧ (armed.now ≤ armed.tl (63) TF.TLAUNCH) ∧ (presentFrom armed (63) (tMode t0) (entryChan armed (63) t0) (actKind (tKind t0)) ≤ armed.now) ∧ (shown = { id := 63, kind := actKind (tKind t0), mode := tMode t0, chan := entryChan armed (63) t0, lane := armed.tl (63) TF.LANE - 1, prio := tPrio t0, latepol := tLatepol t0, ctx := entryCtx armed (63) (actKind (tKind t0)), tlaunch := armed.tl (63) TF.TLAUNCH, launch := armed.tl (63) TF.TLAUNCH, tmpl := t0 }) ∧ (actKind (tKind t0) = ActKind.tx ∨ actKind (tKind t0) = ActKind.beacon) ∧ (txReadied shown t0 (armed.tl (63) TF.LANE) 0 false armed = some shownB))
    ∧ ((listening.acts = []) ∧ (listening.has Fld.LINK_SCHCFG_EN = true) ∧ (listening.tl (63) TF.VALID = 1) ∧ (listening.tmpl (listening.tl (63) TF.TMPL) = some tLis) ∧ (listening.now ≤ listening.tl (63) TF.TLAUNCH) ∧ (presentFrom listening (63) (tMode tLis) (entryChan listening (63) tLis) (actKind (tKind tLis)) ≤ listening.now) ∧ (shownLis = { id := 63, kind := actKind (tKind tLis), mode := tMode tLis, chan := entryChan listening (63) tLis, lane := listening.tl (63) TF.LANE - 1, prio := tPrio tLis, latepol := tLatepol tLis, ctx := entryCtx listening (63) (actKind (tKind tLis)), tlaunch := listening.tl (63) TF.TLAUNCH, launch := listening.tl (63) TF.TLAUNCH, tmpl := tLis }) ∧ (actKind (tKind tLis) = ActKind.listen) ∧ (listening.paired = false) ∧ (listening.now + 1280 ≤ listening.tl (63) TF.TLAUNCH) ∧ (tPans tLis ≤ 8) ∧ ((laneChoice listening (listening.tl (63) TF.LANE) ActKind.listen (bandOf (tMode tLis)) (listening.tl (63) TF.TLAUNCH) (listening.tl (63) TF.TLAUNCH + tRxwin tLis) 63).1 = 0))
    ∧ ((retrying.acts = [retryAct]) ∧ (retryAct.id < 64) ∧ (retryAct.phase = ActPhase.retryWait) ∧ (retryAct.frame = some retryFrame) ∧ (retrying.tmpl (retrying.tl retryAct.id TF.TMPL) = some t0) ∧ (txReadied { id := retryAct.id, kind := retryAct.kind, mode := retryAct.mode, chan := retryAct.chan, lane := retryAct.lane, prio := retryAct.prio, latepol := retryAct.latepol, late := retryAct.late, laneLate := retryAct.laneLate, ctx := retryAct.ctx, tlaunch := retryAct.tlaunch, launch := retrying.now, phase := retryAct.phase, sub := retryAct.sub, frame := retryAct.frame, pans := retryAct.pans, useFrom := retryAct.useFrom, useTo := retryAct.useTo, heard := retryAct.heard, crcFails := retryAct.crcFails, cancelled := retryAct.cancelled, sending := retryAct.sending, past := retryAct.past, aux := retryAct.aux, clear := retryAct.clear, busy := retryAct.busy, result := retryAct.result, tmpl := t0, centre := retryAct.centre, npans := retryAct.npans } t0 (retrying.tl retryAct.id TF.LANE) 0 false retrying = some retryB))
    ∧ ((dacked.acts = []) ∧ (dacked.dacks[0]? = some dk) ∧ (dk.act = none) ∧ (dacked.tmpl (dacked.get Fld.LINK_ACKCFG_BATMPL) = some tBa) ∧ (dackReadied 136 dk tBa 0 false (markDack (0) 136 dacked) = some dackB)) :=
  ⟨by decide +kernel, by decide +kernel, by decide +kernel, by decide +kernel⟩

/-- A state and operands that meet the hypotheses of Obligations.LaunchesAndEnds, clause by clause. -/
theorem witness_LaunchesAndEnds_1 :
    ((st17.acts = [sendAct]) ∧ (sendAct.phase = ActPhase.presented) ∧ (sendAct.kind = ActKind.tx ∨ sendAct.kind = ActKind.beacon) ∧ (sendAct.frame = some sendFrame) ∧ (sendAct.id < 64) ∧ (st17.tmpl (st17.tl sendAct.id TF.TMPL) = some sendAct.tmpl) ∧ (rolesHeld st17 sendAct.lane sendAct.kind (bandOf sendAct.mode) = true) ∧ (settleLeft st17 sendAct.lane = 0) ∧ (sendFrame.fcnt = none → sendFrame.micsz ≠ 0 → txExhausted st17 sendFrame.pctx sendFrame.kid = false) ∧ (nativeLaunchCode st17 sendAct = 0) ∧ (st17.laneSt sendAct.lane ≠ 4) ∧ (sendAct.lane < 2))
    ∧ ((baS.acts = [baAct]) ∧ (baAct.phase = ActPhase.presented) ∧ (baAct.kind = ActKind.blockAck) ∧ (baAct.frame = some sendFrame) ∧ (136 ≤ baAct.id) ∧ (rolesHeld baS baAct.lane baAct.kind (bandOf baAct.mode) = true) ∧ (settleLeft baS baAct.lane = 0) ∧ (sendFrame.fcnt = none → sendFrame.micsz ≠ 0 → txExhausted baS sendFrame.pctx sendFrame.kid = false) ∧ (nativeLaunchCode baS baAct = 0) ∧ (baS.laneSt baAct.lane ≠ 4) ∧ (baAct.lane < 2))
    ∧ ((lisS.acts = [lisAct]) ∧ (lisAct.phase = ActPhase.presented) ∧ (lisAct.kind = ActKind.listen ∨ lisAct.kind = ActKind.rxCtx) ∧ (lisAct.id < 64) ∧ (lisS.tmpl (lisS.tl lisAct.id TF.TMPL) = some lisAct.tmpl) ∧ (lisS.paired = false) ∧ (rolesHeld lisS lisAct.lane lisAct.kind (bandOf lisAct.mode) = true) ∧ (settleLeft lisS lisAct.lane = 0) ∧ (launchCode lisS lisAct.lane = 0) ∧ (rxRefCode lisS = 0) ∧ (lisS.laneSt lisAct.lane ≤ 2) ∧ (lisAct.lane < 2))
    ∧ ((acking.acts = []) ∧ (acking.lanes.length = 2) ∧ (acking.link.ackPlans = [plan]) ∧ (plan.lane = ↑(1 : Lane)) ∧ (acking.paired = false) ∧ (acking.laneSt ↑(1 : Lane) = 2) ∧ (ackCode acking plan = 0))
    ∧ ((fwdS.acts = [fwdAct]) ∧ (fwdAct.id = 64 + 7) ∧ (fwdAct.phase = ActPhase.presented) ∧ (List.find? (fun x => x.q == 7) fwdS.link.fwds = some fwdF) ∧ (fwdS.tmpl fwdF.tmpl = some t0) ∧ (fwdAct.tmpl = t0) ∧ (ctxOpen fwdS fwdAct.ctx = true) ∧ (fwdAct.frame = some fwdFr) ∧ (fwdFr.fcnt = none) ∧ (txPreCode fwdS fwdAct t0 fwdFr 0 = 0) ∧ (fwdFr.micsz = 0) ∧ (txPostCode fwdS fwdAct fwdFr = 0) ∧ (settleLeft fwdS fwdAct.lane = 0) ∧ (nativeLaunchCode fwdS fwdAct = 0) ∧ (fwdS.laneSt fwdAct.lane ≠ 4) ∧ (fwdAct.lane < 2)) :=
  ⟨by decide +kernel, by decide +kernel, by decide +kernel, by decide +kernel, by decide +kernel⟩

/-- A state and operands that meet the hypotheses of Obligations.LaunchesAndEnds, clause by clause. -/
theorem witness_LaunchesAndEnds_2 :
    ((sendingS.acts = [sendingAct]) ∧ (sendingAct.sending = true) ∧ (sendingAct.kind = ActKind.tx) ∧ (sendingAct.id < 64) ∧ (sendingAct.lane < 2) ∧ (sendingAct.frame = some sendFrame) ∧ (sendFrame.ackreq = false) ∧ (sendingAct.pans = []) ∧ (sendingS.laneSt sendingAct.lane = 4) ∧ (sendingS.rf.portWait = none)) :=
  by decide +kernel

/-- A state and operands that meet the hypotheses of Obligations.FramesReceived, clause by clause. -/
theorem witness_FramesReceived :
    ((st18.modem.queue = (rxr 0 (psdu 3)) :: []) ∧ (st18.acts = []) ∧ (isNative (rxr 0 (psdu 3)).mode = true) ∧ (hdrType (rxr 0 (psdu 3)).hdr = 0) ∧ (hdrAckreq (rxr 0 (psdu 3)).hdr = false) ∧ ((st18.lane (rxr 0 (psdu 3)).lane).ackPreset = none) ∧ ((rxr 0 (psdu 3)).preset = false) ∧ ((omlParse 0 false (psdu 3)) = omlParse 0 false (rxr 0 (psdu 3)).psdu) ∧ (omlFormat (omlParse 0 false (psdu 3)) (rxr 0 (psdu 3)).psdu.length = 0) ∧ ((omlParse 0 false (psdu 3)).netid = st18.get Fld.LINK_ADDR_NETID) ∧ ((omlParse 0 false (psdu 3)).sec = false) ∧ ((omlParse 0 false (psdu 3)).longSrc = false) ∧ ((omlParse 0 false (psdu 3)).src ≠ st18.shortAddr) ∧ (addressedHere st18 (omlParse 0 false (psdu 3)) = true) ∧ (st18.has Fld.LINK_ACCCFG_OPEN = true) ∧ ((omlParse 0 false (psdu 3)).bit 8 = false) ∧ ((omlParse 0 false (psdu 3)).mesh = []) ∧ (findCtx st18 (omlParse 0 false (psdu 3)).src = none) ∧ (rxqRoom st18 (omlParse 0 false (psdu 3)).body.length = true) ∧ ((rxr 0 (psdu 3)).nsym < st18.get Fld.MODEM_LOADCFG_PROFMIN))
    ∧ ((st19.modem.queue = (rxr 0 (psdu 128)) :: []) ∧ (st19.acts = []) ∧ (isNative (rxr 0 (psdu 128)).mode = true) ∧ (hdrType (rxr 0 (psdu 128)).hdr = 0) ∧ (hdrAckreq (rxr 0 (psdu 128)).hdr = false) ∧ ((st19.lane (rxr 0 (psdu 128)).lane).ackPreset = none) ∧ ((rxr 0 (psdu 128)).preset = false) ∧ ((omlParse 0 false (psdu 128)) = omlParse 0 false (rxr 0 (psdu 128)).psdu) ∧ (omlFormat (omlParse 0 false (psdu 128)) (rxr 0 (psdu 128)).psdu.length = 0) ∧ ((omlParse 0 false (psdu 128)).netid = st19.get Fld.LINK_ADDR_NETID) ∧ ((omlParse 0 false (psdu 128)).sec = false) ∧ ((omlParse 0 false (psdu 128)).longSrc = false) ∧ ((omlParse 0 false (psdu 128)).src ≠ st19.shortAddr) ∧ (addressedHere st19 (omlParse 0 false (psdu 128)) = true) ∧ (st19.has Fld.LINK_ACCCFG_OPEN = true) ∧ ((omlParse 0 false (psdu 128)).bit 8 = false) ∧ ((omlParse 0 false (psdu 128)).mesh = []) ∧ (findCtx st19 (omlParse 0 false (psdu 128)).src = none) ∧ (rxqRoom st19 (omlParse 0 false (psdu 128)).body.length = true) ∧ ((rxr 0 (psdu 128)).nsym < st19.get Fld.MODEM_LOADCFG_PROFMIN))
    ∧ ((ackQ.modem.queue = ackRec :: []) ∧ (ackQ.acts = [ackedA]) ∧ (isNative ackRec.mode = true) ∧ (hdrType ackRec.hdr = 1) ∧ (ackedAct ackQ ackRec = some ackedA) ∧ (ackedA.frame = some ackedF) ∧ (ackOk ackQ ackRec ackedF = true) ∧ (ackedA.kind = ActKind.tx) ∧ (ackedA.id < 64) ∧ (ackQ.has Fld.TIDE_STAT_PVALID = false) ∧ (testBit' (eh ackRec.psdu 0) 9 = false))
    ∧ ((st20.acts = [winA]) ∧ (winA.kind = ActKind.rxCtx) ∧ (winA.phase = ActPhase.running) ∧ (winA.sending = false) ∧ (winA.heard = false) ∧ (winA.pans = []) ∧ (winA.id < 64) ∧ (winA.ctx < 512) ∧ (winA.late = false) ∧ (winA.frame = none)) :=
  ⟨by decide +kernel, by decide +kernel, by decide +kernel, by decide +kernel⟩

/-- A state and operands that meet the hypotheses of Obligations.LeConnections, clause by clause. -/
theorem witness_LeConnections :
    ((advS.modem.queue = advRec :: []) ∧ (isConnectReq advS advRec = true) ∧ (actOfRecord advS advRec = some advA) ∧ (BitVec.toNat (advRec.words.headD 0) / 2 ^ 16 = 0) ∧ ((tAdvC 510) = actTmpl advA) ∧ (eb (tAdvC 510) 16 % 8 = 0) ∧ (510 = eh (tAdvC 510) 24 % 512) ∧ (510 ≠ 511) ∧ (advAddressed advS (tAdvC 510) (leBody advRec) = true) ∧ ((leBody advRec).length = 34) ∧ (testBit' (leHdr advRec 0) 5 = true) ∧ (advS.get Fld.LINK_LESTAT_CONNS < 24) ∧ (ctxClass advS 510 = 2) ∧ (ctxOpen advS 510 = false) ∧ (advS.acts = [advA]) ∧ (eb (tAdvC 510) 26 = 255))
    ∧ ((511 = BitVec.toNat (BitVec.ofNat 32 (511 + 47 * 65536)) % 512) ∧ (47 = BitVec.toNat (BitVec.ofNat 32 (511 + 47 * 65536)) / 2 ^ 16 % 64) ∧ (ctxClass leC 511 = 2) ∧ (ctxOpen leC 511 = true) ∧ (leC.ctxBit 511 CF.CONN = true) ∧ (isObserver leC 511 = false) ∧ (47 < 48) ∧ ((leLink leC 511).queue.length < 8) ∧ (descCellsOk leC 47 = true) ∧ (leC.desc 47 DF.PLEN + 4 ≤ leC.ctx 511 CF.MAXTXOCT))
    ∧ (((Instr.leStagePhy (511 : Fin 512)) = Instr.leStageConnUpdate (511 : Fin 512) ∧ 3 = 1 ∧ [0, 0] = [st21.get Fld.LINK_LESTGA_INTERVAL, st21.get Fld.LINK_LESTGA_LATENCY, st21.get Fld.LINK_LESTGB_SUPTO, st21.get Fld.LINK_LESTGC_WINOFS, st21.get Fld.LINK_LESTGB_WINSIZE] ∨ (Instr.leStagePhy (511 : Fin 512)) = Instr.leStageChmap (511 : Fin 512) ∧ 3 = 2 ∧ [0, 0] = [st21.get Fld.LINK_CTXMAPLO_MAP + 2 ^ 32 * (st21.get Fld.LINK_CTXMAPHI_MAP % 32)] ∨ (Instr.leStagePhy (511 : Fin 512)) = Instr.leStagePhy (511 : Fin 512) ∧ 3 = 3 ∧ [0, 0] = [st21.get Fld.LINK_LESTGC_TXPHY, st21.get Fld.LINK_LESTGC_RXPHY]) ∧ (32767 < (st21.ctx (↑(511 : Fin 512)) CF.LEEVCTR + 2 ^ 16 - st21.get Fld.LINK_LEINST_INSTANT) % 2 ^ 16))
    ∧ (((Instr.leStageChmap (511 : Fin 512)) = Instr.leStageConnUpdate (511 : Fin 512) ∧ 2 = 1 ∧ [0] = [st22.get Fld.LINK_LESTGA_INTERVAL, st22.get Fld.LINK_LESTGA_LATENCY, st22.get Fld.LINK_LESTGB_SUPTO, st22.get Fld.LINK_LESTGC_WINOFS, st22.get Fld.LINK_LESTGB_WINSIZE] ∨ (Instr.leStageChmap (511 : Fin 512)) = Instr.leStageChmap (511 : Fin 512) ∧ 2 = 2 ∧ [0] = [st22.get Fld.LINK_CTXMAPLO_MAP + 2 ^ 32 * (st22.get Fld.LINK_CTXMAPHI_MAP % 32)] ∨ (Instr.leStageChmap (511 : Fin 512)) = Instr.leStagePhy (511 : Fin 512) ∧ 2 = 3 ∧ [0] = [st22.get Fld.LINK_LESTGC_TXPHY, st22.get Fld.LINK_LESTGC_RXPHY]) ∧ (32767 < (st22.ctx (↑(511 : Fin 512)) CF.LEEVCTR + 2 ^ 16 - st22.get Fld.LINK_LEINST_INSTANT) % 2 ^ 16))
    ∧ (((Instr.leStageConnUpdate (511 : Fin 512)) = Instr.leStageConnUpdate (511 : Fin 512) ∧ 1 = 1 ∧ [0, 0, 0, 0, 0] = [st23.get Fld.LINK_LESTGA_INTERVAL, st23.get Fld.LINK_LESTGA_LATENCY, st23.get Fld.LINK_LESTGB_SUPTO, st23.get Fld.LINK_LESTGC_WINOFS, st23.get Fld.LINK_LESTGB_WINSIZE] ∨ (Instr.leStageConnUpdate (511 : Fin 512)) = Instr.leStageChmap (511 : Fin 512) ∧ 1 = 2 ∧ [0, 0, 0, 0, 0] = [st23.get Fld.LINK_CTXMAPLO_MAP + 2 ^ 32 * (st23.get Fld.LINK_CTXMAPHI_MAP % 32)] ∨ (Instr.leStageConnUpdate (511 : Fin 512)) = Instr.leStagePhy (511 : Fin 512) ∧ 1 = 3 ∧ [0, 0, 0, 0, 0] = [st23.get Fld.LINK_LESTGC_TXPHY, st23.get Fld.LINK_LESTGC_RXPHY]) ∧ ((st23.ctx (↑(511 : Fin 512)) CF.LEEVCTR + 2 ^ 16 - st23.get Fld.LINK_LEINST_INSTANT) % 2 ^ 16 ≤ 32767)) :=
  ⟨by decide +kernel, by decide +kernel, by decide +kernel, by decide +kernel, by decide +kernel⟩

end Sys2Proof.Tests.Link

namespace Sys2Proof.Tests.RingPort

def ringCfgOf (role : Nat) : CfgRecord :=
  { type := 0x0A, body := [BitVec.ofNat 8 role, 0xFF, 8, 0] ++ List.replicate 15 0xFF ++ [200] ++ bytesLE 2 1 ++ [16, 0], source := none, crc := 0 }
def ringS (role st pos : Nat) (v : Ring) : State :=
  { ((State.reset.put Fld.RING_STAT_STATE st).put Fld.RING_STAT_POSITION pos) with salt := { records := [ringCfgOf role] }, ring := v }
def tm (hops : Nat) : RingTime := { stratum := 3, gap := true, surveyed := true, hops := hops, t := 1280, acc := 65535, evsum := 0x8001 }
def dataOctets (h box : Nat) : List Byte := withCrc16 (bytesLE 1 h ++ bytesLE 1 box ++ List.replicate 64 7)
def outBox : State := (ringS 1 3 7 { dst := [(15, 15)] }).putBit Reg.RING_MBDIR 15 true
def inWindow : State := { outBox with ring := { cycle := 14, dst := [(15, 15)] } } |>.putBit Reg.RING_MBPEND 15 true
def master (v : Ring) : State := (ringS 2 4 0 v).put Fld.RING_LOOP_HOPS 7
def st1 : State := ringS 1 1 0 { locked := true, seen := 2 }
def st2 : State := { ringS 2 4 0 { evAcc := 0xFFFF } with tide := { acc := 2 ^ 32 * 1280 } }
def st3 : State := ringS 1 3 0 {}
def st5 : State := ringS 1 3 7 { evCollected := 0xFFFF }
def st6 : State := ringS 1 3 7 { evFire := some (0x8001, 0) }
def st7 : State := ringS 1 3 7 {}
def st8 : State := (ringS 1 3 7 {}).putBit Reg.RING_MBFULL 15 true
def st9 : State := master {}
def st10 : State := master { surveyRetry := true }
def st11 : State := master { survey := some 7 }
def st12 : State := master { survey := some 0 }
def st15 : State := ringS 1 1 0 { seen := 2, gapSeen := true, hopsSeen := 6 }
def st16 : State := ringS 2 1 0 {}
def st17 : State := ringS 2 1 0 { heard := true }
def st18 : State := (ringS 1 3 2 {}).unflag Fld.RINGBYP_STAT_CLOSED


/-- A state and operands that meet the hypotheses of Obligations.RingCycle, clause by clause. -/
theorem witness_RingCycle_1 :
    ((st1.ringSt ≠ 0))
    ∧ ((st2.ringSt = 4))
    ∧ ((timeParse (timeMsg (tm 6)) = some (tm 6)) ∧ (st3.ringSt = 3) ∧ (st3.ringRole = 1) ∧ ((tm 6).hops + 1 ≤ 7) ∧ (eb st3.ringCfg 1 = 255 ∨ eb st3.ringCfg 1 = (tm 6).hops + 1) ∧ (st3.get Fld.TIDE_CFG_SRCSEL ≠ 1))
    ∧ ((timeParse (timeMsg (tm 0)) = some (tm 0)) ∧ (st3.ringSt = 3) ∧ (st3.ringRole = 1) ∧ ((tm 0).hops + 1 ≤ 7) ∧ (eb st3.ringCfg 1 = 255 ∨ eb st3.ringCfg 1 = (tm 0).hops + 1) ∧ (st3.get Fld.TIDE_CFG_SRCSEL ≠ 1))
    ∧ ((st5.ringSt = 3) ∧ (7 = st5.ringPos) ∧ (st5.ring.posBad = false)) :=
  ⟨by decide +kernel, by decide +kernel, by decide +kernel, by decide +kernel, by decide +kernel⟩

/-- A state and operands that meet the hypotheses of Obligations.RingCycle, clause by clause. -/
theorem witness_RingCycle_2 :
    ((st6.ring.evFire = some (32769, 0)) ∧ (0 ≤ st6.now))
    ∧ ((st7.ringSt = 3) ∧ (dataParse (dataOctets 112 15) = some (0, false, st7.ringPos, 15)) ∧ (15 < st7.ringMbox) ∧ (st7.bit Reg.RING_MBDIR 15 = false))
    ∧ ((st8.ringSt = 3) ∧ (dataParse (dataOctets 112 15) = some (0, false, st8.ringPos, 15)) ∧ (15 < st8.ringMbox) ∧ (st8.bit Reg.RING_MBDIR 15 = false))
    ∧ ((7 ≤ 7 ∨ 7 = 15) ∧ (15 < outBox.ringMbox) ∧ (outBox.bit Reg.RING_MBDIR 15 = true))
    ∧ ((15 ≤ 7 ∨ 15 = 15) ∧ (15 < outBox.ringMbox) ∧ (outBox.bit Reg.RING_MBDIR 15 = true)) :=
  ⟨by decide +kernel, by decide +kernel, by decide +kernel, by decide +kernel, by decide +kernel⟩

/-- A state and operands that meet the hypotheses of Obligations.RingCycle, clause by clause. -/
theorem witness_RingCycle_3 :
    (inWindow.ringSt = 3 ∨ inWindow.ringSt = 4) ∧ (inWindow.ring.posBad = false) ∧ (inWindow.ring.cycle % 2 = 0) ∧ (inWindow.ring.cycle / 2 % inWindow.ringNodes = inWindow.ringPos) ∧ (bitsOf 16 (inWindow.get Fld.RING_MBPEND_PEND) = [15]) ∧ (List.find? (fun x => x.1 == 15) inWindow.ring.dst = some (15, 15)) := by
  decide +kernel

/-- A state and operands that meet the hypotheses of Obligations.RingSurveyAndMembership, clause by clause. -/
theorem witness_RingSurveyAndMembership_1 :
    ((st9.ringSt = 4))
    ∧ ((st10.ringSt = 4) ∧ (st10.ring.surveyRetry = true))
    ∧ ((st11.ringSt = 4) ∧ (st11.ring.survey = some 7))
    ∧ ((st12.ringSt = 4) ∧ (st12.ring.survey = some 0))
    ∧ ((st12.ringSt = 4) ∧ (st12.ring.survey.isSome = true)) :=
  ⟨by decide +kernel, by decide +kernel, by decide +kernel, by decide +kernel, by decide +kernel⟩

/-- A state and operands that meet the hypotheses of Obligations.RingSurveyAndMembership, clause by clause. -/
theorem witness_RingSurveyAndMembership_2 :
    ((st15.ringSt = 1) ∧ (st15.ringRole = 1) ∧ (2 ≤ st15.ring.seen) ∧ (st15.ring.gapSeen = true) ∧ (st15.ring.hopsSeen + 1 ≤ 7) ∧ (eb st15.ringCfg 1 = 255 ∨ eb st15.ringCfg 1 = st15.ring.hopsSeen + 1))
    ∧ ((st16.ringSt = 1) ∧ (st16.ringRole = 2) ∧ (st16.ring.heard = false))
    ∧ ((st17.ringSt = 1) ∧ (st17.ringRole = 2) ∧ (st17.ring.heard = true))
    ∧ ((st18.ringSt ≠ 0) ∧ (st18.has Fld.RINGBYP_STAT_CLOSED = false)) :=
  ⟨by decide +kernel, by decide +kernel, by decide +kernel, by decide +kernel⟩

end Sys2Proof.Tests.RingPort

namespace Sys2Proof.Tests.CipherPke

def cores (l : List (Option CoreWork)) : State := { State.reset with cipher := { cores := l, untested := [] } }
abbrev busyW : Option CoreWork := some .link
def ctrJob : QueueJob := { mode := 2, decrypt := false, keylen := 0, key := List.replicate 16 0, tagLen := 0, iv := List.replicate 16 0, aad := [], msgLen := 16, done := [], submit := 0xB }
def ctrQ : CipherQueue := { job := some ctrJob, active := true, flight := 1 }
def ctrBase : State :=
  let s := (State.reset.put (Fld.CIPHER_QCFG_SIZE 0) 2).put (Fld.CIPHER_QTAIL_TAIL 0) 1
  let s := (s.flag Fld.CIPHER_CTL_Q0EN).flag (Fld.CIPHER_QSTAT_ACTIVE 0)
  let s := ((s.setWord 0x40054000 0x03000002).setWord 0x40054004 16).setWord 0x4005400C 16
  { s.setWord 0x40054010 0x01000080 with cipher := { cores := [none, none, none, some (.queue 0)], untested := [], queues := [ctrQ, {}] } }
def emptyQ : State := (State.reset.put (Fld.CIPHER_QCFG_SIZE 1) 255).put (Fld.CIPHER_QHEAD_HEAD 1) 254
def offQ : State := emptyQ.unflag Fld.CIPHER_CTL_Q1EN
def flushS : State := ((State.reset.put (Fld.CIPHER_QCFG_SIZE 1) 255).put (Fld.CIPHER_QTAIL_TAIL 1) 1).put (Fld.CIPHER_QHEAD_HEAD 1) 254
def coreGone : State := State.reset.putBit Reg.CIPHER_STAT 3 true
def fifo (l : List Word) : State := { State.reset with trng := { fifo := l, starting := false }, cipher := { cores := [busyW, busyW, busyW, busyW] } }
def starting : State := { (fifo []).flag Fld.TRNG_CTL_EN with trng := { }, keys := {} }
def ready : State := State.reset.flag Fld.TRNG_STAT_READY
def drawn : State := { ready.put Fld.TRNG_CTL_RESEED 7 with trng := { generates := 7 } }
def owned : State := ((State.reset.flag Fld.PKE_CLAIM_CLAIM).put Fld.PKE_CLAIM_OWNER 0xD).flag Fld.PKE_STAT_EPHVALID
def owned2 : State := owned.flag Fld.TRNG_STAT_READY
def withD (n : Nat) : State := owned2.setBytes pkeD (bytesBE 32 n)
def opS : State := { owned2.flag Fld.PKE_STAT_BUSY with pke := { op := some { code := 0x0421, writes := [(pkeRX, bytesBE 32 77)] } } }
def shaS : State := { State.reset with pke := { sha := some [1, 2, 3, 4] } }
def digS : State := { State.reset with pke := { digest := some (List.replicate 32 7) } }
def st1 : State := cores [busyW, busyW, busyW, some .test]
def st2 : State := cores [none, busyW, busyW, some .test]
def st3 : State := cores [none, none, none, busyW]
def st5 : State := fifo (List.replicate 16 5)
def st6 : State := (fifo (List.replicate 13 5)).flag Fld.TRNG_STAT_READY
def st9 : State := { owned.setByte pkeD 9 with pke := { eph := some 5 } }
def st10 : State := withD 1
def st11 : State := withD (p256N - 1)
def st12 : State := ((withD (p256N - 1)).setBytes pkeQX (bytesBE 32 p256Gx)).setBytes pkeQY (bytesBE 32 p256Gy)
def locksteps : State := State.reset.flag Fld.SYSCFG_FOSTAT_LOCKSTEP


/-- A state and operands that meet the hypotheses of Obligations.CipherCommands, clause by clause. -/
theorem witness_CipherCommands_1 :
    ((st1.cipher.cores = [some CoreWork.link, some CoreWork.link, some CoreWork.link, some CoreWork.test]))
    ∧ ((st2.cipher.cores = [none, some CoreWork.link, some CoreWork.link, some CoreWork.test]) ∧ (st2.cipher.link = []) ∧ (coreRetired st2 0 = false) ∧ (0 ∉ st2.cipher.untested))
    ∧ ((st3.cipher.cores.length = 4) ∧ (st3.core 3 = some CoreWork.link) ∧ (st3.CipherQuiet) ∧ (st3.CipherIdle))
    ∧ ((ctrBase.cipher.queues = [ctrQ, { }]) ∧ (ctrBase.cipher.cores.length = 4) ∧ (ctrBase.core 3 = some (CoreWork.queue 0)) ∧ (ctrQ.job = some ctrJob) ∧ (ctrQ.flushing = false) ∧ (ctrQ.todo = 0) ∧ (ctrQ.flight = 1) ∧ (ctrJob.mode ≤ 2) ∧ (0 = ctrBase.get (Fld.CIPHER_QHEAD_HEAD 0)) ∧ ((qdRead ctrBase 0 0) = qdRead ctrBase 0 0) ∧ ((qdRead ctrBase 0 0).final = true) ∧ ((0 + 1) % max 1 (ctrBase.get (Fld.CIPHER_QCFG_SIZE 0)) = ctrBase.get (Fld.CIPHER_QTAIL_TAIL 0)) ∧ (State.QueueIdle 1 ctrBase) ∧ (ctrBase.cipher.link = []) ∧ (ctrBase.cipher.keyWait = 0) ∧ (ctrBase.cipher.tests = []) ∧ (ctrBase.drbgReady = false) ∧ ((List.take (qdRead ctrBase 0 0).segLen (List.drop ctrJob.done.length (jobOutput ctrJob (ctrJob.done ++ ctrBase.bytes (0x40054000 + (qdRead ctrBase 0 0).src) (qdRead ctrBase 0 0).segLen)))) = List.take (qdRead ctrBase 0 0).segLen (List.drop ctrJob.done.length (jobOutput ctrJob (ctrJob.done ++ ctrBase.bytes (1074085888 + (qdRead ctrBase 0 0).src) (qdRead ctrBase 0 0).segLen)))) ∧ (1074085888 + (qdRead ctrBase 0 0).dst + (qdRead ctrBase 0 0).segLen ≤ qdAddr ctrBase 0 0 ∨ qdAddr ctrBase 0 0 + 32 ≤ 1074085888 + (qdRead ctrBase 0 0).dst))
    ∧ ((State.reset.get (Fld.CIPHER_QCFG_SIZE 1) ≤ BitVec.toNat (255 : Word) % 256 ∨ State.reset.issues Master.cpu0 = false)) :=
  ⟨by decide +kernel, by decide +kernel, by decide +kernel, by decide +kernel, by decide +kernel⟩

/-- A state and operands that meet the hypotheses of Obligations.CipherCommands, clause by clause. -/
theorem witness_CipherCommands_2 :
    ((locksteps.get (Fld.CIPHER_QCFG_SIZE 1) ≤ BitVec.toNat (0 : Word) % 256 ∨ locksteps.issues Master.cpu1 = false))
    ∧ ((BitVec.toNat (254 : Word) % 256 < emptyQ.get (Fld.CIPHER_QCFG_SIZE 1)) ∧ (emptyQ.issues Master.cpu0 = true) ∧ (emptyQ.CipherQuiet) ∧ (State.QueueIdle (1 - 1) emptyQ) ∧ (emptyQ.drbgReady = false ∨ 12 < emptyQ.trng.fifo.length) ∧ (emptyQ.has (if 1 = 0 then Fld.CIPHER_CTL_Q0EN else Fld.CIPHER_CTL_Q1EN) = false ∨ BitVec.toNat (254 : Word) % 256 = emptyQ.get (Fld.CIPHER_QHEAD_HEAD 1)))
    ∧ ((BitVec.toNat (253 : Word) % 256 < offQ.get (Fld.CIPHER_QCFG_SIZE 1)) ∧ (offQ.issues Master.cpu0 = true) ∧ (offQ.CipherQuiet) ∧ (State.QueueIdle (1 - 1) offQ) ∧ (offQ.drbgReady = false ∨ 12 < offQ.trng.fifo.length) ∧ (offQ.has (if 1 = 0 then Fld.CIPHER_CTL_Q0EN else Fld.CIPHER_CTL_Q1EN) = false ∨ BitVec.toNat (253 : Word) % 256 = offQ.get (Fld.CIPHER_QHEAD_HEAD 1)))
    ∧ ((flushS.CipherQuiet) ∧ (flushS.cipher.queues.length = 2) ∧ ((flushS.queue 1).flight = 0) ∧ (flushS.get (Fld.CIPHER_QTAIL_TAIL 1) < flushS.get (Fld.CIPHER_QCFG_SIZE 1)) ∧ (flushS.get (Fld.CIPHER_QHEAD_HEAD 1) < flushS.get (Fld.CIPHER_QCFG_SIZE 1)))
    ∧ ((State.reset.CipherQuiet) ∧ (State.reset.cipher.cores = [none, none, none, none]) ∧ (State.reset.get Fld.CIPHER_STAT_RETIRED = 0)) :=
  ⟨by decide +kernel, by decide +kernel, by decide +kernel, by decide +kernel, by decide +kernel⟩

/-- A state and operands that meet the hypotheses of Obligations.CipherCommands, clause by clause. -/
theorem witness_CipherCommands_3 :
    ((coreGone.CipherQuiet) ∧ (coreGone.cipher.cores = [none, none, none, none]) ∧ (coreRetired coreGone 3 = true)) :=
  by decide +kernel

/-- A state and operands that meet the hypotheses of Obligations.RandomData, clause by clause. -/
theorem witness_RandomData_1 :
    ((st5.trng.fifo = (5 : Word) :: List.replicate 15 (5 : Word)) ∧ ((List.replicate 15 (5 : Word)).length < 16) ∧ (12 < (List.replicate 15 (5 : Word)).length) ∧ (st5.CipherQuiet))
    ∧ ((st6.trng.fifo = (5 : Word) :: List.replicate 12 (5 : Word)) ∧ ((List.replicate 12 (5 : Word)).length < 16) ∧ ((List.replicate 12 (5 : Word)).length ≤ 12) ∧ (st6.drbgReady = true) ∧ (st6.cipher.keyWait = 0) ∧ (st6.cipher.cores = [some CoreWork.link, some CoreWork.link, some CoreWork.link, some CoreWork.link]))
    ∧ ((State.reset.trng.fifo = []))
    ∧ ((starting.trng.starting = true) ∧ (starting.has Fld.TRNG_CTL_EN = true) ∧ (starting.trng.fifo = []) ∧ (starting.keys.passWaits = false) ∧ (starting.cipher.keyWait = 0) ∧ (starting.cipher.cores = [some CoreWork.link, some CoreWork.link, some CoreWork.link, some CoreWork.link]))
    ∧ ((ready.drbgReady = true) ∧ (true = true ∨ ready.get Fld.TRNG_CTL_RESEED ≤ ready.trng.generates)) :=
  ⟨by decide +kernel, by decide +kernel, by decide +kernel, by decide +kernel, by decide +kernel⟩

/-- A state and operands that meet the hypotheses of Obligations.RandomData, clause by clause. -/
theorem witness_RandomData_2 :
    (drawn.drbgReady = true) ∧ (false = true ∨ drawn.get Fld.TRNG_CTL_RESEED ≤ drawn.trng.generates) := by
  decide +kernel

/-- A state and operands that meet the hypotheses of Obligations.PublicKeyOperations, clause by clause. -/
theorem witness_PublicKeyOperations_1 :
    ((State.reset.has Fld.PKE_CLAIM_LOADER = false) ∧ (State.reset.issues Master.cpu0 = true) ∧ (State.reset.has Fld.PKE_CLAIM_CLAIM = false))
    ∧ ((st9.has Fld.PKE_CLAIM_LOADER = false) ∧ (st9.issues Master.debug = true) ∧ (pkeOwns st9 Master.debug = true) ∧ (st9.pke.op = none))
    ∧ (((Instr.pkeSign Master.cpu1 (1 : Word) false) ∈ [Instr.pkeKeygen Master.cpu1 (1 : Word) false, Instr.pkeEcdh Master.cpu1 (1 : Word) false, Instr.pkeSign Master.cpu1 (1 : Word) false, Instr.pkeVerify Master.cpu1 (1 : Word) false, Instr.pkeValidate Master.cpu1 (1 : Word) false]) ∧ (locksteps.issues Master.cpu1 = false))
    ∧ (((Instr.pkeSign Master.debug (1 : Word) false) ∈ [Instr.pkeKeygen Master.debug (1 : Word) false, Instr.pkeEcdh Master.debug (1 : Word) false, Instr.pkeSign Master.debug (1 : Word) false, Instr.pkeVerify Master.debug (1 : Word) false, Instr.pkeValidate Master.debug (1 : Word) false]) ∧ (State.reset.issues Master.debug = true) ∧ (pkeOwns State.reset Master.debug = false))
    ∧ ((pkeOwns owned2 Master.debug = true) ∧ (owned2.issues Master.debug = true) ∧ (owned2.has Fld.PKE_STAT_BUSY = false) ∧ (BitVec.toNat (0 : Word) / 16 % 4 ≠ 3) ∧ (owned2.drbgReady = true)) :=
  ⟨by decide +kernel, by decide +kernel, by decide +kernel, by decide +kernel, by decide +kernel⟩

/-- A state and operands that meet the hypotheses of Obligations.PublicKeyOperations, clause by clause. -/
theorem witness_PublicKeyOperations_2 :
    ((pkeOwns st11 Master.debug = true) ∧ (st11.issues Master.debug = true) ∧ (st11.has Fld.PKE_STAT_BUSY = false) ∧ (BitVec.toNat (0 : Word) / 16 % 4 ≠ 3) ∧ ((pkePrivate Master.debug (0 : Word) 6 false st11) = pkePrivate Master.debug (0 : Word) 6 false st11) ∧ (st11.drbgReady = true) ∧ ((pkePrivate Master.debug (0 : Word) 6 false st11).1 = 0))
    ∧ ((pkeOwns st10 Master.debug = true) ∧ (st10.issues Master.debug = true) ∧ (st10.has Fld.PKE_STAT_BUSY = false) ∧ (BitVec.toNat (0 : Word) / 16 % 4 ≠ 3) ∧ ((pkePrivate Master.debug (0 : Word) 6 false st10) = pkePrivate Master.debug (0 : Word) 6 false st10) ∧ (st10.drbgReady = true) ∧ ((pkePrivate Master.debug (0 : Word) 6 false st10).1 = 0))
    ∧ ((pkeOwns st10 Master.debug = true) ∧ (st10.issues Master.debug = true) ∧ (st10.has Fld.PKE_STAT_BUSY = false) ∧ (BitVec.toNat (0 : Word) / 16 % 4 ≠ 3) ∧ ((pkePrivate Master.debug (0 : Word) 7 false st10) = pkePrivate Master.debug (0 : Word) 7 false st10) ∧ ((BitVec.toNat (0 : Word)).testBit 17 = false) ∧ (ecOnCurve (st10.operand pkeQX) (st10.operand pkeQY) = false))
    ∧ ((pkeOwns st12 Master.debug = true) ∧ (st12.issues Master.debug = true) ∧ (st12.has Fld.PKE_STAT_BUSY = false) ∧ (BitVec.toNat (0 : Word) / 16 % 4 ≠ 3) ∧ ((pkePrivate Master.debug (0 : Word) 7 false st12) = pkePrivate Master.debug (0 : Word) 7 false st12) ∧ ((BitVec.toNat (0 : Word)).testBit 17 = false) ∧ (ecOnCurve (st12.operand pkeQX) (st12.operand pkeQY) = true) ∧ ((pkePrivate Master.debug (0 : Word) 7 false st12).1 = 0))
    ∧ ((pkeOwns owned2 Master.debug = true) ∧ (owned2.issues Master.debug = true) ∧ (owned2.has Fld.PKE_STAT_BUSY = false) ∧ (BitVec.toNat (0 : Word) / 16 % 4 ≠ 3)) :=
  ⟨by decide +kernel, by decide +kernel, by decide +kernel, by decide +kernel, by decide +kernel⟩

/-- A state and operands that meet the hypotheses of Obligations.PublicKeyOperations, clause by clause. -/
theorem witness_PublicKeyOperations_3 :
    ((opS.pke.op = some { code := 0x0421, writes := [(pkeRX, (bytesBE 32 77))] }))
    ∧ ((opS.pke.op = some ({ code := 0x0421, writes := [(pkeRX, bytesBE 32 77)] } : PkeOp)))
    ∧ ((locksteps.issues Master.cpu1 = false) ∧ ((Instr.shaInit Master.cpu1) ∈ [Instr.pkeClaimWrite Master.cpu1 true, Instr.pkeClaimWrite Master.cpu1 false, Instr.shaInit Master.cpu1, Instr.shaData Master.cpu1 0, Instr.shaFinal Master.cpu1 0]))
    ∧ ((shaS.issues Master.host = true) ∧ (shaAllowed shaS Master.host = true))
    ∧ ((shaS.issues Master.host = true) ∧ (shaAllowed shaS Master.host = true) ∧ (shaS.pke.sha = some [(1 : Byte), (2 : Byte), (3 : Byte), (4 : Byte)])) :=
  ⟨by decide +kernel, by decide +kernel, by decide +kernel, by decide +kernel, by decide +kernel⟩

/-- A state and operands that meet the hypotheses of Obligations.PublicKeyOperations, clause by clause. -/
theorem witness_PublicKeyOperations_4 :
    ((digS.pke.digest = some (List.replicate 32 (7 : Byte))) ∧ ((List.replicate 32 (7 : Byte)).length = 32)) :=
  by decide +kernel

end Sys2Proof.Tests.CipherPke

namespace Sys2Proof.Tests.KeySlots

def rooted : State := setKeySt 0 1 ((putKeyAttr 0 rootAttr State.reset).flag Fld.KEYSTORE_STAT_ROOTOK)
def slotted (n : Nat) (ty masters ops uses : Nat) : State :=
  setKeySt n 1 (putKeyAttr n [BitVec.ofNat 32 (ty * 4096), BitVec.ofNat 32 (masters + 256 * ops), BitVec.ofNat 32 uses, 0, 0, 0xFFFFFFFF, 0xFFFFFFFF] rooted)
abbrev reqK (n : Nat) : KeyRequest := { slot := n, masters := 1, op := 0, types := [0], block := 4, checkFails := false }
def asking (w0 w1 : Word) (s : State) : State :=
  ((((s.wr (Reg.KEYSTORE_NEWATTR 0) w0).wr (Reg.KEYSTORE_NEWATTR 1) w1).wr (Reg.KEYSTORE_NEWATTR 2) 5).wr (Reg.KEYSTORE_NEWATTR 5) 0xFFFFFFFF).wr (Reg.KEYSTORE_NEWATTR 6) 0xFFFFFFFF
def deriveS : State := asking 0x00010000 0x00000100 rooted
def importS : State :=
  let s := asking 1 0 (slotted 1 0 2 0x20 9)
  (((s.setWord 0x40054000 0x00010000).setWord 0x40054004 0x00000100).setWord 0x40054008 5).setBytes 0x40054014 (List.replicate 8 0xFF)
def importA : List Word := (List.range 7).map (fun w => importS.word (0x40054000 + 4 * w))
def restrictS : State := asking 0 0 (slotted 255 0 1 1 9)
def attr9 : List Word := List.replicate 7 0xFFFFFFFF
def doneS : State := { State.reset.flag Fld.KEYSTORE_RESULT_BUSY with keys := { cmd := some (.make 255 (attrBuild attr9 3 7 1) [1], 0) } }
def sweepS (p left : Nat) (w : Bool) : State := { setKeySt 255 2 (slotted 255 0 1 1 2) with keys := { sweep := some (p, left), cmd := some (.nothing, 0), cmdWaits := w } }
def passS (n : Nat) : State := { State.reset with keys := { pass := some n } }
def respS (v : Nat) : State := slotted 255 0 1 1 2 |>.put Fld.BKP_TAMPCFG_RESP v
def latched : State := (State.reset.putBit Reg.BKP_TAMPSTAT 7 true).flag Fld.KEYSTORE_STAT_LOCKED
def lcS : State := { State.reset with keys := { lcTo := some 3, lcUnits := 127 } }
def glS : State := { State.reset.setByte 0x3FFFFF 7 with keys := { glErase := true } }
def st1 : State := slotted 255 0 1 1 2
def st2 : State := slotted 255 0 1 1 0xFFFF
def st3 : State := State.reset.flag Fld.KEYSTORE_RESULT_BUSY
def st5 : State := State.reset.flag Fld.TRNG_STAT_READY
def st6 : State := sweepS 255 256 true
def st7 : State := sweepS 0 1 true
def st9 : State := passS 254
def st10 : State := passS 255
def st11 : State := respS 0
def st12 : State := { respS 0x8000 with pke := { eph := some 4 }, backup := { root := [3] } }
def st13 : State := { respS 0xC000 with cipher := { link := [1], cores := [some .link, some (.queue 0), some .key, some .test], keyWait := 1 } , keys := { cmd := some (.nothing, 0), sweep := some (4, 5), pass := some 4 } }
def st14 : State := State.reset.put Fld.KEYSTORE_STAT_GL 1


/-- A state and operands that meet the hypotheses of Obligations.KeySlotCommands, clause by clause. -/
theorem witness_KeySlotCommands_1 :
    (((reqK 255) = { slot := ↑(255 : Fin 256), masters := (1 : BitVec 5).toNat, op := ↑(0 : Fin 8), types := bitsOf 8 (1 : BitVec 8).toNat, block := (4 : BitVec 5).toNat, checkFails := false }) ∧ (admitCode (reqK 255) st1 = 0) ∧ (1 < st1.get (keyUses ↑(255 : Fin 256))))
    ∧ (((reqK 255) = { slot := ↑(255 : Fin 256), masters := (1 : BitVec 5).toNat, op := ↑(0 : Fin 8), types := bitsOf 8 (1 : BitVec 8).toNat, block := (4 : BitVec 5).toNat, checkFails := false }) ∧ (admitCode (reqK 255) st2 = 0) ∧ (1 < st2.get (keyUses ↑(255 : Fin 256))))
    ∧ (((reqK 255) = { slot := ↑(255 : Fin 256), masters := (1 : BitVec 5).toNat, op := ↑(0 : Fin 8), types := bitsOf 8 (1 : BitVec 8).toNat, block := (4 : BitVec 5).toNat, checkFails := false }) ∧ (admitCode (reqK 255) State.reset ≠ 0))
    ∧ (((Instr.keyRootgen Master.cpu1) ∈ [Instr.keyDerive Master.cpu1 (0 : Fin 256) false, Instr.keyImport Master.cpu1 (0 : Fin 256) (0 : BitVec 16) false, Instr.keyInvalidate Master.cpu1 (0 : Fin 256), Instr.keyRestrict Master.cpu1 (0 : Fin 256), Instr.keyRootgen Master.cpu1]) ∧ (CipherPke.locksteps.issues Master.cpu1 = false))
    ∧ (((Instr.keyRootgen Master.host) ∈ [Instr.keyDerive Master.host (0 : Fin 256) false, Instr.keyImport Master.host (0 : Fin 256) (0 : BitVec 16) false, Instr.keyInvalidate Master.host (0 : Fin 256), Instr.keyRestrict Master.host (0 : Fin 256), Instr.keyRootgen Master.host]) ∧ (Master.host ≠ Master.cpu0 ∧ Master.host ≠ Master.cpu1 ∨ State.reset.issues Master.host = true ∧ State.reset.has Fld.KEYSTORE_RESULT_BUSY = true)) :=
  ⟨by decide +kernel, by decide +kernel, by decide +kernel, by decide +kernel, by decide +kernel⟩

/-- A state and operands that meet the hypotheses of Obligations.KeySlotCommands, clause by clause. -/
theorem witness_KeySlotCommands_2 :
    (((Instr.keyRestrict Master.cpu0 (255 : Fin 256)) ∈ [Instr.keyDerive Master.cpu0 (255 : Fin 256) false, Instr.keyImport Master.cpu0 (255 : Fin 256) (0 : BitVec 16) false, Instr.keyInvalidate Master.cpu0 (255 : Fin 256), Instr.keyRestrict Master.cpu0 (255 : Fin 256), Instr.keyRootgen Master.cpu0]) ∧ (Master.cpu0 ≠ Master.cpu0 ∧ Master.cpu0 ≠ Master.cpu1 ∨ st3.issues Master.cpu0 = true ∧ st3.has Fld.KEYSTORE_RESULT_BUSY = true))
    ∧ ((Master.cpu0 = Master.cpu0 ∨ Master.cpu0 = Master.cpu1) ∧ (deriveS.issues Master.cpu0 = true) ∧ (deriveS.has Fld.KEYSTORE_RESULT_BUSY = false) ∧ (deriveS.has Fld.KEYSTORE_STAT_LOCKED = false) ∧ (0 = attrParent deriveS.newAttr) ∧ ((kdf (deriveS.keyBytes 0) (bytesBE 2 (attrLabel deriveS.newAttr) ++ [0#8] ++ keyContext deriveS ++ bytesBE 1 (attrType deriveS.newAttr)) (keyOctets (attrType deriveS.newAttr))) = kdf (deriveS.keyBytes 0) (bytesBE 2 (attrLabel deriveS.newAttr) ++ [0#8] ++ keyContext deriveS ++ bytesBE 1 (attrType deriveS.newAttr)) (keyOctets (attrType deriveS.newAttr))) ∧ (newSlotCode deriveS deriveS.newAttr (255) 0 = 0) ∧ (admitCode { slot := 0, masters := masterBit (masterBlock Master.cpu0), op := 4, types := [2, 4], block := masterBlock Master.cpu0, checkFails := false } deriveS = 0))
    ∧ ((Master.cpu0 = Master.cpu0 ∨ Master.cpu0 = Master.cpu1) ∧ (importS.issues Master.cpu0 = true) ∧ (importS.has Fld.KEYSTORE_RESULT_BUSY = false) ∧ (importS.has Fld.KEYSTORE_STAT_LOCKED = false) ∧ (0x40054000 = 1074085888 + (0 : BitVec 16).toNat) ∧ (importA = List.map (fun w => importS.word (0x40054000 + 4 * w)) (List.range 7)) ∧ (16 = keyOctets (attrType importA)) ∧ (1 = attrParent importS.newAttr) ∧ ((0 : BitVec 16).toNat % 4 = 0) ∧ ((0 : BitVec 16).toNat + 57 + 16 ≤ 16384) ∧ (newSlotCode importS importA (255) 1 = 0) ∧ (admitCode { slot := 1, masters := masterBit (masterBlock Master.cpu0), op := 5, types := [0, 1, 2], block := masterBlock Master.cpu0, checkFails := false } importS = 0))
    ∧ ((Master.cpu1 = Master.cpu0 ∨ Master.cpu1 = Master.cpu1) ∧ (st1.issues Master.cpu1 = true) ∧ (st1.has Fld.KEYSTORE_RESULT_BUSY = false) ∧ (st1.has Fld.KEYSTORE_STAT_LOCKED = false) ∧ (255 ≠ 0) ∧ (st1.keySt 255 = 1))
    ∧ ((Master.cpu0 = Master.cpu0 ∨ Master.cpu0 = Master.cpu1) ∧ (restrictS.issues Master.cpu0 = true) ∧ (restrictS.has Fld.KEYSTORE_RESULT_BUSY = false) ∧ (restrictS.has Fld.KEYSTORE_STAT_LOCKED = false) ∧ (255 ≠ 0) ∧ (restrictS.keySt 255 = 1) ∧ (narrows restrictS (255) restrictS.newAttr = true)) :=
  ⟨by decide +kernel, by decide +kernel, by decide +kernel, by decide +kernel, by decide +kernel⟩

/-- A state and operands that meet the hypotheses of Obligations.KeySlotCommands, clause by clause. -/
theorem witness_KeySlotCommands_3 :
    ((Master.cpu1 = Master.cpu0 ∨ Master.cpu1 = Master.cpu1) ∧ (st5.issues Master.cpu1 = true) ∧ (st5.has Fld.KEYSTORE_RESULT_BUSY = false) ∧ (st5.has Fld.KEYSTORE_STAT_LOCKED = false) ∧ (st5.get Fld.KEYSTORE_STAT_LC = 0 ∨ st5.get Fld.KEYSTORE_STAT_LC = 1) ∧ (st5.drbgReady = true))
    ∧ ((255 ≠ 0) ∧ (doneS.keys.cmdWaits = false) ∧ (attr9.length = 7) ∧ (1 ≤ 1) ∧ (doneS.keys.cmd = some (KeyEnd.make (255) (attrBuild attr9 3 7 1) [(1 : Byte)], 0)))
    ∧ ((doneS.keys.cmdWaits = false) ∧ (doneS.keys.cmd = some ((KeyEnd.make 255 (attrBuild attr9 3 7 1) [(1 : Byte)]), 0)))
    ∧ ((st6.keys.sweep = some (255, 256)) ∧ (1 < 256) ∧ (255 ≠ 0) ∧ (st6.keySt 255 = 2))
    ∧ ((st7.keys.sweep = some (0, 1)) ∧ (1 = 1) ∧ (0 = 0) ∧ (st7.keys.cmdWaits = true)) :=
  ⟨by decide +kernel, by decide +kernel, by decide +kernel, by decide +kernel, by decide +kernel⟩

/-- A state and operands that meet the hypotheses of Obligations.KeySlotCommands, clause by clause. -/
theorem witness_KeySlotCommands_4 :
    ((st5.keys.pass = none) ∧ (st5.drbgReady = true))
    ∧ ((st9.keys.pass = some 254) ∧ (254 < 255))
    ∧ (((passS 255).keys.pass = some 255) ∧ (255 = 255))
    ∧ ((st9.keys.pass = some 254)) :=
  ⟨by decide +kernel, by decide +kernel, by decide +kernel, by decide +kernel⟩

/-- A state and operands that meet the hypotheses of Obligations.TamperAndLifeCycle, clause by clause. -/
theorem witness_TamperAndLifeCycle_1 :
    ((st11.get Fld.BKP_TAMPCFG_RESP / 4 ^ 7 % 4 = 0))
    ∧ ((2 ≤ st12.get Fld.BKP_TAMPCFG_RESP / 4 ^ 7 % 4) ∧ (st12.domOn 1 = true) ∧ (st12.domOn 11 = true))
    ∧ ((latched.get Fld.BKP_TAMPSTAT_LATCH ≠ 0) ∧ (latched.get Fld.BKP_TAMPSTAT_LATCH &&& BitVec.toNat (4294967168 : Word) % 256 = latched.get Fld.BKP_TAMPSTAT_LATCH))
    ∧ ((BitVec.toNat (475922434 : Word) / 2 ^ 16 = 7262) ∧ (State.reset.issues Master.cpu0 = true) ∧ (lcPermitted State.reset Master.cpu0 (BitVec.toNat (475922434 : Word) % 8) = false))
    ∧ ((BitVec.toNat (475922433 : Word) / 2 ^ 16 = 7262) ∧ (State.reset.issues Master.cpu0 = true) ∧ (lcPermitted State.reset Master.cpu0 (BitVec.toNat (475922433 : Word) % 8) = true) ∧ (State.reset.has Fld.KEYSTORE_STAT_LCBUSY = false) ∧ (State.reset.keys.lcUnits < 128) ∧ (∀ (n : Fin 256), State.reset.keySt ↑n = 1 → (State.reset.get (keyLcmask ↑n)).testBit (BitVec.toNat (475922433 : Word) % 8) = false)) :=
  ⟨by decide +kernel, by decide +kernel, by decide +kernel, by decide +kernel, by decide +kernel⟩

/-- A state and operands that meet the hypotheses of Obligations.TamperAndLifeCycle, clause by clause. -/
theorem witness_TamperAndLifeCycle_2 :
    ((lcS.keys.lcTo = some 3) ∧ (3 < 4) ∧ (lcS.keys.sweep = none))
    ∧ ((Master.cpu0 = Master.cpu0 ∨ Master.cpu0 = Master.cpu1) ∧ (st14.issues Master.cpu0 = true) ∧ (2 = 1 ∨ 2 = 2) ∧ (st14.get Fld.KEYSTORE_STAT_GL + 1 = 2) ∧ (st14.has Fld.KEYSTORE_STAT_LCBUSY = false) ∧ (st14.keys.glUnits < 32))
    ∧ ((glS.keys.glErase = true) ∧ (∀ b < 2, (glS.bank b).unit = none ∧ (glS.bank b).erase = none)) :=
  ⟨by decide +kernel, by decide +kernel, by decide +kernel⟩

end Sys2Proof.Tests.KeySlots

namespace Sys2Proof.Tests.SramRake

abbrev topW : Word := 0x2017FFFC
def open' : State := (State.reset.unflag (Fld.MEMCTL_GRPSTAT_CLEARING 2)).unflag (Fld.MEMCTL_GRPSTAT_CLEARING 0)
def validS : State := { open'.setWord 0x2017FFFC 0xDEADBEEF with sram := { valid := [(0x2017FFFC, true)] } }
def mergeE : MergeEntry := { word := 0x2017FFFC, mask := 15, octets := [1, 2, 3, 4], block := 0xB }
def mergeS : State := { open' with sram := { groups := [{}, {}, { merge := [mergeE] }] } }
def wbS : State := { open' with sram := { faults := [(0x2017FFFC, 1)], groups := [{}, {}, { merge := [mergeE], writeback := some 0x2017FFFC }] } }
def sem (n : Nat) : State := State.reset.wr (Reg.MEMCTL_SEM 31) (BitVec.ofNat 32 (n * 256 + 1))
def rk : State := { open' with sram := { rake := some 2 } } |>.put (Fld.MEMCTL_RAKESUM_SCANNED 2) 131070
def st1 : State := sem 0xE
def st4 : State := State.reset.wr Reg.SYSCFG_CPU1BOOT 0x123400


/-- A state and operands that meet the hypotheses of Obligations.SramAndCores, clause by clause. -/
theorem witness_SramAndCores_1 :
    ((validS.issues Master.host = true) ∧ (sramBars validS Master.host (BitVec.toNat topW) AccessSize.word = false) ∧ (validS.has (Fld.MEMCTL_GRPSTAT_CLEARING (sramGroup (BitVec.toNat topW))) = false) ∧ (mergeOf validS (BitVec.toNat topW / 4 * 4) = none) ∧ (validS.sramFault (BitVec.toNat topW / 4 * 4) = 0))
    ∧ ((validS.issues Master.cpu1 = true) ∧ (sramBars validS Master.cpu1 (BitVec.toNat (0x2017FFFF : Word)) AccessSize.byte = false) ∧ (validS.has (Fld.MEMCTL_GRPSTAT_CLEARING (sramGroup (BitVec.toNat (0x2017FFFF : Word)))) = false) ∧ (mergeOf validS (BitVec.toNat (0x2017FFFF : Word) / 4 * 4) = none) ∧ (validS.sramFault (BitVec.toNat (0x2017FFFF : Word) / 4 * 4) = 0))
    ∧ ((open'.issues Master.cpu1 = true) ∧ (sramBars open' Master.cpu1 (BitVec.toNat topW) AccessSize.word = false) ∧ (open'.has (Fld.MEMCTL_GRPSTAT_CLEARING (sramGroup (BitVec.toNat topW))) = false) ∧ (open'.cores.caches.length = 2) ∧ (∀ k < 8, open'.sramValid (lineBase (BitVec.toNat topW) + 4 * k) = false))
    ∧ ((validS.issues Master.host = true) ∧ (sramBars validS Master.host (BitVec.toNat topW) AccessSize.word = false) ∧ (validS.has (Fld.MEMCTL_GRPSTAT_CLEARING (sramGroup (BitVec.toNat topW))) = false) ∧ (mergeOf validS (BitVec.toNat topW) = none) ∧ (validS.sramFault (BitVec.toNat topW) = 0) ∧ (validS.sramValid (BitVec.toNat topW) = true) ∧ ((validS.sramGrp (sramGroup (BitVec.toNat topW))).writeback = none))
    ∧ ((validS.issues Master.debug = true) ∧ (sramBars validS Master.debug (BitVec.toNat topW) AccessSize.word = false) ∧ (validS.has (Fld.MEMCTL_GRPSTAT_CLEARING (sramGroup (BitVec.toNat topW))) = false) ∧ ((validS.sramGrp (sramGroup (BitVec.toNat topW))).merge = []) ∧ ((validS.sramGrp (sramGroup (BitVec.toNat topW))).writeback = none) ∧ (validS.sram.groups.length = 3)) :=
  ⟨by decide +kernel, by decide +kernel, by decide +kernel, by decide +kernel, by decide +kernel⟩

/-- A state and operands that meet the hypotheses of Obligations.SramAndCores, clause by clause. -/
theorem witness_SramAndCores_2 :
    ((validS.issues Master.cpu1 = true) ∧ (sramBars validS Master.cpu1 (BitVec.toNat (538443775 : Word)) AccessSize.byte = false) ∧ (validS.has (Fld.MEMCTL_GRPSTAT_CLEARING (sramGroup (BitVec.toNat (538443775 : Word)))) = false) ∧ ((validS.sramGrp (sramGroup (BitVec.toNat (538443775 : Word)))).merge = []) ∧ (validS.sram.groups.length = 3))
    ∧ (((mergeS.sramGrp 2).merge = [mergeE]) ∧ (mergeE.mask = 15) ∧ (mergeE.octets.length = 4) ∧ (sramGroup mergeE.word = 2) ∧ ((mergeS.sramGrp 2).writeback = none) ∧ (mergeS.sram.groups.length = 3))
    ∧ (((wbS.sramGrp 2).writeback = some 538443772) ∧ (wbS.sram.groups.length = 3))
    ∧ ((validS.domOn (4 + 2) = true))
    ∧ ((CipherPke.locksteps.issues Master.cpu1 = false)) :=
  ⟨by decide +kernel, by decide +kernel, by decide +kernel, by decide +kernel, by decide +kernel⟩

/-- A state and operands that meet the hypotheses of Obligations.SramAndCores, clause by clause. -/
theorem witness_SramAndCores_3 :
    ((State.reset.issues Master.cpu0 = true) ∧ (State.reset.get (Fld.MEMCTL_SEM_OWNER 31) = 0))
    ∧ ((st1.issues Master.cpu0 = true) ∧ (st1.get (Fld.MEMCTL_SEM_OWNER 31) ≠ 0))
    ∧ ((st1.issues Master.host = true) ∧ (st1.get (Fld.MEMCTL_SEM_OWNER 31) = masterBlock Master.host))
    ∧ ((st1.issues Master.cpu0 = true) ∧ (st1.get (Fld.MEMCTL_SEM_OWNER 31) ≠ masterBlock Master.cpu0))
    ∧ ((BitVec.toNat (1 : Word) % 2 = 1) ∧ (st4.has Fld.SYSCFG_FOSTAT_LOCKSTEP = false) ∧ (st4.has Fld.SYSCFG_CPUCTL_CPU1RUN = false) ∧ (st4.cores.held.length = 2) ∧ (st4.cores.start.length = 2)) :=
  ⟨by decide +kernel, by decide +kernel, by decide +kernel, by decide +kernel, by decide +kernel⟩

/-- A state and operands that meet the hypotheses of Obligations.RakePasses, clause by clause. -/
theorem witness_RakePasses :
    ((open'.sram.rake = none) ∧ (open'.domOn (4 + 2) = true) ∧ (∀ (k : Fin 3), open'.has (Fld.MEMCTL_GRPSTAT_RAKEWAIT ↑k) = false))
    ∧ ((rk.sram.rake = some 2))
    ∧ ((rk.sram.rake = some 2) ∧ (538443768 = 536870912 + 524288 * 2 + 4 * rk.get (Fld.MEMCTL_RAKESUM_SCANNED 2)) ∧ (rk.has (Fld.MEMCTL_GRPSTAT_CLEARING 2) = false) ∧ (rk.domOn 12 = true) ∧ (rk.get (Fld.MEMCTL_RAKESUM_SCANNED 2) + 1 < 131072) ∧ (mergeOf rk 538443768 = none) ∧ (rk.sramFault 538443768 = 0))
    ∧ ((rk.sram.rake = some 2) ∧ (∀ (k : Fin 3), rk.has (Fld.MEMCTL_GRPSTAT_RAKEWAIT ↑k) = false)) :=
  ⟨by decide +kernel, by decide +kernel, by decide +kernel, by decide +kernel⟩

end Sys2Proof.Tests.SramRake

namespace Sys2Proof.Tests.FlashBanks

def fl (v : FlashBank) : State := { State.reset.put (Fld.FLASHC_STAT_STATE 1) 0 with flash := { banks := [{}, v] } }
def eopAuto : EraseOp := { block := 511, susp := some .auto }
def warnS : State := { fl {} with flash := { warn := [(0x3FFFF0, 3)] } }
def progS : State := ((fl {}).wr (Reg.FLASHC_ADDR 1) 0x3FFFF0).wr (Reg.FLASHC_PDATA 1 0) 7
abbrev u16 : List Byte := List.replicate 16 0x5A
def unitS : State := fl { unit := some (0x3FFFF0, u16) }
abbrev eop : EraseOp := { block := 511, pulses := 94 }
def er : State := (fl { erase := some eop }).setByte 0x3FFFFF 1
abbrev eopS : EraseOp := { block := 511, pulses := 95, susp := some .auto, resume := false }
def ers : State := fl { erase := some eopS }
def hd : State := fl { headers := [(515, 0xFFFFFF)] }
def st1 : State := (fl {}).setWord 0x3FFFFC 0x12345678
def st2 : State := fl { erase := some eopAuto }
def st3 : State := fl {}
def st4 : State := unitS.setByte 0x3FFFFF 1
def st5 : State := fl { partialData := true }
def st6 : State := (fl {}).setBytes (headerUnit 515) (bytesLE 4 5 ++ bytesLE 4 (2^32-6))


/-- A state and operands that meet the hypotheses of Obligations.FlashCommands, clause by clause. -/
theorem witness_FlashCommands_1 :
    ((st1.flash.banks.length = 2) ∧ (4194300 = BitVec.toNat (4194300 : Word)) ∧ (st1.issues Master.cpu1 = true) ∧ (isFlash 4194300 = true) ∧ (st1.reaches Master.cpu1 4194300 = true) ∧ (4194300 % sizeOctets AccessSize.word = 0) ∧ (st1.domOn 7 = true) ∧ (bankOf 4194300 = 1) ∧ (st1.get (Fld.FLASHC_STAT_STATE 1) ≠ 5) ∧ ((st1.bank 1).erase = none) ∧ ((st1.bank 1).unit = none) ∧ (4194300 / 16 * 16 ∉ st1.flash.bad) ∧ (blockOf 4194300 ∉ st1.flash.torn) ∧ (0 < st1.get Fld.FLASHC_EWTHR_THR))
    ∧ ((st1.flash.banks.length = 2) ∧ (4194303 = BitVec.toNat (4194303 : Word)) ∧ (st1.issues Master.cpu1 = true) ∧ (isFlash 4194303 = true) ∧ (st1.reaches Master.cpu1 4194303 = true) ∧ (4194303 % sizeOctets AccessSize.byte = 0) ∧ (st1.domOn 7 = true) ∧ (bankOf 4194303 = 1) ∧ (st1.get (Fld.FLASHC_STAT_STATE 1) ≠ 5) ∧ ((st1.bank 1).erase = none) ∧ ((st1.bank 1).unit = none) ∧ (4194303 / 16 * 16 ∉ st1.flash.bad) ∧ (blockOf 4194303 ∉ st1.flash.torn) ∧ (0 < st1.get Fld.FLASHC_EWTHR_THR))
    ∧ ((st2.flash.banks.length = 2) ∧ (4194300 = BitVec.toNat (4194300 : Word)) ∧ (st2.issues Master.cpu1 = true) ∧ (isFlash 4194300 = true) ∧ (st2.reaches Master.cpu1 4194300 = true) ∧ (4194300 % sizeOctets AccessSize.word = 0) ∧ (st2.domOn 7 = true) ∧ (bankOf 4194300 = 1) ∧ (st2.get (Fld.FLASHC_STAT_STATE 1) ≠ 5) ∧ ((st2.bank 1).erase = some eopAuto) ∧ (eopAuto.susp.isSome = true) ∧ (blockOf 4194300 = eopAuto.block))
    ∧ ((warnS.flash.banks.length = 2) ∧ (warnS.flash.warn = (0x3FFFF0, 3) :: ([] : List (Nat × Nat))) ∧ (([] : List (Nat × Nat)).length < 16))
    ∧ ((progS.flash.banks.length = 2) ∧ (progS.flashHeld = false) ∧ ((progS.bank 1).unit = none) ∧ ((progS.bank 1).next = none) ∧ ((progS.bank 1).eraseWaits = none) ∧ ((progS.bank 1).erase = none) ∧ (4194288 = BitVec.toNat (progS.rd (Reg.FLASHC_ADDR 1)) / 16 * 16) ∧ (unitRefusal progS (1) 4194288 = 0)) :=
  ⟨by decide +kernel, by decide +kernel, by decide +kernel, by decide +kernel, by decide +kernel⟩

/-- A state and operands that meet the hypotheses of Obligations.FlashCommands, clause by clause. -/
theorem witness_FlashCommands_2 :
    ((st3.flash.banks.length = 2) ∧ (st3.flashHeld = false) ∧ ((st3.bank 1).unit = none) ∧ ((st3.bank 1).next = none) ∧ ((st3.bank 1).eraseWaits = none) ∧ (0 = BitVec.toNat (0 : Word) / 2 ^ 10 % 2 ^ 10) ∧ ((journalActive st3 1) = journalActive st3 1) ∧ ((st3.get (Fld.FLASHC_JSTAT_USED 1)) = st3.get (Fld.FLASHC_JSTAT_USED 1)) ∧ (eraseRefusal st3 (1) 0 (BitVec.toNat (0 : Word) / 2 ^ 24) ≠ 0))
    ∧ ((progS.flash.banks.length = 2) ∧ (progS.flashHeld = false) ∧ ((progS.bank 1).unit = none) ∧ ((progS.bank 1).next = none) ∧ ((progS.bank 1).eraseWaits = none) ∧ (511 = BitVec.toNat (2768763904 : Word) / 2 ^ 10 % 2 ^ 10) ∧ ((journalActive progS 1) = journalActive progS 1) ∧ ((progS.get (Fld.FLASHC_JSTAT_USED 1)) = progS.get (Fld.FLASHC_JSTAT_USED 1)) ∧ (eraseRefusal progS (1) 511 (BitVec.toNat (2768763904 : Word) / 2 ^ 24) = 0) ∧ ((progS.bank 1).headers = []) ∧ ((progS.get (Fld.FLASHC_JSTAT_USED 1)) < 255) ∧ (progS.get (Fld.FLASHC_ERASECNT_COUNT 511) + 1 < progS.get Fld.FLASHC_WEARTHR_THR))
    ∧ ((unitS.flash.banks.length = 2) ∧ ((unitS.bank 1).unit = some (4194288, u16)) ∧ (u16.length = 16) ∧ (bankOf 4194288 = 1) ∧ ((unitS.bank 1).next = none) ∧ ((unitS.bank 1).eraseWaits = none) ∧ ((unitS.bank 1).erase = none) ∧ (unitBlank (unitS.bytes 4194288 16) = true) ∧ (4194288 ∉ unitS.flash.bad))
    ∧ ((st4.flash.banks.length = 2) ∧ ((st4.bank 1).unit = some (4194288, u16)) ∧ (u16.length = 16) ∧ (bankOf 4194288 = 1) ∧ ((st4.bank 1).next = none) ∧ ((st4.bank 1).eraseWaits = none) ∧ ((st4.bank 1).erase = none) ∧ (unitBlank (st4.bytes 4194288 16) = false))
    ∧ ((er.flash.banks.length = 2) ∧ ((er.bank 1).erase = some eop) ∧ ((journalActive er 1) = journalActive er 1) ∧ ((er.get (Fld.FLASHC_JSTAT_USED 1)) = er.get (Fld.FLASHC_JSTAT_USED 1)) ∧ (eop.susp = none) ∧ (er.resetDue = false) ∧ (eop.pulses + 1 < 96)) :=
  ⟨by decide +kernel, by decide +kernel, by decide +kernel, by decide +kernel, by decide +kernel⟩

/-- A state and operands that meet the hypotheses of Obligations.FlashCommands, clause by clause. -/
theorem witness_FlashCommands_3 :
    ((er.flash.banks.length = 2) ∧ ((er.bank 1).erase = some eop) ∧ ((journalActive er 1) = journalActive er 1) ∧ ((er.get (Fld.FLASHC_JSTAT_USED 1)) = er.get (Fld.FLASHC_JSTAT_USED 1)) ∧ (eop.susp = none) ∧ (er.resetDue = false) ∧ (eop.pulses + 1 < 96) ∧ (eop.block < 516) ∧ (bankOf (blockAddr eop.block) = 1) ∧ ((er.bank 1).unit = none) ∧ ((er.bank 1).next = none) ∧ ((er.bank 1).eraseWaits = none))
    ∧ ((er.flash.banks.length = 2) ∧ ((er.bank 1).erase = some eop) ∧ ((journalActive er 1) = journalActive er 1) ∧ ((er.get (Fld.FLASHC_JSTAT_USED 1)) = er.get (Fld.FLASHC_JSTAT_USED 1)) ∧ ((er.bank 1).unit = none) ∧ (eop.susp = none))
    ∧ ((ers.flash.banks.length = 2) ∧ ((ers.bank 1).erase = some eopS) ∧ ((journalActive ers 1) = journalActive ers 1) ∧ ((ers.get (Fld.FLASHC_JSTAT_USED 1)) = ers.get (Fld.FLASHC_JSTAT_USED 1)) ∧ ((ers.bank 1).unit = none) ∧ (eopS.susp.isSome = true) ∧ ((ers.bank 1).eraseWaits = none) ∧ (ers.flashHeld = false))
    ∧ ((ers.flash.banks.length = 2) ∧ ((ers.bank 1).erase = some eopS) ∧ ((journalActive ers 1) = journalActive ers 1) ∧ ((ers.get (Fld.FLASHC_JSTAT_USED 1)) = ers.get (Fld.FLASHC_JSTAT_USED 1)) ∧ ((ers.bank 1).unit = none) ∧ (eopS.susp = some Suspension.auto) ∧ ((ers.bank 1).next = none) ∧ (ers.flashHeld = false))
    ∧ ((st1.flash.banks.length = 2)) :=
  ⟨by decide +kernel, by decide +kernel, by decide +kernel, by decide +kernel, by decide +kernel⟩

/-- A state and operands that meet the hypotheses of Obligations.FlashCommands, clause by clause. -/
theorem witness_FlashCommands_4 :
    ((hd.flash.banks.length = 2) ∧ ((hd.bank 1).headers = (515, 0xFFFFFF) :: []) ∧ ((hd.bank 1).unit = none) ∧ ((hd.bank 1).erase = none) ∧ (hd.flashHeld = false) ∧ (hd.domOn 7 = true)) :=
  by decide +kernel

end Sys2Proof.Tests.FlashBanks

namespace Sys2Proof.Tests.PowerState

def req (n : Nat) : State := State.reset.put Fld.PMU_REQ_STATE n
def quiet (n : Nat) : State := (req n).unflag (Fld.MEMCTL_GRPSTAT_CLEARING 0) |>.unflag (Fld.MEMCTL_GRPSTAT_CLEARING 1) |>.unflag (Fld.MEMCTL_GRPSTAT_CLEARING 2)
def entS : State := { quiet 3 with power := { (quiet 3).power with entering := some .sleep } }
def entO : State := { quiet 5 with power := { (quiet 5).power with entering := some .off } }
def entN : State := { quiet 2 with power := { (quiet 2).power with entering := some .nap } }
def ps (st : PowerState) : State := { (State.reset.put Fld.WAKE_EN_TKWAKE 15) with power := { State.reset.power with state := st } }
def wen : State := entS.put Fld.WAKE_EN_TKWAKE 8
def wk (st : PowerState) (n : Nat) (again := false) : State := { State.reset with power := { State.reset.power with state := st, wake := some { from_ := st, step := n, source := 0x13, again := again } } }
def ws (st : PowerState) (n : Nat) (again := false) : WakeSeq := { from_ := st, step := n, source := 0x13, again := again }
def exS : State := (((ps .sleep).unflag Fld.PMU_STAT_EXC).flag Fld.PMU_CFG_EXCEN).flag Fld.PMU_RETCFG_LINKRET
def exE : State := exS.flag Fld.PMU_STAT_EXC
def st1 : State := req 1
def st2 : State := quiet 3
def st4 : State := ps .nap
def st5 : State := ps .sleep
def st6 : State := wk .sleep 0
def st7 : State := wk .sleep 1
def st8 : State := wk .sleep 2
def st9 : State := wk .nap 3
def st10 : State := wk .deep 3
def st12 : State := wk .sleep 2 true
def wkLast : State := wk .sleep 3
def exDue : State := (exS.flag (Fld.TIDE_GATE_CTL_EN 31)).flag (Fld.TIDE_GATE_CTL_WAKE 31)
def st13 : State := ps .off
def st15 : State := ps .deep


/-- A state and operands that meet the hypotheses of Obligations.PowerStates, clause by clause. -/
theorem witness_PowerStates_1 :
    ((pmuBusy State.reset = false))
    ∧ ((PowerState.doze = codeState (st1.get Fld.PMU_REQ_STATE)) ∧ (st1.power.state = PowerState.run) ∧ (pmuBusy st1 = false) ∧ (PowerState.doze = PowerState.doze) ∧ (fabricPending st1 = false))
    ∧ ((PowerState.sleep = codeState (st2.get Fld.PMU_REQ_STATE)) ∧ (st2.power.state = PowerState.run) ∧ (pmuBusy st2 = false) ∧ (PowerState.sleep ≠ PowerState.run) ∧ (PowerState.sleep ≠ PowerState.doze) ∧ (List.find? (fun r => r.2) (refusers st2 PowerState.sleep false false false) = none) ∧ (∀ (g : Fin 3), (st2.sramGrp ↑g).merge = []))
    ∧ ((PowerState.sleep = codeState (st2.get Fld.PMU_REQ_STATE)) ∧ (st2.power.state = PowerState.run) ∧ (pmuBusy st2 = false) ∧ (PowerState.sleep ≠ PowerState.run) ∧ (PowerState.sleep ≠ PowerState.doze) ∧ (List.find? (fun r => r.2) (refusers st2 PowerState.sleep false true false) = some (13, true)) ∧ (13 < 32))
    ∧ ((entS.power.entering = some PowerState.sleep) ∧ (entS.power.wakeAfter = none) ∧ (entS.power.wake = none)) :=
  ⟨by decide +kernel, by decide +kernel, by decide +kernel, by decide +kernel, by decide +kernel⟩

/-- A state and operands that meet the hypotheses of Obligations.PowerStates, clause by clause. -/
theorem witness_PowerStates_2 :
    ((st4.power.entering = none) ∧ (st4.power.wake = none) ∧ (st4.power.state = PowerState.nap ∨ st4.power.state = PowerState.sleep) ∧ (testBit' (st4.get Fld.WAKE_EN_TKWAKE) 3 = true))
    ∧ ((wen.power.entering = some PowerState.sleep) ∧ (PowerState.sleep = PowerState.nap ∨ PowerState.sleep = PowerState.sleep) ∧ (testBit' (wen.get Fld.WAKE_EN_TKWAKE) 3 = true) ∧ (wen.power.state = PowerState.run))
    ∧ ((wen.power.entering = some PowerState.sleep) ∧ (PowerState.sleep = PowerState.nap ∨ PowerState.sleep = PowerState.sleep) ∧ (testBit' (wen.get Fld.WAKE_EN_TKWAKE) 3 = true))
    ∧ ((st6.power.wake = some (ws .sleep 0)) ∧ ((ws .sleep 0).step < 3) ∧ ((ws .sleep 0).from_ = PowerState.sleep))
    ∧ ((st7.power.wake = some (ws .sleep 1)) ∧ ((ws .sleep 1).step < 3) ∧ ((ws .sleep 1).from_ = PowerState.sleep)) :=
  ⟨by decide +kernel, by decide +kernel, by decide +kernel, by decide +kernel, by decide +kernel⟩

/-- A state and operands that meet the hypotheses of Obligations.PowerStates, clause by clause. -/
theorem witness_PowerStates_3 :
    ((st8.power.wake = some (ws .sleep 2)) ∧ ((ws .sleep 2).step < 3) ∧ ((ws .sleep 2).from_ = PowerState.sleep))
    ∧ ((st9.power.wake = some (ws PowerState.nap 3)) ∧ ((ws PowerState.nap 3).step = 3) ∧ ((ws PowerState.nap 3).from_ = PowerState.nap))
    ∧ ((wkLast.power.wake = some (ws .sleep 3)) ∧ ((ws .sleep 3).step = 3) ∧ ((ws .sleep 3).from_ = PowerState.sleep))
    ∧ ((st10.power.wake = some (ws PowerState.deep 3)) ∧ ((ws PowerState.deep 3).step = 3) ∧ ((ws PowerState.deep 3).from_ = PowerState.deep) ∧ (st10.domOn 1 = true))
    ∧ ((st6.power.wake = some (ws PowerState.sleep 0))) :=
  ⟨by decide +kernel, by decide +kernel, by decide +kernel, by decide +kernel, by decide +kernel⟩

/-- A state and operands that meet the hypotheses of Obligations.PowerStates, clause by clause. -/
theorem witness_PowerStates_4 :
    ((State.reset.power.xtalStarting = true) ∧ (State.reset.domOn 1 = true))
    ∧ ((State.reset.power.xtalStarting = true))
    ∧ ((exDue.power.state = PowerState.sleep) ∧ (pmuBusy exDue = false) ∧ (exDue.has Fld.PMU_STAT_EXC = false) ∧ (exDue.has Fld.PMU_CFG_EXCEN = true) ∧ (exDue.has Fld.PMU_RETCFG_LINKRET = true) ∧ (excursionDue exDue = true))
    ∧ ((exE.has Fld.PMU_STAT_EXC = true) ∧ (pmuBusy exE = false) ∧ (exE.acts = []) ∧ (exE.link.fwds = []) ∧ (dueWithin exE (32000 * exE.get Fld.PMU_CFG_RESLEEP) = false)) :=
  ⟨by decide +kernel, by decide +kernel, by decide +kernel, by decide +kernel⟩

end Sys2Proof.Tests.PowerState

namespace Sys2Proof.Tests.ResetStart

theorem sparseGet_absent {α : Type} {dflt : Nat → α} {m : List (Nat × α)} {k : Nat} (h : ∀ e ∈ m, e.1 ≠ k) :
    sparseGet dflt m k = dflt k := by
  induction m with
  | nil => rfl
  | cons e t ih =>
    rw [sparseGet, if_neg (h e (by simp))]
    exact ih (fun e he => h e (by simp [he]))

theorem blank_bytes {s : State} : ∀ (n a : Nat), 0x100000000 ≤ a → (∀ e ∈ s.mem, e.1 < a ∨ a + n ≤ e.1) →
    unitBlank (s.bytes a n) = true
  | 0, _, _, _ => rfl
  | n + 1, a, ha, h => by
    have hb : s.byte a = 0xFF#8 := by
      rw [State.byte, sparseGet_absent (fun e he hk => by have := h e he; omega), memDefault]
      rw [if_neg (by omega), if_neg (by omega), if_pos ha]
    have ht := blank_bytes n (a + 1) (by omega) (fun e he => by have := h e he; omega)
    simp only [unitBlank] at ht ⊢
    simp [State.bytes, hb, ht]

/-- A journal block in which nothing is listed after its header has no entry. -/
theorem journalUsed_fresh {s : State} {x : Nat} (h : s.mem.all (fun e => decide (e.1 < journalUnit x 1 ∨ journalUnit x 511 ≤ e.1)) = true) :
    journalUsed s x = 0 := by
  have hz : ∀ l : List Nat, (∀ k ∈ l, k < 255) →
      l.foldl (fun n k => if unitBlank (s.bytes (journalUnit x (1 + 2 * k)) 16) then n else k + 1) 0 = 0 := by
    intro l
    induction l with
    | nil => intro _; rfl
    | cons k t ih =>
      intro hk
      have h1 := hk k (by simp)
      rw [List.foldl_cons, if_pos (blank_bytes 16 _ (by unfold journalUnit; omega) (fun e he => by
        have := of_decide_eq_true (List.all_eq_true.mp h e he)
        unfold journalUnit at this ⊢
        omega))]
      exact ih (fun k hk' => hk k (by simp [hk']))
  exact hz _ (fun k hk => List.mem_range.mp hk)

def dead : State := { (State.reset.put Fld.PMU_DOMSTAT_ON 1) with power := { state := .off } }
def deadSnap : State := { dead with snapshot := { valid := true, now := 5, lfinc := 0x80000 } }
def dip : State := State.reset.flag Fld.SUPMON_STAT_DIP
def warm : State := { (State.reset.wr (Reg.MEMCTL_SEM 31) 0xB01) with boot := { State.reset.boot with scope := 1, causes := 0x40001 } }
def due (n : Nat) : State := { State.reset with boot := { State.reset.boot with scope := n, causes := 16 } }
def flashUp (s : State) : State := (((s.setBytes (journalUnit 0 0) (journalHeader 1)).setBytes (journalUnit 2 0) (journalHeader 1)).put (Fld.FLASHC_STAT_STATE 0) 0).put (Fld.FLASHC_STAT_STATE 1) 0
def lc4 : State := flashUp (State.reset.put Fld.KEYSTORE_STAT_LC 4)
def fwHead : List Byte := bytesLE 4 0x5746444F ++ bytesLE 2 1 ++ bytesLE 2 1 ++ bytesLE 4 0x80 ++ bytesLE 4 7 ++ bytesLE 4 0x80 ++ bytesLE 2 37462 ++ [1] ++ List.replicate 9 0
def fw : State := (flashUp State.reset).setBytes 0 fwHead
def run1 : State := { State.reset.unflag Fld.SYSCFG_BOOTOK_OK with boot := { phase := .firmware, slot := 1, version := 9 } }
def dry : State := { (((((State.reset.setClkSrc 1).put (Fld.RF_SBFREQ_FLO 0) 8630).put (Fld.RF_SBFREQ_FHI 0) 8700).put (Fld.RF_SBDWELL_DWELL 0) 0xFFFF).put (Fld.RF_SBDUTY_DUTY 0) 1000000) with boot := { phase := .dryPan, beaconT40 := some 77 }, rf := { bands := [List.replicate 16 0] } }
def cmd : List Byte := [1, 255, 0, 0] ++ bytesLE 5 77 ++ List.replicate 67 0
def st1 : State := State.reset.flag Fld.SYSCFG_CWDTCFG_EN
def wdDue : State := { st1 with boot := { st1.boot with cwdtRan := 32000 * 65535 } }
def st2 : State := State.reset.put Fld.KEYSTORE_STAT_GL 2
def st3 : State := State.reset.flag Fld.SYSCFG_FOSTAT_LOCKSTEP
def st4 : State := State.reset.flag Fld.LWDT_CFG_EN
def st6 : State := due 2
def st7 : State := due 3


/-- A state and operands that meet the hypotheses of Obligations.SupplyAndResetRequests, clause by clause. -/
theorem witness_SupplyAndResetRequests_1 :
    ((Instr.resetnPin = Instr.resetnPin ∧ 2 = 2 ∧ 2 = 2 ∨ Instr.resetnPin = Instr.debugResetRequest ∧ 2 = 2 ∧ 2 = 6 ∧ State.reset.get Fld.KEYSTORE_STAT_GL ≤ 1 ∨ Instr.resetnPin = Instr.rstreqWarm ∧ 2 = 1 ∧ 2 = 18 ∨ Instr.resetnPin = Instr.cwdtExpiry ∧ 2 = 1 ∧ 2 = 16 ∧ State.reset.has Fld.SYSCFG_CWDTCFG_EN = true ∧ 32000 * State.reset.get Fld.SYSCFG_CWDTCFG_TIMEOUT ≤ cwdtCount State.reset))
    ∧ ((Instr.debugResetRequest = Instr.resetnPin ∧ 2 = 2 ∧ 6 = 2 ∨ Instr.debugResetRequest = Instr.debugResetRequest ∧ 2 = 2 ∧ 6 = 6 ∧ State.reset.get Fld.KEYSTORE_STAT_GL ≤ 1 ∨ Instr.debugResetRequest = Instr.rstreqWarm ∧ 2 = 1 ∧ 6 = 18 ∨ Instr.debugResetRequest = Instr.cwdtExpiry ∧ 2 = 1 ∧ 6 = 16 ∧ State.reset.has Fld.SYSCFG_CWDTCFG_EN = true ∧ 32000 * State.reset.get Fld.SYSCFG_CWDTCFG_TIMEOUT ≤ cwdtCount State.reset))
    ∧ ((Instr.rstreqWarm = Instr.resetnPin ∧ 1 = 2 ∧ 18 = 2 ∨ Instr.rstreqWarm = Instr.debugResetRequest ∧ 1 = 2 ∧ 18 = 6 ∧ State.reset.get Fld.KEYSTORE_STAT_GL ≤ 1 ∨ Instr.rstreqWarm = Instr.rstreqWarm ∧ 1 = 1 ∧ 18 = 18 ∨ Instr.rstreqWarm = Instr.cwdtExpiry ∧ 1 = 1 ∧ 18 = 16 ∧ State.reset.has Fld.SYSCFG_CWDTCFG_EN = true ∧ 32000 * State.reset.get Fld.SYSCFG_CWDTCFG_TIMEOUT ≤ cwdtCount State.reset))
    ∧ ((Instr.cwdtExpiry = Instr.resetnPin ∧ 1 = 2 ∧ 16 = 2 ∨ Instr.cwdtExpiry = Instr.debugResetRequest ∧ 1 = 2 ∧ 16 = 6 ∧ wdDue.get Fld.KEYSTORE_STAT_GL ≤ 1 ∨ Instr.cwdtExpiry = Instr.rstreqWarm ∧ 1 = 1 ∧ 16 = 18 ∨ Instr.cwdtExpiry = Instr.cwdtExpiry ∧ 1 = 1 ∧ 16 = 16 ∧ wdDue.has Fld.SYSCFG_CWDTCFG_EN = true ∧ 32000 * wdDue.get Fld.SYSCFG_CWDTCFG_TIMEOUT ≤ cwdtCount wdDue))
    ∧ ((2 ≤ st2.get Fld.KEYSTORE_STAT_GL)) :=
  ⟨by decide +kernel, by decide +kernel, by decide +kernel, by decide +kernel, by decide +kernel⟩

/-- A state and operands that meet the hypotheses of Obligations.SupplyAndResetRequests, clause by clause. -/
theorem witness_SupplyAndResetRequests_2 :
    ((st3.has Fld.SYSCFG_FOSTAT_LOCKSTEP = true) ∧ (testBit' st3.boot.causes 17 = false))
    ∧ ((BitVec.toNat (41247 : Word) % 2 ^ 16 ≠ 41246))
    ∧ ((BitVec.toNat (4294943006 : Word) % 2 ^ 16 = 41246) ∧ (st4.has Fld.LWDT_CFG_EN = true))
    ∧ ((st4.has Fld.LWDT_CFG_EN = true) ∧ (st4.get Fld.LWDT_STAT_REMAIN = 0))
    ∧ ((dead.domOn 1 = false)) :=
  ⟨by decide +kernel, by decide +kernel, by decide +kernel, by decide +kernel, by decide +kernel⟩

/-- A state and operands that meet the hypotheses of Obligations.SupplyAndResetRequests, clause by clause. -/
theorem witness_SupplyAndResetRequests_3 :
    ((State.reset.domOn 1 = true) ∧ (State.reset.has Fld.SUPMON_STAT_DIP = false))
    ∧ ((dip.has Fld.SUPMON_STAT_DIP = true) ∧ (dip.flash.banks = [{ }, { }]) ∧ (dip.boot.goodWaits = false))
    ∧ ((State.reset.domOn 1 = true))
    ∧ ((State.reset.domOn 1 = true) ∧ (State.reset.has Fld.SUPMON_STAT_VBATSRC = false)) :=
  ⟨by decide +kernel, by decide +kernel, by decide +kernel, by decide +kernel⟩

theorem lc4_journal : ∀ (b : Fin 2), lc4.get (Fld.FLASHC_STAT_STATE ↑b) ≠ 5 ∧ Option.map (journalUsed lc4) (journalFind lc4 ↑b) = some 0 := by
  have h0 : journalFind lc4 0 = some 0 := by decide +kernel
  have h1 : journalFind lc4 1 = some 2 := by decide +kernel
  have g0 : lc4.get (Fld.FLASHC_STAT_STATE 0) ≠ 5 := by decide +kernel
  have g1 : lc4.get (Fld.FLASHC_STAT_STATE 1) ≠ 5 := by decide +kernel
  have u0 : journalUsed lc4 0 = 0 := journalUsed_fresh (by decide +kernel)
  have u2 : journalUsed lc4 2 = 0 := journalUsed_fresh (by decide +kernel)
  intro b
  match b with
  | ⟨0, _⟩ => exact ⟨g0, by simp [h0, u0]⟩
  | ⟨1, _⟩ => exact ⟨g1, by simp [h1, u2]⟩

theorem fw_journal : ∀ (b : Fin 2), fw.get (Fld.FLASHC_STAT_STATE ↑b) ≠ 5 ∧ Option.map (journalUsed fw) (journalFind fw ↑b) = some 0 := by
  have h0 : journalFind fw 0 = some 0 := by decide +kernel
  have h1 : journalFind fw 1 = some 2 := by decide +kernel
  have g0 : fw.get (Fld.FLASHC_STAT_STATE 0) ≠ 5 := by decide +kernel
  have g1 : fw.get (Fld.FLASHC_STAT_STATE 1) ≠ 5 := by decide +kernel
  have u0 : journalUsed fw 0 = 0 := journalUsed_fresh (by decide +kernel)
  have u2 : journalUsed fw 2 = 0 := journalUsed_fresh (by decide +kernel)
  intro b
  match b with
  | ⟨0, _⟩ => exact ⟨g0, by simp [h0, u0]⟩
  | ⟨1, _⟩ => exact ⟨g1, by simp [h1, u2]⟩

/-- A state and operands that meet the hypotheses of Obligations.ResetsAndStart, clause by clause. -/
theorem witness_ResetsAndStart_1 :
    ((warm.boot.scope = 1) ∧ (resetHeld 1 warm = false) ∧ (warm.keys.glErase = false))
    ∧ ((st6.boot.scope = if false = true then 3 else 2) ∧ (resetHeld st6.boot.scope st6 = false))
    ∧ ((st7.boot.scope = if true = true then 3 else 2) ∧ (resetHeld st7.boot.scope st7 = false))
    ∧ ((romRuns lc4 = true) ∧ (lc4.domOn 7 = true) ∧ (∀ (b : Fin 2), lc4.get (Fld.FLASHC_STAT_STATE ↑b) ≠ 5 ∧ Option.map (journalUsed lc4) (journalFind lc4 ↑b) = some 0) ∧ (markerPresent lc4 = false) ∧ (lc4.boot.clrfs = false) ∧ (bootUnits lc4 = []) ∧ (lc4.committed = false) ∧ (lc4.get Fld.KEYSTORE_STAT_LC = 4))
    ∧ ((romRuns fw = true) ∧ (fw.domOn 7 = true) ∧ (∀ (b : Fin 2), fw.get (Fld.FLASHC_STAT_STATE ↑b) ≠ 5 ∧ Option.map (journalUsed fw) (journalFind fw ↑b) = some 0) ∧ (markerPresent fw = false) ∧ (fw.boot.clrfs = false) ∧ (bootUnits fw = []) ∧ (fw.committed = false) ∧ (fw.get Fld.KEYSTORE_STAT_LC ≤ 1) ∧ (0 < fw.recovery.limit) ∧ (0 < fw.recovery.switchat) ∧ (firmwareCode fw fw.pointers.active = 0) ∧ ((if fw.pointers.active = 0 then fw.pointers.salta else fw.pointers.saltb) = 4294967295)) :=
  ⟨by decide +kernel, by decide +kernel, by decide +kernel, ⟨by decide +kernel, by decide +kernel, lc4_journal, by decide +kernel, by decide +kernel, by decide +kernel, by decide +kernel, by decide +kernel⟩, ⟨by decide +kernel, by decide +kernel, fw_journal, by decide +kernel, by decide +kernel, by decide +kernel, by decide +kernel, by decide +kernel, by decide +kernel, by decide +kernel, by decide +kernel, by decide +kernel⟩⟩

/-- A state and operands that meet the hypotheses of Obligations.ResetsAndStart, clause by clause. -/
theorem witness_ResetsAndStart_2 :
    ((run1.boot.phase = BootPhase.firmware) ∧ (run1.has Fld.SYSCFG_BOOTOK_OK = false) ∧ (run1.flashHeld = false) ∧ ((bootUnits run1).length < 512))
    ∧ ((dry.boot.phase = BootPhase.dryPan) ∧ (dry.boot.scope < 2) ∧ (beaconBand dry dry.recovery = some 0) ∧ (beaconCode dry 0 (beaconAirtime dry.recovery) true = 0) ∧ (rxRefCode dry = 0) ∧ (dry.now + 3 * tsym dry.recovery.mode = dry.now + 3 * tsym dry.recovery.mode))
    ∧ ((dry.boot.phase = BootPhase.dryPan) ∧ (dry.boot.beaconT40.isSome = true) ∧ (dry.boot.scope < 2) ∧ (recoveryOk dry [(1 : Byte)] = false))
    ∧ ((dry.boot.phase = BootPhase.dryPan) ∧ (dry.boot.beaconT40.isSome = true) ∧ (dry.boot.scope < 2) ∧ (recoveryOk dry cmd = true) ∧ (eb cmd 1 = 255) ∧ ((bootUnits dry).length < 512)) :=
  ⟨by decide +kernel, by decide +kernel, by decide +kernel, by decide +kernel⟩

end Sys2Proof.Tests.ResetStart

namespace Sys2Proof.Tests.Peripherals

def pout : State := State.reset.wr (Reg.GPIO_EDGE 63) 3
def edgeBoth : State := State.reset.put (Fld.GPIO_EDGE_EDGE 63) 3
def tm (one : Bool) : State := { (if one then State.reset.flag (Fld.TMR_CFG_ONESHOT 3) else State.reset).put (Fld.TMR_CMP_VAL 3) 99 with per := { State.reset.per with tmrRunning := setNth State.reset.per.tmrRunning 3 true } }
def adc : State := (State.reset.flag Fld.ADC_CFG_EN).put Fld.ADC_CFG_CHANS 0x401
def adcR (n : Nat) (todo : List Nat) : State := { adc with per := { State.reset.per with adcRunning := true, adcTodo := todo, adcFifo := List.replicate n (10, 4095) } }
def ua (tx rx : List Byte) : State := { State.reset.flag (Fld.UART_CFG_EN 2) with per := { State.reset.per with uartTx := setNth State.reset.per.uartTx 2 tx, uartRx := setNth State.reset.per.uartRx 2 rx } }
def ser : State := { ((((State.reset.flag (Fld.SPIM_CFG_EN 1)).flag (Fld.SPIM_STAT_BUSY 1)).flag (Fld.I2C_CFG_EN 1)).flag (Fld.I2C_STAT_BUSY 1)).flag (Fld.I2C_CFG_READ 1) with per := { State.reset.per with spiTx := [[], [1,2,3]], i2cRx := [[], List.replicate 15 1] } }
def canS : State := ((State.reset.flag Fld.CAN_CTL_EN).unflag Fld.CAN_CTL_INIT).put Fld.CAN_STAT_STATE 0
def canB : State := (canS.wr Reg.CAN_TXREQ 0xF0F0F0F0).flag (Fld.CAN_FILT_EN 31)
def canOff : State := ((State.reset.flag Fld.CAN_CTL_EN).flag Fld.CAN_CTL_ABOM).put Fld.CAN_STAT_STATE 2
def st1 : State := tm true
def st3 : State := tm false
def st6 : State := adcR 7 [10]
def st7 : State := adcR 8 [0, 10]
def st8 : State := adcR 6 [0, 10]
def st10 : State := adcR 1 [0, 10]
def st11 : State := ua (List.replicate 15 1) []
def st13 : State := ua [] (List.replicate 15 1)
def st14 : State := ua [] (List.replicate 16 1)
def st16 : State := ua [] []
def st17 : State := ua [] (0xA5 :: List.replicate 15 1)
def st19 : State := (ser.put (Fld.SPIM_LEN_LEN 1) 2)
def st20 : State := (ser.put (Fld.I2C_LEN_LEN 1) 16)
def st22 : State := (canS.wr Reg.CAN_TXREQ 0xFFFFFFFF).wr Reg.CAN_BUFDIR 0x80000000


/-- A state and operands that meet the hypotheses of Obligations.PadTasksAndEdges, clause by clause. -/
theorem witness_PadTasksAndEdges :
    ((Instr.gpioSet (63 : Fin 64) = Instr.gpioSet (63 : Fin 64) ∧ true = true ∨ Instr.gpioSet (63 : Fin 64) = Instr.gpioClr (63 : Fin 64) ∧ true = false ∨ Instr.gpioSet (63 : Fin 64) = Instr.gpioTgl (63 : Fin 64) ∧ true = !State.reset.bit (Reg.GPIO_OUT (63 / 32)) (63 % 32)))
    ∧ ((Instr.gpioClr (63 : Fin 64) = Instr.gpioSet (63 : Fin 64) ∧ false = true ∨ Instr.gpioClr (63 : Fin 64) = Instr.gpioClr (63 : Fin 64) ∧ false = false ∨ Instr.gpioClr (63 : Fin 64) = Instr.gpioTgl (63 : Fin 64) ∧ false = !State.reset.bit (Reg.GPIO_OUT (63 / 32)) (63 % 32)))
    ∧ ((Instr.gpioTgl (63 : Fin 64) = Instr.gpioSet (63 : Fin 64) ∧ true = true ∨ Instr.gpioTgl (63 : Fin 64) = Instr.gpioClr (63 : Fin 64) ∧ true = false ∨ Instr.gpioTgl (63 : Fin 64) = Instr.gpioTgl (63 : Fin 64) ∧ true = !State.reset.bit (Reg.GPIO_OUT (63 / 32)) (63 % 32)))
    ∧ ((edgeBoth.domOn 12 = true) ∧ (padDrives edgeBoth 63 = false)) :=
  ⟨by decide +kernel, by decide +kernel, by decide +kernel, by decide +kernel⟩

/-- A state and operands that meet the hypotheses of Obligations.TimerRules, clause by clause. -/
theorem witness_TimerRules :
    ((st1.tmrRuns 3 = true))
    ∧ ((st3.tmrRuns 3 = true)) :=
  ⟨by decide +kernel, by decide +kernel⟩

/-- A state and operands that meet the hypotheses of Obligations.AdcSequence, clause by clause. -/
theorem witness_AdcSequence_1 :
    ((adc.has Fld.ADC_CFG_EN = true) ∧ (adc.per.adcRunning = false) ∧ (bitsOf 11 (adc.get Fld.ADC_CFG_CHANS) ≠ []))
    ∧ ((st6.per.adcTodo = [10]))
    ∧ ((st7.per.adcTodo = [0, 10]))
    ∧ ((st8.per.adcTodo = [0, 10]))
    ∧ ((st7.per.adcRunning = true)) :=
  ⟨by decide +kernel, by decide +kernel, by decide +kernel, by decide +kernel, by decide +kernel⟩

/-- A state and operands that meet the hypotheses of Obligations.AdcSequence, clause by clause. -/
theorem witness_AdcSequence_2 :
    (st10.per.adcFifo = [(10, 4095)]) := by
  decide +kernel

/-- A state and operands that meet the hypotheses of Obligations.UartCharacters, clause by clause. -/
theorem witness_UartCharacters_1 :
    (((nth [] st11.per.uartTx 2).length < 16))
    ∧ ((st13.has (Fld.UART_CFG_EN 2) = true) ∧ ((nth [] st13.per.uartRx 2).length < 16))
    ∧ ((st14.has (Fld.UART_CFG_EN 2) = true) ∧ (false = true ∨ false = true ∨ 16 ≤ (nth [] st14.per.uartRx 2).length))
    ∧ ((st14.has (Fld.UART_CFG_EN 2) = true) ∧ (true = true ∨ false = true ∨ 16 ≤ (nth [] st14.per.uartRx 2).length))
    ∧ ((st16.has (Fld.UART_CFG_EN 2) = true) ∧ (true = true ∨ true = true ∨ 16 ≤ (nth [] st16.per.uartRx 2).length)) :=
  ⟨by decide +kernel, by decide +kernel, by decide +kernel, by decide +kernel, by decide +kernel⟩

/-- A state and operands that meet the hypotheses of Obligations.UartCharacters, clause by clause. -/
theorem witness_UartCharacters_2 :
    (nth [] st17.per.uartRx 2 = (165 : Byte) :: List.replicate 15 (1 : Byte)) ∧ ((List.replicate 15 (1 : Byte)).length < 16) := by
  decide +kernel

/-- A state and operands that meet the hypotheses of Obligations.SerialTransfers, clause by clause. -/
theorem witness_SerialTransfers :
    ((ser.has (Fld.SPIM_CFG_EN 1) = true))
    ∧ ((st19.has (Fld.SPIM_STAT_BUSY 1) = true))
    ∧ ((ser.has (Fld.I2C_CFG_EN 1) = true))
    ∧ ((st20.has (Fld.I2C_STAT_BUSY 1) = true)) :=
  ⟨by decide +kernel, by decide +kernel, by decide +kernel, by decide +kernel⟩

/-- A state and operands that meet the hypotheses of Obligations.CanCommands, clause by clause. -/
theorem witness_CanCommands :
    ((st22.canOn = true) ∧ (canMaySend st22 31 = true))
    ∧ ((canB.canOn = true) ∧ (List.find? (fun k => !canB.bit Reg.CAN_RXFULL k) (List.filter (canMatches canB (BitVec.toNat (291 : Word))) (List.range 32)) = some 31))
    ∧ ((st22.canOn = true))
    ∧ ((canOff.get Fld.CAN_STAT_STATE = 2) ∧ (canOff.has Fld.CAN_CTL_ABOM = true) ∧ (canOff.has Fld.CAN_CTL_EN = true)) :=
  ⟨by decide +kernel, by decide +kernel, by decide +kernel, by decide +kernel⟩

end Sys2Proof.Tests.Peripherals

namespace Sys2Proof.Tests.HostBus

def hp : State := ((State.reset.flag Fld.HOSTP_CFG_EN).unflag (Fld.MEMCTL_GRPSTAT_CLEARING 2)).unflag (Fld.MEMCTL_GRPSTAT_CLEARING 0)
def mb : State := (hp.put Fld.HOSTP_MBDIR_TOHOST 0xFF).put Fld.HOSTP_MBTOHOST_FULL 1
def hv : State := (State.reset.flag Fld.LIFE_STAT_PEND).unflag Fld.LIFE_STAT_LOADING
abbrev lrec : List Byte := List.replicate 128 0x5A
def hu (k : Nat) : State := { hv.flag Fld.LIFE_STAT_BUSY with life := { hv.life with record := lrec, slot := 3, units := k } }
def lt : State := (State.reset.unflag Fld.LIFE_STAT_LOADING).flag Fld.LWDT_CFG_EN |>.put Fld.LWDT_STAT_REMAIN 1
def ld : State := { (State.reset.flag Fld.LIFE_STAT_LOADING).put Fld.PMU_DOMSTAT_ON 2 with life := { restore := some ((List.range 27).map (BitVec.ofNat 32)) } }
def st1 : State := State.reset.unflag Fld.LIFE_STAT_PEND
def st2 : State := State.reset.flag Fld.LIFE_CFG_EN
def st3 : State := hu 6
def st4 : State := lt.wr (Reg.LIFE_VAL 26) 0xFFFFFFFF


/-- A state and operands that meet the hypotheses of Obligations.HostAndLifetime, clause by clause. -/
theorem witness_HostAndLifetime_1 :
    ((hp.domOn 12 = true) ∧ (hp.has Fld.HOSTP_CFG_EN = true) ∧ (538443772 < 2 ^ 32) ∧ ([(1 : Byte), (2 : Byte), (3 : Byte), (4 : Byte)].length = 4) ∧ (sramBars hp Master.host 538443772 AccessSize.word = false) ∧ (hp.has (Fld.MEMCTL_GRPSTAT_CLEARING (sramGroup 538443772)) = false) ∧ ((hp.sramGrp (sramGroup 538443772)).merge = []) ∧ ((hp.sramGrp (sramGroup 538443772)).writeback = none) ∧ (hp.sram.groups.length = 3))
    ∧ ((hp.domOn 12 = true) ∧ (hp.domOn 11 = true) ∧ (hp.has Fld.HOSTP_CFG_EN = true) ∧ (671088640 ≤ 0x2801FFFC) ∧ (0x2801FFFC < 671219712) ∧ (0x2801FFFC % 4 = 0))
    ∧ ((hp.domOn 12 = true) ∧ (hp.domOn 11 = true) ∧ (hp.has Fld.HOSTP_CFG_EN = true) ∧ (671088640 ≤ 0x28000000) ∧ (0x28000000 < 671219712) ∧ (0x28000000 % 4 = 0))
    ∧ ((mb.issues Master.cpu1 = true) ∧ ((hostSlots mb (16777471 % 2 ^ 16) &&& mb.get Fld.HOSTP_MBDIR_TOHOST) = hostSlots mb (BitVec.toNat (16777471 : Word) % 2 ^ 16) &&& mb.get Fld.HOSTP_MBDIR_TOHOST) ∧ ((hostSlots mb (16777471 / 2 ^ 16) &&& 2 ^ 16 - 1 - mb.get Fld.HOSTP_MBDIR_TOHOST) = hostSlots mb (BitVec.toNat (16777471 : Word) / 2 ^ 16) &&& 2 ^ 16 - 1 - mb.get Fld.HOSTP_MBDIR_TOHOST))
    ∧ ((true = true ∨ st1.has Fld.LIFE_CFG_EN = true) ∧ (st1.has Fld.LIFE_STAT_PEND = false)) :=
  ⟨by decide +kernel, by decide +kernel, by decide +kernel, by decide +kernel, by decide +kernel⟩

/-- A state and operands that meet the hypotheses of Obligations.HostAndLifetime, clause by clause. -/
theorem witness_HostAndLifetime_2 :
    ((hv.has Fld.LIFE_STAT_PEND = true) ∧ (hv.has Fld.LIFE_STAT_BUSY = false) ∧ (hv.has Fld.LIFE_STAT_LOADING = false) ∧ (hv.domOn 7 = true) ∧ ((hv.bank 1).unit = none) ∧ ((hv.bank 1).erase = none) ∧ (hv.flashHeld = false) ∧ (lifeBlankSlot hv = some 0))
    ∧ (((lifeRec 3 + 16 * 6) = lifeRec st3.life.slot + 16 * st3.life.units) ∧ (st3.has Fld.LIFE_STAT_BUSY = true) ∧ ((st3.bank 1).erase = none) ∧ ((st3.bank 1).unit = none) ∧ (st3.flashHeld = false) ∧ (unitBlank (st3.bytes (lifeRec 3 + 16 * 6) 16) = true) ∧ (st3.life.units < 7) ∧ (st3.life.record.length = 128))
    ∧ ((hv.has Fld.LIFE_STAT_LOADING = false) ∧ (25 ≤ (25 : BitVec 8).toInt) ∧ ((25 : BitVec 8).toInt < 50))
    ∧ ((hv.has Fld.LIFE_STAT_LOADING = false) ∧ (25 ≤ (49 : BitVec 8).toInt) ∧ ((49 : BitVec 8).toInt < 50))
    ∧ ((hv.has Fld.LIFE_STAT_LOADING = false)) :=
  ⟨by decide +kernel, by decide +kernel, by decide +kernel, by decide +kernel, by decide +kernel⟩

/-- A state and operands that meet the hypotheses of Obligations.HostAndLifetime, clause by clause. -/
theorem witness_HostAndLifetime_3 :
    ((ld.has Fld.LIFE_STAT_LOADING = true) ∧ (ld.life.restore = some (List.map (BitVec.ofNat 32) (List.range 27))) ∧ (ld.life.held = []) ∧ (ld.domOn 7 = false)) :=
  by decide +kernel

/-- A state and operands that meet the hypotheses of Obligations.BusAccesses, clause by clause. -/
theorem witness_BusAccesses_1 :
    ((0x40000001 = BitVec.toNat (0x40000001 : Word)) ∧ (CipherPke.locksteps.issues Master.cpu1 = false))
    ∧ ((0x40000001 = BitVec.toNat (0x40000001 : Word)) ∧ (State.reset.issues Master.host = true) ∧ (isFlash 0x40000001 = false) ∧ (inSram 0x40000001 = false) ∧ (inRom 0x40000001 = false) ∧ (inLinkRam 0x40000001 = false) ∧ (regBars State.reset Master.host 0x40000001 (sizeOctets AccessSize.half) = true))
    ∧ ((0x50000000 = BitVec.toNat (0x50000000 : Word)) ∧ (ResetStart.dead.issues Master.cpu0 = true) ∧ (isFlash 0x50000000 = false) ∧ (inSram 0x50000000 = false) ∧ (inRom 0x50000000 = false) ∧ (inLinkRam 0x50000000 = false) ∧ (regBars ResetStart.dead Master.cpu0 0x50000000 (sizeOctets AccessSize.word) = true))
    ∧ ((1073741825 = BitVec.toNat (1073741825 : Word)) ∧ (State.reset.issues Master.host = true) ∧ (isFlash 1073741825 = false) ∧ (inSram 1073741825 = false) ∧ (inRom 1073741825 = false) ∧ (inLinkRam 1073741825 = false) ∧ (regBars State.reset Master.host 1073741825 (sizeOctets AccessSize.half) = true))
    ∧ ((1074102268 = BitVec.toNat (1074102268 : Word)) ∧ (State.reset.issues Master.cpu0 = true) ∧ (regBars State.reset Master.cpu0 1074102268 4 = false) ∧ (inJobRam 1074102268 = true)) :=
  ⟨by decide +kernel, by decide +kernel, by decide +kernel, by decide +kernel, by decide +kernel⟩

/-- A state and operands that meet the hypotheses of Obligations.BusAccesses, clause by clause. -/
theorem witness_BusAccesses_2 :
    ((1074135128 = BitVec.toNat (1074135128 : Word)) ∧ (State.reset.issues Master.cpu0 = true) ∧ (regBars State.reset Master.cpu0 1074135128 4 = false) ∧ (1074135128 = Reg.KEYSTORE_NEWATTR 6))
    ∧ ((0x40000124 = BitVec.toNat (0x40000124 : Word)) ∧ (State.reset.issues Master.cpu0 = true) ∧ (regBars State.reset Master.cpu0 0x40000124 4 = false) ∧ (rowOf 0x40000124 = some ({ base := 0x40000124, dims := [], reset := 0, rc := 0xFFFFFFFF } : RegRow)) ∧ (({ base := 0x40000124, dims := [], reset := 0, rc := 0xFFFFFFFF } : RegRow).rc ≠ 0)) :=
  ⟨by decide +kernel, by decide +kernel⟩

end Sys2Proof.Tests.HostBus
end

section
/-!
SUPPORT. The write of SYSCFG_CLKCFG (R17, R629): what the limit check compares, and which field values a write leaves.
-/

namespace Sys2Proof.Machine

/-! ### The bus clock that a value selects -/

/-- With a BUSDIV of one bit, the check divides by 2 ^ BUSDIV. -/
theorem busMHz_eq_div_two_pow {pllen busdiv cpudiv : Nat} (h : busdiv < 2) :
    busMHz pllen busdiv cpudiv = (if pllen = 1 then 128 else 64) / 2 ^ cpudiv / 2 ^ busdiv := by
  obtain rfl | rfl : busdiv = 0 ∨ busdiv = 1 := by omega
  all_goals simp [busMHz]

/-- The bus clock in MHz that the fields of SYSCFG_CLKCFG select. -/
def State.busMHz (s : State) : Nat :=
  Machine.busMHz (s.get Fld.SYSCFG_CLKCFG_PLLEN) (s.get Fld.SYSCFG_CLKCFG_BUSDIV) (s.get Fld.SYSCFG_CLKCFG_CPUDIV)

/-! ### What a write answers -/

/-- The dividers and PLLEN as a write of v leaves them, with PLLLOCK cleared where PLLEN is (R629). -/
def State.setClkcfg (v : Nat) (s : State) : State :=
  let t := ((s.put Fld.SYSCFG_CLKCFG_PLLEN (v % 2)).put Fld.SYSCFG_CLKCFG_BUSDIV (v / 2 % 2)).put
    Fld.SYSCFG_CLKCFG_CPUDIV (v / 4 % 4)
  if v % 2 = 0 then t.unflag Fld.SYSCFG_CLKCFG_PLLLOCK else t

/-- The check of R17: a value above the limit changes nothing, any other is taken whole. -/
theorem execClkcfgWrite_eq (value : Word) (s : State) :
    execClkcfgWrite value s =
      if 64 < busMHz (value.toNat % 2) (value.toNat / 2 % 2) (value.toNat / 4 % 4) then .next s
      else .next (s.setClkcfg value.toNat) := rfl

/-- The command is the write. -/
theorem exec_clkcfgWrite (value : Word) (s : State) : exec (.clkcfgWrite value) s = execClkcfgWrite value s := rfl

variable {s : State} {v : Nat} {f : Field}

/-- Clearing PLLLOCK is all that a write does beside the three fields it sets. -/
theorem State.get_setClkcfg (hf : Fld.SYSCFG_CLKCFG_PLLLOCK.apart f = true) :
    (s.setClkcfg v).get f = (((s.put Fld.SYSCFG_CLKCFG_PLLEN (v % 2)).put Fld.SYSCFG_CLKCFG_BUSDIV (v / 2 % 2)).put
      Fld.SYSCFG_CLKCFG_CPUDIV (v / 4 % 4)).get f := by
  unfold State.setClkcfg
  split
  · exact State.get_put_apart (by decide) hf
  · rfl

@[simp] theorem State.get_PLLEN_setClkcfg : (s.setClkcfg v).get Fld.SYSCFG_CLKCFG_PLLEN = v % 2 := by
  rw [State.get_setClkcfg (by decide), State.get_put_apart (by decide) (by decide),
    State.get_put_apart (by decide) (by decide), State.get_put_self (by decide)]
  exact Nat.mod_mod ..

@[simp] theorem State.get_BUSDIV_setClkcfg : (s.setClkcfg v).get Fld.SYSCFG_CLKCFG_BUSDIV = v / 2 % 2 := by
  rw [State.get_setClkcfg (by decide), State.get_put_apart (by decide) (by decide), State.get_put_self (by decide)]
  exact Nat.mod_mod ..

@[simp] theorem State.get_CPUDIV_setClkcfg : (s.setClkcfg v).get Fld.SYSCFG_CLKCFG_CPUDIV = v / 4 % 4 := by
  rw [State.get_setClkcfg (by decide), State.get_put_self (by decide)]
  exact Nat.mod_mod ..

theorem State.busMHz_setClkcfg :
    (s.setClkcfg v).busMHz = Machine.busMHz (v % 2) (v / 2 % 2) (v / 4 % 4) := by
  simp [State.busMHz]

/-- A write keeps the limit of R17: it is ignored, or it selects the clock that the check admitted. -/
theorem execClkcfgWrite_keeps_limit (value : Word) (h : s.busMHz ≤ 64) :
    Answers (execClkcfgWrite value s) fun t => t.busMHz ≤ 64 := by
  rw [execClkcfgWrite_eq]
  split
  case isTrue => exact ⟨s, rfl, h⟩
  case isFalse hle => exact ⟨_, rfl, State.busMHz_setClkcfg.trans_le (Nat.le_of_not_lt hle)⟩

/-- Settles O8: the branch of the limit check, and the limit as a property that every write keeps. -/
theorem clockWriteAboveLimitIgnored : Obligations.ClockWriteAboveLimitIgnored := by
  intro value s
  rw [exec_clkcfgWrite]
  constructor
  · intro hover
    rw [← busMHz_eq_div_two_pow (Nat.mod_lt _ Nat.two_pos)] at hover
    rw [execClkcfgWrite_eq, if_pos hover]
  · exact execClkcfgWrite_keeps_limit value

end Sys2Proof.Machine
end

section
/-!
SUPPORT. A 64-bit number in two word registers: tide time is read, captured and compared in this form (R85, R86, R113).
-/

namespace Sys2Proof.Machine

variable {s : State} {a v lo hi : Nat} {f : Field}

/-! ### Fields by the register that holds them -/

theorem State.get_eq_of_rd {t : State} (h : t.rd f.addr = s.rd f.addr) : t.get f = s.get f := by
  rw [State.get, State.get, h]

theorem State.get_word : s.get ⟨a, 0, 32⟩ = (s.rd a).toNat := by
  simp only [State.get, Nat.pow_zero, Nat.div_one]
  exact Nat.mod_eq_of_lt (s.rd a).isLt

theorem State.rd_put_word : (s.put ⟨a, 0, 32⟩ v).rd a = BitVec.ofNat 32 v := by
  refine BitVec.eq_of_toNat_eq ?_
  rw [← State.get_word, State.get_put_self (by simp), BitVec.toNat_ofNat]

/-! ### Changes of registers only -/

/-- A put changes registers only. -/
theorem State.put_eq : s.put f v = { s with regs := (s.put f v).regs } := rfl

theorem State.onlyRegs_trans {t u : State} (ht : t = { s with regs := t.regs }) (hu : u = { t with regs := u.regs }) :
    u = { s with regs := u.regs } := by
  refine hu.trans ?_
  rw [ht]

theorem State.takeTask_onlyRegs {t : State} {i : Nat} (ht : t = { s with regs := t.regs }) :
    t.takeTask i = { s with regs := (t.takeTask i).regs, tasks := (t.takeTask i).tasks } := by
  rw [ht]
  rfl

/-! ### Two registers that hold one number -/

/-- The lower word of v in the register at lo, the upper word in the one at hi. -/
def State.putPair (lo hi v : Nat) (s : State) : State := (s.put ⟨lo, 0, 32⟩ v).put ⟨hi, 0, 32⟩ (v / 2 ^ 32)

theorem State.rd_hi_putPair : (s.putPair lo hi v).rd hi = BitVec.ofNat 32 (v / 2 ^ 32) := State.rd_put_word

theorem State.rd_lo_putPair (h : lo ≠ hi) : (s.putPair lo hi v).rd lo = BitVec.ofNat 32 v := by
  rw [State.putPair, State.rd_put_ne h, State.rd_put_word]

theorem State.putPair_eq : s.putPair lo hi v = { s with regs := (s.putPair lo hi v).regs } :=
  State.onlyRegs_trans State.put_eq State.put_eq

theorem State.regsBut_putPair : RegsBut [lo, hi] s (s.putPair lo hi v) := by
  intro a ha
  obtain ⟨hlo, hhi⟩ : a ≠ lo ∧ a ≠ hi := by simpa using ha
  rw [State.putPair, State.rd_put_ne hhi, State.rd_put_ne hlo]

theorem State.put_takeTask {i : Nat} : (s.takeTask i).put f v = (s.put f v).takeTask i := rfl

theorem State.putPair_takeTask {i : Nat} : (s.takeTask i).putPair lo hi v = (s.putPair lo hi v).takeTask i := by
  rw [State.putPair, State.put_takeTask, State.put_takeTask, State.putPair]

/-- A state that has the registers of a stored pair reads both words, and every other register as before. -/
theorem State.reads_of_regs_putPair {t : State} (h : lo ≠ hi) (ht : t.regs = (s.putPair lo hi v).regs) :
    t.rd lo = BitVec.ofNat 32 v ∧ t.rd hi = BitVec.ofNat 32 (v / 2 ^ 32) ∧ RegsBut [lo, hi] s t :=
  ⟨(State.rd_congr ht).trans (State.rd_lo_putPair h), (State.rd_congr ht).trans State.rd_hi_putPair,
    fun a ha => (State.rd_congr ht).trans (State.regsBut_putPair a ha)⟩

/-! ### Reading and capturing tide time -/

/-- A read of TIDE_NOWLO: the answer is the lower word, and both words stand in the registers (R85). -/
def State.nowloRead (s : State) : State :=
  { s.putPair Reg.TIDE_NOWLO Reg.TIDE_NOWHI s.now with bus := .data (BitVec.ofNat 32 s.now) }

/-- A capture: both words are stored, and its task is served (R86). -/
def State.captured (k : Nat) (s : State) : State :=
  (s.putPair (Reg.TIDE_CAPLO k) (Reg.TIDE_CAPHI k) s.now).takeTask (TK.TIDE_CAP k)

theorem State.nowloRead_eq : s.nowloRead = { s with regs := s.nowloRead.regs, bus := s.nowloRead.bus } :=
  congrArg (fun u : State => { u with bus := .data (BitVec.ofNat 32 s.now) }) State.putPair_eq

theorem State.captured_eq {k : Nat} :
    s.captured k = { s with regs := (s.captured k).regs, tasks := (s.captured k).tasks } := by
  unfold State.captured
  exact State.takeTask_onlyRegs State.putPair_eq

theorem exec_tideNowloRead (s : State) : exec .tideNowloRead s = .next s.nowloRead := rfl

theorem exec_tideCapture (k : Fin 4) (s : State) : exec (.tideCapture k) s = .next (s.captured k) :=
  congrArg Host.Outcome.next State.putPair_takeTask

theorem Reg.TIDE_CAPLO_ne_CAPHI (k : Nat) : Reg.TIDE_CAPLO k ≠ Reg.TIDE_CAPHI k := by
  simp [Reg.TIDE_CAPLO, Reg.TIDE_CAPHI]

theorem Reg.TIDE_NOWLO_ne_NOWHI : Reg.TIDE_NOWLO ≠ Reg.TIDE_NOWHI := by decide

/-- Settles O10: both commands store TIDE_NOW as a pair of words. -/
theorem tideTimeReadAndCapture : Obligations.TideTimeReadAndCapture := by
  intro s
  constructor
  case left =>
    obtain ⟨-, hhi, hothers⟩ := State.reads_of_regs_putPair (t := s.nowloRead) Reg.TIDE_NOWLO_ne_NOWHI rfl
    exact ⟨_, exec_tideNowloRead s, rfl, hhi, hothers, State.nowloRead_eq⟩
  case right =>
    intro k
    obtain ⟨hlo, hhi, hothers⟩ := State.reads_of_regs_putPair (t := s.captured k) (Reg.TIDE_CAPLO_ne_CAPHI k) rfl
    exact ⟨_, exec_tideCapture k s, hlo, hhi, hothers, State.captured_eq⟩

end Sys2Proof.Machine
end

section
/-!
SUPPORT. Gates (R113 to R115): the time a gate holds, what a firing leaves in the gate's registers, and when a gate fires.
-/

namespace Sys2Proof.Machine

variable {s : State} {a n t : Nat} {f : Field}

/-! ### The registers of one gate are different registers, and none of them is TIDE_GATELATE -/

theorem Reg.TIDE_GATE_TLO_ne_THI : Reg.TIDE_GATE_TLO n ≠ Reg.TIDE_GATE_THI n := by
  simp [Reg.TIDE_GATE_TLO, Reg.TIDE_GATE_THI]

theorem Reg.TIDE_GATE_CTL_notMem_T : Reg.TIDE_GATE_CTL n ∉ [Reg.TIDE_GATE_TLO n, Reg.TIDE_GATE_THI n] := by
  simp [Reg.TIDE_GATE_CTL, Reg.TIDE_GATE_TLO, Reg.TIDE_GATE_THI]

theorem Reg.TIDE_GATE_TLO_ne_CTL : Reg.TIDE_GATE_TLO n ≠ Reg.TIDE_GATE_CTL n := by
  simp [Reg.TIDE_GATE_CTL, Reg.TIDE_GATE_TLO]

theorem Reg.TIDE_GATE_THI_ne_CTL : Reg.TIDE_GATE_THI n ≠ Reg.TIDE_GATE_CTL n := by
  simp [Reg.TIDE_GATE_CTL, Reg.TIDE_GATE_THI]

/-- TIDE_GATELATE stands below the registers of every gate. -/
theorem Reg.ne_TIDE_GATELATE_of_gate (h : Reg.TIDE_GATE_TLO 0 ≤ a) : a ≠ Reg.TIDE_GATELATE := by
  simp only [Reg.TIDE_GATE_TLO, Reg.TIDE_GATELATE] at h ⊢
  omega

theorem Reg.TIDE_GATE_TLO_ne_GATELATE : Reg.TIDE_GATE_TLO n ≠ Reg.TIDE_GATELATE :=
  Reg.ne_TIDE_GATELATE_of_gate (by simp [Reg.TIDE_GATE_TLO])

theorem Reg.TIDE_GATE_THI_ne_GATELATE : Reg.TIDE_GATE_THI n ≠ Reg.TIDE_GATELATE :=
  Reg.ne_TIDE_GATELATE_of_gate (by simp only [Reg.TIDE_GATE_TLO, Reg.TIDE_GATE_THI]; omega)

theorem Reg.TIDE_GATE_CTL_ne_GATELATE : Reg.TIDE_GATE_CTL n ≠ Reg.TIDE_GATELATE :=
  Reg.ne_TIDE_GATELATE_of_gate (by simp only [Reg.TIDE_GATE_TLO, Reg.TIDE_GATE_CTL]; omega)

/-! ### T of a gate -/

theorem State.gateT_eq_rd :
    s.gateT n = (s.rd (Reg.TIDE_GATE_THI n)).toNat * 2 ^ 32 + (s.rd (Reg.TIDE_GATE_TLO n)).toNat := by
  rw [State.gateT, Fld.TIDE_GATE_THI_T, Fld.TIDE_GATE_TLO_T, State.get_word, State.get_word]

theorem State.setGateT_eq_putPair :
    s.setGateT n t = s.putPair (Reg.TIDE_GATE_TLO n) (Reg.TIDE_GATE_THI n) t := rfl

/-- T is 64 bits wide. -/
theorem State.gateT_setGateT : (s.setGateT n t).gateT n = t % 2 ^ 64 := by
  rw [State.gateT_eq_rd, State.setGateT_eq_putPair, State.rd_hi_putPair, State.rd_lo_putPair Reg.TIDE_GATE_TLO_ne_THI,
    BitVec.toNat_ofNat, BitVec.toNat_ofNat]
  omega

/-- T depends on the two words of it only. -/
theorem State.gateT_congr {u : State} (hlo : u.rd (Reg.TIDE_GATE_TLO n) = s.rd (Reg.TIDE_GATE_TLO n))
    (hhi : u.rd (Reg.TIDE_GATE_THI n) = s.rd (Reg.TIDE_GATE_THI n)) : u.gateT n = s.gateT n := by
  rw [State.gateT_eq_rd, State.gateT_eq_rd, hlo, hhi]

/-! ### What a firing leaves in the registers -/

/-- Bit n of TIDE_GATELATE is set where the gate fires late (R115). -/
def State.markLate (n : Nat) (late : Bool) (s : State) : State :=
  if late then s.putBit Reg.TIDE_GATELATE n true else s

/-- A one-shot gate is disarmed, a periodic one takes t + per (R114). -/
def State.rearmGate (n per t : Nat) (s : State) : State :=
  if per = 0 then s.unflag (Fld.TIDE_GATE_CTL_EN n) else s.setGateT n (t + per)

/-- The registers as the firing of a gate leaves them, where no step has carried TIDE_NOW past T (R117). -/
def State.gateServed (n : Nat) (s : State) : State :=
  (s.markLate n (decide (s.gateT n + 1 < s.now))).rearmGate n (s.get (Fld.TIDE_GATE_PER_PER n)) (s.gateT n)

theorem State.rd_markLate_ne {late : Bool} (h : a ≠ Reg.TIDE_GATELATE) : (s.markLate n late).rd a = s.rd a := by
  cases late
  case false => rfl
  case true => exact State.rd_putBit_ne h

theorem State.markLate_eq {late : Bool} : s.markLate n late = { s with regs := (s.markLate n late).regs } := by
  cases late
  case false => rfl
  case true => exact State.put_eq

theorem State.bit_markLate {late : Bool} (hn : n < 32) :
    (s.markLate n late).bit Reg.TIDE_GATELATE n = (late || s.bit Reg.TIDE_GATELATE n) := by
  cases late
  case false => simp [State.markLate]
  case true => simp [State.markLate, State.bit_putBit_self hn]

theorem State.rearmGate_oneShot : s.rearmGate n 0 t = s.unflag (Fld.TIDE_GATE_CTL_EN n) := rfl

theorem State.rearmGate_periodic {per : Nat} (h : per ≠ 0) : s.rearmGate n per t = s.setGateT n (t + per) := if_neg h

theorem State.rd_rearmGate_ne {per : Nat} (hctl : a ≠ Reg.TIDE_GATE_CTL n)
    (hT : a ∉ [Reg.TIDE_GATE_TLO n, Reg.TIDE_GATE_THI n]) : (s.rearmGate n per t).rd a = s.rd a := by
  by_cases h : per = 0
  case pos => rw [h, State.rearmGate_oneShot, State.rd_unflag_ne hctl]
  case neg => rw [State.rearmGate_periodic h, State.setGateT_eq_putPair, State.regsBut_putPair a hT]

theorem State.rearmGate_eq {per : Nat} : s.rearmGate n per t = { s with regs := (s.rearmGate n per t).regs } := by
  by_cases h : per = 0
  case pos => exact h ▸ State.put_eq
  case neg => exact State.rearmGate_periodic h ▸ State.putPair_eq

theorem State.gateServed_eq : s.gateServed n = { s with regs := (s.gateServed n).regs } :=
  State.onlyRegs_trans State.markLate_eq State.rearmGate_eq

theorem State.regsBut_gateServed :
    RegsBut [Reg.TIDE_GATE_CTL n, Reg.TIDE_GATE_TLO n, Reg.TIDE_GATE_THI n, Reg.TIDE_GATELATE] s (s.gateServed n) := by
  intro a ha
  obtain ⟨hctl, hlo, hhi, hlate⟩ :
      a ≠ Reg.TIDE_GATE_CTL n ∧ a ≠ Reg.TIDE_GATE_TLO n ∧ a ≠ Reg.TIDE_GATE_THI n ∧ a ≠ Reg.TIDE_GATELATE := by
    simpa using ha
  rw [State.gateServed, State.rd_rearmGate_ne hctl (by simp [hlo, hhi]), State.rd_markLate_ne hlate]

/-- Bit n of TIDE_GATELATE is set where more than one tick has passed since T (R115). -/
theorem State.bit_gateServed (hn : n < 32) :
    (s.gateServed n).bit Reg.TIDE_GATELATE n
      = (decide (s.gateT n + 1 < s.now) || s.bit Reg.TIDE_GATELATE n) := by
  rw [← State.bit_markLate hn, State.gateServed, State.bit, State.bit,
    State.rd_rearmGate_ne Reg.TIDE_GATE_CTL_ne_GATELATE.symm
      (by simp [Reg.TIDE_GATE_TLO_ne_GATELATE.symm, Reg.TIDE_GATE_THI_ne_GATELATE.symm])]

/-- A one-shot gate is disarmed, and its T stays (R114). -/
theorem State.gateServed_oneShot (h : s.get (Fld.TIDE_GATE_PER_PER n) = 0) :
    (s.gateServed n).has (Fld.TIDE_GATE_CTL_EN n) = false ∧ (s.gateServed n).gateT n = s.gateT n := by
  rw [State.gateServed, h, State.rearmGate_oneShot]
  constructor
  · exact State.has_unflag (by simp [Fld.TIDE_GATE_CTL_EN])
  · apply State.gateT_congr
    · rw [State.rd_unflag_ne Reg.TIDE_GATE_TLO_ne_CTL, State.rd_markLate_ne Reg.TIDE_GATE_TLO_ne_GATELATE]
    · rw [State.rd_unflag_ne Reg.TIDE_GATE_THI_ne_CTL, State.rd_markLate_ne Reg.TIDE_GATE_THI_ne_GATELATE]

/-- A periodic gate stays as armed as it was, and takes T + PER (R114). -/
theorem State.gateServed_periodic (h : s.get (Fld.TIDE_GATE_PER_PER n) ≠ 0) :
    (s.gateServed n).has (Fld.TIDE_GATE_CTL_EN n) = s.has (Fld.TIDE_GATE_CTL_EN n)
    ∧ (s.gateServed n).gateT n = (s.gateT n + s.get (Fld.TIDE_GATE_PER_PER n)) % 2 ^ 64 := by
  rw [State.gateServed, State.rearmGate_periodic h]
  refine ⟨?_, State.gateT_setGateT⟩
  apply State.has_eq_of_get
  apply State.get_eq_of_rd
  calc
    _ = (s.markLate n (decide (s.gateT n + 1 < s.now))).rd (Reg.TIDE_GATE_CTL n) :=
      State.regsBut_putPair _ Reg.TIDE_GATE_CTL_notMem_T
    _ = s.rd (Reg.TIDE_GATE_CTL n) := State.rd_markLate_ne Reg.TIDE_GATE_CTL_ne_GATELATE

/-! ### When a gate fires, and what it does beside its registers -/

theorem exec_gateFire (g : Fin 32) (s : State) : exec (.gateFire g) s = execGateFire g s := rfl

theorem execGateFire_of_not_due {g : Fin 32} (hstep : s.gateStepped g = false) (h : s.now < s.gateT g) :
    execGateFire g s = .next s := by
  simp [execGateFire, hstep, Nat.not_le.mpr h]

theorem execGateFire_of_due {g : Fin 32} (hen : s.has (Fld.TIDE_GATE_CTL_EN g) = true) (hheld : s.gateHeld g = false)
    (h : s.gateT g ≤ s.now) : execGateFire g s = .next (gateFire g s) := by
  simp [execGateFire, hen, hheld, h]

theorem State.put_fireSluice {k v : Nat} : (s.fireSluice k).put f v = (s.put f v).fireSluice k := rfl

theorem State.markLate_fireSluice {k : Nat} {late : Bool} :
    (s.fireSluice k).markLate n late = (s.markLate n late).fireSluice k := by
  cases late
  case false => rfl
  case true => exact State.put_fireSluice

theorem State.rearmGate_fireSluice {k per : Nat} :
    (s.fireSluice k).rearmGate n per t = (s.rearmGate n per t).fireSluice k := by
  by_cases h : per = 0
  case pos => rw [h, State.rearmGate_oneShot, State.rearmGate_oneShot, State.unflag, State.put_fireSluice, State.unflag]
  case neg =>
    rw [State.rearmGate_periodic h, State.rearmGate_periodic h, State.setGateT, State.put_fireSluice,
      State.put_fireSluice, State.setGateT]

/-- A gate that no step was carried past serves its registers, gives its sluice one edge and waits for nothing more. -/
theorem gateFire_eq_of_unstepped (hstep : s.gateStepped n = false) (hlate : s.gateLateNext n = false) :
    gateFire n s = (((s.gateServed n).fireSluice (s.get (Fld.TIDE_GATE_CTL_SLUICE n))).setGateStepped n false
      |>.setGateLateNext n false) := by
  simp only [gateFire, hstep, hlate, Bool.false_or, Bool.not_false, Bool.true_and]
  rw [State.gateServed, ← State.rearmGate_fireSluice, ← State.markLate_fireSluice]
  have hstep' : ((s.fireSluice (s.get (Fld.TIDE_GATE_CTL_SLUICE n))).markLate n
      (decide (s.gateT n + 1 < s.now))).gateStepped n = false := by
    rw [State.gateStepped, State.markLate_eq]
    exact hstep
  unfold State.markLate at hstep' ⊢
  rw [hstep']
  rfl

/-- Settles O11: a gate that is not due falls to the guard of R113; a due one leaves the registers as `gateServed` has
them, and the edge and the gate's own marks change no register. -/
theorem gateFires : Obligations.GateFires := by
  intro g s hen hheld hstep hlate
  rw [exec_gateFire]
  constructor
  case left => exact execGateFire_of_not_due hstep
  case right =>
    intro hdue
    rw [execGateFire_of_due hen hheld hdue, gateFire_eq_of_unstepped hstep hlate]
    refine ⟨_, rfl, ?edge, State.gateServed_oneShot, ?periodic, State.bit_gateServed g.isLt, State.regsBut_gateServed,
      ?frame⟩
    case edge =>
      exact congrArg (fun u => u.edges ++ [.direct (s.get (Fld.TIDE_GATE_CTL_SLUICE g))]) (State.gateServed_eq (s := s))
    case periodic => exact fun hper => hen ▸ State.gateServed_periodic hper
    case frame =>
      rw [State.gateServed_eq]
      rfl

end Sys2Proof.Machine
end

section
/-!
SUPPORT. Software firings (R138): what one selected sluice does, and what the sluices of one write do together.
-/

namespace Sys2Proof.Machine

variable {s t u : State} {n k : Nat} {l : List Nat}

/-! ### What software meets at a sluice -/

/-- The sluice does not let software fire it. -/
def State.refusesSoftware (s : State) (n : Nat) : Bool := !s.has (Fld.FABRIC_SLCFG_SWFIRE n)

/-- The sluice lets software fire it, but is in quarantine. -/
def State.dropsSoftware (s : State) (n : Nat) : Bool := s.has (Fld.FABRIC_SLCFG_SWFIRE n) && s.quarantined n

/-- The sluice lets software fire it, and is not in quarantine. -/
def State.takesSoftware (s : State) (n : Nat) : Bool := s.has (Fld.FABRIC_SLCFG_SWFIRE n) && !s.quarantined n

theorem softwareFire_of_refuses (h : s.refusesSoftware n = true) :
    softwareFire n s = s.flag Fld.FABRIC_ERR_SWREJ := if_pos h

theorem softwareFire_of_drops (h : s.dropsSoftware n = true) :
    softwareFire n s = (s.flag Fld.FABRIC_ERR_QFIRE).inc (Fld.FABRIC_SLCNT_QDROP n) := by
  obtain ⟨hsw, hq⟩ : s.has (Fld.FABRIC_SLCFG_SWFIRE n) = true ∧ s.quarantined n = true := by
    simpa [State.dropsSoftware] using h
  simp [softwareFire, hsw, hq]

theorem softwareFire_of_takes (h : s.takesSoftware n = true) : softwareFire n s = s.fireSluice n := by
  obtain ⟨hsw, hq⟩ : s.has (Fld.FABRIC_SLCFG_SWFIRE n) = true ∧ s.quarantined n = false := by
    simpa [State.takesSoftware] using h
  simp [softwareFire, hsw, hq]

/-- A sluice meets software in exactly one of the three ways. -/
theorem State.meetsSoftware_cases (s : State) (n : Nat) :
    (s.refusesSoftware n = true ∧ s.dropsSoftware n = false ∧ s.takesSoftware n = false)
    ∨ (s.refusesSoftware n = false ∧ s.dropsSoftware n = true ∧ s.takesSoftware n = false)
    ∨ (s.refusesSoftware n = false ∧ s.dropsSoftware n = false ∧ s.takesSoftware n = true) := by
  unfold State.refusesSoftware State.dropsSoftware State.takesSoftware
  cases s.has (Fld.FABRIC_SLCFG_SWFIRE n) <;> cases s.quarantined n <;> simp

/-! ### The registers that a firing writes are none of those that decide it -/

theorem Reg.FABRIC_SLCNT_inj (h : Reg.FABRIC_SLCNT n = Reg.FABRIC_SLCNT k) : n = k := by
  simp only [Reg.FABRIC_SLCNT] at h
  omega

theorem Reg.FABRIC_SLCNT_ne_ERR : Reg.FABRIC_SLCNT n ≠ Reg.FABRIC_ERR := by
  simp only [Reg.FABRIC_SLCNT, Reg.FABRIC_ERR]
  omega

theorem Reg.FABRIC_SLCFG_notMem (hn : n < 256) : Reg.FABRIC_SLCFG k ∉ [Reg.FABRIC_ERR, Reg.FABRIC_SLCNT n] := by
  simp only [Reg.FABRIC_SLCFG, Reg.FABRIC_ERR, Reg.FABRIC_SLCNT, List.mem_cons, List.not_mem_nil, or_false]
  omega

theorem Reg.FABRIC_QUAR_notMem (hk : k < 256) : Reg.FABRIC_QUAR (k / 32) ∉ [Reg.FABRIC_ERR, Reg.FABRIC_SLCNT n] := by
  simp only [Reg.FABRIC_QUAR, Reg.FABRIC_ERR, Reg.FABRIC_SLCNT, List.mem_cons, List.not_mem_nil, or_false]
  omega

/-! ### What a flag and a counter leave as they were -/

theorem State.has_flag_apart {f g : Field} (hf : f.lo + f.width ≤ 32) (h : f.apart g = true) :
    (s.flag f).has g = s.has g := State.has_eq_of_get (State.get_put_apart hf h)

/-- A flag of FABRIC_ERR is no counter of a sluice. -/
theorem State.get_QDROP_flag {f : Field} (hf : f.addr = Reg.FABRIC_ERR) :
    (s.flag f).get (Fld.FABRIC_SLCNT_QDROP k) = s.get (Fld.FABRIC_SLCNT_QDROP k) :=
  State.get_put_addr (hf ▸ Reg.FABRIC_SLCNT_ne_ERR)

theorem State.has_ERR_inc {f : Field} (hf : f.addr = Reg.FABRIC_ERR) :
    (s.inc (Fld.FABRIC_SLCNT_QDROP n)).has f = s.has f :=
  State.has_eq_of_get (State.get_put_addr (hf ▸ Reg.FABRIC_SLCNT_ne_ERR.symm))

theorem State.flag_eq {f : Field} : s.flag f = { s with regs := (s.flag f).regs } := State.put_eq

theorem State.inc_eq {f : Field} : s.inc f = { s with regs := (s.inc f).regs } := State.put_eq

theorem State.regsEdges_of_onlyRegs (h : t = { s with regs := t.regs }) :
    t = { s with regs := t.regs, edges := t.edges } := by
  refine h.trans ?_
  rw [h]

/-! ### What the firings of a list of sluices leave -/

/-- t is s after software has fired the sluices l: each does in t what s lets it do. -/
structure SoftwareFired (l : List Nat) (s t : State) : Prop where
  edges : t.edges = s.edges ++ (l.filter s.takesSoftware).map .direct
  swrej : t.has Fld.FABRIC_ERR_SWREJ = (s.has Fld.FABRIC_ERR_SWREJ || l.any s.refusesSoftware)
  qfire : t.has Fld.FABRIC_ERR_QFIRE = (s.has Fld.FABRIC_ERR_QFIRE || l.any s.dropsSoftware)
  qdrop : ∀ k, t.get (Fld.FABRIC_SLCNT_QDROP k) = if k ∈ l ∧ s.dropsSoftware k = true
    then s.counted (Fld.FABRIC_SLCNT_QDROP k) else s.get (Fld.FABRIC_SLCNT_QDROP k)
  others : RegsBut (Reg.FABRIC_ERR :: l.map Reg.FABRIC_SLCNT) s t
  frame : t = { s with regs := t.regs, edges := t.edges }

theorem SoftwareFired.nil : SoftwareFired [] s s where
  edges := by simp
  swrej := by simp
  qfire := by simp
  qdrop := by simp
  others := fun _ _ => rfl
  frame := rfl

theorem State.not_drops_of_mem_singleton (hd : s.dropsSoftware n = false) :
    ¬(k ∈ [n] ∧ s.dropsSoftware k = true) := by
  rintro ⟨hk, hdk⟩
  rw [List.mem_singleton.mp hk, hd] at hdk
  cases hdk

/-- With SWFIRE = 0 the flag SWREJ is all that changes. -/
theorem SoftwareFired.of_refuses (hr : s.refusesSoftware n = true) (hd : s.dropsSoftware n = false)
    (ht : s.takesSoftware n = false) : SoftwareFired [n] s (s.flag Fld.FABRIC_ERR_SWREJ) where
  edges := by simp [ht]
  swrej := by
    rw [State.has_flag (by decide) (by decide)]
    simp [hr]
  qfire := by
    rw [State.has_flag_apart (by decide) (by decide)]
    simp [hd]
  qdrop := by
    intro k
    rw [State.get_QDROP_flag rfl, if_neg (State.not_drops_of_mem_singleton hd)]
  others := fun a ha => State.rd_flag_ne (List.ne_of_not_mem_cons ha)
  frame := State.regsEdges_of_onlyRegs State.flag_eq

/-- In quarantine the flag QFIRE and the counter QDROP are all that changes. -/
theorem SoftwareFired.of_drops (hr : s.refusesSoftware n = false) (hd : s.dropsSoftware n = true)
    (ht : s.takesSoftware n = false) :
    SoftwareFired [n] s ((s.flag Fld.FABRIC_ERR_QFIRE).inc (Fld.FABRIC_SLCNT_QDROP n)) where
  edges := by simp [ht]
  swrej := by
    rw [State.has_ERR_inc rfl, State.has_flag_apart (by decide) (by decide)]
    simp [hr]
  qfire := by
    rw [State.has_ERR_inc rfl, State.has_flag (by decide) (by decide)]
    simp [hd]
  qdrop := by
    intro k
    by_cases hk : k = n
    · subst hk
      rw [State.get_inc (by simp [Fld.FABRIC_SLCNT_QDROP]), State.get_QDROP_flag rfl,
        if_pos ⟨List.mem_singleton_self k, hd⟩, State.counted]
    · rw [State.inc_eq_put, State.get_put_addr fun h => hk (Reg.FABRIC_SLCNT_inj h), State.get_QDROP_flag rfl,
        if_neg fun h => hk (List.mem_singleton.mp h.1)]
  others := by
    intro a ha
    obtain ⟨herr, hcnt⟩ : a ≠ Reg.FABRIC_ERR ∧ a ≠ Reg.FABRIC_SLCNT n := by simpa using ha
    rw [State.rd_inc_ne hcnt, State.rd_flag_ne herr]
  frame := State.regsEdges_of_onlyRegs (State.onlyRegs_trans State.flag_eq State.inc_eq)

/-- A sluice that takes the firing receives one edge, and no register changes. -/
theorem SoftwareFired.of_takes (hr : s.refusesSoftware n = false) (hd : s.dropsSoftware n = false)
    (ht : s.takesSoftware n = true) : SoftwareFired [n] s (s.fireSluice n) where
  edges := by simp [ht, State.fireSluice]
  swrej := by simp [hr]
  qfire := by simp [hd]
  qdrop := by
    intro k
    rw [State.get_fireSluice, if_neg (State.not_drops_of_mem_singleton hd)]
  others := fun _ _ => State.rd_fireSluice
  frame := rfl

theorem softwareFired_softwareFire (n : Nat) (s : State) : SoftwareFired [n] s (softwareFire n s) := by
  obtain ⟨hr, hd, ht⟩ | ⟨hr, hd, ht⟩ | ⟨hr, hd, ht⟩ := s.meetsSoftware_cases n
  · rw [softwareFire_of_refuses hr]
    exact .of_refuses hr hd ht
  · rw [softwareFire_of_drops hd]
    exact .of_drops hr hd ht
  · rw [softwareFire_of_takes ht]
    exact .of_takes hr hd ht

section
variable (h : SoftwareFired [n] s t) (hn : n < 256)
include h hn

/-- The firing of one sluice changes for no sluice whether software may fire it. -/
theorem SoftwareFired.has_SWFIRE_eq : t.has (Fld.FABRIC_SLCFG_SWFIRE k) = s.has (Fld.FABRIC_SLCFG_SWFIRE k) :=
  State.has_eq_of_get (State.get_eq_of_rd (h.others _ (Reg.FABRIC_SLCFG_notMem hn)))

omit hn in
/-- The firing of one sluice puts none in quarantine and releases none. -/
theorem SoftwareFired.quarantined_eq (hk : k < 256) : t.quarantined k = s.quarantined k := by
  rw [State.quarantined, State.bit, h.others _ (Reg.FABRIC_QUAR_notMem hk)]
  rfl

theorem SoftwareFired.refusesSoftware_eq : t.refusesSoftware k = s.refusesSoftware k := by
  simp only [State.refusesSoftware, h.has_SWFIRE_eq hn]

theorem SoftwareFired.dropsSoftware_eq (hk : k < 256) : t.dropsSoftware k = s.dropsSoftware k := by
  simp only [State.dropsSoftware, h.has_SWFIRE_eq hn, h.quarantined_eq hk]

theorem SoftwareFired.any_dropsSoftware_eq (hl : ∀ k ∈ l, k < 256) : l.any t.dropsSoftware = l.any s.dropsSoftware := by
  rw [List.any_eq, List.any_eq, decide_eq_decide]
  exact exists_congr fun k => and_congr_right fun hk => by rw [h.dropsSoftware_eq hn (hl k hk)]

theorem SoftwareFired.takesSoftware_eq (hk : k < 256) : t.takesSoftware k = s.takesSoftware k := by
  simp only [State.takesSoftware, h.has_SWFIRE_eq hn, h.quarantined_eq hk]

/-- The firings of different sluices add up: the first does not bear on what the others meet. -/
theorem SoftwareFired.cons (hrest : SoftwareFired l t u) (hl : ∀ k ∈ l, k < 256) (hfresh : n ∉ l) :
    SoftwareFired (n :: l) s u where
  edges := by
    rw [hrest.edges, h.edges, List.filter_congr fun k hk => h.takesSoftware_eq hn (hl k hk), List.append_assoc,
      ← List.map_append, ← List.filter_append]
    rfl
  swrej := by
    rw [hrest.swrej, h.swrej, funext fun k => h.refusesSoftware_eq hn (k := k), Bool.or_assoc, ← List.any_append]
    rfl
  qfire := by
    rw [hrest.qfire, h.qfire, h.any_dropsSoftware_eq hn hl, Bool.or_assoc, ← List.any_append]
    rfl
  qdrop := by
    intro k
    rw [hrest.qdrop, State.counted, h.qdrop]
    by_cases hk : k ∈ l
    · have hne : k ≠ n := fun e => hfresh (e ▸ hk)
      simp [hk, hne, h.dropsSoftware_eq hn (hl k hk), State.counted]
    · simp [hk]
  others := by
    intro a ha
    obtain ⟨herr, hcnt, hmap⟩ : a ≠ Reg.FABRIC_ERR ∧ a ≠ Reg.FABRIC_SLCNT n ∧ a ∉ l.map Reg.FABRIC_SLCNT := by
      simpa only [List.map_cons, List.mem_cons, not_or] using ha
    rw [hrest.others a (List.not_mem_cons_of_ne_of_not_mem herr hmap), h.others a (by simp [herr, hcnt])]
  frame := by
    refine hrest.frame.trans ?_
    rw [h.frame]

end

/-- Software fires the sluices of a list one after the other. -/
theorem softwareFired_forEach (hl : ∀ k ∈ l, k < 256) (hnd : l.Nodup) (s : State) :
    SoftwareFired l s (s.forEach l softwareFire) := by
  induction l generalizing s with
  | nil => exact .nil
  | cons n l ih =>
    obtain ⟨hn, hl⟩ := List.forall_mem_cons.mp hl
    obtain ⟨hfresh, hnd⟩ := List.nodup_cons.mp hnd
    exact (softwareFired_softwareFire n s).cons hn (ih hl hnd _) hl hfresh

/-! ### The sluices that one write selects -/

theorem mem_bitsOf {w x : Nat} : k ∈ bitsOf w x ↔ k < w ∧ x.testBit k = true := by
  simp [bitsOf, Nat.testBit_eq_decide_div_mod_eq]

theorem nodup_bitsOf {w x : Nat} : (bitsOf w x).Nodup := List.nodup_range.filter _

/-- The sluices whose bits are set in a word written to FABRIC_FIRE[m]. -/
def firedSluices (m : Nat) (v : Word) : List Nat := (bitsOf 32 v.toNat).map (32 * m + ·)

theorem mem_firedSluices {m : Nat} {v : Word} (hk : k < 32) :
    32 * m + k ∈ firedSluices m v ↔ v.toNat.testBit k = true := by
  simp [firedSluices, mem_bitsOf, hk]

theorem lt_of_mem_firedSluices {m : Fin 8} {v : Word} (h : n ∈ firedSluices m v) : n < 256 := by
  obtain ⟨k, hk, rfl⟩ := List.mem_map.mp h
  have hk32 := (mem_bitsOf.mp hk).1
  omega

theorem nodup_firedSluices {m : Nat} {v : Word} : (firedSluices m v).Nodup :=
  nodup_bitsOf.map (add_right_injective _)

theorem State.forEach_map {α β : Type} {g : α → β} {f : β → State → State} {l : List α} :
    s.forEach (l.map g) f = s.forEach l (fun x => f (g x)) := List.foldl_map

theorem exec_fabricFireWrite (m : Fin 8) (v : Word) (s : State) :
    exec (.fabricFireWrite m v) s = .next (s.forEach (firedSluices m v) softwareFire) :=
  congrArg Host.Outcome.next State.forEach_map.symm

/-- Settles O16: one write fires the sluices of its set bits, each as it stands before the write. -/
theorem softwareFirings : Obligations.SoftwareFirings := by
  intro m v s
  have h := softwareFired_forEach (fun _ => lt_of_mem_firedSluices) nodup_firedSluices (l := firedSluices m v) s
  refine ⟨_, exec_fabricFireWrite m v s, ?edges, ?swrej, ?qfire, ?qdrop, ?others, h.frame⟩
  case edges =>
    rw [h.edges, firedSluices, List.filter_map, List.map_map]
    rfl
  case swrej =>
    rw [h.swrej, firedSluices, List.any_map]
    rfl
  case qfire =>
    rw [h.qfire, firedSluices, List.any_map]
    rfl
  case qdrop =>
    intro k hk
    rw [h.qdrop]
    simp only [mem_firedSluices hk, State.dropsSoftware, Bool.and_eq_true, and_assoc]
  case others =>
    intro a ha
    have hsub : (firedSluices m v).map Reg.FABRIC_SLCNT
        ⊆ (List.range 32).map (fun k => Reg.FABRIC_SLCNT (32 * m.val + k)) := by
      rw [firedSluices, List.map_map]
      exact List.map_subset _ (List.filter_subset_self _)
    exact h.others a (mt (fun hmem => List.cons_subset_cons _ hsub hmem) ha)

end Sys2Proof.Machine
end

section
/-!
SUPPORT. The timers (R578): what setting a timer leaves of the state, and what each command answers.
-/

namespace Sys2Proof.Machine

variable {s : State} {n count : Nat} {run : Bool}

@[simp] theorem State.tmrRuns_takeTask {i : Nat} : (s.takeTask i).tmrRuns n = s.tmrRuns n := (rfl)

/-! ### Setting a timer's count and whether it runs -/

theorem State.get_COUNT_setTmr (h : count < 2 ^ 32) : (s.setTmr n run count).get (Fld.TMR_COUNT_VAL n) = count :=
  (State.get_put_self (f := Fld.TMR_COUNT_VAL n) (Nat.le_refl 32)).trans (Nat.mod_eq_of_lt h)

@[simp] theorem State.setTmr_tmrRunning :
    (s.setTmr n run count).per.tmrRunning = setNth s.per.tmrRunning n run := (rfl)

@[simp] theorem State.setTmr_edges : (s.setTmr n run count).edges = s.edges := State.put_edges ..

theorem State.regsBut_setTmr : RegsBut [Reg.TMR_COUNT n] s (s.setTmr n run count) :=
  fun _ ha => State.rd_put_ne (List.ne_of_not_mem_cons ha)

/-- Setting a timer changes registers and the peripherals' own state only. -/
theorem State.setTmr_eq :
    s.setTmr n run count = { s with regs := (s.setTmr n run count).regs, per := (s.setTmr n run count).per } := rfl

/-- A change of registers and the peripherals' own state after a task is served. -/
theorem State.regsPer_of_takeTask {t : State} {i : Nat}
    (ht : t = { s.takeTask i with regs := t.regs, per := t.per }) :
    t = { s with regs := t.regs, per := t.per, tasks := t.tasks } := by
  rw [ht]
  rfl

theorem State.fire_of_takeTask {t : State} {i p : Nat}
    (ht : t = { s.takeTask i with regs := t.regs, per := t.per }) :
    t.fire p = { s with
      regs := (t.fire p).regs, per := (t.fire p).per, tasks := (t.fire p).tasks, edges := (t.fire p).edges } := by
  rw [ht]
  rfl

/-! ### The count that a capture finds -/

/-- The running count of timer n stands in TMR_COUNT; a stopped timer's stands there already. -/
def State.showTmrCount (n count : Nat) (s : State) : State := if s.tmrRuns n then s.setTmr n true count else s

theorem State.get_COUNT_showTmrCount (h : count < 2 ^ 32) :
    (s.showTmrCount n count).get (Fld.TMR_COUNT_VAL n)
      = if s.tmrRuns n then count else s.get (Fld.TMR_COUNT_VAL n) := by
  unfold State.showTmrCount
  split
  case isTrue => exact State.get_COUNT_setTmr h
  case isFalse => rfl

theorem State.regsBut_showTmrCount : RegsBut [Reg.TMR_COUNT n] s (s.showTmrCount n count) := by
  unfold State.showTmrCount
  split
  case isTrue => exact State.regsBut_setTmr
  case isFalse => exact fun _ _ => rfl

theorem State.showTmrCount_eq :
    s.showTmrCount n count
      = { s with regs := (s.showTmrCount n count).regs, per := (s.showTmrCount n count).per } := by
  unfold State.showTmrCount
  split
  case isTrue => exact State.setTmr_eq
  case isFalse => rfl

/-- TMR_CAPT takes the count as TMR_COUNT shows it. -/
def State.captureTmr (n count : Nat) (s : State) : State :=
  (s.showTmrCount n count).put (Fld.TMR_CAPT_VAL n) ((s.showTmrCount n count).get (Fld.TMR_COUNT_VAL n))

theorem State.get_CAPT_captureTmr (h : count < 2 ^ 32) :
    (s.captureTmr n count).get (Fld.TMR_CAPT_VAL n)
      = if s.tmrRuns n then count else s.get (Fld.TMR_COUNT_VAL n) := by
  rw [← State.get_COUNT_showTmrCount h]
  exact (State.get_put_self (f := Fld.TMR_CAPT_VAL n) (Nat.le_refl 32)).trans (Nat.mod_eq_of_lt State.get_lt)

theorem State.regsBut_captureTmr : RegsBut [Reg.TMR_COUNT n, Reg.TMR_CAPT n] s (s.captureTmr n count) := by
  intro a ha
  obtain ⟨hcount, hcapt⟩ : a ≠ Reg.TMR_COUNT n ∧ a ≠ Reg.TMR_CAPT n := by simpa using ha
  exact (State.rd_put_ne hcapt).trans (State.regsBut_showTmrCount a (by simpa using hcount))

theorem State.captureTmr_eq :
    s.captureTmr n count = { s with regs := (s.captureTmr n count).regs, per := (s.captureTmr n count).per } :=
  congrArg (State.put _ _) State.showTmrCount_eq

@[simp] theorem State.captureTmr_edges : (s.captureTmr n count).edges = s.edges := by rw [State.captureTmr_eq]

/-! ### What the commands answer -/

theorem exec_tmrStart (n : Fin 4) (s : State) :
    exec (.tmrStart n) s = .next ((s.takeTask (TK.TMR_START n)).setTmr n true 0) := rfl

theorem exec_tmrCapture (n : Fin 4) (count : Word) (s : State) :
    exec (.tmrCapture n count) s
      = .next (((s.takeTask (TK.TMR_CAP n)).captureTmr n count.toNat).fire (EV.TMR_CAP n)) := rfl

section
variable {n : Fin 4} (hruns : s.tmrRuns n = true)
include hruns

theorem exec_tmrCompare_of_runs :
    exec (.tmrCompare n) s
      = .next ((s.setTmr n (!s.has (Fld.TMR_CFG_ONESHOT n)) (s.get (Fld.TMR_CMP_VAL n))).fire (EV.TMR_CMP n)) :=
  if_neg (by simp [hruns])

theorem exec_tmrOverflow_of_runs : exec (.tmrOverflow n) s = .next ((s.setTmr n true 0).fire (EV.TMR_OVF n)) :=
  congrArg Host.Outcome.next (if_pos hruns)

theorem exec_tmrStop_of_runs {count : Word} :
    exec (.tmrStop n count) s = .next ((s.takeTask (TK.TMR_STOP n)).setTmr n false count.toNat) :=
  congrArg Host.Outcome.next (if_pos hruns)

end

/-! ### The rules of R578 -/

/-- A task that sets a timer fires nothing. -/
theorem answers_takeTask_setTmr {i : Nat} (h : count < 2 ^ 32) :
    Answers (.next ((s.takeTask i).setTmr n run count)) fun t =>
      t.get (Fld.TMR_COUNT_VAL n) = count ∧ t.per.tmrRunning = setNth s.per.tmrRunning n run ∧ t.edges = s.edges
      ∧ RegsBut [Reg.TMR_COUNT n] s t ∧ t = { s with regs := t.regs, per := t.per, tasks := t.tasks } := by
  refine ⟨_, rfl, State.get_COUNT_setTmr h, ?running, ?edges, ?others, State.regsPer_of_takeTask State.setTmr_eq⟩
  case running => rw [State.setTmr_tmrRunning, State.takeTask_per]
  case edges => rw [State.setTmr_edges, State.takeTask_edges]
  case others => exact State.regsBut_setTmr (s := s.takeTask i)

/-- A timer that reaches CMP or wraps stands at the count set, and its event fires. -/
theorem answers_setTmr_fire {p : Nat} (h : count < 2 ^ 32) :
    Answers (.next ((s.setTmr n run count).fire p)) fun t =>
      t.get (Fld.TMR_COUNT_VAL n) = count ∧ t.per.tmrRunning = setNth s.per.tmrRunning n run ∧ Fires [p] s t
      ∧ RegsBut [Reg.TMR_COUNT n] s t ∧ t = { s with regs := t.regs, per := t.per, edges := t.edges } := by
  refine ⟨_, rfl, State.get_COUNT_setTmr h, ?running, ?fires, State.regsBut_setTmr, ?frame⟩
  case running => rw [State.fire_per, State.setTmr_tmrRunning]
  case fires => rw [Fires, State.fire, State.setTmr_edges, List.map_singleton]
  case frame => exact congrArg (State.fire p) State.setTmr_eq

theorem answers_takeTask_captureTmr_fire {i p : Nat} (h : count < 2 ^ 32) :
    Answers (.next (((s.takeTask i).captureTmr n count).fire p)) fun t =>
      t.get (Fld.TMR_CAPT_VAL n) = (if s.tmrRuns n then count else s.get (Fld.TMR_COUNT_VAL n))
      ∧ Fires [p] s t ∧ RegsBut [Reg.TMR_COUNT n, Reg.TMR_CAPT n] s t
      ∧ t = { s with regs := t.regs, per := t.per, tasks := t.tasks, edges := t.edges } := by
  refine ⟨_, rfl, ?capt, ?fires, ?others, State.fire_of_takeTask State.captureTmr_eq⟩
  case capt => rw [State.get_fire, State.get_CAPT_captureTmr h, State.tmrRuns_takeTask, State.get_takeTask]
  case fires => rw [Fires, State.fire, State.captureTmr_edges, State.takeTask_edges, List.map_singleton]
  case others =>
    intro a ha
    rw [State.rd_fire, State.regsBut_captureTmr a ha, State.rd_takeTask]

/-- Settles O54: START and STOP serve their task and set the timer, a compare and a wrap set it and fire; a capture
copies the count that TMR_COUNT shows. -/
theorem timerRules : Obligations.TimerRules := by
  intro n count s
  refine ⟨?start, ?capture, fun hruns => ⟨?compare, ?overflow, ?stop⟩⟩
  case start => exact exec_tmrStart n s ▸ answers_takeTask_setTmr (by decide)
  case capture => exact exec_tmrCapture n count s ▸ answers_takeTask_captureTmr_fire count.isLt
  case compare =>
    have hcmp : s.get (Fld.TMR_CMP_VAL n) < 2 ^ 32 := State.get_lt
    obtain ⟨t, ht, hcount, hrunning, hrest⟩ := answers_setTmr_fire hcmp
    exact ⟨t, (exec_tmrCompare_of_runs hruns).trans ht, hrunning, hcount, hrest⟩
  case overflow => exact exec_tmrOverflow_of_runs hruns ▸ answers_setTmr_fire (by decide)
  case stop => exact exec_tmrStop_of_runs hruns ▸ answers_takeTask_setTmr count.isLt

end Sys2Proof.Machine
end

section
/-!
SUPPORT. Every command completes: no meaning ends in a fault or a refusal (R14: the device answers and goes on).
-/

namespace Sys2Proof.Machine

/-- The outcome is a next state. -/
def Completes (o : Out) : Prop := ∃ t, o = .next t

theorem next_completes {s : State} : Completes (.next s) := ⟨s, rfl⟩

theorem ite_completes {c : Prop} [Decidable c] {a b : Out} (ha : Completes a) (hb : Completes b) :
    Completes (if c then a else b) := by
  split <;> assumption

theorem answers_of_completes {o : Out} {P : State → Prop} (hc : Completes o) (hP : OutAll P o) : Answers o P := by
  obtain ⟨t, rfl⟩ := hc
  exact ⟨t, rfl, hP t rfl⟩

/-! ### The meanings that branch before they answer -/

theorem execClkcfgWrite_completes {s : State} {value} : Completes (execClkcfgWrite value s) :=
  ite_completes next_completes next_completes

theorem execSaltcmtCommit_completes {s : State} : Completes (execSaltcmtCommit s) :=
  ite_completes next_completes next_completes

theorem execPatchStart_completes {s : State} {mode} : Completes (execPatchStart mode s) :=
  ite_completes (ite_completes next_completes next_completes) (ite_completes next_completes next_completes)

theorem execPatchLoadDone_completes {s : State} : Completes (execPatchLoadDone s) := by
  delta execPatchLoadDone
  repeat' first | exact next_completes | refine ite_completes ?_ ?_ | extract_lets | split

theorem execPatchDiscard_completes {s : State} : Completes (execPatchDiscard s) :=
  ite_completes next_completes next_completes

theorem execPatchCommitTask_completes {s : State} : Completes (execPatchCommitTask s) :=
  ite_completes next_completes (ite_completes next_completes next_completes)

theorem execCfgchkGroupStep_completes {s : State} {taken recomputed} :
    Completes (execCfgchkGroupStep taken recomputed s) := by
  delta execCfgchkGroupStep
  repeat' first | exact next_completes | refine ite_completes ?_ ?_ | extract_lets | split

theorem execConfigReloadDone_completes {s : State} : Completes (execConfigReloadDone s) := by
  delta execConfigReloadDone
  repeat' first | exact next_completes | refine ite_completes ?_ ?_ | extract_lets | split

theorem execTideAdjWrite_completes {s : State} {delta} : Completes (execTideAdjWrite delta s) :=
  ite_completes next_completes next_completes

theorem execHoldmaxExpiry_completes {s : State} : Completes (execHoldmaxExpiry s) :=
  ite_completes next_completes next_completes

theorem execRxWindowClose_completes {s : State} {act} : Completes (execRxWindowClose act s) := by
  delta execRxWindowClose
  repeat' first | exact next_completes | refine ite_completes ?_ ?_ | extract_lets | split

theorem execGateFire_completes {s : State} {gate} : Completes (execGateFire gate s) :=
  ite_completes next_completes next_completes

theorem execGateRegisterWrite_completes {s : State} {gate reg value} :
    Completes (execGateRegisterWrite gate reg value s) := by
  delta execGateRegisterWrite
  repeat' first | exact next_completes | refine ite_completes ?_ ?_ | extract_lets | split

theorem execRc64Measure_completes {s : State} {counts resid} : Completes (execRc64Measure counts resid s) :=
  ite_completes next_completes (ite_completes (ite_completes next_completes next_completes) next_completes)

theorem execDisciplineTimeout_completes {s : State} : Completes (execDisciplineTimeout s) :=
  ite_completes next_completes next_completes

theorem execXtalReturn_completes {s : State} {difference} : Completes (execXtalReturn difference s) :=
  ite_completes next_completes next_completes

theorem execSluiceInputEdge_completes {s : State} {core} : Completes (execSluiceInputEdge core s) := by
  delta execSluiceInputEdge
  repeat' first | exact next_completes | refine ite_completes ?_ ?_ | extract_lets | split

theorem execFiringBoundary_completes {s : State} {sluice} : Completes (execFiringBoundary sluice s) := by
  delta execFiringBoundary
  repeat' first | exact next_completes | refine ite_completes ?_ ?_ | extract_lets | split

theorem execFiringEnd_completes {s : State} {sluice} : Completes (execFiringEnd sluice s) := by
  delta execFiringEnd
  repeat' first | exact next_completes | refine ite_completes ?_ ?_ | extract_lets | split

theorem execPortmapWrite_completes {s : State} {value} : Completes (execPortmapWrite value s) :=
  ite_completes next_completes (ite_completes next_completes next_completes)

theorem execLaneOwnerWrite_completes {s : State} {lane software} :
    Completes (execLaneOwnerWrite lane software s) :=
  ite_completes next_completes (ite_completes next_completes next_completes)

theorem execLbtListenEnd_completes {s : State} {lane mean} : Completes (execLbtListenEnd lane mean s) := by
  delta execLbtListenEnd
  repeat' first | exact next_completes | refine ite_completes ?_ ?_ | extract_lets | split

theorem execHealthStepDone_completes {s : State} {lane pass} : Completes (execHealthStepDone lane pass s) :=
  ite_completes next_completes (ite_completes (ite_completes next_completes next_completes)
    (ite_completes next_completes next_completes))

theorem execLaneRolesReturn_completes {s : State} {lane} : Completes (execLaneRolesReturn lane s) :=
  ite_completes next_completes next_completes

theorem execLaneTempSample_completes {s : State} {lane temp parityBad upset} :
    Completes (execLaneTempSample lane temp parityBad upset s) :=
  ite_completes next_completes next_completes

theorem execCalStepStart_completes {s : State} {lane} : Completes (execCalStepStart lane s) := by
  delta execCalStepStart
  repeat' first | exact next_completes | refine ite_completes ?_ ?_ | extract_lets | split

theorem execCalStepDone_completes {s : State} {lane result fault} :
    Completes (execCalStepDone lane result fault s) :=
  ite_completes next_completes (ite_completes next_completes (ite_completes next_completes
    (ite_completes next_completes (ite_completes next_completes next_completes))))

theorem execXtrimWrite_completes {s : State} {value} : Completes (execXtrimWrite value s) :=
  ite_completes next_completes next_completes

theorem execRc64Track_completes {s : State} {ppm} : Completes (execRc64Track ppm s) :=
  ite_completes next_completes next_completes

theorem execAgcBlock_completes {s : State} {lane power clips} : Completes (execAgcBlock lane power clips s) :=
  ite_completes next_completes (ite_completes next_completes next_completes)

theorem execPanSync_completes {s : State} {pan ago rssi rssi2 leSnr lts cfo aa} :
    Completes (execPanSync pan ago rssi rssi2 leSnr lts cfo aa s) :=
  ite_completes next_completes next_completes

theorem execSyncWindowClose_completes {s : State} {pan heldAlive} :
    Completes (execSyncWindowClose pan heldAlive s) :=
  ite_completes next_completes next_completes

theorem execHunterDetect_completes {s : State} {pan power} : Completes (execHunterDetect pan power s) :=
  ite_completes next_completes (ite_completes next_completes (ite_completes
    (ite_completes next_completes next_completes) next_completes))

theorem execHeaderDecision_completes {s : State} {pan header sts2Inverted snr heldAlive} :
    Completes (execHeaderDecision pan header sts2Inverted snr heldAlive s) :=
  ite_completes next_completes (ite_completes next_completes (ite_completes next_completes
    (ite_completes next_completes (ite_completes next_completes (ite_completes next_completes next_completes)))))

theorem execRxFrameEnd_completes {s : State} {pan fofs corrbits powers octets} :
    Completes (execRxFrameEnd pan fofs corrbits powers octets s) :=
  ite_completes next_completes next_completes

theorem execAcceptFrame_completes {s : State} {boundary keyCheckFails supply} :
    Completes (execAcceptFrame boundary keyCheckFails supply s) := by
  delta execAcceptFrame
  repeat' first | exact next_completes | refine ite_completes ?_ ?_ | extract_lets | split

theorem execImmediateAckLaunch_completes {s : State} {lane supply} :
    Completes (execImmediateAckLaunch lane supply s) := by
  delta execImmediateAckLaunch
  repeat' first | exact next_completes | refine ite_completes ?_ ?_ | extract_lets | split

theorem execAckReceived_completes {s : State} : Completes (execAckReceived s) := by
  delta execAckReceived
  repeat' first | exact next_completes | refine ite_completes ?_ ?_ | extract_lets | split

theorem execAckWindowClose_completes {s : State} {act} : Completes (execAckWindowClose act s) := by
  delta execAckWindowClose
  repeat' first | exact next_completes | refine ite_completes ?_ ?_ | extract_lets | split

theorem execRetryTimer_completes {s : State} {act boundary keyCheckFails} :
    Completes (execRetryTimer act boundary keyCheckFails s) := by
  delta execRetryTimer
  split
  case h_1 => exact next_completes
  case h_2 =>
    refine ite_completes next_completes ?_
    extract_lets t
    clear_value t
    cases t <;> exact next_completes

theorem execNetkeyWrite_completes {s : State} {k value} : Completes (execNetkeyWrite k value s) :=
  ite_completes next_completes next_completes

theorem execCtxOpen_completes {s : State} {ctx} : Completes (execCtxOpen ctx s) :=
  ite_completes next_completes (ite_completes next_completes next_completes)

theorem execCtxSetmap_completes {s : State} {ctx} : Completes (execCtxSetmap ctx s) :=
  ite_completes next_completes next_completes

theorem execCtxConnect_completes {s : State} {ctx} : Completes (execCtxConnect ctx s) :=
  ite_completes next_completes (ite_completes (ite_completes next_completes next_completes)
    (ite_completes next_completes next_completes))

theorem execActivityLaunch_completes {s : State} {act supply csSteps csCut} :
    Completes (execActivityLaunch act supply csSteps csCut s) := by
  delta execActivityLaunch
  repeat' first | exact next_completes | refine ite_completes ?_ ?_ | extract_lets | split

theorem execActivityEnd_completes {s : State} {act delivered} : Completes (execActivityEnd act delivered s) := by
  delta execActivityEnd
  repeat' first | exact next_completes | refine ite_completes ?_ ?_ | extract_lets | split

theorem execDackTimeout_completes {s : State} {k boundary keyCheckFails} :
    Completes (execDackTimeout k boundary keyCheckFails s) := by
  delta execDackTimeout
  repeat' first | exact next_completes | refine ite_completes ?_ ?_ | extract_lets | split

theorem execForwardLaunch_completes {s : State} {q boundary supply keyCheckFails} :
    Completes (execForwardLaunch q boundary supply keyCheckFails s) := by
  delta execForwardLaunch
  split
  case h_1 =>
    refine ite_completes next_completes ?_
    split
    case h_1 => exact next_completes
    case h_2 =>
      refine ite_completes next_completes (ite_completes next_completes (ite_completes next_completes ?_))
      extract_lets ready
      clear_value ready
      cases ready <;> exact next_completes
  case h_2 => exact next_completes

theorem execConnectReqReceived_completes {s : State} {supply} : Completes (execConnectReqReceived supply s) := by
  delta execConnectReqReceived
  repeat' first | exact next_completes | refine ite_completes ?_ ?_ | extract_lets | split

theorem execLePush_completes {s : State} {value} : Completes (execLePush value s) :=
  ite_completes next_completes (ite_completes next_completes next_completes)

theorem execRingLos_completes {s : State} : Completes (execRingLos s) := ite_completes next_completes next_completes

theorem execRingCycleStart_completes {s : State} : Completes (execRingCycleStart s) :=
  ite_completes next_completes next_completes

theorem execRingTimeMsg_completes {s : State} {octets ts} : Completes (execRingTimeMsg octets ts s) := by
  delta execRingTimeMsg
  repeat' first | exact next_completes | refine ite_completes ?_ ?_ | extract_lets | split

theorem execRingEventMsg_completes {s : State} {slot octets} : Completes (execRingEventMsg slot octets s) :=
  ite_completes next_completes (ite_completes (ite_completes next_completes next_completes)
    (ite_completes next_completes (ite_completes next_completes (ite_completes next_completes next_completes))))

theorem execRingSluiceFire_completes {s : State} : Completes (execRingSluiceFire s) := by
  delta execRingSluiceFire
  repeat' first | exact next_completes | refine ite_completes ?_ ?_ | extract_lets | split

theorem execRingDataMsg_completes {s : State} {octets} : Completes (execRingDataMsg octets s) := by
  delta execRingDataMsg
  repeat' first | exact next_completes | refine ite_completes ?_ ?_ | extract_lets | split

theorem execRingMbsend_completes {s : State} {value} : Completes (execRingMbsend value s) :=
  ite_completes next_completes next_completes

theorem execRingDataWindow_completes {s : State} : Completes (execRingDataWindow s) := by
  delta execRingDataWindow
  repeat' first | exact next_completes | refine ite_completes ?_ ?_ | extract_lets | split

theorem execSurveyStep_completes {s : State} {seg echo} : Completes (execSurveyStep seg echo s) :=
  ite_completes (ite_completes next_completes next_completes) next_completes

theorem execRingJoin_completes {s : State} : Completes (execRingJoin s) := ite_completes next_completes next_completes

theorem execRingMasterListenEnd_completes {s : State} : Completes (execRingMasterListenEnd s) :=
  ite_completes next_completes (ite_completes next_completes next_completes)

theorem execRingBrokenTimeout_completes {s : State} : Completes (execRingBrokenTimeout s) :=
  ite_completes next_completes next_completes

theorem execRingLeave_completes {s : State} : Completes (execRingLeave s) := ite_completes next_completes next_completes

theorem execAesBlockEnd_completes {s : State} {core pass keyCheckFails} :
    Completes (execAesBlockEnd core pass keyCheckFails s) := by
  delta execAesBlockEnd
  repeat' first | exact next_completes | refine ite_completes ?_ ?_ | extract_lets | split

theorem execCipherQtailWrite_completes {s : State} {q master value keyCheckFails} :
    Completes (execCipherQtailWrite q master value keyCheckFails s) :=
  ite_completes next_completes next_completes

theorem execPkeClaimWrite_completes {s : State} {master claim} : Completes (execPkeClaimWrite master claim s) :=
  ite_completes next_completes (ite_completes next_completes (ite_completes next_completes next_completes))

theorem execPkeOpDone_completes {s : State} : Completes (execPkeOpDone s) := by
  delta execPkeOpDone
  repeat' first | exact next_completes | refine ite_completes ?_ ?_ | extract_lets | split

theorem execShaDone_completes {s : State} : Completes (execShaDone s) := by
  delta execShaDone
  repeat' first | exact next_completes | refine ite_completes ?_ ?_ | extract_lets | split

theorem execTrngDataRead_completes {s : State} : Completes (execTrngDataRead s) := by
  delta execTrngDataRead
  repeat' first | exact next_completes | refine ite_completes ?_ ?_ | extract_lets | split

theorem execTrngReady_completes {s : State} : Completes (execTrngReady s) := ite_completes next_completes next_completes

theorem execKeyCmdDone_completes {s : State} : Completes (execKeyCmdDone s) := by
  delta execKeyCmdDone
  repeat' first | exact next_completes | refine ite_completes ?_ ?_ | extract_lets | split

theorem execKeySweepStep_completes {s : State} : Completes (execKeySweepStep s) := by
  delta execKeySweepStep
  repeat' first | exact next_completes | refine ite_completes ?_ ?_ | extract_lets | split

theorem execKeyRefreshStep_completes {s : State} {taken checkFails rootLost} :
    Completes (execKeyRefreshStep taken checkFails rootLost s) := by
  delta execKeyRefreshStep
  repeat' first | exact next_completes | refine ite_completes ?_ ?_ | extract_lets | split

theorem execTamperDetect_completes {s : State} {source lfCount} : Completes (execTamperDetect source lfCount s) :=
  ite_completes next_completes (ite_completes next_completes next_completes)

theorem execLcRequest_completes {s : State} {master value} : Completes (execLcRequest master value s) :=
  ite_completes next_completes (ite_completes next_completes next_completes)

theorem execLcTransitionDone_completes {s : State} : Completes (execLcTransitionDone s) := by
  delta execLcTransitionDone
  repeat' first | exact next_completes | refine ite_completes ?_ ?_ | extract_lets | split

theorem execGlRequest_completes {s : State} {master value} : Completes (execGlRequest master value s) := by
  delta execGlRequest
  repeat' first | exact next_completes | refine ite_completes ?_ ?_ | extract_lets | split

theorem execGl0EraseDone_completes {s : State} : Completes (execGl0EraseDone s) :=
  ite_completes next_completes next_completes

theorem execSramRead_completes {s : State} {master addr size vote ecc fill line} :
    Completes (execSramRead master addr size vote ecc fill line s) :=
  ite_completes next_completes (ite_completes next_completes (ite_completes next_completes
    (ite_completes next_completes next_completes)))

theorem execSramWrite_completes {s : State} {master addr size value vote ecc} :
    Completes (execSramWrite master addr size value vote ecc s) :=
  ite_completes next_completes (ite_completes next_completes (ite_completes next_completes
    (ite_completes next_completes next_completes)))

theorem execEccWriteback_completes {s : State} {group} : Completes (execEccWriteback group s) := by
  delta execEccWriteback
  repeat' first | exact next_completes | refine ite_completes ?_ ?_ | extract_lets | split

theorem execMergeDrain_completes {s : State} {group entry vote ecc} :
    Completes (execMergeDrain group entry vote ecc s) := by
  delta execMergeDrain
  repeat' first | exact next_completes | refine ite_completes ?_ ?_ | extract_lets | split

theorem execRakeRequest_completes {s : State} {group cause} : Completes (execRakeRequest group cause s) :=
  ite_completes next_completes next_completes

theorem execRakeStep_completes {s : State} {taken vote ecc} : Completes (execRakeStep taken vote ecc s) := by
  delta execRakeStep
  repeat' first | exact next_completes | refine ite_completes ?_ ?_ | extract_lets | split

theorem execSemWrite_completes {s : State} {n master take} : Completes (execSemWrite n master take s) :=
  ite_completes next_completes (ite_completes next_completes next_completes)

theorem execFlashRead_completes {s : State} {master addr size errors minrunOver fill other} :
    Completes (execFlashRead master addr size errors minrunOver fill other s) := by
  delta execFlashRead
  repeat' first | exact next_completes | refine ite_completes ?_ ?_ | extract_lets | split

theorem execFlashProgramUnit_completes {s : State} {bank value} : Completes (execFlashProgramUnit bank value s) :=
  ite_completes next_completes next_completes

theorem execFlashUnitDone_completes {s : State} {bank dirty verifyBad} :
    Completes (execFlashUnitDone bank dirty verifyBad s) := by
  delta execFlashUnitDone
  repeat' first | exact next_completes | refine ite_completes ?_ ?_ | extract_lets | split

theorem execFlashErase_completes {s : State} {bank value} : Completes (execFlashErase bank value s) :=
  ite_completes next_completes next_completes

theorem execFlashErasePulseEnd_completes {s : State} {bank verified} :
    Completes (execFlashErasePulseEnd bank verified s) := by
  delta execFlashErasePulseEnd
  repeat' first | exact next_completes | refine ite_completes ?_ ?_ | extract_lets | split

theorem execFlashSuspend_completes {s : State} {bank byTask} : Completes (execFlashSuspend bank byTask s) := by
  delta execFlashSuspend
  repeat' first | exact next_completes | refine ite_completes ?_ ?_ | extract_lets | split

theorem execFlashResume_completes {s : State} {bank byTask} : Completes (execFlashResume bank byTask s) := by
  delta execFlashResume
  repeat' first | exact next_completes | refine ite_completes ?_ ?_ | extract_lets | split

theorem execFlashAutoResume_completes {s : State} {bank} : Completes (execFlashAutoResume bank s) := by
  delta execFlashAutoResume
  repeat' first | exact next_completes | refine ite_completes ?_ ?_ | extract_lets | split

theorem execWearHeaderWrite_completes {s : State} {bank taken} : Completes (execWearHeaderWrite bank taken s) := by
  delta execWearHeaderWrite
  repeat' first | exact next_completes | refine ite_completes ?_ ?_ | extract_lets | split

theorem execPmuStateRequest_completes {s : State} {value} : Completes (execPmuStateRequest value s) :=
  ite_completes next_completes (ite_completes next_completes next_completes)

theorem execPmuEntryStart_completes {s : State} {byTask irq debugPower periphBusy} :
    Completes (execPmuEntryStart byTask irq debugPower periphBusy s) := by
  delta execPmuEntryStart
  repeat' first | exact next_completes | refine ite_completes ?_ ?_ | extract_lets | split

theorem execWakeEvent_completes {s : State} {source moment} : Completes (execWakeEvent source moment s) := by
  delta execWakeEvent
  repeat' first | exact next_completes | refine ite_completes ?_ ?_ | extract_lets | split

theorem execDomctlWrite_completes {s : State} {value} : Completes (execDomctlWrite value s) :=
  ite_completes next_completes next_completes

theorem execSupplyDipEnd_completes {s : State} {minimum duration} :
    Completes (execSupplyDipEnd minimum duration s) :=
  ite_completes next_completes next_completes

theorem execVbatSwitch_completes {s : State} {toVbat} : Completes (execVbatSwitch toVbat s) :=
  ite_completes next_completes next_completes

theorem execDrypanBeacon_completes {s : State} {lbtClear supply} :
    Completes (execDrypanBeacon lbtClear supply s) := by
  delta execDrypanBeacon
  repeat' first | exact next_completes | refine ite_completes ?_ ?_ | extract_lets | split

theorem execRecoveryCommand_completes {s : State} {payload} : Completes (execRecoveryCommand payload s) :=
  ite_completes next_completes (ite_completes next_completes next_completes)

theorem execUartRxChar_completes {s : State} {n ch parityBad frameBad} :
    Completes (execUartRxChar n ch parityBad frameBad s) :=
  ite_completes next_completes (ite_completes next_completes (ite_completes next_completes
    (ite_completes next_completes next_completes)))

theorem execUartRxPop_completes {s : State} {n} : Completes (execUartRxPop n s) := by
  delta execUartRxPop
  repeat' first | exact next_completes | refine ite_completes ?_ ?_ | extract_lets | split

theorem execSpimDone_completes {s : State} {n miso} : Completes (execSpimDone n miso s) :=
  ite_completes next_completes next_completes

theorem execI2cDone_completes {s : State} {n nack sent data} : Completes (execI2cDone n nack sent data s) :=
  ite_completes next_completes next_completes

theorem execTmrCompare_completes {s : State} {n} : Completes (execTmrCompare n s) :=
  ite_completes next_completes next_completes

theorem execAdcConversionDone_completes {s : State} {result} : Completes (execAdcConversionDone result s) := by
  delta execAdcConversionDone
  repeat' first | exact next_completes | refine ite_completes ?_ ?_ | extract_lets | split

theorem execCanTxDone_completes {s : State} {buf stamp tec} : Completes (execCanTxDone buf stamp tec s) :=
  ite_completes next_completes next_completes

theorem execCanFrameRx_completes {s : State} {word0 dlc brs esi data stamp rec} :
    Completes (execCanFrameRx word0 dlc brs esi data stamp rec s) := by
  delta execCanFrameRx
  repeat' first | exact next_completes | refine ite_completes ?_ ?_ | extract_lets | split

theorem execCanProtocolError_completes {s : State} {type tec rec} :
    Completes (execCanProtocolError type tec rec s) :=
  ite_completes next_completes next_completes

theorem execHostTransaction_completes {s : State} {mosi arrived} :
    Completes (execHostTransaction mosi arrived s) :=
  ite_completes next_completes (ite_completes next_completes (ite_completes next_completes
    (ite_completes next_completes next_completes)))

theorem execHarvestDue_completes {s : State} {requested} : Completes (execHarvestDue requested s) :=
  ite_completes next_completes next_completes

theorem execHarvestUnitDone_completes {s : State} {taken dirty verifyBad} :
    Completes (execHarvestUnitDone taken dirty verifyBad s) :=
  ite_completes next_completes (ite_completes next_completes (ite_completes next_completes
    (ite_completes next_completes next_completes)))

theorem execLockstepMismatch_completes {s : State} : Completes (execLockstepMismatch s) :=
  ite_completes next_completes next_completes

theorem execEwfifoRead_completes {s : State} : Completes (execEwfifoRead s) := by
  delta execEwfifoRead
  repeat' first | exact next_completes | refine ite_completes ?_ ?_ | extract_lets | split

theorem execPmuEntryDone_completes {s : State} : Completes (execPmuEntryDone s) := by
  delta execPmuEntryDone
  repeat' first | exact next_completes | refine ite_completes ?_ ?_ | extract_lets | split

theorem execWakeReadyStep_completes {s : State} : Completes (execWakeReadyStep s) := by
  delta execWakeReadyStep
  repeat' first | exact next_completes | refine ite_completes ?_ ?_ | extract_lets | split

theorem execWakeReadyTimeout_completes {s : State} : Completes (execWakeReadyTimeout s) := by
  delta execWakeReadyTimeout
  repeat' first | exact next_completes | refine ite_completes ?_ ?_ | extract_lets | split

theorem execExcursionStart_completes {s : State} : Completes (execExcursionStart s) :=
  ite_completes next_completes next_completes

theorem execExcursionEnd_completes {s : State} : Completes (execExcursionEnd s) :=
  ite_completes next_completes next_completes

theorem execSupplyDipStart_completes {s : State} : Completes (execSupplyDipStart s) :=
  ite_completes next_completes next_completes

theorem execLwdtExpiry_completes {s : State} : Completes (execLwdtExpiry s) :=
  ite_completes next_completes next_completes

theorem execAdcResultRead_completes {s : State} : Completes (execAdcResultRead s) := by
  delta execAdcResultRead
  repeat' first | exact next_completes | refine ite_completes ?_ ?_ | extract_lets | split

theorem execCanBusOff_completes {s : State} : Completes (execCanBusOff s) := ite_completes next_completes next_completes

theorem execHarvestStart_completes {s : State} : Completes (execHarvestStart s) := by
  unfold execHarvestStart
  refine ite_completes next_completes ?_
  cases lifeBlankSlot s
  case none => exact ⟨_, rfl⟩
  case some => exact ⟨_, rfl⟩

theorem execLifeLoadEnd_completes {s : State} : Completes (execLifeLoadEnd s) :=
  ite_completes next_completes next_completes

/-! ### Every command -/

/-- Every command ends in a next state. -/
theorem exec_completes (c : Instr) (s : State) : Completes (exec c s) := by
  cases c with
  | clkcfgWrite => exact execClkcfgWrite_completes
  | saltcmtCommit => exact execSaltcmtCommit_completes
  | patchStart => exact execPatchStart_completes
  | patchLoadDone => exact execPatchLoadDone_completes
  | patchDiscard => exact execPatchDiscard_completes
  | patchCommitTask => exact execPatchCommitTask_completes
  | cfgchkGroupStep => exact execCfgchkGroupStep_completes
  | configReloadDone => exact execConfigReloadDone_completes
  | tideAdjWrite => exact execTideAdjWrite_completes
  | holdmaxExpiry => exact execHoldmaxExpiry_completes
  | rxWindowClose => exact execRxWindowClose_completes
  | gateFire => exact execGateFire_completes
  | gateRegisterWrite => exact execGateRegisterWrite_completes
  | rc64Measure => exact execRc64Measure_completes
  | disciplineTimeout => exact execDisciplineTimeout_completes
  | xtalReturn => exact execXtalReturn_completes
  | sluiceInputEdge => exact execSluiceInputEdge_completes
  | firingBoundary => exact execFiringBoundary_completes
  | firingEnd => exact execFiringEnd_completes
  | portmapWrite => exact execPortmapWrite_completes
  | laneOwnerWrite => exact execLaneOwnerWrite_completes
  | lbtListenEnd => exact execLbtListenEnd_completes
  | healthStepDone => exact execHealthStepDone_completes
  | laneRolesReturn => exact execLaneRolesReturn_completes
  | laneTempSample => exact execLaneTempSample_completes
  | calStepStart => exact execCalStepStart_completes
  | calStepDone => exact execCalStepDone_completes
  | xtrimWrite => exact execXtrimWrite_completes
  | rc64Track => exact execRc64Track_completes
  | agcBlock => exact execAgcBlock_completes
  | panSync => exact execPanSync_completes
  | syncWindowClose => exact execSyncWindowClose_completes
  | hunterDetect => exact execHunterDetect_completes
  | headerDecision => exact execHeaderDecision_completes
  | rxFrameEnd => exact execRxFrameEnd_completes
  | acceptFrame => exact execAcceptFrame_completes
  | immediateAckLaunch => exact execImmediateAckLaunch_completes
  | ackReceived => exact execAckReceived_completes
  | ackWindowClose => exact execAckWindowClose_completes
  | retryTimer => exact execRetryTimer_completes
  | netkeyWrite => exact execNetkeyWrite_completes
  | ctxOpen => exact execCtxOpen_completes
  | ctxSetmap => exact execCtxSetmap_completes
  | ctxConnect => exact execCtxConnect_completes
  | activityLaunch => exact execActivityLaunch_completes
  | activityEnd => exact execActivityEnd_completes
  | dackTimeout => exact execDackTimeout_completes
  | forwardLaunch => exact execForwardLaunch_completes
  | connectReqReceived => exact execConnectReqReceived_completes
  | lePush => exact execLePush_completes
  | ringLos => exact execRingLos_completes
  | ringCycleStart => exact execRingCycleStart_completes
  | ringTimeMsg => exact execRingTimeMsg_completes
  | ringEventMsg => exact execRingEventMsg_completes
  | ringSluiceFire => exact execRingSluiceFire_completes
  | ringDataMsg => exact execRingDataMsg_completes
  | ringMbsend => exact execRingMbsend_completes
  | ringDataWindow => exact execRingDataWindow_completes
  | surveyStep => exact execSurveyStep_completes
  | ringJoin => exact execRingJoin_completes
  | ringMasterListenEnd => exact execRingMasterListenEnd_completes
  | ringBrokenTimeout => exact execRingBrokenTimeout_completes
  | ringLeave => exact execRingLeave_completes
  | aesBlockEnd => exact execAesBlockEnd_completes
  | cipherQtailWrite => exact execCipherQtailWrite_completes
  | pkeClaimWrite => exact execPkeClaimWrite_completes
  | pkeOpDone => exact execPkeOpDone_completes
  | shaDone => exact execShaDone_completes
  | trngDataRead => exact execTrngDataRead_completes
  | trngReady => exact execTrngReady_completes
  | keyCmdDone => exact execKeyCmdDone_completes
  | keySweepStep => exact execKeySweepStep_completes
  | keyRefreshStep => exact execKeyRefreshStep_completes
  | tamperDetect => exact execTamperDetect_completes
  | lcRequest => exact execLcRequest_completes
  | lcTransitionDone => exact execLcTransitionDone_completes
  | glRequest => exact execGlRequest_completes
  | gl0EraseDone => exact execGl0EraseDone_completes
  | sramRead => exact execSramRead_completes
  | sramWrite => exact execSramWrite_completes
  | eccWriteback => exact execEccWriteback_completes
  | mergeDrain => exact execMergeDrain_completes
  | rakeRequest => exact execRakeRequest_completes
  | rakeStep => exact execRakeStep_completes
  | semWrite => exact execSemWrite_completes
  | flashRead => exact execFlashRead_completes
  | flashProgramUnit => exact execFlashProgramUnit_completes
  | flashUnitDone => exact execFlashUnitDone_completes
  | flashErase => exact execFlashErase_completes
  | flashErasePulseEnd => exact execFlashErasePulseEnd_completes
  | flashSuspend => exact execFlashSuspend_completes
  | flashResume => exact execFlashResume_completes
  | flashAutoResume => exact execFlashAutoResume_completes
  | wearHeaderWrite => exact execWearHeaderWrite_completes
  | pmuStateRequest => exact execPmuStateRequest_completes
  | pmuEntryStart => exact execPmuEntryStart_completes
  | wakeEvent => exact execWakeEvent_completes
  | domctlWrite => exact execDomctlWrite_completes
  | supplyDipEnd => exact execSupplyDipEnd_completes
  | vbatSwitch => exact execVbatSwitch_completes
  | drypanBeacon => exact execDrypanBeacon_completes
  | recoveryCommand => exact execRecoveryCommand_completes
  | uartRxChar => exact execUartRxChar_completes
  | uartRxPop => exact execUartRxPop_completes
  | spimDone => exact execSpimDone_completes
  | i2cDone => exact execI2cDone_completes
  | tmrCompare => exact execTmrCompare_completes
  | adcConversionDone => exact execAdcConversionDone_completes
  | canTxDone => exact execCanTxDone_completes
  | canFrameRx => exact execCanFrameRx_completes
  | canProtocolError => exact execCanProtocolError_completes
  | hostTransaction => exact execHostTransaction_completes
  | harvestDue => exact execHarvestDue_completes
  | harvestUnitDone => exact execHarvestUnitDone_completes
  | lockstepMismatch => exact execLockstepMismatch_completes
  | ewfifoRead => exact execEwfifoRead_completes
  | pmuEntryDone => exact execPmuEntryDone_completes
  | wakeReadyStep => exact execWakeReadyStep_completes
  | wakeReadyTimeout => exact execWakeReadyTimeout_completes
  | excursionStart => exact execExcursionStart_completes
  | excursionEnd => exact execExcursionEnd_completes
  | supplyDipStart => exact execSupplyDipStart_completes
  | lwdtExpiry => exact execLwdtExpiry_completes
  | adcResultRead => exact execAdcResultRead_completes
  | canBusOff => exact execCanBusOff_completes
  | harvestStart => exact execHarvestStart_completes
  | lifeLoadEnd => exact execLifeLoadEnd_completes
  | _ => exact next_completes

end Sys2Proof.Machine
end

section
/-!
SUPPORT. What holds of the machine as a whole: the steps, the queue, the canonical form, and memory under the commands
that store nothing.
-/

namespace Sys2Proof.Machine

/-- What every command keeps: the laws of the single meanings (Sys2Proof/Laws/Keeps1.lean to Keeps6.lean), by command. A
command that stores needs that P is closed under stores, too. -/
theorem exec_keeps {P : State → Prop} {c : Instr} {s : State} (hR : RegClosed P) (hS : mayStore c = true → Closed P)
    (h : P s) : OutAll P (exec c s) := by
  cases c with
  | registerWrite => exact execRegisterWrite_keeps (hS rfl) h
  | rcRegisterRead => exact execRcRegisterRead_keeps hR h
  | clkcfgWrite => exact execClkcfgWrite_keeps hR h
  | pllLock => exact execPllLock_keeps hR h
  | backgroundStepRestart => exact execBackgroundStepRestart_keeps hR h
  | bootSequence => exact execBootSequence_keeps (hS rfl) h
  | saltcmtCommit => exact execSaltcmtCommit_keeps hR h
  | patchStart => exact execPatchStart_keeps hR h
  | patchLoadDone => exact execPatchLoadDone_keeps (hS rfl) h
  | patchDiscard => exact execPatchDiscard_keeps hR h
  | patchCommitTask => exact execPatchCommitTask_keeps hR h
  | cfgchkPassStart => exact execCfgchkPassStart_keeps hR h
  | cfgchkGroupStep => exact execCfgchkGroupStep_keeps hR h
  | configReloadDone => exact execConfigReloadDone_keeps hR h
  | tideNowloRead => exact execTideNowloRead_keeps hR h
  | tideCapture => exact execTideCapture_keeps hR h
  | lfincMeasure => exact execLfincMeasure_keeps hR h
  | d1PowerUp => exact execD1PowerUp_keeps hR h
  | srcselWrite => exact execSrcselWrite_keeps hR h
  | tideAdjWrite => exact execTideAdjWrite_keeps (hS rfl) h
  | slewEnd => exact execSlewEnd_keeps hR h
  | parentLossTimeout => exact execParentLossTimeout_keeps hR h
  | holdmaxExpiry => exact execHoldmaxExpiry_keeps hR h
  | rxWindowClose => exact execRxWindowClose_keeps (hS rfl) h
  | gateFire => exact execGateFire_keeps hR h
  | gateRegisterWrite => exact execGateRegisterWrite_keeps hR h
  | gateWakeRequest => exact execGateWakeRequest_keeps hR h
  | xtalFailDetect => exact execXtalFailDetect_keeps (hS rfl) h
  | rc64Measure => exact execRc64Measure_keeps hR h
  | disciplineTimeout => exact execDisciplineTimeout_keeps hR h
  | xtalReturn => exact execXtalReturn_keeps hR h
  | sluiceInputEdge => exact execSluiceInputEdge_keeps hR h
  | firingBoundary => exact execFiringBoundary_keeps hR h
  | firingEnd => exact execFiringEnd_keeps hR h
  | fabricFireWrite => exact execFabricFireWrite_keeps hR h
  | fabricQuarRelease => exact execFabricQuarRelease_keeps hR h
  | fabricReleaseall => exact execFabricReleaseall_keeps hR h
  | portmapWrite => exact execPortmapWrite_keeps hR h
  | portmapSwitch => exact execPortmapSwitch_keeps hR h
  | portSettled => exact execPortSettled_keeps hR h
  | laneOwnerWrite => exact execLaneOwnerWrite_keeps hR h
  | laneSleep => exact execLaneSleep_keeps hR h
  | laneStandby => exact execLaneStandby_keeps hR h
  | laneSynth => exact execLaneSynth_keeps hR h
  | laneRx => exact execLaneRx_keeps hR h
  | laneTx => exact execLaneTx_keeps hR h
  | laneAbort => exact execLaneAbort_keeps hR h
  | laneTransitionDone => exact execLaneTransitionDone_keeps hR h
  | synthLockTimeout => exact execSynthLockTimeout_keeps (hS rfl) h
  | stepwiseDwellExpiry => exact execStepwiseDwellExpiry_keeps hR h
  | stepwiseDutyExhaust => exact execStepwiseDutyExhaust_keeps hR h
  | paFault => exact execPaFault_keeps (hS rfl) h
  | lbtListenEnd => exact execLbtListenEnd_keeps (hS rfl) h
  | swtightWrite => exact execSwtightWrite_keeps hR h
  | rfPairWrite => exact execRfPairWrite_keeps hR h
  | healthPeriod => exact execHealthPeriod_keeps hR h
  | laneHealthreq => exact execLaneHealthreq_keeps hR h
  | healthStepDone => exact execHealthStepDone_keeps (hS rfl) h
  | laneRetire => exact execLaneRetire_keeps (hS rfl) h
  | laneTakeover => exact execLaneTakeover_keeps hR h
  | laneRestore => exact execLaneRestore_keeps hR h
  | laneRolesReturn => exact execLaneRolesReturn_keeps hR h
  | laneTempSample => exact execLaneTempSample_keeps hR h
  | calreqWrite => exact execCalreqWrite_keeps hR h
  | laneCalTask => exact execLaneCalTask_keeps hR h
  | calStepStart => exact execCalStepStart_keeps hR h
  | calStepDone => exact execCalStepDone_keeps hR h
  | calRetryTimer => exact execCalRetryTimer_keeps hR h
  | xtrimWrite => exact execXtrimWrite_keeps hR h
  | rc64Track => exact execRc64Track_keeps hR h
  | slotinvWrite => exact execSlotinvWrite_keeps hR h
  | pancfgWrite => exact execPancfgWrite_keeps hR h
  | panstop => exact execPanstop_keeps hR h
  | wbsnap => exact execWbsnap_keeps hR h
  | agcBlock => exact execAgcBlock_keeps hR h
  | panDetect => exact execPanDetect_keeps hR h
  | panSync => exact execPanSync_keeps hR h
  | syncWindowClose => exact execSyncWindowClose_keeps hR h
  | hunterDetect => exact execHunterDetect_keeps hR h
  | headerDecision => exact execHeaderDecision_keeps hR h
  | rxFrameEnd => exact execRxFrameEnd_keeps hR h
  | afcApply => exact execAfcApply_keeps hR h
  | panlastRead => exact execPanlastRead_keeps hR h
  | acceptFrame => exact execAcceptFrame_keeps (hS rfl) h
  | immediateAckLaunch => exact execImmediateAckLaunch_keeps (hS rfl) h
  | ackReceived => exact execAckReceived_keeps (hS rfl) h
  | ackWindowClose => exact execAckWindowClose_keeps (hS rfl) h
  | retryTimer => exact execRetryTimer_keeps (hS rfl) h
  | netkeyWrite => exact execNetkeyWrite_keeps (hS rfl) h
  | netctrWrite => exact execNetctrWrite_keeps hR h
  | ctxOpen => exact execCtxOpen_keeps (hS rfl) h
  | ctxClose => exact execCtxClose_keeps (hS rfl) h
  | ctxRekey => exact execCtxRekey_keeps (hS rfl) h
  | ctxSetpwr => exact execCtxSetpwr_keeps (hS rfl) h
  | ctxSetmap => exact execCtxSetmap_keeps hR h
  | ctxConnect => exact execCtxConnect_keeps (hS rfl) h
  | ctxDisconnect => exact execCtxDisconnect_keeps (hS rfl) h
  | ctxMemoryWrite => exact execCtxMemoryWrite_keeps (hS rfl) h
  | tlArm => exact execTlArm_keeps (hS rfl) h
  | tlCancel => exact execTlCancel_keeps (hS rfl) h
  | tlPresent => exact execTlPresent_keeps (hS rfl) h
  | activityLaunch => exact execActivityLaunch_keeps (hS rfl) h
  | activityEnd => exact execActivityEnd_keeps (hS rfl) h
  | rxqPop => exact execRxqPop_keeps hR h
  | dackTimeout => exact execDackTimeout_keeps (hS rfl) h
  | supervisionTimeout => exact execSupervisionTimeout_keeps (hS rfl) h
  | forwardLaunch => exact execForwardLaunch_keeps (hS rfl) h
  | tracestop => exact execTracestop_keeps hR h
  | connectReqReceived => exact execConnectReqReceived_keeps (hS rfl) h
  | lePush => exact execLePush_keeps hR h
  | leStageConnUpdate => exact execLeStageConnUpdate_keeps hR h
  | leStageChmap => exact execLeStageChmap_keeps hR h
  | leStagePhy => exact execLeStagePhy_keeps hR h
  | ringLock => exact execRingLock_keeps hR h
  | ringLos => exact execRingLos_keeps hR h
  | ringCycleStart => exact execRingCycleStart_keeps hR h
  | ringTimeMsg => exact execRingTimeMsg_keeps (hS rfl) h
  | ringEventMsg => exact execRingEventMsg_keeps hR h
  | ringSluiceFire => exact execRingSluiceFire_keeps hR h
  | ringDataMsg => exact execRingDataMsg_keeps (hS rfl) h
  | ringMbsend => exact execRingMbsend_keeps hR h
  | ringDataWindow => exact execRingDataWindow_keeps hR h
  | surveyStart => exact execSurveyStart_keeps hR h
  | surveyStep => exact execSurveyStep_keeps hR h
  | surveyProbeTimeout => exact execSurveyProbeTimeout_keeps hR h
  | surveyRetry => exact execSurveyRetry_keeps hR h
  | ringJoin => exact execRingJoin_keeps hR h
  | ringMasterListenEnd => exact execRingMasterListenEnd_keeps hR h
  | ringBrokenTimeout => exact execRingBrokenTimeout_keeps hR h
  | ringLeave => exact execRingLeave_keeps hR h
  | linkCipherRequest => exact execLinkCipherRequest_keeps hR h
  | aesBlockEnd => exact execAesBlockEnd_keeps (hS rfl) h
  | cipherQtailWrite => exact execCipherQtailWrite_keeps (hS rfl) h
  | cipherFlush => exact execCipherFlush_keeps (hS rfl) h
  | keyclrWrite => exact execKeyclrWrite_keeps hR h
  | cipherSelftestStart => exact execCipherSelftestStart_keeps hR h
  | cipherRestore => exact execCipherRestore_keeps hR h
  | pkeClaimWrite => exact execPkeClaimWrite_keeps (hS rfl) h
  | pkeKeygen _ _ f => exact execPkeKeygen_keeps (a2 := f) hR h
  | pkeEcdh => exact execPkeEcdh_keeps hR h
  | pkeSign => exact execPkeSign_keeps hR h
  | pkeVerify _ _ f => exact execPkeVerify_keeps (a2 := f) hR h
  | pkeValidate _ _ f => exact execPkeValidate_keeps (a2 := f) hR h
  | pkeOpDone => exact execPkeOpDone_keeps (hS rfl) h
  | shaInit => exact execShaInit_keeps hR h
  | shaData => exact execShaData_keeps hR h
  | shaFinal => exact execShaFinal_keeps hR h
  | shaDone => exact execShaDone_keeps hR h
  | trngDataRead => exact execTrngDataRead_keeps hR h
  | trngHealthFail => exact execTrngHealthFail_keeps hR h
  | trngRestart => exact execTrngRestart_keeps hR h
  | trngReady => exact execTrngReady_keeps hR h
  | drbgReseed => exact execDrbgReseed_keeps hR h
  | keyAdmit => exact execKeyAdmit_keeps hR h
  | keyDerive => exact execKeyDerive_keeps hR h
  | keyImport => exact execKeyImport_keeps hR h
  | keyInvalidate => exact execKeyInvalidate_keeps hR h
  | keyRestrict => exact execKeyRestrict_keeps hR h
  | keyRootgen => exact execKeyRootgen_keeps hR h
  | keyCmdDone => exact execKeyCmdDone_keeps hR h
  | keySweepStep => exact execKeySweepStep_keeps hR h
  | keyRefreshPass => exact execKeyRefreshPass_keeps hR h
  | keyRefreshStep => exact execKeyRefreshStep_keeps hR h
  | tamperDetect => exact execTamperDetect_keeps hR h
  | tamperLatchClear => exact execTamperLatchClear_keeps hR h
  | tamplockWrite => exact execTamplockWrite_keeps hR h
  | lcRequest => exact execLcRequest_keeps hR h
  | lcTransitionDone => exact execLcTransitionDone_keeps (hS rfl) h
  | glRequest => exact execGlRequest_keeps (hS rfl) h
  | gl0EraseDone => exact execGl0EraseDone_keeps (hS rfl) h
  | cpu1Start => exact execCpu1Start_keeps hR h
  | sramRead => exact execSramRead_keeps hR h
  | sramWrite => exact execSramWrite_keeps (hS rfl) h
  | eccWriteback => exact execEccWriteback_keeps hR h
  | mergeDrain => exact execMergeDrain_keeps (hS rfl) h
  | sramClear => exact execSramClear_keeps (hS rfl) h
  | sramClearDone => exact execSramClearDone_keeps hR h
  | rakeRequest => exact execRakeRequest_keeps hR h
  | rakeStep => exact execRakeStep_keeps (hS rfl) h
  | rakeStop => exact execRakeStop_keeps hR h
  | semWrite => exact execSemWrite_keeps hR h
  | flashRead => exact execFlashRead_keeps hR h
  | flashProgramUnit => exact execFlashProgramUnit_keeps hR h
  | flashUnitDone => exact execFlashUnitDone_keeps (hS rfl) h
  | flashErase => exact execFlashErase_keeps (hS rfl) h
  | flashErasePulseEnd => exact execFlashErasePulseEnd_keeps (hS rfl) h
  | flashSuspend => exact execFlashSuspend_keeps hR h
  | flashResume => exact execFlashResume_keeps (hS rfl) h
  | flashAutoResume => exact execFlashAutoResume_keeps hR h
  | flashDiscard => exact execFlashDiscard_keeps hR h
  | wearHeaderWrite => exact execWearHeaderWrite_keeps (hS rfl) h
  | pmuStateRequest => exact execPmuStateRequest_keeps hR h
  | pmuEntryStart => exact execPmuEntryStart_keeps (hS rfl) h
  | wakeEvent => exact execWakeEvent_keeps hR h
  | domctlWrite => exact execDomctlWrite_keeps (hS rfl) h
  | supplyDipEnd => exact execSupplyDipEnd_keeps (hS rfl) h
  | vbatSwitch => exact execVbatSwitch_keeps hR h
  | powerOn => exact execPowerOn_keeps hR h
  | rstreqSystem => exact execRstreqSystem_keeps hR h
  | rstreqFull => exact execRstreqFull_keeps hR h
  | systemReset => exact execSystemReset_keeps (hS rfl) h
  | fullReset => exact execFullReset_keeps (hS rfl) h
  | drypanBeacon => exact execDrypanBeacon_keeps hR h
  | recoveryCommand => exact execRecoveryCommand_keeps (hS rfl) h
  | cwdtKick => exact execCwdtKick_keeps hR h
  | lwdtKick => exact execLwdtKick_keeps hR h
  | gpioEdge => exact execGpioEdge_keeps hR h
  | gpioSet => exact execGpioSet_keeps hR h
  | gpioClr => exact execGpioClr_keeps hR h
  | gpioTgl => exact execGpioTgl_keeps hR h
  | uartTxPush => exact execUartTxPush_keeps hR h
  | uartRxChar => exact execUartRxChar_keeps hR h
  | uartRxPop => exact execUartRxPop_keeps hR h
  | uartRxTimeout => exact execUartRxTimeout_keeps hR h
  | spimStart => exact execSpimStart_keeps hR h
  | spimDone => exact execSpimDone_keeps hR h
  | i2cStart => exact execI2cStart_keeps hR h
  | i2cDone => exact execI2cDone_keeps hR h
  | tmrStart => exact execTmrStart_keeps hR h
  | tmrStop => exact execTmrStop_keeps hR h
  | tmrCapture => exact execTmrCapture_keeps hR h
  | tmrCompare => exact execTmrCompare_keeps hR h
  | tmrOverflow => exact execTmrOverflow_keeps hR h
  | adcConversionDone => exact execAdcConversionDone_keeps hR h
  | canTxreq => exact execCanTxreq_keeps hR h
  | canTxabort => exact execCanTxabort_keeps hR h
  | canTxDone => exact execCanTxDone_keeps (hS rfl) h
  | canFrameRx => exact execCanFrameRx_keeps (hS rfl) h
  | canProtocolError => exact execCanProtocolError_keeps hR h
  | hostTransaction => exact execHostTransaction_keeps (hS rfl) h
  | hostMbset => exact execHostMbset_keeps hR h
  | harvestDue => exact execHarvestDue_keeps hR h
  | harvestUnitDone => exact execHarvestUnitDone_keeps (hS rfl) h
  | lifeTempSample => exact execLifeTempSample_keeps hR h
  | lifeValRead => exact execLifeValRead_keeps hR h
  | uartTxdone => exact execUartTxdone_keeps hR h
  | lockstepMismatch => exact execLockstepMismatch_keeps hR h
  | warmRestart => exact execWarmRestart_keeps (hS rfl) h
  | ewfifoRead => exact execEwfifoRead_keeps hR h
  | erasecntLoad => exact execErasecntLoad_keeps hR h
  | pmuEntryDone => exact execPmuEntryDone_keeps (hS rfl) h
  | wakeReadyStep => exact execWakeReadyStep_keeps (hS rfl) h
  | wakeReadyTimeout => exact execWakeReadyTimeout_keeps hR h
  | xtalReady => exact execXtalReady_keeps hR h
  | xtalStartTimeout => exact execXtalStartTimeout_keeps (hS rfl) h
  | excursionStart => exact execExcursionStart_keeps (hS rfl) h
  | excursionEnd => exact execExcursionEnd_keeps hR h
  | supplyDipStart => exact execSupplyDipStart_keeps hR h
  | brownOut => exact execBrownOut_keeps (hS rfl) h
  | resetnPin => exact execResetnPin_keeps hR h
  | debugResetRequest => exact execDebugResetRequest_keeps hR h
  | rstreqWarm => exact execRstreqWarm_keeps hR h
  | bootokConfirm => exact execBootokConfirm_keeps (hS rfl) h
  | cwdtExpiry => exact execCwdtExpiry_keeps hR h
  | lwdtExpiry => exact execLwdtExpiry_keeps hR h
  | adcStart => exact execAdcStart_keeps hR h
  | adcStop => exact execAdcStop_keeps hR h
  | adcResultRead => exact execAdcResultRead_keeps hR h
  | canBusOff => exact execCanBusOff_keeps hR h
  | canBusoffRecovery => exact execCanBusoffRecovery_keeps hR h
  | hostpIrqTask => exact execHostpIrqTask_keeps hR h
  | harvestStart => exact execHarvestStart_keeps (hS rfl) h
  | lifeSecondTick => exact execLifeSecondTick_keeps hR h
  | lifeLoadEnd => exact execLifeLoadEnd_keeps hR h
  | lfClockLoss => exact execLfClockLoss_keeps hR h
  | xtalok => exact execXtalok_keeps hR h

/-! ### The properties that every command keeps -/

theorem closed_pending (q : List Instr) : Closed fun t => t.pending = q where
  wr h := h
  resetRegs h := h
  setLatch h := h
  noLatch h := h
  other h _ _ _ hp := hp.trans h
  setByte h := h
  memFilter h := h

theorem regClosed_sameBytes (s : State) : RegClosed (SameBytes s) where
  wr h := h
  resetRegs h := h
  setLatch h := h
  noLatch h := h
  other h _ hm _ _ := fun a => (State.byte_congr hm).trans (h a)

theorem closed_canonical : Closed State.Canonical where
  wr h := ⟨sparseWf_set h.1, h.2⟩
  resetRegs {p _} h := ⟨sparseWf_filter (p := fun a => !p a) h.1, h.2⟩
  setLatch h := ⟨h.1, h.2.1, sparseWf_set h.2.2⟩
  noLatch h := ⟨h.1, h.2.1, rfl⟩
  other h hr hm hl _ := by
    unfold State.Canonical
    rw [hr, hm, hl]
    exact h
  setByte h := ⟨h.1, sparseWf_set h.2.1, h.2.2⟩
  memFilter h := ⟨h.1, sparseWf_filter h.2.1, h.2.2⟩

/-! ### Steps -/

theorem step_idle {s : State} (h : s.pending = []) : step s = .next (idleStep s) := by
  rw [step, h]

theorem step_command {s : State} {c : Instr} {rest : List Instr} (h : s.pending = c :: rest) :
    step s = exec c { s with pending := rest } := by
  rw [step, h]

theorem step_completes (s : State) : Completes (step s) := by
  cases h : s.pending with
  | nil => exact step_idle h ▸ next_completes
  | cons c rest => exact step_command h ▸ exec_completes c _

/-- A step keeps whatever every command keeps and the queue does not bear on. -/
theorem step_keeps {P : State → Prop} {s : State} (hP : Closed P) (hq : ∀ {t q}, P t → P { t with pending := q })
    (h : P s) : OutAll P (step s) := by
  cases hp : s.pending with
  | nil => exact step_idle hp ▸ next_keeps (idleStep_keeps hP h)
  | cons c rest => exact step_command hp ▸ exec_keeps hP.toRegClosed (fun _ => hP) (hq h)

theorem run_zero (s : State) : Host.Core.run Sys2Proof.core 0 s = .next s := rfl

theorem run_succ_of_step {k : Nat} {s t : State} (h : step s = .next t) :
    Host.Core.run Sys2Proof.core (k + 1) s = Host.Core.run Sys2Proof.core k t := by
  have h' : Sys2Proof.core.step s = .next t := h
  simp only [Host.Core.run, h']

/-! ### The statements -/

/-- Settles O1: the queue that `step` looks at is not empty. -/
theorem stepRunsFrontCommand : Obligations.StepRunsFrontCommand := fun _ _ _ => step_command rfl

/-- Settles O3, by induction on the number of steps, each of which completes. -/
theorem everyRunIsSafe : Obligations.EveryRunIsSafe := by
  intro k
  induction k with
  | zero => exact fun s => ⟨s, run_zero s⟩
  | succ k ih =>
    intro s
    obtain ⟨t, ht⟩ := step_completes s
    obtain ⟨u, hu⟩ := ih t
    exact ⟨u, (run_succ_of_step ht).trans hu⟩

/-- Settles O4: "the queue is q" is a property that every command keeps. -/
theorem execLeavesQueue : Obligations.ExecLeavesQueue := fun c s =>
  answers_of_completes (exec_completes c s)
    (exec_keeps (closed_pending s.pending).toRegClosed (fun _ => closed_pending s.pending) rfl)

/-- Settles O5: the canonical form is closed under the few operations that write a table. -/
theorem stepKeepsCanonical : Obligations.StepKeepsCanonical := fun s h =>
  answers_of_completes (step_completes s) (step_keeps closed_canonical (fun h => h) h)

/-- Settles O7: "memory reads as in s" is closed under everything but a store. -/
theorem commandsWithoutStoreLeaveMemory : Obligations.CommandsWithoutStoreLeaveMemory := fun c s hc =>
  answers_of_completes (exec_completes c s)
    (exec_keeps (regClosed_sameBytes s) (fun h => absurd (hc.symm.trans h) (by decide)) fun _ => rfl)

/-- Settles O6: the twelve registers that a power-on reset leaves at another value than their reset value. -/
theorem resetIsCanonical : Obligations.ResetIsCanonical := ⟨⟨by decide +kernel, rfl, rfl⟩, rfl, rfl⟩

/-! ### A step with no command waiting -/

theorem idleStep_of_off {s : State} (h : s.domOn 1 = false) : idleStep s = backupTick s := by
  simp [idleStep, h]

theorem idleStep_of_on {s : State} (h : s.domOn 1 = true) : idleStep s = aonDue (tideTick s) := by
  simp [idleStep, h]

theorem backupTick_eq (s : State) :
    backupTick s = { s with backup := { s.backup with lfCount := s.backup.lfCount + (if s.tide.lfPresent = true then 1 else 0) } } := by
  unfold backupTick
  split <;> rfl

/-- No listen period is due where every presented activity listens already. -/
theorem listenWaits_eq_false {s : State} {a : Activity} (h : a.phase = .presented → a.listening = true) :
    listenWaits s a = false := by
  by_cases hp : a.phase = .presented
  · simp [listenWaits, h hp]
  · simp [listenWaits, hp]

theorem listenDue_of_none {s : State} (h : ∀ a ∈ s.acts, listenWaits s a = false) : listenDue s = s := by
  have hnil : s.acts.filter (listenWaits s) = [] := List.filter_eq_nil_iff.mpr fun a ha => by simp [h a ha]
  rw [listenDue, hnil]
  rfl

theorem aonDue_of_quiet {s : State} (h : s.lfMode = true ∨ ∀ a ∈ s.acts, a.phase = .presented → a.listening = true) :
    aonDue s = s := by
  unfold aonDue
  split
  case isTrue => rfl
  case isFalse hlf =>
    exact listenDue_of_none fun a ha => listenWaits_eq_false (h.resolve_left hlf a ha)

theorem tideIncrement_eq {s : State} {inc : Nat} (hlf : s.lfMode = true → inc = s.get Fld.TIDE_LFINC_INC * 2 ^ 16)
    (hrate : s.lfMode = false → s.tide.slewLeft = 0 → (inc : Int) = 2 ^ 32 + s.rate)
    (hslew : s.lfMode = false → s.tide.slewLeft ≠ 0 → inc = (2 ^ 32 + s.rate + s.tide.slew).toNat) :
    tideIncrement s = inc := by
  unfold tideIncrement
  split
  case isTrue h => exact (hlf h).symm
  case isFalse h =>
    have h : s.lfMode = false := by simpa using h
    split
    case isTrue h0 =>
      have := hrate h h0
      omega
    case isFalse h0 => exact (hslew h h0).symm

/-- Settles O2: with D1 off the backup counter, with D1 on the increment of the tide clock. -/
theorem idleStepTicksTideClock : Obligations.IdleStepTicksTideClock := by
  intro s hq
  rw [step_idle hq]
  constructor
  case left =>
    intro hoff
    rw [idleStep_of_off hoff, backupTick_eq]
    exact ⟨_, rfl, rfl, rfl⟩
  case right =>
    intro hon hquiet inc hlf hrate hslew
    rw [idleStep_of_on hon, aonDue_of_quiet (s := tideTick s) hquiet]
    have hinc : tideIncrement s = inc := tideIncrement_eq hlf hrate hslew
    exact ⟨_, rfl, congrArg (s.tide.acc + ·) hinc, congrArg (s.tide.elapsed + ·) hinc, rfl⟩

end Sys2Proof.Machine
end

section
/-!
SUPPORT. Rules for chains of register writes. A field is read after a write of the same field, of one that shares no bit
with it, or of another register; each form of write (put, flag, unflag, count, putS, putBit) keeps every register outside a
list that names its own. The side conditions are about the numbers of a field only, so that simp decides them once the
field's definition is unfolded.
-/

namespace Sys2Proof.Machine

variable {s t u : State} {a b v k n : Nat} {f g : Field} {l : List Nat} {i : Int} {c : Bool}

/-! ### Fields that fit a word, and fields that share no bit -/

/-- The field lies within the 32 bits of a register. -/
def Field.fits (f : Field) : Bool := decide (f.lo + f.width ≤ 32)

/-- The bits of two fields are different bits, whichever registers they stand in. -/
def Field.bitsApart (f g : Field) : Bool := decide (f.lo + f.width ≤ g.lo) || decide (g.lo + g.width ≤ f.lo)

@[simp] theorem Field.fits_mk {lo w : Nat} : (Field.mk a lo w).fits = decide (lo + w ≤ 32) := rfl

@[simp] theorem Field.bitsApart_mk {lo w lo' w' : Nat} :
    (Field.mk a lo w).bitsApart (Field.mk b lo' w') = (decide (lo + w ≤ lo') || decide (lo' + w' ≤ lo)) := rfl

theorem Field.le_of_fits (h : f.fits = true) : f.lo + f.width ≤ 32 := of_decide_eq_true h

theorem Field.apart_of_bitsApart (h : f.bitsApart g = true) : f.apart g = true := by
  have h : f.lo + f.width ≤ g.lo ∨ g.lo + g.width ≤ f.lo := by simpa [Field.bitsApart] using h
  simp [Field.apart, h]

/-! ### Reading a field after a put -/

@[simp] theorem State.get_put_fits (hf : f.fits = true) : (s.put f v).get f = v % 2 ^ f.width :=
  State.get_put_self (Field.le_of_fits hf)

@[simp] theorem State.get_put_bitsApart (hf : f.fits = true) (h : f.bitsApart g = true) : (s.put f v).get g = s.get g :=
  State.get_put_apart (Field.le_of_fits hf) (Field.apart_of_bitsApart h)

@[simp] theorem State.get_put_other (h : g.addr ≠ f.addr) : (s.put f v).get g = s.get g := State.get_put_addr h

@[simp] theorem State.has_put_fits (hf : f.fits = true) : (s.put f v).has f = decide (v % 2 ^ f.width ≠ 0) := by
  rw [State.has, State.get_put_fits hf, decide_not]
  rfl

@[simp] theorem State.has_put_bitsApart (hf : f.fits = true) (h : f.bitsApart g = true) : (s.put f v).has g = s.has g :=
  State.has_eq_of_get (State.get_put_bitsApart hf h)

@[simp] theorem State.has_put_other (h : g.addr ≠ f.addr) : (s.put f v).has g = s.has g :=
  State.has_eq_of_get (State.get_put_other h)

theorem State.getS_eq_of_get (h : t.get f = s.get f) : t.getS f = s.getS f := by simp [State.getS, h]

@[simp] theorem State.getS_put_bitsApart (hf : f.fits = true) (h : f.bitsApart g = true) :
    (s.put f v).getS g = s.getS g := State.getS_eq_of_get (State.get_put_bitsApart hf h)

@[simp] theorem State.getS_put_other (h : g.addr ≠ f.addr) : (s.put f v).getS g = s.getS g :=
  State.getS_eq_of_get (State.get_put_other h)

/-- Shortening a number to the bits of a field does not change what it reads as there. -/
theorem toS_mod (w v : Nat) : toS w (v % 2 ^ w) = toS w v := by simp [toS]

@[simp] theorem State.getS_put_fits (hf : f.fits = true) : (s.put f v).getS f = toS f.width v := by
  rw [State.getS, State.get_put_fits hf, toS_mod]

@[simp] theorem State.bit_put_other (h : b ≠ f.addr) : (s.put f v).bit b k = s.bit b k := by
  simp [State.bit, State.rd_put_ne h]

theorem State.bit_put (hf : f.fits = true) :
    (s.put f v).bit f.addr k = if f.lo ≤ k ∧ k < f.lo + f.width then v.testBit (k - f.lo) else s.bit f.addr k := by
  rw [State.bit_eq_testBit, State.bit_eq_testBit, testBit_rd_put (Field.le_of_fits hf)]

@[simp] theorem State.rd_put_other (h : b ≠ f.addr) : (s.put f v).rd b = s.rd b := State.rd_put_ne h

/-! ### Every form of write is a put -/

theorem State.count_eq_put : s.count f n = s.put f (min (s.get f + n) (2 ^ f.width - 1)) := rfl
theorem State.incWrap_eq_put : s.incWrap f = s.put f (s.get f + 1) := rfl
theorem State.putS_eq_put : s.putS f i = s.put f (ofS f.width i) := rfl
theorem State.putBit_eq_put : s.putBit a k c = s.put ⟨a, k, 1⟩ (if c then 1 else 0) := rfl

/-- A saturating counter fits its field. -/
theorem State.counted_lt : s.counted f < 2 ^ f.width :=
  lt_of_le_of_lt (Nat.min_le_right ..) (Nat.sub_lt (Nat.two_pow_pos _) Nat.one_pos)

theorem State.get_inc_fits (hf : f.fits = true) : (s.inc f).get f = s.counted f := State.get_inc (Field.le_of_fits hf)

/-! ### Registers outside a list -/

theorem RegsBut.refl : RegsBut l s s := fun _ _ => rfl

@[simp] theorem regsBut_self : RegsBut l s s := RegsBut.refl

theorem RegsBut.trans (h : RegsBut l s t) (h' : RegsBut l t u) : RegsBut l s u :=
  fun a ha => (h' a ha).trans (h a ha)

theorem RegsBut.mono {l' : List Nat} (h : RegsBut l s t) (hl : l ⊆ l') : RegsBut l' s t :=
  fun a ha => h a fun h' => ha (hl h')

theorem RegsBut.of_regs (h : t.regs = s.regs) : RegsBut l s t := fun _ _ => State.rd_congr h

/-- The register that a put writes is one of the list: what stands outside the list is as before it. -/
@[simp] theorem regsBut_put (h : f.addr ∈ l) : RegsBut l s (t.put f v) ↔ RegsBut l s t :=
  forall₂_congr fun _ ha => by rw [State.rd_put_ne (ne_of_mem_of_not_mem h ha).symm]

@[simp] theorem regsBut_wr {x : Word} (h : b ∈ l) : RegsBut l s (t.wr b x) ↔ RegsBut l s t :=
  forall₂_congr fun _ ha => by rw [State.rd_wr_ne (ne_of_mem_of_not_mem h ha).symm]

@[simp] theorem regsBut_flag (h : f.addr ∈ l) : RegsBut l s (t.flag f) ↔ RegsBut l s t := regsBut_put h
@[simp] theorem regsBut_unflag (h : f.addr ∈ l) : RegsBut l s (t.unflag f) ↔ RegsBut l s t := regsBut_put h
@[simp] theorem regsBut_count (h : f.addr ∈ l) : RegsBut l s (t.count f n) ↔ RegsBut l s t := regsBut_put h
@[simp] theorem regsBut_inc (h : f.addr ∈ l) : RegsBut l s (t.inc f) ↔ RegsBut l s t := regsBut_put h
@[simp] theorem regsBut_incWrap (h : f.addr ∈ l) : RegsBut l s (t.incWrap f) ↔ RegsBut l s t := regsBut_put h
@[simp] theorem regsBut_putS (h : f.addr ∈ l) : RegsBut l s (t.putS f i) ↔ RegsBut l s t := regsBut_put h
@[simp] theorem regsBut_putBit (h : b ∈ l) : RegsBut l s (t.putBit b k c) ↔ RegsBut l s t :=
  regsBut_put (f := ⟨b, k, 1⟩) h

@[simp] theorem regsBut_fire {p : Nat} : RegsBut l s (t.fire p) ↔ RegsBut l s t := Iff.rfl
@[simp] theorem regsBut_fireSluice : RegsBut l s (t.fireSluice n) ↔ RegsBut l s t := Iff.rfl
@[simp] theorem regsBut_takeTask : RegsBut l s (t.takeTask n) ↔ RegsBut l s t := Iff.rfl
@[simp] theorem regsBut_takeTask_left : RegsBut l (s.takeTask n) t ↔ RegsBut l s t := Iff.rfl
@[simp] theorem regsBut_freeNext : RegsBut l s t.freeNext ↔ RegsBut l s t := Iff.rfl
@[simp] theorem regsBut_setLatch {x : Word} : RegsBut l s (t.setLatch n x) ↔ RegsBut l s t := Iff.rfl
@[simp] theorem regsBut_setByte {x : Byte} : RegsBut l s (t.setByte n x) ↔ RegsBut l s t := Iff.rfl

theorem regsBut_congr (h : u.regs = t.regs) : RegsBut l s u ↔ RegsBut l s t :=
  forall₂_congr fun _ _ => by rw [State.rd_congr h]

@[simp] theorem regsBut_setBytes {x : List Byte} : RegsBut l s (t.setBytes n x) ↔ RegsBut l s t :=
  regsBut_congr State.setBytes_regs
@[simp] theorem regsBut_setNum {m x : Nat} : RegsBut l s (t.setNum n m x) ↔ RegsBut l s t :=
  regsBut_congr State.setNum_regs

/-- A change of the blocks' own fields leaves every register as it was. -/
@[simp] theorem regsBut_upd {v0 v1 v2 v3 v4 v5 v6 v7 v8 v9 v10 v11 v12 v13 v14 v15 v16 v17 v18 v19 v20 v21 v22 v23 v24 v25 v26 v27 v28 v29} :
    RegsBut l s (.mk t.regs v0 v1 v2 v3 v4 v5 v6 v7 v8 v9 v10 v11 v12 v13 v14 v15 v16 v17 v18 v19 v20 v21 v22 v23 v24 v25 v26 v27 v28 v29)
      ↔ RegsBut l s t := Iff.rfl

theorem regsBut_ite {p : Prop} [Decidable p] (ht : RegsBut l s t) (hu : RegsBut l s u) :
    RegsBut l s (if p then t else u) := by
  split <;> assumption

/-! ### Reading what stands outside a list -/

theorem RegsBut.get (h : RegsBut l s t) (hf : f.addr ∉ l) : t.get f = s.get f := State.get_eq_of_rd (h _ hf)

theorem RegsBut.has (h : RegsBut l s t) (hf : f.addr ∉ l) : t.has f = s.has f := State.has_eq_of_get (h.get hf)

theorem RegsBut.getS (h : RegsBut l s t) (hf : f.addr ∉ l) : t.getS f = s.getS f := State.getS_eq_of_get (h.get hf)

theorem RegsBut.bit (h : RegsBut l s t) (ha : a ∉ l) : t.bit a k = s.bit a k := by rw [State.bit, State.bit, h a ha]

/-! ### Memory and edges -/

theorem State.bytes_eq_of_mem (h : t.mem = s.mem) : t.bytes a n = s.bytes a n :=
  State.bytes_congr fun _ _ _ => State.byte_congr h

theorem State.num_eq_of_mem (h : t.mem = s.mem) : t.num a n = s.num a n :=
  State.num_congr fun _ _ _ => State.byte_congr h

theorem State.word_eq_of_mem (h : t.mem = s.mem) : t.word a = s.word a := by
  rw [State.word, State.word, State.num_eq_of_mem h]

theorem State.word_congr (h : ∀ c, a ≤ c → c < a + 4 → t.byte c = s.byte c) : t.word a = s.word a := by
  rw [State.word, State.word, State.num_congr h]

/-- A word reads as it was written. -/
@[simp] theorem State.word_setWord_self {x : Word} : (s.setWord a x).word a = x := by
  rw [State.word, State.setWord, State.num_setNum]
  exact BitVec.eq_of_toNat_eq (by simpa using x.isLt)

theorem State.byte_setWord_out {x : Word} (h : b < a ∨ a + 4 ≤ b) : (s.setWord a x).byte b = s.byte b :=
  State.byte_setNum_out h

theorem State.word_setWord_apart {x : Word} (h : b + 4 ≤ a ∨ a + 4 ≤ b) : (s.setWord a x).word b = s.word b :=
  State.word_congr fun _ _ _ => State.byte_setWord_out (by omega)

/-- A word written changes `mem` only. -/
theorem State.setWord_frame {x : Word} : s.setWord a x = { s with mem := (s.setWord a x).mem } := State.setNum_frame

@[simp] theorem State.setWord_regs {x : Word} : (s.setWord a x).regs = s.regs := State.setNum_regs
@[simp] theorem State.setWord_edges {x : Word} : (s.setWord a x).edges = s.edges := State.setNum_edges

@[simp] theorem regsBut_setWord {x : Word} : RegsBut l s (t.setWord n x) ↔ RegsBut l s t :=
  regsBut_congr State.setWord_regs

theorem SameBytes.refl : SameBytes s s := fun _ => rfl

theorem SameBytes.of_mem (h : t.mem = s.mem) : SameBytes s t := fun _ => State.byte_congr h

theorem SameBytes.trans (h : SameBytes s t) (h' : SameBytes t u) : SameBytes s u := fun a => (h' a).trans (h a)

/-- One producer has delivered an edge. -/
theorem Fires.fire {p : Nat} (h : t.edges = s.edges) : Fires [p] s (t.fire p) := by
  rw [Fires, State.fire, h]
  rfl

theorem Fires.none (h : t.edges = s.edges) : Fires [] s t := by rw [Fires, h, List.map_nil, List.append_nil]

theorem Fires.append {p q : List Nat} (h : Fires p s t) (h' : Fires q t u) : Fires (p ++ q) s u := by
  rw [Fires] at h h' ⊢
  rw [h', h, List.map_append, List.append_assoc]

/-- An outcome that is known answers what its state does. -/
theorem Answers.of_eq {o : Out} {P : State → Prop} (h : o = .next t) (hP : P t) : Answers o P := ⟨t, h, hP⟩

end Sys2Proof.Machine
end

section
/-!
SUPPORT. The serial peripherals (R577): what each command answers, and what it leaves in the registers.
-/

namespace Sys2Proof.Machine

variable {s : State}

/-! ### UART -/

section
variable {n : Fin 3} {ch : Byte} {l : List Byte}

theorem State.get_TXFILL_setUartTx (h : l.length ≤ 16) :
    (s.setUartTx n l).get (Fld.UART_STAT_TXFILL n) = l.length := by
  have hlt : l.length < 32 := by omega
  simp [State.setUartTx, Fld.UART_STAT_TXFILL, Nat.min_eq_left h, Nat.mod_eq_of_lt hlt]

theorem State.get_RXFILL_setUartRx (h : l.length ≤ 16) :
    (s.setUartRx n l).get (Fld.UART_STAT_RXFILL n) = l.length := by
  have hlt : l.length < 32 := by omega
  simp [State.setUartRx, Fld.UART_STAT_RXFILL, Nat.mod_eq_of_lt hlt]

theorem State.regsBut_setUartTx : RegsBut [Reg.UART_STAT n] s (s.setUartTx n l) := by
  simp [State.setUartTx, Fld.UART_STAT_TXFILL]

theorem State.regsBut_setUartRx : RegsBut [Reg.UART_STAT n] s (s.setUartRx n l) := by
  simp [State.setUartRx, Fld.UART_STAT_RXFILL]

theorem exec_uartTxPush_of_room (h : (nth [] s.per.uartTx n).length < 16) :
    exec (.uartTxPush n 0 (ch.setWidth 32)) s = .next (s.setUartTx n (nth [] s.per.uartTx n ++ [ch])) := by
  have hch : BitVec.ofNat 8 (ch.setWidth 32).toNat = ch := by bv_omega
  simp only [exec, execUartTxPush, Fin.val_zero, List.drop_zero, h, if_true, hch]

theorem exec_uartTxdone : exec (.uartTxdone n) s = .next ((s.setUartTx n []).fire (EV.UART_TXDONE n)) := rfl

/-- The flag that a received character in error sets: the framing error first, then the parity error, then the overrun. -/
def uartErrorFlag (n : Nat) (parityBad frameBad : Bool) : Field :=
  if frameBad then Fld.UART_FLAGS_FRAME n else if parityBad then Fld.UART_FLAGS_PARITY n else Fld.UART_FLAGS_OVR n

theorem uartErrorFlag_fits {parityBad frameBad : Bool} : (uartErrorFlag n parityBad frameBad).fits = true := by
  cases parityBad <;> cases frameBad <;> rfl

theorem uartErrorFlag_width {parityBad frameBad : Bool} : (uartErrorFlag n parityBad frameBad).width = 1 := by
  cases parityBad <;> cases frameBad <;> rfl

theorem uartErrorFlag_addr {parityBad frameBad : Bool} :
    (uartErrorFlag n parityBad frameBad).addr = Reg.UART_FLAGS n := by
  cases parityBad <;> cases frameBad <;> rfl

section
variable (hen : s.has (Fld.UART_CFG_EN n) = true)
include hen

theorem exec_uartRxChar_of_room (h : (nth [] s.per.uartRx n).length < 16) :
    exec (.uartRxChar n ch false false) s
      = .next ((s.setUartRx n (nth [] s.per.uartRx n ++ [ch])).fire (EV.UART_RXRDY n)) := by
  simp [exec, execUartRxChar, hen, Nat.not_le.mpr h]

theorem exec_uartRxChar_of_error {p f : Bool} (h : p = true ∨ f = true ∨ 16 ≤ (nth [] s.per.uartRx n).length) :
    exec (.uartRxChar n ch p f) s = .next ((s.flag (uartErrorFlag n p f)).fire (EV.UART_ERR n)) := by
  cases f
  case true => simp [exec, execUartRxChar, hen, uartErrorFlag]
  case false =>
    cases p
    case true => simp [exec, execUartRxChar, hen, uartErrorFlag]
    case false =>
      have hfull : 16 ≤ (nth [] s.per.uartRx n).length := by simpa using h
      simp [exec, execUartRxChar, hen, uartErrorFlag, hfull]

end

theorem exec_uartRxPop_of_cons (h : nth [] s.per.uartRx n = ch :: l) :
    exec (.uartRxPop n) s = .next { s.setUartRx n l with bus := .data (ch.setWidth 32) } := by
  have hch : BitVec.ofNat 32 ch.toNat = ch.setWidth 32 := by bv_omega
  simp only [exec, execUartRxPop, h, hch]

theorem exec_uartRxTimeout : exec (.uartRxTimeout n) s = .next (s.flag (Fld.UART_FLAGS_TIMEOUT n)) := rfl

end

/-- Settles O56: the FIFOs of a UART with their fill levels, and the error flags. -/
theorem uartCharacters : Obligations.UartCharacters := by
  intro n ch s
  refine ⟨fun hroom => ?push, ?txdone, fun hen => ⟨fun hroom => ?stored, fun p f herr => ?error⟩, fun rest hfifo hlen => ?pop,
    ?timeout⟩
  case push =>
    refine .of_eq (exec_uartTxPush_of_room hroom) ⟨rfl, ?_, State.regsBut_setUartTx, rfl⟩
    rw [State.get_TXFILL_setUartTx (by simpa using hroom), List.length_append, List.length_singleton]
  case txdone =>
    exact .of_eq exec_uartTxdone ⟨rfl, State.get_TXFILL_setUartTx (Nat.zero_le _), Fires.fire rfl, State.regsBut_setUartTx, rfl⟩
  case stored =>
    refine .of_eq (exec_uartRxChar_of_room hen hroom) ⟨rfl, ?_, Fires.fire rfl, State.regsBut_setUartRx, rfl⟩
    rw [State.get_fire, State.get_RXFILL_setUartRx (by simpa using hroom), List.length_append, List.length_singleton]
  case error =>
    refine .of_eq (exec_uartRxChar_of_error hen herr) ⟨?_, Fires.fire rfl, ?_, rfl⟩
    · exact State.has_flag (Field.le_of_fits uartErrorFlag_fits) (uartErrorFlag_width ▸ Nat.one_pos)
    · simp [uartErrorFlag_addr]
  case pop =>
    exact .of_eq (exec_uartRxPop_of_cons hfifo) ⟨rfl, rfl, State.get_RXFILL_setUartRx hlen.le, State.regsBut_setUartRx, rfl⟩
  case timeout =>
    refine .of_eq exec_uartRxTimeout ⟨?_, ?_, rfl⟩
    · simp [State.flag_eq_put, Fld.UART_FLAGS_TIMEOUT]
    · simp [Fld.UART_FLAGS_TIMEOUT]

/-! ### SPIM and I2C -/

section
variable {n : Fin 2} {miso data : List Byte} {nack : Bool} {sent : Fin 17}

theorem exec_spimStart_of_enabled (hen : s.has (Fld.SPIM_CFG_EN n) = true) :
    exec (.spimStart n) s = .next ((s.takeTask (TK.SPIM_START n)).flag (Fld.SPIM_STAT_BUSY n)) :=
  congrArg Host.Outcome.next (if_pos hen)

/-- LEN octets have gone out of the transmit FIFO of SPIM k while as many came in. -/
def State.spimMoved (k : Nat) (miso : List Byte) (s : State) : State :=
  let len := s.get (Fld.SPIM_LEN_LEN k)
  let tx := nth [] s.per.spiTx k
  s.setSpi k (tx.drop len) ((nth [] s.per.spiRx k ++ miso.take len).take 32) (tx.take len)

theorem exec_spimDone_of_busy (hbusy : s.has (Fld.SPIM_STAT_BUSY n) = true) :
    exec (.spimDone n miso) s = .next (((s.spimMoved n miso).unflag (Fld.SPIM_STAT_BUSY n)).fire (EV.SPIM_DONE n)) :=
  if_neg (by simp [hbusy])

theorem exec_i2cStart_of_enabled (hen : s.has (Fld.I2C_CFG_EN n) = true) :
    exec (.i2cStart n) s = .next (((s.takeTask (TK.I2C_START n)).flag (Fld.I2C_STAT_BUSY n)).unflag (Fld.I2C_STAT_NACK n)) :=
  congrArg Host.Outcome.next (if_pos hen)

/-- The octets that I2C k has transferred have left or entered its FIFO. -/
def State.i2cMoved (k : Nat) (nack : Bool) (sent : Nat) (data : List Byte) (s : State) : State :=
  let len := if nack then sent else s.get (Fld.I2C_LEN_LEN k)
  let tx := nth [] s.per.i2cTx k
  let rx := nth [] s.per.i2cRx k
  if s.has (Fld.I2C_CFG_READ k) then s.setI2c k tx ((rx ++ data.take len).take 16) []
  else s.setI2c k (tx.drop len) rx (tx.take len)

theorem State.i2cMoved_eq {k m : Nat} : s.i2cMoved k nack m data = { s with per := (s.i2cMoved k nack m data).per } := by
  unfold State.i2cMoved
  dsimp only
  split <;> rfl

theorem State.i2cMoved_regs {k m : Nat} : (s.i2cMoved k nack m data).regs = s.regs := by rw [State.i2cMoved_eq]

theorem State.i2cMoved_edges {k m : Nat} : (s.i2cMoved k nack m data).edges = s.edges := by rw [State.i2cMoved_eq]

theorem State.i2cRx_i2cMoved {k m : Nat} (h : s.has (Fld.I2C_CFG_READ k) = true) :
    (s.i2cMoved k nack m data).per.i2cRx = setNth s.per.i2cRx k
      ((nth [] s.per.i2cRx k ++ data.take (if nack then m else s.get (Fld.I2C_LEN_LEN k))).take 16) := by
  simp [State.i2cMoved, h, State.setI2c]

/-- The end of an I2C transfer: BUSY is 0, and NACK is set where an address or octet was not acknowledged. -/
def State.i2cEnded (k : Nat) (nack : Bool) (s : State) : State :=
  let s := s.unflag (Fld.I2C_STAT_BUSY k)
  if nack then (s.flag (Fld.I2C_STAT_NACK k)).fire (EV.I2C_NACK k) else s.fire (EV.I2C_DONE k)

theorem exec_i2cDone_of_busy (hbusy : s.has (Fld.I2C_STAT_BUSY n) = true) :
    exec (.i2cDone n nack sent data) s = .next ((s.i2cMoved n nack sent data).i2cEnded n nack) :=
  if_neg (by simp [hbusy])

theorem State.i2cEnded_eq {k : Nat} :
    s.i2cEnded k nack = { s with regs := (s.i2cEnded k nack).regs, edges := (s.i2cEnded k nack).edges } := by
  cases nack <;> rfl

theorem State.fires_i2cEnded {k : Nat} : Fires [if nack then EV.I2C_NACK k else EV.I2C_DONE k] s (s.i2cEnded k nack) := by
  cases nack <;> exact Fires.fire rfl

theorem State.regsBut_i2cEnded {k : Nat} : RegsBut [Reg.I2C_STAT k] s (s.i2cEnded k nack) := by
  cases nack <;> simp [State.i2cEnded, Fld.I2C_STAT_BUSY, Fld.I2C_STAT_NACK]

theorem State.has_BUSY_i2cEnded {k : Nat} : (s.i2cEnded k nack).has (Fld.I2C_STAT_BUSY k) = false := by
  cases nack <;>
    simp [State.i2cEnded, State.flag_eq_put, State.unflag_eq_put, Fld.I2C_STAT_BUSY, Fld.I2C_STAT_NACK]

theorem State.has_NACK_i2cEnded {k : Nat} : (s.i2cEnded k true).has (Fld.I2C_STAT_NACK k) = true := by
  simp [State.i2cEnded, State.flag_eq_put, Fld.I2C_STAT_NACK]

end

/-- Settles O57: starts, and the ends that move the octets and clear BUSY. -/
theorem serialTransfers : Obligations.SerialTransfers := by
  intro n s
  refine ⟨fun hen => ?spimStart, fun miso hbusy => ?spimDone, fun hen => ?i2cStart, fun nack sent data hbusy => ?i2cDone⟩
  case spimStart =>
    refine .of_eq (exec_spimStart_of_enabled hen) ⟨?_, ?_, rfl⟩
    · simp [State.flag_eq_put, Fld.SPIM_STAT_BUSY]
    · simp [Fld.SPIM_STAT_BUSY]
  case spimDone =>
    refine .of_eq (exec_spimDone_of_busy hbusy) ⟨?_, Fires.fire rfl, rfl, rfl, ?_, rfl⟩
    · simp [State.unflag_eq_put, Fld.SPIM_STAT_BUSY]
    · simp [Fld.SPIM_STAT_BUSY, State.spimMoved, State.setSpi]
  case i2cStart =>
    refine .of_eq (exec_i2cStart_of_enabled hen) ⟨?_, ?_, ?_, rfl⟩
    · simp [State.flag_eq_put, State.unflag_eq_put, Fld.I2C_STAT_BUSY, Fld.I2C_STAT_NACK]
    · simp [State.unflag_eq_put, Fld.I2C_STAT_NACK]
    · simp [Fld.I2C_STAT_BUSY, Fld.I2C_STAT_NACK]
  case i2cDone =>
    refine .of_eq (exec_i2cDone_of_busy hbusy) ⟨State.has_BUSY_i2cEnded, ?nack, ?fires, ?rx, ?others, ?frame⟩
    case nack =>
      rintro rfl
      exact State.has_NACK_i2cEnded
    case fires =>
      exact (Fires.none State.i2cMoved_edges).append State.fires_i2cEnded
    case rx =>
      intro hread
      rw [State.i2cEnded_eq]
      exact State.i2cRx_i2cMoved hread
    case others => exact (RegsBut.of_regs State.i2cMoved_regs).trans State.regsBut_i2cEnded
    case frame =>
      rw [State.i2cEnded_eq, State.i2cMoved_eq]

end Sys2Proof.Machine
end

section
/-!
SUPPORT. Pads (R574, R575) and the ADC (R579).
-/

namespace Sys2Proof.Machine

variable {s : State} {p : Nat} {b : Bool}

/-! ### The level at a pad -/

/-- Does a change of pad p to level b fire: the level was another, and GPIO_EDGE selects the direction (R574)? -/
def padFires (s : State) (p : Nat) (b : Bool) : Bool :=
  s.bit (Reg.GPIO_IN (p / 32)) (p % 32) != b && (s.get (Fld.GPIO_EDGE_EDGE p)).testBit (if b then 0 else 1)

theorem get_EDGE_putBit_IN : (s.putBit (Reg.GPIO_IN (p / 32)) (p % 32) b).get (Fld.GPIO_EDGE_EDGE p)
    = s.get (Fld.GPIO_EDGE_EDGE p) := by
  refine State.get_put_addr ?_
  simp only [Fld.GPIO_EDGE_EDGE, Reg.GPIO_EDGE, Reg.GPIO_IN]
  omega

/-- GPIO_EDGE selects a direction by one of its two bits. -/
theorem edge_selects_iff (sel : Nat) : sel / (if b then 1 else 2) % 2 = 1 ↔ sel.testBit (if b then 0 else 1) = true := by
  cases b <;> simp [Nat.testBit_eq_decide_div_mod_eq]

theorem padLevel_eq : padLevel p b s
    = if padFires s p b then (s.putBit (Reg.GPIO_IN (p / 32)) (p % 32) b).fire (EV.GPIO_EDGE p)
      else s.putBit (Reg.GPIO_IN (p / 32)) (p % 32) b := by
  simp only [padLevel, padFires, get_EDGE_putBit_IN, edge_selects_iff]
  by_cases hwas : s.bit (Reg.GPIO_IN (p / 32)) (p % 32) = b
  case pos => simp [hwas]
  case neg => simp [hwas]

theorem padLevel_regs : (padLevel p b s).regs = (s.putBit (Reg.GPIO_IN (p / 32)) (p % 32) b).regs := by
  rw [padLevel_eq]
  split <;> rfl

theorem fires_padLevel : Fires (if padFires s p b then [EV.GPIO_EDGE p] else []) s (padLevel p b s) := by
  rw [padLevel_eq]
  split
  case isTrue => exact Fires.fire rfl
  case isFalse => exact Fires.none rfl

theorem padLevel_frame : padLevel p b s = { s with regs := (padLevel p b s).regs, edges := (padLevel p b s).edges } := by
  rw [padLevel_eq]
  split <;> rfl

theorem rd_padLevel {a : Nat} : (padLevel p b s).rd a = (s.putBit (Reg.GPIO_IN (p / 32)) (p % 32) b).rd a :=
  State.rd_congr padLevel_regs

theorem bit_padLevel {a k : Nat} : (padLevel p b s).bit a k = (s.putBit (Reg.GPIO_IN (p / 32)) (p % 32) b).bit a k := by
  rw [State.bit, State.bit, rd_padLevel]

theorem bit_IN_padLevel : (padLevel p b s).bit (Reg.GPIO_IN (p / 32)) (p % 32) = b := by
  rw [bit_padLevel, State.bit_putBit_self (Nat.mod_lt _ (by decide))]

theorem regsBut_padLevel : RegsBut [Reg.GPIO_IN (p / 32)] s (padLevel p b s) :=
  (regsBut_congr padLevel_regs).mpr (by simp)

/-! ### The output of a pad -/

theorem padDrives_putBit_OUT : padDrives (s.putBit (Reg.GPIO_OUT (p / 32)) (p % 32) b) p = padDrives s p := by
  have hdir : Reg.GPIO_DIR (p / 32) ≠ Reg.GPIO_OUT (p / 32) := by simp [Reg.GPIO_DIR, Reg.GPIO_OUT]
  have hcfg : (Fld.GPIO_PADCFG_FUNC p).addr ≠ Reg.GPIO_OUT (p / 32) := by
    simp only [Fld.GPIO_PADCFG_FUNC, Reg.GPIO_PADCFG, Reg.GPIO_OUT]
    omega
  rw [padDrives, padDrives, State.putBit_eq_put, State.bit_put_other hdir, State.get_put_other hcfg]

theorem padOut_of_drives (h : padDrives s p = true) :
    padOut p b s = padLevel p b (s.putBit (Reg.GPIO_OUT (p / 32)) (p % 32) b) :=
  if_pos (padDrives_putBit_OUT.trans h)

theorem padOut_of_not_drives (h : padDrives s p = false) :
    padOut p b s = s.putBit (Reg.GPIO_OUT (p / 32)) (p % 32) b :=
  if_neg (by simp [padDrives_putBit_OUT, h])

theorem bit_OUT_padOut {k : Nat} : (padOut p b s).bit (Reg.GPIO_OUT (p / 32)) k
    = (s.putBit (Reg.GPIO_OUT (p / 32)) (p % 32) b).bit (Reg.GPIO_OUT (p / 32)) k := by
  have hin : Reg.GPIO_OUT (p / 32) ≠ Reg.GPIO_IN (p / 32) := by simp [Reg.GPIO_OUT, Reg.GPIO_IN]
  cases h : padDrives s p
  case true => rw [padOut_of_drives h, bit_padLevel, State.putBit_eq_put, State.bit_put_other hin]
  case false => rw [padOut_of_not_drives h]

theorem regsBut_padOut : RegsBut [Reg.GPIO_OUT (p / 32), Reg.GPIO_IN (p / 32)] s (padOut p b s) := by
  cases h : padDrives s p
  case true =>
    rw [padOut_of_drives h]
    exact RegsBut.trans (by simp) (regsBut_padLevel.mono (by simp))
  case false => simp [padOut_of_not_drives h]

theorem padOut_frame : padOut p b s = { s with regs := (padOut p b s).regs, edges := (padOut p b s).edges } := by
  cases h : padDrives s p
  case true =>
    rw [padOut_of_drives h, padLevel_frame]
    rfl
  case false =>
    rw [padOut_of_not_drives h]
    rfl

/-- What a write of the output bit of a pad by a task leaves. -/
theorem answers_padOut {i : Nat} {o : Out} (ho : o = .next (padOut p b (s.takeTask i))) :
    Answers o fun t =>
      t.bit (Reg.GPIO_OUT (p / 32)) (p % 32) = b
      ∧ (∀ k, k < 32 → k ≠ p % 32 → t.bit (Reg.GPIO_OUT (p / 32)) k = s.bit (Reg.GPIO_OUT (p / 32)) k)
      ∧ (padDrives s p = true → t.bit (Reg.GPIO_IN (p / 32)) (p % 32) = b)
      ∧ (padDrives s p = false →
          t.rd (Reg.GPIO_IN (p / 32)) = s.rd (Reg.GPIO_IN (p / 32)) ∧ t.edges = s.edges)
      ∧ RegsBut [Reg.GPIO_OUT (p / 32), Reg.GPIO_IN (p / 32)] s t
      ∧ t = { s with regs := t.regs, edges := t.edges, tasks := t.tasks } := by
  have hp : p % 32 < 32 := Nat.mod_lt _ (by decide)
  refine .of_eq ho ⟨?out, ?outs, ?drives, ?input, ?others, ?frame⟩
  case out => rw [bit_OUT_padOut, State.bit_putBit_self hp]
  case outs =>
    intro k _ hk
    rw [bit_OUT_padOut, State.bit_putBit_ne hp hk, State.bit_takeTask]
  case drives =>
    intro h
    rw [padOut_of_drives (s := s.takeTask i) h, bit_IN_padLevel]
  case input =>
    intro h
    rw [padOut_of_not_drives (s := s.takeTask i) h]
    exact ⟨State.rd_putBit_ne (by simp [Reg.GPIO_OUT, Reg.GPIO_IN]), rfl⟩
  case others => exact regsBut_padOut (s := s.takeTask i)
  case frame =>
    rw [padOut_frame]
    rfl

theorem exec_gpioEdge_of_input {pad : Fin 64} {high : Bool} (hon : s.domOn 12 = true) (h : padDrives s pad = false) :
    exec (.gpioEdge pad high) s = .next (padLevel pad high s) :=
  congrArg Host.Outcome.next (if_pos (by simp [hon, h]))

/-- Settles O53: set, clear and toggle write the output bit; a level from outside is that of `padLevel`. -/
theorem padTasksAndEdges : Obligations.PadTasksAndEdges := by
  intro pad s
  constructor
  case left =>
    rintro c b (⟨rfl, rfl⟩ | ⟨rfl, rfl⟩ | ⟨rfl, rfl⟩)
    · exact answers_padOut rfl
    · exact answers_padOut rfl
    · exact answers_padOut rfl
  case right =>
    intro high hon hdrives
    exact .of_eq (exec_gpioEdge_of_input hon hdrives) ⟨bit_IN_padLevel, fires_padLevel, regsBut_padLevel, padLevel_frame⟩

/-! ### The ADC -/

theorem exec_adcStart_of_idle (hen : s.has Fld.ADC_CFG_EN = true) (hidle : s.per.adcRunning = false)
    (hch : bitsOf 11 (s.get Fld.ADC_CFG_CHANS) ≠ []) :
    exec .adcStart s = .next { s.takeTask TK.ADC_START with
      per := { s.per with adcRunning := true, adcTodo := bitsOf 11 (s.get Fld.ADC_CFG_CHANS) } } :=
  congrArg Host.Outcome.next (if_pos (by simp [hen, hidle, hch]))

/-- The result of channel c goes into the FIFO, or is discarded with OVF where that is full. -/
def State.adcStored (c r : Nat) (s : State) : State :=
  if 8 ≤ s.per.adcFifo.length then s.flag Fld.ADC_FLAGS_OVF
  else { s with per := { s.per with adcFifo := s.per.adcFifo ++ [(c, r)] } }

/-- The events of a result other than DONE: FULL where it fills the FIFO, LIMIT where it is out of bounds. -/
def State.adcResultEvents (c : Bool) (r : Nat) (s : State) : List Nat :=
  (if c then [EV.ADC_FULL] else [])
    ++ (if r < s.get Fld.ADC_LIMIT_LOW ∨ s.get Fld.ADC_LIMIT_HIGH < r then [EV.ADC_LIMIT] else [])

/-- The edges of the producers l, in order. -/
def State.fireAll (l : List Nat) (s : State) : State := { s with edges := s.edges ++ l.map Edge.producer }

theorem fires_fireAll {l : List Nat} : Fires l s (s.fireAll l) := rfl

theorem fire_ite_eq_fireAll {c : Prop} [Decidable c] {e : Nat} :
    (if c then s.fire e else s) = s.fireAll (if c then [e] else []) := by
  split <;> simp [State.fireAll, State.fire]

theorem fireAll_fireAll {l m : List Nat} : (s.fireAll l).fireAll m = s.fireAll (l ++ m) := by
  simp [State.fireAll]

/-- After the last channel the sequence ends. -/
def adcEndEvents (todo : List Nat) : List Nat := if todo = [] then [EV.ADC_DONE] else []

theorem exec_adcConversionDone_of_cons {r : BitVec 12} {c : Nat} {todo : List Nat} (h : s.per.adcTodo = c :: todo) :
    ∃ l, EV.ADC_DONE ∉ l ∧ exec (.adcConversionDone r) s
      = .next ({ s.adcStored c r.toNat with
          per := { (s.adcStored c r.toNat).per with adcTodo := todo, adcRunning := !todo.isEmpty } }.fireAll
            (l ++ adcEndEvents todo)) := by
  have hstored : (if decide (8 ≤ s.per.adcFifo.length) = true then s.flag Fld.ADC_FLAGS_OVF
      else { s with per := { s.per with adcFifo := s.per.adcFifo ++ [(c, r.toNat)] } }) = s.adcStored c r.toNat := by
    simp [State.adcStored]
  refine ⟨(s.adcStored c r.toNat).adcResultEvents
    (!decide (8 ≤ s.per.adcFifo.length) && (s.adcStored c r.toNat).per.adcFifo.length == 8) r.toNat, ?_, ?_⟩
  · unfold State.adcResultEvents
    split <;> split <;> decide
  · unfold exec execAdcConversionDone
    dsimp only
    split
    case h_1 hnil => simp [hnil] at h
    case h_2 c' todo' hcons =>
      obtain ⟨rfl, rfl⟩ : c' = c ∧ todo' = todo := by simpa [hcons] using h
      simp only [hstored, fire_ite_eq_fireAll, fireAll_fireAll]
      simp [State.fireAll, State.adcResultEvents, adcEndEvents]

theorem State.adcStored_eq {c r : Nat} :
    s.adcStored c r = { s with regs := (s.adcStored c r).regs, per := (s.adcStored c r).per } := by
  unfold State.adcStored
  split <;> rfl

theorem State.adcFifo_adcStored {c r : Nat} : (s.adcStored c r).per.adcFifo
    = if 8 ≤ s.per.adcFifo.length then s.per.adcFifo else s.per.adcFifo ++ [(c, r)] := by
  unfold State.adcStored
  split <;> rfl

theorem State.has_OVF_adcStored {c r : Nat} (h : 8 ≤ s.per.adcFifo.length) :
    (s.adcStored c r).has Fld.ADC_FLAGS_OVF = true := by
  rw [State.adcStored, if_pos h]
  exact State.has_flag (by decide) (by decide)

theorem State.regsBut_adcStored {c r : Nat} : RegsBut [Reg.ADC_FLAGS] s (s.adcStored c r) := by
  unfold State.adcStored
  split <;> simp [Fld.ADC_FLAGS_OVF]

theorem filterMap_source_map_producer (l : List Nat) : (l.map Edge.producer).filterMap Edge.source = l := by
  induction l with
  | nil => rfl
  | cons p l ih => simpa [Edge.source] using ih

theorem mem_adcEndEvents_iff {todo : List Nat} : EV.ADC_DONE ∈ adcEndEvents todo ↔ todo = [] := by
  unfold adcEndEvents
  split <;> simp [*]

theorem exec_adcStop_of_runs (h : s.per.adcRunning = true) :
    exec .adcStop s = .next ({ s.takeTask TK.ADC_STOP with
      per := { s.per with adcRunning := false, adcTodo := [] } }.fire EV.ADC_DONE) :=
  congrArg Host.Outcome.next (if_pos h)

theorem exec_adcResultRead_of_cons {c r : Nat} {rest : List (Nat × Nat)} (h : s.per.adcFifo = (c, r) :: rest) :
    exec .adcResultRead s = .next { s with
      per := { s.per with adcFifo := rest }, bus := .data (BitVec.ofNat 32 (2 ^ 31 + c * 2 ^ 16 + r)) } := by
  simp only [exec, execAdcResultRead, h]

/-- Settles O55: DONE is the one event of a conversion that ends the sequence. -/
theorem adcSequence : Obligations.AdcSequence := by
  intro s
  refine ⟨fun hen hidle hch => ?start, fun r c todo htodo => ?result, fun hruns => ?stop, fun c r rest hfifo => ?read⟩
  case start => exact .of_eq (exec_adcStart_of_idle hen hidle hch) ⟨rfl, rfl⟩
  case result =>
    obtain ⟨l, hl, hexec⟩ := exec_adcConversionDone_of_cons (r := r) htodo
    refine .of_eq hexec ⟨rfl, rfl, State.adcFifo_adcStored, State.has_OVF_adcStored, ?done, ?others, ?frame⟩
    case done =>
      have hedges : (s.adcStored c r.toNat).edges = s.edges := by rw [State.adcStored_eq]
      rw [State.fireAll, hedges, List.drop_left, filterMap_source_map_producer, List.mem_append,
        or_iff_right hl, mem_adcEndEvents_iff]
    case others => exact State.regsBut_adcStored
    case frame =>
      rw [State.adcStored_eq]
      rfl
  case stop => exact .of_eq (exec_adcStop_of_runs hruns) ⟨rfl, Fires.fire rfl, rfl⟩
  case read => exact .of_eq (exec_adcResultRead_of_cons hfifo) ⟨rfl, rfl, rfl⟩

end Sys2Proof.Machine
end

section
/-!
SUPPORT. Frames. OnlyIn l s t says that t differs from s in the fields of l only; for a given list it is, by definition
unfolding, the record update that an obligation's frame clause writes out (OnlyIn.frame), and it composes along a chain of
operations, conditional ones among them, which a record update does not.
-/

namespace Sys2Proof.Machine

/-- A field of the state. -/
inductive Part | regs | mem | edges | tasks | bus | latch | freeCounter | tide | snapshot | salt | sluices | yielded | rf | lanes
  | modem | link | ring | sram | cores | flash | power | kept | boot | per | life | keys | cipher | pke | trng | backup | pending
  deriving DecidableEq

/-- That field is the same in both states. -/
def Part.same : Part → State → State → Prop
  | .regs, s, t => t.regs = s.regs
  | .mem, s, t => t.mem = s.mem
  | .edges, s, t => t.edges = s.edges
  | .tasks, s, t => t.tasks = s.tasks
  | .bus, s, t => t.bus = s.bus
  | .latch, s, t => t.latch = s.latch
  | .freeCounter, s, t => t.freeCounter = s.freeCounter
  | .tide, s, t => t.tide = s.tide
  | .snapshot, s, t => t.snapshot = s.snapshot
  | .salt, s, t => t.salt = s.salt
  | .sluices, s, t => t.sluices = s.sluices
  | .yielded, s, t => t.yielded = s.yielded
  | .rf, s, t => t.rf = s.rf
  | .lanes, s, t => t.lanes = s.lanes
  | .modem, s, t => t.modem = s.modem
  | .link, s, t => t.link = s.link
  | .ring, s, t => t.ring = s.ring
  | .sram, s, t => t.sram = s.sram
  | .cores, s, t => t.cores = s.cores
  | .flash, s, t => t.flash = s.flash
  | .power, s, t => t.power = s.power
  | .kept, s, t => t.kept = s.kept
  | .boot, s, t => t.boot = s.boot
  | .per, s, t => t.per = s.per
  | .life, s, t => t.life = s.life
  | .keys, s, t => t.keys = s.keys
  | .cipher, s, t => t.cipher = s.cipher
  | .pke, s, t => t.pke = s.pke
  | .trng, s, t => t.trng = s.trng
  | .backup, s, t => t.backup = s.backup
  | .pending, s, t => t.pending = s.pending

/-- t differs from s in the listed fields only. -/
def OnlyIn (l : List Part) (s t : State) : Prop := ∀ p, p ∉ l → p.same s t

/-- s with the listed fields as t has them: the record update that a frame clause writes out. -/
def State.merge (l : List Part) (s t : State) : State where
  regs := if .regs ∈ l then t.regs else s.regs
  mem := if .mem ∈ l then t.mem else s.mem
  edges := if .edges ∈ l then t.edges else s.edges
  tasks := if .tasks ∈ l then t.tasks else s.tasks
  bus := if .bus ∈ l then t.bus else s.bus
  latch := if .latch ∈ l then t.latch else s.latch
  freeCounter := if .freeCounter ∈ l then t.freeCounter else s.freeCounter
  tide := if .tide ∈ l then t.tide else s.tide
  snapshot := if .snapshot ∈ l then t.snapshot else s.snapshot
  salt := if .salt ∈ l then t.salt else s.salt
  sluices := if .sluices ∈ l then t.sluices else s.sluices
  yielded := if .yielded ∈ l then t.yielded else s.yielded
  rf := if .rf ∈ l then t.rf else s.rf
  lanes := if .lanes ∈ l then t.lanes else s.lanes
  modem := if .modem ∈ l then t.modem else s.modem
  link := if .link ∈ l then t.link else s.link
  ring := if .ring ∈ l then t.ring else s.ring
  sram := if .sram ∈ l then t.sram else s.sram
  cores := if .cores ∈ l then t.cores else s.cores
  flash := if .flash ∈ l then t.flash else s.flash
  power := if .power ∈ l then t.power else s.power
  kept := if .kept ∈ l then t.kept else s.kept
  boot := if .boot ∈ l then t.boot else s.boot
  per := if .per ∈ l then t.per else s.per
  life := if .life ∈ l then t.life else s.life
  keys := if .keys ∈ l then t.keys else s.keys
  cipher := if .cipher ∈ l then t.cipher else s.cipher
  pke := if .pke ∈ l then t.pke else s.pke
  trng := if .trng ∈ l then t.trng else s.trng
  backup := if .backup ∈ l then t.backup else s.backup
  pending := if .pending ∈ l then t.pending else s.pending

variable {s t u : State} {l l' : List Part}

theorem ite_eq_of_same {α : Type} {p : Prop} [Decidable p] {x y : α} (h : ¬p → x = y) : x = if p then x else y := by
  split
  · rfl
  · next hp => exact h hp

theorem OnlyIn.frame (h : OnlyIn l s t) : t = s.merge l t :=
  State.ext (ite_eq_of_same (h .regs)) (ite_eq_of_same (h .mem)) (ite_eq_of_same (h .edges)) (ite_eq_of_same (h .tasks))
    (ite_eq_of_same (h .bus)) (ite_eq_of_same (h .latch)) (ite_eq_of_same (h .freeCounter)) (ite_eq_of_same (h .tide))
    (ite_eq_of_same (h .snapshot)) (ite_eq_of_same (h .salt)) (ite_eq_of_same (h .sluices)) (ite_eq_of_same (h .yielded))
    (ite_eq_of_same (h .rf)) (ite_eq_of_same (h .lanes)) (ite_eq_of_same (h .modem)) (ite_eq_of_same (h .link))
    (ite_eq_of_same (h .ring)) (ite_eq_of_same (h .sram)) (ite_eq_of_same (h .cores)) (ite_eq_of_same (h .flash))
    (ite_eq_of_same (h .power)) (ite_eq_of_same (h .kept)) (ite_eq_of_same (h .boot)) (ite_eq_of_same (h .per))
    (ite_eq_of_same (h .life)) (ite_eq_of_same (h .keys)) (ite_eq_of_same (h .cipher)) (ite_eq_of_same (h .pke))
    (ite_eq_of_same (h .trng)) (ite_eq_of_same (h .backup)) (ite_eq_of_same (h .pending))

theorem Part.same_trans {p : Part} (h : p.same s t) (h' : p.same t u) : p.same s u := by
  cases p <;> exact Eq.trans h' h

theorem Part.same_symm {p : Part} (h : p.same s t) : p.same t s := by
  cases p <;> exact Eq.symm h

theorem Part.same_merge {p : Part} (hp : p ∉ l) : p.same s (s.merge l t) := by
  cases p <;> exact if_neg hp

theorem OnlyIn.of_frame (h : t = s.merge l t) : OnlyIn l s t := fun p hp => by
  rw [h]
  exact Part.same_merge hp

theorem OnlyIn.refl : OnlyIn l s s := fun p _ => by cases p <;> rfl

theorem OnlyIn.trans (h : OnlyIn l s t) (h' : OnlyIn l t u) : OnlyIn l s u :=
  fun p hp => Part.same_trans (h p hp) (h' p hp)

theorem OnlyIn.mono (h : OnlyIn l s t) (hl : l ⊆ l') : OnlyIn l' s t := fun p hp => h p fun h' => hp (hl h')

/-- One more operation whose frame holds by unfolding. -/
theorem OnlyIn.step (h : OnlyIn l s t) (h' : u = t.merge l u) : OnlyIn l s u := h.trans (.of_frame h')

theorem OnlyIn.ite {p : Prop} [Decidable p] (ht : OnlyIn l s t) (hu : OnlyIn l s u) : OnlyIn l s (if p then t else u) := by
  split <;> assumption

theorem OnlyIn.foldl {α : Type} {xs : List α} {f : State → α → State} (hf : ∀ s x, OnlyIn l s (f s x)) (h : OnlyIn l s t) :
    OnlyIn l s (xs.foldl f t) := by
  induction xs generalizing t with
  | nil => exact h
  | cons x xs ih => exact ih (h.trans (hf t x))

theorem OnlyIn.forEach {α : Type} {xs : List α} {f : α → State → State} (hf : ∀ x s, OnlyIn l s (f x s)) (h : OnlyIn l s t) :
    OnlyIn l s (t.forEach xs f) := h.foldl fun s x => hf x s

theorem onlyIn_congr (h : OnlyIn l t u) : OnlyIn l s u ↔ OnlyIn l s t :=
  forall₂_congr fun p hp => ⟨fun hu => Part.same_trans hu (Part.same_symm (h p hp)), fun ht => Part.same_trans ht (h p hp)⟩

/-- A change of one field that the list names. -/
theorem onlyIn_one {p : Part} (h : OnlyIn [p] t u) (hp : p ∈ l) : OnlyIn l s u ↔ OnlyIn l s t :=
  onlyIn_congr (h.mono (List.cons_subset.mpr ⟨hp, List.nil_subset _⟩))

@[simp] theorem onlyIn_self : OnlyIn l s s := OnlyIn.refl

section
variable {f : Field} {v k n a : Nat} {i : Int} {c : Bool} {w : Word}

@[simp] theorem onlyIn_wr (h : .regs ∈ l) : OnlyIn l s (t.wr a w) ↔ OnlyIn l s t := onlyIn_one (.of_frame rfl) h
@[simp] theorem onlyIn_put (h : .regs ∈ l) : OnlyIn l s (t.put f v) ↔ OnlyIn l s t := onlyIn_wr h
@[simp] theorem onlyIn_flag (h : .regs ∈ l) : OnlyIn l s (t.flag f) ↔ OnlyIn l s t := onlyIn_wr h
@[simp] theorem onlyIn_unflag (h : .regs ∈ l) : OnlyIn l s (t.unflag f) ↔ OnlyIn l s t := onlyIn_wr h
@[simp] theorem onlyIn_count (h : .regs ∈ l) : OnlyIn l s (t.count f n) ↔ OnlyIn l s t := onlyIn_wr h
@[simp] theorem onlyIn_inc (h : .regs ∈ l) : OnlyIn l s (t.inc f) ↔ OnlyIn l s t := onlyIn_wr h
@[simp] theorem onlyIn_incWrap (h : .regs ∈ l) : OnlyIn l s (t.incWrap f) ↔ OnlyIn l s t := onlyIn_wr h
@[simp] theorem onlyIn_putS (h : .regs ∈ l) : OnlyIn l s (t.putS f i) ↔ OnlyIn l s t := onlyIn_wr h
@[simp] theorem onlyIn_putBit (h : .regs ∈ l) : OnlyIn l s (t.putBit a k c) ↔ OnlyIn l s t := onlyIn_wr h

@[simp] theorem onlyIn_fire (h : .edges ∈ l) : OnlyIn l s (t.fire n) ↔ OnlyIn l s t := onlyIn_one (.of_frame rfl) h
@[simp] theorem onlyIn_fireSluice (h : .edges ∈ l) : OnlyIn l s (t.fireSluice n) ↔ OnlyIn l s t :=
  onlyIn_one (.of_frame rfl) h
@[simp] theorem onlyIn_takeTask (h : .tasks ∈ l) : OnlyIn l s (t.takeTask n) ↔ OnlyIn l s t := onlyIn_one (.of_frame rfl) h
@[simp] theorem onlyIn_freeNext (h : .freeCounter ∈ l) : OnlyIn l s t.freeNext ↔ OnlyIn l s t := onlyIn_one (.of_frame rfl) h
@[simp] theorem onlyIn_setLatch (h : .latch ∈ l) : OnlyIn l s (t.setLatch n w) ↔ OnlyIn l s t := onlyIn_one (.of_frame rfl) h

@[simp] theorem onlyIn_setByte {b : Byte} (h : .mem ∈ l) : OnlyIn l s (t.setByte n b) ↔ OnlyIn l s t :=
  onlyIn_one (.of_frame rfl) h
@[simp] theorem onlyIn_setBytes {x : List Byte} (h : .mem ∈ l) : OnlyIn l s (t.setBytes n x) ↔ OnlyIn l s t :=
  onlyIn_one (.of_frame State.setBytes_frame) h
@[simp] theorem onlyIn_setNum (h : .mem ∈ l) : OnlyIn l s (t.setNum n k v) ↔ OnlyIn l s t := onlyIn_setBytes h
@[simp] theorem onlyIn_setWord (h : .mem ∈ l) : OnlyIn l s (t.setWord n w) ↔ OnlyIn l s t := onlyIn_setBytes h

end

/-! A record update of one field. -/

theorem onlyIn_bus {x} (h : .bus ∈ l) : OnlyIn l s { t with bus := x } ↔ OnlyIn l s t := onlyIn_one (.of_frame rfl) h
theorem onlyIn_tide {x} (h : .tide ∈ l) : OnlyIn l s { t with tide := x } ↔ OnlyIn l s t := onlyIn_one (.of_frame rfl) h
theorem onlyIn_snapshot {x} (h : .snapshot ∈ l) : OnlyIn l s { t with snapshot := x } ↔ OnlyIn l s t := onlyIn_one (.of_frame rfl) h
theorem onlyIn_salt {x} (h : .salt ∈ l) : OnlyIn l s { t with salt := x } ↔ OnlyIn l s t := onlyIn_one (.of_frame rfl) h
theorem onlyIn_sluices {x} (h : .sluices ∈ l) : OnlyIn l s { t with sluices := x } ↔ OnlyIn l s t := onlyIn_one (.of_frame rfl) h
theorem onlyIn_yielded {x} (h : .yielded ∈ l) : OnlyIn l s { t with yielded := x } ↔ OnlyIn l s t := onlyIn_one (.of_frame rfl) h
theorem onlyIn_rf {x} (h : .rf ∈ l) : OnlyIn l s { t with rf := x } ↔ OnlyIn l s t := onlyIn_one (.of_frame rfl) h
theorem onlyIn_lanes {x} (h : .lanes ∈ l) : OnlyIn l s { t with lanes := x } ↔ OnlyIn l s t := onlyIn_one (.of_frame rfl) h
theorem onlyIn_modem {x} (h : .modem ∈ l) : OnlyIn l s { t with modem := x } ↔ OnlyIn l s t := onlyIn_one (.of_frame rfl) h
theorem onlyIn_link {x} (h : .link ∈ l) : OnlyIn l s { t with link := x } ↔ OnlyIn l s t := onlyIn_one (.of_frame rfl) h
theorem onlyIn_ring {x} (h : .ring ∈ l) : OnlyIn l s { t with ring := x } ↔ OnlyIn l s t := onlyIn_one (.of_frame rfl) h
theorem onlyIn_sram {x} (h : .sram ∈ l) : OnlyIn l s { t with sram := x } ↔ OnlyIn l s t := onlyIn_one (.of_frame rfl) h
theorem onlyIn_cores {x} (h : .cores ∈ l) : OnlyIn l s { t with cores := x } ↔ OnlyIn l s t := onlyIn_one (.of_frame rfl) h
theorem onlyIn_flash {x} (h : .flash ∈ l) : OnlyIn l s { t with flash := x } ↔ OnlyIn l s t := onlyIn_one (.of_frame rfl) h
theorem onlyIn_power {x} (h : .power ∈ l) : OnlyIn l s { t with power := x } ↔ OnlyIn l s t := onlyIn_one (.of_frame rfl) h
theorem onlyIn_kept {x} (h : .kept ∈ l) : OnlyIn l s { t with kept := x } ↔ OnlyIn l s t := onlyIn_one (.of_frame rfl) h
theorem onlyIn_boot {x} (h : .boot ∈ l) : OnlyIn l s { t with boot := x } ↔ OnlyIn l s t := onlyIn_one (.of_frame rfl) h
theorem onlyIn_per {x} (h : .per ∈ l) : OnlyIn l s { t with per := x } ↔ OnlyIn l s t := onlyIn_one (.of_frame rfl) h
theorem onlyIn_life {x} (h : .life ∈ l) : OnlyIn l s { t with life := x } ↔ OnlyIn l s t := onlyIn_one (.of_frame rfl) h
theorem onlyIn_keys {x} (h : .keys ∈ l) : OnlyIn l s { t with keys := x } ↔ OnlyIn l s t := onlyIn_one (.of_frame rfl) h
theorem onlyIn_cipher {x} (h : .cipher ∈ l) : OnlyIn l s { t with cipher := x } ↔ OnlyIn l s t := onlyIn_one (.of_frame rfl) h
theorem onlyIn_pke {x} (h : .pke ∈ l) : OnlyIn l s { t with pke := x } ↔ OnlyIn l s t := onlyIn_one (.of_frame rfl) h
theorem onlyIn_trng {x} (h : .trng ∈ l) : OnlyIn l s { t with trng := x } ↔ OnlyIn l s t := onlyIn_one (.of_frame rfl) h
theorem onlyIn_backup {x} (h : .backup ∈ l) : OnlyIn l s { t with backup := x } ↔ OnlyIn l s t := onlyIn_one (.of_frame rfl) h
theorem onlyIn_pending {x} (h : .pending ∈ l) : OnlyIn l s { t with pending := x } ↔ OnlyIn l s t := onlyIn_one (.of_frame rfl) h
theorem onlyIn_latch {x} (h : .latch ∈ l) : OnlyIn l s { t with latch := x } ↔ OnlyIn l s t := onlyIn_one (.of_frame rfl) h
theorem onlyIn_mem {x} (h : .mem ∈ l) : OnlyIn l s { t with mem := x } ↔ OnlyIn l s t := onlyIn_one (.of_frame rfl) h
theorem onlyIn_edges {x} (h : .edges ∈ l) : OnlyIn l s { t with edges := x } ↔ OnlyIn l s t := onlyIn_one (.of_frame rfl) h

/-! The record updates that several clauses share. -/

theorem OnlyIn.frame_regs (h : OnlyIn [.regs] s t) : t = { s with regs := t.regs } := h.frame

theorem OnlyIn.frame_regs_edges (h : OnlyIn [.regs, .edges] s t) : t = { s with regs := t.regs, edges := t.edges } := h.frame

theorem OnlyIn.frame_regs_mem_edges (h : OnlyIn [.regs, .mem, .edges] s t) :
    t = { s with regs := t.regs, mem := t.mem, edges := t.edges } := h.frame


/-! A field outside the list is as before. -/

theorem OnlyIn.regs (h : OnlyIn l s t) (hl : .regs ∉ l) : t.regs = s.regs := h .regs hl
theorem OnlyIn.mem (h : OnlyIn l s t) (hl : .mem ∉ l) : t.mem = s.mem := h .mem hl
theorem OnlyIn.edges (h : OnlyIn l s t) (hl : .edges ∉ l) : t.edges = s.edges := h .edges hl
theorem OnlyIn.tasks (h : OnlyIn l s t) (hl : .tasks ∉ l) : t.tasks = s.tasks := h .tasks hl
theorem OnlyIn.bus (h : OnlyIn l s t) (hl : .bus ∉ l) : t.bus = s.bus := h .bus hl
theorem OnlyIn.latch (h : OnlyIn l s t) (hl : .latch ∉ l) : t.latch = s.latch := h .latch hl
theorem OnlyIn.freeCounter (h : OnlyIn l s t) (hl : .freeCounter ∉ l) : t.freeCounter = s.freeCounter := h .freeCounter hl
theorem OnlyIn.tide (h : OnlyIn l s t) (hl : .tide ∉ l) : t.tide = s.tide := h .tide hl
theorem OnlyIn.snapshot (h : OnlyIn l s t) (hl : .snapshot ∉ l) : t.snapshot = s.snapshot := h .snapshot hl
theorem OnlyIn.salt (h : OnlyIn l s t) (hl : .salt ∉ l) : t.salt = s.salt := h .salt hl
theorem OnlyIn.sluices (h : OnlyIn l s t) (hl : .sluices ∉ l) : t.sluices = s.sluices := h .sluices hl
theorem OnlyIn.yielded (h : OnlyIn l s t) (hl : .yielded ∉ l) : t.yielded = s.yielded := h .yielded hl
theorem OnlyIn.rf (h : OnlyIn l s t) (hl : .rf ∉ l) : t.rf = s.rf := h .rf hl
theorem OnlyIn.lanes (h : OnlyIn l s t) (hl : .lanes ∉ l) : t.lanes = s.lanes := h .lanes hl
theorem OnlyIn.modem (h : OnlyIn l s t) (hl : .modem ∉ l) : t.modem = s.modem := h .modem hl
theorem OnlyIn.link (h : OnlyIn l s t) (hl : .link ∉ l) : t.link = s.link := h .link hl
theorem OnlyIn.ring (h : OnlyIn l s t) (hl : .ring ∉ l) : t.ring = s.ring := h .ring hl
theorem OnlyIn.sram (h : OnlyIn l s t) (hl : .sram ∉ l) : t.sram = s.sram := h .sram hl
theorem OnlyIn.cores (h : OnlyIn l s t) (hl : .cores ∉ l) : t.cores = s.cores := h .cores hl
theorem OnlyIn.flash (h : OnlyIn l s t) (hl : .flash ∉ l) : t.flash = s.flash := h .flash hl
theorem OnlyIn.power (h : OnlyIn l s t) (hl : .power ∉ l) : t.power = s.power := h .power hl
theorem OnlyIn.kept (h : OnlyIn l s t) (hl : .kept ∉ l) : t.kept = s.kept := h .kept hl
theorem OnlyIn.boot (h : OnlyIn l s t) (hl : .boot ∉ l) : t.boot = s.boot := h .boot hl
theorem OnlyIn.per (h : OnlyIn l s t) (hl : .per ∉ l) : t.per = s.per := h .per hl
theorem OnlyIn.life (h : OnlyIn l s t) (hl : .life ∉ l) : t.life = s.life := h .life hl
theorem OnlyIn.keys (h : OnlyIn l s t) (hl : .keys ∉ l) : t.keys = s.keys := h .keys hl
theorem OnlyIn.cipher (h : OnlyIn l s t) (hl : .cipher ∉ l) : t.cipher = s.cipher := h .cipher hl
theorem OnlyIn.pke (h : OnlyIn l s t) (hl : .pke ∉ l) : t.pke = s.pke := h .pke hl
theorem OnlyIn.trng (h : OnlyIn l s t) (hl : .trng ∉ l) : t.trng = s.trng := h .trng hl
theorem OnlyIn.backup (h : OnlyIn l s t) (hl : .backup ∉ l) : t.backup = s.backup := h .backup hl
theorem OnlyIn.pending (h : OnlyIn l s t) (hl : .pending ∉ l) : t.pending = s.pending := h .pending hl

theorem OnlyIn.sameBytes (h : OnlyIn l s t) (hl : .mem ∉ l) : SameBytes s t := .of_mem (h .mem hl)

theorem OnlyIn.fires (h : OnlyIn l s t) (hl : .edges ∉ l) : Fires [] s t := .none (h .edges hl)

/-- An operation that delivers no edge, and then one. -/
theorem OnlyIn.fires_fire {p : Nat} (h : OnlyIn l s t) (hl : .edges ∉ l) : Fires [p] s (t.fire p) := .fire (h.edges hl)

/-- Delivering an edge is one more field that has changed. -/
theorem OnlyIn.fire {p : Nat} (h : OnlyIn l s t) (hl : l ⊆ l') (he : .edges ∈ l') : OnlyIn l' s (t.fire p) :=
  (onlyIn_fire he).mpr (h.mono hl)

@[simp] theorem State.num_fire {a n p : Nat} : (s.fire p).num a n = s.num a n := State.num_eq_of_mem rfl
@[simp] theorem State.word_fire {a p : Nat} : (s.fire p).word a = s.word a := State.word_eq_of_mem rfl
@[simp] theorem State.bytes_fire {a n p : Nat} : (s.fire p).bytes a n = s.bytes a n := State.bytes_eq_of_mem rfl

end Sys2Proof.Machine
end

section
/-!
SUPPORT. The CAN controller (R581, R582, R591, R592): its error counters, and what the commands answer.
-/

namespace Sys2Proof.Machine

variable {s : State} {tec rec : Nat} {g : Field}

/-! ### The error counters -/

theorem regsBut_canCounters : RegsBut [Reg.CAN_STAT, Reg.CAN_FLAGS] s (canCounters tec rec s) := by
  unfold canCounters
  dsimp only
  split_ifs <;>
    simp [Fld.CAN_STAT_TEC, Fld.CAN_STAT_REC, Fld.CAN_STAT_STATE, Fld.CAN_FLAGS_WARN, Fld.CAN_FLAGS_PASSIVE]

theorem onlyIn_canCounters : OnlyIn [.regs] s (canCounters tec rec s) := by
  unfold canCounters
  extract_lets was now s₁ s₂ s₃
  have h₁ : OnlyIn [.regs] s s₁ := by simp [s₁]
  have h₂ : OnlyIn [.regs] s s₂ := .ite (by simp [h₁]) h₁
  have h₃ : OnlyIn [.regs] s s₃ := .ite (by simp [h₂]) h₂
  simp [h₃]

/-- The counters set CAN_STAT.STATE beside the two fields and flags in another register. -/
theorem get_canCounters (hf : g.addr = Reg.CAN_STAT) (h : Fld.CAN_STAT_STATE.bitsApart g = true) :
    (canCounters tec rec s).get g = ((s.put Fld.CAN_STAT_TEC tec).put Fld.CAN_STAT_REC rec).get g := by
  have hflags : g.addr ≠ Reg.CAN_FLAGS := hf ▸ by decide
  unfold canCounters
  dsimp only
  rw [State.get_put_bitsApart rfl h]
  split_ifs <;> simp [State.flag_eq_put, Fld.CAN_FLAGS_WARN, Fld.CAN_FLAGS_PASSIVE, hflags]

theorem get_TEC_canCounters : (canCounters tec rec s).get Fld.CAN_STAT_TEC = tec % 2 ^ 8 := by
  rw [get_canCounters rfl (by decide)]
  simp [Fld.CAN_STAT_TEC, Fld.CAN_STAT_REC]

theorem get_REC_canCounters : (canCounters tec rec s).get Fld.CAN_STAT_REC = rec % 2 ^ 8 := by
  rw [get_canCounters rfl (by decide)]
  simp [Fld.CAN_STAT_REC]

theorem get_LASTERR_canCounters : (canCounters tec rec s).get Fld.CAN_STAT_LASTERR = s.get Fld.CAN_STAT_LASTERR := by
  rw [get_canCounters rfl (by decide)]
  simp [Fld.CAN_STAT_TEC, Fld.CAN_STAT_REC, Fld.CAN_STAT_LASTERR]

/-! ### A frame sent -/

theorem State.bit_putBit_other {a b i k : Nat} {c : Bool} (h : a ≠ b) : (s.putBit b i c).bit a k = s.bit a k :=
  State.bit_put_other (f := ⟨b, i, 1⟩) h

theorem regsBut_canDelay {b : Nat} : RegsBut [Reg.CAN_TDC] s (canDelay b s) := by
  unfold canDelay
  split <;> simp [Fld.CAN_TDC_TDCV]

theorem onlyIn_canDelay {b : Nat} : OnlyIn [.regs, .freeCounter] s (canDelay b s) := by
  unfold canDelay
  exact .ite (by simp) .refl

theorem canDelay_of_off {b : Nat} (h : s.has Fld.CAN_CTL_TDCEN = false) : canDelay b s = s := if_neg (by simp [h])

/-- The requests that came too late for the last arbitration take part in the next one (R591). -/
def State.canNewTaken (s : State) : State := { s with per := { s.per with canNew := 0 } }

theorem OnlyIn.frame_canSent {t : State} (h : OnlyIn [.regs, .mem, .edges, .per, .freeCounter] s t) :
    t = { s with regs := t.regs, mem := t.mem, edges := t.edges, per := t.per, freeCounter := t.freeCounter } := h.frame

/-- A frame sent from buffer b: its request is done, its stamp stands in the header, and TEC is the new one. -/
def State.canSent (b : Nat) (stamp : Word) (tec : Nat) (s : State) : State :=
  let s := canDelay b s.canNewTaken
  let s := (s.putBit Reg.CAN_TXREQ b false).putBit Reg.CAN_TXDONE b true
  canCounters tec (s.get Fld.CAN_STAT_REC) (s.setWord (canBuf b + 4) stamp)

theorem exec_canTxDone_of_maySend {buf : Fin 32} {stamp : Word} {tec : BitVec 8} (h : canMaySend s buf = true) :
    exec (.canTxDone buf stamp tec) s = .next ((s.canSent buf stamp tec.toNat).fire EV.CAN_TX) := by
  rw [exec, execCanTxDone, h]
  rfl

section
variable {b : Nat} {stamp : Word}

theorem State.onlyIn_canDelayed :
    OnlyIn [.regs, .per, .freeCounter] s (canDelay b s.canNewTaken) :=
  (OnlyIn.of_frame rfl).trans (onlyIn_canDelay.mono (by decide))

theorem State.onlyIn_canSent : OnlyIn [.regs, .mem, .per, .freeCounter] s (s.canSent b stamp tec) := by
  have h : OnlyIn [.regs, .mem, .per, .freeCounter] s (canDelay b s.canNewTaken) :=
    onlyIn_canDelayed.mono (by decide)
  exact OnlyIn.trans (by simp [h]) (onlyIn_canCounters.mono (by decide))

theorem State.per_canSent : (s.canSent b stamp tec).per = { s.per with canNew := 0 } := by
  have h : OnlyIn [.regs, .mem, .freeCounter] s.canNewTaken (canDelay b s.canNewTaken) := onlyIn_canDelay.mono (by decide)
  have h' : OnlyIn [.regs, .mem, .freeCounter] s.canNewTaken (s.canSent b stamp tec) :=
    OnlyIn.trans (by simp [h]) (onlyIn_canCounters.mono (by decide))
  exact h' .per (by decide)

theorem State.word_canSent : (s.canSent b stamp tec).word (canBuf b + 4) = stamp := by
  unfold State.canSent
  rw [State.word_eq_of_mem (onlyIn_canCounters.mem (by decide)), State.word_setWord_self]

theorem State.bytesOutside_canSent : BytesOutside (canBuf b + 4) 4 s (s.canSent b stamp tec) := by
  intro c hc
  unfold State.canSent
  rw [State.byte_congr (onlyIn_canCounters.mem (by decide)), State.byte_setWord_out hc]
  simp only [State.byte_putBit]
  exact onlyIn_canDelayed.sameBytes (by decide) c

theorem State.regsBut_canSent :
    RegsBut [Reg.CAN_TXREQ, Reg.CAN_TXDONE, Reg.CAN_STAT, Reg.CAN_FLAGS, Reg.CAN_TDC] s (s.canSent b stamp tec) := by
  refine RegsBut.trans (t := canDelay b s.canNewTaken) ?delay ?sent
  case delay => exact (regsBut_canDelay (s := s.canNewTaken)).mono (by simp)
  case sent => exact RegsBut.trans (by simp) (regsBut_canCounters.mono (by simp))

theorem State.get_TEC_canSent : (s.canSent b stamp tec).get Fld.CAN_STAT_TEC = tec % 2 ^ 8 := get_TEC_canCounters

theorem State.bit_TXREQ_canSent (hb : b < 32) : (s.canSent b stamp tec).bit Reg.CAN_TXREQ b = false := by
  unfold State.canSent
  dsimp only
  rw [regsBut_canCounters.bit (by decide), State.bit, State.rd_congr State.setWord_regs, ← State.bit,
    State.bit_putBit_other (by decide), State.bit_putBit_self hb]

theorem State.bit_TXDONE_canSent (hb : b < 32) : (s.canSent b stamp tec).bit Reg.CAN_TXDONE b = true := by
  unfold State.canSent
  dsimp only
  rw [regsBut_canCounters.bit (by decide), State.bit, State.rd_congr State.setWord_regs, ← State.bit,
    State.bit_putBit_self hb]

/-- Without transmitter delay compensation nothing is measured. -/
theorem State.canSent_of_no_delay (h : s.has Fld.CAN_CTL_TDCEN = false) :
    (s.canSent b stamp tec).rd Reg.CAN_TDC = s.rd Reg.CAN_TDC ∧ (s.canSent b stamp tec).freeCounter = s.freeCounter := by
  unfold State.canSent
  dsimp only
  rw [canDelay_of_off (s := s.canNewTaken) h]
  constructor
  · rw [regsBut_canCounters _ (by decide), State.rd_congr State.setWord_regs, State.rd_putBit_ne (by decide),
      State.rd_putBit_ne (by decide)]
    rfl
  · have h : OnlyIn [.regs, .mem] s.canNewTaken
        (((s.canNewTaken.putBit Reg.CAN_TXREQ b false).putBit Reg.CAN_TXDONE b true).setWord (canBuf b + 4) stamp) := by simp
    exact (onlyIn_canCounters .freeCounter (by decide)).trans (h .freeCounter (by decide))

end

/-! ### A frame received -/

theorem canMatches_canCounters {word0 : Nat} : canMatches (canCounters tec rec s) word0 = canMatches s word0 := by
  have h := regsBut_canCounters (s := s) (tec := tec) (rec := rec)
  funext b
  have hfilt : Reg.CAN_FILT b ∉ [Reg.CAN_STAT, Reg.CAN_FLAGS] := by
    simp only [Reg.CAN_FILT, Reg.CAN_STAT, Reg.CAN_FLAGS, List.mem_cons, List.not_mem_nil, or_false]
    omega
  have hmask : Reg.CAN_MASK b ∉ [Reg.CAN_STAT, Reg.CAN_FLAGS] := by
    simp only [Reg.CAN_MASK, Reg.CAN_STAT, Reg.CAN_FLAGS, List.mem_cons, List.not_mem_nil, or_false]
    omega
  rw [canMatches, canMatches, h.bit (by decide), h.has hfilt, h.get (f := Fld.CAN_FILT_IDE b) hfilt,
    h.get (f := Fld.CAN_FILT_ID b) hfilt, h.get hmask]

/-- A frame received into buffer b: header, stamp and data, with its length and flags in CAN_BUFCTL. -/
def State.canStored (b : Nat) (word0 stamp : Word) (dlc : Nat) (brs esi : Bool) (data : List Byte) (s : State) : State :=
  let s := (s.setWord (canBuf b) word0).setWord (canBuf b + 4) stamp
  let s := s.setBytes (canBuf b + 8) (data.take 64)
  let s := ((s.put (Fld.CAN_BUFCTL_DLC b) dlc).put (Fld.CAN_BUFCTL_BRS b) (if brs then 1 else 0)).put
    (Fld.CAN_BUFCTL_ESI b) (if esi then 1 else 0)
  s.putBit Reg.CAN_RXFULL b true

section
variable {b : Nat} {word0 stamp : Word} {dlc : Nat} {brs esi : Bool} {data : List Byte}

theorem exec_canFrameRx_of_match {dlc : Fin 16} {rec : BitVec 8} (hon : s.canOn = true)
    (hb : ((List.range 32).filter (canMatches s word0.toNat)).find? (fun k => !s.bit Reg.CAN_RXFULL k) = some b) :
    exec (.canFrameRx word0 dlc brs esi data stamp rec) s = .next
      (((canCounters (s.get Fld.CAN_STAT_TEC) rec.toNat s).canStored b word0 stamp dlc brs esi data).fire EV.CAN_RX) := by
  have hbit : (fun k => !(canCounters (s.get Fld.CAN_STAT_TEC) rec.toNat s).bit Reg.CAN_RXFULL k)
      = fun k => !s.bit Reg.CAN_RXFULL k := by
    funext k
    rw [regsBut_canCounters.bit (by decide)]
  simp only [exec, execCanFrameRx, hon, Bool.not_true, Bool.false_eq_true, if_false, canMatches_canCounters, hbit, hb]
  rfl

theorem State.onlyIn_canStored : OnlyIn [.regs, .mem] s (s.canStored b word0 stamp dlc brs esi data) := by
  simp [State.canStored]

theorem State.mem_canStored : (s.canStored b word0 stamp dlc brs esi data).mem
    = (((s.setWord (canBuf b) word0).setWord (canBuf b + 4) stamp).setBytes (canBuf b + 8) (data.take 64)).mem := by
  simp only [State.canStored, State.putBit_mem, State.put_mem]

theorem State.word_canStored : (s.canStored b word0 stamp dlc brs esi data).word (canBuf b) = word0 := by
  rw [State.word_eq_of_mem State.mem_canStored, State.word_congr (s := (s.setWord (canBuf b) word0).setWord (canBuf b + 4) stamp)
    fun c _ _ => State.byte_setBytes_out (by omega), State.word_setWord_apart (by omega), State.word_setWord_self]

theorem State.stamp_canStored : (s.canStored b word0 stamp dlc brs esi data).word (canBuf b + 4) = stamp := by
  rw [State.word_eq_of_mem State.mem_canStored, State.word_congr (s := (s.setWord (canBuf b) word0).setWord (canBuf b + 4) stamp)
    fun c _ _ => State.byte_setBytes_out (by omega), State.word_setWord_self]

theorem State.data_canStored : (s.canStored b word0 stamp dlc brs esi data).bytes (canBuf b + 8) (data.take 64).length
    = data.take 64 := by
  rw [State.bytes_eq_of_mem State.mem_canStored, State.bytes_setBytes]

theorem State.bytesOutside_canStored : BytesOutside (canBuf b) 72 s (s.canStored b word0 stamp dlc brs esi data) := by
  intro c hc
  have hlen : (data.take 64).length ≤ 64 := List.length_take_le ..
  rw [State.byte_congr State.mem_canStored, State.byte_setBytes_out (by omega), State.byte_setWord_out (by omega),
    State.byte_setWord_out (by omega)]

theorem State.regsBut_canStored :
    RegsBut [Reg.CAN_RXFULL, Reg.CAN_BUFCTL b] s (s.canStored b word0 stamp dlc brs esi data) := by
  simp [State.canStored, Fld.CAN_BUFCTL_DLC, Fld.CAN_BUFCTL_BRS, Fld.CAN_BUFCTL_ESI]

theorem State.bit_RXFULL_canStored (hb : b < 32) :
    (s.canStored b word0 stamp dlc brs esi data).bit Reg.CAN_RXFULL b = true := State.bit_putBit_self hb

theorem State.get_DLC_canStored :
    (s.canStored b word0 stamp dlc brs esi data).get (Fld.CAN_BUFCTL_DLC b) = dlc % 2 ^ 4 := by
  have hne : Reg.CAN_BUFCTL b ≠ Reg.CAN_RXFULL := by
    simp only [Reg.CAN_BUFCTL, Reg.CAN_RXFULL]
    omega
  simp [State.canStored, State.putBit_eq_put, Fld.CAN_BUFCTL_DLC, Fld.CAN_BUFCTL_BRS, Fld.CAN_BUFCTL_ESI, hne]

end

/-! ### Requests and aborts -/

/-- Requests are set; those made while others are pending may have come too late for the arbitration (R591). -/
def State.canRequested (w : Word) (s : State) : State :=
  { s.wr Reg.CAN_TXREQ (s.rd Reg.CAN_TXREQ ||| w) with
    per := { s.per with canNew := if s.rd Reg.CAN_TXREQ = 0 then s.per.canNew else s.per.canNew ||| w } }

theorem exec_canTxreq_eq {byTask : Bool} {v : Word} : exec (.canTxreq byTask v) s
    = .next (State.canRequested (if byTask then s.rd Reg.CAN_TRIGMASK else v)
        (if byTask then s.takeTask TK.CAN_TXREQ else s)) := by
  cases byTask
  case true =>
    simp only [exec, execCanTxreq, if_true, State.canRequested, State.rd_takeTask]
    split <;> rfl
  case false =>
    simp only [exec, execCanTxreq, Bool.false_eq_true, if_false, State.canRequested]
    split <;> rfl

theorem State.canRequested_answers {w : Word} {t : State} (hregs : t.regs = s.regs) (hper : t.per = s.per) :
    (t.canRequested w).rd Reg.CAN_TXREQ = s.rd Reg.CAN_TXREQ ||| w
    ∧ (t.canRequested w).per
        = { s.per with canNew := if s.rd Reg.CAN_TXREQ = 0 then s.per.canNew else s.per.canNew ||| w }
    ∧ RegsBut [Reg.CAN_TXREQ] s (t.canRequested w) := by
  refine ⟨?_, ?_, ?_⟩
  · simp [State.canRequested, State.rd_wr_self, State.rd_congr hregs]
  · rw [State.canRequested, State.rd_congr hregs, hper]
  · exact RegsBut.trans (RegsBut.of_regs hregs) (by simp [State.canRequested])

/-- Withdrawing the requests of v that are pending withdraws those of v. -/
theorem and_not_and_self (x v : Word) : x &&& ~~~(x &&& v) = x &&& ~~~v := by
  ext i
  simp only [BitVec.getElem_and, BitVec.getElem_not]
  cases x[i] <;> simp

/-- The pending requests of v are withdrawn, which is flagged where there are any. -/
def State.canAborted (v : Word) (s : State) : State :=
  let t := s.wr Reg.CAN_TXREQ (s.rd Reg.CAN_TXREQ &&& ~~~v)
  if s.rd Reg.CAN_TXREQ &&& v = 0 then t else t.flag Fld.CAN_FLAGS_TXABORT

theorem exec_canTxabort_none {v : Word} : exec (.canTxabort v none) s = .next (s.canAborted v) := by
  have hgone : s.rd Reg.CAN_TXREQ &&& v &&& ~~~(0#32) = s.rd Reg.CAN_TXREQ &&& v := BitVec.and_allOnes
  simp only [exec, execCanTxabort, hgone, and_not_and_self, State.canAborted]

/-! ### The states of the controller -/

section
variable (hon : s.canOn = true)
include hon

theorem exec_canProtocolError_of_on {ty : Fin 7} {tec rec : BitVec 8} :
    exec (.canProtocolError ty tec rec) s = .next (((canCounters tec.toNat rec.toNat
      ((s.put Fld.CAN_STAT_LASTERR ty).flag Fld.CAN_FLAGS_PROTERR)).inc Fld.CAN_ERRCNT_PROTERRS).fire EV.CAN_ERR) :=
  if_neg (by simp [hon])

theorem exec_canBusOff_of_on : exec .canBusOff s = .next (((((s.flag Fld.CAN_CTL_INIT).put Fld.CAN_STAT_STATE 2).flag
    Fld.CAN_FLAGS_BUSOFF).inc Fld.CAN_ERRCNT_BUSOFFS).fire EV.CAN_BUSOFF) :=
  if_neg (by simp [hon])

end

theorem regsBut_canCtlWrite {v : Nat} : RegsBut [Reg.CAN_CTL, Reg.CAN_STAT] s (canCtlWrite v s) := by
  unfold canCtlWrite
  dsimp only
  split_ifs <;> simp [Fld.CAN_STAT_STATE, Fld.CAN_STAT_TEC, Fld.CAN_STAT_REC]

theorem onlyIn_canCtlWrite {v : Nat} : OnlyIn [.regs] s (canCtlWrite v s) := by
  unfold canCtlWrite
  dsimp only
  split_ifs <;> simp

theorem rd_CTL_canCtlWrite {v : Nat} : (canCtlWrite v s).rd Reg.CAN_CTL = BitVec.ofNat 32 v &&& 0x0000033F#32 := by
  have hne : Reg.CAN_CTL ≠ Reg.CAN_STAT := by decide
  unfold canCtlWrite
  dsimp only
  split_ifs <;> simp [Fld.CAN_STAT_STATE, Fld.CAN_STAT_TEC, Fld.CAN_STAT_REC, hne]

/-- CAN_CTL without its bit INIT, as the recovery writes it. -/
theorem canCtl_init_cleared (x : Word) :
    (BitVec.ofNat 32 (x.toNat - 256 * (x.toNat / 2 ^ 8 % 2 ^ 1)) &&& 0x0000033F#32).toNat / 2 ^ 8 % 2 ^ 1 = 0 := by
  have hx := x.isLt
  have hbit : (x.toNat - 256 * (x.toNat / 2 ^ 8 % 2 ^ 1)).testBit 8 = false := by
    rw [Nat.testBit_eq_decide_div_mod_eq, decide_eq_false_iff_not]
    omega
  have h : (BitVec.ofNat 32 (x.toNat - 256 * (x.toNat / 2 ^ 8 % 2 ^ 1)) &&& 0x0000033F#32).toNat.testBit 8 = false := by
    rw [BitVec.toNat_and, Nat.testBit_and, BitVec.toNat_ofNat, Nat.testBit_mod_two_pow, hbit]
    simp
  rw [Nat.testBit_eq_decide_div_mod_eq, decide_eq_false_iff_not] at h
  omega

theorem has_INIT_recovered : (canCtlWrite ((s.rd Reg.CAN_CTL).toNat - 256 * s.get Fld.CAN_CTL_INIT) s).has Fld.CAN_CTL_INIT
    = false := by
  have h : (canCtlWrite ((s.rd Reg.CAN_CTL).toNat - 256 * s.get Fld.CAN_CTL_INIT) s).get Fld.CAN_CTL_INIT = 0 := by
    rw [State.get, Fld.CAN_CTL_INIT, rd_CTL_canCtlWrite]
    exact canCtl_init_cleared _
  simp [State.has, h]

theorem exec_canBusoffRecovery_of_abom (hoff : s.get Fld.CAN_STAT_STATE = 2) (habom : s.has Fld.CAN_CTL_ABOM = true) :
    exec .canBusoffRecovery s
      = .next (canCtlWrite ((s.rd Reg.CAN_CTL).toNat - 256 * s.get Fld.CAN_CTL_INIT) s) :=
  congrArg Host.Outcome.next (if_pos ⟨hoff, habom⟩)

/-- Settles O58: frames, requests, and the states of the controller. -/
theorem canCommands : Obligations.CanCommands := by
  intro s
  refine ⟨fun hon => ⟨fun buf stamp tec hsend => ?sent, fun word0 stamp dlc brs esi data rec b hb => ?received⟩,
    fun byTask v => ?request, fun v => ?abort, fun hon => ⟨fun ty tec rec => ?error, ?busOff⟩,
    fun hoff habom _ => ?recovery⟩
  case sent =>
    refine .of_eq (exec_canTxDone_of_maySend hsend) ⟨State.word_canSent, State.bit_TXREQ_canSent buf.isLt,
      State.bit_TXDONE_canSent buf.isLt, ?tec, Fires.fire ?edges, ?per, State.canSent_of_no_delay,
      State.bytesOutside_canSent, State.regsBut_canSent, ?frame⟩
    case tec => exact State.get_TEC_canSent.trans (Nat.mod_eq_of_lt tec.isLt)
    case edges => exact State.onlyIn_canSent.edges (by decide)
    case per => exact State.per_canSent
    case frame =>
      exact (State.onlyIn_canSent.fire (l' := [.regs, .mem, .edges, .per, .freeCounter]) (by decide) (by decide)).frame_canSent
  case received =>
    have hlt : b < 32 := List.mem_range.mp (List.mem_filter.mp (List.mem_of_find?_eq_some hb)).1
    have hframe : OnlyIn [.regs, .mem] s ((canCounters (s.get Fld.CAN_STAT_TEC) rec.toNat s).canStored b word0 stamp dlc brs
        esi data) := (onlyIn_canCounters.mono (by decide)).trans State.onlyIn_canStored
    refine .of_eq (exec_canFrameRx_of_match hon hb) ?_
    simp only [State.word_fire, State.bytes_fire, State.get_fire, State.bit_fire, regsBut_fire]
    refine ⟨State.word_canStored, State.stamp_canStored, State.data_canStored, ?dlc,
      State.bit_RXFULL_canStored hlt, Fires.fire ?edges, ?octets, ?others, ?frame⟩
    case dlc => exact State.get_DLC_canStored.trans (Nat.mod_eq_of_lt dlc.isLt)
    case edges => exact hframe.edges (by decide)
    case octets =>
      intro c hc
      rw [State.byte_fire, State.bytesOutside_canStored c hc]
      exact onlyIn_canCounters.sameBytes (by decide) c
    case others =>
      exact (regsBut_canCounters.mono (by simp)).trans (State.regsBut_canStored.mono (by simp))
    case frame =>
      exact (hframe.fire (l' := [.regs, .mem, .edges]) (by decide) (by decide)).frame_regs_mem_edges
  case request =>
    obtain ⟨hrd, hper, hothers⟩ := State.canRequested_answers (s := s)
      (t := if byTask then s.takeTask TK.CAN_TXREQ else s) (w := if byTask then s.rd Reg.CAN_TRIGMASK else v)
      (by cases byTask <;> rfl) (by cases byTask <;> rfl)
    refine .of_eq exec_canTxreq_eq ⟨hrd, hper, hothers, ?_⟩
    cases byTask <;> rfl
  case abort =>
    refine .of_eq exec_canTxabort_none ⟨?request, ?flag, ?others, ?frame⟩
    case request =>
      unfold State.canAborted
      dsimp only
      split
      · exact State.rd_wr_self
      · rw [State.rd_flag_ne (by decide), State.rd_wr_self]
    case flag =>
      intro h
      rw [State.canAborted, if_neg h]
      exact State.has_flag (by decide) (by decide)
    case others =>
      unfold State.canAborted
      exact regsBut_ite (by simp) (by simp [Fld.CAN_FLAGS_TXABORT])
    case frame =>
      unfold State.canAborted
      dsimp only
      split <;> rfl
  case error =>
    have hty : ty.val % 256 = ty.val := Nat.mod_eq_of_lt (by omega)
    have hothers : RegsBut [Reg.CAN_STAT, Reg.CAN_FLAGS] s ((s.put Fld.CAN_STAT_LASTERR ty).flag Fld.CAN_FLAGS_PROTERR) := by
      simp [Fld.CAN_STAT_LASTERR, Fld.CAN_FLAGS_PROTERR]
    have hframe : OnlyIn [.regs] s (canCounters tec.toNat rec.toNat
        ((s.put Fld.CAN_STAT_LASTERR ty).flag Fld.CAN_FLAGS_PROTERR)) := OnlyIn.trans (by simp) onlyIn_canCounters
    refine .of_eq (exec_canProtocolError_of_on hon) ⟨?code, ?tec, ?rec, ?count, Fires.fire ?edges, ?others, ?frame⟩
    case code =>
      rw [State.get_fire, State.inc_eq_put, State.get_put_other (by decide), get_LASTERR_canCounters, State.flag_eq_put,
        State.get_put_other (by decide), State.get_put_fits rfl]
      exact hty
    case tec =>
      rw [State.get_fire, State.inc_eq_put, State.get_put_other (by decide), get_TEC_canCounters]
      exact Nat.mod_eq_of_lt tec.isLt
    case rec =>
      rw [State.get_fire, State.inc_eq_put, State.get_put_other (by decide), get_REC_canCounters]
      exact Nat.mod_eq_of_lt rec.isLt
    case count =>
      rw [State.get_fire, State.get_inc (by decide), regsBut_canCounters.get (by decide), hothers.get (by decide)]
    case edges =>
      rw [State.inc_edges]
      exact hframe.edges (by decide)
    case others =>
      have hcounted : RegsBut [Reg.CAN_STAT, Reg.CAN_FLAGS, Reg.CAN_ERRCNT] s (canCounters tec.toNat rec.toNat
          ((s.put Fld.CAN_STAT_LASTERR ty).flag Fld.CAN_FLAGS_PROTERR)) :=
        (hothers.trans regsBut_canCounters).mono (by simp)
      simp [Fld.CAN_ERRCNT_PROTERRS, hcounted]
    case frame =>
      refine OnlyIn.frame_regs_edges ?_
      simp [hframe.mono (show _ ⊆ [.regs, .edges] by decide)]
  case busOff =>
    have hinit : ((((s.flag Fld.CAN_CTL_INIT).put Fld.CAN_STAT_STATE 2).flag
        Fld.CAN_FLAGS_BUSOFF).inc Fld.CAN_ERRCNT_BUSOFFS).has Fld.CAN_CTL_INIT = true := by
      rw [State.inc_eq_put, State.has_put_other (by decide), State.flag_eq_put, State.has_put_other (by decide),
        State.has_put_other (by decide), State.has_flag (by decide) (by decide)]
    refine .of_eq (exec_canBusOff_of_on hon) ⟨State.has_fire.trans hinit, ?off, ?state, ?flag, Fires.fire (by simp), ?others, ?frame⟩
    case off => simp only [State.canOn, State.has_fire, hinit, Bool.not_true, Bool.and_false]
    case state =>
      rw [State.get_fire, State.inc_eq_put, State.get_put_other (by decide), State.flag_eq_put,
        State.get_put_other (by decide), State.get_put_fits rfl]
      rfl
    case flag =>
      rw [State.has_fire, State.inc_eq_put, State.has_put_other (by decide), State.has_flag (by decide) (by decide)]
    case others => simp [Fld.CAN_CTL_INIT, Fld.CAN_STAT_STATE, Fld.CAN_FLAGS_BUSOFF, Fld.CAN_ERRCNT_BUSOFFS]
    case frame => exact OnlyIn.frame_regs_edges (by simp)
  case recovery =>
    exact .of_eq (exec_canBusoffRecovery_of_abom hoff habom) ⟨has_INIT_recovered, regsBut_canCtlWrite, onlyIn_canCtlWrite.frame_regs⟩

end Sys2Proof.Machine
end

section
/-!
SUPPORT. The calibration engine takes a lane (R196 to R199), and the background steps that a restart leaves yielded (R26).
-/

namespace Sys2Proof.Machine

variable {s t : State} {l k n v : Nat} {f : Field} {x : LaneState}

/-! ### Lanes -/

@[simp] theorem State.get_setLane : (s.setLane l x).get f = s.get f := rfl
@[simp] theorem State.has_setLane : (s.setLane l x).has f = s.has f := rfl
@[simp] theorem State.rd_setLane {a : Nat} : (s.setLane l x).rd a = s.rd a := rfl
@[simp] theorem State.getS_setLane : (s.setLane l x).getS f = s.getS f := rfl
@[simp] theorem State.lanes_setLane : (s.setLane l x).lanes = setNth s.lanes l x := rfl
@[simp] theorem State.yielded_setLane : (s.setLane l x).yielded = s.yielded := rfl
@[simp] theorem State.edges_setLane : (s.setLane l x).edges = s.edges := rfl
@[simp] theorem State.mem_setLane : (s.setLane l x).mem = s.mem := rfl

@[simp] theorem regsBut_setLane {r : List Nat} : RegsBut r s (t.setLane l x) ↔ RegsBut r s t := Iff.rfl

@[simp] theorem onlyIn_setLane {p : List Part} (h : .lanes ∈ p) : OnlyIn p s (t.setLane l x) ↔ OnlyIn p s t :=
  onlyIn_one (.of_frame rfl) h

/-- A list entry after it has been set. -/
@[simp] theorem nth_setNth_self {α : Type} {d y : α} {xs : List α} (h : k < xs.length) : nth d (setNth xs k y) k = y := by
  simp [nth, setNth, List.getD_eq_getElem?_getD, List.getElem?_set_self h]

@[simp] theorem nth_setNth_ne {α : Type} {d y : α} {xs : List α} (h : k ≠ n) : nth d (setNth xs k y) n = nth d xs n := by
  simp [nth, setNth, List.getD_eq_getElem?_getD, List.getElem?_set_ne h]

@[simp] theorem length_setNth {α : Type} {y : α} {xs : List α} : (setNth xs k y).length = xs.length := List.length_set

theorem State.lane_setLane_self (h : l < s.lanes.length) : (s.setLane l x).lane l = x := nth_setNth_self h

theorem State.lane_setLane_ne (h : l ≠ k) : (s.setLane l x).lane k = s.lane k := nth_setNth_ne h

theorem State.lane_congr (h : t.lanes = s.lanes) : t.lane l = s.lane l := by rw [State.lane, State.lane, h]

theorem OnlyIn.frame_regs_lanes_yielded (h : OnlyIn [.regs, .lanes, .yielded] s t) :
    t = { s with regs := t.regs, lanes := t.lanes, yielded := t.yielded } := h.frame

/-! ### The engine takes a lane -/

/-- A lane that the engine has taken, from step `own` on. -/
def LaneState.taken (x : LaneState) (need : Bool) (own : Nat) : LaneState :=
  { x with calYield := false, idleState := 1, calRelock := if need then 11 else 0, calFrom := own }

section
variable {own : Nat}

theorem onlyIn_calTake : OnlyIn [.regs, .lanes, .yielded] s (calTake l n own s) := by
  unfold calTake
  extract_lets need s₁ v s₂ s₃ s₄
  have h₁ : OnlyIn [.regs, .lanes, .yielded] s s₁ := .ite (by simp [laneUnlock]) .refl
  exact (onlyIn_yielded (by decide)).mpr (by simp [State.setLaneSt, s₄, s₃, s₂, h₁])

theorem regsBut_calTake : RegsBut [Reg.LANE_STAT l, Reg.LANE_CALSTAT l] s (calTake l n own s) := by
  unfold calTake
  extract_lets need s₁ v s₂ s₃ s₄
  have h₁ : RegsBut [Reg.LANE_STAT l, Reg.LANE_CALSTAT l] s s₁ :=
    regsBut_ite (by simp [laneUnlock, Fld.LANE_STAT_LOCK]) .refl
  simp [State.setLaneSt, s₄, s₃, s₂, h₁, Fld.LANE_STAT_STATE, Fld.LANE_CALSTAT_BUSY, Fld.LANE_CALSTAT_ENTRY,
    Fld.LANE_CALSTAT_STEP]

theorem laneSt_calTake : (calTake l n own s).laneSt l = 5 := by
  unfold calTake State.laneSt State.setLaneSt
  extract_lets need s₁ v s₂ s₃ s₄
  simp [s₄, Fld.LANE_STAT_STATE]

theorem yielded_calTake : (calTake l n own s).yielded = s.yielded.filter (fun k => k != 0) := by
  unfold calTake
  extract_lets need s₁ v s₂ s₃ s₄
  have h₁ : OnlyIn [.regs, .lanes] s s₁ := .ite (by simp [laneUnlock]) .refl
  have h₃ : OnlyIn [.regs, .lanes] s s₃ := by simp [s₃, s₂, h₁]
  exact congrArg (List.filter _) (h₃.yielded (by decide))

/-- The lane that the engine takes waits for nothing; the other one is as it was. -/
theorem lane_calTake : ∃ x : LaneState, x.calYield = false ∧ (calTake l n own s).lanes = setNth s.lanes l x := by
  unfold calTake
  extract_lets need s₁ v s₂ s₃ s₄
  have h₁ : OnlyIn [.regs] s s₁ := .ite (by simp [laneUnlock]) .refl
  have h₂ : OnlyIn [.regs] s₂ s₄ := by simp [s₄, s₃, State.setLaneSt]
  have hlanes : s₄.lanes = setNth s.lanes l (v.taken need own) := by
    rw [h₂.lanes (by decide), State.lanes_setLane, h₁.lanes (by decide)]
    rfl
  refine ⟨v.taken need own, rfl, ?_⟩
  dsimp only
  exact hlanes

theorem get_ENTRY_calTake : (calTake l n own s).get (Fld.LANE_CALSTAT_ENTRY l) = n % 32 := by
  unfold calTake State.setLaneSt
  extract_lets need s₁ v s₂ s₃ s₄
  simp [s₄, s₃, Fld.LANE_STAT_STATE, Fld.LANE_CALSTAT_ENTRY, Fld.LANE_CALSTAT_STEP, Reg.LANE_STAT, Reg.LANE_CALSTAT]

theorem has_BUSY_calTake : (calTake l n own s).has (Fld.LANE_CALSTAT_BUSY l) = true := by
  unfold calTake State.setLaneSt
  extract_lets need s₁ v s₂ s₃ s₄
  simp [s₄, s₃, State.flag_eq_put, Fld.LANE_STAT_STATE, Fld.LANE_CALSTAT_ENTRY, Fld.LANE_CALSTAT_STEP,
    Fld.LANE_CALSTAT_BUSY, Reg.LANE_STAT, Reg.LANE_CALSTAT]

theorem get_STEP_calTake :
    (calTake l n own s).get (Fld.LANE_CALSTAT_STEP l) = (if calNeedsLock s l n then 1 else own) % 32 := by
  unfold calTake State.setLaneSt
  extract_lets need s₁ v s₂ s₃ s₄
  simp [s₄, s₃, need, Fld.LANE_STAT_STATE, Fld.LANE_CALSTAT_STEP, Reg.LANE_STAT, Reg.LANE_CALSTAT]

end

/-- Starting an entry takes the lane, with its temperature noted. -/
theorem calBegin_eq : ∃ x : LaneState, calBegin l n s = calTake l n 1 (s.setLane l x) := ⟨_, rfl⟩

/-! ### A yielded calibration goes on -/

theorem calResume_eq_self (h : calMayRun s l = false ∨ s.has (Fld.LANE_CALSTAT_BUSY l) = false ∨ (s.lane l).calYield = false) :
    calResume l s = s := if_pos (by rcases h with h | h | h <;> simp [h])

/-- A resumed calibration has the lane again, at its aborted step or from the first one. -/
theorem calResume_eq_taken (hrun : calMayRun s l = true) (hbusy : s.has (Fld.LANE_CALSTAT_BUSY l) = true)
    (hyield : (s.lane l).calYield = true) :
    ∃ n own t, calResume l s = calTake l n own t ∧ OnlyIn [.regs, .lanes] s t ∧ RegsBut [Reg.LANE_CALCNT l] s t
      ∧ (t.lanes = s.lanes ∨ ∃ x, t.lanes = setNth s.lanes l x) := by
  unfold calResume
  extract_lets v m step keeps
  rw [if_neg (by simp [hrun, hbusy, v, hyield])]
  by_cases hk : keeps
  case pos =>
    rw [if_pos hk]
    exact ⟨_, _, s, rfl, .refl, .refl, .inl rfl⟩
  case neg =>
    rw [if_neg hk]
    obtain ⟨x, hx⟩ := calBegin_eq (s := s.inc (Fld.LANE_CALCNT_RESTARTS l)) (l := l) (n := m)
    exact ⟨m, 1, _, hx, by simp, by simp [Fld.LANE_CALCNT_RESTARTS], .inr ⟨x, rfl⟩⟩

/-! ### What waits after a background step -/

/-- Beside n the same background steps wait. -/
def SameYields (n : Nat) (s t : State) : Prop := ∀ k, k ≠ n → (k ∈ t.yielded ↔ k ∈ s.yielded)

theorem SameYields.refl : SameYields n s s := fun _ _ => Iff.rfl

theorem SameYields.of_eq (h : t.yielded = s.yielded) : SameYields n s t := fun _ _ => by rw [h]

theorem SameYields.of_onlyIn {p : List Part} (h : OnlyIn p s t) (hp : .yielded ∉ p) : SameYields n s t := .of_eq (h.yielded hp)

theorem SameYields.trans {u : State} (h : SameYields n s t) (h' : SameYields n t u) : SameYields n s u :=
  fun k hk => (h' k hk).trans (h k hk)

theorem SameYields.of_filter (h : t.yielded = s.yielded.filter (fun k => k != n)) : SameYields n s t :=
  fun k hk => by simp [h, hk]

theorem SameYields.forEach {α : Type} {xs : List α} {f : α → State → State} (hf : ∀ x s, SameYields n s (f x s)) :
    SameYields n s (s.forEach xs f) := by
  induction xs generalizing s with
  | nil => exact .refl
  | cons x xs ih => exact (hf x s).trans ih

theorem SameYields.ite {u : State} {p : Prop} [Decidable p] (ht : SameYields n s t) (hu : SameYields n s u) :
    SameYields n s (if p then t else u) := by
  split <;> assumption

theorem sameYields_stepResumed : SameYields n s (stepResumed n s) := .of_filter rfl

theorem not_mem_yielded_stepResumed : n ∉ (stepResumed n s).yielded := by simp [stepResumed]

theorem sameYields_yieldBackground : SameYields n s (yieldBackground n s) := by
  unfold yieldBackground
  extract_lets s₁
  have h₁ : s₁.yielded = s.yielded := State.inc_yielded ..
  split
  · exact .of_eq h₁
  · intro k hk
    simp [hk, h₁]

theorem sameYields_calResume : SameYields 0 s (calResume l s) := by
  by_cases h : calMayRun s l = true ∧ s.has (Fld.LANE_CALSTAT_BUSY l) = true ∧ (s.lane l).calYield = true
  case pos =>
    obtain ⟨hrun, hbusy, hyield⟩ := h
    obtain ⟨m, own, t, heq, ht, -, -⟩ := calResume_eq_taken hrun hbusy hyield
    rw [heq]
    exact (SameYields.of_onlyIn ht (by decide)).trans (.of_filter yielded_calTake)
  case neg =>
    rw [calResume_eq_self]
    · exact .refl
    · grind

theorem sameYields_healthHold : SameYields 1 s (healthHold l s) := by
  unfold healthHold
  have htaken : ∀ x, SameYields 1 s (laneUnlock l ((s.setLane l x).setLaneSt l 6)) :=
    fun x => .of_eq (by simp [laneUnlock, State.setLaneSt])
  exact .ite (.ite (.of_eq (State.put_yielded ..)) .refl) (.ite ((htaken _).trans sameYields_stepResumed) .refl)

theorem sameYields_setCore {w : Option CoreWork} : SameYields n s (setCore k w s) :=
  .of_eq (State.putBit_yielded ..)

theorem sameYields_coreGrant : SameYields 2 s (coreGrant k s) := by
  unfold coreGrant
  refine .ite .refl ?_
  extract_lets testing serves start
  have hstart : ∀ q, SameYields 2 s (start q s) := fun q =>
    SameYields.trans (t := s.setQueue q { s.queue q with todo := (s.queue q).todo - 1, flight := (s.queue q).flight + 1 })
      (.of_eq rfl) sameYields_setCore
  split
  case h_1 t rest hserves hlink =>
    extract_lets s₁ s₂
    have h₁ : SameYields 2 s s₁ := .of_eq rfl
    have h₂ : SameYields 2 s s₂ := .ite (h₁.trans sameYields_yieldBackground) h₁
    have h₃ : SameYields 2 s₂ (s₂.inc Fld.CIPHER_CNT_LINKWAIT) := .of_eq (State.inc_yielded ..)
    exact (SameYields.ite (h₂.trans h₃) h₂).trans sameYields_setCore
  case h_2 =>
    have hkey : SameYields 2 s { s with cipher := { s.cipher with keyWait := s.cipher.keyWait - 1 } } := .of_eq rfl
    refine .ite (hkey.trans sameYields_setCore) (.ite (hstart 0) (.ite (hstart 1) (.ite ?_ .refl)))
    exact sameYields_stepResumed.trans sameYields_setCore

theorem sameYields_backgroundRestart : SameYields n s (backgroundRestart n s) := by
  unfold backgroundRestart
  split
  · exact .forEach fun _ _ => sameYields_calResume
  · exact .forEach fun _ _ => .ite sameYields_healthHold .refl
  · exact .forEach fun _ _ => sameYields_coreGrant
  · exact .refl

theorem exec_backgroundStepRestart {a : Fin 8} :
    exec (.backgroundStepRestart a) s = .next (stepResumed a (backgroundRestart a s)) := rfl

/-! ### The restart of a yielded calibration -/

/-- The lane of a resumed calibration: it calibrates and no longer waits. The other lane is as it was. -/
theorem calResume_facts (hlen : l < s.lanes.length) (hrun : calMayRun s l = true)
    (hbusy : s.has (Fld.LANE_CALSTAT_BUSY l) = true) (hyield : (s.lane l).calYield = true) :
    (calResume l s).laneSt l = 5 ∧ ((calResume l s).lane l).calYield = false
    ∧ (∀ k, k ≠ l → (calResume l s).lane k = s.lane k)
    ∧ RegsBut [Reg.LANE_STAT l, Reg.LANE_CALSTAT l, Reg.LANE_CALCNT l] s (calResume l s)
    ∧ OnlyIn [.regs, .lanes, .yielded] s (calResume l s) := by
  obtain ⟨n, own, t, heq, ht, hregs, hlanes⟩ := calResume_eq_taken hrun hbusy hyield
  obtain ⟨x, hx, hset⟩ := lane_calTake (l := l) (n := n) (s := t) (own := own)
  have hlen' : l < t.lanes.length := by
    obtain h | ⟨y, h⟩ := hlanes <;> simpa [h] using hlen
  have hother : ∀ k, k ≠ l → nth {} t.lanes k = nth {} s.lanes k := fun k hk => by
    obtain h | ⟨y, h⟩ := hlanes <;> simp [h, hk.symm]
  rw [heq]
  refine ⟨laneSt_calTake, ?_, fun k hk => ?_, ?_, (ht.mono (by decide)).trans onlyIn_calTake⟩
  · rw [State.lane, hset, nth_setNth_self hlen', hx]
  · rw [State.lane, hset, nth_setNth_ne hk.symm, hother k hk]
    rfl
  · exact (hregs.mono (by simp)).trans (regsBut_calTake.mono (by simp))

/-- Where the other lane's calibration does not wait, the restart is that of this lane. -/
theorem backgroundRestart_of_yield {l : Lane} (hlen : s.lanes.length = 2) (hrun : calMayRun s l = true)
    (hbusy : s.has (Fld.LANE_CALSTAT_BUSY l) = true) (hyield : (s.lane l).calYield = true)
    (hother : (s.lane (otherLane l)).calYield = false) : backgroundRestart 0 s = calResume l s := by
  obtain ⟨-, -, hsame, -⟩ := calResume_facts (l.isLt.trans_eq hlen.symm) hrun hbusy hyield
  have hne : otherLane l ≠ l := by simp only [otherLane]; omega
  have hstays : calResume (otherLane l) (calResume l s) = calResume l s :=
    calResume_eq_self (.inr (.inr (by rw [hsame _ hne, hother])))
  have hstill : calResume (otherLane l) s = s := calResume_eq_self (.inr (.inr hother))
  match l with
  | 0 => exact hstays
  | 1 => exact congrArg (calResume 1) hstill

theorem calYield_restarted {l : Lane} (hlen : s.lanes.length = 2) (hrun : calMayRun s l = true)
    (hbusy : s.has (Fld.LANE_CALSTAT_BUSY l) = true) (hyield : (s.lane l).calYield = true)
    (hother : (s.lane (otherLane l)).calYield = false) :
    exec (.backgroundStepRestart 0) s = .next (stepResumed 0 (calResume l s)) := by
  rw [exec_backgroundStepRestart]
  exact congrArg (fun t => Host.Outcome.next (stepResumed 0 t)) (backgroundRestart_of_yield hlen hrun hbusy hyield hother)

/-! ### The clock configuration -/

theorem State.regsBut_setClkcfg : RegsBut [Reg.SYSCFG_CLKCFG] s (s.setClkcfg v) := by
  unfold State.setClkcfg
  refine regsBut_ite ?_ ?_ <;>
    simp [Fld.SYSCFG_CLKCFG_PLLEN, Fld.SYSCFG_CLKCFG_BUSDIV, Fld.SYSCFG_CLKCFG_CPUDIV, Fld.SYSCFG_CLKCFG_PLLLOCK]

theorem State.onlyIn_setClkcfg : OnlyIn [.regs] s (s.setClkcfg v) := by
  unfold State.setClkcfg
  exact .ite (by simp) (by simp)

theorem State.get_PLLLOCK_setClkcfg : (s.setClkcfg v).get Fld.SYSCFG_CLKCFG_PLLLOCK
    = if v % 2 = 0 then 0 else s.get Fld.SYSCFG_CLKCFG_PLLLOCK := by
  unfold State.setClkcfg
  split <;> simp [State.unflag_eq_put, Fld.SYSCFG_CLKCFG_PLLEN, Fld.SYSCFG_CLKCFG_BUSDIV, Fld.SYSCFG_CLKCFG_CPUDIV,
    Fld.SYSCFG_CLKCFG_PLLLOCK]

theorem State.get_CLKSRC_setClkcfg : (s.setClkcfg v).get Fld.SYSCFG_CLKCFG_CLKSRC = s.get Fld.SYSCFG_CLKCFG_CLKSRC := by
  rw [State.get_setClkcfg (by decide)]
  simp [Fld.SYSCFG_CLKCFG_PLLEN, Fld.SYSCFG_CLKCFG_BUSDIV, Fld.SYSCFG_CLKCFG_CPUDIV, Fld.SYSCFG_CLKCFG_CLKSRC]

theorem exec_pllLock_of_enabled (h : s.has Fld.SYSCFG_CLKCFG_PLLEN = true) :
    exec .pllLock s = .next (s.flag Fld.SYSCFG_CLKCFG_PLLLOCK) := congrArg Host.Outcome.next (if_pos h)

theorem exec_lfincMeasure_of_running (h : s.lfMode = false) :
    exec (.lfincMeasure n) s = .next (s.put Fld.TIDE_LFINC_INC (n * 64)) := congrArg Host.Outcome.next (if_neg (by simp [h]))

theorem exec_xtalok {w : Bool} : exec (.xtalok w) s = .next (s.put Fld.TIDE_CLKCTL_XTALOK (if w then 1 else 0)) := rfl

/-- Settles O9: the clock configuration, the restart of yielded steps, and the measurements of the crystals. -/
theorem clockAndBackgroundWork : Obligations.ClockAndBackgroundWork := by
  intro s
  refine ⟨fun v hlimit => ?clkcfg, fun hen => ?lock, fun n => ?restart, fun l hlen hrun hbusy hyield hother => ?calibration,
    fun n hlf _ => ?measure, fun w => ?xtalok⟩
  case clkcfg =>
    have heq : exec (.clkcfgWrite v) s = .next (s.setClkcfg v.toNat) := by
      rw [exec_clkcfgWrite, execClkcfgWrite_eq, if_neg (Nat.not_lt.mpr hlimit)]
    exact .of_eq heq ⟨State.get_PLLEN_setClkcfg, State.get_BUSDIV_setClkcfg, State.get_CPUDIV_setClkcfg,
      State.get_PLLLOCK_setClkcfg, State.get_CLKSRC_setClkcfg, State.regsBut_setClkcfg, State.onlyIn_setClkcfg.frame_regs⟩
  case lock =>
    exact .of_eq (exec_pllLock_of_enabled hen) ⟨State.has_flag (by decide) (by decide),
      by simp [Fld.SYSCFG_CLKCFG_PLLLOCK], OnlyIn.frame_regs (by simp)⟩
  case restart =>
    refine .of_eq exec_backgroundStepRestart ⟨not_mem_yielded_stepResumed,
      sameYields_backgroundRestart.trans sameYields_stepResumed, fun hn => ?_⟩
    have hnone : backgroundRestart n s = s := by
      unfold backgroundRestart
      split
      · simp_all
      · simp_all
      · simp_all
      · rfl
    rw [hnone]
    rfl
  case calibration =>
    obtain ⟨hst, hyielded, hsame, hregs, hframe⟩ := calResume_facts (l.isLt.trans_eq hlen.symm) hrun hbusy hyield
    have hne : otherLane l ≠ l := by simp only [otherLane]; omega
    refine .of_eq (calYield_restarted hlen hrun hbusy hyield hother) ⟨hst, hyielded, hsame _ hne, hregs, ?_⟩
    exact OnlyIn.frame_regs_lanes_yielded ((onlyIn_yielded (by decide)).mpr hframe)
  case measure =>
    exact .of_eq (exec_lfincMeasure_of_running hlf) ⟨State.get_put_fits rfl, by simp [Fld.TIDE_LFINC_INC],
      OnlyIn.frame_regs (by simp)⟩
  case xtalok =>
    refine .of_eq exec_xtalok ⟨?_, by simp [Fld.TIDE_CLKCTL_XTALOK], OnlyIn.frame_regs (by simp)⟩
    cases w <;> simp [Fld.TIDE_CLKCTL_XTALOK]

end Sys2Proof.Machine
end

section
/-!
SUPPORT. Gate registers (R115 to R120), the release from quarantine (R131), and software tightening (R169).
-/

namespace Sys2Proof.Machine

variable {s t : State} {n k m v : Nat}

/-! ### The registers of a gate -/

theorem OnlyIn.frame_regs_tide (h : OnlyIn [.regs, .tide] s t) : t = { s with regs := t.regs, tide := t.tide } := h.frame

theorem exec_gateRegisterWrite_of_enabled {g : Fin 32} {r : Fin 4} {w : Word} (h : s.has (Fld.TIDE_GATE_CTL_EN g) = true)
    (hr : r ≠ 3) : exec (.gateRegisterWrite g r w) s = .next s := by
  match r with
  | 0 | 1 | 2 => exact congrArg Host.Outcome.next (if_pos h)
  | 3 => exact absurd rfl hr

/-- The register of a gate that a write names: the low and high half of its time, and its period. -/
def gateReg (g : Nat) (r : Fin 4) : Nat :=
  match r with
  | 0 => Reg.TIDE_GATE_TLO g
  | 1 => Reg.TIDE_GATE_THI g
  | 2 => Reg.TIDE_GATE_PER g
  | 3 => Reg.TIDE_GATE_CTL g

theorem exec_gateRegisterWrite_of_disabled {g : Fin 32} {r : Fin 4} {w : Word}
    (h : s.has (Fld.TIDE_GATE_CTL_EN g) = false) (hr : r ≠ 3) :
    exec (.gateRegisterWrite g r w) s = .next (s.put ⟨gateReg g r, 0, 32⟩ w.toNat) := by
  have hoff : ¬ s.has (Fld.TIDE_GATE_CTL_EN g) = true := by simp [h]
  match r with
  | 0 | 1 | 2 => exact congrArg Host.Outcome.next (if_neg hoff)
  | 3 => exact absurd rfl hr

theorem State.rd_put_whole {a : Nat} {w : Word} : (s.put ⟨a, 0, 32⟩ w.toNat).rd a = w := by
  rw [State.rd_put_word, BitVec.ofNat_toNat, BitVec.setWidth_eq]

/-- The fields of TIDE_GATE_CTL as a write of v leaves them. -/
def State.gateCtl (n v : Nat) (s : State) : State :=
  ((((s.put (Fld.TIDE_GATE_CTL_SLUICE n) (v / 256)).put (Fld.TIDE_GATE_CTL_ARMSYNC n) (v / 8)).put
    (Fld.TIDE_GATE_CTL_STEPPOL n) (v / 4)).put (Fld.TIDE_GATE_CTL_WAKE n) (v / 2)).put (Fld.TIDE_GATE_CTL_EN n) v

/-- A disarmed gate has no step and no late arming to remember. -/
def State.gateForgotten (n : Nat) (s : State) : State := (s.setGateStepped n false).setGateLateNext n false

@[simp] theorem State.get_gateForgotten {f : Field} : (s.gateForgotten n).get f = s.get f := rfl
@[simp] theorem State.has_gateForgotten {f : Field} : (s.gateForgotten n).has f = s.has f := rfl
@[simp] theorem regsBut_gateForgotten {l : List Nat} : RegsBut l s (t.gateForgotten n) ↔ RegsBut l s t := Iff.rfl

@[simp] theorem onlyIn_gateForgotten {l : List Part} (h : .tide ∈ l) : OnlyIn l s (t.gateForgotten n) ↔ OnlyIn l s t :=
  onlyIn_one (.of_frame rfl) h

theorem exec_gateRegisterWrite_disarm {g : Fin 32} {w : Word} (h : w.toNat % 2 = 0) :
    exec (.gateRegisterWrite g 3 w) s = .next ((s.gateCtl g w.toNat).gateForgotten g) :=
  congrArg Host.Outcome.next (if_pos h)

theorem exec_gateWakeRequest_of_due {g : Fin 32} (hlf : s.lfMode = true) (hen : s.has (Fld.TIDE_GATE_CTL_EN g) = true)
    (hwake : s.has (Fld.TIDE_GATE_CTL_WAKE g) = true) (hheld : s.gateHeld g = false)
    (hdue : s.gateT g ≤ s.now + s.get Fld.TIDE_WAKELEAD_LEAD) :
    exec (.gateWakeRequest g) s = .next { s with power := { s.power with xtalStarting := true } } :=
  congrArg Host.Outcome.next (if_pos (by simp [wakeGateDue, hlf, hen, hwake, hheld, hdue]))

/-- Settles O12: the writes of gate registers, and the wake request. -/
theorem gateRegisterWrites : Obligations.GateRegisterWrites := by
  intro g v s
  refine ⟨fun hen => ?enabled, fun hoff r a ha => ?stored, fun hv => ?ctl, fun hlf hen hwake hheld hdue => ?wake⟩
  case enabled =>
    exact ⟨exec_gateRegisterWrite_of_enabled hen (by decide), exec_gateRegisterWrite_of_enabled hen (by decide),
      exec_gateRegisterWrite_of_enabled hen (by decide)⟩
  case stored =>
    have hr : r ≠ 3 ∧ a = gateReg g r := by
      rcases ha with ⟨rfl, rfl⟩ | ⟨rfl, rfl⟩ | ⟨rfl, rfl⟩ <;> exact ⟨by decide, rfl⟩
    obtain ⟨hr, rfl⟩ := hr
    exact .of_eq (exec_gateRegisterWrite_of_disabled hoff hr) ⟨State.rd_put_whole, by simp, OnlyIn.frame_regs (by simp)⟩
  case ctl =>
    refine .of_eq (exec_gateRegisterWrite_disarm hv) ⟨?en, ?_, ?_, ?_, ?_, ?_,
      OnlyIn.frame_regs_tide (by simp [State.gateCtl])⟩
    case en => simp [State.gateCtl, Fld.TIDE_GATE_CTL_EN, hv]
    all_goals simp [State.gateCtl, Fld.TIDE_GATE_CTL_EN, Fld.TIDE_GATE_CTL_SLUICE, Fld.TIDE_GATE_CTL_ARMSYNC,
      Fld.TIDE_GATE_CTL_STEPPOL, Fld.TIDE_GATE_CTL_WAKE]
  case wake => exact .of_eq (exec_gateWakeRequest_of_due hlf hen hwake hheld hdue) ⟨rfl, rfl⟩

/-! ### Release from quarantine -/

theorem OnlyIn.frame_regs_sluices (h : OnlyIn [.regs, .sluices] s t) :
    t = { s with regs := t.regs, sluices := t.sluices } := h.frame

theorem OnlyIn.frame_regs_sluices_tasks (h : OnlyIn [.regs, .sluices, .tasks] s t) :
    t = { s with regs := t.regs, sluices := t.sluices, tasks := t.tasks } := h.frame

@[simp] theorem regsBut_setSluice {l : List Nat} {x : Sluice} : RegsBut l s (t.setSluice n x) ↔ RegsBut l s t := Iff.rfl

@[simp] theorem onlyIn_setSluice {l : List Part} {x : Sluice} (h : .sluices ∈ l) :
    OnlyIn l s (t.setSluice n x) ↔ OnlyIn l s t := onlyIn_one (.of_frame rfl) h

theorem Reg.FABRIC_QUAR_ne_STAT : Reg.FABRIC_QUAR m ≠ Reg.FABRIC_STAT := by
  simp only [Reg.FABRIC_QUAR, Reg.FABRIC_STAT]
  omega

theorem onlyIn_governorRelease : OnlyIn [.regs, .sluices] s (governorRelease n s) := by
  unfold governorRelease
  exact .ite (by simp) .refl

theorem regsBut_governorRelease : RegsBut [Reg.FABRIC_QUAR (n / 32), Reg.FABRIC_STAT] s (governorRelease n s) := by
  unfold governorRelease
  exact regsBut_ite (by simp [Fld.FABRIC_STAT_QUARN]) .refl

/-- A released sluice has no history; the others keep theirs. -/
theorem sluice_governorRelease : (governorRelease n s).sluice k
    = if k = n ∧ s.quarantined k = true then { s.sluice k with hist := [] } else s.sluice k := by
  unfold governorRelease
  by_cases hq : s.quarantined n = true
  case neg =>
    rw [if_neg hq, if_neg]
    rintro ⟨rfl, h⟩
    exact hq h
  case pos =>
    rw [if_pos hq]
    have hset : ∀ {t : State} {x : Sluice}, (((t.setSluice n x).putBit (Reg.FABRIC_QUAR (n / 32)) (n % 32) false).put
        Fld.FABRIC_STAT_QUARN (t.get Fld.FABRIC_STAT_QUARN - 1)).sluice k = if k = n then x else t.sluice k := sparseGet_set
    refine hset.trans ?_
    by_cases hk : k = n
    case pos =>
      subst hk
      rw [if_pos rfl, if_pos ⟨rfl, hq⟩]
    case neg => rw [if_neg hk, if_neg fun h => hk h.1]

theorem quarantined_governorRelease : (governorRelease n s).quarantined k = (s.quarantined k && decide (k ≠ n)) := by
  have hne : Reg.FABRIC_QUAR (k / 32) ≠ Fld.FABRIC_STAT_QUARN.addr := Reg.FABRIC_QUAR_ne_STAT
  unfold governorRelease
  by_cases hq : s.quarantined n = true
  case neg =>
    rw [if_neg hq]
    by_cases hk : k = n
    case pos => simp [hk, hq]
    case neg => simp [hk]
  case pos =>
    rw [if_pos hq, State.quarantined, State.bit_put_other hne]
    by_cases hk : k = n
    case pos => simp [hk, State.bit_putBit_self (Nat.mod_lt n (by decide : 0 < 32))]
    case neg =>
      have hsame : (s.setSluice n { s.sluice n with hist := [] }).bit (Reg.FABRIC_QUAR (k / 32)) (k % 32) = s.quarantined k := rfl
      by_cases ha : k / 32 = n / 32
      case pos =>
        have hbit : k % 32 ≠ n % 32 := by omega
        rw [ha] at hsame ⊢
        rw [State.bit_putBit_ne (Nat.mod_lt n (by decide)) hbit, hsame]
        simp [hk]
      case neg =>
        have hreg : Reg.FABRIC_QUAR (k / 32) ≠ Reg.FABRIC_QUAR (n / 32) := by simpa [Reg.FABRIC_QUAR] using ha
        rw [State.bit_putBit_other hreg, hsame]
        simp [hk]

section
variable {ns : List Nat}

theorem onlyIn_releases : OnlyIn [.regs, .sluices] s (s.forEach ns governorRelease) :=
  OnlyIn.forEach (fun _ _ => onlyIn_governorRelease) .refl

theorem regsBut_releases {l : List Nat} (h : ∀ n ∈ ns, Reg.FABRIC_QUAR (n / 32) ∈ l) (hstat : Reg.FABRIC_STAT ∈ l) :
    RegsBut l s (s.forEach ns governorRelease) := by
  induction ns generalizing s with
  | nil => exact .refl
  | cons n ns ih =>
    have hone : RegsBut l s (governorRelease n s) := regsBut_governorRelease.mono (by simp [h n, hstat])
    exact hone.trans (ih fun m hm => h m (List.mem_cons_of_mem _ hm))

theorem quarantined_releases : (s.forEach ns governorRelease).quarantined k = (s.quarantined k && decide (k ∉ ns)) := by
  induction ns generalizing s with
  | nil => simp [State.forEach]
  | cons n ns ih =>
    refine (ih (s := governorRelease n s)).trans ?_
    rw [quarantined_governorRelease]
    by_cases hk : k = n <;> simp [hk]

theorem sluice_releases : (s.forEach ns governorRelease).sluice k
    = if k ∈ ns ∧ s.quarantined k = true then { s.sluice k with hist := [] } else s.sluice k := by
  induction ns generalizing s with
  | nil => simp [State.forEach]
  | cons n ns ih =>
    refine (ih (s := governorRelease n s)).trans ?_
    rw [quarantined_governorRelease, sluice_governorRelease]
    by_cases hk : k = n
    case pos => simp [hk]
    case neg => simp [hk]

end

/-- A write of FABRIC_QUAR releases the sluices whose bits it sets. -/
theorem exec_fabricQuarRelease {m : Fin 8} {w : Word} :
    exec (.fabricQuarRelease m w) s = .next (s.forEach (firedSluices m w) governorRelease) := by
  rw [firedSluices, State.forEach, List.foldl_map]
  rfl

theorem mem_firedSluices_iff {w : Word} : n ∈ firedSluices m w ↔ n / 32 = m ∧ w.toNat.testBit (n % 32) = true := by
  rw [firedSluices, List.mem_map]
  constructor
  · rintro ⟨k, hk, rfl⟩
    obtain ⟨hlt, hbit⟩ := mem_bitsOf.mp hk
    rw [Nat.mul_add_div (by decide), Nat.div_eq_of_lt hlt, Nat.mul_add_mod, Nat.mod_eq_of_lt hlt]
    exact ⟨rfl, hbit⟩
  · rintro ⟨rfl, hbit⟩
    exact ⟨n % 32, mem_bitsOf.mpr ⟨Nat.mod_lt _ (by decide), hbit⟩, Nat.div_add_mod n 32⟩

theorem exec_fabricReleaseall : exec .fabricReleaseall s
    = .next ((s.takeTask TK.FABRIC_RELEASEALL).forEach (List.range 256) governorRelease) := rfl

/-- Settles O17: both releases let sluices out one by one, and each release is that of its own sluice. -/
theorem quarantineRelease : Obligations.QuarantineRelease := by
  intro s
  refine ⟨fun m v => .of_eq exec_fabricQuarRelease ⟨fun k hk => ?bits, fun n => ?sluices, ?others,
    onlyIn_releases.frame_regs_sluices⟩, .of_eq exec_fabricReleaseall ⟨fun n => ?allBits, fun n => ?allSluices, ?allOthers, ?frame⟩⟩
  case bits =>
    have hdiv : (32 * m.val + k) / 32 = m ∧ (32 * m.val + k) % 32 = k := by omega
    rw [quarantined_releases]
    simp [mem_firedSluices_iff, hdiv]
  case sluices =>
    rw [sluice_releases]
    simp [mem_firedSluices_iff, and_assoc]
  case others =>
    refine regsBut_releases (fun n hn => ?_) (by simp)
    simp [(mem_firedSluices_iff.mp hn).1]
  case allBits =>
    rw [quarantined_releases]
    simp
  case allSluices =>
    rw [sluice_releases]
    simp only [List.mem_range, n.isLt, true_and]
    rfl
  case allOthers =>
    rw [← regsBut_takeTask_left (n := TK.FABRIC_RELEASEALL)]
    refine regsBut_releases (fun n hn => ?_) (by simp)
    have hlt : n / 32 < 8 := by
      have := List.mem_range.mp hn
      omega
    exact List.mem_cons_of_mem _ (List.mem_map_of_mem (List.mem_range.mpr hlt))
  case frame =>
    have htask : OnlyIn [.regs, .sluices, .tasks] s (s.takeTask TK.FABRIC_RELEASEALL) := by simp
    exact (htask.trans (onlyIn_releases.mono (by decide))).frame_regs_sluices_tasks

/-! ### Software tightening -/

theorem OnlyIn.frame_regs_rf (h : OnlyIn [.regs, .rf] s t) : t = { s with regs := t.regs, rf := t.rf } := h.frame

section
variable {lower : Bool} {key : Nat → Int} {f g : Field}

/-- Does a write of v loosen the field? -/
def State.loosens (s : State) (f : Field) (lower : Bool) (key : Nat → Int) (v : Nat) : Bool :=
  (tightenField lower (key (s.get f)) (key (v % 2 ^ f.width))).2

theorem tightWrite_eq : tightWrite f lower key v s
    = if s.loosens f lower key v then s.flag Fld.RF_FLAGS_TIGHTREJ else s.put f v := rfl

theorem tightenField_snd_lower {old new : Int} : (tightenField true old new).2 = decide (old < new) := by
  by_cases h : new ≤ old <;> simp [tightenField, h]
  omega

theorem tightenField_snd_raise {old new : Int} : (tightenField false old new).2 = decide (new < old) := by
  by_cases h : old ≤ new <;> simp [tightenField, h]
  omega

theorem onlyIn_tightWrite : OnlyIn [.regs] s (tightWrite f lower key v s) := by
  rw [tightWrite_eq]
  exact .ite (by simp) (by simp)

theorem regsBut_tightWrite {a : Nat} (h : f.addr = a) : RegsBut [a, Reg.RF_FLAGS] s (tightWrite f lower key v s) := by
  rw [tightWrite_eq]
  exact regsBut_ite (by simp [Fld.RF_FLAGS_TIGHTREJ]) (by simp [h])

theorem get_tightWrite (hf : f.fits = true) (hflags : f.addr ≠ Reg.RF_FLAGS) :
    (tightWrite f lower key v s).get f = if s.loosens f lower key v then s.get f else v % 2 ^ f.width := by
  rw [tightWrite_eq]
  split
  · exact State.get_put_other hflags
  · exact State.get_put_fits hf

theorem get_tightWrite_of_ne (hf : f.fits = true) (h : f.bitsApart g = true) (hflags : g.addr ≠ Reg.RF_FLAGS) :
    (tightWrite f lower key v s).get g = s.get g := by
  rw [tightWrite_eq]
  split
  · exact State.get_put_other hflags
  · exact State.get_put_bitsApart hf h

theorem has_TIGHTREJ_tightWrite (hflags : f.addr ≠ Reg.RF_FLAGS) : (tightWrite f lower key v s).has Fld.RF_FLAGS_TIGHTREJ
    = (s.has Fld.RF_FLAGS_TIGHTREJ || s.loosens f lower key v) := by
  rw [tightWrite_eq]
  cases hl : s.loosens f lower key v
  case true => simp [State.has_flag (f := Fld.RF_FLAGS_TIGHTREJ) (by decide) (by decide)]
  case false =>
    have hput : (s.put f v).has Fld.RF_FLAGS_TIGHTREJ = s.has Fld.RF_FLAGS_TIGHTREJ := State.has_put_other hflags.symm
    simp [hput]

/-- A field that only falls takes the smaller of its value and the written one. -/
theorem getS_tightWrite (hf : f.fits = true) (hflags : f.addr ≠ Reg.RF_FLAGS) :
    (tightWrite f true (toS f.width) v s).getS f = min (s.getS f) (toS f.width v) := by
  have hloose : s.loosens f true (toS f.width) v = decide (s.getS f < toS f.width v) := by
    rw [State.loosens, tightenField_snd_lower, toS_mod]
    rfl
  rw [State.getS, get_tightWrite hf hflags, hloose]
  by_cases h : s.getS f < toS f.width v
  case pos =>
    simp only [h, decide_true, if_true]
    exact (min_eq_left h.le).symm
  case neg =>
    simp only [h, decide_false, Bool.false_eq_true, if_false, toS_mod]
    exact (min_eq_right (not_lt.mp h)).symm

theorem get_tightWrite_falls (hf : f.fits = true) (hflags : f.addr ≠ Reg.RF_FLAGS) :
    (tightWrite f true (fun x => x) v s).get f = min (s.get f) (v % 2 ^ f.width) := by
  rw [get_tightWrite hf hflags, State.loosens, tightenField_snd_lower]
  simp only [Nat.cast_lt, decide_eq_true_eq]
  split <;> omega

end

/-- What the software's listen time counts as when times are compared: 0xFF asks for nothing. -/
def lbtKey : Nat → Int := fun x => if x = 0xFF then -1 else (x : Int)

/-! The limits in force follow. -/

/-- The registers of a sub-band's limits in force. -/
def bandRegs (k : Nat) : List Nat := [Reg.RF_SBFREQ k, Reg.RF_SBPWR k, Reg.RF_SBDUTY k, Reg.RF_SBDWELL k]

theorem onlyIn_bucketSettle : OnlyIn [.rf] s (bucketSettle k s) := (onlyIn_rf (by decide)).mpr .refl

theorem regs_setBucket {b : Bucket} : (s.setBucket k b).regs = s.regs := rfl

theorem onlyIn_setBucket {l : List Part} {b : Bucket} (h : .rf ∈ l) : OnlyIn l s (t.setBucket k b) ↔ OnlyIn l s t :=
  onlyIn_rf h

theorem onlyIn_refreshBand : OnlyIn [.regs, .rf] s (refreshBand k s) := by
  unfold refreshBand
  extract_lets s₁ was e l s₂ now c
  have h₁ : OnlyIn [.regs, .rf] s s₁ := onlyIn_bucketSettle.mono (by decide)
  have h₂ : OnlyIn [.regs, .rf] s s₂ := .ite (by simp [h₁]) (by simp [h₁])
  exact .ite h₂ ((onlyIn_setBucket (by decide)).mpr h₂)

theorem regsBut_refreshBand : RegsBut (bandRegs k) s (refreshBand k s) := by
  unfold refreshBand bandRegs
  extract_lets s₁ was e l s₂ now c
  have h₁ : RegsBut [Reg.RF_SBFREQ k, Reg.RF_SBPWR k, Reg.RF_SBDUTY k, Reg.RF_SBDWELL k] s s₁ :=
    .of_regs (onlyIn_bucketSettle.regs (by decide))
  have h₂ : RegsBut [Reg.RF_SBFREQ k, Reg.RF_SBPWR k, Reg.RF_SBDUTY k, Reg.RF_SBDWELL k] s s₂ := by
    refine regsBut_ite ?_ ?_ <;>
      simp [h₁, Fld.RF_SBFREQ_FLO, Fld.RF_SBFREQ_FHI, Fld.RF_SBPWR_PMAX, Fld.RF_SBPWR_LBTTHR, Fld.RF_SBPWR_LBTTIME,
        Fld.RF_SBDUTY_DUTY, Fld.RF_SBDWELL_DWELL]
  exact regsBut_ite h₂ (h₂.trans (.of_regs regs_setBucket))

theorem onlyIn_refreshLimits : OnlyIn [.regs, .rf] s (refreshLimits s) := OnlyIn.forEach (fun _ _ => onlyIn_refreshBand) .refl

theorem RegsBut.forEach {l : List Nat} {xs : List Nat} {f : Nat → State → State} (hf : ∀ k ∈ xs, ∀ s, RegsBut l s (f k s)) :
    RegsBut l s (s.forEach xs f) := by
  induction xs generalizing s with
  | nil => exact .refl
  | cons k xs ih => exact (hf k List.mem_cons_self s).trans (ih fun j hj => hf j (List.mem_cons_of_mem _ hj))

/-- The registers of all sub-bands' limits in force. -/
def limitRegs : List Nat := (List.range 8).flatMap bandRegs

theorem regsBut_refreshLimits : RegsBut limitRegs s (refreshLimits s) :=
  RegsBut.forEach fun k hk _ => regsBut_refreshBand.mono fun _ ha => List.mem_flatMap.mpr ⟨k, hk, ha⟩

/-- A register of another block is none of them. -/
theorem notMem_limitRegs {a : Nat} (h : a < 0x40028100 ∨ 0x40028180 ≤ a) : a ∉ limitRegs := by
  intro hmem
  obtain ⟨k, hk, ha⟩ := List.mem_flatMap.mp hmem
  have hk : k < 8 := List.mem_range.mp hk
  simp only [bandRegs, Reg.RF_SBFREQ, Reg.RF_SBPWR, Reg.RF_SBDUTY, Reg.RF_SBDWELL, List.mem_cons, List.not_mem_nil,
    or_false] at ha
  omega

theorem Reg.RF_SWTIGHT_notMem : Reg.RF_SWTIGHT k ∉ limitRegs := notMem_limitRegs (by simp only [Reg.RF_SWTIGHT]; omega)
theorem Reg.RF_SWTIGHT2_notMem : Reg.RF_SWTIGHT2 k ∉ limitRegs := notMem_limitRegs (by simp only [Reg.RF_SWTIGHT2]; omega)
theorem Reg.RF_FLAGS_notMem : Reg.RF_FLAGS ∉ limitRegs := notMem_limitRegs (by decide)

theorem Reg.RF_SWTIGHT_ne_FLAGS : Reg.RF_SWTIGHT k ≠ Reg.RF_FLAGS := by simp only [Reg.RF_SWTIGHT, Reg.RF_FLAGS]; omega
theorem Reg.RF_SWTIGHT2_ne_FLAGS : Reg.RF_SWTIGHT2 k ≠ Reg.RF_FLAGS := by simp only [Reg.RF_SWTIGHT2, Reg.RF_FLAGS]; omega
theorem Reg.RF_SWTIGHT_ne_SWTIGHT2 : Reg.RF_SWTIGHT k ≠ Reg.RF_SWTIGHT2 k := by simp [Reg.RF_SWTIGHT, Reg.RF_SWTIGHT2]

/-- A write of RF_SWTIGHT: each field on its own. -/
def State.swtight (k v : Nat) (s : State) : State :=
  tightWrite (Fld.RF_SWTIGHT_LBTTIME k) false lbtKey (v / 2 ^ 16) (tightWrite (Fld.RF_SWTIGHT_LBTTHR k) true (toS 8) (v / 2 ^ 8)
    (tightWrite (Fld.RF_SWTIGHT_PMAX k) true (toS 8) v s))

/-- A write of RF_SWTIGHT2. -/
def State.swtight2 (k v : Nat) (s : State) : State :=
  tightWrite (Fld.RF_SWTIGHT2_DWELL k) true (fun x => x) (v / 2 ^ 16) (tightWrite (Fld.RF_SWTIGHT2_DUTY k) true (fun x => x) v s)

theorem exec_swtightWrite_first {k : Fin 8} {w : Word} :
    exec (.swtightWrite k false w) s = .next (refreshLimits (s.swtight k w.toNat)) := by
  simp only [exec, execSwtightWrite, Bool.false_eq_true, if_false, State.swtight]
  rfl

theorem exec_swtightWrite_second {k : Fin 8} {w : Word} :
    exec (.swtightWrite k true w) s = .next (refreshLimits (s.swtight2 k w.toNat)) := by
  simp only [exec, execSwtightWrite, if_true, State.swtight2]

theorem onlyIn_swtight : OnlyIn [.regs] s (s.swtight k v) :=
  (onlyIn_tightWrite.trans onlyIn_tightWrite).trans onlyIn_tightWrite

theorem onlyIn_swtight2 : OnlyIn [.regs] s (s.swtight2 k v) := onlyIn_tightWrite.trans onlyIn_tightWrite

theorem regsBut_swtight : RegsBut [Reg.RF_SWTIGHT k, Reg.RF_FLAGS] s (s.swtight k v) := by
  unfold State.swtight
  exact ((regsBut_tightWrite (by rfl)).trans (regsBut_tightWrite (by rfl))).trans (regsBut_tightWrite (by rfl))

theorem regsBut_swtight2 : RegsBut [Reg.RF_SWTIGHT2 k, Reg.RF_FLAGS] s (s.swtight2 k v) := by
  unfold State.swtight2
  exact (regsBut_tightWrite (by rfl)).trans (regsBut_tightWrite (by rfl))

theorem State.loosens_congr {lower : Bool} {key : Nat → Int} {f : Field} (h : t.get f = s.get f) :
    t.loosens f lower key v = s.loosens f lower key v := by rw [State.loosens, State.loosens, h]

theorem getS_PMAX_swtight :
    (s.swtight k v).getS (Fld.RF_SWTIGHT_PMAX k) = min (s.getS (Fld.RF_SWTIGHT_PMAX k)) (toS 8 v) := by
  have hflags : (Fld.RF_SWTIGHT_PMAX k).addr ≠ Reg.RF_FLAGS := Reg.RF_SWTIGHT_ne_FLAGS
  unfold State.swtight
  rw [State.getS_eq_of_get (get_tightWrite_of_ne rfl rfl hflags), State.getS_eq_of_get (get_tightWrite_of_ne rfl rfl hflags)]
  exact getS_tightWrite rfl hflags

theorem getS_LBTTHR_swtight :
    (s.swtight k v).getS (Fld.RF_SWTIGHT_LBTTHR k) = min (s.getS (Fld.RF_SWTIGHT_LBTTHR k)) (toS 8 (v / 2 ^ 8)) := by
  have hflags : (Fld.RF_SWTIGHT_LBTTHR k).addr ≠ Reg.RF_FLAGS := Reg.RF_SWTIGHT_ne_FLAGS
  unfold State.swtight
  rw [State.getS_eq_of_get (get_tightWrite_of_ne rfl rfl hflags)]
  refine (getS_tightWrite rfl hflags).trans ?_
  rw [State.getS_eq_of_get (get_tightWrite_of_ne rfl rfl hflags)]
  rfl

theorem State.get_LBTTIME_before : (tightWrite (Fld.RF_SWTIGHT_LBTTHR k) true (toS 8) (v / 2 ^ 8)
    (tightWrite (Fld.RF_SWTIGHT_PMAX k) true (toS 8) v s)).get (Fld.RF_SWTIGHT_LBTTIME k) = s.get (Fld.RF_SWTIGHT_LBTTIME k) := by
  have hflags : (Fld.RF_SWTIGHT_LBTTIME k).addr ≠ Reg.RF_FLAGS := Reg.RF_SWTIGHT_ne_FLAGS
  rw [get_tightWrite_of_ne rfl rfl hflags, get_tightWrite_of_ne rfl rfl hflags]

theorem State.loosens_LBTTIME : s.loosens (Fld.RF_SWTIGHT_LBTTIME k) false lbtKey v
    = (s.get (Fld.RF_SWTIGHT_LBTTIME k) != 0xFF
      && (v % 256 == 0xFF || decide (v % 256 < s.get (Fld.RF_SWTIGHT_LBTTIME k)))) := by
  rw [State.loosens, tightenField_snd_raise, show (Fld.RF_SWTIGHT_LBTTIME k).width = 8 from rfl]
  generalize s.get (Fld.RF_SWTIGHT_LBTTIME k) = old
  generalize hnew : v % 2 ^ 8 = new
  simp only [Nat.reducePow] at hnew
  rw [Bool.eq_iff_iff]
  simp only [lbtKey, decide_eq_true_eq, Bool.and_eq_true, bne_iff_ne, Bool.or_eq_true, beq_iff_eq]
  have hneg : (-1 : Int) < old := by omega
  split_ifs with hn ho ho <;> simp [hn, ho, hneg]

theorem get_LBTTIME_swtight : (s.swtight k v).get (Fld.RF_SWTIGHT_LBTTIME k)
    = (let old := s.get (Fld.RF_SWTIGHT_LBTTIME k); let new := v / 2 ^ 16 % 256
        if old = 0xFF then new else if new = 0xFF then old else max old new) := by
  unfold State.swtight
  rw [get_tightWrite rfl Reg.RF_SWTIGHT_ne_FLAGS, State.loosens_congr State.get_LBTTIME_before, State.get_LBTTIME_before,
    State.loosens_LBTTIME, show (Fld.RF_SWTIGHT_LBTTIME k).width = 8 from rfl]
  generalize s.get (Fld.RF_SWTIGHT_LBTTIME k) = old
  simp only [Nat.reducePow]
  generalize v / 65536 % 256 = new
  by_cases hold : old = 0xFF
  case pos => simp [hold]
  case neg =>
    by_cases hn : new = 0xFF
    case pos => simp [hold, hn]
    case neg =>
      by_cases hlt : new < old
      case pos => simp [hold, hn, hlt, Nat.max_eq_left hlt.le]
      case neg => simp [hold, hn, hlt, Nat.max_eq_right (Nat.le_of_not_lt hlt)]

theorem has_TIGHTREJ_swtight : (s.swtight k v).has Fld.RF_FLAGS_TIGHTREJ = (s.has Fld.RF_FLAGS_TIGHTREJ
    || s.loosens (Fld.RF_SWTIGHT_PMAX k) true (toS 8) v || s.loosens (Fld.RF_SWTIGHT_LBTTHR k) true (toS 8) (v / 2 ^ 8)
    || s.loosens (Fld.RF_SWTIGHT_LBTTIME k) false lbtKey (v / 2 ^ 16)) := by
  have hthr : (Fld.RF_SWTIGHT_LBTTHR k).addr ≠ Reg.RF_FLAGS := Reg.RF_SWTIGHT_ne_FLAGS
  unfold State.swtight
  rw [has_TIGHTREJ_tightWrite Reg.RF_SWTIGHT_ne_FLAGS, has_TIGHTREJ_tightWrite Reg.RF_SWTIGHT_ne_FLAGS,
    has_TIGHTREJ_tightWrite Reg.RF_SWTIGHT_ne_FLAGS, State.loosens_congr State.get_LBTTIME_before,
    State.loosens_congr (get_tightWrite_of_ne rfl rfl hthr)]

theorem State.loosens_falling {f : Field} (hf : f.width = 8) :
    s.loosens f true (toS 8) v = decide (s.getS f < toS 8 v) := by
  rw [State.loosens, tightenField_snd_lower, hf, toS_mod, State.getS, hf]

theorem get_DUTY_swtight2 : (s.swtight2 k v).get (Fld.RF_SWTIGHT2_DUTY k)
    = min (s.get (Fld.RF_SWTIGHT2_DUTY k)) (v % 2 ^ 16) := by
  have hflags : (Fld.RF_SWTIGHT2_DUTY k).addr ≠ Reg.RF_FLAGS := Reg.RF_SWTIGHT2_ne_FLAGS
  unfold State.swtight2
  rw [get_tightWrite_of_ne rfl rfl hflags, get_tightWrite_falls rfl hflags]
  rfl

theorem get_DWELL_swtight2 : (s.swtight2 k v).get (Fld.RF_SWTIGHT2_DWELL k)
    = min (s.get (Fld.RF_SWTIGHT2_DWELL k)) (v / 2 ^ 16 % 2 ^ 16) := by
  have hflags : (Fld.RF_SWTIGHT2_DWELL k).addr ≠ Reg.RF_FLAGS := Reg.RF_SWTIGHT2_ne_FLAGS
  unfold State.swtight2
  rw [get_tightWrite_falls rfl hflags, get_tightWrite_of_ne rfl rfl hflags]
  rfl

theorem has_TIGHTREJ_swtight2 : (s.swtight2 k v).has Fld.RF_FLAGS_TIGHTREJ = (s.has Fld.RF_FLAGS_TIGHTREJ
    || decide (s.get (Fld.RF_SWTIGHT2_DUTY k) < v % 2 ^ 16)
    || decide (s.get (Fld.RF_SWTIGHT2_DWELL k) < v / 2 ^ 16 % 2 ^ 16)) := by
  have hflags : (Fld.RF_SWTIGHT2_DWELL k).addr ≠ Reg.RF_FLAGS := Reg.RF_SWTIGHT2_ne_FLAGS
  unfold State.swtight2
  rw [has_TIGHTREJ_tightWrite Reg.RF_SWTIGHT2_ne_FLAGS, has_TIGHTREJ_tightWrite Reg.RF_SWTIGHT2_ne_FLAGS,
    State.loosens_congr (get_tightWrite_of_ne rfl rfl hflags)]
  simp only [State.loosens, tightenField_snd_lower, Nat.cast_lt]
  rfl

/-- Settles O25: each field tightens on its own, and the limits in force follow in registers of their own. -/
theorem softwareTightening : Obligations.SoftwareTightening := by
  intro k v s
  refine ⟨.of_eq exec_swtightWrite_first ⟨?pmax, ?lbtthr, ?lbttime, ?flag, ?other, ?frame⟩,
    .of_eq exec_swtightWrite_second ⟨?duty, ?dwell, ?flag2, ?other2, ?frame2⟩⟩
  case pmax => rw [regsBut_refreshLimits.getS Reg.RF_SWTIGHT_notMem, getS_PMAX_swtight]
  case lbtthr => rw [regsBut_refreshLimits.getS Reg.RF_SWTIGHT_notMem, getS_LBTTHR_swtight]
  case lbttime => rw [regsBut_refreshLimits.get Reg.RF_SWTIGHT_notMem, get_LBTTIME_swtight]
  case flag =>
    rw [regsBut_refreshLimits.has Reg.RF_FLAGS_notMem, has_TIGHTREJ_swtight, State.loosens_falling rfl,
      State.loosens_falling rfl, State.loosens_LBTTIME]
  case other =>
    rw [regsBut_refreshLimits _ Reg.RF_SWTIGHT2_notMem, regsBut_swtight _ (by
      simp [Reg.RF_SWTIGHT_ne_SWTIGHT2.symm, Reg.RF_SWTIGHT2_ne_FLAGS])]
  case frame => exact ((onlyIn_swtight.mono (by decide)).trans onlyIn_refreshLimits).frame_regs_rf
  case duty => rw [regsBut_refreshLimits.get Reg.RF_SWTIGHT2_notMem, get_DUTY_swtight2]
  case dwell => rw [regsBut_refreshLimits.get Reg.RF_SWTIGHT2_notMem, get_DWELL_swtight2]
  case flag2 => rw [regsBut_refreshLimits.has Reg.RF_FLAGS_notMem, has_TIGHTREJ_swtight2]
  case other2 =>
    rw [regsBut_refreshLimits _ Reg.RF_SWTIGHT_notMem, regsBut_swtight2 _ (by
      simp [Reg.RF_SWTIGHT_ne_SWTIGHT2, Reg.RF_SWTIGHT_ne_FLAGS])]
  case frame2 => exact ((onlyIn_swtight2.mono (by decide)).trans onlyIn_refreshLimits).frame_regs_rf

end Sys2Proof.Machine
end

section
/-!
SUPPORT. The records of LINK RAM (chapter 10). A field of a record is a run of bits of memory, counted from bit 0 of octet 0:
a write of one field sets that run and no other bit, so that fields which share no bit do not disturb each other, in one
record or in two.
-/

namespace Sys2Proof.Machine

variable {s t : State} {a b n k i v x : Nat} {f g : RamField} {l : List Part}

/-- Bit i of memory, counted from bit 0 of octet 0. -/
def State.memBit (s : State) (i : Nat) : Bool := (s.byte (i / 8)).toNat.testBit (i % 8)

theorem State.testBit_num : (s.num a n).testBit k = (decide (k < 8 * n) && s.memBit (8 * a + k)) := by
  induction n generalizing a k with
  | zero => simp [State.num, State.bytes, natOfLE]
  | succ n ih =>
    have hnum : s.num a (n + 1) = 2 ^ 8 * s.num (a + 1) n + (s.byte a).toNat := by
      simp only [State.num, State.bytes, natOfLE]
      omega
    rw [hnum, Nat.testBit_two_pow_mul_add _ (s.byte a).isLt]
    by_cases hk : k < 8
    case pos =>
      have hdiv : (8 * a + k) / 8 = a := by omega
      have hmod : (8 * a + k) % 8 = k := by omega
      rw [if_pos hk, State.memBit, hdiv, hmod]
      simp [show k < 8 * (n + 1) by omega]
    case neg =>
      rw [if_neg hk, ih, show 8 * (a + 1) + (k - 8) = 8 * a + k by omega]
      exact congrArg (· && _) (decide_eq_decide.mpr (by omega))

theorem State.memBit_setNum : (s.setNum a n x).memBit i
    = if 8 * a ≤ i ∧ i < 8 * a + 8 * n then x.testBit (i - 8 * a) else s.memBit i := by
  induction n generalizing a x s with
  | zero => simp [State.setNum, bytesLE, State.setBytes]
  | succ n ih =>
    have hstep : s.setNum a (n + 1) x = (s.setByte a (BitVec.ofNat 8 x)).setNum (a + 1) n (x / 256) := rfl
    rw [hstep, ih, State.memBit, State.byte_setByte]
    by_cases hrest : 8 * (a + 1) ≤ i ∧ i < 8 * (a + 1) + 8 * n
    case pos =>
      rw [if_pos hrest, if_pos (by omega), show (256 : Nat) = 2 ^ 8 from rfl, Nat.testBit_div_two_pow]
      exact congrArg x.testBit (by omega)
    case neg =>
      rw [if_neg hrest]
      by_cases hfirst : i / 8 = a
      case pos =>
        rw [if_pos hfirst, if_pos (by omega), BitVec.toNat_ofNat, Nat.testBit_mod_two_pow,
          show i - 8 * a = i % 8 by omega]
        simp [Nat.mod_lt]
      case neg =>
        rw [if_neg hfirst, if_neg (by omega), State.memBit]

/-! ### A field read, and a field written -/

theorem State.testBit_ram : (s.ram a f).testBit k = (decide (k < f.width) && s.memBit (8 * a + f.lo + k)) := by
  rw [State.ram, State.bitsAt, Nat.testBit_mod_two_pow, Nat.testBit_div_two_pow, State.testBit_num]
  by_cases hk : k < f.width
  case pos =>
    have hin : f.lo % 8 + k < 8 * ((f.lo % 8 + f.width + 7) / 8) := by omega
    rw [Nat.add_comm k, show 8 * (a + f.lo / 8) + (f.lo % 8 + k) = 8 * a + f.lo + k by omega]
    simp [hk, hin]
  case neg => simp [hk]

theorem State.memBit_setRam : (s.setRam a f v).memBit i
    = if 8 * a + f.lo ≤ i ∧ i < 8 * a + f.lo + f.width then v.testBit (i - (8 * a + f.lo)) else s.memBit i := by
  rw [State.setRam, State.setBitsAt, State.memBit_setNum, testBit_fieldPut]
  by_cases hoct : 8 * (a + f.lo / 8) ≤ i ∧ i < 8 * (a + f.lo / 8) + 8 * ((f.lo % 8 + f.width + 7) / 8)
  case neg => rw [if_neg hoct, if_neg (by omega)]
  case pos =>
    rw [if_pos hoct]
    by_cases hin : 8 * a + f.lo ≤ i ∧ i < 8 * a + f.lo + f.width
    case pos =>
      rw [if_pos hin, if_pos (by dsimp only; omega)]
      exact congrArg v.testBit (by dsimp only; omega)
    case neg =>
      rw [if_neg hin, if_neg (by dsimp only; omega), State.testBit_num,
        show 8 * (a + f.lo / 8) + (i - 8 * (a + f.lo / 8)) = i by omega]
      simp [show i - 8 * (a + f.lo / 8) < 8 * ((f.lo % 8 + f.width + 7) / 8) by omega]

/-- A field reads as it was written, modulo its width. -/
@[simp] theorem State.ram_setRam_self : (s.setRam a f v).ram a f = v % 2 ^ f.width := by
  refine Nat.eq_of_testBit_eq fun k => ?_
  rw [State.testBit_ram, State.memBit_setRam, Nat.testBit_mod_two_pow]
  by_cases hk : k < f.width
  case pos =>
    rw [if_pos (by omega), show 8 * a + f.lo + k - (8 * a + f.lo) = k by omega]
  case neg => simp [hk]

/-- Fields that share no bit do not disturb each other. -/
theorem State.ram_setRam_apart (h : 8 * a + f.lo + f.width ≤ 8 * b + g.lo ∨ 8 * b + g.lo + g.width ≤ 8 * a + f.lo) :
    (s.setRam a f v).ram b g = s.ram b g := by
  refine Nat.eq_of_testBit_eq fun k => ?_
  rw [State.testBit_ram, State.testBit_ram, State.memBit_setRam]
  by_cases hk : k < g.width
  case pos => rw [if_neg (by omega)]
  case neg => simp [hk]

/-- Fields of one record that share no bit. -/
def RamField.apart (f g : RamField) : Bool := decide (f.lo + f.width ≤ g.lo) || decide (g.lo + g.width ≤ f.lo)

@[simp] theorem State.ram_setRam_of_apart (h : f.apart g = true) : (s.setRam a f v).ram a g = s.ram a g := by
  have h : f.lo + f.width ≤ g.lo ∨ g.lo + g.width ≤ f.lo := by simpa [RamField.apart] using h
  exact State.ram_setRam_apart (by omega)

theorem State.byte_setRam_out (h : b < a + f.lo / 8 ∨ a + (f.lo + f.width + 7) / 8 ≤ b) :
    (s.setRam a f v).byte b = s.byte b := State.byte_setNum_out (by omega)

theorem State.ram_congr (h : ∀ c, a + f.lo / 8 ≤ c → c < a + (f.lo + f.width + 7) / 8 → t.byte c = s.byte c) :
    t.ram a f = s.ram a f := by
  rw [State.ram, State.ram, State.bitsAt, State.bitsAt, State.num_congr fun c h₁ h₂ => h c h₁ (by omega)]

theorem SameBytes.ram (h : SameBytes s t) : t.ram a f = s.ram a f := State.ram_congr fun c _ _ => h c

theorem State.ram_eq_of_mem (h : t.mem = s.mem) : t.ram a f = s.ram a f := (SameBytes.of_mem h).ram

theorem State.ram_lt : s.ram a f < 2 ^ f.width := Nat.mod_lt _ (Nat.two_pow_pos _)

@[simp] theorem onlyIn_setRam (h : .mem ∈ l) : OnlyIn l s (t.setRam a f v) ↔ OnlyIn l s t := onlyIn_setNum h

@[simp] theorem State.setRam_regs : (s.setRam a f v).regs = s.regs := State.setNum_regs
@[simp] theorem State.setRam_edges : (s.setRam a f v).edges = s.edges := State.setNum_edges
@[simp] theorem regsBut_setRam {r : List Nat} : RegsBut r s (t.setRam a f v) ↔ RegsBut r s t := regsBut_congr State.setRam_regs

/-! ### Octets outside a range -/

theorem BytesOutside.refl : BytesOutside a n s s := fun _ _ => rfl

theorem BytesOutside.trans {u : State} (h : BytesOutside a n s t) (h' : BytesOutside a n t u) : BytesOutside a n s u :=
  fun c hc => (h' c hc).trans (h c hc)

theorem BytesOutside.of_mem (h : t.mem = s.mem) : BytesOutside a n s t := fun _ _ => State.byte_congr h

theorem BytesOutside.of_sameBytes (h : SameBytes s t) : BytesOutside a n s t := fun c _ => h c

theorem BytesOutside.mono {c m : Nat} (h : BytesOutside a n s t) (hlo : c ≤ a) (hhi : a + n ≤ c + m) : BytesOutside c m s t :=
  fun d hd => h d (by omega)

theorem BytesOutside.ite {u : State} {p : Prop} [Decidable p] (ht : BytesOutside a n s t) (hu : BytesOutside a n s u) :
    BytesOutside a n s (if p then t else u) := by
  split <;> assumption

theorem BytesOutside.forEach {α : Type} {xs : List α} {h : α → State → State}
    (hf : ∀ x ∈ xs, ∀ s, BytesOutside a n s (h x s)) : BytesOutside a n s (s.forEach xs h) := by
  induction xs generalizing s with
  | nil => exact .refl
  | cons x xs ih => exact (hf x List.mem_cons_self s).trans (ih fun y hy => hf y (List.mem_cons_of_mem _ hy))

theorem bytesOutside_setRam (hlo : a ≤ b + f.lo / 8) (hhi : b + (f.lo + f.width + 7) / 8 ≤ a + n) :
    BytesOutside a n s (s.setRam b f v) := fun _ hc => State.byte_setRam_out (by omega)

/-- A field of another part of memory reads as before. -/
theorem BytesOutside.ram (h : BytesOutside a n s t) (hout : b + (f.lo + f.width + 7) / 8 ≤ a ∨ a + n ≤ b + f.lo / 8) :
    t.ram b f = s.ram b f := State.ram_congr fun c _ _ => h c (by omega)

end Sys2Proof.Machine
end

section
/-!
SUPPORT. Tide time's source, stratum and steps (R84, R100 to R103, R117, R120, R628), and what a step moves with it (R29).
-/

namespace Sys2Proof.Machine

variable {s t : State} {a n k v : Nat} {d : Int}

/-! ### Gates that a step crosses, or that a new stratum arms -/

/-- The registers of the gates, and the count of skipped times. -/
def gateRegs : List Nat := Reg.TIDE_GATESKIP
  :: (List.range 32).flatMap fun n => [Reg.TIDE_GATE_TLO n, Reg.TIDE_GATE_THI n, Reg.TIDE_GATE_CTL n]

theorem notMem_gateRegs (h : a < Reg.TIDE_GATESKIP) : a ∉ gateRegs := by
  intro hmem
  rcases List.mem_cons.mp hmem with rfl | hmem
  · exact Nat.lt_irrefl _ h
  · obtain ⟨n, -, ha⟩ := List.mem_flatMap.mp hmem
    simp only [Reg.TIDE_GATESKIP, Reg.TIDE_GATE_TLO, Reg.TIDE_GATE_THI, Reg.TIDE_GATE_CTL, List.mem_cons, List.not_mem_nil,
      or_false] at h ha
    omega

theorem mem_gateRegs (hn : n < 32) (ha : a ∈ [Reg.TIDE_GATE_TLO n, Reg.TIDE_GATE_THI n, Reg.TIDE_GATE_CTL n]) :
    a ∈ gateRegs := List.mem_cons_of_mem _ (List.mem_flatMap.mpr ⟨n, List.mem_range.mpr hn, ha⟩)

theorem onlyIn_setGateT : OnlyIn [.regs] s (s.setGateT n v) := by simp [State.setGateT]

theorem regsBut_setGateT (hn : n < 32) : RegsBut gateRegs s (s.setGateT n v) := by
  have hlo : Reg.TIDE_GATE_TLO n ∈ gateRegs := mem_gateRegs hn (by simp)
  have hhi : Reg.TIDE_GATE_THI n ∈ gateRegs := mem_gateRegs hn (by simp)
  simp [State.setGateT, Fld.TIDE_GATE_TLO_T, Fld.TIDE_GATE_THI_T, hlo, hhi]

theorem onlyIn_gateArmOffset : OnlyIn [.regs] s (gateArmOffset n s) := by simp [gateArmOffset, State.setGateT]

theorem regsBut_gateArmOffset (hn : n < 32) : RegsBut gateRegs s (gateArmOffset n s) := by
  have hctl : Reg.TIDE_GATE_CTL n ∈ gateRegs := mem_gateRegs hn (by simp)
  simp [gateArmOffset, Fld.TIDE_GATE_CTL_ARMSYNC, hctl, regsBut_setGateT hn]

theorem onlyIn_gatesRelease : OnlyIn [.regs] s (gatesRelease s) :=
  OnlyIn.forEach (fun _ _ => .ite onlyIn_gateArmOffset .refl) .refl

theorem regsBut_gatesRelease : RegsBut gateRegs s (gatesRelease s) :=
  RegsBut.forEach fun _ hn _ => regsBut_ite (regsBut_gateArmOffset (List.mem_range.mp hn)) .refl

/-- A step that changes gate registers and what is remembered of steps: tide time itself stays. -/
structure GateStep (s t : State) : Prop where
  frame : OnlyIn [.regs, .tide] s t
  regs : RegsBut gateRegs s t
  acc : t.tide.acc = s.tide.acc
  elapsed : t.tide.elapsed = s.tide.elapsed

theorem GateStep.refl : GateStep s s := ⟨.refl, .refl, rfl, rfl⟩

theorem GateStep.trans {u : State} (h : GateStep s t) (h' : GateStep t u) : GateStep s u :=
  ⟨h.frame.trans h'.frame, h.regs.trans h'.regs, h'.acc.trans h.acc, h'.elapsed.trans h.elapsed⟩

theorem GateStep.of_onlyRegs (h : OnlyIn [.regs] s t) (hr : RegsBut gateRegs s t) : GateStep s t :=
  ⟨h.mono (by decide), hr, congrArg Tide.acc (h.tide (by decide)), congrArg Tide.elapsed (h.tide (by decide))⟩

theorem GateStep.ite {u : State} {p : Prop} [Decidable p] (ht : GateStep s t) (hu : GateStep s u) :
    GateStep s (if p then t else u) := by
  split <;> assumption

theorem GateStep.forEach {f : Nat → State → State} {xs : List Nat} (hf : ∀ n ∈ xs, ∀ s, GateStep s (f n s)) :
    GateStep s (s.forEach xs f) := by
  induction xs generalizing s with
  | nil => exact .refl
  | cons n xs ih => exact (hf n List.mem_cons_self s).trans (ih fun m hm => hf m (List.mem_cons_of_mem _ hm))

theorem gateStep_setGateStepped {b : Bool} : GateStep s (s.setGateStepped n b) :=
  ⟨(onlyIn_tide (by decide)).mpr .refl, .of_regs rfl, rfl, rfl⟩

theorem gateStep_setGateLateNext {b : Bool} : GateStep s (s.setGateLateNext n b) :=
  ⟨(onlyIn_tide (by decide)).mpr .refl, .of_regs rfl, rfl, rfl⟩

theorem gateStep_gateCross {old new : Nat} (hn : n < 32) : GateStep s (gateCross old new n s) := by
  have hctl : Reg.TIDE_GATE_CTL n ∈ gateRegs := mem_gateRegs hn (by simp)
  have hskip : Reg.TIDE_GATESKIP ∈ gateRegs := List.mem_cons_self
  unfold gateCross
  extract_lets T per later s₁ skips s₂
  have h₁ : GateStep s s₁ := .ite .refl (.of_onlyRegs onlyIn_setGateT (regsBut_setGateT hn))
  have hskips : ∀ k, GateStep s (skips k s₁) := fun k => h₁.trans (.ite .refl (.of_onlyRegs (by simp)
    (by simp [Fld.TIDE_GATESKIP_SKIPS, Fld.TIDE_GATESKIP_LASTGATE, hskip])))
  have h₂ : GateStep s s₂ := hskips _
  have hoff : GateStep s₂ (s₂.unflag (Fld.TIDE_GATE_CTL_EN n)) :=
    .of_onlyRegs (by simp) (by simp [Fld.TIDE_GATE_CTL_EN, hctl])
  refine .ite (.ite (.ite (h₂.trans hoff) h₂) ?_) .refl
  exact ((hskips _).trans gateStep_setGateStepped).trans gateStep_setGateLateNext

/-! ### A step of tide time -/

/-- Tide time moved by a step, before any gate is looked at. -/
def State.tideMoved (d : Int) (s : State) : State :=
  { s with tide := { s.tide with acc := ((s.tide.acc : Int) + d * 2 ^ 32).toNat } }

/-- What a step sets beside TIDE_NOW. -/
def State.stepped (d : Int) (s : State) : State :=
  ((((s.tideMoved d).flag Fld.TIDE_FLAGS_STEP).inc Fld.TIDE_CNT_STEPS).incWrap Fld.TIDE_STAT_STEPEPOCH).fire EV.TIDE_STEP

theorem tideStep_eq : tideStep d s = if s.now < (s.stepped d).now
    then (s.stepped d).forEach (List.range 32) (gateCross s.now (s.stepped d).now) else s.stepped d := rfl

theorem gateStep_tideStep : GateStep (s.stepped d) (tideStep d s) := by
  rw [tideStep_eq]
  exact .ite (.forEach fun n hn _ => gateStep_gateCross (List.mem_range.mp hn)) .refl

/-- A step back crosses no gate. -/
theorem tideStep_of_le (h : (s.stepped d).now ≤ s.now) : tideStep d s = s.stepped d := by
  rw [tideStep_eq, if_neg (Nat.not_lt.mpr h)]

theorem State.now_congr (h : t.tide = s.tide) : t.now = s.now := by rw [State.now, State.now, h]

theorem GateStep.now (h : GateStep s t) : t.now = s.now := by rw [State.now, State.now, h.acc]

theorem onlyIn_stepped : OnlyIn [.regs, .tide, .edges] s (s.stepped d) := by
  have h : OnlyIn [.regs, .tide, .edges] s (s.tideMoved d) := (onlyIn_tide (by decide)).mpr .refl
  simp [State.stepped, h]

theorem regsBut_stepped : RegsBut [Reg.TIDE_STAT, Reg.TIDE_FLAGS, Reg.TIDE_CNT] s (s.stepped d) := by
  have h : ∀ l, RegsBut l s (s.tideMoved d) := fun _ => .of_regs rfl
  simp [State.stepped, Fld.TIDE_FLAGS_STEP, Fld.TIDE_CNT_STEPS, Fld.TIDE_STAT_STEPEPOCH, h]

theorem tide_stepped : (s.stepped d).tide = (s.tideMoved d).tide := by simp [State.stepped]

theorem elapsed_stepped : (s.stepped d).tide.elapsed = s.tide.elapsed :=
  (congrArg Tide.elapsed tide_stepped).trans rfl

theorem now_stepped (h : 0 ≤ (s.now : Int) + d) : ((s.stepped d).now : Int) = s.now + d := by
  have hnow : (s.stepped d).now = ((s.tide.acc : Int) + d * 2 ^ 32).toNat / 2 ^ 32 := by
    rw [State.now, tide_stepped]
    rfl
  rw [hnow, State.now] at *
  omega

theorem edges_tideMoved : (s.tideMoved d).edges = s.edges := rfl

theorem fires_stepped : Fires [EV.TIDE_STEP] s (s.stepped d) := Fires.fire (by simp [edges_tideMoved])

theorem State.get_tideMoved {f : Field} : (s.tideMoved d).get f = s.get f := rfl

theorem has_STEP_stepped : (s.stepped d).has Fld.TIDE_FLAGS_STEP = true := by
  unfold State.stepped
  rw [State.has_fire, State.incWrap_eq_put, State.has_put_other (by decide), State.inc_eq_put,
    State.has_put_other (by decide), State.has_flag (by decide) (by decide)]

theorem get_STEPEPOCH_stepped : (s.stepped d).get Fld.TIDE_STAT_STEPEPOCH = (s.get Fld.TIDE_STAT_STEPEPOCH + 1) % 256 := by
  unfold State.stepped
  rw [State.get_fire, State.get_incWrap (by decide), State.inc_eq_put, State.get_put_other (by decide), State.flag_eq_put,
    State.get_put_other (by decide), State.get_tideMoved]
  rfl

theorem get_STEPS_stepped : (s.stepped d).get Fld.TIDE_CNT_STEPS = s.counted Fld.TIDE_CNT_STEPS := by
  unfold State.stepped
  rw [State.get_fire, State.incWrap_eq_put, State.get_put_other (by decide), State.get_inc_fits rfl, State.counted,
    State.flag_eq_put, State.get_put_other (by decide), State.get_tideMoved]
  rfl

/-! ### The supervision deadlines move with a step -/

theorem forEach_eq_self {α : Type} {xs : List α} {f : α → State → State} (h : ∀ x ∈ xs, f x s = s) : s.forEach xs f = s := by
  induction xs with
  | nil => rfl
  | cons x xs ih =>
    have hx : f x s = s := h x List.mem_cons_self
    rw [State.forEach, List.foldl_cons, hx]
    exact ih fun y hy => h y (List.mem_cons_of_mem _ hy)

/-- The deadline of one context moved by the step from `old` on. -/
def supShiftOne (old c : Nat) (s : State) : State :=
  if s.ctxBit c CF.CONN then s.setCtx c CF.SUPDL ((s.ctx c CF.SUPDL + s.now + 2 ^ 40 - old % 2 ^ 40) % 2 ^ 40) else s

theorem supShift_eq {old : Nat} : supShift old s = s.forEach (List.range 512) (supShiftOne old) := rfl

theorem onlyIn_supShiftOne {old c : Nat} : OnlyIn [.mem] s (supShiftOne old c s) := .ite (onlyIn_setRam (by decide) |>.mpr .refl) .refl

theorem onlyIn_supShift {old : Nat} : OnlyIn [.mem] s (supShift old s) := OnlyIn.forEach (fun _ _ => onlyIn_supShiftOne) .refl

theorem bytesOutside_supShiftOne {old c : Nat} (hc : c < 512) :
    BytesOutside (ctxAddr 0) 65536 s (supShiftOne old c s) := by
  refine .ite (bytesOutside_setRam ?_ ?_) .refl
  · simp only [ctxAddr]
    omega
  · simp only [ctxAddr, CF.SUPDL]
    omega

theorem bytesOutside_supShift {old : Nat} : BytesOutside (ctxAddr 0) 65536 s (supShift old s) :=
  .forEach fun _ hc _ => bytesOutside_supShiftOne (List.mem_range.mp hc)

/-- Another context's fields are not in the way. -/
theorem ctx_supShiftOne_ne {old c : Nat} {f : RamField} (h : k ≠ c) (hf : f.lo + f.width ≤ 1024) :
    (supShiftOne old c s).ctx k f = s.ctx k f := by
  unfold supShiftOne
  split
  · refine State.ram_setRam_apart ?_
    simp only [ctxAddr, CF.SUPDL]
    omega
  · rfl

theorem ctxBit_supShiftOne {old c : Nat} : (supShiftOne old c s).ctxBit k CF.CONN = s.ctxBit k CF.CONN := by
  have hctx : (supShiftOne old c s).ctx k CF.CONN = s.ctx k CF.CONN := by
    by_cases h : k = c
    case pos =>
      unfold supShiftOne
      split
      · exact h ▸ State.ram_setRam_of_apart rfl
      · rfl
    case neg => exact ctx_supShiftOne_ne h (by decide)
  rw [State.ctxBit, State.ctxBit, hctx]

/-- The number that a connected context's deadline becomes. -/
def supMoved (old now dl : Nat) : Nat := (dl + now + 2 ^ 40 - old % 2 ^ 40) % 2 ^ 40

theorem now_supShiftOne {old c : Nat} : (supShiftOne old c s).now = s.now := by
  rw [State.now, State.now, onlyIn_supShiftOne.tide (by decide)]

theorem ctx_SUPDL_supShift {old : Nat} {xs : List Nat} (hx : xs.Nodup) :
    (s.forEach xs (supShiftOne old)).ctx k CF.SUPDL
      = if k ∈ xs ∧ s.ctxBit k CF.CONN = true then supMoved old s.now (s.ctx k CF.SUPDL) else s.ctx k CF.SUPDL := by
  induction xs generalizing s with
  | nil => simp [State.forEach]
  | cons c xs ih =>
    obtain ⟨hc, hxs⟩ := List.nodup_cons.mp hx
    refine (ih (s := supShiftOne old c s) hxs).trans ?_
    rw [ctxBit_supShiftOne, now_supShiftOne]
    by_cases hk : k = c
    case neg => simp [hk, ctx_supShiftOne_ne (f := CF.SUPDL) hk (by decide)]
    case pos =>
      subst hk
      rw [if_neg (fun h => hc h.1)]
      by_cases hconn : s.ctxBit k CF.CONN = true
      case pos =>
        rw [if_pos ⟨List.mem_cons_self, hconn⟩, supShiftOne, if_pos hconn]
        exact State.ram_setRam_self.trans (Nat.mod_mod ..)
      case neg => rw [if_neg (fun h => hconn h.2), supShiftOne, if_neg hconn]

/-- No deadline moves where no context is connected. -/
theorem supShift_of_none {old : Nat} (h : ∀ c, c < 512 → s.ctxBit c CF.CONN = false) : supShift old s = s :=
  forEach_eq_self fun c hc => if_neg (by simp [h c (List.mem_range.mp hc)])

/-- No entry of the timeline is crossed where none is valid. -/
theorem tlCross_of_none (h : ∀ n, n < 64 → s.tl n TF.VALID = 0) : tlCross s = s :=
  forEach_eq_self fun n hn => if_neg (by simp [h n (List.mem_range.mp hn)])

/-! ### Stratum and source -/

/-- STRATUM and SYNCED as a new stratum leaves them. -/
def State.stratumPut (v : Nat) (s : State) : State :=
  (s.put Fld.TIDE_STAT_STRATUM v).put Fld.TIDE_STAT_SYNCED (if v < 15 then 1 else 0)

theorem setStratum_of_known (h : s.stratum ≠ 15 ∨ v = 15) : setStratum v s = s.stratumPut v :=
  if_neg fun hc => h.elim (· hc.1) (fun hv => absurd hc.2 (by omega))

/-- Leaving stratum 15 fires EV_TIDE_SYNC and arms the gates that waited for it. -/
theorem setStratum_of_unknown (h : s.stratum = 15) (hv : v < 15) :
    setStratum v s = gatesRelease (((s.stratumPut v).flag Fld.TIDE_FLAGS_SYNC).fire EV.TIDE_SYNC) := if_pos ⟨h, hv⟩

theorem onlyIn_setStratum : OnlyIn [.regs, .edges] s (setStratum v s) := by
  unfold setStratum
  extract_lets was s₁
  have h₁ : OnlyIn [.regs, .edges] s s₁ := by simp [s₁]
  exact .ite (OnlyIn.trans (by simp [h₁]) (onlyIn_gatesRelease.mono (by decide))) h₁

theorem fires_setStratum : Fires (if s.stratum = 15 ∧ v < 15 then [EV.TIDE_SYNC] else []) s (setStratum v s) := by
  by_cases h : s.stratum = 15 ∧ v < 15
  case pos =>
    rw [if_pos h, setStratum_of_unknown h.1 h.2, Fires, onlyIn_gatesRelease.edges (by decide)]
    exact Fires.fire (by simp [State.stratumPut])
  case neg =>
    rw [if_neg h]
    unfold setStratum
    exact .none (by rw [if_neg h]; simp)

theorem get_TIDE_STAT_setStratum {f : Field} (hf : f.addr = Reg.TIDE_STAT) : (setStratum v s).get f = (s.stratumPut v).get f := by
  by_cases h : s.stratum = 15 ∧ v < 15
  case neg =>
    unfold setStratum
    exact congrArg (State.get · f) (if_neg h)
  case pos =>
    have hgates : f.addr ∉ gateRegs := notMem_gateRegs (hf ▸ by decide)
    have hflags : f.addr ≠ Fld.TIDE_FLAGS_SYNC.addr := hf ▸ by decide
    rw [setStratum_of_unknown h.1 h.2, regsBut_gatesRelease.get hgates, State.get_fire, State.flag_eq_put,
      State.get_put_other hflags]

theorem has_TIDE_STAT_setStratum {f : Field} (hf : f.addr = Reg.TIDE_STAT) : (setStratum v s).has f = (s.stratumPut v).has f :=
  State.has_eq_of_get (get_TIDE_STAT_setStratum hf)

theorem get_TIDE_CFG_setStratum {f : Field} (hf : f.addr = Reg.TIDE_CFG) : (setStratum v s).get f = s.get f := by
  have hgates : f.addr ∉ gateRegs := notMem_gateRegs (hf ▸ by decide)
  have hflags : f.addr ≠ Fld.TIDE_FLAGS_SYNC.addr := hf ▸ by decide
  have hstat : f.addr ≠ Reg.TIDE_STAT := hf ▸ by decide
  have hput : (s.stratumPut v).get f = s.get f := by
    rw [State.stratumPut, State.get_put_other hstat, State.get_put_other hstat]
  by_cases h : s.stratum = 15 ∧ v < 15
  case neg =>
    unfold setStratum
    exact (congrArg (State.get · f) (if_neg h)).trans hput
  case pos =>
    rw [setStratum_of_unknown h.1 h.2, regsBut_gatesRelease.get hgates, State.get_fire, State.flag_eq_put,
      State.get_put_other hflags, hput]

theorem regsBut_stratumPut : RegsBut [Reg.TIDE_STAT] s (s.stratumPut v) := by
  simp [State.stratumPut, Fld.TIDE_STAT_STRATUM, Fld.TIDE_STAT_SYNCED]

theorem onlyIn_parentLose : OnlyIn [.regs] s (parentLose s) := by simp [parentLose]

theorem regsBut_parentLose : RegsBut [Reg.TIDE_STAT] s (parentLose s) := by
  simp [parentLose, Fld.TIDE_STAT_PVALID, Fld.TIDE_STAT_HOLDOVER]

theorem stratum_parentLose : (parentLose s).stratum = s.stratum := by
  simp [State.stratum, parentLose, State.flag_eq_put, State.unflag_eq_put, Fld.TIDE_STAT_PVALID, Fld.TIDE_STAT_HOLDOVER,
    Fld.TIDE_STAT_STRATUM]

theorem has_PVALID_parentLose : (parentLose s).has Fld.TIDE_STAT_PVALID = false := by
  simp [parentLose, State.flag_eq_put, State.unflag_eq_put, Fld.TIDE_STAT_PVALID, Fld.TIDE_STAT_HOLDOVER]

theorem has_HOLDOVER_parentLose : (parentLose s).has Fld.TIDE_STAT_HOLDOVER = true := by
  simp [parentLose, State.flag_eq_put, State.unflag_eq_put, Fld.TIDE_STAT_HOLDOVER]

/-! ### What the commands answer -/

theorem exec_parentLossTimeout_of_parent (hsrc : s.get Fld.TIDE_CFG_SRCSEL = 0) (hv : s.has Fld.TIDE_STAT_PVALID = true) :
    exec .parentLossTimeout s = .next (parentLose s) := congrArg Host.Outcome.next (if_pos ⟨hsrc, hv⟩)

/-- The state in which HOLDMAX runs out: a parent that was still valid is lost first. -/
def State.parentLost (s : State) : State := if s.has Fld.TIDE_STAT_PVALID then parentLose s else s

theorem exec_holdmaxExpiry_of_counting (hsrc : s.get Fld.TIDE_CFG_SRCSEL ≠ 2) (hst : s.stratum ≠ 15) :
    exec .holdmaxExpiry s = .next (stratumLost s.parentLost) := by
  have hno : ¬ (s.get Fld.TIDE_CFG_SRCSEL = 2 ∨ s.stratum = 15) := by simp [hsrc, hst]
  exact if_neg hno

theorem onlyIn_parentLost : OnlyIn [.regs] s s.parentLost := .ite onlyIn_parentLose .refl

theorem regsBut_parentLost : RegsBut [Reg.TIDE_STAT] s s.parentLost := regsBut_ite regsBut_parentLose .refl

theorem stratum_parentLost : s.parentLost.stratum = s.stratum := by
  unfold State.parentLost
  split
  · exact stratum_parentLose
  · rfl

theorem has_PVALID_parentLost : s.parentLost.has Fld.TIDE_STAT_PVALID = false := by
  unfold State.parentLost
  by_cases h : s.has Fld.TIDE_STAT_PVALID = true
  case pos => rw [if_pos h, has_PVALID_parentLose]
  case neg => simp [h]

theorem stratumLost_eq (h : s.stratum ≠ 15) : stratumLost s
    = (((s.stratumPut 15).flag Fld.TIDE_FLAGS_LOST).inc Fld.TIDE_CNT_LOSTS).fire EV.TIDE_LOST := by
  rw [stratumLost, setStratum_of_known (.inl h)]

/-- The fields that a write of TIDE_CFG stores. -/
def State.tideCfg (v : Nat) (s : State) : State :=
  ((s.put Fld.TIDE_CFG_HOLDMAX (v / 2 ^ 16)).put Fld.TIDE_CFG_STEPTHR (v / 2 ^ 8)).put Fld.TIDE_CFG_SRCSEL v

/-- Candidates are forgotten, and no parent is valid or held over, where tide time becomes the source. -/
def State.sourceTaken (s : State) : State :=
  (State.unflag Fld.TIDE_STAT_PVALID { s with tide := { s.tide with cand := none } }).unflag Fld.TIDE_STAT_HOLDOVER

theorem srcselChange_to_tide {old : Nat} : srcselChange old 2 s = setStratum 0 s.sourceTaken := rfl

theorem exec_srcselWrite_to_tide {w : Word} (hw : w.toNat % 4 = 2) (hsrc : s.get Fld.TIDE_CFG_SRCSEL ≠ 2) :
    exec (.srcselWrite w) s = .next (setStratum 0 (s.tideCfg w.toNat).sourceTaken) := by
  rw [exec, execSrcselWrite, hw, if_neg hsrc]
  dsimp only
  rw [if_neg (show ¬ (2 = 1 ∧ s.ringRole = 2) by simp), srcselChange_to_tide, State.tideCfg]

theorem onlyIn_sourceTaken : OnlyIn [.regs, .tide] s s.sourceTaken := by
  have h : OnlyIn [.regs, .tide] s { s with tide := { s.tide with cand := none } } := (onlyIn_tide (by decide)).mpr .refl
  simp [State.sourceTaken, h]

theorem tide_sourceTaken : s.sourceTaken.tide = { s.tide with cand := none } := by simp [State.sourceTaken]

theorem regsBut_sourceTaken : RegsBut [Reg.TIDE_STAT] s s.sourceTaken := by
  simp [State.sourceTaken, Fld.TIDE_STAT_PVALID, Fld.TIDE_STAT_HOLDOVER]

theorem has_PVALID_sourceTaken : s.sourceTaken.has Fld.TIDE_STAT_PVALID = false := by
  simp [State.sourceTaken, State.unflag_eq_put, Fld.TIDE_STAT_PVALID, Fld.TIDE_STAT_HOLDOVER]

theorem has_HOLDOVER_sourceTaken : s.sourceTaken.has Fld.TIDE_STAT_HOLDOVER = false := by
  simp [State.sourceTaken, State.unflag_eq_put, Fld.TIDE_STAT_HOLDOVER]

theorem onlyIn_tideCfg : OnlyIn [.regs] s (s.tideCfg v) := by simp [State.tideCfg]

theorem regsBut_tideCfg : RegsBut [Reg.TIDE_CFG] s (s.tideCfg v) := by
  simp [State.tideCfg, Fld.TIDE_CFG_HOLDMAX, Fld.TIDE_CFG_STEPTHR, Fld.TIDE_CFG_SRCSEL]

theorem get_SRCSEL_tideCfg : (s.tideCfg v).get Fld.TIDE_CFG_SRCSEL = v % 4 := State.get_put_fits rfl

/-- The stratum is that of before where the source is taken. -/
theorem stratum_sourceTaken_tideCfg : (s.tideCfg v).sourceTaken.stratum = s.stratum := by
  have h : (s.tideCfg v).sourceTaken.get Fld.TIDE_STAT_STRATUM = (s.tideCfg v).get Fld.TIDE_STAT_STRATUM := by
    simp [State.sourceTaken, State.unflag_eq_put, Fld.TIDE_STAT_PVALID, Fld.TIDE_STAT_HOLDOVER, Fld.TIDE_STAT_STRATUM]
  rw [State.stratum, State.stratum, h, regsBut_tideCfg.get (by decide)]

theorem stratumPut_facts (hv : v < 15) :
    (s.stratumPut v).stratum = v ∧ (s.stratumPut v).has Fld.TIDE_STAT_SYNCED = true
    ∧ (s.stratumPut v).has Fld.TIDE_STAT_PVALID = s.has Fld.TIDE_STAT_PVALID
    ∧ (s.stratumPut v).has Fld.TIDE_STAT_HOLDOVER = s.has Fld.TIDE_STAT_HOLDOVER := by
  have hmod : v % 16 = v := Nat.mod_eq_of_lt (by omega)
  refine ⟨?_, ?_, ?_, ?_⟩ <;>
    simp [State.stratum, State.stratumPut, Fld.TIDE_STAT_STRATUM, Fld.TIDE_STAT_SYNCED, Fld.TIDE_STAT_PVALID,
      Fld.TIDE_STAT_HOLDOVER, hv, hmod]

theorem exec_tideAdjWrite_of_free {w : Word} (h : s.get Fld.TIDE_CFG_SRCSEL = 2 ∨ s.stratum = 15) :
    exec (.tideAdjWrite w) s = .next (timeStep w.toInt s) := if_pos h

/-- The state after a step and the deadlines moved with it. -/
theorem timeStep_of_none (h : ∀ n, n < 64 → s.tl n TF.VALID = 0) :
    timeStep d s = supShift s.now (tideStep d s) := by
  have hmem : (tideStep d s).mem = s.mem :=
    (gateStep_tideStep.frame.mem (by decide)).trans (onlyIn_stepped.mem (by decide))
  refine tlCross_of_none fun n hn => ?_
  rw [State.tl, bytesOutside_supShift.ram (by simp only [ctxAddr, tlAddr, TF.VALID]; omega), State.ram_eq_of_mem hmem]
  exact h n hn

theorem exec_slewEnd : exec .slewEnd s
    = .next (State.unflag Fld.TIDE_STAT_SLEWING { s with tide := { s.tide with slew := 0, slewLeft := 0 } }) := rfl

theorem exec_lfClockLoss : exec .lfClockLoss s
    = .next { s with snapshot := { s.snapshot with valid := false }, tide := { s.tide with lfPresent := false } } := rfl

/-- The registers of TIDE itself read after a step as the step set them: gates stand elsewhere. -/
theorem get_tideStep {f : Field} (h : f.addr < Reg.TIDE_GATESKIP) : (tideStep d s).get f = (s.stepped d).get f :=
  gateStep_tideStep.regs.get (notMem_gateRegs h)

theorem ctx_tideStep {f : RamField} : (tideStep d s).ctx k f = s.ctx k f :=
  State.ram_eq_of_mem ((gateStep_tideStep.frame.mem (by decide)).trans (onlyIn_stepped.mem (by decide)))

theorem ctxBit_tideStep {f : RamField} : (tideStep d s).ctxBit k f = s.ctxBit k f := by
  rw [State.ctxBit, State.ctxBit, ctx_tideStep]

theorem sameBytes_tideStep : SameBytes s (tideStep d s) :=
  .of_mem ((gateStep_tideStep.frame.mem (by decide)).trans (onlyIn_stepped.mem (by decide)))

/-- A deadline moves as far as tide time. -/
theorem supMoved_eq {old dl : Nat} {new : Nat} (h : (new : Int) = old + d) :
    supMoved old new dl = (((dl : Int) + d) % 2 ^ 40).toNat := by
  have hmod : old % 2 ^ 40 < 2 ^ 40 := Nat.mod_lt _ (by decide)
  rw [supMoved]
  omega

section
variable (hnow : 0 ≤ (s.now : Int) + d)
include hnow

theorem now_timeStep : ((supShift s.now (tideStep d s)).now : Int) = s.now + d := by
  have h : (supShift s.now (tideStep d s)).now = (tideStep d s).now :=
    State.now_congr (onlyIn_supShift.tide (by decide))
  rw [h, gateStep_tideStep.now, now_stepped hnow]

theorem ctx_SUPDL_timeStep (hk : k < 512) (hconn : s.ctxBit k CF.CONN = true) :
    (supShift s.now (tideStep d s)).ctx k CF.SUPDL = (((s.ctx k CF.SUPDL : Int) + d) % 2 ^ 40).toNat := by
  have hstep : ((tideStep d s).now : Int) = s.now + d := by rw [gateStep_tideStep.now, now_stepped hnow]
  rw [supShift_eq, ctx_SUPDL_supShift List.nodup_range, ctxBit_tideStep,
    if_pos ⟨List.mem_range.mpr hk, hconn⟩, supMoved_eq hstep, ctx_tideStep]

theorem regsBut_timeStep_back (hneg : d < 0) :
    RegsBut [Reg.TIDE_STAT, Reg.TIDE_FLAGS, Reg.TIDE_CNT] s (supShift s.now (tideStep d s)) := by
  have hle : (s.stepped d).now ≤ s.now := by
    have := now_stepped hnow
    omega
  have h : RegsBut [Reg.TIDE_STAT, Reg.TIDE_FLAGS, Reg.TIDE_CNT] s (tideStep d s) := tideStep_of_le hle ▸ regsBut_stepped
  exact h.trans (.of_regs (onlyIn_supShift.regs (by decide)))

end

theorem OnlyIn.frame_regs_tide_edges (h : OnlyIn [.regs, .tide, .edges] s t) :
    t = { s with regs := t.regs, tide := t.tide, edges := t.edges } := h.frame

/-- Settles O13: the parent, the source and the stratum of tide time, its steps and its slew. -/
theorem tideSourceAndSteps : Obligations.TideSourceAndSteps := by
  intro s
  refine ⟨fun hsrc hvalid => ?parent, fun hsrc hst => ?holdmax, fun v hv hsrc => ?source,
    fun d hfree hnow hnone => ?step, ?slew, .of_eq exec_lfClockLoss ⟨rfl, rfl, rfl⟩⟩
  case parent =>
    exact .of_eq (exec_parentLossTimeout_of_parent hsrc hvalid) ⟨has_PVALID_parentLose, has_HOLDOVER_parentLose,
      stratum_parentLose, regsBut_parentLose, onlyIn_parentLose.frame_regs⟩
  case holdmax =>
    have hst' : s.parentLost.stratum ≠ 15 := stratum_parentLost.symm ▸ hst
    have hpv : (s.parentLost.stratumPut 15).has Fld.TIDE_STAT_PVALID = false := by
      rw [← has_PVALID_parentLost (s := s)]
      simp [State.stratumPut, Fld.TIDE_STAT_STRATUM, Fld.TIDE_STAT_SYNCED, Fld.TIDE_STAT_PVALID]
    have hframe : OnlyIn [.regs, .edges] s s.parentLost := onlyIn_parentLost.mono (by decide)
    have hregs : RegsBut [Reg.TIDE_STAT, Reg.TIDE_FLAGS, Reg.TIDE_CNT] s s.parentLost := regsBut_parentLost.mono (by simp)
    rw [exec_holdmaxExpiry_of_counting hsrc hst, stratumLost_eq hst']
    refine .of_eq rfl ⟨?stratum, ?synced, ?pvalid, ?lost, ?losts, ?fires, ?others, OnlyIn.frame_regs_edges ?frame⟩
    case stratum => simp [State.stratum, State.stratumPut, State.flag_eq_put, State.inc_eq_put, Fld.TIDE_STAT_STRATUM,
      Fld.TIDE_STAT_SYNCED, Fld.TIDE_FLAGS_LOST, Fld.TIDE_CNT_LOSTS, Reg.TIDE_STAT, Reg.TIDE_FLAGS, Reg.TIDE_CNT]
    case synced => simp [State.stratumPut, State.flag_eq_put, State.inc_eq_put, Fld.TIDE_STAT_SYNCED, Fld.TIDE_FLAGS_LOST,
      Fld.TIDE_CNT_LOSTS, Reg.TIDE_STAT, Reg.TIDE_FLAGS, Reg.TIDE_CNT]
    case pvalid =>
      rw [State.has_fire, State.inc_eq_put, State.has_put_other (by decide), State.flag_eq_put,
        State.has_put_other (by decide), hpv]
    case lost =>
      rw [State.has_fire, State.inc_eq_put, State.has_put_other (by decide), State.has_flag (by decide) (by decide)]
    case losts =>
      have hcnt : ((s.parentLost.stratumPut 15).flag Fld.TIDE_FLAGS_LOST).get Fld.TIDE_CNT_LOSTS = s.get Fld.TIDE_CNT_LOSTS := by
        rw [State.flag_eq_put, State.get_put_other (by decide), regsBut_stratumPut.get (by decide),
          regsBut_parentLost.get (by decide)]
      rw [State.get_fire, State.get_inc_fits rfl, State.counted, hcnt]
      rfl
    case fires =>
      refine Fires.fire ?_
      rw [State.inc_edges, State.flag_edges, State.stratumPut, State.put_edges, State.put_edges]
      exact onlyIn_parentLost.edges (by decide)
    case others => simp [State.stratumPut, Fld.TIDE_STAT_STRATUM, Fld.TIDE_STAT_SYNCED, Fld.TIDE_FLAGS_LOST,
      Fld.TIDE_CNT_LOSTS, hregs]
    case frame => simp [State.stratumPut, hframe]
  case source =>
    obtain ⟨hstratum, hsynced, hpvalid, hholdover⟩ := stratumPut_facts (s := (s.tideCfg v.toNat).sourceTaken) (v := 0) (by decide)
    have hframe : OnlyIn [.regs, .tide] s (s.tideCfg v.toNat).sourceTaken :=
      (onlyIn_tideCfg.mono (by decide)).trans onlyIn_sourceTaken
    have htide : (setStratum 0 (s.tideCfg v.toNat).sourceTaken).tide = { (s.tideCfg v.toNat).tide with cand := none } :=
      (onlyIn_setStratum.tide (by decide)).trans tide_sourceTaken
    refine .of_eq (exec_srcselWrite_to_tide hv hsrc) ⟨?srcsel, (get_TIDE_STAT_setStratum rfl).trans hstratum,
      (has_TIDE_STAT_setStratum rfl).trans hsynced, ?pvalid, ?holdover, ?cand, ?fires, ?others, ?frame⟩
    case srcsel => rw [get_TIDE_CFG_setStratum rfl, regsBut_sourceTaken.get (by decide), get_SRCSEL_tideCfg, hv]
    case pvalid => rw [has_TIDE_STAT_setStratum rfl, hpvalid, has_PVALID_sourceTaken]
    case holdover => rw [has_TIDE_STAT_setStratum rfl, hholdover, has_HOLDOVER_sourceTaken]
    case cand => rw [htide]
    case fires =>
      have h := fires_setStratum (s := (s.tideCfg v.toNat).sourceTaken) (v := 0)
      rw [stratum_sourceTaken_tideCfg] at h
      simpa [Fires, hframe.edges (by decide)] using h
    case others =>
      intro hst
      rw [setStratum_of_known (.inl (stratum_sourceTaken_tideCfg.symm ▸ hst))]
      exact (regsBut_tideCfg.mono (by simp)).trans ((regsBut_sourceTaken.mono (by simp)).trans (regsBut_stratumPut.mono (by simp)))
    case frame =>
      exact OnlyIn.frame_regs_tide_edges ((hframe.mono (by decide)).trans (onlyIn_setStratum.mono (by decide)))
  case step =>
    have hreg : ∀ f : Field, f.addr < Reg.TIDE_GATESKIP →
        (supShift s.now (tideStep d.toInt s)).get f = (s.stepped d.toInt).get f := fun f hf =>
      (State.get_congr (onlyIn_supShift.regs (by decide))).trans (get_tideStep hf)
    rw [exec_tideAdjWrite_of_free hfree, timeStep_of_none hnone]
    refine .of_eq rfl ⟨now_timeStep hnow, ?elapsed, ?flag, ?epoch, ?steps, ?fires, regsBut_timeStep_back hnow,
      fun c hc hconn => ctx_SUPDL_timeStep hnow hc hconn, fun hconn => ?same,
      (BytesOutside.of_sameBytes sameBytes_tideStep).trans bytesOutside_supShift⟩
    case elapsed => rw [onlyIn_supShift.tide (by decide), gateStep_tideStep.elapsed, elapsed_stepped]
    case flag => rw [State.has_eq_of_get (hreg _ (by decide)), has_STEP_stepped]
    case epoch => rw [hreg _ (by decide), get_STEPEPOCH_stepped]
    case steps => rw [hreg _ (by decide), get_STEPS_stepped]
    case fires =>
      rw [Fires, onlyIn_supShift.edges (by decide), gateStep_tideStep.frame.edges (by decide)]
      exact fires_stepped
    case same =>
      rw [supShift_of_none fun c hc => ctxBit_tideStep.trans (hconn c hc)]
      exact sameBytes_tideStep
  case slew =>
    refine .of_eq exec_slewEnd ⟨by rw [State.unflag_tide], State.has_unflag (by decide), ?_, ?_⟩
    · simp [Fld.TIDE_STAT_SLEWING]
    · have h : OnlyIn [.regs, .tide] s { s with tide := { s.tide with slew := 0, slewLeft := 0 } } :=
        (onlyIn_tide (by decide)).mpr .refl
      exact OnlyIn.frame_regs_tide (by simp [h])

end Sys2Proof.Machine
end

section
/-!
SUPPORT. An edge at its sluice (R126, R132 to R134, R141, R142).
-/

namespace Sys2Proof.Machine

variable {s t : State} {n k : Nat}

/-- The queue of edges after the oldest has been taken. -/
def State.edgesTo (es : List Edge) (s : State) : State := { s with edges := es }

theorem edgeArrive_direct (hc : s.committed = true) (hd : s.domOn 1 = true) : edgeArrive (.direct n) s = inputEdge n s :=
  if_neg (by simp [hc, hd])

theorem exec_sluiceInputEdge_direct {rest : List Edge} (hc : s.committed = true) (hd : s.domOn 1 = true)
    (he : s.edges = .direct n :: rest) : exec (.sluiceInputEdge none) s = .next (inputEdge n (s.edgesTo rest)) := by
  rw [exec, execSluiceInputEdge, he]
  have harrives : edgeArrive (.direct n) (s.edgesTo rest) = inputEdge n (s.edgesTo rest) := edgeArrive_direct hc hd
  exact congrArg Host.Outcome.next harrives

/-! ### The branches of an edge -/

theorem inputEdge_of_quarantined (h : s.quarantined n = true) : inputEdge n s = s.inc (Fld.FABRIC_SLCNT_QDROP n) := if_pos h

section
variable (hq : s.quarantined n = false)
include hq

theorem inputEdge_of_idle (h : (s.sluice n).phase = .idle) : inputEdge n s = startFiring n s := by
  rw [inputEdge, if_neg (by simp [hq]), h]

theorem inputEdge_of_flight (h : (s.sluice n).phase = .flight) (hc : (s.sluice n).consumers = []) :
    inputEdge n s = s.inc (Fld.FABRIC_SLCNT_JOINED n) := by
  rw [inputEdge, if_neg (by simp [hq]), h, hc]
  rfl

theorem inputEdge_of_merged (h : (s.sluice n).phase = .refractory) (hp : (s.sluice n).pending = true) :
    inputEdge n s = s.inc (Fld.FABRIC_SLCNT_MERGED n) := by
  rw [inputEdge, if_neg (by simp [hq]), h, hp]
  rfl

theorem inputEdge_of_waiting (h : (s.sluice n).phase = .refractory) (hp : (s.sluice n).pending = false) :
    inputEdge n s = s.setSluice n { s.sluice n with pending := true } := by
  rw [inputEdge, if_neg (by simp [hq])]
  dsimp only
  split
  case h_1 h' => exact absurd (h.symm.trans h') (by decide)
  case h_2 h' => exact absurd (h.symm.trans h') (by decide)
  case h_3 => exact if_neg (by simp [hp])

end

/-! ### Sluices -/

@[simp] theorem State.sluice_setSluice_self {x : Sluice} : (s.setSluice n x).sluice n = x := sparseGet_set_self

theorem State.sluice_setSluice_ne {x : Sluice} (h : k ≠ n) : (s.setSluice n x).sluice k = s.sluice k := sparseGet_set_ne h

theorem State.sluice_congr (h : t.sluices = s.sluices) : t.sluice n = s.sluice n := by rw [State.sluice, State.sluice, h]

theorem onlyIn_setSluiceBusy {b : Bool} : OnlyIn [.regs] s (setSluiceBusy n b s) := by
  unfold setSluiceBusy
  exact .ite .refl (by simp)

theorem regsBut_setSluiceBusy {b : Bool} : RegsBut [Reg.FABRIC_BUSY (n / 32), Reg.FABRIC_STAT] s (setSluiceBusy n b s) := by
  unfold setSluiceBusy
  exact regsBut_ite .refl (by simp [Fld.FABRIC_STAT_BUSYN])

theorem bit_setSluiceBusy {b : Bool} : (setSluiceBusy n b s).bit (Reg.FABRIC_BUSY (n / 32)) (n % 32) = b := by
  unfold setSluiceBusy
  have hne : Reg.FABRIC_BUSY (n / 32) ≠ Fld.FABRIC_STAT_BUSYN.addr := by
    simp only [Reg.FABRIC_BUSY, Fld.FABRIC_STAT_BUSYN, Reg.FABRIC_STAT]
    omega
  split
  case isTrue h => exact beq_iff_eq.mp h
  case isFalse h => rw [State.bit_put_other hne, State.bit_putBit_self (Nat.mod_lt n (by decide))]

theorem boundTasks_congr (h : t.regs = s.regs) : boundTasks t n = boundTasks s n := by rw [boundTasks, boundTasks, h]

/-! ### A firing begins -/

/-- The sluice at the start of a firing. -/
def State.firingSluice (n : Nat) (s : State) : Sluice :=
  { phase := .flight, consumers := boundTasks s n, pending := false,
    hist := (s.now :: (s.sluice n).hist).take (30 * s.govRate n) }

theorem startFiring_of_free (h : governorTrips s n = false) : startFiring n s
    = setSluiceBusy n true ((s.setSluice n (s.firingSluice n)).inc (Fld.FABRIC_SLCNT_FIRES n)) := by
  rw [startFiring, if_neg (by simp [h])]
  rfl

theorem onlyIn_startFiring_of_free (h : governorTrips s n = false) : OnlyIn [.regs, .sluices] s (startFiring n s) := by
  rw [startFiring_of_free h]
  exact OnlyIn.trans (by simp) (onlyIn_setSluiceBusy.mono (by decide))

theorem sluices_startFiring_of_free (h : governorTrips s n = false) :
    (startFiring n s).sluices = (s.setSluice n (s.firingSluice n)).sluices := by
  rw [startFiring_of_free h, onlyIn_setSluiceBusy.sluices (by decide), State.inc_sluices]

theorem regsBut_startFiring_of_free (h : governorTrips s n = false) :
    RegsBut [Reg.FABRIC_SLCNT n, Reg.FABRIC_BUSY (n / 32), Reg.FABRIC_STAT] s (startFiring n s) := by
  rw [startFiring_of_free h]
  exact RegsBut.trans (by simp [Fld.FABRIC_SLCNT_FIRES]) (regsBut_setSluiceBusy.mono (by simp))

theorem get_FIRES_startFiring (hn : n < 256) (h : governorTrips s n = false) :
    (startFiring n s).get (Fld.FABRIC_SLCNT_FIRES n) = s.counted (Fld.FABRIC_SLCNT_FIRES n) := by
  have hcnt : (Fld.FABRIC_SLCNT_FIRES n).addr ∉ [Reg.FABRIC_BUSY (n / 32), Reg.FABRIC_STAT] := by
    simp only [Fld.FABRIC_SLCNT_FIRES, Reg.FABRIC_SLCNT, Reg.FABRIC_BUSY, Reg.FABRIC_STAT, List.mem_cons, List.not_mem_nil,
      or_false]
    omega
  rw [startFiring_of_free h, regsBut_setSluiceBusy.get hcnt, State.get_inc_fits rfl]
  rfl

theorem bit_BUSY_startFiring (h : governorTrips s n = false) :
    (startFiring n s).bit (Reg.FABRIC_BUSY (n / 32)) (n % 32) = true := by
  rw [startFiring_of_free h, bit_setSluiceBusy]

/-! ### The governor trips -/

/-- What the governor puts down before the sluice stops being busy. -/
def State.tripped (n : Nat) (s : State) : State :=
  let t := s.setSluice n { s.sluice n with pending := false }
  (((t.putBit (Reg.FABRIC_QUAR (n / 32)) (n % 32) true).put Fld.FABRIC_STAT_QUARN (t.get Fld.FABRIC_STAT_QUARN + 1)).inc
    Fld.FABRIC_GOVCNT_TRIPS).put Fld.FABRIC_GOVCNT_LASTSL n

theorem startFiring_of_trip (hidle : (s.sluice n).phase = .idle) (h : governorTrips s n = true) :
    startFiring n s = (setSluiceBusy n false (s.tripped n)).fire EV.FABRIC_QUAR := by
  rw [startFiring, if_pos h, governorTrip, if_pos hidle]
  rfl

theorem onlyIn_tripped : OnlyIn [.regs, .sluices] s (s.tripped n) := by simp [State.tripped]

theorem sluices_tripped : (s.tripped n).sluices = (s.setSluice n { s.sluice n with pending := false }).sluices := by
  simp only [State.tripped, State.put_sluices, State.inc_sluices, State.putBit_sluices]

theorem regsBut_tripped :
    RegsBut [Reg.FABRIC_QUAR (n / 32), Reg.FABRIC_STAT, Reg.FABRIC_GOVCNT] s (s.tripped n) := by
  simp [State.tripped, Fld.FABRIC_STAT_QUARN, Fld.FABRIC_GOVCNT_TRIPS, Fld.FABRIC_GOVCNT_LASTSL]

theorem Reg.FABRIC_QUAR_ne_GOVCNT {m : Nat} : Reg.FABRIC_QUAR m ≠ Reg.FABRIC_GOVCNT := by
  simp only [Reg.FABRIC_QUAR, Reg.FABRIC_GOVCNT]
  omega

theorem quarantined_tripped : (s.tripped n).quarantined n = true := by
  unfold State.tripped State.quarantined
  rw [State.bit_put_other Reg.FABRIC_QUAR_ne_GOVCNT, State.inc_eq_put, State.bit_put_other Reg.FABRIC_QUAR_ne_GOVCNT,
    State.bit_put_other Reg.FABRIC_QUAR_ne_STAT, State.bit_putBit_self (Nat.mod_lt n (by decide))]

theorem get_TRIPS_tripped : (s.tripped n).get Fld.FABRIC_GOVCNT_TRIPS = s.counted Fld.FABRIC_GOVCNT_TRIPS := by
  have hquar : Fld.FABRIC_GOVCNT_TRIPS.addr ≠ Reg.FABRIC_QUAR (n / 32) := Reg.FABRIC_QUAR_ne_GOVCNT.symm
  unfold State.tripped
  rw [State.get_put_bitsApart rfl rfl, State.get_inc_fits rfl, State.counted, State.get_put_other (by decide),
    State.putBit_eq_put, State.get_put_other hquar]
  rfl

theorem get_LASTSL_tripped : (s.tripped n).get Fld.FABRIC_GOVCNT_LASTSL = n % 256 := State.get_put_fits rfl

/-- The busy mark of a sluice is none of what the governor puts down. -/
theorem FABRIC_notMem_busy {a : Nat} (h : a = Reg.FABRIC_GOVCNT ∨ a = Reg.FABRIC_QUAR (n / 32)) :
    a ∉ [Reg.FABRIC_BUSY (n / 32), Reg.FABRIC_STAT] := by
  simp only [Reg.FABRIC_BUSY, Reg.FABRIC_STAT, Reg.FABRIC_GOVCNT, Reg.FABRIC_QUAR, List.mem_cons, List.not_mem_nil,
    or_false] at h ⊢
  omega

theorem OnlyIn.frame_edges_sluices (h : OnlyIn [.edges, .sluices] s t) : t = { s with edges := t.edges, sluices := t.sluices } :=
  h.frame

theorem OnlyIn.frame_regs_edges_sluices (h : OnlyIn [.regs, .edges, .sluices] s t) :
    t = { s with regs := t.regs, edges := t.edges, sluices := t.sluices } := h.frame

theorem onlyIn_edgesTo {l : List Part} {es : List Edge} (h : .edges ∈ l) : OnlyIn l s (s.edgesTo es) := (onlyIn_edges h).mpr .refl

/-- The counters of a sluice that an edge can only count. -/
theorem inputEdge_counts {f : Field} (hf : s.quarantined n = true ∧ f = Fld.FABRIC_SLCNT_QDROP n
      ∨ s.quarantined n = false ∧ (s.sluice n).phase = .refractory ∧ (s.sluice n).pending = true
        ∧ f = Fld.FABRIC_SLCNT_MERGED n
      ∨ s.quarantined n = false ∧ (s.sluice n).phase = .flight ∧ (s.sluice n).consumers = []
        ∧ f = Fld.FABRIC_SLCNT_JOINED n) :
    inputEdge n s = s.inc f ∧ f.fits = true ∧ f.addr = Reg.FABRIC_SLCNT n := by
  rcases hf with ⟨hq, rfl⟩ | ⟨hq, hphase, hp, rfl⟩ | ⟨hq, hphase, hc, rfl⟩
  · exact ⟨inputEdge_of_quarantined hq, rfl, rfl⟩
  · exact ⟨inputEdge_of_merged hq hphase hp, rfl, rfl⟩
  · exact ⟨inputEdge_of_flight hq hphase hc, rfl, rfl⟩

/-- Settles O14: the branches that an edge can take at its sluice. -/
theorem edgeMeetsSluice : Obligations.EdgeMeetsSluice := by
  intro n rest s hcommit hdom hedges
  refine ⟨fun hq hidle hfree => ?fires, fun hq hidle htrip => ?trips, fun hq hphase hp => ?waits, fun f hf => ?counts⟩
  case fires =>
    have hfree' : governorTrips (s.edgesTo rest) n = false := hfree
    have hset := sluices_startFiring_of_free hfree'
    have hself : (startFiring n (s.edgesTo rest)).sluice n = (s.edgesTo rest).firingSluice n :=
      (State.sluice_congr hset).trans State.sluice_setSluice_self
    have hframe := onlyIn_startFiring_of_free hfree'
    rw [exec_sluiceInputEdge_direct hcommit hdom hedges, inputEdge_of_idle (s := s.edgesTo rest) hq hidle]
    refine .of_eq rfl ⟨by rw [hself]; rfl, by rw [hself]; rfl, by rw [hself]; rfl, get_FIRES_startFiring n.isLt hfree',
      bit_BUSY_startFiring hfree', fun m hm => ?others, regsBut_startFiring_of_free hfree', ?frame⟩
    case others => exact (State.sluice_congr hset).trans (State.sluice_setSluice_ne hm)
    case frame =>
      have hedge : (startFiring n (s.edgesTo rest)).edges = rest := hframe.edges (by decide)
      have h := ((onlyIn_edgesTo (s := s) (es := rest) (by decide)).trans
        (hframe.mono (show _ ⊆ [.regs, .edges, .sluices] by decide))).frame_regs_edges_sluices
      rwa [hedge] at h
  case trips =>
    have htrip' : governorTrips (s.edgesTo rest) n = true := htrip
    have hset : ((setSluiceBusy n false ((s.edgesTo rest).tripped n)).fire EV.FABRIC_QUAR).sluices = _ :=
      (State.fire_sluices ..).trans ((onlyIn_setSluiceBusy.sluices (by decide)).trans sluices_tripped)
    have hself : ((setSluiceBusy n false ((s.edgesTo rest).tripped n)).fire EV.FABRIC_QUAR).sluice n
        = { s.sluice n with pending := false } :=
      (State.sluice_congr hset).trans State.sluice_setSluice_self
    have hframe : OnlyIn [.regs, .sluices] (s.edgesTo rest) (setSluiceBusy n false ((s.edgesTo rest).tripped n)) :=
      onlyIn_tripped.trans (onlyIn_setSluiceBusy.mono (by decide))
    have hbusy : ∀ f : Field, f.addr = Reg.FABRIC_GOVCNT →
        (setSluiceBusy n false ((s.edgesTo rest).tripped n)).get f = ((s.edgesTo rest).tripped n).get f :=
      fun f hf => regsBut_setSluiceBusy.get (FABRIC_notMem_busy (.inl hf))
    rw [exec_sluiceInputEdge_direct hcommit hdom hedges, inputEdge_of_idle (s := s.edgesTo rest) hq hidle, startFiring_of_trip (s := s.edgesTo rest) hidle htrip']
    refine .of_eq rfl ⟨?quarantined, ?phase, ?pending, ?trips, ?lastsl, ?edges, fun m hm => ?others, ?regs, ?frame⟩
    case quarantined =>
      rw [State.quarantined, State.bit_fire, regsBut_setSluiceBusy.bit (FABRIC_notMem_busy (.inr rfl))]
      exact quarantined_tripped
    case phase => exact (congrArg Sluice.phase hself).trans hidle
    case pending => exact congrArg Sluice.pending hself
    case trips => exact State.get_fire.trans ((hbusy _ rfl).trans get_TRIPS_tripped)
    case lastsl => exact State.get_fire.trans ((hbusy _ rfl).trans (get_LASTSL_tripped.trans (Nat.mod_eq_of_lt n.isLt)))
    case edges => exact congrArg (· ++ [Edge.producer EV.FABRIC_QUAR]) (hframe.edges (by decide))
    case others => exact (State.sluice_congr hset).trans (State.sluice_setSluice_ne hm)
    case regs =>
      exact regsBut_fire.mpr ((regsBut_tripped.mono (by simp)).trans (regsBut_setSluiceBusy.mono (by simp)))
    case frame =>
      exact (((onlyIn_edgesTo (by decide)).trans (hframe.mono (show _ ⊆ [.regs, .edges, .sluices] by decide))).fire
        (l' := [.regs, .edges, .sluices]) (by decide) (by decide)).frame_regs_edges_sluices
  case waits =>
    rw [exec_sluiceInputEdge_direct hcommit hdom hedges, inputEdge_of_waiting (s := s.edgesTo rest) hq hphase hp]
    exact .of_eq rfl ⟨State.sluice_setSluice_self, fun m hm => State.sluice_setSluice_ne hm, rfl⟩
  case counts =>
    obtain ⟨heq, hfits, haddr⟩ := inputEdge_counts (s := s.edgesTo rest) hf
    rw [exec_sluiceInputEdge_direct hcommit hdom hedges, heq]
    refine .of_eq rfl ⟨State.get_inc_fits hfits, ?regs, ?frame⟩
    case regs =>
      have h : RegsBut [Reg.FABRIC_SLCNT n] s (s.edgesTo rest) := .of_regs rfl
      simp [haddr, h]
    case frame =>
      have h : OnlyIn [.regs] (s.edgesTo rest) ((s.edgesTo rest).inc f) := by simp
      have hf := h.frame_regs
      exact hf

end Sys2Proof.Machine
end

section
/-!
SUPPORT. Stepwise commands and lane ownership (R152, R184), the port map (R148, R149) and pairing (R177).
-/

namespace Sys2Proof.Machine

variable {s t : State} {l n k v : Nat}

theorem State.has_flag_bit {f : Field} (hf : f.fits = true) (hw : f.width = 1) : (s.flag f).has f = true :=
  State.has_flag (Field.le_of_fits hf) (hw ▸ Nat.one_pos)

theorem State.has_unflag_fits {f : Field} (hf : f.fits = true) : (s.unflag f).has f = false :=
  State.has_unflag (Field.le_of_fits hf)

/-! ### Stepwise commands -/

/-- The task input of a command that came as a task is served. -/
def State.taskServed (byTask : Bool) (i : Nat) (s : State) : State := if byTask then s.takeTask i else s

theorem onlyIn_taskServed {p : List Part} {b : Bool} {i : Nat} (h : .tasks ∈ p) : OnlyIn p s (s.taskServed b i) := by
  unfold State.taskServed
  exact .ite (by simp [h]) .refl

theorem State.regs_taskServed {b : Bool} {i : Nat} : (s.taskServed b i).regs = s.regs := by
  cases b <;> rfl

theorem State.get_taskServed {b : Bool} {i : Nat} {f : Field} : (s.taskServed b i).get f = s.get f :=
  State.get_congr State.regs_taskServed

theorem State.lane_taskServed {b : Bool} {i : Nat} : (s.taskServed b i).lane l = s.lane l := by
  cases b <;> rfl

/-- A lane before a stepwise command sets its target: listening and a full calibration are called off. -/
def LaneState.cleared (x : LaneState) : LaneState := { x with lbtWait := false, lbtClear := false, fullCal := false }

theorem laneYield_of_free (h : s.laneSt l < 5) : laneYield l s = s := by
  unfold laneYield
  dsimp only
  rw [if_neg (by omega), if_neg (by omega)]

theorem stepCommand_of_owned {b : Bool} {g : LaneState → LaneState} (howner : s.owner l = 1) (hret : s.retired l = false)
    (hst : s.laneSt l < 5) :
    stepCommand l k b g s = (s.taskServed b (TK.LANE l k)).setLane l (g (s.lane l).cleared) := by
  have howner' : (s.taskServed b (TK.LANE l k)).owner l = 1 := State.get_taskServed.trans howner
  have hret' : (s.taskServed b (TK.LANE l k)).retired l = false := (State.has_eq_of_get State.get_taskServed).trans hret
  have hst' : (s.taskServed b (TK.LANE l k)).laneSt l < 5 := by
    rw [State.laneSt, State.get_taskServed]
    exact hst
  have hgo : ¬ ((s.taskServed b (TK.LANE l k)).owner l = 0 ∨ (s.taskServed b (TK.LANE l k)).retired l = true) := by
    simp [howner', hret']
  refine (if_neg hgo).trans ?_
  rw [show (if b = true then s.takeTask (TK.LANE l k) else s) = s.taskServed b (TK.LANE l k) from rfl,
    laneYield_of_free hst', State.lane_taskServed]
  rfl

theorem stepCommand_of_other {b : Bool} {g : LaneState → LaneState} (h : s.owner l = 0 ∨ s.retired l = true) :
    stepCommand l k b g s = laneReject l (s.taskServed b (TK.LANE l k)) := by
  have h' : (s.taskServed b (TK.LANE l k)).owner l = 0 ∨ (s.taskServed b (TK.LANE l k)).retired l = true := by
    rw [State.owner, State.retired, State.get_taskServed, State.has_eq_of_get State.get_taskServed]
    exact h
  exact if_pos h'

theorem onlyIn_laneReject : OnlyIn [.regs, .edges] s (laneReject l s) := by simp [laneReject]

/-- Which command of the stepwise ones c is: its task input, and what it makes of a cleared lane. -/
theorem exec_stepwise {l : Lane} {b cal : Bool} {m : Fin 5} {c : Instr} {x : LaneState}
    (h : (c = .laneSleep l b ∧ x = { s.lane l with goal := some .sleep, lbtWait := false, lbtClear := false, fullCal := false })
      ∨ ((c = .laneStandby l b ∨ c = .laneAbort l b)
          ∧ x = { s.lane l with goal := some .standby, lbtWait := false, lbtClear := false, fullCal := false })
      ∨ (c = .laneSynth l b cal
          ∧ x = { s.lane l with goal := some .synth, lbtWait := false, lbtClear := false, fullCal := cal && !b })
      ∨ (c = .laneRx l b ∧ x = { s.lane l with goal := some .rx, lbtWait := false, lbtClear := false, fullCal := false })
      ∨ (c = .laneTx l b m
          ∧ x = { s.lane l with goal := some .tx, goalMode := m, lbtWait := false, lbtClear := false, fullCal := false })) :
    ∃ k g, exec c s = .next (stepCommand l k b g s) ∧ g (s.lane l).cleared = x := by
  rcases h with ⟨rfl, rfl⟩ | ⟨rfl | rfl, rfl⟩ | ⟨rfl, rfl⟩ | ⟨rfl, rfl⟩ | ⟨rfl, rfl⟩
  · exact ⟨0, fun y => { y with goal := some .sleep }, rfl, rfl⟩
  · exact ⟨1, fun y => { y with goal := some .standby }, rfl, rfl⟩
  · exact ⟨5, fun y => { y with goal := some .standby }, rfl, rfl⟩
  · exact ⟨2, fun y => { y with goal := some .synth, fullCal := cal && !b }, rfl, rfl⟩
  · exact ⟨3, fun y => { y with goal := some .rx }, rfl, rfl⟩
  · exact ⟨4, fun y => { y with goal := some .tx, goalMode := m }, rfl, rfl⟩

theorem OnlyIn.frame_lanes_tasks (h : OnlyIn [.lanes, .tasks] s t) : t = { s with lanes := t.lanes, tasks := t.tasks } := h.frame

theorem OnlyIn.frame_regs_edges_tasks (h : OnlyIn [.regs, .edges, .tasks] s t) :
    t = { s with regs := t.regs, edges := t.edges, tasks := t.tasks } := h.frame

/-! ### Ownership -/

/-- Pairing that is not asked for stays off. -/
theorem refreshPairing_of_off (hen : s.has Fld.RF_PAIR_EN = false) (hp : s.paired = false) : refreshPairing s = s := by
  have his : pairingHolds s = false := by rw [pairingHolds, hen, Bool.false_and]
  exact if_pos (hp.trans his.symm)

section
variable {l : Lane} {b : Bool} (hne : s.has (Fld.LANE_CTL_OWNER l) ≠ b)
include hne

theorem exec_laneOwnerWrite_of_busy (hst : 1 < s.laneSt l) :
    exec (.laneOwnerWrite l b) s = .next (s.flag (Fld.LANE_FLAGS_CMDREJ l)) := by
  have hst' : ¬ s.laneSt l ≤ 1 := by omega
  refine (if_neg ?_).trans (if_neg hst')
  simpa using hne

theorem exec_laneOwnerWrite_of_idle (hst : s.laneSt l ≤ 1) :
    exec (.laneOwnerWrite l b) s = .next (refreshPairing (s.put (Fld.LANE_CTL_OWNER l) (boolBit b))) := by
  refine (if_neg ?_).trans (if_pos hst)
  simpa using hne

end

theorem exec_portSettled {l : Lane} : exec (.portSettled l) s
    = .next (s.setLane l { s.lane l with settling := false, waitPort := false }) := rfl

/-- Settles O19: owned lanes take a target, others reject it, and the owner changes only while the lane is idle. -/
theorem stepwiseCommands : Obligations.StepwiseCommands := by
  intro l b cal m s
  refine ⟨fun c x hc => ?command, fun hne hst => ?busy, fun hne hst hen hp => ?idle, .of_eq exec_portSettled ⟨rfl, rfl⟩⟩
  case command =>
    obtain ⟨k, g, heq, rfl⟩ := exec_stepwise hc
    refine ⟨fun howner hret hst => ?owned, fun hother => ?rejected⟩
    case owned =>
      rw [stepCommand_of_owned howner hret hst] at heq
      refine .of_eq heq ⟨?lanes, OnlyIn.frame_lanes_tasks ?frame⟩
      case lanes => rw [State.lanes_setLane, (onlyIn_taskServed (p := [.tasks]) (by decide)).lanes (by decide)]
      case frame => simp [onlyIn_taskServed]
    case rejected =>
      rw [stepCommand_of_other hother] at heq
      have hframe : OnlyIn [.regs, .edges, .tasks] s (laneReject l (s.taskServed b (TK.LANE l k))) :=
        (onlyIn_taskServed (by decide)).trans (onlyIn_laneReject.mono (by decide))
      have hregs : RegsBut [Reg.LANE_FLAGS l] s (s.taskServed b (TK.LANE l k)) := .of_regs State.regs_taskServed
      refine .of_eq heq ⟨?flag, Fires.fire ?edges, ?others, hframe.frame_regs_edges_tasks⟩
      case flag => exact State.has_fire.trans (State.has_flag_bit rfl rfl)
      case edges =>
        rw [State.flag_edges]
        exact (onlyIn_taskServed (p := [.tasks]) (by decide)).edges (by decide)
      case others => simp [laneReject, Fld.LANE_FLAGS_CMDREJ, hregs]
  case busy =>
    refine .of_eq (exec_laneOwnerWrite_of_busy hne hst) ⟨?owner, State.has_flag_bit rfl rfl,
      by simp [Fld.LANE_FLAGS_CMDREJ], OnlyIn.frame_regs (by simp)⟩
    simp [State.owner, State.flag_eq_put, Fld.LANE_CTL_OWNER, Fld.LANE_FLAGS_CMDREJ, Reg.LANE_CTL, Reg.LANE_FLAGS]
  case idle =>
    have hen' : (s.put (Fld.LANE_CTL_OWNER l) (boolBit cal)).has Fld.RF_PAIR_EN = false := by
      rw [State.has_put_other, hen]
      simp only [Fld.RF_PAIR_EN, Fld.LANE_CTL_OWNER, Reg.RF_PAIR, Reg.LANE_CTL]
      omega
    have hp' : (s.put (Fld.LANE_CTL_OWNER l) (boolBit cal)).paired = false := by
      rw [State.paired, State.has_put_other]
      · exact hp
      · simp only [Fld.LANE_STAT_PAIRED, Fld.LANE_CTL_OWNER, Reg.LANE_STAT, Reg.LANE_CTL]
        omega
    rw [exec_laneOwnerWrite_of_idle hne hst, refreshPairing_of_off hen' hp']
    refine .of_eq rfl ⟨?_, by simp [Fld.LANE_CTL_OWNER], OnlyIn.frame_regs (by simp)⟩
    cases cal <;> simp [Fld.LANE_CTL_OWNER, boolBit]

/-! ### The port map -/

theorem OnlyIn.frame_regs_rf_lanes (h : OnlyIn [.regs, .rf, .lanes] s t) :
    t = { s with regs := t.regs, rf := t.rf, lanes := t.lanes } := h.frame

section
variable {w : Word}

theorem exec_portmapWrite_of_clash (h : portClash (w.toNat % 256) = true) :
    exec (.portmapWrite w) s = .next (s.flag Fld.RF_FLAGS_PORTERR) := if_pos h

/-- The new map waits. -/
def State.portsWait (v : Nat) (s : State) : State := { s with rf := { s.rf with portWait := some v } }

theorem exec_portmapWrite_of_blocked (hc : portClash (w.toNat % 256) = false) (hb : portsBlocked s (w.toNat % 256) = true) :
    exec (.portmapWrite w) s = .next ((s.portsWait (w.toNat % 256)).flag Fld.RF_PORTMAP_PENDING) :=
  (if_neg (by simp [hc])).trans (if_pos hb)

theorem exec_portmapWrite_of_free (hc : portClash (w.toNat % 256) = false) (hb : portsBlocked s (w.toNat % 256) = false) :
    exec (.portmapWrite w) s = .next (portsSwitch (w.toNat % 256) s) :=
  (if_neg (by simp [hc])).trans (if_neg (by simp [hb]))

theorem exec_portmapSwitch_of_free (hw : s.rf.portWait = some v) (hb : portsBlocked s v = false) :
    exec .portmapSwitch s = .next (portsSwitch v s) := by
  rw [exec, execPortmapSwitch, portsRetry, hw]
  exact congrArg Host.Outcome.next (if_neg (by simp [hb]))

/-- The map field of RF_PORTMAP is the low octet of the register. -/
theorem rd_PORTMAP_mod : (s.rd Reg.RF_PORTMAP).toNat % 256 = s.get ⟨Reg.RF_PORTMAP, 0, 8⟩ := by
  simp [State.get]

/-- A lane whose chain gains or loses a port has to settle. -/
def settleLane (ch : List (Nat × Nat)) (old new l : Nat) (s : State) : State :=
  if ch.any (fun p => portSource old p.1 == l || portSource new p.1 == l) then
    s.setLane l { s.lane l with settling := true, settleTo := s.elapsed + 32 }
  else s

/-- The registers and the waiting map after the ports have switched. -/
def State.portsPut (new : Nat) (s : State) : State :=
  let t := (s.put ⟨Reg.RF_PORTMAP, 0, 8⟩ new).unflag Fld.RF_PORTMAP_PENDING
  { t with rf := { t.rf with portWait := none } }

theorem portsSwitch_eq {new : Nat} : portsSwitch new s = (s.portsPut new).forEach [0, 1]
    (settleLane (portsChanged (s.rd Reg.RF_PORTMAP).toNat new) (s.rd Reg.RF_PORTMAP).toNat new) := by
  unfold portsSwitch State.portsPut settleLane
  rfl

theorem onlyIn_settleLane {ch : List (Nat × Nat)} {old new : Nat} : OnlyIn [.lanes] s (settleLane ch old new l s) :=
  .ite (by simp) .refl

theorem onlyIn_portsPut {new : Nat} : OnlyIn [.regs, .rf] s (s.portsPut new) :=
  (onlyIn_rf (by decide)).mpr (by simp)

theorem onlyIn_settleLanes {ch : List (Nat × Nat)} {old new : Nat} {ls : List Nat} :
    OnlyIn [.lanes] s (s.forEach ls (settleLane ch old new)) := OnlyIn.forEach (fun _ _ => onlyIn_settleLane) .refl

/-- Settling is added to a lane that the switch touches, and to no other. -/
theorem settling_settleLane {ch : List (Nat × Nat)} {old new : Nat} (hl : k < s.lanes.length) :
    ((settleLane ch old new l s).lane k).settling = ((s.lane k).settling
      || (decide (l = k) && ch.any (fun p => portSource old p.1 == l || portSource new p.1 == l))) := by
  unfold settleLane
  by_cases hk : l = k
  case pos =>
    subst hk
    split
    case isTrue h => rw [State.lane_setLane_self hl]; simp [h]
    case isFalse h => simp [h]
  case neg =>
    split
    case isTrue h => rw [State.lane_setLane_ne hk]; simp [hk]
    case isFalse h => simp [hk]

theorem length_lanes_settleLane {ch : List (Nat × Nat)} {old new : Nat} :
    (settleLane ch old new l s).lanes.length = s.lanes.length := by
  unfold settleLane
  split <;> simp

theorem State.forEach_pair {α : Type} {f : α → State → State} {x y : α} : s.forEach [x, y] f = f y (f x s) := rfl

theorem settling_portsSwitch {new : Nat} (hl : l < 2) (hlen : l < s.lanes.length) :
    ((portsSwitch new s).lane l).settling = ((s.lane l).settling
      || (portsChanged (s.rd Reg.RF_PORTMAP).toNat new).any (fun p =>
          portSource (s.rd Reg.RF_PORTMAP).toNat p.1 == l || portSource new p.1 == l)) := by
  rw [portsSwitch_eq]
  generalize (s.rd Reg.RF_PORTMAP).toNat = old
  generalize portsChanged old new = ch
  have hlanes : (s.portsPut new).lanes = s.lanes := onlyIn_portsPut.lanes (by decide)
  have hlen₀ : l < (s.portsPut new).lanes.length := by
    rw [hlanes]
    exact hlen
  have hlen₁ : l < (settleLane ch old new 0 (s.portsPut new)).lanes.length := by
    rw [length_lanes_settleLane]
    exact hlen₀
  have hfirst := settling_settleLane (l := 0) (ch := ch) (old := old) (new := new) hlen₀
  have hsecond := settling_settleLane (l := 1) (ch := ch) (old := old) (new := new) hlen₁
  rw [State.forEach_pair, hsecond, hfirst, State.lane_congr hlanes]
  obtain rfl | rfl : l = 0 ∨ l = 1 := by omega
  all_goals simp

theorem regs_settled {ch : List (Nat × Nat)} {old new : Nat} {ls : List Nat} :
    (s.forEach ls (settleLane ch old new)).regs = s.regs := onlyIn_settleLanes.regs (by decide)

theorem State.regs_portsPut {new : Nat} : (s.portsPut new).regs
    = ((s.put ⟨Reg.RF_PORTMAP, 0, 8⟩ new).unflag Fld.RF_PORTMAP_PENDING).regs := by
  simp only [State.portsPut]

theorem regs_portsSwitch {new : Nat} : (portsSwitch new s).regs
    = ((s.put ⟨Reg.RF_PORTMAP, 0, 8⟩ new).unflag Fld.RF_PORTMAP_PENDING).regs := by
  rw [portsSwitch_eq, regs_settled, State.regs_portsPut]

theorem portWait_portsSwitch {new : Nat} : (portsSwitch new s).rf.portWait = none := by
  rw [portsSwitch_eq, onlyIn_settleLanes.rf (by decide)]
  rfl

end

/-- Pairing is not asked for after a write of RF_PAIR with EN = 0. -/
theorem exec_rfPairWrite_off {w : Word} (hw : w.toNat % 2 = 0) (hp : s.paired = false) :
    exec (.rfPairWrite w) s = .next ((s.put Fld.RF_PAIR_TXLANE (w.toNat / 2)).put Fld.RF_PAIR_EN w.toNat) := by
  refine congrArg Host.Outcome.next (refreshPairing_of_off ?_ ?_)
  · simp [Fld.RF_PAIR_EN, hw]
  · rw [State.paired, State.has_put_other (by decide), State.has_put_other (by decide)]
    exact hp

/-- Settles O22: the port map with its waiting and settling, and pairing that is not asked for. -/
theorem portMapAndPairing : Obligations.PortMapAndPairing := by
  intro v s
  refine ⟨fun hclash => ?clash, fun hclash hblocked => ?waits, fun c hc hfree => ?switches, fun hv hp => ?pairing⟩
  case clash =>
    exact .of_eq (exec_portmapWrite_of_clash hclash) ⟨State.has_flag (by decide) (by decide),
      by simp [Fld.RF_FLAGS_PORTERR], OnlyIn.frame_regs (by simp)⟩
  case waits =>
    have hframe : OnlyIn [.regs, .rf] s (s.portsWait (v.toNat % 256)) := (onlyIn_rf (by decide)).mpr .refl
    have hregs : ∀ r, RegsBut r s (s.portsWait (v.toNat % 256)) := fun _ => .of_regs rfl
    refine .of_eq (exec_portmapWrite_of_blocked hclash hblocked) ⟨by rw [State.flag_rf]; rfl,
      State.has_flag (by decide) (by decide), ?map, by simp [Fld.RF_PORTMAP_PENDING, hregs],
      OnlyIn.frame_regs_rf (by simp [hframe])⟩
    rw [rd_PORTMAP_mod, rd_PORTMAP_mod, State.flag_eq_put, State.get_put_bitsApart rfl rfl]
    rfl
  case switches =>
    have heq : exec c s = .next (portsSwitch (v.toNat % 256) s) := by
      rcases hc with ⟨rfl, hclash⟩ | ⟨rfl, hwait⟩
      · exact exec_portmapWrite_of_free hclash hfree
      · exact exec_portmapSwitch_of_free hwait hfree
    refine .of_eq heq ⟨?newMap, ?pending, portWait_portsSwitch, fun l hl hlen => settling_portsSwitch hl hlen, ?others, ?frame⟩
    case newMap =>
      rw [rd_PORTMAP_mod, State.get_congr regs_portsSwitch, State.unflag_eq_put, State.get_put_bitsApart rfl rfl,
        State.get_put_fits rfl]
      simp
    case pending => rw [State.has_eq_of_get (State.get_congr regs_portsSwitch), State.has_unflag (by decide)]
    case others => exact (regsBut_congr regs_portsSwitch).mpr (by simp [Fld.RF_PORTMAP_PENDING])
    case frame =>
      rw [portsSwitch_eq]
      exact ((onlyIn_portsPut.mono (by decide)).trans (onlyIn_settleLanes.mono (by decide))).frame_regs_rf_lanes
  case pairing =>
    refine .of_eq (exec_rfPairWrite_off hv hp) ⟨?en, ?txlane, ?paired, by simp [Fld.RF_PAIR_TXLANE, Fld.RF_PAIR_EN],
      OnlyIn.frame_regs (by simp)⟩
    case en => simp [Fld.RF_PAIR_EN, hv]
    case txlane => simp [Fld.RF_PAIR_TXLANE, Fld.RF_PAIR_EN]
    case paired =>
      rw [State.paired, State.has_put_other (by decide), State.has_put_other (by decide)]
      exact hp

end Sys2Proof.Machine
end

section
/-!
SUPPORT. The store of calibration entries, their staleness, and the steps of the engine (R192 to R202).
-/

namespace Sys2Proof.Machine

variable {s t u : State} {l n m k v : Nat} {b : Bool} {f : Field}

/-! ### The registers of an entry are different registers -/

theorem Reg.LANE_CALMETA_ne_STALE : Reg.LANE_CALMETA l n ≠ Reg.LANE_CALSTALE l := by
  simp only [Reg.LANE_CALMETA, Reg.LANE_CALSTALE]; omega
theorem Reg.LANE_CALMETA_ne_FAILED : Reg.LANE_CALMETA l n ≠ Reg.LANE_CALFAILED l := by
  simp only [Reg.LANE_CALMETA, Reg.LANE_CALFAILED]; omega
theorem Reg.LANE_CALMETA_ne_STAMP : Reg.LANE_CALMETA l n ≠ Reg.LANE_CALSTAMP l m := by
  simp only [Reg.LANE_CALMETA, Reg.LANE_CALSTAMP]; omega
theorem Reg.LANE_CALMETA_ne_RES : Reg.LANE_CALMETA l n ≠ Reg.LANE_CALRES l m := by
  simp only [Reg.LANE_CALMETA, Reg.LANE_CALRES]; omega
theorem Reg.LANE_CALRES_ne_STALE : Reg.LANE_CALRES l n ≠ Reg.LANE_CALSTALE l := by
  simp only [Reg.LANE_CALRES, Reg.LANE_CALSTALE]; omega
theorem Reg.LANE_CALRES_ne_FAILED : Reg.LANE_CALRES l n ≠ Reg.LANE_CALFAILED l := by
  simp only [Reg.LANE_CALRES, Reg.LANE_CALFAILED]; omega
theorem Reg.LANE_CALRES_ne_STAMP : Reg.LANE_CALRES l n ≠ Reg.LANE_CALSTAMP l m := by
  simp only [Reg.LANE_CALRES, Reg.LANE_CALSTAMP]; omega
theorem Reg.LANE_CALMETA_inj (h : m ≠ n) : Reg.LANE_CALMETA l m ≠ Reg.LANE_CALMETA l n := by
  simp only [Reg.LANE_CALMETA]; omega

/-! ### Staleness -/

theorem onlyIn_setCalStale : OnlyIn [.regs] s (setCalStale l n b s) := by simp [setCalStale]

theorem regsBut_setCalStale : RegsBut [Reg.LANE_CALMETA l n, Reg.LANE_CALSTALE l] s (setCalStale l n b s) := by
  simp [setCalStale, Fld.LANE_CALMETA_STALE]

theorem get_CALMETA_setCalStale (ha : f.addr = Reg.LANE_CALMETA l m)
    (h : m ≠ n ∨ (Fld.LANE_CALMETA_STALE l n).bitsApart f = true) : (setCalStale l n b s).get f = s.get f := by
  have hstale : f.addr ≠ Reg.LANE_CALSTALE l := ha ▸ Reg.LANE_CALMETA_ne_STALE
  rw [setCalStale, State.putBit_eq_put, State.get_put_other hstale]
  rcases h with h | h
  · have hne : f.addr ≠ (Fld.LANE_CALMETA_STALE l n).addr := ha ▸ Reg.LANE_CALMETA_inj h
    rw [State.get_put_other hne]
  · rw [State.get_put_bitsApart rfl h]

theorem has_STALE_setCalStale_self : (setCalStale l n b s).has (Fld.LANE_CALMETA_STALE l n) = b := by
  have hstale : (Fld.LANE_CALMETA_STALE l n).addr ≠ Reg.LANE_CALSTALE l := Reg.LANE_CALMETA_ne_STALE
  rw [setCalStale, State.putBit_eq_put, State.has_put_other hstale, State.has_put_fits rfl]
  cases b <;> rfl

theorem has_STALE_setCalStale_ne (h : m ≠ n) :
    (setCalStale l n b s).has (Fld.LANE_CALMETA_STALE l m) = s.has (Fld.LANE_CALMETA_STALE l m) :=
  State.has_eq_of_get (get_CALMETA_setCalStale rfl (.inl h))

theorem onlyIn_calRelease : OnlyIn [.regs, .lanes] s (calRelease l n s) := by
  unfold calRelease
  exact .ite (by simp) .refl

theorem regsBut_calRelease : RegsBut [Reg.LANE_CALMETA l n] s (calRelease l n s) := by
  unfold calRelease
  exact regsBut_ite (by simp [Fld.LANE_CALMETA_FAILCNT]) .refl

theorem get_calRelease (h : f.addr ≠ Reg.LANE_CALMETA l n ∨ (Fld.LANE_CALMETA_FAILCNT l n).bitsApart f = true) :
    (calRelease l n s).get f = s.get f := by
  unfold calRelease
  split
  · rw [State.get_setLane]
    rcases h with h | h
    · exact State.get_put_other h
    · exact State.get_put_bitsApart rfl h
  · rfl

theorem get_FAILCNT_calRelease_self : (calRelease l n s).get (Fld.LANE_CALMETA_FAILCNT l n)
    = if s.get (Fld.LANE_CALMETA_FAILCNT l n) = 3 then 0 else s.get (Fld.LANE_CALMETA_FAILCNT l n) := by
  unfold calRelease
  split
  · exact State.get_put_fits rfl
  · rfl

/-! ### Marking entries -/

theorem onlyIn_calMark : OnlyIn [.regs, .lanes] s (calMark l n s) :=
  (onlyIn_setCalStale.mono (by decide)).trans onlyIn_calRelease

theorem regsBut_calMark : RegsBut [Reg.LANE_CALMETA l n, Reg.LANE_CALSTALE l] s (calMark l n s) :=
  regsBut_setCalStale.trans (regsBut_calRelease.mono (by simp))

theorem has_STALE_calMark : (calMark l n s).has (Fld.LANE_CALMETA_STALE l m)
    = (decide (m = n) || s.has (Fld.LANE_CALMETA_STALE l m)) := by
  have hkeep : (calMark l n s).has (Fld.LANE_CALMETA_STALE l m)
      = (setCalStale l n true s).has (Fld.LANE_CALMETA_STALE l m) := State.has_eq_of_get (get_calRelease (.inr rfl))
  rw [hkeep]
  by_cases h : m = n
  case pos => simp [h, has_STALE_setCalStale_self]
  case neg => simp [h, has_STALE_setCalStale_ne h]

theorem get_FAILCNT_calMark : (calMark l n s).get (Fld.LANE_CALMETA_FAILCNT l m)
    = if m = n ∧ s.get (Fld.LANE_CALMETA_FAILCNT l m) = 3 then 0 else s.get (Fld.LANE_CALMETA_FAILCNT l m) := by
  have hkeep : (setCalStale l n true s).get (Fld.LANE_CALMETA_FAILCNT l m) = s.get (Fld.LANE_CALMETA_FAILCNT l m) :=
    get_CALMETA_setCalStale rfl (.inr rfl)
  by_cases h : m = n
  case pos =>
    subst h
    rw [calMark, get_FAILCNT_calRelease_self, hkeep]
    simp
  case neg =>
    rw [calMark, get_calRelease (.inl (Reg.LANE_CALMETA_inj h)), hkeep]
    simp [h]

section
variable {ns : List Nat}

theorem onlyIn_calMarks : OnlyIn [.regs, .lanes] s (s.forEach ns (calMark l)) := OnlyIn.forEach (fun _ _ => onlyIn_calMark) .refl

theorem regsBut_calMarks {r : List Nat} (h : ∀ n ∈ ns, Reg.LANE_CALMETA l n ∈ r) (hs : Reg.LANE_CALSTALE l ∈ r) :
    RegsBut r s (s.forEach ns (calMark l)) :=
  RegsBut.forEach fun n hn _ => regsBut_calMark.mono (by simp [h n hn, hs])

theorem has_STALE_calMarks : (s.forEach ns (calMark l)).has (Fld.LANE_CALMETA_STALE l m)
    = (decide (m ∈ ns) || s.has (Fld.LANE_CALMETA_STALE l m)) := by
  induction ns generalizing s with
  | nil => simp [State.forEach]
  | cons n ns ih =>
    refine (ih (s := calMark l n s)).trans ?_
    rw [has_STALE_calMark]
    by_cases h : m = n <;> simp [h]

theorem get_FAILCNT_calMarks : (s.forEach ns (calMark l)).get (Fld.LANE_CALMETA_FAILCNT l m)
    = if m ∈ ns ∧ s.get (Fld.LANE_CALMETA_FAILCNT l m) = 3 then 0 else s.get (Fld.LANE_CALMETA_FAILCNT l m) := by
  induction ns generalizing s with
  | nil => simp [State.forEach]
  | cons n ns ih =>
    refine (ih (s := calMark l n s)).trans ?_
    rw [get_FAILCNT_calMark]
    by_cases h : m = n
    case pos =>
      subst h
      by_cases h3 : s.get (Fld.LANE_CALMETA_FAILCNT l m) = 3 <;> simp [h3]
    case neg => simp [h]

theorem rd_CALRES_calMarks : (s.forEach ns (calMark l)).rd (Reg.LANE_CALRES l m) = s.rd (Reg.LANE_CALRES l m) := by
  have hr : RegsBut (Reg.LANE_CALSTALE l :: ns.map (Reg.LANE_CALMETA l)) s (s.forEach ns (calMark l)) :=
    regsBut_calMarks (fun n hn => List.mem_cons_of_mem _ (List.mem_map_of_mem hn)) List.mem_cons_self
  refine hr _ ?_
  simp [Reg.LANE_CALRES_ne_STALE, Reg.LANE_CALMETA_ne_RES]

end

/-- The list of the entries that a request marks. -/
theorem exec_calRequest {l : Lane} {w : Word} {c : Instr}
    (h : c = .calreqWrite l w ∨ (c = .laneCalTask l ∧ w = 0x1FFFF#32)) :
    ∃ t, exec c s = .next (t.forEach (bitsOf 17 w.toNat) (calMark l)) ∧ t.regs = s.regs ∧ OnlyIn [.tasks] s t := by
  rcases h with rfl | ⟨rfl, rfl⟩
  · exact ⟨s, rfl, rfl, .refl⟩
  · have hall : bitsOf 17 (0x1FFFF#32).toNat = List.range 17 := by decide
    refine ⟨s.takeTask (TK.LANE l 7), ?_, rfl, by simp⟩
    rw [hall]
    rfl

theorem OnlyIn.frame_regs_lanes_tasks (h : OnlyIn [.regs, .lanes, .tasks] s t) :
    t = { s with regs := t.regs, lanes := t.lanes, tasks := t.tasks } := h.frame

theorem OnlyIn.frame_regs_lanes (h : OnlyIn [.regs, .lanes] s t) : t = { s with regs := t.regs, lanes := t.lanes } := h.frame

theorem OnlyIn.frame_regs_lanes_edges (h : OnlyIn [.regs, .lanes, .edges] s t) :
    t = { s with regs := t.regs, lanes := t.lanes, edges := t.edges } := h.frame

theorem OnlyIn.frame_lanes (h : OnlyIn [.lanes] s t) : t = { s with lanes := t.lanes } := h.frame

/-! ### The check that a temperature sample brings -/

/-- What the check of the entries can do: entries become stale and are released, their temperatures stay. -/
structure CalChecked (l : Nat) (s t : State) : Prop where
  frame : OnlyIn [.regs, .lanes] s t
  regs : RegsBut (Reg.LANE_CALSTALE l :: (List.range 17).map (Reg.LANE_CALMETA l)) s t
  temp : ∀ n, t.getS (Fld.LANE_CALMETA_TEMP l n) = s.getS (Fld.LANE_CALMETA_TEMP l n)
  stale : ∀ n, s.has (Fld.LANE_CALMETA_STALE l n) = true → t.has (Fld.LANE_CALMETA_STALE l n) = true

theorem CalChecked.refl : CalChecked l s s := ⟨.refl, .refl, fun _ => rfl, fun _ h => h⟩

theorem CalChecked.trans (h : CalChecked l s t) (h' : CalChecked l t u) : CalChecked l s u :=
  ⟨h.frame.trans h'.frame, h.regs.trans h'.regs, fun n => (h'.temp n).trans (h.temp n), fun n hn => h'.stale n (h.stale n hn)⟩

theorem CalChecked.ite {p : Prop} [Decidable p] (ht : CalChecked l s t) (hu : CalChecked l s u) :
    CalChecked l s (if p then t else u) := by
  split <;> assumption

theorem mem_entryRegs (hn : n < 17) :
    Reg.LANE_CALMETA l n ∈ Reg.LANE_CALSTALE l :: (List.range 17).map (Reg.LANE_CALMETA l) :=
  List.mem_cons_of_mem _ (List.mem_map_of_mem (List.mem_range.mpr hn))

theorem calChecked_setCalStale (hn : n < 17) : CalChecked l s (setCalStale l n true s) where
  frame := onlyIn_setCalStale.mono (by decide)
  regs := regsBut_setCalStale.mono (List.cons_subset.mpr ⟨mem_entryRegs hn, by simp⟩)
  temp _ := State.getS_eq_of_get (get_CALMETA_setCalStale rfl (.inr rfl))
  stale m h := by
    by_cases hm : m = n
    case pos => rw [hm, has_STALE_setCalStale_self]
    case neg => rw [has_STALE_setCalStale_ne hm, h]

theorem calChecked_calRelease (hn : n < 17) : CalChecked l s (calRelease l n s) where
  frame := onlyIn_calRelease
  regs := regsBut_calRelease.mono (List.cons_subset.mpr ⟨mem_entryRegs hn, List.nil_subset _⟩)
  temp _ := State.getS_eq_of_get (get_calRelease (.inr rfl))
  stale _ h := (State.has_eq_of_get (get_calRelease (.inr rfl))).trans h

/-- The first half of the evaluation: an entry whose temperature the lane has left, or that is too old, becomes stale. -/
def staleByTemp (l n : Nat) (s : State) : State :=
  if calMoved s l (s.getS (Fld.LANE_CALMETA_TEMP l n)) ∨ calAged s l n then setCalStale l n true s else s

theorem calChecked_staleByTemp (hn : n < 17) : CalChecked l s (staleByTemp l n s) :=
  .ite (calChecked_setCalStale hn) .refl

theorem calEvaluate_after (hn : n < 17) : CalChecked l (staleByTemp l n s) (calEvaluate l n s) := by
  unfold calEvaluate
  extract_lets s₁
  change CalChecked l s₁ _
  split
  · exact .ite (calChecked_calRelease hn) .refl
  · exact .refl

theorem calChecked_calEvaluate (hn : n < 17) : CalChecked l s (calEvaluate l n s) :=
  (calChecked_staleByTemp hn).trans (calEvaluate_after hn)

/-- An entry whose temperature the lane has left is stale after its evaluation. -/
theorem stale_calEvaluate (hn : n < 17) (h : calMoved s l (s.getS (Fld.LANE_CALMETA_TEMP l n)) = true) :
    (calEvaluate l n s).has (Fld.LANE_CALMETA_STALE l n) = true := by
  refine (calEvaluate_after hn).stale n ?_
  rw [staleByTemp, if_pos (.inl h), has_STALE_setCalStale_self]

theorem CalChecked.calMoved (h : CalChecked l s t) : calMoved t l (t.getS (Fld.LANE_CALMETA_TEMP l n))
    = calMoved s l (s.getS (Fld.LANE_CALMETA_TEMP l n)) := by
  have hcfg : (Fld.LANE_CALCFG_TEMPTHR l).addr ∉ Reg.LANE_CALSTALE l :: (List.range 17).map (Reg.LANE_CALMETA l) := by
    simp only [Fld.LANE_CALCFG_TEMPTHR, Reg.LANE_CALCFG, Reg.LANE_CALSTALE, Reg.LANE_CALMETA, List.mem_cons, List.mem_map,
      not_or, not_exists, not_and]
    refine ⟨by omega, fun n _ => by omega⟩
  have htemp : (Fld.LANE_CALTEMP_TEMP l).addr ∉ Reg.LANE_CALSTALE l :: (List.range 17).map (Reg.LANE_CALMETA l) := by
    simp only [Fld.LANE_CALTEMP_TEMP, Reg.LANE_CALTEMP, Reg.LANE_CALSTALE, Reg.LANE_CALMETA, List.mem_cons, List.mem_map,
      not_or, not_exists, not_and]
    refine ⟨by omega, fun n _ => by omega⟩
  rw [Machine.calMoved, Machine.calMoved, h.temp, h.regs.get hcfg, h.regs.getS htemp]

theorem calChecked_evaluations {ns : List Nat} (hns : ∀ n ∈ ns, n < 17) :
    CalChecked l s (s.forEach ns (calEvaluate l)) := by
  induction ns generalizing s with
  | nil => exact .refl
  | cons n ns ih =>
    exact (calChecked_calEvaluate (hns n List.mem_cons_self)).trans (ih fun m hm => hns m (List.mem_cons_of_mem _ hm))

theorem stale_evaluations {ns : List Nat} (hns : ∀ n ∈ ns, n < 17) (hn : n ∈ ns)
    (h : calMoved s l (s.getS (Fld.LANE_CALMETA_TEMP l n)) = true) :
    (s.forEach ns (calEvaluate l)).has (Fld.LANE_CALMETA_STALE l n) = true := by
  induction ns generalizing s with
  | nil => exact absurd hn List.not_mem_nil
  | cons k ns ih =>
    have hk : k < 17 := hns k List.mem_cons_self
    have hrest : ∀ m ∈ ns, m < 17 := fun m hm => hns m (List.mem_cons_of_mem _ hm)
    rcases List.mem_cons.mp hn with rfl | hmem
    · exact (calChecked_evaluations hrest).stale n (stale_calEvaluate hk h)
    · exact ih (s := calEvaluate l k s) hrest hmem ((calChecked_calEvaluate hk).calMoved.trans h)

theorem calCheck_of_good (h : (s.lane l).calBad = []) : calCheck l s = s.forEach (List.range 17) (calEvaluate l) := by
  rw [calCheck, h]
  rfl

/-- Entries whose parity fails are noted with the lane. -/
def State.calBadAdd (l : Nat) (x : BitVec 17) (s : State) : State :=
  s.setLane l { s.lane l with calBad := (s.lane l).calBad ++ bitsOf 17 x.toNat }

theorem calBad_calBadAdd_zero (h : (s.lane l).calBad = []) : ((s.calBadAdd l 0).lane l).calBad = [] := by
  by_cases hl : l < s.lanes.length
  case pos =>
    rw [State.calBadAdd, State.lane_setLane_self hl]
    exact (congrArg (· ++ bitsOf 17 (0 : BitVec 17).toNat) h).trans (by decide)
  case neg =>
    have hsame : (s.calBadAdd l 0).lane l = s.lane l :=
      State.lane_congr (List.set_eq_of_length_le (Nat.le_of_not_lt hl))
    rw [hsame, h]

/-- The temperature of a sample, with no entry's parity failing at its check. -/
def State.tempSampled (l : Nat) (temp : BitVec 8) (s : State) : State :=
  (s.put (Fld.LANE_CALTEMP_TEMP l) temp.toNat).calBadAdd l 0

theorem exec_laneTempSample_of_on {l : Lane} {temp : BitVec 8} {upset : BitVec 17} (hon : s.domOn (9 + l.val) = true)
    (hgood : (s.lane l).calBad = []) : exec (.laneTempSample l temp 0 upset) s
      = .next (((s.tempSampled l temp).forEach (List.range 17) (calEvaluate l)).calBadAdd l upset) := by
  have hgood' : ((s.tempSampled l temp).lane l).calBad = [] := calBad_calBadAdd_zero hgood
  rw [← calCheck_of_good hgood']
  exact if_neg (by simp [hon])

theorem onlyIn_calBadAdd {p : List Part} {x : BitVec 17} (h : .lanes ∈ p) : OnlyIn p s (t.calBadAdd l x) ↔ OnlyIn p s t :=
  onlyIn_setLane h

theorem onlyIn_tempSampled {temp : BitVec 8} : OnlyIn [.regs, .lanes] s (s.tempSampled l temp) :=
  (onlyIn_calBadAdd (by decide)).mpr (by simp)

theorem regsBut_tempSampled {temp : BitVec 8} : RegsBut [Reg.LANE_CALTEMP l] s (s.tempSampled l temp) := by
  simp [State.tempSampled, State.calBadAdd, Fld.LANE_CALTEMP_TEMP]

theorem getS_TEMP_tempSampled {temp : BitVec 8} : (s.tempSampled l temp).getS (Fld.LANE_CALTEMP_TEMP l) = temp.toInt := by
  rw [State.tempSampled, State.calBadAdd, State.getS_setLane, State.getS_put_fits rfl]
  have hw : (Fld.LANE_CALTEMP_TEMP l).width = 8 := rfl
  have hlt := temp.isLt
  rw [hw, toS, BitVec.toInt_eq_toNat_cond]
  omega

theorem exec_calRetryTimer {l : Lane} {n : Fin 17} : exec (.calRetryTimer l n) s
    = .next (s.setLane l { s.lane l with calRetry := (s.lane l).calRetry.filter (fun k => k != n.val) }) := rfl

/-- Settles O26: requests mark entries one by one, and a sample evaluates all of them. -/
theorem calibrationRequests : Obligations.CalibrationRequests := by
  intro l s
  refine ⟨fun v c hc => ?request, fun temp upset hon hgood => ?sample, fun n hlen => ?retry⟩
  case request =>
    obtain ⟨t, heq, hregs, htask⟩ := exec_calRequest (s := s) hc
    have hget : ∀ f : Field, t.get f = s.get f := fun f => State.get_congr hregs
    refine .of_eq heq ⟨fun n hn => ⟨?stale, ?failcnt, ?result⟩, ?others,
      OnlyIn.frame_regs_lanes_tasks ((htask.mono (by decide)).trans (onlyIn_calMarks.mono (by decide)))⟩
    case stale =>
      rw [has_STALE_calMarks, State.has_eq_of_get (hget _)]
      simp [mem_bitsOf, hn]
    case failcnt =>
      rw [get_FAILCNT_calMarks, hget]
      simp [mem_bitsOf, hn]
    case result => rw [rd_CALRES_calMarks, State.rd_congr hregs]
    case others =>
      refine RegsBut.trans (.of_regs hregs) (regsBut_calMarks (fun n hn => mem_entryRegs (mem_bitsOf.mp hn).1) ?_)
      exact List.mem_cons_self
  case sample =>
    have hchecked := calChecked_evaluations (s := s.tempSampled l temp) (l := l) (ns := List.range 17)
      fun n hn => List.mem_range.mp hn
    have hmeta : ∀ n, Reg.LANE_CALMETA l n ∉ [Reg.LANE_CALTEMP l] := fun n => by
      simp only [Reg.LANE_CALMETA, Reg.LANE_CALTEMP, List.mem_singleton]
      omega
    have htemp : (Fld.LANE_CALTEMP_TEMP l).addr ∉ Reg.LANE_CALSTALE l :: (List.range 17).map (Reg.LANE_CALMETA l) := by
      simp only [Fld.LANE_CALTEMP_TEMP, Reg.LANE_CALTEMP, Reg.LANE_CALSTALE, Reg.LANE_CALMETA, List.mem_cons, List.mem_map,
        not_or, not_exists, not_and]
      exact ⟨by omega, fun n _ => by omega⟩
    refine .of_eq (exec_laneTempSample_of_on hon hgood) ⟨?temp, fun n hn hmoved => ?marks, fun n hn hstale => ?keeps, ?regs, ?frame⟩
    case temp => exact State.getS_setLane.trans ((hchecked.regs.getS htemp).trans getS_TEMP_tempSampled)
    case marks =>
      refine State.has_setLane.trans (stale_evaluations (fun n hn => List.mem_range.mp hn) (List.mem_range.mpr hn) ?_)
      have hcfg : (Fld.LANE_CALCFG_TEMPTHR l).addr ∉ [Reg.LANE_CALTEMP l] := by
        simp [Fld.LANE_CALCFG_TEMPTHR, Reg.LANE_CALCFG, Reg.LANE_CALTEMP]
      rw [Machine.calMoved, regsBut_tempSampled.get hcfg, getS_TEMP_tempSampled, regsBut_tempSampled.getS (hmeta n)]
      exact decide_eq_true hmoved
    case keeps =>
      exact State.has_setLane.trans (hchecked.stale n ((regsBut_tempSampled.has (hmeta n)).trans hstale))
    case regs =>
      refine regsBut_setLane.mpr ((regsBut_tempSampled.mono ?_).trans (hchecked.regs.mono ?_))
      · simp
      · exact fun a ha => List.mem_cons_of_mem _ ha
    case frame =>
      exact ((onlyIn_calBadAdd (by decide)).mpr (onlyIn_tempSampled.trans hchecked.frame)).frame_regs_lanes
  case retry =>
    refine .of_eq exec_calRetryTimer ⟨?gone, fun k hk => ?others, OnlyIn.frame_lanes (by simp)⟩
    case gone => simp [State.lane_setLane_self hlen]
    case others => simp [State.lane_setLane_self hlen, hk]

/-! ### The engine's steps -/

theorem mem_calBandOrder {band : Nat} {first : Option Nat} (h : n ∈ calBandOrder band first) : n < 17 := by
  unfold calBandOrder at h
  have hvco : ∀ k ∈ (if band = 0 then [0, 1, 2, 3] else [4, 5]), k < 17 := by
    split <;> decide
  have hrest : ∀ k ∈ (if band = 0 then [9, 10, 11, 12, 6] else [13, 14, 15, 16, 7]), k < 17 := by
    split <;> decide
  generalize (if band = 0 then [0, 1, 2, 3] else [4, 5]) = vco at h hvco
  rcases List.mem_append.mp h with h | h
  case inr => exact hrest n h
  case inl =>
    cases first with
    | none => exact hvco n h
    | some k =>
      dsimp only at h
      split at h
      case isFalse => exact hvco n h
      case isTrue hk =>
        rcases List.mem_cons.mp h with rfl | h
        · exact hvco n (List.contains_iff_mem.mp hk)
        · exact hvco n (List.mem_filter.mp h).1

/-- The engine takes one of the 17 entries. -/
theorem calNext_lt (h : calNext s l = some n) : n < 17 := by
  have hmem : n ∈ calOrder s l := List.mem_of_find?_eq_some h
  unfold calOrder at hmem
  split at hmem <;>
  · rcases List.mem_cons.mp hmem with rfl | hmem
    · decide
    · rcases List.mem_append.mp hmem with hmem | hmem <;> exact mem_calBandOrder hmem

theorem exec_calStepStart_of_next {l : Lane} (hrun : calMayRun s l = true) (hbusy : s.has (Fld.LANE_CALSTAT_BUSY l) = false)
    (hnext : calNext s l = some n) : exec (.calStepStart l) s = .next (calBegin l n s) := by
  rw [exec, execCalStepStart]
  rw [if_neg (by simp [hbusy]), if_neg (by simp [hrun]), hnext]

/-- A step that is not the last leads to the next one of the same entry. -/
theorem exec_calStepDone_of_more {l : Lane} {res : Word} {fault : Bool} (hst : s.laneSt l = 5)
    (hentry : s.get (Fld.LANE_CALSTAT_ENTRY l) = n) (hstep : s.get (Fld.LANE_CALSTAT_STEP l) = k)
    (hlock : (s.lane l).calRelock = 0) (hk : 0 < k) (hmore : k < calSteps n) :
    exec (.calStepDone l res fault) s = .next (calNextStep l (k + 1) s) := by
  rw [exec, execCalStepDone]
  dsimp only
  rw [if_neg (by simp [hst]), hentry, hstep, hlock, if_neg (Nat.not_lt_zero k), if_neg (by omega), if_pos (by omega)]

theorem calNextStep_of_goesOn (h : calGoesOn s l = true) :
    calNextStep l k s = s.put (Fld.LANE_CALSTAT_STEP l) k := by
  have hcfg : (Fld.LANE_CALCFG_BGEN l).addr ≠ (Fld.LANE_CALSTAT_STEP l).addr := by
    simp [Fld.LANE_CALCFG_BGEN, Fld.LANE_CALSTAT_STEP, Reg.LANE_CALCFG, Reg.LANE_CALSTAT]
  have hstat : (Fld.LANE_STAT_RETIRED l).addr ≠ (Fld.LANE_CALSTAT_STEP l).addr := by
    simp [Fld.LANE_STAT_RETIRED, Fld.LANE_CALSTAT_STEP, Reg.LANE_STAT, Reg.LANE_CALSTAT]
  have hgoes : calGoesOn (s.put (Fld.LANE_CALSTAT_STEP l) k) l = calGoesOn s l := by
    rw [calGoesOn, calGoesOn, State.has_put_other hcfg, State.retired, State.retired, State.has_put_other hstat]
    rfl
  exact if_pos (hgoes.trans h)

/-- The lane is left in STANDBY, where the link controller owns it. -/
def State.calLeft (l : Nat) (s : State) : State := (s.unflag (Fld.LANE_CALSTAT_BUSY l)).setLaneSt l 1

theorem calLeave_of_controller (h : s.owner l = 0) : calLeave l s = s.calLeft l := by
  have howner : (s.calLeft l).owner l = s.owner l := by
    simp [State.owner, State.calLeft, State.setLaneSt, State.unflag_eq_put, Fld.LANE_CTL_OWNER, Fld.LANE_CALSTAT_BUSY,
      Fld.LANE_STAT_STATE, Reg.LANE_CTL, Reg.LANE_STAT, Reg.LANE_CALSTAT]
  exact if_neg (by rw [← State.calLeft, howner, h]; decide)

theorem onlyIn_calLeft : OnlyIn [.regs] s (s.calLeft l) := by simp [State.calLeft, State.setLaneSt]

theorem regsBut_calLeft : RegsBut [Reg.LANE_STAT l, Reg.LANE_CALSTAT l] s (s.calLeft l) := by
  simp [State.calLeft, State.setLaneSt, Fld.LANE_STAT_STATE, Fld.LANE_CALSTAT_BUSY]

/-- The result is in the store, and counted. -/
def State.calStored (l n : Nat) (res : Word) (s : State) : State :=
  (calStore l n res (s.lane l).calTemp s).inc (Fld.LANE_CALCNT_DONE l)

theorem exec_calStepDone_of_last {l : Lane} {res : Word} {fault : Bool} (hst : s.laneSt l = 5)
    (hentry : s.get (Fld.LANE_CALSTAT_ENTRY l) = n) (hstep : s.get (Fld.LANE_CALSTAT_STEP l) = k)
    (hlock : (s.lane l).calRelock = 0) (hk : 0 < k) (hlast : calSteps n ≤ k) (hn : n ≠ 8)
    (hcode : calCode n res.toNat fault = 0) (howner : s.owner l = 0) :
    exec (.calStepDone l res fault) s = .next (if ((s.calLeft l).calStored l n res).get (Fld.LANE_CALSTALE_STALE l) = 0
      then ((s.calLeft l).calStored l n res).fire (EV.LANE_CALDONE l) else (s.calLeft l).calStored l n res) := by
  rw [exec, execCalStepDone]
  dsimp only
  rw [if_neg (by simp [hst]), hentry, hstep, hlock, if_neg (Nat.not_lt_zero k), if_neg (by omega), if_neg (by omega),
    if_pos hcode, calLeave_of_controller howner, calSucceed]
  rw [if_neg hn]
  rfl

/-! ### A good result in the store -/

section
variable {res : Word} {temp : Int}

/-- The result with its temperature, VALID and ORIGIN. -/
def State.calResult (l n : Nat) (res : Word) (temp : Int) (s : State) : State :=
  (((s.wr (Reg.LANE_CALRES l n) (res &&& calMask n)).putS (Fld.LANE_CALMETA_TEMP l n) temp).flag
    (Fld.LANE_CALMETA_VALID l n)).flag (Fld.LANE_CALMETA_ORIGIN l n)

/-- No failure and no staleness is left of the entry. -/
def State.calClean (l n : Nat) (s : State) : State :=
  setCalFailed l n false (setCalStale l n false (s.put (Fld.LANE_CALMETA_FAILCNT l n) 0))

theorem calStore_eq : calStore l n res temp s = calFresh l n (((s.calResult l n res temp).calClean l n).put
    (Fld.LANE_CALSTAMP_STAMP l n) ((s.calResult l n res temp).calClean l n).stamp) := by
  unfold calStore State.calClean State.calResult
  rfl

theorem onlyIn_calResult : OnlyIn [.regs] s (s.calResult l n res temp) := by simp [State.calResult]

theorem regsBut_calResult : RegsBut [Reg.LANE_CALRES l n, Reg.LANE_CALMETA l n] s (s.calResult l n res temp) := by
  simp [State.calResult, Fld.LANE_CALMETA_TEMP, Fld.LANE_CALMETA_VALID, Fld.LANE_CALMETA_ORIGIN]

theorem rd_RES_calResult : (s.calResult l n res temp).rd (Reg.LANE_CALRES l n) = res &&& calMask n := by
  have hne : Reg.LANE_CALRES l n ≠ Reg.LANE_CALMETA l n := Reg.LANE_CALMETA_ne_RES.symm
  simp [State.calResult, State.flag_eq_put, State.putS_eq_put, Fld.LANE_CALMETA_TEMP, Fld.LANE_CALMETA_VALID,
    Fld.LANE_CALMETA_ORIGIN, hne]

theorem has_VALID_calResult : (s.calResult l n res temp).has (Fld.LANE_CALMETA_VALID l n) = true := by
  simp [State.calResult, State.flag_eq_put, Fld.LANE_CALMETA_VALID, Fld.LANE_CALMETA_ORIGIN]

theorem onlyIn_calClean : OnlyIn [.regs] s (s.calClean l n) := by simp [State.calClean, setCalFailed, setCalStale]

theorem regsBut_calClean :
    RegsBut [Reg.LANE_CALMETA l n, Reg.LANE_CALSTALE l, Reg.LANE_CALFAILED l] s (s.calClean l n) := by
  simp [State.calClean, setCalFailed, setCalStale, Fld.LANE_CALMETA_FAILCNT, Fld.LANE_CALMETA_STALE, Fld.LANE_CALMETA_FAILED]

theorem State.rd_put_congr (h : t.rd f.addr = s.rd f.addr) : (t.put f v).rd f.addr = (s.put f v).rd f.addr := by
  rw [State.rd_put_self, State.rd_put_self, h]

/-- A field of CALMETA reads after the marks of CALSTALE and CALFAILED as the three writes of CALMETA leave it. -/
theorem get_calClean (ha : f.addr = Reg.LANE_CALMETA l n) : (s.calClean l n).get f
    = (((s.put (Fld.LANE_CALMETA_FAILCNT l n) 0).put (Fld.LANE_CALMETA_STALE l n) 0).put (Fld.LANE_CALMETA_FAILED l n) 0).get f := by
  have hstale : f.addr ≠ Reg.LANE_CALSTALE l := ha ▸ Reg.LANE_CALMETA_ne_STALE
  have hfailed : f.addr ≠ Reg.LANE_CALFAILED l := ha ▸ Reg.LANE_CALMETA_ne_FAILED
  have hrd : ∀ {u w : State}, u.rd (Reg.LANE_CALMETA l n) = w.rd (Reg.LANE_CALMETA l n) → u.get f = w.get f :=
    fun h => State.get_eq_of_rd (by rw [ha, h])
  refine hrd ?_
  rw [State.calClean, setCalFailed, setCalStale, State.rd_putBit_ne Reg.LANE_CALMETA_ne_FAILED]
  refine State.rd_put_congr (f := Fld.LANE_CALMETA_FAILED l n) ?_
  exact State.rd_putBit_ne Reg.LANE_CALMETA_ne_STALE

@[simp] theorem State.get_calFresh : (calFresh l n s).get f = s.get f := rfl
@[simp] theorem State.rd_calFresh {a : Nat} : (calFresh l n s).rd a = s.rd a := rfl
@[simp] theorem regsBut_calFresh {r : List Nat} : RegsBut r s (calFresh l n t) ↔ RegsBut r s t := Iff.rfl

theorem onlyIn_calFresh {p : List Part} (h : .lanes ∈ p) : OnlyIn p s (calFresh l n t) ↔ OnlyIn p s t := onlyIn_setLane h

theorem onlyIn_calStore : OnlyIn [.regs, .lanes] s (calStore l n res temp s) := by
  have h : OnlyIn [.regs, .lanes] s ((s.calResult l n res temp).calClean l n) :=
    (onlyIn_calResult.trans onlyIn_calClean).mono (by decide)
  rw [calStore_eq]
  exact (onlyIn_calFresh (by decide)).mpr (by simp [h])

theorem regsBut_calStore : RegsBut [Reg.LANE_CALRES l n, Reg.LANE_CALMETA l n, Reg.LANE_CALSTAMP l n, Reg.LANE_CALSTALE l,
    Reg.LANE_CALFAILED l] s (calStore l n res temp s) := by
  have h : RegsBut [Reg.LANE_CALRES l n, Reg.LANE_CALMETA l n, Reg.LANE_CALSTAMP l n, Reg.LANE_CALSTALE l,
      Reg.LANE_CALFAILED l] s ((s.calResult l n res temp).calClean l n) :=
    (regsBut_calResult.mono (by simp)).trans (regsBut_calClean.mono (by simp))
  rw [calStore_eq]
  simp [Fld.LANE_CALSTAMP_STAMP, h]

theorem get_CALMETA_calStore (ha : f.addr = Reg.LANE_CALMETA l n) :
    (calStore l n res temp s).get f = ((s.calResult l n res temp).calClean l n).get f := by
  have hstamp : f.addr ≠ (Fld.LANE_CALSTAMP_STAMP l n).addr := ha ▸ Reg.LANE_CALMETA_ne_STAMP
  rw [calStore_eq, State.get_calFresh, State.get_put_other hstamp]

theorem rd_RES_calStore : (calStore l n res temp s).rd (Reg.LANE_CALRES l n) = res &&& calMask n := by
  have hstamp : Reg.LANE_CALRES l n ≠ (Fld.LANE_CALSTAMP_STAMP l n).addr := Reg.LANE_CALRES_ne_STAMP
  have hclean : Reg.LANE_CALRES l n ∉ [Reg.LANE_CALMETA l n, Reg.LANE_CALSTALE l, Reg.LANE_CALFAILED l] := by
    simp [Reg.LANE_CALMETA_ne_RES.symm, Reg.LANE_CALRES_ne_STALE, Reg.LANE_CALRES_ne_FAILED]
  rw [calStore_eq, State.rd_calFresh, State.rd_put_other hstamp, regsBut_calClean _ hclean, rd_RES_calResult]

theorem get_STAMP_calStore : (calStore l n res temp s).get (Fld.LANE_CALSTAMP_STAMP l n) = s.stamp := by
  have hstamp : ((s.calResult l n res temp).calClean l n).stamp = s.stamp := by
    rw [State.stamp, State.stamp, State.now_congr ((onlyIn_calResult.trans onlyIn_calClean).tide (by decide))]
  rw [calStore_eq, State.get_calFresh, State.get_put_fits rfl, hstamp]
  exact Nat.mod_mod ..

/-- VALID is set, and nothing stale or failed is left of the entry. -/
theorem meta_calStore : (calStore l n res temp s).has (Fld.LANE_CALMETA_VALID l n) = true
    ∧ (calStore l n res temp s).has (Fld.LANE_CALMETA_STALE l n) = false
    ∧ (calStore l n res temp s).has (Fld.LANE_CALMETA_FAILED l n) = false
    ∧ (calStore l n res temp s).get (Fld.LANE_CALMETA_FAILCNT l n) = 0 := by
  have hmeta : ∀ g : Field, g.addr = Reg.LANE_CALMETA l n → (calStore l n res temp s).get g
      = ((((s.calResult l n res temp).put (Fld.LANE_CALMETA_FAILCNT l n) 0).put (Fld.LANE_CALMETA_STALE l n) 0).put
          (Fld.LANE_CALMETA_FAILED l n) 0).get g := fun g hg => (get_CALMETA_calStore hg).trans (get_calClean hg)
  refine ⟨?valid, ?stale, ?failed, ?failcnt⟩
  case valid =>
    rw [State.has_eq_of_get (hmeta _ rfl), State.has_put_bitsApart rfl rfl, State.has_put_bitsApart rfl rfl,
      State.has_put_bitsApart rfl rfl, has_VALID_calResult]
  case stale =>
    rw [State.has_eq_of_get (hmeta _ rfl), State.has_put_bitsApart rfl rfl, State.has_put_fits rfl]
    rfl
  case failed =>
    rw [State.has_eq_of_get (hmeta _ rfl), State.has_put_fits rfl]
    rfl
  case failcnt =>
    rw [hmeta _ rfl, State.get_put_bitsApart rfl rfl, State.get_put_bitsApart rfl rfl, State.get_put_fits rfl]
    rfl

end

/-- What the engine leaves with a good result, before the event that tells of the last stale entry. -/
def State.calFinished (l n : Nat) (res : Word) (s : State) : State := (s.calLeft l).calStored l n res

section
variable {res : Word}

theorem onlyIn_calFinished : OnlyIn [.regs, .lanes] s (s.calFinished l n res) := by
  have h : OnlyIn [.regs, .lanes] s (calStore l n res ((s.calLeft l).lane l).calTemp (s.calLeft l)) :=
    (onlyIn_calLeft.mono (by decide)).trans onlyIn_calStore
  simp [State.calFinished, State.calStored, h]

theorem regsBut_calFinished : RegsBut [Reg.LANE_STAT l, Reg.LANE_CALSTAT l, Reg.LANE_CALRES l n, Reg.LANE_CALMETA l n,
    Reg.LANE_CALSTAMP l n, Reg.LANE_CALSTALE l, Reg.LANE_CALFAILED l, Reg.LANE_CALCNT l] s (s.calFinished l n res) := by
  have h : RegsBut [Reg.LANE_STAT l, Reg.LANE_CALSTAT l, Reg.LANE_CALRES l n, Reg.LANE_CALMETA l n,
      Reg.LANE_CALSTAMP l n, Reg.LANE_CALSTALE l, Reg.LANE_CALFAILED l, Reg.LANE_CALCNT l] s
      (calStore l n res ((s.calLeft l).lane l).calTemp (s.calLeft l)) :=
    (regsBut_calLeft.mono (by simp)).trans (regsBut_calStore.mono (by simp))
  simp [State.calFinished, State.calStored, Fld.LANE_CALCNT_DONE, h]

theorem Reg.LANE_CALCNT_ne_entry {a : Nat} (h : a = Reg.LANE_CALRES l n ∨ a = Reg.LANE_CALMETA l n ∨ a = Reg.LANE_CALSTAMP l n) :
    a ≠ Reg.LANE_CALCNT l := by
  simp only [Reg.LANE_CALRES, Reg.LANE_CALMETA, Reg.LANE_CALSTAMP, Reg.LANE_CALCNT] at h ⊢
  omega

/-- A field of the entry reads as the store left it: the count stands elsewhere. -/
theorem get_calFinished (ha : f.addr ≠ Reg.LANE_CALCNT l) : (s.calFinished l n res).get f
    = (calStore l n res ((s.calLeft l).lane l).calTemp (s.calLeft l)).get f := State.get_put_other ha

theorem laneSt_BUSY_calFinished :
    (s.calFinished l n res).laneSt l = 1 ∧ (s.calFinished l n res).has (Fld.LANE_CALSTAT_BUSY l) = false := by
  have hout : ∀ g : Field, g.addr = Reg.LANE_STAT l ∨ g.addr = Reg.LANE_CALSTAT l →
      (s.calFinished l n res).get g = (s.calLeft l).get g := by
    intro g hg
    have hcnt : g.addr ≠ Reg.LANE_CALCNT l := by
      simp only [Reg.LANE_STAT, Reg.LANE_CALSTAT, Reg.LANE_CALCNT] at hg ⊢
      omega
    have hstore : g.addr ∉ [Reg.LANE_CALRES l n, Reg.LANE_CALMETA l n, Reg.LANE_CALSTAMP l n, Reg.LANE_CALSTALE l,
        Reg.LANE_CALFAILED l] := by
      simp only [Reg.LANE_STAT, Reg.LANE_CALSTAT, Reg.LANE_CALRES, Reg.LANE_CALMETA, Reg.LANE_CALSTAMP, Reg.LANE_CALSTALE,
        Reg.LANE_CALFAILED, List.mem_cons, List.not_mem_nil, or_false] at hg ⊢
      omega
    rw [get_calFinished hcnt, regsBut_calStore.get hstore]
  constructor
  · rw [State.laneSt, hout _ (.inl rfl)]
    exact State.get_put_fits rfl
  · rw [State.has_eq_of_get (hout _ (.inr rfl)), State.calLeft, State.setLaneSt, State.has_put_other, State.has_unflag_fits rfl]
    simp [Fld.LANE_CALSTAT_BUSY, Fld.LANE_STAT_STATE, Reg.LANE_CALSTAT, Reg.LANE_STAT]

theorem get_DONE_calFinished (hn : n < 17) :
    (s.calFinished l n res).get (Fld.LANE_CALCNT_DONE l) = s.counted (Fld.LANE_CALCNT_DONE l) := by
  have hstore : (Fld.LANE_CALCNT_DONE l).addr ∉ [Reg.LANE_CALRES l n, Reg.LANE_CALMETA l n, Reg.LANE_CALSTAMP l n,
      Reg.LANE_CALSTALE l, Reg.LANE_CALFAILED l] := by
    simp only [Fld.LANE_CALCNT_DONE, Reg.LANE_CALCNT, Reg.LANE_CALRES, Reg.LANE_CALMETA, Reg.LANE_CALSTAMP, Reg.LANE_CALSTALE,
      Reg.LANE_CALFAILED, List.mem_cons, List.not_mem_nil, or_false]
    omega
  have hleft : (Fld.LANE_CALCNT_DONE l).addr ∉ [Reg.LANE_STAT l, Reg.LANE_CALSTAT l] := by
    simp only [Fld.LANE_CALCNT_DONE, Reg.LANE_CALCNT, Reg.LANE_STAT, Reg.LANE_CALSTAT, List.mem_cons, List.not_mem_nil, or_false]
    omega
  have hkeep : (calStore l n res ((s.calLeft l).lane l).calTemp (s.calLeft l)).get (Fld.LANE_CALCNT_DONE l)
      = s.get (Fld.LANE_CALCNT_DONE l) := (regsBut_calStore.get hstore).trans (regsBut_calLeft.get hleft)
  rw [State.calFinished, State.calStored, State.get_inc_fits rfl, State.counted, State.counted, hkeep]

end

/-- What the registers of lane `l` say of entry `n` after a good result `res` that `s` received. -/
def State.HasCalResult (l : Nat) (n : Nat) (res : Word) (s t : State) : Prop :=
  t.laneSt l = 1 ∧ t.has (Fld.LANE_CALSTAT_BUSY l) = false
    ∧ t.rd (Reg.LANE_CALRES l n) = res &&& calMask n ∧ t.has (Fld.LANE_CALMETA_VALID l n) = true
    ∧ t.has (Fld.LANE_CALMETA_STALE l n) = false ∧ t.has (Fld.LANE_CALMETA_FAILED l n) = false
    ∧ t.get (Fld.LANE_CALMETA_FAILCNT l n) = 0 ∧ t.get (Fld.LANE_CALSTAMP_STAMP l n) = s.stamp
    ∧ t.get (Fld.LANE_CALCNT_DONE l) = s.counted (Fld.LANE_CALCNT_DONE l)

theorem State.hasCalResult_fire {res : Word} {t : State} {p : Nat} :
    s.HasCalResult l n res (t.fire p) ↔ s.HasCalResult l n res t := by
  simp only [State.HasCalResult, State.laneSt, State.get_fire, State.has_fire, State.rd_fire]

theorem hasCalResult_calFinished {res : Word} (hn : n < 17) : s.HasCalResult l n res (s.calFinished l n res) := by
  obtain ⟨hidle, hnotBusy⟩ := laneSt_BUSY_calFinished (s := s) (l := l) (n := n) (res := res)
  have hentryReg := Reg.LANE_CALCNT_ne_entry (l := l) (n := n) (a := Reg.LANE_CALMETA l n) (.inr (.inl rfl))
  obtain ⟨hvalid, hstale, hfailed, hfailcnt⟩ := meta_calStore (s := s.calLeft l) (l := l) (n := n) (res := res)
    (temp := ((s.calLeft l).lane l).calTemp)
  have hstamp : (s.calLeft l).stamp = s.stamp := by
    rw [State.stamp, State.stamp, State.now_congr (onlyIn_calLeft.tide (by decide))]
  have hres : (s.calFinished l n res).rd (Reg.LANE_CALRES l n) = res &&& calMask n := by
    rw [State.calFinished, State.calStored, State.inc_eq_put, State.rd_put_other, rd_RES_calStore]
    exact Reg.LANE_CALCNT_ne_entry (.inl rfl)
  exact ⟨hidle, hnotBusy, hres, (State.has_eq_of_get (get_calFinished hentryReg)).trans hvalid,
    (State.has_eq_of_get (get_calFinished hentryReg)).trans hstale,
    (State.has_eq_of_get (get_calFinished hentryReg)).trans hfailed, (get_calFinished hentryReg).trans hfailcnt,
    (get_calFinished (Reg.LANE_CALCNT_ne_entry (.inr (.inr rfl)))).trans (get_STAMP_calStore.trans hstamp),
    get_DONE_calFinished hn⟩

/-- The clause on the start: the engine takes the idle lane for the next stale entry. -/
theorem answers_calStepStart {l : Lane} (hrun : calMayRun s l = true) (hbusy : s.has (Fld.LANE_CALSTAT_BUSY l) = false)
    (hnext : calNext s l = some n) :
    Answers (exec (.calStepStart l) s) fun t =>
      t.laneSt l = 5 ∧ t.has (Fld.LANE_CALSTAT_BUSY l) = true ∧ t.get (Fld.LANE_CALSTAT_ENTRY l) = n
      ∧ t.get (Fld.LANE_CALSTAT_STEP l) = 1 ∧ RegsBut [Reg.LANE_STAT l, Reg.LANE_CALSTAT l] s t
      ∧ t = { s with regs := t.regs, lanes := t.lanes, yielded := t.yielded } := by
  obtain ⟨x, hx⟩ := calBegin_eq (s := s) (l := l) (n := n)
  have hmod : n % 32 = n := Nat.mod_eq_of_lt ((calNext_lt hnext).trans (by decide))
  have hstep1 : (if calNeedsLock (s.setLane l x) l n then 1 else 1) % 32 = 1 := by split <;> rfl
  have hlane : OnlyIn [.regs, .lanes, .yielded] s (s.setLane l x) := by simp
  have hregs : RegsBut [Reg.LANE_STAT l, Reg.LANE_CALSTAT l] s (s.setLane l x) := fun _ _ => rfl
  have heq := exec_calStepStart_of_next hrun hbusy hnext
  rw [hx] at heq
  exact .of_eq heq ⟨laneSt_calTake, has_BUSY_calTake, get_ENTRY_calTake.trans hmod, get_STEP_calTake.trans hstep1,
    hregs.trans regsBut_calTake, (hlane.trans onlyIn_calTake).frame_regs_lanes_yielded⟩

/-- The clause on a step in the middle: the engine counts it. -/
theorem answers_calStepDone_of_more {l : Lane} {k : Nat} {res : Word} {fault : Bool} (hst : s.laneSt l = 5)
    (hentry : s.get (Fld.LANE_CALSTAT_ENTRY l) = n) (hstep : s.get (Fld.LANE_CALSTAT_STEP l) = k)
    (hlock : (s.lane l).calRelock = 0) (hk : 0 < k) (hmore : k < calSteps n) (hgoes : calGoesOn s l = true) :
    Answers (exec (.calStepDone l res fault) s) fun t =>
      t.get (Fld.LANE_CALSTAT_STEP l) = k + 1 ∧ RegsBut [Reg.LANE_CALSTAT l] s t ∧ t = { s with regs := t.regs } := by
  have hsteps : calSteps n ≤ 19 := by
    unfold calSteps
    split <;> decide
  have hmod : (k + 1) % 32 = k + 1 := Nat.mod_eq_of_lt (by omega)
  have heq := exec_calStepDone_of_more (res := res) (fault := fault) hst hentry hstep hlock hk hmore
  rw [calNextStep_of_goesOn hgoes] at heq
  exact .of_eq heq ⟨(State.get_put_fits rfl).trans hmod, by simp [Fld.LANE_CALSTAT_STEP], OnlyIn.frame_regs (by simp)⟩

/-- The clause on the last step: the good result is stored, and the event fires when nothing is stale any more. -/
theorem answers_calStepDone_of_last {l : Lane} {k : Nat} {res : Word} {fault : Bool} (hst : s.laneSt l = 5)
    (hentry : s.get (Fld.LANE_CALSTAT_ENTRY l) = n) (hstep : s.get (Fld.LANE_CALSTAT_STEP l) = k)
    (hlock : (s.lane l).calRelock = 0) (hlast : calSteps n ≤ k) (hk : 0 < k) (hn : n < 17) (hn8 : n ≠ 8)
    (hcode : calCode n res.toNat fault = 0) (howner : s.owner l = 0) :
    Answers (exec (.calStepDone l res fault) s) fun t =>
      s.HasCalResult l n res t
      ∧ Fires (if t.get (Fld.LANE_CALSTALE_STALE l) = 0 then [EV.LANE_CALDONE l] else []) s t
      ∧ RegsBut [Reg.LANE_STAT l, Reg.LANE_CALSTAT l, Reg.LANE_CALRES l n, Reg.LANE_CALMETA l n, Reg.LANE_CALSTAMP l n,
          Reg.LANE_CALSTALE l, Reg.LANE_CALFAILED l, Reg.LANE_CALCNT l] s t
      ∧ t = { s with regs := t.regs, lanes := t.lanes, edges := t.edges } := by
  have hframe : OnlyIn [.regs, .lanes, .edges] s (s.calFinished l n res) := onlyIn_calFinished.mono (by decide)
  have heq := exec_calStepDone_of_last hst hentry hstep hlock hk hlast hn8 hcode howner
  rw [← State.calFinished] at heq
  by_cases hall : (s.calFinished l n res).get (Fld.LANE_CALSTALE_STALE l) = 0
  case pos =>
    rw [if_pos hall] at heq
    refine .of_eq heq ⟨State.hasCalResult_fire.mpr (hasCalResult_calFinished hn), ?_, regsBut_fire.mpr regsBut_calFinished,
      OnlyIn.frame_regs_lanes_edges ((onlyIn_fire (by decide)).mpr hframe)⟩
    rw [State.get_fire, if_pos hall]
    exact onlyIn_calFinished.fires_fire (by decide)
  case neg =>
    rw [if_neg hall] at heq
    refine .of_eq heq ⟨hasCalResult_calFinished hn, ?_, regsBut_calFinished, OnlyIn.frame_regs_lanes_edges hframe⟩
    rw [if_neg hall]
    exact onlyIn_calFinished.fires (by decide)

/-- Settles O27: the engine takes the next stale entry, goes through its steps, and stores a good result. -/
theorem calibrationEngine : Obligations.CalibrationEngine := by
  intro l s _
  refine ⟨fun n hrun hbusy hnext => answers_calStepStart hrun hbusy hnext, fun n k res fault hst hentry hstep hlock =>
    ⟨fun hk hmore hgoes => answers_calStepDone_of_more hst hentry hstep hlock hk hmore hgoes,
      fun hlast hk hn hn8 hcode howner => ?_⟩⟩
  obtain ⟨t, heq, ⟨h₁, h₂, h₃, h₄, h₅, h₆, h₇, h₈, h₉⟩, hrest⟩ :=
    answers_calStepDone_of_last hst hentry hstep hlock hlast hk hn hn8 hcode howner
  exact ⟨t, heq, h₁, h₂, h₃, h₄, h₅, h₆, h₇, h₈, h₉, hrest⟩

end Sys2Proof.Machine
end

section
/-!
SUPPORT. The scheduler of the cipher cores at rest (R408 to R411) and the random data source (R432 to R434).
-/

namespace Sys2Proof.Machine

variable {s : State} {k q : Nat} {w : Word} {rest : List Word}

/-! ### Cores that take nothing -/

theorem queueReady_of_inactive (h : (s.queue q).active = false) : queueReady s q k = false := by
  unfold queueReady
  dsimp only
  split
  · simp [h]
  · rfl

theorem coreGrant_of_busy (h : (s.core k).isSome = true) : coreGrant k s = s := if_pos h

theorem coreGrant_of_quiet (h : s.CipherQuiet) : coreGrant k s = s := by
  obtain ⟨hlink, hkey, htests, h₀, h₁⟩ := h
  simp [coreGrant, hlink, hkey, htests, queueReady_of_inactive h₀, queueReady_of_inactive h₁]

theorem dispatchCores_of_quiet (h : s.CipherQuiet) : dispatchCores s = s := forEach_eq_self fun _ _ => coreGrant_of_quiet h

/-- Four cores that all work on LINK blocks. -/
abbrev State.CoresOnLink (s : State) : Prop := s.cipher.cores = [some .link, some .link, some .link, some .link]

theorem dispatchCores_of_link (h : s.CoresOnLink) : dispatchCores s = s := by
  refine forEach_eq_self fun k hk => coreGrant_of_busy ?_
  rw [State.core, h]
  have hk4 : k < 4 := List.mem_range.mp hk
  interval_cases k <;> rfl

/-! ### The refill of the FIFO -/

theorem refillAsk_of_full (h : 12 < s.trng.fifo.length) : refillAsk s = s := if_neg fun ⟨_, h', _⟩ => by omega

/-- The DRBG asks for one block. -/
def State.refillAsked (s : State) : State := { s with cipher := { s.cipher with keyWait := 1 } }

theorem State.has_refillAsked {f : Field} : s.refillAsked.has f = s.has f := rfl

theorem State.regsBut_refillAsked {l : List Nat} {t : State} : RegsBut l s t.refillAsked ↔ RegsBut l s t := Iff.rfl

theorem State.fires_refillAsked {l : List Nat} {t : State} : Fires l s t.refillAsked ↔ Fires l s t := Iff.rfl

theorem refillAsk_of_link (hready : s.drbgReady = true) (hroom : s.trng.fifo.length ≤ 12) (hwait : s.cipher.keyWait = 0)
    (hcores : s.CoresOnLink) : refillAsk s = s.refillAsked := if_pos ⟨hready, hroom, hwait, by rw [hcores]; rfl⟩

theorem dispatch_refillAsk_of_link (hready : s.drbgReady = true) (hroom : s.trng.fifo.length ≤ 12)
    (hwait : s.cipher.keyWait = 0) (hcores : s.CoresOnLink) : dispatchCores (refillAsk s) = s.refillAsked := by
  rw [refillAsk_of_link hready hroom hwait hcores]
  exact dispatchCores_of_link hcores

theorem dispatch_refillAsk_of_quiet (hfull : 12 < s.trng.fifo.length) (hq : s.CipherQuiet) :
    dispatchCores (refillAsk s) = s := by
  rw [refillAsk_of_full hfull]
  exact dispatchCores_of_quiet hq

/-! ### Reads of TRNG_DATA (R433) -/

/-- The oldest word has left the FIFO and is the answer. -/
def State.trngPopped (w : Word) (rest : List Word) (s : State) : State :=
  { refreshAvail { s with trng := { s.trng with fifo := rest } } with bus := .data w }

theorem exec_trngDataRead_of_cons (h : s.trng.fifo = w :: rest) :
    exec .trngDataRead s = .next (dispatchCores (refillAsk (s.trngPopped w rest))) := by
  rw [exec, execTrngDataRead, h]
  rfl

theorem exec_trngDataRead_of_nil (h : s.trng.fifo = []) : exec .trngDataRead s
    = .next { (s.flag Fld.TRNG_FLAGS_UNDERRUN).inc Fld.TRNG_CNT_UNDERRUNS with bus := .data 0 } := by
  rw [exec, execTrngDataRead, h]

theorem get_AVAIL_trngPopped (h : rest.length < 16) : (s.trngPopped w rest).get Fld.TRNG_STAT_AVAIL = rest.length :=
  (State.get_put_fits rfl).trans (Nat.mod_eq_of_lt (h.trans (by decide)))

theorem regsBut_trngPopped : RegsBut [Reg.TRNG_STAT] s (s.trngPopped w rest) := by
  simp [State.trngPopped, refreshAvail, Fld.TRNG_STAT_AVAIL]

theorem trngPopped_frame : s.trngPopped w rest = { s with
    regs := (s.trngPopped w rest).regs, bus := .data w, trng := { s.trng with fifo := rest } } := rfl

theorem drbgReady_trngPopped : (s.trngPopped w rest).drbgReady = s.drbgReady :=
  State.has_put_bitsApart (g := Fld.TRNG_STAT_READY) rfl rfl

/-! ### Failure, restart and READY (R432, R434) -/

theorem OnlyIn.frame_regs_trng {t : State} (h : OnlyIn [.regs, .trng] s t) :
    t = { s with regs := t.regs, trng := t.trng } := h.frame

theorem OnlyIn.frame_regs_trng_edges {t : State} (h : OnlyIn [.regs, .trng, .edges] s t) :
    t = { s with regs := t.regs, trng := t.trng, edges := t.edges } := h.frame

theorem onlyIn_trngStop : OnlyIn [.regs, .trng] s (trngStop s) := by
  simp [trngStop, refreshAvail, onlyIn_trng]

theorem trng_trngStop : (trngStop s).trng = { fifo := [], generates := 0, starting := false } := rfl

theorem get_AVAIL_trngStop : (trngStop s).get Fld.TRNG_STAT_AVAIL = 0 := State.get_put_fits rfl

theorem has_READY_trngStop : (trngStop s).has Fld.TRNG_STAT_READY = false :=
  (State.has_put_bitsApart rfl rfl).trans (State.has_unflag_fits rfl)

theorem regsBut_trngStop : RegsBut [Reg.TRNG_STAT] s (trngStop s) := by
  simp [trngStop, refreshAvail, Fld.TRNG_STAT_AVAIL, Fld.TRNG_STAT_READY]

/-- The start-up has ended. -/
def State.trngStarted (s : State) : State :=
  ((({ s with trng := { s.trng with starting := false } }.flag Fld.TRNG_STAT_READY).unflag Fld.TRNG_STAT_FAILED).unflag
    Fld.TRNG_CTL_RESTART).fire EV.TRNG_READY

theorem exec_trngReady_of_starting (hstart : s.trng.starting = true) (hen : s.has Fld.TRNG_CTL_EN = true)
    (hpass : s.keys.passWaits = false) : exec .trngReady s = .next (dispatchCores (refillAsk s.trngStarted)) := by
  rw [exec, execTrngReady, if_neg (by simp [hstart, hen])]
  dsimp only
  rw [if_neg]
  · rfl
  · simp only [State.fire_keys, State.unflag_keys, State.flag_keys, hpass, Bool.false_eq_true, not_false_eq_true]

theorem drbgReady_trngStarted : s.trngStarted.drbgReady = true := by
  simp [State.drbgReady, State.trngStarted, State.flag_eq_put, State.unflag_eq_put, Fld.TRNG_STAT_READY, Fld.TRNG_STAT_FAILED,
    Fld.TRNG_CTL_RESTART, Reg.TRNG_STAT, Reg.TRNG_CTL]

/-- The flag that a failed health test sets. -/
def trngFailFlag (adaptive : Bool) : Field := if adaptive then Fld.TRNG_FLAGS_APTFAIL else Fld.TRNG_FLAGS_RCTFAIL

/-- The code of a failed health test: the start-up, the adaptive proportion test, or the repetition count test. -/
def trngFailCode (starting adaptive : Bool) : Nat := if starting then 0x0433 else if adaptive then 0x0431 else 0x0430

/-- A failed health test has stopped the source. -/
def State.trngFailed (adaptive : Bool) (s : State) : State :=
  ((((trngStop s).flag (trngFailFlag adaptive)).put Fld.TRNG_STAT_CODE (trngFailCode s.trng.starting adaptive)).inc
    Fld.TRNG_CNT_FAILS |>.flag Fld.TRNG_STAT_FAILED).unflag Fld.TRNG_CTL_RESTART

section
variable {adaptive : Bool}

theorem exec_trngHealthFail : exec (.trngHealthFail adaptive) s = .next ((s.trngFailed adaptive).fire EV.TRNG_FAIL) := rfl

theorem trngFailFlag_addr : (trngFailFlag adaptive).addr = Reg.TRNG_FLAGS := by cases adaptive <;> rfl

theorem regsBut_trngFailed :
    RegsBut [Reg.TRNG_STAT, Reg.TRNG_FLAGS, Reg.TRNG_CNT, Reg.TRNG_CTL] s (s.trngFailed adaptive) := by
  have h : RegsBut [Reg.TRNG_STAT, Reg.TRNG_FLAGS, Reg.TRNG_CNT, Reg.TRNG_CTL] s (trngStop s) :=
    regsBut_trngStop.mono (by decide)
  simp [State.trngFailed, trngFailFlag_addr, Fld.TRNG_STAT_CODE, Fld.TRNG_CNT_FAILS, Fld.TRNG_STAT_FAILED,
    Fld.TRNG_CTL_RESTART, h]

theorem onlyIn_trngFailed : OnlyIn [.regs, .trng] s (s.trngFailed adaptive) := by
  simp [State.trngFailed, onlyIn_trngStop]

theorem trng_trngFailed : (s.trngFailed adaptive).trng = { fifo := [], generates := 0, starting := false } := by
  simp [State.trngFailed, trng_trngStop]

/-- A field of TRNG_STAT beside CODE and FAILED is as the stop left it. -/
theorem get_STAT_trngFailed {g : Field} (ha : g.addr = Reg.TRNG_STAT) (hcode : Fld.TRNG_STAT_CODE.bitsApart g = true)
    (hfailed : Fld.TRNG_STAT_FAILED.bitsApart g = true) : (s.trngFailed adaptive).get g = (trngStop s).get g := by
  have hflags : g.addr ≠ (trngFailFlag adaptive).addr := by rw [ha, trngFailFlag_addr]; decide
  have hcnt : g.addr ≠ Fld.TRNG_CNT_FAILS.addr := by rw [ha]; decide
  have hctl : g.addr ≠ Fld.TRNG_CTL_RESTART.addr := by rw [ha]; decide
  rw [State.trngFailed, State.unflag_eq_put, State.get_put_other hctl, State.flag_eq_put, State.get_put_bitsApart rfl hfailed,
    State.inc_eq_put, State.get_put_other hcnt, State.get_put_bitsApart rfl hcode, State.flag_eq_put, State.get_put_other hflags]

theorem get_CODE_trngFailed :
    (s.trngFailed adaptive).get Fld.TRNG_STAT_CODE = trngFailCode s.trng.starting adaptive := by
  have hlt : trngFailCode s.trng.starting adaptive % 2 ^ 16 = trngFailCode s.trng.starting adaptive := by
    cases s.trng.starting <;> cases adaptive <;> rfl
  simpa [State.trngFailed, State.unflag_eq_put, State.flag_eq_put, State.inc_eq_put, Fld.TRNG_STAT_CODE, Fld.TRNG_STAT_FAILED,
    Fld.TRNG_CTL_RESTART, Fld.TRNG_CNT_FAILS, Reg.TRNG_STAT, Reg.TRNG_CTL, Reg.TRNG_CNT] using hlt

theorem has_FAILED_trngFailed : (s.trngFailed adaptive).has Fld.TRNG_STAT_FAILED = true :=
  (State.has_put_other (by decide)).trans (State.has_flag_bit rfl rfl)

theorem has_flag_trngFailed : (s.trngFailed adaptive).has (trngFailFlag adaptive) = true := by
  cases adaptive <;>
    simp [State.trngFailed, trngFailFlag, State.unflag_eq_put, State.flag_eq_put, State.inc_eq_put, Fld.TRNG_STAT_CODE,
      Fld.TRNG_STAT_FAILED, Fld.TRNG_CTL_RESTART, Fld.TRNG_CNT_FAILS, Fld.TRNG_FLAGS_APTFAIL, Fld.TRNG_FLAGS_RCTFAIL,
      Reg.TRNG_STAT, Reg.TRNG_CTL, Reg.TRNG_CNT, Reg.TRNG_FLAGS]

theorem get_FAILS_trngFailed : (s.trngFailed adaptive).get Fld.TRNG_CNT_FAILS = s.counted Fld.TRNG_CNT_FAILS := by
  have hstop : ((((trngStop s).flag (trngFailFlag adaptive)).put Fld.TRNG_STAT_CODE
      (trngFailCode s.trng.starting adaptive))).get Fld.TRNG_CNT_FAILS = s.get Fld.TRNG_CNT_FAILS := by
    rw [State.get_put_other (by decide), State.flag_eq_put, State.get_put_other (by rw [trngFailFlag_addr]; decide),
      regsBut_trngStop.get (by decide)]
  rw [State.trngFailed, State.unflag_eq_put, State.get_put_other (by decide), State.flag_eq_put,
    State.get_put_other (by decide), State.get_inc_fits rfl, State.counted, State.counted, hstop]

end

/-- A new start-up has begun. -/
def State.trngRestarted (s : State) : State :=
  { trngStop s with trng := { (trngStop s).trng with starting := true } }.flag Fld.TRNG_CTL_RESTART

theorem exec_trngRestart : exec .trngRestart s = .next s.trngRestarted := rfl

theorem onlyIn_trngRestarted : OnlyIn [.regs, .trng] s s.trngRestarted := by
  simp [State.trngRestarted, onlyIn_trng, onlyIn_trngStop]

theorem trng_trngRestarted : s.trngRestarted.trng = { fifo := [], generates := 0, starting := true } := rfl

theorem regsBut_trngRestarted : RegsBut [Reg.TRNG_STAT, Reg.TRNG_CTL] s s.trngRestarted := by
  have h : RegsBut [Reg.TRNG_STAT, Reg.TRNG_CTL] s (trngStop s) := regsBut_trngStop.mono (by decide)
  simp [State.trngRestarted, Fld.TRNG_CTL_RESTART, h]

/-- The restart writes TRNG_CTL: TRNG_STAT is as the stop left it. -/
theorem get_STAT_trngRestarted {g : Field} (ha : g.addr ≠ Reg.TRNG_CTL) : s.trngRestarted.get g = (trngStop s).get g :=
  State.get_put_other (f := Fld.TRNG_CTL_RESTART) ha

theorem exec_drbgReseed_of_due {byTask : Bool} (hready : s.drbgReady = true)
    (hdue : byTask = true ∨ s.get Fld.TRNG_CTL_RESEED ≤ s.trng.generates) : exec (.drbgReseed byTask) s = .next
      ({ (if byTask then s.takeTask TK.TRNG_RESEED else s) with trng := { s.trng with generates := 0 } }.inc Fld.TRNG_CNT_RESEEDS) := by
  cases byTask
  case true => exact congrArg Host.Outcome.next (if_pos ⟨hready, .inl rfl⟩)
  case false => exact congrArg Host.Outcome.next (if_pos ⟨hready, hdue⟩)

theorem answers_drbgReseed {byTask : Bool} (hready : s.drbgReady = true)
    (hdue : byTask = true ∨ s.get Fld.TRNG_CTL_RESEED ≤ s.trng.generates) : Answers (exec (.drbgReseed byTask) s) fun t =>
      t.trng = { s.trng with generates := 0 } ∧ t.get Fld.TRNG_CNT_RESEEDS = s.counted Fld.TRNG_CNT_RESEEDS
      ∧ RegsBut [Reg.TRNG_CNT] s t ∧ t = { s with regs := t.regs, trng := t.trng, tasks := t.tasks } := by
  refine .of_eq (exec_drbgReseed_of_due hready hdue) ?_
  cases byTask <;> exact ⟨rfl, State.get_inc_fits rfl, by simp [Fld.TRNG_CNT_RESEEDS], rfl⟩

/-- The read of an empty FIFO. -/
theorem answers_trngDataRead_of_nil (h : s.trng.fifo = []) : Answers (exec .trngDataRead s) fun t =>
    t.bus = .data 0 ∧ t.has Fld.TRNG_FLAGS_UNDERRUN = true ∧ t.get Fld.TRNG_CNT_UNDERRUNS = s.counted Fld.TRNG_CNT_UNDERRUNS
    ∧ RegsBut [Reg.TRNG_FLAGS, Reg.TRNG_CNT] s t ∧ t = { s with regs := t.regs, bus := t.bus } := by
  have hcnt : (s.flag Fld.TRNG_FLAGS_UNDERRUN).counted Fld.TRNG_CNT_UNDERRUNS = s.counted Fld.TRNG_CNT_UNDERRUNS := by
    rw [State.counted, State.counted, State.flag_eq_put, State.get_put_other (by decide)]
  have hflag : ((s.flag Fld.TRNG_FLAGS_UNDERRUN).inc Fld.TRNG_CNT_UNDERRUNS).has Fld.TRNG_FLAGS_UNDERRUN = true :=
    (State.has_put_other (by decide)).trans (State.has_flag_bit rfl rfl)
  exact .of_eq (exec_trngDataRead_of_nil h) ⟨rfl, hflag, (State.get_inc_fits rfl).trans hcnt,
    by simp [Fld.TRNG_FLAGS_UNDERRUN, Fld.TRNG_CNT_UNDERRUNS], rfl⟩

theorem fires_trngStarted : Fires [EV.TRNG_READY] s s.trngStarted := Fires.fire rfl

theorem trng_trngStarted : s.trngStarted.trng = { s.trng with starting := false } := by
  simp [State.trngStarted]

theorem onlyIn_trngStarted : OnlyIn [.regs, .trng, .edges] s s.trngStarted := by
  simp [State.trngStarted, onlyIn_trng]

/-- A change of registers, edges and the random data source, and then the DRBG asks. -/
theorem refillAsked_frame {t : State} (h : OnlyIn [.regs, .trng, .edges] s t) : t.refillAsked = { s with
    regs := t.refillAsked.regs, edges := t.refillAsked.edges, trng := t.trng, cipher := { s.cipher with keyWait := 1 } } :=
  congrArg State.refillAsked h.frame_regs_trng_edges

/-- What READY leaves in the registers. -/
theorem regs_trngStarted : s.trngStarted.has Fld.TRNG_STAT_FAILED = false ∧ s.trngStarted.has Fld.TRNG_CTL_RESTART = false
    ∧ RegsBut [Reg.TRNG_STAT, Reg.TRNG_CTL] s s.trngStarted := by
  simp [State.trngStarted, State.unflag_eq_put, State.flag_eq_put, Fld.TRNG_STAT_READY, Fld.TRNG_STAT_FAILED,
    Fld.TRNG_CTL_RESTART, Reg.TRNG_STAT, Reg.TRNG_CTL]

theorem answers_trngHealthFail {adaptive : Bool} : Answers (exec (.trngHealthFail adaptive) s) fun t =>
    t.has Fld.TRNG_STAT_READY = false ∧ t.has Fld.TRNG_STAT_FAILED = true ∧ t.get Fld.TRNG_STAT_AVAIL = 0
    ∧ t.get Fld.TRNG_STAT_CODE = trngFailCode s.trng.starting adaptive ∧ t.has (trngFailFlag adaptive) = true
    ∧ t.get Fld.TRNG_CNT_FAILS = s.counted Fld.TRNG_CNT_FAILS ∧ t.trng = { fifo := [], generates := 0, starting := false }
    ∧ Fires [EV.TRNG_FAIL] s t ∧ RegsBut [Reg.TRNG_STAT, Reg.TRNG_FLAGS, Reg.TRNG_CNT, Reg.TRNG_CTL] s t
    ∧ t = { s with regs := t.regs, trng := t.trng, edges := t.edges } := by
  refine .of_eq exec_trngHealthFail ⟨?_, ?_, ?_, ?_, ?_, ?_, ?_, onlyIn_trngFailed.fires_fire (by decide),
    regsBut_fire.mpr regsBut_trngFailed, (onlyIn_trngFailed.fire (by decide) (by decide)).frame_regs_trng_edges⟩
  · exact State.has_fire.trans ((State.has_eq_of_get (get_STAT_trngFailed rfl rfl rfl)).trans has_READY_trngStop)
  · exact State.has_fire.trans has_FAILED_trngFailed
  · exact State.get_fire.trans ((get_STAT_trngFailed rfl rfl rfl).trans get_AVAIL_trngStop)
  · exact State.get_fire.trans get_CODE_trngFailed
  · exact State.has_fire.trans has_flag_trngFailed
  · exact State.get_fire.trans get_FAILS_trngFailed
  · exact (State.fire_trng ..).trans trng_trngFailed

/-- Settles O43: the FIFO, a failed health test, a restart, READY and reseeding. -/
theorem randomData : Obligations.RandomData := by
  intro s
  refine ⟨fun w rest hfifo hlen => ⟨fun hfull hquiet => ?pop, fun hroom hready hwait hcores => ?popAsk⟩,
    fun hempty => answers_trngDataRead_of_nil hempty, fun adaptive => answers_trngHealthFail, ?restart,
    fun hstart hen hfifo hpass hwait hcores => ?ready, fun byTask hready hdue => answers_drbgReseed hready hdue⟩
  case pop =>
    have heq := exec_trngDataRead_of_cons hfifo
    rw [dispatch_refillAsk_of_quiet (s := s.trngPopped w rest) hfull hquiet] at heq
    exact .of_eq heq ⟨rfl, get_AVAIL_trngPopped hlen, regsBut_trngPopped, trngPopped_frame⟩
  case popAsk =>
    have heq := exec_trngDataRead_of_cons hfifo
    rw [dispatch_refillAsk_of_link (s := s.trngPopped w rest) (drbgReady_trngPopped.trans hready) hroom hwait hcores] at heq
    exact .of_eq heq ⟨rfl, get_AVAIL_trngPopped (w := w) hlen, regsBut_trngPopped (w := w), rfl⟩
  case restart =>
    have hready : s.trngRestarted.has Fld.TRNG_STAT_READY = false :=
      (State.has_eq_of_get (get_STAT_trngRestarted (by decide))).trans has_READY_trngStop
    have havail : s.trngRestarted.get Fld.TRNG_STAT_AVAIL = 0 :=
      (get_STAT_trngRestarted (by decide)).trans get_AVAIL_trngStop
    have hrestart : s.trngRestarted.has Fld.TRNG_CTL_RESTART = true := State.has_flag_bit rfl rfl
    exact .of_eq exec_trngRestart ⟨trng_trngRestarted, hready, havail, hrestart, regsBut_trngRestarted,
      onlyIn_trngRestarted.frame_regs_trng⟩
  case ready =>
    have heq := exec_trngReady_of_starting hstart hen hpass
    obtain ⟨hfailed, hrestart, hregs⟩ := regs_trngStarted (s := s)
    rw [dispatch_refillAsk_of_link (s := s.trngStarted) drbgReady_trngStarted (hfifo ▸ Nat.zero_le _) hwait hcores] at heq
    have hframe := refillAsked_frame (onlyIn_trngStarted (s := s))
    rw [trng_trngStarted] at hframe
    exact .of_eq heq ⟨State.has_refillAsked.trans drbgReady_trngStarted, State.has_refillAsked.trans hfailed,
      State.has_refillAsked.trans hrestart, State.fires_refillAsked.mpr fires_trngStarted,
      State.regsBut_refillAsked.mpr hregs, hframe⟩

end Sys2Proof.Machine
end

section
/-!
SUPPORT. Rake passes (R486 to R489): the start of a pass resets every address from the group's first summary register to
its last, also one between two registers.
-/

namespace Sys2Proof.Machine

/-- A state after reset whose list of registers has an entry between MEMCTL_RAKESUM[0] words 0 and 1, where no register is. -/
def State.strayRegister : State := State.reset.wr (Reg.MEMCTL_RAKESUM 0 0 + 1) 5

/-- The request that `strayRegister` gets, as it is served. -/
def State.strayServed : State :=
  rakeServe ((State.strayRegister.flag (Fld.MEMCTL_GRPCTL_RAKE 0)).flag (Fld.MEMCTL_GRPSTAT_RAKEWAIT 0))

theorem exec_rakeRequest_strayRegister : exec (.rakeRequest 0 .write) State.strayRegister = .next State.strayServed := by
  have hwait : ¬ (State.strayRegister.sram.rake = some 0
      ∨ State.strayRegister.has (Fld.MEMCTL_GRPSTAT_RAKEWAIT 0) = true) := by decide
  exact if_neg (t := .next State.strayRegister) hwait

/-- Refutes O48: the request of a pass resets an address beside the registers of the summary, and the frame of the clause
names those registers only. -/
theorem not_rakePasses : ¬ Obligations.RakePasses := by
  intro h
  obtain ⟨t, ht, -, -, -, -, -, -, -, hregs, -⟩ :=
    (h 0 State.strayRegister).1 .write rfl (by decide) (by decide)
  have ht' : t = State.strayServed := Host.Outcome.next.inj (ht.symm.trans exec_rakeRequest_strayRegister)
  have hkept : t.rd 0x40080041 = State.strayRegister.rd 0x40080041 := hregs _ (by decide)
  have hreset : State.strayServed.rd 0x40080041 = 0 := by decide
  have hstray : State.strayRegister.rd 0x40080041 = 5 := by decide
  rw [ht', hreset, hstray] at hkept
  exact absurd hkept (by decide)

end Sys2Proof.Machine
end

section
/-!
SUPPORT. Lifetime events (R599), the flash banks at rest, the power-up of D1 (R90, R528), and the supply (R542 to R547).
-/

namespace Sys2Proof.Machine

variable {s t : State} {n b : Nat} {l : List Part} {e : LifeEvent}

/-! ### Lifetime events -/

theorem onlyIn_lifeApply : OnlyIn [.regs] s (lifeApply e s) := by
  unfold lifeApply
  split
  · simp
  · simp
  · simp
  · exact .ite (by simp) .refl
  · extract_lets lo hi bin s₁ s₂
    have h₁ : OnlyIn [.regs] s s₁ := by simp [s₁]
    have h₂ : OnlyIn [.regs] s s₂ := .ite (by simp [h₁]) h₁
    exact .ite (by simp [h₂]) h₂

theorem onlyIn_lifeEvent : OnlyIn [.regs, .life] s (lifeEvent e s) :=
  .ite (by simp [onlyIn_life]) (onlyIn_lifeApply.mono (by decide))

theorem onlyIn_lifeCount {w lo width : Nat} : OnlyIn [.regs, .life] s (lifeCount w lo width n s) := onlyIn_lifeEvent

theorem onlyIn_lifeCode {c blk : Nat} : OnlyIn [.regs, .life] s (lifeCode c blk s) := onlyIn_lifeEvent

/-- The lifetime values stand above the other blocks' registers: an event leaves those as they were. -/
theorem rd_lifeApply {a : Nat} (h : a < Reg.LIFE_VAL 0) : (lifeApply e s).rd a = s.rd a := by
  have hne : ∀ w, a ≠ Reg.LIFE_VAL w := by
    intro w
    simp only [Reg.LIFE_VAL] at h ⊢
    omega
  unfold lifeApply
  split
  · exact State.rd_put_other (hne _)
  · exact (State.rd_put_other (hne _)).trans (State.rd_put_other (hne _))
  · exact (State.rd_put_other (hne _)).trans (State.rd_put_other (hne _))
  · dsimp only
    split
    · exact State.rd_put_other (hne _)
    · rfl
  · extract_lets lo hi bin s₁ s₂
    have h₁ : s₁.rd a = s.rd a := State.rd_put_other (hne _)
    have h₂ : s₂.rd a = s.rd a := by
      simp only [s₂]
      split
      · exact (State.rd_put_other (hne _)).trans h₁
      · exact h₁
    split
    · exact (State.rd_put_other (hne _)).trans h₂
    · exact h₂

theorem rd_lifeEvent {a : Nat} (h : a < Reg.LIFE_VAL 0) : (lifeEvent e s).rd a = s.rd a := by
  unfold lifeEvent
  split
  · rfl
  · exact rd_lifeApply h

section
variable {f : Field} {w lo width c blk : Nat}

theorem get_lifeEvent (h : f.addr < Reg.LIFE_VAL 0) : (lifeEvent e s).get f = s.get f := State.get_eq_of_rd (rd_lifeEvent h)
theorem has_lifeEvent (h : f.addr < Reg.LIFE_VAL 0) : (lifeEvent e s).has f = s.has f := State.has_eq_of_get (get_lifeEvent h)
theorem get_lifeCount (h : f.addr < Reg.LIFE_VAL 0) : (lifeCount w lo width n s).get f = s.get f := get_lifeEvent h
theorem has_lifeCount (h : f.addr < Reg.LIFE_VAL 0) : (lifeCount w lo width n s).has f = s.has f := has_lifeEvent h
theorem get_lifeCode (h : f.addr < Reg.LIFE_VAL 0) : (lifeCode c blk s).get f = s.get f := get_lifeEvent h
theorem has_lifeCode (h : f.addr < Reg.LIFE_VAL 0) : (lifeCode c blk s).has f = s.has f := has_lifeEvent h

end

/-- A held event restores what waits to be restored. -/
theorem restore_lifeEvent : (lifeEvent e s).life.restore = s.life.restore := by
  unfold lifeEvent
  split
  · rfl
  · rw [onlyIn_lifeApply.life (by decide)]

/-! ### The power-up of D1 -/

theorem onlyIn_resetRegs {p : Nat → Bool} (h : .regs ∈ l) : OnlyIn l s (t.resetRegs p) ↔ OnlyIn l s t :=
  onlyIn_congr ((OnlyIn.of_frame (l := [.regs]) rfl).mono (by simpa using h))

theorem onlyIn_domsPut {on ret : List Nat} : OnlyIn [.regs] s (domsPut on ret s) := by simp [domsPut]

theorem onlyIn_fabricRestore : OnlyIn [.regs, .sluices] s (fabricRestore s) :=
  .ite .refl ((onlyIn_sluices (by decide)).mpr ((onlyIn_resetRegs (by decide)).mpr .refl))

theorem onlyIn_tideRestore {lf : Nat} : OnlyIn [.regs, .tide, .snapshot] s (tideRestore lf s) := by
  unfold tideRestore
  extract_lets v ran lfp s₁ s₂
  have h₁ : OnlyIn [.regs, .tide, .snapshot] s s₁ := (onlyIn_snapshot (by decide)).mpr .refl
  have h₂ : OnlyIn [.regs, .tide, .snapshot] s s₂ := (onlyIn_tide (by decide)).mpr h₁
  exact .ite (by simp [h₂]) ((onlyIn_flag (by decide)).mpr ((onlyIn_tide (by decide)).mpr h₁))

theorem onlyIn_creditsRestore {valid : Bool} : OnlyIn [.rf] s (creditsRestore valid n s) :=
  .forEach (fun _ _ => .ite ((onlyIn_setBucket (by decide)).mpr .refl) ((onlyIn_setBucket (by decide)).mpr .refl)) .refl

theorem onlyIn_setClkSrc : OnlyIn [.regs] s (s.setClkSrc n) := by simp [State.setClkSrc]

theorem onlyIn_calReload {k : Nat} : OnlyIn [.regs, .lanes] s (calReload k n s) := by
  simp [calReload, calFresh, setCalFailed, setCalStale]

theorem onlyIn_gateDisarm : OnlyIn [.regs, .tide] s (gateDisarm n s) := by
  have h : OnlyIn [.regs, .tide] s ((s.unflag (Fld.TIDE_GATE_CTL_EN n)).unflag (Fld.TIDE_GATE_CTL_ARMSYNC n)) := by simp
  exact (onlyIn_tide (by decide)).mpr ((onlyIn_tide (by decide)).mpr h)

theorem acc_gateDisarm : (gateDisarm n s).tide.acc = s.tide.acc := rfl

theorem onlyIn_presetArm_gateDisarm {d : List Byte} : OnlyIn [.regs] (gateDisarm (eb d 0) s) (presetArm d s) := by
  unfold presetArm
  extract_lets n s₁ s₂ s₃ s₄
  have h₂ : OnlyIn [.regs] s₁ s₃ := by simp [s₂, s₃]
  split
  · exact h₂
  · exact (onlyIn_flag (by decide)).mpr (h₂.trans onlyIn_setGateT)
  · have h₄ : OnlyIn [.regs] s₁ s₄ :=
      (onlyIn_flag (by decide)).mpr ((onlyIn_flag (by decide)).mpr (h₂.trans onlyIn_setGateT))
    exact .ite (h₄.trans onlyIn_gateArmOffset) h₄

theorem onlyIn_presetArm {d : List Byte} : OnlyIn [.regs, .tide] s (presetArm d s) :=
  onlyIn_gateDisarm.trans (onlyIn_presetArm_gateDisarm.mono (by decide))

theorem acc_presetArm {d : List Byte} : (presetArm d s).tide.acc = s.tide.acc := by
  rw [onlyIn_presetArm_gateDisarm.tide (by decide), acc_gateDisarm]

/-- The first part of the power-up of D1: the registers, the domains, the fabric. -/
def State.d1Cleared (s : State) : State :=
  let bor := s.get Fld.SUPMON_FLAGS_BOR
  let s := ((s.resetRegs d1Reg).wr Reg.SUPMON_FLAGS 0).put Fld.SUPMON_FLAGS_BOR bor
  domsPut [0, 1] [] { fabricRestore s with edges := [], tasks := [] }

/-- The crystal is started while the island runs from RC64. -/
def State.d1Clocked (s : State) : State :=
  { s.setClkSrc 0 with power := { s.power with xtalStarting := true }, rf := { s.rf with rcRunning := false, rcMeasures := 0 } }

/-- The calibration store is filled anew. -/
def State.d1Calibrated (s : State) : State :=
  ((s.put Fld.RF_CALSTAT_FTVALID s.freeNat).freeNext).forEach (List.range 2)
    (fun l s => s.forEach (List.range 17) (calReload l))

/-- In the wake from DEEP the presets arm their gates. -/
def State.d1Preset (s : State) : State :=
  if s.power.state = .deep then s.forEach ((s.entries 0x09).filter (fun e => eb e 2 != 0)) presetArm else s

/-- The lifetime block begins to load its record, and keeps what it is told meanwhile. -/
def State.lifeLoading (valid : Bool) (s : State) : State :=
  let s := { s with life := { restore := if valid then some s.kept.life else none } }.flag Fld.LIFE_STAT_LOADING
  if testBit' s.boot.causes 1 then lifeCode 0x0721 0x0F (lifeCount 17 0 8 1 s) else s

theorem d1PowerUp_eq : d1PowerUp s = (creditsRestore s.snapshot.valid s.elapsed
    (tideRestore (lfSince s.d1Cleared) s.d1Cleared)).d1Clocked.d1Calibrated.d1Preset.lifeLoading s.snapshot.valid := rfl

theorem State.onlyIn_d1Cleared : OnlyIn [.regs, .sluices, .edges, .tasks] s s.d1Cleared := by
  unfold State.d1Cleared
  extract_lets bor s₁ s₂
  have h₁ : OnlyIn [.regs, .sluices, .edges, .tasks] s s₁ := by simp [s₁, onlyIn_resetRegs]
  have h₂ : OnlyIn [.regs, .sluices, .edges, .tasks] s s₂ := h₁.trans (onlyIn_fabricRestore.mono (by decide))
  exact OnlyIn.trans (h₂.trans (.of_frame rfl)) (onlyIn_domsPut.mono (by decide))

theorem State.edges_d1Cleared : s.d1Cleared.edges = [] := rfl
theorem State.tasks_d1Cleared : s.d1Cleared.tasks = [] := rfl

theorem onlyIn_power_rf {p : Power} {r : Rf} : OnlyIn [.power, .rf] s { s with power := p, rf := r } := .of_frame rfl

theorem State.onlyIn_d1Clocked : OnlyIn [.regs, .power, .rf] s s.d1Clocked := by
  have h : OnlyIn [.regs, .power, .rf] s (s.setClkSrc 0) := onlyIn_setClkSrc.mono (by decide)
  exact h.trans (onlyIn_power_rf.mono (by decide))

theorem State.power_d1Clocked : s.d1Clocked.power = { s.power with xtalStarting := true } := rfl

theorem State.onlyIn_d1Calibrated : OnlyIn [.regs, .freeCounter, .lanes] s s.d1Calibrated :=
  .forEach (fun _ _ => .forEach (fun _ _ => onlyIn_calReload.mono (by decide)) .refl) (by simp)

theorem State.onlyIn_d1Preset : OnlyIn [.regs, .tide] s s.d1Preset :=
  .ite (.forEach (fun _ _ => onlyIn_presetArm) .refl) .refl

theorem State.acc_d1Preset : s.d1Preset.tide.acc = s.tide.acc := by
  unfold State.d1Preset
  split
  · exact State.forEach_keeps (P := fun t => t.tide.acc = s.tide.acc) (fun h => acc_presetArm.trans h) rfl
  · rfl

section
variable {valid : Bool}

theorem State.onlyIn_lifeLoading : OnlyIn [.regs, .life] s (s.lifeLoading valid) := by
  unfold State.lifeLoading
  extract_lets s₁
  have h₁ : OnlyIn [.regs, .life] s s₁ := (onlyIn_flag (by decide)).mpr ((onlyIn_life (by decide)).mpr .refl)
  exact .ite ((h₁.trans onlyIn_lifeCount).trans onlyIn_lifeCode) h₁

theorem State.has_LOADING_lifeLoading : (s.lifeLoading valid).has Fld.LIFE_STAT_LOADING = true := by
  unfold State.lifeLoading
  extract_lets s₁
  have h₁ : s₁.has Fld.LIFE_STAT_LOADING = true := State.has_flag_bit rfl rfl
  split
  · exact (has_lifeCode (by decide)).trans ((has_lifeCount (by decide)).trans h₁)
  · exact h₁

theorem State.restore_lifeLoading : (s.lifeLoading valid).life.restore = if valid then some s.kept.life else none := by
  unfold State.lifeLoading
  extract_lets s₁
  split
  · exact restore_lifeEvent.trans restore_lifeEvent
  · rfl

end

theorem acc_tideRestore {lf : Nat} : (tideRestore lf s).tide.acc
    = if s.snapshot.valid then s.snapshot.now * 2 ^ 32 + lf * s.snapshot.lfinc.toNat * 2 ^ 16 else 0 := by
  unfold tideRestore
  dsimp only
  split <;> rfl

theorem snapshot_tideRestore {lf : Nat} : (tideRestore lf s).snapshot = { s.snapshot with valid := false } := by
  unfold tideRestore
  dsimp only
  split <;> rfl

/-- The state in which tide time and the credits are back. -/
def State.d1Timed (s : State) : State :=
  creditsRestore s.snapshot.valid s.elapsed (tideRestore (lfSince s.d1Cleared) s.d1Cleared)

theorem State.onlyIn_d1Timed : OnlyIn [.regs, .sluices, .edges, .tasks, .tide, .snapshot, .rf] s s.d1Timed :=
  ((State.onlyIn_d1Cleared.mono (by decide)).trans (onlyIn_tideRestore.mono (by decide))).trans
    (onlyIn_creditsRestore.mono (by decide))

/-- The state that loads the lifetime record last. -/
def State.d1Ready (s : State) : State := s.d1Timed.d1Clocked.d1Calibrated.d1Preset

theorem State.onlyIn_d1Ready : OnlyIn [.regs, .power, .rf, .freeCounter, .lanes, .tide] s.d1Timed s.d1Ready :=
  ((State.onlyIn_d1Clocked.mono (by decide)).trans (State.onlyIn_d1Calibrated.mono (by decide))).trans
    (State.onlyIn_d1Preset.mono (by decide))

theorem State.power_d1Ready : s.d1Ready.power = { s.power with xtalStarting := true } := by
  rw [State.d1Ready, State.onlyIn_d1Preset.power (by decide), State.onlyIn_d1Calibrated.power (by decide), State.power_d1Clocked,
    State.onlyIn_d1Timed.power (by decide)]

theorem State.tide_d1Timed : s.d1Timed.tide.acc = (if s.snapshot.valid
    then s.snapshot.now * 2 ^ 32 + (s.backup.lfCount - s.snapshot.lfCount) * s.snapshot.lfinc.toNat * 2 ^ 16 else 0) := by
  rw [State.d1Timed, onlyIn_creditsRestore.tide (by decide), acc_tideRestore, lfSince,
    State.onlyIn_d1Cleared.snapshot (by decide), State.onlyIn_d1Cleared.backup (by decide)]

theorem State.acc_d1Ready : s.d1Ready.tide.acc = s.d1Timed.tide.acc := by
  rw [State.d1Ready, State.acc_d1Preset, State.onlyIn_d1Calibrated.tide (by decide), State.onlyIn_d1Clocked.tide (by decide)]

theorem State.snapshot_d1Timed : s.d1Timed.snapshot = { s.snapshot with valid := false } := by
  rw [State.d1Timed, onlyIn_creditsRestore.snapshot (by decide), snapshot_tideRestore,
    State.onlyIn_d1Cleared.snapshot (by decide)]

theorem State.edges_d1Timed : s.d1Timed.edges = [] := by
  rw [State.d1Timed, onlyIn_creditsRestore.edges (by decide), onlyIn_tideRestore.edges (by decide), State.edges_d1Cleared]

theorem State.tasks_d1Timed : s.d1Timed.tasks = [] := by
  rw [State.d1Timed, onlyIn_creditsRestore.tasks (by decide), onlyIn_tideRestore.tasks (by decide), State.tasks_d1Cleared]

theorem d1PowerUp_eq_lifeLoading : d1PowerUp s = s.d1Ready.lifeLoading s.snapshot.valid := d1PowerUp_eq

theorem onlyIn_d1PowerUp : OnlyIn [.regs, .edges, .tasks, .sluices, .tide, .snapshot, .rf, .lanes, .power, .freeCounter, .life]
    s (d1PowerUp s) := by
  rw [d1PowerUp_eq_lifeLoading]
  exact ((State.onlyIn_d1Timed.mono (by decide)).trans (State.onlyIn_d1Ready.mono (by decide))).trans
    (State.onlyIn_lifeLoading.mono (by decide))

theorem power_d1PowerUp : (d1PowerUp s).power = { s.power with xtalStarting := true } := by
  rw [d1PowerUp_eq_lifeLoading, State.onlyIn_lifeLoading.power (by decide), State.power_d1Ready]

theorem has_LOADING_d1PowerUp : (d1PowerUp s).has Fld.LIFE_STAT_LOADING = true := by
  rw [d1PowerUp_eq_lifeLoading]
  exact State.has_LOADING_lifeLoading

/-- The clause on the power-up of D1. -/
theorem answers_d1PowerUp (hoff : s.domOn 1 = false) : Answers (exec .d1PowerUp s) fun t =>
    t.tide.acc = (if s.snapshot.valid
      then s.snapshot.now * 2 ^ 32 + (s.backup.lfCount - s.snapshot.lfCount) * s.snapshot.lfinc.toNat * 2 ^ 16 else 0)
    ∧ t.snapshot = { s.snapshot with valid := false } ∧ t.power.xtalStarting = true ∧ t.has Fld.LIFE_STAT_LOADING = true
    ∧ t.life.restore = (if s.snapshot.valid then some s.kept.life else none) ∧ t.edges = [] ∧ t.tasks = [] ∧ SameBytes s t := by
  have heq : exec .d1PowerUp s = .next (d1PowerUp s) := congrArg Host.Outcome.next (if_neg (by simp [hoff]))
  refine .of_eq heq ⟨?_, ?_, ?_, has_LOADING_d1PowerUp, ?_, ?_, ?_, onlyIn_d1PowerUp.sameBytes (by decide)⟩
  · rw [d1PowerUp_eq_lifeLoading, State.onlyIn_lifeLoading.tide (by decide), State.acc_d1Ready, State.tide_d1Timed]
  · rw [d1PowerUp_eq_lifeLoading, State.onlyIn_lifeLoading.snapshot (by decide), State.onlyIn_d1Ready.snapshot (by decide),
      State.snapshot_d1Timed]
  · rw [power_d1PowerUp]
  · rw [d1PowerUp_eq_lifeLoading, State.restore_lifeLoading, State.onlyIn_d1Ready.kept (by decide),
      State.onlyIn_d1Timed.kept (by decide)]
  · rw [d1PowerUp_eq_lifeLoading, State.onlyIn_lifeLoading.edges (by decide), State.onlyIn_d1Ready.edges (by decide),
      State.edges_d1Timed]
  · rw [d1PowerUp_eq_lifeLoading, State.onlyIn_lifeLoading.tasks (by decide), State.onlyIn_d1Ready.tasks (by decide),
      State.tasks_d1Timed]

/-- The clause on VDDIN rising with D1 unpowered. -/
theorem answers_powerOn (hoff : s.domOn 1 = false) : Answers (exec .powerOn s) fun t =>
    t.boot = { s.boot with scope := max s.boot.scope 3, causes := setBitN s.boot.causes 0 } ∧ t.power.wake = none
    ∧ t.power.xtalStarting = true ∧ t.has Fld.LIFE_STAT_LOADING = true ∧ SameBytes s t := by
  have heq : exec .powerOn s
      = .next (resetRequest 3 0 (d1PowerUp { s with power := { s.power with wake := none, wakeAfter := none } })) :=
    congrArg Host.Outcome.next (if_neg (by simp [hoff]))
  refine .of_eq heq ⟨?_, ?_, ?_, ?_, ?_⟩
  · rw [resetRequest, onlyIn_d1PowerUp.boot (by decide)]
  · rw [resetRequest, power_d1PowerUp]
  · rw [resetRequest, power_d1PowerUp]
  · exact has_LOADING_d1PowerUp
  · exact onlyIn_d1PowerUp.sameBytes (by decide)

/-! ### The flash banks at rest -/

theorem onlyIn_bankSync : OnlyIn [.regs] s (bankSync b s) := by simp [bankSync]

/-- Both flash banks have nothing to do. -/
abbrev State.BanksIdle (s : State) : Prop := s.flash.banks = [{}, {}]

theorem bank_of_idle (h : s.BanksIdle) : s.bank b = {} := by
  rw [State.bank, h]
  match b with
  | 0 => rfl
  | 1 => rfl
  | _ + 2 => rfl

theorem bankGo_of_idle (h : s.BanksIdle) : bankGo b s = bankSync b s := by
  simp [bankGo, unitStart, bank_of_idle h]

/-- The flash status stands below the addresses of D1. -/
theorem rd_bankSync {a : Nat} (h : a ≠ Reg.FLASHC_STAT b) : (bankSync b s).rd a = s.rd a := by
  rw [bankSync, State.rd_put_other h, State.rd_put_other h]

theorem get_bankSync {f : Field} (h : f.addr ≠ Reg.FLASHC_STAT b) : (bankSync b s).get f = s.get f :=
  State.get_eq_of_rd (rd_bankSync h)

theorem has_bankSync {f : Field} (h : f.addr ≠ Reg.FLASHC_STAT b) : (bankSync b s).has f = s.has f :=
  State.has_eq_of_get (get_bankSync h)

/-! ### Reset requests and watchdogs -/

theorem boot_resetRequest {scope bit : Nat} : (resetRequest scope bit s).boot
    = { s.boot with scope := max s.boot.scope scope, causes := setBitN s.boot.causes bit } := rfl

theorem get_resetRequest {scope bit : Nat} {f : Field} : (resetRequest scope bit s).get f = s.get f := rfl

theorem onlyIn_resetRequest {scope bit : Nat} : OnlyIn [.boot] s (resetRequest scope bit s) := .of_frame rfl

theorem OnlyIn.frame_regs_boot_life (h : OnlyIn [.regs, .boot, .life] s t) :
    t = { s with regs := t.regs, boot := t.boot, life := t.life } := h.frame

theorem OnlyIn.frame_regs_life (h : OnlyIn [.regs, .life] s t) : t = { s with regs := t.regs, life := t.life } := h.frame

theorem OnlyIn.frame_regs_life_edges (h : OnlyIn [.regs, .life, .edges] s t) :
    t = { s with regs := t.regs, life := t.life, edges := t.edges } := h.frame

theorem exec_resetSources (c : Instr) (scope bit : Nat) (h : (c = .resetnPin ∧ scope = 2 ∧ bit = 2)
    ∨ (c = .debugResetRequest ∧ scope = 2 ∧ bit = 6 ∧ s.get Fld.KEYSTORE_STAT_GL ≤ 1)
    ∨ (c = .rstreqWarm ∧ scope = 1 ∧ bit = 18) ∨ (c = .cwdtExpiry ∧ scope = 1 ∧ bit = 16 ∧ s.has Fld.SYSCFG_CWDTCFG_EN = true
      ∧ 32000 * s.get Fld.SYSCFG_CWDTCFG_TIMEOUT ≤ cwdtCount s)) : exec c s = .next (resetRequest scope bit s) := by
  rcases h with ⟨rfl, rfl, rfl⟩ | ⟨rfl, rfl, rfl, hgl⟩ | ⟨rfl, rfl, rfl⟩ | ⟨rfl, rfl, rfl, hen, hcount⟩
  · rfl
  · exact congrArg Host.Outcome.next (if_pos hgl)
  · rfl
  · exact congrArg Host.Outcome.next (if_pos ⟨hen, hcount⟩)

theorem answers_lockstepMismatch (hlock : s.has Fld.SYSCFG_FOSTAT_LOCKSTEP = true) (hcause : testBit' s.boot.causes 17 = false) :
    Answers (exec .lockstepMismatch s) fun t =>
      t.boot = { s.boot with scope := max s.boot.scope 1, causes := setBitN s.boot.causes 17 }
      ∧ t = { s with regs := t.regs, boot := t.boot, life := t.life } := by
  have heq : exec .lockstepMismatch s = .next (lifeCode 0x0B10 0x0B (lifeCount 17 24 8 1 (resetRequest 1 17 s))) :=
    if_neg (by simp [hlock, hcause])
  have hlife : OnlyIn [.regs, .life] (resetRequest 1 17 s) (lifeCode 0x0B10 0x0B (lifeCount 17 24 8 1 (resetRequest 1 17 s))) :=
    onlyIn_lifeCount.trans onlyIn_lifeCode
  exact .of_eq heq ⟨hlife.boot (by decide),
    ((onlyIn_resetRequest.mono (by decide)).trans (hlife.mono (by decide))).frame_regs_boot_life⟩

/-- The kick of the core watchdog. -/
theorem exec_cwdtKick {v : Word} : exec (.cwdtKick v) s
    = .next (if v.toNat % 2 ^ 16 = 0x4B1C then { s with boot := { s.boot with cwdtFrom := s.elapsed, cwdtRan := 0 } } else s) := rfl

theorem exec_lwdtKick_of_other {v : Word} (h : v.toNat % 2 ^ 16 ≠ 0xA11E) : exec (.lwdtKick v) s = .next s :=
  congrArg Host.Outcome.next (if_neg fun h' => h h'.1)

theorem answers_lwdtKick {v : Word} (hkey : v.toNat % 2 ^ 16 = 0xA11E) (hen : s.has Fld.LWDT_CFG_EN = true) :
    Answers (exec (.lwdtKick v) s) fun t =>
      t.get Fld.LWDT_STAT_REMAIN = s.get Fld.LWDT_CFG_TIMEOUT ∧ t.get Fld.LWDT_STAT_EXPIRIES = s.get Fld.LWDT_STAT_EXPIRIES
      ∧ RegsBut [Reg.LWDT_STAT] s t ∧ t = { s with regs := t.regs } := by
  have heq : exec (.lwdtKick v) s = .next (s.put Fld.LWDT_STAT_REMAIN (s.get Fld.LWDT_CFG_TIMEOUT)) :=
    congrArg Host.Outcome.next (if_pos ⟨hkey, hen⟩)
  have hlt : s.get Fld.LWDT_CFG_TIMEOUT < 2 ^ 16 := State.get_lt
  exact .of_eq heq ⟨(State.get_put_fits rfl).trans (Nat.mod_eq_of_lt hlt), State.get_put_bitsApart rfl rfl,
    by simp [Fld.LWDT_STAT_REMAIN], rfl⟩

theorem exec_lwdtExpiry_of_due (hen : s.has Fld.LWDT_CFG_EN = true) (hzero : s.get Fld.LWDT_STAT_REMAIN = 0) :
    exec .lwdtExpiry s
      = .next (lifeCode 0x0811 0x0F (lifeCount 17 8 8 1 (resetRequest 2 3 (s.inc Fld.LWDT_STAT_EXPIRIES)))) := by
  rw [exec, execLwdtExpiry, if_neg (by simp [hen, hzero])]

/-- The lifetime block counts an event and notes its code. -/
theorem onlyIn_lifeNoted {c blk w lo width : Nat} : OnlyIn [.regs, .life] s (lifeCode c blk (lifeCount w lo width n s)) :=
  onlyIn_lifeCount.trans onlyIn_lifeCode

theorem onlyIn_lwdtRequest : OnlyIn [.regs, .boot, .life] s (resetRequest 2 3 (s.inc Fld.LWDT_STAT_EXPIRIES)) :=
  OnlyIn.trans (t := s.inc Fld.LWDT_STAT_EXPIRIES) (by simp) (onlyIn_resetRequest.mono (by decide))

theorem answers_lwdtExpiry (hen : s.has Fld.LWDT_CFG_EN = true) (hzero : s.get Fld.LWDT_STAT_REMAIN = 0) :
    Answers (exec .lwdtExpiry s) fun t =>
      t.get Fld.LWDT_STAT_REMAIN = 0 ∧ t.get Fld.LWDT_STAT_EXPIRIES = s.counted Fld.LWDT_STAT_EXPIRIES
      ∧ t.boot = { s.boot with scope := max s.boot.scope 2, causes := setBitN s.boot.causes 3 }
      ∧ t = { s with regs := t.regs, boot := t.boot, life := t.life } := by
  refine .of_eq (exec_lwdtExpiry_of_due hen hzero) ⟨?_, ?_, ?_, ?_⟩
  · rw [get_lifeCode (by decide), get_lifeCount (by decide), get_resetRequest, State.inc_eq_put, State.get_put_bitsApart rfl rfl]
    exact hzero
  · rw [get_lifeCode (by decide), get_lifeCount (by decide), get_resetRequest, State.get_inc_fits rfl]
  · rw [onlyIn_lifeNoted.boot (by decide), boot_resetRequest, State.inc_boot]
  · exact (onlyIn_lwdtRequest.trans (onlyIn_lifeNoted.mono (by decide))).frame_regs_boot_life

/-! ### The supply -/

/-- The dip is flagged and counted. -/
def State.dipSeen (s : State) : State :=
  ((s.flag Fld.SUPMON_STAT_DIP).flag Fld.SUPMON_FLAGS_DIP).inc Fld.SUPMON_DIPCNT_DIPS

theorem regs_dipSeen : s.dipSeen.has Fld.SUPMON_STAT_DIP = true ∧ s.dipSeen.has Fld.SUPMON_FLAGS_DIP = true
    ∧ s.dipSeen.get Fld.SUPMON_DIPCNT_DIPS = s.counted Fld.SUPMON_DIPCNT_DIPS := by
  refine ⟨?_, ?_, ?_⟩
  · exact (State.has_put_other (by decide)).trans ((State.has_put_other (by decide)).trans (State.has_flag_bit rfl rfl))
  · exact (State.has_put_other (by decide)).trans (State.has_flag_bit rfl rfl)
  · rw [State.dipSeen, State.get_inc_fits rfl, State.counted, State.counted, State.flag_eq_put, State.get_put_other (by decide),
      State.flag_eq_put, State.get_put_other (by decide)]

/-- What the lifetime block and the banks do with a dip. -/
def State.dipNoted (s : State) : State := bankSync 1 (bankSync 0 (lifeCount 18 0 16 1 (s.fire EV.PMU_SUPWARN)))

theorem rd_dipNoted {a : Nat} (hlife : a < Reg.LIFE_VAL 0) (h0 : a ≠ Reg.FLASHC_STAT 0) (h1 : a ≠ Reg.FLASHC_STAT 1) :
    s.dipNoted.rd a = s.rd a := by
  rw [State.dipNoted, rd_bankSync h1, rd_bankSync h0, lifeCount, rd_lifeEvent hlife, State.rd_fire]

theorem fires_dipNoted : Fires [EV.PMU_SUPWARN] s s.dipNoted := by
  have h : OnlyIn [.regs, .life] (s.fire EV.PMU_SUPWARN) s.dipNoted :=
    (onlyIn_lifeCount.trans (onlyIn_bankSync.mono (by decide))).trans (onlyIn_bankSync.mono (by decide))
  exact (Fires.fire rfl).append (h.fires (by decide))

theorem onlyIn_dipNoted : OnlyIn [.regs, .life, .edges] s s.dipNoted :=
  OnlyIn.trans (t := s.fire EV.PMU_SUPWARN) (by simp)
    (((onlyIn_lifeCount.mono (by decide)).trans (onlyIn_bankSync.mono (by decide))).trans (onlyIn_bankSync.mono (by decide)))

theorem answers_supplyDipStart (hon : s.domOn 1 = true) (hdip : s.has Fld.SUPMON_STAT_DIP = false) :
    Answers (exec .supplyDipStart s) fun t =>
      t.has Fld.SUPMON_STAT_DIP = true ∧ t.has Fld.SUPMON_FLAGS_DIP = true ∧ t.get Fld.SUPMON_DIPCNT_DIPS = s.counted Fld.SUPMON_DIPCNT_DIPS
      ∧ Fires [EV.PMU_SUPWARN] s t ∧ t = { s with regs := t.regs, life := t.life, edges := t.edges } := by
  have heq : exec .supplyDipStart s = .next s.dipSeen.dipNoted := if_neg (by simp [hon, State.dip, hdip])
  obtain ⟨hstat, hflag, hcount⟩ := regs_dipSeen (s := s)
  have hseen : OnlyIn [.regs] s s.dipSeen := by simp [State.dipSeen]
  refine .of_eq heq ⟨?_, ?_, ?_, (hseen.fires (by decide)).append fires_dipNoted,
    ((hseen.mono (by decide)).trans onlyIn_dipNoted).frame_regs_life_edges⟩
  · exact (State.has_eq_of_get (State.get_eq_of_rd (rd_dipNoted (by decide) (by decide) (by decide)))).trans hstat
  · exact (State.has_eq_of_get (State.get_eq_of_rd (rd_dipNoted (by decide) (by decide) (by decide)))).trans hflag
  · exact (State.get_eq_of_rd (rd_dipNoted (by decide) (by decide) (by decide))).trans hcount

/-- The dip is over, and its least voltage and its length are noted. -/
def State.dipOver (least dur : Nat) (s : State) : State :=
  ((s.unflag Fld.SUPMON_STAT_DIP).put Fld.SUPMON_DIPLAST_MIN least).put Fld.SUPMON_DIPLAST_DURATION dur

/-- What the lifetime block does with the end of a dip. -/
def State.dipRecorded (least : Nat) (s : State) : State :=
  (lifeCode 0x0720 0x0F (lifeEvent (.low 19 0 9 least) s)).fire EV.PMU_SUPOK

section
variable {least : BitVec 9} {dur : BitVec 16}

theorem regs_dipOver : (s.dipOver least.toNat dur.toNat).has Fld.SUPMON_STAT_DIP = false
    ∧ (s.dipOver least.toNat dur.toNat).get Fld.SUPMON_DIPLAST_MIN = least.toNat
    ∧ (s.dipOver least.toNat dur.toNat).get Fld.SUPMON_DIPLAST_DURATION = dur.toNat := by
  refine ⟨?_, ?_, ?_⟩
  · exact (State.has_put_other (by decide)).trans ((State.has_put_other (by decide)).trans (State.has_unflag_fits rfl))
  · exact (State.get_put_bitsApart rfl rfl).trans ((State.get_put_fits rfl).trans (Nat.mod_eq_of_lt least.isLt))
  · exact (State.get_put_fits rfl).trans (Nat.mod_eq_of_lt dur.isLt)

theorem onlyIn_dipRecorded {k : Nat} : OnlyIn [.regs, .life, .edges] s (s.dipRecorded k) :=
  (onlyIn_fire (by decide)).mpr ((onlyIn_lifeEvent.mono (by decide)).trans (onlyIn_lifeCode.mono (by decide)))

theorem rd_dipRecorded {k a : Nat} (h : a < Reg.LIFE_VAL 0) : (s.dipRecorded k).rd a = s.rd a := by
  rw [State.dipRecorded, State.rd_fire, lifeCode, rd_lifeEvent h, rd_lifeEvent h]

theorem exec_supplyDipEnd_of_dip (hdip : s.has Fld.SUPMON_STAT_DIP = true) : exec (.supplyDipEnd least dur) s
    = .next (goodAppend (bankGo 1 (bankGo 0 ((s.dipOver least.toNat dur.toNat).dipRecorded least.toNat)))) := by
  rw [exec, execSupplyDipEnd, if_neg (by simp [State.dip, hdip])]
  rfl

theorem exec_supplyDipEnd_of_idle (hdip : s.has Fld.SUPMON_STAT_DIP = true) (hbanks : s.BanksIdle)
    (hgood : s.boot.goodWaits = false) : exec (.supplyDipEnd least dur) s
      = .next (bankSync 1 (bankSync 0 ((s.dipOver least.toNat dur.toNat).dipRecorded least.toNat))) := by
  have hrec : OnlyIn [.regs, .life, .edges] s ((s.dipOver least.toNat dur.toNat).dipRecorded least.toNat) :=
    OnlyIn.trans (t := s.dipOver least.toNat dur.toNat) (by simp [State.dipOver]) onlyIn_dipRecorded
  have hsync : OnlyIn [.regs, .life, .edges] s
      (bankSync 1 (bankSync 0 ((s.dipOver least.toNat dur.toNat).dipRecorded least.toNat))) :=
    (hrec.trans (onlyIn_bankSync.mono (by decide))).trans (onlyIn_bankSync.mono (by decide))
  have hidle : ((s.dipOver least.toNat dur.toNat).dipRecorded least.toNat).BanksIdle := by
    rw [State.BanksIdle, hrec.flash (by decide), hbanks]
  have hidle' : (bankSync 0 ((s.dipOver least.toNat dur.toNat).dipRecorded least.toNat)).BanksIdle := by
    rw [State.BanksIdle, onlyIn_bankSync.flash (by decide), hidle]
  rw [exec_supplyDipEnd_of_dip hdip, bankGo_of_idle hidle, bankGo_of_idle hidle', goodAppend, if_neg]
  rw [hsync.boot (by decide), hgood]
  simp

theorem answers_supplyDipEnd (hdip : s.has Fld.SUPMON_STAT_DIP = true) (hbanks : s.BanksIdle) (hgood : s.boot.goodWaits = false) :
    Answers (exec (.supplyDipEnd least dur) s) fun t =>
      t.has Fld.SUPMON_STAT_DIP = false ∧ t.get Fld.SUPMON_DIPLAST_MIN = least.toNat ∧ t.get Fld.SUPMON_DIPLAST_DURATION = dur.toNat
      ∧ Fires [EV.PMU_SUPOK] s t ∧ t = { s with regs := t.regs, life := t.life, edges := t.edges } := by
  obtain ⟨hstat, hmin, hdur⟩ := regs_dipOver (s := s) (least := least) (dur := dur)
  have hkeep : ∀ a, a < Reg.LIFE_VAL 0 → a ≠ Reg.FLASHC_STAT 0 → a ≠ Reg.FLASHC_STAT 1 →
      (bankSync 1 (bankSync 0 ((s.dipOver least.toNat dur.toNat).dipRecorded least.toNat))).rd a
        = (s.dipOver least.toNat dur.toNat).rd a := fun a hlife h0 h1 => by
    rw [rd_bankSync h1, rd_bankSync h0, rd_dipRecorded hlife]
  have hover : OnlyIn [.regs] s (s.dipOver least.toNat dur.toNat) := by simp [State.dipOver]
  have hlife : OnlyIn [.regs, .life] (s.dipOver least.toNat dur.toNat)
      (lifeCode 0x0720 0x0F (lifeEvent (.low 19 0 9 least.toNat) (s.dipOver least.toNat dur.toNat))) :=
    onlyIn_lifeEvent.trans onlyIn_lifeCode
  have hsync : OnlyIn [.regs] ((s.dipOver least.toNat dur.toNat).dipRecorded least.toNat)
      (bankSync 1 (bankSync 0 ((s.dipOver least.toNat dur.toNat).dipRecorded least.toNat))) := onlyIn_bankSync.trans onlyIn_bankSync
  refine .of_eq (exec_supplyDipEnd_of_idle hdip hbanks hgood) ⟨?_, ?_, ?_, ?_, ?_⟩
  · exact (State.has_eq_of_get (State.get_eq_of_rd (hkeep _ (by decide) (by decide) (by decide)))).trans hstat
  · exact (State.get_eq_of_rd (hkeep _ (by decide) (by decide) (by decide))).trans hmin
  · exact (State.get_eq_of_rd (hkeep _ (by decide) (by decide) (by decide))).trans hdur
  · exact ((hover.fires (by decide)).append (hlife.fires_fire (by decide))).append (hsync.fires (by decide))
  · exact (((hover.mono (by decide)).trans onlyIn_dipRecorded).trans (hsync.mono (by decide))).frame_regs_life_edges

end

/-! ### Brown-out and VBAT -/

/-- The rail is lost, and the device is held with a full reset asked for. -/
def State.railDown (s : State) : State :=
  { railLost (s.flag Fld.SUPMON_FLAGS_BOR) with
    cores := { held := [true, true] }, boot := { phase := .held, scope := 3, causes := 2 } }

/-- What a brown-out does before the rail is lost. -/
def State.rail (s : State) : State :=
  domShift (domsPut [0] []) { unitCut 1 (unitCut 0 { s with snapshot := { s.snapshot with valid := false } }) with
    power := { state := .off } }

theorem exec_brownOut_vbat (hon : s.domOn 1 = true) : exec (.brownOut true) s = .next s.rail.railDown := by
  rw [exec, execBrownOut, hon]
  rfl

theorem exec_brownOut_ground (hon : s.domOn 1 = true) : exec (.brownOut false) s = .next (d0Lost s.rail.railDown) := by
  rw [exec, execBrownOut, hon]
  rfl

/-- The registers that the loss of the rail resets. -/
def railReg (a : Nat) : Bool :=
  isRwlCell a || a == Reg.SYSCFG_SALTSTAT || a == Reg.SYSCFG_SALTVER || a == Reg.SYSCFG_SALTCRC || a == Reg.SYSCFG_CFGCHK

theorem regs_railLost : (railLost s).regs = (s.resetRegs railReg).regs := rfl

theorem rd_railLost {a : Nat} : (railLost s).rd a = if railReg a then resetValue a else s.rd a :=
  (State.rd_congr regs_railLost).trans State.rd_resetRegs

theorem rd_railDown {a : Nat} : s.railDown.rd a = (railLost (s.flag Fld.SUPMON_FLAGS_BOR)).rd a := State.rd_congr rfl

theorem has_BOR_railDown : s.railDown.has Fld.SUPMON_FLAGS_BOR = true := by
  have hcell : railReg Reg.SUPMON_FLAGS = false := by decide
  have hrd : s.railDown.rd Reg.SUPMON_FLAGS = (s.flag Fld.SUPMON_FLAGS_BOR).rd Reg.SUPMON_FLAGS := by
    rw [rd_railDown, rd_railLost, hcell]
    rfl
  exact (State.has_eq_of_get (f := Fld.SUPMON_FLAGS_BOR) (State.get_eq_of_rd hrd)).trans (State.has_flag_bit rfl rfl)

/-- D0's registers are back at their reset values, and the root is gone. -/
def State.d0Cleared (s : State) : State :=
  rootZero (s.resetRegs (fun a => decide (0x50006000 ≤ a ∧ a < 0x50007000) || a == Reg.WAKE_DEEPALM))

/-- The store is unlocked, and the brown-out flag is clear. -/
def State.d0Unlocked (s : State) : State := (s.d0Cleared.unflag Fld.KEYSTORE_STAT_LOCKED).unflag Fld.SUPMON_FLAGS_BOR

/-- Nothing that D0 keeps is left. -/
def State.d0Emptied (s : State) : State :=
  { s with backup := {}, snapshot := {}, kept := {}, boot := { s.boot with causes := 0 } }

theorem d0Lost_eq : d0Lost s = s.d0Unlocked.d0Emptied := rfl

theorem State.has_d0Emptied {f : Field} : s.d0Emptied.has f = s.has f := rfl

theorem onlyIn_putKeyAttr {attr : List Word} : OnlyIn [.regs] s (putKeyAttr n attr s) :=
  .forEach (fun _ _ => (onlyIn_wr (by decide)).mpr .refl) .refl

theorem onlyIn_setKeyBytes {x : List Byte} (h : .keys ∈ l) : OnlyIn l s (t.setKeyBytes n x) ↔ OnlyIn l s t := onlyIn_keys h

theorem onlyIn_loadRoot : OnlyIn [.regs, .keys] s (loadRoot s) := by
  have h : OnlyIn [.regs, .keys] s (putKeyAttr 0 rootAttr s) := onlyIn_putKeyAttr.mono (by decide)
  exact .ite (by simp [onlyIn_setKeyBytes, h]) (by simp [onlyIn_setKeyBytes, h])

theorem onlyIn_rootZero : OnlyIn [.regs, .keys, .backup] s (rootZero s) :=
  OnlyIn.trans ((onlyIn_backup (by decide)).mpr .refl) (onlyIn_loadRoot.mono (by decide))

theorem State.onlyIn_d0Cleared : OnlyIn [.regs, .keys, .backup] s s.d0Cleared :=
  OnlyIn.trans ((onlyIn_resetRegs (by decide)).mpr .refl) onlyIn_rootZero

theorem has_ROOTOK_loadRoot (h : s.backup.root = []) : (loadRoot s).has Fld.KEYSTORE_STAT_ROOTOK = false := by
  rw [loadRoot, if_pos (by rw [h]; rfl)]
  exact State.has_unflag_fits rfl

theorem has_ROOTOK_rootZero : (rootZero s).has Fld.KEYSTORE_STAT_ROOTOK = false := has_ROOTOK_loadRoot rfl

theorem State.onlyIn_d0Unlocked : OnlyIn [.regs, .keys, .backup] s s.d0Unlocked := by
  simp [State.d0Unlocked, State.onlyIn_d0Cleared]

theorem has_BOR_d0Lost : (d0Lost s).has Fld.SUPMON_FLAGS_BOR = false := by
  rw [d0Lost_eq, State.has_d0Emptied, State.d0Unlocked, State.has_unflag_fits rfl]

theorem has_ROOTOK_d0Lost : (d0Lost s).has Fld.KEYSTORE_STAT_ROOTOK = false := by
  rw [d0Lost_eq, State.has_d0Emptied, State.d0Unlocked, State.unflag_eq_put, State.has_put_other (by decide),
    State.unflag_eq_put, State.has_put_bitsApart rfl rfl, State.d0Cleared, has_ROOTOK_rootZero]

theorem boot_d0Emptied : s.d0Emptied.boot = { s.boot with causes := 0 } := rfl
theorem cores_d0Emptied : s.d0Emptied.cores = s.cores := rfl
theorem salt_d0Emptied : s.d0Emptied.salt = s.salt := rfl

theorem boot_d0Lost : (d0Lost s).boot = { s.boot with causes := 0 } := by
  rw [d0Lost_eq, boot_d0Emptied, State.onlyIn_d0Unlocked.boot (by decide)]

theorem cores_d0Lost : (d0Lost s).cores = s.cores := by
  rw [d0Lost_eq, cores_d0Emptied, State.onlyIn_d0Unlocked.cores (by decide)]

theorem salt_d0Lost : (d0Lost s).salt = s.salt := by
  rw [d0Lost_eq, salt_d0Emptied, State.onlyIn_d0Unlocked.salt (by decide)]

theorem answers_brownOut (hon : s.domOn 1 = true) :
    (Answers (exec (.brownOut true) s) fun t =>
      t.boot = { phase := .held, scope := 3, causes := 2 } ∧ t.cores = { held := [true, true] } ∧ t.has Fld.SUPMON_FLAGS_BOR = true ∧ t.salt = {})
    ∧ (Answers (exec (.brownOut false) s) fun t =>
      t.boot = { phase := .held, scope := 3 } ∧ t.cores = { held := [true, true] } ∧ t.has Fld.SUPMON_FLAGS_BOR = false ∧ t.salt = {}
      ∧ t.backup = {} ∧ t.snapshot = {} ∧ t.has Fld.KEYSTORE_STAT_ROOTOK = false) := by
  exact ⟨.of_eq (exec_brownOut_vbat hon) ⟨rfl, rfl, has_BOR_railDown, rfl⟩,
    .of_eq (exec_brownOut_ground hon) ⟨boot_d0Lost, cores_d0Lost, has_BOR_d0Lost, salt_d0Lost, rfl, rfl, has_ROOTOK_d0Lost⟩⟩

/-- A domain is on by D1's own registers, the image, the power state and the activities. -/
theorem State.domOn_congr {k : Nat} (hstat : t.rd Reg.PMU_DOMSTAT = s.rd Reg.PMU_DOMSTAT)
    (hctl : t.rd Reg.PMU_DOMCTL = s.rd Reg.PMU_DOMCTL) (hsalt : t.salt = s.salt) (hpower : t.power = s.power)
    (hlink : t.link = s.link) : t.domOn k = s.domOn k := by
  have hself : t.domSelf = s.domSelf := by
    funext k
    have hg : t.get Fld.PMU_DOMSTAT_ON = s.get Fld.PMU_DOMSTAT_ON := State.get_eq_of_rd hstat
    have hc : t.get ⟨Reg.PMU_DOMCTL, 2 * k - 8, 2⟩ = s.get ⟨Reg.PMU_DOMCTL, 2 * k - 8, 2⟩ := State.get_eq_of_rd hctl
    rw [State.domSelf, State.domSelf, hg, hc, hpower, hlink]
  have hmates : t.domMates k = s.domMates k := by rw [State.domMates, State.domMates, hsalt]
  rw [State.domOn, State.domOn, hself, hmates]

theorem State.domOn_put_other {f : Field} {v k : Nat} (hstat : Reg.PMU_DOMSTAT ≠ f.addr) (hctl : Reg.PMU_DOMCTL ≠ f.addr) :
    (s.put f v).domOn k = s.domOn k :=
  State.domOn_congr (State.rd_put_other hstat) (State.rd_put_other hctl) rfl rfl rfl

/-- The switch to VBAT is flagged and counted. -/
def State.vbatSeen (s : State) : State :=
  ((s.put Fld.SUPMON_STAT_VBATSRC 1).inc Fld.SUPMON_DIPCNT_VBATSW).flag Fld.SUPMON_FLAGS_VBATSW

theorem regs_vbatSeen : s.vbatSeen.has Fld.SUPMON_STAT_VBATSRC = true ∧ s.vbatSeen.has Fld.SUPMON_FLAGS_VBATSW = true
    ∧ s.vbatSeen.get Fld.SUPMON_DIPCNT_VBATSW = s.counted Fld.SUPMON_DIPCNT_VBATSW := by
  refine ⟨?_, State.has_flag_bit rfl rfl, ?_⟩
  · exact (State.has_put_other (by decide)).trans ((State.has_put_other (by decide)).trans (State.has_put_fits rfl))
  · rw [State.vbatSeen, State.flag_eq_put, State.get_put_other (by decide), State.get_inc_fits rfl, State.counted, State.counted,
      State.get_put_other (by decide)]

theorem exec_vbatSwitch_of_on (hon : s.domOn 1 = true) (hsrc : s.has Fld.SUPMON_STAT_VBATSRC = false) :
    exec (.vbatSwitch true) s = .next (lifeCode 0x0722 0x0F (lifeCount 18 16 8 1 s.vbatSeen)) := by
  have hon' : (s.put Fld.SUPMON_STAT_VBATSRC (boolBit true)).domOn 1 = true :=
    (State.domOn_put_other (by decide) (by decide)).trans hon
  rw [exec, execVbatSwitch, hsrc, hon']
  rfl

theorem answers_vbatSwitch (hon : s.domOn 1 = true) (hsrc : s.has Fld.SUPMON_STAT_VBATSRC = false) :
    Answers (exec (.vbatSwitch true) s) fun t =>
      t.has Fld.SUPMON_STAT_VBATSRC = true ∧ t.has Fld.SUPMON_FLAGS_VBATSW = true
      ∧ t.get Fld.SUPMON_DIPCNT_VBATSW = s.counted Fld.SUPMON_DIPCNT_VBATSW
      ∧ t = { s with regs := t.regs, life := t.life } := by
  obtain ⟨hstat, hflag, hcount⟩ := regs_vbatSeen (s := s)
  have hseen : OnlyIn [.regs, .life] s s.vbatSeen := by simp [State.vbatSeen]
  refine .of_eq (exec_vbatSwitch_of_on hon hsrc) ⟨?_, ?_, ?_, (hseen.trans onlyIn_lifeNoted).frame_regs_life⟩
  · rw [has_lifeCode (by decide), has_lifeCount (by decide), hstat]
  · rw [has_lifeCode (by decide), has_lifeCount (by decide), hflag]
  · rw [get_lifeCode (by decide), get_lifeCount (by decide), hcount]

/-- Settles O51: the reset sources, the watchdogs, dips, brown-out, VBAT and the power-up of D1. -/
theorem supplyAndResetRequests : Obligations.SupplyAndResetRequests := by
  intro s
  exact ⟨exec_resetSources, fun hgl => congrArg Host.Outcome.next (if_neg (by omega)), fun clr => ⟨rfl, rfl⟩,
    answers_lockstepMismatch, fun v => ⟨exec_cwdtKick, exec_lwdtKick_of_other, answers_lwdtKick⟩, answers_lwdtExpiry,
    answers_powerOn, answers_supplyDipStart, fun least dur hdip hbanks hgood => answers_supplyDipEnd hdip hbanks hgood,
    answers_brownOut, answers_vbatSwitch, answers_d1PowerUp⟩

end Sys2Proof.Machine
end

section
/-!
SUPPORT. Signed fields, and the pans of the receive chain as far as a new tide rate moves them (R151, R251).
-/

namespace Sys2Proof.Machine

variable {s t : State} {a p l w n : Nat} {f : Field} {i : Int}

/-! ### Signed fields -/

/-- A number in the range of w bits reads as itself. -/
theorem toS_ofS (hw : 0 < w) (hlo : -(2 ^ (w - 1) : Int) ≤ i) (hhi : i < 2 ^ (w - 1)) : toS w (ofS w i) = i := by
  obtain ⟨m, rfl⟩ : ∃ m, w = m + 1 := ⟨w - 1, by omega⟩
  simp only [Nat.add_sub_cancel] at hlo hhi
  have hpow : (2 : Int) ^ (m + 1) = 2 * 2 ^ m := by rw [pow_succ]; ring
  have hpos : (0 : Int) < 2 ^ m := by positivity
  have hmod : (((ofS (m + 1) i % 2 ^ (m + 1) : Nat)) : Int) = i % 2 ^ (m + 1) := by
    have hnn : 0 ≤ i % 2 ^ (m + 1) := Int.emod_nonneg _ (by positivity)
    rw [ofS, Int.natCast_emod, Int.toNat_of_nonneg hnn]
    push_cast
    exact Int.emod_emod_of_dvd _ dvd_rfl
  have hcast : ((2 ^ m : Nat) : Int) = 2 ^ m := by push_cast; rfl
  rw [toS, Nat.add_sub_cancel]
  by_cases hi : 0 ≤ i
  case pos =>
    have hval : i % 2 ^ (m + 1) = i := Int.emod_eq_of_lt hi (by omega)
    rw [if_neg (by omega)]
    push_cast at hmod ⊢
    omega
  case neg =>
    have hval : i % 2 ^ (m + 1) = i + 2 ^ (m + 1) := by
      rw [← Int.add_emod_right]
      exact Int.emod_eq_of_lt (by omega) (by omega)
    rw [if_pos (by omega)]
    push_cast at hmod ⊢
    omega

theorem satS_bounds : -(2 ^ (w - 1) : Int) ≤ satS w i ∧ satS w i < 2 ^ (w - 1) := by
  have hpos : (0 : Int) < 2 ^ (w - 1) := by positivity
  constructor
  · exact le_max_left _ _
  · exact max_lt (by omega) (lt_of_le_of_lt (min_le_right _ _) (by omega))

theorem toS_ofS_satS (hw : 0 < w) : toS w (ofS w (satS w i)) = satS w i :=
  toS_ofS hw satS_bounds.1 satS_bounds.2

/-- A saturated number reads back from the field that took it. -/
theorem State.getS_putS_satS (hf : f.fits = true) (hw : 0 < f.width) : (s.putS f (satS f.width i)).getS f = satS f.width i :=
  (State.getS_put_fits hf).trans (toS_ofS_satS hw)

/-- A register that no step of a loop writes is as before the loop. -/
theorem State.rd_forEach {α : Type} {xs : List α} {g : α → State → State} (h : ∀ x ∈ xs, ∀ s, (g x s).rd a = s.rd a) :
    (s.forEach xs g).rd a = s.rd a := by
  induction xs generalizing s with
  | nil => rfl
  | cons x xs ih =>
    rw [State.forEach, List.foldl_cons]
    exact (ih fun y hy => h y (List.mem_cons_of_mem _ hy)).trans (h x List.mem_cons_self s)

/-! ### What the pans touch -/

/-- An address at which no modem register stands. -/
def outsideModem (a : Nat) : Prop := a < 0x40030000 ∨ 0x40030800 ≤ a

theorem rd_putPanLast {words : List Word} (hp : p < 16) (hwords : words.length ≤ 8) (ha : outsideModem a) :
    (putPanLast p words s).rd a = s.rd a := by
  have hstat : a ≠ Reg.MODEM_PANSTAT p := by
    simp only [outsideModem, Reg.MODEM_PANSTAT] at ha ⊢
    omega
  rw [putPanLast, State.rd_put_other hstat]
  refine State.rd_forEach fun x hx _ => State.rd_wr_ne ?_
  have hx2 : x.2 < words.length := List.snd_lt_of_mem_zipIdx hx
  simp only [outsideModem, Reg.MODEM_PANLAST] at ha ⊢
  omega

theorem onlyIn_putPanLast {words : List Word} : OnlyIn [.regs] s (putPanLast p words s) := by
  have h : OnlyIn [.regs] s (s.forEach words.zipIdx (fun x s => s.wr (Reg.MODEM_PANLAST p x.2) x.1)) :=
    .forEach (fun _ _ => (onlyIn_wr (by decide)).mpr .refl) .refl
  simp [putPanLast, h]

theorem onlyIn_afcUpdate : OnlyIn [.regs] s (afcUpdate l i s) := by simp [afcUpdate]

theorem rd_afcUpdate (hl : l < 2) (ha : outsideModem a) : (afcUpdate l i s).rd a = s.rd a := by
  have hne : a ≠ Reg.MODEM_AFCFRAC l := by
    simp only [outsideModem, Reg.MODEM_AFCFRAC] at ha ⊢
    omega
  exact State.rd_put_other hne

theorem onlyIn_panEndEarly {code : Nat} : OnlyIn [.regs, .freeCounter, .edges] s (panEndEarly p code s) := by
  unfold panEndEarly
  extract_lets st v fofs corr s₁ s₂ s₃ s₄
  have h₁ : OnlyIn [.regs, .freeCounter, .edges] s s₁ := by simp [s₁]
  have h₂ : OnlyIn [.regs, .freeCounter, .edges] s s₂ := h₁.trans (onlyIn_putPanLast.mono (by decide))
  have h₃ : OnlyIn [.regs, .freeCounter, .edges] s s₃ :=
    .ite (.ite ((h₂.trans (onlyIn_afcUpdate.mono (by decide))).trans (onlyIn_afcUpdate.mono (by decide)))
      (h₂.trans (onlyIn_afcUpdate.mono (by decide)))) h₂
  have h₄ : OnlyIn [.regs, .freeCounter, .edges] s s₄ := .ite (by simp [h₃]) h₃
  exact .ite (by simp [recordEvents, h₄]) .refl

theorem rd_panEndEarly {code : Nat} (hp : p < 16) (ha : outsideModem a) : (panEndEarly p code s).rd a = s.rd a := by
  have hcnt : a ≠ (Fld.MODEM_RXCNT_CUT (p / 8)).addr := by
    simp only [outsideModem, Fld.MODEM_RXCNT_CUT, Reg.MODEM_RXCNT] at ha ⊢
    omega
  unfold panEndEarly
  extract_lets st v fofs corr s₁ s₂ s₃ s₄
  have h₂ : s₂.rd a = s.rd a := (rd_putPanLast hp (by simp [recordWords]) ha).trans rfl
  have h₃ : s₃.rd a = s.rd a := by
    simp only [s₃]
    split
    · split
      · rw [rd_afcUpdate (by decide) ha, rd_afcUpdate (by decide) ha, h₂]
      · rw [rd_afcUpdate (by omega) ha, h₂]
    · exact h₂
  have h₄ : s₄.rd a = s.rd a := by
    simp only [s₄]
    split
    · exact (State.rd_put_other hcnt).trans h₃
    · exact h₃
  split
  · rw [recordEvents, State.rd_fire, State.rd_fire, h₄]
  · rfl

theorem onlyIn_panRefuse : OnlyIn [.regs, .edges] s (panRefuse p s) := by simp [panRefuse, State.setPanState]

theorem rd_panRefuse (hp : p < 16) (ha : outsideModem a) : (panRefuse p s).rd a = s.rd a := by
  have hstat : a ≠ Reg.MODEM_PANSTAT p := by
    simp only [outsideModem, Reg.MODEM_PANSTAT] at ha ⊢
    omega
  have hflags : a ≠ Reg.MODEM_RXFLAGS := by
    simp only [outsideModem, Reg.MODEM_RXFLAGS] at ha ⊢
    omega
  rw [panRefuse, State.rd_fire, State.flag_eq_put, State.rd_put_other hflags, State.rd_put_other hstat]
  exact State.rd_put_other hstat

/-! ### The pans after a change of the span centre -/

theorem onlyIn_panRecheck : OnlyIn [.regs, .freeCounter, .edges] s (panRecheck l s) :=
  .forEach (fun _ _ => .ite (onlyIn_panEndEarly.trans (onlyIn_panRefuse.mono (by decide))) .refl) .refl

theorem rd_panRecheck (hl : l < 2) (ha : outsideModem a) : (panRecheck l s).rd a = s.rd a := by
  refine State.rd_forEach fun p hp s => ?_
  obtain ⟨k, hk, rfl⟩ := List.mem_map.mp hp
  have hk8 : k < 8 := List.mem_range.mp hk
  split
  · rw [rd_panRefuse (by omega) ha, rd_panEndEarly (by omega) ha]
  · rfl

/-- A lane without an enabled pan has none that a moved span could refuse. -/
theorem panRecheck_of_noPans (hl : l < 2) (h : s.NoPans) : panRecheck l s = s := by
  refine forEach_eq_self fun p hp => if_neg ?_
  obtain ⟨k, hk, rfl⟩ := List.mem_map.mp hp
  have hk8 : k < 8 := List.mem_range.mp hk
  simp [h (8 * l + k) (by omega)]

/-! ### The tide rate -/

theorem onlyIn_rateSet : OnlyIn [.regs, .freeCounter, .edges] s (rateSet i s) :=
  (OnlyIn.trans (t := s.putS Fld.TIDE_RATE_RATE i) (by simp) onlyIn_panRecheck).trans onlyIn_panRecheck

/-- A new rate bears on the rate and on the modem only. -/
theorem rd_rateSet (ha : outsideModem a) (hrate : a ≠ Reg.TIDE_RATE) : (rateSet i s).rd a = s.rd a := by
  rw [rateSet, rd_panRecheck (by decide) ha, rd_panRecheck (by decide) ha]
  exact State.rd_put_other hrate

theorem rate_rateSet : (rateSet (satS 24 i) s).rate = satS 24 i := by
  have hrd : (rateSet (satS 24 i) s).rd Reg.TIDE_RATE = (s.putS Fld.TIDE_RATE_RATE (satS 24 i)).rd Reg.TIDE_RATE := by
    rw [rateSet, rd_panRecheck (by decide) (.inr (by decide)), rd_panRecheck (by decide) (.inr (by decide))]
  rw [State.rate, State.getS_eq_of_get (State.get_eq_of_rd hrd)]
  exact State.getS_putS_satS (f := Fld.TIDE_RATE_RATE) rfl (by decide)

theorem State.noPans_putS (hf : ∀ p, p < 16 → f.addr ≠ Reg.MODEM_PANCFG p) (h : s.NoPans) : (s.putS f i).NoPans :=
  fun p hp => (State.has_put_other (hf p hp).symm).trans (h p hp)

theorem rateSet_of_noPans (h : s.NoPans) : rateSet i s = s.putS Fld.TIDE_RATE_RATE i := by
  have hne : ∀ p, p < 16 → Reg.TIDE_RATE ≠ Reg.MODEM_PANCFG p := by
    intro p hp
    simp only [Reg.TIDE_RATE, Reg.MODEM_PANCFG]
    omega
  have h' : (s.putS Fld.TIDE_RATE_RATE i).NoPans := State.noPans_putS hne h
  rw [rateSet, panRecheck_of_noPans (by decide) h', panRecheck_of_noPans (by decide) h']

theorem get_rateSet (ha : outsideModem f.addr) (hrate : f.addr ≠ Reg.TIDE_RATE) : (rateSet i s).get f = s.get f :=
  State.get_eq_of_rd (rd_rateSet ha hrate)

theorem has_rateSet (ha : outsideModem f.addr) (hrate : f.addr ≠ Reg.TIDE_RATE) : (rateSet i s).has f = s.has f :=
  State.has_eq_of_get (get_rateSet ha hrate)

end Sys2Proof.Machine
end

section
/-!
SUPPORT. The oscillators (R121 to R125, R204 to R206).
-/

namespace Sys2Proof.Machine

variable {s t : State} {n : Nat}

/-! ### The clock source -/

theorem clkSrc_setClkSrc (hn : n < 4) : (s.setClkSrc n).clkSrc = n ∧ (s.setClkSrc n).get Fld.SYSCFG_CLKCFG_CLKSRC = n := by
  have hmod : n % 4 = n := Nat.mod_eq_of_lt hn
  constructor
  · rw [State.clkSrc, State.setClkSrc, State.get_put_other (by decide), State.get_put_other (by decide), State.get_put_fits rfl]
    exact hmod
  · rw [State.setClkSrc, State.get_put_other (by decide), State.get_put_fits rfl]
    exact hmod

theorem regsBut_setClkSrc : RegsBut [Reg.TIDE_STAT, Reg.SYSCFG_CLKCFG, Reg.SYSCFG_FOSTAT] s (s.setClkSrc n) := by
  simp [State.setClkSrc, Fld.TIDE_STAT_CLKSRC, Fld.SYSCFG_CLKCFG_CLKSRC, Fld.SYSCFG_FOSTAT_XTALFAIL]

theorem has_XTALFAIL_setClkSrc : (s.setClkSrc n).has Fld.SYSCFG_FOSTAT_XTALFAIL = decide (n = 2) := by
  rw [State.setClkSrc, State.has_put_fits rfl]
  split <;> simp [*, Fld.SYSCFG_FOSTAT_XTALFAIL]

theorem State.clkSrc_congr (h : t.rd Reg.TIDE_STAT = s.rd Reg.TIDE_STAT) : t.clkSrc = s.clkSrc := State.get_eq_of_rd h

/-! ### The crystal fails -/

/-- A lane with nothing in progress. -/
def State.LaneAtRest (l : Nat) (s : State) : Prop := s.laneSt l ≤ 2 ∧ (s.lane l).txSub = none

/-- A lane at rest drops its goal, and nothing else ends on it. -/
theorem laneReferenceLost_of_rest {l : Nat} (hacts : s.acts = []) (hst : s.laneSt l ≤ 2) (htx : (s.lane l).txSub = none) :
    laneReferenceLost l s = s.setLane l { s.lane l with goal := none, lbtWait := false } := by
  have h3 : s.laneSt l ≠ 3 := by omega
  have h4 : s.laneSt l ≠ 4 := by omega
  have hcut : stepCut l s = s := if_neg (by simp [htx])
  have hend : endLaneActs l 0x0110 s = s := by rw [endLaneActs, hacts]; rfl
  simp [laneReferenceLost, h3, h4, hend, hcut]

/-- The crystal's flag and event, with the island on RC64. -/
def State.xtalFlagged (s : State) : State := ((s.setClkSrc 0).flag Fld.TIDE_FLAGS_XTALFAIL).fire EV.TIDE_XTALFAIL

/-- The discipline begins again. -/
def State.undisciplined (s : State) : State :=
  { s with tide := { s.tide with xtalFailed := true, awaitResid := true, discFrames := 0, discRing := 0, discLf := false } }

/-- The registers and the tide clock of the crystal-failure sequence. -/
def State.xtalLost (s : State) : State :=
  (s.xtalFlagged.undisciplined.put Fld.TIDE_CLKCTL_RESID 0xFF).unflag Fld.TIDE_CLKCTL_XTALOK

/-- The RC64 procedure begins, or is given up where the LF crystal does not run. -/
def State.rcBegun (s : State) : State :=
  if s.tide.lfPresent then { rcCoarse s with rf := { (rcCoarse s).rf with rcRunning := true, rcMeasures := 0 } }
  else lifeCode 0x0139 3 { s with rf := { s.rf with rcRunning := false } }

theorem xtalFail_eq : xtalFail s = State.rcBegun
    (lifeCount 20 24 8 1 (lifeCode 0x0110 0x10 (laneReferenceLost 1 (laneReferenceLost 0 s.xtalLost)))) := rfl

theorem State.onlyIn_xtalFlagged : OnlyIn [.regs, .edges] s s.xtalFlagged := by
  have h : OnlyIn [.regs, .edges] s (s.setClkSrc 0) := onlyIn_setClkSrc.mono (by decide)
  simp [State.xtalFlagged, h]

theorem State.rd_undisciplined {a : Nat} : s.undisciplined.rd a = s.rd a := rfl

theorem State.get_undisciplined {f : Field} : s.undisciplined.get f = s.get f := rfl

theorem State.has_undisciplined {f : Field} : s.undisciplined.has f = s.has f := rfl

theorem State.lfPresent_undisciplined : s.undisciplined.tide.lfPresent = s.tide.lfPresent := rfl

theorem State.xtalFailed_undisciplined : s.undisciplined.tide.xtalFailed = true := rfl

theorem State.onlyIn_undisciplined : OnlyIn [.tide] s s.undisciplined := .of_frame rfl

theorem onlyIn_xtalLost : OnlyIn [.regs, .edges, .tide] s s.xtalLost := by
  have h : OnlyIn [.regs, .edges, .tide] s s.xtalFlagged.undisciplined :=
    (State.onlyIn_xtalFlagged.mono (by decide)).trans (State.onlyIn_undisciplined.mono (by decide))
  simp [State.xtalLost, h]

/-- What stands outside TIDE_CLKCTL is as the flag left it. -/
theorem get_xtalLost {f : Field} (h : f.addr ≠ Reg.TIDE_CLKCTL) : s.xtalLost.get f = ((s.setClkSrc 0).flag Fld.TIDE_FLAGS_XTALFAIL).get f := by
  rw [State.xtalLost, State.unflag_eq_put, State.get_put_other h, State.get_put_other h, State.get_undisciplined,
    State.xtalFlagged, State.get_fire]

theorem regs_xtalLost : s.xtalLost.clkSrc = 0 ∧ s.xtalLost.get Fld.SYSCFG_CLKCFG_CLKSRC = 0
    ∧ s.xtalLost.has Fld.TIDE_FLAGS_XTALFAIL = true ∧ s.xtalLost.get Fld.TIDE_CLKCTL_RESID = 0xFF
    ∧ s.xtalLost.has Fld.TIDE_CLKCTL_XTALOK = false := by
  obtain ⟨hsrc, hcfg⟩ := clkSrc_setClkSrc (s := s) (n := 0) (by decide)
  refine ⟨?_, ?_, ?_, ?_, State.has_unflag_fits rfl⟩
  · rw [State.clkSrc, get_xtalLost (by decide), State.flag_eq_put, State.get_put_other (by decide)]
    exact hsrc
  · rw [get_xtalLost (by decide), State.flag_eq_put, State.get_put_other (by decide), hcfg]
  · rw [State.has_eq_of_get (get_xtalLost (by decide)), State.has_flag_bit rfl rfl]
  · exact (State.get_put_bitsApart rfl rfl).trans (State.get_put_fits rfl)

/-- Both lanes have dropped their goals, and the lifetime block has noted the failure. -/
def State.xtalNoted (s : State) : State :=
  lifeCount 20 24 8 1 (lifeCode 0x0110 0x10 (laneReferenceLost 1 (laneReferenceLost 0 s)))

/-- Both lanes are at rest, and no activity runs. -/
structure State.Resting (s : State) : Prop where
  acts : s.acts = []
  lane : ∀ l, l < 2 → s.laneSt l ≤ 2 ∧ (s.lane l).txSub = none

theorem referencesLost_eq (h : s.Resting) :
    ∃ x y : LaneState, laneReferenceLost 1 (laneReferenceLost 0 s) = (s.setLane 0 x).setLane 1 y := by
  obtain ⟨hst₀, htx₀⟩ := h.lane 0 (by decide)
  obtain ⟨hst₁, htx₁⟩ := h.lane 1 (by decide)
  rw [laneReferenceLost_of_rest h.acts hst₀ htx₀]
  have htx₁' : ((s.setLane 0 { s.lane 0 with goal := none, lbtWait := false }).lane 1).txSub = none := by
    rw [State.lane_setLane_ne (by decide), htx₁]
  exact ⟨_, _, laneReferenceLost_of_rest h.acts hst₁ htx₁'⟩

theorem onlyIn_xtalNoted (h : s.Resting) : OnlyIn [.regs, .lanes, .life] s s.xtalNoted := by
  obtain ⟨x, y, heq⟩ := referencesLost_eq h
  have hlanes : OnlyIn [.regs, .lanes, .life] s ((s.setLane 0 x).setLane 1 y) := by simp
  rw [State.xtalNoted, heq]
  exact (hlanes.trans (onlyIn_lifeCode.mono (by decide))).trans (onlyIn_lifeCount.mono (by decide))

theorem rd_xtalNoted {a : Nat} (h : s.Resting) (ha : a < Reg.LIFE_VAL 0) : s.xtalNoted.rd a = s.rd a := by
  obtain ⟨x, y, heq⟩ := referencesLost_eq h
  rw [State.xtalNoted, heq, lifeCount, rd_lifeEvent ha, lifeCode, rd_lifeEvent ha]
  rfl

theorem State.Resting.xtalLost (h : s.Resting) : s.xtalLost.Resting where
  acts := (congrArg Link.acts (onlyIn_xtalLost.link (by decide))).trans h.acts
  lane l hl := by
    have hclk : (Fld.LANE_STAT_STATE l).addr ≠ Reg.TIDE_CLKCTL := by
      simp only [Fld.LANE_STAT_STATE, Reg.LANE_STAT, Reg.TIDE_CLKCTL]
      omega
    have hflags : (Fld.LANE_STAT_STATE l).addr ≠ Fld.TIDE_FLAGS_XTALFAIL.addr := by
      simp only [Fld.LANE_STAT_STATE, Reg.LANE_STAT, Fld.TIDE_FLAGS_XTALFAIL, Reg.TIDE_FLAGS]
      omega
    have hsrc : (Fld.LANE_STAT_STATE l).addr ∉ [Reg.TIDE_STAT, Reg.SYSCFG_CLKCFG, Reg.SYSCFG_FOSTAT] := by
      simp only [Fld.LANE_STAT_STATE, Reg.LANE_STAT, Reg.TIDE_STAT, Reg.SYSCFG_CLKCFG, Reg.SYSCFG_FOSTAT, List.mem_cons,
        List.not_mem_nil, or_false]
      omega
    have hst : s.xtalLost.laneSt l = s.laneSt l := by
      rw [State.laneSt, get_xtalLost hclk, State.flag_eq_put, State.get_put_other hflags, regsBut_setClkSrc.get hsrc, State.laneSt]
    rw [hst, State.lane_congr (onlyIn_xtalLost.lanes (by decide))]
    exact h.lane l hl

theorem onlyIn_rcCoarse : OnlyIn [.regs, .freeCounter] s (rcCoarse s) :=
  .ite (.ite .refl (by simp)) (by simp)

theorem rd_rcCoarse {a : Nat} (h : a ≠ Reg.RF_RC64TRIM) : (rcCoarse s).rd a = s.rd a := by
  unfold rcCoarse
  split
  · split
    · rfl
    · exact State.rd_put_other h
  · exact State.rd_put_other h

theorem onlyIn_rcBegun : OnlyIn [.regs, .freeCounter, .rf, .life] s s.rcBegun :=
  .ite ((onlyIn_rf (by decide)).mpr (onlyIn_rcCoarse.mono (by decide)))
    (OnlyIn.trans ((onlyIn_rf (by decide)).mpr .refl) (onlyIn_lifeCode.mono (by decide)))

theorem rd_rcBegun {a : Nat} (h : a ≠ Reg.RF_RC64TRIM) (ha : a < Reg.LIFE_VAL 0) : s.rcBegun.rd a = s.rd a := by
  unfold State.rcBegun
  split
  · exact rd_rcCoarse h
  · exact rd_lifeEvent ha

theorem rf_rcBegun : s.rcBegun.rf.rcRunning = s.tide.lfPresent ∧ (s.tide.lfPresent = true → s.rcBegun.rf.rcMeasures = 0) := by
  unfold State.rcBegun
  split
  next h => exact ⟨h.symm, fun _ => rfl⟩
  next h =>
    rw [Bool.not_eq_true] at h
    rw [onlyIn_lifeCode.rf (by decide), h]
    exact ⟨rfl, fun h' => Bool.noConfusion h'⟩

theorem exec_xtalFailDetect_of_crystal (h : s.clkSrc = 1) : exec .xtalFailDetect s = .next s.xtalLost.xtalNoted.rcBegun :=
  congrArg Host.Outcome.next (if_pos h)

theorem State.lfPresent_xtalLost : s.xtalLost.tide.lfPresent = s.tide.lfPresent := by
  have h : OnlyIn [.regs] s.xtalFlagged.undisciplined s.xtalLost := by simp [State.xtalLost]
  rw [h.tide (by decide), State.lfPresent_undisciplined, State.onlyIn_xtalFlagged.tide (by decide)]

theorem State.xtalFailed_xtalLost : s.xtalLost.tide.xtalFailed = true := by
  have h : OnlyIn [.regs] s.xtalFlagged.undisciplined s.xtalLost := by simp [State.xtalLost]
  rw [h.tide (by decide), State.xtalFailed_undisciplined]

theorem State.fires_xtalLost : Fires [EV.TIDE_XTALFAIL] s s.xtalLost := by
  have h : OnlyIn [.regs] s.xtalFlagged.undisciplined s.xtalLost := by simp [State.xtalLost]
  have hsrc : OnlyIn [.regs] s ((s.setClkSrc 0).flag Fld.TIDE_FLAGS_XTALFAIL) := by simp [onlyIn_setClkSrc]
  have hflag : Fires [EV.TIDE_XTALFAIL] s s.xtalFlagged := hsrc.fires_fire (by decide)
  exact (hflag.append (State.onlyIn_undisciplined.fires (by decide))).append (h.fires (by decide))

/-- The clause on the crystal's failure. -/
theorem answers_xtalFailDetect (hsrc : s.clkSrc = 1) (h : s.Resting) : Answers (exec .xtalFailDetect s) fun t =>
    t.clkSrc = 0 ∧ t.get Fld.SYSCFG_CLKCFG_CLKSRC = 0 ∧ t.has Fld.TIDE_FLAGS_XTALFAIL = true
    ∧ t.get Fld.TIDE_CLKCTL_RESID = 0xFF ∧ t.has Fld.TIDE_CLKCTL_XTALOK = false ∧ t.tide.xtalFailed = true
    ∧ t.rf.rcRunning = s.tide.lfPresent ∧ (s.tide.lfPresent = true → t.rf.rcMeasures = 0)
    ∧ Fires [EV.TIDE_XTALFAIL] s t ∧ SameBytes s t := by
  obtain ⟨hclk, hcfg, hflag, hresid, hok⟩ := regs_xtalLost (s := s)
  have hkeep : ∀ a, a ≠ Reg.RF_RC64TRIM → a < Reg.LIFE_VAL 0 → s.xtalLost.xtalNoted.rcBegun.rd a = s.xtalLost.rd a :=
    fun a hne ha => (rd_rcBegun hne ha).trans (rd_xtalNoted h.xtalLost ha)
  have htide : s.xtalLost.xtalNoted.tide = s.xtalLost.tide := (onlyIn_xtalNoted h.xtalLost).tide (by decide)
  have hlf : s.xtalLost.xtalNoted.tide.lfPresent = s.tide.lfPresent := by rw [htide, State.lfPresent_xtalLost]
  obtain ⟨hrun, hmeas⟩ := rf_rcBegun (s := s.xtalLost.xtalNoted)
  have hrest : OnlyIn [.regs, .lanes, .life, .freeCounter, .rf] s.xtalLost s.xtalLost.xtalNoted.rcBegun :=
    ((onlyIn_xtalNoted h.xtalLost).mono (by decide)).trans (onlyIn_rcBegun.mono (by decide))
  refine .of_eq (exec_xtalFailDetect_of_crystal hsrc) ⟨?_, ?_, ?_, ?_, ?_, ?_, hrun.trans hlf, fun hl => hmeas (hlf.trans hl), ?_, ?_⟩
  · exact (State.clkSrc_congr (hkeep _ (by decide) (by decide))).trans hclk
  · exact (State.get_eq_of_rd (hkeep _ (by decide) (by decide))).trans hcfg
  · exact (State.has_eq_of_get (State.get_eq_of_rd (hkeep _ (by decide) (by decide)))).trans hflag
  · exact (State.get_eq_of_rd (hkeep _ (by decide) (by decide))).trans hresid
  · exact (State.has_eq_of_get (State.get_eq_of_rd (hkeep _ (by decide) (by decide)))).trans hok
  · rw [hrest.tide (by decide), State.xtalFailed_xtalLost]
  · exact State.fires_xtalLost.append (hrest.fires (by decide))
  · exact (onlyIn_xtalLost.sameBytes (by decide)).trans (hrest.sameBytes (by decide))

/-! ### The RC64 procedure -/

theorem OnlyIn.frame_regs_tide_rf (h : OnlyIn [.regs, .tide, .rf] s t) :
    t = { s with regs := t.regs, tide := t.tide, rf := t.rf } := h.frame

theorem OnlyIn.frame_regs_rf_tide_edges (h : OnlyIn [.regs, .rf, .tide, .edges] s t) :
    t = { s with regs := t.regs, rf := t.rf, tide := t.tide, edges := t.edges } := h.frame

/-- The error of RC64 over 1024 LF cycles, in the unit of TIDE_LFINC. -/
def rcError (counts : BitVec 32) (s : State) : Int := 32 * (counts.toNat : Int) - s.get Fld.TIDE_LFINC_INC

section
variable {counts : BitVec 32} {resid : BitVec 8}

/-- The first measurement of the procedure trims RC64. -/
def State.rcTrimmed (tr : Nat) (s : State) : State :=
  { s with rf := { s.rf with rcMeasures := 1 } }.put Fld.RF_RC64TRIM_TRIM tr

theorem exec_rc64Measure_first {tr : Nat} (hrun : s.rf.rcRunning = true) (hm : s.rf.rcMeasures = 0) (htr : tr ≤ 1023)
    (h : (tr : Int) = s.get Fld.RF_RC64TRIM_TRIM - roundDiv (rcError counts s * 10000) (s.get Fld.TIDE_LFINC_INC)) :
    exec (.rc64Measure counts resid) s = .next (s.rcTrimmed tr) := by
  rw [rcError] at h
  rw [exec, execRc64Measure, if_neg (by simp [hrun])]
  dsimp only
  rw [if_pos hm, Int.toNat_natCast, ← h, if_neg (by omega), Int.toNat_natCast]
  rfl

theorem answers_rc64Measure_first {tr : Nat} (hrun : s.rf.rcRunning = true) (hm : s.rf.rcMeasures = 0) (htr : tr ≤ 1023)
    (h : (tr : Int) = s.get Fld.RF_RC64TRIM_TRIM - roundDiv (rcError counts s * 10000) (s.get Fld.TIDE_LFINC_INC)) :
    Answers (exec (.rc64Measure counts resid) s) fun t =>
      t.get Fld.RF_RC64TRIM_TRIM = tr ∧ t.rf.rcMeasures = 1 ∧ t.rf.rcRunning = true
      ∧ RegsBut [Reg.RF_RC64TRIM] s t ∧ t = { s with regs := t.regs, rf := t.rf } := by
  have hmod : tr % 2 ^ 10 = tr := Nat.mod_eq_of_lt (by omega)
  exact .of_eq (exec_rc64Measure_first hrun hm htr h) ⟨(State.get_put_fits rfl).trans hmod, rfl, hrun,
    by simp [State.rcTrimmed, Fld.RF_RC64TRIM_TRIM], rfl⟩

/-- The correction of the second measurement. -/
def rcCorr (counts : BitVec 32) (s : State) : Int := satS 24 (roundDiv (-rcError counts s * 2 ^ 32) (32 * counts.toNat))

/-- Rate, correction and residual stand in the registers. -/
def State.rcRated (corr : Int) (resid : Nat) (s : State) : State :=
  ((rateSet corr s).putS Fld.RF_REFCORR_CORR corr).put Fld.TIDE_CLKCTL_RESID resid

/-- The procedure has ended. -/
def State.rcEnded (resid : Nat) (s : State) : State :=
  { s with rf := { s.rf with rcRunning := false, rcMeasures := 0 },
           tide := { s.tide with discLf := true, awaitResid := s.tide.awaitResid && decide (8 < resid) } }

theorem exec_rc64Measure_second (hrun : s.rf.rcRunning = true) (hm : s.rf.rcMeasures ≠ 0) :
    exec (.rc64Measure counts resid) s
      = .next (disciplineCheck ((s.rcRated (rcCorr counts s) resid.toNat).rcEnded resid.toNat)) := by
  rw [exec, execRc64Measure, if_neg (by simp [hrun]), if_neg hm]
  rfl

theorem get_rcRated {corr : Int} {r : Nat} {f : Field} (ha : outsideModem f.addr)
    (hne : f.addr ∉ [Reg.TIDE_RATE, Reg.RF_REFCORR, Reg.TIDE_CLKCTL]) : (s.rcRated corr r).get f = s.get f := by
  simp only [List.mem_cons, List.not_mem_nil, or_false, not_or] at hne
  obtain ⟨hrate, hcorr, hclk⟩ := hne
  rw [State.rcRated, State.get_put_other hclk, State.putS_eq_put, State.get_put_other hcorr, get_rateSet ha hrate]

/-- The residual, the correction and the rate as the measurement gives them, and the threshold as it was. -/
theorem regs_rcRated {r : Nat} (hr : r < 256) (i : Int) : (s.rcRated (satS 24 i) r).get Fld.TIDE_CLKCTL_RESID = r
    ∧ (s.rcRated (satS 24 i) r).rate = satS 24 i ∧ (s.rcRated (satS 24 i) r).getS Fld.RF_REFCORR_CORR = satS 24 i
    ∧ (s.rcRated (satS 24 i) r).get Fld.TIDE_CLKCTL_DISCTHR = s.get Fld.TIDE_CLKCTL_DISCTHR := by
  refine ⟨(State.get_put_fits rfl).trans (Nat.mod_eq_of_lt hr), ?_, ?_, ?_⟩
  · rw [State.rate, State.rcRated, State.getS_put_other (by decide), State.putS_eq_put, State.getS_put_other (by decide)]
    exact rate_rateSet
  · rw [State.rcRated, State.getS_put_other (by decide)]
    exact State.getS_putS_satS (f := Fld.RF_REFCORR_CORR) rfl (by decide)
  · rw [State.rcRated, State.get_put_bitsApart rfl rfl, State.putS_eq_put, State.get_put_other (by decide),
      get_rateSet (.inr (by decide)) (by decide)]

theorem onlyIn_rcRated {corr : Int} {r : Nat} : OnlyIn [.regs, .freeCounter, .edges] s (s.rcRated corr r) := by
  simp [State.rcRated, onlyIn_rateSet]

theorem rcRated_of_noPans {corr : Int} {r : Nat} (h : s.NoPans) :
    OnlyIn [.regs] s (s.rcRated corr r) ∧ RegsBut [Reg.TIDE_RATE, Reg.RF_REFCORR, Reg.TIDE_CLKCTL] s (s.rcRated corr r) := by
  rw [State.rcRated, rateSet_of_noPans h]
  constructor
  · simp
  · simp [Fld.TIDE_RATE_RATE, Fld.RF_REFCORR_CORR, Fld.TIDE_CLKCTL_RESID]

theorem State.onlyIn_rcEnded {r : Nat} : OnlyIn [.rf, .tide] s (s.rcEnded r) := .of_frame rfl

section
variable {r : Nat} {f : Field}

theorem State.rd_rcEnded {a : Nat} : (s.rcEnded r).rd a = s.rd a := rfl
theorem State.get_rcEnded : (s.rcEnded r).get f = s.get f := rfl
theorem State.getS_rcEnded : (s.rcEnded r).getS f = s.getS f := rfl
theorem State.xtalFailed_rcEnded : (s.rcEnded r).tide.xtalFailed = s.tide.xtalFailed := rfl
theorem State.discFrames_rcEnded : (s.rcEnded r).tide.discFrames = s.tide.discFrames := rfl
theorem State.discRing_rcEnded : (s.rcEnded r).tide.discRing = s.tide.discRing := rfl
theorem State.discLf_rcEnded : (s.rcEnded r).tide.discLf = true := rfl

end

/-- The discipline suffices, with the LF crystal measured. -/
abbrev State.Disciplined (resid : Nat) (s : State) : Prop :=
  s.clkSrc = 0 ∧ s.tide.xtalFailed = true ∧ resid ≤ s.get Fld.TIDE_CLKCTL_DISCTHR
    ∧ (4 ≤ s.tide.discFrames ∨ 320000 ≤ s.tide.discRing ∨ s.get Fld.TIDE_CFG_SRCSEL = 2)

/-- Disciplined RC64 clocks the island. -/
def State.rcTaken (s : State) : State := ((s.setClkSrc 2).flag Fld.TIDE_FLAGS_DISC).fire EV.TIDE_DISC

/-- The state in which the procedure's end is checked. -/
def State.rcMeasured (counts : BitVec 32) (resid : BitVec 8) (s : State) : State :=
  (s.rcRated (rcCorr counts s) resid.toNat).rcEnded resid.toNat

theorem get_rcMeasured {f : Field} (ha : outsideModem f.addr) (hne : f.addr ∉ [Reg.TIDE_RATE, Reg.RF_REFCORR, Reg.TIDE_CLKCTL]) :
    (s.rcMeasured counts resid).get f = s.get f := by
  rw [State.rcMeasured, State.get_rcEnded, get_rcRated ha hne]

theorem regs_rcMeasured : (s.rcMeasured counts resid).get Fld.TIDE_CLKCTL_RESID = resid.toNat
    ∧ (s.rcMeasured counts resid).rate = rcCorr counts s ∧ (s.rcMeasured counts resid).getS Fld.RF_REFCORR_CORR = rcCorr counts s
    ∧ (s.rcMeasured counts resid).get Fld.TIDE_CLKCTL_DISCTHR = s.get Fld.TIDE_CLKCTL_DISCTHR := by
  rw [State.rate, State.rcMeasured, State.get_rcEnded, State.getS_rcEnded, State.getS_rcEnded, State.get_rcEnded]
  exact regs_rcRated resid.isLt _

theorem disciplineCheck_rcMeasured : disciplineCheck (s.rcMeasured counts resid)
    = if s.Disciplined resid.toNat then (s.rcMeasured counts resid).rcTaken else s.rcMeasured counts resid := by
  obtain ⟨hresid, -, -, hthr⟩ := regs_rcMeasured (s := s) (counts := counts) (resid := resid)
  have hsrc : (s.rcMeasured counts resid).clkSrc = s.clkSrc := get_rcMeasured (.inr (by decide)) (by decide)
  have hsel : (s.rcMeasured counts resid).get Fld.TIDE_CFG_SRCSEL = s.get Fld.TIDE_CFG_SRCSEL :=
    get_rcMeasured (.inr (by decide)) (by decide)
  have htide : (s.rcRated (rcCorr counts s) resid.toNat).tide = s.tide := onlyIn_rcRated.tide (by decide)
  have hfailed : (s.rcMeasured counts resid).tide.xtalFailed = s.tide.xtalFailed := by
    rw [State.rcMeasured, State.xtalFailed_rcEnded, htide]
  have hframes : (s.rcMeasured counts resid).tide.discFrames = s.tide.discFrames := by
    rw [State.rcMeasured, State.discFrames_rcEnded, htide]
  have hring : (s.rcMeasured counts resid).tide.discRing = s.tide.discRing := by
    rw [State.rcMeasured, State.discRing_rcEnded, htide]
  have hlf : (s.rcMeasured counts resid).tide.discLf = true := State.discLf_rcEnded
  rw [disciplineCheck, hsrc, hresid, hthr, hsel, hfailed, hframes, hring, hlf]
  simp only [and_true]
  rfl

theorem State.onlyIn_rcTaken : OnlyIn [.regs, .edges] s s.rcTaken := by
  have h : OnlyIn [.regs, .edges] s (s.setClkSrc 2) := onlyIn_setClkSrc.mono (by decide)
  simp [State.rcTaken, h]

theorem State.rd_rcTaken {a : Nat} (h : a ∉ [Reg.TIDE_STAT, Reg.SYSCFG_CLKCFG, Reg.SYSCFG_FOSTAT, Reg.TIDE_FLAGS]) :
    s.rcTaken.rd a = s.rd a := by
  have hregs : RegsBut [Reg.TIDE_STAT, Reg.SYSCFG_CLKCFG, Reg.SYSCFG_FOSTAT, Reg.TIDE_FLAGS] s s.rcTaken := by
    simp [State.rcTaken, Fld.TIDE_FLAGS_DISC, regsBut_setClkSrc.mono (l' := [Reg.TIDE_STAT, Reg.SYSCFG_CLKCFG, Reg.SYSCFG_FOSTAT,
      Reg.TIDE_FLAGS])]
  exact hregs a h

theorem State.regs_rcTaken : s.rcTaken.clkSrc = 2 ∧ s.rcTaken.has Fld.TIDE_FLAGS_DISC = true := by
  constructor
  · rw [State.clkSrc, State.rcTaken, State.get_fire, State.flag_eq_put, State.get_put_other (by decide)]
    exact (clkSrc_setClkSrc (by decide)).1
  · rw [State.rcTaken, State.has_fire, State.has_flag_bit rfl rfl]

theorem State.fires_rcTaken : Fires [EV.TIDE_DISC] s s.rcTaken := by
  have h : OnlyIn [.regs] s ((s.setClkSrc 2).flag Fld.TIDE_FLAGS_DISC) := by simp [onlyIn_setClkSrc]
  exact h.fires_fire (by decide)

theorem rcMeasured_of_noPans (h : s.NoPans) : OnlyIn [.regs, .rf, .tide] s (s.rcMeasured counts resid)
    ∧ RegsBut [Reg.TIDE_RATE, Reg.RF_REFCORR, Reg.TIDE_CLKCTL] s (s.rcMeasured counts resid) := by
  obtain ⟨hframe, hregs⟩ := rcRated_of_noPans (corr := rcCorr counts s) (r := resid.toNat) h
  exact ⟨(hframe.mono (by decide)).trans (State.onlyIn_rcEnded.mono (by decide)),
    hregs.trans fun _ _ => State.rd_rcEnded⟩

/-- The measured rate stands in TIDE_RATE and RF_REFCORR, and the procedure has ended, whether or not RC64 is taken. -/
theorem regs_disciplineCheck : (disciplineCheck (s.rcMeasured counts resid)).rf.rcRunning = false
    ∧ (disciplineCheck (s.rcMeasured counts resid)).get Fld.TIDE_CLKCTL_RESID = resid.toNat
    ∧ (disciplineCheck (s.rcMeasured counts resid)).rate = rcCorr counts s
    ∧ (disciplineCheck (s.rcMeasured counts resid)).getS Fld.RF_REFCORR_CORR
        = (disciplineCheck (s.rcMeasured counts resid)).rate := by
  obtain ⟨hresid, hrate, hcorr, -⟩ := regs_rcMeasured (s := s) (counts := counts) (resid := resid)
  have hrun : (s.rcMeasured counts resid).rf.rcRunning = false := rfl
  rw [disciplineCheck_rcMeasured]
  split
  next =>
    have hrd : ∀ a, a ∉ [Reg.TIDE_STAT, Reg.SYSCFG_CLKCFG, Reg.SYSCFG_FOSTAT, Reg.TIDE_FLAGS] →
        (s.rcMeasured counts resid).rcTaken.rd a = (s.rcMeasured counts resid).rd a := fun a ha => State.rd_rcTaken ha
    have hrate' : (s.rcMeasured counts resid).rcTaken.rate = rcCorr counts s :=
      (State.getS_eq_of_get (State.get_eq_of_rd (hrd _ (by decide)))).trans hrate
    refine ⟨?_, ?_, hrate', ?_⟩
    · rw [State.onlyIn_rcTaken.rf (by decide), hrun]
    · rw [State.get_eq_of_rd (hrd _ (by decide)), hresid]
    · rw [State.getS_eq_of_get (State.get_eq_of_rd (hrd _ (by decide))), hcorr, hrate']
  next => exact ⟨hrun, hresid, hrate, hcorr.trans hrate.symm⟩

/-- The clause on the measurements after the first. -/
theorem answers_rc64Measure_second (hrun : s.rf.rcRunning = true) (hm : s.rf.rcMeasures ≠ 0) :
    Answers (exec (.rc64Measure counts resid) s) fun t =>
      t.rf.rcRunning = false ∧ t.get Fld.TIDE_CLKCTL_RESID = resid.toNat ∧ t.rate = rcCorr counts s
      ∧ t.getS Fld.RF_REFCORR_CORR = t.rate
      ∧ (if s.Disciplined resid.toNat then
          t.clkSrc = 2 ∧ t.has Fld.TIDE_FLAGS_DISC = true
          ∧ (s.NoPans → Fires [EV.TIDE_DISC] s t
            ∧ RegsBut [Reg.TIDE_RATE, Reg.RF_REFCORR, Reg.TIDE_CLKCTL, Reg.TIDE_STAT, Reg.TIDE_FLAGS, Reg.SYSCFG_CLKCFG,
                Reg.SYSCFG_FOSTAT] s t)
        else t.clkSrc = s.clkSrc
          ∧ (s.NoPans → Fires [] s t ∧ RegsBut [Reg.TIDE_RATE, Reg.RF_REFCORR, Reg.TIDE_CLKCTL] s t))
      ∧ (s.NoPans → t = { s with regs := t.regs, rf := t.rf, tide := t.tide, edges := t.edges }) := by
  have heq := exec_rc64Measure_second (resid := resid) hrun hm (counts := counts)
  rw [← State.rcMeasured] at heq
  obtain ⟨h₁, h₂, h₃, h₄⟩ := regs_disciplineCheck (s := s) (counts := counts) (resid := resid)
  refine .of_eq heq ⟨h₁, h₂, h₃, h₄, ?source, fun hpans => ?frame⟩
  case source =>
    rw [disciplineCheck_rcMeasured]
    split
    next =>
      obtain ⟨hsrc, hflag⟩ := State.regs_rcTaken (s := s.rcMeasured counts resid)
      refine ⟨hsrc, hflag, fun hpans => ?_⟩
      obtain ⟨hframe, hregs⟩ := rcMeasured_of_noPans (counts := counts) (resid := resid) hpans
      refine ⟨(hframe.fires (by decide)).append State.fires_rcTaken, ?_⟩
      have hsub : [Reg.TIDE_STAT, Reg.SYSCFG_CLKCFG, Reg.SYSCFG_FOSTAT, Reg.TIDE_FLAGS] ⊆ [Reg.TIDE_RATE, Reg.RF_REFCORR,
          Reg.TIDE_CLKCTL, Reg.TIDE_STAT, Reg.TIDE_FLAGS, Reg.SYSCFG_CLKCFG, Reg.SYSCFG_FOSTAT] := by decide
      exact (hregs.mono (by decide)).trans fun a ha => State.rd_rcTaken fun h' => ha (hsub h')
    next =>
      refine ⟨get_rcMeasured (.inr (by decide)) (by decide), fun hpans => ?_⟩
      obtain ⟨hframe, hregs⟩ := rcMeasured_of_noPans (counts := counts) (resid := resid) hpans
      exact ⟨hframe.fires (by decide), hregs⟩
  case frame =>
    obtain ⟨hframe, -⟩ := rcMeasured_of_noPans (counts := counts) (resid := resid) hpans
    rw [disciplineCheck_rcMeasured]
    split
    · exact ((hframe.mono (by decide)).trans (State.onlyIn_rcTaken.mono (by decide))).frame_regs_rf_tide_edges
    · exact (hframe.mono (by decide) : OnlyIn [.regs, .rf, .tide, .edges] s _).frame_regs_rf_tide_edges

end

/-! ### The tracker, the discipline's timeout and the crystal's return -/

/-- The tracker's next trim. -/
def rcTracked (ppm : Int) (s : State) : Nat :=
  if 50 < ppm then s.get Fld.RF_RC64TRIM_TRIM - 1
    else if ppm < -50 then s.get Fld.RF_RC64TRIM_TRIM + 1 else s.get Fld.RF_RC64TRIM_TRIM

/-- The tracker stores a trim with the temperature it holds for. -/
def State.rcTuned (v : Nat) (s : State) : State :=
  ((s.put Fld.RF_RC64TRIM_TRIM v).putS Fld.RF_RC64TRIM_TEMP (rcTemp s)).flag Fld.RF_RC64TRIM_VALID

theorem exec_rc64Track_of_inside {ppm : Int} (hsrc : s.clkSrc = 1) (h0 : 0 < s.get Fld.RF_RC64TRIM_TRIM)
    (h1 : s.get Fld.RF_RC64TRIM_TRIM < 1023) : exec (.rc64Track ppm) s = .next (s.rcTuned (rcTracked ppm s)) := by
  have hmin : min 1023 (s.get Fld.RF_RC64TRIM_TRIM + 1) = s.get Fld.RF_RC64TRIM_TRIM + 1 := by omega
  have hstuck : ¬ ((50 < ppm ∧ s.get Fld.RF_RC64TRIM_TRIM = 0) ∨ (ppm < -50 ∧ s.get Fld.RF_RC64TRIM_TRIM = 1023)) := by omega
  rw [exec, execRc64Track, if_neg (by simp [hsrc])]
  extract_lets t stuck t' s₁
  have ht : t' = rcTracked ppm s := by rw [rcTracked, ← hmin]
  rw [if_neg hstuck, State.rcTuned, ← ht]

theorem regs_rcTuned {v : Nat} (hv : v < 1024) : (s.rcTuned v).get Fld.RF_RC64TRIM_TRIM = v
    ∧ (s.rcTuned v).has Fld.RF_RC64TRIM_VALID = true ∧ RegsBut [Reg.RF_RC64TRIM] s (s.rcTuned v) := by
  refine ⟨?_, State.has_flag_bit rfl rfl, ?_⟩
  · rw [State.rcTuned, State.flag_eq_put, State.get_put_bitsApart rfl rfl, State.putS_eq_put, State.get_put_bitsApart rfl rfl,
      State.get_put_fits rfl]
    exact Nat.mod_eq_of_lt hv
  · simp [State.rcTuned, Fld.RF_RC64TRIM_TRIM, Fld.RF_RC64TRIM_TEMP, Fld.RF_RC64TRIM_VALID]

theorem answers_rc64Track {ppm : Int} (hsrc : s.clkSrc = 1) (h0 : 0 < s.get Fld.RF_RC64TRIM_TRIM)
    (h1 : s.get Fld.RF_RC64TRIM_TRIM < 1023) : Answers (exec (.rc64Track ppm) s) fun t =>
      t.get Fld.RF_RC64TRIM_TRIM = rcTracked ppm s
      ∧ t.has Fld.RF_RC64TRIM_VALID = true ∧ RegsBut [Reg.RF_RC64TRIM] s t ∧ t = { s with regs := t.regs } := by
  have hlt : rcTracked ppm s < 1024 := by
    unfold rcTracked
    split_ifs <;> omega
  have hframe : OnlyIn [.regs] s (s.rcTuned (rcTracked ppm s)) := by simp [State.rcTuned]
  obtain ⟨htrim, hvalid, hregs⟩ := regs_rcTuned (s := s) hlt
  exact .of_eq (exec_rc64Track_of_inside hsrc h0 h1) ⟨htrim, hvalid, hregs, hframe.frame_regs⟩

/-- The residual of a discipline that is not renewed. -/
def discResid (s : State) : Nat := max (s.get Fld.TIDE_CLKCTL_RESID) 80

/-- The discipline was not renewed: the residual is at least 80, and the counts begin again. -/
def State.discDropped (s : State) : State :=
  { s.put Fld.TIDE_CLKCTL_RESID (discResid s) with tide := { s.tide with discFrames := 0, discRing := 0, discLf := false } }

theorem State.get_discDropped {f : Field} : s.discDropped.get f = (s.put Fld.TIDE_CLKCTL_RESID (discResid s)).get f := rfl

theorem State.onlyIn_discDropped : OnlyIn [.regs, .tide] s s.discDropped := .of_frame rfl

theorem State.regsBut_discDropped : RegsBut [Reg.TIDE_CLKCTL] s s.discDropped := by
  simp [State.discDropped, Fld.TIDE_CLKCTL_RESID]

theorem State.regs_discDropped : s.discDropped.get Fld.TIDE_CLKCTL_RESID = discResid s
    ∧ s.discDropped.get Fld.TIDE_CLKCTL_DISCTHR = s.get Fld.TIDE_CLKCTL_DISCTHR ∧ s.discDropped.clkSrc = s.clkSrc := by
  have hlt : discResid s < 2 ^ 8 := max_lt State.get_lt (by decide)
  refine ⟨?_, ?_, ?_⟩
  · rw [State.get_discDropped, State.get_put_fits rfl]
    exact Nat.mod_eq_of_lt hlt
  · rw [State.get_discDropped, State.get_put_bitsApart rfl rfl]
  · exact State.regsBut_discDropped.get (f := Fld.TIDE_STAT_CLKSRC) (by decide)

theorem exec_disciplineTimeout_of_failed (h : s.tide.xtalFailed = true) : exec .disciplineTimeout s
    = .next (if s.get Fld.TIDE_CLKCTL_DISCTHR < discResid s ∧ s.clkSrc = 2 then s.discDropped.setClkSrc 0 else s.discDropped) := by
  obtain ⟨-, hthr, hsrc⟩ := State.regs_discDropped (s := s)
  rw [exec, execDisciplineTimeout, if_neg (by simp [h]), ← discResid, ← hthr, ← hsrc]
  rfl

theorem answers_disciplineTimeout (h : s.tide.xtalFailed = true) : Answers (exec .disciplineTimeout s) fun t =>
    t.get Fld.TIDE_CLKCTL_RESID = discResid s
    ∧ t.clkSrc = (if s.get Fld.TIDE_CLKCTL_DISCTHR < discResid s ∧ s.clkSrc = 2 then 0 else s.clkSrc)
    ∧ RegsBut [Reg.TIDE_CLKCTL, Reg.TIDE_STAT, Reg.SYSCFG_CLKCFG, Reg.SYSCFG_FOSTAT] s t
    ∧ t = { s with regs := t.regs, tide := t.tide } := by
  obtain ⟨hresid, -, hsrc⟩ := State.regs_discDropped (s := s)
  refine .of_eq (exec_disciplineTimeout_of_failed h) ?_
  split
  next =>
    refine ⟨?_, (clkSrc_setClkSrc (by decide)).1, ?_, ?_⟩
    · rw [regsBut_setClkSrc.get (by decide), hresid]
    · exact (State.regsBut_discDropped.mono (by decide)).trans (regsBut_setClkSrc.mono (by decide))
    · exact (State.onlyIn_discDropped.trans (onlyIn_setClkSrc.mono (by decide))).frame_regs_tide
  next => exact ⟨hresid, hsrc, State.regsBut_discDropped.mono (by decide), State.onlyIn_discDropped.frame_regs_tide⟩

/-- The measured difference goes into the rate, with the island on the crystal. -/
def State.xtalRated (d : Int) (s : State) : State :=
  (rateSet (satS 24 (s.rate + d)) (s.setClkSrc 1)).put Fld.RF_REFCORR_CORR 0

/-- Nothing of the failure is left. -/
def State.xtalBack (s : State) : State :=
  { s with tide := { s.tide with xtalFailed := false, awaitResid := false }, rf := { s.rf with rcRunning := false } }

theorem exec_xtalReturn_of_ok {d : Int} (hok : s.has Fld.TIDE_CLKCTL_XTALOK = true) (hsrc : s.clkSrc ≠ 1) :
    exec (.xtalReturn d) s = .next ((s.unflag Fld.TIDE_CLKCTL_RETURN).xtalRated d).xtalBack := by
  have hok' : (s.unflag Fld.TIDE_CLKCTL_RETURN).has Fld.TIDE_CLKCTL_XTALOK = true :=
    (State.has_put_bitsApart rfl rfl).trans hok
  have hsrc' : (s.unflag Fld.TIDE_CLKCTL_RETURN).clkSrc = s.clkSrc := State.get_put_other (by decide)
  rw [exec, execXtalReturn, if_pos ⟨hok', hsrc'.symm ▸ hsrc⟩]
  rfl

theorem get_xtalRated {d : Int} {f : Field} (ha : outsideModem f.addr) (hrate : f.addr ≠ Reg.TIDE_RATE)
    (hcorr : f.addr ≠ Reg.RF_REFCORR) : (s.xtalRated d).get f = (s.setClkSrc 1).get f := by
  rw [State.xtalRated, State.get_put_other hcorr, get_rateSet ha hrate]

theorem regs_xtalRated {d : Int} : (s.xtalRated d).clkSrc = 1 ∧ (s.xtalRated d).get Fld.SYSCFG_CLKCFG_CLKSRC = 1
    ∧ (s.xtalRated d).has Fld.SYSCFG_FOSTAT_XTALFAIL = false ∧ (s.xtalRated d).rate = satS 24 (s.rate + d)
    ∧ (s.xtalRated d).get Fld.RF_REFCORR_CORR = 0 := by
  obtain ⟨hsrc, hcfg⟩ := clkSrc_setClkSrc (s := s) (n := 1) (by decide)
  refine ⟨?_, ?_, ?_, ?_, State.get_put_fits rfl⟩
  · exact (get_xtalRated (.inr (by decide)) (by decide) (by decide)).trans hsrc
  · exact (get_xtalRated (.inl (by decide)) (by decide) (by decide)).trans hcfg
  · exact (State.has_eq_of_get (get_xtalRated (.inl (by decide)) (by decide) (by decide))).trans has_XTALFAIL_setClkSrc
  · rw [State.rate, State.xtalRated, State.getS_put_other (by decide)]
    exact rate_rateSet

theorem State.has_xtalBack {f : Field} : s.xtalBack.has f = s.has f := rfl
theorem State.get_xtalBack {f : Field} : s.xtalBack.get f = s.get f := rfl
theorem State.xtalFailed_xtalBack : s.xtalBack.tide.xtalFailed = false := rfl
theorem State.rcRunning_xtalBack : s.xtalBack.rf.rcRunning = false := rfl
theorem State.regsBut_xtalBack {l : List Nat} {u : State} : RegsBut l u s.xtalBack ↔ RegsBut l u s := Iff.rfl
theorem State.rate_xtalBack : s.xtalBack.rate = s.rate := rfl
theorem State.clkSrc_xtalBack : s.xtalBack.clkSrc = s.clkSrc := rfl
theorem State.onlyIn_xtalBack : OnlyIn [.tide, .rf] s s.xtalBack := .of_frame rfl

theorem xtalRated_of_noPans {d : Int} (h : s.NoPans) : OnlyIn [.regs] s (s.xtalRated d)
    ∧ RegsBut [Reg.TIDE_STAT, Reg.TIDE_RATE, Reg.RF_REFCORR, Reg.SYSCFG_CLKCFG, Reg.SYSCFG_FOSTAT] s (s.xtalRated d) := by
  have h' : (s.setClkSrc 1).NoPans := fun p hp => by
    have hne : (Fld.MODEM_PANCFG_EN p).addr ∉ [Reg.TIDE_STAT, Reg.SYSCFG_CLKCFG, Reg.SYSCFG_FOSTAT] := by
      simp only [Fld.MODEM_PANCFG_EN, Reg.MODEM_PANCFG, Reg.TIDE_STAT, Reg.SYSCFG_CLKCFG, Reg.SYSCFG_FOSTAT, List.mem_cons,
        List.not_mem_nil, or_false]
      omega
    rw [regsBut_setClkSrc.has hne, h p hp]
  rw [State.xtalRated, rateSet_of_noPans h']
  exact ⟨by simp [onlyIn_setClkSrc], by simp [Fld.TIDE_RATE_RATE, Fld.RF_REFCORR_CORR, regsBut_setClkSrc.mono]⟩

theorem answers_xtalReturn {d : Int} (hok : s.has Fld.TIDE_CLKCTL_XTALOK = true) (hsrc : s.clkSrc ≠ 1) :
    Answers (exec (.xtalReturn d) s) fun t =>
      t.clkSrc = 1 ∧ t.get Fld.SYSCFG_CLKCFG_CLKSRC = 1 ∧ t.has Fld.SYSCFG_FOSTAT_XTALFAIL = false
      ∧ t.rate = satS 24 (s.rate + d) ∧ t.get Fld.RF_REFCORR_CORR = 0 ∧ t.has Fld.TIDE_CLKCTL_RETURN = false
      ∧ t.tide.xtalFailed = false ∧ t.rf.rcRunning = false
      ∧ (s.NoPans →
        RegsBut [Reg.TIDE_CLKCTL, Reg.TIDE_STAT, Reg.TIDE_RATE, Reg.RF_REFCORR, Reg.SYSCFG_CLKCFG, Reg.SYSCFG_FOSTAT] s t
        ∧ t = { s with regs := t.regs, tide := t.tide, rf := t.rf }) := by
  obtain ⟨hclk, hcfg, hfail, hrate, hcorr⟩ := regs_xtalRated (s := s.unflag Fld.TIDE_CLKCTL_RETURN) (d := d)
  have hrate₀ : (s.unflag Fld.TIDE_CLKCTL_RETURN).rate = s.rate := State.getS_put_other (by decide)
  have hreturn : ((s.unflag Fld.TIDE_CLKCTL_RETURN).xtalRated d).has Fld.TIDE_CLKCTL_RETURN = false := by
    rw [State.has_eq_of_get (get_xtalRated (.inr (by decide)) (by decide) (by decide)), regsBut_setClkSrc.has (by decide),
      State.has_unflag_fits rfl]
  rw [hrate₀] at hrate
  refine .of_eq (exec_xtalReturn_of_ok hok hsrc) ⟨State.clkSrc_xtalBack.trans hclk, State.get_xtalBack.trans hcfg,
    State.has_xtalBack.trans hfail, State.rate_xtalBack.trans hrate, State.get_xtalBack.trans hcorr,
    State.has_xtalBack.trans hreturn, State.xtalFailed_xtalBack, State.rcRunning_xtalBack, fun hpans => ?_⟩
  have hpans' : (s.unflag Fld.TIDE_CLKCTL_RETURN).NoPans := fun p hp =>
    (State.has_put_other (by
      simp only [Fld.MODEM_PANCFG_EN, Reg.MODEM_PANCFG, Fld.TIDE_CLKCTL_RETURN, Reg.TIDE_CLKCTL]
      omega)).trans (hpans p hp)
  obtain ⟨hframe, hregs⟩ := xtalRated_of_noPans (d := d) hpans'
  have hunflag : OnlyIn [.regs] s (s.unflag Fld.TIDE_CLKCTL_RETURN) := by simp
  have hunflagRegs : RegsBut [Reg.TIDE_CLKCTL] s (s.unflag Fld.TIDE_CLKCTL_RETURN) := by simp [Fld.TIDE_CLKCTL_RETURN]
  exact ⟨State.regsBut_xtalBack.mpr ((hunflagRegs.mono (by decide)).trans (hregs.mono (by decide))),
    (((hunflag.trans hframe).mono (by decide)).trans (State.onlyIn_xtalBack.mono (by decide))).frame_regs_tide_rf⟩

/-- Settles O29: the crystal's failure and return, the RC64 procedure, the tracker and the discipline's timeout. -/
theorem oscillatorFailureAndReturn : Obligations.OscillatorFailureAndReturn := by
  intro s
  refine ⟨fun hsrc hacts hlanes => answers_xtalFailDetect hsrc ⟨hacts, hlanes⟩,
    fun counts resid hrun => ⟨fun tr hm htr h => answers_rc64Measure_first hrun hm htr h,
      fun hm => answers_rc64Measure_second hrun hm⟩,
    fun ppm hsrc h0 h1 => answers_rc64Track hsrc h0 h1, answers_disciplineTimeout, fun d hok hsrc => answers_xtalReturn hok hsrc⟩

end Sys2Proof.Machine
end

section
/-!
SUPPORT. Pans, receive slots, power snapshots and AFC (R236 to R241, R250 to R258, R271, R282).
-/

namespace Sys2Proof.Machine

variable {s t : State} {p q l v j n : Nat} {x : Pan}

/-! ### Addresses of the modem -/

/-- The registers that say what a pan does and how its lane's gain stands. -/
def panRegs (p : Nat) : List Nat := [Reg.MODEM_PANSTAT p, Reg.MODEM_LANEGAIN 0, Reg.MODEM_LANEGAIN 1, Reg.MODEM_RXFLAGS]

/-- A register of a lane or of the tide clock, or a pan's configuration, is none of them. -/
theorem notMem_panRegs {a : Nat} (hp : p < 16) (h : outsideModem a ∨ ∃ q < 16, a = Reg.MODEM_PANCFG q) : a ∉ panRegs p := by
  simp only [panRegs, outsideModem, Reg.MODEM_PANSTAT, Reg.MODEM_LANEGAIN, Reg.MODEM_RXFLAGS, Reg.MODEM_PANCFG, List.mem_cons,
    List.not_mem_nil, or_false] at h ⊢
  rcases h with h | ⟨q, hq, rfl⟩ <;> omega

theorem PANSTAT_notMem_panRegs (hq : q < 16) (h : q ≠ p) : Reg.MODEM_PANSTAT q ∉ panRegs p := by
  simp only [panRegs, Reg.MODEM_PANSTAT, Reg.MODEM_LANEGAIN, Reg.MODEM_RXFLAGS, List.mem_cons, List.not_mem_nil, or_false]
  omega

/-! ### The pans' own state -/

@[simp] theorem State.pan_setPan_self : (s.setPan p x).pan p = x := sparseGet_set_self

theorem State.pan_setPan_ne (h : q ≠ p) : (s.setPan p x).pan q = s.pan q := sparseGet_set_ne h

@[simp] theorem State.rd_setPan {a : Nat} : (s.setPan p x).rd a = s.rd a := rfl

@[simp] theorem onlyIn_setPan {m : List Part} (h : .modem ∈ m) : OnlyIn m s (t.setPan p x) ↔ OnlyIn m s t := onlyIn_modem h

@[simp] theorem regsBut_setPan {m : List Nat} : RegsBut m s (t.setPan p x) ↔ RegsBut m s t := Iff.rfl

theorem State.pan_congr (h : t.modem = s.modem) : t.pan p = s.pan p := by rw [State.pan, State.pan, h]

/-! ### The gain's freeze -/

theorem onlyIn_gainFreezeOne : OnlyIn [.regs] s (gainFreezeOne l s) := by simp [gainFreezeOne]

theorem regsBut_gainFreezeOne : RegsBut [Reg.MODEM_LANEGAIN l] s (gainFreezeOne l s) := by
  simp [gainFreezeOne, Fld.MODEM_LANEGAIN_FROZEN]

theorem onlyIn_gainFreeze : OnlyIn [.regs] s (gainFreeze l s) :=
  .ite (onlyIn_gainFreezeOne.trans onlyIn_gainFreezeOne) onlyIn_gainFreezeOne

theorem regsBut_gainFreeze (hl : l < 2) : RegsBut [Reg.MODEM_LANEGAIN 0, Reg.MODEM_LANEGAIN 1] s (gainFreeze l s) := by
  have hone : ∀ k < 2, ∀ u, RegsBut [Reg.MODEM_LANEGAIN 0, Reg.MODEM_LANEGAIN 1] u (gainFreezeOne k u) := by
    intro k hk u
    interval_cases k <;> exact regsBut_gainFreezeOne.mono (by simp)
  exact regsBut_ite ((hone 0 (by decide) _).trans (hone 1 (by decide) _)) (hone l hl _)

theorem gainFreeze_of_unpaired (h : s.paired = false) : gainFreeze l s = gainFreezeOne l s := if_neg (by simp [h])

/-! ### A pan between frames -/

theorem panEndEarly_of_noFrame {code : Nat} (h3 : s.panState p ≠ 3) (h4 : s.panState p ≠ 4) : panEndEarly p code s = s :=
  if_neg (by simp [h3, h4])

theorem State.get_setPanState : (s.setPanState p v).panState p = v % 8 := State.get_put_fits rfl

/-! ### The fit of a pan -/

/-- The fit of a pan does not depend on its own state, on the gain or on the flags. -/
theorem panFits_congr (hregs : RegsBut (panRegs p) s t) (hlanes : t.lanes = s.lanes) (hp : p < 16) :
    panFits t p = panFits s p := by
  have hcfg : ∀ q < 16, t.rd (Reg.MODEM_PANCFG q) = s.rd (Reg.MODEM_PANCFG q) := fun q hq =>
    hregs _ (notMem_panRegs hp (.inr ⟨q, hq, rfl⟩))
  have hout : ∀ a, outsideModem a → t.rd a = s.rd a := fun a ha => hregs a (notMem_panRegs hp (.inl ha))
  have hlane : ∀ {f : Field}, f.addr < 0x40030000 → t.get f = s.get f := fun h => State.get_eq_of_rd (hout _ (.inl h))
  have hl : p / 8 < 2 := by omega
  have hstat : Reg.LANE_STAT (p / 8) < 0x40030000 := by simp only [Reg.LANE_STAT]; omega
  have hfreq : Reg.LANE_FREQ (p / 8) < 0x40030000 := by simp only [Reg.LANE_FREQ]; omega
  have hafc : Reg.LANE_AFC (p / 8) < 0x40030000 := by simp only [Reg.LANE_AFC]; omega
  have hband : t.get (Fld.LANE_STAT_BAND (p / 8)) = s.get (Fld.LANE_STAT_BAND (p / 8)) := hlane hstat
  have hcentre : spanCentre t (p / 8) = spanCentre s (p / 8) := by
    have hlock : t.has (Fld.LANE_STAT_LOCK (p / 8)) = s.has (Fld.LANE_STAT_LOCK (p / 8)) := State.has_eq_of_get (hlane hstat)
    have hf : t.get (Fld.LANE_FREQ_FREQ (p / 8)) = s.get (Fld.LANE_FREQ_FREQ (p / 8)) := hlane hfreq
    have hc : t.getS (Fld.LANE_AFC_CORR (p / 8)) = s.getS (Fld.LANE_AFC_CORR (p / 8)) := State.getS_eq_of_get (hlane hafc)
    have hr : t.rate = s.rate := State.getS_eq_of_get (State.get_eq_of_rd (hout _ (.inr (by decide))))
    simp only [spanCentre, centreOf, carrierOf, spanFreq, State.lane_congr hlanes, hlock, hf, hc, hr]
  have hmode : ∀ q < 16, t.panMode q = s.panMode q := fun q hq => State.get_eq_of_rd (hcfg q hq)
  have hchan : ∀ q < 16, t.panChan q = s.panChan q := fun q hq => State.get_eq_of_rd (hcfg q hq)
  have hall : ∀ m c, (panRange (p / 8)).all (fun q => q == p || !t.has (Fld.MODEM_PANCFG_EN q) || t.panState q == 6
        || t.panState q == 5 || !bandsOverlap m c (t.panMode q) (t.panChan q))
      = (panRange (p / 8)).all (fun q => q == p || !s.has (Fld.MODEM_PANCFG_EN q) || s.panState q == 6
        || s.panState q == 5 || !bandsOverlap m c (s.panMode q) (s.panChan q)) := by
    intro m c
    rw [Bool.eq_iff_iff, List.all_eq_true, List.all_eq_true]
    refine forall₂_congr fun q hq => ?_
    obtain ⟨k, hk, rfl⟩ := List.mem_map.mp hq
    have hq16 : 8 * (p / 8) + k < 16 := by have := List.mem_range.mp hk; omega
    by_cases hqp : 8 * (p / 8) + k = p
    case pos => simp [hqp]
    case neg =>
      have hst : t.panState (8 * (p / 8) + k) = s.panState (8 * (p / 8) + k) :=
        State.get_eq_of_rd (hregs _ (PANSTAT_notMem_panRegs hq16 hqp))
      have hen : t.has (Fld.MODEM_PANCFG_EN (8 * (p / 8) + k)) = s.has (Fld.MODEM_PANCFG_EN (8 * (p / 8) + k)) :=
        State.has_eq_of_get (State.get_eq_of_rd (hcfg _ hq16))
      rw [hst, hen, hmode _ hq16, hchan _ hq16]
  simp only [panFits, hmode p hp, hchan p hp, hband, hcentre, hall]

/-! ### Configuration -/

/-- The configuration of pan p, as a write of v puts it, with AATOL w. -/
def panWritten (p v w : Nat) (s : State) : State :=
  (((s.put (Fld.MODEM_PANCFG_CHAN p) (v / 2 ^ 16)).put (Fld.MODEM_PANCFG_MODE p) (v / 2 ^ 10 % 8)).put
    (Fld.MODEM_PANCFG_AATOL p) w).put (Fld.MODEM_PANCFG_EN p) v

/-- A pan that has its configuration is off, hunts, waits for RX, or is refused. -/
def panDecided (p v : Nat) (s : State) : State :=
  if v % 2 = 0 then s
  else if panFits s p then (if s.laneSt (p / 8) = 3 then s.setPanState p 1 else s)
  else panRefuse p s

/-- The pan with its configuration written, and off. -/
def panReady (p v w : Nat) (x : Pan) (s : State) : State := ((panWritten p v w s).setPan p x).setPanState p 0

theorem panConfigure_eq {byLink : Bool} (howner : s.has (Fld.LANE_CTL_OWNER (p / 8)) = !byLink) (hpair : s.paired = false)
    (h3 : s.panState p ≠ 3) (h4 : s.panState p ≠ 4) : ∃ w x, panConfigure byLink p v s
      = gainFreeze (p / 8) (panDecided p v (panReady p v w x s)) := by
  have hown : ¬ (byLink == s.has (Fld.LANE_CTL_OWNER (p / 8))) = true := by rw [howner]; cases byLink <;> decide
  rw [panConfigure, if_neg hown, if_neg (by simp [hpair]), panEndEarly_of_noFrame h3 h4]
  exact ⟨_, _, rfl⟩

section
variable {w : Nat}

theorem regs_panWritten : (panWritten p v w s).has (Fld.MODEM_PANCFG_EN p) = v.testBit 0
    ∧ (panWritten p v w s).panMode p = v / 2 ^ 10 % 8 ∧ (panWritten p v w s).panChan p = v / 2 ^ 16 % 256 := by
  refine ⟨?_, ?_, ?_⟩
  · rw [panWritten, State.has_put_fits rfl, Nat.testBit_zero]
    simp only [Fld.MODEM_PANCFG_EN, pow_one, ne_eq, decide_eq_decide]
    omega
  · rw [State.panMode, panWritten, State.get_put_bitsApart rfl rfl, State.get_put_bitsApart rfl rfl, State.get_put_fits rfl]
    exact Nat.mod_mod _ _
  · rw [State.panChan, panWritten, State.get_put_bitsApart rfl rfl, State.get_put_bitsApart rfl rfl,
      State.get_put_bitsApart rfl rfl, State.get_put_fits rfl]
    rfl

theorem regsBut_panWritten : RegsBut [Reg.MODEM_PANCFG p] s (panWritten p v w s) := by
  simp [panWritten, Fld.MODEM_PANCFG_CHAN, Fld.MODEM_PANCFG_MODE, Fld.MODEM_PANCFG_AATOL, Fld.MODEM_PANCFG_EN]

theorem onlyIn_panWritten : OnlyIn [.regs] s (panWritten p v w s) := by simp [panWritten]

end

theorem regsBut_setPanState {m : List Nat} (h : Reg.MODEM_PANSTAT p ∈ m) : RegsBut m s (t.setPanState p v) ↔ RegsBut m s t :=
  regsBut_put h

theorem regsBut_panRefuse : RegsBut [Reg.MODEM_PANSTAT p, Reg.MODEM_RXFLAGS] s (panRefuse p s) := by
  simp [panRefuse, State.setPanState, Fld.MODEM_PANSTAT_STATE, Fld.MODEM_PANSTAT_LASTCODE, Fld.MODEM_RXFLAGS_CFGREJ]

theorem regs_panRefuse (hp : p < 16) : (panRefuse p s).panState p = 6 ∧ (panRefuse p s).get (Fld.MODEM_PANSTAT_LASTCODE p) = 0x0150
    ∧ (panRefuse p s).has Fld.MODEM_RXFLAGS_CFGREJ = true := by
  have hne : Reg.MODEM_PANSTAT p ≠ Reg.MODEM_RXFLAGS := by
    simp only [Reg.MODEM_PANSTAT, Reg.MODEM_RXFLAGS]
    omega
  refine ⟨?_, ?_, ?_⟩
  · rw [State.panState, panRefuse, State.get_fire, State.flag_eq_put, State.get_put_other hne, State.get_put_bitsApart rfl rfl,
      State.setPanState, State.get_put_fits rfl]
    rfl
  · rw [panRefuse, State.get_fire, State.flag_eq_put, State.get_put_other hne, State.get_put_fits rfl]
    rfl
  · rw [panRefuse, State.has_fire, State.has_flag_bit rfl rfl]

theorem regsBut_panDecided : RegsBut [Reg.MODEM_PANSTAT p, Reg.MODEM_RXFLAGS] s (panDecided p v s) :=
  regsBut_ite .refl (regsBut_ite (regsBut_ite ((regsBut_setPanState (by simp)).mpr .refl) .refl) regsBut_panRefuse)

theorem onlyIn_panDecided : OnlyIn [.regs, .edges] s (panDecided p v s) :=
  .ite .refl (.ite (.ite (by simp [State.setPanState]) .refl) onlyIn_panRefuse)

/-- What becomes of a pan that was off. -/
theorem panDecided_cases (hp : p < 16) (hoff : s.panState p = 0) :
    (if v % 2 = 0 then (panDecided p v s).panState p = 0
      else if panFits s p = true then (panDecided p v s).panState p = (if s.laneSt (p / 8) = 3 then 1 else 0)
      else (panDecided p v s).panState p = 6 ∧ (panDecided p v s).get (Fld.MODEM_PANSTAT_LASTCODE p) = 0x0150
        ∧ (panDecided p v s).has Fld.MODEM_RXFLAGS_CFGREJ = true)
    ∧ Fires (if (panDecided p v s).panState p = 6 then [EV.MODEM_CFGREJ] else []) s (panDecided p v s) := by
  unfold panDecided
  split
  next => exact ⟨hoff, by rw [if_neg (by omega)]; exact Fires.none rfl⟩
  next =>
    split
    next =>
      split
      next =>
        have hst : (s.setPanState p 1).panState p = 1 := State.get_setPanState
        exact ⟨hst, by rw [if_neg (by omega)]; exact Fires.none rfl⟩
      next => exact ⟨hoff, by rw [if_neg (by omega)]; exact Fires.none rfl⟩
    next =>
      obtain ⟨h6, hcode, hflag⟩ := regs_panRefuse (s := s) hp
      have honly : OnlyIn [.regs] s ((((s.setPanState p 6).put (Fld.MODEM_PANSTAT_LASTCODE p) 0x0150).flag
        Fld.MODEM_RXFLAGS_CFGREJ)) := by simp [State.setPanState]
      exact ⟨⟨h6, hcode, hflag⟩, by rw [if_pos h6]; exact honly.fires_fire (by decide)⟩

theorem OnlyIn.frame_regs_modem_edges (h : OnlyIn [.regs, .modem, .edges] s t) :
    t = { s with regs := t.regs, modem := t.modem, edges := t.edges } := h.frame

theorem OnlyIn.frame_regs_modem_tasks (h : OnlyIn [.regs, .modem, .tasks] s t) :
    t = { s with regs := t.regs, modem := t.modem, tasks := t.tasks } := h.frame

section
variable {w : Nat}

theorem panState_panReady : (panReady p v w x s).panState p = 0 := State.get_setPanState

theorem regsBut_panReady : RegsBut [Reg.MODEM_PANCFG p, Reg.MODEM_PANSTAT p] s (panReady p v w x s) :=
  (regsBut_setPanState (by simp)).mpr (regsBut_setPan.mpr (regsBut_panWritten.mono (by simp)))

theorem onlyIn_panReady : OnlyIn [.regs, .modem] s (panReady p v w x s) := by
  have h : OnlyIn [.regs, .modem] s (panWritten p v w s) := onlyIn_panWritten.mono (by decide)
  rw [panReady, State.setPanState, onlyIn_put (by decide), onlyIn_setPan (by decide)]
  exact h

theorem get_cfg_panReady {f : Field} (hf : f.addr = Reg.MODEM_PANCFG p) :
    (panReady p v w x s).get f = (panWritten p v w s).get f := by
  have hne : f.addr ≠ Reg.MODEM_PANSTAT p := by
    rw [hf]
    simp only [Reg.MODEM_PANCFG, Reg.MODEM_PANSTAT]
    omega
  rw [panReady, State.setPanState, State.get_put_other hne, State.get_eq_of_rd State.rd_setPan]

end

/-- What the freeze of the gain leaves: all but its own register. -/
theorem get_gainFreezeOne {f : Field} (h : f.addr ≠ Reg.MODEM_LANEGAIN l) : (gainFreezeOne l s).get f = s.get f :=
  State.get_put_other h

/-- The last two steps of a configuration: the decision, and the gain that follows it. -/
def panSettled (p v : Nat) (s : State) : State := gainFreezeOne (p / 8) (panDecided p v s)

theorem regsBut_panSettled :
    RegsBut [Reg.MODEM_PANSTAT p, Reg.MODEM_RXFLAGS, Reg.MODEM_LANEGAIN (p / 8)] s (panSettled p v s) :=
  (regsBut_panDecided.mono (by simp)).trans (regsBut_gainFreezeOne.mono (by simp))

theorem onlyIn_panSettled : OnlyIn [.regs, .edges] s (panSettled p v s) :=
  onlyIn_panDecided.trans (onlyIn_gainFreezeOne.mono (by decide))

theorem panFits_panSettled (hp : p < 16) : panFits (panSettled p v s) p = panFits s p := by
  have hl : p / 8 < 2 := by omega
  refine panFits_congr (regsBut_panSettled.mono ?_) (onlyIn_panSettled.lanes (by decide)) hp
  interval_cases p / 8 <;> simp [panRegs]

theorem panSettled_cases (hp : p < 16) (hoff : s.panState p = 0) :
    (if v % 2 = 0 then (panSettled p v s).panState p = 0
      else if panFits (panSettled p v s) p = true then (panSettled p v s).panState p = (if s.laneSt (p / 8) = 3 then 1 else 0)
      else (panSettled p v s).panState p = 6 ∧ (panSettled p v s).get (Fld.MODEM_PANSTAT_LASTCODE p) = 0x0150
        ∧ (panSettled p v s).has Fld.MODEM_RXFLAGS_CFGREJ = true)
    ∧ Fires (if (panSettled p v s).panState p = 6 then [EV.MODEM_CFGREJ] else []) s (panSettled p v s) := by
  obtain ⟨hcases, hfires⟩ := panDecided_cases (v := v) hp hoff
  have hstat : Reg.MODEM_PANSTAT p ≠ Reg.MODEM_LANEGAIN (p / 8) := by
    simp only [Reg.MODEM_PANSTAT, Reg.MODEM_LANEGAIN]
    omega
  have hflags : Reg.MODEM_RXFLAGS ≠ Reg.MODEM_LANEGAIN (p / 8) := by
    simp only [Reg.MODEM_RXFLAGS, Reg.MODEM_LANEGAIN]
    omega
  have hst : (panSettled p v s).panState p = (panDecided p v s).panState p := get_gainFreezeOne hstat
  have hcode : (panSettled p v s).get (Fld.MODEM_PANSTAT_LASTCODE p) = (panDecided p v s).get (Fld.MODEM_PANSTAT_LASTCODE p) :=
    get_gainFreezeOne hstat
  have hflag : (panSettled p v s).has Fld.MODEM_RXFLAGS_CFGREJ = (panDecided p v s).has Fld.MODEM_RXFLAGS_CFGREJ :=
    State.has_eq_of_get (get_gainFreezeOne hflags)
  have hgain : Fires [] (panDecided p v s) (panSettled p v s) := onlyIn_gainFreezeOne.fires (by decide)
  rw [hst, hcode, hflag, panFits_panSettled hp]
  exact ⟨hcases, List.append_nil (if (panDecided p v s).panState p = 6 then [EV.MODEM_CFGREJ] else []) ▸ hfires.append hgain⟩

/-- The clause on a configuration that the owner writes. -/
theorem answers_pancfgWrite {byLink : Bool} {p : Fin 16} {v : Word} (howner : s.has (Fld.LANE_CTL_OWNER (p.val / 8)) = !byLink)
    (hpair : s.paired = false) (h3 : s.panState p ≠ 3) (h4 : s.panState p ≠ 4) :
    Answers (exec (.pancfgWrite byLink p v) s) fun t =>
      t.has (Fld.MODEM_PANCFG_EN p) = v.toNat.testBit 0 ∧ t.panMode p = v.toNat / 2 ^ 10 % 8
      ∧ t.panChan p = v.toNat / 2 ^ 16 % 256
      ∧ (if v.toNat % 2 = 0 then t.panState p = 0
        else if panFits t p = true then t.panState p = (if s.laneSt (p.val / 8) = 3 then 1 else 0)
        else t.panState p = 6 ∧ t.get (Fld.MODEM_PANSTAT_LASTCODE p) = 0x0150 ∧ t.has Fld.MODEM_RXFLAGS_CFGREJ = true)
      ∧ Fires (if t.panState p = 6 then [EV.MODEM_CFGREJ] else []) s t
      ∧ RegsBut [Reg.MODEM_PANCFG p, Reg.MODEM_PANSTAT p, Reg.MODEM_LANEGAIN (p.val / 8), Reg.MODEM_RXFLAGS] s t
      ∧ t = { s with regs := t.regs, modem := t.modem, edges := t.edges } := by
  obtain ⟨w, x, heq⟩ := panConfigure_eq (v := v.toNat) howner hpair h3 h4
  have hp : p.val < 16 := p.isLt
  have hlaneStat : Reg.LANE_STAT (p.val / 8) ∉ [Reg.MODEM_PANCFG p, Reg.MODEM_PANSTAT p] := by
    simp only [Reg.LANE_STAT, Reg.MODEM_PANCFG, Reg.MODEM_PANSTAT, List.mem_cons, List.not_mem_nil, or_false]
    omega
  have hpairStat : Reg.LANE_STAT 0 ∉ [Reg.MODEM_PANCFG p, Reg.MODEM_PANSTAT p, Reg.MODEM_RXFLAGS] := by
    simp only [Reg.LANE_STAT, Reg.MODEM_PANCFG, Reg.MODEM_PANSTAT, Reg.MODEM_RXFLAGS, List.mem_cons, List.not_mem_nil, or_false]
    omega
  have hcfg : Reg.MODEM_PANCFG p ∉ [Reg.MODEM_PANSTAT p, Reg.MODEM_RXFLAGS, Reg.MODEM_LANEGAIN (p.val / 8)] := by
    simp only [Reg.MODEM_PANCFG, Reg.MODEM_PANSTAT, Reg.MODEM_RXFLAGS, Reg.MODEM_LANEGAIN, List.mem_cons, List.not_mem_nil, or_false]
    omega
  obtain ⟨hen, hmode, hchan⟩ := regs_panWritten (s := s) (p := p) (v := v.toNat) (w := w)
  obtain ⟨hcases, hfires⟩ := panSettled_cases (v := v.toNat) hp (panState_panReady (s := s) (v := v.toNat) (w := w) (x := x))
  have hlane : (panReady p v.toNat w x s).laneSt (p.val / 8) = s.laneSt (p.val / 8) :=
    regsBut_panReady.get (f := Fld.LANE_STAT_STATE _) hlaneStat
  have hpairs : (panDecided p v.toNat (panReady p v.toNat w x s)).paired = false := by
    have hready : RegsBut [Reg.MODEM_PANCFG p, Reg.MODEM_PANSTAT p, Reg.MODEM_RXFLAGS] s (panReady p v.toNat w x s) :=
      regsBut_panReady.mono (by simp)
    have hdecided : RegsBut [Reg.MODEM_PANCFG p, Reg.MODEM_PANSTAT p, Reg.MODEM_RXFLAGS] (panReady p v.toNat w x s)
        (panDecided p v.toNat (panReady p v.toNat w x s)) := regsBut_panDecided.mono (by simp)
    exact ((hready.trans hdecided).has (f := Fld.LANE_STAT_PAIRED 0) hpairStat).trans hpair
  rw [gainFreeze_of_unpaired hpairs, ← panSettled] at heq
  have hread : ∀ f : Field, f.addr = Reg.MODEM_PANCFG p →
      (panSettled p v.toNat (panReady p v.toNat w x s)).get f = (panWritten p v.toNat w s).get f := fun f hf =>
    (regsBut_panSettled.get (hf ▸ hcfg)).trans (get_cfg_panReady hf)
  rw [hlane] at hcases
  refine .of_eq (congrArg Host.Outcome.next heq) ⟨?_, (hread _ rfl).trans hmode, (hread _ rfl).trans hchan, hcases, ?_, ?_, ?_⟩
  · exact (State.has_eq_of_get (hread _ rfl)).trans hen
  · exact (onlyIn_panReady.fires (by decide)).append hfires
  · exact (regsBut_panReady.mono (by simp)).trans (regsBut_panSettled.mono (by simp))
  · exact ((onlyIn_panReady.mono (by decide)).trans (onlyIn_panSettled.mono (by decide))).frame_regs_modem_edges

/-! ### Stopping a pan -/

/-- The pan as a stop leaves it. -/
def panStopped (p : Nat) (s : State) : State := s.setPan p { panBlank s p with stopped := true }

theorem exec_panstop_of_noFrame {p : Fin 16} (h : s.panState p ≤ 2) : exec (.panstop p) s
    = .next (gainFreeze (p / 8) ((panStopped p (s.takeTask (TK.MODEM_PANSTOP p))).setPanState p 0)) := by
  have hst : (s.takeTask (TK.MODEM_PANSTOP p)).panState p = s.panState p := rfl
  have hst' : (panStopped p (s.takeTask (TK.MODEM_PANSTOP p))).panState p = s.panState p := rfl
  rw [exec, execPanstop, panStop, panEndEarly_of_noFrame (by omega) (by omega), ← panStopped, hst', if_neg (by omega)]

theorem panState_gainFreeze (hl : l < 2) : (gainFreeze l s).panState p = s.panState p := by
  refine (regsBut_gainFreeze hl).get (f := Fld.MODEM_PANSTAT_STATE p) ?_
  simp only [Fld.MODEM_PANSTAT_STATE, Reg.MODEM_PANSTAT, Reg.MODEM_LANEGAIN, List.mem_cons, List.not_mem_nil, or_false]
  omega

theorem answers_panstop {p : Fin 16} (h : s.panState p ≤ 2) : Answers (exec (.panstop p) s) fun t =>
    t.panState p = 0 ∧ (t.pan p).stopped = true ∧ RegsBut [Reg.MODEM_PANSTAT p, Reg.MODEM_LANEGAIN 0, Reg.MODEM_LANEGAIN 1] s t
    ∧ t = { s with regs := t.regs, modem := t.modem, tasks := t.tasks } := by
  have hl : p.val / 8 < 2 := by omega
  have hframe : OnlyIn [.regs, .modem, .tasks] s ((panStopped p (s.takeTask (TK.MODEM_PANSTOP p))).setPanState p 0) := by
    simp [panStopped, State.setPanState]
  have hregs : RegsBut [Reg.MODEM_PANSTAT p, Reg.MODEM_LANEGAIN 0, Reg.MODEM_LANEGAIN 1] s
      ((panStopped p (s.takeTask (TK.MODEM_PANSTOP p))).setPanState p 0) := by
    simp [panStopped, State.setPanState, Fld.MODEM_PANSTAT_STATE]
  have hpan : (((panStopped p (s.takeTask (TK.MODEM_PANSTOP p))).setPanState p 0).pan p).stopped = true := by
    rw [State.setPanState, State.pan_congr (State.put_modem ..), panStopped, State.pan_setPan_self]
  refine .of_eq (exec_panstop_of_noFrame h) ⟨?_, ?_, hregs.trans ((regsBut_gainFreeze hl).mono (by simp)),
    (hframe.trans (onlyIn_gainFreeze.mono (by decide))).frame_regs_modem_tasks⟩
  · rw [panState_gainFreeze hl, State.get_setPanState]
  · rw [State.pan_congr (onlyIn_gainFreeze.modem (by decide)), hpan]

/-! ### Snapshots, slots, AFC, the last record -/

theorem toS_toNat_eight (a : BitVec 8) : toS 8 a.toNat = a.toInt := by
  rw [toS, BitVec.toInt_eq_toNat_cond]
  have h := a.isLt
  split_ifs <;> omega

/-- A power, or -128 for a lane that is not in RX. -/
theorem toS_power {c : Prop} [Decidable c] (a : BitVec 8) : toS 8 (if c then a.toNat else 0x80) = if c then a.toInt else -128 := by
  split
  · exact toS_toNat_eight a
  · rfl

/-- The snapshot of both lanes' powers. -/
def wbSnapped (a b : Nat) (s : State) : State :=
  ((s.takeTask TK.MODEM_WBSNAP).put Fld.MODEM_WBRSSI_LANEA a).put Fld.MODEM_WBRSSI_LANEB b

theorem OnlyIn.frame_regs_tasks (h : OnlyIn [.regs, .tasks] s t) : t = { s with regs := t.regs, tasks := t.tasks } := h.frame

theorem onlyIn_wbSnapped {a b : Nat} : OnlyIn [.regs, .tasks] s (wbSnapped a b s) := by simp [wbSnapped]

theorem regs_wbSnapped {a b : Nat} : (wbSnapped a b s).getS Fld.MODEM_WBRSSI_LANEA = toS 8 a
    ∧ (wbSnapped a b s).getS Fld.MODEM_WBRSSI_LANEB = toS 8 b ∧ RegsBut [Reg.MODEM_WBRSSI] s (wbSnapped a b s) := by
  refine ⟨?_, ?_, ?_⟩
  · rw [wbSnapped, State.getS_put_bitsApart rfl rfl, State.getS_put_fits rfl]
    rfl
  · rw [wbSnapped, State.getS_put_fits rfl]
    rfl
  · simp [wbSnapped, Fld.MODEM_WBRSSI_LANEA, Fld.MODEM_WBRSSI_LANEB]

theorem answers_wbsnap {a b : BitVec 8} : Answers (exec (.wbsnap a b) s) fun t =>
    t.getS Fld.MODEM_WBRSSI_LANEA = (if s.laneSt 0 = 3 then a.toInt else -128)
    ∧ t.getS Fld.MODEM_WBRSSI_LANEB = (if s.laneSt 1 = 3 then b.toInt else -128)
    ∧ RegsBut [Reg.MODEM_WBRSSI] s t ∧ t = { s with regs := t.regs, tasks := t.tasks } := by
  have heq : exec (.wbsnap a b) s = .next (wbSnapped (if s.laneSt 0 = 3 then a.toNat else 0x80)
      (if s.laneSt 1 = 3 then b.toNat else 0x80) s) := rfl
  obtain ⟨ha, hb, hregs⟩ := regs_wbSnapped (s := s) (a := if s.laneSt 0 = 3 then a.toNat else 0x80)
    (b := if s.laneSt 1 = 3 then b.toNat else 0x80)
  exact .of_eq heq ⟨ha.trans (toS_power a), hb.trans (toS_power b), hregs, onlyIn_wbSnapped.frame_regs_tasks⟩

theorem slotValid_slotSetValid_self {b : Bool} : slotValid (slotSetValid j b s) j = b := by
  have hne : (Fld.MODEM_RXSLOT_VALID j).addr ≠ Reg.MODEM_SLOTSTAT := by
    simp only [Fld.MODEM_RXSLOT_VALID, Reg.MODEM_RXSLOT, Reg.MODEM_SLOTSTAT]
    omega
  rw [slotValid, slotSetValid, State.putBit_eq_put, State.has_put_other hne, State.has_put_fits rfl]
  cases b <;> rfl

theorem slotValid_slotSetValid_ne {b : Bool} (h : n ≠ j) : slotValid (slotSetValid j b s) n = slotValid s n := by
  have hne : (Fld.MODEM_RXSLOT_VALID n).addr ≠ Reg.MODEM_SLOTSTAT := by
    simp only [Fld.MODEM_RXSLOT_VALID, Reg.MODEM_RXSLOT, Reg.MODEM_SLOTSTAT]
    omega
  have hne' : (Fld.MODEM_RXSLOT_VALID n).addr ≠ (Fld.MODEM_RXSLOT_VALID j).addr := by
    simp only [Fld.MODEM_RXSLOT_VALID, Reg.MODEM_RXSLOT]
    omega
  rw [slotValid, slotSetValid, State.putBit_eq_put, State.has_put_other hne, State.has_put_other hne', slotValid]

theorem State.forEach_cons {α : Type} {y : α} {ys : List α} {g : α → State → State} :
    s.forEach (y :: ys) g = (g y s).forEach ys g := rfl

/-- The slots of a list become invalid, and no other. -/
theorem slotValid_invalidated {js : List Nat} :
    slotValid (s.forEach js (fun j s => slotSetValid j false s)) n = (slotValid s n && decide (n ∉ js)) := by
  induction js generalizing s with
  | nil => simp [State.forEach]
  | cons j js ih =>
    rw [State.forEach_cons, ih]
    by_cases hj : n = j
    case pos => simp [hj, slotValid_slotSetValid_self]
    case neg => simp [hj, slotValid_slotSetValid_ne hj]

theorem answers_slotinvWrite {v : Word} : Answers (exec (.slotinvWrite v) s) fun t =>
    (∀ j, j < 16 → 0 < j → slotValid t j = (slotValid s j && !v.toNat.testBit j))
    ∧ RegsBut (Reg.MODEM_SLOTSTAT :: (List.range 16).map Reg.MODEM_RXSLOT) s t ∧ t = { s with regs := t.regs } := by
  have heq : exec (.slotinvWrite v) s
      = .next (s.forEach ((bitsOf 16 v.toNat).filter (fun j => j != 0)) (fun j s => slotSetValid j false s)) := rfl
  refine .of_eq heq ⟨fun j hj h0 => ?_, RegsBut.forEach fun j hj u => ?_, OnlyIn.frame_regs ?_⟩
  · have hmem : j ∉ (bitsOf 16 v.toNat).filter (fun j => j != 0) ↔ v.toNat.testBit j = false := by
      simp [mem_bitsOf, hj, Nat.ne_of_gt h0]
    rw [slotValid_invalidated]
    simp only [hmem]
    cases v.toNat.testBit j <;> rfl
  · have hj16 : j < 16 := (mem_bitsOf.mp (List.mem_of_mem_filter hj)).1
    have hslot : Reg.MODEM_RXSLOT j ∈ Reg.MODEM_SLOTSTAT :: (List.range 16).map Reg.MODEM_RXSLOT :=
      List.mem_cons_of_mem _ (List.mem_map_of_mem (List.mem_range.mpr hj16))
    rw [slotSetValid, regsBut_putBit List.mem_cons_self, regsBut_put hslot]
    exact .refl
  · exact .forEach (fun _ _ => by simp [slotSetValid]) .refl

theorem answers_afcApply {l : Lane} (h : laneHoldsAfc s l = false) : Answers (exec (.afcApply l) s) fun t =>
    t.getS (Fld.LANE_AFC_CORR l) = toS (Fld.LANE_AFC_CORR l).width (ofS (Fld.LANE_AFC_CORR l).width
      (roundDiv (s.getS (Fld.MODEM_AFCFRAC_FRAC l) * s.get (Fld.LANE_FREQ_FREQ l)) (2 ^ 32)))
    ∧ (s.NoPans → RegsBut [Reg.LANE_AFC l] s t ∧ t = { s with regs := t.regs }) := by
  have heq : exec (.afcApply l) s = .next (panRecheck l (afcToSynth l s)) :=
    congrArg Host.Outcome.next (if_neg (by simp [h]))
  have hl : l.val < 2 := l.isLt
  have hout : outsideModem (Reg.LANE_AFC l) := by
    simp only [outsideModem, Reg.LANE_AFC]
    omega
  have hne : ∀ p, Reg.LANE_AFC l ≠ Reg.MODEM_PANCFG p := by
    intro p
    simp only [Reg.LANE_AFC, Reg.MODEM_PANCFG]
    omega
  refine .of_eq heq ⟨?_, fun hpans => ?_⟩
  · rw [State.getS_eq_of_get (State.get_eq_of_rd (rd_panRecheck hl hout))]
    exact State.getS_put_fits rfl
  · have hpans' : (afcToSynth l s).NoPans := State.noPans_putS (fun p _ => hne p) hpans
    rw [panRecheck_of_noPans hl hpans']
    exact ⟨by simp [afcToSynth, Fld.LANE_AFC_CORR], OnlyIn.frame_regs (by simp [afcToSynth])⟩

/-- Words of the last record that a read latches. -/
def panLatched (p : Nat) (ws : List Nat) (s : State) : State :=
  s.forEach ws (fun w s => s.setLatch (Reg.MODEM_PANLAST p w) (s.rd (Reg.MODEM_PANLAST p w)))

theorem State.latched_setLatch {a b : Nat} {y : Word} : (s.setLatch a y).latched b = if b = a then y else s.latched b :=
  sparseGet_set

theorem onlyIn_panLatched {ws : List Nat} : OnlyIn [.latch] s (panLatched p ws s) :=
  .forEach (fun _ _ => (onlyIn_setLatch (by decide)).mpr .refl) .refl

theorem latched_panLatched {ws : List Nat} {w : Nat} : (panLatched p ws s).latched (Reg.MODEM_PANLAST p w)
    = if w ∈ ws then s.rd (Reg.MODEM_PANLAST p w) else s.latched (Reg.MODEM_PANLAST p w) := by
  induction ws generalizing s with
  | nil => rfl
  | cons u us ih =>
    have hstep : panLatched p (u :: us) s
        = panLatched p us (s.setLatch (Reg.MODEM_PANLAST p u) (s.rd (Reg.MODEM_PANLAST p u))) := rfl
    have hrd : (s.setLatch (Reg.MODEM_PANLAST p u) (s.rd (Reg.MODEM_PANLAST p u))).rd (Reg.MODEM_PANLAST p w)
        = s.rd (Reg.MODEM_PANLAST p w) := rfl
    have haddr : Reg.MODEM_PANLAST p w = Reg.MODEM_PANLAST p u ↔ w = u := by
      simp only [Reg.MODEM_PANLAST]
      omega
    rw [hstep, ih, hrd, State.latched_setLatch]
    by_cases hu : w = u
    case pos => simp [hu]
    case neg => simp [hu, haddr]

theorem answers_panlastRead {p : Fin 16} : Answers (exec (.panlastRead p) s) fun t =>
    t.bus = .data (s.rd (Reg.MODEM_PANLAST p 0))
    ∧ (∀ w, w < 8 → t.latched (Reg.MODEM_PANLAST p w) = s.rd (Reg.MODEM_PANLAST p w))
    ∧ t = { s with latch := t.latch, bus := t.bus } := by
  have heq : exec (.panlastRead p) s = .next
      { panLatched p (List.range 8) s with bus := .data ((panLatched p (List.range 8) s).rd (Reg.MODEM_PANLAST p 0)) } := rfl
  have hframe : OnlyIn [.latch] s (panLatched p (List.range 8) s) := onlyIn_panLatched
  have hrd : (panLatched p (List.range 8) s).rd (Reg.MODEM_PANLAST p 0) = s.rd (Reg.MODEM_PANLAST p 0) :=
    State.rd_congr (hframe.regs (by decide))
  have hbus : OnlyIn [.latch, .bus] s
      { panLatched p (List.range 8) s with bus := .data ((panLatched p (List.range 8) s).rd (Reg.MODEM_PANLAST p 0)) } :=
    (onlyIn_bus (by decide)).mpr (hframe.mono (by decide))
  refine .of_eq heq ⟨by rw [hrd], fun w hw => ?_, hbus.frame⟩
  exact latched_panLatched.trans (if_pos (List.mem_range.mpr hw))

/-- Software may not configure a pan of the link controller. -/
theorem answers_pancfgWrite_foreign {p : Fin 16} {v : Word} (h : s.has (Fld.LANE_CTL_OWNER (p.val / 8)) = false) :
    Answers (exec (.pancfgWrite false p v) s) fun t =>
      t.has Fld.MODEM_RXFLAGS_CFGREJ = true ∧ RegsBut [Reg.MODEM_RXFLAGS] s t ∧ t = { s with regs := t.regs } := by
  have heq : exec (.pancfgWrite false p v) s = .next (s.flag Fld.MODEM_RXFLAGS_CFGREJ) :=
    congrArg Host.Outcome.next (if_pos (by rw [h]; rfl))
  exact .of_eq heq ⟨State.has_flag_bit rfl rfl, by simp [Fld.MODEM_RXFLAGS_CFGREJ], rfl⟩

/-- Settles O30: configurations and stops of pans, power snapshots, slots, AFC and the last record. -/
theorem panConfigurationAndSlots : Obligations.PanConfigurationAndSlots := by
  intro p v s
  exact ⟨answers_pancfgWrite_foreign, fun byLink howner hpair h3 h4 => answers_pancfgWrite howner hpair h3 h4,
    answers_panstop, fun a b => answers_wbsnap, answers_slotinvWrite, fun l h => answers_afcApply h, answers_panlastRead⟩

end Sys2Proof.Machine
end

section
/-!
SUPPORT. From a detection to the header decision (R260 to R268, R221, R239, R277).
-/

namespace Sys2Proof.Machine

variable {s t : State} {p l n seq : Nat} {x : Pan} {power : Int} {capt : Bool}

/-! ### A pan's state and its gain -/

theorem State.pan_put {f : Field} {v q : Nat} : (s.put f v).pan q = s.pan q := rfl
theorem State.pan_inc {f : Field} {q : Nat} : (s.inc f).pan q = s.pan q := rfl
theorem State.pan_fire {e q : Nat} : (s.fire e).pan q = s.pan q := rfl
theorem State.pan_setPanState {v q : Nat} : (s.setPanState p v).pan q = s.pan q := rfl
theorem State.pan_gainFreeze {q : Nat} : (gainFreeze l s).pan q = s.pan q :=
  State.pan_congr (onlyIn_gainFreeze.modem (by decide))

theorem State.panState_setPan {q : Nat} : (s.setPan p x).panState q = s.panState q := rfl
theorem State.panState_fire {e q : Nat} : (s.fire e).panState q = s.panState q := rfl

/-- The counters of a lane stand beside the pans' states. -/
theorem PANSTAT_ne_RXCNT {w : Nat} (hp : p < 16) : Reg.MODEM_PANSTAT p ≠ Reg.MODEM_RXCNT l w := by
  simp only [Reg.MODEM_PANSTAT, Reg.MODEM_RXCNT]
  omega

theorem State.panState_inc {f : Field} (h : Reg.MODEM_PANSTAT p ≠ f.addr) : (s.inc f).panState p = s.panState p :=
  State.get_put_other h

theorem mem_panRange : p ∈ panRange (p / 8) :=
  List.mem_map.mpr ⟨p % 8, List.mem_range.mpr (by omega), by omega⟩

theorem has_FROZEN_gainFreezeOne_of_busy (h : s.panBusy p = true) :
    (gainFreezeOne (p / 8) s).has (Fld.MODEM_LANEGAIN_FROZEN (p / 8)) = true := by
  have hany : (panRange (p / 8)).any s.panBusy = true := List.any_eq_true.mpr ⟨p, mem_panRange, h⟩
  rw [gainFreezeOne, State.has_put_fits rfl, hany]
  rfl

theorem panBusy_gainFreezeOne (hl : l < 2) : (gainFreezeOne l s).panBusy p = s.panBusy p := by
  have hne : Reg.MODEM_PANSTAT p ≠ Reg.MODEM_LANEGAIN l := by
    simp only [Reg.MODEM_PANSTAT, Reg.MODEM_LANEGAIN]
    omega
  have hst : (gainFreezeOne l s).panState p = s.panState p := get_gainFreezeOne hne
  rw [State.panBusy, State.panBusy, hst]

/-- The gain of a busy pan's lane is frozen. -/
theorem has_FROZEN_gainFreeze_of_busy (hp : p < 16) (h : s.panBusy p = true) :
    (gainFreeze (p / 8) s).has (Fld.MODEM_LANEGAIN_FROZEN (p / 8)) = true := by
  have hl : p / 8 < 2 := by omega
  unfold gainFreeze
  split
  next =>
    have h₀ : (gainFreezeOne 0 s).panBusy p = true := (panBusy_gainFreezeOne (by decide)).trans h
    obtain hl0 | hl1 : p / 8 = 0 ∨ p / 8 = 1 := by omega
    case inl =>
      have hone := has_FROZEN_gainFreezeOne_of_busy h
      rw [hl0] at hone ⊢
      exact (State.has_put_other (f := Fld.MODEM_LANEGAIN_FROZEN 1) (by decide)).trans hone
    case inr =>
      have hone := has_FROZEN_gainFreezeOne_of_busy h₀
      rw [hl1] at hone ⊢
      exact hone
  next => exact has_FROZEN_gainFreezeOne_of_busy h

/-! ### A detection that a pan takes -/

/-- The pan that has taken a detection. -/
def panTakenPan (p : Nat) (power : Int) (capt : Bool) (seq : Nat) (s : State) : Pan :=
  { panBlank s p with
    power := power, capt := capt, gain := s.get (Fld.MODEM_LANEGAIN_GAIN (p / 8)), paired := s.paired,
    dgain := Config.digitalLevel - power, seq := seq }

/-- The detection is counted. -/
def panTaken (p : Nat) (x : Pan) (s : State) : State :=
  ((s.setPan p x).setPanState p 2).inc (Fld.MODEM_RXCNT_DETECTS (p / 8))

theorem panTake_eq : panTake p power capt seq s
    = gainFreeze (p / 8) ((panTaken p (panTakenPan p power capt seq s) s).fire EV.MODEM_DETECT) := rfl

theorem onlyIn_panTaken : OnlyIn [.regs, .modem] s (panTaken p x s) := by simp [panTaken, State.setPanState]

theorem panState_panTaken (hp : p < 16) : (panTaken p x s).panState p = 2 := by
  rw [panTaken, State.panState_inc (PANSTAT_ne_RXCNT hp), State.get_setPanState]

theorem pan_panTaken : (panTaken p x s).pan p = x := by
  rw [panTaken, State.pan_inc, State.pan_setPanState, State.pan_setPan_self]

theorem regsBut_panTaken : RegsBut [Reg.MODEM_PANSTAT p, Reg.MODEM_RXCNT (p / 8) 0] s (panTaken p x s) := by
  simp [panTaken, State.setPanState, Fld.MODEM_PANSTAT_STATE, Fld.MODEM_RXCNT_DETECTS]

theorem get_DETECTS_panTaken (hp : p < 16) : (panTaken p x s).get (Fld.MODEM_RXCNT_DETECTS (p / 8))
    = s.counted (Fld.MODEM_RXCNT_DETECTS (p / 8)) := by
  have hkeep : ((s.setPan p x).setPanState p 2).get (Fld.MODEM_RXCNT_DETECTS (p / 8)) = s.get (Fld.MODEM_RXCNT_DETECTS (p / 8)) :=
    (State.get_put_other (PANSTAT_ne_RXCNT hp).symm).trans (State.get_eq_of_rd State.rd_setPan)
  rw [panTaken, State.get_inc_fits rfl, State.counted, State.counted, hkeep]

/-- The clause on a detection by a hunting pan. -/
theorem answers_panDetect {p : Fin 16} (hlf : s.lfMode = false) (hst : s.panState p = 1) :
    Answers (exec (.panDetect p power) s) fun t =>
      t.panState p = 2 ∧ (t.pan p).power = power ∧ (t.pan p).gain = s.get (Fld.MODEM_LANEGAIN_GAIN (p.val / 8))
      ∧ (t.pan p).seq = s.get Fld.MODEM_PHYCFG_SYNCSEQ
      ∧ t.get (Fld.MODEM_RXCNT_DETECTS (p.val / 8)) = s.counted (Fld.MODEM_RXCNT_DETECTS (p.val / 8))
      ∧ t.has (Fld.MODEM_LANEGAIN_FROZEN (p.val / 8)) = true ∧ Fires [EV.MODEM_DETECT] s t
      ∧ RegsBut [Reg.MODEM_PANSTAT p, Reg.MODEM_RXCNT (p.val / 8) 0, Reg.MODEM_LANEGAIN 0, Reg.MODEM_LANEGAIN 1] s t
      ∧ t = { s with regs := t.regs, modem := t.modem, edges := t.edges } := by
  have hp : p.val < 16 := p.isLt
  have hl : p.val / 8 < 2 := by omega
  have heq : exec (.panDetect p power) s = .next (panTake p power false s.syncSeq s) :=
    congrArg Host.Outcome.next (if_pos (by rw [hst, panCounts, hlf]; rfl))
  rw [panTake_eq] at heq
  generalize hx : panTakenPan p power false s.syncSeq s = x at heq
  have hstate : ((panTaken p x s).fire EV.MODEM_DETECT).panState p = 2 := State.panState_fire.trans (panState_panTaken hp)
  have hbusy : ((panTaken p x s).fire EV.MODEM_DETECT).panBusy p = true := by rw [State.panBusy, hstate]; rfl
  have hpan : (gainFreeze (p.val / 8) ((panTaken p x s).fire EV.MODEM_DETECT)).pan p = x := by
    rw [State.pan_gainFreeze, State.pan_fire, pan_panTaken]
  have hcnt : (Fld.MODEM_RXCNT_DETECTS (p.val / 8)).addr ∉ [Reg.MODEM_LANEGAIN 0, Reg.MODEM_LANEGAIN 1] := by
    simp only [Fld.MODEM_RXCNT_DETECTS, Reg.MODEM_RXCNT, Reg.MODEM_LANEGAIN, List.mem_cons, List.not_mem_nil, or_false]
    omega
  refine .of_eq heq ⟨?_, ?_, ?_, ?_, ?_, has_FROZEN_gainFreeze_of_busy hp hbusy, ?_, ?_, ?_⟩
  · rw [panState_gainFreeze hl, hstate]
  · rw [hpan, ← hx]; rfl
  · rw [hpan, ← hx]; rfl
  · rw [hpan, ← hx]; rfl
  · rw [(regsBut_gainFreeze hl).get hcnt, State.get_fire, get_DETECTS_panTaken hp]
  · exact (onlyIn_panTaken.fires_fire (by decide)).append (onlyIn_gainFreeze.fires (by decide))
  · exact ((regsBut_fire.mpr regsBut_panTaken).mono (by simp)).trans ((regsBut_gainFreeze hl).mono (by simp))
  · exact ((onlyIn_panTaken.fire (by decide) (by decide)).trans (onlyIn_gainFreeze.mono (by decide))).frame_regs_modem_edges

/-! ### A pan after its frame -/

/-- Where a pan goes that has no frame any more. -/
def panRestState (p : Nat) (s : State) : Nat := if s.laneSt (p / 8) = 3 ∧ panEnabled s p = true then 1 else 0

theorem panRest_eq : panRest p s
    = gainFreeze (p / 8) ((s.setPan p (panBlank s p)).setPanState p (panRestState p s)) := by
  rw [panRest, panRestState]
  congr 2
  simp [Bool.and_eq_true, beq_iff_eq]

theorem panNext_of_notHeld : panNext p false s = panRest p s := by
  unfold panNext
  dsimp only
  split
  · simp
  · rfl

theorem panState_panRest (hp : p < 16) : (panRest p s).panState p = panRestState p s := by
  have hlt : panRestState p s % 8 = panRestState p s := by unfold panRestState; split <;> rfl
  rw [panRest_eq, panState_gainFreeze (by omega), State.get_setPanState, hlt]

theorem regsBut_panRest (hp : p < 16) :
    RegsBut [Reg.MODEM_PANSTAT p, Reg.MODEM_LANEGAIN 0, Reg.MODEM_LANEGAIN 1] s (panRest p s) := by
  have h : RegsBut [Reg.MODEM_PANSTAT p, Reg.MODEM_LANEGAIN 0, Reg.MODEM_LANEGAIN 1] s
      ((s.setPan p (panBlank s p)).setPanState p (panRestState p s)) := by
    simp [State.setPanState, Fld.MODEM_PANSTAT_STATE]
  rw [panRest_eq]
  exact h.trans ((regsBut_gainFreeze (by omega)).mono (by simp))

theorem onlyIn_panRest : OnlyIn [.regs, .modem] s (panRest p s) := by
  have h : OnlyIn [.regs, .modem] s ((s.setPan p (panBlank s p)).setPanState p (panRestState p s)) := by
    simp [State.setPanState]
  rw [panRest_eq]
  exact h.trans (onlyIn_gainFreeze.mono (by decide))

/-- The code of the pan's last frame stays. -/
theorem get_LASTCODE_panRest (hp : p < 16) :
    (panRest p s).get (Fld.MODEM_PANSTAT_LASTCODE p) = s.get (Fld.MODEM_PANSTAT_LASTCODE p) := by
  have hne : (Fld.MODEM_PANSTAT_LASTCODE p).addr ∉ [Reg.MODEM_LANEGAIN 0, Reg.MODEM_LANEGAIN 1] := by
    simp only [Fld.MODEM_PANSTAT_LASTCODE, Reg.MODEM_PANSTAT, Reg.MODEM_LANEGAIN, List.mem_cons, List.not_mem_nil, or_false]
    omega
  rw [panRest_eq, (regsBut_gainFreeze (by omega)).get hne, State.setPanState, State.get_put_bitsApart rfl rfl,
    State.get_eq_of_rd State.rd_setPan]

/-- Where a pan goes depends on its lane's state, its EN bit and whether it is stopped. -/
theorem panRestState_congr (hlane : t.laneSt (p / 8) = s.laneSt (p / 8))
    (hen : t.has (Fld.MODEM_PANCFG_EN p) = s.has (Fld.MODEM_PANCFG_EN p)) (hstop : (t.pan p).stopped = (s.pan p).stopped) :
    panRestState p t = panRestState p s := by
  rw [panRestState, panRestState, panEnabled, panEnabled, hlane, hen, hstop]

/-! ### Sync, and the window without one -/

section
variable {p : Fin 16}

theorem exec_panSync_of_unconfirmed {ago : BitVec 16} {r r2 snr : BitVec 8} {lts : Fin 64} {cfo : Int} {aa : BitVec 32}
    (h : syncConfirms s p lts.val cfo aa = false) : exec (.panSync p ago r r2 snr lts cfo aa) s = .next s := by
  rw [exec, execPanSync, if_neg (by simp [h])]

/-- The pan at its sync reference point. -/
def panSynced (x : Pan) (p : Nat) (s : State) : State :=
  (((s.setPan p x).setPanState p 3).fire EV.MODEM_SYNC).fire (EV.MODEM_SYNCn p)

theorem onlyIn_setPan_setPanState {q v : Nat} : OnlyIn [.regs, .modem] s ((s.setPan q x).setPanState q v) := by
  simp [State.setPanState]

theorem regsBut_setPan_setPanState {q v : Nat} : RegsBut [Reg.MODEM_PANSTAT q] s ((s.setPan q x).setPanState q v) := by
  simp [State.setPanState, Fld.MODEM_PANSTAT_STATE]

theorem panSynced_facts {q : Nat} : (panSynced x q s).panState q = 3 ∧ (panSynced x q s).pan q = x
    ∧ Fires [EV.MODEM_SYNC, EV.MODEM_SYNCn q] s (panSynced x q s) ∧ RegsBut [Reg.MODEM_PANSTAT q] s (panSynced x q s)
    ∧ OnlyIn [.regs, .modem, .edges] s (panSynced x q s) := by
  have honly : OnlyIn [.regs, .modem] s ((s.setPan q x).setPanState q 3) := onlyIn_setPan_setPanState
  refine ⟨?_, ?_, ?_, ?_, ?_⟩
  · rw [panSynced, State.panState_fire, State.panState_fire, State.get_setPanState]
  · rw [panSynced, State.pan_fire, State.pan_fire, State.pan_setPanState, State.pan_setPan_self]
  · exact (honly.fires_fire (p := EV.MODEM_SYNC) (by decide)).append (Fires.fire rfl)
  · exact regsBut_fire.mpr (regsBut_fire.mpr regsBut_setPan_setPanState)
  · exact (honly.fire (by decide) (by decide)).fire (List.Subset.refl _) (by decide)

theorem answers_panSync {ago : BitVec 16} {r r2 snr : BitVec 8} {lts : Fin 64} {cfo : Int} {aa : BitVec 32}
    (hlf : s.lfMode = false) (hst : s.panState p = 2) (h : syncConfirms s p lts.val cfo aa = true) :
    Answers (exec (.panSync p ago r r2 snr lts cfo aa) s) fun t =>
      t.panState p = 3 ∧ (t.pan p).ts = ofS 64 (64 * (s.now : Int) - ago.toInt) ∧ (t.pan p).rssi = r.toInt
      ∧ Fires [EV.MODEM_SYNC, EV.MODEM_SYNCn p] s t
      ∧ RegsBut [Reg.MODEM_PANSTAT p] s t ∧ t = { s with regs := t.regs, modem := t.modem, edges := t.edges } := by
  obtain ⟨x, hx, hts, hrssi⟩ : ∃ x : Pan, exec (.panSync p ago r r2 snr lts cfo aa) s = .next (panSynced x p s)
      ∧ x.ts = ofS 64 (64 * (s.now : Int) - ago.toInt) ∧ x.rssi = r.toInt := by
    rw [exec, execPanSync, if_pos (by simp [hst, panCounts, hlf, h])]
    exact ⟨_, rfl, rfl, rfl⟩
  obtain ⟨hstate, hpan, hfires, hregs, honly⟩ := panSynced_facts (s := s) (x := x) (q := p)
  exact .of_eq hx ⟨hstate, by rw [hpan, hts], by rw [hpan, hrssi], hfires, hregs, honly.frame_regs_modem_edges⟩

/-- A detection that no sync confirms is counted. -/
def falseDetected (p : Nat) (s : State) : State := (s.inc (Fld.MODEM_RXCNT_FALSEDET (p / 8))).fire EV.MODEM_FALSEDET

theorem exec_syncWindowClose_of_waiting (hst : s.panState p = 2) :
    exec (.syncWindowClose p false) s = .next (panRest p (falseDetected p s)) := by
  rw [exec, execSyncWindowClose, if_pos hst, panNext_of_notHeld, falseDetected]

/-- A counter of the receive chain bears on no pan's configuration and on no lane. -/
theorem panRestState_of_regsBut {q k w : Nat} {u : State} (hq : q < 16) (h : RegsBut [Reg.MODEM_RXCNT k w] s u)
    (hpan : (u.pan q).stopped = (s.pan q).stopped) : panRestState q u = panRestState q s := by
  refine panRestState_congr (h.get ?_) (h.has ?_) hpan
  · simp only [Fld.LANE_STAT_STATE, Reg.LANE_STAT, Reg.MODEM_RXCNT, List.mem_cons, List.not_mem_nil, or_false]
    omega
  · simp only [Fld.MODEM_PANCFG_EN, Reg.MODEM_PANCFG, Reg.MODEM_RXCNT, List.mem_cons, List.not_mem_nil, or_false]
    omega

theorem answers_syncWindowClose (hst : s.panState p = 2) : Answers (exec (.syncWindowClose p false) s) fun t =>
    t.panState p = (if s.laneSt (p.val / 8) = 3 ∧ panEnabled s p = true then 1 else 0)
    ∧ t.get (Fld.MODEM_RXCNT_FALSEDET (p.val / 8)) = s.counted (Fld.MODEM_RXCNT_FALSEDET (p.val / 8))
    ∧ Fires [EV.MODEM_FALSEDET] s t
    ∧ RegsBut [Reg.MODEM_PANSTAT p, Reg.MODEM_RXCNT (p.val / 8) 0, Reg.MODEM_LANEGAIN 0, Reg.MODEM_LANEGAIN 1] s t
    ∧ t = { s with regs := t.regs, modem := t.modem, edges := t.edges } := by
  have hp : p.val < 16 := p.isLt
  have hregs : RegsBut [Reg.MODEM_RXCNT (p.val / 8) 0] s (falseDetected p s) := by
    simp [falseDetected, Fld.MODEM_RXCNT_FALSEDET]
  have honly : OnlyIn [.regs] s (s.inc (Fld.MODEM_RXCNT_FALSEDET (p.val / 8))) := by simp
  have hframe : OnlyIn [.regs, .modem, .edges] s (falseDetected p s) := by simp [falseDetected]
  have hcnt : (Fld.MODEM_RXCNT_FALSEDET (p.val / 8)).addr ∉ [Reg.MODEM_PANSTAT p, Reg.MODEM_LANEGAIN 0, Reg.MODEM_LANEGAIN 1] := by
    simp only [Fld.MODEM_RXCNT_FALSEDET, Reg.MODEM_RXCNT, Reg.MODEM_PANSTAT, Reg.MODEM_LANEGAIN, List.mem_cons, List.not_mem_nil,
      or_false]
    omega
  have hfires : Fires [EV.MODEM_FALSEDET] s (falseDetected p s) := honly.fires_fire (by decide)
  refine .of_eq (exec_syncWindowClose_of_waiting hst) ⟨?_, ?_, hfires.append (onlyIn_panRest.fires (by decide)), ?_, ?_⟩
  · rw [panState_panRest hp, panRestState_of_regsBut hp hregs rfl, panRestState]
  · rw [(regsBut_panRest hp).get hcnt, falseDetected, State.get_fire, State.get_inc_fits rfl]
  · exact (hregs.mono (by simp)).trans ((regsBut_panRest hp).mono (by simp))
  · exact (hframe.trans (onlyIn_panRest.mono (by decide))).frame_regs_modem_edges

/-! ### A detection inside a frame -/

theorem OnlyIn.frame_regs_modem (h : OnlyIn [.regs, .modem] s t) : t = { s with regs := t.regs, modem := t.modem } := h.frame

theorem exec_hunterDetect_of_frame (hlf : s.lfMode = false) (hst : s.panState p = 3 ∨ s.panState p = 4)
    (hcap : s.has Fld.MODEM_RXCFG_CAPEN = false) : exec (.hunterDetect p power) s
      = .next ((s.setPan p { s.pan p with hidden := true, held := some (power, s.syncSeq) }).inc
          (Fld.MODEM_RXCNT_HIDDEN (p.val / 8))) := by
  have h2 : s.panState p ≠ 2 := by omega
  rw [exec, execHunterDetect]
  dsimp only
  rw [if_neg (by simp [panCounts, hlf]), if_neg h2, if_pos hst, if_neg (by simp [hcap])]

theorem answers_hunterDetect (hlf : s.lfMode = false) (hst : s.panState p = 3 ∨ s.panState p = 4)
    (hcap : s.has Fld.MODEM_RXCFG_CAPEN = false) : Answers (exec (.hunterDetect p power) s) fun t =>
      (t.pan p) = { s.pan p with hidden := true, held := some (power, s.get Fld.MODEM_PHYCFG_SYNCSEQ) }
      ∧ t.get (Fld.MODEM_RXCNT_HIDDEN (p.val / 8)) = s.counted (Fld.MODEM_RXCNT_HIDDEN (p.val / 8))
      ∧ RegsBut [Reg.MODEM_RXCNT (p.val / 8) 2] s t ∧ t = { s with regs := t.regs, modem := t.modem } := by
  have heq := exec_hunterDetect_of_frame (power := power) hlf hst hcap
  rw [State.syncSeq] at heq
  generalize { s.pan p with hidden := true, held := some (power, s.get Fld.MODEM_PHYCFG_SYNCSEQ) } = x at heq ⊢
  have honly : OnlyIn [.regs, .modem] s ((s.setPan p x).inc (Fld.MODEM_RXCNT_HIDDEN (p.val / 8))) := by simp
  refine .of_eq heq ⟨?_, ?_, ?_, honly.frame_regs_modem⟩
  · rw [State.pan_inc, State.pan_setPan_self]
  · rw [State.get_inc_fits rfl, State.counted, State.counted, State.get_eq_of_rd State.rd_setPan]
  · simp [Fld.MODEM_RXCNT_HIDDEN]

end

/-! ### The header decision -/

section
variable {p : Fin 16} {h : BitVec 48} {inv : Bool} {snr : BitVec 8}

theorem State.setPan_setPan {q : Nat} {y : Pan} : ((s.setPan q x).setPan q y).pan q = y := State.pan_setPan_self

/-- The pan with its header decoded. -/
def panHeaded (q : Nat) (h : Nat) (snr : Int) (s : State) : Pan := { s.pan q with hdr := h, snr := snr, fetch := (s.now, s.stratum) }

/-- A good header that names no slot leads to the payload under the uniform table. -/
def headerTaken (q : Nat) (x : Pan) (s : State) : State :=
  ((((s.setPan q x).setPan q { x with hdrOk := true }).fire EV.MODEM_HDROK).setPan q
    { x with hdrOk := true, table := uniformTable }).setPanState q 4

theorem slotStamp_zero : slotStamp 0 s = s := if_neg (by simp)

theorem exec_headerDecision_uniform (hlf : s.lfMode = false) (hst : s.panState p = 3) (hmode : s.panMode p ≤ 1)
    (hcrc : hdrCrcOk h.toNat = true) (hval : headerInvalid h.toNat (s.panMode p) inv = false) (hidx : hdrLoadidx h.toNat = 0) :
    exec (.headerDecision p h inv snr false) s = .next (headerTaken p (panHeaded p h.toNat snr.toInt s) s) := by
  rw [exec, execHeaderDecision]
  dsimp only
  rw [if_neg (by simp [hst, panCounts, hlf]), if_neg (by omega), if_neg (by simp [hcrc]), if_neg (by simp [hval]), hidx,
    if_pos rfl, slotStamp_zero, State.pan_setPan_self, State.pan_fire, State.pan_setPan_self]
  rfl

theorem headerTaken_facts {q : Nat} : (headerTaken q x s).panState q = 4
    ∧ (headerTaken q x s).pan q = { x with hdrOk := true, table := uniformTable }
    ∧ Fires [EV.MODEM_HDROK] s (headerTaken q x s) ∧ RegsBut [Reg.MODEM_PANSTAT q] s (headerTaken q x s)
    ∧ OnlyIn [.regs, .modem, .edges] s (headerTaken q x s) := by
  have hpre : OnlyIn [.modem] s ((s.setPan q x).setPan q { x with hdrOk := true }) := by simp
  have hfire : Fires [EV.MODEM_HDROK] s (((s.setPan q x).setPan q { x with hdrOk := true }).fire EV.MODEM_HDROK) :=
    hpre.fires_fire (by decide)
  refine ⟨State.get_setPanState, ?_, ?_, ?_, ?_⟩
  · rw [headerTaken, State.pan_setPanState, State.pan_setPan_self]
  · exact hfire.append (onlyIn_setPan_setPanState.fires (by decide))
  · simp [headerTaken, State.setPanState, Fld.MODEM_PANSTAT_STATE]
  · simp [headerTaken, State.setPanState]

theorem answers_headerDecision_uniform (hlf : s.lfMode = false) (hst : s.panState p = 3) (hmode : s.panMode p ≤ 1)
    (hcrc : hdrCrcOk h.toNat = true) (hval : headerInvalid h.toNat (s.panMode p) inv = false) (hidx : hdrLoadidx h.toNat = 0) :
    Answers (exec (.headerDecision p h inv snr false) s) fun t =>
      t.panState p = 4 ∧ (t.pan p).hdr = h.toNat ∧ (t.pan p).snr = snr.toInt ∧ (t.pan p).hdrOk = true
      ∧ (t.pan p).table = List.replicate 48 1 ∧ (t.pan p).fetch = (s.now, s.stratum)
      ∧ Fires [EV.MODEM_HDROK] s t ∧ RegsBut [Reg.MODEM_PANSTAT p] s t
      ∧ t = { s with regs := t.regs, modem := t.modem, edges := t.edges } := by
  obtain ⟨hstate, hpan, hfires, hregs, honly⟩ := headerTaken_facts (s := s) (x := panHeaded p h.toNat snr.toInt s) (q := p)
  exact .of_eq (exec_headerDecision_uniform hlf hst hmode hcrc hval hidx) ⟨hstate, by rw [hpan]; rfl, by rw [hpan]; rfl,
    by rw [hpan], by rw [hpan]; rfl, by rw [hpan]; rfl, hfires, hregs, honly.frame_regs_modem_edges⟩

/-! An LE header. -/

/-- The PDU header of an LE packet in the pan. -/
def leHeaded (q raw : Nat) (s2 : Bool) (s : State) : Pan :=
  { s.pan q with hdr := natOfBits (leWhiten (s.panChan q) (bitList 16 raw)),
                 coding := if s.panMode q = 4 ∨ s.panMode q = 5 then some (if s2 = true then 5 else 4) else none }

theorem leHeader_eq {q raw : Nat} {s2 : Bool} : leHeader q raw s2 s = (s.setPan q (leHeaded q raw s2 s)).setPanState q 4 := rfl

theorem answers_headerDecision_le (hlf : s.lfMode = false) (hst : s.panState p = 3) (hmode : 2 ≤ s.panMode p) :
    Answers (exec (.headerDecision p h inv snr false) s) fun t =>
      t.panState p = 4 ∧ (t.pan p).hdr = natOfBits (leWhiten (s.panChan p) (bitList 16 h.toNat))
      ∧ (t.pan p).coding = (if s.panMode p = 4 ∨ s.panMode p = 5 then some (if inv = true then 5 else 4) else none)
      ∧ RegsBut [Reg.MODEM_PANSTAT p] s t ∧ t = { s with regs := t.regs, modem := t.modem } := by
  have heq : exec (.headerDecision p h inv snr false) s
      = .next ((s.setPan p (leHeaded p h.toNat inv s)).setPanState p 4) := by
    rw [exec, execHeaderDecision]
    dsimp only
    rw [if_neg (by simp [hst, panCounts, hlf]), if_pos hmode, leHeader_eq]
  have hpan : ((s.setPan p (leHeaded p h.toNat inv s)).setPanState p 4).pan p = leHeaded p h.toNat inv s := by
    rw [State.pan_setPanState, State.pan_setPan_self]
  exact .of_eq heq ⟨State.get_setPanState, by rw [hpan, leHeaded], by rw [hpan, leHeaded], regsBut_setPan_setPanState,
    onlyIn_setPan_setPanState.frame_regs_modem⟩

/-! A header whose CRC fails. -/

/-- The record of a frame that has ended, in MODEM_PANLAST, with its events. -/
def panEnded (q : Nat) (words : List Word) (s : State) : State := recordEvents q (putPanLast q words s)

/-- A frame without a good header leaves its record, and no AFC measurement. -/
theorem panEndEarly_of_badHeader {q : Nat} (hst : s.panState q = 3) (hok : (s.pan q).hdrOk = false) :
    ∃ fofs corr, panEndEarly q 0x0151 s = panEnded q (recordWords s.freeNext.freeNext q 0x0151 fofs corr 0) s.freeNext.freeNext := by
  rw [panEndEarly]
  dsimp only
  rw [if_pos (.inl hst), hok]
  exact ⟨_, _, rfl⟩

theorem head_recordWords {q code nsym corr : Nat} {fofs : Int} (hq : q < 16) (hmode : s.panMode q ≤ 1) (hcode : code < 2 ^ 16) :
    ((recordWords s q code fofs corr nsym).headD 0).toNat / 2 ^ 16 = code := by
  have hrec : panRecMode s q = s.panMode q := if_neg (by omega)
  have hbit : ∀ b, boolBit b ≤ 1 := by intro b; cases b <;> decide
  have h₁ := hbit (s.pan q).paired
  have h₂ := hbit (s.pan q).gainstep
  have h₃ := hbit (s.pan q).capt
  have h₄ := hbit (s.pan q).hidden
  simp only [recordWords, List.headD_cons, BitVec.toNat_ofNat, hrec]
  omega

theorem panEnded_facts {q : Nat} {words : List Word} (hlen : words.length = 8) :
    RegsBut (Reg.MODEM_PANSTAT q :: (List.range 8).map (Reg.MODEM_PANLAST q)) s (panEnded q words s)
    ∧ OnlyIn [.regs, .edges] s (panEnded q words s)
    ∧ Fires [EV.MODEM_RXEND, EV.MODEM_ENDn q] s (panEnded q words s)
    ∧ (panEnded q words s).get (Fld.MODEM_PANSTAT_LASTCODE q) = (words.headD 0).toNat / 2 ^ 16 := by
  have honly : OnlyIn [.regs] s (putPanLast q words s) := onlyIn_putPanLast
  have hlt : (words.headD 0).toNat / 2 ^ 16 < 2 ^ 16 := Nat.div_lt_of_lt_mul (words.headD 0).isLt
  refine ⟨?_, ?_, ?_, ?_⟩
  · rw [panEnded, recordEvents, regsBut_fire, regsBut_fire, putPanLast]
    have hstat : (Fld.MODEM_PANSTAT_LASTCODE q).addr ∈ Reg.MODEM_PANSTAT q :: (List.range 8).map (Reg.MODEM_PANLAST q) :=
      List.mem_cons_self
    refine (regsBut_put hstat).mpr fun a ha => ?_
    refine State.rd_forEach fun x hx _ => State.rd_wr_ne ?_
    have hx2 : x.2 < words.length := List.snd_lt_of_mem_zipIdx hx
    rintro rfl
    exact ha (List.mem_cons_of_mem _ (List.mem_map_of_mem (List.mem_range.mpr (by omega))))
  · exact (honly.fire (by decide) (by decide)).fire (List.Subset.refl _) (by decide)
  · exact (honly.fires_fire (p := EV.MODEM_RXEND) (by decide)).append (Fires.fire rfl)
  · rw [panEnded, recordEvents, State.get_fire, State.get_fire, putPanLast, State.get_put_fits rfl]
    exact Nat.mod_eq_of_lt hlt

/-- A frame whose header failed has left its record and is counted. -/
def headerFailed (q : Nat) (words : List Word) (s : State) : State :=
  ((panEnded q words s.freeNext.freeNext).inc (Fld.MODEM_RXCNT_HDRFAIL (q / 8))).fire EV.MODEM_HDRFAIL

theorem exec_headerDecision_badCrc (hlf : s.lfMode = false) (hst : s.panState p = 3) (hmode : s.panMode p ≤ 1)
    (hcrc : hdrCrcOk h.toNat = false) (hok : (s.pan p).hdrOk = false) : ∃ words : List Word, words.length = 8
      ∧ (words.headD 0).toNat / 2 ^ 16 = 0x0151
      ∧ exec (.headerDecision p h inv snr false) s
        = .next (panRest p (headerFailed p words (s.setPan p (panHeaded p h.toNat snr.toInt s)))) := by
  have hst' : (s.setPan p (panHeaded p h.toNat snr.toInt s)).panState p = 3 := State.panState_setPan.trans hst
  have hok' : ((s.setPan p (panHeaded p h.toNat snr.toInt s)).pan p).hdrOk = false := by
    rw [State.pan_setPan_self, panHeaded, hok]
  obtain ⟨fofs, corr, heq⟩ := panEndEarly_of_badHeader hst' hok'
  refine ⟨recordWords (s.setPan p (panHeaded p h.toNat snr.toInt s)).freeNext.freeNext p 0x0151 fofs corr 0, rfl,
    head_recordWords p.isLt hmode (by decide), ?_⟩
  rw [exec, execHeaderDecision]
  dsimp only
  rw [if_neg (by simp [hst, panCounts, hlf]), if_neg (by omega), if_pos (by simp [hcrc]), ← panHeaded, heq, panNext_of_notHeld,
    ← headerFailed]

theorem OnlyIn.frame_regs_modem_edges_freeCounter (h : OnlyIn [.regs, .modem, .edges, .freeCounter] s t) :
    t = { s with regs := t.regs, modem := t.modem, edges := t.edges, freeCounter := t.freeCounter } := h.frame

theorem headerFailed_facts {words : List Word} {q : Nat} (hq : q < 16) (hlen : words.length = 8) :
    RegsBut (Reg.MODEM_PANSTAT q :: Reg.MODEM_RXCNT (q / 8) 1 :: (List.range 8).map (Reg.MODEM_PANLAST q)) s (headerFailed q words s)
    ∧ OnlyIn [.regs, .edges, .freeCounter] s (headerFailed q words s)
    ∧ Fires [EV.MODEM_RXEND, EV.MODEM_ENDn q, EV.MODEM_HDRFAIL] s (headerFailed q words s)
    ∧ (headerFailed q words s).get (Fld.MODEM_PANSTAT_LASTCODE q) = (words.headD 0).toNat / 2 ^ 16
    ∧ (headerFailed q words s).get (Fld.MODEM_RXCNT_HDRFAIL (q / 8)) = s.counted (Fld.MODEM_RXCNT_HDRFAIL (q / 8)) := by
  obtain ⟨hregs, honly, hfires, hcode⟩ := panEnded_facts (s := s.freeNext.freeNext) (q := q) hlen
  have hcnt : (Fld.MODEM_RXCNT_HDRFAIL (q / 8)).addr ∉ Reg.MODEM_PANSTAT q :: (List.range 8).map (Reg.MODEM_PANLAST q) := by
    simp only [Fld.MODEM_RXCNT_HDRFAIL, Reg.MODEM_RXCNT, Reg.MODEM_PANSTAT, Reg.MODEM_PANLAST, List.mem_cons, List.mem_map,
      List.mem_range, not_or, not_exists, not_and]
    exact ⟨by omega, fun w _ => by omega⟩
  have hkeep : (panEnded q words s.freeNext.freeNext).get (Fld.MODEM_RXCNT_HDRFAIL (q / 8)) = s.get (Fld.MODEM_RXCNT_HDRFAIL (q / 8)) :=
    hregs.get hcnt
  have hinc : OnlyIn [.regs] (panEnded q words s.freeNext.freeNext)
      ((panEnded q words s.freeNext.freeNext).inc (Fld.MODEM_RXCNT_HDRFAIL (q / 8))) := by simp
  have hfree : OnlyIn [.regs, .edges, .freeCounter] s s.freeNext.freeNext := by simp
  have hlast : Fires [EV.MODEM_HDRFAIL] (panEnded q words s.freeNext.freeNext) (headerFailed q words s) :=
    hinc.fires_fire (by decide)
  have hregs' : RegsBut (Reg.MODEM_PANSTAT q :: Reg.MODEM_RXCNT (q / 8) 1 :: (List.range 8).map (Reg.MODEM_PANLAST q)) s
      (panEnded q words s.freeNext.freeNext) :=
    hregs.mono (List.cons_subset_cons _ (List.subset_cons_self ..))
  refine ⟨?_, ?_, hfires.append hlast, ?_, ?_⟩
  · rw [headerFailed, regsBut_fire, regsBut_inc (by simp [Fld.MODEM_RXCNT_HDRFAIL])]
    exact hregs'
  · have h := hfree.trans (honly.mono (by decide))
    exact (h.trans (hinc.mono (by decide))).fire (List.Subset.refl _) (by decide)
  · rw [headerFailed, State.get_fire, State.inc_eq_put, State.get_put_other (PANSTAT_ne_RXCNT hq), hcode]
  · rw [headerFailed, State.get_fire, State.get_inc_fits rfl, State.counted, State.counted, hkeep]

theorem answers_headerDecision_badCrc (hlf : s.lfMode = false) (hst : s.panState p = 3) (hmode : s.panMode p ≤ 1)
    (hcrc : hdrCrcOk h.toNat = false) (hok : (s.pan p).hdrOk = false) :
    Answers (exec (.headerDecision p h inv snr false) s) fun t =>
      t.panState p = (if s.laneSt (p.val / 8) = 3 ∧ panEnabled s p = true then 1 else 0)
      ∧ t.get (Fld.MODEM_PANSTAT_LASTCODE p) = 0x0151
      ∧ t.get (Fld.MODEM_RXCNT_HDRFAIL (p.val / 8)) = s.counted (Fld.MODEM_RXCNT_HDRFAIL (p.val / 8))
      ∧ Fires [EV.MODEM_RXEND, EV.MODEM_ENDn p, EV.MODEM_HDRFAIL] s t
      ∧ RegsBut ([Reg.MODEM_PANSTAT p, Reg.MODEM_RXCNT (p.val / 8) 1, Reg.MODEM_LANEGAIN 0, Reg.MODEM_LANEGAIN 1]
          ++ (List.range 8).map (Reg.MODEM_PANLAST p)) s t
      ∧ t = { s with regs := t.regs, modem := t.modem, edges := t.edges, freeCounter := t.freeCounter } := by
  have hp : p.val < 16 := p.isLt
  obtain ⟨words, hlen, hhead, heq⟩ := exec_headerDecision_badCrc (inv := inv) (snr := snr) hlf hst hmode hcrc hok
  have hpanStop : ((s.setPan p (panHeaded p h.toNat snr.toInt s)).pan p).stopped = (s.pan p).stopped := by
    rw [State.pan_setPan_self, panHeaded]
  generalize hx : panHeaded p h.toNat snr.toInt s = x at heq hpanStop
  have hset : OnlyIn [.modem] s (s.setPan p x) := by simp
  obtain ⟨hregs, honly, hfires, hcode, hcount⟩ := headerFailed_facts (s := s.setPan p x) (words := words) hp hlen
  have hcnt : (Fld.MODEM_RXCNT_HDRFAIL (p.val / 8)).addr ∉ [Reg.MODEM_PANSTAT p, Reg.MODEM_LANEGAIN 0, Reg.MODEM_LANEGAIN 1] := by
    simp only [Fld.MODEM_RXCNT_HDRFAIL, Reg.MODEM_RXCNT, Reg.MODEM_PANSTAT, Reg.MODEM_LANEGAIN, List.mem_cons, List.not_mem_nil,
      or_false]
    omega
  have hout : ∀ a, a < 0x40030500 → (headerFailed p words (s.setPan p x)).rd a = s.rd a := by
    intro a ha
    refine hregs a ?_
    simp only [Reg.MODEM_PANSTAT, Reg.MODEM_RXCNT, Reg.MODEM_PANLAST, List.mem_cons, List.mem_map, List.mem_range, not_or,
      not_exists, not_and]
    exact ⟨by omega, by omega, fun w _ => by omega⟩
  have hrest : panRestState p (headerFailed p words (s.setPan p x)) = panRestState p s := by
    refine panRestState_congr (State.get_eq_of_rd (hout _ ?_)) (State.has_eq_of_get (State.get_eq_of_rd (hout _ ?_))) ?_
    · simp only [Fld.LANE_STAT_STATE, Reg.LANE_STAT]
      omega
    · simp only [Fld.MODEM_PANCFG_EN, Reg.MODEM_PANCFG]
      omega
    · rw [State.pan_congr (honly.modem (by decide)), hpanStop]
  refine .of_eq heq ⟨?_, ?_, ?_, ?_, ?_, ?_⟩
  · rw [panState_panRest hp, hrest, panRestState]
  · rw [get_LASTCODE_panRest hp, hcode, hhead]
  · rw [(regsBut_panRest hp).get hcnt, hcount]
    rfl
  · exact ((hset.fires (by decide)).append hfires).append (onlyIn_panRest.fires (by decide))
  · have h₁ : RegsBut ([Reg.MODEM_PANSTAT p, Reg.MODEM_RXCNT (p.val / 8) 1, Reg.MODEM_LANEGAIN 0, Reg.MODEM_LANEGAIN 1]
        ++ (List.range 8).map (Reg.MODEM_PANLAST p)) s (headerFailed p words (s.setPan p x)) := by
      refine RegsBut.mono (l := Reg.MODEM_PANSTAT p :: Reg.MODEM_RXCNT (p.val / 8) 1 :: (List.range 8).map (Reg.MODEM_PANLAST p)) hregs ?_
      intro a ha
      simp only [List.mem_append, List.mem_cons] at ha ⊢
      tauto
    exact h₁.trans ((regsBut_panRest hp).mono (by simp))
  · exact ((hset.mono (by decide)).trans ((honly.mono (by decide)).trans (onlyIn_panRest.mono (by decide)))).frame_regs_modem_edges_freeCounter

end

/-- Settles O31: detections, sync, the sync window, the hunter's detections and the header decision. -/
theorem detectionToHeader : Obligations.DetectionToHeader := by
  intro p s hlf
  refine ⟨fun power hst => answers_panDetect hlf hst,
    fun hst => ⟨fun ago r r2 snr lts cfo aa => ?sync, answers_syncWindowClose hst⟩,
    fun power hst hcap => answers_hunterDetect hlf hst hcap, fun h inv snr hst =>
      ⟨fun hmode hcrc hval hidx => answers_headerDecision_uniform hlf hst hmode hcrc hval hidx,
        fun hmode hcrc hok => answers_headerDecision_badCrc hlf hst hmode hcrc hok,
        fun hmode => answers_headerDecision_le hlf hst hmode⟩⟩
  case sync =>
    split
    next h => exact answers_panSync hlf hst h
    next h => exact exec_panSync_of_unconfirmed (Bool.not_eq_true _ ▸ h)

end Sys2Proof.Machine
end

section
/-!
SUPPORT. The end of a frame (R279, R277). The mode of a record is the coding that an LE Coded pan has noted, and no premise of
the statement keeps that note to the two LE Coded modes.
-/

namespace Sys2Proof.Machine

/-- Pan 0 in the payload of an LE Coded packet, with a coding noted that is a native mode. -/
def State.nativeCoding : State :=
  ((State.reset.put (Fld.MODEM_PANCFG_MODE 0) 4).setPanState 0 4).setPan 0 { coding := some 0 }

/-- LASTCODE of pan 0 after a command, or no code where none is answered. -/
def lastCodeOf (o : Out) : Option Nat :=
  match o with
  | .next t => some (t.get (Fld.MODEM_PANSTAT_LASTCODE 0))
  | _ => none

theorem lastCodeOf_next {t : State} : lastCodeOf (.next t) = some (t.get (Fld.MODEM_PANSTAT_LASTCODE 0)) := rfl

/-- The frame is taken as a native one: no CRC-24 is checked, and the code is 0. -/
theorem lastCode_nativeCoding : lastCodeOf (exec (.rxFrameEnd 0 0 0 [] []) State.nativeCoding) = some 0 := by decide

theorem leUnpack_nil_fails : (leUnpack (State.nativeCoding.rd (Reg.MODEM_PANCRC 0)).toNat (State.nativeCoding.panChan 0) []).2
    = false := by decide

/-- Refutes O32: an LE Coded pan whose noted coding is a native mode ends a frame without its CRC-24. -/
theorem not_frameEndAndGain : ¬ Obligations.FrameEndAndGain := by
  intro h
  obtain ⟨t, ht, ⟨r, -, -, -, -, -, -, hcode, -⟩, -⟩ :=
    h.1 0 0 0 [] [] State.nativeCoding (by decide) (by decide) (by decide) (by decide) (by decide)
  rw [if_neg (by decide)] at hcode
  have hle : t.get (Fld.MODEM_PANSTAT_LASTCODE 0) = 0x0152 := by
    have hfails : ¬ (leUnpack (State.nativeCoding.rd (Reg.MODEM_PANCRC 0)).toNat (State.nativeCoding.panChan 0) []).2 = true :=
      ne_true_of_eq_false leUnpack_nil_fails
    exact hcode.1.trans (if_neg hfails)
  have hzero := lastCode_nativeCoding
  rw [ht, lastCodeOf_next, hle] at hzero
  exact absurd hzero (by decide)

end Sys2Proof.Machine
end

section
/-!
SUPPORT. The transitions of a stepwise lane: what locks, enters RX and enters TX leave unchanged, and the stored calibration
entries that a lane uses on the way (R192, R195).
-/

namespace Sys2Proof.Machine

variable {s t : State} {l n : Nat}

/-! ### Calibration entries in use -/

/-- A lane that has noted the entries it used. -/
def State.laneUsed (l : Nat) (u : List (Nat × Word)) (s : State) : State := s.setLane l { s.lane l with calUsed := u }

theorem onlyIn_laneUsed {u : List (Nat × Word)} : OnlyIn [.lanes] s (s.laneUsed l u) := .of_frame rfl

theorem State.regs_laneUsed {u : List (Nat × Word)} : (s.laneUsed l u).regs = s.regs := rfl

theorem State.edges_laneUsed {u : List (Nat × Word)} : (s.laneUsed l u).edges = s.edges := rfl

theorem State.lane_laneUsed {u : List (Nat × Word)} (hl : l < s.lanes.length) :
    (s.laneUsed l u).lane l = { s.lane l with calUsed := u } := State.lane_setLane_self hl

theorem State.laneUsed_laneUsed {u v : List (Nat × Word)} (hl : l < s.lanes.length) :
    (s.laneUsed l u).laneUsed l v = s.laneUsed l v := by
  simp only [State.laneUsed, State.setLane, State.lane, nth_setNth_self hl]
  simp [setNth]

theorem State.laneUsed_self : ∃ u, s.laneUsed l u = s := by
  refine ⟨(s.lane l).calUsed, ?_⟩
  have h : setNth s.lanes l (s.lane l) = s.lanes := by
    simp only [setNth, State.lane, nth]
    apply List.ext_getElem <;> simp [List.getElem_set]
    rintro i hi rfl
    simp [hi]
  simp [State.laneUsed, State.setLane, h]

theorem calUse_of_sound (h : (s.lane l).calBad = []) : ∃ u, calUse l n s = s.laneUsed l u := by
  rw [calUse, if_neg (by simp [h])]
  exact ⟨_, rfl⟩

/-- Entries without a parity error are only noted as used. -/
theorem calUses_of_sound {ns : List Nat} (hl : l < s.lanes.length) (h : (s.lane l).calBad = []) :
    ∃ u, s.forEach ns (calUse l) = s.laneUsed l u := by
  induction ns generalizing s with
  | nil => exact State.laneUsed_self.imp fun _ hu => hu.symm
  | cons k ks ih =>
    obtain ⟨u, hu⟩ := calUse_of_sound (n := k) h
    have hlane := State.lane_laneUsed (u := u) hl
    obtain ⟨v, hv⟩ := ih (s := s.laneUsed l u) (by simpa [State.laneUsed] using hl) (by rw [hlane, h])
    exact ⟨v, by rw [State.forEach_cons, hu, hv, State.laneUsed_laneUsed hl]⟩

theorem calUseVco_of_sound {f : Nat} (h : (s.lane l).calBad = []) :
    ∃ u, calUseVco l f s = s.laneUsed l u := by
  rw [calUseVco]
  split
  · exact calUse_of_sound h
  · exact State.laneUsed_self.imp fun _ hu => hu.symm

theorem calUseRx_of_sound (hl : l < s.lanes.length) (h : (s.lane l).calBad = []) :
    ∃ u, calUseRx l s = s.laneUsed l u := calUses_of_sound hl h

/-! ### STANDBY -/

theorem laneLeaveRx_of_other {code dest : Nat} (h : s.laneSt l ≠ 3) : laneLeaveRx l code dest s = s := if_neg h

theorem stepSegment_standby {mV : Nat} {res : Word} {fault : Bool} (hg : (s.lane l).goal = some .standby)
    (hst : s.laneSt l ≤ 2) : stepSegment l mV res fault s
      = (stepArrived l (laneUnlock l (s.setLaneSt l 1))).fire (EV.LANE_STANDBY l) := by
  have h5 : ¬ 5 ≤ s.laneSt l := by omega
  have h4 : s.laneSt l ≠ 4 := by omega
  have h3 : s.laneSt l ≠ 3 := by omega
  simp only [stepSegment, hg, if_neg h5, if_neg h4, laneLeaveRx_of_other h3]

theorem State.get_laneUsed {u : List (Nat × Word)} {f : Field} : (s.laneUsed l u).get f = s.get f := rfl
theorem State.has_laneUsed {u : List (Nat × Word)} {f : Field} : (s.laneUsed l u).has f = s.has f := rfl
theorem State.length_laneUsed {u : List (Nat × Word)} : (s.laneUsed l u).lanes.length = s.lanes.length := by
  simp [State.laneUsed]

/-! ### The end of a transition -/

theorem laneSt_stepArrived : (stepArrived l s).laneSt l = s.laneSt l := rfl
theorem laneBand_stepArrived : (stepArrived l s).laneBand l = s.laneBand l := rfl
theorem has_stepArrived {f : Field} : (stepArrived l s).has f = s.has f := rfl
theorem edges_stepArrived : (stepArrived l s).edges = s.edges := rfl
theorem regsBut_stepArrived {m : List Nat} {r : State} : RegsBut m r (stepArrived l s) ↔ RegsBut m r s := Iff.rfl
theorem onlyIn_stepArrived : OnlyIn [.lanes] s (stepArrived l s) := .of_frame rfl
theorem lane_stepArrived (hl : l < s.lanes.length) : (stepArrived l s).lane l = { s.lane l with goal := none } :=
  State.lane_setLane_self hl

/-- What the end of a stepwise transition to STANDBY leaves. -/
def State.laneStandby (l : Nat) (s : State) : State := (stepArrived l (laneUnlock l (s.setLaneSt l 1))).fire (EV.LANE_STANDBY l)

theorem regs_laneStandby : (s.laneStandby l).laneSt l = 1 ∧ (s.laneStandby l).has (Fld.LANE_STAT_LOCK l) = false := by
  simp [State.laneStandby, stepArrived, laneUnlock, State.setLaneSt, State.laneSt, State.unflag_eq_put, Fld.LANE_STAT_STATE,
    Fld.LANE_STAT_LOCK]

theorem onlyIn_laneStandby : OnlyIn [.regs, .lanes, .edges] s (s.laneStandby l) := by
  rw [State.laneStandby, onlyIn_fire (by decide)]
  exact (onlyIn_lanes (by decide)).mpr (by simp [laneUnlock, State.setLaneSt])

theorem regsBut_laneStandby : RegsBut [Reg.LANE_STAT l] s (s.laneStandby l) := by
  simp [State.laneStandby, stepArrived, State.setLane, laneUnlock, State.setLaneSt, Fld.LANE_STAT_STATE, Fld.LANE_STAT_LOCK]

theorem goal_laneStandby (hl : l < s.lanes.length) : ((s.laneStandby l).lane l).goal = none := by
  have h : ((stepArrived l (laneUnlock l (s.setLaneSt l 1))).lane l).goal = none := by
    rw [stepArrived, State.lane_setLane_self (s := laneUnlock l (s.setLaneSt l 1)) hl]
  exact h

/-! ### SYNTH -/

/-- A lane locked on f. -/
def State.laneLocked (l f : Nat) (u : List (Nat × Word)) (s : State) : State :=
  let s := (s.setLaneSt l 2).laneUsed l u
  (((s.put (Fld.LANE_STAT_BAND l) (freqBand f)).flag (Fld.LANE_STAT_LOCK l)).setLane l { s.lane l with lockedFreq := f }).fire (EV.LANE_LOCK l)

theorem regsBut_laneLocked {f : Nat} {u : List (Nat × Word)} : RegsBut [Reg.LANE_STAT l] s (s.laneLocked l f u) := by
  simp [State.laneLocked, State.setLane, State.laneUsed, State.setLaneSt, Fld.LANE_STAT_STATE, Fld.LANE_STAT_LOCK, Fld.LANE_STAT_BAND]

theorem regs_laneLocked {f : Nat} {u : List (Nat × Word)} : (s.laneLocked l f u).laneSt l = 2
    ∧ (s.laneLocked l f u).has (Fld.LANE_STAT_LOCK l) = true ∧ (s.laneLocked l f u).laneBand l = freqBand f := by
  have hband : freqBand f % 2 = freqBand f := by
    rw [freqBand]
    split <;> rfl
  refine ⟨?_, ?_, ?_⟩ <;>
    simp [State.laneLocked, State.laneSt, State.laneBand, State.get_laneUsed, State.setLaneSt, State.flag_eq_put, Fld.LANE_STAT_STATE,
      Fld.LANE_STAT_LOCK, Fld.LANE_STAT_BAND, hband]

theorem onlyIn_laneLocked {f : Nat} {u : List (Nat × Word)} : OnlyIn [.regs, .lanes, .edges] s (s.laneLocked l f u) := by
  rw [State.laneLocked, onlyIn_fire (by decide)]
  refine (onlyIn_lanes (by decide)).mpr ?_
  rw [onlyIn_flag (by decide), onlyIn_put (by decide)]
  exact (onlyIn_lanes (by decide)).mpr (by simp [State.setLaneSt])

theorem length_lanes_laneLocked {f : Nat} {u : List (Nat × Word)} : (s.laneLocked l f u).lanes.length = s.lanes.length :=
  length_setNth.trans State.length_laneUsed

theorem fires_laneLocked {f : Nat} {u : List (Nat × Word)} : Fires [EV.LANE_LOCK l] s (s.laneLocked l f u) := by
  rw [State.laneLocked]
  refine Fires.fire ?_
  rw [State.edges_setLane, State.flag_edges, State.put_edges, State.edges_laneUsed, State.setLaneSt, State.put_edges]

theorem lanes_laneLocked {f : Nat} {u : List (Nat × Word)} (hl : l < s.lanes.length) :
    (s.laneLocked l f u).lane l = { s.lane l with lockedFreq := f, calUsed := u } := by
  have h : ∀ x : State, ((x.setLaneSt l 2).laneUsed l u).lanes.length = x.lanes.length := fun x => State.length_laneUsed
  rw [State.laneLocked]
  refine (State.lane_setLane_self (by rw [← h s] at hl; exact hl)).trans ?_
  rw [State.lane_laneUsed (s := s.setLaneSt l 2) hl]
  rfl

/-- Without an enabled pan and with sound entries a lock touches its lane only. -/
theorem laneLock_of_sound (h2 : l < 2) (hbad : (s.lane l).calBad = []) (hpans : s.NoPans) :
    ∃ u, laneLock l (s.setLaneSt l 2) = s.laneLocked l (s.get (Fld.LANE_FREQ_FREQ l)) u := by
  have hfreq : (s.setLaneSt l 2).get (Fld.LANE_FREQ_FREQ l) = s.get (Fld.LANE_FREQ_FREQ l) := by
    apply State.get_put_other
    simp [Fld.LANE_FREQ_FREQ, Fld.LANE_STAT_STATE, Reg.LANE_FREQ, Reg.LANE_STAT]
  obtain ⟨u, hu⟩ := calUseVco_of_sound (l := l) (s := s.setLaneSt l 2) (f := s.get (Fld.LANE_FREQ_FREQ l)) hbad
  have hpans' : (s.laneLocked l (s.get (Fld.LANE_FREQ_FREQ l)) u).NoPans := fun p hp => by
    rw [regsBut_laneLocked.has]
    · exact hpans p hp
    · simp only [Fld.MODEM_PANCFG_EN, Reg.MODEM_PANCFG, Reg.LANE_STAT, List.mem_cons, List.not_mem_nil, or_false]
      omega
  refine ⟨u, ?_⟩
  rw [laneLock, hfreq, hu]
  exact panRecheck_of_noPans h2 hpans'

theorem stepLock_of_sound {res : Word} {fault : Bool} (hl : l < s.lanes.length) (h2 : l < 2) (hbad : (s.lane l).calBad = [])
    (hfull : (s.lane l).fullCal = false) (hpans : s.NoPans) :
    ∃ u, stepLock l res fault s = s.laneLocked l (s.get (Fld.LANE_FREQ_FREQ l)) u := by
  obtain ⟨u, hu⟩ := laneLock_of_sound h2 hbad hpans
  refine ⟨u, ?_⟩
  rw [stepLock, hu]
  exact if_neg (by rw [lanes_laneLocked hl]; simp [hfull])

theorem stepSegment_synth {mV : Nat} {res : Word} {fault : Bool} (hg : (s.lane l).goal = some .synth)
    (hst : s.laneSt l = 1 ∨ s.laneSt l = 2) : stepSegment l mV res fault s = stepArrived l (stepLock l res fault s) := by
  have h5 : ¬ 5 ≤ s.laneSt l := by omega
  have h0 : s.laneSt l ≠ 0 := by omega
  have h3 : ¬ 3 ≤ s.laneSt l := by omega
  simp only [stepSegment, hg, if_neg h5, if_neg h0, if_neg h3]

variable {mV : BitVec 16} {res : Word} {fault : Bool}

theorem answers_transition_standby {l : Lane} (hl : l.val < s.lanes.length) (hg : (s.lane l).goal = some .standby)
    (hst : s.laneSt l ≤ 2) : Answers (exec (.laneTransitionDone l mV res fault) s) fun t =>
      t.laneSt l = 1 ∧ t.has (Fld.LANE_STAT_LOCK l) = false ∧ (t.lane l).goal = none ∧ Fires [EV.LANE_STANDBY l] s t
        ∧ RegsBut [Reg.LANE_STAT l] s t ∧ t = { s with regs := t.regs, lanes := t.lanes, edges := t.edges } := by
  have heq : exec (.laneTransitionDone l mV res fault) s = .next (s.laneStandby l) :=
    congrArg Host.Outcome.next (stepSegment_standby hg hst)
  exact .of_eq heq ⟨regs_laneStandby.1, regs_laneStandby.2, goal_laneStandby hl, .fire rfl, regsBut_laneStandby,
    onlyIn_laneStandby.frame_regs_lanes_edges⟩

theorem answers_transition_synth {l : Lane} (hl : l.val < s.lanes.length) (hg : (s.lane l).goal = some .synth)
    (hst : s.laneSt l = 1 ∨ s.laneSt l = 2) (hfull : (s.lane l).fullCal = false) (hbad : (s.lane l).calBad = []) (hpans : s.NoPans) :
    Answers (exec (.laneTransitionDone l mV res fault) s) fun t =>
      t.laneSt l = 2 ∧ t.has (Fld.LANE_STAT_LOCK l) = true ∧ t.laneBand l = freqBand (s.get (Fld.LANE_FREQ_FREQ l))
        ∧ (t.lane l).lockedFreq = s.get (Fld.LANE_FREQ_FREQ l) ∧ (t.lane l).goal = none ∧ Fires [EV.LANE_LOCK l] s t
        ∧ RegsBut [Reg.LANE_STAT l] s t ∧ t = { s with regs := t.regs, lanes := t.lanes, edges := t.edges } := by
  obtain ⟨u, hu⟩ := stepLock_of_sound (res := res) (fault := fault) hl l.isLt hbad hfull hpans
  have heq : exec (.laneTransitionDone l mV res fault) s
      = .next (stepArrived l (s.laneLocked l (s.get (Fld.LANE_FREQ_FREQ l)) u)) := by
    rw [← hu]
    exact congrArg Host.Outcome.next (stepSegment_synth hg hst)
  have hlane : (stepArrived l (s.laneLocked l (s.get (Fld.LANE_FREQ_FREQ l)) u)).lane l
      = { s.lane l with lockedFreq := s.get (Fld.LANE_FREQ_FREQ l), calUsed := u, goal := none } := by
    rw [lane_stepArrived (length_lanes_laneLocked.symm ▸ hl), lanes_laneLocked hl]
  obtain ⟨hst', hlock, hband⟩ := regs_laneLocked (s := s) (l := l) (f := s.get (Fld.LANE_FREQ_FREQ l)) (u := u)
  refine .of_eq heq ⟨?_, ?_, ?_, by rw [hlane], by rw [hlane], ?_, ?_, OnlyIn.frame_regs_lanes_edges ?_⟩
  · rw [laneSt_stepArrived, hst']
  · rw [has_stepArrived, hlock]
  · rw [laneBand_stepArrived, hband]
  · rw [Fires, edges_stepArrived]
    exact fires_laneLocked
  · exact regsBut_stepArrived.mpr regsBut_laneLocked
  · exact onlyIn_laneLocked.trans (onlyIn_stepArrived.mono (by decide))

/-! ### RX -/

theorem panLaneStart_of_noPans (h2 : l < 2) (h : s.NoPans) : panLaneStart l s = s := by
  refine forEach_eq_self fun p hp => if_neg ?_
  obtain ⟨k, hk, rfl⟩ := List.mem_map.mp hp
  have hk8 : k < 8 := List.mem_range.mp hk
  simp [panEnabled, h (8 * l + k) (by omega)]

/-- A lane has come to RX from SYNTH. -/
def State.laneReceiving (l : Nat) (u : List (Nat × Word)) (s : State) : State :=
  let s := (s.setLaneSt l 3).laneUsed l u
  s.setLane l { s.lane l with rxFrom := s.elapsed, goal := none }

theorem laneSt_laneReceiving {u : List (Nat × Word)} : (s.laneReceiving l u).laneSt l = 3 := State.get_put_fits rfl

theorem regsBut_laneReceiving {u : List (Nat × Word)} : RegsBut [Reg.LANE_STAT l] s (s.laneReceiving l u) :=
  (regsBut_put (f := Fld.LANE_STAT_STATE l) (v := 3) (List.mem_singleton_self _)).mpr .refl

theorem has_BAND_laneReceiving {u : List (Nat × Word)} :
    (s.laneReceiving l u).has (Fld.LANE_STAT_BAND l) = s.has (Fld.LANE_STAT_BAND l) := State.has_put_bitsApart rfl rfl

theorem onlyIn_laneReceiving {u : List (Nat × Word)} : OnlyIn [.regs, .lanes] s (s.laneReceiving l u) := .of_frame rfl

theorem lane_laneReceiving {u : List (Nat × Word)} (hl : l < s.lanes.length) :
    (s.laneReceiving l u).lane l = { s.lane l with rxFrom := s.elapsed, goal := none, calUsed := u } := by
  rw [State.laneReceiving]
  refine (State.lane_setLane_self (by simpa [State.laneUsed, State.setLaneSt] using hl)).trans ?_
  rw [State.lane_laneUsed (s := s.setLaneSt l 3) hl]
  rfl

theorem regsBut_gainStart : RegsBut [Reg.MODEM_LANEGAIN l] s (gainStart l s) :=
  (regsBut_put (f := Fld.MODEM_LANEGAIN_GAIN l) (v := gainLast s l) (List.mem_singleton_self _)).mpr .refl

theorem onlyIn_gainStart : OnlyIn [.regs, .modem] s (gainStart l s) := .of_frame rfl

theorem lane_gainStart : (gainStart l s).lane l = s.lane l := rfl

theorem get_GAIN_gainStart : (gainStart l s).get (Fld.MODEM_LANEGAIN_GAIN l) = gainLast s l := by
  have hlt : gainLast s l < 32 := by
    rw [gainLast]
    split
    · exact State.get_lt (f := Fld.MODEM_LANEGAIN_LBLAST l)
    · exact State.get_lt (f := Fld.MODEM_LANEGAIN_HBLAST l)
  exact (State.get_put_fits (f := Fld.MODEM_LANEGAIN_GAIN l) rfl).trans (Nat.mod_eq_of_lt hlt)

theorem Reg.MODEM_LANEGAIN_ne_LANE_STAT (h2 : l < 2) : Reg.MODEM_LANEGAIN l ≠ Reg.LANE_STAT l := by
  simp only [Reg.MODEM_LANEGAIN, Reg.LANE_STAT]
  omega

theorem gainLast_laneReceiving {u : List (Nat × Word)} (h2 : l < 2) : gainLast (s.laneReceiving l u) l = gainLast s l := by
  have hne : Reg.MODEM_LANEGAIN l ∉ [Reg.LANE_STAT l] := by simpa using Reg.MODEM_LANEGAIN_ne_LANE_STAT h2
  rw [gainLast, gainLast, has_BAND_laneReceiving, regsBut_laneReceiving.get (f := Fld.MODEM_LANEGAIN_LBLAST l) hne,
    regsBut_laneReceiving.get (f := Fld.MODEM_LANEGAIN_HBLAST l) hne]

theorem laneEnterRx_of_sound (hl : l < s.lanes.length) (h2 : l < 2) (hbad : (s.lane l).calBad = []) (hpans : s.NoPans) :
    ∃ u, laneEnterRx l s = (gainStart l (s.laneReceiving l u)).fire (EV.LANE_RXON l) := by
  obtain ⟨u, hu⟩ := calUseRx_of_sound (s := s.setLaneSt l 3) hl hbad
  have hpans' : (gainStart l (s.laneReceiving l u)).NoPans := fun p hp => by
    rw [regsBut_gainStart.has, regsBut_laneReceiving.has]
    · exact hpans p hp
    all_goals
      simp only [Fld.MODEM_PANCFG_EN, Reg.MODEM_PANCFG, Reg.LANE_STAT, Reg.MODEM_LANEGAIN, List.mem_cons, List.not_mem_nil, or_false]
      omega
  refine ⟨u, ?_⟩
  rw [laneEnterRx, hu]
  exact congrArg (State.fire (EV.LANE_RXON l)) (panLaneStart_of_noPans h2 hpans')

/-- A lane that holds its lock and whose port has settled goes on from SYNTH. -/
structure State.LockedAt (s : State) (l : Nat) : Prop where
  state : s.laneSt l = 2
  lock : s.has (Fld.LANE_STAT_LOCK l) = true
  freq : (s.lane l).lockedFreq = s.get (Fld.LANE_FREQ_FREQ l)
  full : (s.lane l).fullCal = false
  settled : (s.lane l).settling = false

theorem stepSegment_rx {m : Nat} (h : s.LockedAt l) (hg : (s.lane l).goal = some .rx) (href : rxRefCode s = 0) :
    stepSegment l m res fault s = laneEnterRx l s := by
  simp [stepSegment, hg, h.state, h.lock, h.freq, h.full, h.settled, href]

theorem OnlyIn.frame_regs_lanes_modem_edges (h : OnlyIn [.regs, .lanes, .modem, .edges] s t) :
    t = { s with regs := t.regs, lanes := t.lanes, modem := t.modem, edges := t.edges } := h.frame

theorem answers_transition_rx {l : Lane} (hl : l.val < s.lanes.length) (h : s.LockedAt l) (hg : (s.lane l).goal = some .rx)
    (href : rxRefCode s = 0) (hbad : (s.lane l).calBad = []) (hpans : s.NoPans) :
    Answers (exec (.laneTransitionDone l mV res fault) s) fun t =>
      t.laneSt l = 3 ∧ (t.lane l).goal = none ∧ (t.lane l).rxFrom = s.elapsed
        ∧ t.get (Fld.MODEM_LANEGAIN_GAIN l) = gainLast s l ∧ Fires [EV.LANE_RXON l] s t
        ∧ RegsBut [Reg.LANE_STAT l, Reg.MODEM_LANEGAIN l] s t
        ∧ t = { s with regs := t.regs, lanes := t.lanes, modem := t.modem, edges := t.edges } := by
  obtain ⟨u, hu⟩ := laneEnterRx_of_sound hl l.isLt hbad hpans
  have heq : exec (.laneTransitionDone l mV res fault) s = .next ((gainStart l (s.laneReceiving l u)).fire (EV.LANE_RXON l)) := by
    rw [← hu]
    exact congrArg Host.Outcome.next (stepSegment_rx h hg href)
  have hlane : ((gainStart l (s.laneReceiving l u)).fire (EV.LANE_RXON l)).lane l
      = { s.lane l with rxFrom := s.elapsed, goal := none, calUsed := u } := by
    rw [← lane_laneReceiving hl, ← lane_gainStart (s := s.laneReceiving l u)]
    rfl
  refine .of_eq heq ⟨?_, by rw [hlane], by rw [hlane], ?_, ?_, ?_, OnlyIn.frame_regs_lanes_modem_edges ?_⟩
  · rw [State.laneSt, State.get_fire, regsBut_gainStart.get, ← State.laneSt, laneSt_laneReceiving]
    simpa [Fld.LANE_STAT_STATE] using (Reg.MODEM_LANEGAIN_ne_LANE_STAT l.isLt).symm
  · rw [State.get_fire, get_GAIN_gainStart, gainLast_laneReceiving l.isLt]
  · exact Fires.fire ((onlyIn_gainStart.edges (by decide)).trans (onlyIn_laneReceiving.edges (by decide)))
  · exact regsBut_fire.mpr ((regsBut_laneReceiving.mono (by simp)).trans (regsBut_gainStart.mono (by simp)))
  · rw [onlyIn_fire (by decide)]
    exact (onlyIn_laneReceiving.mono (by decide)).trans (onlyIn_gainStart.mono (by decide))

/-! ### TX -/

theorem regsBut_powerClamp {k m : Nat} {level : Int} : RegsBut [Reg.LANE_PWRSTAT l, Reg.LANE_FLAGS l] s (powerClamp l k level m s) := by
  rw [powerClamp]
  exact regsBut_ite (by simp [Fld.LANE_PWRSTAT_TARGET, Fld.LANE_PWRSTAT_LIMIT, Fld.LANE_PWRSTAT_HEADROOM, Fld.LANE_FLAGS_PWRCLAMP])
    (by simp [Fld.LANE_PWRSTAT_TARGET, Fld.LANE_PWRSTAT_LIMIT, Fld.LANE_PWRSTAT_HEADROOM])

theorem onlyIn_powerClamp {k m : Nat} {level : Int} : OnlyIn [.regs, .edges] s (powerClamp l k level m s) := by
  rw [powerClamp]
  exact .ite (by simp) (by simp)

theorem getS_TARGET_powerClamp {k m : Nat} {level : Int} :
    (powerClamp l k level m s).getS (Fld.LANE_PWRSTAT_TARGET l) = toS 8 (ofS 8 (targetPower s l k level m)) := by
  have h : ∀ a b : Nat, ((((s.putS (Fld.LANE_PWRSTAT_TARGET l) (targetPower s l k level m)).put (Fld.LANE_PWRSTAT_LIMIT l) a).put
      (Fld.LANE_PWRSTAT_HEADROOM l) b).getS (Fld.LANE_PWRSTAT_TARGET l)) = toS 8 (ofS 8 (targetPower s l k level m)) := by
    simp [State.putS_eq_put, Fld.LANE_PWRSTAT_TARGET, Fld.LANE_PWRSTAT_LIMIT, Fld.LANE_PWRSTAT_HEADROOM]
  have hflag : ∀ x : State, ((x.flag (Fld.LANE_FLAGS_PWRCLAMP l)).fire (EV.LANE_PWRCLAMP l)).getS (Fld.LANE_PWRSTAT_TARGET l)
      = x.getS (Fld.LANE_PWRSTAT_TARGET l) := fun x => State.getS_eq_of_get (State.get_put_other
        (by simp [Fld.LANE_PWRSTAT_TARGET, Fld.LANE_FLAGS_PWRCLAMP, Reg.LANE_PWRSTAT, Reg.LANE_FLAGS]))
  rw [powerClamp]
  split
  · rw [hflag, h]
  · exact h _ _

theorem edges_powerClamp {k m : Nat} {level : Int} : ∃ es, (powerClamp l k level m s).edges = s.edges ++ es := by
  rw [powerClamp]
  split
  · exact ⟨[.producer (EV.LANE_PWRCLAMP l)], by simp [State.fire]⟩
  · exact ⟨[], by simp⟩

theorem regsBut_lifeCount64 {w : Nat} : RegsBut [Reg.LIFE_VAL w, Reg.LIFE_VAL (w + 1)] s (lifeCount64 w n s) := by
  rw [lifeCount64, lifeEvent]
  exact regsBut_ite .refl (by simp [lifeApply])

/-- The state of a transmission that starts, before its count. -/
def State.laneSending (l : Nat) (u : List (Nat × Word)) (s : State) : State :=
  let s := ((s.laneUsed l u).setLaneSt l 4)
  s.setLane l { s.lane l with txFrom := s.elapsed, goal := none }

/-- The transmission is counted where a port carries it. -/
def State.launchCounted (l : Nat) (s : State) : State := if chainConnected s l (s.laneBand l) then lifeCount64 12 1 s else s

theorem laneStartTx_of_synth (h : s.laneSt l = 2) (hbad : (s.lane l).calBad = []) :
    ∃ u, laneStartTx l s = ((s.laneSending l u).launchCounted l).fire (EV.LANE_TXSTART l) := by
  obtain ⟨u, hu⟩ := calUseVco_of_sound (l := l) (s := s) (f := s.get (Fld.LANE_FREQ_FREQ l)) hbad
  refine ⟨u, ?_⟩
  rw [laneStartTx, laneLeaveRx_of_other (by omega), hu]
  rfl

theorem onlyIn_launchCounted : OnlyIn [.regs, .life] s (s.launchCounted l) := .ite onlyIn_lifeEvent .refl

theorem regsBut_launchCounted : RegsBut [Reg.LIFE_VAL 12, Reg.LIFE_VAL 13] s (s.launchCounted l) := regsBut_ite regsBut_lifeCount64 .refl

theorem onlyIn_laneSending {u : List (Nat × Word)} : OnlyIn [.regs, .lanes] s (s.laneSending l u) := .of_frame rfl

theorem regsBut_laneSending {u : List (Nat × Word)} : RegsBut [Reg.LANE_STAT l] s (s.laneSending l u) :=
  (regsBut_put (f := Fld.LANE_STAT_STATE l) (v := 4) (List.mem_singleton_self _)).mpr .refl

theorem laneSt_laneSending {u : List (Nat × Word)} : (s.laneSending l u).laneSt l = 4 := State.get_put_fits rfl

theorem lane_laneSending {u : List (Nat × Word)} (hl : l < s.lanes.length) :
    (s.laneSending l u).lane l = { s.lane l with txFrom := s.elapsed, goal := none, calUsed := u } := by
  rw [State.laneSending]
  refine (State.lane_setLane_self (by simpa [State.laneUsed, State.setLaneSt] using hl)).trans ?_
  have h : ((s.laneUsed l u).setLaneSt l 4).lane l = { s.lane l with calUsed := u } := State.lane_laneUsed hl
  rw [h]
  rfl

/-- The notes of a stepwise transmission in sub-band k. -/
def State.txNoted (l k : Nat) (s : State) : State :=
  s.setLane l { s.lane l with txSub := some k, txPaid := s.elapsed, lbtClear := false, lbtWait := false }

theorem onlyIn_txNoted {k : Nat} : OnlyIn [.lanes] s (s.txNoted l k) := .of_frame rfl
theorem State.rd_txNoted {k a : Nat} : (s.txNoted l k).rd a = s.rd a := rfl

/-- The power of a stepwise transmission in sub-band k is set. -/
def State.laneClamped (l k mV : Nat) (s : State) : State :=
  powerClamp l k (s.getS (Fld.LANE_PWR_LEVEL l)) mV (bucketSettle k s)

theorem onlyIn_laneClamped {k m : Nat} : OnlyIn [.regs, .edges, .rf] s (s.laneClamped l k m) :=
  (onlyIn_bucketSettle.mono (by decide)).trans (onlyIn_powerClamp.mono (by decide))

theorem regsBut_laneClamped {k m : Nat} : RegsBut [Reg.LANE_PWRSTAT l, Reg.LANE_FLAGS l] s (s.laneClamped l k m) :=
  RegsBut.trans (.of_regs (onlyIn_bucketSettle.regs (by decide))) regsBut_powerClamp

theorem lane_laneClamped {k m : Nat} : (s.laneClamped l k m).lane l = s.lane l := State.lane_congr (onlyIn_laneClamped.lanes (by decide))

theorem laneSt_laneClamped {k m : Nat} : (s.laneClamped l k m).laneSt l = s.laneSt l :=
  regsBut_laneClamped.get (by simp [Fld.LANE_STAT_STATE, Reg.LANE_STAT, Reg.LANE_PWRSTAT, Reg.LANE_FLAGS])

theorem edges_laneClamped {k m : Nat} : ∃ es, (s.laneClamped l k m).edges = s.edges ++ es := edges_powerClamp (s := bucketSettle k s)

theorem targetPower_bucketSettle {k m : Nat} {level : Int} :
    targetPower (bucketSettle n s) l k level m = targetPower s l k level m := rfl

theorem getS_TARGET_laneClamped {k m : Nat} : (s.laneClamped l k m).getS (Fld.LANE_PWRSTAT_TARGET l)
    = toS 8 (ofS 8 (targetPower s l k (s.getS (Fld.LANE_PWR_LEVEL l)) m)) := by
  rw [State.laneClamped, getS_TARGET_powerClamp, targetPower_bucketSettle]

/-- A stepwise transmission has started. -/
def State.laneTransmitting (l k m : Nat) (u : List (Nat × Word)) (s : State) : State :=
  ((((s.laneClamped l k m).laneSending l u).launchCounted l).fire (EV.LANE_TXSTART l)).txNoted l k

theorem stepEnterTx_of_free {k m : Nat} (hst : s.laneSt l = 2) (hbad : (s.lane l).calBad = []) (hcode : stepTxCode s l = 0)
    (hk : stepSubBand s l (s.lane l).goalMode = some k) (hlbt : lbtTicks s k = 0) :
    ∃ u, stepEnterTx l m s = s.laneTransmitting l k m u := by
  obtain ⟨u, hu⟩ := laneStartTx_of_synth (s := s.laneClamped l k m) (l := l) (laneSt_laneClamped.trans hst)
    (by rw [lane_laneClamped, hbad])
  refine ⟨u, ?_⟩
  rw [State.laneTransmitting, ← hu, stepEnterTx, if_neg (by simp [hcode]), hk]
  exact if_neg (by simp [hlbt])

theorem stepSegment_tx {m : Nat} (h : s.LockedAt l) (hg : (s.lane l).goal = some .tx) (hw : (s.lane l).lbtWait = false) :
    stepSegment l m res fault s = stepEnterTx l m s := by
  simp [stepSegment, hg, h.state, h.lock, h.freq, h.full, h.settled, hw]

theorem State.elapsed_congr (h : t.tide = s.tide) : t.elapsed = s.elapsed := by rw [State.elapsed, State.elapsed, h]

theorem lanes_beforeTxNoted {k m : Nat} {u : List (Nat × Word)} :
    ((((s.laneClamped l k m).laneSending l u).launchCounted l).fire (EV.LANE_TXSTART l)).lanes
      = ((s.laneClamped l k m).laneSending l u).lanes := onlyIn_launchCounted.lanes (by decide)

theorem lane_laneTransmitting {k m : Nat} {u : List (Nat × Word)} (hl : l < s.lanes.length) :
    ((s.laneTransmitting l k m u).lane l).txSub = some k ∧ ((s.laneTransmitting l k m u).lane l).txFrom = s.elapsed
      ∧ ((s.laneTransmitting l k m u).lane l).goal = none := by
  have hlen : l < (s.laneClamped l k m).lanes.length := by rwa [onlyIn_laneClamped.lanes (by decide)]
  have hlen' : l < ((((s.laneClamped l k m).laneSending l u).launchCounted l).fire (EV.LANE_TXSTART l)).lanes.length := by
    rw [lanes_beforeTxNoted]
    simpa [State.laneSending, State.laneUsed, State.setLaneSt] using hlen
  have hlane : ((((s.laneClamped l k m).laneSending l u).launchCounted l).fire (EV.LANE_TXSTART l)).lane l
      = { (s.laneClamped l k m).lane l with txFrom := s.elapsed, goal := none, calUsed := u } := by
    rw [State.lane_congr lanes_beforeTxNoted, lane_laneSending hlen, State.elapsed_congr (onlyIn_laneClamped.tide (by decide))]
  rw [State.laneTransmitting, State.txNoted, State.lane_setLane_self hlen', hlane]
  exact ⟨rfl, rfl, rfl⟩

theorem rd_laneTransmitting {k m a : Nat} {u : List (Nat × Word)} (h : a ∉ [Reg.LANE_STAT l, Reg.LIFE_VAL 12, Reg.LIFE_VAL 13]) :
    (s.laneTransmitting l k m u).rd a = (s.laneClamped l k m).rd a := by
  simp only [List.mem_cons, List.not_mem_nil, or_false, not_or] at h
  rw [State.laneTransmitting, State.rd_txNoted, State.rd_fire, regsBut_launchCounted _ (by simp [h]), regsBut_laneSending _ (by simp [h])]

theorem laneSt_laneTransmitting {k m : Nat} {u : List (Nat × Word)} (h2 : l < 2) : (s.laneTransmitting l k m u).laneSt l = 4 := by
  rw [State.laneTransmitting, State.laneSt, State.get_eq_of_rd State.rd_txNoted, State.get_fire, regsBut_launchCounted.get, ← State.laneSt,
    laneSt_laneSending]
  simp only [Fld.LANE_STAT_STATE, Reg.LANE_STAT, Reg.LIFE_VAL, List.mem_cons, List.not_mem_nil, or_false]
  omega

theorem edges_laneTransmitting {k m : Nat} {u : List (Nat × Word)} :
    EV.LANE_TXSTART l ∈ ((s.laneTransmitting l k m u).edges.drop s.edges.length).filterMap Edge.source := by
  obtain ⟨es, hes⟩ := edges_laneClamped (s := s) (l := l) (k := k) (m := m)
  have h : (s.laneTransmitting l k m u).edges = s.edges ++ (es ++ [.producer (EV.LANE_TXSTART l)]) := by
    rw [State.laneTransmitting, onlyIn_txNoted.edges (by decide), State.fire, onlyIn_launchCounted.edges (by decide),
      onlyIn_laneSending.edges (by decide), hes, List.append_assoc]
  simp [h, Edge.source]

theorem answers_transition_tx {l : Lane} {k : Nat} (hl : l.val < s.lanes.length) (h : s.LockedAt l) (hg : (s.lane l).goal = some .tx)
    (hw : (s.lane l).lbtWait = false) (hcode : stepTxCode s l = 0) (hk : stepSubBand s l (s.lane l).goalMode = some k)
    (hlbt : lbtTicks s k = 0) (hbad : (s.lane l).calBad = []) :
    Answers (exec (.laneTransitionDone l mV res fault) s) fun t =>
      t.laneSt l = 4 ∧ (t.lane l).txSub = some k ∧ (t.lane l).txFrom = s.elapsed ∧ (t.lane l).goal = none
        ∧ t.getS (Fld.LANE_PWRSTAT_TARGET l)
            = toS 8 (ofS 8 (targetPower s l k (s.getS (Fld.LANE_PWR_LEVEL l)) mV.toNat))
        ∧ EV.LANE_TXSTART l ∈ (t.edges.drop s.edges.length).filterMap Edge.source
        ∧ RegsOutside (fun a => a == Reg.LANE_STAT l || a == Reg.LANE_PWRSTAT l || a == Reg.LANE_FLAGS l
            || Reg.LIFE_VAL 0 ≤ a && a < Reg.LIFE_VAL 32) s t := by
  obtain ⟨u, hu⟩ := stepEnterTx_of_free (m := mV.toNat) h.state hbad hcode hk hlbt
  have heq : exec (.laneTransitionDone l mV res fault) s = .next (s.laneTransmitting l k mV.toNat u) := by
    rw [← hu]
    exact congrArg Host.Outcome.next (stepSegment_tx h hg hw)
  obtain ⟨hsub, hfrom, hgoal⟩ := lane_laneTransmitting (k := k) (m := mV.toNat) (u := u) hl
  have hpwr : Reg.LANE_PWRSTAT l ∉ [Reg.LANE_STAT l, Reg.LIFE_VAL 12, Reg.LIFE_VAL 13] := by
    simp only [Reg.LANE_PWRSTAT, Reg.LANE_STAT, Reg.LIFE_VAL, List.mem_cons, List.not_mem_nil, or_false]
    omega
  refine .of_eq heq ⟨laneSt_laneTransmitting l.isLt, hsub, hfrom, hgoal, ?power, edges_laneTransmitting, fun a ha => ?others⟩
  case power =>
    rw [State.getS_eq_of_get (State.get_eq_of_rd (f := Fld.LANE_PWRSTAT_TARGET l) (rd_laneTransmitting hpwr)), getS_TARGET_laneClamped]
  case others =>
    simp only [Bool.or_eq_false_iff, Bool.and_eq_false_iff, beq_eq_false_iff_ne, Reg.LIFE_VAL] at ha
    obtain ⟨⟨⟨hstat, hpwrstat⟩, hflags⟩, hlife⟩ := ha
    have hlife : ¬ 1342193920 + 4 * 0 ≤ a ∨ ¬ a < 1342193920 + 4 * 32 := hlife.imp of_decide_eq_false of_decide_eq_false
    have hout : a ∉ [Reg.LANE_STAT l, Reg.LIFE_VAL 12, Reg.LIFE_VAL 13] := by
      simp only [Reg.LIFE_VAL, List.mem_cons, List.not_mem_nil, or_false, not_or]
      omega
    rw [rd_laneTransmitting hout, regsBut_laneClamped a (by simp [hpwrstat, hflags])]

/-- Settles O20: each stepwise transition ends in its state, with its lock, its event and its notes. -/
theorem stepwiseTransitions : Obligations.StepwiseTransitions := by
  intro l mV res fault s hl
  refine ⟨answers_transition_standby hl, fun hg hst hfull hbad hpans => answers_transition_synth hl hg hst hfull hbad hpans,
    fun hst hlock hfreq hfull hsettled hbad => ?_⟩
  have h : s.LockedAt l := ⟨hst, hlock, hfreq, hfull, hsettled⟩
  exact ⟨fun hg href hpans => answers_transition_rx hl h hg href hbad hpans,
    fun k hg hw hcode hk hlbt => answers_transition_tx hl h hg hw hcode hk hlbt hbad⟩

end Sys2Proof.Machine
end

section
/-!
SUPPORT. Stepwise work that fails or is cut off (R154, R171, R172, R349).
-/

namespace Sys2Proof.Machine

variable {s t : State} {l n k : Nat}

/-! ### A lock that does not come -/

/-- A lane back in STANDBY without a lock and without a goal. -/
def State.laneFallen (l : Nat) (s : State) : State :=
  let s := laneUnlock l (s.setLaneSt l 1)
  s.setLane l { s.lane l with goal := none, fullCal := false, lbtWait := false }

/-- The marks of a lock that did not come. -/
def State.lockFailed (l : Nat) (s : State) : State :=
  laneCode l 0x0102 ((s.flag (Fld.LANE_FLAGS_LOCKFAIL l)).fire (EV.LANE_LOCKFAIL l))

theorem filter_acts_eq_nil {q : Activity → Bool} (h : ∀ a ∈ s.acts, a.lane ≠ l) :
    s.acts.filter (fun a => a.lane == l && q a) = [] := by
  rw [List.filter_eq_nil_iff]
  intro a ha
  simp [h a ha]

theorem exec_synthLockTimeout_of_free {l : Lane} (h : ∀ a ∈ s.acts, a.lane ≠ l.val) :
    exec (.synthLockTimeout l) s = .next ((s.laneFallen l).lockFailed l) := by
  have hacts : (s.laneFallen l).acts.filter (fun a => a.lane == l.val && a.phase == .presented) = [] :=
    filter_acts_eq_nil (s := s) (q := fun a => a.phase == .presented) h
  show Host.Outcome.next (((s.laneFallen l).forEach ((s.laneFallen l).acts.filter fun a => a.lane == l.val && a.phase == .presented)
    (fun a s => refuseAct a 0x0102 s)).lockFailed l) = _
  rw [hacts]
  rfl

theorem regs_laneFallen : (s.laneFallen l).laneSt l = 1 ∧ (s.laneFallen l).has (Fld.LANE_STAT_LOCK l) = false := by
  simp [State.laneFallen, laneUnlock, State.setLaneSt, State.laneSt, State.unflag_eq_put, Fld.LANE_STAT_STATE, Fld.LANE_STAT_LOCK]

theorem regsBut_laneFallen : RegsBut [Reg.LANE_STAT l] s (s.laneFallen l) := by
  simp [State.laneFallen, laneUnlock, State.setLaneSt, Fld.LANE_STAT_STATE, Fld.LANE_STAT_LOCK]

theorem onlyIn_laneFallen : OnlyIn [.regs, .lanes] s (s.laneFallen l) := .of_frame rfl

theorem goal_laneFallen (hl : l < s.lanes.length) : ((s.laneFallen l).lane l).goal = none := by
  rw [State.laneFallen, State.lane_setLane_self (s := laneUnlock l (s.setLaneSt l 1)) hl]

theorem regs_lockFailed : (s.lockFailed l).has (Fld.LANE_FLAGS_LOCKFAIL l) = true
    ∧ (s.lockFailed l).get (Fld.LANE_LASTCODE_CODE l) = 0x0102 := by
  simp [State.lockFailed, laneCode, State.flag_eq_put, Fld.LANE_FLAGS_LOCKFAIL, Fld.LANE_LASTCODE_CODE, Reg.LANE_FLAGS, Reg.LANE_LASTCODE]

theorem regsBut_lockFailed : RegsBut [Reg.LANE_FLAGS l, Reg.LANE_LASTCODE l] s (s.lockFailed l) := by
  simp [State.lockFailed, laneCode, Fld.LANE_FLAGS_LOCKFAIL, Fld.LANE_LASTCODE_CODE]

theorem onlyIn_lockFailed : OnlyIn [.regs, .edges] s (s.lockFailed l) := by simp [State.lockFailed, laneCode]

theorem fires_lockFailed : Fires [EV.LANE_LOCKFAIL l] s (s.lockFailed l) := by
  rw [Fires, State.lockFailed, laneCode, State.put_edges]
  exact Fires.fire (State.flag_edges s _)

theorem answers_synthLockTimeout {l : Lane} (hl : l.val < s.lanes.length) (h : ∀ a ∈ s.acts, a.lane ≠ l.val) :
    Answers (exec (.synthLockTimeout l) s) fun t =>
      t.laneSt l = 1 ∧ t.has (Fld.LANE_STAT_LOCK l) = false ∧ (t.lane l).goal = none
        ∧ t.has (Fld.LANE_FLAGS_LOCKFAIL l) = true ∧ t.get (Fld.LANE_LASTCODE_CODE l) = 0x0102
        ∧ Fires [EV.LANE_LOCKFAIL l] s t ∧ RegsBut [Reg.LANE_STAT l, Reg.LANE_FLAGS l, Reg.LANE_LASTCODE l] s t
        ∧ t = { s with regs := t.regs, lanes := t.lanes, edges := t.edges } := by
  have hstat : Reg.LANE_STAT l.val ∉ [Reg.LANE_FLAGS l.val, Reg.LANE_LASTCODE l.val] := by
    simp [Reg.LANE_STAT, Reg.LANE_FLAGS, Reg.LANE_LASTCODE]
  refine .of_eq (exec_synthLockTimeout_of_free h) ⟨?_, ?_, ?_, regs_lockFailed.1, regs_lockFailed.2, ?_, ?_,
    OnlyIn.frame_regs_lanes_edges ?_⟩
  · rw [State.laneSt, regsBut_lockFailed.get hstat, ← State.laneSt, regs_laneFallen.1]
  · rw [regsBut_lockFailed.has hstat, regs_laneFallen.2]
  · rw [State.lane_congr (onlyIn_lockFailed.lanes (by decide))]
    exact goal_laneFallen hl
  · exact (onlyIn_laneFallen.fires (by decide)).append fires_lockFailed
  · exact (regsBut_laneFallen.mono (by simp)).trans (regsBut_lockFailed.mono (by simp))
  · exact (onlyIn_laneFallen.mono (by decide)).trans (onlyIn_lockFailed.mono (by decide))

/-! ### A running stepwise transmission is cut off -/

theorem onlyIn_stepDebit : OnlyIn [.rf, .lanes] s (stepDebit l s) := by
  rw [stepDebit]
  split
  · exact .refl
  · exact .ite .refl ((onlyIn_setLane (by decide)).mpr ((onlyIn_setBucket (by decide)).mpr .refl))

theorem length_lanes_stepDebit : (stepDebit l s).lanes.length = s.lanes.length := by
  rw [stepDebit]
  split
  · rfl
  · split
    · rfl
    · exact length_setNth

theorem portWait_stepDebit : (stepDebit l s).rf.portWait = s.rf.portWait := by
  rw [stepDebit]
  split
  · rfl
  · split <;> rfl

/-- The power that the transmission delivered is noted. -/
def State.txDelivered (l : Nat) (s : State) : State := (s.put (Fld.LANE_PWRSTAT_DELIVERED l) s.freeNat).freeNext

/-- The transmission's end is noted. -/
def State.txEndNoted (l : Nat) (s : State) : State := s.setLane l { s.lane l with txTo := some s.elapsed }

theorem onlyIn_txDelivered : OnlyIn [.regs, .freeCounter] s (s.txDelivered l) := .of_frame rfl

theorem rd_txDelivered {a : Nat} (h : a ≠ Reg.LANE_PWRSTAT l) : (s.txDelivered l).rd a = s.rd a := State.rd_put_other h

theorem onlyIn_txEndNoted : OnlyIn [.lanes] s (s.txEndNoted l) := .of_frame rfl

theorem lane_txEndNoted (hl : l < s.lanes.length) : (s.txEndNoted l).lane l = { s.lane l with txTo := some s.elapsed } :=
  State.lane_setLane_self hl

/-- The time on air that has not reached a full unit is kept. -/
def State.airKept (slot ticks : Nat) (s : State) : State :=
  { s with life := { s.life with airRest := setNth s.life.airRest slot ((nth 0 s.life.airRest slot + ticks) % 2 ^ 20) } }

theorem lifeAir_eq {ticks : Nat} : lifeAir n ticks s = if (nth 0 s.life.airRest n + ticks) / 2 ^ 20 = 0 then s.airKept n ticks
    else lifeCount (6 + n) 0 32 ((nth 0 s.life.airRest n + ticks) / 2 ^ 20) (s.airKept n ticks) := rfl

theorem onlyIn_lifeAir {ticks : Nat} : OnlyIn [.regs, .life] s (lifeAir n ticks s) := by
  have h : OnlyIn [.regs, .life] s (s.airKept n ticks) := (onlyIn_life (by decide)).mpr .refl
  rw [lifeAir_eq]
  exact .ite h (h.trans onlyIn_lifeCount)

theorem rd_lifeAir {a ticks : Nat} (h : a < Reg.LIFE_VAL 0) : (lifeAir n ticks s).rd a = s.rd a := by
  rw [lifeAir_eq]
  split
  · rfl
  · exact (rd_lifeEvent (s := s.airKept n ticks) h).trans rfl

theorem portsRetry_of_none (h : s.rf.portWait = none) : portsRetry s = s := by rw [portsRetry, h]

/-- The time on air of a transmission that ends now is counted. -/
def State.txAired (l : Nat) (s : State) : State :=
  lifeAir (2 * l + s.laneBand l) (s.elapsed - (s.lane l).txFrom) (s.txEndNoted l)

theorem onlyIn_txAired : OnlyIn [.regs, .life, .lanes] s (s.txAired l) :=
  (onlyIn_txEndNoted.mono (by decide)).trans (onlyIn_lifeAir.mono (by decide))

theorem lanes_txAired : (s.txAired l).lanes = (s.txEndNoted l).lanes := onlyIn_lifeAir.lanes (by decide)

theorem rd_txAired {a : Nat} (h : a < Reg.LIFE_VAL 0) : (s.txAired l).rd a = s.rd a := rd_lifeAir h

/-- A transmission that ends takes its lane to state dest. -/
def State.txEnded (l dest : Nat) (s : State) : State := ((s.txDelivered l).txAired l).setLaneSt l dest

theorem onlyIn_txEnded {dest : Nat} : OnlyIn [.regs, .freeCounter, .life, .lanes] s (s.txEnded l dest) := by
  rw [State.txEnded, State.setLaneSt, onlyIn_put (by decide)]
  exact (onlyIn_txDelivered.mono (by decide)).trans (onlyIn_txAired.mono (by decide))

theorem laneEndTx_eq {dest : Nat} (h4 : s.laneSt l = 4) :
    laneEndTx l dest none s = portsRetry ((s.txEnded l dest).fire (EV.LANE_TXEND l)) := if_pos h4

theorem State.rf_fire {p : Nat} : (s.fire p).rf = s.rf := rfl

theorem laneEndTx_of_sending {dest : Nat} (h4 : s.laneSt l = 4) (hw : s.rf.portWait = none) :
    laneEndTx l dest none s = (s.txEnded l dest).fire (EV.LANE_TXEND l) := by
  rw [laneEndTx_eq h4, portsRetry_of_none]
  rw [State.rf_fire, onlyIn_txEnded.rf (by decide), hw]

theorem lane_txEnded {dest : Nat} (hl : l < s.lanes.length) : ((s.txEnded l dest).lane l).txSub = (s.lane l).txSub := by
  have h : ((s.txDelivered l).txAired l).lane l = { s.lane l with txTo := some (s.txDelivered l).elapsed } := by
    rw [State.lane_congr lanes_txAired, lane_txEndNoted (s := s.txDelivered l) hl]
    rfl
  have h' : (s.txEnded l dest).lane l = ((s.txDelivered l).txAired l).lane l := rfl
  rw [h', h]

theorem length_lanes_txEnded {dest : Nat} : (s.txEnded l dest).lanes.length = s.lanes.length := by
  have h : (s.txEnded l dest).lanes = ((s.txDelivered l).txAired l).lanes := rfl
  rw [h, lanes_txAired]
  exact length_setNth

theorem laneSt_txEnded {dest : Nat} : (s.txEnded l dest).laneSt l = dest % 8 := State.get_put_fits rfl

/-- The debit of a stepwise transmission is brought up to date, and it is no longer in progress. -/
def State.txStopped (l : Nat) (s : State) : State := (stepDebit l s).setLane l { (stepDebit l s).lane l with txSub := none }

theorem onlyIn_txStopped : OnlyIn [.rf, .lanes] s (s.txStopped l) := (onlyIn_setLane (by decide)).mpr onlyIn_stepDebit

theorem length_lanes_txStopped : (s.txStopped l).lanes.length = s.lanes.length := length_setNth.trans length_lanes_stepDebit

theorem txSub_txStopped (hl : l < s.lanes.length) : ((s.txStopped l).lane l).txSub = none := by
  rw [State.txStopped, State.lane_setLane_self (length_lanes_stepDebit.symm ▸ hl)]

theorem laneSt_txStopped : (s.txStopped l).laneSt l = s.laneSt l :=
  State.get_eq_of_rd (State.rd_congr (onlyIn_txStopped.regs (by decide)))

/-- A stepwise transmission that is cut off: STANDBY without a lock and without a goal. -/
def State.txCut (l : Nat) (s : State) : State :=
  let t := laneUnlock l (((s.txStopped l).txEnded l 1).fire (EV.LANE_TXEND l))
  t.setLane l { t.lane l with goal := none }

theorem stepCut_of_sending (hsub : (s.lane l).txSub.isSome = true) (h4 : s.laneSt l = 4) (hw : s.rf.portWait = none) :
    stepCut l s = s.txCut l := by
  have h : stepEndTx l 1 s = ((s.txStopped l).txEnded l 1).fire (EV.LANE_TXEND l) :=
    laneEndTx_of_sending (laneSt_txStopped.trans h4) (portWait_stepDebit.trans hw)
  rw [stepCut, if_pos hsub, h]
  rfl

theorem onlyIn_txCut : OnlyIn [.regs, .freeCounter, .life, .lanes, .rf, .edges] s (s.txCut l) := by
  rw [State.txCut, onlyIn_setLane (by decide), laneUnlock, onlyIn_unflag (by decide), onlyIn_fire (by decide)]
  exact (onlyIn_txStopped.mono (by decide)).trans (onlyIn_txEnded.mono (by decide))

theorem regs_txCut : (s.txCut l).laneSt l = 1 ∧ (s.txCut l).has (Fld.LANE_STAT_LOCK l) = false := by
  have h : ∀ t : State, (laneUnlock l t).get (Fld.LANE_STAT_STATE l) = t.get (Fld.LANE_STAT_STATE l) := fun t =>
    State.get_put_bitsApart rfl rfl
  rw [State.txCut, State.laneSt, State.get_setLane, State.has_setLane, h, State.get_fire, ← State.laneSt, laneSt_txEnded]
  exact ⟨rfl, State.has_unflag_fits rfl⟩

theorem lane_txCut (hl : l < s.lanes.length) : ((s.txCut l).lane l).txSub = none ∧ ((s.txCut l).lane l).goal = none := by
  have hlanes : (laneUnlock l (((s.txStopped l).txEnded l 1).fire (EV.LANE_TXEND l))).lanes = ((s.txStopped l).txEnded l 1).lanes := rfl
  have hlen : l < (laneUnlock l (((s.txStopped l).txEnded l 1).fire (EV.LANE_TXEND l))).lanes.length := by
    rw [hlanes, length_lanes_txEnded, length_lanes_txStopped]
    exact hl
  rw [State.txCut, State.lane_setLane_self hlen]
  refine ⟨?_, rfl⟩
  rw [State.lane_congr hlanes, lane_txEnded (length_lanes_txStopped.symm ▸ hl), txSub_txStopped hl]

theorem fires_txCut : Fires [EV.LANE_TXEND l] s (s.txCut l) := by
  have h : (s.txCut l).edges = (((s.txStopped l).txEnded l 1).fire (EV.LANE_TXEND l)).edges := rfl
  rw [Fires, h]
  exact Fires.fire ((onlyIn_txEnded.edges (by decide)).trans (onlyIn_txStopped.edges (by decide)))

theorem answers_stepwiseDutyExhaust {l : Lane} (hl : l.val < s.lanes.length) (hsub : (s.lane l).txSub.isSome = true)
    (h4 : s.laneSt l = 4) (hw : s.rf.portWait = none) : Answers (exec (.stepwiseDutyExhaust l) s) fun t =>
      t.laneSt l = 1 ∧ t.has (Fld.LANE_STAT_LOCK l) = false ∧ (t.lane l).txSub = none
        ∧ Fires [EV.LANE_TXEND l] s t ∧ SameBytes s t := by
  have heq : exec (.stepwiseDutyExhaust l) s = .next (s.txCut l) := congrArg Host.Outcome.next (stepCut_of_sending hsub h4 hw)
  exact ⟨_, heq, regs_txCut.1, regs_txCut.2, (lane_txCut hl).1, fires_txCut, onlyIn_txCut.sameBytes (by decide)⟩

/-- The marks of a transmission that reached its dwell limit. -/
def State.dwellReached (l : Nat) (s : State) : State := dwellFlag l (laneCode l 0x0303 s)

theorem onlyIn_dwellReached : OnlyIn [.regs, .edges] s (s.dwellReached l) := by simp [State.dwellReached, dwellFlag, laneCode]

theorem regsBut_dwellReached : RegsBut [Reg.LANE_FLAGS l, Reg.LANE_LASTCODE l] s (s.dwellReached l) := by
  simp [State.dwellReached, dwellFlag, laneCode, Fld.LANE_FLAGS_DWELL, Fld.LANE_LASTCODE_CODE]

theorem regs_dwellReached : (s.dwellReached l).has (Fld.LANE_FLAGS_DWELL l) = true
    ∧ (s.dwellReached l).get (Fld.LANE_LASTCODE_CODE l) = 0x0303 := by
  simp [State.dwellReached, dwellFlag, laneCode, State.flag_eq_put, Fld.LANE_FLAGS_DWELL, Fld.LANE_LASTCODE_CODE, Reg.LANE_FLAGS,
    Reg.LANE_LASTCODE]

theorem fires_dwellReached : Fires [EV.LANE_DWELL l] s (s.dwellReached l) :=
  Fires.fire ((State.flag_edges _ _).trans (State.put_edges _ _ _))

theorem answers_stepwiseDwellExpiry {l : Lane} (hl : l.val < s.lanes.length) (hsub : (s.lane l).txSub.isSome = true)
    (h4 : s.laneSt l = 4) (hw : s.rf.portWait = none) : Answers (exec (.stepwiseDwellExpiry l) s) fun t =>
      t.laneSt l = 1 ∧ t.has (Fld.LANE_STAT_LOCK l) = false ∧ (t.lane l).txSub = none ∧ (t.lane l).goal = none
        ∧ t.has (Fld.LANE_FLAGS_DWELL l) = true ∧ t.get (Fld.LANE_LASTCODE_CODE l) = 0x0303
        ∧ Fires [EV.LANE_TXEND l, EV.LANE_DWELL l] s t ∧ SameBytes s t := by
  have heq : exec (.stepwiseDwellExpiry l) s = .next ((s.txCut l).dwellReached l) := by
    rw [← stepCut_of_sending hsub h4 hw]
    exact congrArg Host.Outcome.next (if_pos hsub)
  have hstat : Reg.LANE_STAT l.val ∉ [Reg.LANE_FLAGS l.val, Reg.LANE_LASTCODE l.val] := by
    simp [Reg.LANE_STAT, Reg.LANE_FLAGS, Reg.LANE_LASTCODE]
  have hlane : ((s.txCut l).dwellReached l).lane l = (s.txCut l).lane l := State.lane_congr (onlyIn_dwellReached.lanes (by decide))
  refine ⟨_, heq, ?_, ?_, ?_, ?_, regs_dwellReached.1, regs_dwellReached.2, fires_txCut.append fires_dwellReached, ?_⟩
  · rw [State.laneSt, regsBut_dwellReached.get hstat, ← State.laneSt, regs_txCut.1]
  · rw [regsBut_dwellReached.has hstat, regs_txCut.2]
  · rw [hlane, (lane_txCut hl).1]
  · rw [hlane, (lane_txCut hl).2]
  · exact (onlyIn_txCut.sameBytes (by decide)).trans (onlyIn_dwellReached.sameBytes (by decide))

/-! ### Listen-before-talk -/

/-- A listen period that ended with the sub-band clear. -/
def State.lbtCleared (l : Nat) (s : State) : State := s.setLane l { s.lane l with lbtWait := false, lbtClear := true }

/-- A stepwise entry that is given up. -/
def State.entryDropped (l : Nat) (s : State) : State := s.setLane l { s.lane l with goal := none, lbtWait := false, lbtClear := false }

theorem onlyIn_lbtCleared : OnlyIn [.lanes] s (s.lbtCleared l) := .of_frame rfl
theorem onlyIn_entryDropped : OnlyIn [.lanes] s (s.entryDropped l) := .of_frame rfl
theorem State.rd_entryDropped {a : Nat} : (s.entryDropped l).rd a = s.rd a := rfl

theorem lane_refused {c : Nat} (hl : l < s.lanes.length) (h : t.lanes = s.lanes) : (laneCode l c (t.entryDropped l)).lane l
    = { s.lane l with goal := none, lbtWait := false, lbtClear := false } := by
  have h' : (laneCode l c (t.entryDropped l)).lane l = (t.entryDropped l).lane l := rfl
  rw [h', State.entryDropped, State.lane_setLane_self (h.symm ▸ hl), State.lane_congr h]

theorem stepRefuse_busy : stepRefuse l 0x0304 s = laneCode l 0x0304 (s.entryDropped l) := rfl

theorem onlyIn_lbtBusyMarks : OnlyIn [.regs, .edges] s (lbtBusyMarks l s) := by simp [lbtBusyMarks]

theorem regsBut_lbtBusyMarks : RegsBut [Reg.LANE_FLAGS l, Reg.LANE_CNT l] s (lbtBusyMarks l s) := by
  simp [lbtBusyMarks, Fld.LANE_FLAGS_LBTBUSY, Fld.LANE_CNT_LBTBUSY]

theorem regs_lbtBusyMarks : (lbtBusyMarks l s).has (Fld.LANE_FLAGS_LBTBUSY l) = true
    ∧ (lbtBusyMarks l s).get (Fld.LANE_CNT_LBTBUSY l) = s.counted (Fld.LANE_CNT_LBTBUSY l) := by
  have hne : Reg.LANE_FLAGS l ≠ Reg.LANE_CNT l := by simp [Reg.LANE_FLAGS, Reg.LANE_CNT]
  refine ⟨?_, ?_⟩
  · rw [lbtBusyMarks, State.has_fire, State.inc_eq_put, State.has_put_other hne]
    exact State.has_flag_bit rfl rfl
  · rw [lbtBusyMarks, State.get_fire, State.get_inc_fits rfl]
    exact congrArg (fun n => min (n + 1) (2 ^ (Fld.LANE_CNT_LBTBUSY l).width - 1)) (State.get_put_other hne.symm)

theorem fires_lbtBusyMarks : Fires [EV.LANE_LBTBUSY l] s (lbtBusyMarks l s) :=
  Fires.fire ((State.put_edges _ _ _).trans (State.flag_edges _ _))

theorem OnlyIn.frame_lanes_edges (h : OnlyIn [.lanes, .edges] s t) : t = { s with lanes := t.lanes, edges := t.edges } := h.frame

variable {mean : Int}

theorem answers_lbtListenEnd_clear {l : Lane} (hl : l.val < s.lanes.length) (hw : (s.lane l).lbtWait = true)
    (hb : lbtBusy s ((stepSubBand s l (s.lane l).goalMode).getD 0) mean = false) :
    Answers (exec (.lbtListenEnd l mean) s) fun t =>
      (t.lane l).lbtWait = false ∧ (t.lane l).lbtClear = true ∧ Fires [EV.LANE_LBTCLEAR l] s t
        ∧ t = { s with lanes := t.lanes, edges := t.edges } := by
  have heq : exec (.lbtListenEnd l mean) s = .next ((s.lbtCleared l).fire (EV.LANE_LBTCLEAR l)) :=
    (if_pos hw).trans (if_neg (by simp [hb]))
  have hlane : ((s.lbtCleared l).fire (EV.LANE_LBTCLEAR l)).lane l = { s.lane l with lbtWait := false, lbtClear := true } :=
    State.lane_setLane_self hl
  refine ⟨_, heq, by rw [hlane], by rw [hlane], Fires.fire rfl, OnlyIn.frame_lanes_edges ?_⟩
  exact onlyIn_lbtCleared.fire (by decide) (by decide)

theorem answers_lbtListenEnd_busy {l : Lane} (hl : l.val < s.lanes.length) (hw : (s.lane l).lbtWait = true)
    (hb : lbtBusy s ((stepSubBand s l (s.lane l).goalMode).getD 0) mean = true) :
    Answers (exec (.lbtListenEnd l mean) s) fun t =>
      t.laneSt l = s.laneSt l ∧ (t.lane l).goal = none ∧ (t.lane l).lbtWait = false
        ∧ t.has (Fld.LANE_FLAGS_LBTBUSY l) = true ∧ t.get (Fld.LANE_CNT_LBTBUSY l) = s.counted (Fld.LANE_CNT_LBTBUSY l)
        ∧ t.get (Fld.LANE_LASTCODE_CODE l) = 0x0304 ∧ Fires [EV.LANE_LBTBUSY l] s t
        ∧ RegsBut [Reg.LANE_FLAGS l, Reg.LANE_CNT l, Reg.LANE_LASTCODE l] s t
        ∧ t = { s with regs := t.regs, lanes := t.lanes, edges := t.edges } := by
  have heq : exec (.lbtListenEnd l mean) s = .next (laneCode l 0x0304 ((lbtBusyMarks l s).entryDropped l)) :=
    ((if_pos hw).trans (if_pos hb)).trans (congrArg Host.Outcome.next stepRefuse_busy)
  have hlanes : (lbtBusyMarks l s).lanes = s.lanes := onlyIn_lbtBusyMarks.lanes (by decide)
  have hlane : (laneCode l 0x0304 ((lbtBusyMarks l s).entryDropped l)).lane l
      = { s.lane l with goal := none, lbtWait := false, lbtClear := false } :=
    lane_refused hl hlanes
  have hrd : ∀ a, a ≠ Reg.LANE_LASTCODE l → (laneCode l 0x0304 ((lbtBusyMarks l s).entryDropped l)).rd a = (lbtBusyMarks l s).rd a :=
    fun a ha => (State.rd_put_other ha).trans State.rd_entryDropped
  have hframe : OnlyIn [.regs, .lanes, .edges] s (laneCode l 0x0304 ((lbtBusyMarks l s).entryDropped l)) := by
    rw [laneCode, onlyIn_put (by decide)]
    exact (onlyIn_lbtBusyMarks.mono (by decide)).trans (onlyIn_entryDropped.mono (by decide))
  have hregs : RegsBut [Reg.LANE_FLAGS l, Reg.LANE_CNT l, Reg.LANE_LASTCODE l] s (laneCode l 0x0304 ((lbtBusyMarks l s).entryDropped l)) :=
    fun a ha => by
      simp only [List.mem_cons, List.not_mem_nil, or_false, not_or] at ha
      rw [hrd a ha.2.2, regsBut_lbtBusyMarks a (by simp [ha])]
  refine ⟨_, heq, ?_, by rw [hlane], by rw [hlane], ?_, ?_, ?_, ?_, hregs, hframe.frame_regs_lanes_edges⟩
  · exact hregs.get (by simp [Fld.LANE_STAT_STATE, Reg.LANE_STAT, Reg.LANE_FLAGS, Reg.LANE_CNT, Reg.LANE_LASTCODE])
  · rw [State.has_eq_of_get (State.get_eq_of_rd (hrd _ (by simp [Fld.LANE_FLAGS_LBTBUSY, Reg.LANE_FLAGS, Reg.LANE_LASTCODE]))),
      regs_lbtBusyMarks.1]
  · rw [State.get_eq_of_rd (hrd _ (by simp [Fld.LANE_CNT_LBTBUSY, Reg.LANE_CNT, Reg.LANE_LASTCODE])), regs_lbtBusyMarks.2]
  · exact State.get_put_fits rfl
  · rw [Fires, laneCode, State.put_edges, onlyIn_entryDropped.edges (by decide)]
    exact fires_lbtBusyMarks

/-- Settles O21: work that fails or is cut off leaves its lane, its marks and its event. -/
theorem stepwiseWorkEnds : Obligations.StepwiseWorkEnds := fun _ _ hl =>
  ⟨answers_synthLockTimeout hl,
    fun hsub h4 hw => ⟨answers_stepwiseDwellExpiry hl hsub h4 hw, answers_stepwiseDutyExhaust hl hsub h4 hw⟩,
    fun _ hw => ⟨answers_lbtListenEnd_clear hl hw, answers_lbtListenEnd_busy hl hw⟩⟩

end Sys2Proof.Machine
end

section
/-!
SUPPORT. Health tests of a lane (R166, R179 to R181).
-/

namespace Sys2Proof.Machine

variable {s t r : State} {l n k : Nat}

/-- The first step of a test is next. -/
def State.testBegun (l : Nat) (s : State) : State :=
  (s.flag (Fld.LANE_HSTAT_RUNNING l)).setLane l { s.lane l with hStep := 1, hAgain := false }

/-- A test holds its lane. -/
def State.testHolds (l : Nat) (s : State) : State :=
  stepResumed 1 (laneUnlock l ((s.setLane l { s.lane l with idleState := min 1 (s.laneSt l) }).setLaneSt l 6))

/-- A lane that a health test may take. -/
structure State.LaneFree (s : State) (l : Nat) : Prop where
  state : s.laneSt l ≤ 2
  goal : (s.lane l).goal = none
  near : launchNear s l 1536 = false
  acts : ∀ a ∈ s.acts, a.lane = l → a.isRunning = false

theorem healthHold_of_free (h : s.LaneFree l) : healthHold l s = s.testHolds l := by
  have h6 : s.laneSt l ≠ 6 := by
    have := h.state
    omega
  have hacts : s.acts.any (fun a => a.lane == l && a.isRunning) = false := by
    rw [List.any_eq_false]
    intro a ha
    by_cases hl : a.lane = l <;> simp [hl, h.acts a ha]
  rw [healthHold, if_neg h6, if_pos ⟨h.state, by simp [h.goal], by simp [h.near], by simp [hacts]⟩]
  rfl

theorem laneSt_testBegun (l : Nat) : (s.testBegun l).laneSt l = s.laneSt l := by
  rw [State.laneSt, State.testBegun, State.get_setLane]
  exact State.get_put_other (by simp [Fld.LANE_STAT_STATE, Fld.LANE_HSTAT_RUNNING, Reg.LANE_STAT, Reg.LANE_HSTAT])

theorem onlyIn_testBegun : OnlyIn [.regs, .lanes] s (s.testBegun l) := .of_frame rfl

theorem lane_testBegun (hl : l < s.lanes.length) : (s.testBegun l).lane l = { s.lane l with hStep := 1, hAgain := false } :=
  State.lane_setLane_self (s := s.flag (Fld.LANE_HSTAT_RUNNING l)) hl

theorem laneFree_testBegun (hl : l < s.lanes.length) (h : s.LaneFree l) : (s.testBegun l).LaneFree l where
  state := (laneSt_testBegun l).trans_le h.state
  goal := by rw [lane_testBegun hl, h.goal]
  near := h.near
  acts := h.acts

theorem healthStart_of_free (hl : l < s.lanes.length) (h : s.LaneFree l) (hrun : s.has (Fld.LANE_HSTAT_RUNNING l) = false) :
    healthStart l s = (s.testBegun l).testHolds l := by
  rw [healthStart, if_neg (by simp [hrun])]
  exact healthHold_of_free (laneFree_testBegun hl h)

theorem regs_testHolds : (s.testHolds l).laneSt l = 6 ∧ (s.testHolds l).has (Fld.LANE_STAT_LOCK l) = false := by
  have h : ∀ t : State, (laneUnlock l t).get (Fld.LANE_STAT_STATE l) = t.get (Fld.LANE_STAT_STATE l) := fun t =>
    State.get_put_bitsApart rfl rfl
  have h' : ∀ t : State, (stepResumed 1 t).get = t.get := fun _ => rfl
  refine ⟨?_, State.has_unflag_fits rfl⟩
  rw [State.testHolds, State.laneSt, h', h]
  exact State.get_put_fits rfl

theorem regsBut_testHolds : RegsBut [Reg.LANE_STAT l] s (s.testHolds l) := by
  have h' : ∀ t : State, (stepResumed 1 t).regs = t.regs := fun _ => rfl
  rw [State.testHolds, regsBut_congr (h' _)]
  simp [laneUnlock, State.setLaneSt, Fld.LANE_STAT_STATE, Fld.LANE_STAT_LOCK]

theorem onlyIn_testHolds : OnlyIn [.regs, .lanes, .yielded] s (s.testHolds l) := .of_frame rfl

theorem hStep_testHolds (hl : l < s.lanes.length) : ((s.testHolds l).lane l).hStep = (s.lane l).hStep := by
  have h : (s.testHolds l).lane l = (s.setLane l { s.lane l with idleState := min 1 (s.laneSt l) }).lane l := rfl
  rw [h, State.lane_setLane_self hl]

/-- A test that starts on a free lane. -/
def State.testStarted (l : Nat) (s : State) : State := (s.testBegun l).testHolds l

theorem has_RUNNING_testStarted : (s.testStarted l).has (Fld.LANE_HSTAT_RUNNING l) = true := by
  rw [State.testStarted, regsBut_testHolds.has (by simp [Fld.LANE_HSTAT_RUNNING, Reg.LANE_STAT, Reg.LANE_HSTAT])]
  exact State.has_flag_bit rfl rfl

theorem regsBut_testStarted : RegsBut [Reg.LANE_HSTAT l, Reg.LANE_STAT l] s (s.testStarted l) := by
  have h : RegsBut [Reg.LANE_HSTAT l] s (s.testBegun l) := by simp [State.testBegun, Fld.LANE_HSTAT_RUNNING]
  exact (h.mono (by simp)).trans (regsBut_testHolds.mono (by simp))

theorem onlyIn_testStarted : OnlyIn [.regs, .lanes, .yielded] s (s.testStarted l) :=
  (onlyIn_testBegun.mono (by decide)).trans onlyIn_testHolds

theorem hStep_testStarted (hl : l < s.lanes.length) : ((s.testStarted l).lane l).hStep = 1 := by
  rw [State.testStarted, hStep_testHolds (s := s.testBegun l) (length_setNth.symm ▸ hl), lane_testBegun hl]

theorem OnlyIn.frame_regs_lanes_tasks_yielded (h : OnlyIn [.regs, .lanes, .tasks, .yielded] s t) :
    t = { s with regs := t.regs, lanes := t.lanes, tasks := t.tasks, yielded := t.yielded } := h.frame

/-! ### A test starts -/

/-- The request for a test is taken, by the task or in LANE_CTL. -/
def State.healthAsked (l : Nat) (b : Bool) (s : State) : State :=
  if b then s.takeTask (TK.LANE l 6) else s.flag (Fld.LANE_CTL_HEALTHREQ l)

/-- A new health period has begun. -/
def State.periodBegun (l : Nat) (s : State) : State := s.setLane l { s.lane l with paFaults := 0 }

theorem onlyIn_healthAsked {b : Bool} : OnlyIn [.regs, .tasks] s (s.healthAsked l b) := by
  rw [State.healthAsked]
  exact .ite (by simp) (by simp)

theorem regsBut_healthAsked {b : Bool} : RegsBut [Reg.LANE_CTL l] s (s.healthAsked l b) := by
  rw [State.healthAsked]
  exact regsBut_ite (by simp) (by simp [Fld.LANE_CTL_HEALTHREQ])

/-- What a free lane's state needs to be like before a test for the test to start as on s. -/
theorem State.LaneFree.of_onlyIn (h : s.LaneFree l) (honly : OnlyIn [.regs, .lanes, .tasks] s r) (hregs : RegsBut [Reg.LANE_CTL l] s r)
    (hgoal : (r.lane l).goal = (s.lane l).goal) : r.LaneFree l := by
  have hacts : r.acts = s.acts := by rw [State.acts, State.acts, honly.link (by decide)]
  have hnow : r.now = s.now := State.now_congr (honly.tide (by decide))
  refine ⟨?_, hgoal.trans h.goal, ?_, hacts ▸ h.acts⟩
  · rw [State.laneSt, hregs.get (by simp [Fld.LANE_STAT_STATE, Reg.LANE_STAT, Reg.LANE_CTL])]
    exact h.state
  · rw [launchNear, hacts, hnow]
    exact h.near

/-- A request, and the start of a period, put a free lane's test off to the same start. -/
theorem exec_healthTest {l : Lane} {b : Bool} {c : Instr} (hc : c = .laneHealthreq l b ∨ c = .healthPeriod l)
    (hl : l.val < s.lanes.length) (h : s.LaneFree l) (hrun : s.has (Fld.LANE_HSTAT_RUNNING l) = false) :
    ∃ r, exec c s = .next (r.testStarted l) ∧ OnlyIn [.regs, .lanes, .tasks] s r ∧ RegsBut [Reg.LANE_CTL l] s r
      ∧ r.lanes.length = s.lanes.length := by
  have hasked : ∀ r : State, OnlyIn [.regs, .lanes, .tasks] s r → RegsBut [Reg.LANE_CTL l] s r → (r.lane l).goal = (s.lane l).goal →
      r.lanes.length = s.lanes.length → healthStart l r = r.testStarted l := fun r honly hregs hgoal hlen =>
    healthStart_of_free (hlen.symm ▸ hl) (h.of_onlyIn honly hregs hgoal)
      ((hregs.has (by simp [Fld.LANE_HSTAT_RUNNING, Reg.LANE_HSTAT, Reg.LANE_CTL])).trans hrun)
  rcases hc with rfl | rfl
  · have honly : OnlyIn [.regs, .lanes, .tasks] s (s.healthAsked l b) := onlyIn_healthAsked.mono (by decide)
    have hlanes : (s.healthAsked l b).lanes = s.lanes := onlyIn_healthAsked.lanes (by decide)
    refine ⟨s.healthAsked l b, ?_, honly, regsBut_healthAsked, by rw [hlanes]⟩
    rw [← hasked _ honly regsBut_healthAsked (by rw [State.lane_congr hlanes]) (by rw [hlanes])]
    rfl
  · have honly : OnlyIn [.regs, .lanes, .tasks] s (s.periodBegun l) := .of_frame rfl
    have hgoal : ((s.periodBegun l).lane l).goal = (s.lane l).goal := by rw [State.periodBegun, State.lane_setLane_self hl]
    refine ⟨s.periodBegun l, ?_, honly, .of_regs rfl, length_setNth⟩
    rw [← hasked _ honly (.of_regs rfl) hgoal length_setNth]
    have hrun' : ¬ (s.periodBegun l).has (Fld.LANE_HSTAT_RUNNING l) = true := by
      have : (s.periodBegun l).has (Fld.LANE_HSTAT_RUNNING l) = s.has (Fld.LANE_HSTAT_RUNNING l) := rfl
      simp [this, hrun]
    exact congrArg (fun u => Host.Outcome.next (healthStart l u)) (if_neg hrun')

theorem answers_healthTest {l : Lane} {b : Bool} {c : Instr} (hc : c = .laneHealthreq l b ∨ c = .healthPeriod l)
    (hl : l.val < s.lanes.length) (h : s.LaneFree l) (hrun : s.has (Fld.LANE_HSTAT_RUNNING l) = false) :
    Answers (exec c s) fun t =>
      t.has (Fld.LANE_HSTAT_RUNNING l) = true ∧ (t.lane l).hStep = 1 ∧ t.laneSt l = 6
        ∧ t.has (Fld.LANE_STAT_LOCK l) = false
        ∧ RegsBut [Reg.LANE_HSTAT l, Reg.LANE_STAT l, Reg.LANE_CTL l] s t
        ∧ t = { s with regs := t.regs, lanes := t.lanes, tasks := t.tasks, yielded := t.yielded } := by
  obtain ⟨r, heq, honly, hregs, hlen⟩ := exec_healthTest hc hl h hrun
  exact ⟨_, heq, has_RUNNING_testStarted, hStep_testStarted (hlen.symm ▸ hl), regs_testHolds.1, regs_testHolds.2,
    (hregs.mono (by simp)).trans (regsBut_testStarted.mono (by simp)),
    ((honly.mono (by decide)).trans (onlyIn_testStarted.mono (by decide))).frame_regs_lanes_tasks_yielded⟩

/-! ### Its steps -/

/-- The lane's note of the next step of its test. -/
def State.testStep (l k : Nat) (again : Bool) (s : State) : State := s.setLane l { s.lane l with hStep := k, hAgain := again }

theorem healthHold_of_held {again : Bool} (h6 : s.laneSt l = 6) (hnear : launchNear s l 1536 = false) :
    healthHold l (s.testStep l k again) = s.testStep l k again := by
  have h6' : (s.testStep l k again).laneSt l = 6 := h6
  have hnear' : ¬ launchNear (s.testStep l k again) l 1536 = true := by
    have : launchNear (s.testStep l k again) l 1536 = launchNear s l 1536 := rfl
    simp [this, hnear]
  rw [healthHold, if_pos h6', if_neg hnear']

theorem onlyIn_testStep {again : Bool} : OnlyIn [.lanes] s (s.testStep l k again) := .of_frame rfl

section
variable {l : Lane} (hl : l.val < s.lanes.length) (hrun : s.has (Fld.LANE_HSTAT_RUNNING l) = true) (h6 : s.laneSt l = 6)
include hrun h6

theorem not_stepIgnored : ¬ (!s.has (Fld.LANE_HSTAT_RUNNING l) ∨ (s.laneSt l ≠ 6 ∧ s.laneSt l ≠ 7)) := by simp [hrun, h6]

include hl

theorem answers_healthStepDone_next (hk : (s.lane l).hStep < 7) (hnear : launchNear s l 1536 = false) :
    Answers (exec (.healthStepDone l true) s) fun t =>
      (t.lane l).hStep = (s.lane l).hStep + 1 ∧ t = { s with lanes := t.lanes } := by
  have heq : exec (.healthStepDone l true) s = .next (s.testStep l ((s.lane l).hStep + 1) (s.lane l).hAgain) := by
    rw [← healthHold_of_held h6 hnear]
    exact (if_neg (not_stepIgnored hrun h6)).trans ((if_pos rfl).trans (if_pos hk))
  refine ⟨_, heq, ?_, onlyIn_testStep.frame_lanes⟩
  rw [State.testStep, State.lane_setLane_self hl]

theorem answers_healthStepDone_again (ha : (s.lane l).hAgain = false) (hnear : launchNear s l 1536 = false) :
    Answers (exec (.healthStepDone l false) s) fun t =>
      (t.lane l).hStep = 1 ∧ (t.lane l).hAgain = true ∧ t = { s with lanes := t.lanes } := by
  have heq : exec (.healthStepDone l false) s = .next (s.testStep l 1 true) := by
    rw [← healthHold_of_held h6 hnear]
    exact (if_neg (not_stepIgnored hrun h6)).trans ((if_neg Bool.false_ne_true).trans (if_pos (by simp [ha])))
  have hlane : (s.testStep l 1 true).lane l = { s.lane l with hStep := 1, hAgain := true } := State.lane_setLane_self hl
  exact ⟨_, heq, by rw [hlane], by rw [hlane], onlyIn_testStep.frame_lanes⟩

end

/-! ### Its end -/

/-- The lane's note that no test runs. -/
def State.testDropped (l : Nat) (s : State) : State :=
  let s := (s.unflag (Fld.LANE_HSTAT_RUNNING l)).unflag (Fld.LANE_CTL_HEALTHREQ l)
  s.setLane l { s.lane l with hStep := 0, hAgain := false }

/-- The lane is given back in the state that it was taken from. -/
def State.laneGivenBack (l : Nat) (s : State) : State := s.setLaneSt l (s.lane l).idleState

theorem onlyIn_testDropped : OnlyIn [.regs, .lanes] s (s.testDropped l) := .of_frame rfl

theorem rd_testDropped {a : Nat} (h : a ∉ [Reg.LANE_HSTAT l, Reg.LANE_CTL l]) : (s.testDropped l).rd a = s.rd a := by
  simp only [List.mem_cons, List.not_mem_nil, or_false, not_or] at h
  exact (State.rd_put_other h.2).trans (State.rd_put_other h.1)

theorem regsBut_testDropped : RegsBut [Reg.LANE_HSTAT l, Reg.LANE_CTL l] s (s.testDropped l) := fun _ h => rd_testDropped h

theorem regs_testDropped : (s.testDropped l).has (Fld.LANE_HSTAT_RUNNING l) = false
    ∧ (s.testDropped l).get (Fld.LANE_HSTAT_LASTSTEP l) = s.get (Fld.LANE_HSTAT_LASTSTEP l)
    ∧ (s.testDropped l).has (Fld.LANE_CTL_HEALTHREQ l) = false := by
  have h : Reg.LANE_HSTAT l ≠ Reg.LANE_CTL l := by simp [Reg.LANE_HSTAT, Reg.LANE_CTL]
  refine ⟨?_, ?_, State.has_unflag_fits rfl⟩
  · exact (State.has_put_other h).trans (State.has_unflag_fits rfl)
  · exact (State.get_put_other h).trans (State.get_put_bitsApart rfl rfl)

theorem lane_testDropped (hl : l < s.lanes.length) : (s.testDropped l).lane l = { s.lane l with hStep := 0, hAgain := false } := by
  have h : ((s.unflag (Fld.LANE_HSTAT_RUNNING l)).unflag (Fld.LANE_CTL_HEALTHREQ l)).lane l = s.lane l := rfl
  rw [State.testDropped, State.lane_setLane_self (s := (s.unflag (Fld.LANE_HSTAT_RUNNING l)).unflag (Fld.LANE_CTL_HEALTHREQ l)) hl, h]

theorem lane_testDropped_ne (h : l ≠ k) : (s.testDropped l).lane k = s.lane k :=
  State.lane_setLane_ne (s := (s.unflag (Fld.LANE_HSTAT_RUNNING l)).unflag (Fld.LANE_CTL_HEALTHREQ l)) h

theorem laneSt_testDropped : (s.testDropped l).laneSt l = s.laneSt l :=
  regsBut_testDropped.get (by simp [Fld.LANE_STAT_STATE, Reg.LANE_STAT, Reg.LANE_HSTAT, Reg.LANE_CTL])

theorem healthEnd_of_held (h6 : s.laneSt l = 6) : healthEnd l s = (s.testDropped l).laneGivenBack l :=
  if_pos (laneSt_testDropped.trans h6)

theorem healthEnd_of_other (h6 : s.laneSt l ≠ 6) : healthEnd l s = s.testDropped l :=
  if_neg fun h => h6 (laneSt_testDropped.symm.trans h)

theorem regsBut_laneGivenBack : RegsBut [Reg.LANE_STAT l] s (s.laneGivenBack l) :=
  (regsBut_put (f := Fld.LANE_STAT_STATE l) (List.mem_singleton_self _)).mpr .refl

theorem onlyIn_laneGivenBack : OnlyIn [.regs] s (s.laneGivenBack l) := .of_frame rfl

theorem laneSt_laneGivenBack : (s.laneGivenBack l).laneSt l = (s.lane l).idleState % 8 := State.get_put_fits rfl

/-- A test whose last step has passed. -/
def State.testPassed (l : Nat) (s : State) : State :=
  (((s.put (Fld.LANE_HSTAT_LASTSTEP l) 0).testDropped l).laneGivenBack l).inc (Fld.LANE_HCNT_RUNS l)

theorem onlyIn_testPassed : OnlyIn [.regs, .lanes] s (s.testPassed l) := by
  rw [State.testPassed, onlyIn_inc (by decide)]
  exact (((onlyIn_put (by decide)).mpr .refl).trans onlyIn_testDropped).trans (onlyIn_laneGivenBack.mono (by decide))

theorem rd_testPassed {a : Nat} (hstat : a ≠ Reg.LANE_STAT l) (hcnt : a ≠ Reg.LANE_HCNT l) :
    (s.testPassed l).rd a = ((s.put (Fld.LANE_HSTAT_LASTSTEP l) 0).testDropped l).rd a :=
  (State.rd_put_other hcnt).trans (regsBut_laneGivenBack a (by simp [hstat]))

theorem regsBut_testPassed : RegsBut [Reg.LANE_HSTAT l, Reg.LANE_STAT l, Reg.LANE_CTL l, Reg.LANE_HCNT l] s (s.testPassed l) := fun a h => by
  simp only [List.mem_cons, List.not_mem_nil, or_false, not_or] at h
  obtain ⟨hh, hst, hctl, hcnt⟩ := h
  rw [rd_testPassed hst hcnt, rd_testDropped (by simp [hh, hctl])]
  exact State.rd_put_other hh

theorem regs_testPassed : (s.testPassed l).has (Fld.LANE_HSTAT_RUNNING l) = false
    ∧ (s.testPassed l).get (Fld.LANE_HSTAT_LASTSTEP l) = 0 ∧ (s.testPassed l).has (Fld.LANE_CTL_HEALTHREQ l) = false := by
  have hh : (s.testPassed l).rd (Reg.LANE_HSTAT l) = ((s.put (Fld.LANE_HSTAT_LASTSTEP l) 0).testDropped l).rd (Reg.LANE_HSTAT l) :=
    rd_testPassed (by simp [Reg.LANE_HSTAT, Reg.LANE_STAT]) (by simp [Reg.LANE_HSTAT, Reg.LANE_HCNT])
  have hc : (s.testPassed l).rd (Reg.LANE_CTL l) = ((s.put (Fld.LANE_HSTAT_LASTSTEP l) 0).testDropped l).rd (Reg.LANE_CTL l) :=
    rd_testPassed (by simp [Reg.LANE_CTL, Reg.LANE_STAT]) (by simp [Reg.LANE_CTL, Reg.LANE_HCNT])
  obtain ⟨hrun, hlast, hreq⟩ := regs_testDropped (s := s.put (Fld.LANE_HSTAT_LASTSTEP l) 0) (l := l)
  refine ⟨?_, ?_, ?_⟩
  · rw [State.has_eq_of_get (f := Fld.LANE_HSTAT_RUNNING l) (State.get_eq_of_rd hh), hrun]
  · rw [State.get_eq_of_rd (f := Fld.LANE_HSTAT_LASTSTEP l) hh, hlast]
    exact State.get_put_fits rfl
  · rw [State.has_eq_of_get (f := Fld.LANE_CTL_HEALTHREQ l) (State.get_eq_of_rd hc), hreq]

theorem get_RUNS_testPassed : (s.testPassed l).get (Fld.LANE_HCNT_RUNS l) = s.counted (Fld.LANE_HCNT_RUNS l) := by
  have h : (((s.put (Fld.LANE_HSTAT_LASTSTEP l) 0).testDropped l).laneGivenBack l).get (Fld.LANE_HCNT_RUNS l) = s.get (Fld.LANE_HCNT_RUNS l) := by
    rw [regsBut_laneGivenBack.get, regsBut_testDropped.get, State.get_put_other]
    all_goals simp [Fld.LANE_HCNT_RUNS, Fld.LANE_HSTAT_LASTSTEP, Reg.LANE_HCNT, Reg.LANE_HSTAT, Reg.LANE_CTL, Reg.LANE_STAT]
  rw [State.testPassed, State.get_inc_fits rfl]
  exact congrArg (fun n => min (n + 1) (2 ^ (Fld.LANE_HCNT_RUNS l).width - 1)) h

theorem laneSt_testPassed (hl : l < s.lanes.length) : (s.testPassed l).laneSt l = (s.lane l).idleState % 8 := by
  have h : (s.testPassed l).laneSt l = (((s.put (Fld.LANE_HSTAT_LASTSTEP l) 0).testDropped l).laneGivenBack l).laneSt l :=
    State.get_put_other (by simp [Fld.LANE_STAT_STATE, Fld.LANE_HCNT_RUNS, Reg.LANE_STAT, Reg.LANE_HCNT])
  rw [h, laneSt_laneGivenBack, lane_testDropped (s := s.put (Fld.LANE_HSTAT_LASTSTEP l) 0) hl]
  rfl

theorem answers_healthStepDone_passed {l : Lane} (hl : l.val < s.lanes.length) (hrun : s.has (Fld.LANE_HSTAT_RUNNING l) = true)
    (h6 : s.laneSt l = 6) (h7 : (s.lane l).hStep = 7) :
    Answers (exec (.healthStepDone l true) s) fun t =>
      t.has (Fld.LANE_HSTAT_RUNNING l) = false ∧ t.get (Fld.LANE_HSTAT_LASTSTEP l) = 0
        ∧ t.has (Fld.LANE_CTL_HEALTHREQ l) = false ∧ t.get (Fld.LANE_HCNT_RUNS l) = s.counted (Fld.LANE_HCNT_RUNS l)
        ∧ t.laneSt l = (s.lane l).idleState % 8 ∧ Fires [EV.LANE_HEALTHPASS l] s t
        ∧ RegsBut [Reg.LANE_HSTAT l, Reg.LANE_STAT l, Reg.LANE_CTL l, Reg.LANE_HCNT l] s t
        ∧ t = { s with regs := t.regs, lanes := t.lanes, edges := t.edges } := by
  have h6' : (s.put (Fld.LANE_HSTAT_LASTSTEP l) 0).laneSt l = 6 :=
    (State.get_put_other (by simp [Fld.LANE_STAT_STATE, Fld.LANE_HSTAT_LASTSTEP, Reg.LANE_STAT, Reg.LANE_HSTAT])).trans h6
  have heq : exec (.healthStepDone l true) s = .next ((s.testPassed l).fire (EV.LANE_HEALTHPASS l)) := by
    rw [State.testPassed, ← healthEnd_of_held h6']
    exact (if_neg (not_stepIgnored hrun h6)).trans ((if_pos rfl).trans (if_neg (by omega)))
  obtain ⟨hrun', hlast, hreq⟩ := regs_testPassed (s := s) (l := l)
  refine ⟨_, heq, ?_, ?_, ?_, ?_, ?_, onlyIn_testPassed.fires_fire (by decide), ?_, OnlyIn.frame_regs_lanes_edges ?_⟩
  · rw [State.has_fire, hrun']
  · rw [State.get_fire, hlast]
  · rw [State.has_fire, hreq]
  · rw [State.get_fire, get_RUNS_testPassed]
  · rw [State.laneSt, State.get_fire, ← State.laneSt, laneSt_testPassed hl]
  · exact regsBut_fire.mpr regsBut_testPassed
  · exact onlyIn_testPassed.fire (by decide) (by decide)

/-! ### Faults of the power amplifier -/

/-- The marks of a PA fault. -/
def State.paMarked (l : Nat) (s : State) : State := laneCode l 0x0103 ((s.flag (Fld.LANE_FLAGS_PAFAULT l)).fire (EV.LANE_PAFAULT l))

/-- One more PA fault in this period. -/
def State.paCounted (l : Nat) (s : State) : State := s.setLane l { s.lane l with paFaults := (s.lane l).paFaults + 1 }

theorem onlyIn_paMarked : OnlyIn [.regs, .edges] s (s.paMarked l) := by simp [State.paMarked, laneCode]

theorem regsBut_paMarked : RegsBut [Reg.LANE_FLAGS l, Reg.LANE_LASTCODE l] s (s.paMarked l) := by
  simp [State.paMarked, laneCode, Fld.LANE_FLAGS_PAFAULT, Fld.LANE_LASTCODE_CODE]

theorem regs_paMarked : (s.paMarked l).has (Fld.LANE_FLAGS_PAFAULT l) = true ∧ (s.paMarked l).get (Fld.LANE_LASTCODE_CODE l) = 0x0103 := by
  simp [State.paMarked, laneCode, State.flag_eq_put, Fld.LANE_FLAGS_PAFAULT, Fld.LANE_LASTCODE_CODE, Reg.LANE_FLAGS, Reg.LANE_LASTCODE]

theorem onlyIn_paCounted : OnlyIn [.lanes] s (s.paCounted l) := .of_frame rfl

theorem fires_paMarked : Fires [EV.LANE_PAFAULT l] s (s.paMarked l) := by
  rw [Fires, State.paMarked, laneCode, State.put_edges]
  exact Fires.fire (State.flag_edges s _)

/-- What transmits on the lane ends with the fault's code. -/
def paEnds (l : Nat) (s : State) : State :=
  let sending := s.acts.filter (fun a => a.lane == l && a.sending)
  let s := s.forEach sending (fun a s => cutTx a 0x0103 s)
  let le := s.acts.filter (fun a => a.lane == l && a.kind.isLe && a.isRunning)
  if sending.isEmpty then s.forEach le (fun a s => endAct a 0x0103 s) else s

/-- The fault is counted, and the third one starts a test. -/
def State.paNext (l : Nat) (s : State) : State :=
  if (s.lane l).paFaults + 1 = 3 then healthStart l (s.paCounted l) else s.paCounted l

theorem paEnds_of_free (hacts : ∀ a ∈ t.acts, a.lane ≠ l) : paEnds l t = t := by
  have hsend : t.acts.filter (fun a => a.lane == l && a.sending) = [] := filter_acts_eq_nil hacts
  have hle : t.acts.filter (fun a => a.lane == l && a.kind.isLe && a.isRunning) = [] := by
    rw [List.filter_eq_nil_iff]
    intro a ha
    simp [hacts a ha]
  simp [paEnds, hsend, hle, State.forEach]

/-- A first or second fault, with nothing to end, is marked and counted. -/
theorem exec_paFault_of_free {l : Lane} (hsub : (s.lane l).txSub = none) (hacts : ∀ a ∈ s.acts, a.lane ≠ l.val)
    (hn : (s.lane l).paFaults < 2) : exec (.paFault l) s = .next ((s.paMarked l).paCounted l) := by
  have hcut : stepCut l ((s.flag (Fld.LANE_FLAGS_PAFAULT l)).fire (EV.LANE_PAFAULT l))
      = (s.flag (Fld.LANE_FLAGS_PAFAULT l)).fire (EV.LANE_PAFAULT l) := if_neg (by
    have : (((s.flag (Fld.LANE_FLAGS_PAFAULT l)).fire (EV.LANE_PAFAULT l)).lane l).txSub = (s.lane l).txSub := rfl
    simp [this, hsub])
  have hne : ((s.paMarked l).lane l).paFaults + 1 ≠ 3 := by
    rw [State.lane_congr (onlyIn_paMarked.lanes (by decide))]
    omega
  have heq : exec (.paFault l) s = .next ((paEnds l (laneCode l 0x0103 (stepCut l ((s.flag (Fld.LANE_FLAGS_PAFAULT l)).fire
    (EV.LANE_PAFAULT l))))).paNext l) := rfl
  rw [heq, hcut, ← State.paMarked, paEnds_of_free (t := s.paMarked l) hacts, State.paNext, if_neg hne]

theorem answers_paFault {l : Lane} (hl : l.val < s.lanes.length) (hsub : (s.lane l).txSub = none) (hacts : ∀ a ∈ s.acts, a.lane ≠ l.val)
    (hn : (s.lane l).paFaults < 2) : Answers (exec (.paFault l) s) fun t =>
      t.has (Fld.LANE_FLAGS_PAFAULT l) = true ∧ t.get (Fld.LANE_LASTCODE_CODE l) = 0x0103
        ∧ (t.lane l).paFaults = (s.lane l).paFaults + 1 ∧ Fires [EV.LANE_PAFAULT l] s t
        ∧ RegsBut [Reg.LANE_FLAGS l, Reg.LANE_LASTCODE l] s t
        ∧ t = { s with regs := t.regs, lanes := t.lanes, edges := t.edges } := by
  have hlanes : (s.paMarked l).lanes = s.lanes := onlyIn_paMarked.lanes (by decide)
  refine ⟨_, exec_paFault_of_free hsub hacts hn, ?_, ?_, ?_, ?_, ?_, OnlyIn.frame_regs_lanes_edges ?_⟩
  · rw [State.paCounted, State.has_setLane, regs_paMarked.1]
  · rw [State.paCounted, State.get_setLane, regs_paMarked.2]
  · rw [State.paCounted, State.lane_setLane_self (hlanes.symm ▸ hl), State.lane_congr hlanes]
  · rw [Fires, onlyIn_paCounted.edges (by decide)]
    exact fires_paMarked
  · exact regsBut_paMarked.trans (.of_regs (onlyIn_paCounted.regs (by decide)))
  · exact (onlyIn_paMarked.mono (by decide)).trans (onlyIn_paCounted.mono (by decide))

/-- Settles O23: a test starts, steps, repeats and passes as said, and a PA fault is marked and counted. -/
theorem healthTests : Obligations.HealthTests := by
  intro l b s hl
  refine ⟨fun hst hgoal hnear hacts hrun c hc => ?start, fun hrun h6 => ⟨?next, ?passed, ?again⟩, ?fault⟩
  case start => exact answers_healthTest hc hl ⟨hst, hgoal, hnear, hacts⟩ hrun
  case next => exact answers_healthStepDone_next hl hrun h6
  case passed => exact answers_healthStepDone_passed hl hrun h6
  case again => exact answers_healthStepDone_again hl hrun h6
  case fault => exact answers_paFault hl

end Sys2Proof.Machine
end

section
/-!
SUPPORT. Retirement of a lane, takeover of its roles and restoration (R182 to R185).
-/

namespace Sys2Proof.Machine

variable {s t r : State} {l n k : Nat} {f : Field}

/-! ### Ports of a lane are opened -/

theorem portSource_rd {p : Nat} : portSource (s.rd Reg.RF_PORTMAP).toNat p = min (s.get ⟨Reg.RF_PORTMAP, p, 2⟩) 2 := rfl

/-- One port, where it is the lane's, is opened. -/
def portOpen (l : Nat) (p : Nat × Nat) (s : State) : State :=
  if portSource (s.rd Reg.RF_PORTMAP).toNat p.1 = l then s.put ⟨Reg.RF_PORTMAP, p.1, 2⟩ 2 else s

theorem portsOpen_eq : portsOpen l s = s.forEach ports (portOpen l) := rfl

theorem portSource_portOpen_self {p : Nat × Nat} (hp : p ∈ ports) (h2 : l < 2) :
    portSource ((portOpen l p s).rd Reg.RF_PORTMAP).toNat p.1 ≠ l := by
  have hfits : (Field.mk Reg.RF_PORTMAP p.1 2).fits = true := by
    fin_cases hp <;> rfl
  rw [portOpen]
  split
  · rw [portSource_rd, State.get_put_fits hfits]
    show min (2 % 4) 2 ≠ l
    omega
  · assumption

theorem portSource_portOpen_ne {p q : Nat × Nat} (hp : p ∈ ports) (hq : q ∈ ports) (h : p ≠ q) :
    portSource ((portOpen l q s).rd Reg.RF_PORTMAP).toNat p.1 = portSource (s.rd Reg.RF_PORTMAP).toNat p.1 := by
  have hfits : (Field.mk Reg.RF_PORTMAP q.1 2).fits = true := by
    fin_cases hq <;> rfl
  have hapart : (Field.mk Reg.RF_PORTMAP q.1 2).bitsApart ⟨Reg.RF_PORTMAP, p.1, 2⟩ = true := by
    have : ∀ p ∈ ports, ∀ q ∈ ports, p ≠ q → (decide (q.1 + 2 ≤ p.1) || decide (p.1 + 2 ≤ q.1)) = true := by decide
    simpa using this p hp q hq h
  rw [portOpen]
  split
  · rw [portSource_rd, State.get_put_bitsApart hfits hapart, portSource_rd]
  · rfl

/-- No port that has been visited, or that was another's, carries the lane any longer. -/
theorem portSource_portsOpened {qs : List (Nat × Nat)} (hqs : qs ⊆ ports) (h2 : l < 2) {p : Nat × Nat} (hp : p ∈ ports)
    (h : p ∈ qs ∨ portSource (s.rd Reg.RF_PORTMAP).toNat p.1 ≠ l) :
    portSource ((s.forEach qs (portOpen l)).rd Reg.RF_PORTMAP).toNat p.1 ≠ l := by
  induction qs generalizing s with
  | nil => exact h.resolve_left List.not_mem_nil
  | cons q qs ih =>
    have hq : q ∈ ports := hqs List.mem_cons_self
    rw [State.forEach_cons]
    refine ih (List.subset_of_cons_subset hqs) ?_
    by_cases hpq : p = q
    · subst hpq
      exact .inr (portSource_portOpen_self hp h2)
    · rw [portSource_portOpen_ne hp hq hpq]
      exact h.imp_left fun hm => (List.mem_cons.mp hm).resolve_left hpq

theorem portSource_portsOpen (h2 : l < 2) {p : Nat × Nat} (hp : p ∈ ports) :
    portSource ((portsOpen l s).rd Reg.RF_PORTMAP).toNat p.1 ≠ l := portSource_portsOpened (List.Subset.refl _) h2 hp (.inl hp)

theorem regsBut_portsOpen : RegsBut [Reg.RF_PORTMAP] s (portsOpen l s) :=
  fun _ ha => State.rd_forEach (g := portOpen l) fun p _ s =>
    (regsBut_ite (p := portSource (s.rd Reg.RF_PORTMAP).toNat p.1 = l) ((regsBut_put (f := ⟨Reg.RF_PORTMAP, p.1, 2⟩) (v := 2)
      (List.mem_singleton_self _)).mpr .refl) .refl : RegsBut [Reg.RF_PORTMAP] s (portOpen l p s)) _ ha

theorem onlyIn_portsOpen : OnlyIn [.regs] s (portsOpen l s) :=
  .forEach (fun _ _ => .ite ((onlyIn_put (by decide)).mpr .refl) .refl) .refl

/-! ### Roles -/

/-- The roles that a lane has: its own, with the other's where it has taken them over; none while it is retired. -/
def rolesOf (s : State) (l : Nat) : Nat :=
  if s.retired (otherLane l) ∧ !(s.lane l).takeover ∧ !s.retired l then s.laneRoles l ||| s.laneTakeoverRoles l
  else if s.retired l then 0 else s.laneRoles l

/-- Both lanes' roles are written. -/
def State.setRoles (a b : Nat) (s : State) : State := (s.put (Fld.LANE_STAT_ROLES 0) a).put (Fld.LANE_STAT_ROLES 1) b

/-- A field of LANE_STAT outside the roles, or of any other register. -/
theorem get_setRoles {a b : Nat} (h : (Fld.LANE_STAT_ROLES 0).bitsApart f = true) : (s.setRoles a b).get f = s.get f := by
  have h1 : (Fld.LANE_STAT_ROLES 1).bitsApart f = true := h
  rw [State.setRoles, State.get_put_bitsApart rfl h1, State.get_put_bitsApart rfl h]

theorem regsBut_setRoles {a b : Nat} : RegsBut [Reg.LANE_STAT 0, Reg.LANE_STAT 1] s (s.setRoles a b) := by
  simp [State.setRoles, Fld.LANE_STAT_ROLES]

theorem onlyIn_setRoles {a b : Nat} : OnlyIn [.regs] s (s.setRoles a b) := by
  rw [State.setRoles, onlyIn_put (by decide), onlyIn_put (by decide)]
  exact .refl

theorem get_ROLES_setRoles_zero {a b : Nat} : (s.setRoles a b).get (Fld.LANE_STAT_ROLES 0) = a % 256 := by
  have hne : (Fld.LANE_STAT_ROLES 0).addr ≠ (Fld.LANE_STAT_ROLES 1).addr := by
    simp only [Fld.LANE_STAT_ROLES, Reg.LANE_STAT]
    omega
  rw [State.setRoles, State.get_put_other hne, State.get_put_fits rfl]
  rfl

theorem get_ROLES_setRoles_one {a b : Nat} : (s.setRoles a b).get (Fld.LANE_STAT_ROLES 1) = b % 256 := by
  rw [State.setRoles, State.get_put_fits rfl]
  rfl

theorem get_ROLES_setRoles {g : Nat → Nat} (h2 : l < 2) : (s.setRoles (g 0) (g 1)).get (Fld.LANE_STAT_ROLES l) = g l % 256 := by
  have h : l = 0 ∨ l = 1 := by omega
  rcases h with rfl | rfl
  · exact get_ROLES_setRoles_zero
  · exact get_ROLES_setRoles_one

/-- Both lanes' roles are worked out again. -/
def State.rolesPut (s : State) : State := s.setRoles (rolesOf s 0) (rolesOf s 1)

theorem get_rolesPut (h : (Fld.LANE_STAT_ROLES 0).bitsApart f = true) : s.rolesPut.get f = s.get f := get_setRoles h

theorem has_rolesPut (h : (Fld.LANE_STAT_ROLES 0).bitsApart f = true) : s.rolesPut.has f = s.has f :=
  State.has_eq_of_get (get_rolesPut h)

theorem regsBut_rolesPut : RegsBut [Reg.LANE_STAT 0, Reg.LANE_STAT 1] s s.rolesPut := regsBut_setRoles

theorem onlyIn_rolesPut : OnlyIn [.regs] s s.rolesPut := onlyIn_setRoles

theorem get_ROLES_rolesPut (h2 : l < 2) : s.rolesPut.get (Fld.LANE_STAT_ROLES l) = rolesOf s l % 256 :=
  get_ROLES_setRoles (g := rolesOf s) h2

theorem refreshRoles_of_off (hen : s.has Fld.RF_PAIR_EN = false) (hp : s.paired = false) : refreshRoles s = s.rolesPut := by
  have hen' : s.rolesPut.has Fld.RF_PAIR_EN = false := (regsBut_rolesPut.has (by decide)).trans hen
  have hp' : s.rolesPut.paired = false := (has_rolesPut (f := Fld.LANE_STAT_PAIRED 0) rfl).trans hp
  exact refreshPairing_of_off hen' hp'

/-- The pairing is off, and stays so where neither its register nor the two lanes' PAIRED bits are written. -/
structure State.PairOff (s : State) : Prop where
  en : s.has Fld.RF_PAIR_EN = false
  paired : s.paired = false

theorem State.PairOff.refreshRoles (h : s.PairOff) : refreshRoles s = s.rolesPut := refreshRoles_of_off h.en h.paired

theorem State.PairOff.of_rd (h : s.PairOff) (hen : t.rd Reg.RF_PAIR = s.rd Reg.RF_PAIR)
    (hp : t.has (Fld.LANE_STAT_PAIRED 0) = s.has (Fld.LANE_STAT_PAIRED 0)) : t.PairOff where
  en := (State.has_eq_of_get (State.get_eq_of_rd (f := Fld.RF_PAIR_EN) hen)).trans h.en
  paired := hp.trans h.paired

theorem State.PairOff.of_regsBut {m : List Nat} (h : s.PairOff) (hregs : RegsBut m s t) (hen : Reg.RF_PAIR ∉ m)
    (hp : Reg.LANE_STAT 0 ∉ m) : t.PairOff := h.of_rd (hregs _ hen) (hregs.has hp)

theorem State.PairOff.put {v : Nat} (h : s.PairOff) (hen : Reg.RF_PAIR ≠ f.addr) (hf : f.fits = true)
    (hp : f.bitsApart (Fld.LANE_STAT_PAIRED 0) = true) : (s.put f v).PairOff :=
  h.of_rd (State.rd_put_other hen) (State.has_put_bitsApart hf hp)

theorem State.PairOff.setLane {x : LaneState} (h : s.PairOff) : (s.setLane l x).PairOff := h.of_rd rfl rfl

/-! ### Takeover and restoration -/

theorem State.lane_fire {p : Nat} : (s.fire p).lane l = s.lane l := rfl

theorem State.lane_setLaneSt {v : Nat} : (s.setLaneSt l v).lane k = s.lane k := rfl

theorem lane_takeover_ne (l : Nat) (h : l < 2) : l ≠ otherLane l := by
  rw [otherLane]
  omega

/-- The note that a lane is to take the other's roles over is dropped. -/
def State.takenOver (l : Nat) (s : State) : State := s.setLane l { s.lane l with takeover := false }

theorem onlyIn_takenOver : OnlyIn [.lanes] s (s.takenOver l) := .of_frame rfl

theorem answers_laneTakeover {l : Lane} (hlen : s.lanes.length = 2) (hoff : s.PairOff) (htake : (s.lane l).takeover = true)
    (hret : s.retired l = false) (hother : s.retired (otherLane l) = true) :
    Answers (exec (.laneTakeover l) s) fun t =>
      (t.lane l).takeover = false ∧ t.get (Fld.LANE_STAT_ROLES l) = (s.laneRoles l ||| s.laneTakeoverRoles l) % 256
        ∧ Fires [EV.LANE_TAKEOVER l] s t ∧ RegsBut [Reg.LANE_STAT 0, Reg.LANE_STAT 1] s t
        ∧ t = { s with regs := t.regs, lanes := t.lanes, edges := t.edges } := by
  have hl : l.val < s.lanes.length := by
    rw [hlen]
    exact l.isLt
  have hoff' : (s.takenOver l).PairOff := hoff.setLane
  have heq : exec (.laneTakeover l) s = .next ((s.takenOver l).rolesPut.fire (EV.LANE_TAKEOVER l)) := by
    rw [← hoff'.refreshRoles]
    exact congrArg Host.Outcome.next (if_pos ⟨htake, hother⟩)
  have hlane : (s.takenOver l).lane l = { s.lane l with takeover := false } := State.lane_setLane_self hl
  have hroles : rolesOf (s.takenOver l) l = s.laneRoles l ||| s.laneTakeoverRoles l := by
    have h1 : (s.takenOver l).retired (otherLane l) = true := hother
    have h2 : (s.takenOver l).retired l = false := hret
    rw [rolesOf, if_pos ⟨h1, by rw [hlane]; rfl, by rw [h2]; rfl⟩]
    rfl
  have hedges : (s.takenOver l).rolesPut.edges = s.edges :=
    (onlyIn_rolesPut.edges (by decide)).trans (onlyIn_takenOver.edges (by decide))
  refine ⟨_, heq, ?_, ?_, Fires.fire hedges, ?_, OnlyIn.frame_regs_lanes_edges ?_⟩
  · rw [State.lane_fire, State.lane_congr (onlyIn_rolesPut.lanes (by decide)), hlane]
  · rw [State.get_fire, get_ROLES_rolesPut l.isLt, hroles]
  · exact regsBut_fire.mpr (RegsBut.trans (t := s.takenOver l) (.of_regs (onlyIn_takenOver.regs (by decide))) regsBut_rolesPut)
  · rw [onlyIn_fire (by decide)]
    exact (onlyIn_takenOver.mono (by decide)).trans (onlyIn_rolesPut.mono (by decide))

theorem answers_laneRestore {l : Lane} (hl : l.val < s.lanes.length) (hret : s.retired l = true)
    (hlast : s.get (Fld.LANE_HSTAT_LASTSTEP l) = 0) : Answers (exec (.laneRestore l) s) fun t =>
      (t.lane l).restoring = true ∧ t.has (Fld.LANE_CTL_RESTORE l) = true ∧ RegsBut [Reg.LANE_CTL l] s t
        ∧ t = { s with regs := t.regs, lanes := t.lanes } := by
  have heq : exec (.laneRestore l) s = .next ((s.flag (Fld.LANE_CTL_RESTORE l)).setLane l { s.lane l with restoring := true }) :=
    congrArg Host.Outcome.next (if_pos ⟨hret, hlast⟩)
  refine ⟨_, heq, ?_, ?_, ?_, OnlyIn.frame_regs_lanes ?_⟩
  · rw [State.lane_setLane_self (s := s.flag (Fld.LANE_CTL_RESTORE l)) hl]
  · exact State.has_flag_bit rfl rfl
  · simp [Fld.LANE_CTL_RESTORE]
  · simp

/-- A restored lane's registers, before the roles are worked out again. -/
def State.laneBack (l : Nat) (s : State) : State :=
  ((((s.testDropped l).unflag (Fld.LANE_STAT_RETIRED l)).unflag (Fld.LANE_CTL_RESTORE l)).unflag (fostatLane l)).setLaneSt l 1

/-- The restored lane waits for nothing, and the other takes nothing over. -/
def State.laneReleased (l : Nat) (s : State) : State :=
  (s.setLane l { s.lane l with restoring := false, takeover := false }).takenOver (otherLane l)

theorem fostatLane_addr : (fostatLane l).addr = Reg.SYSCFG_FOSTAT := by
  rw [fostatLane]
  split <;> rfl

theorem fostatLane_width : (fostatLane l).width = 1 := by
  rw [fostatLane]
  split <;> rfl

theorem fostatLane_fits : (fostatLane l).fits = true := by
  rw [fostatLane]
  split <;> rfl

theorem Reg.FOSTAT_ne_LANE : Reg.SYSCFG_FOSTAT ≠ Reg.LANE_STAT l ∧ Reg.SYSCFG_FOSTAT ≠ Reg.LANE_CTL l
    ∧ Reg.SYSCFG_FOSTAT ≠ Reg.LANE_HSTAT l := by
  simp only [Reg.SYSCFG_FOSTAT, Reg.LANE_STAT, Reg.LANE_CTL, Reg.LANE_HSTAT]
  omega

theorem exec_laneRolesReturn_of_restoring {l : Lane} (hrest : (s.lane l).restoring = true) (h6 : s.laneSt l ≠ 6) :
    exec (.laneRolesReturn l) s
      = .next ((refreshRoles ((s.laneBack l).laneReleased l)).fire (EV.LANE_RESTORED l)) := by
  have h : ∀ u : State, ((u.setLaneSt l 1).setLane l { u.lane l with restoring := false, takeover := false }).takenOver (otherLane l)
      = (u.setLaneSt l 1).laneReleased l := fun u => by rw [State.laneReleased, State.lane_setLaneSt]
  rw [State.laneBack, ← healthEnd_of_other h6, ← h]
  exact if_neg (by simp [hrest])

theorem onlyIn_laneBack : OnlyIn [.regs, .lanes] s (s.laneBack l) := by
  rw [State.laneBack, State.setLaneSt, onlyIn_put (by decide), onlyIn_unflag (by decide), onlyIn_unflag (by decide), onlyIn_unflag (by decide)]
  exact onlyIn_testDropped

theorem regsBut_laneBack : RegsBut [Reg.LANE_STAT l, Reg.LANE_CTL l, Reg.LANE_HSTAT l, Reg.SYSCFG_FOSTAT] s (s.laneBack l) := by
  have h : RegsBut [Reg.LANE_STAT l, Reg.LANE_CTL l, Reg.LANE_HSTAT l, Reg.SYSCFG_FOSTAT] s (s.testDropped l) :=
    regsBut_testDropped.mono (by simp)
  rw [State.laneBack]
  simp [State.setLaneSt, Fld.LANE_STAT_RETIRED, Fld.LANE_CTL_RESTORE, Fld.LANE_STAT_STATE, fostatLane_addr, h]

theorem has_RETIRED_laneBack : (s.laneBack l).has (Fld.LANE_STAT_RETIRED l) = false := by
  rw [State.laneBack, State.setLaneSt, State.has_put_bitsApart rfl rfl, State.unflag_eq_put, State.has_put_other, State.unflag_eq_put,
    State.has_put_other]
  · exact State.has_unflag_fits rfl
  · simp [Fld.LANE_STAT_RETIRED, Fld.LANE_CTL_RESTORE, Reg.LANE_STAT, Reg.LANE_CTL]
  · rw [fostatLane_addr]
    exact Reg.FOSTAT_ne_LANE.1.symm

theorem has_RESTORE_laneBack : (s.laneBack l).has (Fld.LANE_CTL_RESTORE l) = false := by
  rw [State.laneBack, State.setLaneSt, State.has_put_other, State.unflag_eq_put (f := fostatLane l), State.has_put_other]
  · exact State.has_unflag_fits rfl
  · rw [fostatLane_addr]
    exact Reg.FOSTAT_ne_LANE.2.1.symm
  · simp [Fld.LANE_STAT_STATE, Fld.LANE_CTL_RESTORE, Reg.LANE_STAT, Reg.LANE_CTL]

theorem has_FOSTAT_laneBack : (s.laneBack l).has (fostatLane l) = false := by
  rw [State.laneBack, State.setLaneSt, State.has_put_other]
  · exact State.has_unflag_fits fostatLane_fits
  · rw [fostatLane_addr]
    exact Reg.FOSTAT_ne_LANE.1

theorem laneSt_laneBack : (s.laneBack l).laneSt l = 1 := State.get_put_fits rfl

theorem pairOff_laneBack (h2 : l < 2) (h : s.PairOff) : (s.laneBack l).PairOff := by
  have hen : ∀ a ∈ [Reg.LANE_STAT l, Reg.LANE_CTL l, Reg.LANE_HSTAT l, Reg.SYSCFG_FOSTAT], Reg.RF_PAIR ≠ a := by
    simp only [Reg.RF_PAIR, Reg.LANE_STAT, Reg.LANE_CTL, Reg.LANE_HSTAT, Reg.SYSCFG_FOSTAT, List.mem_cons, List.not_mem_nil, or_false]
    omega
  have h0 : ∀ a ∈ [Reg.LANE_CTL l, Reg.LANE_HSTAT l], Reg.LANE_STAT 0 ≠ a := by
    simp only [Reg.LANE_STAT, Reg.LANE_CTL, Reg.LANE_HSTAT, List.mem_cons, List.not_mem_nil, or_false]
    omega
  refine h.of_rd (regsBut_laneBack _ fun hm => hen _ hm rfl) ?_
  rw [State.laneBack, State.setLaneSt, State.has_put_bitsApart rfl rfl, State.unflag_eq_put (f := fostatLane l), State.has_put_other,
    State.unflag_eq_put (f := Fld.LANE_CTL_RESTORE l), State.has_put_other, State.unflag_eq_put, State.has_put_bitsApart rfl rfl,
    regsBut_testDropped.has]
  · intro hm
    simp only [List.mem_cons, List.not_mem_nil, or_false] at hm
    rcases hm with hm | hm
    · exact h0 _ (by simp) hm
    · exact h0 _ (by simp) hm
  · exact h0 (Reg.LANE_CTL l) (by simp)
  · rw [fostatLane_addr]
    exact Reg.FOSTAT_ne_LANE.1.symm

theorem onlyIn_laneReleased : OnlyIn [.lanes] s (s.laneReleased l) := .of_frame rfl

theorem State.get_laneReleased : (s.laneReleased l).get f = s.get f := rfl

theorem State.PairOff.laneReleased (h : s.PairOff) : (s.laneReleased l).PairOff := h.of_rd rfl rfl

theorem length_lanes_laneBack : (s.laneBack l).lanes.length = s.lanes.length := by
  have : (s.laneBack l).lanes = (s.testDropped l).lanes := rfl
  rw [this]
  exact length_setNth

/-- A lane that comes back: the registers and notes that a restoration leaves. -/
def State.laneRestored (l : Nat) (s : State) : State := ((s.laneBack l).laneReleased l).rolesPut

theorem onlyIn_laneRestored : OnlyIn [.regs, .lanes] s (s.laneRestored l) :=
  (onlyIn_laneBack.trans (onlyIn_laneReleased.mono (by decide))).trans (onlyIn_rolesPut.mono (by decide))

theorem regsBut_laneRestored : RegsBut [Reg.LANE_STAT 0, Reg.LANE_STAT 1] (s.laneBack l) (s.laneRestored l) :=
  RegsBut.trans (t := (s.laneBack l).laneReleased l) (.of_regs (onlyIn_laneReleased.regs (by decide))) regsBut_rolesPut

theorem get_laneRestored (h : (Fld.LANE_STAT_ROLES 0).bitsApart f = true) : (s.laneRestored l).get f = (s.laneBack l).get f := by
  rw [State.laneRestored, get_rolesPut h, State.get_laneReleased]

theorem regs_laneRestored : (s.laneRestored l).retired l = false ∧ (s.laneRestored l).laneSt l = 1
    ∧ (s.laneRestored l).has (fostatLane l) = false ∧ (s.laneRestored l).has (Fld.LANE_CTL_RESTORE l) = false := by
  have hctl : Reg.LANE_CTL l ∉ [Reg.LANE_STAT 0, Reg.LANE_STAT 1] := by
    simp only [Reg.LANE_STAT, Reg.LANE_CTL, List.mem_cons, List.not_mem_nil, or_false]
    omega
  have hfostat : (fostatLane l).addr ∉ [Reg.LANE_STAT 0, Reg.LANE_STAT 1] := by
    rw [fostatLane_addr]
    decide
  refine ⟨?_, ?_, ?_, ?_⟩
  · rw [State.retired, State.has_eq_of_get (get_laneRestored (f := Fld.LANE_STAT_RETIRED l) rfl), has_RETIRED_laneBack]
  · rw [State.laneSt, get_laneRestored (f := Fld.LANE_STAT_STATE l) rfl, ← State.laneSt, laneSt_laneBack]
  · rw [regsBut_laneRestored.has hfostat, has_FOSTAT_laneBack]
  · rw [regsBut_laneRestored.has hctl, has_RESTORE_laneBack]

theorem lane_laneReleased (hlen : s.lanes.length = 2) (h2 : l < 2) : ((s.laneReleased l).lane l).restoring = false
    ∧ ((s.laneReleased l).lane (otherLane l)).takeover = false := by
  have hne := lane_takeover_ne l h2
  have hother : otherLane l < s.lanes.length := by
    rw [otherLane, hlen]
    omega
  refine ⟨?_, ?_⟩
  · rw [State.laneReleased, State.takenOver, State.lane_setLane_ne hne.symm, State.lane_setLane_self (hlen.symm ▸ h2)]
  · rw [State.laneReleased, State.takenOver, State.lane_setLane_self (length_setNth.symm ▸ hother)]

theorem answers_laneRolesReturn {l : Lane} (hlen : s.lanes.length = 2) (hoff : s.PairOff) (hrest : (s.lane l).restoring = true)
    (h7 : s.laneSt l = 7) : Answers (exec (.laneRolesReturn l) s) fun t =>
      t.retired l = false ∧ t.laneSt l = 1 ∧ t.has (fostatLane l) = false ∧ t.has (Fld.LANE_CTL_RESTORE l) = false
        ∧ (t.lane l).restoring = false ∧ (t.lane (otherLane l)).takeover = false ∧ Fires [EV.LANE_RESTORED l] s t
        ∧ RegsBut [Reg.LANE_STAT 0, Reg.LANE_STAT 1, Reg.LANE_CTL l, Reg.LANE_HSTAT l, Reg.SYSCFG_FOSTAT] s t
        ∧ t = { s with regs := t.regs, lanes := t.lanes, edges := t.edges } := by
  have hoff' : ((s.laneBack l).laneReleased l).PairOff := (pairOff_laneBack l.isLt hoff).laneReleased
  have heq := exec_laneRolesReturn_of_restoring hrest (by omega)
  rw [hoff'.refreshRoles, ← State.laneRestored] at heq
  have hlane : ∀ k, ((s.laneRestored l).fire (EV.LANE_RESTORED l)).lane k = ((s.laneBack l).laneReleased l).lane k :=
    fun k => by rw [State.lane_fire, State.laneRestored, State.lane_congr (onlyIn_rolesPut.lanes (by decide))]
  obtain ⟨hr, ht⟩ := lane_laneReleased (length_lanes_laneBack.trans hlen) l.isLt
  obtain ⟨hret, hst, hfostat, hctl⟩ := regs_laneRestored (s := s) (l := l)
  refine ⟨_, heq, ?_, ?_, ?_, ?_, ?_, ?_, onlyIn_laneRestored.fires_fire (by decide), ?_,
    OnlyIn.frame_regs_lanes_edges (onlyIn_laneRestored.fire (by decide) (by decide))⟩
  · rw [State.retired, State.has_fire, ← State.retired, hret]
  · rw [State.laneSt, State.get_fire, ← State.laneSt, hst]
  · rw [State.has_fire, hfostat]
  · rw [State.has_fire, hctl]
  · rw [hlane, hr]
  · rw [hlane, ht]
  · refine (regsBut_laneBack.mono ?_).trans ((regsBut_fire.mpr regsBut_laneRestored).mono (by simp))
    obtain ⟨l, hl⟩ := l
    interval_cases l <;> simp

/-! ### Retirement -/

/-- A retirement is refused, since the other lane is retired. -/
def State.retireRefused (l : Nat) (s : State) : State :=
  (laneCode l 0x0120 (s.flag (Fld.LANE_FLAGS_HEALTHFAIL l))).unflag (Fld.LANE_CTL_RETIRE l)

theorem regs_retireRefused : (s.retireRefused l).retired l = s.retired l ∧ (s.retireRefused l).get (Fld.LANE_LASTCODE_CODE l) = 0x0120
    ∧ (s.retireRefused l).has (Fld.LANE_FLAGS_HEALTHFAIL l) = true ∧ (s.retireRefused l).has (Fld.LANE_CTL_RETIRE l) = false := by
  simp [State.retireRefused, laneCode, State.retired, State.flag_eq_put, State.unflag_eq_put, Fld.LANE_STAT_RETIRED, Fld.LANE_LASTCODE_CODE,
    Fld.LANE_FLAGS_HEALTHFAIL, Fld.LANE_CTL_RETIRE, Reg.LANE_STAT, Reg.LANE_LASTCODE, Reg.LANE_FLAGS, Reg.LANE_CTL]

theorem laneRetire_of_other (hret : s.retired l = false) (hother : s.retired (otherLane l) = true) :
    laneRetire l s = laneCode l 0x0120 (s.flag (Fld.LANE_FLAGS_HEALTHFAIL l)) := by
  rw [laneRetire, if_neg (by simp [hret]), if_pos hother]

theorem answers_laneRetire_refused {l : Lane} (hret : s.retired l = false) (hother : s.retired (otherLane l) = true) :
    Answers (exec (.laneRetire l) s) fun t =>
      t.retired l = false ∧ t.get (Fld.LANE_LASTCODE_CODE l) = 0x0120 ∧ t.has (Fld.LANE_FLAGS_HEALTHFAIL l) = true
        ∧ t.has (Fld.LANE_CTL_RETIRE l) = false ∧ RegsBut [Reg.LANE_LASTCODE l, Reg.LANE_FLAGS l, Reg.LANE_CTL l] s t
        ∧ t = { s with regs := t.regs } := by
  have heq : exec (.laneRetire l) s = .next (s.retireRefused l) :=
    congrArg (fun u : State => Host.Outcome.next (u.unflag (Fld.LANE_CTL_RETIRE l))) (laneRetire_of_other hret hother)
  obtain ⟨hr, hcode, hflag, hctl⟩ := regs_retireRefused (s := s) (l := l)
  refine ⟨_, heq, hr.trans hret, hcode, hflag, hctl, ?_, OnlyIn.frame_regs ?_⟩
  · simp [State.retireRefused, laneCode, Fld.LANE_LASTCODE_CODE, Fld.LANE_FLAGS_HEALTHFAIL, Fld.LANE_CTL_RETIRE]
  · simp [State.retireRefused, laneCode]

/-- A lane is marked retired, and its test is dropped. -/
def State.retireMarked (l : Nat) (s : State) : State := (s.flag (Fld.LANE_STAT_RETIRED l)).testDropped l

/-- A retired lane is in state 7, without a lock and without a port. -/
def State.retireIdled (l : Nat) (s : State) : State := portsOpen l (laneUnlock l (s.setLaneSt l 7))

/-- The lane waits for nothing, and the other is to take its roles over. -/
def State.retireHanded (l : Nat) (s : State) : State :=
  let s := s.setLane l { s.lane l with goal := none, lbtWait := false, fullCal := false }
  s.setLane (otherLane l) { s.lane (otherLane l) with takeover := true }

/-- The registers and notes of a retired lane, before the roles are worked out again. -/
def State.retirePrepared (l : Nat) (s : State) : State :=
  (((s.retireMarked l).retireIdled l).retireHanded l).flag (fostatLane l)

/-- The event and the lifetime record of a retirement; the request's bit clears itself. -/
def State.retireRecorded (l : Nat) (s : State) : State :=
  (lifeCount 20 (8 * l) 8 1 (lifeCode 0x0113 (1 + l) (s.fire (EV.LANE_RETIRED l)))).unflag (Fld.LANE_CTL_RETIRE l)

/-- A lane that has nothing to end when it retires. -/
structure State.RetireQuiet (s : State) (l : Nat) : Prop where
  here : s.retired l = false
  other : s.retired (otherLane l) = false
  state : s.laneSt l ≤ 2
  acts : ∀ a ∈ s.acts, a.lane ≠ l
  sub : (s.lane l).txSub = none

theorem endLaneActs_of_none {code : Nat} (h : ∀ a ∈ s.acts, a.lane ≠ l) : endLaneActs l code s = s := by
  have hnil : s.acts.filter (fun a => a.lane == l) = [] := by
    rw [List.filter_eq_nil_iff]
    intro a ha
    simp [h a ha]
  rw [endLaneActs, hnil]
  rfl

theorem laneSt_retireMarked : (s.retireMarked l).laneSt l = s.laneSt l := by
  rw [State.retireMarked, laneSt_testDropped]
  exact State.get_put_bitsApart rfl rfl

theorem onlyIn_retireMarked : OnlyIn [.regs, .lanes] s (s.retireMarked l) :=
  OnlyIn.trans ((onlyIn_flag (by decide)).mpr .refl) onlyIn_testDropped

theorem lane_retireMarked (hl : l < s.lanes.length) :
    (s.retireMarked l).lane l = { s.lane l with hStep := 0, hAgain := false } :=
  lane_testDropped (s := s.flag (Fld.LANE_STAT_RETIRED l)) hl

theorem laneYield_retireFlag (h : s.laneSt l ≤ 2) :
    healthEnd l (laneYield l (s.flag (Fld.LANE_STAT_RETIRED l))) = s.retireMarked l := by
  have hst : (s.flag (Fld.LANE_STAT_RETIRED l)).laneSt l = s.laneSt l := State.get_put_bitsApart rfl rfl
  rw [laneYield_of_free (by omega), healthEnd_of_other (by omega)]
  rfl

theorem State.setLane_handed : (s.setLane l { s.lane l with goal := none, lbtWait := false, fullCal := false }).setLane (otherLane l)
    { (s.setLane l { s.lane l with goal := none, lbtWait := false, fullCal := false }).lane (otherLane l) with takeover := true }
      = s.retireHanded l := rfl

theorem laneRetire_of_quiet (hl : l < s.lanes.length) (h : s.RetireQuiet l) :
    laneRetire l s = lifeCount 20 (8 * l) 8 1 (lifeCode 0x0113 (1 + l) ((refreshRoles (s.retirePrepared l)).fire (EV.LANE_RETIRED l))) := by
  have hst := h.state
  have hst' : (s.retireMarked l).laneSt l ≤ 2 := laneSt_retireMarked.trans_le hst
  have hbusy : ¬ (s.laneSt l = 3 ∨ s.laneSt l = 4) := by omega
  have hsub : ((s.retireMarked l).lane l).txSub.isSome = false := by simp [lane_retireMarked hl, h.sub]
  have hacts : ∀ a ∈ (s.retireMarked l).acts, a.lane ≠ l := by
    rw [State.acts, onlyIn_retireMarked.link (by decide)]
    exact h.acts
  rw [laneRetire, if_neg (by simp [h.here]), if_neg (by simp [h.other])]
  dsimp only
  rw [laneYield_retireFlag hst, if_neg (by omega : ¬ (s.retireMarked l).laneSt l = 3), endLaneActs_of_none hacts, if_neg hbusy,
    if_neg (by simp [hsub] : ¬ ((s.retireMarked l).lane l).txSub.isSome = true),
    laneLeaveRx_of_other (s := s.retireMarked l) (by omega : (s.retireMarked l).laneSt l ≠ 3)]
  rfl

theorem regsBut_retireMarked : RegsBut [Reg.LANE_STAT l, Reg.LANE_HSTAT l, Reg.LANE_CTL l] s (s.retireMarked l) := by
  have h : RegsBut [Reg.LANE_STAT l] s (s.flag (Fld.LANE_STAT_RETIRED l)) := by simp [Fld.LANE_STAT_RETIRED]
  exact (h.mono (by simp)).trans (regsBut_testDropped.mono (by simp))

theorem regsBut_retireIdled : RegsBut [Reg.LANE_STAT l, Reg.RF_PORTMAP] s (s.retireIdled l) := by
  have h : RegsBut [Reg.LANE_STAT l] s (laneUnlock l (s.setLaneSt l 7)) := by
    simp [laneUnlock, State.setLaneSt, Fld.LANE_STAT_STATE, Fld.LANE_STAT_LOCK]
  exact (h.mono (by simp)).trans (regsBut_portsOpen.mono (by simp))

theorem onlyIn_retireIdled : OnlyIn [.regs] s (s.retireIdled l) :=
  OnlyIn.trans (t := laneUnlock l (s.setLaneSt l 7)) (by simp [laneUnlock, State.setLaneSt]) onlyIn_portsOpen

theorem State.get_retireHanded : (s.retireHanded l).get f = s.get f := rfl

theorem State.has_retireHanded : (s.retireHanded l).has f = s.has f := rfl

theorem State.rd_retireHanded {a : Nat} : (s.retireHanded l).rd a = s.rd a := rfl

theorem onlyIn_retireHanded : OnlyIn [.lanes] s (s.retireHanded l) := .of_frame rfl

theorem rd_retirePrepared {a : Nat} (h : a ≠ Reg.SYSCFG_FOSTAT) :
    (s.retirePrepared l).rd a = ((s.retireMarked l).retireIdled l).rd a := by
  rw [State.retirePrepared, State.flag_eq_put, State.rd_put_other (by rwa [fostatLane_addr]), State.rd_retireHanded]

theorem onlyIn_retirePrepared : OnlyIn [.regs, .lanes] s (s.retirePrepared l) := by
  rw [State.retirePrepared, onlyIn_flag (by decide)]
  exact (onlyIn_retireMarked.trans (onlyIn_retireIdled.mono (by decide))).trans (onlyIn_retireHanded.mono (by decide))

theorem Reg.LANE_STAT_ne_PORTMAP : Reg.LANE_STAT l ≠ Reg.RF_PORTMAP := by
  simp only [Reg.LANE_STAT, Reg.RF_PORTMAP]
  omega

theorem regs_retireIdled : (s.retireIdled l).has (Fld.LANE_STAT_RETIRED l) = s.has (Fld.LANE_STAT_RETIRED l)
    ∧ (s.retireIdled l).laneSt l = 7 ∧ (s.retireIdled l).has (Fld.LANE_STAT_LOCK l) = false
    ∧ (s.retireIdled l).has (Fld.LANE_STAT_PAIRED l) = s.has (Fld.LANE_STAT_PAIRED l) := by
  have hne : Reg.LANE_STAT l ∉ [Reg.RF_PORTMAP] := by simpa using Reg.LANE_STAT_ne_PORTMAP (l := l)
  have hports : ∀ u : State, RegsBut [Reg.RF_PORTMAP] u (portsOpen l u) := fun _ => regsBut_portsOpen
  refine ⟨?_, ?_, ?_, ?_⟩
  · rw [State.retireIdled, (hports _).has hne, laneUnlock, State.setLaneSt, State.unflag_eq_put, State.has_put_bitsApart rfl rfl,
      State.has_put_bitsApart rfl rfl]
  · rw [State.retireIdled, State.laneSt, (hports _).get hne, laneUnlock, State.setLaneSt, State.unflag_eq_put, State.get_put_bitsApart rfl rfl,
      State.get_put_fits rfl]
    rfl
  · rw [State.retireIdled, (hports _).has hne, laneUnlock]
    exact State.has_unflag_fits rfl
  · rw [State.retireIdled, (hports _).has hne, laneUnlock, State.setLaneSt, State.unflag_eq_put, State.has_put_bitsApart rfl rfl,
      State.has_put_bitsApart rfl rfl]

theorem has_retireMarked (h : (Fld.LANE_STAT_RETIRED l).bitsApart f = true) (hf : f.addr ∉ [Reg.LANE_HSTAT l, Reg.LANE_CTL l]) :
    (s.retireMarked l).has f = s.has f := by
  rw [State.retireMarked, regsBut_testDropped.has hf, State.flag_eq_put, State.has_put_bitsApart rfl h]

theorem has_RETIRED_retireMarked : (s.retireMarked l).has (Fld.LANE_STAT_RETIRED l) = true := by
  rw [State.retireMarked, regsBut_testDropped.has]
  · exact State.has_flag_bit rfl rfl
  · simp [Fld.LANE_STAT_RETIRED, Reg.LANE_STAT, Reg.LANE_HSTAT, Reg.LANE_CTL]

/-- A field of LANE_STAT of the prepared lane. -/
theorem get_stat_retirePrepared {f : Field} (hf : f.addr = Reg.LANE_STAT l) :
    (s.retirePrepared l).get f = ((s.retireMarked l).retireIdled l).get f :=
  State.get_eq_of_rd (rd_retirePrepared (by rw [hf]; exact Reg.FOSTAT_ne_LANE.1.symm))

theorem regs_retirePrepared : (s.retirePrepared l).retired l = true ∧ (s.retirePrepared l).laneSt l = 7
    ∧ (s.retirePrepared l).has (Fld.LANE_STAT_LOCK l) = false ∧ (s.retirePrepared l).has (fostatLane l) = true := by
  obtain ⟨hret, hst, hlock, -⟩ := regs_retireIdled (s := s.retireMarked l) (l := l)
  refine ⟨?_, ?_, ?_, State.has_flag_bit fostatLane_fits fostatLane_width⟩
  · rw [State.retired, State.has_eq_of_get (get_stat_retirePrepared rfl), hret, has_RETIRED_retireMarked]
  · rw [State.laneSt, get_stat_retirePrepared rfl, ← State.laneSt, hst]
  · rw [State.has_eq_of_get (get_stat_retirePrepared rfl), hlock]

theorem get_LASTCODE_retirePrepared (h2 : l < 2) : (s.retirePrepared l).get (Fld.LANE_LASTCODE_CODE l) = s.get (Fld.LANE_LASTCODE_CODE l) := by
  have h1 : Reg.LANE_LASTCODE l ≠ Reg.SYSCFG_FOSTAT := by
    simp only [Reg.LANE_LASTCODE, Reg.SYSCFG_FOSTAT]
    omega
  have h3 : Reg.LANE_LASTCODE l ∉ [Reg.LANE_STAT l, Reg.RF_PORTMAP] := by
    simp only [Reg.LANE_LASTCODE, Reg.LANE_STAT, Reg.RF_PORTMAP, List.mem_cons, List.not_mem_nil, or_false]
    omega
  have h4 : Reg.LANE_LASTCODE l ∉ [Reg.LANE_STAT l, Reg.LANE_HSTAT l, Reg.LANE_CTL l] := by
    simp only [Reg.LANE_LASTCODE, Reg.LANE_STAT, Reg.LANE_HSTAT, Reg.LANE_CTL, List.mem_cons, List.not_mem_nil, or_false]
    omega
  rw [State.get_eq_of_rd (f := Fld.LANE_LASTCODE_CODE l) (rd_retirePrepared h1),
    regsBut_retireIdled.get (f := Fld.LANE_LASTCODE_CODE l) h3, regsBut_retireMarked.get (f := Fld.LANE_LASTCODE_CODE l) h4]

theorem rd_PORTMAP_retirePrepared : (s.retirePrepared l).rd Reg.RF_PORTMAP
    = (portsOpen l (laneUnlock l ((s.retireMarked l).setLaneSt l 7))).rd Reg.RF_PORTMAP := rd_retirePrepared (by decide)

theorem pairOff_retirePrepared (h2 : l < 2) (h : s.PairOff) : (s.retirePrepared l).PairOff := by
  have hen : ((s.retireMarked l).retireIdled l).rd Reg.RF_PAIR = s.rd Reg.RF_PAIR := by
    rw [regsBut_retireIdled, regsBut_retireMarked]
    · simp only [Reg.RF_PAIR, Reg.LANE_STAT, Reg.LANE_HSTAT, Reg.LANE_CTL, List.mem_cons, List.not_mem_nil, or_false]
      omega
    · simp only [Reg.RF_PAIR, Reg.LANE_STAT, Reg.RF_PORTMAP, List.mem_cons, List.not_mem_nil, or_false]
      omega
  have hmark : (s.retireMarked l).has (Fld.LANE_STAT_PAIRED 0) = s.has (Fld.LANE_STAT_PAIRED 0) := has_retireMarked rfl (by
    simp only [Fld.LANE_STAT_PAIRED, Reg.LANE_STAT, Reg.LANE_HSTAT, Reg.LANE_CTL, List.mem_cons, List.not_mem_nil, or_false]
    omega)
  have hidle : ((s.retireMarked l).retireIdled l).has (Fld.LANE_STAT_PAIRED 0) = (s.retireMarked l).has (Fld.LANE_STAT_PAIRED 0) := by
    by_cases hl : l = 0
    · subst hl
      exact regs_retireIdled.2.2.2
    · apply regsBut_retireIdled.has
      simp only [Fld.LANE_STAT_PAIRED, Reg.LANE_STAT, Reg.RF_PORTMAP, List.mem_cons, List.not_mem_nil, or_false]
      omega
  refine h.of_rd ((rd_retirePrepared (by decide)).trans hen) ?_
  rw [State.has_eq_of_get (State.get_eq_of_rd (rd_retirePrepared (by decide : Reg.LANE_STAT 0 ≠ Reg.SYSCFG_FOSTAT))), hidle, hmark]

theorem takeover_retirePrepared (hlen : s.lanes.length = 2) (h2 : l < 2) : ((s.retirePrepared l).lane (otherLane l)).takeover = true := by
  have hother : otherLane l < ((s.retireMarked l).retireIdled l).lanes.length := by
    have hm : (s.retireMarked l).lanes.length = 2 := length_setNth.trans hlen
    rw [onlyIn_retireIdled.lanes (by decide), hm, otherLane]
    omega
  have h : (s.retirePrepared l).lane (otherLane l) = (((s.retireMarked l).retireIdled l).retireHanded l).lane (otherLane l) := rfl
  rw [h, State.retireHanded, State.lane_setLane_self (length_setNth.symm ▸ hother)]

/-- A lane that has retired, with its event and its record. -/
def State.laneGone (l : Nat) (s : State) : State := (s.retirePrepared l).rolesPut.retireRecorded l

theorem exec_laneRetire_of_quiet {l : Lane} (hl : l.val < s.lanes.length) (hoff : s.PairOff) (h : s.RetireQuiet l) :
    exec (.laneRetire l) s = .next (s.laneGone l) := by
  rw [State.laneGone, ← (pairOff_retirePrepared l.isLt hoff).refreshRoles]
  exact congrArg (fun u : State => Host.Outcome.next (u.unflag (Fld.LANE_CTL_RETIRE l))) (laneRetire_of_quiet hl h)

theorem onlyIn_lifeRetired {c blk w lo width : Nat} : OnlyIn [.regs, .life] s (lifeCount w lo width n (lifeCode c blk s)) :=
  onlyIn_lifeCode.trans onlyIn_lifeCount

theorem onlyIn_retireRecorded : OnlyIn [.regs, .edges, .life] s (s.retireRecorded l) := by
  rw [State.retireRecorded, onlyIn_unflag (by decide)]
  exact OnlyIn.trans (t := s.fire (EV.LANE_RETIRED l)) ((onlyIn_fire (by decide)).mpr .refl) (onlyIn_lifeRetired.mono (by decide))

theorem rd_retireRecorded {a : Nat} (hlife : a < Reg.LIFE_VAL 0) (hctl : a ≠ Reg.LANE_CTL l) : (s.retireRecorded l).rd a = s.rd a := by
  rw [State.retireRecorded, State.unflag_eq_put, State.rd_put_other hctl, lifeCount, rd_lifeEvent hlife, lifeCode, rd_lifeEvent hlife,
    State.rd_fire]

theorem fires_retireRecorded : Fires [EV.LANE_RETIRED l] s (s.retireRecorded l) := by
  have h : (s.retireRecorded l).edges = (s.fire (EV.LANE_RETIRED l)).edges := by
    rw [State.retireRecorded, State.unflag_eq_put, State.put_edges, onlyIn_lifeRetired.edges (by decide)]
  rw [Fires, h]
  exact Fires.fire rfl

theorem rd_laneGone {a : Nat} (hlife : a < Reg.LIFE_VAL 0) (hctl : a ≠ Reg.LANE_CTL l) (hstat : a ∉ [Reg.LANE_STAT 0, Reg.LANE_STAT 1]) :
    (s.laneGone l).rd a = (s.retirePrepared l).rd a := by
  rw [State.laneGone, rd_retireRecorded hlife hctl, regsBut_rolesPut a hstat]

theorem get_stat_laneGone (h2 : l < 2) (hf : f.addr = Reg.LANE_STAT l) (h : (Fld.LANE_STAT_ROLES 0).bitsApart f = true) :
    (s.laneGone l).get f = (s.retirePrepared l).get f := by
  have hrec : ∀ u : State, (u.retireRecorded l).rd f.addr = u.rd f.addr := fun u => by
    rw [hf, rd_retireRecorded]
    · simp only [Reg.LANE_STAT, Reg.LIFE_VAL]
      omega
    · simp [Reg.LANE_STAT, Reg.LANE_CTL]
  rw [State.laneGone, State.get_eq_of_rd (hrec _), get_rolesPut h]

theorem get_ROLES_laneGone (h2 : l < 2) : (s.laneGone l).get (Fld.LANE_STAT_ROLES l) = rolesOf (s.retirePrepared l) l % 256 := by
  have hrec : ∀ u : State, (u.retireRecorded l).rd (Reg.LANE_STAT l) = u.rd (Reg.LANE_STAT l) := fun u => by
    apply rd_retireRecorded
    · simp only [Reg.LANE_STAT, Reg.LIFE_VAL]
      omega
    · simp [Reg.LANE_STAT, Reg.LANE_CTL]
  rw [State.laneGone, State.get_eq_of_rd (f := Fld.LANE_STAT_ROLES l) (hrec _), get_ROLES_rolesPut h2]

theorem rolesOf_of_retired (h : s.retired l = true) : rolesOf s l = 0 := by
  rw [rolesOf, if_neg (by simp [h]), if_pos h]

theorem regs_laneGone (h2 : l < 2) : (s.laneGone l).retired l = true ∧ (s.laneGone l).laneSt l = 7
    ∧ (s.laneGone l).has (Fld.LANE_STAT_LOCK l) = false ∧ (s.laneGone l).get (Fld.LANE_STAT_ROLES l) = 0 := by
  obtain ⟨hret, hst, hlock, -⟩ := regs_retirePrepared (s := s) (l := l)
  refine ⟨?_, ?_, ?_, ?_⟩
  · rw [State.retired, State.has_eq_of_get (get_stat_laneGone h2 rfl rfl), ← State.retired, hret]
  · rw [State.laneSt, get_stat_laneGone h2 rfl rfl, ← State.laneSt, hst]
  · rw [State.has_eq_of_get (get_stat_laneGone h2 rfl rfl), hlock]
  · rw [get_ROLES_laneGone h2, rolesOf_of_retired hret]

theorem others_laneGone (h2 : l < 2) : (s.laneGone l).get (Fld.LANE_LASTCODE_CODE l) = s.get (Fld.LANE_LASTCODE_CODE l)
    ∧ (s.laneGone l).has (fostatLane l) = true ∧ (s.laneGone l).has (Fld.LANE_CTL_RETIRE l) = false := by
  have hlast : (s.laneGone l).rd (Reg.LANE_LASTCODE l) = (s.retirePrepared l).rd (Reg.LANE_LASTCODE l) := by
    apply rd_laneGone
    · simp only [Reg.LANE_LASTCODE, Reg.LIFE_VAL]
      omega
    · simp [Reg.LANE_LASTCODE, Reg.LANE_CTL]
    · simp only [Reg.LANE_LASTCODE, Reg.LANE_STAT, List.mem_cons, List.not_mem_nil, or_false]
      omega
  have hfo : (s.laneGone l).rd (fostatLane l).addr = (s.retirePrepared l).rd (fostatLane l).addr := by
    rw [fostatLane_addr]
    exact rd_laneGone (by decide) Reg.FOSTAT_ne_LANE.2.1 (by decide)
  refine ⟨?_, ?_, State.has_unflag_fits rfl⟩
  · rw [State.get_eq_of_rd (f := Fld.LANE_LASTCODE_CODE l) hlast, get_LASTCODE_retirePrepared h2]
  · rw [State.has_eq_of_get (State.get_eq_of_rd hfo), regs_retirePrepared.2.2.2]

theorem ports_laneGone (h2 : l < 2) {p : Nat × Nat} (hp : p ∈ ports) : portSource ((s.laneGone l).rd Reg.RF_PORTMAP).toNat p.1 ≠ l := by
  have hctl : Reg.RF_PORTMAP ≠ Reg.LANE_CTL l := by
    simp only [Reg.RF_PORTMAP, Reg.LANE_CTL]
    omega
  rw [rd_laneGone (by decide) hctl (by decide), rd_PORTMAP_retirePrepared]
  exact portSource_portsOpen h2 hp

theorem onlyIn_laneGone : OnlyIn [.regs, .lanes, .edges, .life] s (s.laneGone l) :=
  ((onlyIn_retirePrepared.trans (onlyIn_rolesPut.mono (by decide))).mono (by decide)).trans (onlyIn_retireRecorded.mono (by decide))

theorem lanes_laneGone : (s.laneGone l).lanes = (s.retirePrepared l).lanes :=
  (onlyIn_retireRecorded.lanes (by decide)).trans (onlyIn_rolesPut.lanes (by decide))

theorem fires_laneGone : Fires [EV.LANE_RETIRED l] s (s.laneGone l) :=
  ((onlyIn_retirePrepared.trans (onlyIn_rolesPut.mono (by decide))).fires (by decide)).append fires_retireRecorded

theorem answers_laneRetire {l : Lane} (hlen : s.lanes.length = 2) (hoff : s.PairOff) (h : s.RetireQuiet l) :
    Answers (exec (.laneRetire l) s) fun t =>
      t.retired l = true ∧ t.laneSt l = 7 ∧ t.has (Fld.LANE_STAT_LOCK l) = false ∧ t.has (Fld.LANE_CTL_RETIRE l) = false
        ∧ t.get (Fld.LANE_LASTCODE_CODE l) = s.get (Fld.LANE_LASTCODE_CODE l) ∧ t.has (fostatLane l) = true ∧ t.get (Fld.LANE_STAT_ROLES l) = 0
        ∧ (∀ p ∈ ports, portSource (t.rd Reg.RF_PORTMAP).toNat p.1 ≠ l.val)
        ∧ (t.lane (otherLane l)).takeover = true ∧ Fires [EV.LANE_RETIRED l] s t ∧ SameBytes s t := by
  obtain ⟨hret, hst, hlock, hroles⟩ := regs_laneGone (s := s) l.isLt
  obtain ⟨hlast, hfo, hctl⟩ := others_laneGone (s := s) l.isLt
  have htake : ((s.laneGone l).lane (otherLane l)).takeover = true := by
    rw [State.lane_congr lanes_laneGone, takeover_retirePrepared hlen l.isLt]
  exact ⟨_, exec_laneRetire_of_quiet (hlen.symm ▸ l.isLt) hoff h, hret, hst, hlock, hctl, hlast, hfo, hroles,
    fun p hp => ports_laneGone l.isLt hp, htake, fires_laneGone, onlyIn_laneGone.sameBytes (by decide)⟩

/-- Settles O24: retirement, its refusal, takeover, and restoration up to the return to STANDBY. -/
theorem retirementAndRestoration : Obligations.RetirementAndRestoration := by
  intro l s hlen hen hp
  have hoff : s.PairOff := ⟨hen, hp⟩
  have hl : l.val < s.lanes.length := hlen.symm ▸ l.isLt
  refine ⟨fun hret hother hst hacts hsub => ?retire, answers_laneRetire_refused, fun htake hret hother => ?takeover, fun hret hlast => ?restore,
    fun hrest _ h7 => ?back⟩
  case retire => exact answers_laneRetire hlen hoff ⟨hret, hother, hst, hacts, hsub⟩
  case takeover => exact answers_laneTakeover hlen hoff htake hret hother
  case restore => exact answers_laneRestore hl hret hlast
  case back => exact answers_laneRolesReturn hlen hoff hrest h7

end Sys2Proof.Machine
end

section
/-!
SUPPORT. Bus accesses (R3 to R5, R14, R15): which addresses a register row with read-to-clear bits can stand at, and what a
plain access to block RAM, to a staging register and to such a register does.
-/

namespace Sys2Proof.Machine

variable {s t : State} {a n v lo hi : Nat}

/-! ### Rows whose read clears bits -/

/-- No register of the dimensions stands this far from the base. -/
def extent : List (Nat × Nat) → Nat
  | [] => 1
  | (count, stride) :: _ => count * stride

theorem lt_extent_of_offsetIn {dims : List (Nat × Nat)} {d : Nat} (hpos : dims.all (fun x => x.2 != 0) = true)
    (h : offsetIn dims d = true) : d < extent dims := by
  cases dims with
  | nil =>
    have : d = 0 := by simpa [offsetIn] using h
    simp [this, extent]
  | cons x xs =>
    obtain ⟨count, stride⟩ := x
    simp only [List.all_cons, Bool.and_eq_true, bne_iff_ne, ne_eq] at hpos
    simp only [offsetIn, Bool.and_eq_true, decide_eq_true_eq] at h
    exact (Nat.div_lt_iff_lt_mul (Nat.pos_of_ne_zero hpos.1)).mp h.1

/-- The address ranges in which a read has an effect of its own, answers something else than the register, or goes to a
block RAM. -/
def ownReads : List (Nat × Nat) :=
  [(Reg.PMU_DOMSTAT, Reg.PMU_DOMSTAT + 1), (Reg.TIDE_NOWLO, Reg.TIDE_NOWLO + 1), (Reg.TRNG_DATA, Reg.TRNG_DATA + 1),
   (Reg.FLASHC_EWFIFO, Reg.FLASHC_EWFIFO + 1), (Reg.MEMCTL_GRPSTAT 0, Reg.MEMCTL_GRPSTAT 3), (Reg.RING_TSLO, Reg.RING_TSLO + 1),
   (Reg.RING_TSHI, Reg.RING_TSHI + 1), (Reg.MODEM_PANLAST 0 0, Reg.MODEM_PANLAST 16 0), (Reg.LINK_RPEVICTLO, Reg.LINK_RPEVICTLO + 1),
   (Reg.LINK_RPEVICTHI, Reg.LINK_RPEVICTHI + 1), (Reg.LINK_DUTYCREDLO 0, Reg.LINK_DUTYCREDLO 8), (0x40054000, 0x40058000),
   (0x40059000, 0x4005A000), (0x400B0000, 0x400D0000), (0x400D8000, 0x400D8900), (0x400E0000, 0x400EC000), (Reg.HOSTP_IRQSTAT, Reg.HOSTP_IRQSTAT + 1),
   (Reg.LIFE_VAL 12, Reg.LIFE_VAL 16), (Reg.ADC_RESULT, Reg.ADC_RESULT + 1)]

/-- A register outside those ranges. -/
def PlainAt (a : Nat) : Prop := ∀ x ∈ ownReads, a < x.1 ∨ x.2 ≤ a

/-- A row whose registers stand outside those ranges and have no bit that is written only. -/
def RegRow.plain (r : RegRow) : Bool :=
  r.wo == 0 && r.dims.all (fun x => x.2 != 0) && ownReads.all (fun x => r.base + extent r.dims ≤ x.1 || x.2 ≤ r.base)

def PlainRows (l : List RegRow) : Prop := l.all (fun r => r.rc == 0 || r.plain) = true

theorem PlainRows.ite {c : Prop} [Decidable c] {x y : List RegRow} (hx : PlainRows x) (hy : PlainRows y) : PlainRows (if c then x else y) := by
  split <;> assumption

theorem plainRows_rowsAt : PlainRows (rowsAt a) := by
  unfold rowsAt
  repeat' apply PlainRows.ite
  all_goals
    unfold PlainRows
    decide +kernel

theorem rowOf_mem {r : RegRow} (h : rowOf a = some r) : r ∈ rowsAt a ∧ r.base ≤ a ∧ offsetIn r.dims (a - r.base) = true := by
  have hp := List.find?_some h
  simp only [Bool.and_eq_true, decide_eq_true_eq] at hp
  exact ⟨List.mem_of_find?_eq_some h, hp.1, hp.2⟩

theorem plainAt_of_rc {r : RegRow} (h : rowOf a = some r) (hrc : r.rc ≠ 0) : PlainAt a ∧ r.wo = 0 := by
  obtain ⟨hmem, hbase, hoff⟩ := rowOf_mem h
  have hplain : r.plain = true := by
    have := List.all_eq_true.mp plainRows_rowsAt r hmem
    simpa [hrc] using this
  simp only [RegRow.plain, Bool.and_eq_true, beq_iff_eq] at hplain
  obtain ⟨⟨hwo, hpos⟩, hown⟩ := hplain
  have hlt := lt_extent_of_offsetIn hpos hoff
  refine ⟨fun x hx => ?_, hwo⟩
  have := List.all_eq_true.mp hown x hx
  simp only [Bool.or_eq_true, decide_eq_true_eq] at this
  omega

theorem PlainAt.ne (h : PlainAt a) {b : Nat} (hb : (b, b + 1) ∈ ownReads) : a ≠ b := by
  have := h _ hb
  dsimp only at this
  omega

theorem PlainAt.out (h : PlainAt a) (hx : (lo, hi) ∈ ownReads) : ¬ (lo ≤ a ∧ a < hi) := by
  have := h _ hx
  dsimp only at this
  omega

theorem not_inBlockRam_of_plain (h : PlainAt a) : inBlockRam a = false := by
  have h1 := h.out (lo := 0x40054000) (hi := 0x40058000) (by decide)
  have h2 := h.out (lo := 0x40059000) (hi := 0x4005A000) (by decide)
  have h3 := h.out (lo := 0x400D8000) (hi := 0x400D8900) (by decide)
  rw [Bool.eq_false_iff]
  simp only [inBlockRam, inJobRam, inOperandRam, inCanRam, ne_eq, Bool.or_eq_true, Bool.and_eq_true, decide_eq_true_eq]
  rw [pkeD]
  omega

theorem liveValue_of_plain (h : PlainAt a) : liveValue s a = s.rd a := by
  rw [liveValue, if_neg (h.ne (by decide)), if_neg (h.out (by decide)), if_neg (h.ne (by decide))]

theorem readRadio_of_plain (h : PlainAt a) : readRadio a s = classRead a s := by
  rw [readRadio, if_neg (h.out (by decide)), if_neg (h.ne (by decide)), if_neg (h.ne (by decide)), if_neg (h.out (by decide))]

theorem readLife_of_plain (h : PlainAt a) : readLife a s = classRead a s := by
  have hl := h.out (lo := Reg.LIFE_VAL 12) (hi := Reg.LIFE_VAL 16) (by decide)
  simp only [Reg.LIFE_VAL] at hl
  have h12 : a ≠ Reg.LIFE_VAL 12 := by simp only [Reg.LIFE_VAL]; omega
  have h14 : a ≠ Reg.LIFE_VAL 14 := by simp only [Reg.LIFE_VAL]; omega
  have h13 : ¬ (a = Reg.LIFE_VAL 13 ∨ a = Reg.LIFE_VAL 15) := by simp only [Reg.LIFE_VAL]; omega
  rw [readLife, if_neg h12, if_neg h14, if_neg h13]

theorem readPeriph_of_plain (h : PlainAt a) : readPeriph a s = classRead a s := by
  have hserial := h.out (lo := 0x400B0000) (hi := 0x400D0000) (by decide)
  have htimer := h.out (lo := 0x400E0000) (hi := 0x400EC000) (by decide)
  have huart : ¬ (a / 0x1000 % 16 < 3 ∧ a = Reg.UART_RXD (a / 0x1000 % 16)) := by
    simp only [Reg.UART_RXD]
    omega
  have hspi : ¬ (a / 0x1000 % 16 < 2 ∧ a = Reg.SPIM_DATA (a / 0x1000 % 16)) := by
    simp only [Reg.SPIM_DATA]
    omega
  have hi2c : ¬ (a / 0x1000 % 16 < 4 ∧ a = Reg.I2C_DATA (a / 0x1000 % 16 - 2)) := by
    simp only [Reg.I2C_DATA]
    omega
  have htmr : ¬ (a / 0x1000 % 16 < 4 ∧ a = Reg.TMR_COUNT (a / 0x1000 % 16) ∧ s.tmrRuns (a / 0x1000 % 16)) := by
    rintro ⟨hn, ha, -⟩
    simp only [Reg.TMR_COUNT] at ha
    omega
  rw [readPeriph, if_neg huart, if_neg hspi, if_neg hi2c, if_neg (h.ne (by decide)), if_neg htmr]

/-- Outside those ranges a read is the plain one. -/
theorem regRead_of_plain (h : PlainAt a) : regRead a s = classRead a s := by
  rw [regRead, if_neg (h.ne (by decide)), if_neg (h.ne (by decide)), if_neg (h.ne (by decide)), if_neg (h.ne (by decide)),
    if_neg (h.ne (by decide)), readRadio_of_plain h, readPeriph_of_plain h, readLife_of_plain h]
  split_ifs <;> rfl

/-! ### Which way an access takes -/

theorem inRegisters_of_regBars {m : Master} (h : regBars s m a n = false) : 0x40000000 ≤ a := by
  have hin : inRegisters a = true := by
    by_contra hne
    simp [regBars, hne] at h
  simp only [inRegisters, Bool.or_eq_true, Bool.and_eq_true, decide_eq_true_eq] at hin
  omega

/-- A register address lies above every memory. -/
theorem notMemory_of_register (h : 0x40000000 ≤ a) :
    isFlash a = false ∧ inSram a = false ∧ inRom a = false ∧ inLinkRam a = false := by
  simp only [isFlash, inSram, inRom, inLinkRam, Bool.or_eq_false_iff, Bool.and_eq_false_iff, decide_eq_false_iff_not]
  omega

variable {m : Master} {addr val : Word} {z : AccessSize} {fill : Option CacheUse}

theorem exec_registerWrite_of_issued (hi : s.issues m = true) :
    exec (.registerWrite m addr z val) s = .next (busWrite m addr z val s) := congrArg Host.Outcome.next (if_pos hi)

theorem exec_rcRegisterRead_of_issued (hi : s.issues m = true) :
    exec (.rcRegisterRead m addr z fill) s = .next (busRead m addr z fill s) := congrArg Host.Outcome.next (if_pos hi)

theorem busWrite_of_register (h : 0x40000000 ≤ addr.toNat) : busWrite m addr z val s
    = if regBars s m addr.toNat (sizeOctets z) then busError s
      else if inBlockRam addr.toNat then blockRamWrite m addr.toNat (sizeOctets z) val.toNat { s with bus := .done }
      else regWrite m addr.toNat val { s with bus := .done } := by
  obtain ⟨-, hsram, -, hlink⟩ := notMemory_of_register h
  rw [busWrite, if_neg (by simp [hsram]), if_neg (by simp [hlink])]

theorem busRead_of_register (h : 0x40000000 ≤ addr.toNat) : busRead m addr z fill s
    = if regBars s m addr.toNat (sizeOctets z) then busError s
      else if inBlockRam addr.toNat then busAnswer (s.num addr.toNat (sizeOctets z)) s else regRead addr.toNat s := by
  obtain ⟨hflash, hsram, hrom, hlink⟩ := notMemory_of_register h
  rw [busRead, if_neg (by simp [hflash]), if_neg (by simp [hsram]), if_neg (by simp [hrom]), if_neg (by simp [hlink])]

theorem exec_accesses_barred (hi : s.issues m = true) (hflash : isFlash addr.toNat = false) (hsram : inSram addr.toNat = false)
    (hrom : inRom addr.toNat = false) (hlink : inLinkRam addr.toNat = false) (hbar : regBars s m addr.toNat (sizeOctets z) = true) :
    exec (.registerWrite m addr z val) s = .next { s with bus := .error } ∧ exec (.rcRegisterRead m addr z fill) s = .next { s with bus := .error } := by
  refine ⟨?_, ?_⟩
  · rw [exec_registerWrite_of_issued hi, busWrite, if_neg (by simp [hsram]), if_neg (by simp [hlink]), if_pos hbar]
    rfl
  · rw [exec_rcRegisterRead_of_issued hi, busRead, if_neg (by simp [hflash]), if_neg (by simp [hsram]), if_neg (by simp [hrom]),
      if_neg (by simp [hlink]), if_pos hbar]
    rfl

/-! ### Job RAM -/

/-- A word stored in a block RAM. -/
def State.ramStored (a : Nat) (v : Word) (s : State) : State := ({ s with bus := .done } : State).setWord a v

theorem word_mod (v : Word) : v.toNat % 256 ^ 4 = v.toNat := Nat.mod_eq_of_lt (by simpa using v.isLt)

theorem not_inOperandRam_of_job (h : inJobRam a = true) : inOperandRam a = false ∧ 0x40000000 ≤ a := by
  simp only [inJobRam, Bool.and_eq_true, decide_eq_true_eq] at h
  refine ⟨?_, by omega⟩
  rw [Bool.eq_false_iff]
  simp only [inOperandRam, ne_eq, Bool.and_eq_true, decide_eq_true_eq]
  rw [pkeD]
  omega

theorem inBlockRam_of_job (h : inJobRam a = true) : inBlockRam a = true := by simp [inBlockRam, h]

theorem answers_jobWrite (hi : s.issues m = true) (hbar : regBars s m addr.toNat 4 = false) (hjob : inJobRam addr.toNat = true) :
    Answers (exec (.registerWrite m addr .word val) s) fun t =>
      t.word addr.toNat = val ∧ BytesOutside addr.toNat 4 s t ∧ t = { s with mem := t.mem, bus := .done } := by
  obtain ⟨hop, hreg⟩ := not_inOperandRam_of_job hjob
  have heq : exec (.registerWrite m addr .word val) s = .next (s.ramStored addr.toNat val) := by
    rw [exec_registerWrite_of_issued hi, busWrite_of_register hreg, if_neg (by simp [sizeOctets, hbar]), if_pos (inBlockRam_of_job hjob),
      blockRamWrite, if_neg (by simp [hop])]
    show Host.Outcome.next (State.setNum addr.toNat 4 (val.toNat % 256 ^ 4) { s with bus := .done }) = _
    rw [word_mod]
    rfl
  refine ⟨_, heq, State.word_setWord_self, fun b hb => ?_, State.setWord_frame⟩
  exact State.byte_setWord_out (s := { s with bus := .done }) hb

theorem exec_jobRead (hi : s.issues m = true) (hbar : regBars s m addr.toNat 4 = false) (hjob : inJobRam addr.toNat = true) :
    exec (.rcRegisterRead m addr .word fill) s = .next { s with bus := .data (s.word addr.toNat) } := by
  rw [exec_rcRegisterRead_of_issued hi, busRead_of_register (not_inOperandRam_of_job hjob).2, if_neg (by simp [sizeOctets, hbar]),
    if_pos (inBlockRam_of_job hjob)]
  rfl

/-! ### The staging registers of the key store -/

theorem rowOf_NEWATTR (w : Fin 7) : rowOf (Reg.KEYSTORE_NEWATTR w) = some { base := Reg.KEYSTORE_NEWATTR 0, dims := [(7, 4)], reset := 0, rw := 4294967295 } := by
  fin_cases w <;> decide +kernel

theorem storedAs_NEWATTR (w : Fin 7) : storedAs (Reg.KEYSTORE_NEWATTR w) v = v := by
  have hclamps : clampsAt (Reg.KEYSTORE_NEWATTR w) = [] := by
    fin_cases w <;> decide +kernel
  have hne : ¬ (Reg.KEYSTORE_NEWATTR w = Reg.LANE_PWR 0 ∨ Reg.KEYSTORE_NEWATTR w = Reg.LANE_PWR 1) := by
    fin_cases w <;> decide
  have hagc : Reg.KEYSTORE_NEWATTR w ≠ Reg.MODEM_AGCCFG := by
    fin_cases w <;> decide
  rw [storedAs, hclamps, List.foldl_nil, clampSigned, if_neg hne, if_neg hagc]

theorem and_ones (x : Word) : x &&& 4294967295#32 = x := by
  rw [show 4294967295#32 = BitVec.allOnes 32 by decide, BitVec.and_allOnes]

theorem classWrite_NEWATTR (w : Fin 7) : classWrite (Reg.KEYSTORE_NEWATTR w) val.toNat s = s.wr (Reg.KEYSTORE_NEWATTR w) val := by
  rw [classWrite, rowOf_NEWATTR, storedAs_NEWATTR]
  simp only [Nat.or_zero, ite_self, BitVec.reduceNot, BitVec.and_zero, BitVec.ofNat_toNat, BitVec.setWidth_eq, BitVec.zero_or,
    BitVec.not_zero, BitVec.reduceAllOnes, BitVec.or_zero]
  rw [and_ones, and_ones]

theorem regWrite_NEWATTR (w : Fin 7) : regWrite m (Reg.KEYSTORE_NEWATTR w) val s = s.wr (Reg.KEYSTORE_NEWATTR w) val := by
  have h : regWrite m (Reg.KEYSTORE_NEWATTR w) val s = writeKeystore m (Reg.KEYSTORE_NEWATTR w) val s := by
    have hw := w.isLt
    rw [regWrite, if_neg, if_neg, if_neg, if_neg, if_neg, if_neg, if_neg, if_neg, if_neg, if_neg, if_neg, if_pos]
    all_goals
      simp only [Reg.KEYSTORE_NEWATTR]
      omega
  have hcmd : Reg.KEYSTORE_NEWATTR w ≠ Reg.KEYSTORE_CMD := by
    fin_cases w <;> decide
  have hlc : Reg.KEYSTORE_NEWATTR w ≠ Reg.KEYSTORE_LCREQ := by
    fin_cases w <;> decide
  have hgl : Reg.KEYSTORE_NEWATTR w ≠ Reg.KEYSTORE_GLREQ := by
    fin_cases w <;> decide
  rw [h, writeKeystore, if_neg hcmd, if_neg hlc, if_neg hgl, classWrite_NEWATTR]

theorem plainAt_NEWATTR (w : Fin 7) : PlainAt (Reg.KEYSTORE_NEWATTR w) := by
  unfold PlainAt
  fin_cases w <;> decide

theorem register_NEWATTR (w : Fin 7) : 0x40000000 ≤ Reg.KEYSTORE_NEWATTR w := by
  simp only [Reg.KEYSTORE_NEWATTR]
  omega

theorem answers_newattrWrite (w : Fin 7) (hi : s.issues m = true) (hbar : regBars s m addr.toNat 4 = false)
    (ha : addr.toNat = Reg.KEYSTORE_NEWATTR w) : Answers (exec (.registerWrite m addr .word val) s) fun t =>
      t.rd addr.toNat = val ∧ RegsBut [addr.toNat] s t ∧ t = { s with regs := t.regs, bus := .done } := by
  have heq : exec (.registerWrite m addr .word val) s = .next { s.wr addr.toNat val with bus := .done } := by
    rw [exec_registerWrite_of_issued hi, busWrite_of_register (ha ▸ register_NEWATTR w), if_neg (by simp [sizeOctets, hbar]),
      if_neg (by rw [ha, not_inBlockRam_of_plain (plainAt_NEWATTR w)]; exact Bool.false_ne_true), ha, regWrite_NEWATTR]
    rfl
  have hregs : ∀ b, ({ s.wr addr.toNat val with bus := .done } : State).rd b = (s.wr addr.toNat val).rd b := fun _ => rfl
  refine ⟨_, heq, ?_, fun b hb => ?_, rfl⟩
  · rw [hregs, State.rd_wr_self]
  · rw [hregs, State.rd_wr_ne (by simpa using hb)]

theorem exec_read_of_plain {r : RegRow} (hi : s.issues m = true) (hbar : regBars s m addr.toNat 4 = false) (hp : PlainAt addr.toNat)
    (hrow : rowOf addr.toNat = some r) (hwo : r.wo = 0) : exec (.rcRegisterRead m addr .word fill) s
      = .next (if r.rc = 0 then { s with bus := .data (s.rd addr.toNat) }
        else ({ s with bus := .data (s.rd addr.toNat) } : State).wr addr.toNat (s.rd addr.toNat &&& ~~~(BitVec.ofNat 32 r.rc))) := by
  have hvalue : liveValue s addr.toNat &&& ~~~(BitVec.ofNat 32 r.wo) = s.rd addr.toNat := by
    rw [liveValue_of_plain hp, hwo]
    exact and_ones _
  rw [exec_rcRegisterRead_of_issued hi, busRead_of_register (inRegisters_of_regBars hbar), if_neg (by simp [sizeOctets, hbar]),
    if_neg (by simp [not_inBlockRam_of_plain hp]), regRead_of_plain hp, classRead, hrow]
  dsimp only
  rw [hvalue]
  rfl

theorem answers_rcRead {r : RegRow} (hi : s.issues m = true) (hbar : regBars s m addr.toNat 4 = false) (hrow : rowOf addr.toNat = some r)
    (hrc : r.rc ≠ 0) : Answers (exec (.rcRegisterRead m addr .word fill) s) fun t =>
      t.bus = .data (s.rd addr.toNat) ∧ t.rd addr.toNat = s.rd addr.toNat &&& ~~~(BitVec.ofNat 32 r.rc) ∧ RegsBut [addr.toNat] s t
        ∧ t = { s with regs := t.regs, bus := t.bus } := by
  obtain ⟨hp, hwo⟩ := plainAt_of_rc hrow hrc
  have heq := exec_read_of_plain (fill := fill) hi hbar hp hrow hwo
  rw [if_neg hrc] at heq
  refine ⟨_, heq, rfl, ?_, fun b hb => ?_, rfl⟩
  · rw [State.rd_wr_self]
  · rw [State.rd_wr_ne (by simpa using hb)]
    rfl

/-- Settles O60: barred accesses answer with an error, and plain ones store and answer. -/
theorem busAccesses : Obligations.BusAccesses := by
  intro m addr v z fill a s ha
  subst ha
  refine ⟨fun hi => ⟨?_, ?_⟩, exec_accesses_barred, fun hi hbar hjob => ⟨answers_jobWrite hi hbar hjob, exec_jobRead hi hbar hjob⟩,
    fun w hi hbar ha => ⟨answers_newattrWrite w hi hbar ha, ?_⟩, fun r hi hbar hrow hrc => answers_rcRead hi hbar hrow hrc⟩
  · exact congrArg Host.Outcome.next (if_neg (by simp [hi]))
  · exact congrArg Host.Outcome.next (if_neg (by simp [hi]))
  · exact exec_read_of_plain hi hbar (ha ▸ plainAt_NEWATTR w) (ha ▸ rowOf_NEWATTR w) rfl

end Sys2Proof.Machine
end

section
/-!
SUPPORT. A cancelled activity does not wait for its retransmission (R322): the window for its ack closes, and it ends.
-/

namespace Sys2Proof.Machine

/-- A transmission that waits for its ack, with tries left, and that a cancellation has reached meanwhile. -/
def cancelledWaiter : Activity :=
  { id := 1, kind := .tx, mode := 0, chan := 0, lane := 0, phase := .ackWait, frame := some { retries := 1 }, cancelled := true }

/-- The state after reset with that one activity. -/
def State.cancelWaits : State := { State.reset with link := { State.reset.link with acts := [cancelledWaiter] } }

/-- The activity that a state holds under id 1, where the command completes. -/
def actAfter : Out → Option Activity
  | .next t => t.act 1
  | _ => none

theorem actAfter_ackWindowClose : actAfter (exec (.ackWindowClose 1) State.cancelWaits) = none := by decide +kernel

/-- Refutes O35: where the activity was cancelled while it transmitted, the close of its ack window ends it with tries left. -/
theorem not_timelineAndReceiveQueue : ¬ Obligations.TimelineAndReceiveQueue := by
  intro h
  obtain ⟨t, ht, hact, -⟩ := (h State.cancelWaits).2.2.2.1 cancelledWaiter { retries := 1 } rfl rfl rfl (by decide) rfl
  have hnone : t.act 1 = none := by
    have := actAfter_ackWindowClose
    rwa [show exec (.ackWindowClose 1) State.cancelWaits = .next t from ht] at this
  exact absurd (hnone.symm.trans hact) (by simp)

end Sys2Proof.Machine
end

section
/-!
SUPPORT. The deferred-ack table holds 16 entries in LINK RAM (R337): a list of more than 16 entries reads its last ones from the
octets behind the table, which closing a context does not move up.
-/

namespace Sys2Proof.Machine

/-- An entry that names nothing. -/
def blankDack : DackEntry := { ctx := 0, src := 0, kid := 0, base := 0, map := 0, first := 0 }

/-- A state with 18 deferred-ack entries, the first of context 1 and the last from source 5. -/
def State.crowdedDacks : State :=
  let s : State := { State.reset with link := { State.reset.link with dacks := List.replicate 18 blankDack } }
  (s.setByte (dackAddr 0) 1#8).setByte (dackAddr 17 + 2) 5#8

/-- The sources of the entries that a state holds, where the command completes. -/
def dackSources : Out → List Nat
  | .next t => t.dacks.map (fun d => d.src)
  | _ => []

theorem dackSources_ctxClose : dackSources (exec (.ctxClose 1) State.crowdedDacks) = List.replicate 17 0 := by decide +kernel

theorem sources_kept : (State.crowdedDacks.dacks.filter (fun d => d.ctx != 1)).map (fun d => d.src) = List.replicate 16 0 ++ [5] := by
  decide +kernel

/-- Refutes O33: with 18 deferred-ack entries the close of a context leaves 17 of which the last is not the one that was last. -/
theorem not_contextCommands : ¬ Obligations.ContextCommands := by
  intro h
  obtain ⟨t, ht, -, -, hdacks⟩ := (h 1 State.crowdedDacks).2.2.2.1 rfl (by decide +kernel)
  have hsrc : t.dacks.map (fun d => d.src) = List.replicate 17 0 := by
    have := dackSources_ctxClose
    rwa [show exec (.ctxClose 1) State.crowdedDacks = .next t from ht] at this
  rw [hdacks] at hsrc
  exact absurd (sources_kept.symm.trans hsrc) (by decide)

end Sys2Proof.Machine
end

section
/-!
SUPPORT. Writes of context memory and of the network keys (chapters 9 and 10).
-/

namespace Sys2Proof.Machine

variable {s t : State} {c k i j o n v : Nat}

theorem OnlyIn.frame_regs_mem (h : OnlyIn [.regs, .mem] s t) : t = { s with regs := t.regs, mem := t.mem } := h.frame

/-! ### Context memory -/

theorem ctxWrite_taken (h : ¬ (ctxOpen s c = true ∧ o < 0x5C)) :
    (ctxWrite c o n v s).mem = (s.setNum (ctxAddr c + o) n (v % 256 ^ n)).mem
    ∧ ctxWrite c o n v s = { s with mem := (ctxWrite c o n v s).mem, link := (ctxWrite c o n v s).link } := by
  rw [ctxWrite, if_neg h]
  dsimp only
  generalize s.ctx c CF.KEYH = was
  split
  case isTrue =>
    refine ⟨rfl, ?_⟩
    rw [State.setNum_frame]
  case isFalse =>
    refine ⟨rfl, ?_⟩
    rw [State.setNum_frame]

theorem answers_ctxWrite_taken {z : AccessSize} {w : Word} {c : Fin 512} {o : Fin 128}
    (h : ctxOpen s c = false ∨ 0x5C ≤ o.val / sizeOctets z * sizeOctets z) :
    Answers (exec (.ctxMemoryWrite c o z w) s) fun t =>
      t.num (ctxAddr c + o.val / sizeOctets z * sizeOctets z) (sizeOctets z) = w.toNat % 256 ^ sizeOctets z
      ∧ BytesOutside (ctxAddr c + o.val / sizeOctets z * sizeOctets z) (sizeOctets z) s t
      ∧ t = { s with mem := t.mem, link := t.link } := by
  obtain ⟨hmem, hframe⟩ := ctxWrite_taken (s := s) (c := c) (o := o.val / sizeOctets z * sizeOctets z) (n := sizeOctets z)
    (v := w.toNat) (by
      rintro ⟨hopen, hlow⟩
      rcases h with h | h
      · rw [hopen] at h; cases h
      · omega)
  refine ⟨_, rfl, ?_, fun b hb => ?_, hframe⟩
  · rw [State.num_eq_of_mem hmem, State.num_setNum, Nat.mod_mod]
  · rw [State.byte_congr hmem, State.byte_setNum_out hb]

theorem answers_ctxWrite_ignored {z : AccessSize} {w : Word} {c : Fin 512} {o : Fin 128} (hopen : ctxOpen s c = true)
    (hlow : o.val / sizeOctets z * sizeOctets z < 0x5C) :
    Answers (exec (.ctxMemoryWrite c o z w) s) fun t =>
      t.has Fld.LINK_SCHFLAGS_CTXWR = true ∧ RegsBut [Reg.LINK_SCHFLAGS] s t ∧ t = { s with regs := t.regs } := by
  refine ⟨_, congrArg Host.Outcome.next (if_pos ⟨hopen, hlow⟩), ?_, ?_, rfl⟩
  · exact State.has_flag_bit rfl rfl
  · exact regsBut_flag (by decide) |>.mpr .refl

/-! ### The replay cache of a network key -/

/-- The cache entries of a KID. -/
def cacheHits (s : State) (k : Nat) : List Nat := (List.range 1024).filter (fun j => (cacheEntry s j).kid == k)

/-- Every entry of a list cleared. -/
def cacheCleared (js : List Nat) (s : State) : State := s.forEach js (fun j s => s.setNum (cacheAddr j) 16 0)

theorem mem_cacheHits : j ∈ cacheHits s k ↔ j < 1024 ∧ (cacheEntry s j).kid = k := by
  simp [cacheHits]

theorem num_cacheCleared_other {js : List Nat} (h : j ∉ js) : (cacheCleared js s).num (cacheAddr j) 16 = s.num (cacheAddr j) 16 := by
  induction js generalizing s with
  | nil => rfl
  | cons i js ih =>
    rw [cacheCleared, State.forEach_cons]
    refine (ih (fun hj => h (List.mem_cons_of_mem _ hj))).trans (State.num_setNum_apart ?_)
    have hne : j ≠ i := fun he => h (he ▸ List.mem_cons_self)
    simp only [cacheAddr]
    omega

theorem num_cacheCleared_of_mem {js : List Nat} (h : j ∈ js) : (cacheCleared js s).num (cacheAddr j) 16 = 0 := by
  induction js generalizing s with
  | nil => cases h
  | cons i js ih =>
    rw [cacheCleared, State.forEach_cons]
    by_cases hj : j ∈ js
    case pos => exact ih hj
    case neg =>
      obtain rfl : j = i := (List.mem_cons.mp h).resolve_right hj
      exact (num_cacheCleared_other hj).trans State.num_setNum

theorem bytesOutside_cacheCleared {js : List Nat} (h : ∀ j ∈ js, j < 1024) :
    BytesOutside (cacheAddr 0) 16384 s (cacheCleared js s) :=
  .forEach fun j hj _ b hb => State.byte_setNum_out (by
    have := h j hj
    simp only [cacheAddr] at hb ⊢
    omega)

theorem onlyIn_cacheCleared {js : List Nat} : OnlyIn [.mem] s (cacheCleared js s) :=
  .forEach (fun _ _ => onlyIn_setNum (by decide) |>.mpr .refl) .refl

/-- The entries counted as free, and the time of the eviction. -/
def cacheFreed (n m : Nat) (s : State) : State := setRpevict n (s.put Fld.LINK_RPSTAT_USED m)

theorem onlyIn_cacheFreed {m : Nat} : OnlyIn [.regs] s (cacheFreed n m s) := by
  rw [cacheFreed, setRpevict, onlyIn_put (by decide), onlyIn_put (by decide), onlyIn_put (by decide)]
  exact .refl

theorem regsBut_cacheFreed {m : Nat} :
    RegsBut [Reg.LINK_RPSTAT, Reg.LINK_RPEVICTLO, Reg.LINK_RPEVICTHI] s (cacheFreed n m s) := by
  rw [cacheFreed, setRpevict, regsBut_put (by decide), regsBut_put (by decide), regsBut_put (by decide)]
  exact .refl

theorem cacheInvalidate_eq : cacheInvalidate k s = cacheFreed (cacheCleared (cacheHits s k) s).now
    ((cacheCleared (cacheHits s k) s).get Fld.LINK_RPSTAT_USED - (cacheHits s k).length) (cacheCleared (cacheHits s k) s) := rfl

theorem cacheInvalidate_mem : (cacheInvalidate k s).mem = (cacheCleared (cacheHits s k) s).mem := by
  rw [cacheInvalidate_eq]
  exact onlyIn_cacheFreed.mem (by decide)

theorem onlyIn_cacheInvalidate : OnlyIn [.regs, .mem] s (cacheInvalidate k s) := by
  rw [cacheInvalidate_eq]
  exact (onlyIn_cacheCleared.mono (by decide)).trans (onlyIn_cacheFreed.mono (by decide))

theorem regsBut_cacheInvalidate :
    RegsBut [Reg.LINK_RPSTAT, Reg.LINK_RPEVICTLO, Reg.LINK_RPEVICTHI] s (cacheInvalidate k s) := by
  rw [cacheInvalidate_eq]
  exact (RegsBut.of_regs (onlyIn_cacheCleared.regs (by decide))).trans regsBut_cacheFreed

/-! ### The handle of a network key -/

/-- LINK_NETKEY[k] as a write leaves it, before a changed handle takes the counter's state with it. -/
def netkeyPut (k v : Nat) (s : State) : State :=
  ((s.put (Fld.LINK_NETKEY_HANDLE k) v).put (Fld.LINK_NETKEY_EN k) (v / 2 ^ 8)).put (Fld.LINK_NETKEY_MICSZ k) (max 1 (v / 2 ^ 10 % 4))

/-- A changed handle: no counter begun, none exhausted. -/
def netkeyFresh (k v : Nat) (s : State) : State :=
  ((netkeyPut k v s).unflag (Fld.LINK_NETKEY_TXVALID k)).unflag (Fld.LINK_NETKEY_EXH k)

theorem onlyIn_netkeyFresh : OnlyIn [.regs] s (netkeyFresh k v s) := by
  rw [netkeyFresh, netkeyPut, onlyIn_unflag (by decide), onlyIn_unflag (by decide), onlyIn_put (by decide),
    onlyIn_put (by decide), onlyIn_put (by decide)]
  exact .refl

theorem regsBut_netkeyFresh : RegsBut [Reg.LINK_NETKEY k] s (netkeyFresh k v s) := by
  rw [netkeyFresh, netkeyPut, regsBut_unflag (by simp [Fld.LINK_NETKEY_EXH]), regsBut_unflag (by simp [Fld.LINK_NETKEY_TXVALID]),
    regsBut_put (by simp [Fld.LINK_NETKEY_MICSZ]), regsBut_put (by simp [Fld.LINK_NETKEY_EN]),
    regsBut_put (by simp [Fld.LINK_NETKEY_HANDLE])]
  exact .refl

theorem get_HANDLE_netkeyFresh : (netkeyFresh k v s).get (Fld.LINK_NETKEY_HANDLE k) = v % 256 := by
  rw [netkeyFresh, netkeyPut, State.unflag_eq_put, State.unflag_eq_put, State.get_put_bitsApart rfl rfl,
    State.get_put_bitsApart rfl rfl, State.get_put_bitsApart rfl rfl, State.get_put_bitsApart rfl rfl, State.get_put_fits rfl]
  rfl

theorem get_EN_netkeyFresh : (netkeyFresh k v s).get (Fld.LINK_NETKEY_EN k) = v / 2 ^ 8 % 2 := by
  rw [netkeyFresh, netkeyPut, State.unflag_eq_put, State.unflag_eq_put, State.get_put_bitsApart rfl rfl,
    State.get_put_bitsApart rfl rfl, State.get_put_bitsApart rfl rfl, State.get_put_fits rfl]
  rfl

theorem get_MICSZ_netkeyFresh : (netkeyFresh k v s).get (Fld.LINK_NETKEY_MICSZ k) = max 1 (v / 2 ^ 10 % 4) := by
  rw [netkeyFresh, netkeyPut, State.unflag_eq_put, State.unflag_eq_put, State.get_put_bitsApart rfl rfl,
    State.get_put_bitsApart rfl rfl, State.get_put_fits rfl]
  exact Nat.mod_eq_of_lt (show max 1 (v / 2 ^ 10 % 4) < 4 by omega)

theorem has_TXVALID_netkeyFresh : (netkeyFresh k v s).has (Fld.LINK_NETKEY_TXVALID k) = false := by
  rw [netkeyFresh, State.unflag_eq_put (f := Fld.LINK_NETKEY_EXH k), State.has_put_bitsApart rfl rfl, State.has_unflag_fits rfl]

theorem has_EXH_netkeyFresh : (netkeyFresh k v s).has (Fld.LINK_NETKEY_EXH k) = false := by
  rw [netkeyFresh, State.has_unflag_fits rfl]

theorem execNetkeyWrite_changed {k : Fin 16} {v : Word} (hk : 0 < k.val)
    (h : s.get (Fld.LINK_NETKEY_HANDLE k) ≠ v.toNat % 256) :
    exec (.netkeyWrite k v) s = .next (cacheInvalidate k (netkeyFresh k v.toNat s)) := by
  refine (if_neg (by omega)).trans (congrArg Host.Outcome.next ?_)
  exact if_pos h

theorem cacheHits_netkeyFresh : cacheHits (netkeyFresh k v s) i = cacheHits s i := by
  have hnum : ∀ j, cacheEntry (netkeyFresh k v s) j = cacheEntry s j := fun j => by
    rw [cacheEntry, cacheEntry, State.num_eq_of_mem (onlyIn_netkeyFresh.mem (by decide))]
  simp only [cacheHits, hnum]

/-- A register of a network key is none of the three that count the cache. -/
theorem netkey_not_counters (hk : k < 16) :
    Reg.LINK_NETKEY k ∉ [Reg.LINK_RPSTAT, Reg.LINK_RPEVICTLO, Reg.LINK_RPEVICTHI] := by
  simp only [Reg.LINK_NETKEY, Reg.LINK_RPSTAT, Reg.LINK_RPEVICTLO, Reg.LINK_RPEVICTHI, List.mem_cons, List.not_mem_nil, or_false]
  omega

theorem answers_netkeyWrite {k : Fin 16} {v : Word} (hk : 0 < k.val)
    (h : s.get (Fld.LINK_NETKEY_HANDLE k) ≠ v.toNat % 256) :
    Answers (exec (.netkeyWrite k v) s) fun t =>
      t.get (Fld.LINK_NETKEY_HANDLE k) = v.toNat % 256 ∧ t.get (Fld.LINK_NETKEY_EN k) = v.toNat / 2 ^ 8 % 2
      ∧ t.get (Fld.LINK_NETKEY_MICSZ k) = max 1 (v.toNat / 2 ^ 10 % 4)
      ∧ t.has (Fld.LINK_NETKEY_TXVALID k) = false ∧ t.has (Fld.LINK_NETKEY_EXH k) = false
      ∧ (∀ j, j < 1024 → (cacheEntry s j).kid = k.val → t.num (cacheAddr j) 16 = 0)
      ∧ (∀ j, j < 1024 → (cacheEntry s j).kid ≠ k.val → t.num (cacheAddr j) 16 = s.num (cacheAddr j) 16)
      ∧ BytesOutside (cacheAddr 0) 16384 s t
      ∧ RegsBut [Reg.LINK_NETKEY k, Reg.LINK_RPSTAT, Reg.LINK_RPEVICTLO, Reg.LINK_RPEVICTHI] s t
      ∧ t = { s with regs := t.regs, mem := t.mem } := by
  have hregs := regsBut_cacheInvalidate (s := netkeyFresh k v.toNat s) (k := k.val)
  have hout := netkey_not_counters k.isLt
  have hmem := cacheInvalidate_mem (s := netkeyFresh k v.toNat s) (k := k.val)
  rw [cacheHits_netkeyFresh] at hmem
  have hfresh := onlyIn_netkeyFresh (s := s) (k := k.val) (v := v.toNat) |>.mem (by decide)
  refine ⟨_, execNetkeyWrite_changed hk h, ?_, ?_, ?_, ?_, ?_, fun j hj hkid => ?_, fun j hj hkid => ?_, ?_, ?_, ?_⟩
  case refine_1 => rw [hregs.get hout, get_HANDLE_netkeyFresh]
  case refine_2 => rw [hregs.get hout, get_EN_netkeyFresh]
  case refine_3 => rw [hregs.get hout, get_MICSZ_netkeyFresh]
  case refine_4 => rw [hregs.has hout, has_TXVALID_netkeyFresh]
  case refine_5 => rw [hregs.has hout, has_EXH_netkeyFresh]
  case refine_6 => rw [State.num_eq_of_mem hmem, num_cacheCleared_of_mem (mem_cacheHits.mpr ⟨hj, hkid⟩)]
  case refine_7 =>
    rw [State.num_eq_of_mem hmem, num_cacheCleared_other (fun hm => hkid (mem_cacheHits.mp hm).2), State.num_eq_of_mem hfresh]
  case refine_8 =>
    exact (BytesOutside.of_mem hfresh).trans
      ((bytesOutside_cacheCleared fun j hj => (mem_cacheHits.mp hj).1).trans (.of_mem hmem))
  case refine_9 =>
    exact (regsBut_netkeyFresh.mono (by simp)).trans (hregs.mono (by simp))
  case refine_10 =>
    exact ((onlyIn_netkeyFresh.mono (by decide)).trans onlyIn_cacheInvalidate).frame_regs_mem

/-! ### The counter of a network key -/

def netctrPut (k v : Nat) (s : State) : State := (s.put (Fld.LINK_NETCTR_NEXT k) v).flag (Fld.LINK_NETKEY_TXVALID k)

theorem onlyIn_netctrPut : OnlyIn [.regs] s (netctrPut k v s) := by
  rw [netctrPut, onlyIn_flag (by decide), onlyIn_put (by decide)]
  exact .refl

theorem regsBut_netctrPut : RegsBut [Reg.LINK_NETCTR k, Reg.LINK_NETKEY k] s (netctrPut k v s) := by
  rw [netctrPut, regsBut_flag (by simp [Fld.LINK_NETKEY_TXVALID]), regsBut_put (by simp [Fld.LINK_NETCTR_NEXT])]
  exact .refl

theorem get_NEXT_netctrPut (hk : k < 16) : (netctrPut k v s).get (Fld.LINK_NETCTR_NEXT k) = v % 2 ^ 32 := by
  have hne : Reg.LINK_NETCTR k ≠ Reg.LINK_NETKEY k := by
    simp only [Reg.LINK_NETCTR, Reg.LINK_NETKEY]
    omega
  rw [netctrPut, State.flag_eq_put, State.get_put_other hne, State.get_put_fits rfl]
  rfl

theorem answers_netctrWrite {k : Fin 16} {v : Word} (hk : 0 < k.val) :
    Answers (exec (.netctrWrite k v) s) fun t =>
      t.get (Fld.LINK_NETCTR_NEXT k) = v.toNat ∧ t.has (Fld.LINK_NETKEY_TXVALID k) = true
      ∧ RegsBut [Reg.LINK_NETCTR k, Reg.LINK_NETKEY k] s t ∧ t = { s with regs := t.regs } := by
  have heq : exec (.netctrWrite k v) s = .next (netctrPut k v.toNat s) := congrArg Host.Outcome.next (if_neg (by omega))
  refine ⟨_, heq, ?_, State.has_flag_bit rfl rfl, regsBut_netctrPut, onlyIn_netctrPut.frame_regs⟩
  rw [get_NEXT_netctrPut k.isLt]
  exact Nat.mod_eq_of_lt v.isLt

/-- Settles O34: a closed context and the open part of an open one take a write; a changed handle clears the cache of its KID. -/
theorem contextMemoryAndNetworkKeys : Obligations.ContextMemoryAndNetworkKeys := fun _ =>
  ⟨fun _ _ _ _ => ⟨answers_ctxWrite_taken, answers_ctxWrite_ignored⟩,
    fun _ _ hk => ⟨answers_netkeyWrite hk, answers_netctrWrite hk⟩⟩

end Sys2Proof.Machine
end

section
/-!
SUPPORT. The launch of a block-ack takes its entry out of the deferred-ack table; with more than 16 entries (R337 has 16) the last
ones do not move up in LINK RAM.
-/

namespace Sys2Proof.Machine

/-- A block-ack presented on lane 0. -/
def readyBlockAck : Activity := { id := 136, kind := .blockAck, mode := 0, chan := 0, lane := 0, frame := some {} }

/-- A state with 18 deferred-ack entries: the block-ack of the first is presented, the last is from source 5. -/
def State.readyAndCrowded : State :=
  let dacks := { blankDack with act := some 136 } :: List.replicate 17 blankDack
  let s : State := { State.reset with link := { State.reset.link with acts := [readyBlockAck], dacks := dacks } }
  ((s.put (Fld.LANE_STAT_ROLES 0) 0xFF).setClkSrc 1).setByte (dackAddr 17 + 2) 5#8

theorem dackSources_blockAckLaunch :
    dackSources (exec (.activityLaunch 136 0 [] false) State.readyAndCrowded) = List.replicate 17 0 := by decide +kernel

theorem sources_waiting :
    (State.readyAndCrowded.dacks.filter (fun d => d.act ≠ some 136)).map (fun d => d.src) = List.replicate 16 0 ++ [5] := by
  decide +kernel

/-- Refutes O37: with 18 deferred-ack entries the launch of a block-ack leaves 17 of which the last is not the one that was last. -/
theorem not_launchesAndEnds : ¬ Obligations.LaunchesAndEnds := by
  intro h
  obtain ⟨t, ht, -, hdacks, -⟩ := (h State.readyAndCrowded 0).2.1 readyBlockAck {} [] false rfl rfl rfl rfl (by decide)
    (by decide +kernel) (by decide +kernel) (fun _ hm => absurd rfl hm) (by decide +kernel) (by decide +kernel) (by decide)
  have hsrc : t.dacks.map (fun d => d.src) = List.replicate 17 0 := by
    have := dackSources_blockAckLaunch
    rwa [show exec (.activityLaunch 136 0 [] false) State.readyAndCrowded = .next t from ht] at this
  rw [hdacks] at hsrc
  exact absurd (sources_waiting.symm.trans hsrc) (by decide)

end Sys2Proof.Machine
end

section
/-!
SUPPORT. A frame delivered into the receive queue is written with the status words that its record brought; a record of more
words than the eight of Table RXC-5 runs out of the queue's slot into the receive cells.
-/

namespace Sys2Proof.Machine

/-- The octets of an unprotected broadcast frame from 0x1111 with a body of three octets 5. -/
def longPsdu : List Byte := [0, 0, 0, 0, 77, 0, 0, 0, 0, 0x11, 0x11, 5, 5, 5]

/-- A status record with 273 words. -/
def longRecord : RxRecord :=
  { lane := 1, pan := 15, mode := 0, chan := 0, words := List.replicate 273 0, hdr := 0, ts := 0, rssi := -80, snr := 20, fofs := 0,
    nsym := 3, margins := [], airtime := 8064, psdu := longPsdu, endAt := 0, preset := false, deferred := false }

/-- An accepting state with that record, whose next place in the receive queue is the last one. -/
def State.longWaiting : State :=
  let s : State := { State.reset with modem := { State.reset.modem with queue := [longRecord] } }
  (s.flag Fld.LINK_ACCCFG_OPEN).put Fld.LINK_RXQ_HEAD 31

/-- The first octets of a receive cell, where the command completes. -/
def cellOctets (c n : Nat) : Out → List Byte
  | .next t => t.bytes (cellAddr c) n
  | _ => []

theorem cellOctets_acceptFrame : cellOctets 0 3 (exec (.acceptFrame 0 false 0) State.longWaiting) = [0, 0, 0] := by decide +kernel

/-- Refutes O38: a record of 273 status words overwrites the payload in its receive cell. -/
theorem not_framesReceived : ¬ Obligations.FramesReceived := by
  intro h
  obtain ⟨t, ht, -, -, -, hcell, -⟩ := (h State.longWaiting).1 longRecord [] (omlParse 0 false longPsdu) 0 false 0 rfl rfl
    (by decide +kernel) (by decide +kernel) (by decide +kernel) (by decide +kernel) rfl rfl (by decide +kernel) (by decide +kernel)
    (by decide +kernel) (by decide +kernel) (by decide +kernel) (by decide +kernel) (by decide +kernel) (by decide +kernel)
    (by decide +kernel) (by decide +kernel) (by decide +kernel) (by decide +kernel)
  have hzero := cellOctets_acceptFrame
  rw [show exec (.acceptFrame 0 false 0) State.longWaiting = .next t from ht] at hzero
  have hbody : t.bytes (cellAddr 0) 3 = [5, 5, 5] := by
    have := hcell (by decide +kernel) (by decide +kernel) (by decide +kernel)
    rwa [show State.longWaiting.link.cellNext = 0 by decide +kernel,
      show (omlParse 0 false longPsdu).body = [5, 5, 5] by decide +kernel] at this
  rw [cellOctets, hbody] at hzero
  exact absurd hzero (by decide)

end Sys2Proof.Machine
end

section
/-!
SUPPORT. The tide ring (chapter 12): survey, joining, the silent ring and leaving.
-/

namespace Sys2Proof.Machine

variable {s t : State} {c n k : Nat}

theorem OnlyIn.frame_regs_ring (h : OnlyIn [.regs, .ring] s t) : t = { s with regs := t.regs, ring := t.ring } := h.frame

theorem OnlyIn.frame_regs_ring_edges (h : OnlyIn [.regs, .ring, .edges] s t) :
    t = { s with regs := t.regs, ring := t.ring, edges := t.edges } := h.frame

theorem OnlyIn.frame_regs_ring_tasks (h : OnlyIn [.regs, .ring, .tasks] s t) :
    t = { s with regs := t.regs, ring := t.ring, tasks := t.tasks } := h.frame

theorem OnlyIn.frame_regs_ring_edges_tasks (h : OnlyIn [.regs, .ring, .edges, .tasks] s t) :
    t = { s with regs := t.regs, ring := t.ring, edges := t.edges, tasks := t.tasks } := h.frame

/-- A state with another record of the ring. -/
def State.withRing (r : Ring) (s : State) : State := { s with ring := r }

theorem State.ring_withRing {r : Ring} : (s.withRing r).ring = r := rfl
theorem State.get_withRing {r : Ring} {f : Field} : (s.withRing r).get f = s.get f := rfl
theorem State.has_withRing {r : Ring} {f : Field} : (s.withRing r).has f = s.has f := rfl
theorem State.edges_withRing {r : Ring} : (s.withRing r).edges = s.edges := rfl
theorem State.ringSt_withRing {r : Ring} : (s.withRing r).ringSt = s.ringSt := rfl
theorem State.ringPos_withRing {r : Ring} : (s.withRing r).ringPos = s.ringPos := rfl
theorem State.ringSt_fire {p : Nat} : (s.fire p).ringSt = s.ringSt := rfl
theorem State.ringPos_fire {p : Nat} : (s.fire p).ringPos = s.ringPos := rfl
theorem regsBut_withRing {r : Ring} {l : List Nat} : RegsBut l s (t.withRing r) ↔ RegsBut l s t := Iff.rfl
theorem onlyIn_withRing {r : Ring} {l : List Part} (h : .ring ∈ l) : OnlyIn l s (t.withRing r) ↔ OnlyIn l s t := onlyIn_ring h

/-- The port's state is a field of three bits. -/
theorem ringSt_put : (s.put Fld.RING_STAT_STATE n).ringSt = n % 8 := State.get_put_fits rfl

/-! ### A code of Table RING-5 -/

theorem ringCode_of_ne (h : c ≠ 0x0901) : ringCode c s = (s.put Fld.RING_LASTCODE_CODE c).fire EV.RING_FAULT := if_neg h

theorem onlyIn_ringCode : OnlyIn [.regs, .edges] s (ringCode c s) :=
  .ite (onlyIn_put (by decide) |>.mpr .refl) (onlyIn_fire (by decide) |>.mpr (onlyIn_put (by decide) |>.mpr .refl))

theorem regsBut_ringCode : RegsBut [Reg.RING_LASTCODE] s (ringCode c s) :=
  regsBut_ite (regsBut_put (by decide) |>.mpr .refl) (regsBut_put (by decide) |>.mpr .refl)

theorem ring_ringCode : (ringCode c s).ring = s.ring := onlyIn_ringCode.ring (by decide)

theorem get_CODE_ringCode (h : c < 2 ^ 16) : (ringCode c s).get Fld.RING_LASTCODE_CODE = c := by
  have hput : (s.put Fld.RING_LASTCODE_CODE c).get Fld.RING_LASTCODE_CODE = c :=
    (State.get_put_fits rfl).trans (Nat.mod_eq_of_lt h)
  rw [ringCode]
  split
  · exact hput
  · exact hput

theorem fires_ringCode (h : c ≠ 0x0901) : Fires [EV.RING_FAULT] s (ringCode c s) := by
  rw [ringCode_of_ne h]
  exact .fire (State.put_edges ..)

/-! ### The survey -/

/-- The ring's record as a survey over `hops` segments begins. -/
def surveyBegun (hops : Nat) (r : Ring) : Ring :=
  { r with survey := some 0, timeSurveyed := false, surveyWanted := false, surveyRetry := false, surveyHops := hops }

/-- The survey's request is taken, and the ring counts as not surveyed. -/
def surveyCleared (s : State) : State := (s.unflag Fld.RING_CTL_SURVEY).unflag Fld.RING_STAT_SURVEYED

theorem onlyIn_surveyCleared : OnlyIn [.regs] s (surveyCleared s) := by
  rw [surveyCleared, onlyIn_unflag (by decide), onlyIn_unflag (by decide)]
  exact .refl

theorem regsBut_surveyCleared : RegsBut [Reg.RING_CTL, Reg.RING_STAT] s (surveyCleared s) := by
  rw [surveyCleared, regsBut_unflag (by decide), regsBut_unflag (by decide)]
  exact .refl

theorem surveyStart_of_master (h : s.ringSt = 4) :
    surveyStart s = (surveyCleared s).withRing (surveyBegun (s.get Fld.RING_LOOP_HOPS) s.ring) := by
  have hhops : (surveyCleared s).get Fld.RING_LOOP_HOPS = s.get Fld.RING_LOOP_HOPS := regsBut_surveyCleared.get (by decide)
  rw [← hhops]
  exact if_neg (not_not_intro h)

theorem surveyStart_answers (h : s.ringSt = 4) :
    (surveyStart s).ring = surveyBegun (s.get Fld.RING_LOOP_HOPS) s.ring
    ∧ (surveyStart s).has Fld.RING_CTL_SURVEY = false ∧ (surveyStart s).has Fld.RING_STAT_SURVEYED = false
    ∧ RegsBut [Reg.RING_CTL, Reg.RING_STAT] s (surveyStart s) ∧ OnlyIn [.regs, .ring] s (surveyStart s) := by
  rw [surveyStart_of_master h]
  refine ⟨rfl, ?_, ?_, regsBut_surveyCleared, ?_⟩
  · exact (State.has_put_other (by decide)).trans (State.has_unflag_fits rfl)
  · exact State.has_unflag_fits rfl
  · exact onlyIn_withRing (by decide) |>.mpr (onlyIn_surveyCleared.mono (by decide))

theorem answers_surveyStart (h : s.ringSt = 4) (b : Bool) : Answers (exec (.surveyStart b) s) fun t =>
    t.ring = surveyBegun (s.get Fld.RING_LOOP_HOPS) s.ring
    ∧ t.has Fld.RING_CTL_SURVEY = false ∧ t.has Fld.RING_STAT_SURVEYED = false
    ∧ RegsBut [Reg.RING_CTL, Reg.RING_STAT] s t ∧ t = { s with regs := t.regs, ring := t.ring, tasks := t.tasks } := by
  cases b with
  | false =>
    obtain ⟨hring, hctl, hstat, hregs, honly⟩ := surveyStart_answers h
    exact ⟨_, rfl, hring, hctl, hstat, hregs, (honly.mono (by decide)).frame_regs_ring_tasks⟩
  | true =>
    obtain ⟨hring, hctl, hstat, hregs, honly⟩ := surveyStart_answers (s := s.takeTask TK.RING_SURVEY) h
    exact ⟨_, rfl, hring, hctl, hstat, hregs,
      OnlyIn.frame_regs_ring_tasks ((onlyIn_takeTask (by decide) |>.mpr .refl).trans (honly.mono (by decide)))⟩

theorem answers_surveyRetry (h : s.ringSt = 4) (hretry : s.ring.surveyRetry = true) : Answers (exec .surveyRetry s) fun t =>
    t.ring = surveyBegun (s.get Fld.RING_LOOP_HOPS) s.ring
    ∧ t.has Fld.RING_CTL_SURVEY = false ∧ t.has Fld.RING_STAT_SURVEYED = false
    ∧ RegsBut [Reg.RING_CTL, Reg.RING_STAT] s t ∧ t = { s with regs := t.regs, ring := t.ring } := by
  obtain ⟨hring, hctl, hstat, hregs, honly⟩ := surveyStart_answers h
  exact ⟨_, congrArg Host.Outcome.next (if_pos hretry), hring, hctl, hstat, hregs, honly.frame_regs_ring⟩

/-- The delay of segment `seg`, kept where its upstream end is this node. -/
def segMeasured (seg : Nat) (echo : BitVec 32) (s : State) : State :=
  if (s.ringSt = 3 ∨ s.ringSt = 4) ∧ s.ringPos = seg then
    s.put Fld.RING_TIMING_SEGDLY (max 0 (roundDiv ((echo.toNat : Int) - 1024) 2)).toNat else s

theorem onlyIn_segMeasured {echo : BitVec 32} : OnlyIn [.regs] s (segMeasured n echo s) :=
  .ite (onlyIn_put (by decide) |>.mpr .refl) .refl

theorem regsBut_segMeasured {echo : BitVec 32} : RegsBut [Reg.RING_TIMING] s (segMeasured n echo s) :=
  regsBut_ite (regsBut_put (by decide) |>.mpr .refl) .refl

theorem get_SEGDLY_segMeasured {echo : BitVec 32} (h : s.ringSt = 4) :
    (segMeasured n echo s).get Fld.RING_TIMING_SEGDLY = if n = s.ringPos then
      (max 0 (roundDiv ((echo.toNat : Int) - 1024) 2)).toNat % 2 ^ 16 else s.get Fld.RING_TIMING_SEGDLY := by
  rw [segMeasured]
  by_cases hpos : n = s.ringPos
  case pos =>
    rw [if_pos ⟨.inr h, hpos.symm⟩, if_pos hpos]
    exact State.get_put_fits rfl
  case neg => rw [if_neg (fun hup => hpos hup.2.symm), if_neg hpos]

/-- The segment after segment `n` of a survey whose last is `hops`. -/
def surveyNext (n hops : Nat) (r : Ring) : Ring :=
  if n = hops then { r with survey := none, timeSurveyed := true } else { r with survey := some (n + 1) }

theorem exec_surveyStep {seg : Fin 8} {echo : BitVec 32} (h : s.ringSt = 4) (hseg : s.ring.survey = some seg.val) :
    exec (.surveyStep seg echo) s
      = .next ((segMeasured seg echo s).withRing (surveyNext seg (s.get Fld.RING_LOOP_HOPS) s.ring)) := by
  have hring : (segMeasured seg echo s).ring = s.ring := onlyIn_segMeasured.ring (by decide)
  have hst : (segMeasured seg echo s).ringSt = 4 := (regsBut_segMeasured.get (by decide)).trans h
  have hhops : (segMeasured seg echo s).get Fld.RING_LOOP_HOPS = s.get Fld.RING_LOOP_HOPS :=
    regsBut_segMeasured.get (by decide)
  have heq : exec (.surveyStep seg echo) s = if (segMeasured seg echo s).ringSt = 4 ∧ (segMeasured seg echo s).ring.survey = some seg.val
      then (if seg.val = (segMeasured seg echo s).get Fld.RING_LOOP_HOPS
        then .next { segMeasured seg echo s with ring := { (segMeasured seg echo s).ring with survey := none, timeSurveyed := true } }
        else .next { segMeasured seg echo s with ring := { (segMeasured seg echo s).ring with survey := some (seg.val + 1) } })
      else .next (segMeasured seg echo s) := rfl
  rw [heq, if_pos ⟨hst, hring ▸ hseg⟩, hhops, hring, surveyNext]
  split <;> rfl

theorem answers_surveyStep {seg : Fin 8} {echo : BitVec 32} (h : s.ringSt = 4) (hseg : s.ring.survey = some seg.val) :
    Answers (exec (.surveyStep seg echo) s) fun t =>
      t.ring = (if seg.val = s.get Fld.RING_LOOP_HOPS then { s.ring with survey := none, timeSurveyed := true }
        else { s.ring with survey := some (seg.val + 1) })
      ∧ t.get Fld.RING_TIMING_SEGDLY = (if seg.val = s.ringPos then
        (max 0 (roundDiv ((echo.toNat : Int) - 1024) 2)).toNat % 2 ^ 16 else s.get Fld.RING_TIMING_SEGDLY)
      ∧ RegsBut [Reg.RING_TIMING] s t ∧ t = { s with regs := t.regs, ring := t.ring } := by
  refine ⟨_, exec_surveyStep h hseg, rfl, get_SEGDLY_segMeasured h, regsBut_segMeasured, ?_⟩
  exact OnlyIn.frame_regs_ring (onlyIn_withRing (by decide) |>.mpr (onlyIn_segMeasured.mono (by decide)))

/-- The ring's record after a survey that failed. -/
def surveyFailed (r : Ring) : Ring := { r with survey := none, timeSurveyed := false, surveyRetry := true }

theorem answers_surveyProbeTimeout (h : s.ringSt = 4) (hsome : s.ring.survey.isSome = true) :
    Answers (exec .surveyProbeTimeout s) fun t =>
      t.has Fld.RING_FLAGS_SURVFAIL = true ∧ t.get Fld.RING_LASTCODE_CODE = 0x0906 ∧ Fires [EV.RING_FAULT] s t
      ∧ t.ring = { s.ring with survey := none, timeSurveyed := false, surveyRetry := true }
      ∧ RegsBut [Reg.RING_FLAGS, Reg.RING_LASTCODE] s t
      ∧ t = { s with regs := t.regs, ring := t.ring, edges := t.edges } := by
  have hcode := regsBut_ringCode (s := s.flag Fld.RING_FLAGS_SURVFAIL) (c := 0x0906)
  have hring : (ringCode 0x0906 (s.flag Fld.RING_FLAGS_SURVFAIL)).ring = s.ring := by rw [ring_ringCode, State.flag_ring]
  have heq : exec .surveyProbeTimeout s = .next ((ringCode 0x0906 (s.flag Fld.RING_FLAGS_SURVFAIL)).withRing
      (surveyFailed (ringCode 0x0906 (s.flag Fld.RING_FLAGS_SURVFAIL)).ring)) :=
    congrArg Host.Outcome.next (if_pos ⟨h, hsome⟩)
  rw [hring] at heq
  refine ⟨_, heq, ?_, ?_, ?_, rfl, ?_, ?_⟩
  · rw [State.has_withRing, hcode.has (by decide), State.has_flag_bit rfl rfl]
  · rw [State.get_withRing, get_CODE_ringCode (by decide)]
  · exact Fires.append (.none (State.flag_edges ..)) (fires_ringCode (by decide))
  · exact regsBut_withRing.mpr (RegsBut.trans (regsBut_flag (by decide) |>.mpr .refl) (hcode.mono (by decide)))
  · exact OnlyIn.frame_regs_ring_edges (onlyIn_withRing (by decide) |>.mpr
      ((onlyIn_flag (by decide) |>.mpr .refl).trans (onlyIn_ringCode.mono (by decide))))

/-! ### The silent ring -/

/-- The loop is broken: its flag, and no survey. -/
def ringCut (s : State) : State := (s.flag Fld.RING_FLAGS_BROKEN).unflag Fld.RING_STAT_SURVEYED

theorem onlyIn_ringCut : OnlyIn [.regs] s (ringCut s) := by
  rw [ringCut, onlyIn_unflag (by decide), onlyIn_flag (by decide)]
  exact .refl

theorem regsBut_ringCut : RegsBut [Reg.RING_FLAGS, Reg.RING_STAT] s (ringCut s) := by
  rw [ringCut, regsBut_unflag (by decide), regsBut_flag (by decide)]
  exact .refl

/-- The ring's record where the loop is broken. -/
def ringBroken (r : Ring) : Ring := { r with broken := true, survey := none, timeSurveyed := false }

theorem answers_ringBrokenTimeout (h : s.ringSt = 4) : Answers (exec .ringBrokenTimeout s) fun t =>
    t.has Fld.RING_FLAGS_BROKEN = true ∧ t.has Fld.RING_STAT_SURVEYED = false ∧ t.get Fld.RING_LASTCODE_CODE = 0x0902
    ∧ Fires [EV.RING_FAULT] s t ∧ t.ring = { s.ring with broken := true, survey := none, timeSurveyed := false }
    ∧ RegsBut [Reg.RING_FLAGS, Reg.RING_STAT, Reg.RING_LASTCODE] s t
    ∧ t = { s with regs := t.regs, ring := t.ring, edges := t.edges } := by
  have hcode := regsBut_ringCode (s := ringCut s) (c := 0x0902)
  have hring : (ringCode 0x0902 (ringCut s)).ring = s.ring := by rw [ring_ringCode, onlyIn_ringCut.ring (by decide)]
  have heq : exec .ringBrokenTimeout s
      = .next ((ringCode 0x0902 (ringCut s)).withRing (ringBroken (ringCode 0x0902 (ringCut s)).ring)) := if_neg (not_not_intro h)
  rw [hring] at heq
  refine ⟨_, heq, ?_, ?_, ?_, ?_, rfl, ?_, ?_⟩
  · rw [State.has_withRing, hcode.has (by decide), ringCut, State.unflag_eq_put, State.has_put_other (by decide),
      State.has_flag_bit rfl rfl]
  · rw [State.has_withRing, hcode.has (by decide), ringCut, State.has_unflag_fits rfl]
  · rw [State.get_withRing, get_CODE_ringCode (by decide)]
  · exact Fires.append (.none (onlyIn_ringCut.edges (by decide))) (fires_ringCode (by decide))
  · exact regsBut_withRing.mpr ((regsBut_ringCut.mono (by decide)).trans (hcode.mono (by decide)))
  · exact OnlyIn.frame_regs_ring_edges (onlyIn_withRing (by decide) |>.mpr
      ((onlyIn_ringCut.mono (by decide)).trans (onlyIn_ringCode.mono (by decide))))

/-! ### The bypass -/

theorem onlyIn_bypassOpen : OnlyIn [.regs] s (bypassOpen s) := by
  rw [bypassOpen, onlyIn_inc (by decide), onlyIn_unflag (by decide)]
  exact .refl

theorem regsBut_bypassOpen : RegsBut [Reg.RINGBYP_STAT, Reg.RINGBYP_CNT] s (bypassOpen s) := by
  rw [bypassOpen, regsBut_inc (by decide), regsBut_unflag (by decide)]
  exact .refl

theorem has_CLOSED_bypassOpen : (bypassOpen s).has Fld.RINGBYP_STAT_CLOSED = false := by
  rw [bypassOpen, State.inc_eq_put, State.has_put_other (by decide), State.has_unflag_fits rfl]

theorem get_OPENS_bypassOpen : (bypassOpen s).get Fld.RINGBYP_CNT_OPENS = s.counted Fld.RINGBYP_CNT_OPENS := by
  rw [bypassOpen, State.get_inc_fits rfl, State.counted, State.unflag_eq_put, State.get_put_other (by decide), State.counted]

theorem bypassClose_of_open (h : s.has Fld.RINGBYP_STAT_CLOSED = false) :
    bypassClose c s = (((s.flag Fld.RINGBYP_STAT_CLOSED).put Fld.RINGBYP_STAT_CAUSE c).inc Fld.RINGBYP_CNT_CLOSES).fire EV.RING_LEAVE :=
  if_neg (by rw [h]; decide)

theorem bypassClose_answers (h : s.has Fld.RINGBYP_STAT_CLOSED = false) (hc : c < 8) :
    (bypassClose c s).has Fld.RINGBYP_STAT_CLOSED = true ∧ (bypassClose c s).get Fld.RINGBYP_STAT_CAUSE = c
    ∧ (bypassClose c s).get Fld.RINGBYP_CNT_CLOSES = s.counted Fld.RINGBYP_CNT_CLOSES
    ∧ Fires [EV.RING_LEAVE] s (bypassClose c s) ∧ RegsBut [Reg.RINGBYP_STAT, Reg.RINGBYP_CNT] s (bypassClose c s)
    ∧ OnlyIn [.regs, .edges] s (bypassClose c s) := by
  rw [bypassClose_of_open h]
  refine ⟨?_, ?_, ?_, ?_, ?_, ?_⟩
  · rw [State.has_fire, State.inc_eq_put, State.has_put_other (by decide), State.has_put_bitsApart rfl rfl,
      State.has_flag_bit rfl rfl]
  · rw [State.get_fire, State.inc_eq_put, State.get_put_other (by decide), State.get_put_fits rfl]
    exact Nat.mod_eq_of_lt hc
  · rw [State.get_fire, State.get_inc_fits rfl, State.counted, State.counted, State.get_put_other (by decide),
      State.flag_eq_put, State.get_put_other (by decide)]
  · refine .fire ?_
    rw [State.inc_edges, State.put_edges, State.flag_edges]
  · rw [regsBut_fire, regsBut_inc (by decide), regsBut_put (by decide), regsBut_flag (by decide)]
    exact .refl
  · rw [onlyIn_fire (by decide), onlyIn_inc (by decide), onlyIn_put (by decide), onlyIn_flag (by decide)]
    exact .refl

/-! ### A node's position -/

/-- The configured position of a node, 0xFF where it has none, agrees with the position it finds. -/
def State.posFits (s : State) (p : Nat) : Prop := eb s.ringCfg 1 = 0xFF ∨ eb s.ringCfg 1 = p

/-- The ring's record at a position that fits. -/
def ringPlaced (r : Ring) : Ring := { r with posBad := false }

theorem State.posFits_congr {p : Nat} (h : t.salt = s.salt) : t.posFits p ↔ s.posFits p := by
  rw [State.posFits, State.posFits, State.ringCfg, State.ringCfg, State.cells, State.cells, State.record, State.record, h]

theorem ringPosition_of_fits (hp : n + 1 ≤ 7) (h : s.posFits (n + 1)) :
    ringPosition n s = (s.put Fld.RING_STAT_POSITION (n + 1)).withRing (ringPlaced s.ring) := by
  have hbad : ¬ (eb s.ringCfg 1 ≠ 0xFF ∧ eb s.ringCfg 1 ≠ n + 1) := fun hne => h.elim hne.1 hne.2
  rw [ringPosition, if_neg (by omega : ¬ 7 < n + 1)]
  dsimp only
  rw [decide_eq_false hbad]
  rfl

/-! ### Joining, and the master -/

/-- A seeking node that joins: its state and position, with the bypass open. -/
def ringJoined (p : Nat) (s : State) : State :=
  (bypassOpen (s.put Fld.RING_STAT_STATE 3)).put Fld.RING_STAT_POSITION p

theorem onlyIn_ringJoined : OnlyIn [.regs] s (ringJoined n s) := by
  rw [ringJoined, onlyIn_put (by decide)]
  exact .trans (onlyIn_put (by decide) |>.mpr .refl) onlyIn_bypassOpen

theorem regsBut_ringJoined : RegsBut [Reg.RING_STAT, Reg.RINGBYP_STAT, Reg.RINGBYP_CNT] s (ringJoined n s) := by
  rw [ringJoined, regsBut_put (by decide)]
  exact .trans (regsBut_put (by decide) |>.mpr .refl) (regsBut_bypassOpen.mono (by decide))

theorem ringSt_ringJoined : (ringJoined n s).ringSt = 3 := by
  rw [ringJoined, State.ringSt, State.get_put_bitsApart rfl rfl, regsBut_bypassOpen.get (by decide), State.get_put_fits rfl]
  rfl

theorem ringPos_ringJoined (h : n ≤ 7) : (ringJoined n s).ringPos = n := by
  rw [ringJoined, State.ringPos, State.get_put_fits rfl]
  exact Nat.mod_eq_of_lt (show n < 8 by omega)

theorem has_CLOSED_ringJoined : (ringJoined n s).has Fld.RINGBYP_STAT_CLOSED = false := by
  rw [ringJoined, State.has_put_other (by decide), has_CLOSED_bypassOpen]

theorem get_OPENS_ringJoined : (ringJoined n s).get Fld.RINGBYP_CNT_OPENS = s.counted Fld.RINGBYP_CNT_OPENS := by
  rw [ringJoined, State.get_put_other (by decide), get_OPENS_bypassOpen, State.counted, State.get_put_other (by decide),
    State.counted]

theorem exec_ringJoin (hst : s.ringSt = 1) (hrole : s.ringRole = 1) (hseen : 2 ≤ s.ring.seen) (hgap : s.ring.gapSeen = true)
    (hpos : s.ring.hopsSeen + 1 ≤ 7) (hfits : s.posFits (s.ring.hopsSeen + 1)) :
    exec .ringJoin s = .next (((ringJoined (s.ring.hopsSeen + 1) s).withRing (ringPlaced s.ring)).fire EV.RING_JOIN) := by
  have hguard : ¬ (s.ringSt ≠ 1 ∨ s.ringRole ≠ 1 ∨ s.ring.seen < 2 ∨ !s.ring.gapSeen) := by
    rw [hst, hrole, hgap]
    simp only [ne_eq, not_true_eq_false, Bool.not_true, Bool.false_eq_true, or_false, false_or]
    omega
  have hring : (bypassOpen (s.put Fld.RING_STAT_STATE 3)).ring = s.ring :=
    (onlyIn_bypassOpen.ring (by decide)).trans (State.put_ring ..)
  have hposition : ringPosition s.ring.hopsSeen (bypassOpen (s.put Fld.RING_STAT_STATE 3))
      = (ringJoined (s.ring.hopsSeen + 1) s).withRing (ringPlaced s.ring) := by
    have hsalt : (bypassOpen (s.put Fld.RING_STAT_STATE 3)).salt = s.salt :=
      (onlyIn_bypassOpen.salt (by decide)).trans (State.put_salt ..)
    rw [ringPosition_of_fits hpos ((State.posFits_congr hsalt).mpr hfits), hring, ringJoined]
  have heq : exec .ringJoin s = .next (if (ringPosition s.ring.hopsSeen (bypassOpen (s.put Fld.RING_STAT_STATE 3))).ringSt = 3
      then (ringPosition s.ring.hopsSeen (bypassOpen (s.put Fld.RING_STAT_STATE 3))).fire EV.RING_JOIN
      else ringPosition s.ring.hopsSeen (bypassOpen (s.put Fld.RING_STAT_STATE 3))) := if_neg hguard
  rw [heq, hposition, State.ringSt_withRing, if_pos ringSt_ringJoined]

theorem answers_ringJoin (hst : s.ringSt = 1) (hrole : s.ringRole = 1) (hseen : 2 ≤ s.ring.seen) (hgap : s.ring.gapSeen = true)
    (hpos : s.ring.hopsSeen + 1 ≤ 7) (hfits : s.posFits (s.ring.hopsSeen + 1)) : Answers (exec .ringJoin s) fun t =>
      t.ringSt = 3 ∧ t.ringPos = s.ring.hopsSeen + 1 ∧ t.has Fld.RINGBYP_STAT_CLOSED = false
      ∧ t.get Fld.RINGBYP_CNT_OPENS = s.counted Fld.RINGBYP_CNT_OPENS ∧ Fires [EV.RING_JOIN] s t
      ∧ RegsBut [Reg.RING_STAT, Reg.RINGBYP_STAT, Reg.RINGBYP_CNT] s t
      ∧ t = { s with regs := t.regs, edges := t.edges, ring := { s.ring with posBad := false } } := by
  refine ⟨_, exec_ringJoin hst hrole hseen hgap hpos hfits, ?_, ?_, ?_, ?_, ?_, ?_, ?_⟩
  · rw [State.ringSt_fire, State.ringSt_withRing, ringSt_ringJoined]
  · rw [State.ringPos_fire, State.ringPos_withRing, ringPos_ringJoined hpos]
  · rw [State.has_fire, State.has_withRing, has_CLOSED_ringJoined]
  · rw [State.get_fire, State.get_withRing, get_OPENS_ringJoined]
  · refine .fire ?_
    rw [State.edges_withRing, onlyIn_ringJoined.edges (by decide)]
  · exact regsBut_fire.mpr (regsBut_withRing.mpr regsBut_ringJoined)
  · exact OnlyIn.frame_regs_ring_edges (onlyIn_fire (by decide) |>.mpr (onlyIn_withRing (by decide) |>.mpr
      (onlyIn_ringJoined.mono (by decide))))

/-- The master of a silent ring: its state and position, with the bypass open. -/
def ringMastered (s : State) : State :=
  bypassOpen ((s.put Fld.RING_STAT_STATE 4).put Fld.RING_STAT_POSITION 0)

theorem onlyIn_ringMastered : OnlyIn [.regs] s (ringMastered s) := by
  rw [ringMastered]
  refine .trans ?_ onlyIn_bypassOpen
  rw [onlyIn_put (by decide), onlyIn_put (by decide)]
  exact .refl

theorem regsBut_ringMastered : RegsBut [Reg.RING_STAT, Reg.RINGBYP_STAT, Reg.RINGBYP_CNT] s (ringMastered s) := by
  rw [ringMastered]
  refine .trans ?_ (regsBut_bypassOpen.mono (by decide))
  rw [regsBut_put (by decide), regsBut_put (by decide)]
  exact .refl

/-- The ring's record as its master begins. -/
def ringBegun (r : Ring) : Ring :=
  { r with surveyWanted := true, evAcc := 0, relay := [], survey := none, surveyHops := 0x10, timeSurveyed := false, lastGap := 0, broken := false }

theorem answers_ringMasterListenEnd_silent (hst : s.ringSt = 1) (hrole : s.ringRole = 2) (h : s.ring.heard = false) :
    Answers (exec .ringMasterListenEnd s) fun t =>
      t.ringSt = 4 ∧ t.ringPos = 0 ∧ t.has Fld.RINGBYP_STAT_CLOSED = false
      ∧ t.get Fld.RINGBYP_CNT_OPENS = s.counted Fld.RINGBYP_CNT_OPENS ∧ t.ring.surveyWanted = true
      ∧ RegsBut [Reg.RING_STAT, Reg.RINGBYP_STAT, Reg.RINGBYP_CNT] s t ∧ t = { s with regs := t.regs, ring := t.ring } := by
  have heq : exec .ringMasterListenEnd s = .next ((ringMastered s).withRing (ringBegun (ringMastered s).ring)) :=
    (if_neg (by rw [hst, hrole]; decide)).trans (if_neg (by rw [h]; decide))
  refine ⟨_, heq, ?_, ?_, ?_, ?_, rfl, ?_, ?_⟩
  · rw [State.ringSt_withRing, ringMastered, State.ringSt, regsBut_bypassOpen.get (by decide), State.get_put_bitsApart rfl rfl,
      State.get_put_fits rfl]
    rfl
  · rw [State.ringPos_withRing, ringMastered, State.ringPos, regsBut_bypassOpen.get (by decide), State.get_put_fits rfl]
    rfl
  · rw [State.has_withRing, ringMastered, has_CLOSED_bypassOpen]
  · rw [State.get_withRing, ringMastered, get_OPENS_bypassOpen, State.counted, State.get_put_other (by decide),
      State.get_put_other (by decide), State.counted]
  · exact regsBut_withRing.mpr regsBut_ringMastered
  · exact OnlyIn.frame_regs_ring (onlyIn_withRing (by decide) |>.mpr (onlyIn_ringMastered.mono (by decide)))

/-- A master that hears another: its port stands closed by the fault. -/
def ringDual (s : State) : State := (s.flag Fld.RING_FLAGS_DUALMASTER).put Fld.RING_STAT_STATE 5

theorem onlyIn_ringDual : OnlyIn [.regs] s (ringDual s) := by
  rw [ringDual, onlyIn_put (by decide), onlyIn_flag (by decide)]
  exact .refl

theorem regsBut_ringDual : RegsBut [Reg.RING_STAT, Reg.RING_FLAGS] s (ringDual s) := by
  rw [ringDual, regsBut_put (by decide), regsBut_flag (by decide)]
  exact .refl

theorem answers_ringMasterListenEnd_heard (hst : s.ringSt = 1) (hrole : s.ringRole = 2) (h : s.ring.heard = true) :
    Answers (exec .ringMasterListenEnd s) fun t =>
      t.ringSt = 5 ∧ t.has Fld.RING_FLAGS_DUALMASTER = true ∧ t.get Fld.RING_LASTCODE_CODE = 0x0905 ∧ Fires [EV.RING_FAULT] s t
      ∧ RegsBut [Reg.RING_STAT, Reg.RING_FLAGS, Reg.RING_LASTCODE] s t ∧ t = { s with regs := t.regs, edges := t.edges } := by
  have hcode := regsBut_ringCode (s := ringDual s) (c := 0x0905)
  have heq : exec .ringMasterListenEnd s = .next (ringCode 0x0905 (ringDual s)) :=
    (if_neg (by rw [hst, hrole]; decide)).trans (if_pos h)
  refine ⟨_, heq, ?_, ?_, get_CODE_ringCode (by decide), ?_, ?_, ?_⟩
  · rw [State.ringSt, hcode.get (by decide), ringDual, State.get_put_fits rfl]
    rfl
  · rw [hcode.has (by decide), ringDual, State.has_put_other (by decide), State.has_flag_bit rfl rfl]
  · exact Fires.append (.none (onlyIn_ringDual.edges (by decide))) (fires_ringCode (by decide))
  · exact (regsBut_ringDual.mono (by decide)).trans (hcode.mono (by decide))
  · exact OnlyIn.frame_regs_edges ((onlyIn_ringDual.mono (by decide)).trans onlyIn_ringCode)

/-! ### Leaving -/

/-- The ring's record after a leave. -/
def ringLeft (r : Ring) : Ring := { r with left := true, survey := none, timeSurveyed := false, evFire := none, prev := none }

theorem answers_ringLeave (hst : s.ringSt ≠ 0) (h : s.has Fld.RINGBYP_STAT_CLOSED = false) : Answers (exec .ringLeave s) fun t =>
    t.ring = { s.ring with left := true, survey := none, timeSurveyed := false, evFire := none, prev := none }
    ∧ t.ringSt = 5 ∧ t.has Fld.RINGBYP_STAT_CLOSED = true ∧ t.get Fld.RINGBYP_STAT_CAUSE = 6
    ∧ t.get Fld.RINGBYP_CNT_CLOSES = s.counted Fld.RINGBYP_CNT_CLOSES ∧ Fires [EV.RING_LEAVE] s t
    ∧ RegsBut [Reg.RING_STAT, Reg.RINGBYP_STAT, Reg.RINGBYP_CNT] s t
    ∧ t = { s with regs := t.regs, ring := t.ring, edges := t.edges, tasks := t.tasks } := by
  obtain ⟨hclosed, hcause, hcloses, hfires, hregs, honly⟩ := bypassClose_answers (s := s.takeTask TK.RING_LEAVE) (c := 6) h (by decide)
  have hring : (bypassClose 6 (s.takeTask TK.RING_LEAVE)).ring = s.ring := honly.ring (by decide)
  have heq : exec .ringLeave s = .next (((bypassClose 6 (s.takeTask TK.RING_LEAVE)).put Fld.RING_STAT_STATE 5).withRing
      (ringLeft (bypassClose 6 (s.takeTask TK.RING_LEAVE)).ring)) := if_neg hst
  rw [hring] at heq
  refine ⟨_, heq, rfl, ?_, ?_, ?_, ?_, ?_, ?_, ?_⟩
  · rw [State.ringSt_withRing, ringSt_put]
  · rw [State.has_withRing, State.has_put_other (by decide), hclosed]
  · rw [State.get_withRing, State.get_put_other (by decide), hcause]
  · rw [State.get_withRing, State.get_put_other (by decide), hcloses]
    rfl
  · rw [Fires, State.edges_withRing, State.put_edges]
    exact hfires
  · exact regsBut_withRing.mpr (regsBut_put (by decide) |>.mpr (hregs.mono (by decide)))
  · exact OnlyIn.frame_regs_ring_edges_tasks (onlyIn_withRing (by decide) |>.mpr (onlyIn_put (by decide) |>.mpr
      ((onlyIn_takeTask (by decide) |>.mpr .refl).trans (honly.mono (by decide)))))

/-- Settles O41: a survey runs segment by segment, a node joins in a gap, a silent ring gets its master, a leave closes the bypass. -/
theorem ringSurveyAndMembership : Obligations.RingSurveyAndMembership := fun _ =>
  ⟨fun h => ⟨answers_surveyStart h, answers_surveyRetry h, fun _ _ => answers_surveyStep h, answers_surveyProbeTimeout h,
      answers_ringBrokenTimeout h⟩,
    answers_ringJoin,
    fun hst hrole => ⟨answers_ringMasterListenEnd_silent hst hrole, answers_ringMasterListenEnd_heard hst hrole⟩,
    answers_ringLeave⟩

end Sys2Proof.Machine
end

section
/-!
SUPPORT. The tide ring's cycle (chapter 12): TIME, the EVENT slot, ring sluices and mailboxes.
-/

namespace Sys2Proof.Machine

variable {s t : State} {c n k : Nat}

theorem State.bit_withRing {r : Ring} {a : Nat} : (s.withRing r).bit a k = s.bit a k := rfl

/-! ### Loss of signal, and the master's cycle -/

/-- The port has lost its signal: flag, count, code. -/
def ringSilent (s : State) : State := ringCode 0x0901 ((s.flag Fld.RING_FLAGS_LOS).inc Fld.RING_CNT_LOS)

theorem ringSilent_eq :
    ringSilent s = ((s.flag Fld.RING_FLAGS_LOS).inc Fld.RING_CNT_LOS).put Fld.RING_LASTCODE_CODE 0x0901 := by
  rw [ringSilent, ringCode, if_pos rfl]

theorem onlyIn_ringSilent : OnlyIn [.regs] s (ringSilent s) := by
  rw [ringSilent_eq, onlyIn_put (by decide), onlyIn_inc (by decide), onlyIn_flag (by decide)]
  exact .refl

theorem regsBut_ringSilent : RegsBut [Reg.RING_FLAGS, Reg.RING_CNT 0, Reg.RING_LASTCODE] s (ringSilent s) := by
  rw [ringSilent_eq, regsBut_put (by decide), regsBut_inc (by decide), regsBut_flag (by decide)]
  exact .refl

theorem answers_ringLos (h : s.ringSt ≠ 0) : Answers (exec .ringLos s) fun t =>
    t.has Fld.RING_FLAGS_LOS = true ∧ t.get Fld.RING_CNT_LOS = s.counted Fld.RING_CNT_LOS
    ∧ t.get Fld.RING_LASTCODE_CODE = 0x0901 ∧ t.ring = { s.ring with locked := false, seen := 0 } ∧ Fires [EV.RING_LOS] s t
    ∧ RegsBut [Reg.RING_FLAGS, Reg.RING_CNT 0, Reg.RING_LASTCODE] s t
    ∧ t = { s with regs := t.regs, ring := t.ring, edges := t.edges } := by
  have heq : exec .ringLos s = .next ((ringSilent (s.withRing { s.ring with locked := false, seen := 0 })).fire EV.RING_LOS) :=
    if_neg h
  generalize { s.ring with locked := false, seen := 0 } = r at heq
  refine ⟨_, heq, ?_, ?_, ?_, ?_, ?_, ?_, ?_⟩
  · rw [State.has_fire, ringSilent_eq, State.has_put_other (by decide), State.inc_eq_put, State.has_put_other (by decide),
      State.has_flag_bit rfl rfl]
  · rw [State.get_fire, ringSilent_eq, State.get_put_other (by decide), State.get_inc_fits rfl, State.counted,
      State.flag_eq_put, State.get_put_other (by decide), State.get_withRing, State.counted]
  · rw [State.get_fire, ringSilent_eq, State.get_put_fits rfl]
    rfl
  · rw [State.fire_ring, onlyIn_ringSilent.ring (by decide), State.ring_withRing]
  · refine .fire ?_
    rw [onlyIn_ringSilent.edges (by decide), State.edges_withRing]
  · exact regsBut_fire.mpr ((regsBut_withRing.mpr .refl).trans regsBut_ringSilent)
  · exact OnlyIn.frame_regs_ring_edges (onlyIn_fire (by decide) |>.mpr
      ((onlyIn_withRing (by decide) |>.mpr .refl).trans (onlyIn_ringSilent.mono (by decide))))

theorem exec_ringCycleStart (h : s.ringSt = 4) : exec .ringCycleStart s = .next (s.withRing { s.ring with cycle := s.now / 640, evAcc := 0, txTime := timeMsg { stratum := s.stratum, gap := ringGap s (s.now / 640), surveyed := s.ring.timeSurveyed, hops := 0, t := 640 * (s.now / 640), acc := s.get Fld.RING_TIMING_SEGDLY, evsum := s.ring.evAcc }, lastGap := if ringGap s (s.now / 640) then s.elapsed else s.ring.lastGap }) :=
  if_neg (not_not_intro h)

/-! ### A member relays TIME -/

/-- The registers of a member that relays a TIME message with position p. -/
def timePut (p ts acc surveyed : Nat) (s : State) : State :=
  (((s.put Fld.RING_TSLO_TS ts).put Fld.RING_STAT_POSITION p).put Fld.RING_TIMING_ACC acc).put Fld.RING_STAT_SURVEYED surveyed

theorem onlyIn_timePut {p ts acc v : Nat} : OnlyIn [.regs] s (timePut p ts acc v s) := by
  rw [timePut, onlyIn_put (by decide), onlyIn_put (by decide), onlyIn_put (by decide), onlyIn_put (by decide)]
  exact .refl

theorem regsBut_timePut {p ts acc v : Nat} : RegsBut [Reg.RING_STAT, Reg.RING_TIMING, Reg.RING_TSLO] s (timePut p ts acc v s) := by
  rw [timePut, regsBut_put (by decide), regsBut_put (by decide), regsBut_put (by decide), regsBut_put (by decide)]
  exact .refl

theorem get_POSITION_timePut {p ts acc v : Nat} (h : p ≤ 7) : (timePut p ts acc v s).get Fld.RING_STAT_POSITION = p := by
  rw [timePut, State.get_put_bitsApart rfl rfl, State.get_put_other (by decide), State.get_put_fits rfl]
  exact Nat.mod_eq_of_lt (show p < 8 by omega)

theorem has_SURVEYED_timePut {p ts acc : Nat} {b : Bool} : (timePut p ts acc (boolBit b) s).has Fld.RING_STAT_SURVEYED = b := by
  rw [timePut, State.has_put_fits rfl]
  cases b <;> rfl

theorem get_ACC_timePut {p ts acc v : Nat} : (timePut p ts acc v s).get Fld.RING_TIMING_ACC = acc % 2 ^ 16 := by
  rw [timePut, State.get_put_other (by decide), State.get_put_fits rfl]
  rfl

theorem get_SEGDLY_timePut {p ts acc v : Nat} :
    (timePut p ts acc v s).get Fld.RING_TIMING_SEGDLY = s.get Fld.RING_TIMING_SEGDLY := by
  rw [timePut, State.get_put_other (by decide), State.get_put_bitsApart rfl rfl, State.get_put_other (by decide),
    State.get_put_other (by decide)]

theorem get_TS_timePut {p ts acc v : Nat} : (timePut p ts acc v s).get Fld.RING_TSLO_TS = ts % 2 ^ 32 := by
  rw [timePut, State.get_put_other (by decide), State.get_put_other (by decide), State.get_put_other (by decide),
    State.get_put_fits rfl]
  rfl

/-- The ring's record as a TIME message that parses comes in. -/
def timeHeard (ts : Nat) (m : RingTime) (r : Ring) : Ring :=
  { r with ts := ts, locked := true, seen := min 2 (r.seen + 1), gapSeen := m.gap, hopsSeen := m.hops }

/-- A member's record of the ring after it has relayed TIME, delayed by its segment. -/
def timeRelayed (ts segdly : Nat) (m : RingTime) (r : Ring) : Ring :=
  { r with ts := ts, locked := true, seen := min 2 (r.seen + 1), gapSeen := m.gap, hopsSeen := m.hops, posBad := false, txTime := timeMsg { m with hops := m.hops + 1, acc := (m.acc + 640 + segdly) % 65536 }, cycle := m.t / 640, evFire := if m.evsum = 0 then r.evFire else some (m.evsum, m.t + 192) }

/-- A state whose port has taken a TIME message in, before it looks at its position. -/
def timeTaken (ts : Nat) (m : RingTime) (s : State) : State :=
  let s := { s with ring := { s.ring with ts := ts, locked := true } }.put Fld.RING_TSLO_TS ts
  { s with ring := { s.ring with seen := min 2 (s.ring.seen + 1), gapSeen := m.gap, hopsSeen := m.hops } }

theorem State.put_withRing {r : Ring} {f : Field} {v : Nat} : (s.withRing r).put f v = (s.put f v).withRing r := rfl
theorem State.withRing_withRing {r q : Ring} : (s.withRing r).withRing q = s.withRing q := rfl
theorem State.salt_withRing {r : Ring} : (s.withRing r).salt = s.salt := rfl

theorem withRing_timeHeard {ts : Nat} {m : RingTime} {r : Ring} (h : t.ring = { r with ts := ts, locked := true }) :
    ({ t with ring := { t.ring with seen := min 2 (t.ring.seen + 1), gapSeen := m.gap, hopsSeen := m.hops } } : State)
      = t.withRing (timeHeard ts m r) := by
  rw [h]
  rfl

theorem timeTaken_eq {ts : Nat} {m : RingTime} :
    timeTaken ts m s = (s.put Fld.RING_TSLO_TS ts).withRing (timeHeard ts m s.ring) := by
  have hput := State.put_withRing (s := s) (r := { s.ring with ts := ts, locked := true }) (f := Fld.RING_TSLO_TS) (v := ts)
  have htaken : timeTaken ts m s = ((s.withRing { s.ring with ts := ts, locked := true }).put Fld.RING_TSLO_TS ts).withRing
      (timeHeard ts m s.ring) := withRing_timeHeard (State.put_ring ..)
  rw [htaken, hput, State.withRing_withRing]

theorem ring_timeTaken {ts : Nat} {m : RingTime} : (timeTaken ts m s).ring = timeHeard ts m s.ring := by
  rw [timeTaken_eq, State.ring_withRing]

theorem salt_timeTaken {ts : Nat} {m : RingTime} : (timeTaken ts m s).salt = s.salt := by
  rw [timeTaken_eq, State.salt_withRing, State.put_salt]

theorem ringPosition_timeTaken {ts : Nat} {m : RingTime} (hp : m.hops + 1 ≤ 7) (hfits : s.posFits (m.hops + 1)) :
    ringPosition m.hops (timeTaken ts m s)
      = ((timeTaken ts m s).put Fld.RING_STAT_POSITION (m.hops + 1)).withRing (ringPlaced (timeHeard ts m s.ring)) := by
  rw [ringPosition_of_fits hp ((State.posFits_congr salt_timeTaken).mpr hfits), ring_timeTaken]

/-- A member's relay of TIME, and the firing of ring sluices that it announces. -/
def memberRelayed (m : RingTime) (s : State) : State :=
  let out := timeMsg { m with hops := m.hops + 1, acc := (m.acc + 640 + s.get Fld.RING_TIMING_SEGDLY) % 65536 }
  ringEvsum m { s with ring := { s.ring with txTime := out, cycle := m.t / 640 } }

/-- What a member does with a TIME message once it has taken it in. -/
def memberTime (m : RingTime) (s : State) : Out :=
  if (ringPosition m.hops s).ringSt ≠ 3 then .next (ringPosition m.hops s)
  else
    let s := memberRelayed m (((ringPosition m.hops s).put Fld.RING_TIMING_ACC m.acc).put Fld.RING_STAT_SURVEYED (boolBit m.surveyed))
    .next (if s.get Fld.TIDE_CFG_SRCSEL = 1 ∧ m.t / 640 % 2 ^ s.get Fld.RING_CTL_APPLY = 0 then ringApply m s else s)

theorem memberRelayed_withRing {m : RingTime} {ts : Nat} {r : Ring} :
    memberRelayed m (s.withRing (ringPlaced (timeHeard ts m r)))
      = s.withRing (timeRelayed ts (s.get Fld.RING_TIMING_SEGDLY) m r) := rfl

theorem ringSt_timeTaken {ts : Nat} {m : RingTime} : (timeTaken ts m s).ringSt = s.ringSt := by
  rw [timeTaken_eq, State.ringSt_withRing, State.ringSt, State.get_put_other (by decide), State.ringSt]

theorem ringRole_timeTaken {ts : Nat} {m : RingTime} : (timeTaken ts m s).ringRole = s.ringRole := by
  rw [State.ringRole, State.ringRole, State.ringCfg, State.ringCfg, State.cells, State.cells, State.record, State.record,
    salt_timeTaken]

theorem exec_ringTimeMsg_member {octets : List Byte} {ts : BitVec 64} {m : RingTime} (hm : timeParse octets = some m)
    (hst : s.ringSt = 3) (hrole : s.ringRole = 1) :
    exec (.ringTimeMsg octets ts) s = memberTime m (timeTaken ts.toNat m s) := by
  have hst' : (timeTaken ts.toNat m s).ringSt = 3 := ringSt_timeTaken.trans hst
  have hrole' : (timeTaken ts.toNat m s).ringRole = 1 := ringRole_timeTaken.trans hrole
  have heq : exec (.ringTimeMsg octets ts) s
      = if (timeTaken ts.toNat m s).ringSt = 4 then .next (masterTime m (timeTaken ts.toNat m s))
        else if (timeTaken ts.toNat m s).ringRole = 2 then
          .next { timeTaken ts.toNat m s with ring := { (timeTaken ts.toNat m s).ring with heard := true } }
        else if (timeTaken ts.toNat m s).ringSt ≠ 3 then .next (timeTaken ts.toNat m s)
        else memberTime m (timeTaken ts.toNat m s) := by
    refine (if_neg (by rw [hst]; decide)).trans ?_
    rw [hm]
    rfl
  rw [heq, if_neg (by rw [hst']; decide), if_neg (by rw [hrole']; decide), if_neg (not_not_intro hst')]

theorem ringPosition_eq {ts : Nat} {m : RingTime} (hp : m.hops + 1 ≤ 7) (hfits : s.posFits (m.hops + 1)) :
    ringPosition m.hops (timeTaken ts m s)
      = ((s.put Fld.RING_TSLO_TS ts).put Fld.RING_STAT_POSITION (m.hops + 1)).withRing (ringPlaced (timeHeard ts m s.ring)) := by
  rw [ringPosition_timeTaken hp hfits, timeTaken_eq, State.put_withRing, State.withRing_withRing]

theorem ringSt_ringPosition {ts : Nat} {m : RingTime} (hst : s.ringSt = 3) (hp : m.hops + 1 ≤ 7) (hfits : s.posFits (m.hops + 1)) :
    (ringPosition m.hops (timeTaken ts m s)).ringSt = 3 := by
  rw [ringPosition_eq hp hfits, State.ringSt_withRing, State.ringSt, State.get_put_bitsApart rfl rfl,
    State.get_put_other (by decide), ← State.ringSt, hst]

theorem memberRelayed_eq {ts : Nat} {m : RingTime} (hp : m.hops + 1 ≤ 7) (hfits : s.posFits (m.hops + 1)) :
    memberRelayed m (((ringPosition m.hops (timeTaken ts m s)).put Fld.RING_TIMING_ACC m.acc).put
      Fld.RING_STAT_SURVEYED (boolBit m.surveyed)) = (timePut (m.hops + 1) ts m.acc (boolBit m.surveyed) s).withRing
      (timeRelayed ts (s.get Fld.RING_TIMING_SEGDLY) m s.ring) := by
  have hseg := get_SEGDLY_timePut (s := s) (p := m.hops + 1) (ts := ts) (acc := m.acc) (v := boolBit m.surveyed)
  rw [timePut] at hseg ⊢
  rw [ringPosition_eq hp hfits, State.put_withRing, State.put_withRing, memberRelayed_withRing, hseg]

theorem memberTime_of_member {m : RingTime} (hst : (ringPosition m.hops s).ringSt = 3)
    (heq : memberRelayed m (((ringPosition m.hops s).put Fld.RING_TIMING_ACC m.acc).put Fld.RING_STAT_SURVEYED (boolBit m.surveyed)) = t)
    (hsrc : t.get Fld.TIDE_CFG_SRCSEL ≠ 1) : memberTime m s = .next t := by
  rw [memberTime, if_neg (not_not_intro hst), heq]
  exact congrArg Host.Outcome.next (if_neg (fun hboth => hsrc hboth.1))

/-- The state of a member that has relayed TIME. -/
theorem memberTime_eq {ts : Nat} {m : RingTime} (hst : s.ringSt = 3) (hp : m.hops + 1 ≤ 7) (hfits : s.posFits (m.hops + 1))
    (hsrc : s.get Fld.TIDE_CFG_SRCSEL ≠ 1) :
    memberTime m (timeTaken ts m s) = .next ((timePut (m.hops + 1) ts m.acc (boolBit m.surveyed) s).withRing
      (timeRelayed ts (s.get Fld.RING_TIMING_SEGDLY) m s.ring)) := by
  refine memberTime_of_member (ringSt_ringPosition hst hp hfits) (memberRelayed_eq hp hfits) ?_
  rwa [State.get_withRing, regsBut_timePut.get (by decide)]

theorem answers_ringTimeMsg {octets : List Byte} {ts : BitVec 64} {m : RingTime} (hm : timeParse octets = some m)
    (hst : s.ringSt = 3) (hrole : s.ringRole = 1) (hp : m.hops + 1 ≤ 7) (hfits : s.posFits (m.hops + 1))
    (hsrc : s.get Fld.TIDE_CFG_SRCSEL ≠ 1) : Answers (exec (.ringTimeMsg octets ts) s) fun t =>
      t.ring = timeRelayed ts.toNat (s.get Fld.RING_TIMING_SEGDLY) m s.ring
      ∧ t.get Fld.RING_STAT_POSITION = m.hops + 1 ∧ t.has Fld.RING_STAT_SURVEYED = m.surveyed
      ∧ t.get Fld.RING_TIMING_ACC = m.acc % 2 ^ 16 ∧ t.get Fld.RING_TSLO_TS = ts.toNat % 2 ^ 32
      ∧ RegsBut [Reg.RING_STAT, Reg.RING_TIMING, Reg.RING_TSLO] s t ∧ t = { s with regs := t.regs, ring := t.ring } := by
  refine ⟨_, (exec_ringTimeMsg_member hm hst hrole).trans (memberTime_eq hst hp hfits hsrc), rfl, ?_, ?_, ?_, ?_, ?_, ?_⟩
  · rw [State.get_withRing, get_POSITION_timePut hp]
  · rw [State.has_withRing, has_SURVEYED_timePut]
  · rw [State.get_withRing, get_ACC_timePut]
  · rw [State.get_withRing, get_TS_timePut]
  · exact regsBut_withRing.mpr regsBut_timePut
  · exact OnlyIn.frame_regs_ring (onlyIn_withRing (by decide) |>.mpr (onlyIn_timePut.mono (by decide)))

/-! ### The EVENT slot and ring sluices -/

theorem withRing_eventSent {r : Ring} {x : List Byte} (h : t.ring = r) :
    ({ t with ring := { t.ring with evCollected := 0, txEvent := x, evAcc := t.ring.evAcc } } : State)
      = t.withRing { r with evCollected := 0, txEvent := x } := by
  rw [h]
  rfl

theorem answers_ringEventMsg {slot : Fin 8} {octets : List Byte} (hst : s.ringSt = 3) (hslot : slot.val = s.ringPos)
    (hbad : s.ring.posBad = false) : Answers (exec (.ringEventMsg slot octets) s) fun t =>
      t.ring = { s.ring with evCollected := 0, txEvent := eventMsg s.ring.evCollected }
      ∧ t.get Fld.RING_CNT_EVSENT = min (s.get Fld.RING_CNT_EVSENT + popCount 16 s.ring.evCollected) 65535
      ∧ RegsBut [Reg.RING_CNT 1] s t ∧ t = { s with regs := t.regs, ring := t.ring } := by
  have hst' : (s.count Fld.RING_CNT_EVSENT (popCount 16 s.ring.evCollected)).ringSt ≠ 4 := by
    rw [State.count_eq_put, State.ringSt, State.get_put_other (by decide), ← State.ringSt, hst]
    decide
  have heq : exec (.ringEventMsg slot octets) s = .next ((s.count Fld.RING_CNT_EVSENT (popCount 16 s.ring.evCollected)).withRing
      { s.ring with evCollected := 0, txEvent := eventMsg s.ring.evCollected }) := by
    refine (if_neg (fun hno => hno.1 hst)).trans ((if_pos hslot).trans ((if_neg (by rw [hbad]; decide)).trans ?_))
    dsimp only
    rw [if_neg hst']
    exact congrArg Host.Outcome.next (withRing_eventSent (State.count_ring ..))
  refine ⟨_, heq, rfl, ?_, regsBut_withRing.mpr (regsBut_count (by decide) |>.mpr .refl),
    OnlyIn.frame_regs_ring (onlyIn_withRing (by decide) |>.mpr (onlyIn_count (by decide) |>.mpr .refl))⟩
  rw [State.get_withRing, State.get_count (by decide)]
  rfl

/-- The local sluices that ring sluice k of a mask enters. -/
def State.ringEdge (s : State) (k : Nat) : Option Edge := if s.ringSend k then none else (s.ringMap k).map Edge.direct

/-- One ring sluice enters the local one it is mapped to. -/
def ringEnter (k : Nat) (s : State) : State :=
  match s.ringMap k with
  | some n => if s.ringSend k then s else s.fireSluice n
  | none => s

theorem ringEnter_eq : ringEnter k s = { s with edges := s.edges ++ (s.ringEdge k).toList } := by
  rw [ringEnter, State.ringEdge]
  cases s.ringMap k with
  | none =>
    simp
  | some n =>
    cases s.ringSend k with
    | true => simp
    | false => rfl

theorem forEach_ringEnter {ks : List Nat} :
    s.forEach ks ringEnter = { s with edges := s.edges ++ ks.filterMap s.ringEdge } := by
  induction ks generalizing s with
  | nil => simp [State.forEach]
  | cons k ks ih =>
    have hedge : (ringEnter k s).ringEdge = s.ringEdge := by
      rw [ringEnter_eq]
      rfl
    rw [State.forEach_cons, ih, hedge, ringEnter_eq, List.filterMap_cons]
    cases s.ringEdge k with
    | none => simp
    | some e => simp

theorem answers_ringSluiceFire {mask at' : Nat} (h : s.ring.evFire = some (mask, at')) (hdue : at' ≤ s.now) :
    Answers (exec .ringSluiceFire s) fun t =>
      t.edges = s.edges ++ (bitsOf 16 mask).filterMap (fun k => if s.ringSend k then none else (s.ringMap k).map Edge.direct)
      ∧ t.ring = { s.ring with evFire := none } ∧ t = { s with ring := t.ring, edges := t.edges } := by
  have heq : exec .ringSluiceFire s = .next ((s.withRing { s.ring with evFire := none }).forEach (bitsOf 16 mask) ringEnter) := by
    change execRingSluiceFire s = _
    rw [execRingSluiceFire, h]
    exact if_neg (by omega)
  rw [forEach_ringEnter] at heq
  exact ⟨_, heq, rfl, rfl, rfl⟩

/-! ### Mailboxes -/

theorem dataParse_some {octets : List Byte} {src dst box : Nat} {relay : Bool} (h : dataParse octets = some (src, relay, dst, box)) :
    octets.length = 68 ∧ box < 16 := by
  rw [dataParse] at h
  split at h
  case isTrue hok =>
    simp only [crc16Ok, Bool.and_eq_true, beq_iff_eq, decide_eq_true_eq] at hok
    obtain ⟨⟨⟨hlen, -⟩, hbox⟩, -⟩ := hok
    cases h
    exact ⟨hlen, hbox⟩
  case isFalse => cases h

/-- A message kept in a mailbox. -/
def mailKept (box : Nat) (payload : List Byte) (s : State) : State :=
  ((s.setBytes (mailboxAddr box) payload).putBit Reg.RING_MBFULL box true).fire EV.RING_MBRX

theorem onlyIn_mailKept {payload : List Byte} : OnlyIn [.regs, .mem, .edges] s (mailKept n payload s) := by
  rw [mailKept, onlyIn_fire (by decide), onlyIn_putBit (by decide), onlyIn_setBytes (by decide)]
  exact .refl

theorem regsBut_mailKept {payload : List Byte} : RegsBut [Reg.RING_MBFULL] s (mailKept n payload s) := by
  rw [mailKept, regsBut_fire, regsBut_putBit (by decide), regsBut_setBytes]
  exact .refl

theorem mailKept_answers {box : Nat} {payload : List Byte} (hbox : box < 16) (hlen : payload.length = 64) :
    (mailKept box payload s).bytes (mailboxAddr box) 64 = payload ∧ (mailKept box payload s).bit Reg.RING_MBFULL box = true
    ∧ Fires [EV.RING_MBRX] s (mailKept box payload s) ∧ BytesOutside (mailboxAddr box) 64 s (mailKept box payload s) := by
  have hmem : (mailKept box payload s).mem = (s.setBytes (mailboxAddr box) payload).mem := by
    rw [mailKept, State.fire_mem, State.putBit_mem]
  refine ⟨?_, ?_, ?_, fun b hb => ?_⟩
  · rw [State.bytes_eq_of_mem hmem, ← hlen, State.bytes_setBytes]
  · rw [mailKept, State.bit_fire, State.bit_putBit_self (by omega)]
  · refine .fire ?_
    rw [State.putBit_edges, State.setBytes_edges]
  · rw [State.byte_congr hmem, State.byte_setBytes_out (by omega)]

/-- A message for a mailbox that is full. -/
def mailLost (s : State) : State := ringCode 0x0904 (s.inc Fld.RING_CNT_MBOVF)

theorem onlyIn_mailLost : OnlyIn [.regs, .edges] s (mailLost s) :=
  (onlyIn_inc (by decide) |>.mpr .refl).trans onlyIn_ringCode

theorem mailLost_answers : (mailLost s).get Fld.RING_CNT_MBOVF = s.counted Fld.RING_CNT_MBOVF
    ∧ (mailLost s).get Fld.RING_LASTCODE_CODE = 0x0904 ∧ Fires [EV.RING_FAULT] s (mailLost s) ∧ SameBytes s (mailLost s)
    ∧ RegsBut [Reg.RING_CNT 1, Reg.RING_LASTCODE] s (mailLost s) := by
  have hcode := regsBut_ringCode (s := s.inc Fld.RING_CNT_MBOVF) (c := 0x0904)
  refine ⟨?_, get_CODE_ringCode (by decide), ?_, onlyIn_mailLost.sameBytes (by decide), ?_⟩
  · rw [mailLost, hcode.get (by decide), State.get_inc_fits rfl]
  · exact Fires.append (.none (State.inc_edges ..)) (fires_ringCode (by decide))
  · exact RegsBut.trans (regsBut_inc (by decide) |>.mpr .refl) (hcode.mono (by decide))

theorem exec_ringDataMsg {octets : List Byte} {box : Nat} (hst : s.ringSt = 3)
    (hparse : dataParse octets = some (0, false, s.ringPos, box)) (hbox : box < s.ringMbox) (hdir : s.bit Reg.RING_MBDIR box = false) :
    exec (.ringDataMsg octets) s = .next (if s.bit Reg.RING_MBFULL box then mailLost s
      else mailKept box ((octets.drop 2).take 64) s) := by
  have hstore : ringStore s.ringPos box ((octets.drop 2).take 64) s = if s.bit Reg.RING_MBFULL box then mailLost s
      else mailKept box ((octets.drop 2).take 64) s := by
    rw [ringStore, if_neg (fun hno => hno.1 rfl), if_neg (by rw [hdir]; simp; omega)]
    rfl
  refine (if_neg (fun hno => hno.1 hst)).trans ?_
  rw [hparse]
  dsimp only
  rw [if_neg (by rw [hst]; decide), if_pos (.inl rfl), hstore]

theorem answers_ringDataMsg {octets : List Byte} {box : Nat} (hst : s.ringSt = 3)
    (hparse : dataParse octets = some (0, false, s.ringPos, box)) (hbox : box < s.ringMbox) (hdir : s.bit Reg.RING_MBDIR box = false) :
    Answers (exec (.ringDataMsg octets) s) fun t =>
      (s.bit Reg.RING_MBFULL box = false → t.bytes (mailboxAddr box) 64 = (octets.drop 2).take 64
        ∧ t.bit Reg.RING_MBFULL box = true ∧ Fires [EV.RING_MBRX] s t ∧ BytesOutside (mailboxAddr box) 64 s t
        ∧ RegsBut [Reg.RING_MBFULL] s t)
      ∧ (s.bit Reg.RING_MBFULL box = true → t.get Fld.RING_CNT_MBOVF = s.counted Fld.RING_CNT_MBOVF
        ∧ t.get Fld.RING_LASTCODE_CODE = 0x0904 ∧ Fires [EV.RING_FAULT] s t ∧ SameBytes s t
        ∧ RegsBut [Reg.RING_CNT 1, Reg.RING_LASTCODE] s t)
      ∧ t = { s with regs := t.regs, mem := t.mem, edges := t.edges } := by
  obtain ⟨hlen, hlt⟩ := dataParse_some hparse
  have hpayload : ((octets.drop 2).take 64).length = 64 := by simp [hlen]
  have heq := exec_ringDataMsg hst hparse hbox hdir
  cases hfull : s.bit Reg.RING_MBFULL box with
  | false =>
    rw [hfull, if_neg (by decide)] at heq
    obtain ⟨hbytes, hbit, hfires, hout⟩ := mailKept_answers (s := s) hlt hpayload
    exact ⟨_, heq, fun _ => ⟨hbytes, hbit, hfires, hout, regsBut_mailKept⟩, (fun hno => nomatch hno),
      onlyIn_mailKept.frame_regs_mem_edges⟩
  | true =>
    rw [hfull, if_pos rfl] at heq
    exact ⟨_, heq, (fun hno => nomatch hno), fun _ => mailLost_answers,
      (onlyIn_mailLost.mono (by decide)).frame_regs_mem_edges⟩

theorem answers_ringMbsend {j : Fin 16} {d : Nat} (hd : d ≤ 7 ∨ d = 15) (hbox : j.val < s.ringMbox)
    (hdir : s.bit Reg.RING_MBDIR j = true) : Answers (exec (.ringMbsend (BitVec.ofNat 32 (16 * d + j.val))) s) fun t =>
      t.bit Reg.RING_MBPEND j = true
      ∧ t.ring = { s.ring with dst := s.ring.dst.filter (fun x => x.1 != j.val) ++ [(j.val, d)] }
      ∧ (∀ k, k ≠ j.val → t.bit Reg.RING_MBPEND k = s.bit Reg.RING_MBPEND k)
      ∧ RegsBut [Reg.RING_MBPEND] s t ∧ t = { s with regs := t.regs, ring := t.ring } := by
  have hval : (BitVec.ofNat 32 (16 * d + j.val)).toNat = 16 * d + j.val := by
    rw [BitVec.toNat_ofNat, Nat.mod_eq_of_lt (by omega)]
  have hj : (BitVec.ofNat 32 (16 * d + j.val)).toNat % 16 = j.val := by omega
  have hd' : (BitVec.ofNat 32 (16 * d + j.val)).toNat / 16 % 16 = d := by omega
  have heq : exec (.ringMbsend (BitVec.ofNat 32 (16 * d + j.val))) s = .next ((s.putBit Reg.RING_MBPEND j true).withRing
      { (s.putBit Reg.RING_MBPEND j true).ring with
        dst := (s.putBit Reg.RING_MBPEND j true).ring.dst.filter (fun x => x.1 != j.val) ++ [(j.val, d)] }) := by
    change execRingMbsend _ s = _
    rw [execRingMbsend, hj, hd']
    dsimp only
    rw [if_neg (by rw [hdir]; simp; omega)]
    rfl
  rw [State.putBit_ring] at heq
  refine ⟨_, heq, ?_, rfl, fun k hk => ?_, ?_, ?_⟩
  · rw [State.bit_withRing, State.bit_putBit_self (by omega)]
  · rw [State.bit_withRing, State.bit_putBit_ne (by omega) hk]
  · exact regsBut_withRing.mpr (regsBut_putBit (by decide) |>.mpr .refl)
  · exact OnlyIn.frame_regs_ring (onlyIn_withRing (by decide) |>.mpr (onlyIn_putBit (by decide) |>.mpr .refl))

/-- A mailbox whose message has left. -/
def mailSent (j : Nat) (s : State) : State := (s.putBit Reg.RING_MBPEND j false).fire EV.RING_MBTX

theorem onlyIn_mailSent : OnlyIn [.regs, .edges] s (mailSent n s) := by
  rw [mailSent, onlyIn_fire (by decide), onlyIn_putBit (by decide)]
  exact .refl

theorem answers_ringDataWindow {j d : Nat} {rest : List Nat} (hst : s.ringSt = 3 ∨ s.ringSt = 4) (hbad : s.ring.posBad = false)
    (heven : s.ring.cycle % 2 = 0) (hown : s.ring.cycle / 2 % s.ringNodes = s.ringPos)
    (hpend : bitsOf 16 (s.get Fld.RING_MBPEND_PEND) = j :: rest) (hdst : s.ring.dst.find? (fun x => x.1 == j) = some (j, d)) :
    Answers (exec .ringDataWindow s) fun t =>
      t.ring.txData = withCrc16 (bytesLE 1 (s.ringPos + 16 * d) ++ bytesLE 1 j ++ s.bytes (mailboxAddr j) 64)
      ∧ t.bit Reg.RING_MBPEND j = false ∧ Fires [EV.RING_MBTX] s t ∧ RegsBut [Reg.RING_MBPEND] s t
      ∧ t = { s with regs := t.regs, edges := t.edges, ring := { s.ring with txData := t.ring.txData, dst := s.ring.dst.filter (fun x => x.1 != j) } } := by
  have hj : j < 16 := (mem_bitsOf.mp (hpend ▸ List.mem_cons_self)).1
  have heq : exec .ringDataWindow s = .next (mailSent j (s.withRing { s.ring with
      txData := withCrc16 (bytesLE 1 (s.ringPos + 16 * d) ++ bytesLE 1 j ++ s.bytes (mailboxAddr j) 64),
      dst := s.ring.dst.filter (fun x => x.1 != j) })) := by
    refine (if_neg (by omega : ¬ s.ring.cycle % 2 = 1)).trans ((if_neg ?_).trans ?_)
    · rintro (⟨h3, h4⟩ | hb | hne)
      · exact hst.elim h3 h4
      · rw [hbad] at hb
        cases hb
      · exact hne hown
    · rw [hpend]
      dsimp only
      rw [hdst]
      rfl
  generalize hr : withCrc16 _ = x at heq ⊢
  refine ⟨_, heq, ?_, ?_, ?_, ?_, ?_⟩
  · rfl
  · rw [mailSent, State.bit_fire, State.bit_putBit_self (by omega)]
  · exact .fire (State.putBit_edges ..)
  · rw [mailSent, regsBut_fire, regsBut_putBit (by decide), regsBut_withRing]
    exact .refl
  · exact OnlyIn.frame_regs_ring_edges ((onlyIn_withRing (by decide) |>.mpr .refl).trans (onlyIn_mailSent.mono (by decide)))

/-- Settles O40: the cycle's messages, ring sluices and mailboxes do what their sections say. -/
theorem ringCycle : Obligations.RingCycle := fun _ =>
  ⟨rfl, answers_ringLos, fun h => ⟨_, exec_ringCycleStart h, rfl, rfl⟩,
    fun _ _ _ => answers_ringTimeMsg, fun _ _ => answers_ringEventMsg, fun _ _ => answers_ringSluiceFire,
    fun _ _ => answers_ringDataMsg, fun _ _ => answers_ringMbsend, fun _ _ _ => answers_ringDataWindow⟩

end Sys2Proof.Machine
end

section
/-!
SUPPORT. A LINK request takes an idle core; where that core has a self-test under way, the test yields to it (R23), which the
statement's frame leaves no room for.
-/

namespace Sys2Proof.Machine

/-- Core 0 is idle between two steps of its self-test, the others work for LINK. -/
def State.testingIdle : State :=
  { State.reset with cipher := { State.reset.cipher with
      cores := [none, some .link, some .link, some .link], tests := [(0, 1, false)], link := [], untested := [] } }

/-- The background work that waits, where the command completes. -/
def yieldedOf : Out → List Nat
  | .next t => t.yielded
  | _ => []

theorem yieldedOf_linkCipherRequest : yieldedOf (exec .linkCipherRequest State.testingIdle) = [2] := by decide +kernel

/-- Refutes O42: a LINK request on a core between two steps of its self-test makes that test yield. -/
theorem not_cipherCommands : ¬ Obligations.CipherCommands := by
  intro h
  obtain ⟨t, ht, -, -, -, hframe⟩ := (h State.testingIdle).2.1 .link .link .link rfl rfl (by decide +kernel) (by decide +kernel)
  have hyielded : t.yielded = State.testingIdle.yielded := (congrArg State.yielded hframe).trans rfl
  have hnone : State.testingIdle.yielded = [] := by decide +kernel
  have hsome := yieldedOf_linkCipherRequest
  rw [show exec .linkCipherRequest State.testingIdle = .next t from ht, yieldedOf, hyielded, hnone] at hsome
  cases hsome

end Sys2Proof.Machine
end

section
/-!
SUPPORT. Discarding the words of a unit clears every address from PDATA word 0 to word 3, those between two registers among them,
which the statement's frame does not name.
-/

namespace Sys2Proof.Machine

/-- A state that holds something at an address between PDATA word 0 and word 1 of bank A. -/
def State.betweenWords : State :=
  { State.reset with flash := { State.reset.flash with banks := [{}, {}] } }.wr (Reg.FLASHC_PDATA 0 0 + 1) 5

/-- What stands at a register address, where the command completes. -/
def registerAt (a : Nat) : Out → Word
  | .next t => t.rd a
  | _ => 0

theorem registerAt_flashDiscard :
    registerAt (Reg.FLASHC_PDATA 0 0 + 1) (exec (.flashDiscard 0) State.betweenWords) = 0 := by decide +kernel

/-- Refutes O49: a discard clears an address between two words of PDATA as well. -/
theorem not_flashCommands : ¬ Obligations.FlashCommands := by
  intro h
  obtain ⟨-, -, -, -, -, ⟨t, ht, -, -, hregs, -⟩, -⟩ := h 0 State.betweenWords rfl
  have hkept : t.rd (Reg.FLASHC_PDATA 0 0 + 1) = State.betweenWords.rd (Reg.FLASHC_PDATA 0 0 + 1) := hregs _ (by decide)
  have hheld : State.betweenWords.rd (Reg.FLASHC_PDATA 0 0 + 1) = 5 := by decide +kernel
  have hzero := registerAt_flashDiscard
  rw [show exec (.flashDiscard 0) State.betweenWords = .next t from ht, registerAt, hkept, hheld] at hzero
  cases hzero

end Sys2Proof.Machine
end

section
/-!
SUPPORT. A core's start address is written into the list of them by place: where the list is empty a reset leaves it empty, and
CPU0's address reads as 0, not as the ROM's first address.
-/

namespace Sys2Proof.Machine

/-- A system reset is due, and no core has a start address. -/
def State.startless : State :=
  { State.reset with boot := { State.reset.boot with scope := 2 }, cores := { State.reset.cores with start := [] } }

/-- The start address of CPU0, where the command completes. -/
def startAddress : Out → Option Nat
  | .next t => some (nth 0 t.cores.start 0)
  | _ => none

theorem startAddress_systemReset : startAddress (exec (.systemReset false) State.startless) = some 0 := by decide +kernel

theorem resetHeld_startless : resetHeld State.startless.boot.scope State.startless = false := by decide +kernel

/-- Refutes O52: a system reset does not give CPU0 the ROM's first address where no place for it is listed. -/
theorem not_resetsAndStart : ¬ Obligations.ResetsAndStart := by
  intro h
  obtain ⟨-, hreset, -⟩ := h State.startless
  obtain ⟨t, ht, -, -, -, -, hstart, -⟩ := hreset false rfl resetHeld_startless
  have hzero := startAddress_systemReset
  rw [show exec (.systemReset false) State.startless = .next t from ht, startAddress, hstart] at hzero
  cases hzero

end Sys2Proof.Machine
end

section
/-!
SUPPORT. A commit sets a record's check values afresh: one that waits with other check values is not committed as it stands.
-/

namespace Sys2Proof.Machine

/-- A record of type 0x0B with one check value more than its empty body has. -/
def overcheckedRecord : CfgRecord :=
  { type := 0x0B, body := [], source := none, crc := 0, checks := 0 :: Config.groupChecks 0x0B [] }

/-- This record waits for its commit. -/
def State.overchecked : State :=
  State.flag Fld.SYSCFG_PATCHSTAT_PENDING
    { State.reset with salt := { State.reset.salt with shadow := [overcheckedRecord] } }

/-- The check values of the committed record of type 0x0B, where the command completes. -/
def committedChecks : Out → Option (List (BitVec 16))
  | .next t => (t.record 0x0B).map (fun r => r.checks)
  | _ => none

theorem committedChecks_patchCommitTask :
    committedChecks (exec .patchCommitTask State.overchecked) = some (Config.groupChecks 0x0B []) := by rfl

theorem pending_overchecked : State.overchecked.has Fld.SYSCFG_PATCHSTAT_PENDING = true := by decide +kernel

theorem shadow_overchecked : State.overchecked.salt.shadow = [overcheckedRecord] := by rfl

/-- Refutes O18: the committed record has the check values of its body, whatever the waiting one had. -/
theorem not_configurationLoading : ¬ Obligations.ConfigurationLoading := by
  intro h
  obtain ⟨-, -, -, -, hpatch, -⟩ := h State.overchecked
  have htype : ∀ r ∈ State.overchecked.salt.shadow, r.type = 0x0B := by
    rw [shadow_overchecked]
    exact fun r hr => List.mem_singleton.mp hr ▸ rfl
  obtain ⟨t, ht, -, -, -, hrecord, -⟩ :=
    (hpatch pending_overchecked rfl).2 htype (shadow_overchecked ▸ List.cons_ne_nil _ _)
  have hchecks := committedChecks_patchCommitTask
  rw [show exec .patchCommitTask State.overchecked = .next t from ht, committedChecks, hrecord _ shadow_overchecked] at hchecks
  have hlength := congrArg (Option.map List.length) hchecks
  simp [overcheckedRecord] at hlength

end Sys2Proof.Machine
end

section
/-!
SUPPORT. The host port (R583 to R586): octets as numbers, a transaction that is served, a word that reaches SRAM, a word read from
LINK RAM, and the mailbox bits.
-/

namespace Sys2Proof.Machine

variable {s t u : State} {a n : Nat} {d : List Byte}

/-! ### Octets as numbers -/

@[simp] theorem State.length_bytes : (s.bytes a n).length = n := by
  induction n generalizing a with
  | zero => rfl
  | succ n ih => simp [State.bytes, ih]

theorem natOfLE_lt (l : List Byte) : natOfLE l < 256 ^ l.length := by
  induction l with
  | nil => simp [natOfLE]
  | cons b l ih =>
    have hb := b.isLt
    rw [natOfLE, List.length_cons, Nat.pow_succ]
    omega

theorem bytesLE_natOfLE (l : List Byte) : bytesLE l.length (natOfLE l) = l := by
  induction l with
  | nil => rfl
  | cons b l ih =>
    have hb := b.isLt
    have hlow : BitVec.ofNat 8 (b.toNat + 256 * natOfLE l) = b := by
      apply BitVec.eq_of_toNat_eq
      rw [BitVec.toNat_ofNat]
      omega
    have hhigh : (b.toNat + 256 * natOfLE l) / 256 = natOfLE l := by omega
    rw [List.length_cons, natOfLE, bytesLE, hlow, hhigh, ih]

theorem bytesLE_bytes : bytesLE n (s.num a n) = s.bytes a n := by
  have h := bytesLE_natOfLE (s.bytes a n)
  rwa [State.length_bytes] at h

theorem natOfBE_append (l : List Byte) (b : Byte) : natOfBE (l ++ [b]) = natOfBE l * 256 + b.toNat := by
  simp [natOfBE, List.foldl_append]

theorem natOfBE_reverse (l : List Byte) : natOfBE l.reverse = natOfLE l := by
  induction l with
  | nil => rfl
  | cons b l ih =>
    rw [List.reverse_cons, natOfBE_append, ih, natOfLE]
    omega

theorem natOfBE_bytesBE (h : a < 256 ^ n) : natOfBE (bytesBE n a) = a := by
  rw [bytesBE, natOfBE_reverse, natOfLE_bytesLE, Nat.mod_eq_of_lt h]

@[simp] theorem length_bytesBE : (bytesBE n a).length = n := by simp [bytesBE]

/-! ### A transaction that is served -/

theorem exec_hostTransaction_of_served {c : Byte} {l : List Byte} (hon : s.domOn 12 = true) (hen : s.has Fld.HOSTP_CFG_EN = true)
    (hc : c = 0x02#8 ∨ c = 0x0B#8) :
    exec (.hostTransaction (c :: l) n) s = .next (hostServe (c :: l) n (s.fire EV.HOSTP_CSFALL)) := by
  have hcmd : ¬ (eb (c :: l) 0 ≠ 0x02 ∧ eb (c :: l) 0 ≠ 0x0B) := by
    rcases hc with rfl | rfl <;> simp [eb]
  change execHostTransaction _ _ _ = _
  rw [execHostTransaction, if_neg (by simp [hon]), if_neg (by simp),
    if_neg (by simp [show (s.fire EV.HOSTP_CSFALL).has Fld.HOSTP_CFG_EN = true from hen]), if_neg hcmd]

theorem onlyIn_hostSync : OnlyIn [.regs] s (hostSync s) := by simp [hostSync]

theorem regsBut_hostSync : RegsBut [Reg.HOSTP_IRQSTAT] s (hostSync s) := by
  rw [hostSync, regsBut_put (by decide), regsBut_put (by decide)]
  exact RegsBut.refl

theorem onlyIn_hostEnd {miso : List Byte} : OnlyIn [.regs, .per] s (hostEnd false miso s) :=
  (show OnlyIn [.regs, .per] s { s with per := { s.per with miso := miso } } from .of_frame rfl).trans
    (onlyIn_hostSync.mono (by decide))

theorem regsBut_hostEnd {miso : List Byte} : RegsBut [Reg.HOSTP_IRQSTAT] s (hostEnd false miso s) :=
  (show RegsBut _ s { s with per := { s.per with miso := miso } } from .of_regs rfl).trans regsBut_hostSync

theorem miso_hostEnd {miso : List Byte} : (hostEnd false miso s).per.miso = miso :=
  congrArg Periph.miso (onlyIn_hostSync.per (by decide))

/-! ### A word that reaches SRAM -/

theorem chunks_four (h : d.length = 4) : (chunks 4 d).filter (fun w => w.length == 4) = [d] := by
  match d, h with
  | [_, _, _, _], _ => rfl

theorem hostServe_write (ha : a < 2 ^ 32) (hd : d.length = 4) : hostServe (0x02#8 :: bytesBE 4 a ++ d) n s
    = hostEnd false (BitVec.ofNat 8 (hostStatus s) :: List.replicate 8 0#8) (hostWrite a d (s.inc Fld.HOSTP_CNT_TRANS)) := by
  have haddr : natOfBE (((0x02#8 :: bytesBE 4 a ++ d).drop 1).take 4) = a := by
    rw [List.cons_append, List.drop_succ_cons, List.drop_zero, List.take_left' length_bytesBE, natOfBE_bytesBE ha]
  have hdata : (0x02#8 :: bytesBE 4 a ++ d).drop 5 = d := by
    rw [List.cons_append, List.drop_succ_cons, List.drop_left' length_bytesBE]
  have hlength : (0x02#8 :: bytesBE 4 a ++ d).length - 1 = 8 := by simp [hd]
  rw [hostServe]
  dsimp only
  rw [if_pos (by rfl), haddr, hdata, hlength, chunks_four hd, hd, hostWrites, hostWrites]
  rfl

/-- What a word written by the host leaves in SRAM, and its group's state. -/
def State.sramWritten (a : Nat) (d : List Byte) (s : State) : State :=
  sramStore a d (State.setSramGrp (sramGroup a)
    { s.sramGrp (sramGroup a) with merge := (s.sramGrp (sramGroup a)).merge.filter (fun e => e.word != a) }
    { s.freeNext with bus := .done })

theorem onlyIn_setSramGrp {g : Nat} {v : SramGroup} : OnlyIn [.regs, .sram] s (s.setSramGrp g v) := by
  rw [State.setSramGrp, onlyIn_put (by decide)]
  exact .of_frame rfl

theorem regsBut_setSramGrp {g : Nat} {v : SramGroup} : RegsBut [Reg.MEMCTL_GRPSTAT g] s (s.setSramGrp g v) := by
  rw [State.setSramGrp, regsBut_put (by simp [Fld.MEMCTL_GRPSTAT_MBUF])]
  exact .of_regs rfl

/-- The octets of a word are stored, and the word is valid. -/
def State.wordStored (w : Nat) (octets : List Byte) (s : State) : State :=
  { (s.setBytes w octets).setSramFault w 0 with sram := { (s.setSramFault w 0).sram with valid := sparseSet (fun _ => false) w true s.sram.valid } }

theorem onlyIn_wordStored : OnlyIn [.mem, .sram] s (s.wordStored a d) := by
  rw [State.wordStored, State.setBytes_frame]
  exact .of_frame rfl

theorem mem_wordStored : (s.wordStored a d).mem = (s.setBytes a d).mem := rfl

theorem sramStore_eq : sramStore a d s =
    if ((s.wordStored a d).sramGrp (sramGroup a)).writeback = some a then
      (s.wordStored a d).setSramGrp (sramGroup a) { (s.wordStored a d).sramGrp (sramGroup a) with writeback := none }
    else s.wordStored a d := by
  have hsram : (s.setBytes a d).sram = s.sram := by rw [State.setBytes_frame]
  have hstored : s.wordStored a d = { (s.setBytes a d).setSramFault a 0 with
      sram := { ((s.setBytes a d).setSramFault a 0).sram with
        valid := sparseSet (fun _ => false) a true ((s.setBytes a d).setSramFault a 0).sram.valid } } := by
    simp only [State.wordStored, State.setSramFault, hsram]
  rw [sramStore, hstored]

theorem onlyIn_sramStore : OnlyIn [.regs, .mem, .sram] s (sramStore a d s) := by
  have h : OnlyIn [.regs, .mem, .sram] s (s.wordStored a d) := onlyIn_wordStored.mono (by decide)
  rw [sramStore_eq]
  exact OnlyIn.ite (h.trans (onlyIn_setSramGrp.mono (by decide))) h

theorem regsBut_sramStore : RegsBut [Reg.MEMCTL_GRPSTAT (sramGroup a)] s (sramStore a d s) := by
  have h : RegsBut [Reg.MEMCTL_GRPSTAT (sramGroup a)] s (s.wordStored a d) := .of_regs (onlyIn_wordStored.regs (by decide))
  rw [sramStore_eq]
  split
  · exact h.trans regsBut_setSramGrp
  · exact h

theorem mem_sramStore : (sramStore a d s).mem = (s.setBytes a d).mem := by
  rw [sramStore_eq]
  split
  · exact (onlyIn_setSramGrp.mem (by decide)).trans mem_wordStored
  · exact mem_wordStored

theorem onlyIn_freeNext_bus {x : BusAnswer} : OnlyIn [.freeCounter, .bus] s { s.freeNext with bus := x } := .of_frame rfl

theorem onlyIn_sramWritten : OnlyIn [.regs, .mem, .sram, .freeCounter, .bus] s (s.sramWritten a d) :=
  (onlyIn_freeNext_bus.mono (by decide)).trans
    ((onlyIn_setSramGrp.mono (by decide)).trans (onlyIn_sramStore.mono (by decide)))

theorem regsBut_sramWritten : RegsBut [Reg.MEMCTL_GRPSTAT (sramGroup a)] s (s.sramWritten a d) :=
  (show RegsBut _ s { s.freeNext with bus := .done } from .of_regs rfl).trans
    (regsBut_setSramGrp.trans regsBut_sramStore)

theorem bytes_sramWritten (hd : d.length = n) : (s.sramWritten a d).bytes a n = d := by
  subst hd
  rw [State.sramWritten, State.bytes_eq_of_mem mem_sramStore, State.bytes_setBytes]

theorem bytesOutside_sramWritten (hd : d.length = n) : BytesOutside a n s (s.sramWritten a d) := fun b hb => by
  subst hd
  rw [State.sramWritten, State.byte_congr mem_sramStore, State.byte_setBytes_out hb,
    State.byte_congr (onlyIn_setSramGrp.mem (by decide))]
  rfl

theorem wordAddr_of_sramBars (h : sramBars s .host a .word = false) :
    0x20000000 ≤ a ∧ a < 0x20180000 ∧ a % 4 = 0 ∧ s.domOn (4 + sramGroup a) = true := by
  simp only [sramBars, sizeOctets, Bool.or_eq_false_iff, decide_eq_false_iff_not, Bool.not_eq_false', bne_eq_false_iff_eq] at h
  obtain ⟨⟨⟨⟨hlo, hhi⟩, -⟩, hword⟩, hon⟩ := h
  exact ⟨by omega, by omega, hword, hon⟩

theorem busWrite_sram (hbars : sramBars s .host a .word = false) (hd : d.length = 4)
    (hclear : s.has (Fld.MEMCTL_GRPSTAT_CLEARING (sramGroup a)) = false) :
    busWrite .host (BitVec.ofNat 32 a) .word (BitVec.ofNat 32 (natOfLE d)) s = s.sramWritten a d := by
  obtain ⟨hlo, hhi, -⟩ := wordAddr_of_sramBars hbars
  have haddr : (BitVec.ofNat 32 a).toNat = a := by
    rw [BitVec.toNat_ofNat]
    omega
  have hlt : natOfLE d < 2 ^ 32 := by
    have := natOfLE_lt d
    rwa [hd] at this
  have hoctets : bytesLE (sizeOctets .word) (BitVec.ofNat 32 (natOfLE d)).toNat = d := by
    have := bytesLE_natOfLE d
    rwa [hd, ← Nat.mod_eq_of_lt hlt, ← BitVec.toNat_ofNat] at this
  have hin : inSram a = true := by simp [inSram, hlo, hhi]
  rw [busWrite, haddr, if_pos hin, execSramWrite, haddr, if_neg (by simp [State.issues]), if_neg (by rw [show sramBars s.freeNext .host a .word = false from hbars]; decide),
    if_neg (by rw [show s.freeNext.has _ = false from hclear]; decide), if_pos rfl, hoctets]
  rfl

theorem hostBars_of_word (hlo : 0x20000000 ≤ a) (hhi : a < 0x20180000) (hword : a % 4 = 0) : hostBars s a = none := by
  rw [hostBars, if_neg (by simp [State.reaches, hlo, hhi]), if_neg (by omega)]

theorem hostWrite_sram (hbars : sramBars s .host a .word = false) (hd : d.length = 4)
    (hclear : s.has (Fld.MEMCTL_GRPSTAT_CLEARING (sramGroup a)) = false) : hostWrite a d s = s.sramWritten a d := by
  obtain ⟨hlo, hhi, hword, -⟩ := wordAddr_of_sramBars hbars
  have hbus : (s.sramWritten a d).bus = .done := by
    rw [State.sramWritten, onlyIn_sramStore.bus (by decide), onlyIn_setSramGrp.bus (by decide)]
  rw [hostWrite, hostBars_of_word hlo hhi hword, busWrite_sram hbars hd hclear, if_neg (by rw [hbus]; decide)]

/-- A served transaction is counted. -/
def State.hostCounted (s : State) : State := (s.fire EV.HOSTP_CSFALL).inc Fld.HOSTP_CNT_TRANS

theorem onlyIn_hostCounted : OnlyIn [.regs, .edges] s s.hostCounted := by
  rw [State.hostCounted, onlyIn_inc (by decide), onlyIn_fire (by decide)]
  exact .refl

theorem regsBut_hostCounted : RegsBut [Reg.HOSTP_CNT] s s.hostCounted := by
  rw [State.hostCounted, regsBut_inc (by decide), regsBut_fire]
  exact RegsBut.refl

theorem get_TRANS_hostCounted : s.hostCounted.get Fld.HOSTP_CNT_TRANS = s.counted Fld.HOSTP_CNT_TRANS := by
  have hfire : (s.fire EV.HOSTP_CSFALL).counted Fld.HOSTP_CNT_TRANS = s.counted Fld.HOSTP_CNT_TRANS := rfl
  rw [State.hostCounted, State.get_inc_fits rfl, hfire]

theorem domOn_hostCounted {k : Nat} : s.hostCounted.domOn k = s.domOn k :=
  State.domOn_congr (regsBut_hostCounted _ (by decide)) (regsBut_hostCounted _ (by decide)) (onlyIn_hostCounted.salt (by decide))
    (onlyIn_hostCounted.power (by decide)) (onlyIn_hostCounted.link (by decide))

theorem fires_hostCounted : Fires [EV.HOSTP_CSFALL] s s.hostCounted := by
  rw [Fires, State.hostCounted, State.inc_edges]
  rfl

theorem sramBars_hostCounted {m : Master} (hm : m = .host) : sramBars s.hostCounted m a .word = sramBars s m a .word := by
  subst hm
  simp only [sramBars, State.reaches, domOn_hostCounted]

theorem Fires.of_edges {l : List Nat} (h : Fires l s t) (he : u.edges = t.edges) : Fires l s u := by
  rwa [Fires, he]

theorem exec_hostWrite (hon : s.domOn 12 = true) (hen : s.has Fld.HOSTP_CFG_EN = true) (ha : a < 2 ^ 32) (hd : d.length = 4)
    (hbars : sramBars s.hostCounted .host a .word = false)
    (hclear : s.hostCounted.has (Fld.MEMCTL_GRPSTAT_CLEARING (sramGroup a)) = false) :
    exec (.hostTransaction (0x02#8 :: bytesBE 4 a ++ d) n) s = .next
      (hostEnd false (BitVec.ofNat 8 (hostStatus (s.fire EV.HOSTP_CSFALL)) :: List.replicate 8 0#8) (s.hostCounted.sramWritten a d)) := by
  rw [List.cons_append, exec_hostTransaction_of_served hon hen (.inl rfl), ← List.cons_append, hostServe_write ha hd, ← State.hostCounted,
    hostWrite_sram hbars hd hclear]

theorem grpstat_ne_hostpCnt (hbars : sramBars s .host a .word = false) : Reg.MEMCTL_GRPSTAT (sramGroup a) ≠ Reg.HOSTP_CNT := by
  obtain ⟨hlo, hhi, -⟩ := wordAddr_of_sramBars hbars
  simp only [Reg.MEMCTL_GRPSTAT, Reg.HOSTP_CNT, sramGroup]
  omega

theorem has_CLEARING_hostCounted {g : Nat} (hgrp : Reg.MEMCTL_GRPSTAT g ≠ Reg.HOSTP_CNT) :
    s.hostCounted.has (Fld.MEMCTL_GRPSTAT_CLEARING g) = s.has (Fld.MEMCTL_GRPSTAT_CLEARING g) :=
  regsBut_hostCounted.has (f := Fld.MEMCTL_GRPSTAT_CLEARING g) (List.not_mem_cons_of_ne_of_not_mem hgrp List.not_mem_nil)

theorem get_TRANS_sramWritten (hgrp : Reg.MEMCTL_GRPSTAT (sramGroup a) ≠ Reg.HOSTP_CNT) :
    (s.sramWritten a d).get Fld.HOSTP_CNT_TRANS = s.get Fld.HOSTP_CNT_TRANS :=
  regsBut_sramWritten.get (f := Fld.HOSTP_CNT_TRANS) (List.not_mem_cons_of_ne_of_not_mem hgrp.symm List.not_mem_nil)

theorem answers_hostWrite (hon : s.domOn 12 = true) (hen : s.has Fld.HOSTP_CFG_EN = true) (ha : a < 2 ^ 32) (hd : d.length = 4)
    (hbars : sramBars s .host a .word = false) (hclear : s.has (Fld.MEMCTL_GRPSTAT_CLEARING (sramGroup a)) = false) :
    Answers (exec (.hostTransaction (0x02#8 :: bytesBE 4 a ++ d) n) s) fun t =>
      t.bytes a 4 = d ∧ BytesOutside a 4 s t ∧ t.get Fld.HOSTP_CNT_TRANS = s.counted Fld.HOSTP_CNT_TRANS
      ∧ t.per.miso = BitVec.ofNat 8 (hostStatus (s.fire EV.HOSTP_CSFALL)) :: List.replicate 8 0#8 ∧ Fires [EV.HOSTP_CSFALL] s t := by
  have hbars' : sramBars s.hostCounted .host a .word = false := (sramBars_hostCounted rfl).trans hbars
  have hgrp : Reg.MEMCTL_GRPSTAT (sramGroup a) ≠ Reg.HOSTP_CNT := grpstat_ne_hostpCnt hbars
  have hclear' : s.hostCounted.has (Fld.MEMCTL_GRPSTAT_CLEARING (sramGroup a)) = false :=
    (has_CLEARING_hostCounted hgrp).trans hclear
  refine .of_eq (exec_hostWrite hon hen ha hd hbars' hclear') ⟨?_, ?_, ?_, miso_hostEnd, ?_⟩
  · rw [State.bytes_eq_of_mem (onlyIn_hostEnd.mem (by decide)), bytes_sramWritten hd]
  · exact fun b hb => ((State.byte_congr (onlyIn_hostEnd.mem (by decide))).trans (bytesOutside_sramWritten hd b hb)).trans
      (onlyIn_hostCounted.sameBytes (by decide) b)
  · rw [regsBut_hostEnd.get (by decide), get_TRANS_sramWritten hgrp, get_TRANS_hostCounted]
  · exact (fires_hostCounted.of_edges (onlyIn_sramWritten.edges (by decide))).of_edges (onlyIn_hostEnd.edges (by decide))

/-! ### A word read from LINK RAM -/

theorem onlyIn_busAnswer {v : Nat} : OnlyIn [.bus] s (busAnswer v s) := .of_frame rfl

theorem hostReads_linkRam (hlo : 0x28000000 ≤ a) (hhi : a < 0x28020000) (hword : a % 4 = 0) (hon : s.domOn 11 = true) :
    hostReads a 1 (n + 1) s = (s.bytes a 4, busAnswer (s.num a 4) s) := by
  have haddr : (BitVec.ofNat 32 a).toNat = a := by
    rw [BitVec.toNat_ofNat]
    omega
  have hflash : isFlash a = false := by simp only [isFlash, Bool.or_eq_false_iff, Bool.and_eq_false_iff, decide_eq_false_iff_not]; omega
  have hsram : inSram a = false := by simp only [inSram, Bool.and_eq_false_iff, decide_eq_false_iff_not]; omega
  have hrom : inRom a = false := by simp only [inRom, Bool.and_eq_false_iff, decide_eq_false_iff_not]; omega
  have hlink : inLinkRam a = true := by simp [inLinkRam, hlo, hhi]
  have hreach : s.reaches .host a = true := by simp [State.reaches, hlo, hhi]
  have hbus : busRead .host (BitVec.ofNat 32 a) .word none s = busAnswer (s.num a 4) s := by
    rw [busRead, haddr, if_neg (by simp [hflash]), if_neg (by simp [hsram]), if_neg (by simp [hrom]), if_pos hlink,
      if_neg (by simp [hreach, hon, hword, sizeOctets])]
    rfl
  have hnum : s.num a 4 < 2 ^ 32 := by
    have := natOfLE_lt (s.bytes a 4)
    rwa [State.length_bytes] at this
  have hbytes : bytesLE 4 (BitVec.ofNat 32 (s.num a 4)).toNat = s.bytes a 4 := by
    rw [BitVec.toNat_ofNat, Nat.mod_eq_of_lt hnum, bytesLE_bytes]
  have hread : hostRead a s = (some (BitVec.ofNat 32 (s.num a 4)).toNat, busAnswer (s.num a 4) s) := by
    rw [hostRead, hostBars, if_neg (by simp [hreach]), if_neg (by omega), hbus]
    rfl
  rw [hostReads, hread]
  dsimp only
  rw [hostReads, hbytes, List.append_nil]

theorem hostServe_read (ha : a < 2 ^ 32) : hostServe (0x0B#8 :: bytesBE 4 a ++ List.replicate 6 0#8) n s
    = hostEnd false ((BitVec.ofNat 8 (hostStatus s) :: (List.replicate 6 0#8 ++ (hostReads a 1 n (s.inc Fld.HOSTP_CNT_TRANS)).1)).take 11)
        (hostReads a 1 n (s.inc Fld.HOSTP_CNT_TRANS)).2 := by
  have haddr : natOfBE (((0x0B#8 :: bytesBE 4 a ++ List.replicate 6 0#8).drop 1).take 4) = a := by
    rw [List.cons_append, List.drop_succ_cons, List.drop_zero, List.take_left' length_bytesBE, natOfBE_bytesBE ha]
  have hlength : (0x0B#8 :: bytesBE 4 a ++ List.replicate 6 0#8).length = 11 := by simp
  rw [hostServe]
  dsimp only
  rw [if_neg (by simp [eb]), haddr, hlength]
  simp [bytesLE]

theorem answers_hostRead (hon : s.domOn 12 = true) (hlink : s.domOn 11 = true) (hen : s.has Fld.HOSTP_CFG_EN = true)
    (hlo : 0x28000000 ≤ a) (hhi : a < 0x28020000) (hword : a % 4 = 0) :
    Answers (exec (.hostTransaction (0x0B#8 :: bytesBE 4 a ++ List.replicate 6 0#8) (n + 1)) s) fun t =>
      t.per.miso = BitVec.ofNat 8 (hostStatus (s.fire EV.HOSTP_CSFALL)) :: (List.replicate 6 0#8 ++ s.bytes a 4) ∧ SameBytes s t
      ∧ t.get Fld.HOSTP_CNT_TRANS = s.counted Fld.HOSTP_CNT_TRANS ∧ Fires [EV.HOSTP_CSFALL] s t
      ∧ RegsBut [Reg.HOSTP_CNT, Reg.HOSTP_IRQSTAT] s t := by
  have hlink' : s.hostCounted.domOn 11 = true := domOn_hostCounted.trans hlink
  have hreads := hostReads_linkRam (n := n) hlo hhi hword hlink'
  have hbytes : s.hostCounted.bytes a 4 = s.bytes a 4 := State.bytes_eq_of_mem (onlyIn_hostCounted.mem (by decide))
  have hbus : OnlyIn [.bus] s.hostCounted (busAnswer (s.hostCounted.num a 4) s.hostCounted) := onlyIn_busAnswer
  refine .of_eq ((exec_hostTransaction_of_served hon hen (.inr rfl)).trans
    (congrArg Host.Outcome.next (hostServe_read (by omega)))) ⟨?_, ?_, ?_, ?_, ?_⟩
  all_goals rw [show (s.fire EV.HOSTP_CSFALL).inc Fld.HOSTP_CNT_TRANS = s.hostCounted from rfl, hreads, hbytes]
  · rw [miso_hostEnd, List.take_of_length_le (by simp)]
  · exact ((onlyIn_hostCounted.sameBytes (by decide)).trans (hbus.sameBytes (by decide))).trans (onlyIn_hostEnd.sameBytes (by decide))
  · rw [regsBut_hostEnd.get (by decide), State.get_congr (hbus.regs (by decide)), get_TRANS_hostCounted]
  · exact (fires_hostCounted.of_edges (hbus.edges (by decide))).of_edges (onlyIn_hostEnd.edges (by decide))
  · exact ((regsBut_hostCounted.mono (by decide)).trans (.of_regs (hbus.regs (by decide)))).trans (regsBut_hostEnd.mono (by decide))

end Sys2Proof.Machine
end

section
/-!
SUPPORT. Mailbox bits (R587) and the lifetime block (R595 to R599): a harvest, its units, the counters of time and temperature, and
the load at power-up.
-/

namespace Sys2Proof.Machine

variable {s t : State} {a n : Nat} {l : List Byte}

/-! ### Mailbox bits -/

theorem and_lt_two_pow_16 {x y : Nat} (hy : y < 2 ^ 16) : x &&& y < 2 ^ 16 := lt_of_le_of_lt Nat.and_le_right hy

/-- Bits of a mailbox field set, with the event where there are any. -/
def mailboxFill (f : Field) (bits p : Nat) (s : State) : State :=
  if bits = 0 then s else (s.put f (s.get f ||| bits)).fire p

theorem onlyIn_mailboxFill {f : Field} {bits p : Nat} : OnlyIn [.regs, .edges] s (mailboxFill f bits p s) :=
  OnlyIn.ite .refl ((onlyIn_fire (by decide)).mpr ((onlyIn_put (by decide)).mpr .refl))

theorem regsBut_mailboxFill {f : Field} {bits p : Nat} : RegsBut [f.addr] s (mailboxFill f bits p s) := by
  rw [mailboxFill]
  split
  · exact RegsBut.refl
  · rw [regsBut_fire, regsBut_put (List.mem_singleton_self _)]
    exact RegsBut.refl

theorem get_mailboxFill {f : Field} {bits p : Nat} (hlo : f.lo = 0) (hwidth : f.width = 16) (hbits : bits < 2 ^ 16) :
    (mailboxFill f bits p s).get f = s.get f ||| bits := by
  rw [mailboxFill]
  split
  case isTrue h => rw [h, Nat.or_zero]
  case isFalse =>
    have hold : s.get f < 2 ^ 16 := hwidth ▸ State.get_lt
    have hfits : f.fits = true := by simp [Field.fits, hlo, hwidth]
    rw [State.get_fire, State.get_put_fits hfits, hwidth, Nat.mod_eq_of_lt (Nat.or_lt_two_pow hold hbits)]

/-- The device's bits of a mailbox write are set after the host's. -/
def State.mailed (up down : Nat) (s : State) : State :=
  mailboxFill Fld.HOSTP_MBTODEV_FULL down EV.HOSTP_DOORBELL (mailboxFill Fld.HOSTP_MBTOHOST_FULL up EV.HOSTP_MBOX s)

theorem onlyIn_mailed {up down : Nat} : OnlyIn [.regs, .edges] s (s.mailed up down) := onlyIn_mailboxFill.trans onlyIn_mailboxFill

theorem get_TOHOST_mailed {up down : Nat} (hup : up < 2 ^ 16) :
    (s.mailed up down).get Fld.HOSTP_MBTOHOST_FULL = s.get Fld.HOSTP_MBTOHOST_FULL ||| up := by
  rw [State.mailed, regsBut_mailboxFill.get (by decide), get_mailboxFill rfl rfl hup]

theorem get_TODEV_mailed {up down : Nat} (hdown : down < 2 ^ 16) :
    (s.mailed up down).get Fld.HOSTP_MBTODEV_FULL = s.get Fld.HOSTP_MBTODEV_FULL ||| down := by
  rw [State.mailed, get_mailboxFill rfl rfl hdown, regsBut_mailboxFill.get (by decide)]

theorem exec_hostMbset {m : Master} {v : Word} (h : s.issues m = true) : exec (.hostMbset m v) s = .next (hostSync (s.mailed
    (hostSlots s (v.toNat % 2 ^ 16) &&& s.get Fld.HOSTP_MBDIR_TOHOST)
    (hostSlots s (v.toNat / 2 ^ 16) &&& (2 ^ 16 - 1 - s.get Fld.HOSTP_MBDIR_TOHOST)))) :=
  congrArg Host.Outcome.next (if_pos h)

theorem answers_hostMbset {m : Master} {v : Word} {up down : Nat} (h : s.issues m = true)
    (hup : up = hostSlots s (v.toNat % 2 ^ 16) &&& s.get Fld.HOSTP_MBDIR_TOHOST)
    (hdown : down = hostSlots s (v.toNat / 2 ^ 16) &&& (2 ^ 16 - 1 - s.get Fld.HOSTP_MBDIR_TOHOST)) :
    Answers (exec (.hostMbset m v) s) fun t =>
      t.get Fld.HOSTP_MBTOHOST_FULL = s.get Fld.HOSTP_MBTOHOST_FULL ||| up ∧ t.get Fld.HOSTP_MBTODEV_FULL = s.get Fld.HOSTP_MBTODEV_FULL ||| down
      ∧ SameBytes s t ∧ t = { s with regs := t.regs, edges := t.edges } := by
  subst hup hdown
  have hframe : ∀ {up down : Nat}, OnlyIn [.regs, .edges] s (hostSync (s.mailed up down)) :=
    onlyIn_mailed.trans (onlyIn_hostSync.mono (by decide))
  refine .of_eq (exec_hostMbset h) ⟨?_, ?_, hframe.sameBytes (by decide), hframe.frame_regs_edges⟩
  · rw [regsBut_hostSync.get (by decide), get_TOHOST_mailed (and_lt_two_pow_16 State.get_lt)]
  · rw [regsBut_hostSync.get (by decide), get_TODEV_mailed (and_lt_two_pow_16 (by omega))]

theorem answers_hostpIrqTask : Answers (exec .hostpIrqTask s) fun t =>
    t.has Fld.HOSTP_IRQSTAT_SW = true ∧ RegsBut [Reg.HOSTP_IRQSTAT] s t ∧ t = { s with regs := t.regs, tasks := t.tasks } := by
  refine .of_eq rfl ⟨?_, ?_, ?_⟩
  · rw [State.flag_eq_put, State.has_put_fits rfl]
    rfl
  · rw [regsBut_flag (by decide), regsBut_takeTask]
    exact RegsBut.refl
  · exact OnlyIn.frame_regs_tasks ((onlyIn_flag (by decide)).mpr ((onlyIn_takeTask (by decide)).mpr .refl))

/-! ### A harvest asked for and started -/

/-- A harvest asked for by software shows in LIFE_CTL. -/
def State.harvestShown (req : Bool) (s : State) : State := if req then s.flag Fld.LIFE_CTL_HARVEST else s

theorem onlyIn_harvestShown {req : Bool} : OnlyIn [.regs] s (s.harvestShown req) :=
  OnlyIn.ite ((onlyIn_flag (by decide)).mpr .refl) .refl

theorem regsBut_harvestShown {req : Bool} : RegsBut [Reg.LIFE_CTL] s (s.harvestShown req) := by
  rw [State.harvestShown]
  split
  · rw [regsBut_flag (by decide)]
    exact RegsBut.refl
  · exact RegsBut.refl

/-- The harvest waits. -/
def State.harvestPending (req : Bool) (s : State) : State :=
  State.flag Fld.LIFE_STAT_PEND { s with life := { s.life with requested := req } }

theorem onlyIn_harvestPending {req : Bool} : OnlyIn [.regs, .life] s (s.harvestPending req) :=
  (onlyIn_flag (by decide)).mpr (.of_frame rfl)

theorem regsBut_harvestPending {req : Bool} : RegsBut [Reg.LIFE_STAT] s (s.harvestPending req) := by
  rw [State.harvestPending, regsBut_flag (by decide)]
  exact .of_regs rfl

theorem has_PEND_harvestPending {req : Bool} : (s.harvestPending req).has Fld.LIFE_STAT_PEND = true := by
  rw [State.harvestPending, State.flag_eq_put, State.has_put_fits rfl]
  rfl

theorem life_harvestPending {req : Bool} : (s.harvestPending req).life = { s.life with requested := req } := rfl

theorem exec_harvestDue {req : Bool} (hdue : req = true ∨ s.has Fld.LIFE_CFG_EN = true) (hpend : s.has Fld.LIFE_STAT_PEND = false) :
    exec (.harvestDue req) s = .next ((s.harvestShown req).harvestPending req) := by
  have hgo : ¬ ((!req) = true ∧ (!s.has Fld.LIFE_CFG_EN) = true) := by
    rcases hdue with h | h <;> simp [h]
  have hnone : ¬ (s.harvestShown req).has Fld.LIFE_STAT_PEND = true := by
    rw [regsBut_harvestShown.has (by decide), hpend]
    decide
  exact (if_neg hgo).trans (congrArg Host.Outcome.next (if_neg hnone))

theorem answers_harvestDue {req : Bool} (hdue : req = true ∨ s.has Fld.LIFE_CFG_EN = true) (hpend : s.has Fld.LIFE_STAT_PEND = false) :
    Answers (exec (.harvestDue req) s) fun t =>
      t.has Fld.LIFE_STAT_PEND = true ∧ t.life = { s.life with requested := req } ∧ RegsBut [Reg.LIFE_STAT, Reg.LIFE_CTL] s t
      ∧ t = { s with regs := t.regs, life := t.life } := by
  refine .of_eq (exec_harvestDue hdue hpend) ⟨has_PEND_harvestPending, ?_, ?_, ?_⟩
  · rw [life_harvestPending, onlyIn_harvestShown.life (by decide)]
  · exact (regsBut_harvestShown.mono (by decide)).trans (regsBut_harvestPending.mono (by decide))
  · exact ((onlyIn_harvestShown.mono (by decide)).trans onlyIn_harvestPending).frame_regs_life

/-- A record is taken for a slot. -/
def State.harvestTaken (slot : Nat) (s : State) : State :=
  { s with life := { s.life with record := lifeRecord s, slot := slot, units := 0 } }

/-- The harvest runs. -/
def State.harvestRunning (s : State) : State :=
  ((s.unflag Fld.LIFE_STAT_PEND).unflag Fld.LIFE_CTL_HARVEST).flag Fld.LIFE_STAT_BUSY

theorem onlyIn_harvestRunning : OnlyIn [.regs] s s.harvestRunning := by simp [State.harvestRunning]

theorem regsBut_harvestRunning : RegsBut [Reg.LIFE_STAT, Reg.LIFE_CTL] s s.harvestRunning := by
  rw [State.harvestRunning, regsBut_flag (by decide), regsBut_unflag (by decide), regsBut_unflag (by decide)]
  exact RegsBut.refl

theorem has_BUSY_harvestRunning : s.harvestRunning.has Fld.LIFE_STAT_BUSY = true := by
  rw [State.harvestRunning, State.flag_eq_put, State.has_put_fits rfl]
  rfl

theorem has_PEND_harvestRunning : s.harvestRunning.has Fld.LIFE_STAT_PEND = false := by
  rw [State.harvestRunning, State.flag_eq_put, State.has_put_bitsApart rfl rfl, State.unflag_eq_put (f := Fld.LIFE_CTL_HARVEST),
    State.has_put_other (by decide), State.has_unflag_fits rfl]

theorem exec_harvestStart {slot : Nat} (hpend : s.has Fld.LIFE_STAT_PEND = true) (hbusy : s.has Fld.LIFE_STAT_BUSY = false)
    (hload : s.has Fld.LIFE_STAT_LOADING = false) (hon : s.domOn 7 = true) (hunit : (s.bank 1).unit = none)
    (herase : (s.bank 1).erase = none) (hheld : s.flashHeld = false) (hslot : lifeBlankSlot s = some slot) :
    exec .harvestStart s = .next (s.harvestTaken slot).harvestRunning := by
  change execHarvestStart s = _
  rw [execHarvestStart, if_neg (by simp [hpend, hbusy, hload, hon, hunit, herase, hheld]), hslot]
  rfl

theorem answers_harvestStart {slot : Nat} (hpend : s.has Fld.LIFE_STAT_PEND = true) (hbusy : s.has Fld.LIFE_STAT_BUSY = false)
    (hload : s.has Fld.LIFE_STAT_LOADING = false) (hon : s.domOn 7 = true) (hunit : (s.bank 1).unit = none)
    (herase : (s.bank 1).erase = none) (hheld : s.flashHeld = false) (hslot : lifeBlankSlot s = some slot) :
    Answers (exec .harvestStart s) fun t =>
      t.life = { s.life with record := lifeRecord s, slot := slot, units := 0 } ∧ t.has Fld.LIFE_STAT_BUSY = true ∧ t.has Fld.LIFE_STAT_PEND = false
      ∧ RegsBut [Reg.LIFE_STAT, Reg.LIFE_CTL] s t ∧ t = { s with regs := t.regs, life := t.life } := by
  have htaken : OnlyIn [.life] s (s.harvestTaken slot) := .of_frame rfl
  refine .of_eq (exec_harvestStart hpend hbusy hload hon hunit herase hheld hslot)
    ⟨?_, has_BUSY_harvestRunning, has_PEND_harvestRunning, ?_, ?_⟩
  · rw [onlyIn_harvestRunning.life (by decide)]
    rfl
  · exact (RegsBut.of_regs (htaken.regs (by decide))).trans regsBut_harvestRunning
  · exact ((htaken.mono (by decide)).trans (onlyIn_harvestRunning.mono (by decide))).frame_regs_life

/-! ### A unit of the harvest -/

theorem onlyIn_setBank {b : Nat} {v : FlashBank} : OnlyIn [.regs, .flash] s (s.setBank b v) :=
  (onlyIn_put (by decide)).mpr (.of_frame rfl)

theorem regsBut_setBank {b : Nat} {v : FlashBank} : RegsBut [Reg.FLASHC_STAT b] s (s.setBank b v) := by
  rw [State.setBank, regsBut_put (by simp [Fld.FLASHC_STAT_QUEUE])]
  exact .of_regs rfl

theorem onlyIn_unitStore {octets : List Byte} : OnlyIn [.regs, .mem, .flash] s (unitStore a octets s) :=
  ((onlyIn_setBytes (by decide)).mpr .refl).trans (onlyIn_setBank.mono (by decide))

theorem regsBut_unitStore {octets : List Byte} : RegsBut [Reg.FLASHC_STAT (bankOf a)] s (unitStore a octets s) :=
  (RegsBut.of_regs State.setBytes_regs).trans regsBut_setBank

theorem bytes_unitStore {octets : List Byte} (h : octets.length = n) : (unitStore a octets s).bytes a n = octets := by
  subst h
  exact (State.bytes_eq_of_mem (onlyIn_setBank.mem (by decide))).trans State.bytes_setBytes

theorem bytesOutside_unitStore {octets : List Byte} (h : octets.length = n) : BytesOutside a n s (unitStore a octets s) := fun b hb => by
  subst h
  exact (State.byte_congr (onlyIn_setBank.mem (by decide))).trans (State.byte_setBytes_out hb)

theorem bankOf_lifeRec {i k : Nat} : bankOf (lifeRec i + 16 * k) = 1 := by
  rw [bankOf, lifeRec, if_neg (by omega)]

/-- Another unit of the record is programmed. -/
def State.harvestProgrammed (s : State) : State := { s with life := { s.life with units := s.life.units + 1 } }

/-- Where the next unit of the record goes, and its octets. -/
def State.harvestAddr (s : State) : Nat := lifeRec s.life.slot + 16 * s.life.units
def State.harvestOctets (s : State) : List Byte := (s.life.record.drop (16 * s.life.units)).take 16

theorem exec_harvestUnitDone (hbusy : s.has Fld.LIFE_STAT_BUSY = true) (herase : (s.bank 1).erase = none)
    (hunit : (s.bank 1).unit = none) (hheld : s.flashHeld = false)
    (hblank : unitBlank (s.bytes s.harvestAddr 16) = true) (hunits : s.life.units < 7) :
    exec (.harvestUnitDone false false false) s = .next (unitStore s.harvestAddr s.harvestOctets (stepResumed 7 s)).harvestProgrammed := by
  have hblank' : unitBlank ((stepResumed 7 s).bytes (lifeRec (stepResumed 7 s).life.slot + 16 * (stepResumed 7 s).life.units) 16) = true := by
    rw [State.bytes_eq_of_mem (show (stepResumed 7 s).mem = s.mem from rfl)]
    exact hblank
  have hlife : (unitStore s.harvestAddr s.harvestOctets (stepResumed 7 s)).life = s.life := onlyIn_unitStore.life (by decide)
  have hn : (unitStore s.harvestAddr s.harvestOctets (stepResumed 7 s)).life.units + 1 < 8 := by
    rw [hlife]
    omega
  change execHarvestUnitDone _ _ _ _ = _
  rw [execHarvestUnitDone, if_neg (by simp [hbusy, herase, hunit, hheld]), if_neg (by decide)]
  dsimp only
  rw [if_neg (by simp [hblank'])]
  exact if_pos hn

theorem answers_harvestUnitDone (ha : a = lifeRec s.life.slot + 16 * s.life.units) (hbusy : s.has Fld.LIFE_STAT_BUSY = true)
    (herase : (s.bank 1).erase = none) (hunit : (s.bank 1).unit = none) (hheld : s.flashHeld = false)
    (hblank : unitBlank (s.bytes a 16) = true) (hunits : s.life.units < 7) (hrecord : s.life.record.length = 128) :
    Answers (exec (.harvestUnitDone false false false) s) fun t =>
      t.bytes a 16 = (s.life.record.drop (16 * s.life.units)).take 16 ∧ BytesOutside a 16 s t ∧ t.life = { s.life with units := s.life.units + 1 }
      ∧ RegsBut [Reg.FLASHC_STAT 1] s t
      ∧ t = { s with regs := t.regs, mem := t.mem, flash := t.flash, life := t.life, yielded := t.yielded } := by
  subst ha
  have hlength : s.harvestOctets.length = 16 := by
    rw [State.harvestOctets, List.length_take, List.length_drop, hrecord]
    omega
  have hresumed : OnlyIn [.yielded] s (stepResumed 7 s) := .of_frame rfl
  have hprogrammed : ∀ {u : State}, OnlyIn [.life] u u.harvestProgrammed := .of_frame rfl
  have hregs := regsBut_unitStore (s := stepResumed 7 s) (a := s.harvestAddr) (octets := s.harvestOctets)
  rw [State.harvestAddr, bankOf_lifeRec, ← State.harvestAddr] at hregs
  have hframe := ((hresumed.mono (l' := [.regs, .mem, .flash, .life, .yielded]) (by decide)).trans
    ((onlyIn_unitStore (a := s.harvestAddr) (octets := s.harvestOctets)).mono (by decide))).trans (hprogrammed.mono (by decide))
  refine .of_eq (exec_harvestUnitDone hbusy herase hunit hheld hblank hunits) ⟨?_, ?_, ?_, ?_, hframe.frame⟩
  · exact (State.bytes_eq_of_mem (hprogrammed.mem (by decide))).trans (bytes_unitStore hlength)
  · exact fun b hb => ((State.byte_congr (hprogrammed.mem (by decide))).trans (bytesOutside_unitStore hlength b hb)).trans
      (hresumed.sameBytes (by decide) b)
  · rw [State.harvestProgrammed, onlyIn_unitStore.life (by decide), hresumed.life (by decide)]
  · exact ((RegsBut.of_regs (hresumed.regs (by decide))).trans hregs).trans (.of_regs (hprogrammed.regs (by decide)))

end Sys2Proof.Machine
end

section
/-!
SUPPORT. The lifetime counters (R599, Table LIFE-1): seconds, temperatures, their load at power-up, and their snapshot reads.
-/

namespace Sys2Proof.Machine

variable {s t : State} {a n : Nat} {i : Int}

/-! ### Numbers with a sign -/

theorem toS_ofS_octet (hlo : -128 ≤ i) (hhi : i < 128) : toS 8 (ofS 8 i) = i := by
  have hmod : ofS 8 i = (i % 256).toNat := rfl
  rw [toS, hmod]
  split <;> omega

theorem toS_toNat (x : BitVec 8) : toS 8 x.toNat = x.toInt := by
  have hx := x.isLt
  rw [toS, BitVec.toInt_eq_toNat_cond]
  split <;> split <;> omega

theorem State.getS_putS_octet {f : Field} (hf : f.fits = true) (hw : f.width = 8) (hlo : -128 ≤ i) (hhi : i < 128) :
    (s.putS f i).getS f = i := by
  have hlt : ofS 8 i < 2 ^ 8 := by
    have hmod : ofS 8 i = (i % 256).toNat := rfl
    omega
  rw [State.putS_eq_put, State.getS, State.get_put_fits hf, hw, Nat.mod_eq_of_lt hlt, toS_ofS_octet hlo hhi]

/-! ### Temperatures -/

/-- The lowest and the highest temperature of the lifetime block. -/
def coldest : Field := ⟨Reg.LIFE_VAL 19, 16, 8⟩
def hottest : Field := ⟨Reg.LIFE_VAL 19, 24, 8⟩

def State.colder (i : Int) (s : State) : State := if i < s.getS coldest then s.putS coldest i else s
def State.hotter (i : Int) (s : State) : State := if s.getS hottest < i then s.putS hottest i else s

theorem onlyIn_colder : OnlyIn [.regs] s (s.colder i) := OnlyIn.ite ((onlyIn_put (by decide)).mpr .refl) .refl
theorem onlyIn_hotter : OnlyIn [.regs] s (s.hotter i) := OnlyIn.ite ((onlyIn_put (by decide)).mpr .refl) .refl

theorem regsBut_colder : RegsBut [Reg.LIFE_VAL 19] s (s.colder i) := by
  rw [State.colder, State.putS_eq_put]
  split
  · exact (regsBut_put (by decide)).mpr RegsBut.refl
  · exact RegsBut.refl

theorem regsBut_hotter : RegsBut [Reg.LIFE_VAL 19] s (s.hotter i) := by
  rw [State.hotter, State.putS_eq_put]
  split
  · exact (regsBut_put (by decide)).mpr RegsBut.refl
  · exact RegsBut.refl

theorem getS_coldest_colder (hlo : -128 ≤ i) (hhi : i < 128) : (s.colder i).getS coldest = min (s.getS coldest) i := by
  rw [State.colder]
  split
  case isTrue h => rw [State.getS_putS_octet rfl rfl hlo hhi, min_eq_right h.le]
  case isFalse h => rw [min_eq_left (not_lt.mp h)]

theorem getS_hottest_hotter (hlo : -128 ≤ i) (hhi : i < 128) : (s.hotter i).getS hottest = max (s.getS hottest) i := by
  rw [State.hotter]
  split
  case isTrue h => rw [State.getS_putS_octet rfl rfl hlo hhi, max_eq_right h.le]
  case isFalse h => rw [max_eq_left (not_lt.mp h)]

theorem getS_hottest_colder : (s.colder i).getS hottest = s.getS hottest := by
  rw [State.colder, State.putS_eq_put]
  split
  · exact State.getS_put_bitsApart rfl rfl
  · rfl

theorem getS_coldest_hotter : (s.hotter i).getS coldest = s.getS coldest := by
  rw [State.hotter, State.putS_eq_put]
  split
  · exact State.getS_put_bitsApart rfl rfl
  · rfl

/-- A temperature from 25 to 49 counts in its bin. -/
def State.warmed (s : State) : State := s.count (Fld.LIFE_VAL_VAL 26) 64

theorem onlyIn_warmed : OnlyIn [.regs] s s.warmed := (onlyIn_count (by decide)).mpr .refl

theorem regsBut_warmed : RegsBut [Reg.LIFE_VAL 26] s s.warmed := (regsBut_count (by decide)).mpr RegsBut.refl

theorem get_warmed : s.warmed.get (Fld.LIFE_VAL_VAL 26) = min (s.get (Fld.LIFE_VAL_VAL 26) + 64) (2 ^ 32 - 1) := by
  have hlt : min (s.get (Fld.LIFE_VAL_VAL 26) + 64) (2 ^ 32 - 1) < 2 ^ 32 := by omega
  rw [State.warmed, State.count_eq_put, State.get_put_fits rfl]
  exact Nat.mod_eq_of_lt hlt

theorem lifeApply_temp (hlo : 25 ≤ i) (hhi : i < 50) : lifeApply (.temp i) s = (s.warmed.colder i).hotter i := by
  have hbin : (([-20, 0, 25, 50, 70, 85, 105] : List Int).filter (fun edge => decide (edge ≤ i))).length = 3 := by
    rw [List.filter_cons_of_pos (by simp only [decide_eq_true_eq]; omega), List.filter_cons_of_pos (by simp only [decide_eq_true_eq]; omega),
      List.filter_cons_of_pos (by simp only [decide_eq_true_eq]; omega), List.filter_eq_nil_iff.mpr]
    · rfl
    · simp only [List.mem_cons, List.not_mem_nil, or_false, decide_eq_true_eq]
      omega
  simp only [lifeApply, hbin]
  rfl

theorem answers_lifeTempSample {t8 : BitVec 8} (hload : s.has Fld.LIFE_STAT_LOADING = false) (hlo : 25 ≤ t8.toInt) (hhi : t8.toInt < 50) :
    Answers (exec (.lifeTempSample t8) s) fun t =>
      t.get (Fld.LIFE_VAL_VAL 26) = min (s.get (Fld.LIFE_VAL_VAL 26) + 64) (2 ^ 32 - 1)
      ∧ t.getS ⟨Reg.LIFE_VAL 19, 16, 8⟩ = min (s.getS ⟨Reg.LIFE_VAL 19, 16, 8⟩) t8.toInt ∧ t.getS ⟨Reg.LIFE_VAL 19, 24, 8⟩ = max (s.getS ⟨Reg.LIFE_VAL 19, 24, 8⟩) t8.toInt
      ∧ RegsBut [Reg.LIFE_VAL 26, Reg.LIFE_VAL 19] s t ∧ t = { s with regs := t.regs } := by
  have hexec : exec (.lifeTempSample t8) s = .next ((s.warmed.colder t8.toInt).hotter t8.toInt) := by
    change execLifeTempSample t8 s = _
    rw [execLifeTempSample, toS_toNat, lifeEvent, if_neg (by simp [hload]), lifeApply_temp hlo hhi]
  have hkept : ∀ {f : Field}, f.addr = Reg.LIFE_VAL 19 → s.warmed.getS f = s.getS f := fun hf =>
    regsBut_warmed.getS (by rw [hf]; decide)
  refine .of_eq hexec ⟨?_, ?_, ?_, ?_, ?_⟩
  · rw [regsBut_hotter.get (by decide), regsBut_colder.get (by decide), get_warmed]
  · exact getS_coldest_hotter.trans ((getS_coldest_colder (by omega) (by omega)).trans (by rw [hkept rfl, coldest]))
  · exact (getS_hottest_hotter (by omega) (by omega)).trans (by rw [getS_hottest_colder, hkept rfl, hottest])
  · exact ((regsBut_warmed.mono (by decide)).trans (regsBut_colder.mono (by decide))).trans (regsBut_hotter.mono (by decide))
  · exact ((onlyIn_warmed.trans onlyIn_colder).trans onlyIn_hotter).frame_regs

/-! ### Seconds -/

theorem lifeCount_of_loaded {w lo width : Nat} (hload : s.has Fld.LIFE_STAT_LOADING = false) :
    lifeCount w lo width n s = s.count ⟨Reg.LIFE_VAL w, lo, width⟩ n := if_neg (by simp [hload])

/-- A second of running time, and one outside LF mode. -/
def State.secondRun (s : State) : State := s.inc (Fld.LIFE_VAL_VAL 4)
def State.secondAwake (s : State) : State := if s.lfMode then s else s.inc (Fld.LIFE_VAL_VAL 5)

/-- The long watchdog's count after a second. -/
def State.secondWatched (s : State) : State :=
  if lwdtCounts s then s.put Fld.LWDT_STAT_REMAIN (s.get Fld.LWDT_STAT_REMAIN - 1) else s

theorem onlyIn_secondRun : OnlyIn [.regs] s s.secondRun := (onlyIn_inc (by decide)).mpr .refl
theorem onlyIn_secondAwake : OnlyIn [.regs] s s.secondAwake := OnlyIn.ite .refl ((onlyIn_inc (by decide)).mpr .refl)
theorem onlyIn_secondWatched : OnlyIn [.regs] s s.secondWatched := OnlyIn.ite ((onlyIn_put (by decide)).mpr .refl) .refl

theorem regsBut_secondRun : RegsBut [Reg.LIFE_VAL 4] s s.secondRun := (regsBut_inc (by decide)).mpr RegsBut.refl

theorem regsBut_secondAwake : RegsBut [Reg.LIFE_VAL 5] s s.secondAwake := by
  rw [State.secondAwake]
  split
  · exact RegsBut.refl
  · exact (regsBut_inc (by decide)).mpr RegsBut.refl

theorem regsBut_secondWatched : RegsBut [Reg.LWDT_STAT] s s.secondWatched := by
  rw [State.secondWatched]
  split
  · exact (regsBut_put (by decide)).mpr RegsBut.refl
  · exact RegsBut.refl

theorem get_secondAwake : s.secondAwake.get (Fld.LIFE_VAL_VAL 5)
    = if s.lfMode then s.get (Fld.LIFE_VAL_VAL 5) else s.counted (Fld.LIFE_VAL_VAL 5) := by
  rw [State.secondAwake]
  split
  · rfl
  · exact State.get_inc_fits rfl

theorem get_REMAIN_secondWatched (h : lwdtCounts s = true) :
    s.secondWatched.get Fld.LWDT_STAT_REMAIN = s.get Fld.LWDT_STAT_REMAIN - 1 := by
  have hlt : s.get Fld.LWDT_STAT_REMAIN - 1 < 2 ^ Fld.LWDT_STAT_REMAIN.width := lt_of_le_of_lt (Nat.sub_le _ _) State.get_lt
  rw [State.secondWatched, if_pos h, State.get_put_fits rfl, Nat.mod_eq_of_lt hlt]

theorem lwdtCounts_congr (hcfg : t.rd Reg.LWDT_CFG = s.rd Reg.LWDT_CFG) (hstat : t.rd Reg.PMU_STAT = s.rd Reg.PMU_STAT)
    (hpower : t.power = s.power) : lwdtCounts t = lwdtCounts s := by
  have hen : t.has Fld.LWDT_CFG_EN = s.has Fld.LWDT_CFG_EN := State.has_eq_of_get (State.get_eq_of_rd hcfg)
  have hsleep : t.has Fld.LWDT_CFG_SLEEPRUN = s.has Fld.LWDT_CFG_SLEEPRUN := State.has_eq_of_get (State.get_eq_of_rd hcfg)
  have hexc : t.has Fld.PMU_STAT_EXC = s.has Fld.PMU_STAT_EXC := State.has_eq_of_get (State.get_eq_of_rd hstat)
  rw [lwdtCounts, lwdtCounts, hen, hsleep, hexc, hpower]

theorem exec_lifeSecondTick (hload : s.has Fld.LIFE_STAT_LOADING = false) :
    exec .lifeSecondTick s = .next s.secondRun.secondAwake.secondWatched := by
  have hload' : s.secondRun.has Fld.LIFE_STAT_LOADING = false := (regsBut_secondRun.has (by decide)).trans hload
  have hfirst : lifeCount 4 0 32 1 s = s.secondRun := lifeCount_of_loaded hload
  have hsecond : lifeCount 5 0 32 1 s.secondRun = s.secondRun.inc (Fld.LIFE_VAL_VAL 5) := lifeCount_of_loaded hload'
  change execLifeSecondTick s = _
  rw [execLifeSecondTick, hfirst, hsecond, ← State.secondAwake, ← State.secondWatched]

theorem answers_lifeSecondTick (hload : s.has Fld.LIFE_STAT_LOADING = false) : Answers (exec .lifeSecondTick s) fun t =>
    t.get (Fld.LIFE_VAL_VAL 4) = s.counted (Fld.LIFE_VAL_VAL 4)
    ∧ t.get (Fld.LIFE_VAL_VAL 5) = (if s.lfMode then s.get (Fld.LIFE_VAL_VAL 5) else s.counted (Fld.LIFE_VAL_VAL 5))
    ∧ (lwdtCounts s = true → t.get Fld.LWDT_STAT_REMAIN = s.get Fld.LWDT_STAT_REMAIN - 1)
    ∧ RegsBut [Reg.LIFE_VAL 4, Reg.LIFE_VAL 5, Reg.LWDT_STAT] s t ∧ t = { s with regs := t.regs } := by
  have hlf : s.secondRun.lfMode = s.lfMode := regsBut_secondRun.has (by decide)
  have hfive : s.secondRun.get (Fld.LIFE_VAL_VAL 5) = s.get (Fld.LIFE_VAL_VAL 5) := regsBut_secondRun.get (by decide)
  have hboth : RegsBut [Reg.LIFE_VAL 4, Reg.LIFE_VAL 5] s s.secondRun.secondAwake :=
    (regsBut_secondRun.mono (by decide)).trans (regsBut_secondAwake.mono (by decide))
  have honly : OnlyIn [.regs] s s.secondRun.secondAwake := onlyIn_secondRun.trans onlyIn_secondAwake
  refine .of_eq (exec_lifeSecondTick hload) ⟨?_, ?_, fun hcounts => ?_, ?_, ?_⟩
  · rw [regsBut_secondWatched.get (by decide), regsBut_secondAwake.get (by decide), State.secondRun, State.get_inc_fits rfl]
  · rw [regsBut_secondWatched.get (by decide), get_secondAwake, hlf, hfive, State.counted, hfive, State.counted]
  · have hcounts' : lwdtCounts s.secondRun.secondAwake = true :=
      (lwdtCounts_congr (hboth _ (by decide)) (hboth _ (by decide)) (honly.power (by decide))).trans hcounts
    rw [get_REMAIN_secondWatched hcounts', hboth.get (by decide)]
  · exact (hboth.mono (by decide)).trans (regsBut_secondWatched.mono (by decide))
  · exact (honly.trans onlyIn_secondWatched).frame_regs

/-! ### The load at power-up -/

/-- The first n counters from a list of words. -/
def lifeStoreFirst (n : Nat) (ws : List Word) (s : State) : State :=
  s.forEach (List.range n) (fun k s => s.wr (Reg.LIFE_VAL (4 + k)) (nth 0#32 ws k))

theorem lifeStoreFirst_succ {ws : List Word} :
    lifeStoreFirst (n + 1) ws s = (lifeStoreFirst n ws s).wr (Reg.LIFE_VAL (4 + n)) (nth 0#32 ws n) := by
  rw [lifeStoreFirst, State.forEach, List.range_succ, List.foldl_append]
  rfl

theorem rd_lifeStoreFirst_of_lt {ws : List Word} {k : Nat} (h : k < n) :
    (lifeStoreFirst n ws s).rd (Reg.LIFE_VAL (4 + k)) = nth 0#32 ws k := by
  induction n with
  | zero => omega
  | succ n ih =>
    rw [lifeStoreFirst_succ, State.rd_wr]
    by_cases hk : k = n
    case pos => rw [hk, if_pos rfl]
    case neg =>
      rw [if_neg (by simp only [Reg.LIFE_VAL]; omega)]
      exact ih (by omega)

theorem rd_lifeStoreFirst_of_ne {ws : List Word} (h : ∀ k < n, a ≠ Reg.LIFE_VAL (4 + k)) : (lifeStoreFirst n ws s).rd a = s.rd a :=
  State.rd_forEach fun k hk _ => State.rd_wr_ne (h k (List.mem_range.mp hk))

theorem onlyIn_lifeStoreFirst {ws : List Word} : OnlyIn [.regs] s (lifeStoreFirst n ws s) :=
  .forEach (fun _ _ => (onlyIn_wr (by decide)).mpr .refl) .refl

/-- The counters are loaded from what was kept. -/
def State.lifeRestored (ws : List Word) (s : State) : State := (lifeStoreFirst 27 ws s).put Fld.LIFE_STAT_SOURCE 2

theorem onlyIn_lifeRestored {ws : List Word} : OnlyIn [.regs] s (s.lifeRestored ws) :=
  (onlyIn_put (by decide)).mpr onlyIn_lifeStoreFirst

/-- The load is over. -/
def State.lifeLoaded (s : State) : State :=
  State.unflag Fld.LIFE_STAT_LOADING { s with life := { s.life with held := [], restore := none } }

theorem onlyIn_lifeLoaded : OnlyIn [.regs, .life] s s.lifeLoaded := (onlyIn_unflag (by decide)).mpr (.of_frame rfl)

theorem regsBut_lifeLoaded : RegsBut [Reg.LIFE_STAT] s s.lifeLoaded := (regsBut_unflag (by decide)).mpr (.of_regs rfl)

theorem get_SOURCE_lifeLoaded : s.lifeLoaded.get Fld.LIFE_STAT_SOURCE = s.get Fld.LIFE_STAT_SOURCE := by
  rw [State.lifeLoaded, State.unflag_eq_put, State.get_put_bitsApart rfl rfl]
  exact State.get_congr rfl

theorem has_LOADING_lifeLoaded : s.lifeLoaded.has Fld.LIFE_STAT_LOADING = false := by
  rw [State.lifeLoaded, State.has_unflag_fits rfl]

theorem onlyIn_lifeSlotSync : OnlyIn [.regs] s (lifeSlotSync s) := (onlyIn_put (by decide)).mpr .refl

theorem regsBut_lifeSlotSync : RegsBut [Reg.LIFE_STAT] s (lifeSlotSync s) := (regsBut_put (by decide)).mpr RegsBut.refl

theorem get_lifeSlotSync {f : Field} (h : Fld.LIFE_STAT_SLOT.bitsApart f = true) : (lifeSlotSync s).get f = s.get f := by
  rw [lifeSlotSync, State.get_put_bitsApart rfl h]

theorem exec_lifeLoadEnd {ws : List Word} (hload : s.has Fld.LIFE_STAT_LOADING = true) (hrestore : s.life.restore = some ws)
    (hheld : s.life.held = []) (hoff : s.domOn 7 = false) :
    exec .lifeLoadEnd s = .next (lifeSlotSync (s.lifeRestored ws).lifeLoaded) := by
  have hlife : (s.lifeRestored ws).life = s.life := onlyIn_lifeRestored.life (by decide)
  change execLifeLoadEnd s = _
  rw [execLifeLoadEnd, if_neg (by simp [hload, hrestore]), if_neg (by simp [hoff])]
  dsimp only
  rw [hrestore]
  change Host.Outcome.next (lifeSlotSync ((s.lifeRestored ws).lifeLoaded.forEach (s.lifeRestored ws).life.held lifeApply)) = _
  rw [hlife, hheld]
  rfl

theorem mem_counterRegs {k : Nat} (hk : k < 27) : Reg.LIFE_VAL (4 + k) ∈ (List.range 27).map (fun k => Reg.LIFE_VAL (4 + k)) :=
  List.mem_map.mpr ⟨k, List.mem_range.mpr hk, rfl⟩

theorem answers_lifeLoadEnd {ws : List Word} (hload : s.has Fld.LIFE_STAT_LOADING = true) (hrestore : s.life.restore = some ws)
    (hheld : s.life.held = []) (hoff : s.domOn 7 = false) : Answers (exec .lifeLoadEnd s) fun t =>
      (∀ k, k < 27 → t.rd (Reg.LIFE_VAL (4 + k)) = nth 0#32 ws k) ∧ t.get Fld.LIFE_STAT_SOURCE = 2 ∧ t.has Fld.LIFE_STAT_LOADING = false
      ∧ t.life = { s.life with restore := none } ∧ RegsBut (Reg.LIFE_STAT :: (List.range 27).map (fun k => Reg.LIFE_VAL (4 + k))) s t
      ∧ t = { s with regs := t.regs, life := t.life } := by
  have hend : ∀ {u : State}, RegsBut [Reg.LIFE_STAT] u (lifeSlotSync u.lifeLoaded) := regsBut_lifeLoaded.trans regsBut_lifeSlotSync
  refine .of_eq (exec_lifeLoadEnd hload hrestore hheld hoff) ⟨fun k hk => ?_, ?_, ?_, ?_, ?_, ?_⟩
  · have hne : Reg.LIFE_VAL (4 + k) ≠ Reg.LIFE_STAT := by
      simp only [Reg.LIFE_VAL, Reg.LIFE_STAT]
      omega
    rw [hend _ (by simpa using hne), State.lifeRestored, State.rd_put_other hne, rd_lifeStoreFirst_of_lt hk]
  · rw [get_lifeSlotSync rfl, get_SOURCE_lifeLoaded, State.lifeRestored, State.get_put_fits rfl]
    rfl
  · exact (State.has_eq_of_get (get_lifeSlotSync rfl)).trans has_LOADING_lifeLoaded
  · have hlife : (s.lifeRestored ws).life = s.life := onlyIn_lifeRestored.life (by decide)
    have hsame : ({ s.life with held := [], restore := none } : Life) = { s.life with restore := none } := by rw [← hheld]
    rw [onlyIn_lifeSlotSync.life (by decide), ← hsame, ← hlife]
    rfl
  · intro b hb
    rw [List.mem_cons, not_or] at hb
    obtain ⟨hstat, hval⟩ := hb
    have hne : ∀ k < 27, b ≠ Reg.LIFE_VAL (4 + k) := by
      rintro k hk rfl
      exact hval (mem_counterRegs hk)
    rw [hend b (by simpa using hstat), State.lifeRestored, State.rd_put_other hstat, rd_lifeStoreFirst_of_ne hne]
  · exact (((onlyIn_lifeRestored.mono (by decide)).trans onlyIn_lifeLoaded).trans (onlyIn_lifeSlotSync.mono (by decide))).frame_regs_life

/-! ### Snapshot reads -/

theorem answers_lifeValRead {f : Lane} : Answers (exec (.lifeValRead f) s) fun t =>
    t.bus = .data (s.rd (Reg.LIFE_VAL (12 + 2 * f.val))) ∧ t.latched (Reg.LIFE_VAL (13 + 2 * f.val)) = s.rd (Reg.LIFE_VAL (13 + 2 * f.val))
    ∧ t = { s with bus := t.bus, latch := t.latch } := by
  have hnext : 13 + 2 * f.val = 12 + 2 * f.val + 1 := by omega
  refine .of_eq rfl ⟨rfl, ?_, rfl⟩
  rw [hnext]
  exact State.latched_setLatch.trans (if_pos rfl)

/-- Settles O59: each host transaction, mailbox write, harvest step and lifetime counter, clause by clause. -/
theorem hostAndLifetime : Obligations.HostAndLifetime := by
  intro s
  refine ⟨?_, ?_, ?_, answers_hostpIrqTask, ?_, ?_, ?_, fun hload => ⟨?_, answers_lifeSecondTick hload⟩, ?_, fun f => answers_lifeValRead⟩
  · intro a d n hon hen ha hd hbars hclear _ _ _
    exact answers_hostWrite hon hen ha hd hbars hclear
  · intro a n hon hlink hen hlo hhi hword
    exact answers_hostRead hon hlink hen hlo hhi hword
  · intro m v up down h hup hdown
    exact answers_hostMbset h hup hdown
  · intro req hdue hpend
    exact answers_harvestDue hdue hpend
  · intro slot hpend hbusy hload hon hunit herase hheld hslot
    exact answers_harvestStart hpend hbusy hload hon hunit herase hheld hslot
  · intro a ha hbusy herase hunit hheld hblank hunits hrecord
    exact answers_harvestUnitDone ha hbusy herase hunit hheld hblank hunits hrecord
  · intro t8 hlo hhi
    exact answers_lifeTempSample hload hlo hhi
  · intro ws hload hrestore hheld hoff
    exact answers_lifeLoadEnd hload hrestore hheld hoff

end Sys2Proof.Machine
end

section
/-!
SUPPORT. The public-key engine (R426 to R429) and the hash unit (R430): the claim, the gate of the operations, what an operation
fixes, and its end.
-/

namespace Sys2Proof.Machine

variable {s t : State} {m : Master} {cmd : Word} {a n : Nat} {f : Bool}

/-! ### Claim and release -/

theorem onlyIn_operandsClear : OnlyIn [.mem] s (operandsClear s) := (onlyIn_setBytes (by decide)).mpr .refl

theorem bytes_operandsClear : (operandsClear s).bytes pkeD 224 = List.replicate 224 0#8 := by
  have h := State.bytes_setBytes (s := s) (a := pkeD) (l := List.replicate 224 0#8)
  rwa [List.length_replicate] at h

theorem bytesOutside_operandsClear : BytesOutside pkeD 224 s (operandsClear s) := fun b hb =>
  State.byte_setBytes_out (by rwa [List.length_replicate])

theorem onlyIn_ephDrop : OnlyIn [.regs, .pke] s (ephDrop s) := (onlyIn_unflag (by decide)).mpr (.of_frame rfl)

theorem regsBut_ephDrop : RegsBut [Reg.PKE_STAT] s (ephDrop s) := (regsBut_unflag (by decide)).mpr (.of_regs rfl)

theorem has_EPHVALID_ephDrop : (ephDrop s).has Fld.PKE_STAT_EPHVALID = false := by rw [ephDrop, State.has_unflag_fits rfl]

theorem pke_ephDrop : (ephDrop s).pke = { s.pke with eph := none } := rfl

/-- The claim is taken, or given up. -/
def State.claimed (m : Master) (s : State) : State := (s.flag Fld.PKE_CLAIM_CLAIM).put Fld.PKE_CLAIM_OWNER (masterBlock m)
def State.unclaimed (s : State) : State := (s.unflag Fld.PKE_CLAIM_CLAIM).put Fld.PKE_CLAIM_OWNER 0

theorem masterBlock_lt : masterBlock m < 32 := by cases m <;> decide

theorem answers_claim (hloader : s.has Fld.PKE_CLAIM_LOADER = false) (hissues : s.issues m = true)
    (hfree : s.has Fld.PKE_CLAIM_CLAIM = false) : Answers (exec (.pkeClaimWrite m true) s) fun t =>
      t.has Fld.PKE_CLAIM_CLAIM = true ∧ t.get Fld.PKE_CLAIM_OWNER = masterBlock m ∧ RegsBut [Reg.PKE_CLAIM] s t
      ∧ t = { s with regs := t.regs } := by
  have hexec : exec (.pkeClaimWrite m true) s = .next (s.claimed m) := by
    change execPkeClaimWrite m true s = _
    rw [execPkeClaimWrite, if_neg (by simp [hloader, hissues]), if_neg (by simp [hfree]), if_pos rfl]
    rfl
  refine .of_eq hexec ⟨?_, ?_, ?_, ?_⟩
  · rw [State.claimed, State.has_put_bitsApart rfl rfl, State.flag_eq_put, State.has_put_fits rfl]
    rfl
  · have hlt : masterBlock m < 2 ^ Fld.PKE_CLAIM_OWNER.width := masterBlock_lt
    rw [State.claimed, State.get_put_fits rfl, Nat.mod_eq_of_lt hlt]
  · exact (regsBut_put (by decide)).mpr ((regsBut_flag (by decide)).mpr RegsBut.refl)
  · exact OnlyIn.frame_regs ((onlyIn_put (by decide)).mpr ((onlyIn_flag (by decide)).mpr .refl))

theorem onlyIn_unclaimed : OnlyIn [.regs] s s.unclaimed := (onlyIn_put (by decide)).mpr ((onlyIn_unflag (by decide)).mpr .refl)

theorem regsBut_unclaimed : RegsBut [Reg.PKE_CLAIM] s s.unclaimed :=
  (regsBut_put (by decide)).mpr ((regsBut_unflag (by decide)).mpr RegsBut.refl)

theorem has_CLAIM_unclaimed : s.unclaimed.has Fld.PKE_CLAIM_CLAIM = false := by
  rw [State.unclaimed, State.has_put_bitsApart rfl rfl, State.has_unflag_fits rfl]

theorem pkeRelease_of_idle (hop : s.pke.op = none) : pkeRelease s = operandsClear (ephDrop s.unclaimed) := by
  have hop' : (operandsClear (ephDrop s.unclaimed)).pke.op = none := by
    rw [onlyIn_operandsClear.pke (by decide), pke_ephDrop, onlyIn_unclaimed.pke (by decide)]
    exact hop
  rw [pkeRelease, ← State.unclaimed, hop']

theorem owned_of_pkeOwns (h : pkeOwns s m = true) :
    s.has Fld.PKE_CLAIM_CLAIM = true ∧ s.has Fld.PKE_CLAIM_LOADER = false ∧ s.get Fld.PKE_CLAIM_OWNER = masterBlock m := by
  simp only [pkeOwns, Bool.and_eq_true, Bool.not_eq_true', beq_iff_eq] at h
  exact ⟨h.1.1, h.1.2, h.2⟩

theorem OnlyIn.frame_regs_mem_pke (h : OnlyIn [.regs, .mem, .pke] s t) :
    t = { s with regs := t.regs, mem := t.mem, pke := t.pke } := h.frame
theorem OnlyIn.frame_regs_pke (h : OnlyIn [.regs, .pke] s t) : t = { s with regs := t.regs, pke := t.pke } := h.frame

theorem answers_release (howns : pkeOwns s m = true) (hissues : s.issues m = true) (hop : s.pke.op = none) :
    Answers (exec (.pkeClaimWrite m false) s) fun t =>
      t.has Fld.PKE_CLAIM_CLAIM = false ∧ t.has Fld.PKE_STAT_EPHVALID = false ∧ t.pke = { s.pke with eph := none }
      ∧ t.bytes pkeD 224 = List.replicate 224 0#8 ∧ BytesOutside pkeD 224 s t ∧ RegsBut [Reg.PKE_CLAIM, Reg.PKE_STAT] s t
      ∧ t = { s with regs := t.regs, mem := t.mem, pke := t.pke } := by
  obtain ⟨hclaim, hloader, -⟩ := owned_of_pkeOwns howns
  have hexec : exec (.pkeClaimWrite m false) s = .next (operandsClear (ephDrop s.unclaimed)) := by
    change execPkeClaimWrite m false s = _
    rw [execPkeClaimWrite, if_neg (by simp [hloader, hissues]), if_pos hclaim, if_pos ⟨howns, rfl⟩, pkeRelease_of_idle hop]
  have hcleared {x : State} : RegsBut [] x (operandsClear x) := .of_regs (onlyIn_operandsClear.regs (by decide))
  refine .of_eq hexec ⟨?_, ?_, ?_, bytes_operandsClear, fun b hb => ?_, ?_, ?_⟩
  · rw [hcleared.has (by decide), regsBut_ephDrop.has (by decide), has_CLAIM_unclaimed]
  · rw [hcleared.has (by decide), has_EPHVALID_ephDrop]
  · rw [onlyIn_operandsClear.pke (by decide), pke_ephDrop, onlyIn_unclaimed.pke (by decide)]
  · exact (bytesOutside_operandsClear b hb).trans
      ((onlyIn_ephDrop.sameBytes (by decide) b).trans (onlyIn_unclaimed.sameBytes (by decide) b))
  · exact ((regsBut_unclaimed.mono (by decide)).trans (regsBut_ephDrop.mono (by decide))).trans (hcleared.mono (by decide))
  · exact (((onlyIn_unclaimed.mono (by decide)).trans (onlyIn_ephDrop.mono (by decide))).trans
      (onlyIn_operandsClear.mono (by decide))).frame_regs_mem_pke

/-! ### The gate of the operations -/

/-- An operation begins with what it is to leave. -/
def State.pkeStarted (o : PkeOp) (s : State) : State := State.flag Fld.PKE_STAT_BUSY { s with pke := { s.pke with op := some o } }

theorem onlyIn_pkeStarted {o : PkeOp} : OnlyIn [.regs, .pke] s (s.pkeStarted o) := (onlyIn_flag (by decide)).mpr (.of_frame rfl)

theorem regsBut_pkeStarted {o : PkeOp} : RegsBut [Reg.PKE_STAT] s (s.pkeStarted o) := (regsBut_flag (by decide)).mpr (.of_regs rfl)

theorem has_BUSY_pkeStarted {o : PkeOp} : (s.pkeStarted o).has Fld.PKE_STAT_BUSY = true := by
  rw [State.pkeStarted, State.flag_eq_put, State.has_put_fits rfl]
  rfl

theorem pke_pkeStarted {o : PkeOp} : (s.pkeStarted o).pke = { s.pke with op := some o } := rfl

theorem pkeCommand_of_silent {g : State → PkeOp × State} (h : s.issues m = false) : pkeCommand m cmd g s = s := by
  rw [pkeCommand, if_pos (by simp [h])]

theorem pkeCommand_of_other {g : State → PkeOp × State} (h : s.issues m = true) (howns : pkeOwns s m = false) :
    pkeCommand m cmd g s = pkeRefuse s := by
  rw [pkeCommand, if_neg (by simp [h]), if_pos (by simp [howns])]

theorem pkeCommand_of_owner {g : State → PkeOp × State} (h : s.issues m = true) (howns : pkeOwns s m = true)
    (hbusy : s.has Fld.PKE_STAT_BUSY = false) (hsrc : cmd.toNat / 16 % 4 ≠ 3) :
    pkeCommand m cmd g s = (g s).2.pkeStarted (g s).1 := by
  rw [pkeCommand, if_neg (by simp [h]), if_neg (by simp [howns]), if_neg (by simp [hbusy]; omega)]
  rfl

theorem exec_pke (c : Instr) (hc : c ∈ [Instr.pkeKeygen m cmd f, .pkeEcdh m cmd f, .pkeSign m cmd f, .pkeVerify m cmd f, .pkeValidate m cmd f]) :
    ∃ g, exec c s = .next (pkeCommand m cmd g s) := by
  simp only [List.mem_cons, List.not_mem_nil, or_false] at hc
  rcases hc with rfl | rfl | rfl | rfl | rfl
  all_goals exact ⟨_, rfl⟩

theorem answers_pkeRefuse {c : Instr} (h : exec c s = .next (pkeRefuse s)) : Answers (exec c s) fun t =>
    t.get Fld.PKE_STAT_CODE = 0x0423 ∧ t.has Fld.PKE_STAT_BUSY = s.has Fld.PKE_STAT_BUSY
    ∧ RegsBut [Reg.PKE_STAT] s t ∧ t = { s with regs := t.regs } := by
  refine .of_eq h ⟨?_, ?_, ?_, ?_⟩
  · rw [pkeRefuse, State.get_put_fits rfl]
    rfl
  · rw [pkeRefuse, State.has_put_bitsApart rfl rfl]
  · exact (regsBut_put (by decide)).mpr RegsBut.refl
  · exact OnlyIn.frame_regs ((onlyIn_put (by decide)).mpr .refl)

/-! ### Operations -/

theorem onlyIn_drbgScalar : OnlyIn [.trng, .freeCounter] s (drbgScalar s).2 := .of_frame rfl

theorem OnlyIn.frame_regs_pke_trng (h : OnlyIn [.regs, .pke, .trng, .freeCounter] s t) :
    t = { s with regs := t.regs, pke := t.pke, trng := t.trng, freeCounter := t.freeCounter } := h.frame

/-- An operation that draws a scalar begins. -/
theorem started_of_drawn {o : PkeOp} : (State.pkeStarted o (drbgScalar s).2).pke = { s.pke with op := some o }
    ∧ (State.pkeStarted o (drbgScalar s).2).has Fld.PKE_STAT_BUSY = true ∧ RegsBut [Reg.PKE_STAT] s (State.pkeStarted o (drbgScalar s).2)
    ∧ OnlyIn [.regs, .pke, .trng, .freeCounter] s (State.pkeStarted o (drbgScalar s).2) := by
  refine ⟨?_, has_BUSY_pkeStarted, ?_, ?_⟩
  · rw [pke_pkeStarted, onlyIn_drbgScalar.pke (by decide)]
  · exact (RegsBut.of_regs (onlyIn_drbgScalar.regs (by decide))).trans regsBut_pkeStarted
  · exact (onlyIn_drbgScalar.mono (by decide)).trans (onlyIn_pkeStarted.mono (by decide))

/-- What a key generation leaves. -/
def keygenOp (s : State) : PkeOp :=
  match ecMul (drbgScalar s).1 ecG with
  | some (x, y) => { code := 0, writes := [(pkeQX, bytesBE 32 x), (pkeQY, bytesBE 32 y)], eph := some (some (drbgScalar s).1) }
  | none => { code := 0x04FF }

theorem answers_pkeKeygen (howns : pkeOwns s m = true) (hissues : s.issues m = true) (hbusy : s.has Fld.PKE_STAT_BUSY = false)
    (hsrc : cmd.toNat / 16 % 4 ≠ 3) (hready : s.drbgReady = true) : Answers (exec (.pkeKeygen m cmd f) s) fun t =>
      ∃ o, t.pke = { s.pke with op := some o }
      ∧ (∀ x y, ecMul (drbgScalar s).1 ecG = some (x, y) →
        o = { code := 0, writes := [(pkeQX, bytesBE 32 x), (pkeQY, bytesBE 32 y)], eph := some (some (drbgScalar s).1) })
      ∧ t.has Fld.PKE_STAT_BUSY = true ∧ RegsBut [Reg.PKE_STAT] s t
      ∧ t = { s with regs := t.regs, pke := t.pke, trng := t.trng, freeCounter := t.freeCounter } := by
  have hexec : exec (.pkeKeygen m cmd f) s = .next ((drbgScalar s).2.pkeStarted (keygenOp s)) := by
    change execPkeKeygen m cmd f s = _
    rw [execPkeKeygen, pkeCommand_of_owner hissues howns hbusy hsrc, if_neg (by simp [hready]), keygenOp]
    dsimp only
    cases ecMul (drbgScalar s).1 ecG <;> rfl
  obtain ⟨hpke, hrun, hregs, hframe⟩ := started_of_drawn (s := s) (o := keygenOp s)
  refine .of_eq hexec ⟨keygenOp s, hpke, fun x y hxy => ?_, hrun, hregs, hframe.frame_regs_pke_trng⟩
  rw [keygenOp, hxy]

/-! ### The private key -/

theorem keyAdmit_code {r : KeyRequest} : (keyAdmit r s).1 = admitCode r s := by
  rw [keyAdmit, keyAdmitted]
  split
  case isTrue h => exact h.symm
  case isFalse => split <;> rfl

/-- A use of a slot. -/
theorem onlyIn_keyUse : OnlyIn [.regs, .edges] s (keyUse n s) := by
  rw [keyUse]
  refine OnlyIn.ite .refl (OnlyIn.ite ?_ ?_)
  · simp
  · simp

theorem keyAdmit_of_granted {r : KeyRequest} (h : admitCode r s = 0) : keyAdmit r s = (0, keyUse r.slot (s.inc Fld.KEYSTORE_CNT_ADMITS)) := by
  rw [keyAdmit, keyAdmitted, if_pos h]

theorem onlyIn_keyAdmit_of_granted {r : KeyRequest} (h : admitCode r s = 0) : OnlyIn [.regs, .edges] s (keyAdmit r s).2 := by
  rw [keyAdmit_of_granted h]
  exact ((onlyIn_inc (by decide)).mpr .refl).trans onlyIn_keyUse

/-- The private key before its range is checked. -/
def pkeSource (m : Master) (cmd : Word) (op : Nat) (fails : Bool) (s : State) : Nat × Nat × State :=
  match cmd.toNat / 2 ^ 4 % 4 with
  | 0 => (0, s.operand pkeD, s)
  | 1 =>
    ((keyAdmit ⟨cmd.toNat / 2 ^ 8 % 256, 8 ||| masterBit (masterBlock m), op, [3], masterBlock m, fails⟩ s).1,
      natOfBE (s.keyBytes (cmd.toNat / 2 ^ 8 % 256)),
      (keyAdmit ⟨cmd.toNat / 2 ^ 8 % 256, 8 ||| masterBit (masterBlock m), op, [3], masterBlock m, fails⟩ s).2)
  | _ => (0, s.pke.eph.getD 0, s)

theorem pkePrivate_eq {op : Nat} : pkePrivate m cmd op f s =
    if (pkeSource m cmd op f s).1 = 0 ∧ ((pkeSource m cmd op f s).2.1 = 0 ∨ p256N ≤ (pkeSource m cmd op f s).2.1) then
      (0x0422, 0, (pkeSource m cmd op f s).2.2) else pkeSource m cmd op f s := rfl

theorem pkePrivate_of_granted {op : Nat} (h : (pkePrivate m cmd op f s).1 = 0) :
    pkePrivate m cmd op f s = pkeSource m cmd op f s ∧ (pkeSource m cmd op f s).1 = 0 := by
  rw [pkePrivate_eq] at h ⊢
  split at h
  case isTrue => cases h
  case isFalse hbad =>
    rw [if_neg hbad]
    exact ⟨rfl, h⟩

theorem onlyIn_pkeSource {op : Nat} (h : (pkeSource m cmd op f s).1 = 0) : OnlyIn [.regs, .edges] s (pkeSource m cmd op f s).2.2 := by
  rw [pkeSource] at h ⊢
  split at h
  · exact .refl
  · rw [keyAdmit_code] at h
    exact onlyIn_keyAdmit_of_granted h
  · exact .refl

theorem pke_pkePrivate {op : Nat} (h : (pkePrivate m cmd op f s).1 = 0) : (pkePrivate m cmd op f s).2.2.pke = s.pke := by
  obtain ⟨heq, hcode⟩ := pkePrivate_of_granted h
  rw [heq, (onlyIn_pkeSource hcode).pke (by decide)]

theorem pkeSource_operand {op : Nat} (h : cmd.toNat / 16 % 4 = 0) : (pkeSource m cmd op f s).2.1 = s.operand pkeD := by
  rw [pkeSource, show cmd.toNat / 2 ^ 4 % 4 = 0 from h]
  rfl

theorem pkeSource_slot {op : Nat} (h : cmd.toNat / 16 % 4 = 1) :
    (pkeSource m cmd op f s).2.1 = natOfBE (s.keyBytes (cmd.toNat / 256 % 256)) := by
  rw [pkeSource, show cmd.toNat / 2 ^ 4 % 4 = 1 from h]
  rfl

theorem pkeSource_eph {op : Nat} (h : cmd.toNat / 16 % 4 = 2) : (pkeSource m cmd op f s).2.1 = s.pke.eph.getD 0 := by
  rw [pkeSource, show cmd.toNat / 2 ^ 4 % 4 = 2 from h]
  rfl

/-! ### Signature and agreement -/

theorem testBit'_eq_testBit {k : Nat} : testBit' n k = n.testBit k := by
  rw [testBit', Nat.testBit_eq_decide_div_mod_eq]
  rfl

/-- What a signature leaves. -/
def signOp (d e k : Nat) : PkeOp :=
  match ecdsaSign d e k with
  | some (x, y) => { code := 0, writes := [(pkeR, bytesBE 32 x), (pkeS, bytesBE 32 y)] }
  | none => { code := 0x04FF }

theorem answers_pkeSign {d : Nat × Nat × State} (howns : pkeOwns s m = true) (hissues : s.issues m = true)
    (hbusy : s.has Fld.PKE_STAT_BUSY = false) (hsrc : cmd.toNat / 16 % 4 ≠ 3) (hd : d = pkePrivate m cmd 6 f s)
    (hready : s.drbgReady = true) (hcode : d.1 = 0) : Answers (exec (.pkeSign m cmd f) s) fun t =>
      ∃ o, t.pke = { s.pke with op := some o }
      ∧ (∀ x y, ecdsaSign d.2.1 (s.operand pkeE) (drbgScalar d.2.2).1 = some (x, y) →
        o = { code := 0, writes := [(pkeR, bytesBE 32 x), (pkeS, bytesBE 32 y)] })
      ∧ (cmd.toNat / 16 % 4 = 0 → d.2.1 = s.operand pkeD) ∧ (cmd.toNat / 16 % 4 = 1 → d.2.1 = natOfBE (s.keyBytes (cmd.toNat / 256 % 256)))
      ∧ (cmd.toNat / 16 % 4 = 2 → d.2.1 = s.pke.eph.getD 0)
      ∧ t.has Fld.PKE_STAT_BUSY = true ∧ RegsBut [Reg.PKE_STAT] d.2.2 t
      ∧ t = { d.2.2 with regs := t.regs, pke := t.pke, trng := t.trng, freeCounter := t.freeCounter } := by
  have hcode' : (pkePrivate m cmd 6 f s).1 = 0 := hd ▸ hcode
  obtain ⟨hsource, -⟩ := pkePrivate_of_granted hcode'
  have hpke0 : d.2.2.pke = s.pke := by rw [hd, pke_pkePrivate hcode']
  have hexec : exec (.pkeSign m cmd f) s
      = .next ((drbgScalar d.2.2).2.pkeStarted (signOp d.2.1 (s.operand pkeE) (drbgScalar d.2.2).1)) := by
    change execPkeSign m cmd f s = _
    rw [execPkeSign, pkeCommand_of_owner hissues howns hbusy hsrc, ← hd, if_neg (by simp [hcode]), if_neg (by simp [hready]), signOp]
    dsimp only
    cases ecdsaSign d.2.1 (s.operand pkeE) (drbgScalar d.2.2).1 <;> rfl
  obtain ⟨hpke, hrun, hregs, hframe⟩ := started_of_drawn (s := d.2.2) (o := signOp d.2.1 (s.operand pkeE) (drbgScalar d.2.2).1)
  refine .of_eq hexec ⟨_, hpke.trans (by rw [hpke0]), fun x y hxy => ?_, fun h => ?_, fun h => ?_, fun h => ?_, hrun, hregs, hframe.frame_regs_pke_trng⟩
  · rw [signOp, hxy]
  · rw [hd, hsource, pkeSource_operand h]
  · rw [hd, hsource, pkeSource_slot h]
  · rw [hd, hsource, pkeSource_eph h]

/-- What an agreement without TOKEY leaves. -/
def ecdhOp (cmd : Word) (d x y : Nat) : PkeOp :=
  match ecMul d (some (x, y)) with
  | some (z, _) => { code := 0, writes := [(pkeRX, bytesBE 32 z)], eph := if cmd.toNat / 2 ^ 4 % 4 = 2 then some none else none }
  | none => { code := 0x04FF, eph := if cmd.toNat / 2 ^ 4 % 4 = 2 then some none else none }

theorem started_of_pke {o : PkeOp} : (s.pkeStarted o).pke = { s.pke with op := some o } ∧ (s.pkeStarted o).has Fld.PKE_STAT_BUSY = true
    ∧ RegsBut [Reg.PKE_STAT] s (s.pkeStarted o)
    ∧ s.pkeStarted o = { s with regs := (s.pkeStarted o).regs, pke := (s.pkeStarted o).pke } :=
  ⟨pke_pkeStarted, has_BUSY_pkeStarted, regsBut_pkeStarted, onlyIn_pkeStarted.frame_regs_pke⟩

theorem answers_pkeEcdh_off (howns : pkeOwns s m = true) (hissues : s.issues m = true)
    (hbusy : s.has Fld.PKE_STAT_BUSY = false) (hsrc : cmd.toNat / 16 % 4 ≠ 3) (htokey : cmd.toNat.testBit 17 = false)
    (hcurve : ecOnCurve (s.operand pkeQX) (s.operand pkeQY) = false) : Answers (exec (.pkeEcdh m cmd f) s) fun t =>
      t.pke = { s.pke with op := some { code := 0x0420 } } ∧ t.has Fld.PKE_STAT_BUSY = true ∧ RegsBut [Reg.PKE_STAT] s t
      ∧ t = { s with regs := t.regs, pke := t.pke } := by
  have hexec : exec (.pkeEcdh m cmd f) s = .next (s.pkeStarted { code := 0x0420 }) := by
    change execPkeEcdh m cmd f s = _
    rw [execPkeEcdh, pkeCommand_of_owner hissues howns hbusy hsrc]
    simp only [testBit'_eq_testBit, htokey, Bool.false_eq_true, if_false, hcurve, ne_eq, not_true_eq_false, Bool.not_false, if_true]
  exact .of_eq hexec started_of_pke

theorem answers_pkeEcdh_on {d : Nat × Nat × State} (howns : pkeOwns s m = true) (hissues : s.issues m = true)
    (hbusy : s.has Fld.PKE_STAT_BUSY = false) (hsrc : cmd.toNat / 16 % 4 ≠ 3) (hd : d = pkePrivate m cmd 7 f s)
    (htokey : cmd.toNat.testBit 17 = false) (hcurve : ecOnCurve (s.operand pkeQX) (s.operand pkeQY) = true) (hcode : d.1 = 0) :
    Answers (exec (.pkeEcdh m cmd f) s) fun t =>
      ∃ o, t.pke = { s.pke with op := some o }
      ∧ (∀ x y, ecMul d.2.1 (some (s.operand pkeQX, s.operand pkeQY)) = some (x, y) →
        o = { code := 0, writes := [(pkeRX, bytesBE 32 x)], eph := if cmd.toNat / 16 % 4 = 2 then some none else none })
      ∧ t.has Fld.PKE_STAT_BUSY = true ∧ RegsBut [Reg.PKE_STAT] d.2.2 t ∧ t = { d.2.2 with regs := t.regs, pke := t.pke } := by
  have hpke0 : d.2.2.pke = s.pke := by rw [hd, pke_pkePrivate (hd ▸ hcode)]
  have hexec : exec (.pkeEcdh m cmd f) s
      = .next (d.2.2.pkeStarted (ecdhOp cmd d.2.1 (s.operand pkeQX) (s.operand pkeQY))) := by
    change execPkeEcdh m cmd f s = _
    rw [execPkeEcdh, pkeCommand_of_owner hissues howns hbusy hsrc]
    simp only [testBit'_eq_testBit, htokey, Bool.false_eq_true, if_false, hcurve, ne_eq, not_true_eq_false, Bool.not_true, ← hd, hcode, ecdhOp]
    cases ecMul d.2.1 (some (s.operand pkeQX, s.operand pkeQY)) <;> rfl
  obtain ⟨hpke, hrun, hregs, hframe⟩ := started_of_pke (s := d.2.2) (o := ecdhOp cmd d.2.1 (s.operand pkeQX) (s.operand pkeQY))
  refine .of_eq hexec ⟨_, hpke.trans (by rw [hpke0]), fun x y hxy => ?_, hrun, hregs, hframe⟩
  rw [ecdhOp, hxy]
  rfl

/-! ### Checks -/

theorem answers_pkeCheck {verify : Bool} (howns : pkeOwns s m = true) (hissues : s.issues m = true)
    (hbusy : s.has Fld.PKE_STAT_BUSY = false) (hsrc : cmd.toNat / 16 % 4 ≠ 3) :
    Answers (exec (if verify then .pkeVerify m cmd f else .pkeValidate m cmd f) s) fun t =>
      t.pke = { s.pke with op := some { code := if ecOnCurve (s.operand pkeQX) (s.operand pkeQY) = false then 0x0420 else if verify && !ecdsaVerify (s.operand pkeQX) (s.operand pkeQY) (s.operand pkeE) (s.operand pkeR) (s.operand pkeS) then 0x0421 else 0 } }
      ∧ t.has Fld.PKE_STAT_BUSY = true ∧ RegsBut [Reg.PKE_STAT] s t ∧ t = { s with regs := t.regs, pke := t.pke } := by
  cases verify
  case false =>
    have hexec : exec (.pkeValidate m cmd f) s
        = .next (s.pkeStarted { code := if ecOnCurve (s.operand pkeQX) (s.operand pkeQY) = false then 0x0420 else 0 }) := by
      change execPkeValidate m cmd f s = _
      rw [execPkeValidate, pkeCommand_of_owner hissues howns hbusy hsrc]
      cases ecOnCurve (s.operand pkeQX) (s.operand pkeQY) <;> rfl
    exact .of_eq hexec started_of_pke
  case true =>
    have hexec : exec (.pkeVerify m cmd f) s = .next (s.pkeStarted { code := if ecOnCurve (s.operand pkeQX) (s.operand pkeQY) = false then 0x0420 else if !ecdsaVerify (s.operand pkeQX) (s.operand pkeQY) (s.operand pkeE) (s.operand pkeR) (s.operand pkeS) then 0x0421 else 0 }) := by
      change execPkeVerify m cmd f s = _
      rw [execPkeVerify, pkeCommand_of_owner hissues howns hbusy hsrc]
      dsimp only
      cases ecOnCurve (s.operand pkeQX) (s.operand pkeQY)
      case false => rfl
      case true => cases ecdsaVerify (s.operand pkeQX) (s.operand pkeQY) (s.operand pkeE) (s.operand pkeR) (s.operand pkeS) <;> rfl
    exact .of_eq hexec started_of_pke

end Sys2Proof.Machine
end

section
/-!
SUPPORT. The end of a public-key operation (R428), the hash unit (R430), and what making a slot of the key store leaves unchanged.
-/

namespace Sys2Proof.Machine

variable {s t : State} {m : Master} {a n c : Nat} {b d : List Byte} {o : PkeOp}

/-! ### A new slot of the key store -/

/-- The key store's registers stand from here on. -/
def keystoreBase : Nat := 0x40060000

theorem keyState_above : keystoreBase ≤ (keyState n).addr := by
  simp only [keyState, Reg.KEYSTORE_SLOTATTR, keystoreBase]
  omega

theorem onlyIn_setKeySt {st : Nat} : OnlyIn [.regs] s (setKeySt n st s) := by
  have h : OnlyIn [.regs] s ((s.put (keyState n) st).putBit (Reg.KEYSTORE_VALID (n / 32)) (n % 32) (st == 1)) := by simp
  rw [setKeySt]
  exact OnlyIn.ite h (OnlyIn.ite ((onlyIn_put (by decide)).mpr h) (OnlyIn.ite ((onlyIn_put (by decide)).mpr h) h))

theorem onlyIn_makeSlot {attr : List Word} {x : List Byte} : OnlyIn [.regs, .keys] s (makeSlot n attr x s) :=
  ((onlyIn_setKeyBytes (by decide)).mpr (onlyIn_putKeyAttr.mono (by decide))).trans (onlyIn_setKeySt.mono (by decide))

theorem rd_setKeySt {st : Nat} (hstate : a ≠ (keyState n).addr) (hvalid : a ≠ Reg.KEYSTORE_VALID (n / 32)) (hfree : a ≠ Reg.KEYSTORE_STAT) :
    (setKeySt n st s).rd a = s.rd a := by
  have h : ((s.put (keyState n) st).putBit (Reg.KEYSTORE_VALID (n / 32)) (n % 32) (st == 1)).rd a = s.rd a := by
    rw [State.putBit_eq_put, State.rd_put_other hvalid, State.rd_put_other hstate]
  rw [setKeySt]
  split
  · exact h
  · split
    · exact (State.rd_put_other hfree).trans h
    · split
      · exact (State.rd_put_other hfree).trans h
      · exact h

theorem rd_putKeyAttr {attr : List Word} (h : ∀ w, a ≠ Reg.KEYSTORE_SLOTATTR n w) : (putKeyAttr n attr s).rd a = s.rd a :=
  State.rd_forEach fun x _ _ => State.rd_wr_ne (h x.2)

theorem rd_makeSlot_below {attr : List Word} {x : List Byte} (h : a < keystoreBase) : (makeSlot n attr x s).rd a = s.rd a := by
  rw [keystoreBase] at h
  have hattr : ∀ w, a ≠ Reg.KEYSTORE_SLOTATTR n w := by
    intro w
    simp only [Reg.KEYSTORE_SLOTATTR]
    omega
  have hvalid : a ≠ Reg.KEYSTORE_VALID (n / 32) := by
    simp only [Reg.KEYSTORE_VALID]
    omega
  have hfree : a ≠ Reg.KEYSTORE_STAT := by
    simp only [Reg.KEYSTORE_STAT]
    omega
  rw [makeSlot, rd_setKeySt (hattr 1) hvalid hfree]
  exact (State.rd_congr rfl).trans (rd_putKeyAttr hattr)

/-! ### The end of an operation -/

/-- The parts of the end: the operation is taken, its outputs stored, its ephemeral key kept or dropped, its code reported. -/
def State.pkeTaken (s : State) : State := { s with pke := { s.pke with op := none } }
def pkeOutputs (ws : List (Nat × List Byte)) (s : State) : State := s.forEach ws (fun w s => s.setBytes w.1 w.2)
def State.ephKept (k : Nat) (s : State) : State := State.flag Fld.PKE_STAT_EPHVALID { s with pke := { s.pke with eph := some k } }
def ephApply (e : Option (Option Nat)) (s : State) : State :=
  match e with
  | some (some k) => s.ephKept k
  | some none => ephDrop s
  | none => s
def pkeImport (o : PkeOp) (s : State) : Nat × State :=
  match o.imp with
  | some (n, attr, x) => if s.keySt n = 0 then (o.code, makeSlot n attr x s) else (0x050B, s)
  | none => (o.code, s)
def pkeReport (c : Nat) (s : State) : State := ((s.put Fld.PKE_STAT_CODE c).unflag Fld.PKE_STAT_BUSY).fire EV.PKE_DONE

theorem exec_pkeOpDone (hop : s.pke.op = some o) : exec .pkeOpDone s = .next
    (pkeReport (pkeImport o (ephApply o.eph (pkeOutputs o.writes s.pkeTaken))).1
      (pkeImport o (ephApply o.eph (pkeOutputs o.writes s.pkeTaken))).2) := by
  change execPkeOpDone s = _
  rw [execPkeOpDone, hop]
  rfl

theorem onlyIn_pkeTaken : OnlyIn [.pke] s s.pkeTaken := .of_frame rfl

theorem onlyIn_pkeOutputs {ws : List (Nat × List Byte)} : OnlyIn [.mem] s (pkeOutputs ws s) :=
  .forEach (fun _ _ => (onlyIn_setBytes (by decide)).mpr .refl) .refl

theorem onlyIn_ephKept {k : Nat} : OnlyIn [.regs, .pke] s (s.ephKept k) := (onlyIn_flag (by decide)).mpr (.of_frame rfl)

theorem regsBut_ephKept {k : Nat} : RegsBut [Reg.PKE_STAT] s (s.ephKept k) := (regsBut_flag (by decide)).mpr (.of_regs rfl)

theorem has_EPHVALID_ephKept {k : Nat} : (s.ephKept k).has Fld.PKE_STAT_EPHVALID = true := by
  rw [State.ephKept, State.flag_eq_put, State.has_put_fits rfl]
  rfl

theorem onlyIn_ephApply {e : Option (Option Nat)} : OnlyIn [.regs, .pke] s (ephApply e s) := by
  match e with
  | some (some _) => exact onlyIn_ephKept
  | some none => exact onlyIn_ephDrop
  | none => exact .refl

theorem regsBut_ephApply {e : Option (Option Nat)} : RegsBut [Reg.PKE_STAT] s (ephApply e s) := by
  match e with
  | some (some _) => exact regsBut_ephKept
  | some none => exact regsBut_ephDrop
  | none => exact RegsBut.refl

theorem op_ephApply {e : Option (Option Nat)} : (ephApply e s).pke.op = s.pke.op := by
  match e with
  | some (some _) | some none | none => rfl

theorem onlyIn_pkeImport : OnlyIn [.regs, .keys] s (pkeImport o s).2 := by
  rw [pkeImport]
  split
  · split
    · exact onlyIn_makeSlot
    · exact .refl
  · exact .refl

theorem rd_pkeImport (h : a < keystoreBase) : (pkeImport o s).2.rd a = s.rd a := by
  rw [pkeImport]
  split
  · split
    · exact rd_makeSlot_below h
    · rfl
  · rfl

theorem pkeImport_none (h : o.imp = none) : pkeImport o s = (o.code, s) := by rw [pkeImport, h]

theorem pkeImport_code {attr : List Word} {x : List Byte} (h : o.imp = some (n, attr, x)) :
    (pkeImport o s).1 = if s.keySt n = 0 then o.code else 0x050B := by
  rw [pkeImport, h]
  dsimp only
  split <;> rfl

theorem onlyIn_pkeReport : OnlyIn [.regs, .edges] s (pkeReport c s) := by simp [pkeReport]

theorem regsBut_pkeReport : RegsBut [Reg.PKE_STAT] s (pkeReport c s) := by
  rw [pkeReport, regsBut_fire, regsBut_unflag (by decide), regsBut_put (by decide)]
  exact RegsBut.refl

theorem get_CODE_pkeReport : (pkeReport c s).get Fld.PKE_STAT_CODE = c % 2 ^ 16 := by
  rw [pkeReport, State.get_fire, State.unflag_eq_put, State.get_put_bitsApart rfl rfl, State.get_put_fits rfl]
  rfl

theorem has_BUSY_pkeReport : (pkeReport c s).has Fld.PKE_STAT_BUSY = false := by
  rw [pkeReport, State.has_fire, State.has_unflag_fits rfl]

theorem has_EPHVALID_pkeReport : (pkeReport c s).has Fld.PKE_STAT_EPHVALID = s.has Fld.PKE_STAT_EPHVALID := by
  rw [pkeReport, State.has_fire, State.unflag_eq_put, State.has_put_bitsApart rfl rfl, State.has_put_bitsApart rfl rfl]

theorem edges_pkeReport : (pkeReport c s).edges = s.edges ++ [.producer EV.PKE_DONE] := by
  rw [pkeReport]
  exact congrArg (· ++ _) (onlyIn_unflag (l := [.regs]) (by decide) |>.mpr ((onlyIn_put (by decide)).mpr .refl) |>.edges (by decide))

theorem Fires.of_append {p : Nat} (h : t.edges = s.edges ++ [.producer p]) : Fires [p] s t := h

theorem OnlyIn.frame_regs_mem_pke_edges (h : OnlyIn [.regs, .mem, .pke, .edges] s t) :
    t = { s with regs := t.regs, mem := t.mem, pke := t.pke, edges := t.edges } := h.frame
theorem OnlyIn.frame_regs_pke_edges (h : OnlyIn [.regs, .pke, .edges] s t) :
    t = { s with regs := t.regs, pke := t.pke, edges := t.edges } := h.frame

theorem pkeOutputs_single : pkeOutputs [(a, b)] s = s.setBytes a b := rfl

theorem answers_pkeOpDone_plain (hop : s.pke.op = some { code := c, writes := [(a, b)] }) : Answers (exec .pkeOpDone s) fun t =>
    t.bytes a b.length = b ∧ t.get Fld.PKE_STAT_CODE = c % 2 ^ 16 ∧ t.has Fld.PKE_STAT_BUSY = false
    ∧ t.pke = { s.pke with op := none } ∧ Fires [EV.PKE_DONE] s t ∧ BytesOutside a b.length s t ∧ RegsBut [Reg.PKE_STAT] s t
    ∧ t = { s with regs := t.regs, mem := t.mem, pke := t.pke, edges := t.edges } := by
  have hexec : exec .pkeOpDone s = .next (pkeReport c (s.pkeTaken.setBytes a b)) := by
    rw [exec_pkeOpDone hop, pkeImport_none rfl, ephApply, pkeOutputs_single]
  have hbytes : OnlyIn [.mem] s.pkeTaken (s.pkeTaken.setBytes a b) := (onlyIn_setBytes (by decide)).mpr .refl
  have hstored : OnlyIn [.regs, .mem, .pke, .edges] s (s.pkeTaken.setBytes a b) :=
    (onlyIn_pkeTaken.mono (by decide)).trans (hbytes.mono (by decide))
  refine .of_eq hexec ⟨?_, get_CODE_pkeReport, has_BUSY_pkeReport, ?_, .of_append ?_, fun x hx => ?_, ?_, ?_⟩
  · rw [State.bytes_eq_of_mem (onlyIn_pkeReport.mem (by decide)), State.bytes_setBytes]
  · rw [onlyIn_pkeReport.pke (by decide), hbytes.pke (by decide)]
    rfl
  · rw [edges_pkeReport, hbytes.edges (by decide), onlyIn_pkeTaken.edges (by decide)]
  · exact (onlyIn_pkeReport.sameBytes (by decide) x).trans
      ((State.byte_setBytes_out hx).trans (onlyIn_pkeTaken.sameBytes (by decide) x))
  · exact ((RegsBut.of_regs (onlyIn_pkeTaken.regs (by decide))).trans (.of_regs (hbytes.regs (by decide)))).trans regsBut_pkeReport
  · exact (hstored.trans (onlyIn_pkeReport.mono (by decide))).frame_regs_mem_pke_edges

theorem answers_pkeOpDone (hop : s.pke.op = some o) : Answers (exec .pkeOpDone s) fun t =>
    t.pke.op = none ∧ t.has Fld.PKE_STAT_BUSY = false ∧ t.edges.getLast? = some (.producer EV.PKE_DONE)
    ∧ (o.imp = none → t.get Fld.PKE_STAT_CODE = o.code % 2 ^ 16)
    ∧ (∀ n a k, o.imp = some (n, a, k) → t.get Fld.PKE_STAT_CODE = (if s.keySt n = 0 then o.code % 2 ^ 16 else 0x050B))
    ∧ (o.eph = none → t.pke.eph = s.pke.eph) ∧ (o.eph = some none → t.pke.eph = none ∧ t.has Fld.PKE_STAT_EPHVALID = false)
    ∧ (∀ d, o.eph = some (some d) → t.pke.eph = some d ∧ t.has Fld.PKE_STAT_EPHVALID = true) := by
  have hpke : ∀ {x : State}, (pkeReport (pkeImport o x).1 (pkeImport o x).2).pke = x.pke := by
    intro x
    rw [onlyIn_pkeReport.pke (by decide), onlyIn_pkeImport.pke (by decide)]
  have heph : ∀ {x : State}, (pkeReport (pkeImport o x).1 (pkeImport o x).2).has Fld.PKE_STAT_EPHVALID = x.has Fld.PKE_STAT_EPHVALID := by
    intro x
    rw [has_EPHVALID_pkeReport]
    exact State.has_eq_of_get (State.get_eq_of_rd (rd_pkeImport (by decide)))
  refine .of_eq (exec_pkeOpDone hop) ⟨?_, has_BUSY_pkeReport, ?_, fun h => ?_, fun n attr k h => ?_, fun h => ?_, fun h => ?_, fun d h => ?_⟩
  · rw [hpke, op_ephApply, onlyIn_pkeOutputs.pke (by decide)]
    rfl
  · rw [edges_pkeReport, List.getLast?_concat]
  · rw [get_CODE_pkeReport, pkeImport_none h]
  · have hst : (ephApply o.eph (pkeOutputs o.writes s.pkeTaken)).keySt n = s.keySt n := by
      have hne : (keyState n).addr ∉ [Reg.PKE_STAT] := by
        have := keyState_above (n := n)
        simp only [keystoreBase] at this
        simp only [Reg.PKE_STAT, List.mem_singleton]
        omega
      rw [State.keySt, State.keySt, regsBut_ephApply.get hne, State.get_congr (onlyIn_pkeOutputs.regs (by decide)),
        State.get_congr (onlyIn_pkeTaken.regs (by decide))]
    rw [get_CODE_pkeReport, pkeImport_code h, hst]
    split <;> rfl
  · rw [hpke, h, ephApply, onlyIn_pkeOutputs.pke (by decide)]
    rfl
  · rw [hpke, heph, h, ephApply, pke_ephDrop, has_EPHVALID_ephDrop]
    exact ⟨rfl, rfl⟩
  · rw [hpke, heph, h, ephApply, has_EPHVALID_ephKept]
    exact ⟨rfl, rfl⟩

/-! ### The hash unit -/

theorem shaCommand_of_silent {g : State → State} (h : s.issues m = false) : shaCommand m g s = s := by
  rw [shaCommand, if_pos (by simp [h])]

theorem shaCommand_of_allowed {g : State → State} (h : s.issues m = true) (hallowed : shaAllowed s m = true) :
    shaCommand m g s = g s := by
  rw [shaCommand, if_neg (by simp [h]), if_pos hallowed]

theorem exec_pke_silent (h : s.issues m = false) :
    ∀ c ∈ [Instr.pkeClaimWrite m true, .pkeClaimWrite m false, .shaInit m, .shaData m 0, .shaFinal m 0], exec c s = .next s := by
  have hclaim : ∀ x, exec (.pkeClaimWrite m x) s = .next s := fun x => by
    change execPkeClaimWrite m x s = _
    rw [execPkeClaimWrite, if_pos (by simp [h])]
  intro c hc
  simp only [List.mem_cons, List.not_mem_nil, or_false] at hc
  rcases hc with rfl | rfl | rfl | rfl | rfl
  · exact hclaim true
  · exact hclaim false
  all_goals exact congrArg Host.Outcome.next (shaCommand_of_silent h)

theorem exec_shaInit (h : s.issues m = true) (hallowed : shaAllowed s m = true) :
    exec (.shaInit m) s = .next { s with pke := { s.pke with sha := some [] } } :=
  congrArg Host.Outcome.next (shaCommand_of_allowed h hallowed)

theorem exec_shaData {msg : List Byte} {v : Word} (h : s.issues m = true) (hallowed : shaAllowed s m = true)
    (hsha : s.pke.sha = some msg) :
    exec (.shaData m v) s = .next { s with pke := { s.pke with sha := some (msg ++ bytesBE 4 v.toNat) } } := by
  change execShaData m v s = _
  rw [execShaData, shaCommand_of_allowed h hallowed, hsha]

theorem exec_shaFinal {msg : List Byte} {valid : Fin 4} (h : s.issues m = true) (hallowed : shaAllowed s m = true)
    (hsha : s.pke.sha = some msg) : exec (.shaFinal m valid) s
    = .next { s with pke := { s.pke with sha := none, digest := some (sha256 (msg.take (msg.length - (if valid.val = 0 then 0 else 4 - valid.val)))) } } := by
  change execShaFinal m valid s = _
  rw [execShaFinal, shaCommand_of_allowed h hallowed, hsha]

/-- The words of a digest, as they are stored. -/
def digestStore (d : List Byte) (s : State) : State :=
  s.forEach (chunks 4 d).zipIdx (fun x s => s.wr (Reg.PKE_DIGEST x.2) (BitVec.ofNat 32 (natOfBE x.1)))

theorem chunksAux_four {fuel : Nat} (hlength : d.length = 4 * n) (hfuel : n < fuel) :
    chunksAux 4 fuel d = (List.range n).map (fun i => (d.drop (4 * i)).take 4) := by
  induction fuel generalizing d n with
  | zero => omega
  | succ fuel ih =>
    cases n with
    | zero =>
      have hnil : d = [] := List.length_eq_zero_iff.mp hlength
      rw [hnil, List.range_zero, List.map_nil]
      cases fuel <;> rfl
    | succ n =>
      have hne : d ≠ [] := by
        rintro rfl
        simp at hlength
      have hdrop : (d.drop 4).length = 4 * n := by
        rw [List.length_drop, hlength]
        omega
      obtain ⟨x, xs, rfl⟩ := List.exists_cons_of_ne_nil hne
      rw [chunksAux, ih hdrop (by omega), List.range_succ_eq_map, List.map_cons, List.map_map]
      · refine congrArg _ (List.map_congr_left fun i _ => ?_)
        rw [Function.comp_apply, List.drop_drop]
        exact congrArg (fun k => ((x :: xs).drop k).take 4) (by omega)
      · exact hne

theorem digestStore_eq (hlength : d.length = 32) : digestStore d s = s.forEach (List.range 8)
    (fun i s => s.wr (Reg.PKE_DIGEST i) (BitVec.ofNat 32 (natOfBE ((d.drop (4 * i)).take 4)))) := by
  rw [digestStore, chunks, chunksAux_four (n := 8) hlength (by omega)]
  rfl

theorem State.forEach_range_succ {g : Nat → State → State} : s.forEach (List.range (n + 1)) g = g n (s.forEach (List.range n) g) := by
  rw [State.forEach, List.range_succ, List.foldl_append]
  rfl

/-- Words written to the registers R 0, R 1, … read as they were written. -/
theorem rd_forEach_range {R : Nat → Nat} {v : Nat → Word} {k : Nat} (hinj : ∀ i j, R i = R j → i = j) (hk : k < n) :
    (s.forEach (List.range n) (fun i s => s.wr (R i) (v i))).rd (R k) = v k := by
  induction n with
  | zero => omega
  | succ n ih =>
    rw [State.forEach_range_succ, State.rd_wr]
    by_cases h : k = n
    case pos => rw [h, if_pos rfl]
    case neg =>
      rw [if_neg fun hR => h (hinj k n hR)]
      exact ih (by omega)

theorem rd_digestStore (hlength : d.length = 32) (w : Fin 8) :
    (digestStore d s).rd (Reg.PKE_DIGEST w) = BitVec.ofNat 32 (natOfBE ((d.drop (4 * w.val)).take 4)) := by
  have hinj : ∀ i j, Reg.PKE_DIGEST i = Reg.PKE_DIGEST j → i = j := by
    intro i j h
    simp only [Reg.PKE_DIGEST] at h
    omega
  rw [digestStore_eq hlength]
  exact rd_forEach_range hinj w.isLt

theorem onlyIn_digestStore : OnlyIn [.regs] s (digestStore d s) :=
  .forEach (fun _ _ => (onlyIn_wr (by decide)).mpr .refl) .refl

theorem regsBut_digestStore (hlength : d.length = 32) : RegsBut ((List.range 8).map Reg.PKE_DIGEST) s (digestStore d s) := by
  rw [digestStore_eq hlength]
  refine fun a ha => State.rd_forEach fun i hi _ => State.rd_wr_ne ?_
  rintro rfl
  exact ha (List.mem_map_of_mem hi)

/-- The digest is taken. -/
def State.digestTaken (s : State) : State := { s with pke := { s.pke with digest := none } }

theorem onlyIn_digestTaken : OnlyIn [.pke] s s.digestTaken := .of_frame rfl

theorem answers_shaDone (hdigest : s.pke.digest = some d) (hlength : d.length = 32) : Answers (exec .shaDone s) fun t =>
    (∀ w : Fin 8, t.rd (Reg.PKE_DIGEST w) = BitVec.ofNat 32 (natOfBE ((d.drop (4 * w.val)).take 4)))
    ∧ t.pke = { s.pke with digest := none } ∧ Fires [EV.PKE_SHADONE] s t
    ∧ RegsBut ((List.range 8).map Reg.PKE_DIGEST) s t ∧ t = { s with regs := t.regs, pke := t.pke, edges := t.edges } := by
  have hexec : exec .shaDone s = .next ((digestStore d s.digestTaken).fire EV.PKE_SHADONE) := by
    change execShaDone s = _
    rw [execShaDone, hdigest]
    rfl
  have hframe : OnlyIn [.regs, .pke] s (digestStore d s.digestTaken) :=
    (onlyIn_digestTaken.mono (by decide)).trans (onlyIn_digestStore.mono (by decide))
  refine .of_eq hexec ⟨fun w => rd_digestStore hlength w, ?_, hframe.fires_fire (by decide), ?_, ?_⟩
  · exact (onlyIn_digestStore.pke (by decide)).trans rfl
  · exact (RegsBut.of_regs (onlyIn_digestTaken.regs (by decide))).trans (regsBut_digestStore hlength)
  · exact (hframe.fire (by decide) (by decide)).frame_regs_pke_edges

/-- Settles O44: the claim, the operations, their end and the hash unit, clause by clause. -/
theorem publicKeyOperations : Obligations.PublicKeyOperations := by
  intro m s
  refine ⟨fun hloader hissues => ⟨answers_claim hloader hissues, fun howns hop => answers_release howns hissues hop⟩, ?_, ?_, ?_, ?_,
    exec_pke_silent, ?_, fun d hdigest hlength => answers_shaDone hdigest hlength⟩
  · intro cmd f c hc
    obtain ⟨g, hg⟩ := exec_pke (s := s) c hc
    refine ⟨fun h => ?_, fun h howns => ?_⟩
    · rw [hg, pkeCommand_of_silent h]
    · exact answers_pkeRefuse (by rw [hg, pkeCommand_of_other h howns])
  · intro cmd f howns hissues hbusy hsrc
    refine ⟨answers_pkeKeygen howns hissues hbusy hsrc, fun d hd => answers_pkeSign howns hissues hbusy hsrc hd, fun d hd htokey => ⟨?_, ?_⟩,
      fun verify => answers_pkeCheck howns hissues hbusy hsrc⟩
    · exact answers_pkeEcdh_off howns hissues hbusy hsrc htokey
    · exact answers_pkeEcdh_on howns hissues hbusy hsrc hd htokey
  · intro c a b hop
    exact answers_pkeOpDone_plain hop
  · intro o hop
    exact answers_pkeOpDone hop
  · intro hissues hallowed
    exact ⟨exec_shaInit hissues hallowed, fun msg hsha =>
      ⟨fun v => exec_shaData hissues hallowed hsha, fun valid => exec_shaFinal hissues hallowed hsha⟩⟩

end Sys2Proof.Machine
end

section
/-!
SUPPORT. Slots of the key store: their state, its mirror and the count of FREE slots; the attribute words of a new slot; an
admission and a refusal (R441, R442, R445).
-/

namespace Sys2Proof.Machine

variable {s t : State} {a n st w : Nat} {attr : List Word} {x : List Byte} {r : KeyRequest}

/-! ### Addresses -/

theorem valid_ne_slotattr (hn : n < 256) {k : Nat} : Reg.KEYSTORE_VALID (n / 32) ≠ Reg.KEYSTORE_SLOTATTR k w := by
  simp only [Reg.KEYSTORE_VALID, Reg.KEYSTORE_SLOTATTR]
  omega

theorem stat_ne_slotattr {k : Nat} : Reg.KEYSTORE_STAT ≠ Reg.KEYSTORE_SLOTATTR k w := by
  simp only [Reg.KEYSTORE_STAT, Reg.KEYSTORE_SLOTATTR]
  omega

theorem stat_ne_valid {k : Nat} : Reg.KEYSTORE_STAT ≠ Reg.KEYSTORE_VALID k := by
  simp only [Reg.KEYSTORE_STAT, Reg.KEYSTORE_VALID]
  omega

theorem slotattr_injective {k : Nat} (h : Reg.KEYSTORE_SLOTATTR n w = Reg.KEYSTORE_SLOTATTR n k) : w = k := by
  simp only [Reg.KEYSTORE_SLOTATTR] at h
  omega

/-! ### The state of a slot -/

/-- The state of slot n with its mirror, the count of FREE slots apart. -/
def State.keyStPut (n st : Nat) (s : State) : State :=
  (s.put (keyState n) st).putBit (Reg.KEYSTORE_VALID (n / 32)) (n % 32) (st == 1)

theorem onlyIn_keyStPut : OnlyIn [.regs] s (s.keyStPut n st) := by simp [State.keyStPut]

theorem regsBut_keyStPut : RegsBut [Reg.KEYSTORE_SLOTATTR n 1, Reg.KEYSTORE_VALID (n / 32)] s (s.keyStPut n st) := by
  rw [State.keyStPut, regsBut_putBit (by simp), regsBut_put (by simp [keyState])]
  exact RegsBut.refl

theorem keySt_keyStPut (hn : n < 256) : (s.keyStPut n st).keySt n = st % 4 := by
  have hne : (keyState n).addr ≠ Reg.KEYSTORE_VALID (n / 32) := (valid_ne_slotattr hn).symm
  rw [State.keyStPut, State.keySt, State.putBit_eq_put, State.get_put_other hne, State.get_put_fits rfl]
  rfl

theorem bit_keyStPut : (s.keyStPut n st).bit (Reg.KEYSTORE_VALID (n / 32)) (n % 32) = (st == 1) :=
  State.bit_putBit_self (Nat.mod_lt n (by decide))

theorem get_FREE_keyStPut : (s.keyStPut n st).get Fld.KEYSTORE_STAT_FREE = s.get Fld.KEYSTORE_STAT_FREE :=
  regsBut_keyStPut.get (by simpa using ⟨stat_ne_slotattr, stat_ne_valid⟩)

theorem setKeySt_kept (hwas : s.keySt n ≠ 0) (hst : st ≠ 0) : setKeySt n st s = s.keyStPut n st := by
  rw [setKeySt, ← State.keyStPut]
  split
  · rfl
  · rw [if_neg (by simp [hst]), if_neg (by simp [hwas])]

theorem setKeySt_freed (h0 : n ≠ 0) (hwas : s.keySt n ≠ 0) :
    setKeySt n 0 s = (s.keyStPut n 0).put Fld.KEYSTORE_STAT_FREE (s.get Fld.KEYSTORE_STAT_FREE + 1) := by
  rw [← get_FREE_keyStPut (n := n) (st := 0), setKeySt, if_neg h0, if_pos ⟨hwas, rfl⟩]
  rfl

theorem setKeySt_taken (h0 : n ≠ 0) (hwas : s.keySt n = 0) (hst : st ≠ 0) :
    setKeySt n st s = (s.keyStPut n st).put Fld.KEYSTORE_STAT_FREE (s.get Fld.KEYSTORE_STAT_FREE - 1) := by
  rw [← get_FREE_keyStPut (n := n) (st := st), setKeySt, if_neg h0, if_neg (by simp [hwas]), if_pos ⟨hwas, hst⟩]
  rfl

theorem regsBut_setKeySt : RegsBut [Reg.KEYSTORE_SLOTATTR n 1, Reg.KEYSTORE_VALID (n / 32), Reg.KEYSTORE_STAT] s (setKeySt n st s) := by
  intro a ha
  simp only [List.mem_cons, List.not_mem_nil, or_false, not_or] at ha
  exact rd_setKeySt ha.1 ha.2.1 ha.2.2

/-! ### The attribute words -/

/-- Words written to the registers R k, R (k + 1), … read as they were written. -/
theorem rd_forEach_zipIdx {R : Nat → Nat} {l : List Word} {k : Nat} (hinj : ∀ i j, R i = R j → i = j) (hw : w < l.length) :
    (s.forEach (l.zipIdx k) (fun x s => s.wr (R x.2) x.1)).rd (R (k + w)) = l[w] := by
  induction l generalizing s k w with
  | nil => exact absurd hw (Nat.not_lt_zero _)
  | cons v l ih =>
    rw [List.zipIdx_cons, State.forEach_cons]
    cases w with
    | zero =>
      rw [Nat.add_zero, State.rd_forEach]
      · exact State.rd_wr_self
      · intro y hy u
        have hle : k + 1 ≤ y.2 := List.le_snd_of_mem_zipIdx hy
        exact State.rd_wr_ne fun h => absurd (hinj _ _ h) (by omega)
    | succ w =>
      have hsucc : k + (w + 1) = k + 1 + w := by omega
      rw [hsucc]
      exact ih (by simpa using hw)

theorem rd_putKeyAttr_self (hw : w < attr.length) : (putKeyAttr n attr s).rd (Reg.KEYSTORE_SLOTATTR n w) = attr[w] := by
  have h := rd_forEach_zipIdx (s := s) (R := Reg.KEYSTORE_SLOTATTR n) (k := 0) (fun _ _ => slotattr_injective) hw
  rwa [Nat.zero_add] at h

theorem regsBut_putKeyAttr : RegsBut ((List.range attr.length).map (Reg.KEYSTORE_SLOTATTR n)) s (putKeyAttr n attr s) := by
  refine fun a ha => State.rd_forEach fun y hy _ => State.rd_wr_ne ?_
  rintro rfl
  exact ha (List.mem_map_of_mem (List.mem_range.mpr (List.snd_lt_of_mem_zipIdx hy)))

section
variable {av : List Word} {p d e : Nat}

theorem length_attrBuild (h : av.length = 7) : (attrBuild av p d e).length = 7 := by simp [attrBuild, h]

/-- Word 1 of new attributes. -/
def attrWord1 (av : List Word) (e : Nat) : Nat := attrMasters av + attrOps av * 2 ^ 8 + attrLcmask av * 2 ^ 16 + e * 2 ^ 24

theorem rd_attrBuild (h : av.length = 7) :
    (putKeyAttr n (attrBuild av p d e) s).rd (Reg.KEYSTORE_SLOTATTR n 1) = BitVec.ofNat 32 (attrWord1 av e) := by
  rw [rd_putKeyAttr_self (by rw [length_attrBuild h]; decide)]
  rfl

theorem attrMasters_lt : attrMasters av < 16 := Nat.mod_lt _ (by decide)
theorem attrOps_lt : attrOps av < 256 := Nat.mod_lt _ (by decide)
theorem attrLcmask_lt : attrLcmask av < 32 := Nat.mod_lt _ (by decide)

theorem get_attrBuild {f : Field} (h : av.length = 7) (he : e ≤ 1) (hf : f.addr = Reg.KEYSTORE_SLOTATTR n 1) :
    (putKeyAttr n (attrBuild av p d e) s).get f = attrWord1 av e / 2 ^ f.lo % 2 ^ f.width := by
  have hm := attrMasters_lt (av := av)
  have ho := attrOps_lt (av := av)
  have hl := attrLcmask_lt (av := av)
  have hlt : attrWord1 av e < 2 ^ 32 := by
    rw [attrWord1]
    omega
  rw [State.get, hf, rd_attrBuild h, BitVec.toNat_ofNat, Nat.mod_eq_of_lt hlt]

/-- The fields of word 1 of a new slot. -/
theorem fields_attrBuild (h : av.length = 7) (he : e ≤ 1) :
    (putKeyAttr n (attrBuild av p d e) s).get (keyMasters n) = attrMasters av
    ∧ (putKeyAttr n (attrBuild av p d e) s).get (keyOps n) = attrOps av
    ∧ (putKeyAttr n (attrBuild av p d e) s).get (keyLcmask n) = attrLcmask av
    ∧ (putKeyAttr n (attrBuild av p d e) s).keySt n = 0 := by
  have hm := attrMasters_lt (av := av)
  have ho := attrOps_lt (av := av)
  have hl := attrLcmask_lt (av := av)
  rw [State.keySt, get_attrBuild h he rfl, get_attrBuild h he rfl, get_attrBuild h he rfl, get_attrBuild h he rfl]
  simp only [attrWord1, keyMasters, keyOps, keyLcmask, keyState]
  refine ⟨?_, ?_, ?_, ?_⟩
  all_goals omega

/-! ### A new slot -/

theorem keyBytes_setKeyBytes : (s.setKeyBytes n x).keyBytes n = x := sparseGet_set_self

theorem get_setKeyBytes {f : Field} : (s.setKeyBytes n x).get f = s.get f := State.get_congr rfl

theorem makeSlot_eq (h0 : n ≠ 0) (h : av.length = 7) (he : e ≤ 1) : makeSlot n (attrBuild av p d e) x s
    = (State.keyStPut n 1 ((putKeyAttr n (attrBuild av p d e) s).setKeyBytes n x)).put Fld.KEYSTORE_STAT_FREE
        (s.get Fld.KEYSTORE_STAT_FREE - 1) := by
  have hst : ((putKeyAttr n (attrBuild av p d e) s).setKeyBytes n x).keySt n = 0 := by
    obtain ⟨-, -, -, hfree⟩ := fields_attrBuild (n := n) (p := p) (d := d) (s := s) h he
    rw [State.keySt, get_setKeyBytes]
    exact hfree
  have hfree : ((putKeyAttr n (attrBuild av p d e) s).setKeyBytes n x).get Fld.KEYSTORE_STAT_FREE = s.get Fld.KEYSTORE_STAT_FREE := by
    rw [get_setKeyBytes]
    exact State.get_eq_of_rd (rd_putKeyAttr fun _ => stat_ne_slotattr)
  rw [makeSlot, setKeySt_taken h0 hst (by decide), hfree]

theorem keySt_makeSlot (hn : n < 256) (h0 : n ≠ 0) (h : av.length = 7) (he : e ≤ 1) :
    (makeSlot n (attrBuild av p d e) x s).keySt n = 1 := by
  rw [makeSlot_eq h0 h he, State.keySt, State.get_put_other stat_ne_slotattr.symm]
  exact keySt_keyStPut hn

theorem bit_makeSlot (h0 : n ≠ 0) (h : av.length = 7) (he : e ≤ 1) :
    (makeSlot n (attrBuild av p d e) x s).bit (Reg.KEYSTORE_VALID (n / 32)) (n % 32) = true := by
  rw [makeSlot_eq h0 h he, State.bit, State.rd_put_other stat_ne_valid.symm]
  exact bit_keyStPut

theorem get_FREE_makeSlot (h0 : n ≠ 0) (h : av.length = 7) (he : e ≤ 1) :
    (makeSlot n (attrBuild av p d e) x s).get Fld.KEYSTORE_STAT_FREE = s.get Fld.KEYSTORE_STAT_FREE - 1 := by
  have hlt : s.get Fld.KEYSTORE_STAT_FREE - 1 < 2 ^ Fld.KEYSTORE_STAT_FREE.width := lt_of_le_of_lt (Nat.sub_le _ _) State.get_lt
  rw [makeSlot_eq h0 h he, State.get_put_fits rfl, Nat.mod_eq_of_lt hlt]

/-- A field of word 1 other than the state is that of the new attributes. -/
theorem get_makeSlot {f : Field} (hn : n < 256) (h0 : n ≠ 0) (h : av.length = 7) (he : e ≤ 1) (hf : f.addr = Reg.KEYSTORE_SLOTATTR n 1)
    (happart : (keyState n).bitsApart f = true) :
    (makeSlot n (attrBuild av p d e) x s).get f = (putKeyAttr n (attrBuild av p d e) s).get f := by
  have hstat : f.addr ≠ Reg.KEYSTORE_STAT := hf ▸ stat_ne_slotattr.symm
  have hvalid : f.addr ≠ Reg.KEYSTORE_VALID (n / 32) := hf ▸ (valid_ne_slotattr hn).symm
  rw [makeSlot_eq h0 h he, State.get_put_other hstat, State.keyStPut, State.putBit_eq_put, State.get_put_other hvalid,
    State.get_put_bitsApart rfl happart, get_setKeyBytes]

theorem keyBytes_makeSlot : (makeSlot n attr x s).keyBytes n = x := by
  have hkeys : (makeSlot n attr x s).keys = ((putKeyAttr n attr s).setKeyBytes n x).keys := onlyIn_setKeySt.keys (by decide)
  rw [State.keyBytes, hkeys]
  exact keyBytes_setKeyBytes

theorem regsBut_makeSlot (h : attr.length = 7) : RegsBut ([Reg.KEYSTORE_VALID (n / 32), Reg.KEYSTORE_STAT]
    ++ (List.range 7).map (Reg.KEYSTORE_SLOTATTR n)) s (makeSlot n attr x s) := by
  have hattr := regsBut_putKeyAttr (s := s) (n := n) (attr := attr)
  rw [h] at hattr
  have hfirst : RegsBut ([Reg.KEYSTORE_VALID (n / 32), Reg.KEYSTORE_STAT] ++ (List.range 7).map (Reg.KEYSTORE_SLOTATTR n)) s
      ((putKeyAttr n attr s).setKeyBytes n x) := (hattr.mono (List.subset_append_right _ _)).trans (.of_regs rfl)
  refine hfirst.trans (regsBut_setKeySt.mono ?_)
  simp [List.range_succ]

end

/-! ### Admissions -/

theorem keyUse_of_many (huses : 1 < s.get (keyUses n)) : keyUse n s =
    if s.get (keyUses n) = 0xFFFF then s else s.put (keyUses n) (s.get (keyUses n) - 1) := by
  rw [keyUse]
  dsimp only
  split
  · rfl
  · rw [if_neg (by omega)]

theorem cnt_ne_slotattr {k : Nat} : Reg.KEYSTORE_CNT 0 ≠ Reg.KEYSTORE_SLOTATTR k w ∧ Reg.KEYSTORE_CNT 1 ≠ Reg.KEYSTORE_SLOTATTR k w := by
  simp only [Reg.KEYSTORE_SLOTATTR, Reg.KEYSTORE_CNT]
  omega

/-- What an admission may write. -/
theorem regsBut_keyUse : RegsBut [Reg.KEYSTORE_CNT 1, Reg.KEYSTORE_SLOTATTR n 2] s (keyUse n s) := by
  have hput : RegsBut [Reg.KEYSTORE_CNT 1, Reg.KEYSTORE_SLOTATTR n 2] s (s.put (keyUses n) (s.get (keyUses n) - 1)) :=
    (regsBut_put (by simp [keyUses])).mpr RegsBut.refl
  rw [keyUse]
  dsimp only
  split
  · exact RegsBut.refl
  · split
    · rw [regsBut_fire, regsBut_inc (by simp [Fld.KEYSTORE_CNT_USEOUT])]
      exact hput
    · exact hput

/-- An admission that is counted. -/
def State.admitted (n : Nat) (s : State) : State := keyUse n (s.inc Fld.KEYSTORE_CNT_ADMITS)

theorem onlyIn_admitted : OnlyIn [.regs, .edges] s (s.admitted n) := ((onlyIn_inc (by decide)).mpr .refl).trans onlyIn_keyUse

theorem regsBut_admitted : RegsBut [Reg.KEYSTORE_CNT 0, Reg.KEYSTORE_CNT 1, Reg.KEYSTORE_SLOTATTR n 2] s (s.admitted n) :=
  ((regsBut_inc (by simp [Fld.KEYSTORE_CNT_ADMITS])).mpr RegsBut.refl).trans (regsBut_keyUse.mono (by simp))

theorem keyAdmit_granted (h : admitCode r s = 0) : keyAdmit r s = (0, s.admitted r.slot) := keyAdmit_of_granted h

theorem get_uses_inc : (s.inc Fld.KEYSTORE_CNT_ADMITS).get (keyUses n) = s.get (keyUses n) :=
  State.get_put_other cnt_ne_slotattr.1.symm

theorem admitted_of_many (huses : 1 < s.get (keyUses n)) : s.admitted n = if s.get (keyUses n) = 0xFFFF then
    s.inc Fld.KEYSTORE_CNT_ADMITS else (s.inc Fld.KEYSTORE_CNT_ADMITS).put (keyUses n) (s.get (keyUses n) - 1) := by
  rw [State.admitted, keyUse_of_many (by rwa [get_uses_inc]), get_uses_inc]

theorem answers_keyAdmit_granted {slot : Fin 256} {masters : BitVec 5} {op : Fin 8} {types : BitVec 8} {block : BitVec 5}
    (hr : r = { slot := slot.val, masters := masters.toNat, op := op.val, types := bitsOf 8 types.toNat, block := block.toNat, checkFails := false })
    (hcode : admitCode r s = 0) (huses : 1 < s.get (keyUses slot)) : Answers (exec (.keyAdmit slot masters op types block false) s) fun t =>
      t.get (keyUses slot) = (if s.get (keyUses slot) = 0xFFFF then 0xFFFF else s.get (keyUses slot) - 1)
      ∧ t.get Fld.KEYSTORE_CNT_ADMITS = s.counted Fld.KEYSTORE_CNT_ADMITS
      ∧ RegsBut [Reg.KEYSTORE_CNT 0, Reg.KEYSTORE_SLOTATTR slot 2] s t ∧ t = { s with regs := t.regs } := by
  have hexec : exec (.keyAdmit slot masters op types block false) s = .next (s.admitted slot.val) := by
    change Host.Outcome.next (keyAdmit _ s).2 = _
    rw [← hr, keyAdmit_granted hcode, hr]
  have hinc : RegsBut [Reg.KEYSTORE_CNT 0, Reg.KEYSTORE_SLOTATTR slot 2] s (s.inc Fld.KEYSTORE_CNT_ADMITS) :=
    (regsBut_inc (by simp [Fld.KEYSTORE_CNT_ADMITS])).mpr RegsBut.refl
  have honly : OnlyIn [.regs] s (s.inc Fld.KEYSTORE_CNT_ADMITS) := (onlyIn_inc (by decide)).mpr .refl
  have hadmits : (s.inc Fld.KEYSTORE_CNT_ADMITS).get Fld.KEYSTORE_CNT_ADMITS = s.counted Fld.KEYSTORE_CNT_ADMITS := State.get_inc_fits rfl
  have hlt : s.get (keyUses slot) - 1 < 2 ^ (keyUses slot).width := lt_of_le_of_lt (Nat.sub_le _ _) State.get_lt
  refine ⟨_, hexec, ?_⟩
  rw [admitted_of_many huses]
  by_cases hmany : s.get (keyUses slot) = 0xFFFF
  case pos =>
    rw [if_pos hmany, if_pos hmany]
    exact ⟨get_uses_inc.trans hmany, hadmits, hinc, honly.frame_regs⟩
  case neg =>
    rw [if_neg hmany, if_neg hmany]
    exact ⟨(State.get_put_fits rfl).trans (Nat.mod_eq_of_lt hlt), (State.get_put_other cnt_ne_slotattr.1).trans hadmits, (regsBut_put (by simp [keyUses])).mpr hinc, ((onlyIn_put (by decide)).mpr honly).frame_regs⟩

end Sys2Proof.Machine
end

section
/-!
SUPPORT. Commands of the key store (R444 to R451), their ends (R630), the sweep (R453) and the refresh (R456).
-/

namespace Sys2Proof.Machine

variable {s t : State} {m : Master} {a n st w : Nat} {attr : List Word} {x : List Byte} {r : KeyRequest}

/-! ### Refusals -/

/-- The codes of refused requests. -/
def admitCodes : List Nat := [0, 0x050A, 0x0501, 0x0511, 0x0502, 0x0503, 0x0504, 0x0506, 0x0505, 0x0507]

theorem admitCode_mem : admitCode r s ∈ admitCodes := by
  rw [admitCode, admitCodeAt]
  repeat' split
  all_goals decide

theorem admitCode_lt : admitCode r s < 2 ^ 16 :=
  (show ∀ c ∈ admitCodes, c < 2 ^ 16 by decide) _ admitCode_mem

theorem admitCode_ne_check (h : r.checkFails = false) : admitCode r s ≠ 0x0511 := by
  rw [admitCode, admitCodeAt, h]
  repeat' split
  all_goals first | decide | contradiction

/-- A refusal before its event. -/
def State.refusalNoted (r : KeyRequest) (c : Nat) (s : State) : State :=
  ((((s.put Fld.KEYSTORE_LAST_SLOT r.slot).put Fld.KEYSTORE_LAST_MASTER r.block).put Fld.KEYSTORE_LAST_CODE
    c).inc Fld.KEYSTORE_CNT_REFUSALS).flag Fld.KEYSTORE_FLAGS_REFUSE

theorem keyRefused_eq {c : Nat} : keyRefused r c s = (s.refusalNoted r c).fire EV.KEYSTORE_REFUSE := rfl

theorem onlyIn_refusalNoted {c : Nat} : OnlyIn [.regs] s (s.refusalNoted r c) := by simp [State.refusalNoted]

theorem regsBut_refusalNoted {c : Nat} :
    RegsBut [Reg.KEYSTORE_LAST, Reg.KEYSTORE_CNT 0, Reg.KEYSTORE_FLAGS] s (s.refusalNoted r c) := by
  rw [State.refusalNoted, regsBut_flag (by decide), regsBut_inc (by decide), regsBut_put (by decide), regsBut_put (by decide),
    regsBut_put (by decide)]
  exact RegsBut.refl

/-- The fields of a refusal. -/
theorem fields_refusalNoted {c : Nat} : (s.refusalNoted r c).get Fld.KEYSTORE_LAST_CODE = c % 2 ^ 16
    ∧ (s.refusalNoted r c).get Fld.KEYSTORE_LAST_SLOT = r.slot % 2 ^ 8 ∧ (s.refusalNoted r c).get Fld.KEYSTORE_LAST_MASTER = r.block % 2 ^ 5
    ∧ (s.refusalNoted r c).get Fld.KEYSTORE_CNT_REFUSALS = s.counted Fld.KEYSTORE_CNT_REFUSALS
    ∧ (s.refusalNoted r c).has Fld.KEYSTORE_FLAGS_REFUSE = true := by
  refine ⟨?_, ?_, ?_, ?_, ?_⟩
  · rw [State.refusalNoted, State.flag_eq_put, State.get_put_other (by decide), State.inc_eq_put, State.get_put_other (by decide),
      State.get_put_fits rfl]
    rfl
  · rw [State.refusalNoted, State.flag_eq_put, State.get_put_other (by decide), State.inc_eq_put, State.get_put_other (by decide),
      State.get_put_bitsApart rfl rfl, State.get_put_bitsApart rfl rfl, State.get_put_fits rfl]
    rfl
  · rw [State.refusalNoted, State.flag_eq_put, State.get_put_other (by decide), State.inc_eq_put, State.get_put_other (by decide),
      State.get_put_bitsApart rfl rfl, State.get_put_fits rfl]
    rfl
  · rw [State.refusalNoted, State.flag_eq_put, State.get_put_other (by decide), State.get_inc_fits rfl, State.counted,
      State.get_put_other (by decide), State.get_put_other (by decide), State.get_put_other (by decide), State.counted]
  · rw [State.refusalNoted, State.flag_eq_put, State.has_put_fits rfl]
    rfl

theorem answers_keyAdmit_refused {slot : Fin 256} {masters : BitVec 5} {op : Fin 8} {types : BitVec 8} {block : BitVec 5}
    (hr : r = { slot := slot.val, masters := masters.toNat, op := op.val, types := bitsOf 8 types.toNat, block := block.toNat, checkFails := false })
    (hcode : admitCode r s ≠ 0) : Answers (exec (.keyAdmit slot masters op types block false) s) fun t =>
      t.get Fld.KEYSTORE_LAST_CODE = admitCode r s ∧ t.get Fld.KEYSTORE_LAST_SLOT = slot.val
      ∧ t.get Fld.KEYSTORE_LAST_MASTER = block.toNat ∧ t.get Fld.KEYSTORE_CNT_REFUSALS = s.counted Fld.KEYSTORE_CNT_REFUSALS
      ∧ t.has Fld.KEYSTORE_FLAGS_REFUSE = true ∧ Fires [EV.KEYSTORE_REFUSE] s t
      ∧ RegsBut [Reg.KEYSTORE_LAST, Reg.KEYSTORE_CNT 0, Reg.KEYSTORE_FLAGS] s t ∧ t = { s with regs := t.regs, edges := t.edges } := by
  have hexec : exec (.keyAdmit slot masters op types block false) s = .next ((s.refusalNoted r (admitCode r s)).fire EV.KEYSTORE_REFUSE) := by
    change Host.Outcome.next (keyAdmit _ s).2 = _
    rw [← hr, keyAdmit, keyAdmitted, if_neg hcode, if_neg (admitCode_ne_check (by rw [hr])), keyRefused_eq]
  obtain ⟨hlast, hslot, hmaster, hcount, hflag⟩ := fields_refusalNoted (s := s) (r := r) (c := admitCode r s)
  have hslot256 : r.slot % 2 ^ 8 = slot.val := by
    rw [hr]
    exact Nat.mod_eq_of_lt slot.isLt
  have hblock32 : r.block % 2 ^ 5 = block.toNat := by
    rw [hr]
    exact Nat.mod_eq_of_lt block.isLt
  refine .of_eq hexec ⟨?_, ?_, ?_, ?_, ?_, onlyIn_refusalNoted.fires_fire (by decide), ?_, ?_⟩
  · rw [State.get_fire, hlast, Nat.mod_eq_of_lt admitCode_lt]
  · rw [State.get_fire, hslot, hslot256]
  · rw [State.get_fire, hmaster, hblock32]
  · rw [State.get_fire, hcount]
  · rw [State.has_fire, hflag]
  · exact regsBut_fire.mpr regsBut_refusalNoted
  · exact (onlyIn_refusalNoted.fire (by decide) (by decide)).frame_regs_edges

/-! ### The gate of the commands -/

section
variable {locked : Bool} {g : State → State}

theorem keyCommand_of_silent (h : s.issues m = false) : keyCommand m locked g s = s := by rw [keyCommand, if_pos (by simp [h])]

theorem keyCommand_of_other (h : s.issues m = true) (hbusy : (m ≠ .cpu0 ∧ m ≠ .cpu1) ∨ s.has Fld.KEYSTORE_RESULT_BUSY = true) :
    keyCommand m locked g s = keyCmdReject s := by rw [keyCommand, if_neg (by simp [h]), if_pos hbusy]

theorem keyCommand_of_core (hm : m = .cpu0 ∨ m = .cpu1) (h : s.issues m = true) (hbusy : s.has Fld.KEYSTORE_RESULT_BUSY = false)
    (hlocked : s.has Fld.KEYSTORE_STAT_LOCKED = false) : keyCommand m locked g s = g s := by
  have hcore : ¬ ((m ≠ .cpu0 ∧ m ≠ .cpu1) ∨ s.has Fld.KEYSTORE_RESULT_BUSY = true) := by
    rw [hbusy]
    rcases hm with rfl | rfl <;> simp
  rw [keyCommand, if_neg (by simp [h]), if_neg hcore, if_neg (by simp [hlocked])]

end

theorem exec_keyCommands {slot : Fin 256} {arg : BitVec 16} {f : Bool} (c : Instr)
    (hc : c ∈ [Instr.keyDerive m slot f, .keyImport m slot arg f, .keyInvalidate m slot, .keyRestrict m slot, .keyRootgen m]) :
    ∃ locked g, exec c s = .next (keyCommand m locked g s) := by
  simp only [List.mem_cons, List.not_mem_nil, or_false] at hc
  rcases hc with rfl | rfl | rfl | rfl | rfl
  all_goals exact ⟨_, _, rfl⟩

theorem issues_of_port (h : m ≠ .cpu0 ∧ m ≠ .cpu1) : s.issues m = true := by
  cases m
  case cpu1 => exact absurd rfl h.2
  all_goals rfl

theorem answers_keyCmdReject {c : Instr} (h : exec c s = .next (keyCmdReject s)) : Answers (exec c s) fun t =>
    t.has Fld.KEYSTORE_FLAGS_CMDREJ = true ∧ t.get Fld.KEYSTORE_RESULT_CODE = 0x050F
    ∧ RegsBut [Reg.KEYSTORE_FLAGS, Reg.KEYSTORE_RESULT] s t ∧ t = { s with regs := t.regs } := by
  refine .of_eq h ⟨?_, ?_, ?_, ?_⟩
  · rw [keyCmdReject, State.has_put_other (by decide), State.flag_eq_put, State.has_put_fits rfl]
    rfl
  · rw [keyCmdReject, State.get_put_fits rfl]
    rfl
  · exact (regsBut_put (by decide)).mpr ((regsBut_flag (by decide)).mpr RegsBut.refl)
  · exact OnlyIn.frame_regs ((onlyIn_put (by decide)).mpr ((onlyIn_flag (by decide)).mpr .refl))

/-! ### A command that goes on -/

section
variable {e : KeyEnd} {c : Nat} {waits : Bool}

theorem onlyIn_keyCmdRun : OnlyIn [.regs, .keys] s (keyCmdRun e c waits s) := (onlyIn_flag (by decide)).mpr (.of_frame rfl)

theorem regsBut_keyCmdRun : RegsBut [Reg.KEYSTORE_RESULT] s (keyCmdRun e c waits s) := (regsBut_flag (by decide)).mpr (.of_regs rfl)

theorem has_BUSY_keyCmdRun : (keyCmdRun e c waits s).has Fld.KEYSTORE_RESULT_BUSY = true := by
  rw [keyCmdRun, State.flag_eq_put, State.has_put_fits rfl]
  rfl

theorem keys_keyCmdRun : (keyCmdRun e c waits s).keys = { s.keys with cmd := some (e, c), cmdWaits := waits } := rfl

end

theorem OnlyIn.frame_regs_keys (h : OnlyIn [.regs, .keys] s t) : t = { s with regs := t.regs, keys := t.keys } := h.frame
theorem OnlyIn.frame_regs_keys_edges (h : OnlyIn [.regs, .keys, .edges] s t) :
    t = { s with regs := t.regs, keys := t.keys, edges := t.edges } := h.frame

/-- A command that an admission of slot p began. -/
theorem answers_keyCmdRun_admitted {c : Instr} {e : KeyEnd} {code p : Nat} (h : exec c s = .next (keyCmdRun e code false (s.admitted p))) :
    Answers (exec c s) fun t => t.keys = { s.keys with cmd := some (e, code), cmdWaits := false }
      ∧ t.has Fld.KEYSTORE_RESULT_BUSY = true
      ∧ RegsBut [Reg.KEYSTORE_RESULT, Reg.KEYSTORE_CNT 0, Reg.KEYSTORE_CNT 1, Reg.KEYSTORE_SLOTATTR p 2] s t
      ∧ t = { s with regs := t.regs, keys := t.keys, edges := t.edges } := by
  refine .of_eq h ⟨?_, has_BUSY_keyCmdRun, ?_, ?_⟩
  · rw [keys_keyCmdRun, onlyIn_admitted.keys (by decide)]
  · exact (regsBut_admitted.mono (by simp)).trans (regsBut_keyCmdRun.mono (by simp))
  · exact ((onlyIn_admitted.mono (by decide)).trans (onlyIn_keyCmdRun.mono (by decide))).frame_regs_keys_edges

/-- A command of a core that goes on from the state as it stands. -/
theorem answers_keyCmdRun {c : Instr} {e : KeyEnd} (h : exec c s = .next (keyCmdRun e 0 false s)) :
    Answers (exec c s) fun t => t.keys = { s.keys with cmd := some (e, 0), cmdWaits := false }
      ∧ t.has Fld.KEYSTORE_RESULT_BUSY = true ∧ RegsBut [Reg.KEYSTORE_RESULT] s t ∧ t = { s with regs := t.regs, keys := t.keys } :=
  .of_eq h ⟨keys_keyCmdRun, has_BUSY_keyCmdRun, regsBut_keyCmdRun, onlyIn_keyCmdRun.frame_regs_keys⟩

theorem exec_keyDerive {slot : Fin 256} {p : Nat} {k : List Byte} (hm : m = .cpu0 ∨ m = .cpu1) (hissues : s.issues m = true)
    (hbusy : s.has Fld.KEYSTORE_RESULT_BUSY = false) (hlocked : s.has Fld.KEYSTORE_STAT_LOCKED = false) (hp : p = attrParent s.newAttr)
    (hk : k = kdf (s.keyBytes p) (bytesBE 2 (attrLabel s.newAttr) ++ [0#8] ++ keyContext s ++ bytesBE 1 (attrType s.newAttr)) (keyOctets (attrType s.newAttr)))
    (hnew : newSlotCode s s.newAttr slot p = 0)
    (hadmit : admitCode { slot := p, masters := masterBit (masterBlock m), op := 4, types := [2, 4], block := masterBlock m, checkFails := false } s = 0) :
    exec (.keyDerive m slot false) s = .next (if attrType s.newAttr = 3 ∧ (natOfBE k = 0 ∨ p256N ≤ natOfBE k)
      then keyCmdRun .nothing 0x050E false (s.admitted p)
      else keyCmdRun (.make slot (newSlotAttr s s.newAttr p) k) 0 false (s.admitted p)) := by
  change execKeyDerive m slot false s = _
  rw [execKeyDerive, keyCommand_of_core hm hissues hbusy hlocked]
  dsimp only
  rw [← hp, if_neg (by simp [hnew]), keyAdmit_granted hadmit, if_neg (by simp), ← hk]

theorem answers_keyDerive {slot : Fin 256} {p : Nat} {k : List Byte} (hm : m = .cpu0 ∨ m = .cpu1) (hissues : s.issues m = true)
    (hbusy : s.has Fld.KEYSTORE_RESULT_BUSY = false) (hlocked : s.has Fld.KEYSTORE_STAT_LOCKED = false) (hp : p = attrParent s.newAttr)
    (hk : k = kdf (s.keyBytes p) (bytesBE 2 (attrLabel s.newAttr) ++ [0#8] ++ keyContext s ++ bytesBE 1 (attrType s.newAttr)) (keyOctets (attrType s.newAttr)))
    (hnew : newSlotCode s s.newAttr slot p = 0)
    (hadmit : admitCode { slot := p, masters := masterBit (masterBlock m), op := 4, types := [2, 4], block := masterBlock m, checkFails := false } s = 0) :
    Answers (exec (.keyDerive m slot false) s) fun t =>
      t.keys = { s.keys with cmd := (if attrType s.newAttr = 3 ∧ (natOfBE k = 0 ∨ p256N ≤ natOfBE k) then some (.nothing, 0x050E) else some (.make slot (newSlotAttr s s.newAttr p) k, 0)), cmdWaits := false }
      ∧ t.has Fld.KEYSTORE_RESULT_BUSY = true
      ∧ RegsBut [Reg.KEYSTORE_RESULT, Reg.KEYSTORE_CNT 0, Reg.KEYSTORE_CNT 1, Reg.KEYSTORE_SLOTATTR p 2] s t
      ∧ t = { s with regs := t.regs, keys := t.keys, edges := t.edges } := by
  have hexec := exec_keyDerive hm hissues hbusy hlocked hp hk hnew hadmit
  by_cases hbad : attrType s.newAttr = 3 ∧ (natOfBE k = 0 ∨ p256N ≤ natOfBE k)
  case pos =>
    rw [if_pos hbad] at hexec ⊢
    exact answers_keyCmdRun_admitted hexec
  case neg =>
    rw [if_neg hbad] at hexec ⊢
    exact answers_keyCmdRun_admitted hexec

theorem exec_keyImport {slot : Fin 256} {arg : BitVec 16} {b n p : Nat} {a : List Word} (hm : m = .cpu0 ∨ m = .cpu1)
    (hissues : s.issues m = true) (hbusy : s.has Fld.KEYSTORE_RESULT_BUSY = false) (hlocked : s.has Fld.KEYSTORE_STAT_LOCKED = false)
    (hb : b = 0x40054000 + arg.toNat) (ha : a = (List.range 7).map (fun w => s.word (b + 4 * w))) (hn : n = keyOctets (attrType a))
    (hp : p = attrParent s.newAttr) (haligned : arg.toNat % 4 = 0) (hfits : arg.toNat + 57 + n ≤ 16384) (hnew : newSlotCode s a slot p = 0)
    (hadmit : admitCode { slot := p, masters := masterBit (masterBlock m), op := 5, types := [0, 1, 2], block := masterBlock m, checkFails := false } s = 0) :
    exec (.keyImport m slot arg false) s = .next
      (if ccmTag (s.keyBytes p) (s.bytes (b + 28) 13) (s.bytes b 28) (ccmData (s.keyBytes p) (s.bytes (b + 28) 13) (s.bytes (b + 41) n)) 16 = s.bytes (b + 41 + n) 16
      then keyCmdRun (.make slot (newSlotAttr s a p) (ccmData (s.keyBytes p) (s.bytes (b + 28) 13) (s.bytes (b + 41) n))) 0 false (s.admitted p)
      else keyCmdRun .nothing 0x050D false (s.admitted p)) := by
  change execKeyImport m slot arg false s = _
  rw [execKeyImport, keyCommand_of_core hm hissues hbusy hlocked]
  dsimp only
  rw [← hb, ← ha, ← hn, ← hp, if_neg (by omega), if_neg (by simp [hnew]), keyAdmit_granted hadmit, if_neg (by simp)]

theorem answers_keyImport {slot : Fin 256} {arg : BitVec 16} {b n p : Nat} {a : List Word} (hm : m = .cpu0 ∨ m = .cpu1)
    (hissues : s.issues m = true) (hbusy : s.has Fld.KEYSTORE_RESULT_BUSY = false) (hlocked : s.has Fld.KEYSTORE_STAT_LOCKED = false)
    (hb : b = 0x40054000 + arg.toNat) (ha : a = (List.range 7).map (fun w => s.word (b + 4 * w))) (hn : n = keyOctets (attrType a))
    (hp : p = attrParent s.newAttr) (haligned : arg.toNat % 4 = 0) (hfits : arg.toNat + 57 + n ≤ 16384) (hnew : newSlotCode s a slot p = 0)
    (hadmit : admitCode { slot := p, masters := masterBit (masterBlock m), op := 5, types := [0, 1, 2], block := masterBlock m, checkFails := false } s = 0) :
    Answers (exec (.keyImport m slot arg false) s) fun t =>
      t.keys = { s.keys with cmd := (if ccmTag (s.keyBytes p) (s.bytes (b + 28) 13) (s.bytes b 28) (ccmData (s.keyBytes p) (s.bytes (b + 28) 13) (s.bytes (b + 41) n)) 16 = s.bytes (b + 41 + n) 16 then some (.make slot (newSlotAttr s a p) (ccmData (s.keyBytes p) (s.bytes (b + 28) 13) (s.bytes (b + 41) n)), 0) else some (.nothing, 0x050D)), cmdWaits := false }
      ∧ t.has Fld.KEYSTORE_RESULT_BUSY = true
      ∧ RegsBut [Reg.KEYSTORE_RESULT, Reg.KEYSTORE_CNT 0, Reg.KEYSTORE_CNT 1, Reg.KEYSTORE_SLOTATTR p 2] s t
      ∧ t = { s with regs := t.regs, keys := t.keys, edges := t.edges } := by
  have hexec := exec_keyImport hm hissues hbusy hlocked hb ha hn hp haligned hfits hnew hadmit
  by_cases htag : ccmTag (s.keyBytes p) (s.bytes (b + 28) 13) (s.bytes b 28) (ccmData (s.keyBytes p) (s.bytes (b + 28) 13) (s.bytes (b + 41) n)) 16 = s.bytes (b + 41 + n) 16
  case pos =>
    rw [if_pos htag] at hexec ⊢
    exact answers_keyCmdRun_admitted hexec
  case neg =>
    rw [if_neg htag] at hexec ⊢
    exact answers_keyCmdRun_admitted hexec

theorem answers_keyRestrict {slot : Fin 256} (hm : m = .cpu0 ∨ m = .cpu1) (hissues : s.issues m = true)
    (hbusy : s.has Fld.KEYSTORE_RESULT_BUSY = false) (hlocked : s.has Fld.KEYSTORE_STAT_LOCKED = false) (h0 : slot.val ≠ 0)
    (hvalid : s.keySt slot = 1) (hnarrow : narrows s slot s.newAttr = true) : Answers (exec (.keyRestrict m slot) s) fun t =>
      t.keys = { s.keys with cmd := some (.narrow slot (attrBuild s.newAttr (s.get (keyParent slot)) (s.get (keyDepth slot)) (attrExprst s.newAttr)), 0), cmdWaits := false }
      ∧ t.has Fld.KEYSTORE_RESULT_BUSY = true ∧ RegsBut [Reg.KEYSTORE_RESULT] s t ∧ t = { s with regs := t.regs, keys := t.keys } := by
  refine answers_keyCmdRun ?_
  change execKeyRestrict m slot s = _
  rw [execKeyRestrict, keyCommand_of_core hm hissues hbusy hlocked]
  dsimp only
  rw [if_neg h0, if_neg (by simp [hvalid]), if_neg (by simp [hnarrow])]

theorem onlyIn_drbgDraw : OnlyIn [.trng, .freeCounter] s (drbgDraw n s).2 := .of_frame rfl

theorem OnlyIn.frame_drawn (h : OnlyIn [.regs, .keys] (drbgDraw 32 s).2 t) :
    t = { s with regs := t.regs, keys := t.keys, freeCounter := s.freeCounter + 1, trng := { s.trng with generates := s.trng.generates + 1 } } :=
  h.frame_regs_keys

theorem answers_keyRootgen (hm : m = .cpu0 ∨ m = .cpu1) (hissues : s.issues m = true)
    (hbusy : s.has Fld.KEYSTORE_RESULT_BUSY = false) (hlocked : s.has Fld.KEYSTORE_STAT_LOCKED = false)
    (hlc : s.get Fld.KEYSTORE_STAT_LC = 0 ∨ s.get Fld.KEYSTORE_STAT_LC = 1) (hready : s.drbgReady = true) :
    Answers (exec (.keyRootgen m) s) fun t =>
      t.keys = { s.keys with cmd := some (.root (bytesBE 32 s.freeNat), 0), cmdWaits := false } ∧ t.has Fld.KEYSTORE_RESULT_BUSY = true
      ∧ RegsBut [Reg.KEYSTORE_RESULT] s t
      ∧ t = { s with regs := t.regs, keys := t.keys, freeCounter := s.freeCounter + 1, trng := { s.trng with generates := s.trng.generates + 1 } } := by
  have hexec : exec (.keyRootgen m) s = .next (keyCmdRun (.root (bytesBE 32 s.freeNat)) 0 false (drbgDraw 32 s).2) := by
    change execKeyRootgen m s = _
    rw [execKeyRootgen, keyCommand_of_core hm hissues hbusy hlocked, if_neg (by omega), if_neg (by simp [hready]), if_neg (by omega)]
    rfl
  refine .of_eq hexec ⟨?_, has_BUSY_keyCmdRun, ?_, OnlyIn.frame_drawn onlyIn_keyCmdRun⟩
  · rw [keys_keyCmdRun, onlyIn_drbgDraw.keys (by decide)]
  · exact (RegsBut.of_regs (onlyIn_drbgDraw.regs (by decide))).trans regsBut_keyCmdRun

/-! ### A slot marked DEAD -/

/-- The descendants of dead slots that are not refused yet. -/
def State.doomed (s : State) : List Nat :=
  (List.range 256).filter (fun n => s.keySt n == 1 && s.keyDoomed 8 n && !s.keys.orphans.contains n)

/-- They are refused from now on, and the sweep is to visit every slot. -/
def State.orphaned (s : State) : State := sweepStart { s with keys := { s.keys with orphans := s.keys.orphans ++ s.doomed } }

theorem onlyIn_orphaned : OnlyIn [.keys] s s.orphaned := .of_frame rfl

theorem sweep_orphaned : s.orphaned.keys.sweep.map Prod.snd = some 256 := rfl

theorem markDead_one (h0 : n ≠ 0) (hvalid : s.keySt n = 1) : markDead [n] s = (s.keyStPut n 2).orphaned := by
  have hhit : [n].filter (fun n => n != 0 && s.keySt n == 1) = [n] := by simp [h0, hvalid]
  rw [markDead, hhit, ← setKeySt_kept (by rw [hvalid]; decide) (by decide), if_neg (by simp)]
  rfl

theorem answers_keyInvalidate {slot : Fin 256} (hm : m = .cpu0 ∨ m = .cpu1) (hissues : s.issues m = true)
    (hbusy : s.has Fld.KEYSTORE_RESULT_BUSY = false) (hlocked : s.has Fld.KEYSTORE_STAT_LOCKED = false) (h0 : slot.val ≠ 0)
    (hvalid : s.keySt slot = 1) : Answers (exec (.keyInvalidate m slot) s) fun t =>
      t.keySt slot = 2 ∧ t.bit (Reg.KEYSTORE_VALID (slot.val / 32)) (slot.val % 32) = false ∧ t.has Fld.KEYSTORE_RESULT_BUSY = true
      ∧ t.keys.cmd = some (.nothing, 0) ∧ t.keys.cmdWaits = true ∧ t.keys.sweep.map Prod.snd = some 256
      ∧ RegsBut [Reg.KEYSTORE_SLOTATTR slot 1, Reg.KEYSTORE_VALID (slot.val / 32), Reg.KEYSTORE_RESULT] s t
      ∧ t = { s with regs := t.regs, keys := t.keys } := by
  have hexec : exec (.keyInvalidate m slot) s = .next (keyCmdRun .nothing 0 true (s.keyStPut slot 2).orphaned) := by
    change execKeyInvalidate m slot s = _
    rw [execKeyInvalidate, keyCommand_of_core hm hissues hbusy hlocked, if_neg h0, if_neg (by simp [hvalid]), markDead_one h0 hvalid]
  have hregs : RegsBut [Reg.KEYSTORE_RESULT] (s.keyStPut slot 2) (keyCmdRun .nothing 0 true (s.keyStPut slot 2).orphaned) :=
    (RegsBut.of_regs (onlyIn_orphaned.regs (by decide))).trans regsBut_keyCmdRun
  have hattr : Reg.KEYSTORE_SLOTATTR slot 1 ∉ [Reg.KEYSTORE_RESULT] := by
    simp only [Reg.KEYSTORE_SLOTATTR, Reg.KEYSTORE_RESULT, List.mem_singleton]
    omega
  have hmirror : Reg.KEYSTORE_VALID (slot.val / 32) ∉ [Reg.KEYSTORE_RESULT] := by
    simp only [Reg.KEYSTORE_VALID, Reg.KEYSTORE_RESULT, List.mem_singleton]
    omega
  refine .of_eq hexec ⟨?_, ?_, has_BUSY_keyCmdRun, rfl, rfl, sweep_orphaned, ?_, ?_⟩
  · exact (hregs.get hattr).trans (keySt_keyStPut slot.isLt)
  · rw [hregs.bit hmirror, bit_keyStPut]
    rfl
  · exact (regsBut_keyStPut.mono (by simp)).trans (hregs.mono (by simp))
  · exact (((onlyIn_keyStPut.mono (by decide)).trans (onlyIn_orphaned.mono (by decide))).trans onlyIn_keyCmdRun).frame_regs_keys

end Sys2Proof.Machine
end

section
/-!
SUPPORT. The ends of the key store's commands (R630), the sweep (R453) and the refresh of the masks (R455, R456).
-/

namespace Sys2Proof.Machine

variable {s t : State} {n c left : Nat} {x : List Byte} {e : KeyEnd}

/-! ### The end of a command -/

/-- No command runs any more. -/
def State.cmdCleared (s : State) : State := { s with keys := { s.keys with cmd := none, cmdWaits := false } }

theorem onlyIn_cmdCleared : OnlyIn [.keys] s s.cmdCleared := .of_frame rfl

/-- The end of a command before its event. -/
def keyCmdOver (c : Nat) (s : State) : State := (s.put Fld.KEYSTORE_RESULT_CODE c).unflag Fld.KEYSTORE_RESULT_BUSY

theorem keyCmdEnd_eq : keyCmdEnd c s = (keyCmdOver c s.cmdCleared).fire EV.KEYSTORE_DONE := rfl

theorem onlyIn_keyCmdOver : OnlyIn [.regs] s (keyCmdOver c s) := by simp [keyCmdOver]

theorem regsBut_keyCmdOver : RegsBut [Reg.KEYSTORE_RESULT] s (keyCmdOver c s) :=
  (regsBut_unflag (by decide)).mpr ((regsBut_put (by decide)).mpr RegsBut.refl)

theorem onlyIn_keyCmdEnd : OnlyIn [.regs, .keys, .edges] s (keyCmdEnd c s) := by
  rw [keyCmdEnd_eq, onlyIn_fire (by decide)]
  exact (onlyIn_cmdCleared.mono (by decide)).trans (onlyIn_keyCmdOver.mono (by decide))

theorem regsBut_keyCmdEnd : RegsBut [Reg.KEYSTORE_RESULT] s (keyCmdEnd c s) := by
  rw [keyCmdEnd_eq, regsBut_fire]
  exact (RegsBut.of_regs (onlyIn_cmdCleared.regs (by decide))).trans regsBut_keyCmdOver

theorem get_CODE_keyCmdEnd : (keyCmdEnd c s).get Fld.KEYSTORE_RESULT_CODE = c % 2 ^ 16 := by
  rw [keyCmdEnd_eq, State.get_fire, keyCmdOver, State.unflag_eq_put, State.get_put_bitsApart rfl rfl, State.get_put_fits rfl]
  rfl

theorem has_BUSY_keyCmdEnd : (keyCmdEnd c s).has Fld.KEYSTORE_RESULT_BUSY = false := by
  rw [keyCmdEnd_eq, State.has_fire, keyCmdOver, State.has_unflag_fits rfl]

theorem keys_keyCmdEnd : (keyCmdEnd c s).keys = { s.keys with cmd := none, cmdWaits := false } := by
  rw [keyCmdEnd_eq, State.fire_keys, onlyIn_keyCmdOver.keys (by decide)]
  rfl

theorem edges_keyCmdEnd : (keyCmdEnd c s).edges = s.edges ++ [.producer EV.KEYSTORE_DONE] := by
  rw [keyCmdEnd_eq]
  exact congrArg (· ++ _) ((onlyIn_keyCmdOver.edges (by decide)).trans (onlyIn_cmdCleared.edges (by decide)))

theorem fires_keyCmdEnd (h : t.edges = s.edges) : Fires [EV.KEYSTORE_DONE] s (keyCmdEnd c t) :=
  .of_append (by rw [edges_keyCmdEnd, h])

/-- What a command leaves beside its code. -/
def keyEffect (e : KeyEnd) (s : State) : State :=
  match e with
  | .make n attr m => makeSlot n attr m s
  | .narrow n attr =>
    if s.keySt n = 1 then
      let u := s.get (keyUses n)
      let s := (putKeyAttr n attr s).put (keyState n) 1
      if s.get (keyUses n) ≤ u then s else s.put (keyUses n) u
    else s
  | .root m => loadRoot { s with backup := { s.backup with root := m } }
  | .nothing => s

theorem onlyIn_withRoot : OnlyIn [.backup] s { s with backup := { s.backup with root := x } } := .of_frame rfl

theorem onlyIn_keyEffect : OnlyIn [.regs, .keys, .backup] s (keyEffect e s) := by
  match e with
  | .make n attr m => exact onlyIn_makeSlot.mono (by decide)
  | .narrow n attr =>
    have h : OnlyIn [.regs, .keys, .backup] s ((putKeyAttr n attr s).put (keyState n) 1) :=
      (onlyIn_put (by decide)).mpr (onlyIn_putKeyAttr.mono (by decide))
    exact OnlyIn.ite (OnlyIn.ite h ((onlyIn_put (by decide)).mpr h)) .refl
  | .root m => exact (onlyIn_withRoot.mono (by decide)).trans (onlyIn_loadRoot.mono (by decide))
  | .nothing => exact .refl

theorem exec_keyCmdDone (hwaits : s.keys.cmdWaits = false) (hcmd : s.keys.cmd = some (e, c)) :
    exec .keyCmdDone s = .next (keyCmdEnd c (keyEffect e s)) := by
  change execKeyCmdDone s = _
  rw [execKeyCmdDone, hcmd]
  dsimp only
  rw [if_neg (by simp [hwaits])]
  cases e <;> rfl

theorem keyBytes_flag {f : Field} : (s.flag f).keyBytes n = s.keyBytes n := rfl
theorem keyBytes_unflag {f : Field} : (s.unflag f).keyBytes n = s.keyBytes n := rfl

theorem keyBytes_loadRoot : (loadRoot s).keyBytes 0 = s.backup.root := by
  rw [loadRoot]
  split
  case isTrue h =>
    rw [List.isEmpty_iff.mp h, keyBytes_unflag, keyBytes_setKeyBytes]
  case isFalse => rw [keyBytes_flag, keyBytes_setKeyBytes]

theorem has_ROOTOK_loadRoot_eq : (loadRoot s).has Fld.KEYSTORE_STAT_ROOTOK = !s.backup.root.isEmpty := by
  rw [loadRoot]
  split
  case isTrue h => rw [State.has_unflag_fits rfl, h]; rfl
  case isFalse h =>
    rw [State.flag_eq_put, State.has_put_fits rfl, Bool.eq_false_iff.mpr h]
    rfl

theorem backup_loadRoot : (loadRoot s).backup = s.backup := onlyIn_loadRoot.backup (by decide)

theorem keyBytes_keyCmdEnd : (keyCmdEnd c s).keyBytes n = s.keyBytes n := by
  rw [State.keyBytes, State.keyBytes, keys_keyCmdEnd]

theorem answers_keyCmdDone (hwaits : s.keys.cmdWaits = false) (hcmd : s.keys.cmd = some (e, c)) : Answers (exec .keyCmdDone s) fun t =>
    t.get Fld.KEYSTORE_RESULT_CODE = c % 2 ^ 16 ∧ t.has Fld.KEYSTORE_RESULT_BUSY = false ∧ t.keys.cmd = none
    ∧ Fires [EV.KEYSTORE_DONE] s t
    ∧ (∀ m, e = .root m → t.backup.root = m ∧ t.keyBytes 0 = m ∧ t.has Fld.KEYSTORE_STAT_ROOTOK = !m.isEmpty)
    ∧ (e = .nothing → RegsBut [Reg.KEYSTORE_RESULT] s t) := by
  refine .of_eq (exec_keyCmdDone hwaits hcmd) ⟨get_CODE_keyCmdEnd, has_BUSY_keyCmdEnd, ?_, ?_, ?_, ?_⟩
  · rw [keys_keyCmdEnd]
  · exact fires_keyCmdEnd (onlyIn_keyEffect.edges (by decide))
  · rintro m rfl
    rw [onlyIn_keyCmdEnd.backup (by decide), keyBytes_keyCmdEnd, regsBut_keyCmdEnd.has (by decide), keyEffect, backup_loadRoot,
      keyBytes_loadRoot, has_ROOTOK_loadRoot_eq]
    exact ⟨rfl, rfl, rfl⟩
  · rintro rfl
    exact regsBut_keyCmdEnd

theorem answers_keyCmdDone_make {slot : Fin 256} {a : List Word} {p d y : Nat} {key : List Byte} (h0 : slot.val ≠ 0)
    (hwaits : s.keys.cmdWaits = false) (ha : a.length = 7) (hy : y ≤ 1)
    (hcmd : s.keys.cmd = some (.make slot (attrBuild a p d y) key, 0)) : Answers (exec .keyCmdDone s) fun t =>
      t.keySt slot = 1 ∧ t.keyBytes slot = key ∧ t.bit (Reg.KEYSTORE_VALID (slot.val / 32)) (slot.val % 32) = true
      ∧ t.get (keyMasters slot) = attrMasters a ∧ t.get (keyOps slot) = attrOps a ∧ t.get (keyLcmask slot) = attrLcmask a
      ∧ t.get Fld.KEYSTORE_STAT_FREE = s.get Fld.KEYSTORE_STAT_FREE - 1 ∧ t.get Fld.KEYSTORE_RESULT_CODE = 0
      ∧ t.has Fld.KEYSTORE_RESULT_BUSY = false ∧ t.keys.cmd = none ∧ Fires [EV.KEYSTORE_DONE] s t
      ∧ RegsBut ([Reg.KEYSTORE_VALID (slot.val / 32), Reg.KEYSTORE_STAT, Reg.KEYSTORE_RESULT] ++ (List.range 7).map (Reg.KEYSTORE_SLOTATTR slot)) s t
      ∧ t = { s with regs := t.regs, keys := t.keys, edges := t.edges } := by
  have hexec : exec .keyCmdDone s = .next (keyCmdEnd 0 (makeSlot slot (attrBuild a p d y) key s)) := by
    rw [exec_keyCmdDone hwaits hcmd, keyEffect]
  have hattr : Reg.KEYSTORE_SLOTATTR slot 1 ∉ [Reg.KEYSTORE_RESULT] := by
    simp only [Reg.KEYSTORE_SLOTATTR, Reg.KEYSTORE_RESULT, List.mem_singleton]
    omega
  have hmirror : Reg.KEYSTORE_VALID (slot.val / 32) ∉ [Reg.KEYSTORE_RESULT] := by
    simp only [Reg.KEYSTORE_VALID, Reg.KEYSTORE_RESULT, List.mem_singleton]
    omega
  have hmake : OnlyIn [.regs, .keys] s (makeSlot slot (attrBuild a p d y) key s) := onlyIn_makeSlot
  obtain ⟨hmasters, hops, hlcmask, -⟩ := fields_attrBuild (n := slot) (p := p) (d := d) (s := s) ha hy
  refine .of_eq hexec ⟨?_, ?_, ?_, ?_, ?_, ?_, ?_, get_CODE_keyCmdEnd, has_BUSY_keyCmdEnd, ?_, fires_keyCmdEnd (hmake.edges (by decide)), ?_, ?_⟩
  · exact (regsBut_keyCmdEnd.get hattr).trans (keySt_makeSlot slot.isLt h0 ha hy)
  · rw [keyBytes_keyCmdEnd, keyBytes_makeSlot]
  · rw [regsBut_keyCmdEnd.bit hmirror, bit_makeSlot h0 ha hy]
  · exact ((regsBut_keyCmdEnd.get hattr).trans (get_makeSlot slot.isLt h0 ha hy rfl rfl)).trans hmasters
  · exact ((regsBut_keyCmdEnd.get hattr).trans (get_makeSlot slot.isLt h0 ha hy rfl rfl)).trans hops
  · exact ((regsBut_keyCmdEnd.get hattr).trans (get_makeSlot slot.isLt h0 ha hy rfl rfl)).trans hlcmask
  · rw [regsBut_keyCmdEnd.get (by decide), get_FREE_makeSlot h0 ha hy]
  · rw [keys_keyCmdEnd]
  · refine ((regsBut_makeSlot (length_attrBuild ha)).mono fun b hb => ?_).trans (regsBut_keyCmdEnd.mono (by simp))
    simp only [List.mem_append, List.mem_cons, List.not_mem_nil, or_false] at hb ⊢
    tauto
  · exact ((hmake.mono (by decide)).trans onlyIn_keyCmdEnd).frame_regs_keys_edges

/-! ### The sweep -/

/-- A slot that is zeroed loses its attribute words, its octets and its place among the refused ones. -/
def State.slotZeroed (n : Nat) (s : State) : State :=
  s.forEach (List.range 8) (fun w s => s.wr (Reg.KEYSTORE_SLOTATTR n w) 0)
def State.slotForgotten (n : Nat) (s : State) : State :=
  { s with keys := { s.keys with material := sparseSet (fun _ => []) n [] s.keys.material, orphans := s.keys.orphans.filter (fun k => k != n) } }

theorem freeKeySlot_eq : freeKeySlot n s = ((setKeySt n 0 s).slotZeroed n).slotForgotten n := rfl

theorem onlyIn_slotZeroed : OnlyIn [.regs] s (s.slotZeroed n) := .forEach (fun _ _ => (onlyIn_wr (by decide)).mpr .refl) .refl

theorem regsBut_slotZeroed : RegsBut ((List.range 8).map (Reg.KEYSTORE_SLOTATTR n)) s (s.slotZeroed n) := by
  refine fun a ha => State.rd_forEach fun w hw _ => State.rd_wr_ne ?_
  rintro rfl
  exact ha (List.mem_map_of_mem hw)

theorem keySt_slotZeroed : (s.slotZeroed n).keySt n = 0 := by
  have hrd : (s.slotZeroed n).rd (Reg.KEYSTORE_SLOTATTR n 1) = 0 :=
    rd_forEach_range (R := Reg.KEYSTORE_SLOTATTR n) (v := fun _ => 0) (fun _ _ => slotattr_injective) (by decide : 1 < 8)
  rw [State.keySt, State.get, keyState, hrd]
  simp

theorem onlyIn_slotForgotten : OnlyIn [.keys] s (s.slotForgotten n) := .of_frame rfl

theorem keyBytes_slotForgotten : (s.slotForgotten n).keyBytes n = [] := by
  change sparseGet (fun _ => []) (sparseSet (fun _ => []) n [] s.keys.material) n = []
  exact sparseGet_set_self

theorem sweep_slotForgotten : (s.slotForgotten n).keys.sweep = s.keys.sweep := rfl

theorem onlyIn_freeKeySlot : OnlyIn [.regs, .keys] s (freeKeySlot n s) := by
  rw [freeKeySlot_eq]
  exact ((onlyIn_setKeySt.mono (by decide)).trans (onlyIn_slotZeroed.mono (by decide))).trans (onlyIn_slotForgotten.mono (by decide))

theorem regsBut_freeKeySlot : RegsBut ([Reg.KEYSTORE_VALID (n / 32), Reg.KEYSTORE_STAT] ++ (List.range 8).map (Reg.KEYSTORE_SLOTATTR n)) s
    (freeKeySlot n s) := by
  rw [freeKeySlot_eq]
  refine ((regsBut_setKeySt.mono ?_).trans (regsBut_slotZeroed.mono (List.subset_append_right _ _))).trans
    (.of_regs (onlyIn_slotForgotten.regs (by decide)))
  simp [List.range_succ]

theorem keySt_freeKeySlot : (freeKeySlot n s).keySt n = 0 := by
  rw [freeKeySlot_eq, State.keySt, State.get_congr (onlyIn_slotForgotten.regs (by decide))]
  exact keySt_slotZeroed

theorem keyBytes_freeKeySlot : (freeKeySlot n s).keyBytes n = [] := keyBytes_slotForgotten

theorem get_FREE_freeKeySlot (h0 : n ≠ 0) (hwas : s.keySt n ≠ 0) :
    (freeKeySlot n s).get Fld.KEYSTORE_STAT_FREE = (s.get Fld.KEYSTORE_STAT_FREE + 1) % 256 := by
  have hfree : ∀ {u : State}, (u.slotZeroed n).get Fld.KEYSTORE_STAT_FREE = u.get Fld.KEYSTORE_STAT_FREE := fun {u} =>
    State.get_eq_of_rd (State.rd_forEach fun w _ _ => State.rd_wr_ne stat_ne_slotattr)
  rw [freeKeySlot_eq, State.get_congr (onlyIn_slotForgotten.regs (by decide)), hfree, setKeySt_freed h0 hwas, State.get_put_fits rfl]
  rfl

/-- The sweep goes on with the next slot. -/
def State.sweepNext (n left : Nat) (s : State) : State :=
  { s with keys := { s.keys with sweep := some ((n + 1) % 256, left - 1) } }

theorem onlyIn_sweepNext : OnlyIn [.keys] s (s.sweepNext n left) := .of_frame rfl

/-- The sweep is over. -/
def State.sweepOver (s : State) : State := { s with keys := { s.keys with sweep := none } }

theorem onlyIn_sweepOver : OnlyIn [.keys] s s.sweepOver := .of_frame rfl

/-- The sweep visits a slot. -/
def State.sweepVisited (n : Nat) (s : State) : State :=
  if n ≠ 0 ∧ (s.keySt n = 2 ∨ s.keys.orphans.contains n) then freeKeySlot n s else s

theorem keyBytes_sweepNext {k : Nat} : (s.sweepNext n left).keyBytes k = s.keyBytes k := rfl

theorem exec_keySweepStep (hsweep : s.keys.sweep = some (n, left)) : exec .keySweepStep s =
    if 1 < left then .next ((s.sweepVisited n).sweepNext n left)
    else .next (if (s.sweepVisited n).sweepOver.keys.cmdWaits then keyCmdEnd 0 (s.sweepVisited n).sweepOver else (s.sweepVisited n).sweepOver) := by
  change execKeySweepStep s = _
  rw [execKeySweepStep, hsweep]
  rfl

theorem exec_keySweepStep_next (hsweep : s.keys.sweep = some (n, left)) (hleft : 1 < left) (h0 : n ≠ 0) (hdead : s.keySt n = 2) :
    exec .keySweepStep s = .next ((freeKeySlot n s).sweepNext n left) := by
  rw [exec_keySweepStep hsweep, if_pos hleft, State.sweepVisited, if_pos ⟨h0, .inl hdead⟩]

theorem answers_keySweepStep_next (hsweep : s.keys.sweep = some (n, left)) (hleft : 1 < left) (h0 : n ≠ 0)
    (hdead : s.keySt n = 2) : Answers (exec .keySweepStep s) fun t =>
      t.keySt n = 0 ∧ t.keyBytes n = [] ∧ t.get Fld.KEYSTORE_STAT_FREE = (s.get Fld.KEYSTORE_STAT_FREE + 1) % 256
      ∧ t.keys.sweep = some ((n + 1) % 256, left - 1)
      ∧ RegsBut ([Reg.KEYSTORE_VALID (n / 32), Reg.KEYSTORE_STAT] ++ (List.range 8).map (Reg.KEYSTORE_SLOTATTR n)) s t
      ∧ t = { s with regs := t.regs, keys := t.keys } := by
  have hregs : ∀ {u : State}, (u.sweepNext n left).regs = u.regs := onlyIn_sweepNext.regs (by decide)
  refine .of_eq (exec_keySweepStep_next hsweep hleft h0 hdead) ⟨?_, ?_, ?_, rfl, ?_, ?_⟩
  · rw [State.keySt, State.get_congr hregs]
    exact keySt_freeKeySlot
  · rw [keyBytes_sweepNext, keyBytes_freeKeySlot]
  · rw [State.get_congr hregs, get_FREE_freeKeySlot h0 (by rw [hdead]; decide)]
  · exact regsBut_freeKeySlot.trans (.of_regs hregs)
  · exact (onlyIn_freeKeySlot.trans (onlyIn_sweepNext.mono (by decide))).frame_regs_keys

theorem answers_keySweepStep_last (hsweep : s.keys.sweep = some (0, 1)) (hwaits : s.keys.cmdWaits = true) :
    Answers (exec .keySweepStep s) fun t =>
      t.keys = { s.keys with sweep := none, cmd := none, cmdWaits := false } ∧ t.get Fld.KEYSTORE_RESULT_CODE = 0
      ∧ t.has Fld.KEYSTORE_RESULT_BUSY = false ∧ Fires [EV.KEYSTORE_DONE] s t ∧ RegsBut [Reg.KEYSTORE_RESULT] s t
      ∧ t = { s with regs := t.regs, keys := t.keys, edges := t.edges } := by
  have hexec : exec .keySweepStep s = .next (keyCmdEnd 0 s.sweepOver) := by
    have hvisited : s.sweepVisited 0 = s := if_neg fun h => h.1 rfl
    rw [exec_keySweepStep hsweep, if_neg (by decide), hvisited, if_pos (show s.sweepOver.keys.cmdWaits = true from hwaits)]
  refine .of_eq hexec ⟨?_, get_CODE_keyCmdEnd, has_BUSY_keyCmdEnd, fires_keyCmdEnd (onlyIn_sweepOver.edges (by decide)), ?_, ?_⟩
  · rw [keys_keyCmdEnd]
    rfl
  · exact (RegsBut.of_regs (onlyIn_sweepOver.regs (by decide))).trans regsBut_keyCmdEnd
  · exact ((onlyIn_sweepOver.mono (by decide)).trans onlyIn_keyCmdEnd).frame_regs_keys_edges

/-! ### The refresh -/

theorem refreshPassStart_of_ready (hpass : s.keys.pass = none) (hready : s.drbgReady = true) : refreshPassStart s =
    { (drbgDraw 32 s).2 with keys := { s.keys with pass := some 0, passWaits := false, nextMask := BitVec.ofNat 256 (natOfBE (bytesBE 32 s.freeNat)) } } := by
  rw [refreshPassStart, hpass, if_neg (by simp), if_neg (by simp [hready])]
  rfl

theorem answers_keyRefreshPass {byTask : Bool} (hpass : s.keys.pass = none) (hready : s.drbgReady = true) :
    Answers (exec (.keyRefreshPass byTask) s) fun t =>
      t.keys = { s.keys with pass := some 0, passWaits := false, nextMask := BitVec.ofNat 256 (natOfBE (bytesBE 32 s.freeNat)) }
      ∧ t = { s with keys := t.keys, tasks := t.tasks, freeCounter := s.freeCounter + 1, trng := { s.trng with generates := s.trng.generates + 1 } } := by
  cases byTask
  case false => exact .of_eq (congrArg Host.Outcome.next (refreshPassStart_of_ready hpass hready)) ⟨rfl, rfl⟩
  case true =>
    have hpass' : (s.takeTask TK.KEYSTORE_REFRESH).keys.pass = none := hpass
    have hready' : (s.takeTask TK.KEYSTORE_REFRESH).drbgReady = true := hready
    exact .of_eq (congrArg Host.Outcome.next (refreshPassStart_of_ready hpass' hready')) ⟨rfl, rfl⟩

/-- A refresh pass goes on, or is over. -/
def State.passAt (k : Nat) (s : State) : State := { s with keys := { s.keys with pass := some k } }
def State.passOver (s : State) : State := { s with keys := { s.keys with pass := none, mask := s.keys.nextMask } }

theorem onlyIn_stepResumed {k : Nat} : OnlyIn [.yielded] s (stepResumed k s) := .of_frame rfl
theorem onlyIn_passAt : OnlyIn [.keys] s (s.passAt n) := .of_frame rfl
theorem onlyIn_passOver : OnlyIn [.keys] s s.passOver := .of_frame rfl

theorem OnlyIn.frame_keys_yielded (h : OnlyIn [.keys, .yielded] s t) : t = { s with keys := t.keys, yielded := t.yielded } := h.frame
theorem OnlyIn.frame_regs_keys_edges_yielded (h : OnlyIn [.regs, .keys, .edges, .yielded] s t) :
    t = { s with regs := t.regs, keys := t.keys, edges := t.edges, yielded := t.yielded } := h.frame

/-- The refresh visits a slot. -/
def refreshVisited (fails lost : Bool) (n : Nat) (s : State) : State :=
  if fails ∧ s.keySt n = 1 then keyIntegrityFail n lost s else s

theorem refreshVisited_good {lost : Bool} : refreshVisited false lost n s = s := if_neg fun h => Bool.false_ne_true h.1

theorem exec_keyRefreshStep {lost : Bool} (hpass : s.keys.pass = some n) : exec (.keyRefreshStep false false lost) s =
    if n < 255 then .next ((stepResumed 3 s).passAt (n + 1))
    else .next (((stepResumed 3 s).passOver.inc Fld.KEYSTORE_CNT_PASSES).fire EV.KEYSTORE_MASKPASS) := by
  have hvisits : exec (.keyRefreshStep false false lost) s =
      if n < 255 then .next ((refreshVisited false lost n (stepResumed 3 s)).passAt (n + 1))
      else .next (((refreshVisited false lost n (stepResumed 3 s)).passOver.inc Fld.KEYSTORE_CNT_PASSES).fire EV.KEYSTORE_MASKPASS) := by
    change execKeyRefreshStep _ _ _ _ = _
    rw [execKeyRefreshStep, hpass]
    rfl
  rw [hvisits, refreshVisited_good]

theorem answers_keyRefreshStep_next {lost : Bool} (hpass : s.keys.pass = some n) (hn : n < 255) :
    Answers (exec (.keyRefreshStep false false lost) s) fun t => t.keys = { s.keys with pass := some (n + 1) }
      ∧ 3 ∉ t.yielded ∧ t = { s with keys := t.keys, yielded := t.yielded } := by
  have hexec : exec (.keyRefreshStep false false lost) s = .next ((stepResumed 3 s).passAt (n + 1)) := by
    rw [exec_keyRefreshStep hpass, if_pos hn]
  exact .of_eq hexec ⟨rfl, not_mem_yielded_stepResumed,
    ((onlyIn_stepResumed.mono (by decide)).trans (onlyIn_passAt.mono (by decide))).frame_keys_yielded⟩

theorem answers_keyRefreshStep_last {lost : Bool} (hpass : s.keys.pass = some 255) :
    Answers (exec (.keyRefreshStep false false lost) s) fun t =>
      t.keys = { s.keys with pass := none, mask := s.keys.nextMask } ∧ t.get Fld.KEYSTORE_CNT_PASSES = s.counted Fld.KEYSTORE_CNT_PASSES
      ∧ Fires [EV.KEYSTORE_MASKPASS] s t ∧ RegsBut [Reg.KEYSTORE_CNT 1] s t
      ∧ t = { s with regs := t.regs, keys := t.keys, edges := t.edges, yielded := t.yielded } := by
  have hexec : exec (.keyRefreshStep false false lost) s
      = .next (((stepResumed 3 s).passOver.inc Fld.KEYSTORE_CNT_PASSES).fire EV.KEYSTORE_MASKPASS) := by
    rw [exec_keyRefreshStep hpass, if_neg (by decide)]
  have hover : OnlyIn [.keys, .yielded] s (stepResumed 3 s).passOver :=
    (onlyIn_stepResumed.mono (by decide)).trans (onlyIn_passOver.mono (by decide))
  have hcounted : OnlyIn [.regs, .keys, .yielded] s ((stepResumed 3 s).passOver.inc Fld.KEYSTORE_CNT_PASSES) :=
    (onlyIn_inc (by decide)).mpr (hover.mono (by decide))
  refine .of_eq hexec ⟨?_, ?_, hcounted.fires_fire (by decide), ?_, ?_⟩
  · rw [State.fire_keys, State.inc_keys]
    rfl
  · rw [State.get_fire, State.get_inc_fits rfl, State.counted, State.get_congr (hover.regs (by decide)), State.counted]
  · rw [regsBut_fire, regsBut_inc (by decide)]
    exact .of_regs (hover.regs (by decide))
  · exact (hcounted.fire (by decide) (by decide)).frame_regs_keys_edges_yielded

theorem mem_yielded_yieldBackground : n ∈ (yieldBackground n s).yielded := by
  rw [yieldBackground]
  split
  case isTrue h => exact List.contains_iff_mem.mp h
  case isFalse => exact List.mem_append_right _ List.mem_cons_self

theorem keys_yieldBackground : (yieldBackground n s).keys = s.keys := by
  rw [yieldBackground]
  split <;> rfl

theorem answers_keyRefreshStep_yield {fails lost : Bool} (hpass : s.keys.pass = some n) :
    Answers (exec (.keyRefreshStep true fails lost) s) fun t => 3 ∈ t.yielded ∧ t.keys = s.keys := by
  have hexec : exec (.keyRefreshStep true fails lost) s = .next (yieldBackground 3 s) := by
    change execKeyRefreshStep _ _ _ _ = _
    rw [execKeyRefreshStep, hpass]
    rfl
  exact .of_eq hexec ⟨mem_yielded_yieldBackground, keys_yieldBackground⟩

/-- Settles O45: admissions, the commands, their ends, the sweep and the refresh, clause by clause. -/
theorem keySlotCommands : Obligations.KeySlotCommands := by
  intro s
  refine ⟨fun slot masters op types block r hr => ⟨answers_keyAdmit_granted hr, answers_keyAdmit_refused hr⟩, ?_, ?_, ?_, ?_, ?_,
    fun byTask hpass hready => answers_keyRefreshPass hpass hready, ?_⟩
  · intro m slot arg f c hc
    obtain ⟨locked, g, hg⟩ := exec_keyCommands (s := s) c hc
    refine ⟨fun h => by rw [hg, keyCommand_of_silent h], fun h => answers_keyCmdReject ?_⟩
    rcases h with hport | ⟨hissues, hbusy⟩
    · rw [hg, keyCommand_of_other (issues_of_port hport) (.inl hport)]
    · rw [hg, keyCommand_of_other hissues (.inr hbusy)]
  · intro m slot hm hissues hbusy hlocked
    refine ⟨fun p k hp hk hnew hadmit => answers_keyDerive hm hissues hbusy hlocked hp hk hnew hadmit,
      fun arg b n p a hb ha hn hp haligned hfits hnew hadmit =>
        answers_keyImport hm hissues hbusy hlocked hb ha hn hp haligned hfits hnew hadmit, ?_, ?_, ?_⟩
    · exact answers_keyInvalidate hm hissues hbusy hlocked
    · exact answers_keyRestrict hm hissues hbusy hlocked
    · exact answers_keyRootgen hm hissues hbusy hlocked
  · intro slot a p d y key h0 hwaits ha hy hcmd
    exact answers_keyCmdDone_make h0 hwaits ha hy hcmd
  · intro e code hwaits hcmd
    exact answers_keyCmdDone hwaits hcmd
  · intro p left hsweep
    refine ⟨fun hleft h0 hdead => answers_keySweepStep_next hsweep hleft h0 hdead, fun hleft h0 hwaits => ?_⟩
    rw [hleft, h0] at hsweep
    exact answers_keySweepStep_last hsweep hwaits
  · intro n lost hpass
    refine ⟨answers_keyRefreshStep_next hpass, fun hn => ?_, fun fails => answers_keyRefreshStep_yield hpass⟩
    rw [hn] at hpass
    exact answers_keyRefreshStep_last hpass

end Sys2Proof.Machine
end

section
/-!
SUPPORT. Tamper (R457 to R460): the zeroing of every key, a detection and its response, the latch and the lock.
-/

namespace Sys2Proof.Machine

variable {s t : State} {a n k : Nat} {v lf : Word}

/-! ### Every key zeroed -/

/-- The registers of the slots. -/
def slotReg (a : Nat) : Bool :=
  decide ((Reg.KEYSTORE_SLOTATTR 0 0 ≤ a ∧ a ≤ Reg.KEYSTORE_SLOTATTR 255 7) ∨ (Reg.KEYSTORE_VALID 0 ≤ a ∧ a ≤ Reg.KEYSTORE_VALID 7))
/-- The key register sets. -/
def setReg (a : Nat) : Bool := decide (Reg.CIPHER_KEY 0 0 ≤ a ∧ a ≤ Reg.CIPHER_KEY 7 7)

/-- Key RAM without its registers and the count of FREE slots. -/
def State.keyRamForgotten (s : State) : State := { s with keys := { s.keys with material := [], sweep := none, orphans := [] } }

theorem keyRamZero_eq : keyRamZero s = (s.resetRegs slotReg).keyRamForgotten.put Fld.KEYSTORE_STAT_FREE 255 := rfl

theorem onlyIn_keyRamForgotten : OnlyIn [.keys] s s.keyRamForgotten := .of_frame rfl

theorem onlyIn_keyRamZero : OnlyIn [.regs, .keys] s (keyRamZero s) := by
  rw [keyRamZero_eq, onlyIn_put (by decide)]
  exact ((onlyIn_resetRegs (by decide)).mpr .refl).trans (onlyIn_keyRamForgotten.mono (by decide))

theorem rd_keyRamZero (h : a ≠ Reg.KEYSTORE_STAT) : (keyRamZero s).rd a = if slotReg a then resetValue a else s.rd a := by
  rw [keyRamZero_eq, State.rd_put_other h, State.rd_congr (onlyIn_keyRamForgotten.regs (by decide)), State.rd_resetRegs]

theorem keyBytes_keyRamZero : (keyRamZero s).keyBytes n = [] := rfl

/-- The ephemeral key of the public-key engine dropped. -/
theorem allKeysZero_eq : allKeysZero s = ephDrop (keySetsZero (rootZero (keyRamZero s))) := rfl

theorem keySetsZero_eq : keySetsZero s = s.resetRegs setReg := rfl

theorem onlyIn_keySetsZero : OnlyIn [.regs] s (keySetsZero s) := (onlyIn_resetRegs (by decide)).mpr .refl

theorem onlyIn_allKeysZero : OnlyIn [.regs, .keys, .backup, .pke] s (allKeysZero s) := by
  rw [allKeysZero_eq]
  exact (((onlyIn_keyRamZero.mono (by decide)).trans (onlyIn_rootZero.mono (by decide))).trans
    (onlyIn_keySetsZero.mono (by decide))).trans (onlyIn_ephDrop.mono (by decide))

theorem rootZero_eq : rootZero s = loadRoot { s with backup := { s.backup with root := [] } } := rfl

/-- The root absent: slot 0's fixed attributes, FREE. -/
theorem loadRoot_absent (h : s.backup.root = []) : loadRoot s = State.unflag Fld.KEYSTORE_STAT_ROOTOK
    ((((putKeyAttr 0 rootAttr s).put (keyState 0) 0).putBit (Reg.KEYSTORE_VALID 0) 0 false).setKeyBytes 0 []) := by
  rw [loadRoot, if_pos (by rw [h]; rfl)]

theorem rd_setKeyBytes {x : List Byte} : (s.setKeyBytes n x).rd a = s.rd a := State.rd_congr rfl

/-- The root's attributes take seven registers. -/
theorem rd_putRootAttr (hattr : ∀ w, w < 7 → a ≠ Reg.KEYSTORE_SLOTATTR 0 w) : (putKeyAttr 0 rootAttr s).rd a = s.rd a :=
  State.rd_forEach fun y hy _ => State.rd_wr_ne (hattr y.2 (List.snd_lt_of_mem_zipIdx (l := rootAttr) hy))

theorem rd_loadRoot_absent (h : s.backup.root = []) (hattr : ∀ w, w < 7 → a ≠ Reg.KEYSTORE_SLOTATTR 0 w) (hvalid : a ≠ Reg.KEYSTORE_VALID 0)
    (hstat : a ≠ Reg.KEYSTORE_STAT) : (loadRoot s).rd a = s.rd a := by
  rw [loadRoot_absent h, State.unflag_eq_put, State.rd_put_other hstat, rd_setKeyBytes, State.putBit_eq_put, State.rd_put_other hvalid, State.rd_put_other (hattr 1 (by decide)),
    rd_putRootAttr hattr]

theorem keySt_loadRoot_absent (h : s.backup.root = []) : (loadRoot s).keySt 0 = 0 := by
  rw [loadRoot_absent h, State.keySt, State.unflag_eq_put, State.get_put_other stat_ne_slotattr.symm, get_setKeyBytes,
    State.putBit_eq_put, State.get_put_other (valid_ne_slotattr (n := 0) (by decide)).symm, State.get_put_fits rfl]
  rfl

theorem keyBytes_setKeyBytes_ne {x : List Byte} (h : n ≠ k) : (s.setKeyBytes k x).keyBytes n = s.keyBytes n := sparseGet_set_ne h

theorem keyBytes_loadRoot_absent (h : s.backup.root = []) (hold : s.keyBytes n = []) : (loadRoot s).keyBytes n = [] := by
  rw [loadRoot_absent h, keyBytes_unflag]
  by_cases hn : n = 0
  case pos => rw [hn, keyBytes_setKeyBytes]
  case neg =>
    have hkeys : (((putKeyAttr 0 rootAttr s).put (keyState 0) 0).putBit (Reg.KEYSTORE_VALID 0) 0 false).keys = s.keys := by
      rw [State.putBit_keys, State.put_keys, onlyIn_putKeyAttr.keys (by decide)]
    rw [keyBytes_setKeyBytes_ne hn, State.keyBytes, hkeys]
    exact hold

theorem rd_rootZero (hattr : ∀ w, w < 7 → a ≠ Reg.KEYSTORE_SLOTATTR 0 w) (hvalid : a ≠ Reg.KEYSTORE_VALID 0) (hstat : a ≠ Reg.KEYSTORE_STAT) :
    (rootZero s).rd a = s.rd a := by
  rw [rootZero_eq, rd_loadRoot_absent rfl hattr hvalid hstat]
  exact State.rd_congr rfl

theorem rd_ephDrop (h : a ≠ Reg.PKE_STAT) : (ephDrop s).rd a = s.rd a := regsBut_ephDrop a (by simpa using h)

/-- What the zeroing leaves in a register that holds no key and no state of one. -/
theorem rd_allKeysZero (hslot : slotReg a = false) (hset : setReg a = false) (hstat : a ≠ Reg.KEYSTORE_STAT) (hpke : a ≠ Reg.PKE_STAT)
    (hattr : ∀ w, w < 7 → a ≠ Reg.KEYSTORE_SLOTATTR 0 w) (hvalid : a ≠ Reg.KEYSTORE_VALID 0) : (allKeysZero s).rd a = s.rd a := by
  rw [allKeysZero_eq, rd_ephDrop hpke, keySetsZero_eq, State.rd_resetRegs, hset, if_neg (by decide), rd_rootZero hattr hvalid hstat,
    rd_keyRamZero hstat, hslot, if_neg (by decide)]

theorem state_ne_stat : (keyState n).addr ≠ Reg.KEYSTORE_STAT := stat_ne_slotattr.symm

theorem state_ne_valid : (keyState n).addr ≠ Reg.KEYSTORE_VALID 0 := (valid_ne_slotattr (n := 0) (by decide)).symm

theorem resetValue_state : resetValue (keyState n).addr = 0 ∨ 256 ≤ n := by
  by_cases h : n < 256
  case neg => exact .inr (not_lt.mp h)
  case pos =>
    have hall : ∀ n : Fin 256, resetValue (Reg.KEYSTORE_SLOTATTR n 1) = 0 := by decide +kernel
    exact .inl (hall ⟨n, h⟩)

theorem slotReg_state (h : n < 256) : slotReg (keyState n).addr = true := by
  rw [slotReg, decide_eq_true_eq]
  simp only [keyState, Reg.KEYSTORE_SLOTATTR]
  omega

theorem setReg_state : setReg (keyState n).addr = false := by
  rw [setReg, decide_eq_false_iff_not]
  simp only [keyState, Reg.KEYSTORE_SLOTATTR, Reg.CIPHER_KEY]
  omega

theorem keySt_keyRamZero (h : n < 256) : (keyRamZero s).keySt n = 0 := by
  have hreset : resetValue (keyState n).addr = 0 := resetValue_state.resolve_right (by omega)
  have hrd : (keyRamZero s).rd (keyState n).addr = 0 := by
    rw [rd_keyRamZero state_ne_stat, slotReg_state h, if_pos rfl, hreset]
  rw [State.keySt, State.get, hrd]
  simp

theorem keySt_rootZero (hold : s.keySt n = 0) : (rootZero s).keySt n = 0 := by
  by_cases hn : n = 0
  case pos =>
    rw [hn, rootZero_eq]
    exact keySt_loadRoot_absent rfl
  case neg =>
    have hattr : ∀ w, w < 7 → (keyState n).addr ≠ Reg.KEYSTORE_SLOTATTR 0 w := by
      intro w hw
      simp only [keyState, Reg.KEYSTORE_SLOTATTR]
      omega
    have hkept : (rootZero s).rd (keyState n).addr = s.rd (keyState n).addr := rd_rootZero hattr state_ne_valid state_ne_stat
    rw [State.keySt, State.get_eq_of_rd hkept]
    exact hold

/-- Every slot is FREE and empty. -/
theorem slots_allKeysZero (h : n < 256) : (allKeysZero s).keySt n = 0 ∧ (allKeysZero s).keyBytes n = [] := by
  constructor
  · have hpke : (keyState n).addr ≠ Reg.PKE_STAT := by
      simp only [keyState, Reg.KEYSTORE_SLOTATTR, Reg.PKE_STAT]
      omega
    have hkept : (allKeysZero s).rd (keyState n).addr = (rootZero (keyRamZero s)).rd (keyState n).addr := by
      rw [allKeysZero_eq, rd_ephDrop hpke, keySetsZero_eq, State.rd_resetRegs, setReg_state, if_neg (by decide)]
    rw [State.keySt, State.get_eq_of_rd hkept]
    exact keySt_rootZero (keySt_keyRamZero h)
  · have hkeys : (allKeysZero s).keys = (rootZero (keyRamZero s)).keys := by
      rw [allKeysZero_eq, onlyIn_ephDrop.keys (by decide), onlyIn_keySetsZero.keys (by decide)]
    rw [State.keyBytes, hkeys, rootZero_eq]
    exact keyBytes_loadRoot_absent rfl keyBytes_keyRamZero

theorem sets_allKeysZero (x w : Fin 8) : (allKeysZero s).rd (Reg.CIPHER_KEY x w) = 0 := by
  have hset : setReg (Reg.CIPHER_KEY x w) = true := by
    rw [setReg, decide_eq_true_eq]
    simp only [Reg.CIPHER_KEY]
    omega
  have hpke : Reg.CIPHER_KEY x w ≠ Reg.PKE_STAT := by
    simp only [Reg.CIPHER_KEY, Reg.PKE_STAT]
    omega
  have hreset : ∀ x w : Fin 8, resetValue (Reg.CIPHER_KEY x w) = 0 := by decide +kernel
  rw [allKeysZero_eq, rd_ephDrop hpke, keySetsZero_eq, State.rd_resetRegs, hset, if_pos rfl, hreset]

theorem root_allKeysZero : (allKeysZero s).backup.root = [] := by
  rw [allKeysZero_eq, onlyIn_ephDrop.backup (by decide), onlyIn_keySetsZero.backup (by decide), rootZero_eq, backup_loadRoot]

theorem eph_allKeysZero : (allKeysZero s).pke.eph = none := by rw [allKeysZero_eq, pke_ephDrop]

end Sys2Proof.Machine
end

section
/-!
SUPPORT. A tamper detection and its response (R458), the latch (R459) and the lock (R460).
-/

namespace Sys2Proof.Machine

variable {s t : State} {a n k : Nat} {v lf : Word}

/-! ### A detection -/

/-- The source shows as active; the time of the first latch; the latch, the count and the flag; the snapshot void. -/
def State.tamperSeen (k : Nat) (s : State) : State := s.putBit Reg.BKP_TAMPSTAT (8 + k) true
def State.tamperStamped (lf : Word) (s : State) : State :=
  if s.get Fld.BKP_TAMPSTAT_LATCH = 0 then s.put Fld.BKP_TAMPTIME_LFCNT lf.toNat else s
def State.tamperLatched (k : Nat) (s : State) : State :=
  ((s.putBit Reg.BKP_TAMPSTAT k true).inc Fld.BKP_TAMPCNT_EVENTS).flag Fld.KEYSTORE_FLAGS_TAMPER
def State.snapshotVoid (s : State) : State := { s with snapshot := { s.snapshot with valid := false } }

/-- The last step of the response: no command runs, and the store is locked. -/
def State.storeLocked (s : State) : State := (s.cmdCleared.unflag Fld.KEYSTORE_RESULT_BUSY).flag Fld.KEYSTORE_STAT_LOCKED

/-- The event of a detection, and its lifetime count. -/
def State.tamperFired (s : State) : State := lifeCount 18 24 8 1 (s.fire EV.KEYSTORE_TAMPER)

theorem onlyIn_tamperSeen : OnlyIn [.regs] s (s.tamperSeen k) := (onlyIn_putBit (by decide)).mpr .refl

theorem regsBut_tamperSeen : RegsBut [Reg.BKP_TAMPSTAT] s (s.tamperSeen k) := (regsBut_putBit (by decide)).mpr RegsBut.refl

theorem get_LATCH_tamperSeen (hk : k < 8) : (s.tamperSeen k).get Fld.BKP_TAMPSTAT_LATCH = s.get Fld.BKP_TAMPSTAT_LATCH := by
  have hfits : (Field.mk Reg.BKP_TAMPSTAT (8 + k) 1).fits = true := by
    rw [Field.fits_mk, decide_eq_true_eq]
    omega
  have happart : (Field.mk Reg.BKP_TAMPSTAT (8 + k) 1).bitsApart Fld.BKP_TAMPSTAT_LATCH = true := by
    rw [Fld.BKP_TAMPSTAT_LATCH, Field.bitsApart_mk, Bool.or_eq_true, decide_eq_true_eq, decide_eq_true_eq]
    omega
  rw [State.tamperSeen, State.putBit_eq_put, State.get_put_bitsApart hfits happart]

/-- A detection up to its event, and the whole response. -/
def State.tamperNoted (k : Nat) (lf : Word) (s : State) : State := (((s.tamperSeen k).tamperStamped lf).tamperLatched k).snapshotVoid
def State.tamperZeroed (s : State) : State := (allKeysZero s.tamperFired).storeLocked

/-- A detection from its latch on. -/
def State.tamperAnswered (k : Nat) (lf : Word) (s : State) : State :=
  lifeCount 18 24 8 1 (if (s.tamperNoted k lf).domOn 1 then (s.tamperNoted k lf).fire EV.KEYSTORE_TAMPER else s.tamperNoted k lf)

theorem exec_tamperDetect {k : Fin 8} : exec (.tamperDetect k lf) s =
    if (s.tamperSeen k).get Fld.BKP_TAMPCFG_RESP / 4 ^ k.val % 4 = 0 then .next (s.tamperSeen k)
    else if (s.tamperSeen k).get Fld.BKP_TAMPCFG_RESP / 4 ^ k.val % 4 = 1 then .next (s.tamperAnswered k lf)
    else .next (State.storeLocked (if (s.tamperAnswered k lf).domOn 11 then allKeysZero (s.tamperAnswered k lf)
      else rootZero (s.tamperAnswered k lf))) := rfl

theorem answers_tamperDetect_logged {k : Fin 8} (hresp : s.get Fld.BKP_TAMPCFG_RESP / 4 ^ k.val % 4 = 0) :
    Answers (exec (.tamperDetect k lf) s) fun t =>
      t.bit Reg.BKP_TAMPSTAT (8 + k.val) = true ∧ t.get Fld.BKP_TAMPSTAT_LATCH = s.get Fld.BKP_TAMPSTAT_LATCH
      ∧ RegsBut [Reg.BKP_TAMPSTAT] s t ∧ t = { s with regs := t.regs } := by
  have hcfg : (s.tamperSeen k).get Fld.BKP_TAMPCFG_RESP = s.get Fld.BKP_TAMPCFG_RESP := regsBut_tamperSeen.get (by decide)
  have hexec : exec (.tamperDetect k lf) s = .next (s.tamperSeen k) := by
    rw [exec_tamperDetect, hcfg, if_pos hresp]
  have hk : 8 + k.val < 32 := by omega
  exact .of_eq hexec ⟨State.bit_putBit_self hk, get_LATCH_tamperSeen k.isLt, regsBut_tamperSeen, onlyIn_tamperSeen.frame_regs⟩

/-! ### The response -/

/-- The registers in which a detection is noted. -/
def tamperRegs : List Nat := [Reg.BKP_TAMPSTAT, Reg.BKP_TAMPCNT, Reg.BKP_TAMPTIME, Reg.KEYSTORE_FLAGS]

theorem onlyIn_tamperStamped : OnlyIn [.regs] s (s.tamperStamped lf) := OnlyIn.ite ((onlyIn_put (by decide)).mpr .refl) .refl

theorem regsBut_tamperStamped : RegsBut [Reg.BKP_TAMPTIME] s (s.tamperStamped lf) := by
  rw [State.tamperStamped]
  split
  · exact (regsBut_put (by decide)).mpr RegsBut.refl
  · exact RegsBut.refl

theorem rd_TAMPTIME_tamperStamped (h : s.get Fld.BKP_TAMPSTAT_LATCH = 0) : (s.tamperStamped lf).rd Reg.BKP_TAMPTIME = lf := by
  have hget : (s.tamperStamped lf).get Fld.BKP_TAMPTIME_LFCNT = lf.toNat := by
    rw [State.tamperStamped, if_pos h, State.get_put_fits rfl]
    exact Nat.mod_eq_of_lt lf.isLt
  apply BitVec.eq_of_toNat_eq
  rw [State.get] at hget
  have hrd := ((s.tamperStamped lf).rd Reg.BKP_TAMPTIME).isLt
  simp only [Fld.BKP_TAMPTIME_LFCNT] at hget
  omega

theorem onlyIn_tamperLatched : OnlyIn [.regs] s (s.tamperLatched k) := by simp [State.tamperLatched]

theorem regsBut_tamperLatched : RegsBut [Reg.BKP_TAMPSTAT, Reg.BKP_TAMPCNT, Reg.KEYSTORE_FLAGS] s (s.tamperLatched k) := by
  rw [State.tamperLatched, regsBut_flag (by decide), regsBut_inc (by decide), regsBut_putBit (by decide)]
  exact RegsBut.refl

theorem fields_tamperLatched (hk : k < 8) : (s.tamperLatched k).bit Reg.BKP_TAMPSTAT k = true
    ∧ (s.tamperLatched k).get Fld.BKP_TAMPCNT_EVENTS = s.counted Fld.BKP_TAMPCNT_EVENTS
    ∧ (s.tamperLatched k).has Fld.KEYSTORE_FLAGS_TAMPER = true := by
  have hcount : (s.putBit Reg.BKP_TAMPSTAT k true).get Fld.BKP_TAMPCNT_EVENTS = s.get Fld.BKP_TAMPCNT_EVENTS := by
    rw [State.putBit_eq_put, State.get_put_other (show Reg.BKP_TAMPCNT ≠ Reg.BKP_TAMPSTAT by decide)]
  refine ⟨?_, ?_, ?_⟩
  · rw [State.tamperLatched, State.flag_eq_put, State.inc_eq_put, State.bit, State.rd_put_other (by decide), State.rd_put_other (by decide)]
    exact State.bit_putBit_self (by omega)
  · rw [State.tamperLatched, State.flag_eq_put, State.get_put_other (by decide), State.get_inc_fits rfl, State.counted, hcount, State.counted]
  · rw [State.tamperLatched, State.flag_eq_put, State.has_put_fits rfl]
    rfl

theorem onlyIn_snapshotVoid : OnlyIn [.snapshot] s s.snapshotVoid := .of_frame rfl

/-- A lifetime counter leaves every other register as it was. -/
theorem rd_lifeCount_of_ne {w lo width : Nat} (h : a ≠ Reg.LIFE_VAL w) : (lifeCount w lo width n s).rd a = s.rd a := by
  rw [lifeCount, lifeEvent]
  split
  · exact State.rd_congr rfl
  · exact State.rd_put_other h

theorem onlyIn_tamperFired : OnlyIn [.regs, .life, .edges] s s.tamperFired :=
  ((onlyIn_fire (by decide)).mpr .refl).trans (onlyIn_lifeCount.mono (by decide))

theorem rd_tamperFired (h : a ≠ Reg.LIFE_VAL 18) : s.tamperFired.rd a = s.rd a := rd_lifeCount_of_ne h

theorem fires_tamperFired : Fires [EV.KEYSTORE_TAMPER] s s.tamperFired :=
  (Fires.fire (p := EV.KEYSTORE_TAMPER) (t := s) rfl).of_edges (onlyIn_lifeCount.edges (by decide))

theorem onlyIn_storeLocked : OnlyIn [.regs, .keys] s s.storeLocked := by
  rw [State.storeLocked, onlyIn_flag (by decide), onlyIn_unflag (by decide)]
  exact onlyIn_cmdCleared.mono (by decide)

theorem regsBut_storeLocked : RegsBut [Reg.KEYSTORE_RESULT, Reg.KEYSTORE_STAT] s s.storeLocked := by
  rw [State.storeLocked, regsBut_flag (by decide), regsBut_unflag (by decide)]
  exact .of_regs (onlyIn_cmdCleared.regs (by decide))

theorem has_LOCKED_storeLocked : s.storeLocked.has Fld.KEYSTORE_STAT_LOCKED = true := by
  rw [State.storeLocked, State.flag_eq_put, State.has_put_fits rfl]
  rfl

theorem has_BUSY_storeLocked : s.storeLocked.has Fld.KEYSTORE_RESULT_BUSY = false := by
  rw [State.storeLocked, State.flag_eq_put, State.has_put_other (by decide), State.has_unflag_fits rfl]

theorem keyBytes_storeLocked : s.storeLocked.keyBytes n = s.keyBytes n := by
  rw [State.storeLocked, keyBytes_flag, keyBytes_unflag]
  rfl

theorem keySt_storeLocked : s.storeLocked.keySt n = s.keySt n := by
  refine regsBut_storeLocked.get ?_
  simp only [keyState, Reg.KEYSTORE_SLOTATTR, Reg.KEYSTORE_RESULT, Reg.KEYSTORE_STAT, List.mem_cons, List.not_mem_nil, or_false]
  omega

/-- The registers of a detection hold no key. -/
theorem rd_allKeysZero_noted (h : a ∈ tamperRegs) : (allKeysZero s).rd a = s.rd a := by
  have hattr : ∀ a ∈ tamperRegs, ∀ w < 7, a ≠ Reg.KEYSTORE_SLOTATTR 0 w := by decide
  have hrest : ∀ a ∈ tamperRegs, slotReg a = false ∧ setReg a = false ∧ a ≠ Reg.KEYSTORE_STAT ∧ a ≠ Reg.PKE_STAT
      ∧ a ≠ Reg.KEYSTORE_VALID 0 := by decide
  obtain ⟨hslot, hset, hstat, hpke, hvalid⟩ := hrest a h
  exact rd_allKeysZero hslot hset hstat hpke (hattr a h) hvalid

theorem onlyIn_tamperNoted : OnlyIn [.regs, .snapshot] s (s.tamperNoted k lf) :=
  (((onlyIn_tamperSeen.trans onlyIn_tamperStamped).trans onlyIn_tamperLatched).mono (by decide)).trans (onlyIn_snapshotVoid.mono (by decide))

theorem regsBut_tamperNoted : RegsBut tamperRegs s (s.tamperNoted k lf) :=
  (((regsBut_tamperSeen.mono (by decide)).trans (regsBut_tamperStamped.mono (by decide))).trans
    (regsBut_tamperLatched.mono (by decide))).trans (.of_regs (onlyIn_snapshotVoid.regs (by decide)))

theorem rd_tamperZeroed (h : a ∈ tamperRegs) : s.tamperZeroed.rd a = s.rd a := by
  have hne : ∀ a ∈ tamperRegs, a ∉ [Reg.KEYSTORE_RESULT, Reg.KEYSTORE_STAT] ∧ a ≠ Reg.LIFE_VAL 18 := by decide
  rw [State.tamperZeroed, regsBut_storeLocked a (hne a h).1, rd_allKeysZero_noted h, rd_tamperFired (hne a h).2]

theorem onlyIn_tamperZeroed : OnlyIn [.regs, .keys, .backup, .pke, .life, .edges] s s.tamperZeroed :=
  ((onlyIn_tamperFired.mono (by decide)).trans (onlyIn_allKeysZero.mono (by decide))).trans (onlyIn_storeLocked.mono (by decide))

theorem snapshot_tamperNoted : (s.tamperNoted k lf).snapshot = { s.snapshot with valid := false } := by
  have h := (((onlyIn_tamperSeen.trans onlyIn_tamperStamped).trans onlyIn_tamperLatched :
    OnlyIn [.regs] s (((s.tamperSeen k).tamperStamped lf).tamperLatched k)).snapshot (by decide))
  rw [← h]
  rfl

theorem fields_tamperNoted (hk : k < 8) : (s.tamperNoted k lf).bit Reg.BKP_TAMPSTAT k = true
    ∧ (s.tamperNoted k lf).get Fld.BKP_TAMPCNT_EVENTS = s.counted Fld.BKP_TAMPCNT_EVENTS
    ∧ (s.tamperNoted k lf).has Fld.KEYSTORE_FLAGS_TAMPER = true
    ∧ (s.get Fld.BKP_TAMPSTAT_LATCH = 0 → (s.tamperNoted k lf).rd Reg.BKP_TAMPTIME = lf) := by
  have hvoid : RegsBut [] (((s.tamperSeen k).tamperStamped lf).tamperLatched k) (s.tamperNoted k lf) :=
    .of_regs (onlyIn_snapshotVoid.regs (by decide))
  have hcount : ((s.tamperSeen k).tamperStamped lf).get Fld.BKP_TAMPCNT_EVENTS = s.get Fld.BKP_TAMPCNT_EVENTS := by
    rw [regsBut_tamperStamped.get (by decide), regsBut_tamperSeen.get (by decide)]
  obtain ⟨hbit, hevents, hflag⟩ := fields_tamperLatched (s := (s.tamperSeen k).tamperStamped lf) hk
  refine ⟨?_, ?_, ?_, fun hlatch => ?_⟩
  · rw [hvoid.bit (by decide), hbit]
  · rw [hvoid.get (by decide), hevents, State.counted, hcount, State.counted]
  · rw [hvoid.has (by decide), hflag]
  · rw [hvoid _ (by decide), regsBut_tamperLatched _ (by decide)]
    exact rd_TAMPTIME_tamperStamped ((get_LATCH_tamperSeen hk).trans hlatch)

theorem domOn_tamperNoted {j : Nat} : (s.tamperNoted k lf).domOn j = s.domOn j :=
  State.domOn_congr (regsBut_tamperNoted _ (by decide)) (regsBut_tamperNoted _ (by decide)) (onlyIn_tamperNoted.salt (by decide))
    (onlyIn_tamperNoted.power (by decide)) (onlyIn_tamperNoted.link (by decide))

theorem domOn_tamperFired {j : Nat} : s.tamperFired.domOn j = s.domOn j :=
  State.domOn_congr (rd_tamperFired (by decide)) (rd_tamperFired (by decide)) (onlyIn_tamperFired.salt (by decide))
    (onlyIn_tamperFired.power (by decide)) (onlyIn_tamperFired.link (by decide))

theorem exec_tamperDetect_of_zero {k : Fin 8} (hresp : 2 ≤ s.get Fld.BKP_TAMPCFG_RESP / 4 ^ k.val % 4) (hon : s.domOn 1 = true)
    (hkeys : s.domOn 11 = true) : exec (.tamperDetect k lf) s = .next (s.tamperNoted k lf).tamperZeroed := by
  have hcfg : (s.tamperSeen k).get Fld.BKP_TAMPCFG_RESP = s.get Fld.BKP_TAMPCFG_RESP := regsBut_tamperSeen.get (by decide)
  have hfired : s.tamperAnswered k lf = (s.tamperNoted k lf).tamperFired := by rw [State.tamperAnswered, if_pos (domOn_tamperNoted.trans hon), State.tamperFired]
  have hon11 : (s.tamperNoted k lf).tamperFired.domOn 11 = true := domOn_tamperFired.trans (domOn_tamperNoted.trans hkeys)
  rw [exec_tamperDetect, hcfg, if_neg (by omega), hfired, if_neg (by omega), if_pos hon11, State.tamperZeroed]

theorem OnlyIn.frame_tamper (h : OnlyIn [.regs, .keys, .backup, .pke, .snapshot, .life, .edges] s t) :
    t = { s with regs := t.regs, keys := t.keys, backup := t.backup, pke := t.pke, snapshot := t.snapshot, life := t.life, edges := t.edges } := h.frame

theorem slots_tamperZeroed (h : n < 256) : s.tamperZeroed.keySt n = 0 ∧ s.tamperZeroed.keyBytes n = [] := by
  rw [State.tamperZeroed, keySt_storeLocked, keyBytes_storeLocked]
  exact slots_allKeysZero h

theorem sets_tamperZeroed (x w : Fin 8) : s.tamperZeroed.rd (Reg.CIPHER_KEY x w) = 0 := by
  have hne : Reg.CIPHER_KEY x w ∉ [Reg.KEYSTORE_RESULT, Reg.KEYSTORE_STAT] := by
    simp only [Reg.CIPHER_KEY, Reg.KEYSTORE_RESULT, Reg.KEYSTORE_STAT, List.mem_cons, List.not_mem_nil, or_false]
    omega
  rw [State.tamperZeroed, regsBut_storeLocked _ hne, sets_allKeysZero]

theorem fires_tamperZeroed : Fires [EV.KEYSTORE_TAMPER] s s.tamperZeroed :=
  (fires_tamperFired.of_edges (onlyIn_allKeysZero.edges (by decide))).of_edges (onlyIn_storeLocked.edges (by decide))

theorem answers_tamperDetect_zero {k : Fin 8} (hresp : 2 ≤ s.get Fld.BKP_TAMPCFG_RESP / 4 ^ k.val % 4) (hon : s.domOn 1 = true)
    (hkeys : s.domOn 11 = true) : Answers (exec (.tamperDetect k lf) s) fun t =>
      t.bit Reg.BKP_TAMPSTAT k = true ∧ t.get Fld.BKP_TAMPCNT_EVENTS = s.counted Fld.BKP_TAMPCNT_EVENTS
      ∧ (s.get Fld.BKP_TAMPSTAT_LATCH = 0 → t.rd Reg.BKP_TAMPTIME = lf) ∧ t.has Fld.KEYSTORE_FLAGS_TAMPER = true
      ∧ t.has Fld.KEYSTORE_STAT_LOCKED = true ∧ t.has Fld.KEYSTORE_RESULT_BUSY = false ∧ t.backup.root = [] ∧ t.pke.eph = none
      ∧ (∀ n : Fin 256, t.keySt n = 0 ∧ t.keyBytes n = []) ∧ (∀ x w : Fin 8, t.rd (Reg.CIPHER_KEY x w) = 0)
      ∧ t.snapshot = { s.snapshot with valid := false } ∧ Fires [EV.KEYSTORE_TAMPER] s t
      ∧ t = { s with regs := t.regs, keys := t.keys, backup := t.backup, pke := t.pke, snapshot := t.snapshot, life := t.life, edges := t.edges } := by
  obtain ⟨hbit, hevents, hflag, htime⟩ := fields_tamperNoted (s := s) (lf := lf) k.isLt
  have hnoted : ∀ {u : State} {a : Nat}, a ∈ tamperRegs → u.tamperZeroed.rd a = u.rd a := rd_tamperZeroed
  refine .of_eq (exec_tamperDetect_of_zero hresp hon hkeys) ⟨?_, ?_, fun hlatch => ?_, ?_, has_LOCKED_storeLocked, has_BUSY_storeLocked, ?_,
    ?_, fun n => slots_tamperZeroed n.isLt, sets_tamperZeroed, ?_, ?_, ?_⟩
  · rw [State.bit, hnoted (by decide)]
    exact hbit
  · exact (State.get_eq_of_rd (hnoted (by decide))).trans hevents
  · exact (hnoted (by decide)).trans (htime hlatch)
  · exact (State.has_eq_of_get (State.get_eq_of_rd (hnoted (by decide)))).trans hflag
  · rw [State.tamperZeroed, onlyIn_storeLocked.backup (by decide), root_allKeysZero]
  · rw [State.tamperZeroed, onlyIn_storeLocked.pke (by decide), eph_allKeysZero]
  · rw [onlyIn_tamperZeroed.snapshot (by decide), snapshot_tamperNoted]
  · have hnone : (s.tamperNoted k lf).edges = s.edges := onlyIn_tamperNoted.edges (by decide)
    have hfires := fires_tamperZeroed (s := s.tamperNoted k lf)
    rwa [Fires, hnone] at hfires
  · exact ((onlyIn_tamperNoted.mono (by decide)).trans (onlyIn_tamperZeroed.mono (by decide))).frame_tamper

/-! ### The latch and the lock -/

/-- No source detects, and the latched ones are cleared. -/
def State.latchCleared (s : State) : State := (s.put Fld.BKP_TAMPSTAT_ACTIVE 0).put Fld.BKP_TAMPSTAT_LATCH 0

theorem onlyIn_latchCleared : OnlyIn [.regs] s s.latchCleared := (onlyIn_put (by decide)).mpr ((onlyIn_put (by decide)).mpr .refl)

theorem regsBut_latchCleared : RegsBut [Reg.BKP_TAMPSTAT] s s.latchCleared :=
  (regsBut_put (by decide)).mpr ((regsBut_put (by decide)).mpr RegsBut.refl)

/-- Every set bit of a number within another is set in that one as well. -/
theorem testBit_of_and_eq {x y : Nat} (h : x &&& y = x) (hk : x.testBit k = true) : y.testBit k = true := by
  rw [← h, Nat.testBit_and, Bool.and_eq_true] at hk
  exact hk.2

theorem mem_bitsOf_testBit {w x : Nat} (h : k ∈ bitsOf w x) : x.testBit k = true := by
  rw [bitsOf, List.mem_filter] at h
  rw [← testBit'_eq_testBit]
  exact h.2

theorem exec_tamperLatchClear_of_all (hset : s.get Fld.BKP_TAMPSTAT_LATCH ≠ 0)
    (hall : s.get Fld.BKP_TAMPSTAT_LATCH &&& (v.toNat % 256) = s.get Fld.BKP_TAMPSTAT_LATCH) :
    exec (.tamperLatchClear v 0) s = .next (s.latchCleared.unflag Fld.KEYSTORE_STAT_LOCKED) := by
  have hleft : (bitsOf 8 (s.get Fld.BKP_TAMPSTAT_LATCH)).filter
      (fun k => !testBit' (v.toNat % 256) k || testBit' (0 : BitVec 8).toNat k) = [] := by
    refine List.filter_eq_nil_iff.mpr fun k hk => ?_
    have hv : testBit' (v.toNat % 256) k = true := by
      rw [testBit'_eq_testBit]
      exact testBit_of_and_eq hall (mem_bitsOf_testBit hk)
    have hzero : testBit' 0 k = false := by
      rw [testBit'_eq_testBit]
      exact Nat.zero_testBit k
    simp [hv, hzero]
  have hsub : subBits (s.get Fld.BKP_TAMPSTAT_LATCH) (v.toNat % 256) = true := by
    rw [subBits, hall]
    exact beq_self_eq_true _
  change execTamperLatchClear v 0 s = _
  rw [execTamperLatchClear, hleft, if_pos ⟨hsub, rfl, hset⟩]
  rfl

theorem answers_tamperLatchClear (hset : s.get Fld.BKP_TAMPSTAT_LATCH ≠ 0)
    (hall : s.get Fld.BKP_TAMPSTAT_LATCH &&& (v.toNat % 256) = s.get Fld.BKP_TAMPSTAT_LATCH) :
    Answers (exec (.tamperLatchClear v 0) s) fun t =>
      t.get Fld.BKP_TAMPSTAT_LATCH = 0 ∧ t.get Fld.BKP_TAMPSTAT_ACTIVE = 0 ∧ t.has Fld.KEYSTORE_STAT_LOCKED = false
      ∧ RegsBut [Reg.BKP_TAMPSTAT, Reg.KEYSTORE_STAT] s t ∧ t = { s with regs := t.regs } := by
  refine .of_eq (exec_tamperLatchClear_of_all hset hall) ⟨?_, ?_, State.has_unflag_fits rfl, ?_, ?_⟩
  · rw [State.unflag_eq_put, State.get_put_other (by decide), State.latchCleared, State.get_put_fits rfl]
    rfl
  · rw [State.unflag_eq_put, State.get_put_other (by decide), State.latchCleared, State.get_put_bitsApart rfl rfl, State.get_put_fits rfl]
    rfl
  · exact (regsBut_unflag (by decide)).mpr (regsBut_latchCleared.mono (by decide))
  · exact OnlyIn.frame_regs ((onlyIn_unflag (by decide)).mpr onlyIn_latchCleared)

theorem answers_tamplockWrite : Answers (exec (.tamplockWrite v) s) fun t =>
    t.has Fld.BKP_TAMPLOCK_LOCK = (decide (v.toNat % 2 = 1) || s.has Fld.BKP_TAMPLOCK_LOCK)
    ∧ RegsBut [Reg.BKP_TAMPLOCK] s t ∧ t = { s with regs := t.regs } := by
  have hexec : exec (.tamplockWrite v) s = .next (if v.toNat % 2 = 1 then s.flag Fld.BKP_TAMPLOCK_LOCK else s) := rfl
  refine ⟨_, hexec, ?_⟩
  by_cases h : v.toNat % 2 = 1
  case pos =>
    rw [if_pos h, decide_eq_true h, Bool.true_or]
    refine ⟨?_, (regsBut_flag (by decide)).mpr RegsBut.refl, OnlyIn.frame_regs ((onlyIn_flag (by decide)).mpr .refl)⟩
    rw [State.flag_eq_put, State.has_put_fits rfl]
    rfl
  case neg =>
    rw [if_neg h, decide_eq_false h, Bool.false_or]
    exact ⟨rfl, RegsBut.refl, rfl⟩

end Sys2Proof.Machine
end

section
/-!
SUPPORT. Life-cycle transitions and guard levels (R463 to R471): a request, the end of a transition, a level that is stored, and the
erase of the flash that the change to GL0 ends with.
-/

namespace Sys2Proof.Machine

variable {s t : State} {a n b : Nat} {v : Word} {m : Master}

/-! ### A unit of the information rows -/

theorem onlyIn_infoUnit : OnlyIn [.mem, .freeCounter] s (infoUnit a n s) := by
  rw [infoUnit, onlyIn_setBytes (by decide), onlyIn_freeNext (by decide)]
  exact .refl

theorem length_crcUnit {l : List Byte} : (crcUnit l).length = l.length + 4 := by simp [crcUnit]

theorem crcUnitOk_crcUnit {l : List Byte} (h : l.length = 12) : crcUnitOk (crcUnit l) = true := by
  simp [crcUnitOk, crcUnit, ← h]

theorem infoUnit_eq : infoUnit a n s = s.freeNext.setBytes (a + 16 * n) (crcUnit (bytesBE 12 s.freeNat)) := rfl

theorem length_infoOctets {x : Nat} : (crcUnit (bytesBE 12 x)).length = 16 := by
  rw [length_crcUnit, length_bytesBE]

theorem State.bytes_setBytes_of_length {l : List Byte} (h : l.length = n) : (s.setBytes a l).bytes a n = l := by
  subst h
  exact State.bytes_setBytes

theorem crcUnitOk_infoUnit : crcUnitOk ((infoUnit a n s).bytes (a + 16 * n) 16) = true := by
  rw [infoUnit_eq, State.bytes_setBytes_of_length length_infoOctets]
  exact crcUnitOk_crcUnit length_bytesBE

theorem bytesOutside_infoUnit : BytesOutside (a + 16 * n) 16 s (infoUnit a n s) := fun c hc => by
  rw [infoUnit_eq, State.byte_setBytes_out (by rw [length_infoOctets]; exact hc)]
  rfl

/-! ### A life-cycle transition -/

/-- A transition to lc is under way. -/
def State.lcStarted (lc : Nat) (s : State) : State := { s with keys := { s.keys with lcTo := some lc } }

theorem onlyIn_lcStarted : OnlyIn [.keys] s (s.lcStarted n) := .of_frame rfl

/-- A request with its key, from a master that may make it, is looked at. -/
theorem request_heard {x k : Nat} (hkey : x = k) (hm : s.issues m = true) : ¬ (x ≠ k ∨ (!s.issues m) = true) := by
  simp [hkey, hm]

theorem exec_lcRequest_of_refused (hkey : v.toNat / 2 ^ 16 = 0x1C5E) (hm : s.issues m = true)
    (hno : lcPermitted s m (v.toNat % 8) = false) : exec (.lcRequest m v) s = .next (s.put Fld.KEYSTORE_RESULT_CODE 0x0510) := by
  change execLcRequest m v s = _
  rw [execLcRequest, if_neg (request_heard hkey hm), if_pos (.inl (by simp [hno]))]

theorem answers_lcRequest_refused (hkey : v.toNat / 2 ^ 16 = 0x1C5E) (hm : s.issues m = true)
    (hno : lcPermitted s m (v.toNat % 8) = false) : Answers (exec (.lcRequest m v) s) fun t =>
      t.get Fld.KEYSTORE_RESULT_CODE = 0x0510 ∧ RegsBut [Reg.KEYSTORE_RESULT] s t ∧ t = { s with regs := t.regs } := by
  refine .of_eq (exec_lcRequest_of_refused hkey hm hno) ⟨?_, (regsBut_put (by decide)).mpr RegsBut.refl, ?_⟩
  · rw [State.get_put_fits rfl]
    rfl
  · exact OnlyIn.frame_regs ((onlyIn_put (by decide)).mpr .refl)

/-- No valid slot dies in a life-cycle state that each slot's mask lets it live in. -/
theorem lcDead_eq_nil {lc : Nat} (hlive : ∀ n : Fin 256, s.keySt n = 1 → (s.get (keyLcmask n)).testBit lc = false) :
    (List.range 256).filter (fun n => s.keySt n == 1 && testBit' (s.get (keyLcmask n)) lc) = [] := by
  refine List.filter_eq_nil_iff.mpr fun n hn hboth => ?_
  rw [Bool.and_eq_true, beq_iff_eq, testBit'_eq_testBit] at hboth
  obtain ⟨hvalid, hbit⟩ := hboth
  rw [hlive ⟨n, List.mem_range.mp hn⟩ hvalid] at hbit
  cases hbit

theorem exec_lcRequest_of_granted (hkey : v.toNat / 2 ^ 16 = 0x1C5E) (hm : s.issues m = true)
    (hok : lcPermitted s m (v.toNat % 8) = true) (hbusy : s.has Fld.KEYSTORE_STAT_LCBUSY = false) (hunits : s.keys.lcUnits < 128)
    (hlive : ∀ n : Fin 256, s.keySt n = 1 → (s.get (keyLcmask n)).testBit (v.toNat % 8) = false) :
    exec (.lcRequest m v) s = .next ((s.lcStarted (v.toNat % 8)).flag Fld.KEYSTORE_STAT_LCBUSY) := by
  have hgo : ¬ ((!lcPermitted s m (v.toNat % 8)) = true ∨ s.has Fld.KEYSTORE_STAT_LCBUSY = true ∨ 128 ≤ s.keys.lcUnits) := by
    simp [hok, hbusy, hunits]
  change execLcRequest m v s = _
  rw [execLcRequest, if_neg (request_heard hkey hm), if_neg hgo, lcDead_eq_nil hlive]
  rfl

theorem answers_lcRequest_granted (hkey : v.toNat / 2 ^ 16 = 0x1C5E) (hm : s.issues m = true)
    (hok : lcPermitted s m (v.toNat % 8) = true) (hbusy : s.has Fld.KEYSTORE_STAT_LCBUSY = false) (hunits : s.keys.lcUnits < 128)
    (hlive : ∀ n : Fin 256, s.keySt n = 1 → (s.get (keyLcmask n)).testBit (v.toNat % 8) = false) :
    Answers (exec (.lcRequest m v) s) fun t =>
      t.has Fld.KEYSTORE_STAT_LCBUSY = true ∧ t.keys = { s.keys with lcTo := some (v.toNat % 8) }
      ∧ RegsBut [Reg.KEYSTORE_STAT] s t ∧ t = { s with regs := t.regs, keys := t.keys } := by
  refine .of_eq (exec_lcRequest_of_granted hkey hm hok hbusy hunits hlive) ⟨?_, rfl, ?_, ?_⟩
  · rw [State.flag_eq_put, State.has_put_fits rfl]
    rfl
  · rw [regsBut_flag (by decide)]
    exact .of_regs (onlyIn_lcStarted.regs (by decide))
  · exact OnlyIn.frame_regs_keys ((onlyIn_flag (by decide)).mpr (onlyIn_lcStarted.mono (by decide)))

/-- The transition's unit counts, and nothing is under way. -/
def State.lcCounted (s : State) : State := { s with keys := { s.keys with lcTo := none, lcUnits := s.keys.lcUnits + 1 } }

/-- The life-cycle state is n, and the transition is over. -/
def State.lcShown (n : Nat) (s : State) : State := (s.put Fld.KEYSTORE_STAT_LC n).unflag Fld.KEYSTORE_STAT_LCBUSY

theorem onlyIn_lcCounted : OnlyIn [.keys] s s.lcCounted := .of_frame rfl
theorem onlyIn_lcShown : OnlyIn [.regs] s (s.lcShown n) := by simp [State.lcShown]

theorem regsBut_lcShown : RegsBut [Reg.KEYSTORE_STAT] s (s.lcShown n) := by
  rw [State.lcShown, regsBut_unflag (by decide), regsBut_put (by decide)]
  exact RegsBut.refl

theorem get_LC_lcShown (h : n < 8) : (s.lcShown n).get Fld.KEYSTORE_STAT_LC = n := by
  rw [State.lcShown, State.unflag_eq_put, State.get_put_bitsApart rfl rfl, State.get_put_fits rfl]
  exact Nat.mod_eq_of_lt h

theorem keys_lcCounted : s.lcCounted.keys = { s.keys with lcTo := none, lcUnits := s.keys.lcUnits + 1 } := rfl

/-- The transition's stages before its event. -/
def State.lcDone (n : Nat) (s : State) : State := (infoUnit 0x0FF00200 s.keys.lcUnits s).lcCounted.lcShown n

theorem onlyIn_lcDone : OnlyIn [.regs, .mem, .keys, .freeCounter] s (s.lcDone n) :=
  (onlyIn_infoUnit.mono (by decide)).trans ((onlyIn_lcCounted.mono (by decide)).trans (onlyIn_lcShown.mono (by decide)))

theorem mem_lcDone : (s.lcDone n).mem = (infoUnit 0x0FF00200 s.keys.lcUnits s).mem :=
  (onlyIn_lcShown.mem (by decide)).trans (onlyIn_lcCounted.mem (by decide))

theorem regsBut_lcDone : RegsBut [Reg.KEYSTORE_STAT] s (s.lcDone n) :=
  (RegsBut.of_regs ((onlyIn_lcCounted.regs (by decide)).trans (onlyIn_infoUnit.regs (by decide)))).trans regsBut_lcShown

theorem keys_lcDone : (s.lcDone n).keys = { s.keys with lcTo := none, lcUnits := s.keys.lcUnits + 1 } := by
  rw [State.lcDone, onlyIn_lcShown.keys (by decide), keys_lcCounted, onlyIn_infoUnit.keys (by decide)]

theorem exec_lcTransitionDone (hto : s.keys.lcTo = some n) (hn : n < 4) (hsweep : s.keys.sweep = none) :
    exec .lcTransitionDone s = .next ((s.lcDone n).fire EV.KEYSTORE_LCDONE) := by
  change execLcTransitionDone s = _
  rw [execLcTransitionDone, hto]
  dsimp only
  rw [if_neg (by simp [hsweep]), if_neg (by omega : ¬ n = 4)]
  rfl

theorem OnlyIn.frame_lcDone (h : OnlyIn [.regs, .mem, .keys, .edges, .freeCounter] s t) :
    t = { s with regs := t.regs, mem := t.mem, keys := t.keys, edges := t.edges, freeCounter := t.freeCounter } := h.frame

theorem answers_lcTransitionDone (hto : s.keys.lcTo = some n) (hn : n < 4) (hsweep : s.keys.sweep = none) :
    Answers (exec .lcTransitionDone s) fun t =>
      t.get Fld.KEYSTORE_STAT_LC = n ∧ t.has Fld.KEYSTORE_STAT_LCBUSY = false ∧ Fires [EV.KEYSTORE_LCDONE] s t
      ∧ crcUnitOk (t.bytes (0x0FF00200 + 16 * s.keys.lcUnits) 16) = true ∧ BytesOutside (0x0FF00200 + 16 * s.keys.lcUnits) 16 s t
      ∧ t.keys = { s.keys with lcTo := none, lcUnits := s.keys.lcUnits + 1 } ∧ RegsBut [Reg.KEYSTORE_STAT] s t
      ∧ t = { s with regs := t.regs, mem := t.mem, keys := t.keys, edges := t.edges, freeCounter := t.freeCounter } := by
  have hmem : ((s.lcDone n).fire EV.KEYSTORE_LCDONE).mem = (infoUnit 0x0FF00200 s.keys.lcUnits s).mem :=
    ((onlyIn_fire (List.mem_singleton_self _)).mpr .refl |>.mem (by decide)).trans mem_lcDone
  refine .of_eq (exec_lcTransitionDone hto hn hsweep) ⟨?_, ?_, onlyIn_lcDone.fires_fire (by decide), ?_, fun c hc => ?_, ?_, ?_, ?_⟩
  · rw [State.get_fire]
    exact get_LC_lcShown (by omega)
  · rw [State.has_fire]
    exact State.has_unflag_fits rfl
  · rw [State.bytes_eq_of_mem hmem]
    exact crcUnitOk_infoUnit
  · rw [State.byte_congr hmem]
    exact bytesOutside_infoUnit c hc
  · rw [State.fire_keys, keys_lcDone]
  · exact regsBut_fire.mpr regsBut_lcDone
  · exact OnlyIn.frame_lcDone (onlyIn_lcDone.fire (by decide) (by decide))

/-! ### A guard level -/

/-- The unit of the level counts. -/
def State.glCounted (s : State) : State := { s with keys := { s.keys with glUnits := s.keys.glUnits + 1 } }

theorem onlyIn_glCounted : OnlyIn [.keys] s s.glCounted := .of_frame rfl
theorem keys_glCounted : s.glCounted.keys = { s.keys with glUnits := s.keys.glUnits + 1 } := rfl

theorem glStore_eq : glStore n s = (infoUnit 0x0FF00A00 s.keys.glUnits s).glCounted.put Fld.KEYSTORE_STAT_GL n := by
  rw [State.glCounted, onlyIn_infoUnit.keys (by decide)]
  rw [glStore, onlyIn_infoUnit.keys (by decide)]

theorem onlyIn_glStore : OnlyIn [.regs, .mem, .keys, .freeCounter] s (glStore n s) := by
  rw [glStore_eq, onlyIn_put (by decide)]
  exact (onlyIn_infoUnit.mono (by decide)).trans (onlyIn_glCounted.mono (by decide))

theorem get_GL_glStore (h : n < 4) : (glStore n s).get Fld.KEYSTORE_STAT_GL = n := by
  rw [glStore_eq, State.get_put_fits rfl]
  exact Nat.mod_eq_of_lt h

theorem mem_glStore : (glStore n s).mem = (infoUnit 0x0FF00A00 s.keys.glUnits s).mem := by
  rw [glStore_eq]
  rfl

theorem keys_glStore : (glStore n s).keys = { s.keys with glUnits := s.keys.glUnits + 1 } := by
  rw [glStore_eq, State.put_keys, keys_glCounted, onlyIn_infoUnit.keys (by decide)]

theorem regsBut_glStore : RegsBut [Reg.KEYSTORE_STAT] s (glStore n s) := by
  rw [glStore_eq, regsBut_put (by decide)]
  exact .of_regs ((onlyIn_glCounted.regs (by decide)).trans (onlyIn_infoUnit.regs (by decide)))

theorem glWord_toNat (h : n < 4) : (BitVec.ofNat 32 (0x6A1D0000 + n)).toNat = 0x6A1D0000 + n := by
  rw [BitVec.toNat_ofNat, Nat.mod_eq_of_lt (by omega)]

theorem exec_glRequest_of_raised (hm : m = .cpu0 ∨ m = .cpu1) (hissues : s.issues m = true) (hn : n = 1 ∨ n = 2)
    (hgl : s.get Fld.KEYSTORE_STAT_GL + 1 = n) (hbusy : s.has Fld.KEYSTORE_STAT_LCBUSY = false) (hunits : s.keys.glUnits < 32) :
    exec (.glRequest m (BitVec.ofNat 32 (0x6A1D0000 + n))) s = .next (glStore n s) := by
  have hword := glWord_toNat (n := n) (by omega)
  have hkey : (0x6A1D0000 + n) / 2 ^ 16 = 0x6A1D := by omega
  have hdest : (0x6A1D0000 + n) % 4 = n := by omega
  have hsoft : (m == .cpu0 || m == .cpu1) = true := by
    rcases hm with h | h <;> rw [h] <;> rfl
  change execGlRequest m _ s = _
  rw [execGlRequest, hword, hdest, if_neg (request_heard hkey hissues), if_neg, if_pos (by omega : n ≠ 0)]
  have hold : s.get Fld.KEYSTORE_STAT_GL = n - 1 := by omega
  rcases hn with rfl | rfl <;> simp [hsoft, hold, hbusy, hunits]

theorem OnlyIn.frame_regs_mem_keys_freeCounter (h : OnlyIn [.regs, .mem, .keys, .freeCounter] s t) :
    t = { s with regs := t.regs, mem := t.mem, keys := t.keys, freeCounter := t.freeCounter } := h.frame

theorem answers_glRequest (hm : m = .cpu0 ∨ m = .cpu1) (hissues : s.issues m = true) (hn : n = 1 ∨ n = 2)
    (hgl : s.get Fld.KEYSTORE_STAT_GL + 1 = n) (hbusy : s.has Fld.KEYSTORE_STAT_LCBUSY = false) (hunits : s.keys.glUnits < 32) :
    Answers (exec (.glRequest m (BitVec.ofNat 32 (0x6A1D0000 + n))) s) fun t =>
      t.get Fld.KEYSTORE_STAT_GL = n ∧ t.keys = { s.keys with glUnits := s.keys.glUnits + 1 }
      ∧ crcUnitOk (t.bytes (0x0FF00A00 + 16 * s.keys.glUnits) 16) = true ∧ BytesOutside (0x0FF00A00 + 16 * s.keys.glUnits) 16 s t
      ∧ RegsBut [Reg.KEYSTORE_STAT] s t ∧ t = { s with regs := t.regs, mem := t.mem, keys := t.keys, freeCounter := t.freeCounter } := by
  refine .of_eq (exec_glRequest_of_raised hm hissues hn hgl hbusy hunits)
    ⟨get_GL_glStore (by omega), keys_glStore, ?_, fun c hc => ?_, regsBut_glStore, onlyIn_glStore.frame_regs_mem_keys_freeCounter⟩
  · rw [State.bytes_eq_of_mem mem_glStore]
    exact crcUnitOk_infoUnit
  · rw [State.byte_congr mem_glStore]
    exact bytesOutside_infoUnit c hc

/-! ### The change to GL0: every block of the main flash erased -/

/-- The octets of the main flash. -/
def BelowMain (s t : State) : Prop := ∀ c, c < 0x400000 → t.byte c = s.byte c

theorem BelowMain.of_mem (h : t.mem = s.mem) : BelowMain s t := fun _ _ => State.byte_congr h

theorem BelowMain.trans {u : State} (h : BelowMain s t) (h' : BelowMain t u) : BelowMain s u :=
  fun c hc => (h' c hc).trans (h c hc)

theorem BelowMain.put {f : Field} (h : BelowMain s t) : BelowMain s (t.put f n) := h.trans (.of_mem rfl)

theorem belowMain_setBytes {l : List Byte} (h : 0x400000 ≤ a) : BelowMain s (s.setBytes a l) :=
  fun _ hc => State.byte_setBytes_out (.inl (by omega))

theorem belowMain_wipe (h : 0x400000 ≤ a) : BelowMain s (wipe a n s) :=
  fun _ hc => by rw [State.byte_wipe, if_pos (.inl (by omega))]

theorem BelowMain.ite {c : Prop} [Decidable c] {u : State} (h : BelowMain s t) (h' : BelowMain s u) : BelowMain s (if c then t else u) := by
  split
  · exact h
  · exact h'

theorem journalUnit_above : 0x400000 ≤ journalUnit a n := by
  rw [journalUnit]
  omega

theorem headerUnit_above : 0x400000 ≤ headerUnit n := by
  rw [headerUnit]
  omega

/-- Journal region x is the active one, with no units used. -/
def journalShown (b x seq : Nat) (s : State) : State :=
  ((s.put (Fld.FLASHC_JSTAT_SEQ b) seq).put (Fld.FLASHC_JSTAT_ACTIVE b) (x % 2)).put (Fld.FLASHC_JSTAT_USED b) 0

theorem onlyIn_journalShown {seq : Nat} : OnlyIn [.regs] s (journalShown b a seq s) := by simp [journalShown]

theorem belowMain_journalInit {seq : Nat} : BelowMain s (journalInit b a seq s) :=
  ((belowMain_wipe journalUnit_above).trans (belowMain_setBytes journalUnit_above)).trans (.of_mem (onlyIn_journalShown.mem (by decide)))

theorem belowMain_journalStart {count : Nat} : BelowMain s (journalStart b n count s) := by
  rw [journalStart]
  refine BelowMain.trans ?_ ((belowMain_setBytes journalUnit_above).trans (.of_mem rfl))
  exact .ite belowMain_journalInit (.of_mem rfl)

theorem onlyIn_journalInit {seq : Nat} : OnlyIn [.regs, .mem] s (journalInit b a seq s) := by
  have hwipe : OnlyIn [.mem] s (wipe (journalUnit a 0) 0x2000 s) := .of_frame rfl
  rw [journalInit, onlyIn_put (by decide), onlyIn_put (by decide), onlyIn_put (by decide), onlyIn_setBytes (by decide)]
  exact hwipe.mono (by decide)

theorem onlyIn_journalStart {count : Nat} : OnlyIn [.regs, .mem] s (journalStart b n count s) := by
  rw [journalStart, onlyIn_put (by decide), onlyIn_setBytes (by decide)]
  exact .ite onlyIn_journalInit .refl

/-- The erase of a block begins: the header that waits longest leaves the bank where two wait. -/
def headerFlushed (b : Nat) (s : State) : State :=
  match (s.bank b).headers with
  | (m, c) :: rest => if 2 ≤ (s.bank b).headers.length then
      (s.setBytes (headerUnit m) (headerOctets c)).setBank b { s.bank b with headers := rest } else s
  | [] => s

theorem belowMain_headerFlushed : BelowMain s (headerFlushed b s) := by
  rw [headerFlushed]
  split
  case h_1 => exact .ite ((belowMain_setBytes headerUnit_above).trans (.of_mem (onlyIn_setBank.mem (by decide)))) (.of_mem rfl)
  case h_2 => exact .of_mem rfl

theorem onlyIn_headerFlushed : OnlyIn [.regs, .mem, .flash] s (headerFlushed b s) := by
  rw [headerFlushed]
  split
  case h_1 => exact .ite (((onlyIn_setBytes (by decide)).mpr .refl).trans (onlyIn_setBank.mono (by decide))) .refl
  case h_2 => exact .refl

/-- The bank erases block n. -/
def eraseShown (b n : Nat) (s : State) : State := bankSync b (s.setBank b { s.bank b with erase := some { block := n }, eraseWaits := none })

theorem onlyIn_eraseShown : OnlyIn [.regs, .flash] s (eraseShown b n s) := onlyIn_setBank.trans (onlyIn_bankSync.mono (by decide))

theorem eraseStart_eq : eraseStart b n s = eraseShown b n
    ((journalStart b n ((headerFlushed b s).get (Fld.FLASHC_ERASECNT_COUNT n)) (headerFlushed b s)).put (Fld.FLASHC_STAT_PULSES b) 0) := rfl

theorem belowMain_eraseStart : BelowMain s (eraseStart b n s) := by
  rw [eraseStart_eq]
  exact (belowMain_headerFlushed.trans belowMain_journalStart).put.trans (.of_mem (onlyIn_eraseShown.mem (by decide)))

theorem onlyIn_eraseStart : OnlyIn [.regs, .mem, .flash] s (eraseStart b n s) := by
  rw [eraseStart_eq]
  refine OnlyIn.trans ?_ (onlyIn_eraseShown.mono (by decide))
  exact (onlyIn_put (by decide)).mpr (onlyIn_headerFlushed.trans (onlyIn_journalStart.mono (by decide)))

theorem onlyIn_eraseCount : OnlyIn [.regs, .edges] s (eraseCount n s) := by
  rw [eraseCount]
  refine .ite ?_ ?_
  · exact (onlyIn_fire (by decide)).mpr ((onlyIn_flag (by decide)).mpr ((onlyIn_inc (by decide)).mpr .refl))
  · exact (onlyIn_inc (by decide)).mpr .refl

/-- A block's octets and its header are gone. -/
def blockWiped (n : Nat) (s : State) : State := wipe (headerUnit n) 16 (wipe (blockAddr n) 0x2000 s)

theorem onlyIn_blockWiped : OnlyIn [.mem] s (blockWiped n s) := .of_frame rfl

/-- The units of block n leave the buffer and the lists of faults. -/
def blockForgotten (n : Nat) (s : State) : State :=
  let t := s.setBank (bankOf (blockAddr n))
    { s.bank (bankOf (blockAddr n)) with buffer := (s.bank (bankOf (blockAddr n))).buffer.filter (fun u => blockOf u != n) }
  { t with flash := { t.flash with bad := t.flash.bad.filter (fun u => blockOf u != n), torn := t.flash.torn.filter (fun k => k != n) } }

theorem onlyIn_blockForgotten : OnlyIn [.regs, .flash] s (blockForgotten n s) := onlyIn_setBank.trans (.of_frame rfl)

theorem blockErase_eq : blockErase n s = blockForgotten n (blockWiped n s) := rfl

theorem onlyIn_blockErase : OnlyIn [.regs, .mem, .flash] s (blockErase n s) :=
  (onlyIn_blockWiped.mono (by decide)).trans (onlyIn_blockForgotten.mono (by decide))

theorem blockAddr_of_lt (h : n < 512) : blockAddr n = n * 0x2000 := if_pos h

theorem memDefault_of_main (h : a < 0x400000) : memDefault a = 0xFF#8 := if_pos h

/-- An erased block of the main flash reads 0xFF, and the others as before. -/
theorem byte_blockErase (hn : n < 512) (ha : a < 0x400000) :
    (blockErase n s).byte a = if n * 0x2000 ≤ a ∧ a < (n + 1) * 0x2000 then 0xFF#8 else s.byte a := by
  rw [blockErase_eq, State.byte_congr (onlyIn_blockForgotten.mem (by decide)), blockWiped, belowMain_wipe headerUnit_above a ha,
    State.byte_wipe, blockAddr_of_lt hn, memDefault_of_main ha]
  by_cases h : n * 0x2000 ≤ a ∧ a < (n + 1) * 0x2000
  case pos => rw [if_pos h, if_neg (by omega)]
  case neg => rw [if_neg h, if_pos (by omega)]

theorem belowMain_journalEnd {result pulses : Nat} : BelowMain s (journalEnd b result n pulses s) :=
  belowMain_setBytes journalUnit_above

theorem onlyIn_journalEnd {result pulses : Nat} : OnlyIn [.mem] s (journalEnd b result n pulses s) := by
  rw [journalEnd, onlyIn_setBytes (by decide)]
  exact .refl

/-- The erase is over, and the block's header waits. -/
def eraseOver (b n : Nat) (s : State) : State :=
  (bankSync b (s.setBank b { s.bank b with erase := none, headers := (s.bank b).headers ++ [(n, s.get (Fld.FLASHC_ERASECNT_COUNT n))] })).freeNext

theorem onlyIn_eraseOver : OnlyIn [.regs, .flash, .freeCounter] s (eraseOver b n s) :=
  (onlyIn_freeNext (by decide)).mpr ((onlyIn_setBank.mono (by decide)).trans (onlyIn_bankSync.mono (by decide)))

/-- The erase of a block as it starts. -/
def State.glEraseBegun (n : Nat) (s : State) : State := eraseStart (bankOf (blockAddr n)) n (eraseCount n s)

theorem glEraseBlock_eq : glEraseBlock n s = eraseOver (bankOf (blockAddr n)) n
    (journalEnd (bankOf (blockAddr n)) 0 n (1 + (s.glEraseBegun n).freeNat % 96) (blockErase n (s.glEraseBegun n))) := rfl

theorem onlyIn_glEraseBegun : OnlyIn [.regs, .mem, .flash, .edges] s (s.glEraseBegun n) :=
  (onlyIn_eraseCount.mono (by decide)).trans (onlyIn_eraseStart.mono (by decide))

theorem belowMain_glEraseBegun : BelowMain s (s.glEraseBegun n) :=
  (BelowMain.of_mem (onlyIn_eraseCount.mem (by decide))).trans belowMain_eraseStart

theorem onlyIn_glEraseBlock : OnlyIn [.regs, .mem, .flash, .edges, .freeCounter] s (glEraseBlock n s) := by
  rw [glEraseBlock_eq]
  refine OnlyIn.trans ?_ (onlyIn_eraseOver.mono (by decide))
  refine OnlyIn.trans ?_ (onlyIn_journalEnd.mono (by decide))
  exact (onlyIn_glEraseBegun.mono (by decide)).trans (onlyIn_blockErase.mono (by decide))

theorem byte_glEraseBlock (hn : n < 512) (ha : a < 0x400000) :
    (glEraseBlock n s).byte a = if n * 0x2000 ≤ a ∧ a < (n + 1) * 0x2000 then 0xFF#8 else s.byte a := by
  rw [glEraseBlock_eq, State.byte_congr (onlyIn_eraseOver.mem (by decide)), belowMain_journalEnd a ha, byte_blockErase hn ha,
    belowMain_glEraseBegun a ha]

theorem byte_glErased (hn : n ≤ 512) (ha : a < n * 0x2000) : (s.forEach (List.range n) glEraseBlock).byte a = 0xFF#8 := by
  induction n with
  | zero => omega
  | succ n ih =>
    rw [State.forEach_range_succ, byte_glEraseBlock hn (by omega)]
    by_cases hlast : n * 0x2000 ≤ a
    case pos => exact if_pos ⟨hlast, ha⟩
    case neg =>
      rw [if_neg (fun h => hlast h.1)]
      exact ih (Nat.le_of_succ_le hn) (Nat.lt_of_not_le hlast)

/-- Every block of the main flash erased. -/
def State.mainErased (s : State) : State := s.forEach (List.range 512) glEraseBlock

theorem onlyIn_mainErased : OnlyIn [.regs, .mem, .flash, .edges, .freeCounter] s s.mainErased :=
  OnlyIn.forEach (fun _ _ => onlyIn_glEraseBlock) .refl

theorem markerUnit_above : 0x400000 ≤ markerUnit n := by
  rw [markerUnit]
  omega

theorem onlyIn_markerClear : OnlyIn [.mem] s (markerClear s) := by
  rw [markerClear]
  split
  · exact (onlyIn_setBytes (by decide)).mpr .refl
  · exact .refl

theorem belowMain_markerClear : BelowMain s (markerClear s) := by
  rw [markerClear]
  split
  · exact belowMain_setBytes markerUnit_above
  · exact .of_mem rfl

theorem belowMain_glStore : BelowMain s (glStore n s) := fun c hc => by
  rw [State.byte_congr mem_glStore]
  exact bytesOutside_infoUnit c (.inl (by omega))

/-- The change of the level is over. -/
def State.glEnded (s : State) : State := State.unflag Fld.KEYSTORE_STAT_LCBUSY { s with keys := { s.keys with glErase := false } }

theorem onlyIn_glEnded : OnlyIn [.regs, .keys] s s.glEnded := (onlyIn_unflag (by decide)).mpr (.of_frame rfl)

theorem glErase_glEnded : s.glEnded.keys.glErase = false := rfl

theorem has_LCBUSY_glEnded : s.glEnded.has Fld.KEYSTORE_STAT_LCBUSY = false := State.has_unflag_fits rfl

theorem get_GL_glEnded : s.glEnded.get Fld.KEYSTORE_STAT_GL = s.get Fld.KEYSTORE_STAT_GL := by
  rw [State.glEnded, State.unflag_eq_put, State.get_put_bitsApart rfl rfl]
  rfl

/-- The main flash erased, and level 0 stored. -/
def State.glZeroed (s : State) : State := markerClear (glStore 0 s.mainErased)

theorem onlyIn_glZeroed : OnlyIn [.regs, .mem, .flash, .keys, .edges, .freeCounter] s s.glZeroed :=
  (onlyIn_mainErased.mono (by decide)).trans ((onlyIn_glStore.mono (by decide)).trans (onlyIn_markerClear.mono (by decide)))

theorem get_GL_glZeroed : s.glZeroed.get Fld.KEYSTORE_STAT_GL = 0 := by
  rw [State.glZeroed, State.get_congr (onlyIn_markerClear.regs (by decide)), get_GL_glStore (by decide)]

theorem byte_glZeroed (ha : a < 0x400000) : s.glZeroed.byte a = 0xFF#8 := by
  rw [State.glZeroed, belowMain_markerClear a ha, belowMain_glStore a ha]
  exact byte_glErased (le_refl 512) ha

theorem exec_gl0EraseDone (herase : s.keys.glErase = true) (hidle : ∀ b, b < 2 → (s.bank b).unit = none ∧ (s.bank b).erase = none) :
    exec .gl0EraseDone s = .next (resetRequest 3 12 s.glZeroed.glEnded) := by
  obtain ⟨hunit0, herase0⟩ := hidle 0 (by decide)
  obtain ⟨hunit1, herase1⟩ := hidle 1 (by decide)
  change execGl0EraseDone s = _
  rw [execGl0EraseDone, if_neg (by simp [herase, hunit0, herase0, hunit1, herase1])]
  simp only [State.glZeroed, State.mainErased, State.glEnded]

theorem answers_gl0EraseDone (herase : s.keys.glErase = true) (hidle : ∀ b, b < 2 → (s.bank b).unit = none ∧ (s.bank b).erase = none) :
    Answers (exec .gl0EraseDone s) fun t =>
      t.get Fld.KEYSTORE_STAT_GL = 0 ∧ t.has Fld.KEYSTORE_STAT_LCBUSY = false ∧ t.keys.glErase = false
      ∧ (∀ a, a < 0x400000 → t.byte a = 0xFF#8) ∧ t.boot = { s.boot with scope := max s.boot.scope 3, causes := setBitN s.boot.causes 12 } := by
  have hboot : s.glZeroed.glEnded.boot = s.boot := (onlyIn_glEnded.boot (by decide)).trans (onlyIn_glZeroed.boot (by decide))
  refine .of_eq (exec_gl0EraseDone herase hidle) ⟨?_, ?_, ?_, fun a ha => ?_, ?_⟩
  · rw [get_resetRequest, get_GL_glEnded, get_GL_glZeroed]
  · rw [State.has_eq_of_get get_resetRequest, has_LCBUSY_glEnded]
  · rw [onlyIn_resetRequest.keys (by decide), glErase_glEnded]
  · rw [State.byte_congr (onlyIn_resetRequest.mem (by decide)), State.byte_congr (onlyIn_glEnded.mem (by decide)), byte_glZeroed ha]
  · rw [boot_resetRequest, hboot]

/-- Settles O46: tamper detections and the latch, life-cycle transitions, and guard levels up to the erase that GL0 ends with. -/
theorem tamperAndLifeCycle : Obligations.TamperAndLifeCycle := by
  unfold Obligations.TamperAndLifeCycle
  intro s
  refine ⟨fun k lf => ⟨fun h => ?_, fun h h1 h11 => ?_⟩, fun v hset hall => ?_, fun v => ?_, fun m v hkey hm => ⟨fun hno => ?_, fun hok hbusy hunits hlive => ?_⟩,
    fun n hto hn hsweep => ?_, fun m n hm hissues hn hgl hbusy hunits => ?_, fun herase hidle => ?_⟩
  · exact answers_tamperDetect_logged h
  · exact answers_tamperDetect_zero h h1 h11
  · exact answers_tamperLatchClear hset hall
  · exact answers_tamplockWrite
  · exact answers_lcRequest_refused hkey hm hno
  · exact answers_lcRequest_granted hkey hm hok hbusy hunits hlive
  · exact answers_lcTransitionDone hto hn hsweep
  · exact answers_glRequest hm hissues hn hgl hbusy hunits
  · exact answers_gl0EraseDone herase hidle

end Sys2Proof.Machine
end

section
/-!
SUPPORT. A write of PMU_DOMCTL that brings D9 up: the lane's entries with a parity error are reloaded then, and the words of an entry
of no calibration stand wherever its number leads, here over PMU_DOMCTL itself.
-/

namespace Sys2Proof.Machine

variable {s t : State} {n k : Nat}

/-- What a command's answer has, the state that it answers has. -/
theorem Answers.of_next {o : Out} {P : State → Prop} (h : Answers o P) (ho : o = .next t) : P t := by
  obtain ⟨u, hu, hP⟩ := h
  rw [hu] at ho
  cases ho
  exact hP

theorem State.get_eq_zero_of_rd {f : Field} (h : s.rd f.addr = 0) : s.get f = 0 := by
  rw [State.get, h]
  exact (congrArg (· % _) (Nat.zero_div _)).trans (Nat.zero_mod _)

/-- The number whose entry of lane 0 has its time stamp at the address of PMU_DOMCTL. -/
def strayEntry : Nat := 0xFFDFF8

theorem stamp_strayEntry : Reg.LANE_CALSTAMP 0 strayEntry = Reg.PMU_DOMCTL := by decide

/-- The reload of that entry. -/
theorem rd_DOMCTL_calReload : (calReload 0 strayEntry s).rd Reg.PMU_DOMCTL = 0 := by
  rw [calReload, stamp_strayEntry, calFresh, State.rd_setLane, setCalFailed, State.putBit, State.rd_put_other (by decide),
    State.rd_put_other (by decide), setCalStale, State.putBit, State.rd_put_other (by decide), State.rd_put_other (by decide),
    State.rd_wr_self]
  rfl

theorem rd_DOMCTL_evaluations : (s.forEach (List.range 17) (calEvaluate 0)).rd Reg.PMU_DOMCTL = s.rd Reg.PMU_DOMCTL :=
  (calChecked_evaluations fun _ h => List.mem_range.mp h).regs _ (by decide)

theorem rd_DOMCTL_laneDomainUp (h : (s.lane 0).calBad = [strayEntry]) : (laneDomainUp 0 s).rd Reg.PMU_DOMCTL = 0 := by
  have hbad : (((s.resetRegs (fun a => a == Reg.MODEM_LANEGAIN 0 || a == Reg.MODEM_AFCFRAC 0)).setAgc 0 {}).lane 0).calBad
      = [strayEntry] := h
  rw [laneDomainUp, calCheck, hbad, rd_DOMCTL_evaluations]
  exact (State.rd_put_other (by decide)).trans rd_DOMCTL_calReload

/-- RUN, with every domain on but D9, D4 retained, and an entry in error that lane 0 does not have. -/
def State.strayed : State :=
  let s := State.reset.wr Reg.PMU_DOMSTAT 0x00101DE7
  { s with lanes := [{ calBad := [strayEntry] }, {}], power := { s.power with state := .run } }

/-- The write of PMU_DOMCTL with mode 1 for D4, and the switches of RUN. -/
def State.switchedOn (s : State) : State :=
  let s := s.wr Reg.PMU_DOMCTL (BitVec.ofNat 32 ([4, 5, 6, 7, 8, 9, 10].map (fun k => domCode k ((1 : Word).toNat / 2 ^ (2 * k - 8) % 4) * 2 ^ (2 * k - 8))).sum)
  domsPut (stateDomains s.power.state s).1 (stateDomains s.power.state s).2 s

theorem calBad_switchedOn : (State.strayed.switchedOn.lane 0).calBad = [strayEntry] := rfl

/-- What a change of switches that turns on only Dk comes to. -/
theorem domShift_of_up {f : State → State} (hleave : switched.filter (fun k => s.domOn k && !(f s).domOn k) = [])
    (hlost : switched.filter (fun k => s.domKept k && !(f s).domKept k) = [])
    (hup : switched.filter (fun k => !s.domOn k && (f s).domOn k) = [k]) : domShift f s = domUp k (s.domKept k) (f s) := by
  rw [domShift, hleave, hlost, hup]
  rfl

theorem exec_domctlWrite_of_run (h : s.power.state = .run) : exec (.domctlWrite 1) s = .next (domShift State.switchedOn s) :=
  if_pos (.inl h)

theorem state_strayed : State.strayed.power.state = .run := by decide +kernel

theorem exec_domctlWrite_strayed : exec (.domctlWrite 1) State.strayed = .next (laneDomainUp 0 State.strayed.switchedOn) := by
  have hshift : domShift State.switchedOn State.strayed = domUp 9 (State.strayed.domKept 9) State.strayed.switchedOn :=
    domShift_of_up (by decide +kernel) (by decide +kernel) (by decide +kernel)
  exact (exec_domctlWrite_of_run state_strayed).trans (congrArg Host.Outcome.next hshift)

/-- Refutes O50: PMU_DOMCTL reads 0 after a write of 1, where the lane that comes up reloads an entry that stands over it. -/
theorem not_powerStates : ¬ Obligations.PowerStates := by
  intro h
  obtain ⟨-, -, -, -, -, -, -, -, hwrite⟩ := h State.strayed
  obtain ⟨hmode, -⟩ := (hwrite 1).of_next exec_domctlWrite_strayed
  have hfour := hmode 4 (by decide) (by decide)
  rw [State.get_eq_zero_of_rd (f := ⟨Reg.PMU_DOMCTL, 2 * 4 - 8, 2⟩) (rd_DOMCTL_laneDomainUp calBad_switchedOn)] at hfour
  exact absurd hfour (by decide)

end Sys2Proof.Machine
end

section
/-!
SUPPORT. The presentation of transmissions and of receive windows (R323 to R327, R332, R337): what stays as it was while a lane is
prepared, the activity that stands alone on its lanes, and the checks of a transmission.
-/

namespace Sys2Proof.Machine

variable {s t u : State} {a b c : Activity} {l n k : Nat}

/-! ### The lane of a presented activity -/

theorem onlyIn_calEvaluate : OnlyIn [.regs, .lanes] s (calEvaluate l n s) := by
  unfold calEvaluate
  extract_lets s₁
  have h₁ : OnlyIn [.regs, .lanes] s s₁ := .ite (onlyIn_setCalStale.mono (by decide)) .refl
  split
  · exact .ite (h₁.trans onlyIn_calRelease) h₁
  · exact h₁

theorem onlyIn_laneCode {code : Nat} : OnlyIn [.regs] s (laneCode l code s) := (onlyIn_put (by decide)).mpr .refl

theorem onlyIn_calReloaded {code : Nat} : OnlyIn [.regs, .lanes] s (laneCode l code (calReload l n s)) :=
  onlyIn_calReload.trans (onlyIn_laneCode.mono (by decide))

theorem onlyIn_calCheck : OnlyIn [.regs, .lanes] s (calCheck l s) := by
  unfold calCheck
  extract_lets s₁
  have h₁ : OnlyIn [.regs, .lanes] s s₁ := .forEach (fun _ _ => onlyIn_calReloaded) .refl
  exact .forEach (fun _ _ => onlyIn_calEvaluate) h₁

theorem onlyIn_laneDomainUp : OnlyIn [.regs, .lanes, .modem] s (laneDomainUp l s) := by
  have hagc : OnlyIn [.modem] (s.resetRegs (fun a => a == Reg.MODEM_LANEGAIN l || a == Reg.MODEM_AFCFRAC l))
      ((s.resetRegs (fun a => a == Reg.MODEM_LANEGAIN l || a == Reg.MODEM_AFCFRAC l)).setAgc l {}) := .of_frame rfl
  have hregs : OnlyIn [.regs] s (s.resetRegs (fun a => a == Reg.MODEM_LANEGAIN l || a == Reg.MODEM_AFCFRAC l)) :=
    (onlyIn_resetRegs (by decide)).mpr .refl
  exact ((hregs.mono (by decide)).trans (hagc.mono (by decide))).trans (onlyIn_calCheck.mono (by decide))

theorem onlyIn_lanesUp : OnlyIn [.regs, .lanes, .modem] t (lanesUp s t) :=
  .forEach (fun _ _ => .ite onlyIn_laneDomainUp .refl) .refl

theorem onlyIn_yieldBackground : OnlyIn [.regs, .yielded] s (yieldBackground n s) := by
  unfold yieldBackground
  extract_lets s₁
  have h₁ : OnlyIn [.regs, .yielded] s s₁ := (onlyIn_inc (by decide)).mpr .refl
  exact .ite h₁ ((onlyIn_yielded (by decide)).mpr h₁)

/-- What a lane's preparation may change: neither the activities nor LINK RAM. -/
abbrev laneParts : List Part := [.regs, .lanes, .edges, .yielded, .freeCounter]

theorem onlyIn_laneYield : OnlyIn laneParts s (laneYield l s) := by
  unfold laneYield
  extract_lets v s₁ s₂
  have h₁ : OnlyIn laneParts s s₁ := by simp [s₁]
  have h₂ : OnlyIn laneParts s s₂ := h₁.trans (onlyIn_yieldBackground.mono (by decide))
  refine .ite ?_ (.ite ?_ .refl)
  · exact (onlyIn_setLane (by decide)).mpr ((onlyIn_put (by decide)).mpr h₂)
  · exact (onlyIn_put (by decide)).mpr (onlyIn_yieldBackground.mono (by decide))

theorem onlyIn_calUse : OnlyIn [.regs, .lanes] s (calUse l n s) :=
  (onlyIn_setLane (by decide)).mpr (.ite onlyIn_calReloaded .refl)

theorem onlyIn_calUseVco {f : Nat} : OnlyIn [.regs, .lanes] s (calUseVco l f s) := by
  unfold calUseVco
  split
  · exact onlyIn_calUse
  · exact .refl

theorem onlyIn_laneLock : OnlyIn laneParts s (laneLock l s) := by
  unfold laneLock
  extract_lets f s₁ v s₂
  have h₁ : OnlyIn laneParts s s₁ := onlyIn_calUseVco.mono (by decide)
  have h₂ : OnlyIn laneParts s s₂ :=
    (onlyIn_setLane (by decide)).mpr ((onlyIn_flag (by decide)).mpr ((onlyIn_put (by decide)).mpr h₁))
  exact ((onlyIn_fire (by decide)).mpr h₂).trans (onlyIn_panRecheck.mono (by decide))

theorem onlyIn_laneTune {f : Nat} : OnlyIn laneParts s (laneTune l f s) := by
  unfold laneTune
  extract_lets s₁ s₂ v s₃
  have h₂ : OnlyIn laneParts s₁ s₂ :=
    OnlyIn.trans ((onlyIn_put (by decide)).mpr .refl) onlyIn_laneLock
  have h₃ : OnlyIn laneParts s₁ s₃ := .ite .refl ((onlyIn_setLane (by decide)).mpr h₂)
  exact (onlyIn_put (by decide)).mpr (onlyIn_laneYield.trans h₃)

/-! ### An activity alone -/

/-- t holds a and no other activity, and LINK RAM as in s. -/
def Alone (a : Activity) (s t : State) : Prop := t.link = { s.link with acts := [a] } ∧ t.mem = s.mem

theorem Alone.acts (h : Alone a s t) : t.acts = [a] := by rw [State.acts, h.1]

theorem Alone.onlyIn {p : List Part} (h : Alone a s t) (hp : OnlyIn p t u) (hlink : .link ∉ p) (hmem : .mem ∉ p) : Alone a s u :=
  ⟨(hp.link hlink).trans h.1, (hp.mem hmem).trans h.2⟩

theorem Alone.act (h : Alone a s t) : t.act a.id = some a := by
  rw [State.act, h.acts, List.find?_cons, beq_self_eq_true]

theorem Alone.sameBytes (h : Alone a s t) : SameBytes s t := .of_mem h.2

/-- The same activity put again, with other contents. -/
theorem alone_setAct (h : ∀ c ∈ s.acts, c.id = a.id) : Alone a s (s.setAct a) := by
  have hnone : s.acts.filter (fun c => c.id != a.id) = [] := List.filter_eq_nil_iff.mpr fun c hc => by simp [h c hc]
  refine ⟨(onlyIn_lanesUp.link (by decide)).trans ?_, onlyIn_lanesUp.mem (by decide)⟩
  rw [hnone]
  rfl

theorem Alone.setAct (h : Alone a s t) (hid : b.id = a.id) : Alone b s (t.setAct b) := by
  have hb : Alone b t (t.setAct b) := alone_setAct fun c hc => by
    rw [h.acts, List.mem_singleton] at hc
    rw [hc, hid]
  exact ⟨hb.1.trans (congrArg (fun x : Link => { x with acts := [b] }) h.1), hb.2.trans h.2⟩

theorem Alone.preemptLane (h : Alone a s t) : preemptLane l a.id t = t := by
  have hnone : t.acts.filter (fun c => c.lane == l && c.id != a.id && c.receives) = [] := by
    rw [h.acts]
    simp
  rw [Machine.preemptLane, hnone]
  rfl

/-- The listen period of the activity begins. -/
theorem Alone.lbtTune (h : Alone a s t) : Alone { a with listening := true } s (lbtTune a t) := by
  have hset : Alone { a with listening := true } s (t.setAct { a with listening := true }) := h.setAct rfl
  have hpre := hset.preemptLane (l := a.lane)
  unfold Machine.lbtTune
  extract_lets s₁ s₂
  have h₂ : Alone { a with listening := true } s s₂ := by
    rw [show s₂ = s₁ from hpre]
    exact hset
  split
  · exact hset
  · split
    · exact h₂
    · exact h₂.onlyIn onlyIn_laneTune (by decide) (by decide)

theorem Alone.listenDue (h : Alone a s t) : ∃ x, Alone { a with listening := x } s (listenDue t) := by
  rw [Machine.listenDue, h.acts, List.filter_cons]
  split
  · exact ⟨true, h.lbtTune⟩
  · exact ⟨a.listening, h⟩

theorem Alone.prepare {f : Nat} (h : Alone a s t) : Alone a s (prepare b f t) := by
  unfold Machine.prepare
  split
  · split
    · exact h.onlyIn onlyIn_laneTune (by decide) (by decide)
    · exact h
  · exact h

/-- Alone on its lanes, an activity meets no other. -/
theorem conflicting_of_alone (h : ∀ c ∈ s.acts, c.id = a.id) : conflicting s a = [] := by
  have hhit : s.acts.filter (fun c => c.id != a.id && c.kind != .ack && c.uses a.lane a.useFrom a.useTo) = [] :=
    List.filter_eq_nil_iff.mpr fun c hc => by simp [h c hc]
  rw [conflicting, hhit]
  split <;> rfl

theorem alone_settle (h : ∀ c ∈ s.acts, c.id = a.id) : Alone { a with phase := .presented } s (settle a s) := by
  have hset : Alone { a with phase := .presented } s (s.setAct { a with phase := .presented }) := alone_setAct h
  rw [settle, conflicting_of_alone h]
  exact hset

/-- What is presented stands alone in the table, perhaps with its listen period begun. -/
theorem alone_presented {f : Nat} (h : ∀ c ∈ s.acts, c.id = a.id) :
    ∃ x, Alone { a with phase := .presented, listening := x } s (listenDue (prepare a f (settle a s))) :=
  ((alone_settle h).prepare (b := a) (f := f)).listenDue

/-! ### Readiness -/

theorem readyCheck_keeps {f boundary : Nat} {tx : Bool} (h : readyCheck s a f boundary tx = some b) :
    b.id = a.id ∧ b.frame = a.frame := by
  rw [readyCheck] at h
  split at h
  · cases h
    exact ⟨rfl, rfl⟩
  · split at h
    · cases h
      exact ⟨rfl, rfl⟩
    · cases h

/-! ### The admission of a key -/

/-- The listen time of a sub-band stands in no register of the key store, and beside the count that may share its address. -/
theorem get_LBTTIME_put_CNT {f : Field} {v : Nat} (hf : f.fits = true) (hbits : f.bitsApart ⟨0, 16, 8⟩ = true) :
    (s.put f v).get (Fld.RF_SBPWR_LBTTIME k) = s.get (Fld.RF_SBPWR_LBTTIME k) :=
  State.get_put_bitsApart hf hbits

theorem get_LBTTIME_admitted : (s.admitted n).get (Fld.RF_SBPWR_LBTTIME k) = s.get (Fld.RF_SBPWR_LBTTIME k) := by
  have hadmits : (Fld.RF_SBPWR_LBTTIME k).addr ≠ Fld.KEYSTORE_CNT_ADMITS.addr := by
    simp only [Fld.RF_SBPWR_LBTTIME, Fld.KEYSTORE_CNT_ADMITS, Reg.RF_SBPWR, Reg.KEYSTORE_CNT]
    omega
  have hcounted : (s.inc Fld.KEYSTORE_CNT_ADMITS).get (Fld.RF_SBPWR_LBTTIME k) = s.get (Fld.RF_SBPWR_LBTTIME k) := by
    rw [State.inc_eq_put, State.get_put_other hadmits]
  have hused : ∀ (t : State) (v : Nat), (t.put (keyUses n) v).get (Fld.RF_SBPWR_LBTTIME k) = t.get (Fld.RF_SBPWR_LBTTIME k) :=
    fun _ _ => get_LBTTIME_put_CNT rfl rfl
  rw [State.admitted, keyUse]
  split
  · exact hcounted
  · split
    · rw [State.get_fire, State.inc_eq_put, get_LBTTIME_put_CNT rfl rfl, hused, hcounted]
    · rw [hused, hcounted]

theorem lbtLead_congr (h : ∀ k, t.get (Fld.RF_SBPWR_LBTTIME k) = s.get (Fld.RF_SBPWR_LBTTIME k)) : lbtLead t a = lbtLead s a := by
  rw [lbtLead, lbtLead]
  split
  · rw [lbtTicks, lbtTicks, h]
  · rfl

/-- The key of a frame with a MIC asked for. -/
def txAdmission (f : TxFrame) (fails : Bool) (s : State) : Nat × State := if f.micsz = 0 then (0, s) else linkAdmit f.key 0 fails s

theorem linkAdmit_granted {fails : Bool} (h : (linkAdmit n 0 fails s).1 = 0) : (linkAdmit n 0 fails s).2 = s.admitted n := by
  rw [linkAdmit, keyAdmit_code] at h
  rw [linkAdmit, keyAdmit_granted h]

theorem txAdmission_granted {f : TxFrame} {fails : Bool} (h : (txAdmission f fails s).1 = 0) :
    (txAdmission f fails s).2 = s ∨ (txAdmission f fails s).2 = s.admitted f.key := by
  by_cases hm : f.micsz = 0
  case pos => exact .inl (by rw [txAdmission, if_pos hm])
  case neg =>
    rw [txAdmission, if_neg hm] at h ⊢
    exact .inr (linkAdmit_granted h)

theorem onlyIn_txAdmission {f : TxFrame} {fails : Bool} (h : (txAdmission f fails s).1 = 0) :
    OnlyIn [.regs, .edges] s (txAdmission f fails s).2 := by
  rcases txAdmission_granted h with h | h <;> rw [h]
  · exact .refl
  · exact onlyIn_admitted

theorem lbtLead_txAdmission {f : TxFrame} {fails : Bool} (h : (txAdmission f fails s).1 = 0) :
    lbtLead (txAdmission f fails s).2 a = lbtLead s a := by
  rcases txAdmission_granted h with h | h <;> rw [h]
  exact lbtLead_congr fun _ => get_LBTTIME_admitted

/-! ### A transmission that no check refuses -/

/-- Beacons and requests draw a free value for their own fields. -/
def txSource (f : TxFrame) (s : State) : State := if f.type = 3 ∨ f.type = 5 then s.freeNext else s

theorem onlyIn_txSource {f : TxFrame} : OnlyIn [.freeCounter] s (txSource f s) := .ite ((onlyIn_freeNext (by decide)).mpr .refl) .refl

/-- The state in which a plan's launch is checked. -/
def txStart (a : Activity) (t0 : List Byte) (want : Nat) (fails : Bool) (s : State) : State :=
  (txAdmission (txPlan a t0 want s).1 fails (txSource (txPlan a t0 want s).1 s)).2

variable {t0 : List Byte} {want boundary : Nat} {fails : Bool}

/-- The checks that b, readied from a, has passed. -/
structure TxPassed (a b : Activity) (t0 : List Byte) (want boundary : Nat) (fails : Bool) (s : State) : Prop where
  pre : txPreCode (txSource (txPlan a t0 want s).1 s) (txPlan a t0 want s).2.1 t0 (txPlan a t0 want s).1 (txPlan a t0 want s).2.2 = 0
  key : (txAdmission (txPlan a t0 want s).1 fails (txSource (txPlan a t0 want s).1 s)).1 = 0
  post : txPostCode (txStart a t0 want fails s) (txPlan a t0 want s).2.1 (txPlan a t0 want s).1 = 0
  ready : readyCheck (txStart a t0 want fails s) (txPlan a t0 want s).2.1
    (chanFreq (txPlan a t0 want s).2.1.mode (txPlan a t0 want s).2.1.chan) boundary true = some b
  listen : lbtLead (txSource (txPlan a t0 want s).1 s) b = 0
    ∨ (txSource (txPlan a t0 want s).1 s).now + lbtLead (txSource (txPlan a t0 want s).1 s) b ≤ b.launch

theorem txPassed (h : txReadied a t0 want boundary fails s = some b) : TxPassed a b t0 want boundary fails s := by
  unfold txReadied at h
  extract_lets p u adm at h
  split at h
  case isFalse => cases h
  case isTrue hcodes =>
    obtain ⟨hpre, hkey, hpost⟩ := hcodes
    obtain ⟨hready, hlisten⟩ := Option.filter_eq_some_iff.mp h
    exact ⟨hpre, hkey, hpost, hready, of_decide_eq_true hlisten⟩

theorem onlyIn_txStart (h : TxPassed a b t0 want boundary fails s) :
    OnlyIn [.regs, .edges, .freeCounter] s (txStart a t0 want fails s) :=
  (onlyIn_txSource.mono (by decide)).trans ((onlyIn_txAdmission h.key).mono (by decide))

theorem id_txPlan : (txPlan a t0 want s).2.1.id = a.id := by
  unfold txPlan
  dsimp only
  split <;> rfl

theorem frame_txPlan : (txPlan a t0 want s).2.1.frame = some (txPlan a t0 want s).1 := by
  unfold txPlan
  dsimp only
  split <;> rfl

theorem TxPassed.id (h : TxPassed a b t0 want boundary fails s) : b.id = a.id := (readyCheck_keeps h.ready).1.trans id_txPlan

theorem TxPassed.frame (h : TxPassed a b t0 want boundary fails s) : b.frame = some (txPlan a t0 want s).1 :=
  (readyCheck_keeps h.ready).2.trans frame_txPlan

/-- A transmission that no check refuses is presented. -/
theorem presentTx_of_passed (h : TxPassed a b t0 want boundary fails s) :
    presentTx a t0 want boundary fails s = listenDue (prepare b (chanFreq (txPlan a t0 want s).2.1.mode (txPlan a t0 want s).2.1.chan)
      (settle b (txStart a t0 want fails s))) := by
  have hnow : (txStart a t0 want fails s).now = (txSource (txPlan a t0 want s).1 s).now := by
    rw [State.now, State.now, txStart, (onlyIn_txAdmission h.key).tide (by decide)]
  have hlate : ¬ (lbtLead (txStart a t0 want fails s) b ≠ 0
      ∧ b.launch < (txStart a t0 want fails s).now + lbtLead (txStart a t0 want fails s) b) := by
    rw [hnow, txStart, lbtLead_txAdmission h.key]
    have := h.listen
    omega
  unfold presentTx
  extract_lets p f a' u pre adm v post freq
  have hpre : pre = 0 := h.pre
  have hkey : adm.1 = 0 := h.key
  have hpost : post = 0 := h.post
  have hready : readyCheck v a' freq boundary true = some b := h.ready
  rw [if_neg (not_not.mpr hpre), if_neg (not_not.mpr hkey), if_neg (not_not.mpr hpost), hready]
  exact if_neg hlate

end Sys2Proof.Machine
end

section
/-!
SUPPORT. The presentation of an entry of the timeline, of a retransmission and of a block-ack (R323, R327, R332, R337).
-/

namespace Sys2Proof.Machine

variable {s t u : State} {a b c : Activity} {l n k want boundary : Nat} {t0 : List Byte} {fails : Bool}

/-! ### An entry of the timeline -/

/-- The activity of entry n under template t0, presented before its launch time. -/
def entryActivity (s : State) (n : Nat) (t0 : List Byte) : Activity :=
  { id := n, kind := actKind (tKind t0), mode := tMode t0, chan := entryChan s n t0, lane := s.tl n TF.LANE - 1,
    prio := tPrio t0, latepol := tLatepol t0, ctx := entryCtx s n (actKind (tKind t0)), tlaunch := s.tl n TF.TLAUNCH,
    launch := s.tl n TF.TLAUNCH, tmpl := t0 }

/-- Entry n is due under template t0, and no activity is held. -/
structure EntryDue (s : State) (n : Nat) (t0 : List Byte) : Prop where
  acts : s.acts = []
  enabled : s.has Fld.LINK_SCHCFG_EN = true
  valid : s.tl n TF.VALID = 1
  tmpl : s.tmpl (s.tl n TF.TMPL) = some t0
  future : s.now ≤ s.tl n TF.TLAUNCH
  due : presentFrom s n (tMode t0) (entryChan s n t0) (actKind (tKind t0)) ≤ s.now

theorem act_of_acts_nil (h : s.acts = []) : s.act n = none := by
  rw [State.act, h]
  rfl

theorem dropAct_of_acts_nil (h : s.acts = []) : s.dropAct n = s := by
  have hnil : s.link.acts = [] := h
  have hdrop : s.dropAct n = { s with link := { s.link with acts := s.link.acts.filter (fun b => b.id != n) } } := rfl
  rw [hdrop, hnil, List.filter_nil, ← hnil]

theorem EntryDue.not_past (h : EntryDue s n t0) : decide (s.tl n TF.TLAUNCH < s.now) = false :=
  decide_eq_false (Nat.not_lt.mpr h.future)

/-- The entry is served: it is valid, the schedule runs and nothing is held for it. -/
theorem EntryDue.served (h : EntryDue s n t0) : ¬ (s.tl n TF.VALID = 0 ∨ (!s.has Fld.LINK_SCHCFG_EN) = true ∨ false = true) := by
  simp [h.valid, h.enabled]

theorem EntryDue.not_early (h : EntryDue s n t0) {kind : ActKind} (hk : actKind (tKind t0) = kind) :
    ¬ ((none : Option Activity).isNone = true ∧ s.now < presentFrom s n (tMode t0) (entryChan s n t0) kind) := by
  rw [← hk]
  exact fun hearly => absurd hearly.2 (Nat.not_lt.mpr h.due)

theorem presentEntry_tx (h : EntryDue s n t0) (hk : actKind (tKind t0) = .tx) :
    presentEntry n boundary fails s = presentTx (entryActivity s n t0) t0 (s.tl n TF.LANE) boundary fails s := by
  unfold presentEntry entryActivity
  rw [act_of_acts_nil h.acts, h.tmpl]
  dsimp only
  rw [h.not_past, hk, if_neg h.served, if_neg (h.not_early hk), dropAct_of_acts_nil h.acts]
  rfl

theorem presentEntry_beacon (h : EntryDue s n t0) (hk : actKind (tKind t0) = .beacon) :
    presentEntry n boundary fails s = presentTx (entryActivity s n t0) t0 (s.tl n TF.LANE) boundary fails s := by
  unfold presentEntry entryActivity
  rw [act_of_acts_nil h.acts, h.tmpl]
  dsimp only
  rw [h.not_past, hk, if_neg h.served, if_neg (h.not_early hk), dropAct_of_acts_nil h.acts]
  rfl

/-- The activity of a receive window. -/
def listenActivity (s : State) (n : Nat) (t0 : List Byte) : Activity :=
  { entryActivity s n t0 with useFrom := s.tl n TF.TLAUNCH, useTo := s.tl n TF.TLAUNCH + tRxwin t0 }

theorem presentEntry_listen (h : EntryDue s n t0) (hk : actKind (tKind t0) = .listen) :
    presentEntry n boundary fails s = presentRx (listenActivity s n t0) (pansWanted (listenActivity s n t0) (tPans t0))
      (pansTogether s n (tMode t0)) (s.tl n TF.LANE) boundary s := by
  unfold presentEntry listenActivity entryActivity
  rw [act_of_acts_nil h.acts, h.tmpl]
  dsimp only
  rw [h.not_past, hk, if_neg h.served, if_neg (h.not_early hk), dropAct_of_acts_nil h.acts]
  simp only [Bool.false_eq_true, false_and, if_false, Bool.false_or, Option.isSome_none]

/-! ### A transmission presented -/

theorem Alone.of_onlyIn {p : List Part} (hp : OnlyIn p s t) (h : Alone a t u) (hlink : .link ∉ p) (hmem : .mem ∉ p) : Alone a s u :=
  ⟨h.1.trans (congrArg (fun x : Link => { x with acts := [a] }) (hp.link hlink)), h.2.trans (hp.mem hmem)⟩

/-- What stands after the launch has been worked out, alone in the table. -/
def PresentedAs (b : Activity) (s t : State) : Prop := ∃ x, Alone { b with phase := .presented, listening := x } s t

theorem PresentedAs.act (h : PresentedAs b s t) (hid : b.id = n) :
    ∃ c, t.act n = some c ∧ c = { b with phase := .presented, listening := c.listening } := by
  obtain ⟨x, hx⟩ := h
  subst hid
  exact ⟨_, hx.act, rfl⟩

theorem PresentedAs.sameBytes (h : PresentedAs b s t) : SameBytes s t := h.choose_spec.sameBytes

theorem acts_of_onlyIn {p : List Part} (hp : OnlyIn p s t) (hlink : .link ∉ p) : t.acts = s.acts :=
  congrArg Link.acts (hp.link hlink)

theorem presentedAs_after {p : List Part} {f : Nat} (hp : OnlyIn p s u) (hlink : .link ∉ p) (hmem : .mem ∉ p)
    (hids : ∀ c ∈ s.acts, c.id = b.id) : PresentedAs b s (listenDue (prepare b f (settle b u))) := by
  obtain ⟨x, hx⟩ := alone_presented (f := f) (a := b) (s := u) (by rwa [acts_of_onlyIn hp hlink])
  exact ⟨x, .of_onlyIn hp hx hlink hmem⟩

theorem presentedAs_presentTx (h : TxPassed a b t0 want boundary fails s) (hids : ∀ c ∈ s.acts, c.id = a.id) :
    PresentedAs b s (presentTx a t0 want boundary fails s) := by
  rw [presentTx_of_passed h]
  exact presentedAs_after (onlyIn_txStart h) (by decide) (by decide) (by rwa [h.id])

theorem exec_tlPresent {e : Fin 64} : exec (.tlPresent e boundary fails) s = .next (presentEntry e boundary fails s) := rfl

theorem answers_tlPresent_tx {e : Fin 64} (h : EntryDue s e t0) (hk : actKind (tKind t0) = .tx ∨ actKind (tKind t0) = .beacon)
    (hb : txReadied (entryActivity s e t0) t0 (s.tl e TF.LANE) boundary fails s = some b) :
    Answers (exec (.tlPresent e boundary fails) s) fun t =>
      (∃ c, t.act e = some c ∧ c = { b with phase := .presented, listening := c.listening }) ∧ SameBytes s t := by
  have hpass := txPassed hb
  have hexec : exec (.tlPresent e boundary fails) s
      = .next (presentTx (entryActivity s e t0) t0 (s.tl e TF.LANE) boundary fails s) := by
    rw [exec_tlPresent]
    rcases hk with hk | hk
    · rw [presentEntry_tx h hk]
    · rw [presentEntry_beacon h hk]
  have hpres := presentedAs_presentTx hpass (by simp [h.acts])
  exact .of_eq hexec ⟨hpres.act hpass.id, hpres.sameBytes⟩

/-! ### A receive window presented -/

section
variable {chs together : List (Nat × Nat)}

/-- A reception on its lane, and with the centre of its span. -/
def rxPlaced (a : Activity) (chs : List (Nat × Nat)) (want : Nat) (s : State) : Activity :=
  { a with lane := (laneChoice s want a.kind (bandOf a.mode) a.useFrom a.useTo a.id).2, npans := chs.length }
def rxPlanned (a : Activity) (chs together : List (Nat × Nat)) (want : Nat) (s : State) : Activity :=
  { rxPlaced a chs want s with centre := rxCentre s (rxPlaced a chs want s) chs together }

/-- A receive window with time enough and a lane is presented. -/
theorem presentRx_listen (hk : a.kind = .listen) (hpaired : s.paired = false) (hearly : s.now + 1280 ≤ a.launch)
    (hlane : (laneChoice s want a.kind (bandOf a.mode) a.useFrom a.useTo a.id).1 = 0) :
    presentRx a chs together want boundary s = prepare (rxPlanned a chs together want s) (rxPlanned a chs together want s).centre
      (settle (rxPlanned a chs together want s) s) := by
  unfold presentRx
  extract_lets lc a₁ f a₂
  have hlc : lc.1 = 0 := hlane
  have ha₁ : a₁ = rxPlaced a chs want s := by simp [a₁, lc, rxPlaced, hpaired]
  have ha₂ : a₂ = rxPlanned a chs together want s := by
    simp only [a₂, f, ha₁]
    rfl
  have hf : f = (rxPlanned a chs together want s).centre := congrArg Activity.centre ha₂
  have hready : readyCheck s a₂ f boundary false = some a₂ := if_pos (.inl hearly)
  rw [if_neg (fun h => h.1 hk), if_neg (not_not.mpr hlc), hready, ha₂, hf]

end

/-- The receive window of entry n as it is presented. -/
def listenPlanned (s : State) (n : Nat) (t0 : List Byte) : Activity :=
  rxPlanned (listenActivity s n t0) (pansWanted (listenActivity s n t0) (tPans t0)) (pansTogether s n (tMode t0)) (s.tl n TF.LANE) s

theorem answers_tlPresent_listen {e : Fin 64} (h : EntryDue s e t0) (hk : actKind (tKind t0) = .listen) (hpaired : s.paired = false)
    (hearly : s.now + 1280 ≤ s.tl e TF.TLAUNCH)
    (hlane : (laneChoice s (s.tl e TF.LANE) .listen (bandOf (tMode t0)) (s.tl e TF.TLAUNCH) (s.tl e TF.TLAUNCH + tRxwin t0) e).1 = 0) :
    Answers (exec (.tlPresent e boundary fails) s) fun t =>
      (∃ c, t.act e = some c ∧ c.phase = .presented ∧ c.kind = .listen ∧ c.mode = tMode t0
        ∧ c.chan = entryChan s e t0 ∧ c.launch = s.tl e TF.TLAUNCH ∧ c.useTo = s.tl e TF.TLAUNCH + tRxwin t0
        ∧ c.npans = tPans t0
        ∧ c.lane = (laneChoice s (s.tl e TF.LANE) .listen (bandOf (tMode t0)) (s.tl e TF.TLAUNCH) (s.tl e TF.TLAUNCH + tRxwin t0) e).2)
      ∧ SameBytes s t := by
  have hkind : (listenActivity s e t0).kind = .listen := hk
  have hlane' : (laneChoice s (s.tl e TF.LANE) (listenActivity s e t0).kind (bandOf (listenActivity s e t0).mode)
      (listenActivity s e t0).useFrom (listenActivity s e t0).useTo (listenActivity s e t0).id).1 = 0 := by
    rw [hkind]
    exact hlane
  have hexec : exec (.tlPresent e boundary fails) s
      = .next (prepare (listenPlanned s e t0) (listenPlanned s e t0).centre (settle (listenPlanned s e t0) s)) := by
    rw [exec_tlPresent, presentEntry_listen h hk, presentRx_listen hkind hpaired hearly hlane']
    rfl
  have halone := (alone_settle (a := listenPlanned s e t0) (s := s) (by simp [h.acts])).prepare
    (b := listenPlanned s e t0) (f := (listenPlanned s e t0).centre)
  refine .of_eq hexec ⟨⟨_, halone.act, rfl, hk, rfl, rfl, rfl, rfl, ?_, ?_⟩, halone.sameBytes⟩
  · exact (List.length_map _).trans List.length_range
  · exact congrArg (fun k => (laneChoice s (s.tl e TF.LANE) k (bandOf (tMode t0)) (s.tl e TF.TLAUNCH) (s.tl e TF.TLAUNCH + tRxwin t0) e).2) hk

/-! ### A retransmission -/

theorem fcnt_txElements {m : Nat} {f : TxFrame} : (txElements m f s).fcnt = f.fcnt := by
  unfold txElements
  extract_lets able dk pr g g' len
  change g'.fcnt = f.fcnt
  simp only [g']
  split <;> rfl

theorem payload_txElements {m : Nat} {f : TxFrame} : (txElements m f s).payload = f.payload := by
  unfold txElements
  extract_lets able dk pr g g' len
  change g'.payload = f.payload
  simp only [g']
  split <;> rfl

/-- A retransmission keeps its counter and its payload. -/
theorem fcnt_entryFrame {f : TxFrame} : (entryFrame s a t0 (some f)).fcnt = f.fcnt := fcnt_txElements

theorem payload_entryFrame {f : TxFrame} : (entryFrame s a t0 (some f)).payload = f.payload := payload_txElements

theorem frame_kept_txPlan {f : TxFrame} (h : a.frame = some f) :
    (txPlan a t0 want s).1.fcnt = f.fcnt ∧ (txPlan a t0 want s).1.payload = f.payload := by
  have hplan : (txPlan a t0 want s).1 = entryFrame s a t0 (some f) := h ▸ rfl
  rw [hplan]
  exact ⟨fcnt_entryFrame, payload_entryFrame⟩

/-- The retransmission as it is presented. -/
def retryActivity (a : Activity) (s : State) (t0 : List Byte) : Activity :=
  { a with launch := s.now, lbtDone := false, listening := false, tmpl := t0 }

theorem exec_retryTimer_of_waiting (hacts : s.acts = [a]) (hid : a.id < 64) (hphase : a.phase = .retryWait)
    (htmpl : s.tmpl (s.tl a.id TF.TMPL) = some t0) : exec (.retryTimer a.id boundary fails) s
      = .next (presentTx (retryActivity a s t0) t0 (s.tl a.id TF.LANE) boundary fails s) := by
  have hact : s.act a.id = some a := by
    rw [State.act, hacts, List.find?_cons, beq_self_eq_true]
  change execRetryTimer a.id boundary fails s = _
  rw [execRetryTimer, hact]
  dsimp only
  rw [if_neg (not_not.mpr hphase), if_pos hid, htmpl]
  dsimp only
  rw [if_pos hid]
  rfl

theorem answers_retryTimer {f : TxFrame} (hacts : s.acts = [a]) (hid : a.id < 64) (hphase : a.phase = .retryWait)
    (hframe : a.frame = some f) (htmpl : s.tmpl (s.tl a.id TF.TMPL) = some t0)
    (hb : txReadied (retryActivity a s t0) t0 (s.tl a.id TF.LANE) boundary fails s = some b) :
    Answers (exec (.retryTimer a.id boundary fails) s) fun t =>
      (∃ c, t.act a.id = some c ∧ c = { b with phase := .presented, listening := c.listening })
      ∧ b.frame.bind TxFrame.fcnt = f.fcnt ∧ b.frame.map TxFrame.payload = some f.payload ∧ SameBytes s t := by
  have hpass := txPassed hb
  have hpres := presentedAs_presentTx hpass (by simp [hacts, retryActivity])
  obtain ⟨hfcnt, hpayload⟩ := frame_kept_txPlan (t0 := t0) (want := s.tl a.id TF.LANE) (s := s) (a := retryActivity a s t0) hframe
  refine .of_eq (exec_retryTimer_of_waiting hacts hid hphase htmpl) ⟨hpres.act hpass.id, ?_, ?_, hpres.sameBytes⟩
  · rw [hpass.frame]
    exact hfcnt
  · rw [hpass.frame]
    exact congrArg some hpayload

/-! ### The block-ack of a deferred-ack entry -/

theorem dackId_of_acts_nil (h : s.acts = []) : dackId s = 136 := by
  have hnone : s.act 136 = none := act_of_acts_nil h
  rw [dackId, h, List.length_nil, List.range_one, List.find?_cons]
  simp [hnone]

theorem dackEntry_congr {d : DackEntry} (h : t.mem = s.mem) : dackEntry t k d = dackEntry s k d := by
  rw [dackEntry, dackEntry, State.num_eq_of_mem h]

theorem dackEntry_mark {d : DackEntry} {e : Option Nat} : dackEntry s k { d with act := e } = { dackEntry s k d with act := e } := rfl

/-- The entries of the table, with one of them marked. -/
theorem dacks_marked {d : DackEntry} {e : Option Nat} (hmem : t.mem = s.mem)
    (hlink : t.link.dacks = s.link.dacks.modify k (fun d => { d with act := e })) (hd : s.dacks[k]? = some d) :
    t.dacks = s.dacks.set k { d with act := e } := by
  have hentry : ∀ (d : DackEntry) (i : Nat), dackEntry t i d = dackEntry s i d := fun _ _ => dackEntry_congr hmem
  refine List.ext_getElem? fun i => ?_
  have hget : ∀ (u : State) (j : Nat), u.dacks[j]? = u.link.dacks[j]?.map (dackEntry u j) := fun u j => by
    rw [State.dacks, List.getElem?_map, List.getElem?_zipIdx, Option.map_map, Nat.zero_add]
    rfl
  rw [hget] at hd
  rw [hget, hlink, List.getElem?_modify, List.getElem?_set, hget]
  obtain ⟨d', hd', rfl⟩ := Option.map_eq_some_iff.mp hd
  by_cases hi : k = i
  case pos =>
    subst hi
    have hk : k < s.dacks.length := by
      rw [State.dacks, List.length_map, List.length_zipIdx]
      exact (List.getElem?_eq_some_iff.mp hd').1
    rw [if_pos rfl, if_pos hk, hd', Option.map_eq_map, Option.map_some, Option.map_some, if_pos rfl, hentry, dackEntry_mark]
  case neg =>
    simp only [if_neg hi, id_map', funext fun d => hentry d i]

/-- The entry of slot k marked with its activity. -/
theorem onlyIn_markDack : OnlyIn [.link] s (markDack k n s) := .of_frame rfl

/-- The checks that the block-ack b, readied from entry d, has passed. -/
structure DackPassed (n : Nat) (d : DackEntry) (b : Activity) (t0 : List Byte) (boundary : Nat) (fails : Bool) (s : State) : Prop where
  pre : txPreCode s (dackPlan n d t0 s).2.1 t0 (dackPlan n d t0 s).1 (dackPlan n d t0 s).2.2 = 0
  key : (linkAdmit (dackPlan n d t0 s).1.key 0 fails s).1 = 0
  mic : (dackPlan n d t0 s).1.micsz ≠ 0
  post : txPostCode (linkAdmit (dackPlan n d t0 s).1.key 0 fails s).2 (dackPlan n d t0 s).2.1 (dackPlan n d t0 s).1 = 0
  ready : readyCheck (linkAdmit (dackPlan n d t0 s).1.key 0 fails s).2 (dackPlan n d t0 s).2.1
    (chanFreq (dackPlan n d t0 s).2.1.mode (dackPlan n d t0 s).2.1.chan) boundary true = some b

theorem dackPassed {d : DackEntry} (h : dackReadied n d t0 boundary fails s = some b) : DackPassed n d b t0 boundary fails s := by
  unfold dackReadied at h
  extract_lets p adm at h
  split at h
  case isFalse => cases h
  case isTrue hcodes =>
    obtain ⟨hpre, hkey, hmic, hpost⟩ := hcodes
    exact ⟨hpre, hkey, hmic, hpost, h⟩

theorem exec_dackTimeout_of_passed {e : Fin 16} {d : DackEntry} (hid : dackId s = n) (hd : s.dacks[e.val]? = some d) (hact : d.act = none)
    (htmpl : (markDack e n s).tmpl ((markDack e n s).get Fld.LINK_ACKCFG_BATMPL) = some t0)
    (h : DackPassed n d b t0 boundary fails (markDack e n s)) : exec (.dackTimeout e boundary fails) s
      = .next (listenDue (prepare b (chanFreq (dackPlan n d t0 (markDack e n s)).2.1.mode (dackPlan n d t0 (markDack e n s)).2.1.chan)
        (settle b (linkAdmit (dackPlan n d t0 (markDack e n s)).1.key 0 fails (markDack e n s)).2))) := by
  change execDackTimeout e boundary fails s = _
  rw [execDackTimeout, hd]
  dsimp only
  rw [if_neg (by simp [hact]), hid, htmpl]
  dsimp only
  rw [if_neg (not_not.mpr h.pre), if_neg (not_not.mpr h.key), if_neg h.mic, if_neg (not_not.mpr h.post), h.ready]

theorem answers_dackTimeout {e : Fin 16} {d : DackEntry} (hacts : s.acts = []) (hd : s.dacks[e.val]? = some d) (hact : d.act = none)
    (htmpl : s.tmpl (s.get Fld.LINK_ACKCFG_BATMPL) = some t0)
    (hb : dackReadied 136 d t0 boundary fails (markDack e 136 s) = some b) :
    Answers (exec (.dackTimeout e boundary fails) s) fun t =>
      t.dacks = s.dacks.set e { d with act := some 136 } ∧ SameBytes s t
      ∧ ∃ c, t.act 136 = some c ∧ c = { b with phase := .presented, listening := c.listening } := by
  have h := dackPassed hb
  have hid : b.id = 136 := (readyCheck_keeps h.ready).1
  have hkey : OnlyIn [.regs, .edges] (markDack e 136 s) (linkAdmit (dackPlan 136 d t0 (markDack e 136 s)).1.key 0 fails (markDack e 136 s)).2 := by
    rw [linkAdmit_granted h.key]
    exact onlyIn_admitted
  have hnone : ∀ c ∈ (markDack e 136 s).acts, c.id = b.id := by
    rw [show (markDack e 136 s).acts = s.acts from rfl, hacts]
    simp
  have hpres := presentedAs_after (f := chanFreq (dackPlan 136 d t0 (markDack e 136 s)).2.1.mode
    (dackPlan 136 d t0 (markDack e 136 s)).2.1.chan) hkey (by decide) (by decide) hnone
  have hmark : (markDack e 136 s).mem = s.mem := rfl
  have hsame : SameBytes s (markDack e 136 s) := .of_mem hmark
  refine .of_eq (exec_dackTimeout_of_passed (dackId_of_acts_nil hacts) hd hact htmpl h) ⟨?_, hsame.trans hpres.sameBytes, hpres.act hid⟩
  obtain ⟨x, hlink, hmem⟩ := hpres
  exact dacks_marked (hmem.trans hmark) (congrArg Link.dacks hlink) hd

/-- Settles O36: what no check refuses is presented, for entries, retransmissions and block-acks. -/
theorem transmissionsPresented : Obligations.TransmissionsPresented := by
  unfold Obligations.TransmissionsPresented
  intro s t0 boundary fails
  refine ⟨fun n a b hacts hen hvalid htmpl hfuture hdue ha => ?_, fun a b f hacts hid hphase hframe htmpl hb => ?_,
    fun k d b hacts hd hact htmpl hb => ?_⟩
  · have hentry : EntryDue s n t0 := ⟨hacts, hen, hvalid, htmpl, hfuture, hdue⟩
    subst ha
    exact ⟨fun hk hb => answers_tlPresent_tx hentry hk hb,
      fun hk hpaired hearly _ hlane => answers_tlPresent_listen hentry hk hpaired hearly hlane⟩
  · exact answers_retryTimer hacts hid hphase hframe htmpl hb
  · exact answers_dackTimeout hacts hd hact htmpl hb

end Sys2Proof.Machine
end

section
/-!
SUPPORT. LE connections (R363 to R368): what the end of an advertising event leaves of the record queue and of the activities, the
fields of a new connection's context, queued descriptors and staged changes.
-/

namespace Sys2Proof.Machine

variable {s t u : State} {a : Activity} {l n k c code : Nat}

/-! ### What keeps the record queue and the activities -/

/-- The record queue and the activities are as they were. -/
structure KeepsHeard (s t : State) : Prop where
  queue : t.modem.queue = s.modem.queue
  acts : t.link.acts = s.link.acts

theorem KeepsHeard.refl : KeepsHeard s s := ⟨rfl, rfl⟩

theorem KeepsHeard.trans (h : KeepsHeard s t) (h' : KeepsHeard t u) : KeepsHeard s u :=
  ⟨h'.queue.trans h.queue, h'.acts.trans h.acts⟩

theorem KeepsHeard.of_onlyIn {p : List Part} (h : OnlyIn p s t) (hmodem : .modem ∉ p) (hlink : .link ∉ p) : KeepsHeard s t :=
  ⟨congrArg Modem.queue (h.modem hmodem), congrArg Link.acts (h.link hlink)⟩

theorem KeepsHeard.ite {p : Prop} [Decidable p] (ht : KeepsHeard s t) (hu : KeepsHeard s u) : KeepsHeard s (if p then t else u) := by
  split <;> assumption

theorem KeepsHeard.forEach {α : Type} {xs : List α} {f : α → State → State} (hf : ∀ x t, KeepsHeard s t → KeepsHeard s (f x t)) :
    KeepsHeard s (s.forEach xs f) :=
  State.forEach_keeps (P := KeepsHeard s) (hf _ _) .refl

theorem keepsHeard_setPan {p : Nat} {v : Pan} : KeepsHeard s (s.setPan p v) := ⟨rfl, rfl⟩

theorem keepsHeard_panEndEarly {p : Nat} : KeepsHeard s (panEndEarly p code s) := .of_onlyIn onlyIn_panEndEarly (by decide) (by decide)

theorem keepsHeard_setPanState {p v : Nat} : KeepsHeard s (s.setPanState p v) :=
  .of_onlyIn (p := [.regs]) ((onlyIn_put (by decide)).mpr .refl) (by decide) (by decide)

theorem keepsHeard_gainFreeze : KeepsHeard s (gainFreeze l s) := .of_onlyIn onlyIn_gainFreeze (by decide) (by decide)

theorem keepsHeard_panStop {p : Nat} : KeepsHeard s (panStop p s) := by
  unfold panStop
  extract_lets s₁ v s₂
  have h₂ : KeepsHeard s s₂ := keepsHeard_panEndEarly.trans keepsHeard_setPan
  exact h₂.trans (.trans (.ite .refl keepsHeard_setPanState) keepsHeard_gainFreeze)

theorem keepsHeard_pansFree : KeepsHeard s (pansFree a s) :=
  .forEach fun _ _ h => h.trans (keepsHeard_panStop.trans
    (.of_onlyIn (p := [.regs]) ((onlyIn_unflag (by decide)).mpr .refl) (by decide) (by decide)))

theorem keepsHeard_panLaneStop : KeepsHeard s (panLaneStop l code s) :=
  .forEach fun _ _ h => .ite
    (h.trans (((keepsHeard_panEndEarly.trans keepsHeard_setPan).trans keepsHeard_setPanState).trans keepsHeard_gainFreeze))
    (.ite (h.trans keepsHeard_setPanState) h)

theorem onlyIn_portsSwitch : OnlyIn [.regs, .rf, .lanes] s (portsSwitch n s) := by
  rw [portsSwitch_eq]
  exact (onlyIn_portsPut.mono (by decide)).trans (onlyIn_settleLanes.mono (by decide))

theorem onlyIn_portsRetry : OnlyIn [.regs, .rf, .lanes] s (portsRetry s) := by
  unfold portsRetry
  split
  · exact .ite .refl onlyIn_portsSwitch
  · exact .refl

theorem keepsHeard_laneLeaveRx {dest : Nat} : KeepsHeard s (laneLeaveRx l code dest s) := by
  unfold laneLeaveRx
  extract_lets s₁ s₂
  have h₂ : KeepsHeard s s₂ := keepsHeard_panLaneStop.trans (.of_onlyIn onlyIn_lifeAir (by decide) (by decide))
  have hput : OnlyIn [.regs, .edges, .rf, .lanes] s₂ (portsRetry ((s₂.setLaneSt l dest).fire (EV.LANE_RXOFF l))) :=
    OnlyIn.trans ((onlyIn_fire (by decide)).mpr ((onlyIn_put (by decide)).mpr .refl)) (onlyIn_portsRetry.mono (by decide))
  exact .ite (h₂.trans (.of_onlyIn hput (by decide) (by decide))) .refl

/-- A lane that no activity holds any more. -/
theorem keepsHeard_laneAfterOne (h : s.link.acts = []) : KeepsHeard s (laneAfterOne l s) := by
  have hreceives : laneReceives s l = false := by
    rw [laneReceives, State.acts, h]
    rfl
  rw [laneAfterOne, hreceives, if_neg Bool.false_ne_true]
  refine .ite .refl (.ite keepsHeard_laneLeaveRx (.ite ?_ .refl))
  exact .of_onlyIn (p := [.regs]) ((onlyIn_put (by decide)).mpr .refl) (by decide) (by decide)

theorem keepsHeard_laneAfter (h : s.link.acts = []) : KeepsHeard s (laneAfter l s) :=
  .forEach fun _ _ ht => ht.trans (keepsHeard_laneAfterOne (ht.acts.trans h))

/-! ### The end of an advertising event -/

theorem onlyIn_traceWrite {kind ctx idx fcnt : Nat} : OnlyIn [.regs, .mem] s (traceWrite kind l code ctx idx fcnt s) := by
  unfold traceWrite
  extract_lets k s₁ s₂
  have h₂ : OnlyIn [.regs, .mem] s s₂ := (onlyIn_put (by decide)).mpr ((onlyIn_setNum (by decide)).mpr .refl)
  exact .ite (.ite ((onlyIn_inc (by decide)).mpr h₂) h₂) .refl

theorem onlyIn_ctxCount {f : RamField} : OnlyIn [.mem] s (s.ctxCount n f) := .ite ((onlyIn_setRam (by decide)).mpr .refl) .refl

theorem onlyIn_lastResult {late : Bool} : OnlyIn [.regs] s (lastResult n code late s) := by simp [lastResult]

theorem onlyIn_setCtx {f : RamField} {v : Nat} (p : List Part) (h : .mem ∈ p) : OnlyIn p s (t.setCtx n f v) ↔ OnlyIn p s t := onlyIn_setRam h

theorem onlyIn_connAdvance : OnlyIn [.mem] s (connAdvance a s) := by
  unfold connAdvance
  extract_lets s₁ s₂
  have h₁ : OnlyIn [.mem] s s₁ := (onlyIn_setRam (by decide)).mpr .refl
  have h₂ : OnlyIn [.mem] s s₂ := (onlyIn_setRam (by decide)).mpr .refl
  exact .ite ((onlyIn_setRam (by decide)).mpr h₁) (.ite ((onlyIn_setRam (by decide)).mpr h₂) .refl)

theorem onlyIn_finishDesc {tries : Nat} : OnlyIn [.mem] s (finishDesc k code tries s) := by
  simp only [finishDesc, State.setDesc]
  refine .ite .refl ?_
  simp

theorem onlyIn_setTlValid {b : Bool} : OnlyIn [.regs, .mem] s (setTlValid n b s) := by
  unfold setTlValid
  extract_lets was s₁
  have h₁ : OnlyIn [.regs, .mem] s s₁ := (onlyIn_putBit (by decide)).mpr ((onlyIn_setRam (by decide)).mpr .refl)
  exact .ite h₁ ((onlyIn_put (by decide)).mpr h₁)

theorem onlyIn_setTlLaunch : OnlyIn [.regs, .mem] s (setTlLaunch n k s) :=
  (onlyIn_put (by decide)).mpr ((onlyIn_setRam (by decide)).mpr .refl)

theorem onlyIn_finishRun {late past : Bool} : OnlyIn [.regs, .mem, .edges] s (finishRun n code late past s) := by
  unfold finishRun
  extract_lets s₁ per t₁ t₂ s₃ c s₄ s₅
  have h₁ : OnlyIn [.regs, .mem] s s₁ := by simp [s₁, State.setTl, State.ramCount]
  have h₃ : OnlyIn [.regs, .mem] s s₃ := h₁.trans onlyIn_setTlLaunch
  have h₄ : OnlyIn [.regs, .mem] s s₄ := (onlyIn_setRam (by decide)).mpr h₃
  have h₅ : OnlyIn [.regs, .mem] s s₅ := .ite (h₁.trans onlyIn_setTlValid) (.ite h₃ (.ite (h₄.trans onlyIn_setTlValid) h₄))
  exact h₅.fire (by decide) (by decide)

/-- What is left to do once the activity has gone: its lane's code, its counts, its descriptor and its entry. -/
def actReported (a : Activity) (code : Nat) (s : State) : State :=
  let s := if laneIssues code ∧ a.lane < 2 then laneCode a.lane code s else s
  let s := if a.late then s.ctxCount a.ctx CF.LATE else s
  let s := lastResult a.id code a.late s
  let s := connAdvance a s
  let s := match a.frame with
    | some f => if a.id < 64 then finishDesc f.desc code f.tries s else s
    | none => s
  if a.id < 64 then finishRun a.id code a.late a.past s else s

theorem onlyIn_actReported : OnlyIn [.regs, .mem, .edges] s (actReported a code s) := by
  unfold actReported
  extract_lets s₁ s₂ s₃ s₄ s₅
  have h₁ : OnlyIn [.regs, .mem, .edges] s s₁ := .ite (onlyIn_laneCode.mono (by decide)) .refl
  have h₂ : OnlyIn [.regs, .mem, .edges] s s₂ := .ite (h₁.trans (onlyIn_ctxCount.mono (by decide))) h₁
  have h₄ : OnlyIn [.regs, .mem, .edges] s s₄ :=
    (h₂.trans (onlyIn_lastResult.mono (by decide))).trans (onlyIn_connAdvance.mono (by decide))
  have h₅ : OnlyIn [.regs, .mem, .edges] s s₅ := by
    simp only [s₅]
    split
    · exact .ite (h₄.trans (onlyIn_finishDesc.mono (by decide))) h₄
    · exact h₄
  exact .ite (h₅.trans onlyIn_finishRun) h₅

theorem finishAct_leAdv (hk : a.kind = .leAdv) :
    finishAct a code s = laneAfter a.lane (actReported a code (pansFree a (s.dropAct a.id))) := by
  unfold finishAct actReported
  rw [hk]
  rfl

/-- The only activity ends. -/
theorem endEntry_alone (hk : a.kind = .leAdv) (h : s.link.acts = [a]) :
    (endEntry a s).modem.queue = s.modem.queue ∧ (endEntry a s).link.acts = [] := by
  have hdrop : ((traceWrite 1 a.lane 0 a.ctx a.id a.fcnt s).dropAct a.id).link.acts = [] := by
    have hacts : (traceWrite 1 a.lane 0 a.ctx a.id a.fcnt s).link.acts = [a] := by rw [onlyIn_traceWrite.link (by decide), h]
    rw [State.dropAct, State.acts, hacts]
    simp
  have hqueue : ((traceWrite 1 a.lane 0 a.ctx a.id a.fcnt s).dropAct a.id).modem.queue = s.modem.queue :=
    congrArg Modem.queue (onlyIn_traceWrite.modem (by decide))
  have hreported : KeepsHeard ((traceWrite 1 a.lane 0 a.ctx a.id a.fcnt s).dropAct a.id)
      (actReported a 0 (pansFree a ((traceWrite 1 a.lane 0 a.ctx a.id a.fcnt s).dropAct a.id))) :=
    keepsHeard_pansFree.trans (.of_onlyIn onlyIn_actReported (by decide) (by decide))
  have hafter := hreported.trans (keepsHeard_laneAfter (l := a.lane) (hreported.acts.trans hdrop))
  have hend : KeepsHeard ((traceWrite 1 a.lane 0 a.ctx a.id a.fcnt s).dropAct a.id) (endEntry a s) := by
    rw [endEntry, endAct, finishAct_leAdv hk]
    exact hafter.trans (.of_onlyIn onlyIn_setTlValid (by decide) (by decide))
  exact ⟨hend.queue.trans hqueue, hend.acts.trans hdrop⟩

/-! ### The request's packet -/

theorem onlyIn_rxqRefuse {fcnt : Nat} : OnlyIn [.regs, .mem, .edges] s (rxqRefuse l c fcnt s) := by
  unfold rxqRefuse
  extract_lets s₁
  have h₁ : OnlyIn [.regs, .mem, .edges] s s₁ :=
    (onlyIn_fire (by decide)).mpr ((onlyIn_flag (by decide)).mpr ((onlyIn_inc (by decide)).mpr .refl))
  exact h₁.trans (onlyIn_traceWrite.mono (by decide))

theorem keepsHeard_withLink {x : Link} (h : x.acts = s.link.acts) : KeepsHeard s { s with link := x } := ⟨rfl, h⟩

theorem keepsHeard_refreshRxq : KeepsHeard s (refreshRxq s) := by
  unfold refreshRxq
  extract_lets empty n v s₁ used
  have h₁ : KeepsHeard s s₁ := .ite ⟨rfl, rfl⟩ .refl
  exact h₁.trans (.of_onlyIn (p := [.regs]) (by simp) (by decide) (by decide))

theorem keepsHeard_rxqAppend {words : List Word} {ctx plen src odst osrc kid disp : Nat} {run : CellRun} :
    KeepsHeard s (rxqAppend words ctx plen src odst osrc kid disp code run s) := by
  unfold rxqAppend
  extract_lets slot s₁ s₂
  have h₂ : KeepsHeard s s₂ :=
    .of_onlyIn (p := [.mem]) ((onlyIn_setNum (by decide)).mpr ((onlyIn_setBytes (by decide)).mpr .refl)) (by decide) (by decide)
  have h₃ : KeepsHeard s₂ { s₂ with link := { s₂.link with rxRuns := s₂.link.rxRuns ++ [run] } } := keepsHeard_withLink rfl
  exact h₂.trans (h₃.trans keepsHeard_refreshRxq)

theorem keepsHeard_takeCells {x : List Byte} : KeepsHeard s (takeCells x s).2 := by
  unfold takeCells
  extract_lets size n first v s₁
  have h₁ : KeepsHeard s s₁ := ⟨rfl, rfl⟩
  exact h₁.trans (.of_onlyIn (p := [.mem]) (.forEach (fun _ _ => (onlyIn_setBytes (by decide)).mpr .refl) .refl) (by decide) (by decide))

theorem keepsHeard_leDeliver {r : RxRecord} {x : List Byte} : KeepsHeard s (leDeliver r c code x s) :=
  keepsHeard_takeCells.trans (keepsHeard_rxqAppend.trans
    (.of_onlyIn (p := [.edges]) ((onlyIn_fire (by decide)).mpr .refl) (by decide) (by decide)))

/-- The request goes to the receive queue, or is turned away there. -/
def requestKept (r : RxRecord) (s : State) : State :=
  if rxqRoom s r.psdu.length then leDeliver r 0x1FF 0 r.psdu s else rxqRefuse r.lane 0x1FF 0 s

theorem keepsHeard_requestKept {r : RxRecord} : KeepsHeard s (requestKept r s) :=
  .ite keepsHeard_leDeliver (.of_onlyIn onlyIn_rxqRefuse (by decide) (by decide))

/-! ### The fields of the new connection -/

section
variable {f g : RamField} {v : Nat} {x : List Byte} {mode anchor : Nat}

theorem State.ctx_setCtx_self : (s.setCtx c f v).ctx c f = v % 2 ^ f.width := State.ram_setRam_self

theorem State.ctx_setCtx_of_apart (h : f.apart g = true) : (s.setCtx c f v).ctx c g = s.ctx c g := State.ram_setRam_of_apart h

theorem State.ctx_eq_of_mem (h : t.mem = s.mem) : t.ctx c f = s.ctx c f := State.ram_eq_of_mem h

/-- Fields of a context written one after the other. -/
def setCtxs (c : Nat) (l : List (RamField × Nat)) (s : State) : State := l.foldl (fun s x => s.setCtx c x.1 x.2) s

theorem onlyIn_setCtxs {l : List (RamField × Nat)} : OnlyIn [.mem] s (setCtxs c l s) :=
  OnlyIn.foldl (fun _ _ => (onlyIn_setRam (by decide)).mpr .refl) .refl

theorem ctx_setCtxs_of_apart {l : List (RamField × Nat)} (h : (l.map Prod.fst).all (fun f => f.apart g) = true) :
    (setCtxs c l s).ctx c g = s.ctx c g := by
  induction l generalizing s with
  | nil => rfl
  | cons x l ih =>
    rw [List.map_cons, List.all_cons, Bool.and_eq_true] at h
    exact (ih h.2).trans (State.ctx_setCtx_of_apart h.1)

/-- A field reads as it was written, where none of those written later touches it. -/
theorem ctx_setCtxs_self {l r : List (RamField × Nat)} (h : (r.map Prod.fst).all (fun f => f.apart g) = true) :
    (setCtxs c (l ++ (g, v) :: r) s).ctx c g = v % 2 ^ g.width := by
  rw [setCtxs, List.foldl_append, List.foldl_cons]
  exact (ctx_setCtxs_of_apart h).trans State.ctx_setCtx_self

/-- What a connection request puts into its context, from the access address to the event counter, and after it. -/
def requestFields (x : List Byte) : List (RamField × Nat) :=
  [(CF.AA, natOfLE (cut x 12 4)), (CF.CRCINIT, natOfLE (cut x 16 3)),
    (CF.CHID, natOfLE (cut x 12 4) / 2 ^ 16 ^^^ natOfLE (cut x 12 4) % 2 ^ 16), (CF.LEINTERVAL, eh x 22), (CF.LATENCY, eh x 24),
    (CF.SUPTO, 10 * eh x 26), (CF.LECHMAP, natOfLE (cut x 28 5)), (CF.PSCA, eb x 33 / 32), (CF.LEEVCTR, 0)]
def requestPhys (phy anchor : Nat) : List (RamField × Nat) :=
  [(CF.TXPHY, phy), (CF.RXPHY, phy), (CF.SN, 0), (CF.NESN, 0), (CF.ENCTX, 0), (CF.ENCRX, 0), (CF.CEANCHOR, anchor)]

theorem connectionFields_eq : ∃ phy, connectionFields c x mode anchor s = setCtxs c (requestPhys phy anchor) (setCtxs c (requestFields x) s) := by
  unfold connectionFields
  extract_lets aa phy s₁ s₂ s₃ s₄ s₅
  refine ⟨phy, ?_⟩
  simp only [setCtxs, requestPhys, requestFields, List.foldl_cons, List.foldl_nil, s₁, s₂, s₃, s₄, s₅, aa]

theorem onlyIn_connectionFields : OnlyIn [.mem] s (connectionFields c x mode anchor s) := by
  obtain ⟨phy, h⟩ := connectionFields_eq (c := c) (x := x) (mode := mode) (anchor := anchor) (s := s)
  rw [h]
  exact onlyIn_setCtxs.trans onlyIn_setCtxs

theorem ctx_connectionFields {l r : List (RamField × Nat)} (hfields : requestFields x = l ++ (g, v) :: r)
    (hr : (r.map Prod.fst).all (fun f => f.apart g) = true) (hphys : ((requestPhys 0 0).map Prod.fst).all (fun f => f.apart g) = true) :
    (connectionFields c x mode anchor s).ctx c g = v % 2 ^ g.width := by
  obtain ⟨phy, h⟩ := connectionFields_eq (c := c) (x := x) (mode := mode) (anchor := anchor) (s := s)
  rw [h, ctx_setCtxs_of_apart (l := requestPhys phy anchor) hphys, hfields, ctx_setCtxs_self hr]

theorem ctx_AA_connectionFields : (connectionFields c x mode anchor s).ctx c CF.AA = natOfLE (cut x 12 4) % 2 ^ 32 :=
  ctx_connectionFields (l := []) rfl rfl rfl

theorem ctx_LEINTERVAL_connectionFields : (connectionFields c x mode anchor s).ctx c CF.LEINTERVAL = eh x 22 % 2 ^ 12 :=
  ctx_connectionFields (l := (requestFields x).take 3) rfl rfl rfl

theorem ctx_LEEVCTR_connectionFields : (connectionFields c x mode anchor s).ctx c CF.LEEVCTR = 0 :=
  ctx_connectionFields (l := (requestFields x).take 8) rfl rfl rfl

theorem onlyIn_setConn {b : Bool} : OnlyIn [.regs, .mem] s (setConn c b s) := by
  unfold setConn
  extract_lets was s₁
  have h₁ : OnlyIn [.regs, .mem] s s₁ := (onlyIn_setRam (by decide)).mpr .refl
  exact .ite h₁ ((onlyIn_put (by decide)).mpr h₁)

theorem mem_setConn {b : Bool} : (setConn c b s).mem = (s.setCtx c CF.CONN (boolBit b)).mem := by
  unfold setConn
  extract_lets was s₁
  split
  · rfl
  · exact OnlyIn.mem (l := [.regs]) ((onlyIn_put (by decide)).mpr .refl) (by decide)

theorem ctx_setConn_of_apart {b : Bool} (h : CF.CONN.apart g = true) : (setConn c b s).ctx c g = s.ctx c g := by
  rw [State.ctx_eq_of_mem mem_setConn, State.ctx_setCtx_of_apart h]

theorem ctx_CONN_setConn {b : Bool} : (setConn c b s).ctx c CF.CONN = boolBit b % 2 := by
  rw [State.ctx_eq_of_mem mem_setConn, State.ctx_setCtx_self]
  rfl

/-- The marks of a context that opens as a peripheral's connection. -/
def connMarked (c : Nat) (s : State) : State := ((setConn c true s).setCtx c CF.OPEN 1).setCtx c CF.CENTRAL 0

theorem connectionOpen_eq : connectionOpen c false s = renewSup c (dropLeLink c (connMarked c s)) := rfl

theorem mem_dropLeLink : (dropLeLink c s).mem = s.mem := rfl

theorem keepsHeard_dropLeLink : KeepsHeard s (dropLeLink c s) := ⟨rfl, rfl⟩

theorem onlyIn_connMarked : OnlyIn [.regs, .mem] s (connMarked c s) :=
  (onlyIn_setRam (by decide)).mpr ((onlyIn_setRam (by decide)).mpr onlyIn_setConn)

theorem keepsHeard_connectionOpen : KeepsHeard s (connectionOpen c false s) := by
  rw [connectionOpen_eq]
  exact (KeepsHeard.of_onlyIn onlyIn_connMarked (by decide) (by decide)).trans (keepsHeard_dropLeLink.trans
    (.of_onlyIn (p := [.mem]) ((onlyIn_setRam (by decide)).mpr .refl) (by decide) (by decide)))

theorem ctx_connectionOpen (h : CF.SUPDL.apart g = true) : (connectionOpen c false s).ctx c g = (connMarked c s).ctx c g := by
  rw [connectionOpen_eq, renewSup, State.ctx_setCtx_of_apart h, State.ctx_eq_of_mem mem_dropLeLink]

theorem ctx_connectionOpen_of_apart (hsup : CF.SUPDL.apart g = true) (hconn : CF.CONN.apart g = true) (hopen : CF.OPEN.apart g = true)
    (hcentral : CF.CENTRAL.apart g = true) : (connectionOpen c false s).ctx c g = s.ctx c g := by
  rw [ctx_connectionOpen hsup, connMarked, State.ctx_setCtx_of_apart hcentral, State.ctx_setCtx_of_apart hopen, ctx_setConn_of_apart hconn]

theorem ctx_OPEN_connectionOpen : (connectionOpen c false s).ctx c CF.OPEN = 1 := by
  rw [ctx_connectionOpen (by decide), connMarked, State.ctx_setCtx_of_apart (by decide), State.ctx_setCtx_self]
  rfl

theorem ctx_CONN_connectionOpen : (connectionOpen c false s).ctx c CF.CONN = 1 := by
  rw [ctx_connectionOpen (by decide), connMarked, State.ctx_setCtx_of_apart (by decide), State.ctx_setCtx_of_apart (by decide),
    ctx_CONN_setConn]
  rfl

theorem ctx_CENTRAL_connectionOpen : (connectionOpen c false s).ctx c CF.CENTRAL = 0 := by
  rw [ctx_connectionOpen (by decide), connMarked, State.ctx_setCtx_self]
  rfl

end

theorem mem_putStaged {g : Staged} : (putStaged g s).mem = s.mem := rfl

theorem keepsHeard_putStaged {g : Staged} : KeepsHeard s (putStaged g s) := ⟨rfl, rfl⟩

theorem mem_staged_putStaged {g : Staged} : g ∈ (putStaged g s).link.staged := List.mem_append_right _ (List.mem_singleton_self g)

end Sys2Proof.Machine
end

section
/-!
SUPPORT. A connection request that opens its context, descriptors queued for an event, and changes staged for an instant (R363 to R368).
-/

namespace Sys2Proof.Machine

variable {s t : State} {a : Activity} {c n : Nat} {r : RxRecord} {q : List RxRecord} {v : Word}

/-! ### A connection request -/

/-- A legacy connection request at the head of the record queue that the advertising event a may accept. -/
structure RequestFits (s : State) (r : RxRecord) (q : List RxRecord) (a : Activity) (c : Nat) : Prop where
  queue : s.modem.queue = r :: q
  request : isConnectReq s r = true
  act : actOfRecord s r = some a
  crc : (r.words.headD 0).toNat / 2 ^ 16 = 0
  legacy : eb (actTmpl a) 16 % 8 = 0
  ctx : c = eh (actTmpl a) 24 % 512
  named : c ≠ 0x1FF
  addressed : advAddressed s (actTmpl a) (leBody r) = true
  length : (leBody r).length = 34
  chsel : testBit' (leHdr r 0) 5 = true
  room : s.get Fld.LINK_LESTAT_CONNS < 24
  ctxClass : ctxClass s c = 2
  closed : ctxOpen s c = false
  alone : s.acts = [a]
  unarmed : eb (actTmpl a) 26 = 0xFF

theorem RequestFits.kind (h : RequestFits s r q a c) : a.kind = .leAdv := by
  have hreq := h.request
  rw [isConnectReq, h.act, Bool.and_eq_true] at hreq
  exact eq_of_beq hreq.2

/-- The anchor of the connection that the request begins (R364). -/
def requestAnchor (r : RxRecord) (s : State) : Nat := s.now - (s.elapsed - r.endAt) + 40000 + 40000 * eh (leBody r) 20

/-- The context opens with the request's fields. -/
def connectionMade (c : Nat) (r : RxRecord) (anchor : Nat) (s : State) : State :=
  putStaged ⟨c, 4, 0, [eb (leBody r) 19]⟩ (connectionOpen c false (connectionFields c (leBody r) r.mode anchor s))

theorem connectionArm_none {anchor : Nat} : connectionArm 0xFF anchor s = s := if_pos (by decide)

theorem exec_connectReqReceived_of_fits {mV : Nat} (h : RequestFits s r q a c) : exec (.connectReqReceived mV) s
    = .next (connectionMade c r (requestAnchor r (popRecord s)) (endEntry a (requestKept r (popRecord s)))) := by
  have hclass : Machine.ctxClass (popRecord s) c = 2 := h.ctxClass
  have hclosed : ctxOpen (popRecord s) c = false := h.closed
  have haddr : advAddressed (popRecord s) (actTmpl a) (leBody r) = true := h.addressed
  have hroom : (popRecord s).get Fld.LINK_LESTAT_CONNS < 24 := h.room
  change execConnectReqReceived mV s = _
  rw [execConnectReqReceived, h.queue]
  dsimp only
  rw [if_neg (by simp [h.request]), h.act]
  dsimp only
  have hcrc : ((r.words.headD 0).toNat / 2 ^ 16 == 0) = true := beq_iff_eq.mpr h.crc
  rw [h.legacy, ← h.ctx, h.unarmed, connectionArm_none, hcrc]
  rw [if_neg (by simp [h.named, haddr, h.length]), if_neg (by simp [h.chsel]), if_neg (by omega), if_neg (by simp [hclass, hclosed])]
  rfl

theorem keepsHeard_connectionMade {anchor : Nat} : KeepsHeard s (connectionMade c r anchor s) :=
  (KeepsHeard.of_onlyIn onlyIn_connectionFields (by decide) (by decide)).trans (keepsHeard_connectionOpen.trans keepsHeard_putStaged)

theorem ctx_connectionMade {anchor : Nat} {g : RamField} : (connectionMade c r anchor s).ctx n g
    = (connectionOpen c false (connectionFields c (leBody r) r.mode anchor s)).ctx n g := State.ctx_eq_of_mem mem_putStaged

theorem mem_staged_connectionMade {anchor : Nat} : ⟨c, 4, 0, [eb (leBody r) 19]⟩ ∈ (connectionMade c r anchor s).link.staged := by
  rw [connectionMade]
  exact mem_staged_putStaged

theorem act_of_link_acts_nil (h : s.link.acts = []) : s.act n = none := act_of_acts_nil h

theorem heard_endEntry (h : RequestFits s r q a c) :
    (endEntry a (requestKept r (popRecord s))).modem.queue = q ∧ (endEntry a (requestKept r (popRecord s))).link.acts = [] := by
  have hkept : KeepsHeard (popRecord s) (requestKept r (popRecord s)) := keepsHeard_requestKept
  have halone : (requestKept r (popRecord s)).link.acts = [a] := hkept.acts.trans h.alone
  have hpop : (popRecord s).modem.queue = q := by
    change s.modem.queue.drop 1 = q
    rw [h.queue]
    rfl
  obtain ⟨hqueue, hacts⟩ := endEntry_alone h.kind halone
  exact ⟨hqueue.trans (hkept.queue.trans hpop), hacts⟩

theorem natOfLE_cut_lt {x : List Byte} {i : Nat} : natOfLE (cut x i 4) < 2 ^ 32 := by
  have hlen : (cut x i 4).length ≤ 4 := List.length_take_le _ _
  calc natOfLE (cut x i 4) < 256 ^ (cut x i 4).length := natOfLE_lt _
    _ ≤ 256 ^ 4 := Nat.pow_le_pow_right (by omega) hlen
    _ = 2 ^ 32 := by norm_num

theorem answers_connectReqReceived {mV : Nat} (h : RequestFits s r q a c) :
    Answers (exec (.connectReqReceived mV) s) fun t =>
      t.modem.queue = q ∧ t.act a.id = none ∧ t.ctxBit c CF.OPEN = true ∧ t.ctxBit c CF.CONN = true
      ∧ t.ctx c CF.CENTRAL = 0 ∧ t.ctx c CF.AA = natOfLE (cut (leBody r) 12 4)
      ∧ t.ctx c CF.LEINTERVAL = eh (leBody r) 22 % 2 ^ 12 ∧ t.ctx c CF.LEEVCTR = 0
      ∧ ⟨c, 4, 0, [eb (leBody r) 19]⟩ ∈ t.link.staged := by
  obtain ⟨hqueue, hacts⟩ := heard_endEntry h
  have hmade : KeepsHeard (endEntry a (requestKept r (popRecord s)))
      (connectionMade c r (requestAnchor r (popRecord s)) (endEntry a (requestKept r (popRecord s)))) := keepsHeard_connectionMade
  refine .of_eq (exec_connectReqReceived_of_fits h) ⟨hmade.queue.trans hqueue, act_of_link_acts_nil (hmade.acts.trans hacts), ?_, ?_, ?_, ?_, ?_, ?_,
    mem_staged_connectionMade⟩
  · rw [State.ctxBit, ctx_connectionMade, ctx_OPEN_connectionOpen]
    rfl
  · rw [State.ctxBit, ctx_connectionMade, ctx_CONN_connectionOpen]
    rfl
  · rw [ctx_connectionMade, ctx_CENTRAL_connectionOpen]
  · rw [ctx_connectionMade, ctx_connectionOpen_of_apart (by decide) (by decide) (by decide) (by decide), ctx_AA_connectionFields,
      Nat.mod_eq_of_lt natOfLE_cut_lt]
  · rw [ctx_connectionMade, ctx_connectionOpen_of_apart (by decide) (by decide) (by decide) (by decide), ctx_LEINTERVAL_connectionFields]
  · rw [ctx_connectionMade, ctx_connectionOpen_of_apart (by decide) (by decide) (by decide) (by decide), ctx_LEEVCTR_connectionFields]

/-! ### A queued descriptor -/

theorem OnlyIn.frame_regs_link (h : OnlyIn [.regs, .link] s t) : t = { s with regs := t.regs, link := t.link } := h.frame

theorem get_RESULT_leResult {code : Nat} : (leResult code s).get Fld.LINK_LESTAT_RESULT = code % 2 ^ 16 := State.get_put_fits rfl

theorem onlyIn_leResult {code : Nat} : OnlyIn [.regs] s (leResult code s) := (onlyIn_put (by decide)).mpr .refl

theorem regsBut_leResult {code : Nat} : RegsBut [Reg.LINK_LESTAT] s (leResult code s) := (regsBut_put (by decide)).mpr RegsBut.refl

/-- The link of a context is the one that was put for it. -/
theorem leLink_setLeLink {k : LeLink} : leLink (setLeLink k s) k.ctx = k := by
  have hnone : (s.link.le.filter (fun m => m.ctx != k.ctx)).find? (fun m => m.ctx == k.ctx) = none :=
    List.find?_eq_none.mpr fun m hm => by simpa using (List.mem_filter.mp hm).2
  rw [leLink, setLeLink, List.find?_append, hnone]
  simp

theorem ctx_leLink : (leLink s c).ctx = c := by
  rw [leLink]
  split
  case h_1 l hl => exact eq_of_beq (List.find?_some (p := fun l : LeLink => l.ctx == c) hl)
  case h_2 => rfl

theorem onlyIn_setLeLink {k : LeLink} : OnlyIn [.link] s (setLeLink k s) := .of_frame rfl

/-- Descriptor d waits for the next event of the connection. -/
def leQueued (c d : Nat) (s : State) : State := setLeLink { leLink s c with queue := (leLink s c).queue ++ [d] } s

theorem leLink_leQueued {d : Nat} : leLink (leQueued c d s) c = { leLink s c with queue := (leLink s c).queue ++ [d] } := by
  have h := leLink_setLeLink (s := s) (k := { leLink s c with queue := (leLink s c).queue ++ [d] })
  rwa [show ({ leLink s c with queue := (leLink s c).queue ++ [d] } : LeLink).ctx = c from ctx_leLink] at h

theorem leLink_congr (h : t.link = s.link) : leLink t c = leLink s c := by rw [leLink, leLink, h]

theorem exec_lePush_of_fits {d : Nat} (hc : c = v.toNat % 512) (hd : d = v.toNat / 2 ^ 16 % 64) (hclass : ctxClass s c = 2)
    (hopen : ctxOpen s c = true) (hconn : s.ctxBit c CF.CONN = true) (hobserver : isObserver s c = false) (hlow : d < 48)
    (hroom : (leLink s c).queue.length < 8) (hcells : descCellsOk s d = true) (hlen : s.desc d DF.PLEN + 4 ≤ s.ctx c CF.MAXTXOCT) :
    exec (.lePush v) s = .next (leResult 0 (leQueued c d s)) := by
  have hmic : ∀ p : Prop, [Decidable p] → ¬ s.ctx c CF.MAXTXOCT < s.desc d DF.PLEN + (if p then 4 else 0) := fun p _ => by
    split <;> omega
  change execLePush v s = _
  rw [execLePush, ← hc, ← hd, if_neg (by simp [hclass, hopen, hconn, hobserver])]
  exact if_neg (by simp only [hcells, not_or]; exact ⟨by omega, by omega, by decide, hmic _⟩)

theorem answers_lePush {d : Nat} (hc : c = v.toNat % 512) (hd : d = v.toNat / 2 ^ 16 % 64) (hclass : ctxClass s c = 2)
    (hopen : ctxOpen s c = true) (hconn : s.ctxBit c CF.CONN = true) (hobserver : isObserver s c = false) (hlow : d < 48)
    (hroom : (leLink s c).queue.length < 8) (hcells : descCellsOk s d = true) (hlen : s.desc d DF.PLEN + 4 ≤ s.ctx c CF.MAXTXOCT) :
    Answers (exec (.lePush v) s) fun t =>
      (leLink t c).queue = (leLink s c).queue ++ [d] ∧ t.get Fld.LINK_LESTAT_RESULT = 0
      ∧ RegsBut [Reg.LINK_LESTAT] s t ∧ t = { s with regs := t.regs, link := t.link } := by
  refine .of_eq (exec_lePush_of_fits hc hd hclass hopen hconn hobserver hlow hroom hcells hlen) ⟨?_, get_RESULT_leResult, ?_, ?_⟩
  · rw [leLink_congr (onlyIn_leResult.link (by decide)), leLink_leQueued]
  · exact (RegsBut.of_regs (onlyIn_setLeLink.regs (by decide))).trans regsBut_leResult
  · exact ((onlyIn_setLeLink.mono (by decide)).trans (onlyIn_leResult.mono (by decide))).frame_regs_link

/-! ### Staged changes -/

theorem onlyIn_putStaged {g : Staged} : OnlyIn [.link] s (putStaged g s) := .of_frame rfl

theorem answers_leStage {i : Instr} {op : Nat} {vals : List Nat} (hexec : exec i s = .next (leStage c op vals s)) :
    (32767 < (s.ctx c CF.LEEVCTR + 2 ^ 16 - s.get Fld.LINK_LEINST_INSTANT) % 2 ^ 16 →
      Answers (exec i s) fun t =>
        ⟨c, op, s.get Fld.LINK_LEINST_INSTANT, vals⟩ ∈ t.link.staged ∧ t.get Fld.LINK_LESTAT_RESULT = 0
        ∧ RegsBut [Reg.LINK_LESTAT] s t ∧ t = { s with regs := t.regs, link := t.link })
    ∧ ((s.ctx c CF.LEEVCTR + 2 ^ 16 - s.get Fld.LINK_LEINST_INSTANT) % 2 ^ 16 ≤ 32767 →
      Answers (exec i s) fun t =>
        t.get Fld.LINK_LESTAT_RESULT = 0x0242 ∧ RegsBut [Reg.LINK_LESTAT] s t ∧ t = { s with regs := t.regs }) := by
  constructor
  · intro h
    have hstage : leStage c op vals s = leResult 0 (putStaged ⟨c, op, s.get Fld.LINK_LEINST_INSTANT, vals⟩ s) := if_neg (Nat.not_le.mpr h)
    refine .of_eq (hexec.trans (congrArg Host.Outcome.next hstage)) ⟨?_, get_RESULT_leResult, ?_, ?_⟩
    · rw [onlyIn_leResult.link (by decide)]
      exact mem_staged_putStaged
    · exact (RegsBut.of_regs (onlyIn_putStaged.regs (by decide))).trans regsBut_leResult
    · exact ((onlyIn_putStaged.mono (by decide)).trans (onlyIn_leResult.mono (by decide))).frame_regs_link
  · intro h
    have hstage : leStage c op vals s = leResult 0x0242 s := if_pos h
    exact .of_eq (hexec.trans (congrArg Host.Outcome.next hstage)) ⟨get_RESULT_leResult, regsBut_leResult, onlyIn_leResult.frame_regs⟩

/-- Settles O39: connection requests, queued descriptors and staged changes. -/
theorem leConnections : Obligations.LeConnections := by
  unfold Obligations.LeConnections
  intro s
  refine ⟨fun r q a t0 c mV hqueue hreq hact hcrc ht0 hlegacy hc hnamed haddr hlen hchsel hroom hclass hclosed halone hunarmed => ?_,
    fun v c d hc hd hclass hopen hconn hobserver hlow hroom hcells hlen => ?_, fun c i op vals hi => ?_⟩
  · subst ht0
    exact answers_connectReqReceived ⟨hqueue, hreq, hact, hcrc, hlegacy, hc, hnamed, haddr, hlen, hchsel, hroom, hclass, hclosed, halone, hunarmed⟩
  · exact answers_lePush hc hd hclass hopen hconn hobserver hlow hroom hcells hlen
  · rcases hi with ⟨rfl, rfl, rfl⟩ | ⟨rfl, rfl, rfl⟩ | ⟨rfl, rfl, rfl⟩
    · exact answers_leStage rfl
    · exact answers_leStage rfl
    · exact answers_leStage rfl

end Sys2Proof.Machine
end
